-- ==== Sys2Proof/Word.lean ====
section
/-!
DEFINITION. The word types of the T3 (00 R3) and the association lists that hold sparse tables.
-/
namespace Sys2Proof

/-- A byte of a memory, record or message (R3). -/
abbrev Byte := BitVec 8
/-- A 32-bit register word (R3). -/
abbrev Word := BitVec 32
/-- A 64-bit general register of a taper (R15). -/
abbrev DWord := BitVec 64
/-- A 512-bit vector register of a taper (R15). -/
abbrev VWord := BitVec 512

/-- A sparse table: key and value pairs with strictly rising keys. -/
abbrev NMap (α : Type) := List (Nat × α)

end Sys2Proof
end

