-- ==== Sys2Proof/Machine/Maps.lean ====
section
/-!
DEFINITION. Sparse tables, lists, bit fields, byte order and check values: the helpers every unit uses.
-/
namespace Sys2Proof

/-- The value listed at key `k`. -/
def NMap.find {α : Type} : NMap α → Nat → Option α
  | [], _ => none
  | (a, x) :: r, k => if a = k then some x else if k < a then none else NMap.find r k

/-- The value at key `k`, `d` where none is listed. -/
def NMap.getD {α : Type} (m : NMap α) (k : Nat) (d : α) : α := (NMap.find m k).getD d

/-- `m` with `v` listed at key `k`; keys stay in rising order. -/
def NMap.set {α : Type} : NMap α → Nat → α → NMap α
  | [], k, v => [(k, v)]
  | (a, x) :: r, k, v =>
    if a = k then (k, v) :: r else if k < a then (k, v) :: (a, x) :: r else (a, x) :: NMap.set r k v

/-- `m` with nothing listed at key `k`. -/
def NMap.del {α : Type} : NMap α → Nat → NMap α
  | [], _ => []
  | (a, x) :: r, k => if a = k then r else if k < a then (a, x) :: r else (a, x) :: NMap.del r k

/-- `m` with key `k` reading as `v`, where an unlisted key reads as `d`: a value equal to `d` is not listed. -/
def NMap.put {α : Type} [DecidableEq α] (m : NMap α) (d : α) (k : Nat) (v : α) : NMap α :=
  if v = d then NMap.del m k else NMap.set m k v

/-- `m` with the value at key `k` changed by `f`; nothing where none is listed. -/
def NMap.upd {α : Type} (m : NMap α) (k : Nat) (f : α → α) : NMap α :=
  match NMap.find m k with
  | some x => NMap.set m k (f x)
  | none => m

/-- `m` with the value at key `k`, `d` where none is listed, changed by `f`. -/
def NMap.updD {α : Type} [DecidableEq α] (m : NMap α) (d : α) (k : Nat) (f : α → α) : NMap α :=
  NMap.put m d k (f (NMap.getD m k d))

/-- Whether key `k` is listed. -/
def NMap.has {α : Type} (m : NMap α) (k : Nat) : Bool := (NMap.find m k).isSome

/-- The listed values. -/
def NMap.vals {α : Type} (m : NMap α) : List α := m.map (·.2)

/-- The listed keys. -/
def NMap.keys {α : Type} (m : NMap α) : List Nat := m.map (·.1)

/-- `m` with every listed value changed by `f`. -/
def NMap.mapV {α β : Type} (m : NMap α) (f : Nat → α → β) : NMap β := m.map fun p => (p.1, f p.1 p.2)

/-- The entries whose value meets `f`. -/
def NMap.keep {α : Type} (m : NMap α) (f : Nat → α → Bool) : NMap α := m.filter fun p => f p.1 p.2

/-- The first key from 0 that is below `n` and not listed. -/
def NMap.firstFree {α : Type} (m : NMap α) (n : Nat) : Option Nat :=
  (List.range n).find? fun k => !(NMap.has m k)

/-- `l` with its element `k` replaced by `v`; `l` where there is none. -/
def setNth {α : Type} : List α → Nat → α → List α
  | [], _, _ => []
  | _ :: r, 0, v => v :: r
  | a :: r, k + 1, v => a :: setNth r k v

/-- `l` with its element `k` changed by `f`. -/
def updNth {α : Type} : List α → Nat → (α → α) → List α
  | [], _, _ => []
  | a :: r, 0, f => f a :: r
  | a :: r, k + 1, f => a :: updNth r k f

/-- The last `n` elements of `l`. -/
def lastN {α : Type} (n : Nat) (l : List α) : List α := l.drop (l.length - n)

/-- The sum of a list. -/
def sumL (l : List Nat) : Nat := l.foldl (· + ·) 0

/-- Bits `[hi:lo]` of `w` (R3). -/
def bits (w hi lo : Nat) : Nat := (w / 2 ^ lo) % 2 ^ (hi + 1 - lo)

/-- Bit `b` of `w`. -/
def bitAt (w b : Nat) : Bool := Nat.testBit w b

/-- `w` with bits `[hi:lo]` replaced by `v`. -/
def setBits (w hi lo v : Nat) : Nat :=
  (w / 2 ^ (hi + 1)) * 2 ^ (hi + 1) + (v % 2 ^ (hi + 1 - lo)) * 2 ^ lo + w % 2 ^ lo

/-- `w` with bit `b` set. -/
def setBit (w b : Nat) : Nat := if Nat.testBit w b then w else w + 2 ^ b

/-- `w` with bit `b` clear. -/
def clrBit (w b : Nat) : Nat := if Nat.testBit w b then w - 2 ^ b else w

/-- The bits of `w` not in `m`. -/
def andNot (w m : Nat) : Nat := w - (w &&& m)

/-- 1 for true, 0 for false. -/
def b2n (b : Bool) : Nat := if b then 1 else 0

/-- `n` limited to the largest value of `w` bits: a field that saturates. -/
def satW (w n : Nat) : Nat := min n (2 ^ w - 1)

/-- `n` within `w` bits: a field that wraps. -/
def wrapW (w n : Nat) : Nat := n % 2 ^ w

/-- The signed value of the `w`-bit pattern `n`. -/
def toSigned (w n : Nat) : Int := if n % 2 ^ w < 2 ^ (w - 1) then (n % 2 ^ w : Nat) else ((n % 2 ^ w : Nat) : Int) - (2 ^ w : Nat)

/-- The `w`-bit pattern of the integer `i`. -/
def ofSigned (w : Nat) (i : Int) : Nat := (i % ((2 ^ w : Nat) : Int)).toNat

/-- The bytes of `n`, least significant first (R3: little-endian). -/
def leBytes : Nat → Nat → List Nat
  | 0, _ => []
  | k + 1, n => n % 256 :: leBytes k (n / 256)

/-- The number whose little-endian bytes are `l` (R3). -/
def leNat : List Nat → Nat
  | [] => 0
  | b :: r => b % 256 + 256 * leNat r

/-- A 64-bit payload built from (byte offset, byte width, value) fields (R557). -/
def payloadOf (fs : List (Nat × Nat × Nat)) : Nat :=
  fs.foldl (fun a f => a + (f.2.2 % 2 ^ (8 * f.2.1)) * 2 ^ (8 * f.1)) 0

/-- One bit step of a reflected check value with reflected polynomial `poly`. -/
def crcBitR (poly c : Nat) : Nat := if c % 2 = 1 then (c / 2) ^^^ poly else c / 2

/-- One byte of a reflected check value. -/
def crcByteR (poly c b : Nat) : Nat := Nat.repeat (crcBitR poly) 8 (c ^^^ (b % 256))

/-- CRC-32C of R554 (Castagnoli 0x1EDC6F41, reflected; initial value and final XOR all ones). -/
def crc32c (l : List Nat) : Nat := (l.foldl (crcByteR 0x82F63B78) 0xFFFFFFFF) ^^^ 0xFFFFFFFF

/-- CRC-64 of R554 (ECMA-182 polynomial 0x42F0E1EBA9EA3693, reflected; initial value and final XOR all ones). -/
def crc64 (l : List Nat) : Nat := (l.foldl (crcByteR 0xC96C5795D7870F42) 0xFFFFFFFFFFFFFFFF) ^^^ 0xFFFFFFFFFFFFFFFF

/-- One bit step of CRC-16/CCITT. -/
def crc16Bit (c : Nat) : Nat := if c / 32768 % 2 = 1 then ((2 * c) ^^^ 0x1021) % 65536 else 2 * c % 65536

/-- CRC-16/CCITT of R481: polynomial 0x1021, initial value 0xFFFF, no reflection, no final XOR. -/
def crc16 (l : List Nat) : Nat :=
  l.foldl (fun c b => Nat.repeat crc16Bit 8 (c ^^^ (256 * (b % 256)))) 0xFFFF

end Sys2Proof
end

