-- ==== Sys2Proof/Machine/BaseTypes.lean ====
section
/-!
DEFINITION. Plain data shared by the units: events and log entries (21), commands, completions and rings (19),
what leaves the T3 (links, rings, pins, buses), and the register file behind BAR0 (00, 24).
-/
namespace Sys2Proof.Machine

/-- An event record (Table 21-1), without its CRC-16, which `EvRec.bytes` computes. -/
structure EvRec where
  /-- event code, 16 bits -/
  code : Nat
  /-- level 0-5 -/
  level : Nat
  /-- source unit, 16 bits -/
  src : Nat
  /-- coalesced count, 8 bits -/
  count : Nat
  /-- operating time in units of 2^-12 h, 32 bits -/
  opTime : Nat
  /-- power-cycle count, 24 bits -/
  cycles : Nat
  /-- flags (Table 21-2), 8 bits -/
  flags : Nat
  /-- Beacon seconds, 34 bits -/
  sec : Nat
  /-- Beacon nanoseconds, 30 bits -/
  ns : Nat
  /-- payload bytes 22-29 as one little-endian number, 64 bits -/
  payload : Nat
  deriving DecidableEq, Repr

/-- A log and feed entry (Table 21-3). -/
structure LogEntry where
  er : EvRec
  /-- origin CID, 24 bits -/
  origin : Nat
  /-- time epoch at recording, 32 bits -/
  epoch : Nat
  /-- log sequence of the T3 whose log holds the entry, 64 bits -/
  seq : Nat
  /-- monotonic time at the origin, ns, 64 bits -/
  mono : Nat
  deriving DecidableEq, Repr

/-- A completion entry (Table 19-4); its phase bit is the ring's PHASE when written. -/
structure Completion where
  tag : Nat
  code : Nat
  status : Nat
  detail : Nat
  result : Nat
  stamp : Nat
  gen : Nat
  phase : Bool
  deriving DecidableEq, Repr

/-- The head of a command entry (Table 19-3) as it stands in a command ring: `poison` and `headPoison` say whether a
line of it, and its bytes 0-63, read as poison (R457 check 1). An entry of an inbound ring (kind 3) is its bytes `raw`. -/
structure CmdEntry where
  code : Nat
  version : Nat
  flags : Nat
  tag : Nat
  gen : Nat
  poison : Bool
  headPoison : Bool
  raw : List Nat
  deriving DecidableEq, Repr

/-- What a ring holds between its two indices. -/
inductive RingEntry where
  | cmd (e : CmdEntry)
  | completion (c : Completion)
  | log (e : LogEntry)
  | words (l : List Nat)
  deriving DecidableEq, Repr

/-- A ring descriptor RING_DESC(n) (19, R454) and the entries between its consumer and producer indices. -/
structure RingDesc where
  /-- BODY_OFFSET, 32 bits; reset 0 -/
  bodyOffset : Nat
  /-- SIZE_CODE, 8 bits; reset 0 -/
  sizeCode : Nat
  /-- COUNT_LOG2, 8 bits; reset 1 -/
  countLog2 : Nat
  /-- KIND, 8 bits; reset 0 -/
  kind : Nat
  enable : Bool
  hostSide : Bool
  msixEn : Bool
  /-- PHASE; reset 1 -/
  phase : Bool
  /-- PROD_IDX, 32 bits -/
  prod : Nat
  /-- CONS_IDX, 32 bits -/
  cons : Nat
  /-- PAIR, 16 bits; reset 0xFFFF -/
  pair : Nat
  /-- GEN, 16 bits -/
  gen : Nat
  /-- JOB, 32 bits -/
  job : Nat
  /-- PRIV, 4 bits -/
  priv : Nat
  /-- CONTEXT, 8 bits; reset 0xFF -/
  context : Nat
  /-- PORT, 8 bits; reset 0xFF -/
  port : Nat
  /-- MSIX_VECTOR, 11 bits -/
  vector : Nat
  /-- the drain of R461 runs -/
  draining : Bool
  /-- entries, oldest first, from the consumer index to the producer index -/
  q : List RingEntry
  /-- entries of a completion ring reserved for commands taken (R457) -/
  reserved : Nat
  deriving DecidableEq, Repr

/-- A descriptor at reset (19, RING_DESC reset column). -/
def RingDesc.reset : RingDesc :=
  { bodyOffset := 0, sizeCode := 0, countLog2 := 1, kind := 0, enable := false, hostSide := false, msixEn := false,
    phase := true, prod := 0, cons := 0, pair := 0xFFFF, gen := 0, job := 0, priv := 0, context := 0xFF, port := 0xFF,
    vector := 0, draining := false, q := [], reserved := 0 }

/-- A command taken from a ring and not yet completed (R457). `held` while a RESET of the owning context runs. -/
structure RunCmd where
  ring : Nat
  tag : Nat
  code : Nat
  stamp : Nat
  gen : Nat
  held : Bool
  /-- waits on every earlier command of its ring (fence flag) -/
  fence : Bool
  /-- a RING_FLUSH of R458 waiting for earlier commands -/
  flush : Bool
  /-- running order within the ring unit -/
  order : Nat
  deriving DecidableEq, Repr

/-- The ring unit (19). -/
structure RingUnit where
  /-- descriptors 0-32,767; an unlisted one is at reset -/
  desc : NMap RingDesc
  /-- commands taken and not completed -/
  running : List RunCmd
  /-- running commands that a drain or a context reset completed (ring, tag, generation): a later end of theirs completes nothing (R146) -/
  gone : List (Nat × Nat × Nat)
  /-- next order number of a command taken (the model's own) -/
  nextOrder : Nat
  /-- completions held for a disabled completion ring (R461): completion ring, command ring, completion -/
  heldC : List (Nat × Nat × Completion)
  /-- RING_ERR.RING, 15 bits -/
  errRing : Nat
  /-- RING_ERR.VALID -/
  errValid : Bool
  /-- RING_ERR.STATUS, 16 bits -/
  errStatus : Nat
  /-- no command is taken: a firmware activation has been accepted (R460) -/
  frozen : Bool
  deriving DecidableEq, Repr

/-- The ring unit at reset (19). -/
def RingUnit.reset : RingUnit :=
  { desc := [], running := [], gone := [], nextOrder := 0, heldC := [], errRing := 0, errValid := false, errStatus := 0, frozen := false }

/-- A mailbox channel (Table 19-2). -/
structure MbChan where
  /-- MB_OUT words 0-7 -/
  outW : List Nat
  /-- words of the posted outbound message -/
  msg : List Nat
  /-- MB_RET words 0-7 -/
  retW : List Nat
  outFull : Bool
  retFull : Bool
  collision : Bool
  retCountValid : Bool
  retCount : Nat
  /-- LAST, 16 bits -/
  last : Nat
  /-- MB_STAMP, 32 bits -/
  stamp : Nat
  /-- MB_ACK, 16 bits -/
  ack : Nat
  /-- MB_DB, 32 bits -/
  db : Nat
  /-- MB_DB_MASK, 32 bits; reset all ones -/
  dbMask : Nat
  /-- MB_VECTOR, 11 bits -/
  vector : Nat
  /-- MB_BIND, 32 bits -/
  bind : Nat
  /-- MB_COUNT.POSTED, 16 bits -/
  posted : Nat
  /-- MB_COUNT.REFUSED, 16 bits -/
  refused : Nat
  /-- identities (stamps) that wrote MB_OUT words since the last post (R451) -/
  writers : List Nat
  deriving DecidableEq, Repr

/-- A channel at reset (Table 19-2). -/
def MbChan.reset : MbChan :=
  { outW := List.replicate 8 0, msg := [], retW := List.replicate 8 0, outFull := false, retFull := false,
    collision := false, retCountValid := false, retCount := 0, last := 0, stamp := 0, ack := 0, db := 0,
    dbMask := 0xFFFFFFFF, vector := 0, bind := 0, posted := 0, refused := 0, writers := [] }

/-- Mailboxes (19): the channels and MB_MODE (0 normal, 1 start-up, 2 test, 3 recovery; reset 1). -/
structure MbUnit where
  chan : NMap MbChan
  mode : Nat
  deriving DecidableEq, Repr

/-- Mailboxes at reset. -/
def MbUnit.reset : MbUnit := { chan := [], mode := 1 }

/-- A token bucket of one event code (R484): tokens spent, held count, held record with its further records. -/
structure Bucket where
  spent : Nat
  held : Nat
  heldRec : Option LogEntry
  heldMore : List LogEntry
  deriving DecidableEq, Repr

/-- A full bucket with nothing held. -/
def Bucket.reset : Bucket := { spent := 0, held := 0, heldRec := none, heldMore := [] }

/-- A forwarding window (R489): at the step of `level` (2 for the T3's own step of an event at its level), keyed by
code, origin CID and source unit; `cls` says whose window: 0 the T3's, else the role's level 3-5. -/
structure FwdWin where
  step : Nat
  evLevel : Nat
  code : Nat
  origin : Nat
  src : Nat
  count : Nat
  lenMs : Nat
  deriving DecidableEq, Repr

/-- A forward that carries an alarm and is not acknowledged (R490). -/
structure FwdOut where
  seq : Nat
  dst : Nat
  entries : List LogEntry
  resends : Nat
  deriving DecidableEq, Repr

/-- A Flue trace ring (R494, R495, CHIM_FLUE_*). -/
structure Flue where
  enable : Bool
  draining : Bool
  /-- SIZE_LOG2, 4 bits -/
  sizeLog2 : Nat
  /-- DIV, 4 bits -/
  div : Nat
  /-- SOURCE, 12 bits -/
  source : Nat
  /-- KINDS, 8 bits -/
  kinds : Nat
  /-- PROD, 32 bits -/
  prod : Nat
  /-- CONS, 32 bits -/
  cons : Nat
  /-- OFFSET, 32 bits -/
  base : Nat
  /-- COUNT of lost entries, 64 bits -/
  lost : Nat
  /-- entries lost since the last marker, and the time of the first -/
  lostNow : Nat
  lostAt : Nat
  /-- occurrences counted toward the next entry in 2^DIV -/
  occ : Nat
  /-- ring sequence of the next entry, 32 bits -/
  seq : Nat
  /-- bytes the ring still owns (shortened by R495 when pages are reclaimed) -/
  size : Nat
  /-- entries not yet consumed, oldest first: monotonic time, source, kind, flags, sequence, data -/
  q : List (List Nat)
  deriving DecidableEq, Repr

/-- A Flue ring at reset. -/
def Flue.reset : Flue :=
  { enable := false, draining := false, sizeLog2 := 0, div := 0, source := 0, kinds := 0, prod := 0, cons := 0, base := 0,
    lost := 0, lostNow := 0, lostAt := 0, occ := 0, seq := 0, size := 0, q := [] }

/-- A last-light ring (R496): records newest first, up to 64. -/
structure LastLight where
  recs : List EvRec
  frozen : Bool
  /-- MISSED, 16 bits, saturating -/
  missed : Nat
  deriving DecidableEq, Repr

/-- A last-light ring at reset. -/
def LastLight.reset : LastLight := { recs := [], frozen := false, missed := 0 }

/-- The Chimney (21). -/
structure Chim where
  /-- local log: entries not yet durable, oldest first, up to 16,384 (R486) -/
  log : List LogEntry
  /-- sequence of the last entry written, 64 bits (CHIM_LOG_SEQ) -/
  logSeq : Nat
  /-- highest sequence handed to Tallow in a log unit (R486) -/
  unitSeq : Nat
  /-- log units on their way to NAND, oldest first: last sequence of each; units written so far -/
  units : List Nat
  unitNo : Nat
  /-- last sequences of the units that the events region holds, oldest first (R486) -/
  ends : List Nat
  /-- the Tallow events region: entries durable, oldest first (R486) -/
  stored : List LogEntry
  /-- entries lost to a full log and not yet reported by CHIM_LOG_LOST -/
  lostNow : Nat
  /-- token buckets by code, up to 2,048 (R484) -/
  buckets : NMap Bucket
  /-- the further bucket shared by codes beyond 2,048 -/
  shared : Bucket
  /-- alarm area: 256 entries (R488) -/
  alarms : NMap LogEntry
  /-- CHIM_STATUS.ALARM_FULL -/
  alarmFull : Bool
  /-- feed ring (R487) -/
  feed : Option Nat
  /-- first and last sequence the feed skipped -/
  feedGap : Option (Nat × Nat)
  /-- export ring, export sequence, exports skipped since the last (R493) -/
  exportRing : Option Nat
  exportSeq : Nat
  exportSkipped : Nat
  /-- forwarding windows open (R489) -/
  wins : List FwdWin
  /-- sequence of the last forward sent -/
  fwdSeq : Nat
  /-- alarm forwards not acknowledged (R490) -/
  fwdOut : List FwdOut
  /-- Flue rings 0-63 -/
  flue : NMap Flue
  /-- last-light rings by the indices of Table 21-8 -/
  ll : NMap LastLight
  deriving DecidableEq, Repr

/-- The Chimney at reset: empty (R485: the sequence restarts at 1 when the events region is not mounted). -/
def Chim.reset : Chim :=
  { log := [], logSeq := 0, unitSeq := 0, units := [], unitNo := 0, ends := [], stored := [], lostNow := 0, buckets := [], shared := Bucket.reset, alarms := [],
    alarmFull := false, feed := none, feedGap := none, exportRing := none, exportSeq := 0, exportSkipped := 0, wins := [],
    fwdSeq := 0, fwdOut := [], flue := [], ll := [] }

/-- The header of a sconce message sent (Table 3-2). -/
structure SOut where
  ver : Nat
  cls : Nat
  len : Nat
  ctx : Nat
  flags : Nat
  ctxGen : Nat
  accGen : Nat
  seq : Nat
  job : Nat
  deriving DecidableEq, Repr

/-- The header of a lantern message sent (Table 4-8). -/
structure LOut where
  ver : Nat
  cls : Nat
  len : Nat
  dst : Nat
  hop : Nat
  src : Nat
  flags : Nat
  srcGen : Nat
  seq : Nat
  deriving DecidableEq, Repr

/-- A part of a message in a frame's body: the message's number on its port, the offset in the message, the length. -/
structure TxPart where
  no : Nat
  off : Nat
  len : Nat
  deriving DecidableEq, Repr

/-- A frame sent (Tables 4-1 and 4-2). The body of a DATA frame is given as parts of messages, each at its place in the VC's stream, the
rest padding; of any other frame, and of a DATA frame of stored messages, as its bytes, the rest 0. -/
structure FrameOut where
  typ : Nat
  vc : Nat
  creditVc : Nat
  seq : Nat
  ack : Nat
  credit : Nat
  first : Nat
  parts : List TxPart
  body : List Nat
  deriving DecidableEq, Repr

/-- The header of a frame as 64 bits (Table 4-2). -/
def FrameOut.header (f : FrameOut) : Nat :=
  f.typ % 16 + (f.vc % 4) * 2 ^ 4 + (f.creditVc % 4) * 2 ^ 6 + (f.seq % 2 ^ 14) * 2 ^ 8 + (f.ack % 2 ^ 14) * 2 ^ 22 + (f.credit % 2 ^ 16) * 2 ^ 36 +
    (f.first % 256) * 2 ^ 52

/-- The 200 bytes of a frame whose body begins with `body` (Table 4-1): header, body filled with zeros, CRC-32C over bytes 0-195. -/
def FrameOut.bytes (f : FrameOut) (body : List Nat) : List Nat :=
  let l := leBytes 8 f.header ++ (body ++ List.replicate 188 0).take 188
  l ++ leBytes 4 (crc32c l)

/-- What leaves the T3: messages handed to ports, link-layer frames the model names, ring and interrupt traffic, the other
buses, and values returned to a reader. A list of these is the part's observable output, in order. -/
inductive Out where
  /-- a sconce message handed to a port: port, header, payload fields in table order -/
  | sconce (port : Nat) (h : SOut) (pay : List Nat)
  /-- a lantern message handed to its next hop: header, payload fields in table order -/
  | lantern (h : LOut) (pay : List Nat)
  /-- a link-layer frame: port, frame -/
  | frame (port : Nat) (f : FrameOut)
  /-- a completion written or given up: command ring, entry -/
  | completion (ring : Nat) (c : Completion)
  /-- an MSI-X interrupt toward the host; a channel interrupt toward the Lamplighter -/
  | msix (vector : Nat)
  | chanIrq (chan : Nat)
  /-- the value a register read returns: address, value -/
  | read (addr value : Nat)
  /-- data returned on BAR2, a taper window or a Mantle read: address, poisoned, bytes -/
  | data (addr : Nat) (poison : Bool) (bytes : List Nat)
  /-- a pin driven: Table 23 name code, index, value -/
  | pin (name idx value : Nat)
  /-- a transaction on another bus (1 PMBus, 2 PTP, 3 NAND, 4 NOR, 5 MCTP/SPDM/PLDM, 6 signing engine): arguments -/
  | bus (kind : Nat) (args : List Nat)
  deriving DecidableEq, Repr

/-- The T3's view of time (18 R427, 22): Beacon time, the monotonic time, operating time at start, power cycles. -/
structure Clock where
  /-- Beacon seconds, 48 bits; nanoseconds, 30 bits; fraction, 16 bits -/
  sec : Nat
  ns : Nat
  frac : Nat
  /-- monotonic time since start, ns, 64 bits -/
  mono : Nat
  /-- time epoch, 32 bits (R439) -/
  epoch : Nat
  /-- LOCKED (R433) -/
  locked : Bool
  /-- operating time at start, units of 2^-12 h -/
  opStart : Nat
  /-- power-cycle count, 32 bits -/
  cycles : Nat
  deriving DecidableEq, Repr

/-- Time at reset: zero, unlocked (R437: the Beacon runs free until it is set). -/
def Clock.reset : Clock := { sec := 0, ns := 0, frac := 0, mono := 0, epoch := 0, locked := false, opStart := 0, cycles := 0 }

/-- The register file behind BAR0 (00 R9-R12, R553; 24): configuration words that hold only stored RW fields, counters,
latched high words and held low words, all by BAR0 address. -/
structure RegFile where
  /-- stored RW words; an unlisted address holds the reset value of its register's table -/
  cfg : NMap Nat
  /-- counters; an unlisted one is 0 -/
  cnt : NMap Nat
  /-- words latched by a low-word read, by the address of the word (R11, R553) -/
  latch : NMap Nat
  /-- low words held by a low-word write (R12) and WO words held (R553), by address -/
  held : NMap Nat
  deriving DecidableEq, Repr

/-- The register file at reset. -/
def RegFile.reset : RegFile := { cfg := [], cnt := [], latch := [], held := [] }

end Sys2Proof.Machine
end

