-- ==== Sys2Proof/Machine/LinkTypes.lean ====
section
/-!
DEFINITION. Plain data of the ports (04) and of the Igtan counterpart (03).
-/
namespace Sys2Proof.Machine

/-- A sequenced frame held in the replay buffer (R93): its sequence, type, virtual channel, first message offset, and its body as parts
of messages or, for BLOCK_CREDIT, as bytes. -/
structure TxFrame where
  seq : Nat
  typ : Nat
  vc : Nat
  first : Nat := 0xFF
  parts : List TxPart := []
  body : List Nat := []
  deriving DecidableEq, Repr

/-- A message handed to a port and not yet framed whole: its number on the port, virtual channel, length in bytes, header included, the
bytes framed so far, the activity its bytes are charged to (R136), for a collective round the group it is served under (R422; 0 none,
else 1 + group), and the counters that its bytes are added to when they are first sent (R107, R491). -/
structure TxMsg where
  no : Nat := 0
  vc : Nat
  bytes : Nat
  sent : Nat := 0
  act : Nat := 4
  grp : Nat := 0
  cnt : List Nat := []
  deriving DecidableEq, Repr

/-- A sconce or lantern port (04). -/
structure Link where
  /-- STATE, 4 bits (Table 4-7); reset 0 DISABLED -/
  state : Nat
  /-- LANES, 4 bits -/
  lanes : Nat
  /-- LANE_MAP, 8 bits -/
  map : Nat
  /-- ISOLATED, 8 bits -/
  isolated : Nat
  reversed : Bool
  /-- PEER_CID, 24 bits -/
  peerCid : Nat
  /-- PEER_KIND, 4 bits -/
  peerKind : Nat
  /-- restarts at PMD_TRAIN in this bring-up (R96) -/
  restarts : Nat
  /-- first PARAM body received and waiting for an identical second (R97) -/
  param : Option (List Nat)
  /-- link-layer version in use -/
  version : Nat
  /-- next sequence to be sent, 14 bits -/
  txSeq : Nat
  /-- replay buffer, oldest first, up to 4,096 -/
  replay : List TxFrame
  /-- successive replays of the oldest frame (R94) -/
  replays : Nat
  /-- frames sent, by virtual channel, since PARAM, modulo 2^16 -/
  txSent : List Nat
  /-- cumulative frames the peer has freed, by virtual channel, modulo 2^16 -/
  txFreed : List Nat
  /-- initial credit the peer gave, by virtual channel -/
  txInit : List Nat
  /-- messages accepted from the units and not yet framed whole -/
  txq : List TxMsg
  /-- number of the next message handed to the port (the model's own) -/
  nextNo : Nat
  /-- expected sequence of the next sequenced frame, 14 bits -/
  rxSeq : Nat
  /-- a REPLAY_REQ stands: sequenced frames are discarded until the expected one (R93) -/
  rxGap : Bool
  /-- bytes received and not yet making a whole message, by virtual channel -/
  rxBuf : List (List Nat)
  /-- body bytes of the frames whose bytes are not all written onward, by virtual channel, oldest first (R91, R18) -/
  rxHeld : List (List Nat)
  /-- frames received, by virtual channel, since PARAM -/
  rxCount : List Nat
  /-- frames freed, by virtual channel, since PARAM, modulo 2^16 -/
  rxFreed : List Nat
  /-- initial credit this end gave, by virtual channel -/
  rxInit : List Nat
  /-- next virtual channel whose credit is reported (R91) -/
  creditVc : Nat
  /-- burst events of each lane: monotonic times, newest first (R98) -/
  bursts : NMap (List Nat)
  /-- consecutive 1 ms windows over the SER threshold, by lane (R98) -/
  serRun : NMap Nat
  /-- monotonic times of fast retrains failed in succession (Table 4-5) -/
  fastFails : List Nat
  /-- a full retrain runs -/
  fullRun : Bool
  /-- lane map proposed or agreed and not yet in use (R100) -/
  newMap : Option Nat
  /-- a further lane change follows the one in progress -/
  again : Bool
  /-- monotonic time of the last lane change proposal, ns, while none is agreed (R100) -/
  propAt : Option Nat
  /-- messages that a full retrain has discarded (R95) -/
  loss : Nat
  /-- LANE_RETEST runs (R101) -/
  retest : Bool
  /-- draining after ENABLE 0 (R106) -/
  draining : Bool
  /-- block credit accounts whose count has grown and has not been sent: 64 * class + context (R92) -/
  creditDue : List Nat
  /-- LINK_EVENT bits, 7 bits -/
  event : Nat
  deriving DecidableEq, Repr

/-- A port at reset. -/
def Link.reset : Link :=
  { state := 0, lanes := 0, map := 0, isolated := 0, reversed := false, peerCid := 0, peerKind := 0, restarts := 0,
    param := none, version := 0, txSeq := 0, replay := [], replays := 0, txSent := [0, 0, 0], txFreed := [0, 0, 0],
    txInit := [0, 0, 0], txq := [], nextNo := 0, rxSeq := 0, rxGap := false, rxBuf := [[], [], []], rxHeld := [[], [], []], rxCount := [0, 0, 0],
    rxFreed := [0, 0, 0], rxInit := [0, 0, 0], creditVc := 0, bursts := [], serRun := [], fastFails := [], fullRun := false,
    newMap := none, again := false, propAt := none, loss := 0, retest := false, draining := false, creditDue := [], event := 0 }

/-- The ports: 0-15 sconce ports 0-15, 16-21 lantern ports 0-5; block credit accounts of R92 by
port, context and class (key port * 256 + class * 64 + context): credits granted and used, and those a peer granted. -/
structure LinkUnit where
  port : NMap Link
  granted : NMap Nat
  used : NMap Nat
  peerGranted : NMap Nat
  /-- messages for another CID as they stand in the front buffer until they are acknowledged onward (R17, R105), by port * 2^32 + number: the
  sender stamp the T3 inserted and the bytes -/
  store : NMap (Nat × List Nat)
  deriving DecidableEq, Repr

/-- The ports at reset. -/
def LinkUnit.reset : LinkUnit := { port := [], granted := [], used := [], peerGranted := [], store := [] }

/-- Why a REG_ACCESS is outstanding (R82). -/
inductive RegWhy where
  /-- step of the bring-up of R61 -/
  | bringup
  /-- a probe of R289 -/
  | probe
  /-- a write of IGTAN_CTX_CTL by the Wick or the Snuffer, over the value that stood -/
  | ctxCtl (ctx : Nat) (value old : Nat)
  /-- a key installed into IGTAN_MGMT_KEY: link, identifier, index, key -/
  | key (link linkId index key : Nat)
  /-- a read for the Ledger's reconciliation of IGTAN_ACT -/
  | act (ctx : Nat)
  /-- a read of IGTAN_GATE_WAIT for a stalled context (R293) -/
  | gateWait (ctx : Nat)
  /-- an IGTAN_REG command, with its ring, tag, stamp, generation and Mantle address -/
  | host (ring tag stamp gen : Nat) (addr : Nat)
  deriving DecidableEq, Repr

/-- A REG_ACCESS sent and not answered. -/
structure RegReq where
  seq : Nat
  offset : Nat
  write : Bool
  count : Nat
  why : RegWhy
  deriving DecidableEq, Repr

/-- An APPLY_GO sent and not acknowledged (R73). -/
structure GoOut where
  ctx : Nat
  step : Nat
  seq : Nat
  resends : Nat
  deriving DecidableEq, Repr

/-- A RESET sent and not confirmed (R75, R76): kind 1 names a context, kind 2 has `ctx` 0xFF. -/
structure ResetOut where
  kind : Nat
  ctx : Nat
  newGen : Nat
  /-- flag bit 0: report shard fingerprints -/
  report : Bool
  released : Nat
  seq : Nat
  resent : Bool
  /-- context and accelerator generation the message carried -/
  ctxGen : Nat
  accGen : Nat
  deriving DecidableEq, Repr

/-- The T3's side of one Igtan block (03). -/
structure IgtanPort where
  /-- step of R61 under way: 0 none, 1 ID, 2 FEATURES, 3 ACC_GEN, 4 CTX_GEN, 5 PROTO_SEL, 6 its read-back, 7 PERIODS,
  8 ACTIVE, 9 done -/
  step : Nat
  /-- reported version, 8 bits -/
  version : Nat
  /-- Talnex generation, 8 bits -/
  talnex : Nat
  /-- FEATURES, 11 bits -/
  features : Nat
  /-- selected version -/
  proto : Nat
  /-- IGTAN_CTL.ACTIVE set by this T3 -/
  active : Bool
  /-- held under R62 -/
  unsupported : Bool
  /-- IGTAN_BRINGUP commands waiting, oldest first: ring, tag, stamp, generation -/
  cmd : List (Nat × Nat × Nat × Nat)
  /-- sequence of the next request, 16 bits -/
  nextSeq : Nat
  /-- REG_ACCESS outstanding -/
  regs : List RegReq
  /-- APPLY_GO outstanding -/
  gos : List GoOut
  /-- RESET outstanding -/
  resets : List ResetOut
  /-- value last written to IGTAN_CTX_CTL and not refused, by context -/
  ctxCtl : NMap Nat
  /-- value still to be written to IGTAN_CTX_CTL, by context: a RESET of it runs, or the block refused it (R74, R83) -/
  ctlHeld : NMap Nat
  /-- IGTAN_APPLY_STEP of a context as the T3 knows it: the last step released or set by a RESET (R72, R75) -/
  applyStep : NMap Nat
  /-- generations read so far in the bring-up (R61 step 2) -/
  gensRead : List Nat
  /-- HB_PERIOD us and GLIM_PERIOD ms written (R61) -/
  hbPeriod : Nat
  glimPeriod : Nat
  deriving DecidableEq, Repr

/-- A sconce port's Igtan side at reset (R61 has not run). -/
def IgtanPort.reset : IgtanPort :=
  { step := 0, version := 0, talnex := 0, features := 0, proto := 0, active := false, unsupported := false, cmd := [],
    nextSeq := 0, regs := [], gos := [], resets := [], ctxCtl := [], ctlHeld := [], applyStep := [], gensRead := [], hbPeriod := 1000, glimPeriod := 100 }

end Sys2Proof.Machine
end

