-- ==== Sys2Proof/Machine/RoleTypes.lean ====
section
/-!
DEFINITION. Plain data of roles, routes, the management channel, standing orders and rollout (02).
-/
namespace Sys2Proof.Machine

/-- A route entry (Table 2-5). -/
structure RouteEntry where
  cid : Nat
  kind : Nat
  valid : Bool
  fenced : Bool
  spare : Bool
  target : Nat
  port : Nat
  version : Nat
  gen : Nat
  deriving DecidableEq, Repr

/-- A message or report that waits for a role's new holder (R40), or is sent to a role: class, payload length and fields. -/
structure RoleMsg where
  cls : Nat
  len : Nat
  pay : List Nat
  deriving DecidableEq, Repr

/-- A grant the witness stores with the standby and then sends (R41). -/
structure StoreOut where
  seq : Nat
  /-- 0 lease grant, 1 takeover grant, 2 grant after a release -/
  kind : Nat
  epoch : Nat
  holder : Nat
  reqSeq : Nat
  deriving DecidableEq, Repr

/-- One role (Table 2-9) as this T3 sees it: as member, holder, pilot, witness or standby. -/
structure RoleSt where
  /-- role epoch in force, 32 bits (R38) -/
  epoch : Nat
  holder : Nat
  pilot : Nat
  witness : Nat
  standby : Nat
  /-- ordered candidate list of R34, and the witness candidates of R43 -/
  cands : List Nat
  wcands : List Nat
  /-- home flag of R48 -/
  home : Bool
  /-- this T3 acts as holder -/
  holding : Bool
  /-- role outputs stopped (R37) -/
  stopped : Bool
  /-- sequence of the last lease request; a grant for it has not arrived -/
  reqSeq : Nat
  waiting : Bool
  /-- the holder's own lease measure runs -/
  leased : Bool
  /-- the new holder rebuilds its state from its scope (R44) -/
  rebuilding : Bool
  /-- role journal position, 64 bits, and number of entries applied (R44) -/
  jpos : Nat
  /-- journal entries held: the role state is what they say -/
  journal : List (List Nat)
  /-- holder: journal position that the pilot last confirmed (R44, R48) -/
  jok : Nat
  /-- a full state image follows -/
  imaging : Bool
  /-- fingerprint of the last check, ours -/
  fp : Nat
  /-- pilot: ready (R44) -/
  ready : Bool
  /-- pilot: role heartbeats missed in succession, takeover requested -/
  misses : Nat
  asked : Bool
  /-- witness: witness epoch (R42), a lease stands, guard has not ended -/
  wepoch : Nat
  wLeased : Bool
  /-- witness: holder and lease expiry last granted, pilot asking for takeover and its readiness -/
  wHolder : Nat
  wExpiry : Nat
  wAsking : Option Nat
  wPilotReady : Bool
  /-- witness: store sequence and stores waiting for an acknowledgement -/
  storeSeq : Nat
  stores : List StoreOut
  /-- standby acting as witness, or witness without a standby (R42, R43) -/
  acting : Bool
  alone : Bool
  /-- member: events queued for the new holder, up to 256, and those beyond (R40) -/
  queue : List RoleMsg
  queueLost : Nat
  /-- member: 35 ms have passed without a holder -/
  vacant : Bool
  /-- member: what it sent to the role in the last 35 ms, with the monotonic time (R40) -/
  sent : List (Nat × RoleMsg)
  /-- monotonic time of the last change of holder (R48) -/
  since : Nat
  /-- holder: monotonic time since which the pilot has been ready (R48) -/
  pilotSince : Option Nat
  /-- holder: a hand-back is under way (R48) -/
  handing : Bool
  /-- drill: interval in hours, probes outstanding as (path class, CID, sequence), failures of the running drill -/
  drillHours : Nat
  drillOut : List (Nat × Nat × Nat)
  drillFail : Nat
  drillCmd : Option (Nat × Nat × Nat × Nat)
  /-- feature set the role uses; a newer one waits for the role's next quiet point (R59) -/
  feats : Nat
  featWait : Bool
  /-- amendment held to the quiet point (R513): candidates, witness candidates, witness, standby, home flag -/
  candWait : Option (List Nat × List Nat × Nat × Nat × Bool)
  deriving DecidableEq, Repr

/-- A role not known: no party, epoch 0. -/
def RoleSt.reset : RoleSt :=
  { epoch := 0, holder := 0, pilot := 0, witness := 0, standby := 0, cands := [], wcands := [], home := false, holding := false,
    stopped := false, reqSeq := 0, waiting := false, leased := false, rebuilding := false, jpos := 0, journal := [], jok := 0,
    imaging := false, fp := 0, ready := false, misses := 0, asked := false, wepoch := 0, wLeased := false, wHolder := 0,
    wExpiry := 0, wAsking := none, wPilotReady := false, storeSeq := 0, stores := [], acting := false, alone := false,
    queue := [], queueLost := 0, vacant := false, sent := [], since := 0, pilotSince := none, handing := false, drillHours := 0, drillOut := [], drillFail := 0, drillCmd := none,
    feats := 0, featWait := false, candWait := none }

/-- A standing order entry (Table 2-6). -/
structure SoEntry where
  trigger : Nat
  level : Nat
  cls : Nat
  action : Nat
  flags : Nat
  scope : Nat
  a : Nat
  b : Nat
  timeout : Nat
  deriving DecidableEq, Repr

/-- A standing-order table in force (Table 2-12). -/
structure SoTable where
  version : Nat
  entries : List SoEntry
  deriving DecidableEq, Repr

/-- What a standing-order action acts on: the job, position, context, shard, step or component its trigger names. -/
structure Target where
  job : Nat
  cid : Nat
  port : Nat
  ctx : Nat
  shard : Nat
  step : Nat
  comp : Nat
  outcome : Nat
  deriving DecidableEq, Repr

/-- A target that names nothing. -/
def Target.none : Target := { job := 0, cid := 0, port := 0xFF, ctx := 0xFF, shard := 0, step := 0, comp := 0xFFFF, outcome := 0 }

/-- An action held for the operator (Table 2-7). -/
structure HeldAct where
  id : Nat
  entry : SoEntry
  tgt : Target
  level : Nat
  timed : Bool
  deriving DecidableEq, Repr

/-- A management-channel key of one link (R52). -/
structure LinkKey where
  /-- key index in force, 1 bit -/
  index : Nat
  /-- key material, wrapped (256 bits) -/
  key : Nat
  /-- old key, still valid for receipt -/
  old : Option Nat
  /-- sequence of the last frame sent and the last accepted, under the key in force and the old one -/
  txSeq : Nat
  rxSeq : Nat
  rxOld : Nat
  firstUse : Nat
  /-- the new key has been used -/
  used : Bool
  /-- sconce port whose link the key protects at this T3's end; 0xFF for a link of another end -/
  port : Nat
  deriving DecidableEq, Repr

/-- The keeper's record of a T3 of its pod, or the warden's of its rack: heartbeat misses, suspicion, failure,
free zeroed pages, stacks in service, pages in total (R30, R112, R127). -/
structure T3Watch where
  misses : Nat
  probing : Bool
  failed : Bool
  freePages : Nat
  stks : Nat
  pages : Nat
  /-- epoch generation last heard (R105) -/
  gen : Nat
  deriving DecidableEq, Repr

/-- A T3 nothing is known of. -/
def T3Watch.reset : T3Watch := { misses := 0, probing := false, failed := false, freePages := 0, stks := 0xFF, pages := 0, gen := 0 }

/-- Two regions that wait for their pages (R119, R127): number, job, shard, the regions that have come, and for whom: the T3 and sequence of a
reservation, or the shard entry of a binding. -/
structure PoolWait where
  n : Nat
  job : Nat
  shard : Nat
  buddy : Option Nat
  staging : Option Nat
  src : Nat
  seq : Nat
  bind : Option Nat
  deriving DecidableEq, Repr

/-- A placement that the warden makes (R127): job, shard, source T3, bytes of both regions, T3s tried, the last one first. -/
structure Placing where
  job : Nat
  shard : Nat
  src : Nat
  buddyBytes : Nat
  stagingBytes : Nat
  tried : List Nat
  deriving DecidableEq, Repr

/-- A standing-order table on its way to a scope (R57): version, scope, T3s still to answer, the T3 and sequence that brought it, and the first
refusal. -/
structure SoSpread where
  version : Nat
  scope : Nat
  left : List Nat
  brought : Option (Nat × Nat)
  status : Nat
  deriving DecidableEq, Repr

/-- Roles and policy (02). -/
structure RoleUnit where
  /-- roles by identifier (Table 2-9) -/
  role : NMap RoleSt
  /-- identifiers of this T3's own warden and keeper roles (configuration) -/
  wardenId : Nat
  keeperId : Nat
  /-- route entries by CID; version applied; versions received ahead of order (R51) -/
  routes : NMap RouteEntry
  routeVer : Nat
  routeWait : NMap (List RouteEntry)
  /-- keeper: versions issued, for a ROUTE request -/
  routeLog : NMap (List RouteEntry)
  /-- own T3 epoch generation tag, 16 bits (R31, R105) -/
  t3Gen : Nat
  /-- sequence of the next lantern request, 16 bits -/
  nextSeq : Nat
  /-- message version a message is sent in (R58) -/
  msgVer : Nat
  /-- lantern topology: next-hop port by destination CID (R105), its version -/
  topo : NMap Nat
  topoVer : Nat
  /-- held outputs at this T3: fan duty floor (0.5 % units), pairing table (tray CID to buddy CID) and version -/
  fanFloor : Nat
  pairing : NMap Nat
  pairVer : Nat
  /-- pooled placements reserved here: job, shard; region indices of buddy and staging -/
  pooling : List (Nat × Nat × Nat × Nat)
  /-- reservations and bindings that wait for pages (R119), and the number of the last -/
  poolWait : List PoolWait
  poolNo : Nat
  /-- warden: placements under way (R127), and those that stand: job, shard, holding T3, source T3, bytes of both regions -/
  placing : List Placing
  placed : List (Nat × Nat × Nat × Nat × Nat × Nat)
  /-- warden: versions of its outputs, T3s watched -/
  watch : NMap T3Watch
  setVer : Nat
  /-- keeper: peer-fault notice sequence; lighthouse: pod summaries -/
  noticeSeq : Nat
  summaries : NMap (List Nat)
  /-- standing-order tables: scope 0 pod, 1 domain -/
  soPod : SoTable
  soDomain : SoTable
  /-- held actions and the last hold identifier (R555) -/
  held : List HeldAct
  holdId : Nat
  /-- keeper or lighthouse: distributions of a table that not every T3 of the scope has answered (R57) -/
  soWait : List SoSpread
  /-- SO_LOAD, FEATURE_REMOVE commands waiting: scope or bit, then ring, tag, stamp, generation -/
  soCmds : List (Nat × Nat × Nat × Nat × Nat)
  featCmds : List (Nat × Nat × Nat × Nat × Nat)
  /-- link keys by link identifier; key-encryption keys agreed, by CID -/
  keys : NMap LinkKey
  keks : NMap Nat
  /-- admission: admitted versions N-1 and N (24 bits each), feature set, its epoch, a set waiting for quiet points -/
  admitted : List Nat
  admStatus : Nat
  featSet : Nat
  featEpoch : Nat
  featNext : Option (Nat × Nat)
  /-- lighthouse: members' declared versions and features by CID; removals waiting -/
  members : NMap (List Nat)
  removed : List Nat
  /-- rollout: pod, version, step of R60 (5: its steps are done); on hold for the operator -/
  rollout : Option (Nat × Nat × Nat)
  rolloutHold : Bool
  /-- keeper: T3s that have not answered the rollout step; the T3 and sequence that its end is answered to; the activation under way is the rollout's -/
  rollWait : List Nat
  rollTo : Option (Nat × Nat)
  /-- T3: the T3 and sequence that its own part of the step is answered to -/
  rollMe : Option (Nat × Nat)
  rollAct : Bool
  /-- admin sequence -/
  adminSeq : Nat
  deriving DecidableEq, Repr

/-- Roles and policy at reset: nothing configured (the configuration image gives roles, R34). -/
def RoleUnit.reset : RoleUnit :=
  { role := [], wardenId := 0x10000000, keeperId := 0x20000000, routes := [], routeVer := 0, routeWait := [], routeLog := [], t3Gen := 0, nextSeq := 0, msgVer := 1, topo := [],
    topoVer := 0, fanFloor := 0, pairing := [], pairVer := 0, pooling := [], poolWait := [], poolNo := 0, placing := [], placed := [], watch := [], setVer := 0, noticeSeq := 0,
    summaries := [], soPod := { version := 0, entries := [] }, soDomain := { version := 0, entries := [] }, held := [],
    holdId := 0, soWait := [], soCmds := [], featCmds := [], keys := [], keks := [], admitted := [], admStatus := 0, featSet := 0,
    featEpoch := 0, featNext := none, members := [], removed := [], rollout := none, rolloutHold := false, rollWait := [], rollTo := none, rollMe := none,
    rollAct := false, adminSeq := 0 }

end Sys2Proof.Machine
end

