-- ==== Sys2Proof/Operand.lean ====
section
/-!
DEFINITION. Operands of the commands: who accesses a register, a command as the ring unit took it, message and frame
headers, step records and blocks.
-/
namespace Sys2Proof

/-- The identity behind a register or mailbox access: source class and index (Table 19-1), privilege (Table 0-7), and the
job of a tenant. -/
structure Who where
  cls : Nat
  idx : Nat
  priv : Nat
  job : Nat
  deriving DecidableEq, Repr

/-- A command as the ring unit took it (Table 19-3): its ring, tag, generation and the stamp the T3 inserted (R447). -/
structure Cmd where
  ring : Nat
  tag : Nat
  gen : Nat
  stamp : Nat
  deriving DecidableEq, Repr

/-- A frame header (Table 4-2), without the type. -/
structure FrameHdr where
  vc : Nat
  creditVc : Nat
  seq : Nat
  ack : Nat
  credit : Nat
  first : Nat
  deriving DecidableEq, Repr

/-- The header of a sconce message received at `port` (Table 3-2): `ver` is its version byte (R61). -/
structure SHdr where
  ver : Nat := 1
  port : Nat
  ctx : Nat
  flags : Nat
  ctxGen : Nat
  accGen : Nat
  seq : Nat
  job : Nat
  deriving DecidableEq, Repr

/-- The header of a lantern message received at lantern port `port` (0-5) (Table 4-8): `ver` is its version byte (R58). -/
structure LHdr where
  ver : Nat := 1
  port : Nat
  src : Nat
  hop : Nat
  flags : Nat
  srcGen : Nat
  seq : Nat
  deriving DecidableEq, Repr

/-- A state block: block header (Table 3-8) and its data bytes. -/
structure Blk where
  step : Nat
  shard : Nat
  index : Nat
  fmt : Nat
  flags : Nat
  valid : Nat
  tag : Nat
  crc : Nat
  data : List Nat
  deriving DecidableEq, Repr

/-- A step record (Table 3-7), without its CRC-64. -/
structure StepRec where
  step : Nat
  shard : Nat
  format : Nat
  replica : Nat
  count : Nat
  flags : Nat
  prog : Nat
  epoch : Nat
  cursor : Nat
  rngKey : Nat
  rngBase : Nat
  scalars : Nat
  lossScale : Nat
  fp : Nat
  gradFp : Nat
  elems : Nat
  first : Nat
  deriving DecidableEq, Repr

/-- A wait-for edge (Table 3-14). -/
structure WaitEdge where
  resource : Nat
  target : Nat
  ctx : Nat
  tag : Nat
  wait : Nat
  deriving DecidableEq, Repr

/-- Who asks the Mantle: the activity charged (Table 6-3) and the agent class of Table 5-10. -/
structure Requester where
  act : Nat
  agent : Nat
  deriving DecidableEq, Repr

/-- A BAR2 access: the bytes written, and by line what the ECC finds in what is read (0 nothing, 1 corrected, 2 uncorrectable, 3 poison). -/
structure Bar2Data where
  bytes : List Nat
  ecc : List Nat
  deriving DecidableEq, Repr

/-- A row of a stream channel: the channel, and what the ECC finds in local memory (0 nothing, 1 corrected, 2 double-bit). -/
structure RowDone where
  chan : Nat
  ecc : Nat
  deriving DecidableEq, Repr

/-- A taper that reads a payload, and what the ECC finds in it. -/
structure TaperRead where
  taper : Nat
  ecc : Nat
  deriving DecidableEq, Repr

/-- Symbol errors before FEC by lane, and the symbols of the window (04 R98). -/
structure SerWindow where
  errs : List Nat
  syms : Nat
  deriving DecidableEq, Repr

/-- The body of WAITFOR_REPLY (Table 3-14): its count, its Length, its edges. -/
structure WaitBody where
  count : Nat
  len : Nat
  edges : List WaitEdge
  deriving DecidableEq, Repr

/-- The head of a lantern message carried within another: header, class, payload length. -/
structure Inner where
  head : LHdr
  cls : Nat
  len : Nat
  deriving DecidableEq, Repr

/-- The signature of a standing-order table: it verifies, under a key of operator privilege (02 R55). -/
structure SoKey where
  ok : Bool
  operator : Bool
  deriving DecidableEq, Repr

/-- A rollout step and the status that an answer to it carries (02 R60). -/
structure RollStep where
  step : Nat
  status : Nat
  deriving DecidableEq, Repr

/-- What a pooling reservation's answer places: the shard, and the T3 that holds it (05 R127). -/
structure Placed where
  shard : Nat
  cid : Nat
  deriving DecidableEq, Repr

/-- The fields of a Format R instruction (Table 9-4); CLASS and OP are the command's own. -/
structure RFmt where
  d : Nat
  a : Nat
  b : Nat
  c : Nat
  rm : Nat
  pe : Bool
  p : Nat
  pn : Bool
  fmt : Nat
  satm : Nat
  fmt2 : Nat
  site : Nat
  rsv : Nat
  deriving DecidableEq, Repr

/-- The fields of a Format I instruction (Table 9-5); IMM as its 32-bit pattern. -/
structure IFmt where
  d : Nat
  a : Nat
  b : Nat
  rsv : Nat
  imm : Nat
  deriving DecidableEq, Repr

end Sys2Proof
end

