-- ==== Sys2Proof/Machine/BeaconTypes.lean ====
section
/-!
DEFINITION. Plain data of the Beacon (18). Beacon time, the monotonic base, the epoch and LOCKED stand in `Clock`.
-/
namespace Sys2Proof.Machine

/-- A step accepted and not yet applied (R439, R443): a signed step in ns, or a target in Beacon seconds; whether it waits for a 1PPS edge. -/
structure BcnStep where
  rel : Int
  target : Option Nat
  atPps : Bool
  cmd : Sys2Proof.Cmd
  code : Nat
  deriving DecidableEq, Repr

/-- A UTC offset with its leap flags (R441). -/
structure Utc where
  offset : Nat
  leap61 : Bool
  leap59 : Bool
  /-- UTC day in which the flags were given: the leap second ends that day -/
  day : Nat
  deriving DecidableEq, Repr

/-- A PTP domain (R436, R441): last offset in ns and its monotonic time, a preferred domain that was lost, the best foreign master
(its data set in the order of comparison), and the UTC offset its Announce gives. -/
structure BcnDomain where
  offset : Option (Int × Nat)
  lost : Bool
  best : Option (List Nat)
  utc : Option Utc
  deriving DecidableEq, Repr

/-- A domain nothing has come from. -/
def BcnDomain.reset : BcnDomain := { offset := none, lost := false, best := none, utc := none }

/-- A transmit timestamp queue (R438): entries (sequence ID, type, domain, seconds, ns, fraction), oldest first. -/
structure TxTs where
  q : List (Nat × Nat × Nat × Nat × Nat × Nat)
  overflow : Bool
  drops : Nat
  deriving DecidableEq, Repr

/-- The Beacon (18). -/
structure Beacon where
  /-- SET, SOURCE (0 none, 1 A, 2 B, 3 PPS), SLEWING, REF10, PPS_PRESENT -/
  set : Bool
  /-- a source's offset has been taken since start (R434) -/
  acquired : Bool
  source : Nat
  slewing : Bool
  ref10 : Bool
  ppsPresent : Bool
  /-- the 10 MHz input is present (R431) -/
  ref10In : Bool
  /-- frequency correction and slew, ppb (R426, R435) -/
  freq : Int
  slew : Int
  /-- parts of a nanosecond of Beacon time and of the monotonic base, 10^-9 ns -/
  rem : Nat
  monoRem : Nat
  domA : BcnDomain
  domB : BcnDomain
  /-- consecutive measurements within LOCK_NS, up to 16 (R433) -/
  okRun : Nat
  pend : Option BcnStep
  /-- BEACON_SET_UTC or the configuration image (R441) -/
  utc : Option Utc
  tx0 : TxTs
  tx1 : TxTs
  /-- last 1PPS edge: Beacon seconds and ns (R432) -/
  pps : Option (Nat × Nat)
  /-- 1PPS output level -/
  ppsOut : Bool
  /-- receive timestamps of PTP messages: by 16 * domainNumber + type: sequence ID, seconds, ns (R429) -/
  rx : NMap (Nat × Nat × Nat)
  deriving DecidableEq, Repr

/-- The Beacon at reset: no source, nothing set. -/
def Beacon.reset : Beacon :=
  { set := false, acquired := false, source := 0, slewing := false, ref10 := false, ppsPresent := false, ref10In := false, freq := 0, slew := 0, rem := 0, monoRem := 0,
    domA := BcnDomain.reset, domB := BcnDomain.reset, okRun := 0, pend := none, utc := none, tx0 := ⟨[], false, 0⟩, tx1 := ⟨[], false, 0⟩,
    pps := none, ppsOut := false, rx := [] }

end Sys2Proof.Machine
end

