-- ==== Sys2Proof/Machine/StreamTypes.lean ====
section
/-!
DEFINITION. Plain data of stream tracking and the Ledger (16).
-/
namespace Sys2Proof

/-- A calibration set (Table 22-9) as the Ledger uses it: gain and offset of each channel (binary32 patterns), activity weights (binary32 patterns)
and idle power [mW] of Talnex 4 and 5, sequence, origin, and the digest of R397 (16 bytes as one number). -/
structure CalSet where
  gains : List (Nat × Nat)
  weights4 : List Nat
  weights5 : List Nat
  idle4 : Nat
  idle5 : Nat
  origin : Nat
  seq : Nat
  digest : Nat
  deriving DecidableEq, Repr

/-- No valid set (R520): unit gains, zero offsets, unit weights, zero idle power, an all-zero digest and origin 1. -/
def CalSet.none : CalSet :=
  { gains := List.replicate 128 (0x3F800000, 0), weights4 := List.replicate 8 0x3F800000, weights5 := List.replicate 8 0x3F800000, idle4 := 0, idle5 := 0,
    origin := 1, seq := 0, digest := 0 }

/-- Activity weights of a Talnex generation. -/
def CalSet.weights (c : CalSet) (gen : Nat) : List Nat := if gen = 5 then c.weights5 else c.weights4

/-- Idle power of a generation: mW over 1 ms are µJ. -/
def CalSet.idle (c : CalSet) (gen : Nat) : Nat := if gen = 5 then c.idle5 else c.idle4

/-- A stream entry as STREAM_MOVE carries it (Table 16-1), one field for each that is not reserved or a chunk. -/
structure StreamEnt where
  flags : Nat
  job : Nat
  tenant : Nat
  cid : Nat
  replays : Nat
  est : Nat
  opened : Nat
  epoch : Nat
  prompt : Nat
  emitted : Nat
  energy : List Nat
  client : Nat
  origin : Nat
  lastTick : Nat
  deriving DecidableEq, Repr

end Sys2Proof

namespace Sys2Proof.Machine

/-- An account: its energies [µJ] (accelerator dynamic, accelerator share, tray share, stand-in), estimated ticks, the Beacon time of the first tick
it covers (0: none yet), and its flags, at the bits of Table 16-11. -/
structure Acct where
  e1 : Nat
  e2 : Nat
  e3 : Nat
  e4 : Nat
  est : Nat
  start : Nat
  flags : Nat
  deriving DecidableEq, Repr

/-- An empty account. -/
def Acct.zero : Acct := { e1 := 0, e2 := 0, e3 := 0, e4 := 0, est := 0, start := 0, flags := 0 }

/-- A stream table entry (Table 16-1): state 1 OPEN, 2 INTERRUPTED, 3 CLOSING, 4 MOVING; flags as in Table 16-1. -/
structure Stream where
  state : Nat
  flags : Nat
  ctx : Nat
  port : Nat
  job : Nat
  tenant : Nat
  ctxGen : Nat
  cid : Nat
  replays : Nat
  opened : Nat
  epoch : Nat
  prompt : Nat
  emitted : Nat
  /-- token pool chunks, in order -/
  chunks : List Nat
  acct : Acct
  client : Nat
  origin : Nat
  lastTick : Nat
  /-- order of admission (the model's own) -/
  order : Nat
  /-- STREAM_CLOSE and STREAM_CANCEL commands that wait for the record (code, command) -/
  cmds : List (Nat × Sys2Proof.Cmd)
  /-- tick at the end of which the stream closed; its record has been formed -/
  closeTick : Nat
  recorded : Bool
  /-- stand-in charges have come for ticks up to this one; the wait of R396 is over -/
  chargedTo : Nat
  waited : Bool
  /-- MOVING: target CID and context, sequence of STREAM_MOVE; a cancel waits for its end -/
  move : Nat × Nat × Nat
  cancelWait : Bool
  /-- moved in: source T3, tokens still to come -/
  incoming : Option (Nat × Nat)
  deriving DecidableEq, Repr

/-- An overflow account (R383): tenant, account, untracked streams open by 64 * port + context, and of the interval: opened, tokens. -/
structure OverAcct where
  tenant : Nat
  acct : Acct
  open_ : NMap Nat
  opened : Nat
  tokens : Nat
  deriving DecidableEq, Repr

/-- The open step of a context (R393): job, account, last step recorded, the first and last steps closed while no record could be formed (R406), the
next record carries the replayed flag. -/
structure StepAcct where
  job : Nat
  acct : Acct
  last : Nat
  owed : Option (Nat × Nat)
  cancelled : Bool
  replay : Bool
  deriving DecidableEq, Repr

/-- A job's interval (Table 16-8, kind 3). -/
structure JobSum where
  acct : Acct
  streams : Nat
  steps : Nat
  deriving DecidableEq, Repr

/-- An energy channel (Table 16-6): kind 0 accelerator of a port, 1 tray input, 2 T3 rail, 3 fan; PMBus master. Energies in units of
2^-149 / 1,000 µJ where a remainder is carried (R390). -/
structure EnergyChan where
  kind : Nat
  port : Nat
  master : Nat
  /-- energy below 1 µJ carried, and what estimates have anticipated -/
  rem : Int
  /-- energy of the last good tick, ticks estimated since the last good reading -/
  last : Nat
  missed : Nat
  /-- reading of the tick: energy, estimated -/
  now : Option (Nat × Bool)
  retried : Bool
  /-- READ_EIN increase of the present 100 ticks [nJ], for the plausibility check -/
  sum100 : Nat
  lastGood : Nat
  lost : Bool
  deriving DecidableEq, Repr

/-- A ledger record (Table 16-10) before its previous hash and signature. -/
structure LRec where
  kind : Nat
  flags : Nat
  seq : Nat
  methodOrigin : Nat
  epoch : Nat
  start : Nat
  stop : Nat
  tenant : Nat
  est : Nat
  job : Nat
  subjA : Nat
  subjB : Nat
  e1 : Nat
  e2 : Nat
  e3 : Nat
  e4 : Nat
  cntA : Nat
  cntB : Nat
  digest : Nat
  deriving DecidableEq, Repr

/-- A signed record: previous hash and signature (R402). -/
structure SRec where
  r : LRec
  prev : Nat
  sigR : Nat
  sigS : Nat
  deriving DecidableEq, Repr

/-- A LEDGER_CHARGE sent and not acknowledged (R396): member, sequence, first tick, charges, resends. -/
structure ChargeOut where
  dst : Nat
  seq : Nat
  first : Nat
  charges : List (Nat × Nat)
  resends : Nat
  deriving DecidableEq, Repr

/-- Streams and the Ledger (16). -/
structure Ledger where
  ready : Bool
  /-- tick number in progress, last tick apportioned, Beacon time of the last tick boundary, epoch at it -/
  tickNo : Nat
  tick : Nat
  tickTime : Nat
  epoch : Nat
  streams : NMap Stream
  /-- free list (R380): indices never used start here; freed ones, oldest first -/
  fresh : Nat
  freed : List Nat
  order : Nat
  excess : NMap OverAcct
  /-- step and remainder accounts by 64 * port + context; infrastructure account of the interval -/
  steps : NMap StepAcct
  rems : NMap Acct
  jobs : NMap JobSum
  /-- tenants of jobs, and the last job of a freed index (R396) -/
  tenants : NMap Nat
  freedJob : NMap Nat
  /-- interval sums of the tray: used, charged, infrastructure, ember_export, ember_import; their account flags and start -/
  tray : List Nat
  trayAcct : Acct
  chans : NMap EnergyChan
  /-- activity since the last apportioning, by 64 * port + context: counter deltas; ports whose report is complete; pending dynamic energy by port -/
  deltas : NMap (List Nat)
  reported : List Nat
  pendDyn : NMap (Nat × Bool)
  /-- tokens of the tick: 64 * port + context, account (index, or 2^17 + overflow account), tokens -/
  tok : List (Nat × Nat × Nat)
  /-- cumulative activity counters as the last reading and the reports since give them (R78), by 64 * port + context; none: not yet read -/
  act : NMap (List Nat)
  /-- stand-in energy not yet sent, by member T3 and reference; first tick of it; charges not acknowledged; sequence; charges applied, by buddy -/
  charges : List (Nat × Nat × Nat)
  chargeFrom : Nat
  chargeOut : List ChargeOut
  chargeSeq : Nat
  applied : NMap (List Nat)
  /-- calibration in force and the one that takes effect at the next tick -/
  cal : Sys2Proof.CalSet
  calNext : Option Sys2Proof.CalSet
  /-- method and interval in force (effect at the next boundary) -/
  method : Nat
  interval : Nat
  /-- records: waiting to be signed, signed and not durable, durable and not acknowledged; sequences; hash of the last signed record; records that a
  full region holds back -/
  toSign : List LRec
  written : List SRec
  stored : List SRec
  owed : List LRec
  seq : Nat
  durable : Nat
  ack : Nat
  prev : Nat
  ring : Option Nat
  delivered : Nat
  /-- GAP record owed at the first tick: start time and flags (R403) -/
  gap : Option (Nat × Nat)
  /-- the root of trust does not sign (R504) -/
  noSign : Bool
  deriving DecidableEq, Repr

/-- The Ledger at reset. -/
def Ledger.reset : Ledger :=
  { ready := false, tickNo := 0, tick := 0, tickTime := 0, epoch := 0, streams := [], fresh := 0, freed := [], order := 0, excess := [], steps := [],
    rems := [], jobs := [], tenants := [], freedJob := [], tray := [0, 0, 0, 0, 0], trayAcct := Acct.zero, chans := [], deltas := [], reported := [],
    pendDyn := [], tok := [], act := [], charges := [], chargeFrom := 0, chargeOut := [], chargeSeq := 0, applied := [], cal := { Sys2Proof.CalSet.none with origin := 0 },
    calNext := none, method := 0, interval := 60, toSign := [], written := [], stored := [], owed := [], seq := 0, durable := 0, ack := 0, prev := 0,
    ring := none, delivered := 0, gap := none, noSign := false }

end Sys2Proof.Machine
end

