-- ==== Sys2Proof/Machine/LampTypes.lean ====
section
/-!
DEFINITION. Plain data of the Lamplighter, of the configuration NOR and of the configuration image (22), and of the power sequencer (23). A
signature stands as the public key under which it verifies (0: under none), since the spec names the algorithms and gives no function.
-/
namespace Sys2Proof.Machine

/-- A role of section 0x0003: its identifier, candidates, witness, standby witness, home flag and witness candidates. -/
structure CfgRole where
  id : Nat
  cands : List Nat
  witness : Nat
  standby : Nat
  home : Bool
  /-- witness candidates (R43) -/
  wcands : List Nat
  deriving DecidableEq, Repr

/-- The sections of Table 22-5 that an amendment may carry; an absent one is none. -/
structure CfgPart where
  /-- 0x0003 role candidates, and whether every placement keeps Table 2-2 (R34) -/
  roles : Option (List CfgRole × Bool)
  /-- 0x0004 cabling table: lantern port 16-21, expected CID (R97) -/
  cabling : Option (List (Nat × Nat))
  /-- 0x0005 spare groups: group, Talnex generation and positions (R324) -/
  groups : Option (NMap (Nat × List Nat))
  /-- 0x0009 mailbox bindings (channel, MB_BIND) and PCIe function privileges (R450, R503) -/
  mbox : Option (List (Nat × Nat) × List Nat)
  /-- 0x000A population prior of 64 bytes (R345) -/
  prior : Option (List Nat)
  /-- 0x000B Beacon registers (address, word) and UTC offset (R441) -/
  beacon : Option (List (Nat × Nat) × Option Utc)
  /-- 0x000C budget guarantees and caps (R137) -/
  budget : Option (NMap Nat × NMap Nat)
  /-- 0x000D initial standing orders: pod and domain tables (R55) -/
  orders : Option (SoTable × SoTable)
  deriving DecidableEq, Repr

/-- A configuration image (Tables 22-4, 22-5). -/
structure CfgImage where
  version : Nat
  /-- digest of the image -/
  digest : Nat
  serial : Nat
  sigKey : Nat
  ownerIdx : Nat
  /-- it holds a section of reserved type without the optional flag -/
  reserved : Bool
  /-- 0x0001 identity: CID, warden and keeper roles of its rack and pod -/
  cid : Nat
  wardenId : Nat
  keeperId : Nat
  /-- tenants of jobs (the model's own place for them) -/
  tenants : NMap Nat
  /-- 0x0002 configuration operator keys -/
  opKeys : List Nat
  /-- 0x0006 sizes of the system, token pool, trace and ring-body regions [bytes] -/
  sizes : List Nat
  /-- 0x0007 channels, dies per channel, die size [Gb], blocks per die, pages per block, rated endurance pSLC and TLC, ledger and event regions [GiB] -/
  nand : List Nat
  /-- 0x0008 energy channels (kind, port, PMBus master), fans, PMBus devices, power budget and inrush of kinds 0-2 [W] -/
  chans : List (Nat × Nat × Nat)
  fans : Nat
  stages : Nat
  budgetW : Nat
  inrush : List Nat
  part : CfgPart
  deriving DecidableEq, Repr

/-- A first-stage loader or runtime image: version (MAJOR, MINOR, PATCH as one word), security version, the floor it asks for at commit (R517), key,
digest, and the program images it carries: the seven reference shadow programs, FLK_REF, EMBER_REF. -/
structure FwImage where
  version : Nat
  svn : Nat
  floor : Nat
  sigKey : Nat
  digest : Nat
  blobs : List (List Nat)
  deriving DecidableEq, Repr

/-- A counter slot (Table 22-8). -/
structure CtrSlot where
  seq : Nat
  coarse : Nat
  cycles : Nat
  ticks : Nat
  deriving DecidableEq, Repr

/-- The health record (Table 22-3). -/
structure Health where
  pages : List Nat
  mappedOut : Nat
  /-- retired taper positions and failed routers, columns of remapped logical indices (R149, R150) -/
  retired : List Nat
  routerFail : Nat
  cols : NMap (Option Nat)
  epoch : Nat
  deriving DecidableEq, Repr

/-- A certificate of Table 22-1: whose key it certifies (0 Gnoren CA, 1 DeviceID, 2 Ledger identity, 3 Alias), that public key, the digests and version that
the key was derived from, the issuer's public key, and the issuer's signature (r, s). -/
structure Cert where
  subject : Nat
  key : Nat
  info : List Nat
  issuer : Nat
  sig : Nat × Nat
  deriving DecidableEq, Repr

/-- The identities of a start (R505): the DeviceID private key while the boot ROM holds it, the CDI of the FSBL, the Ledger private key in its slot of the
signing engine, the CDI and private key of the runtime, and the certificates that this start issued. -/
structure Ident where
  devKey : Option Nat
  fsblCdi : Nat
  ledKey : Option Nat
  rtCdi : Nat
  aliasKey : Option Nat
  ledCert : Option Cert
  aliasCert : Option Cert
  deriving DecidableEq, Repr

/-- No identity before the boot ROM has run. -/
def Ident.none : Ident :=
  { devKey := Option.none, fsblCdi := 0, ledKey := Option.none, rtCdi := 0, aliasKey := Option.none, ledCert := Option.none, aliasCert := Option.none }

/-- The configuration NOR (Table 22-3); slot A first; a slot that holds nothing valid is none. -/
structure Nor where
  /-- factory identity area: the Gnoren CA certificate and the DeviceID certificate -/
  factory : List Cert
  fsbl : Option FwImage × Option FwImage
  rt : Option FwImage × Option FwImage
  cfg : Option CfgImage × Option CfgImage
  /-- calibration sets with their keys -/
  cal : Option (Sys2Proof.CalSet × Nat) × Option (Sys2Proof.CalSet × Nat)
  ctr : Option CtrSlot × Option CtrSlot
  /-- boot slot pointers, and of the runtime slot: 0 committed, 1 staged and not yet run, 2 on trial -/
  bootFsbl : Bool
  bootRt : Bool
  trial : Nat
  /-- owner record: configuration root keys -/
  owner : List Nat
  health : Health
  deriving DecidableEq, Repr

/-- An erased NOR. -/
def Nor.blank : Nor :=
  { factory := [], fsbl := (none, none), rt := (none, none), cfg := (none, none), cal := (none, none), ctr := (none, none), bootFsbl := false, bootRt := false, trial := 0,
    owner := [], health := { pages := [], mappedOut := 0, retired := [], routerFail := 0, cols := [], epoch := 0 } }

/-- Slot A (false) or B (true). -/
def slotOf {α : Type} (p : α × α) (b : Bool) : α := if b then p.2 else p.1

/-- Store a slot. -/
def setSlot {α : Type} (p : α × α) (b : Bool) (v : α) : α × α := if b then (p.1, v) else (v, p.2)

/-- The fuses that the root of trust reads (22): unique device secret, serial, root key, floors; and the speed bin of the silicon (06 GRID_BEAT_RATE.BIN). -/
structure Fuses where
  uds : Nat
  serial : Nat
  root : Nat
  fsblFloor : Nat
  fwFloor : Nat
  bin : Nat
  deriving DecidableEq, Repr

/-- The Lamplighter (22). -/
structure Lamp where
  /-- LAMP_STATUS.STATE, running slots, status of the last refused command -/
  state : Nat
  fsblSlot : Bool
  fwSlot : Bool
  cfgSlot : Bool
  last : Nat
  fuses : Fuses
  nor : Nor
  /-- identities of this start (R505) -/
  ident : Ident
  /-- images in force -/
  fw : Option FwImage
  cfg : Option CfgImage
  calValid : Bool
  calSlot : Bool
  /-- privileges of PCIe functions 0-7 (R503) -/
  pciePriv : List Nat
  amendSeq : Nat
  amended : Bool
  /-- LAMP_UPDATE_STATUS: state, kind, last -/
  updState : Nat
  updKind : Nat
  updLast : Nat
  /-- LAMP_ACTIVATE under way -/
  act : Option Sys2Proof.Cmd
  /-- a calibration overwrite between its steps (R521) -/
  calCmd : Option Sys2Proof.Cmd
  /-- monotonic time of the last restart (R502) -/
  restart : Option Nat
  /-- versions and digests activated since start (Table 22-2, block 7) -/
  actLog : List (Nat × Nat)
  /-- FAULT_N asserted (R542) -/
  fault : Bool
  deriving DecidableEq, Repr

/-- The Lamplighter at reset: the boot ROM has not run. -/
def Lamp.reset : Lamp :=
  { state := 0, fsblSlot := false, fwSlot := false, cfgSlot := false, last := 0, fuses := { uds := 0, serial := 0, root := 0, fsblFloor := 0, fwFloor := 0, bin := 0 },
    nor := Nor.blank, ident := Ident.none, fw := none, cfg := none, calValid := false, calSlot := false, pciePriv := [2, 0, 0, 0, 0, 0, 0, 0], amendSeq := 0, amended := false,
    updState := 0, updKind := 0, updLast := 0, act := none, calCmd := none, restart := none, actLog := [], fault := false }

/-- A start in the sequencer's queue (R534): kind of Table 23-7, port or partition, context, recovery class, time of arrival, PWRSEQ_POS command. -/
structure PwrStart where
  kind : Nat
  port : Nat
  ctx : Nat
  recovery : Bool
  at_ : Nat
  cmd : Option Sys2Proof.Cmd
  deriving DecidableEq, Repr

/-- The power sequencer, the sequencing pins and the straps (23). -/
structure Pwr where
  straps : Nat
  coreEn : Bool
  corePg : Bool
  /-- CORE_EN attempts that timed out -/
  tries : Nat
  fail : Bool
  /-- POWER capacity held at 0 (R538, R539) -/
  hold : Bool
  thermtrip : Bool
  overtemp : Bool
  /-- POS_EN and POS_PG by port -/
  posEn : Nat
  posPg : Nat
  queue : List PwrStart
  /-- starts admitted: time and inrush -/
  window : List (Nat × Nat)
  budgetW : Nat
  inrush : List Nat
  /-- PWRSEQ_POS commands that wait for POS_PG, and cycles that wait for their power-on: port, command -/
  posCmds : List (Nat × Sys2Proof.Cmd)
  cycles : List (Nat × Sys2Proof.Cmd)
  /-- the Lamplighter has written a fan duty (R541) -/
  fanSet : Bool
  deriving DecidableEq, Repr

/-- The sequencer at reset. -/
def Pwr.reset : Pwr :=
  { straps := 0, coreEn := false, corePg := false, tries := 0, fail := false, hold := false, thermtrip := false, overtemp := false, posEn := 0, posPg := 0,
    queue := [], window := [], budgetW := 2000, inrush := [600, 700, 20], posCmds := [], cycles := [], fanSet := false }

/-- The head of the ledger chain that the start reads from Tallow (R403, R437): sequence, hash, End time of the newest valid record; records not yet
acknowledged; the acknowledged sequence. -/
structure LedHead where
  valid : Bool
  seq : Nat
  prev : Nat
  stop : Nat
  stored : List SRec
  ack : Nat
  /-- public key under which the newest record's signature verifies -/
  key : Nat
  deriving DecidableEq, Repr

end Sys2Proof.Machine
end

