-- ==== Sys2Proof/Machine/TallowTypes.lean ====
section
/-!
DEFINITION. Plain data of Tallow (20). The NAND dies are not part of the T3: what they hold reaches the model as operands.
-/
namespace Sys2Proof.Machine

/-- A physical place: die (8 × channel + die within the channel), block, first page. -/
structure Place where
  die : Nat
  block : Nat
  page : Nat
  deriving DecidableEq, Repr

/-- A journal entry (R472): kind 0 map update, 1 erase pending, 2 erase done, 3 block retired, 4 region resize; a map update names the region,
the chunk and its places, a block change the die and block, a resize the region and its chunks. -/
structure JEntry where
  kind : Nat
  region : Nat
  chunk : Nat
  places : List Place
  die : Nat
  block : Nat
  deriving DecidableEq, Repr

/-- A block: state 0 free and erased, 1 open, 2 full, 3 retired, 4 erase pending; pSLC or TLC; erase count; next page to be programmed. -/
structure TBlock where
  state : Nat
  tlc : Bool
  erases : Nat
  wp : Nat
  deriving DecidableEq, Repr

/-- One copy of a unit being written: its place; 0 programming, 1 reading back, 2 read back without error. -/
structure TCopy where
  place : Place
  state : Nat
  deriving DecidableEq, Repr

/-- A write under way (R470): kind 0 a unit's data, 1 a copy of garbage collection, 2 a journal unit, 3 a checkpoint; the write sequence of its
program units; the entries that a journal unit carries and the write that waits for them. -/
structure TWrite where
  id : Nat
  kind : Nat
  region : Nat
  chunk : Nat
  pages : Nat
  seq : Nat
  owner : Nat
  copies : List TCopy
  entries : List JEntry
  after : List Nat
  /-- TALLOW_FORMAT and TALLOW_CHECKPOINT commands that it completes -/
  cmds : List (Nat × Sys2Proof.Cmd)
  deriving DecidableEq, Repr

/-- A NAND operation in flight or waiting: kind 0 program, 1 read, 2 erase; why: 0 a write's copy, 1 garbage collection, 2 a raw command, 3 a format, 4 a
unit's read, 5 a mirror's other copy, 6 an erase of garbage collection or mount. -/
structure NandOp where
  kind : Nat
  place : Place
  why : Nat
  /-- write it belongs to, or chunk being moved or repaired (region, chunk) -/
  ref : Nat
  region : Nat
  cmd : Option Sys2Proof.Cmd
  /-- Mantle address of a raw read -/
  addr : Nat
  /-- pages of a program (R467) -/
  pages : Nat := 0
  deriving DecidableEq, Repr

/-- Garbage collection under way (R474): the block, the chunks still to be copied, the copies made (region, chunk, old place, new place), phase 0
copying, 1 journaling, 2 erasing, 3 journaling the erase. -/
structure TGc where
  die : Nat
  block : Nat
  tlc : Bool
  todo : List (Nat × Nat × Place)
  moved : List (Nat × Nat × Place × Place)
  phase : Nat
  deriving DecidableEq, Repr

/-- What a mount finds on NAND (R473): 0 valid, 1 dies disagree with the configuration, 2 no valid checkpoint; the map and block table after
replay, orphaned units, and the blocks whose last entry is erase pending. -/
structure TMount where
  result : Nat
  map : NMap (List Place)
  blocks : NMap TBlock
  orphans : Nat
  pending : List (Nat × Nat)
  seq : Nat
  deriving DecidableEq, Repr

/-- Tallow (20). -/
structure Tallow where
  enable : Bool
  draining : Bool
  mounted : Bool
  /-- a mount found no valid checkpoint: only TALLOW_FORMAT acts (R473) -/
  blank : Bool
  pwrFail : Bool
  /-- wear state (Table 20-7); status of the last failed operation -/
  wear : Nat
  last : Nat
  /-- TALLOW_GEOM: populated channels, dies per channel, die size; blocks per die and pages per block, from the NAND profile -/
  channels : Nat
  dies : Nat
  dieSize : Nat
  blocksPer : Nat
  pagesPer : Nat
  /-- rated endurance of pSLC and TLC, from the NAND profile -/
  rated : Nat × Nat
  /-- region sizes in chunks -/
  sizes : List Nat
  /-- places of a chunk by region * 2^32 + chunk: one, or two where mirrored -/
  map : NMap (List Place)
  /-- blocks by die * 2^32 + block -/
  blocks : NMap TBlock
  /-- erase-state bitmap (R471): by block, the mask of pages whose bit is set -/
  erased : NMap Nat
  /-- open block by 2 * region + copy -/
  open_ : NMap (Nat × Nat)
  /-- overprovisioned blocks left, and their number at format -/
  spare : Nat
  spareAt : Nat
  /-- write sequence of the last program unit; next write number (the model's own) -/
  seq : Nat
  nextId : Nat
  writes : List TWrite
  ops : List NandOp
  /-- operations held back while PWR_FAIL is asserted (R475) -/
  held : List NandOp
  gc : Option TGc
  /-- journal bytes since the last checkpoint, sequences of the two newest durable checkpoints -/
  journal : Nat
  ckpts : List Nat
  /-- TALLOW_FORMAT under way -/
  format : Option Sys2Proof.Cmd
  deriving DecidableEq, Repr

/-- Tallow at reset: unmounted. -/
def Tallow.reset : Tallow :=
  { enable := true, draining := false, mounted := false, blank := false, pwrFail := false, wear := 0, last := 0, channels := 0, dies := 0, dieSize := 0,
    blocksPer := 0, pagesPer := 0, rated := (0, 0), sizes := [0, 0, 0, 0], map := [], blocks := [], erased := [], open_ := [], spare := 0, spareAt := 0,
    seq := 0, nextId := 0, writes := [], ops := [], held := [], gc := none, journal := 0, ckpts := [], format := none }

end Sys2Proof.Machine
end

