-- ==== Sys2Proof/Machine/CmdTypes.lean ====
section
/-!
DEFINITION. What some commands of the Lamplighter and of the start sequence carry (22, 23).
-/
namespace Sys2Proof.Machine

/-- An amendment as its bytes give it: base version, sequence, whether it holds a section that Table 22-5 does not mark amendable, the key under which
its signature verifies, and its sections. -/
structure Amendment where
  base : Nat
  seq : Nat
  fixed : Bool
  sigKey : Nat
  part : CfgPart
  deriving DecidableEq, Repr

/-- An image as LAMP_UPDATE finds it in the Mantle: a loader or runtime image, or a configuration image. -/
inductive UpImage where
  | fw (f : FwImage)
  | cfg (x : CfgImage)
  deriving DecidableEq, Repr

/-- A PLDM request: type 0 base, 2 a sensor of Flicker class 11, 5 an image for the update path, any other type. -/
inductive Pldm where
  | base (code : Nat)
  | sensor (idx : Nat)
  | update (kind : Nat) (i : UpImage) (same : Bool)
  | other (typ : Nat)
  deriving DecidableEq, Repr

/-- What the core start meets: stacks that answer, logical tapers that fail the self-test, what Tallow's mount finds, the ledger chain's head, the events region. -/
structure CoreStart where
  present : Nat
  bad : List Nat
  mount : TMount
  led : LedHead
  /-- entries of the Tallow events region, oldest first (R485) -/
  events : List LogEntry
  deriving DecidableEq, Repr

end Sys2Proof.Machine
end

