-- ==== Sys2Proof/Machine/CollTypes.lean ====
section
/-!
DEFINITION. Plain data of the collective engine (17).
-/
namespace Sys2Proof

/-- A call signature (Table 17-2), without its CRC-32C. -/
structure CollSig where
  group : Nat
  epoch : Nat
  seq : Nat
  op : Nat
  typ : Nat
  root : Nat
  count : Nat
  deriving DecidableEq, Repr

/-- A round message after its lantern header (Table 17-7). -/
structure CollMsg where
  sig : CollSig
  num : Nat
  round : Nat
  /-- 0 main, 1 fold-in, 2 fold-out, 3 doubling half -/
  phase : Nat
  rank : Nat
  off : Nat
  data : List Nat
  deriving DecidableEq, Repr

/-- An abort record (Table 17-7): status, detector, named rank, differing signature, entered bitmap, abort round. -/
structure CollAb where
  status : Nat
  detector : Nat
  named : Nat
  differ : CollSig
  bitmap : Nat
  round : Nat
  deriving DecidableEq, Repr

/-- Sequence space (R411). -/
def CollSig.space (s : CollSig) : Nat := bits s.seq 63 62

/-- Bytes 0-27 of a signature (Table 17-2). -/
def CollSig.bytes (s : CollSig) : List Nat :=
  leBytes 4 s.group ++ leBytes 4 s.epoch ++ leBytes 8 s.seq ++ [s.op, s.typ] ++ leBytes 2 s.root ++ leBytes 8 s.count

/-- Fields of a signature with its check value. -/
def CollSig.fields (s : CollSig) : List Nat := [s.group, s.epoch, s.seq, s.op, s.typ, s.root, s.count, crc32c s.bytes]

/-- Detail word of a call that ended by abort (R424). -/
def CollAb.detail (a : CollAb) : Nat := a.named + a.detector * 2 ^ 16 + a.round * 2 ^ 32

/-- Order of abort statuses (R419). -/
def abRank (s : Nat) : Nat := if s = 0x0301 then 2 else if s = 0x0305 then 1 else 0

/-- Merge two aborts (R419). -/
def CollAb.merge (a b : CollAb) : CollAb :=
  let win := if abRank a.status < abRank b.status then b else if abRank b.status < abRank a.status then a
    else if b.detector < a.detector then b else a
  { win with bitmap := a.bitmap ||| b.bitmap, round := a.round }

/-- Element size of a type (Table 17-3). -/
def collElem (t : Nat) : Nat := if t = 1 ∨ t = 2 ∨ t = 4 ∨ t = 7 then 8 else if t = 3 then 4 else if t = 6 then 96 else if t = 8 then 1 else 0

/-- Data per member in bytes. -/
def CollSig.size (s : CollSig) : Nat := s.count * collElem s.typ

end Sys2Proof

namespace Sys2Proof.Machine

/-- A group descriptor (Table 17-1) with its list. -/
structure CollGroup where
  id : Nat
  epoch : Nat
  members : List Nat
  rank : Nat
  flags : Nat
  threshold : Nat
  job : Nat
  period : Nat
  /-- next call number and last sequence completed OK, by space 0-2 -/
  next : NMap Nat
  lastOk : NMap Nat
  worst : Nat
  /-- last Ledger total: sequence and four energies -/
  total : List Nat
  deriving DecidableEq, Repr

/-- A call open at this T3. `caller`: 0 host, 1 apply gate, 2 Ledger total, 3 health, 4 not entered (abort rounds only). -/
structure CollCall where
  sig : Sys2Proof.CollSig
  num : Nat
  members : List Nat
  rank : Nat
  gate : Bool
  threshold : Nat
  caller : Nat
  cmd : Option Sys2Proof.Cmd
  outR : Nat
  outOff : Nat
  timeout : Nat
  /-- the call executes (R412: earlier calls of the group and space have ended); messages of its present step have been sent -/
  running : Bool
  step : Nat
  sent : Bool
  buf : List Nat
  msgs : List Sys2Proof.CollMsg
  /-- ranks from which a round message has come -/
  heard : Nat
  /-- monotonic time of the present round, worst round -/
  t0 : Nat
  worst : Nat
  /-- abort under way, aborts received for later rounds, COLL_CANCEL commands that wait -/
  ab : Option Sys2Proof.CollAb
  abGot : List Sys2Proof.CollAb
  cancels : List Sys2Proof.Cmd
  deriving DecidableEq, Repr

/-- A message sent or forwarded over a lantern port in the last 10 ms (R421): monotonic time, port, header, how it is queued, fields; of a message
forwarded its bytes and the port it came by. -/
structure CollSent where
  time : Nat
  port : Nat
  head : LOut
  vc : Nat
  grp : Nat
  act : Nat
  pay : List Nat
  bytes : List Nat
  from_ : Nat
  deriving DecidableEq, Repr

/-- The collective engine (17). -/
structure Coll where
  enable : Bool
  ready : Bool
  draining : Bool
  /-- groups by table entry 0-1,023 -/
  groups : NMap CollGroup
  open_ : List CollCall
  /-- round messages for calls not entered -/
  held : List Sys2Proof.CollMsg
  /-- calls an abort has ended: call number and the winning abort, with the call's signature -/
  ended : List (Sys2Proof.CollSig × Nat × Sys2Proof.CollAb)
  recent : List CollSent
  deriving DecidableEq, Repr

/-- The engine at reset. -/
def Coll.reset : Coll := { enable := true, ready := false, draining := false, groups := [], open_ := [], held := [], ended := [], recent := [] }

end Sys2Proof.Machine
end

