-- ==== Sys2Proof/Machine/MantleTypes.lean ====
section
/-!
DEFINITION. Plain data of the Mantle controller (05) and the budget controller (06).
-/
namespace Sys2Proof.Machine

/-- A page descriptor (Table 5-5) with the error counts of R111. -/
structure Page where
  region : Nat
  /-- 0 free, 1 allocated, 2 quiet, 3 retired -/
  state : Nat
  zeroed : Bool
  /-- quiet start: budget period number, 16 bits -/
  quietAt : Nat
  /-- monotonic times of the errors within 24 h (R111) -/
  corr : List Nat
  uncorr : List Nat
  /-- to be retired when its region frees it (R111) -/
  due : Bool
  /-- activity that freed the region the page had, to which its zeroing is charged (R124, R136) -/
  act : Nat
  deriving DecidableEq, Repr

/-- A free zeroed page. -/
def Page.reset : Page := { region := 0, state := 0, zeroed := true, quietAt := 0, corr := [], uncorr := [], due := false, act := 12 }

/-- A region descriptor (Table 5-3); `pages` is the page list that First page and the Next fields give. -/
structure Region where
  typ : Nat
  hostVisible : Bool
  pooled : Bool
  quiet : Bool
  job : Nat
  ownerCid : Nat
  ownerCtx : Nat
  /-- 0 context, 1 accelerator, 2 T3 epoch, 3 job, 4 none -/
  ownerKind : Nat
  gen : Nat
  mask : Nat
  pages : List Nat
  deriving DecidableEq, Repr

/-- A recovery allocation that waits for zeroed pages (R119). -/
structure MantleWait where
  region : Region
  pages : Nat
  why : Nat
  deriving DecidableEq, Repr

/-- The Mantle controller (05). -/
structure Mantle where
  pages : NMap Page
  regions : NMap Region
  /-- freed regions whose pages are not all zeroed yet: they show the quiet flag and keep their index (R124, Table 5-3) -/
  fading : NMap Region
  /-- poisoned lines, by line number (R109) -/
  poison : List Nat
  /-- stacks present and mapped out, 8 bits each -/
  present : Nat
  mappedOut : Nat
  /-- stacks that failed: mapped out at each later start (R112) -/
  failedStacks : Nat
  ready : Bool
  stackFailed : Bool
  scrubActive : Bool
  /-- next line of the patrol scrub -/
  scrubAt : Nat
  /-- monotonic times of a stack's uncorrectable errors within 1 s (R112) -/
  stackErr : NMap (List Nat)
  /-- MANTLE_ECC_ADDR: address and valid bit -/
  eccAddr : Nat
  /-- MANTLE_PAGES_RETIRED, 32 bits -/
  retired : Nat
  /-- link receive space taken by ports, by port index, in bytes (R115) -/
  rxTaken : NMap Nat
  /-- recovery allocations waiting (R119) -/
  waits : List MantleWait
  /-- generation in force of a job's context, by job * 2^32 + CID * 256 + context (R122) -/
  ctxTags : NMap Nat
  deriving DecidableEq, Repr

/-- The Mantle controller at reset: eight stacks, READY clear, no region. -/
def Mantle.reset : Mantle :=
  { pages := [], regions := [], fading := [], poison := [], present := 0xFF, mappedOut := 0, failedStacks := 0, ready := false, stackFailed := false,
    scrubActive := false, scrubAt := 0, stackErr := [], eccAddr := 0, retired := 0, rxTaken := [], waits := [], ctxTags := [] }

/-- What is carried out once a waiting request is served (R139): an answer to the unit that asked, or the access of the Mantle that the
controller held. -/
inductive BudWhat where
  | req
  /-- MANTLE_READ: agent class, address, length, what the read of each line finds -/
  | read (agent addr len : Nat) (ecc : List Nat)
  /-- MANTLE_WRITE: agent class, address, generation tag, context key, bytes -/
  | write (agent addr tag ctxKey : Nat) (bytes : List Nat)
  /-- a line of the patrol scrub: what its read finds -/
  | scrub (ecc : Nat)
  /-- BAR2_ACCESS: write, address, length, bytes, what the read of each line finds -/
  | bar2 (write : Bool) (addr len : Nat) (bytes ecc : List Nat)
  deriving DecidableEq, Repr

/-- A request of an activity on a resource that waits (R139). Resources are instances: the codes of Table 6-2, where 5 is PCIE toward the
host and 7 PCIE from it; 16 + port and 48 + port are a sconce port's two directions, out and in, 32 + port and 64 + port a lantern
port's. `amount` is bytes, taper-beats, or pJ on POWER. -/
structure BudWait where
  act : Nat
  inst : Nat
  amount : Nat
  what : BudWhat := .req
  deriving DecidableEq, Repr

/-- The budget controller (06): guarantees and caps hold 16 x 7 values by index 8 * activity + resource. -/
structure Budget where
  /-- guarantees and caps in force -/
  guar : NMap Nat
  cap : NMap Nat
  /-- staging copy -/
  sGuar : NMap Nat
  sCap : NMap Nat
  /-- copy that APPLY found valid and that awaits the period boundary -/
  pend : Option (NMap Nat × NMap Nat)
  /-- LAST_RESULT, 16 bits -/
  last : Nat
  ceilingFloor : Bool
  /-- CAP_W, CEILING_W, 9 bits; reset 280 -/
  capW : Nat
  ceilW : Nat
  /-- TJ_MAX [°C] -/
  tjMax : Int
  /-- MEASURED_W, BASE_W -/
  measW : Nat
  baseW : Nat
  /-- weight scale: measured and estimated package power (R142) -/
  scaleNum : Nat
  scaleDen : Nat
  /-- excess of the last 1 ms interval, W -/
  excess : Nat
  /-- budget period number, 32 bits, and sub-slot 0-9 -/
  period : Nat
  slot : Nat
  /-- capacity of each instance as taken at the period boundary, for the period (R135): bytes (1/40 byte on TALLOW, so that the charges of
  R467 are whole), taper-beats, or units of 0.25 W -/
  taken : NMap Nat
  /-- capacity of each instance in the current sub-slot, in the same units but pJ on POWER -/
  slotCaps : NMap Nat
  /-- PCIe bytes of a period in one direction, as the link is trained -/
  pcieBytes : Nat
  /-- beat rates and usable tapers of the partitions as taken at the period boundary -/
  ratesP : List Nat
  usableP : List Nat
  /-- measured beat rates of the partitions [M beats/s] and their usable tapers -/
  rates : List Nat
  usable : List Nat
  /-- allowance given in this sub-slot and spent of it, by 128 * activity + instance; capacity no pass gave, by instance (pJ on POWER) -/
  got : NMap Nat
  spent : NMap Nat
  spare : NMap Nat
  /-- requests waiting, in order -/
  waits : List BudWait
  /-- GUARANTEE_YIELD of activity and resource (8 * a + r): sub-slots since the last event, the shortfall of the first of them, and the
  event's monotonic time -/
  short : NMap Nat
  shortBy : NMap Nat
  lastEv : NMap Nat
  /-- (activity, resource) found short in this sub-slot -/
  shortNow : List (Nat × Nat)
  /-- YIELD_SLOTS (16 bits), LAST_WINNER, LAST_RESOURCE by activity -/
  yields : NMap Nat
  lastWin : NMap Nat
  lastRes : NMap Nat
  deriving DecidableEq, Repr

/-- Default guarantees of Table 6-3 (POWER in units of 0.25 W), by 8 * activity + resource; unlisted ones are 0. -/
def Budget.guarDefault : NMap Nat :=
  [(8, 128), (14, 40), (16, 8), (22, 12), (24, 1), (32, 2), (38, 8), (40, 64), (46, 60), (48, 32), (56, 256), (64, 256),
   (67, 512), (70, 240), (72, 32), (80, 8), (83, 64), (86, 40), (88, 128), (91, 256), (94, 200), (96, 64), (112, 16), (120, 1)]

/-- The budget controller at reset. -/
def Budget.reset : Budget :=
  { guar := Budget.guarDefault, cap := [], sGuar := Budget.guarDefault, sCap := [], pend := none, last := 0,
    ceilingFloor := false, capW := 280, ceilW := 280, tjMax := 0, measW := 0, baseW := 0, scaleNum := 1, scaleDen := 1,
    excess := 0, period := 0, slot := 0, taken := [], slotCaps := [], pcieBytes := 0, ratesP := [], usableP := [], rates := List.replicate 8 0,
    usable := List.replicate 8 0, got := [], spent := [], spare := [], waits := [], short := [], shortBy := [], lastEv := [], shortNow := [], yields := [], lastWin := [],
    lastRes := [] }

/-- A unit that drains (R144): unit number (BAR0 base bits [27:20], with ports at 0x100 + port, partitions at
0x200 + partition, Flue rings at 0x300 + ring, rings at 0x10000 + ring), items not completed, enable held. -/
structure Drain where
  unit : Nat
  items : Nat
  enableHeld : Bool
  deriving DecidableEq, Repr

end Sys2Proof.Machine
end

