-- ==== Sys2Proof/Machine/VigilTypes.lean ====
section
/-!
DEFINITION. Plain data of Vigil and the Snuffer (12) and of recoveries, spares and reloads (13).
-/
namespace Sys2Proof.Machine

/-- A watch entry (Table 12-2), listed at 64 * port + context while watched. -/
structure Watch where
  job : Nat
  stalled : Bool
  query : Bool
  frozen : Bool
  priority : Nat
  mask : Nat
  timeout : Nat
  gen : Nat
  genStart : Nat
  lastProg : Nat
  /-- wait-for reply held and the monotonic time it came (R297: no older than 1 ms) -/
  edges : List Sys2Proof.WaitEdge
  replyAt : Nat
  replied : Bool
  /-- a cycle was broken for the context since its last mark (R293) -/
  broken : Bool
  /-- operator tag of the last fault report of the context -/
  tag : Nat
  /-- probes waiting for a fresh reply (R297): origin, probe identifier, path entries -/
  waiting : List (Nat × Nat × List (List Nat))
  deriving DecidableEq, Repr

/-- Vigil's view of a sconce port (VIGIL_PORT_STATE). -/
structure VPort where
  /-- 0 inactive, 1 alive, 2 suspect, 3 failed -/
  state : Nat
  misses : Nat
  probes : Nat
  health : Nat
  /-- context-live bitmap of the last accepted heartbeat -/
  live : Nat
  /-- cause of the suspicion or declaration (Table 24-8) -/
  cause : Nat
  tag : Nat
  deriving DecidableEq, Repr

/-- A port at reset. -/
def VPort.reset : VPort := { state := 0, misses := 0, probes := 0, health := 0, live := 0, cause := 0, tag := 0xFFFFFFFF }

/-- A fault notice (Table 12-6). -/
structure Notice where
  kind : Nat
  level : Nat
  cid : Nat
  ctx : Nat
  accGen : Nat
  ctxGen : Nat
  status : Nat
  job : Nat
  released : Nat
  time : Nat
  tag : Nat
  seq : Nat
  epoch : Nat
  reporter : Nat
  deriving DecidableEq, Repr

/-- A containment that runs (R300, R301): `ctx` 0xFF for L1; `bumped` when R123 is acknowledged; `brk` for a cycle break. -/
structure Contain where
  port : Nat
  ctx : Nat
  level : Nat
  bumped : Bool
  brk : Bool
  /-- jobs affected -/
  jobs : List Nat
  /-- RESET messages sent and not confirmed -/
  open_ : Nat
  /-- a running reset serves the declaration (R301) -/
  served : Bool
  deriving DecidableEq, Repr

/-- Vigil and the Snuffer (12). -/
structure Vigil where
  watch : NMap Watch
  port : NMap VPort
  /-- probe identifier of the last WAIT_PROBE of this T3 -/
  probeId : Nat
  /-- last notice sequence applied by CID and job (R308): key CID * 2^32 + job -/
  applied : NMap Nat
  /-- keeper: notices sent and not acknowledged: sequence, destination CID, resends, notice (R307) -/
  notices : List (Nat × Nat × Nat × Notice)
  /-- sequence of the last lantern heartbeat sent (R30) -/
  lhbSeq : Nat
  /-- prober: LPROBE sent and not answered (R294) -/
  lprobes : List Nat
  /-- keeper: members of a job (R307, R311), and watch parameters by position: CID, context, job, priority, timeout -/
  jobT3s : NMap (List Nat)
  watched : List (Nat × Nat × Nat × Nat × Nat)
  /-- Snuffer: fenced and lost ports, bit maps of 16 -/
  fenced : Nat
  lost : Nat
  /-- a RESET_CONFIRM under the current generation has come since the fence (R305), bit map -/
  clean : Nat
  /-- generations in force: accelerator by port, context by 64 * port + context, and when it came into force -/
  accGen : NMap Nat
  ctxGen : NMap Nat
  genStart : NMap Nat
  contains : List Contain
  /-- SNUF_RESET commands waiting: port, context (0xFE: kind 1 of every context, 0xFF: kind 2), ring, tag, stamp, generation -/
  resetCmds : List (Nat × Nat × Nat × Nat × Nat × Nat)
  deriving DecidableEq, Repr

/-- Vigil and the Snuffer at reset. -/
def Vigil.reset : Vigil :=
  { watch := [], port := [], probeId := 0, applied := [], notices := [], lhbSeq := 0, lprobes := [], jobT3s := [], watched := [], fenced := 0, lost := 0,
    clean := 0, accGen := [], ctxGen := [], genStart := [], contains := [], resetCmds := [] }

/-- A recovery at its coordinator (R313, R314): phase 0 QUERY, 1 POINT, 2 RESTORE, 3 RESUME, 4 HELD. -/
structure Recovery where
  seq : Nat
  phase : Nat
  back : Nat
  members : List Nat
  /-- answers: CID, released step, restorable steps (none: no limit) -/
  answers : List (Nat × Nat × Option (List Nat))
  point : Nat
  ready : List Nat
  /-- failed positions: CID, context or 0xFF -/
  failed : List (Nat × Nat)
  /-- monotonic time of the first FAULT_UP -/
  start : Nat
  deriving DecidableEq, Repr

/-- A recovery at a member (R317-R319). -/
structure MemberRcv where
  seq : Nat
  coord : Nat
  epoch : Nat
  point : Option Nat
  roll : Bool
  failed : List (Nat × Nat)
  /-- contexts that RECOVERY kind 1 has gone to and that have not answered: 64 * port + context -/
  waitCtx : List Nat
  /-- contexts compared or reloaded before they are ready: 64 * port + context -/
  restore : List Nat
  /-- the point of an earlier sequence of this recovery (R334) -/
  before : Option Nat
  /-- failed positions that a spare was granted for -/
  gone : List Nat
  readySent : Bool
  open_ : Bool
  deriving DecidableEq, Repr

/-- A spare entry (Table 13-8): state 0 HOT, 1 COLD, 2 PRESTAGED, 3 ASSIGNED, 4 UNAVAILABLE. -/
structure Spare where
  cid : Nat
  port : Nat
  state : Nat
  talnex : Nat
  group : Nat
  pos : Nat
  version : Nat
  deriving DecidableEq, Repr

/-- A reload into a sconce port (R327): state as in SNUF_RELOAD. -/
structure Reload where
  state : Nat
  ctx : Nat
  /-- shards still to be reloaded, the first one under way -/
  shards : List Nat
  step : Nat
  /-- blocks written to the port for the shard, blocks in this reload -/
  written : Nat
  total : Nat
  /-- the shard has been reloaded once and differed -/
  again : Bool
  /-- last block sent; block count of the shard -/
  lastSent : Bool
  blocks : Nat
  deriving DecidableEq, Repr

/-- A port that reloads nothing. -/
def Reload.reset : Reload :=
  { state := 0, ctx := 0, shards := [], step := 0, written := 0, total := 0, again := false, lastSent := false, blocks := 0 }

/-- A reload that a buddy serves (R327, R331): shard, serving T3, step, next block, acknowledged count. -/
structure Serve where
  shard : Nat
  dst : Nat
  step : Nat
  next : Nat
  acked : Nat
  deriving DecidableEq, Repr

/-- Recovery (13): coordinator, member, spares, reloads. -/
structure Rcv where
  coord : NMap Recovery
  lastSeq : NMap Nat
  mem : NMap MemberRcv
  /-- spare groups: Talnex generation and active positions by group (R33, R324) -/
  groups : NMap (Nat × List Nat)
  /-- keeper: spare requests that wait until the role's outputs begin (R39): T3, position, job, action, parameter A -/
  waitReqs : List (Nat × Nat × Nat × Nat × Nat)
  spares : List Spare
  reload : NMap Reload
  serves : List Serve
  /-- warm restores waiting for R or VERIFIED (R322): position CID, port, job, parameter A -/
  warm : List (Nat × Nat × Nat × Nat)
  /-- shard fingerprint reports received: port, context, shard, step, elements, fingerprint -/
  fps : List (Nat × Nat × Nat × Nat × Nat × Nat)
  /-- commit records fetched with RELOAD_REQ kind 0: shard, record -/
  fetched : List (Nat × Nat × Nat × Nat)
  /-- spares being prepared here: position CID, port, contexts not answered -/
  prep : List (Nat × Nat × List Nat)
  /-- SPARE_REQ outstanding at this T3: position CID, job, action, parameter A -/
  reqs : List (Nat × Nat × Nat × Nat)
  /-- contexts that RECOVERY kind 2 waits for, by 64 * port + context (R319, R333) -/
  release : List (Nat × Nat × Nat)
  /-- prestage holds this keeper granted: position CID (R352) -/
  holds : List Nat
  /-- reloads that wait for their port (R331): port, context, job -/
  reloadQ : List (Nat × Nat × Nat)
  /-- ports whose position has moved to a spare (R324): T3 CID, port, group; a T3 that is no keeper keeps its own -/
  moved : List (Nat × Nat × Nat)
  /-- spares granted here that wait for R or for the buddies' records (R326): position CID, port, job -/
  granted : List (Nat × Nat × Nat)
  /-- RELOAD_REQs of kind 0 sent and not answered: shard, step -/
  wanted : List (Nat × Nat)
  /-- contexts that answered RECOVERY kind 2 with a failure, by 64 * port + context (R321: the T3 records it) -/
  unreleased : List Nat
  /-- RELOAD_REQs of kind 0 that wait here for VERIFIED (Table 13-10): shard, serving T3, step -/
  asked : List (Nat × Nat × Nat)
  deriving DecidableEq, Repr

/-- Nothing open. -/
def Rcv.reset : Rcv :=
  { coord := [], lastSeq := [], mem := [], groups := [], waitReqs := [], spares := [], reload := [], serves := [], warm := [], fps := [], fetched := [],
    prep := [], reqs := [], release := [], holds := [], reloadQ := [], moved := [], granted := [], wanted := [], unreleased := [], asked := [] }

end Sys2Proof.Machine
end

