-- ==== Sys2Proof/Machine/WickTypes.lean ====
section
/-!
DEFINITION. Plain data of the Wick (10) and of the shadow optimizer (11).
-/
namespace Sys2Proof.Machine

/-- A commit record (Table 10-7), one field for each that is not a repetition or a CRC. -/
structure CommitRec where
  step : Nat
  shard : Nat
  job : Nat
  /-- state (Table 10-8): 1 MIRRORING, 2 GATED, 3 APPLY_GO, 4 SHADOWED, 5 VERIFIED, 6 COMMITTED -/
  state : Nat
  /-- bit 0 seeded, 1 damaged, 2 partial, 3 verdict open, 4 skipped, 5 sparse, 6 snapshot durable -/
  flags : Nat
  prog : Nat
  epoch : Nat
  source : Nat
  writer : Nat
  buddy : Nat
  count : Nat
  gradFp : Nat
  postFp : Nat
  goTime : Nat
  /-- write sequence of this copy, 32 bits -/
  seq : Nat
  reported : Nat
  agreeing : Nat
  cursor : Nat
  commitTime : Nat
  deriving DecidableEq, Repr

/-- A step record as a buddy holds it: the position and context it came from (R252, R280). -/
structure HeldRec where
  r : Sys2Proof.StepRec
  cid : Nat
  ctx : Nat
  deriving DecidableEq, Repr

/-- A shadow work item (Table 11-3): state 0 queued, 1 running, 2 DONE, 3 to be seeded, 4 seeded. -/
structure ShItem where
  /-- what a reference program computes for it (R276), by byte offset in the buddy region; its inputs are fixed when the step is cut -/
  want : List (Nat × List Nat)
  index : Nat
  sparse : Bool
  first : Nat
  count : Nat
  touch : Nat
  state : Nat
  fp : Nat
  taper : Nat
  deriving DecidableEq, Repr

/-- A step of a shard that is not COMMITTED (R22: at most two): what the source and the buddy keep of it. -/
structure OpenStep where
  step : Nat
  /-- commit state (Table 10-8) -/
  state : Nat
  /-- membership epoch and writer index under which the step runs (R243) -/
  epoch : Nat
  writer : Nat
  /-- CID of the writer's position -/
  srcCid : Nat
  damaged : Bool
  sparse : Bool
  skipped : Bool
  /-- the step's mirror failed (R71) -/
  failed : Bool
  /-- source: blocks in transit, in order of forwarding (R246): place in the transit region, in blocks, and header, the data being there -/
  transit : List (Nat × Sys2Proof.Blk)
  /-- source: distinct data blocks accepted, and those dropped at ingest (R245, R71) -/
  sent : Nat
  lost : Nat
  /-- source: the buddy has told a state beyond APPLY_GO, which is not recorded here yet -/
  ahead : Nat
  /-- source: the block with the last-block flag has come; distinct blocks stored, from FWD_ACK -/
  last : Bool
  acked : Nat
  /-- source: gradient fingerprint of the accepted blocks -/
  srcFp : Nat
  /-- buddy: distinct blocks stored, gradient fingerprint over them, data format, index list (R71) -/
  got : List Nat
  gradFp : Nat
  fmt : Nat
  touched : List Nat
  /-- buddy: the last-block flag has come -/
  gotLast : Bool
  /-- buddy: step records of the epoch in force -/
  recs : List HeldRec
  /-- buddy: drive record (R273), work items, fingerprint the shadow reports -/
  drive : Option Sys2Proof.StepRec
  items : List ShItem
  /-- parameter block in force when the step was cut (R270) -/
  block : List Nat
  shadowFp : Nat
  /-- buddy: a seed of the state runs; layout blocks already seeded; a seed was used -/
  seeding : Bool
  seedGot : List Nat
  seeded : Bool
  /-- check entries of the shadow that a seed changed: blocks found different (R280) -/
  differ : List Nat
  /-- buddy: read-back complete, records waited for long enough (R252), verdict: 0 none, 1 no_majority open, 2 reseed,
  3 self_fault, 4 one_vs_one under way, 5 being formed (R280) -/
  readDone : Bool
  recWait : Bool
  partialRecs : Bool
  verdict : Nat
  /-- a verdict seed runs or has run: the kind of verdict, and the replica it comes from: 0 the writer, 1 + i replica i -/
  kind : Nat
  choice : Nat
  agreeing : Nat
  /-- replicas already recorded as SHADOW_NOT_REFERENCE -/
  noted : List Nat
  /-- buddy: COMMIT_REC sent this often without an acknowledgement; WICK_COMMIT_STALLED recorded -/
  sends : Nat
  stalled : Bool
  goTime : Nat
  deriving DecidableEq, Repr

/-- An open step that has just begun. -/
def OpenStep.new (step state : Nat) : OpenStep :=
  { step := step, state := state, epoch := 0, writer := 0, srcCid := 0, damaged := false, sparse := false, skipped := false, failed := false, transit := [], sent := 0, lost := 0, ahead := 0,
    last := false, acked := 0, srcFp := 0, got := [], gradFp := 0, fmt := 1, touched := [], gotLast := false, recs := [], drive := none,
    items := [], block := [], shadowFp := 0, seeding := false, seedGot := [], seeded := false, differ := [], readDone := false, recWait := false,
    partialRecs := false, verdict := 0, kind := 0, choice := 0, agreeing := 0, noted := [], sends := 0, stalled := false, goTime := 0 }

/-- A job binding (Table 10-2) and what the Wick keeps for the job. -/
structure JobBind where
  /-- 0 shadow, 1 snapshot-only, 2 registered regions -/
  mode : Nat
  comps : Nat
  prog : Nat
  key : Nat
  params : Nat
  fmts : List Nat
  interval : Nat
  /-- bit 0 apply gate, 1 host export, 2 spill allowed -/
  flags : Nat
  gateMs : Nat
  /-- gate line (Table 10-5): last released step, time, epoch -/
  released : Nat
  relTime : Nat
  relEpoch : Nat
  /-- the T3 has entered the apply-gate barrier of this step (R248) -/
  entered : Option Nat
  /-- WICK_SNAPSHOT_NOW commands waiting (ring, tag, stamp, generation) -/
  snapNow : List (Nat × Nat × Nat × Nat)
  /-- per-step snapshots that RAISE_MIRROR_PRIORITY asks for (R353) -/
  perStep : Bool
  /-- HOLD_JOB (R323) -/
  held : Bool
  /-- members of the job's gate group at this T3 (R248, R314) -/
  group : Nat
  deriving DecidableEq, Repr

/-- Feature bit of the blocks that a job's mode streams (Table 3-1): gradient, snapshot, registered region. -/
def JobBind.streamBit (j : JobBind) : Nat := if j.mode = 0 then 0 else if j.mode = 1 then 2 else 1

/-- A snapshot in the Tallow snapshot area (R260): the manifest's commit record, the layout blocks and the block check table.
`next` counts the blocks the host export has written (R263). -/
structure Snap where
  man : CommitRec
  blocks : List (List Nat)
  table : NMap (Nat × Nat)
  deriving DecidableEq, Repr

/-- A shard entry (Table 10-3) and what the Wick keeps for the shard. -/
structure Shard where
  shard : Nat
  job : Nat
  /-- bit 0 source, 1 buddy, 2 pooled -/
  roles : Nat
  /-- 0 buddied, 1 unbuddied, 2 seeding, 3 spilled -/
  prot : Nat
  prog : Nat
  epoch : Nat
  count : Nat
  writer : Nat
  ctx : Nat
  port : Nat
  buddy : Nat
  committed : Nat
  first : Nat
  params : Nat
  bRegion : Nat
  sRegion : Nat
  layout : Nat
  /-- replicas of the epoch: CID and context by index (R240) -/
  members : List (Nat × Nat)
  /-- open steps, newest first -/
  opens : List OpenStep
  /-- commit records, newest first, up to four (R255): copy A at the buddy, copy B at the source -/
  recA : List CommitRec
  recB : List CommitRec
  /-- block check table (R250): CRC-64 and fingerprint contribution by layout block -/
  table : NMap (Nat × Nat)
  /-- the table of the region being filled in modes 1 and 2 (R259) -/
  table2 : NMap (Nat × Nat)
  /-- last two step records of local replica contexts by 64 * port + context (R247), and at the buddy of every replica by
  2^20 + 256 * CID + context (R328) -/
  kept : NMap (List Sys2Proof.StepRec)
  /-- step records held until APPLY_GO is recorded for their step (Table 10-11) -/
  early : List HeldRec
  /-- modes 1 and 2: the second buddy region, which of the two is current (R259), and its verified step -/
  region2 : Nat
  cur : Nat
  curStep : Option Nat
  prevStep : Option Nat
  /-- source: a seed runs through this T3 (R257): step, replica the blocks come from, blocks forwarded -/
  incoming : Option (Nat × Nat × List Nat)
  /-- spilled: blocks of the state being seeded into Tallow, by layout block (R264) -/
  spillBlk : NMap (List Nat)
  /-- snapshot being written (R260), durable snapshots newest first (R262), export complete (R263) -/
  snap : Option Snap
  durable : List Snap
  /-- host export: step, entries written so far, ring; complete when the host has consumed them all -/
  expo : Option (Nat × Nat × Nat)
  exported : Option Nat
  /-- commands WICK_BIND_SHARD and WICK_SEED that wait (ring, tag, stamp, generation) -/
  bindCmd : Option (Nat × Nat × Nat × Nat)
  seedCmds : List (Nat × Nat × Nat × Nat)
  /-- WICK_BIND_JOB's gradient credits withheld until RCV_RESUME (R317) -/
  withheld : Bool
  /-- a snapshot is asked for at the next commit (R260): 1 asked, 2 being written -/
  snapDue : Nat
  deriving DecidableEq, Repr

/-- A shard just bound. -/
def Shard.new (shard job first params : Nat) : Shard :=
  { shard := shard, job := job, roles := 0, prot := 0, prog := 0, epoch := 0, count := 0, writer := 0, ctx := 0xFF, port := 0xFF, buddy := 0,
    committed := 0, first := first, params := params, bRegion := 0xFFFF, sRegion := 0xFFFF, layout := 0, members := [], opens := [], recA := [],
    recB := [], table := [], table2 := [], kept := [], early := [], region2 := 0xFFFF, cur := 0, curStep := none, prevStep := none, incoming := none,
    spillBlk := [], snap := none, durable := [], expo := none, exported := none, bindCmd := none, seedCmds := [], withheld := false, snapDue := 0 }

/-- A registered shadow program (Table 11-2). -/
structure ProgEntry where
  id : Nat
  version : Nat
  /-- bit 0 reference, 1 qualified, 2 tensor table, 3 bf16, 4 binary32, 5 dense only -/
  flags : Nat
  comps : Nat
  region : Nat
  offset : Nat
  tapers : Nat
  fmts : List Nat
  deriving DecidableEq, Repr

/-- A job's shadow instance on the grid (R271). -/
structure ShInst where
  /-- 0 none, 1 waits for placement, 2 loaded, 3 given up (R282) -/
  state : Nat
  slot : Nat
  /-- items in the submission ring, oldest first: shard, step, index -/
  queue : List (Nat × Nat × Nat)
  /-- items popped and not completed -/
  running : List (Nat × Nat × Nat)
  /-- tapers are suspect and the instance is reloaded when idle (R281) -/
  reload : Bool
  /-- monotonic times of program faults (R282) -/
  faults : List Nat
  deriving DecidableEq, Repr

/-- SHADOW_QUALIFY under way (R285): command, program, region of the vector set, its slot once loaded, scratch regions, vector that runs. -/
structure Qualify where
  cmd : Sys2Proof.Cmd
  prog : Nat
  set : Nat
  slot : Nat
  buddy : Nat
  staging : Nat
  vec : Nat
  deriving DecidableEq, Repr

/-- The Wick (10) and the shadow optimizer's support (11). -/
structure Wick where
  enable : Bool
  ready : Bool
  draining : Bool
  jobs : NMap JobBind
  /-- shard entries by entry index -/
  shards : NMap Shard
  /-- parameter block and tensor table region of each job (SHADOW_PARAMS) -/
  params : NMap (List Nat × Nat)
  progs : NMap ProgEntry
  insts : NMap ShInst
  /-- next place in the transit region, in blocks (R17) -/
  transitNo : Nat
  /-- SHADOW_QUALIFY running -/
  qualify : Option Qualify
  /-- activity counters of a mode 1 shard's steps since the last snapshot request (R259) -/
  v1Steps : NMap Nat
  /-- tapers suspect by a one_vs_one verdict: shard, step, logical tapers whose diagnostics are awaited, the replica it names (R280) -/
  suspects : List (Nat × Nat × List Nat × List HeldRec)
  deriving DecidableEq, Repr

/-- Formats of the reference programs' components (Table 11-5). -/
def refProgs : NMap ProgEntry :=
  let f := fun (id : Nat) (fm : List Nat) (fl : Nat) =>
    (id - 1, ({ id := id, version := 1, flags := 27 + fl, comps := fm.length, region := 0, offset := 0, tapers := 0x4B, fmts := fm } : ProgEntry))
  [f 1 [2, 1, 1, 1] 0, f 2 [1, 1, 1] 0, f 3 [2, 1, 1, 1] 0, f 4 [2, 1, 1] 0, f 5 [2, 1, 1] 36, f 6 [1, 1] 0, f 7 [2, 1, 1] 0]

/-- The Wick at reset: enabled, nothing bound; the Lamplighter registers the reference programs at start (R268). -/
def Wick.reset : Wick :=
  { enable := true, ready := false, draining := false, jobs := [], shards := [], params := [], progs := [], insts := [], transitNo := 0, qualify := none,
    v1Steps := [], suspects := [] }

end Sys2Proof.Machine
end

