-- ==== Sys2Proof/Syntax.lean ====
section
/-!
DEFINITION. The commands of the block: one constructor for each row of spec/opcode_table.json, in the table's order, with the operands that the
rule gives it. Each docstring names the row's rule.
-/
namespace Sys2Proof

open Machine

/-- A command. -/
inductive Instr where
  /-- REGISTER_WRITE (R9) -/
  | registerWrite (w : Who) (addr value : Nat)
  /-- REG64_LOW_READ (R11) -/
  | reg64LowRead (w : Who) (addr : Nat)
  /-- REG64_LOW_WRITE (R12) -/
  | reg64LowWrite (w : Who) (addr value : Nat)
  /-- REG_READ_CLEAR (R9) -/
  | regReadClear (w : Who) (addr : Nat)
  /-- RING_FLUSH (R458) -/
  | ringFlush (c : Cmd)
  /-- MB_SET_MODE (R452) -/
  | mbSetMode (c : Cmd) (mode : Nat)
  /-- RING_PROD_IDX_WRITE (R455) -/
  | ringProdIdxWrite (w : Who) (ring value : Nat) (entries : List CmdEntry)
  /-- RING_CONS_IDX_WRITE (R455) -/
  | ringConsIdxWrite (w : Who) (ring value : Nat)
  /-- RING_ENABLE_SET (R454) -/
  | ringEnableSet (w : Who) (ring : Nat)
  /-- RING_ENABLE_CLEAR (R461) -/
  | ringEnableClear (w : Who) (ring : Nat)
  /-- RING_DRAIN_END (R461) -/
  | ringDrainEnd (ring : Nat)
  /-- MB_POST (R448) -/
  | mbPost (w : Who) (chan count : Nat)
  /-- MB_ACKNOWLEDGE (R448) -/
  | mbAcknowledge (chan code : Nat)
  /-- MB_RETURN_POST (R448) -/
  | mbReturnPost (chan : Nat) (words : List Nat)
  /-- MB_RET_ACK (R448) -/
  | mbRetAck (w : Who) (chan value : Nat)
  /-- MB_DB_SET (R449) -/
  | mbDbSet (w : Who) (chan value : Nat)
  /-- MB_DB_CLEAR (R449) -/
  | mbDbClear (w : Who) (chan value : Nat)
  /-- MB_DB_MASK_WRITE (R449) -/
  | mbDbMaskWrite (w : Who) (chan value : Nat)
  /-- MB_BIND_WRITE (R450) -/
  | mbBindWrite (w : Who) (chan value : Nat)
  /-- BUDGET_APPLY (R138) -/
  | budgetApply (w : Who) (value : Nat)
  /-- BUDGET_PKG_CAP_WRITE (R138) -/
  | budgetPkgCapWrite (w : Who) (value : Nat)
  /-- BUDGET_PERIOD_BOUNDARY (R135): the PCIe link as trained, 0.1 GT/s and lanes -/
  | budgetPeriodBoundary (rate width : Nat)
  /-- BUDGET_SUB_SLOT (R139) -/
  | budgetSubSlot
  /-- BUDGET_REQUEST (R139) -/
  | budgetRequest (act inst amount : Nat)
  /-- POWER_INTERVAL (R142) -/
  | powerInterval (measured base estimated : Nat)
  /-- THERMAL_CEILING_STEP (R143) -/
  | thermalCeilingStep (tj : Int) (ten : Bool)
  /-- GRID_PACE_WRITE (R132) -/
  | gridPaceWrite (w : Who) (value : Nat)
  /-- GRID_PART_DISABLE (R170) -/
  | gridPartDisable (w : Who) (part : Nat)
  /-- GRID_PART_ENABLE (R145) -/
  | gridPartEnable (w : Who) (part : Nat)
  /-- GRID_BEAT_WINDOW (R131) -/
  | gridBeatWindow (rates : List Nat) (temps : List Int)
  /-- UNIT_DRAIN_TIMEOUT (R144) -/
  | unitDrainTimeout (unit : Nat)
  /-- UNIT_DRAIN_END (R144) -/
  | unitDrainEnd (unit : Nat)
  /-- LINK_ENABLE (R96) -/
  | linkEnable (w : Who) (port : Nat)
  /-- LINK_DISABLE (R106) -/
  | linkDisable (w : Who) (port : Nat)
  /-- LINK_RETRAIN (R95) -/
  | linkRetrain (w : Who) (port : Nat)
  /-- LINK_FULL_RETRAIN (R95) -/
  | linkFullRetrain (w : Who) (port : Nat)
  /-- LINK_LANE_RETEST (R101) -/
  | linkLaneRetest (w : Who) (port : Nat)
  /-- FRAME_DATA (R89) -/
  | frameData (port : Nat) (f : FrameHdr) (body : List Nat)
  /-- FRAME_IDLE (R91) -/
  | frameIdle (port : Nat) (f : FrameHdr)
  /-- FRAME_REPLAY_REQ (R93) -/
  | frameReplayReq (port : Nat) (f : FrameHdr)
  /-- FRAME_LANE_CHANGE (R100) -/
  | frameLaneChange (port : Nat) (f : FrameHdr) (map kind : Nat)
  /-- FRAME_BLOCK_CREDIT (R92) -/
  | frameBlockCredit (port : Nat) (f : FrameHdr) (entries : List Nat)
  /-- FRAME_PARAM (R97) -/
  | frameParam (port : Nat) (f : FrameHdr) (body : List Nat)
  /-- FRAME_BAD (R90) -/
  | frameBad (port : Nat) (bursts uncorr : List (Nat × Nat))
  /-- LINK_REPLAY_TIMEOUT (R93) -/
  | linkReplayTimeout (port : Nat) (asSender : Bool)
  /-- LINK_STATE_TIMEOUT (R96) -/
  | linkStateTimeout (port : Nat)
  /-- PMD_TRAIN_DONE (R96) -/
  | pmdTrainDone (port : Nat)
  /-- ALIGN_DONE (R96) -/
  | alignDone (port locked : Nat) (reversed permuted : Bool)
  /-- PARAM_SEND_TIMER (R97) -/
  | paramSendTimer (port : Nat)
  /-- LANE_CHANGE_TIMEOUT (R100) -/
  | laneChangeTimeout (port : Nat)
  /-- FAST_RETRAIN_DONE (R95) -/
  | fastRetrainDone (port : Nat) (ok : Bool) (peerAck : Nat)
  /-- FULL_RETRAIN_DONE (R95) -/
  | fullRetrainDone (port : Nat) (ok : Bool)
  /-- LANE_SER_WINDOW (R98) -/
  | laneSerWindow (port : Nat) (w : SerWindow) (corrected margins : List Nat)
  /-- LANE_RETEST_END (R101) -/
  | laneRetestEnd (port pass : Nat)
  /-- LINK_DRAIN_TIMEOUT (R106) -/
  | linkDrainTimeout (port : Nat)
  /-- LANTERN_FORWARD (R105) -/
  | lanternForward (h : LHdr) (dst cls kind level : Nat) (bytes : List Nat)
  /-- HEARTBEAT (R287) -/
  | heartbeat (h : SHdr) (seq live health flags : Nat)
  /-- GLIM (R68) -/
  | glim (h : SHdr) (g : List Nat)
  /-- STEP_RECORD (R247) -/
  | stepRecord (h : SHdr) (r : StepRec) (crcOk : Bool)
  /-- GRADIENT_BLOCK (R244) -/
  | gradientBlock (h : SHdr) (b : Blk)
  /-- REGION_BLOCK (R257) -/
  | regionBlock (h : SHdr) (b : Blk)
  /-- SNAPSHOT_BLOCK (R259) -/
  | snapshotBlock (h : SHdr) (b : Blk)
  /-- FAULT_REPORT (R290) -/
  | faultReport (h : SHdr) (code severity ctx tag time detail : Nat)
  /-- ACTIVITY_REPORT (R78) -/
  | activityReport (h : SHdr) (tick flags interval : Nat) (ctxs : List (Nat × List Nat)) (streams : List (Nat × Nat × Nat))
  /-- REG_RESPONSE (R289) -/
  | regResponse (h : SHdr) (status : Nat) (words : List Nat)
  /-- APPLY_ACK (R73) -/
  | applyAck (h : SHdr) (step status : Nat)
  /-- RESET_CONFIRM (R76) -/
  | resetConfirm (h : SHdr) (kind status gen duration : Nat)
  /-- SHARD_FP_REPORT (R322) -/
  | shardFpReport (h : SHdr) (step elems fp shard : Nat)
  /-- WAITFOR_REPLY (R296) -/
  | waitforReply (h : SHdr) (b : WaitBody)
  /-- MGMT_FRAME (R81): what its ciphertext decrypts to, none where its tag fails -/
  | mgmtFrame (h : SHdr) (linkId index seq hop dst src : Nat) (inner : Inner) (plain : Option (List Nat))
  /-- RESTORE_ACK (R327) -/
  | restoreAck (h : SHdr) (step shard written : Nat)
  /-- RECOVERY_RESPONSE (R321) -/
  | recoveryResponse (h : SHdr) (kind status : Nat)
  /-- EMBER_TOKENS (R370) -/
  | emberTokens (h : SHdr) (tag seq k set : Nat) (refs vecs : List Nat)
  /-- STREAM_TOKENS (R384) -/
  | streamTokens (h : SHdr) (ref count flags len : Nat) (toks : List Nat)
  /-- RESERVED_CLASS_MESSAGE (R66) -/
  | reservedClassMessage (port cls len hdrGen : Nat)
  /-- APPLY_ACK_WAIT_EXPIRY (R73) -/
  | applyAckWaitExpiry (port ctx : Nat)
  /-- RESET_CONFIRM_WAIT_EXPIRY (R76) -/
  | resetConfirmWaitExpiry (port kind ctx : Nat)
  /-- HB_MISS_INTERVAL (R287) -/
  | hbMissInterval (port : Nat)
  /-- PROBE_WAIT_EXPIRY (R289) -/
  | probeWaitExpiry (port : Nat)
  /-- GENERATION_BUMP_ACK (R123) -/
  | generationBumpAck (port ctx : Nat)
  /-- PROGRESS_HALF_TIMEOUT (R293) -/
  | progressHalfTimeout (port ctx : Nat)
  /-- PROGRESS_TIMEOUT (R293) -/
  | progressTimeout (port ctx : Nat)
  /-- RING_ENTRY_UNCONSUMED (R293) -/
  | ringEntryUnconsumed (ring : Nat)
  /-- WAITFOR_REPEAT (R296) -/
  | waitforRepeat (port ctx : Nat)
  /-- LHB_SEND (R30) -/
  | lhbSend
  /-- LHB (R30) -/
  | lhb (h : LHdr) (seq gen health : Nat)
  /-- LPROBE (R294) -/
  | lprobe (h : LHdr)
  /-- LPROBE_ACK (R294) -/
  | lprobeAck (h : LHdr) (gen : Nat)
  /-- LPROBE_WAIT_EXPIRY (R294) -/
  | lprobeWaitExpiry (cid : Nat)
  /-- FAULT_UP (R307) -/
  | faultUp (h : LHdr) (n : Notice) (members : List Nat)
  /-- PF_NOTICE (R308) -/
  | pfNotice (h : LHdr) (n : Notice)
  /-- PF_ACK (R307) -/
  | pfAck (h : LHdr) (seq cid job status : Nat)
  /-- PF_ACK_WAIT_EXPIRY (R307) -/
  | pfAckWaitExpiry (seq cid : Nat)
  /-- WAIT_PROBE (R297) -/
  | waitProbe (h : LHdr) (origin pid job : Nat) (path : List (List Nat)) (target ctx : Nat)
  /-- WAIT_BREAK (R299) -/
  | waitBreak (h : LHdr) (cid ctx gen pid finder : Nat)
  /-- LEASE_RENEW_TIMER (R36) -/
  | leaseRenewTimer (role : Nat)
  /-- LEASE_RETRY_TIMER (R36) -/
  | leaseRetryTimer (role : Nat)
  /-- LEASE_REQUEST (R36) -/
  | leaseRequest (h : LHdr) (role epoch wepoch reqSeq : Nat)
  /-- LEASE_GRANT (R36) -/
  | leaseGrant (h : LHdr) (role epoch wepoch reqSeq lease holder : Nat)
  /-- LEASE_RELEASE (R48) -/
  | leaseRelease (h : LHdr) (role epoch wepoch : Nat)
  /-- LEASE_REFUSE (R37) -/
  | leaseRefuse (h : LHdr) (role epoch wepoch : Nat)
  /-- HOLDER_LEASE_EXPIRY (R37) -/
  | holderLeaseExpiry (role : Nat)
  /-- ROLE_HB_SEND (R38) -/
  | roleHbSend (role : Nat)
  /-- ROLE_HB (R38) -/
  | roleHb (h : LHdr) (role epoch sender ready jpos : Nat)
  /-- PILOT_HB_MISS (R38) -/
  | pilotHbMiss (role : Nat)
  /-- TAKEOVER_REQUEST (R38) -/
  | takeoverRequest (h : LHdr) (role epoch ready wepoch pilot : Nat)
  /-- WITNESS_LEASE_GUARD_EXPIRY (R38) -/
  | witnessLeaseGuardExpiry (role : Nat)
  /-- TAKEOVER_GRANT (R38) -/
  | takeoverGrant (h : LHdr) (role epoch wepoch pilot : Nat)
  /-- TAKEOVER_NOT_YET (R38) -/
  | takeoverNotYet (h : LHdr) (role epoch wepoch : Nat)
  /-- ROLE_REBUILD_DONE (R44) -/
  | roleRebuildDone (role : Nat)
  /-- WITNESS_STORE (R41) -/
  | witnessStore (h : LHdr) (wepoch role epoch holder expiry seq : Nat)
  /-- WITNESS_STORE_ACK (R41) -/
  | witnessStoreAck (h : LHdr) (wepoch role epoch seq : Nat)
  /-- WITNESS_STORE_ACK_TIMEOUT (R41) -/
  | witnessStoreAckTimeout (role seq : Nat)
  /-- WITNESS_HB_SEND (R42) -/
  | witnessHbSend (role : Nat)
  /-- WITNESS_HEARTBEAT (R42) -/
  | witnessHeartbeat (h : LHdr) (wepoch role : Nat)
  /-- STANDBY_SILENCE_EXPIRY (R42) -/
  | standbySilenceExpiry (role : Nat)
  /-- JOURNAL (R44) -/
  | journal (h : LHdr) (role epoch pos : Nat) (image : Bool) (entries : List (List Nat))
  /-- JOURNAL_CHECK_TIMER (R44) -/
  | journalCheckTimer (role : Nat)
  /-- JOURNAL_CHECK (R44) -/
  | journalCheck (h : LHdr) (role epoch jpos fp status : Nat)
  /-- EPOCH (R38) -/
  | epoch (h : LHdr) (role epoch holder : Nat)
  /-- ROLE_VACANT_TIMER (R43) -/
  | roleVacantTimer (role : Nat)
  /-- ROUTE_VERSION (R51) -/
  | routeVersion (h : LHdr) (version : Nat) (entries : List RouteEntry)
  /-- ROUTE_REQUEST (R51) -/
  | routeRequest (h : LHdr) (version last : Nat)
  /-- STANDING (R55) -/
  | standing (h : LHdr) (version scope pod status : Nat) (key : SoKey) (entries : List SoEntry)
  /-- WARDEN_SET_CAP (R138) -/
  | wardenSetCap (h : LHdr) (version watts : Nat)
  /-- WARDEN_SET_FAN_FLOOR (R39) -/
  | wardenSetFanFloor (h : LHdr) (version duty : Nat)
  /-- WARDEN_SET_PAIRING (R31) -/
  | wardenSetPairing (h : LHdr) (version : Nat) (pairs : List (Nat × Nat))
  /-- WARDEN_SET_POOLING (R127) -/
  | wardenSetPooling (h : LHdr) (version op job shard buddyBytes stagingBytes : Nat)
  /-- WARDEN_SET_TOPOLOGY (R105) -/
  | wardenSetTopology (h : LHdr) (version : Nat) (hops : List (Nat × Nat))
  /-- ROLE_REPORT_FREE_PAGES (R127) -/
  | roleReportFreePages (h : LHdr) (version pages : Nat)
  /-- ROLE_REPORT_STACKS (R112) -/
  | roleReportStacks (h : LHdr) (version stks pages : Nat)
  /-- ROLE_REPORT_FAILED_T3 (R31) -/
  | roleReportFailedT3 (h : LHdr) (version cid time : Nat)
  /-- ROLE_REPORT_POD_SUMMARY (R53) -/
  | roleReportPodSummary (h : LHdr) (version admitted failed recoveries alarms : Nat)
  /-- ROLE_REPORT_REJOINED (R105) -/
  | roleReportRejoined (h : LHdr) (version cid gen : Nat)
  /-- WARDEN_T3_HB_MISS (R30) -/
  | wardenT3HbMiss (cid : Nat)
  /-- WARDEN_PROBE_EXPIRY (R30) -/
  | wardenProbeExpiry (cid : Nat)
  /-- KEY (R52) -/
  | key (h : LHdr) (linkId index firstUse nonce wrapped : Nat) (tagOk : Bool) (igtanPort igtanLink : Nat)
  /-- KEY_REPLACE_TIMER (R52) -/
  | keyReplaceTimer (linkId : Nat) (ends : List Nat)
  /-- OLD_KEY_EXPIRY (R52) -/
  | oldKeyExpiry (linkId : Nat)
  /-- ADMIN_ADMISSION_REQUEST (R58) -/
  | adminAdmissionRequest (h : LHdr) (seq version msgVer features : Nat)
  /-- ADMIN_ADMISSION_ANSWER (R58) -/
  | adminAdmissionAnswer (h : LHdr) (seq status vOld vNew featEpoch feats : Nat)
  /-- ADMIN_FEATURE_SET (R59) -/
  | adminFeatureSet (h : LHdr) (seq featEpoch feats : Nat)
  /-- ADMIN_ROLLOUT_STEP (R60) -/
  | adminRolloutStep (h : LHdr) (seq pod version : Nat) (x : RollStep)
  /-- ADMIN_APPOINTMENT (R47) -/
  | adminAppointment (h : LHdr) (seq role epoch : Nat) (cids : List Nat)
  /-- ADMIN_KEY_AGREEMENT (R52) -/
  | adminKeyAgreement (h : LHdr) (seq : Nat) (sigOk : Bool) (secret : Nat)
  /-- FEDERATION (R53) -/
  | federation (h : LHdr) (dstDomain srcDomain innerDst : Nat) (inner : Inner) (pay : List Nat)
  /-- DRILL_INTERVAL (R46) -/
  | drillInterval (role : Nat)
  /-- DRILL_PATH_TIMEOUT (R46) -/
  | drillPathTimeout (role path cid : Nat)
  /-- HANDBACK_QUIET_POINT (R48) -/
  | handbackQuietPoint (role : Nat) (calm : Bool)
  /-- ROLLOUT_POD_SOAK (R60) -/
  | rolloutPodSoak (caused : Bool)
  /-- ROLE_DRILL (R46) -/
  | roleDrill (c : Cmd) (role hours : Nat)
  /-- SO_LOAD (R57) -/
  | soLoad (c : Cmd) (addr len : Nat) (sigOk keyOperator : Bool)
  /-- SO_PROCEED (R57) -/
  | soProceed (c : Cmd) (id : Nat)
  /-- SO_CANCEL (R57) -/
  | soCancel (c : Cmd) (id : Nat)
  /-- SO_HOLD_TIMEOUT (R555) -/
  | soHoldTimeout (id : Nat)
  /-- FEATURE_REMOVE (R59) -/
  | featureRemove (c : Cmd) (bit : Nat)
  /-- MANTLE_READ (R113) -/
  | mantleRead (r : Requester) (addr len : Nat) (ecc : List Nat)
  /-- MANTLE_WRITE (R113) -/
  | mantleWrite (r : Requester) (addr tag ctxKey : Nat) (bytes : List Nat)
  /-- FB_WRITEBACK (R116) -/
  | fbWriteback (line : Nat)
  /-- BAR2_ACCESS (R125) -/
  | bar2Access (write : Bool) (addr len : Nat) (d : Bar2Data)
  /-- MANTLE_REGION_ALLOCATE (R118) -/
  | mantleRegionAllocate (r : Region) (bytes : Nat) (recovery : Bool)
  /-- MANTLE_QUIET_EXPIRY (R124) -/
  | mantleQuietExpiry (page : Nat)
  /-- PAGE_ZERO_DONE (R124) -/
  | pageZeroDone (page : Nat)
  /-- PATROL_SCRUB (R110) -/
  | patrolScrub (ecc : Nat)
  /-- STACK_UNRESPONSIVE (R112) -/
  | stackUnresponsive (stack : Nat)
  /-- FREE_PAGE_REPORT (R127) -/
  | freePageReport
  /-- MANTLE_ECC_CLR (R129) -/
  | mantleEccClr (w : Who) (value : Nat)
  /-- MANTLE_ALLOC (R126) -/
  | mantleAlloc (c : Cmd) (typ : Nat) (hostVisible : Bool) (cid ctx mask bytes : Nat)
  /-- MANTLE_FREE (R124) -/
  | mantleFree (c : Cmd) (region : Nat)
  /-- MANTLE_SET_ACCESS (R126) -/
  | mantleSetAccess (c : Cmd) (region mask : Nat) (hostVisible : Bool)
  /-- GRID_LOAD (R163) -/
  | gridLoad (c : Cmd) (region placement job off sub comp : Nat) (binds : List Nat) (listAddr : Nat)
  /-- GRID_LOAD_COMPLETE (R163) -/
  | gridLoadComplete (slot : Nat) (digestOk signatureOk : Bool)
  /-- GRID_START (R214) -/
  | gridStart (c : Cmd) (slot : Nat)
  /-- GRID_HALT (R165) -/
  | gridHalt (c : Cmd) (slot : Nat)
  /-- GRID_HALT_COMPLETE (R165) -/
  | gridHaltComplete (slot : Nat)
  /-- GRID_RESUME (R165) -/
  | gridResume (c : Cmd) (slot : Nat)
  /-- GRID_UNLOAD (R168) -/
  | gridUnload (c : Cmd) (slot : Nat)
  /-- GRID_DIAG (R171) -/
  | gridDiag (c : Cmd) (taper : Nat)
  /-- GRID_DIAG_COMPLETE (R171) -/
  | gridDiagComplete (taper : Nat) (pass routerOk : Bool)
  /-- GRID_WATCHDOG_EXPIRY (R167) -/
  | gridWatchdogExpiry (slot : Nat)
  /-- MESH_MESSAGE_ARRIVE (R152) -/
  | meshMessageArrive (src dst vc : Nat)
  /-- STREAM_ROW_DONE (R160) -/
  | streamRowDone (taper : Nat) (row : RowDone)
  /-- TAPER_WINDOW_ACCESS (R158) -/
  | taperWindowAccess (w : Who) (taper off len : Nat) (write : Bool) (bytes : List Nat)
  /-- MSG_SEND_RESUME (R220) -/
  | msgSendResume (l : TaperRead)
  /-- MSG_RECV_RESUME (R230) -/
  | msgRecvResume (l : Nat)
  /-- RING_POP_RESUME (R231) -/
  | ringPopResume (l : Nat)
  /-- RING_PUSH_RESUME (R231) -/
  | ringPushResume (l : TaperRead)
  /-- STR_START_RESUME (R219) -/
  | strStartResume (l : Nat)
  /-- STR_WAIT_RESUME (R232) -/
  | strWaitResume (l : Nat)
  /-- NOP (R216) -/
  | opNOP (l : Nat) (f : IFmt)
  /-- RDSR (R215) -/
  | opRDSR (l : Nat) (f : IFmt)
  /-- WRSR (R215) -/
  | opWRSR (l : Nat) (f : IFmt)
  /-- FRET (R236) -/
  | opFRET (l : Nat) (f : IFmt)
  /-- TRAP (R236) -/
  | opTRAP (l : Nat) (f : IFmt)
  /-- ADD (R182) -/
  | opADD (l : Nat) (f : RFmt)
  /-- SUB (R182) -/
  | opSUB (l : Nat) (f : RFmt)
  /-- MUL (R182) -/
  | opMUL (l : Nat) (f : RFmt)
  /-- MULHS (R182) -/
  | opMULHS (l : Nat) (f : RFmt)
  /-- MULHU (R182) -/
  | opMULHU (l : Nat) (f : RFmt)
  /-- DIVS (R182) -/
  | opDIVS (l : Nat) (f : RFmt)
  /-- DIVU (R182) -/
  | opDIVU (l : Nat) (f : RFmt)
  /-- REMS (R182) -/
  | opREMS (l : Nat) (f : RFmt)
  /-- REMU (R182) -/
  | opREMU (l : Nat) (f : RFmt)
  /-- AND (R182) -/
  | opAND (l : Nat) (f : RFmt)
  /-- OR (R182) -/
  | opOR (l : Nat) (f : RFmt)
  /-- XOR (R182) -/
  | opXOR (l : Nat) (f : RFmt)
  /-- SHL (R182) -/
  | opSHL (l : Nat) (f : RFmt)
  /-- SHRL (R182) -/
  | opSHRL (l : Nat) (f : RFmt)
  /-- SHRA (R182) -/
  | opSHRA (l : Nat) (f : RFmt)
  /-- SLT (R182) -/
  | opSLT (l : Nat) (f : RFmt)
  /-- SLTU (R182) -/
  | opSLTU (l : Nat) (f : RFmt)
  /-- ADDI (R182) -/
  | opADDI (l : Nat) (f : IFmt)
  /-- ANDI (R182) -/
  | opANDI (l : Nat) (f : IFmt)
  /-- ORI (R182) -/
  | opORI (l : Nat) (f : IFmt)
  /-- XORI (R182) -/
  | opXORI (l : Nat) (f : IFmt)
  /-- SHLI (R182) -/
  | opSHLI (l : Nat) (f : IFmt)
  /-- SHRLI (R182) -/
  | opSHRLI (l : Nat) (f : IFmt)
  /-- SHRAI (R182) -/
  | opSHRAI (l : Nat) (f : IFmt)
  /-- MOVI (R182) -/
  | opMOVI (l : Nat) (f : IFmt)
  /-- MOVHI (R182) -/
  | opMOVHI (l : Nat) (f : IFmt)
  /-- LD8U (R225) -/
  | opLD8U (l : Nat) (f : IFmt) (ecc : Nat)
  /-- LD16U (R225) -/
  | opLD16U (l : Nat) (f : IFmt) (ecc : Nat)
  /-- LD32U (R225) -/
  | opLD32U (l : Nat) (f : IFmt) (ecc : Nat)
  /-- LD64 (R225) -/
  | opLD64 (l : Nat) (f : IFmt) (ecc : Nat)
  /-- LD8S (R225) -/
  | opLD8S (l : Nat) (f : IFmt) (ecc : Nat)
  /-- LD16S (R225) -/
  | opLD16S (l : Nat) (f : IFmt) (ecc : Nat)
  /-- LD32S (R225) -/
  | opLD32S (l : Nat) (f : IFmt) (ecc : Nat)
  /-- ST8 (R225) -/
  | opST8 (l : Nat) (f : IFmt)
  /-- ST16 (R225) -/
  | opST16 (l : Nat) (f : IFmt)
  /-- ST32 (R225) -/
  | opST32 (l : Nat) (f : IFmt)
  /-- ST64 (R225) -/
  | opST64 (l : Nat) (f : IFmt)
  /-- BEQ (R225) -/
  | opBEQ (l : Nat) (f : IFmt)
  /-- BNE (R225) -/
  | opBNE (l : Nat) (f : IFmt)
  /-- BLT (R225) -/
  | opBLT (l : Nat) (f : IFmt)
  /-- BGE (R225) -/
  | opBGE (l : Nat) (f : IFmt)
  /-- BLTU (R225) -/
  | opBLTU (l : Nat) (f : IFmt)
  /-- BGEU (R225) -/
  | opBGEU (l : Nat) (f : IFmt)
  /-- BPANY (R225) -/
  | opBPANY (l : Nat) (f : IFmt)
  /-- BPNONE (R225) -/
  | opBPNONE (l : Nat) (f : IFmt)
  /-- JAL (R225) -/
  | opJAL (l : Nat) (f : IFmt)
  /-- JALR (R225) -/
  | opJALR (l : Nat) (f : IFmt)
  /-- FADD (R176) -/
  | opFADD (l : Nat) (f : RFmt)
  /-- FSUB (R176) -/
  | opFSUB (l : Nat) (f : RFmt)
  /-- FMUL (R176) -/
  | opFMUL (l : Nat) (f : RFmt)
  /-- FDIV (R176) -/
  | opFDIV (l : Nat) (f : RFmt)
  /-- FSQRT (R176) -/
  | opFSQRT (l : Nat) (f : RFmt)
  /-- FMA (R176) -/
  | opFMA (l : Nat) (f : RFmt)
  /-- FMS (R176) -/
  | opFMS (l : Nat) (f : RFmt)
  /-- FNMA (R176) -/
  | opFNMA (l : Nat) (f : RFmt)
  /-- FMIN (R181) -/
  | opFMIN (l : Nat) (f : RFmt)
  /-- FMAX (R181) -/
  | opFMAX (l : Nat) (f : RFmt)
  /-- FABS (R183) -/
  | opFABS (l : Nat) (f : RFmt)
  /-- FNEG (R183) -/
  | opFNEG (l : Nat) (f : RFmt)
  /-- FCOPYSIGN (R183) -/
  | opFCOPYSIGN (l : Nat) (f : RFmt)
  /-- FCMP (R181) -/
  | opFCMP (l : Nat) (f : RFmt)
  /-- FCVT (R176) -/
  | opFCVT (l : Nat) (f : RFmt)
  /-- FCVTI (R182) -/
  | opFCVTI (l : Nat) (f : RFmt)
  /-- ICVTF (R176) -/
  | opICVTF (l : Nat) (f : RFmt)
  /-- RCP_EST (R183) -/
  | opRCP_EST (l : Nat) (f : RFmt)
  /-- RSQRT_EST (R183) -/
  | opRSQRT_EST (l : Nat) (f : RFmt)
  /-- EXP2 (R183) -/
  | opEXP2 (l : Nat) (f : RFmt)
  /-- LOG2 (R183) -/
  | opLOG2 (l : Nat) (f : RFmt)
  /-- VFADD (R176) -/
  | opVFADD (l : Nat) (f : RFmt)
  /-- VFSUB (R176) -/
  | opVFSUB (l : Nat) (f : RFmt)
  /-- VFMUL (R176) -/
  | opVFMUL (l : Nat) (f : RFmt)
  /-- VFDIV (R176) -/
  | opVFDIV (l : Nat) (f : RFmt)
  /-- VFSQRT (R176) -/
  | opVFSQRT (l : Nat) (f : RFmt)
  /-- VFMA (R176) -/
  | opVFMA (l : Nat) (f : RFmt)
  /-- VFMS (R176) -/
  | opVFMS (l : Nat) (f : RFmt)
  /-- VFNMA (R176) -/
  | opVFNMA (l : Nat) (f : RFmt)
  /-- VFMIN (R181) -/
  | opVFMIN (l : Nat) (f : RFmt)
  /-- VFMAX (R181) -/
  | opVFMAX (l : Nat) (f : RFmt)
  /-- VFABS (R183) -/
  | opVFABS (l : Nat) (f : RFmt)
  /-- VFNEG (R183) -/
  | opVFNEG (l : Nat) (f : RFmt)
  /-- VFCOPYSIGN (R183) -/
  | opVFCOPYSIGN (l : Nat) (f : RFmt)
  /-- VFCMP (R181) -/
  | opVFCMP (l : Nat) (f : RFmt)
  /-- VFCVT (R226) -/
  | opVFCVT (l : Nat) (f : RFmt)
  /-- VFCVTI (R182) -/
  | opVFCVTI (l : Nat) (f : RFmt)
  /-- VICVTF (R176) -/
  | opVICVTF (l : Nat) (f : RFmt)
  /-- VRCP_EST (R183) -/
  | opVRCP_EST (l : Nat) (f : RFmt)
  /-- VRSQRT_EST (R183) -/
  | opVRSQRT_EST (l : Nat) (f : RFmt)
  /-- VEXP2 (R183) -/
  | opVEXP2 (l : Nat) (f : RFmt)
  /-- VLOG2 (R183) -/
  | opVLOG2 (l : Nat) (f : RFmt)
  /-- VMXPACK (R227) -/
  | opVMXPACK (l : Nat) (f : RFmt)
  /-- VMXUNPACK (R227) -/
  | opVMXUNPACK (l : Nat) (f : RFmt)
  /-- VADD (R224) -/
  | opVADD (l : Nat) (f : RFmt)
  /-- VSUB (R224) -/
  | opVSUB (l : Nat) (f : RFmt)
  /-- VMUL (R224) -/
  | opVMUL (l : Nat) (f : RFmt)
  /-- VADDS (R224) -/
  | opVADDS (l : Nat) (f : RFmt)
  /-- VSUBS (R224) -/
  | opVSUBS (l : Nat) (f : RFmt)
  /-- VAND (R224) -/
  | opVAND (l : Nat) (f : RFmt)
  /-- VOR (R224) -/
  | opVOR (l : Nat) (f : RFmt)
  /-- VXOR (R224) -/
  | opVXOR (l : Nat) (f : RFmt)
  /-- VSHL (R224) -/
  | opVSHL (l : Nat) (f : RFmt)
  /-- VSHR (R224) -/
  | opVSHR (l : Nat) (f : RFmt)
  /-- VMIN (R224) -/
  | opVMIN (l : Nat) (f : RFmt)
  /-- VMAX (R224) -/
  | opVMAX (l : Nat) (f : RFmt)
  /-- VCMP (R224) -/
  | opVCMP (l : Nat) (f : RFmt)
  /-- VSEL (R224) -/
  | opVSEL (l : Nat) (f : RFmt)
  /-- VBCAST (R224) -/
  | opVBCAST (l : Nat) (f : RFmt)
  /-- VEXTRACT (R224) -/
  | opVEXTRACT (l : Nat) (f : RFmt)
  /-- VINSERT (R224) -/
  | opVINSERT (l : Nat) (f : RFmt)
  /-- VIOTA (R224) -/
  | opVIOTA (l : Nat) (f : RFmt)
  /-- VPERM (R224) -/
  | opVPERM (l : Nat) (f : RFmt)
  /-- VMOV (R224) -/
  | opVMOV (l : Nat) (f : RFmt)
  /-- PAND (R224) -/
  | opPAND (l : Nat) (f : RFmt)
  /-- POR (R224) -/
  | opPOR (l : Nat) (f : RFmt)
  /-- PXOR (R224) -/
  | opPXOR (l : Nat) (f : RFmt)
  /-- PNOT (R224) -/
  | opPNOT (l : Nat) (f : RFmt)
  /-- PSET (R224) -/
  | opPSET (l : Nat) (f : RFmt)
  /-- PGET (R224) -/
  | opPGET (l : Nat) (f : RFmt)
  /-- PCNT (R224) -/
  | opPCNT (l : Nat) (f : RFmt)
  /-- VLD (R225) -/
  | opVLD (l : Nat) (f : IFmt) (ecc : Nat)
  /-- VST (R225) -/
  | opVST (l : Nat) (f : IFmt)
  /-- TLD (R225) -/
  | opTLD (l : Nat) (f : IFmt) (ecc : Nat)
  /-- TST (R225) -/
  | opTST (l : Nat) (f : IFmt)
  /-- PLD (R225) -/
  | opPLD (l : Nat) (f : IFmt) (ecc : Nat)
  /-- PST (R225) -/
  | opPST (l : Nat) (f : IFmt)
  /-- TZERO (R228) -/
  | opTZERO (l : Nat) (f : RFmt)
  /-- TMMA (R228) -/
  | opTMMA (l : Nat) (f : RFmt)
  /-- TMMA_SP (R228) -/
  | opTMMA_SP (l : Nat) (f : RFmt)
  /-- TMOVV (R228) -/
  | opTMOVV (l : Nat) (f : RFmt)
  /-- VMOVT (R228) -/
  | opVMOVT (l : Nat) (f : RFmt)
  /-- LACC_CLR (R193) -/
  | opLACC_CLR (l : Nat) (f : RFmt)
  /-- LACC_ADD (R193) -/
  | opLACC_ADD (l : Nat) (f : RFmt)
  /-- LACC_MAC (R193) -/
  | opLACC_MAC (l : Nat) (f : RFmt)
  /-- LACC_ACC (R193) -/
  | opLACC_ACC (l : Nat) (f : RFmt)
  /-- LACC_RND (R195) -/
  | opLACC_RND (l : Nat) (f : RFmt)
  /-- LACC_STAT (R194) -/
  | opLACC_STAT (l : Nat) (f : RFmt)
  /-- LACC_EXP (R196) -/
  | opLACC_EXP (l : Nat) (f : IFmt)
  /-- LACC_IMP (R196) -/
  | opLACC_IMP (l : Nat) (f : IFmt) (ecc : Nat)
  /-- MSG_SEND (R229) -/
  | opMSG_SEND (l : TaperRead) (f : RFmt)
  /-- MSG_RECV (R230) -/
  | opMSG_RECV (l : Nat) (f : RFmt)
  /-- MSG_POLL (R230) -/
  | opMSG_POLL (l : Nat) (f : RFmt)
  /-- MSG_FREE (R230) -/
  | opMSG_FREE (l : Nat) (f : RFmt)
  /-- RING_POP (R231) -/
  | opRING_POP (l : Nat) (f : RFmt)
  /-- RING_TRY (R231) -/
  | opRING_TRY (l : Nat) (f : RFmt)
  /-- RING_PUSH (R231) -/
  | opRING_PUSH (l : TaperRead) (f : RFmt)
  /-- STR_START (R218) -/
  | opSTR_START (l : Nat) (f : RFmt)
  /-- STR_WAIT (R232) -/
  | opSTR_WAIT (l : Nat) (f : RFmt)
  /-- STR_TEST (R232) -/
  | opSTR_TEST (l : Nat) (f : RFmt)
  /-- STR_WAITALL (R232) -/
  | opSTR_WAITALL (l : Nat) (f : RFmt)
  /-- FING_V (R233) -/
  | opFING_V (l : Nat) (f : RFmt)
  /-- FING_ADDM (R233) -/
  | opFING_ADDM (l : Nat) (f : RFmt)
  /-- FING_SUBM (R233) -/
  | opFING_SUBM (l : Nat) (f : RFmt)
  /-- FING_MULM (R233) -/
  | opFING_MULM (l : Nat) (f : RFmt)
  /-- FING_POWM (R233) -/
  | opFING_POWM (l : Nat) (f : RFmt)
  /-- RNG_RAW (R198) -/
  | opRNG_RAW (l : Nat) (f : RFmt)
  /-- RNG_PHILOX (R197) -/
  | opRNG_PHILOX (l : Nat) (f : RFmt)
  /-- WICK_BIND_JOB (R238) -/
  | wickBindJob (c : Cmd) (job mode comps prog key params : Nat) (fmts : List Nat) (interval flags gateMs : Nat)
  /-- WICK_BIND_SHARD (R238) -/
  | wickBindShard (c : Cmd) (job shard first params buddy roles : Nat)
  /-- WICK_MEMBERSHIP (R243) -/
  | wickMembership (c : Cmd) (job shard epoch count addr : Nat)
  /-- WICK_UNBIND (R265) -/
  | wickUnbind (c : Cmd) (job : Nat)
  /-- WICK_SNAPSHOT_NOW (R260) -/
  | wickSnapshotNow (c : Cmd) (job : Nat)
  /-- WICK_SEED (R257) -/
  | wickSeed (c : Cmd) (job shard : Nat)
  /-- WICK_ENABLE_CLEAR (R266) -/
  | wickEnableClear (w : Who)
  /-- FWD_GRADIENT (R246) -/
  | fwdGradient (h : LHdr) (b : Blk)
  /-- FWD_SEED (R257) -/
  | fwdSeed (h : LHdr) (b : Blk)
  /-- FWD_REGION (R259) -/
  | fwdRegion (h : LHdr) (b : Blk)
  /-- FWD_ACK (R248) -/
  | fwdAck (h : LHdr) (shard step stored status fp : Nat)
  /-- GATE_BARRIER_COMPLETE (R249) -/
  | gateBarrierComplete (job step status : Nat)
  /-- STEP_FWD (R252) -/
  | stepFwd (h : LHdr) (r : StepRec) (cid ctx : Nat) (crcOk : Bool)
  /-- SHADOW_COMPLETION (R275) -/
  | shadowCompletion (shard step item kind reason taper fp beats : Nat)
  /-- READBACK_COMPLETE (R251) -/
  | readbackComplete (shard step : Nat)
  /-- STEP_RECORD_WAIT_EXPIRY (R252) -/
  | stepRecordWaitExpiry (shard step : Nat)
  /-- COMMIT_REC (R254) -/
  | commitRec (h : LHdr) (r : CommitRec) (crcOk : Bool)
  /-- COMMIT_ACK (R254) -/
  | commitAck (h : LHdr) (step shard status : Nat)
  /-- COMMIT_ACK_WAIT_EXPIRY (R254) -/
  | commitAckWaitExpiry (shard step : Nat)
  /-- FWD_ACK_WAIT_EXPIRY (R246) -/
  | fwdAckWaitExpiry (shard step : Nat)
  /-- SEED_REQ (R257): shard, reserved bytes, step -/
  | seedReq (h : LHdr) (shard reserved step : Nat)
  /-- BLOCK_FETCH (R256) -/
  | blockFetch (h : LHdr) (shard block step : Nat)
  /-- SNAPSHOT_DURABLE (R262) -/
  | snapshotDurable (shard step : Nat) (ok : Bool)
  /-- SPILL_RETRY_TIMER (R264) -/
  | spillRetryTimer
  /-- SHADOW_REGISTER (R269) -/
  | shadowRegister (c : Cmd) (region off : Nat) (signatureOk : Bool)
  /-- SHADOW_UNREGISTER (R269) -/
  | shadowUnregister (c : Cmd) (prog : Nat)
  /-- SHADOW_QUALIFY (R285) -/
  | shadowQualify (c : Cmd) (prog set : Nat)
  /-- SHADOW_PARAMS (R269) -/
  | shadowParams (c : Cmd) (job region addr : Nat)
  /-- SHADOW_RESOLVE (R281) -/
  | shadowResolve (c : Cmd) (job shard step choice : Nat)
  /-- SHADOW_GRID_RETRY (R272) -/
  | shadowGridRetry
  /-- SHADOW_INSTANCE_RELOAD (R281) -/
  | shadowInstanceReload (job : Nat)
  /-- VIGIL_WATCH (R292) -/
  | vigilWatch (c : Cmd) (job port ctx prio mask timeout : Nat)
  /-- VIGIL_UNWATCH (R311) -/
  | vigilUnwatch (c : Cmd) (port ctx : Nat)
  /-- SNUF_RESET (R311) -/
  | snufReset (c : Cmd) (port ctx kind : Nat)
  /-- SNUF_UNFENCE (R305) -/
  | snufUnfence (c : Cmd) (port : Nat)
  /-- IGTAN_BRINGUP (R84) -/
  | igtanBringup (c : Cmd) (port : Nat)
  /-- IGTAN_REG (R84) -/
  | igtanReg (c : Cmd) (port off : Nat) (write : Bool) (count addr : Nat)
  /-- RCV_QUERY (R314) -/
  | rcvQuery (h : LHdr) (job seq coord : Nat)
  /-- RCV_STATE (R315) -/
  | rcvState (h : LHdr) (job seq released count : Nat) (steps : List Nat)
  /-- RCV_QUERY_TIMEOUT (R314) -/
  | rcvQueryTimeout (job : Nat)
  /-- RCV_POINT (R317) -/
  | rcvPoint (h : LHdr) (job seq r : Nat) (roll : Bool) (failed : List (Nat × Nat))
  /-- RCV_READY (R318) -/
  | rcvReady (h : LHdr) (job seq status : Nat)
  /-- RCV_RESUME (R319) -/
  | rcvResume (h : LHdr) (job seq : Nat)
  /-- RCV_RESUME_TIMEOUT (R314) -/
  | rcvResumeTimeout (job : Nat)
  /-- RCV_RELEASE (R323) -/
  | rcvRelease (c : Cmd) (job : Nat)
  /-- RCV_SPARE_SET (R335) -/
  | rcvSpareSet (c : Cmd) (cid port state group : Nat)
  /-- SPARE_REQ (R325) -/
  | spareReq (h : LHdr) (pos job action a : Nat)
  /-- SPARE_GRANT (R326) -/
  | spareGrant (h : LHdr) (pos spareCid port version status : Nat)
  /-- RCV_PREP_TIMEOUT (R326) -/
  | rcvPrepTimeout (pos port : Nat)
  /-- PRESTAGE_HOLD_EXPIRY (R352) -/
  | prestageHoldExpiry (pos : Nat)
  /-- RELOAD_REQ (R327) -/
  | reloadReq (h : LHdr) (shard kind step first : Nat)
  /-- RELOAD_BLOCK (R327) -/
  | reloadBlock (h : LHdr) (b : Blk)
  /-- RELOAD_ACK (R327) -/
  | reloadAck (h : LHdr) (shard step written status : Nat)
  /-- RELOAD_REC (R326) -/
  | reloadRec (h : LHdr) (r : CommitRec) (mode comps prog key params : Nat) (fmts : List Nat) (interval flags gateMs epoch first sparams : Nat)
  /-- STREAM_MOVE (R389) -/
  | streamMove (h : LHdr) (index cid ctx : Nat) (ent : Option StreamEnt) (toks : List Nat)
  /-- STREAM_MOVE_RESPONSE (R389) -/
  | streamMoveResponse (h : LHdr) (index status : Nat)
  /-- FLICKER_LOAD_MODEL (R346) -/
  | flickerLoadModel (c : Cmd) (region off : Nat)
  /-- FLICKER_EVAL (R359) -/
  | flickerEval (c : Cmd) (comp : Nat)
  /-- FLICKER_RESET_HISTORY (R344) -/
  | flickerResetHistory (c : Cmd) (comp : Nat)
  /-- FLICKER_ENABLE_CLEAR (R356) -/
  | flickerEnableClear (w : Who)
  /-- FLICKER_EXTRACT_CLEAR (R356) -/
  | flickerExtractClear (w : Who)
  /-- FLICKER_POLL (R338) -/
  | flickerPoll (reads : List (Nat × Bool × List (Nat × Int × Nat)))
  /-- FLICKER_GLIM_MISSING (R338) -/
  | flickerGlimMissing (comp : Nat)
  /-- FLICKER_BUCKET_BOUNDARY (R341) -/
  | flickerBucketBoundary
  /-- FLICKER_SWEEP (R348) -/
  | flickerSweep
  /-- FLICKER_TRIGGERED_EVAL (R348) -/
  | flickerTriggeredEval (comp : Nat)
  /-- FLICKER_COMPLETION (R349) -/
  | flickerCompletion (sweep kind : Nat) (entries : List (Nat × Nat × Nat × Nat × Nat))
  /-- FLICKER_STALE_EXPIRY (R343) -/
  | flickerStaleExpiry (comp : Nat)
  /-- FLICKER_PRESTAGE_RENEW (R352) -/
  | flickerPrestageRenew (comp : Nat)
  /-- FLICKER_CALIBRATION_HOUR (R358) -/
  | flickerCalibrationHour
  /-- FLICKER_FALSE_ALARM_HOUR (R357) -/
  | flickerFalseAlarmHour (comp : Nat)
  /-- EMBER_BIND (R365) -/
  | emberBind (c : Cmd) (job shard count addr : Nat)
  /-- EMBER_UNBIND (R377) -/
  | emberUnbind (c : Cmd) (job shard : Nat)
  /-- EMBER_STOP (R377) -/
  | emberStop (c : Cmd) (job shard : Nat)
  /-- EMBER_ENABLE_CLEAR (R377) -/
  | emberEnableClear (w : Who)
  /-- EMB_CTL_START (R368) -/
  | embCtlStart (h : LHdr) (job shard cid ctx : Nat)
  /-- EMB_CTL_ACK (R368) -/
  | embCtlAck (h : LHdr) (job shard cid ctx seq status : Nat)
  /-- EMB_CTL_ROUTE (R368) -/
  | embCtlRoute (h : LHdr) (mode job shard cid ctx seq : Nat) (tags : List Nat)
  /-- EMB_CTL_STOP (R376) -/
  | embCtlStop (h : LHdr) (job shard cid ctx seq : Nat)
  /-- EMB_TOKENS (R370) -/
  | embTokens (h : LHdr) (tag seq k set : Nat) (refs vecs : List Nat)
  /-- EMB_RESULT (R372) -/
  | embResultMsg (h : LHdr) (tag seq k status set : Nat) (vecs : List Nat)
  /-- EMBER_BATCH_CLOSE (R371) -/
  | emberBatchClose
  /-- EMBER_BATCH_DONE (R374) -/
  | emberBatchDone (outs : List (List Nat)) (beats bytes : Nat)
  /-- EMBER_RESULT_TIMEOUT (R372) -/
  | emberResultTimeout (port ctx set : Nat)
  /-- EMBER_DRAIN_EXPIRY (R376) -/
  | emberDrainExpiry (entry : Nat)
  /-- EMBER_IDLE_UNLOAD (R367) -/
  | emberIdleUnload
  /-- STREAM_OPEN (R382) -/
  | streamOpen (c : Cmd) (port ctx client : Nat)
  /-- STREAM_CLOSE (R382) -/
  | streamClose (c : Cmd) (ref : Nat)
  /-- STREAM_CANCEL (R382) -/
  | streamCancel (c : Cmd) (ref : Nat)
  /-- LEDGER_BIND_RING (R405) -/
  | ledgerBindRing (c : Cmd) (ring : Nat)
  /-- LEDGER_TICK (R390) -/
  | ledgerTick
  /-- PMBUS_READ_DONE (R391) -/
  | pmbusReadDone (chan : Nat) (eout : Bool) (nj : Nat)
  /-- PMBUS_READ_TIMEOUT (R391) -/
  | pmbusReadTimeout (chan : Nat) (eout : Bool)
  /-- LEDGER_METER_LOST_EXPIRY (R391) -/
  | ledgerMeterLostExpiry (chan : Nat)
  /-- LEDGER_APPORTION (R392) -/
  | ledgerApportion (export_ : Nat)
  /-- LEDGER_INTERVAL_BOUNDARY (R401) -/
  | ledgerIntervalBoundary
  /-- LEDGER_RECORD_SIGNED (R402) -/
  | ledgerRecordSigned
  /-- LEDGER_RECORD_DURABLE (R404) -/
  | ledgerRecordDurable
  /-- LEDGER_ACK_SEQ_WRITE (R405) -/
  | ledgerAckSeqWrite (w : Who) (value : Nat)
  /-- LEDGER_CHARGE_SEND (R396) -/
  | ledgerChargeSend
  /-- LEDGER_CHARGE (R396) -/
  | ledgerCharge (h : LHdr) (seq first : Nat) (charges : List (Nat × Nat))
  /-- LEDGER_CHARGE_ACK (R396) -/
  | ledgerChargeAck (h : LHdr) (seq status : Nat)
  /-- LEDGER_CHARGE_RESEND (R396) -/
  | ledgerChargeResend (dst seq : Nat)
  /-- STREAM_CLOSING_WAIT_EXPIRY (R396) -/
  | streamClosingWaitExpiry (index : Nat)
  /-- COLL_GROUP_SET (R409) -/
  | collGroupSet (c : Cmd) (group epoch flags job threshold period count addr : Nat)
  /-- COLL_GROUP_FREE (R424) -/
  | collGroupFree (c : Cmd) (group : Nat)
  /-- COLL_CALL (R411) -/
  | collCall (c : Cmd) (sig : CollSig) (crc inR inOff outR outOff timeout : Nat)
  /-- COLL_CANCEL (R418) -/
  | collCancel (c : Cmd) (group seq : Nat)
  /-- COLL_ROUND (R412) -/
  | collRound (h : LHdr) (k : CollMsg)
  /-- COLL_ABORT (R419) -/
  | collAbort (h : LHdr) (sig : CollSig) (num : Nat) (a : CollAb)
  /-- COLL_CALL_TIMEOUT (R417) -/
  | collCallTimeout (group space num : Nat)
  /-- COLL_ABORT_ROUND_EXPIRY (R419) -/
  | collAbortRoundExpiry (group space num : Nat)
  /-- COLL_HEALTH_CALL (R423) -/
  | collHealthCall (group : Nat)
  /-- COLL_ENABLE_CLEAR (R425) -/
  | collEnableClear (w : Who)
  /-- BEACON_STEP (R439) -/
  | beaconStep (c : Cmd) (step : Int)
  /-- BEACON_SET_CALENDAR (R443) -/
  | beaconSetCalendar (c : Cmd) (y mo d h mi sec : Nat)
  /-- BEACON_SET_UTC (R441) -/
  | beaconSetUtc (c : Cmd) (offset : Nat) (leap61 leap59 : Bool)
  /-- PTP_SYNC_MEASUREMENT (R434) -/
  | ptpSyncMeasurement (d : Nat) (off : Int)
  /-- PTP_ANNOUNCE (R441) -/
  | ptpAnnounce (d : Nat) (dataset : List Nat) (utcOffset : Nat) (valid leap61 leap59 : Bool)
  /-- PTP_EVENT_TRANSMIT (R438) -/
  | ptpEventTransmit (port seqId typ domain : Nat)
  /-- BEACON_TXTS_POP (R438) -/
  | beaconTxtsPop (w : Who) (port : Nat)
  /-- PPS_IN_EDGE (R432) -/
  | ppsInEdge
  /-- PPS_LOSS_TIMEOUT (R432) -/
  | ppsLossTimeout
  /-- REF10M_LOSS (R431) -/
  | ref10mLoss
  /-- REF10M_RETURN (R431) -/
  | ref10mReturn
  /-- ANNOUNCE_RECEIPT_TIMEOUT (R436) -/
  | announceReceiptTimeout (d : Nat)
  /-- BEACON_HOLD_EXPIRY (R433) -/
  | beaconHoldExpiry
  /-- BEACON_REVERT_TIMER (R436) -/
  | beaconRevertTimer
  /-- LEAP_SECOND_END (R442) -/
  | leapSecondEnd
  /-- TALLOW_FORMAT (R479) -/
  | tallowFormat (c : Cmd)
  /-- TALLOW_CHECKPOINT (R472) -/
  | tallowCheckpoint (c : Cmd)
  /-- TALLOW_RAW_READ (R479) -/
  | tallowRawRead (c : Cmd) (die block page addr : Nat)
  /-- TALLOW_RAW_PROGRAM (R471) -/
  | tallowRawProgram (c : Cmd) (die block page addr : Nat)
  /-- TALLOW_RAW_ERASE (R476) -/
  | tallowRawErase (c : Cmd) (die block : Nat)
  /-- TALLOW_ENABLE_CLEAR (R478) -/
  | tallowEnableClear (w : Who)
  /-- TALLOW_WRITE (R470) -/
  | tallowWrite (owner region chunk bytes : Nat)
  /-- NAND_PROGRAM_DONE (R476) -/
  | nandProgramDone (p : Place) (pass : Bool)
  /-- NAND_READ_DONE (R466) -/
  | nandReadDone (p : Place) (retries : Nat) (ok same : Bool) (data : List Nat)
  /-- NAND_ERASE_DONE (R471) -/
  | nandEraseDone (die block : Nat) (pass : Bool)
  /-- TALLOW_GC (R474) -/
  | tallowGc (tlc : Bool)
  /-- TALLOW_CHECKPOINT_TIMER (R472) -/
  | tallowCheckpointTimer
  /-- EVENT_RAISE (R483) -/
  | eventRaise (code level src payload : Nat) (more : List Nat) (t : Target)
  /-- CHIM_TOKEN_REFILL (R484) -/
  | chimTokenRefill (code : Nat)
  /-- CHIM_LOG_UNIT_WRITE (R486) -/
  | chimLogUnitWrite
  /-- CHIM_WINDOW_END (R489) -/
  | chimWindowEnd (step code origin src : Nat)
  /-- EVT_FWD (R489) -/
  | evtFwd (h : LHdr) (seq : Nat) (alarm : Bool) (entries : List (LogEntry × Bool))
  /-- EVT_FWD_ACK (R490) -/
  | evtFwdAck (h : LHdr) (seq status : Nat)
  /-- EVT_FWD_ACK_TIMEOUT (R490) -/
  | evtFwdAckTimeout (seq : Nat)
  /-- CHIM_EXPORT_PERIOD (R493) -/
  | chimExportPeriod
  /-- TRACE_OCCURRENCE (R494) -/
  | traceOccurrence (source kind : Nat) (data : List Nat) (deferred : Bool)
  /-- CHIM_FLUE_ENABLE (R494) -/
  | chimFlueEnable (w : Who) (ring value : Nat)
  /-- CHIM_BIND_FEED (R487) -/
  | chimBindFeed (c : Cmd) (ring : Nat)
  /-- CHIM_ALARM_ACK (R488) -/
  | chimAlarmAck (c : Cmd) (seq : Nat)
  /-- CHIM_EVENT_READ (R500) -/
  | chimEventRead (c : Cmd) (first count addr : Nat)
  /-- CHIM_LL_FREEZE (R496) -/
  | chimLlFreeze (c : Cmd) (ring : Nat)
  /-- CHIM_LL_RELEASE (R496) -/
  | chimLlRelease (c : Cmd) (ring : Nat)
  /-- CHIM_EXPORT_BIND (R493) -/
  | chimExportBind (c : Cmd) (ring : Nat)
  /-- LAMP_AMEND (R512) -/
  | lampAmend (c : Cmd) (addr len : Nat) (a : Amendment)
  /-- LAMP_UPDATE (R514) -/
  | lampUpdate (c : Cmd) (kind region off len : Nat) (im : UpImage) (same : Bool)
  /-- LAMP_ACTIVATE (R515) -/
  | lampActivate (c : Cmd)
  /-- QUIESCE_POINT_REACHED (R516) -/
  | quiescePointReached (ready : Bool) (bad : List (Nat × Nat))
  /-- QUIESCE_TIMEOUT (R515) -/
  | quiesceTimeout
  /-- ACTIVATION_READY_TIMEOUT (R516) -/
  | activationReadyTimeout
  /-- TRIAL_COMMIT_TIMER (R517) -/
  | trialCommitTimer
  /-- TRIAL_START_TIMEOUT (R517) -/
  | trialStartTimeout
  /-- LAMP_CAL_WRITE (R521) -/
  | lampCalWrite (c : Cmd) (addr sigKey : Nat)
  /-- LAMP_OWNER_SET (R522) -/
  | lampOwnerSet (c : Cmd) (count idx addr sigKey : Nat)
  /-- LAMP_OWNER_CLEAR (R522) -/
  | lampOwnerClear (c : Cmd)
  /-- LOCKSTEP_MISMATCH (R502) -/
  | lockstepMismatch
  /-- LAMP_WATCHDOG_EXPIRY (R502) -/
  | lampWatchdogExpiry
  /-- ENTROPY_HEALTH_FAIL (R504) -/
  | entropyHealthFail
  /-- ENTROPY_HEALTH_PASS (R504) -/
  | entropyHealthPass
  /-- OP_TIME_TICK (R519) -/
  | opTimeTick
  /-- SPDM_REQUEST (R506) -/
  | spdmRequest (path req slot : Nat)
  /-- PLDM_REQUEST (R506) -/
  | pldmRequest (path : Nat) (r : Pldm)
  /-- AUX_POWER_GOOD (R511) -/
  | auxPowerGood (straps : Nat) (fuses : Fuses) (nor : Nor)
  /-- CORE_PG_ASSERT (R531) -/
  | corePgAssert (x : CoreStart)
  /-- CORE_PG_TIMEOUT (R532) -/
  | corePgTimeout
  /-- CORE_PG_DEASSERT (R533) -/
  | corePgDeassert (long : Bool)
  /-- SYS_RESET (R533) -/
  | sysReset (tj : Int)
  /-- PWR_FAIL_ASSERT (R538) -/
  | pwrFailAssert
  /-- PWR_FAIL_DEASSERT (R539) -/
  | pwrFailDeassert
  /-- POWER_START_REQUEST (R534) -/
  | powerStartRequest (kind port ctx : Nat) (recovery : Bool)
  /-- POWER_WINDOW_LEAVE (R534) -/
  | powerWindowLeave
  /-- PWRSEQ_POS (R536) -/
  | pwrseqPos (c : Cmd) (port action : Nat)
  /-- POS_PG_TIMEOUT (R536) -/
  | posPgTimeout (port : Nat)
  /-- OVERTEMP_ENTER (R540) -/
  | overtempEnter
  /-- OVERTEMP_END (R540) -/
  | overtempEnd
  /-- THERMTRIP (R540) -/
  | thermtrip
  /-- REG64_HIGH_WRITE (R12) -/
  | reg64HighWrite (w : Who) (addr value : Nat)
  /-- ROLE_QUIET_POINT (R59) -/
  | roleQuietPoint (role : Nat)
  /-- POOLING_RESERVATION_ANSWER (R127) -/
  | poolingReservationAnswer (h : LHdr) (status job : Nat) (p : Placed)
  /-- DRILL_PROBE_ANSWER (R46) -/
  | drillProbeAnswer (h : LHdr) (seq : Nat)
  /-- PTP_OTHER_MESSAGE (R429) -/
  | ptpOtherMessage (port domain typ seqId : Nat)
  /-- POS_PG_ASSERT (R536) -/
  | posPgAssert (port : Nat)
  /-- POS_CYCLE_POWER_ON (R536) -/
  | posCyclePowerOn (port : Nat)
  /-- CORE_EN_RETRY (R532) -/
  | coreEnRetry
  deriving DecidableEq, Repr

end Sys2Proof
end

