-- ==== Sys2Proof/Config.lean ====
section
/-!
DEFINITION. Free values: what the spec leaves open. Each is an opaque constant, so a statement about it holds whatever it is.
-/
namespace Sys2Proof

/-- Fingerprint of a role's state at a journal position (02 R44: the spec gives no function). -/
opaque Config.roleFingerprint : Nat → List (List Nat) → Nat
/-- A link key unwrapped under a key-encryption key with a nonce (02 R52: AES-GCM is named, not given). -/
opaque Config.unwrapKey : Nat → Nat → Nat → Nat
/-- AES-256-GCM of a plaintext under a key, nonce and additional data: ciphertext and tag (02 R52: named, not given). -/
opaque Config.seal : Nat → Nat → List Nat → List Nat → List Nat
/-- A new random key, by the count of free values drawn. -/
opaque Config.newKey : Nat → Nat
/-- Key-encryption key derived from a shared secret (02: HKDF-SHA-384). -/
opaque Config.deriveKek : Nat → Nat

/-- Pattern of an approximation of Table 8-6 (08 R183: specified only by its error bound): operation, operand, ARITH_CTL bits. -/
opaque Config.estimate : Nat → Nat → Nat → Nat
/-- Flags an approximation raises beside those R183 states. -/
opaque Config.estimateFlags : Nat → Nat → Nat → Nat
/-- Which neighbour a Flicker feature or signal that binary32 cannot hold becomes (14: held as binary32, no rounding is stated):
numerator and denominator; true for the one farther from zero. -/
opaque Config.flickerAway : Int → Nat → Bool
/-- The 8-byte header of a bucket in the Flicker region (14 R342: its size is given, not its contents). -/
opaque Config.bucketHeader : Nat → Nat → Nat → Nat
/-- Payload of an event whose contents its chapter names but not their byte positions (21 R557): code and contents. -/
opaque Config.eventPayload : Nat → List Nat → Nat

/-- Code of the record that a grid slot's last-light ring receives for a command or a fault record (21 R496: no code is given). -/
opaque Config.slotRecordCode : Nat → Nat
/-- Beats an instruction of a taper takes beyond the first (09 Table 9-3 gives upper bounds only), by draw. -/
opaque Config.moreBeats : Nat → Nat
/-- Bits above the lanes of a scalar integer result narrower than its register (09 FCVTI: not stated). -/
opaque Config.highBits : Nat → Nat → Nat
/-- The network holds a message back although a queue has room (07 R154: back-pressure), by draw. -/
opaque Config.meshBusy : Nat → Bool

/-- Frequency correction the Beacon's servo sets from an offset (18 R433-R435: no servo law is stated), ppb, by draw; and the rate of a
slew (R435: at most 500 ppm). -/
opaque Config.servoPpb : Nat → Int
opaque Config.slewPpb : Nat → Nat

/-- SHA-384 of bytes (16 R402: named, not given), and an ECDSA P-384 signature (r, s) of bytes under a private key by draw of the secret. -/
opaque Config.sha384 : List Nat → Nat
opaque Config.sign : Nat → List Nat → Nat → Nat × Nat
/-- TCG DICE (22 R505: named, not given): the compound device identifier of a layer from a secret and what it measures, the private key derived from a
secret, and the P-384 public key of a private key. -/
opaque Config.cdi : Nat → List Nat → Nat
opaque Config.privateKey : Nat → Nat
opaque Config.publicKey : Nat → Nat
/-- Digest of the boot ROM (22 Table 22-2, block 1). -/
opaque Config.romDigest : Nat
/-- Energy a byte or beat of a resource is charged with (06 R142: "fixed energy weights", no values given), pJ, by resource code of Table 6-2. -/
opaque Config.energyWeight : Nat → Nat
/-- Lantern hops between two T3s, as the warden and the keeper know their scope's topology (05 R127, 13 R325: no message of the spec carries them). -/
opaque Config.lanternHops : Nat → Nat → Nat
/-- IGTAN_ACC_GEN of a port of another T3 as the keeper learns it (13 R325: no message of the spec carries it). -/
opaque Config.remoteGen : Nat → Nat → Nat
/-- Buddy T3 of a position's largest shard, as the keeper of its pod knows it (13 R325: no message of the spec carries it). -/
opaque Config.largestBuddy : Nat → Nat
/-- Feature bitmap that this T3 declares at admission (02 R59: the spec assigns no bits). -/
opaque Config.ownFeatures : Nat
/-- Hop limit of a message this T3 sends (04 Table 4-8: its meaning is given, not its first value). -/
opaque Config.firstHop : Nat
/-- Tenant of a job that no STREAM_OPEN has named here (16: no table of the spec gives it); 0 for none. -/
opaque Config.tenantOf : Nat → Nat
/-- Member of a replay group with the fewest open streams (13 R329: the group's members and their streams are not at this T3): CID and context. -/
opaque Config.replayMember : Nat → Nat → Nat × Nat

end Sys2Proof
end

