-- ==== Sys2Proof/Machine/Codes.lean ====
section
/-!
DEFINITION. Status codes (Table 24-3) and event codes (Table 24-4) of 24_register_map.
-/
namespace Sys2Proof.Machine

namespace St

/-- A status of class 0x01: the same request is to be sent again later (Table 0-6, R13). -/
def deferred (status : Nat) : Bool := status / 256 == 1

/-- Success (Table 24-3). -/
abbrev OK : Nat := 0x0000
/-- Resource busy or full for now (Table 24-3). -/
abbrev BUSY_RETRY : Nat := 0x0101
/-- Activity shut out by a cap of 0 (R137) (Table 24-3). -/
abbrev BUDGET_DEFERRED : Nat := 0x0102
/-- Field out of range or inconsistent (Table 24-3). -/
abbrev BAD_PARAM : Nat := 0x0201
/-- Not allowed in the present state (Table 24-3). -/
abbrev BAD_STATE : Nat := 0x0202
/-- Version, feature or format not supported (Table 24-3). -/
abbrev UNSUPPORTED : Nat := 0x0203
/-- Calendar check failed (R443) (Table 24-3). -/
abbrev INVALID_DATE : Nat := 0x0204
/-- Held command the new firmware cannot parse (R460) (Table 24-3). -/
abbrev UNSUPPORTED_AFTER_ACTIVATION : Nat := 0x0205
/-- Ended by a reset, a recovery or a cancel (Table 24-3). -/
abbrev ABORTED_RESET : Nat := 0x0301
/-- Ended at a drain timeout (R144) (Table 24-3). -/
abbrev CANCELLED_BY_DISABLE : Nat := 0x0303
/-- Collective timed out (R417) (Table 24-3). -/
abbrev COLL_TIMEOUT : Nat := 0x0304
/-- Call signatures differ (R416) (Table 24-3). -/
abbrev COLL_MISMATCH : Nat := 0x0305
/-- Old generation tag (Table 24-3). -/
abbrev STALE_GENERATION : Nat := 0x0306
/-- Check value failed (Table 24-3). -/
abbrev INTEGRITY_CRC : Nat := 0x0401
/-- Fingerprint failed (Table 24-3). -/
abbrev INTEGRITY_FINGERPRINT : Nat := 0x0402
/-- Replica disagreed with the agreeing set (Table 24-3). -/
abbrev DIVERGENCE : Nat := 0x0403
/-- Data differed on read-back (Table 24-3). -/
abbrev READBACK_MISMATCH : Nat := 0x0404
/-- No stream entry (Table 24-3). -/
abbrev STREAM_TABLE_FULL : Nat := 0x0501
/-- Ring full (Table 24-3). -/
abbrev RING_FULL : Nat := 0x0502
/-- Local log full (Table 24-3). -/
abbrev LOG_FULL : Nat := 0x0503
/-- No free pages or entries (Table 24-3). -/
abbrev MANTLE_FULL : Nat := 0x0504
/-- R406 holds (Table 24-3). -/
abbrev LEDGER_BACKPRESSURE : Nat := 0x0505
/-- Privilege too low (Table 24-3). -/
abbrev NOT_PRIVILEGED : Nat := 0x0601
/-- Signature or digest failed (Table 24-3). -/
abbrev SIGNATURE_INVALID : Nat := 0x0602
/-- Sender not bound to the channel (Table 24-3). -/
abbrev SENDER_NOT_ALLOWED : Nat := 0x0603
/-- Program to a page that is not erased (R471) (Table 24-3). -/
abbrev TALLOW_NOT_ERASED : Nat := 0x0701
/-- Store not mounted (R465) (Table 24-3). -/
abbrev TALLOW_NOT_MOUNTED : Nat := 0x0702
/-- Read failed at every retry level (R466) (Table 24-3). -/
abbrev TALLOW_UNCORRECTABLE : Nat := 0x0703
/-- Wear state READ_ONLY (R477) (Table 24-3). -/
abbrev TALLOW_READ_ONLY : Nat := 0x0704

end St

namespace Ev

/-! Roles and management channel -/
abbrev ROLE_TAKEOVER : Nat := 0x1001
abbrev ROLE_DRILL_FAIL : Nat := 0x1002
abbrev ROLE_VACANT : Nat := 0x1003
abbrev ROLE_WITNESS_ALONE : Nat := 0x1004
abbrev ROLE_QUEUE_FULL : Nat := 0x1005
abbrev MGMT_AUTH_FAIL : Nat := 0x1006
abbrev SO_ACTION : Nat := 0x1007
/-! Igtan -/
abbrev IGTAN_VERSION_UNSUPPORTED : Nat := 0x1101
abbrev IGTAN_MSG_UNKNOWN : Nat := 0x1102
abbrev APPLY_ACK_TIMEOUT : Nat := 0x1103
abbrev RESET_NO_CONFIRM : Nat := 0x1104
/-! Links -/
abbrev LINK_PEER_MISMATCH : Nat := 0x1201
abbrev LINK_CREDIT_ERROR : Nat := 0x1202
abbrev LINK_REPLAY_LIMIT : Nat := 0x1203
abbrev LINK_RETRAIN : Nat := 0x1204
abbrev LINK_DOWN : Nat := 0x1205
abbrev LINK_DEGRADED : Nat := 0x1206
abbrev LINK_HOP_DROP : Nat := 0x1207
/-! Mantle -/
abbrev MANTLE_ECC_UNCORR : Nat := 0x1301
abbrev MANTLE_STACK_FAIL : Nat := 0x1302
abbrev MANTLE_FB_SHORT : Nat := 0x1303
abbrev MANTLE_ACCESS_DENIED : Nat := 0x1304
/-! Budget -/
abbrev GUARANTEE_YIELD : Nat := 0x1401
/-! Grid -/
abbrev GRID_TAPER_FAULT : Nat := 0x1501
abbrev GRID_PROG_HANG : Nat := 0x1502
abbrev GRID_TAPER_REMAP : Nat := 0x1503
abbrev GRID_ROUTER_FAIL : Nat := 0x1504
/-! Wick -/
abbrev WICK_STEP_MISMATCH : Nat := 0x1601
abbrev WICK_RECORD_MISSING : Nat := 0x1602
abbrev WICK_COMMIT_STALLED : Nat := 0x1603
abbrev WICK_SNAPSHOT_SKIPPED : Nat := 0x1604
abbrev WICK_SNAPSHOT_DURABLE : Nat := 0x1605
abbrev WICK_EXPORT_ABANDONED : Nat := 0x1606
abbrev WICK_SPILL : Nat := 0x1607
abbrev WICK_UNPROTECTED : Nat := 0x1608
/-! Shadow -/
abbrev SHADOW_NO_GRID : Nat := 0x1701
abbrev SHADOW_ITEM_MISMATCH : Nat := 0x1702
abbrev SHADOW_SPARSE_SEEDED : Nat := 0x1703
abbrev SHADOW_NOT_REFERENCE : Nat := 0x1704
abbrev SHADOW_DIVERGENCE : Nat := 0x1705
abbrev SHADOW_RESEED : Nat := 0x1706
abbrev SHADOW_SELF_FAULT : Nat := 0x1707
abbrev SHADOW_ONE_VS_ONE : Nat := 0x1708
abbrev SHADOW_ACCEL_SUSPECT : Nat := 0x1709
abbrev SHADOW_NO_MAJORITY : Nat := 0x170A
abbrev SHADOW_PROGRAM_FAULT : Nat := 0x170B
/-! Vigil and Snuffer -/
abbrev VIGIL_SUSPECT : Nat := 0x1801
abbrev VIGIL_SUSPECT_CLEARED : Nat := 0x1802
abbrev VIGIL_ACC_FAILED : Nat := 0x1803
abbrev VIGIL_CTX_STALLED : Nat := 0x1804
abbrev VIGIL_CTX_FAILED : Nat := 0x1805
abbrev VIGIL_WAIT_PATH_LONG : Nat := 0x1806
abbrev VIGIL_CYCLE_FOUND : Nat := 0x1807
abbrev VIGIL_CYCLE_BROKEN : Nat := 0x1808
abbrev VIGIL_NOTICE_UNACKED : Nat := 0x1809
abbrev SNUF_ACC_LOST : Nat := 0x180A
abbrev SNUF_CONTAINED : Nat := 0x180B
/-! Recovery and spares -/
abbrev RCV_RESUMED : Nat := 0x1901
abbrev RCV_STALLED : Nat := 0x1902
abbrev RCV_NO_COMMON_POINT : Nat := 0x1903
abbrev SPR_WARM_RESTORE : Nat := 0x1904
abbrev SPR_WARM_REFUSED : Nat := 0x1905
abbrev SPR_NO_SPARE : Nat := 0x1906
abbrev SPR_PREP_TIMEOUT : Nat := 0x1907
abbrev SPR_RELOAD_FAIL : Nat := 0x1908
abbrev SPR_PRESTAGE_TAKEN : Nat := 0x1909
abbrev STREAM_NOT_REPLAYED : Nat := 0x190A
/-! Flicker -/
abbrev FLICKER_TABLE_FULL : Nat := 0x1A01
abbrev FLICKER_HISTORY_RESET : Nat := 0x1A02
abbrev FLICKER_MODEL_OUTPUT_BAD : Nat := 0x1A03
abbrev FLICKER_RISK_HIGH : Nat := 0x1A04
abbrev FLICKER_RISK_CLEARED : Nat := 0x1A05
abbrev FLICKER_ACTION : Nat := 0x1A06
abbrev FLICKER_PRESTAGE_NONE : Nat := 0x1A07
abbrev FLICKER_MODEL_FAULT : Nat := 0x1A08
abbrev FLICKER_OUTCOME : Nat := 0x1A09
/-! Ember -/
abbrev EMBER_CANDIDATE : Nat := 0x1B01
abbrev EMBER_REFUSED : Nat := 0x1B02
abbrev EMBER_HANDBACK : Nat := 0x1B03
abbrev EMBER_PROGRAM_FAULT : Nat := 0x1B04
/-! Ledger -/
abbrev LEDGER_STREAM_OVERFLOW : Nat := 0x1C01
abbrev LEDGER_TOKEN_REJECT : Nat := 0x1C02
abbrev LEDGER_METER_DISAGREE : Nat := 0x1C03
abbrev LEDGER_READ_FAIL : Nat := 0x1C04
abbrev LEDGER_METER_LOST : Nat := 0x1C05
/-! Beacon -/
abbrev BEACON_LOCKED : Nat := 0x1D01
abbrev BEACON_UNLOCKED : Nat := 0x1D02
abbrev BEACON_STEP_REFUSED : Nat := 0x1D03
abbrev BEACON_SWITCH : Nat := 0x1D04
abbrev BEACON_DOMAIN_DISAGREE : Nat := 0x1D05
abbrev BEACON_BEHIND_AT_START : Nat := 0x1D06
abbrev BEACON_REF_LOST : Nat := 0x1D07
abbrev BEACON_PPS_LOST : Nat := 0x1D08
abbrev BEACON_TXTS_OVERFLOW : Nat := 0x1D09
abbrev BEACON_EPOCH : Nat := 0x1D0A
/-! Mailboxes -/
abbrev MB_SENDER_REFUSED : Nat := 0x1E01
/-! Tallow -/
abbrev TALLOW_CONFIG_MISMATCH : Nat := 0x1F01
abbrev TALLOW_MIRROR_REPAIRED : Nat := 0x1F02
abbrev TALLOW_ORPHAN_RECLAIMED : Nat := 0x1F03
abbrev TALLOW_ERASE_AT_MOUNT : Nat := 0x1F04
abbrev TALLOW_MOUNT_FAILED : Nat := 0x1F05
abbrev TALLOW_BLOCK_RETIRED : Nat := 0x1F06
abbrev TALLOW_WORN : Nat := 0x1F07
/-! Chimney -/
abbrev CHIM_START : Nat := 0x2001
abbrev CHIM_LOG_LOST : Nat := 0x2002
abbrev CHIM_FEED_GAP : Nat := 0x2003
abbrev CHIM_SUMMARY : Nat := 0x2004
abbrev CHIM_FWD_UNACKED : Nat := 0x2005
abbrev CHIM_LAST_LIGHT : Nat := 0x2006
/-! Lamplighter -/
abbrev LAMP_LOCKSTEP : Nat := 0x2101
abbrev LAMP_WATCHDOG : Nat := 0x2102
abbrev LAMP_ENTROPY_FAIL : Nat := 0x2103
abbrev LAMP_CFG_REFUSED : Nat := 0x2104
abbrev LAMP_FW_FALLBACK : Nat := 0x2105
abbrev LAMP_CAL_INVALID : Nat := 0x2106
/-! Power and package -/
abbrev PWR_FAIL_ASSERTED : Nat := 0x2201
abbrev PWR_CORE_TIMEOUT : Nat := 0x2202
abbrev PWR_QUEUE_FULL : Nat := 0x2203
abbrev PWR_START_OVERSIZE : Nat := 0x2204
abbrev PWR_POS_FAIL : Nat := 0x2205
abbrev PKG_OVERTEMP : Nat := 0x2206
abbrev PKG_THERMTRIP : Nat := 0x2207
/-! events named for a status code (R548) -/
abbrev INTEGRITY_CRC : Nat := 0x8401
abbrev READBACK_MISMATCH : Nat := 0x8404
abbrev ABORTED_RESET : Nat := 0x8301
abbrev COLL_TIMEOUT : Nat := 0x8304
abbrev COLL_MISMATCH : Nat := 0x8305
abbrev STALE_GENERATION : Nat := 0x8306
abbrev LEDGER_BACKPRESSURE : Nat := 0x8505
abbrev TALLOW_NOT_ERASED : Nat := 0x8701
abbrev TALLOW_READ_ONLY : Nat := 0x8704

/-- The codes that always carry the ALARM flag (R549). -/
def alarms : List Nat := [
  ROLE_VACANT, ROLE_WITNESS_ALONE, WICK_UNPROTECTED, SHADOW_NO_MAJORITY, RCV_STALLED, RCV_NO_COMMON_POINT,
   FLICKER_MODEL_FAULT, EMBER_PROGRAM_FAULT, LEDGER_METER_LOST, BEACON_DOMAIN_DISAGREE, BEACON_BEHIND_AT_START,
   TALLOW_MOUNT_FAILED, TALLOW_WORN, LAMP_ENTROPY_FAIL, LAMP_CAL_INVALID, PWR_CORE_TIMEOUT, PKG_OVERTEMP,
   PKG_THERMTRIP, TALLOW_READ_ONLY]

/-- Base and number of codes of each group of Table 24-4. -/
def groups : List (Nat × Nat) := [
  (0x1000, 7), (0x1100, 4), (0x1200, 7), (0x1300, 4), (0x1400, 1), (0x1500, 4), (0x1600, 8), (0x1700, 11),
   (0x1800, 11), (0x1900, 10), (0x1A00, 9), (0x1B00, 4), (0x1C00, 5), (0x1D00, 10), (0x1E00, 1), (0x1F00, 7),
   (0x2000, 6), (0x2100, 6), (0x2200, 7)]

/-- The event codes named for a status code (R548). -/
def statusNamed : List Nat :=
  [INTEGRITY_CRC, READBACK_MISMATCH, ABORTED_RESET, COLL_TIMEOUT, COLL_MISMATCH, STALE_GENERATION, LEDGER_BACKPRESSURE,
   TALLOW_NOT_ERASED, TALLOW_READ_ONLY]

/-- A code that R548 assigns; every other code is reserved. -/
def assigned (c : Nat) : Bool := groups.any (fun g => g.1 < c && c ≤ g.1 + g.2) || statusNamed.contains c

end Ev

end Sys2Proof.Machine
end

