-- ==== Sys2Proof/Machine/EmberTypes.lean ====
section
/-!
DEFINITION. Plain data of Ember (15).
-/
namespace Sys2Proof.Machine

/-- An expert descriptor (Table 15-2). -/
structure Expert where
  tag : Nat
  fmt : Nat
  act : Nat
  dModel : Nat
  dFf : Nat
  off : Nat
  deriving DecidableEq, Repr

/-- An expert table bound for a shard (R365), and one that applies after the stand-in ends. -/
structure EmbTable where
  job : Nat
  experts : List Expert
  next : Option (List Expert)
  deriving DecidableEq, Repr

/-- A token set at the buddy (Table 15-4): the T3 that forwarded it, stream references, activation bytes. -/
structure TokSet where
  src : Nat
  tag : Nat
  seq : Nat
  set : Nat
  refs : List Nat
  vecs : List Nat
  deriving DecidableEq, Repr

/-- A stand-in entry (Table 15-11): state 1 starting, 2 active, 3 ending. -/
structure StandIn where
  job : Nat
  shard : Nat
  cid : Nat
  ctx : Nat
  /-- T3 of the position -/
  origin : Nat
  state : Nat
  seq : Nat
  start : Nat
  /-- cap of R363, tokens per millisecond and expert; 0 none; tokens taken: monotonic time, tag, count -/
  cap : Nat
  taken : List (Nat × Nat × Nat)
  queue : List TokSet
  served : Nat
  /-- EMBER_STOP and EMBER_UNBIND commands that wait for its end; the table goes with it -/
  stops : List (Nat × Sys2Proof.Cmd)
  unbind : Bool
  deriving DecidableEq, Repr

/-- A route as a member T3 forwarded it (R368). -/
structure EmbRoute where
  job : Nat
  shard : Nat
  cid : Nat
  ctx : Nat
  seq : Nat
  mode : Nat
  tags : List Nat
  deriving DecidableEq, Repr

/-- A set forwarded to a buddy and not answered (R370, R372). -/
structure EmbFwd where
  port : Nat
  ctx : Nat
  hseq : Nat
  tag : Nat
  seq : Nat
  set : Nat
  /-- token count -/
  k : Nat
  buddy : Nat
  deriving DecidableEq, Repr

/-- Messages of a set that has not wholly arrived: sender, references and bytes of each message. -/
structure EmbPart where
  key : Nat
  set : Nat
  refs : List Nat
  vecs : List Nat
  deriving DecidableEq, Repr

/-- Ember (15). -/
structure Ember where
  enable : Bool
  draining : Bool
  /-- bound tables by shard -/
  tables : NMap EmbTable
  /-- stand-in entries 0-15; sequence of the last stand-in -/
  entries : NMap StandIn
  seq : Nat
  /-- instance: 0 none, 1 loading, 2 running; slot; the image's region and offset; monotonic time of its last fault -/
  inst : Nat
  slot : Nat
  image : Nat × Nat
  fault : Option Nat
  /-- last expert served (entry, tag) and the batch that runs -/
  rot : Nat × Nat
  batch : Option (Nat × List TokSet)
  /-- member: routes forwarded, sets in flight, sets in part -/
  routes : List EmbRoute
  fwds : List EmbFwd
  parts : List EmbPart
  /-- keeper: routes that wait for the failure's notice; failures noticed: CID, job -/
  held : List EmbRoute
  noticed : List (Nat × Nat)
  /-- work of the tick by stream reference (R396): member T3, reference, weight -/
  work : List (Nat × Nat × Nat)
  deriving DecidableEq, Repr

/-- Ember at reset. -/
def Ember.reset : Ember :=
  { enable := true, draining := false, tables := [], entries := [], seq := 0, inst := 0, slot := 0, image := (0xFFFF, 0), fault := none, rot := (0, 0),
    batch := none, routes := [], fwds := [], parts := [], held := [], noticed := [], work := [] }

end Sys2Proof.Machine
end

