-- ==== Sys2Proof/Machine/FlickerTypes.lean ====
section
/-!
DEFINITION. Plain data of Flicker (14).
-/
namespace Sys2Proof.Machine

/-- A bucket of 10 s (R341): samples present and missing, and for each slot the sum and the maximum, as binary32 patterns. -/
structure FBucket where
  no : Nat
  present : Nat
  missing : Nat
  sums : List Nat
  maxs : List Nat
  deriving DecidableEq, Repr

/-- An empty bucket. -/
def FBucket.reset : FBucket := { no := 0, present := 0, missing := 0, sums := List.replicate 16 0, maxs := List.replicate 16 0 }

/-- A raise of a risk-high flag that has cleared (R357): times of both, and whether an outcome was charged since. -/
structure FRaise where
  at_ : Nat
  cleared : Nat
  charged : Bool
  deriving DecidableEq, Repr

/-- A component (Table 14-15) and its history. -/
structure Comp where
  cls : Nat
  idx : Nat
  /-- position port, 0xFF when none -/
  port : Nat
  /-- Table 14-5: 0 UNKNOWN, 1 PRIOR, 2 SCORED, 3 STALE -/
  state : Nat
  flag : Bool
  conf : Nat
  risk1 : Nat
  risk24 : Nat
  expert : Nat
  /-- Beacon time of the last evaluation, as Table 14-15 packs it -/
  lastEval : Nat
  /-- monotonic time [ns] of the first and of the last sample -/
  first : Option Nat
  lastAt : Option Nat
  /-- the closed buckets, newest first, up to 90, and the open one -/
  ring : List FBucket
  cur : FBucket
  empties : Nat
  /-- sequence and interval end of the last glim; missing intervals a timer counted since -/
  seq : Option Nat
  ended : Nat
  late : Nat
  /-- last cumulative counts, by slot -/
  last : NMap Nat
  /-- fault reports of severity 0 or 1 since the last glim -/
  faults : Nat
  /-- triggered evaluation pending, and monotonic time of the last one -/
  pending : Bool
  trigAt : Option Nat
  /-- monotonic time of the raise in force, an outcome was charged since; earlier raises, newest first -/
  raisedAt : Nat
  hit : Bool
  raises : List FRaise
  /-- actions fired since the flag was raised; prestage hold [min]; RAISE_MIRROR_PRIORITY's Parameter A; drain in force -/
  acted : List Nat
  prestage : Option Nat
  granted : Bool
  mirror : Nat
  drain : Bool
  /-- calibration sample: bin, and an outcome was charged in its hour -/
  sample : Option (Nat × Bool)
  deriving DecidableEq, Repr

/-- A component just created. -/
def Comp.new (cls idx port : Nat) : Comp :=
  { cls := cls, idx := idx, port := port, state := 0, flag := false, conf := 0, risk1 := 0xFFFF, risk24 := 0xFFFF, expert := 0, lastEval := 0,
    first := none, lastAt := none, ring := [], cur := FBucket.reset, empties := 0, seq := none, ended := 0, late := 0, last := [], faults := 0,
    pending := false, trigAt := none, raisedAt := 0, hit := false, raises := [], acted := [], prestage := none, granted := false, mirror := 0, drain := false, sample := none }

/-- A work item in flight (Table 14-6): sweep number with bit 63, slot of the model that has it, its components. -/
structure FItem where
  no : Nat
  slot : Nat
  comps : List Nat
  deriving DecidableEq, Repr

/-- A model (R346): slot, program, class mask, image region and offset. -/
structure FModel where
  slot : Nat
  prog : Nat
  mask : Nat
  image : Nat × Nat
  deriving DecidableEq, Repr

/-- Flicker (14). -/
structure Flicker where
  enable : Bool
  extract : Bool
  priorEn : Bool
  /-- ports whose streams drain by a standing order of another trigger (R354) -/
  drained : List Nat
  ready : Bool
  draining : Bool
  /-- the Flicker region (R337) -/
  region : Nat
  /-- population prior of the configuration image (R345), 64 bytes -/
  priors : Option (List Nat)
  comps : NMap Comp
  /-- number of the last sweep -/
  sweep : Nat
  /-- model in force; one that runs and takes over at the next sweep; those that complete their items (R347) -/
  model : Option FModel
  next : Option FModel
  old : List FModel
  /-- a load in progress: mask, image, and the command that asked -/
  loading : Option (Nat × (Nat × Nat) × Option Sys2Proof.Cmd)
  items : List FItem
  /-- items that a drain or a fault cancelled: what comes for them later comes under the old tag (R144) -/
  lapsed : List FItem
  /-- FLICKER_EVAL commands waiting: component, command -/
  evals : List (Nat × Sys2Proof.Cmd)
  /-- last fault of a model (R355): its image and the monotonic time -/
  fault : Option ((Nat × Nat) × Nat)
  /-- evaluations of the last whole second and of the running one: second, sweep, triggered (FLICKER_RATE) -/
  rateSec : Nat
  rate : Nat × Nat
  rateNow : Nat × Nat
  /-- calibration table: samples and failures by 16 * class + bin (R358) -/
  qual : NMap (Nat × Nat)
  deriving DecidableEq, Repr

/-- Flicker at reset. -/
def Flicker.reset : Flicker :=
  { enable := true, extract := true, priorEn := false, drained := [], ready := false, draining := false, region := 0xFFFF, priors := none, comps := [], sweep := 0,
    model := none, next := none, old := [], loading := none, items := [], lapsed := [], evals := [], fault := none, rateSec := 0, rate := (0, 0),
    rateNow := (0, 0), qual := [] }

end Sys2Proof.Machine
end

