-- ==== Sys2Proof/Machine/Finger.lean ====
section
/-!
DEFINITION. Philox4x32-10 (08 R197), fingerprints over GF(2^61 - 1) (08 R200-R202) and the buddy layout (10 R242).
-/
namespace Sys2Proof.Machine

/-- One round of Philox4x32 (R197): key words and counter words. -/
def philoxRound (s : (Nat × Nat) × (Nat × Nat × Nat × Nat)) : (Nat × Nat) × (Nat × Nat × Nat × Nat) :=
  let k := s.1
  let c := s.2
  let p0 := 0xD2511F53 * c.1
  let p1 := 0xCD9E8D57 * c.2.2.1
  ((wrapW 32 (k.1 + 0x9E3779B9), wrapW 32 (k.2 + 0xBB67AE85)),
   ((p1 / 2 ^ 32) ^^^ c.2.1 ^^^ k.1, wrapW 32 p1, (p0 / 2 ^ 32) ^^^ c.2.2.2 ^^^ k.2, wrapW 32 p0))

/-- philox(key0, key1, c0, c1, c2, c3): four output words (R197). -/
def philox (k0 k1 c0 c1 c2 c3 : Nat) : List Nat :=
  let r := (Nat.repeat philoxRound 10 ((k0 % 2 ^ 32, k1 % 2 ^ 32), (c0 % 2 ^ 32, c1 % 2 ^ 32, c2 % 2 ^ 32, c3 % 2 ^ 32))).2
  [r.1, r.2.1, r.2.2.1, r.2.2.2]

/-- The prime of the fingerprint field (R200). -/
abbrev fpP : Nat := 2 ^ 61 - 1

/-- r = 2 + (K mod (2^61 - 4)) (R200). -/
def fpR (key : Nat) : Nat := 2 + key % (2 ^ 61 - 4)

/-- b^n mod p over the bits of n (`fuel` bits at most). -/
def powModP : Nat → Nat → Nat → Nat
  | 0, _, _ => 1
  | fuel + 1, b, n =>
    if n = 0 then 1
    else
      let h := powModP fuel (b * b % fpP) (n / 2)
      if n % 2 = 1 then h * b % fpP else h

/-- r^n mod p. -/
def fpPow (r n : Nat) : Nat := powModP 80 r n

/-- Fingerprint of consecutive elements `vs` from global index `n` (R200). -/
def fpSum (r : Nat) : Nat → List Nat → Nat
  | _, [] => 0
  | n, v :: t => (v * fpPow r n + fpSum r (n + 1) t) % fpP

/-- Cut bytes into elements of `w` bytes, little-endian; a final partial element is padded with zeros (R200). -/
def elemsOf (w : Nat) : Nat → List Nat → List Nat
  | 0, _ => []
  | fuel + 1, l => if l.isEmpty then [] else leNat (l.take w) :: elemsOf w fuel (l.drop w)

/-- Width in bytes of an element of a data format (Table 8-1): raw bytes and index lists are 32-bit words. -/
def fmtWidth (fmt : Nat) : Nat := if fmt = 2 ∨ fmt = 3 then 2 else if fmt = 4 ∨ fmt = 5 then 1 else 4

/-- Fingerprint of a gradient block (R244): component 0, element j of block b has index first + b * (4096 / w) + j. -/
def fpBlock (key first fmt index : Nat) (data : List Nat) : Nat :=
  let w := fmtWidth fmt
  fpSum (fpR key) (first + index * (4096 / w)) (elemsOf w data.length data)

/-- Blocks of component of width `w` (R242): each array begins on a 4 KiB boundary. -/
def compBlocks (params w : Nat) : Nat := (params * w + 4095) / 4096

/-- Layout blocks of a shard. -/
def layoutBlocks (params : Nat) (fmts : List Nat) : Nat := sumL (fmts.map fun f => compBlocks params (fmtWidth f))

/-- Component, block within it and format of layout block `b`. -/
def blockComp (params : Nat) : List Nat → Nat → Nat → Option (Nat × Nat × Nat)
  | [], _, _ => none
  | f :: r, c, b =>
    let n := compBlocks params (fmtWidth f)
    if b < n then some (c, b, f) else blockComp params r (c + 1) (b - n)

/-- Fingerprint contribution of layout block `b` holding `data` (R201, R242): component c of parameter e has index
c * E + e; bytes past the component's last element are not elements. -/
def fpLayout (key total first params : Nat) (fmts : List Nat) (b : Nat) (data : List Nat) : Nat :=
  match blockComp params fmts 0 b with
  | none => 0
  | some (c, k, f) =>
    let w := fmtWidth f
    let e := k * (4096 / w)
    fpSum (fpR key) (c * total + first + e) ((elemsOf w data.length data).take (params - e))

/-- Layout blocks that shard parameters `a` to `a + n - 1` cover in every component. -/
def blocksOf (params : Nat) (fmts : List Nat) (a n : Nat) : List Nat :=
  let go := fun (s : Nat × List Nat) (f : Nat) =>
    let w := fmtWidth f
    let lo := a * w / 4096
    let hi := (min (a + n) params * w + 4095) / 4096
    (s.1 + compBlocks params w, s.2 ++ (List.range (hi - lo)).map fun i => s.1 + lo + i)
  if n = 0 then [] else (fmts.foldl go (0, [])).2

end Sys2Proof.Machine
end

