-- ==== Sys2Proof/Machine/Float.lean ====
section
/-!
DEFINITION. Taper arithmetic (08): formats, rounding, special values, the operations of Table 8-6, MX conversion, tiles, long
accumulators and stochastic rounding. A value is carried exactly as sign, magnitude and power of two, and rounded once (R176).
-/
namespace Sys2Proof.Machine

/-! Formats (Table 8-1) -/

/-- Bits of a format code of Table 9-7, 0 for a reserved one. -/
def fmtBits (f : Nat) : Nat :=
  if f = 1 then 32 else if f = 2 ∨ f = 3 then 16 else if f = 4 ∨ f = 5 ∨ f = 8 then 8 else if f = 6 then 64 else if f = 7 then 4
  else if f = 0x10 ∨ f = 0x14 then 8 else if f = 0x11 ∨ f = 0x15 then 16 else if f = 0x12 ∨ f = 0x16 then 32
  else if f = 0x13 ∨ f = 0x17 then 64 else 0

/-- Fraction bits. -/
def fmtFrac (f : Nat) : Nat :=
  if f = 1 then 23 else if f = 2 then 7 else if f = 3 then 10 else if f = 4 then 3 else if f = 5 then 2 else if f = 6 then 52 else 1

/-- Exponent bits. -/
def fmtExp (f : Nat) : Nat := fmtBits f - 1 - fmtFrac f

/-- Bias. -/
def fmtBias (f : Nat) : Nat := if f = 1 ∨ f = 2 then 127 else if f = 3 ∨ f = 5 then 15 else if f = 4 then 7 else if f = 6 then 1023 else 1

/-- Exponent of the smallest normal value. -/
def fmtEmin (f : Nat) : Int := 1 - (fmtBias f : Int)

/-- Largest finite magnitude pattern. -/
def fmtMax (f : Nat) : Nat :=
  if f = 4 then 0x7E else if f = 7 then 7 else (2 ^ fmtExp f - 1) * 2 ^ fmtFrac f - 1

/-- Pattern of infinity, for the formats that have one. -/
def fmtInf (f : Nat) : Nat := (2 ^ fmtExp f - 1) * 2 ^ fmtFrac f

/-- Sign bit of a format. -/
def fmtSign (f : Nat) (s : Bool) : Nat := if s then 2 ^ (fmtBits f - 1) else 0

/-- The positive canonical NaN (R181). -/
def canonNan (f : Nat) : Nat :=
  if f = 6 then 0x7FF8000000000000 else if f = 1 then 0x7FC00000 else if f = 2 then 0x7FC0 else if f = 3 then 0x7E00
  else if f = 4 then 0x7F else if f = 5 then 0x7E else 0

/-- FTZ and DAZ apply to binary32, bf16, binary16 and binary64 (R179). -/
def fmtFlush (f : Nat) : Bool := f = 1 || f = 2 || f = 3 || f = 6

/-- A value: NaN (sign, signalling, fraction and its width), infinity, or sign, magnitude and exponent of two. -/
inductive FVal where
  | nan (s sig : Bool) (frac width : Nat)
  | inf (s : Bool)
  | fin (s : Bool) (m : Nat) (e : Int)
  deriving DecidableEq, Repr

/-- The value of a pattern, subnormals honoured. -/
def fvalOf (f x : Nat) : FVal :=
  let w := fmtFrac f
  let s := bitAt x (fmtBits f - 1)
  let ex := bits x (fmtBits f - 2) w
  let fr := x % 2 ^ w
  if f = 4 ∧ ex = 15 ∧ fr = 7 then .nan s false fr w
  else if f ≠ 4 ∧ f ≠ 7 ∧ ex = 2 ^ fmtExp f - 1 then (if fr = 0 then .inf s else .nan s (!(bitAt fr (w - 1))) fr w)
  else if ex = 0 then .fin s fr (fmtEmin f - w)
  else .fin s (fr + 2 ^ w) (fmtEmin f + ((ex : Int) - 1) - w)

/-- Arithmetic context of an operation: rounding mode (0-5), FTZ, DAZ, NAN_PROP, the saturation flag in force, SR_BITS and the random
word drawn for the element (R177-R181, R198). -/
structure ACtx where
  rm : Nat
  ftz : Bool
  daz : Bool
  nanProp : Bool
  sat : Bool
  srBits : Nat
  word : Nat
  deriving DecidableEq, Repr

/-- Flags of ARITH_STATUS (Table 8-5). -/
abbrev flNV : Nat := 1
abbrev flDZ : Nat := 2
abbrev flOF : Nat := 4
abbrev flUF : Nat := 8
abbrev flNX : Nat := 16

/-- A flag raised on a condition. -/
def flIf (b : Bool) (f : Nat) : Nat := if b then f else 0

/-- The value an operation reads: a subnormal input is zero of its sign under DAZ (R179). -/
def ACtx.take (c : ACtx) (f x : Nat) : FVal :=
  match fvalOf f x with
  | .fin s m e => if c.daz && fmtFlush f && m < 2 ^ fmtFrac f then .fin s 0 e else .fin s m e
  | v => v

/-- A NaN is signalling. -/
def FVal.isSig : FVal → Bool
  | .nan _ sg _ _ => sg
  | _ => false

/-- A NaN. -/
def FVal.isNan : FVal → Bool
  | .nan _ _ _ _ => true
  | _ => false

/-- An infinity. -/
def FVal.isInf : FVal → Bool
  | .inf _ => true
  | _ => false

/-- A zero. -/
def FVal.isZero : FVal → Bool
  | .fin _ m _ => m == 0
  | _ => false

/-- The sign. -/
def FVal.sign : FVal → Bool
  | .nan s _ _ _ => s
  | .inf s => s
  | .fin s _ _ => s

/-- The value with its sign changed. -/
def FVal.neg : FVal → FVal
  | .nan s g x w => .nan (!s) g x w
  | .inf s => .inf (!s)
  | .fin s m e => .fin (!s) m e

/-- A NaN carried into format `f`, quieted: the sign and the most significant fraction bits; E4M3 keeps only the sign (R181). -/
def nanInto (f : Nat) (s : Bool) (fr w : Nat) : Nat :=
  let d := fmtFrac f
  if f = 4 then fmtSign 4 s + 0x7F
  else
    let x := if d ≤ w then fr / 2 ^ (w - d) else fr * 2 ^ (d - w)
    fmtSign f s + fmtInf f + setBit (x % 2 ^ d) (d - 1)

/-- The NaN result of an operation on these operands (R181). -/
def ACtx.nanRes (c : ACtx) (f : Nat) (vs : List FVal) : Nat :=
  if c.nanProp then
    match vs.find? FVal.isNan with
    | some (.nan s _ fr w) => nanInto f s fr w
    | _ => canonNan f
  else canonNan f

/-! Rounding (R176-R179, R199) -/

/-- Whether a magnitude `sig` with remainder `rem` of `2^sh` (and `sticky` below it) goes up. -/
def ACtx.goesUp (c : ACtx) (s : Bool) (sig rem sh : Nat) (sticky : Bool) : Bool :=
  let inexact := rem ≠ 0 || sticky
  if sh = 0 then inexact && ((c.rm = 2 && !s) || (c.rm = 3 && s))
  else if c.rm = 0 then 2 ^ (sh - 1) < rem || (rem = 2 ^ (sh - 1) && (sticky || sig % 2 = 1))
  else if c.rm = 1 then false
  else if c.rm = 2 then inexact && !s
  else if c.rm = 3 then inexact && s
  else if c.rm = 4 then 2 ^ (sh - 1) ≤ rem
  else inexact && 2 ^ c.srBits ≤ rem * 2 ^ c.srBits / 2 ^ sh + c.word / 2 ^ (32 - c.srBits)

/-- A magnitude `q * 2^e` rounded to a multiple of `2^k`: the multiple, and whether it is inexact. -/
def ACtx.roundAt (c : ACtx) (s : Bool) (q : Nat) (e k : Int) (sticky : Bool) : Nat × Bool :=
  if k ≤ e then (q * 2 ^ (e - k).toNat + b2n (c.goesUp s 0 0 0 sticky), sticky)
  else
    let sh := (k - e).toNat
    let sig := q / 2 ^ sh
    let rem := q % 2 ^ sh
    (sig + b2n (c.goesUp s sig rem sh sticky), rem ≠ 0 || sticky)

/-- The result of an overflow (R178, R199). -/
def ACtx.overflow (c : ACtx) (f : Nat) (s : Bool) : Nat :=
  if f = 4 then (if c.sat then fmtSign 4 s + 0x7E else 0x7F)
  else if f = 7 then fmtSign 7 s + 7
  else if c.rm = 1 || (c.rm = 2 && s) || (c.rm = 3 && !s) then fmtSign f s + fmtMax f
  else fmtSign f s + fmtInf f

/-- Round the value of magnitude `q * 2^e` (plus less than `2^e` where `sticky`) and sign `s` to format `f`: pattern and flags. -/
def ACtx.round (c : ACtx) (f : Nat) (s : Bool) (q : Nat) (e : Int) (sticky : Bool) : Nat × Nat :=
  if q = 0 then (fmtSign f s, 0)
  else
    let w := fmtFrac f
    let top := (Nat.log2 q : Int) + e
    let lowest := fmtEmin f - w
    let k := max (top - w) lowest
    let r := c.roundAt s q e k sticky
    let pat := r.1 + (k - lowest).toNat * 2 ^ w
    let free := (c.roundAt s q e (top - w) sticky).1
    let tiny := top < fmtEmin f && !(free = 2 ^ (w + 1) && top + 1 = fmtEmin f)
    if fmtMax f < pat then (c.overflow f s, flOF + flNX)
    else if c.ftz && fmtFlush f && 0 < pat && pat < 2 ^ w then (fmtSign f s, flUF + flNX)
    else (fmtSign f s + pat, flIf r.2 flNX + flIf (tiny && r.2) flUF)

/-- Round an exact value. -/
def ACtx.put (c : ACtx) (f : Nat) : FVal → Nat × Nat
  | .fin s m e => c.round f s m e false
  | .inf s => (fmtSign f s + fmtInf f, 0)
  | .nan s _ fr w => (nanInto f s fr w, 0)

/-! Add, multiply, divide, square root (Table 8-6) -/

/-- The exact sum of two finite values, as an integer and an exponent. -/
def exactSum (s1 : Bool) (m1 : Nat) (e1 : Int) (s2 : Bool) (m2 : Nat) (e2 : Int) : Int × Int :=
  let e := min e1 e2
  let x1 : Int := ((m1 * 2 ^ (e1 - e).toNat : Nat) : Int)
  let x2 : Int := ((m2 * 2 ^ (e2 - e).toNat : Nat) : Int)
  ((if s1 then -x1 else x1) + (if s2 then -x2 else x2), e)

/-- Flags of signalling NaN operands (R181). -/
def sigFlags (vs : List FVal) : Nat := flIf (vs.any FVal.isSig) flNV

/-- A sum of two values, rounded (R176, R180, R181); `ops` are the operands in order, for a NaN result. -/
def ACtx.addV (c : ACtx) (f : Nat) (a b : FVal) (ops : List FVal) : Nat × Nat :=
  if ops.any FVal.isNan then (c.nanRes f ops, sigFlags ops)
  else match a, b with
    | .inf s, .inf t => if s = t then (fmtSign f s + fmtInf f, 0) else (canonNan f, flNV)
    | .inf s, _ => (fmtSign f s + fmtInf f, 0)
    | _, .inf t => (fmtSign f t + fmtInf f, 0)
    | .fin s1 m1 e1, .fin s2 m2 e2 =>
      let x := exactSum s1 m1 e1 s2 m2 e2
      if x.1 = 0 then (fmtSign f (if s1 = s2 then s1 else c.rm = 3), 0)
      else c.round f (decide (x.1 < 0)) x.1.natAbs x.2 false
    | _, _ => (canonNan f, 0)

/-- The exact product of two values; none where it is invalid (0 times infinity). -/
def mulV (a b : FVal) : Option FVal :=
  match a, b with
  | .inf s, .inf t => some (.inf (s != t))
  | .inf s, .fin t m _ => if m = 0 then none else some (.inf (s != t))
  | .fin s m _, .inf t => if m = 0 then none else some (.inf (s != t))
  | .fin s m e, .fin t n g => some (.fin (s != t) (m * n) (e + g))
  | _, _ => none

/-- FADD, FSUB. -/
def ACtx.add (c : ACtx) (f a b : Nat) : Nat × Nat := let x := c.take f a; let y := c.take f b; c.addV f x y [x, y]
def ACtx.sub (c : ACtx) (f a b : Nat) : Nat × Nat := let x := c.take f a; let y := c.take f b; c.addV f x y.neg [x, y]

/-- FMUL. -/
def ACtx.mul (c : ACtx) (f a b : Nat) : Nat × Nat :=
  let x := c.take f a
  let y := c.take f b
  if x.isNan || y.isNan then (c.nanRes f [x, y], sigFlags [x, y])
  else match mulV x y with
    | none => (canonNan f, flNV)
    | some v => c.put f v

/-- A fused multiply-add: the product negated where `np`, the addend where `nc`; one rounding (R176, R181). -/
def ACtx.fused (c : ACtx) (f a b d : Nat) (np nc : Bool) : Nat × Nat :=
  let x := c.take f a
  let y := c.take f b
  let z := c.take f d
  let bad := (x.isInf && y.isZero) || (x.isZero && y.isInf)
  if x.isNan || y.isNan || z.isNan then (c.nanRes f [x, y, z], sigFlags [x, y, z] ||| flIf bad flNV)
  else match mulV x y with
    | none => (canonNan f, flNV)
    | some v =>
      let p := if np then v.neg else v
      let z := if nc then z.neg else z
      c.addV f p z [p, z]

/-- FDIV. -/
def ACtx.div (c : ACtx) (f a b : Nat) : Nat × Nat :=
  let x := c.take f a
  let y := c.take f b
  if x.isNan || y.isNan then (c.nanRes f [x, y], sigFlags [x, y])
  else match x, y with
    | .inf _, .inf _ => (canonNan f, flNV)
    | .inf s, .fin t _ _ => (fmtSign f (s != t) + fmtInf f, 0)
    | .fin s _ _, .inf t => (fmtSign f (s != t), 0)
    | .fin s m e, .fin t n g =>
      if n = 0 then (if m = 0 then (canonNan f, flNV) else (fmtSign f (s != t) + fmtInf f, flDZ))
      else if m = 0 then (fmtSign f (s != t), 0)
      else
        let k := 140 + Nat.log2 n
        c.round f (s != t) (m * 2 ^ k / n) (e - g - k) (m * 2 ^ k % n ≠ 0)
    | _, _ => (canonNan f, 0)

/-- Integer square root by bits: the largest r built from the lowest `k` bit places with r * r at most n. -/
def isqrtBits : Nat → Nat → Nat → Nat
  | 0, _, r => r
  | k + 1, n, r => let t := r + 2 ^ k; isqrtBits k n (if t * t ≤ n then t else r)

/-- The integer square root. -/
def isqrt (n : Nat) : Nat := isqrtBits (Nat.log2 n / 2 + 1) n 0

/-- FSQRT. -/
def ACtx.sqrt (c : ACtx) (f a : Nat) : Nat × Nat :=
  match c.take f a with
  | .nan s g x w => (c.nanRes f [.nan s g x w], flIf g flNV)
  | .inf s => if s then (canonNan f, flNV) else (fmtInf f, 0)
  | .fin s m e =>
    if m = 0 then (fmtSign f s, 0)
    else if s then (canonNan f, flNV)
    else
      let odd := e % 2 ≠ 0
      let n := (if odd then 2 * m else m) * 2 ^ 200
      let g := (if odd then e - 1 else e) - 200
      let r := isqrt n
      c.round f false r (g / 2) (r * r ≠ n)

/-! Compare, minimum, maximum, sign operations (R180, R181, Table 9-12) -/

/-- Order of two values that are not NaN: -1, 0 or 1 as an integer; zeros of either sign are equal. -/
def cmpV (a b : FVal) : Int :=
  match a, b with
  | .inf s, .inf t => if s = t then 0 else if s then -1 else 1
  | .inf s, _ => if s then -1 else 1
  | _, .inf t => if t then 1 else -1
  | .fin s1 m1 e1, .fin s2 m2 e2 => let x := (exactSum s1 m1 e1 (!s2) m2 e2).1; if x < 0 then -1 else if x = 0 then 0 else 1
  | _, _ => 0

/-- A condition of Table 9-12 on an order. -/
def condOf (k : Nat) (o : Int) : Bool :=
  if k = 0 then o = 0 else if k = 1 then o ≠ 0 else if k = 2 then o < 0 else if k = 3 then o ≤ 0 else if k = 4 then 0 < o else if k = 5 then 0 ≤ o
  else false

/-- FCMP: truth and flags. -/
def ACtx.cmp (c : ACtx) (f k a b : Nat) : Bool × Nat :=
  let x := c.take f a
  let y := c.take f b
  if x.isNan || y.isNan then (k = 1 || k = 6, sigFlags [x, y]) else (condOf k (cmpV x y), 0)

/-- FMIN (`mx` false) and FMAX: minimumNumber and maximumNumber; -0 lies below +0. -/
def ACtx.minmax (c : ACtx) (f a b : Nat) (mx : Bool) : Nat × Nat :=
  let x := c.take f a
  let y := c.take f b
  let fl := sigFlags [x, y]
  if x.isNan && y.isNan then (c.nanRes f [x, y], fl)
  else
    let v :=
      if x.isNan then y else if y.isNan then x
      else
        let o := cmpV x y
        let xLess := o < 0 || (o = 0 && x.sign && !y.sign)
        if xLess != mx then x else y
    let r := c.put f v
    (r.1, r.2 ||| fl)

/-- FABS, FNEG, FCOPYSIGN: the sign bit only (R183). -/
def fAbs (f a : Nat) : Nat := a % 2 ^ (fmtBits f - 1)
def fNeg (f a : Nat) : Nat := (a % 2 ^ fmtBits f) ^^^ 2 ^ (fmtBits f - 1)
def fCopy (f a b : Nat) : Nat := fAbs f a + fmtSign f (bitAt b (fmtBits f - 1))

/-! Conversions (R178, R182, R184) -/

/-- FCVT from format `f` to `g`. -/
def ACtx.cvt (c : ACtx) (f g a : Nat) : Nat × Nat :=
  match c.take f a with
  | .nan s sg x w => (c.nanRes g [.nan s sg x w], flIf sg flNV)
  | .inf s =>
    if (g = 4 ∨ g = 5) ∧ c.sat then (fmtSign g s + fmtMax g, 0)
    else if g = 4 then (0x7F, 0)
    else (fmtSign g s + fmtInf g, 0)
  | .fin s m e => c.round g s m e false

/-- Signed integer format (Table 9-7). -/
def intSigned (f : Nat) : Bool := f < 0x14

/-- Least and greatest value of an integer format. -/
def intMin (f : Nat) : Int := if intSigned f then -((2 ^ (fmtBits f - 1) : Nat) : Int) else 0
def intMax (f : Nat) : Int := if intSigned f then ((2 ^ (fmtBits f - 1) - 1 : Nat) : Int) else ((2 ^ fmtBits f - 1 : Nat) : Int)

/-- FCVTI: NaN converts to 0 and a value outside the range to the nearest bound; both raise invalid (R182). -/
def ACtx.cvtInt (c : ACtx) (f g a : Nat) : Nat × Nat :=
  match c.take f a with
  | .nan _ _ _ _ => (0, flNV)
  | .inf s => (ofSigned (fmtBits g) (if s then intMin g else intMax g), flNV)
  | .fin s m e =>
    let r := c.roundAt s m e 0 false
    let i : Int := if s then -(r.1 : Int) else r.1
    if i < intMin g then (ofSigned (fmtBits g) (intMin g), flNV)
    else if intMax g < i then (ofSigned (fmtBits g) (intMax g), flNV)
    else (ofSigned (fmtBits g) i, flIf r.2 flNX)

/-- The integer a lane holds. -/
def intVal (f x : Nat) : Int := if intSigned f then toSigned (fmtBits f) x else ((x % 2 ^ fmtBits f : Nat) : Int)

/-- ICVTF. -/
def ACtx.ofInt (c : ACtx) (f g x : Nat) : Nat × Nat :=
  let i := intVal f x
  c.round g (decide (i < 0)) i.natAbs 0 false

/-! Approximations (R183): the pattern is a free value within the error bound that Table 8-6 gives -/

/-- The context's ARITH_CTL bits that an approximation may depend on. -/
def ACtx.key (c : ACtx) : Nat := b2n c.ftz + 2 * b2n c.daz + 4 * b2n c.nanProp

/-- Flags an approximation may raise beside those R183 states: a free choice of overflow, underflow and inexact. -/
def ACtx.estFlags (c : ACtx) (op a : Nat) : Nat := Config.estimateFlags op a c.key &&& (flOF + flUF + flNX)

/-- `m * 2^e` within `2^-12` of one, relative to one. -/
def nearOne (m : Nat) (e : Int) : Bool :=
  if 0 ≤ e then false || (m = 1 && e = 0)
  else
    let n := 2 ^ (-e).toNat
    (if n ≤ m then m - n else n - m) * 4096 ≤ n

/-- RCP_EST: relative error at most 2^-12. -/
def ACtx.rcp (c : ACtx) (a : Nat) : Nat × Nat :=
  match c.take 1 a with
  | .nan s g x w => (c.nanRes 1 [.nan s g x w], flIf g flNV)
  | .inf s => (fmtSign 1 s, 0)
  | .fin s m e =>
    if m = 0 then (fmtSign 1 s + fmtInf 1, flDZ)
    else
      let r := Config.estimate 0x11 a c.key % 2 ^ 32
      let ok := match fvalOf 1 r with
        | .fin t n g => s = t && nearOne (m * n) (e + g)
        | _ => false
      ((if ok then r else (c.div 1 0x3F800000 a).1), c.estFlags 0x11 a)

/-- RSQRT_EST: relative error at most 2^-12; the square of the result times the operand lies within (1 - 2^-12)^2 and (1 + 2^-12)^2. -/
def ACtx.rsqrt (c : ACtx) (a : Nat) : Nat × Nat :=
  match c.take 1 a with
  | .nan s g x w => (c.nanRes 1 [.nan s g x w], flIf g flNV)
  | .inf s => if s then (canonNan 1, flNV) else (0, 0)
  | .fin s m e =>
    if m = 0 then (fmtSign 1 s + fmtInf 1, flDZ)
    else if s then (canonNan 1, flNV)
    else
      let r := Config.estimate 0x12 a c.key % 2 ^ 32
      let ok := match fvalOf 1 r with
        | .fin false n g =>
          let k := e + 2 * g
          let x := m * n * n * 2 ^ k.toNat
          let y := 2 ^ (-k).toNat
          4095 * 4095 * y ≤ 4096 * 4096 * x && 4096 * 4096 * x ≤ 4097 * 4097 * y
        | _ => false
      ((if ok then r else (c.div 1 0x3F800000 (c.sqrt 1 a).1).1), c.estFlags 0x12 a)

/-- EXP2 (0x13) and LOG2 (0x14): within 2 ulp of a value the spec gives no formula for; free but for NaN operands (R181). -/
def ACtx.explog (c : ACtx) (op a : Nat) : Nat × Nat :=
  match c.take 1 a with
  | .nan s g x w => (c.nanRes 1 [.nan s g x w], flIf g flNV)
  | _ => (Config.estimate op a c.key % 2 ^ 32, c.estFlags op a)

/-! MX conversion (R185-R188) -/

/-- Floor of the base-2 logarithm of the largest magnitude; none when all are zero. -/
def topExp : List FVal → Option Int
  | [] => none
  | .fin _ m e :: r =>
    if m = 0 then topExp r
    else match topExp r with
      | none => some ((Nat.log2 m : Int) + e)
      | some k => some (max k ((Nat.log2 m : Int) + e))
  | _ :: r => topExp r

/-- Convert 32 lanes of format `f` to an MXFP4 block (R188): scale, elements, flags; `ctx k` is the context of lane k. -/
def mxPack (ctx : Nat → ACtx) (f : Nat) (xs : List Nat) : Nat × List Nat × Nat :=
  let vs := xs.map fun x => (ctx 0).take f x
  if vs.any fun v => v.isNan || v.isInf then (0xFF, xs.map fun _ => 0, flNV)
  else
    let e : Int := match topExp vs with
      | none => -127
      | some k => max (-127) (min 127 (k - 2))
    let rs := (List.range vs.length).map fun k => match vs[k]? with
      | some (.fin s m g) => (ctx k).round 7 s m (g - e) false
      | _ => (0, 0)
    ((e + 127).toNat, rs.map (·.1), (rs.map (·.2)).foldl (· ||| ·) 0)

/-- One MXFP4 element to binary32 or bf16 (R187). -/
def ACtx.mxElem (c : ACtx) (g scale x : Nat) : Nat × Nat :=
  if scale = 0xFF then (canonNan g, 0)
  else match fvalOf 7 x with
    | .fin s m e => c.round g s m (e + (scale : Int) - 127) false
    | _ => (canonNan g, 0)

/-! Tiles (R189-R192) -/

/-- What a set of products sums to: NaN, invalid, infinities of either sign, and the exact finite sum at exponent -700. -/
structure TileSum where
  nan : Bool
  bad : Bool
  pinf : Bool
  ninf : Bool
  sum : Int
  deriving DecidableEq, Repr

/-- Weight 2^-700 lies below every product a tile forms. -/
def tileUnit : Int := -700

/-- Add one product. -/
def TileSum.add (t : TileSum) (a b : FVal) : TileSum :=
  if a.isNan || b.isNan then { t with nan := true, bad := t.bad || a.isSig || b.isSig }
  else match mulV a b with
    | none => { t with nan := true, bad := true }
    | some (.inf s) => if s then { t with ninf := true } else { t with pinf := true }
    | some (.fin s m e) =>
      let x : Int := ((m * 2 ^ (e - tileUnit).toNat : Nat) : Int)
      { t with sum := t.sum + (if s then -x else x) }
    | some _ => t

/-- C + s rounded once to binary32 by RNE (R189). -/
def ACtx.tileCell (c : ACtx) (x : Nat) (t : TileSum) (scaleNan : Bool) : Nat × Nat :=
  let c := { c with rm := 0 }
  let v := fvalOf 1 x
  if scaleNan then (canonNan 1, flIf (v.isSig || t.bad) flNV)
  else if t.nan || v.isNan then (canonNan 1, flIf (t.bad || v.isSig || (t.pinf && t.ninf)) flNV)
  else if t.pinf && t.ninf then (canonNan 1, flNV)
  else if t.pinf || t.ninf then c.addV 1 v (.inf t.ninf) [v]
  else if t.sum = 0 then (x, 0)
  else c.addV 1 v (.fin (decide (t.sum < 0)) t.sum.natAbs tileUnit) [v]

/-- Logical positions of a 2:4 row (R192): for each group the stored values at their positions, zeros elsewhere; a group whose metadata
is malformed adds to no product, and the second answer says whether one is. -/
def sparseRow (zero : FVal) (row : List FVal) (md : Nat) : Nat → List (Option FVal) × Bool
  | 0 => ([], false)
  | n + 1 =>
    let r := sparseRow zero row md n
    let g := bits md (4 * n + 3) (4 * n)
    let p := g % 4
    let q := g / 4
    if p < q then
      (r.1 ++ (List.range 4).map fun k => some (if k = p then row.getD (2 * n) zero else if k = q then row.getD (2 * n + 1) zero else zero), r.2)
    else (r.1 ++ List.replicate 4 none, true)

/-! Long accumulators (R193-R196) -/

/-- A long accumulator: a 640-bit two's-complement value whose bit b weighs 2^(b - 320), and the status bits PINF, NINF, NAN, OVF. -/
structure LAcc where
  v : BitVec 640
  st : BitVec 4
  deriving DecidableEq, Repr

/-- Cleared (LACC.CLR). -/
def LAcc.zero : LAcc := { v := 0, st := 0 }

/-- Add an integer multiple of 2^-320, and OR the status bits `st`; a carry out of the range sets OVF (R194). -/
def LAcc.plus (a : LAcc) (x : Int) (st : Nat) : LAcc × Bool :=
  let s := a.v.toInt + x
  let ovf := s < -((2 ^ 639 : Nat) : Int) || ((2 ^ 639 : Nat) : Int) ≤ s
  ({ v := BitVec.ofInt 640 s, st := a.st ||| BitVec.ofNat 4 (st + 8 * b2n ovf) }, ovf)

/-- What one value adds: the integer, the status bits, and whether it is invalid (R194). -/
def laccTerm : FVal → Int × Nat × Bool
  | .nan _ g _ _ => (0, 4, g)
  | .inf s => (0, (if s then 2 else 1), false)
  | .fin s m e => let x : Int := ((m * 2 ^ (e + 320).toNat : Nat) : Int); ((if s then -x else x), 0, false)

/-- What one product adds; 0 times infinity sets NAN and is invalid (R194). -/
def laccProd (a b : FVal) : Int × Nat × Bool :=
  if a.isNan || b.isNan then (0, 4, a.isSig || b.isSig)
  else match mulV a b with
    | none => (0, 4, true)
    | some v => laccTerm v

/-- Add a list of terms at once: the new accumulator and the ARITH_STATUS bits raised (invalid, LACC_OVF). -/
def LAcc.addAll (a : LAcc) (l : List (Int × Nat × Bool)) : LAcc × Nat :=
  let x := l.foldl (fun (s : Int) t => s + t.1) 0
  let st := l.foldl (fun (s : Nat) t => s ||| t.2.1) 0
  let r := a.plus x st
  (r.1, flIf (l.any fun t => t.2.2) flNV ||| flIf r.2 64)

/-- LACC.ACC: value and status of another accumulator (R193). -/
def LAcc.acc (a b : LAcc) : LAcc × Nat :=
  let r := a.plus b.v.toInt b.st.toNat
  (r.1, flIf r.2 64)

/-- LACC.RND (R195). -/
def ACtx.laccRound (c : ACtx) (f : Nat) (a : LAcc) : Nat × Nat :=
  let st := a.st.toNat
  if bitAt st 2 || bitAt st 3 || (bitAt st 0 && bitAt st 1) then (canonNan f, flNV)
  else if bitAt st 0 then (fmtInf f, 0)
  else if bitAt st 1 then (fmtSign f true + fmtInf f, 0)
  else
    let x := a.v.toInt
    if x = 0 then (0, 0) else c.round f (decide (x < 0)) x.natAbs (-320) false

/-- The 96 bytes of Table 8-7. -/
def LAcc.bytes (a : LAcc) : List Nat := leBytes 80 a.v.toNat ++ [a.st.toNat] ++ List.replicate 15 0

/-- An accumulator from its 96 bytes; reserved status bits are ignored. -/
def LAcc.ofBytes (l : List Nat) : LAcc := { v := BitVec.ofNat 640 (leNat (l.take 80)), st := BitVec.ofNat 4 (l.getD 80 0) }

/-! Stochastic rounding (R198) -/

/-- The word of element `e` at `site`: word e mod 4 of philox at counter RNG_BASE + site * 2^64 + floor(e / 4). -/
def srWord (key base site e : Nat) : Nat :=
  let c := wrapW 128 (base + site * 2 ^ 64 + e / 4)
  (philox (key % 2 ^ 32) (key / 2 ^ 32) (c % 2 ^ 32) (bits c 63 32) (bits c 95 64) (bits c 127 96)).getD (e % 4) 0

end Sys2Proof.Machine
end

