-- ==== Sys2Proof/Machine/Memory.lean ====
section
/-!
DEFINITION. Byte stores in one canonical form: addresses strictly rising, no entry equal to what an unlisted address
reads as (zero: 05 R118 hands out only zeroed pages, MANTLE_STATUS.READY says initialised and zeroed). The Mantle's
DRAM and its front buffer (05 R113, R116), the local memories of the tapers (07) and the NAND pages of Tallow (20).
-/
namespace Sys2Proof.Machine

/-- A byte store. -/
abbrev Memory := List Host.Cell

/-- The byte an unlisted address reads as. -/
def Memory.blank : Byte := 0#8

/-- Read one byte. -/
def Memory.read : Memory → Nat → Byte
  | [], _ => Memory.blank
  | (a, b) :: r, k => if a = k then b else Memory.read r k

/-- Remove the entry of one address. -/
def Memory.erase : Memory → Nat → Memory
  | [], _ => []
  | (a, b) :: r, k => if a = k then r else if k < a then (a, b) :: r else (a, b) :: Memory.erase r k

/-- Enter one byte that is not the blank byte. -/
def Memory.insert : Memory → Nat → Byte → Memory
  | [], k, v => [(k, v)]
  | (a, b) :: r, k, v =>
    if a = k then (k, v) :: r else if k < a then (k, v) :: (a, b) :: r else (a, b) :: Memory.insert r k v

/-- Write one byte; writing the blank byte removes the entry. -/
def Memory.write (m : Memory) (k : Nat) (v : Byte) : Memory :=
  if v = Memory.blank then Memory.erase m k else Memory.insert m k v

/-- Write bytes at rising addresses from `k`. -/
def Memory.writeAll : Memory → Nat → List Nat → Memory
  | m, _, [] => m
  | m, k, b :: r => Memory.writeAll (Memory.write m k (BitVec.ofNat 8 b)) (k + 1) r

/-- Read `n` bytes at rising addresses from `k`. -/
def Memory.readAll (m : Memory) : Nat → Nat → List Nat
  | _, 0 => []
  | k, n + 1 => (Memory.read m k).toNat :: Memory.readAll m (k + 1) n

/-- `m` with every byte from `k` to `k + n - 1` blank. -/
def Memory.clear (m : Memory) (k n : Nat) : Memory := m.filter fun c => c.1 < k || k + n ≤ c.1

/-- Every address of the list is above `lo`, rises strictly, and no byte is the blank byte. -/
def Memory.wfFrom : Nat → Memory → Bool
  | _, [] => true
  | lo, (a, b) :: r => lo ≤ a && b != Memory.blank && Memory.wfFrom (a + 1) r

/-- The canonical form. -/
def Memory.wf (m : Memory) : Bool := Memory.wfFrom 0 m

/-- A line of the front buffer (05 R116): line number (address / 64), the region and generation tag of the transfer that
wrote it, the context the transfer came from where its region is a job's (0 none, else job * 2^32 + CID * 256 + context: R122), and the
bytes written, by offset in the line. -/
structure FbLine where
  line : Nat
  region : Nat
  tag : Nat
  key : Nat
  bytes : List (Nat × Nat)
  deriving DecidableEq, Repr

/-- The Mantle's bytes (05): DRAM by physical address, and the lines not yet written back, newest first. -/
structure Mem where
  dram : Memory
  fb : List FbLine
  deriving DecidableEq, Repr

/-- Canonical form of the Mantle's bytes: of DRAM, and offsets and bytes in range in each line of the front buffer. -/
def Mem.wf (m : Mem) : Bool := m.dram.wf && m.fb.all fun l => l.bytes.all fun p => decide (p.1 < 64) && decide (p.2 < 256)

/-- Nothing written. -/
def Mem.reset : Mem := { dram := [], fb := [] }

/-- The byte at a physical address: the newest front buffer line that holds it, else DRAM (R113). -/
def Mem.byte (m : Mem) (a : Nat) : Nat :=
  match m.fb.findSome? fun l => if l.line = a / 64 then (l.bytes.find? fun p => p.1 = a % 64).map (·.2) else none with
  | some v => v % 256
  | none => (Memory.read m.dram a).toNat

/-- `n` bytes from a physical address. -/
def Mem.bytesAt (m : Mem) : Nat → Nat → List Nat
  | _, 0 => []
  | a, n + 1 => Mem.byte m a :: Mem.bytesAt m (a + 1) n

/-- Bytes of a range that no front buffer line holds: those a read takes from DRAM (R113). -/
def Mem.fromDram (m : Mem) (a n : Nat) : Nat :=
  ((List.range n).filter fun i => !(m.fb.any fun l => l.line = (a + i) / 64 && l.bytes.any fun p => p.1 = (a + i) % 64)).length

/-- Enter one byte written under (region, tag, context) into the front buffer. -/
def Mem.putByte (m : Mem) (region tag key a v : Nat) : Mem :=
  match m.fb with
  | l :: r =>
    if l.line = a / 64 ∧ l.region = region ∧ l.tag = tag ∧ l.key = key then
      { m with fb := { l with bytes := (a % 64, v % 256) :: l.bytes.filter (fun p => p.1 ≠ a % 64) } :: r }
    else { m with fb := { line := a / 64, region := region, tag := tag, key := key, bytes := [(a % 64, v % 256)] } :: l :: r }
  | [] => { m with fb := [{ line := a / 64, region := region, tag := tag, key := key, bytes := [(a % 64, v % 256)] }] }

/-- Write a line's bytes to DRAM. -/
def Memory.putLine (d : Memory) (line : Nat) : List (Nat × Nat) → Memory
  | [] => d
  | (o, v) :: r => Memory.write (Memory.putLine d line r) (64 * line + o) (BitVec.ofNat 8 v)

/-- Write back the oldest lines of one line number and drop them from the buffer; `ok` says which may be written (R116). -/
def Mem.writeBack (m : Mem) (line : Nat) (ok : FbLine → Bool) : Mem :=
  { dram := (m.fb.reverse.filter fun l => l.line = line && ok l).foldl (fun d l => Memory.putLine d line l.bytes) m.dram
    fb := m.fb.filter fun l => l.line ≠ line }

/-- Discard the lines that meet `f`. -/
def Mem.discard (m : Mem) (f : FbLine → Bool) : Mem := { m with fb := m.fb.filter fun l => !(f l) }

end Sys2Proof.Machine
end

