-- ==== Sys2Proof/Machine/GridTypes.lean ====
section
/-!
DEFINITION. Plain data of the Taper grid (07) and of one taper (09).
-/
namespace Sys2Proof.Machine

/-- A stream channel of a taper (R159, R160): the descriptor copied at its start and its progress. -/
structure Chan where
  /-- 0 idle, 1 busy, 2 done, 3 error -/
  state : Nat
  status : Nat
  rows : Nat
  /-- the 32 descriptor bytes copied at STR.START -/
  desc : List Nat
  /-- an error by poison that no wait has raised (R232) -/
  poison : Bool
  deriving DecidableEq, Repr

/-- An idle channel. -/
def Chan.reset : Chan := { state := 0, status := 0, rows := 0, desc := [], poison := false }

/-- What a taper waits in (R220). -/
inductive TWait where
  | send
  | recv
  | pop
  | push
  | start
  | wait
  deriving DecidableEq, Repr

/-- A receive queue of 32 slots (Table 7-3): next slot to fill, slots held (oldest first) and presented messages not yet received. -/
structure RxQueue where
  next : Nat
  held : List Nat
  ready : List Nat
  deriving DecidableEq, Repr

/-- An empty queue. -/
def RxQueue.reset : RxQueue := { next := 0, held := [], ready := [] }

/-- One taper (Tables 7-1, 9-1, 9-2), by logical index. -/
structure Taper where
  /-- general registers g1-g31 (g0 reads 0); an unlisted register is 0 -/
  g : NMap DWord
  /-- vector registers v0-v31 -/
  v : NMap VWord
  /-- tile registers t0-t7 -/
  t : NMap VWord
  /-- long accumulators a0-a3 -/
  a : NMap LAcc
  /-- predicate registers p0-p7 -/
  p : NMap DWord
  /-- program counter: byte address in the code area -/
  pc : Nat
  /-- ARITH_CTL fields of Table 8-4 -/
  rmode : Nat
  ftz : Bool
  daz : Bool
  nanProp : Bool
  sat : Bool
  srBits : Nat
  refMode : Bool
  /-- ARITH_STATUS, bits [6:0] -/
  status : Nat
  /-- RNG_KEY, 64 bits; RNG_BASE, 128 bits -/
  rngKey : Nat
  rngBase : Nat
  /-- FING_ACC, FING_R, FING_POS; FING_CFG.WIDTH -/
  fingAcc : Nat
  fingR : Nat
  fingPos : Nat
  fingWidth : Nat
  /-- FAULT_HANDLER, FAULT_MASK, FAULT_RETURN -/
  handler : Nat
  faultMask : Nat
  faultReturn : Nat
  /-- BEATS and RETIRED since GRID_START -/
  beats : Nat
  retired : Nat
  /-- the fault handler is armed (R236) -/
  armed : Bool
  /-- stopped by a fault (R166) -/
  stopped : Bool
  /-- faults taken since load (Table 9-20) -/
  faults : Nat
  /-- 64-bit words of local memory in which a read found a double-bit error (R157): word index and what it held; a word that holds something
  else by now has been written since -/
  bad : List (Nat × Nat)
  wait : Option TWait
  /-- binding slots that a popped work item set for this taper (R274) -/
  bind : NMap (Nat × Nat)
  /-- receive queues of the request and response VC -/
  rx : NMap RxQueue
  /-- stream channels 0-7 -/
  chan : NMap Chan
  /-- local memory, 0x0_0000-0x5_FFFF -/
  mem : Memory
  deriving DecidableEq, Repr

/-- A taper at GRID_START (R214): every register 0, special registers as Table 9-2 gives. -/
def Taper.start (pc fingR : Nat) (mem : Memory) : Taper :=
  { g := [], v := [], t := [], a := [], p := [], pc := pc, rmode := 0, ftz := false, daz := false, nanProp := false, sat := false,
    srBits := 16, refMode := false, status := 0, rngKey := 0, rngBase := 0, fingAcc := 0, fingR := fingR, fingPos := 0, fingWidth := 2,
    handler := 0, faultMask := 0, faultReturn := 0, beats := 0, retired := 0, armed := true, stopped := false, faults := 0, bad := [],
    wait := none, bind := [], rx := [], chan := [], mem := mem }

/-- A taper that no program owns. -/
def Taper.reset : Taper := Taper.start 0 2 []

/-- A command on a program slot: code, and the command to complete; none for a unit's own. -/
structure SlotCmd where
  code : Nat
  cmd : Option Sys2Proof.Cmd
  deriving DecidableEq, Repr

/-- Who loaded a program (07: the Wick, Flicker and Ember load their own; a host command its own). -/
inductive Loader where
  | host
  | wick (job : Nat)
  | flicker
  | ember (shard : Nat)
  | qualify
  deriving DecidableEq, Repr

/-- A program slot (Table 7-12, GRID_PROG registers). -/
structure PSlot where
  state : Nat
  activity : Nat
  gen : Nat
  count : Nat
  progId : Nat
  version : Nat
  job : Nat
  /-- GRID_PROG_FAULT: status of the last command, faulting taper, cause -/
  status : Nat
  faultTaper : Nat
  cause : Nat
  msgDrop : Nat
  retired : Nat
  beats : Nat
  /-- placement table: logical index of each program taper -/
  place : List Nat
  /-- entry address of each program taper -/
  entries : List Nat
  /-- submission and completion ring; 0xFFFF_FFFF none -/
  sub : Nat
  comp : Nat
  /-- binding slots: region index and the generation its owner held at load (R160) -/
  bind : List (Nat × Nat)
  owner : Loader
  /-- command that runs, and those that wait behind it (R164) -/
  running : Option SlotCmd
  waiting : List SlotCmd
  /-- load in progress: image region and offset, group size, placement list -/
  image : Nat × Nat
  group : Nat
  list : Option (List Nat)
  /-- work items pushed by the unit that owns the program, and entries its tapers pushed back -/
  work : List (List Nat)
  done : List (List Nat)
  /-- tapers waiting in RING.POP, in the order they began (R231) -/
  popWait : List Nat
  /-- the slot leaves HALTING for UNLOADING once halted (partition disable) -/
  unloadNext : Bool
  deriving DecidableEq, Repr

/-- An empty slot. -/
def PSlot.reset : PSlot :=
  { state := 0, activity := 0, gen := 0, count := 0, progId := 0, version := 0, job := 0, status := 0, faultTaper := 0, cause := 0, msgDrop := 0,
    retired := 0, beats := 0, place := [], entries := [], sub := 0xFFFFFFFF, comp := 0xFFFFFFFF, bind := [], owner := .host, running := none,
    waiting := [], image := (0, 0), group := 1, list := none, work := [], done := [], popWait := [], unloadNext := false }

/-- A message in the network (R151): slot and generation of its program, source and destination logical index, VC, bytes. -/
structure NetMsg where
  slot : Nat
  gen : Nat
  src : Nat
  dst : Nat
  vc : Nat
  bytes : List Nat
  deriving DecidableEq, Repr

/-- A logical taper (GRID_MAP): the column that serves it, none when vacant; suspect, diagnostic, corrected errors within 24 h. -/
structure LTaper where
  column : Option Nat
  slot : Option Nat
  suspect : Bool
  diag : Bool
  diagCmd : Option Sys2Proof.Cmd
  corr : List Nat
  deriving DecidableEq, Repr

/-- The column of logical index `l` at first start (R148). -/
def firstColumn (l : Nat) : Nat := l % 64 + l % 64 / 16

/-- A logical taper at first start. -/
def LTaper.first (l : Nat) : LTaper := { column := some (firstColumn l), slot := none, suspect := false, diag := false, diagCmd := none, corr := [] }

/-- Grid control (07). -/
structure GridUnit where
  /-- GRID_CTL.PART_EN, GRID_STATUS.PART_DRAINING; reset 0 -/
  partEn : Nat
  draining : Nat
  /-- logical tapers; an unlisted one is at its first start -/
  map : NMap LTaper
  /-- retired positions: 68 * partition + column (NOR record, R150) -/
  retired : List Nat
  /-- partitions with a failed router, out of service at the next start (R150) -/
  routerFail : Nat
  slots : NMap PSlot
  tapers : NMap Taper
  net : List NetMsg
  /-- logical indices are served since the start (GRID_MAP.VALID, GRID_ID.USABLE read 0 before) -/
  up : Bool
  /-- groups of 8 logical tapers whose issue gate is open, bit l / 8, and the monotonic time of the last step that opened one (R529) -/
  opened : Nat
  stepAt : Option Nat
  /-- GRID_PART_BEAT.TJ by partition [°C], GRID_BEATS; the rates stand with the budget controller (R131) -/
  tj : NMap Int
  beats : NMap Nat
  deriving DecidableEq, Repr

/-- Grid control at reset: no partition in service. -/
def GridUnit.reset : GridUnit :=
  { partEn := 0, draining := 0, map := [], retired := [], routerFail := 0, slots := [], tapers := [], net := [], up := false, opened := 0, stepAt := none, tj := [], beats := [] }

end Sys2Proof.Machine
end

