-- ==== Sys2Proof/Machine/Units.lean ====
section
/-!
DEFINITION. All of the T3 but the Mantle's bytes, the tapers and the queue of commands: one field per unit.
-/
namespace Sys2Proof.Machine

/-- An effect of one unit on another that belongs to the same step (95) and is carried out before the step ends. -/
inductive Todo where
  /-- a standing-order action that fires (R56): trigger code, level, entry, target -/
  | act (code level : Nat) (e : SoEntry) (t : Target)
  /-- a sconce port reached ACTIVE from bring-up: the start-up of R61 -/
  | igtanStart (port : Nat)
  /-- a full retrain lost the messages in flight on a port (R95, R246, R421) -/
  | fullRetrain (port : Nat)
  /-- the fan duty floor changed (R541) -/
  | fan
  /-- the pairing table gives this tray a new buddy (R31, R258): the old one (0 none), the new one -/
  | newBuddy (old new : Nat)
  /-- keeper: a position of a failed T3 needs a replacement, at a new generation (R31, R51) -/
  | positionFailed (cid gen : Nat)
  /-- keeper: the positions of a T3 that returned are offered as spares (R31) -/
  | offerSpares (cid : Nat)
  /-- warden: a T3 is declared failed (R31, R258) -/
  | t3Failed (cid : Nat)
  /-- a management key for a link end in an Igtan block (02, 04): port, link, link identifier, key index, key -/
  | igtanKey (port link linkId index key : Nat)
  /-- answer to a pooling reservation at the source of the shard (R127, R264): status, job, shard, T3 -/
  | poolAnswer (status job shard cid : Nat)
  /-- a held action that SO_PROCEED executes (Table 2-7) -/
  | held (h : HeldAct)
  /-- a witness acts alone: the holder above appoints a standby (R43) -/
  | newStandby (role : Nat)
  /-- the Mantle writes a new tag into an owner's regions (R123): owner kind, CID, context, generation -/
  | bump (kind cid ctx gen : Nat)
  /-- a failure is contained: the work of a context (0xFF: of every context) of a port ends (R363, R388, R407, R357) -/
  | contained (port ctx level : Nat)
  /-- containment is over, or a fence is lifted, for a position (R322, R324): port, CID -/
  | unfenced (port cid : Nat)
  /-- Vigil declares the accelerator on a port failed (R289): cause of Table 24-8, operator tag -/
  | declareL1 (port cause tag : Nat)
  /-- a step record of a context was accepted, or another progress mark (R292): port, context, mask bit -/
  | progress (port ctx mark : Nat)
  /-- the coordinator opens or joins a recovery (R313): job, failed CID, context, members -/
  | recover (job cid ctx : Nat) (members : List Nat)
  /-- a notice from another keeper for a job coordinated here (R313): job, that keeper -/
  | peerKeeper (job cid : Nat)
  /-- a fault report goes to Flicker (R290): port, code, severity -/
  | flickerFault (port code severity : Nat)
  /-- a read of IGTAN_ACT for the Ledger (R78): port, context, words -/
  | ledgerAct (port ctx : Nat) (words : List Nat)
  /-- the start-up of R61 has completed at a port (R305) -/
  | brought (port : Nat)
  /-- an accelerator becomes suspect (R288): port, cause -/
  | suspect (port cause : Nat)
  /-- a reset of a position or context was confirmed in a recovery (R317, R322) -/
  | confirmed (port ctx : Nat)
  /-- the T3 enters the apply-gate barrier of a step of a job (R248) -/
  | gateEnter (job step : Nat)
  /-- a job's shadow instance is to be loaded (R271) -/
  | shadowLoad (job : Nat)
  /-- a program slot is unloaded (R168) -/
  | gridUnload (slot : Nat)
  /-- a taper of a program becomes suspect (R171, Table 11-8): slot, program-relative index, shard and step, verdict one_vs_one -/
  | suspectTaper (slot rel shard step : Nat) (one : Bool)
  /-- the shadow of a step may begin (R250): shard, step -/
  | drive (shard step : Nat)
  /-- a step whose shadow wrote nothing is verified (R250, R252): shard, step -/
  | verify (shard step : Nat)
  /-- a member looks again whether it is ready for RCV_READY (R318) -/
  | rcvCheck (job : Nat)
  /-- a start asks the power sequencer (R333, R534): kind of Table 23-7, port, context, counts as recovery -/
  | askPower (kind port ctx : Nat) (recovery : Bool)
  /-- the position power of a port is taken away (R536) -/
  | powerOff (port : Nat)
  /-- an apply-gate call of a step is cancelled (R317): job, step -/
  | gateCancel (job step : Nat)
  /-- a load ended (R163): slot, status -/
  | gridLoaded (slot status : Nat)
  /-- a program entered FAULTED (R166, R167): slot, cause, detail -/
  | gridFault (slot cause detail : Nat)
  /-- the program of a unit was unloaded with a partition (R170): its owner, slot -/
  | gridGone (owner : Loader) (slot : Nat)
  /-- a failure that Flicker counts (Table 14-10): 0 accelerator, 1 port, 2 stack, 3 fault report; port or stack -/
  | outcome (kind idx : Nat)
  /-- Flicker's triggers on a port: a lane isolation or LINK_DEGRADED (R348) -/
  | flickTrig (port : Nat)
  /-- answer to a prestage request (R352): position, status -/
  | prestaged (pos status : Nat)
  /-- the stand-ins of a job's positions end with its recovery (R376): job, positions -/
  | emberDirect (job : Nat) (cids : List Nat)
  /-- keeper: the notice of a failure has gone out (R368): CID, job -/
  | noticed (cid job : Nat)
  /-- a step record of a context was accepted: the Ledger closes the step (R393): port, context, job, step -/
  | stepClosed (port ctx job step : Nat)
  /-- the apply-gate call of a step ended (R248, R249): job, step, status -/
  | gateDone (job step status : Nat)
  /-- a context is restored: its interrupted streams replay (R329), and its stand-in ends (R376): port, context -/
  | restored (port ctx : Nat)
  /-- a new calibration set has taken effect at a tick (R397, R521) -/
  | calApplied
  /-- the diagnostic of a logical taper ended (R171): taper, passed -/
  | diagnosed (taper : Nat) (good : Bool)
  /-- space came free on a ring that this T3 produces (R71, R264, R391): ring -/
  | ringFreed (ring : Nat)
  /-- a block of a buddy copy was replaced (R256): shard -/
  | serveMore (shard : Nat)
  /-- a lantern message that reaches this T3 over the management channel, or that it sends to a role it holds itself: header, class, payload fields in
  table order (R52, R53) -/
  | message (h : Sys2Proof.LHdr) (cls : Nat) (pay : List Nat)
  /-- the outputs of a role held here begin: what waited for them is done (R39) -/
  | roleReady (role : Nat)
  /-- a forward to a role that this T3 holds itself (R489): the role's level, entries -/
  | forwarded (level : Nat) (l : List LogEntry)
  /-- a request that waited for its allowance is served (R139) -/
  | served (x : BudWait)
  /-- a sub-slot has begun: what waited on allowances goes on (R139) -/
  | slotOpen
  /-- a recovery's allocation has its pages (R119): for whom, region -/
  | pagesCame (why idx : Nat)
  /-- a position is fenced and its generations have risen (R363): port, context -/
  | candidate (port ctx : Nat)
  deriving DecidableEq, Repr

/-- The units. -/
structure Units where
  /-- CID of this T3 (00 R16, 02 R50); 0 until the configuration image gives it -/
  self : Nat
  /-- BAR0 register file (00 R9-R12) -/
  regs : RegFile
  /-- what has left the T3, oldest first (the model's own record of its outputs) -/
  out : List Out
  /-- number of free values drawn (the model's own field) -/
  free : Nat
  /-- effects to be carried out before the step ends (empty between steps) -/
  todo : List Todo
  clk : Clock
  ring : RingUnit
  mb : MbUnit
  chim : Chim
  link : LinkUnit
  /-- Igtan sides of sconce ports 0-15 -/
  igtan : NMap IgtanPort
  role : RoleUnit
  mantle : Mantle
  bud : Budget
  wick : Wick
  vig : Vigil
  rcv : Rcv
  grid : GridUnit
  flick : Flicker
  ember : Ember
  bcn : Beacon
  coll : Coll
  tal : Tallow
  led : Ledger
  lamp : Lamp
  pwr : Pwr
  /-- units that drain (R144) -/
  drains : List Drain
  /-- generation tags that drain timeouts have raised, 16 bits, by unit (R144) -/
  tags : NMap Nat
  deriving DecidableEq, Repr

/-- The units at reset. -/
def Units.reset : Units :=
  { self := 0, regs := RegFile.reset, out := [], free := 0, todo := [], clk := Clock.reset, ring := RingUnit.reset, mb := MbUnit.reset, chim := Chim.reset,
    link := LinkUnit.reset, igtan := [], role := RoleUnit.reset, mantle := Mantle.reset, bud := Budget.reset, wick := Wick.reset, vig := Vigil.reset,
    rcv := Rcv.reset, grid := GridUnit.reset, flick := Flicker.reset, ember := Ember.reset, bcn := Beacon.reset, coll := Coll.reset, tal := Tallow.reset,
    led := Ledger.reset, lamp := Lamp.reset, pwr := Pwr.reset, drains := [], tags := [] }

end Sys2Proof.Machine
end

