-- ==== Sys2Proof/Machine/Ops.lean ====
section
/-!
DEFINITION. The named operations every unit uses: counters and stored register words, sending, interrupts, events
(21 R481-R490, R496), standing orders (02 R55-R57, R555), ring entries and completions (19 R454-R461).
-/
namespace Sys2Proof.Machine

/-! Registers and outputs -/

/-- The counter at BAR0 address `a`. -/
def Units.cnt (u : Units) (a : Nat) : Nat := NMap.getD u.regs.cnt a 0

/-- Set a counter. -/
def Units.setCnt (u : Units) (a v : Nat) : Units := { u with regs := { u.regs with cnt := NMap.put u.regs.cnt 0 a v } }

/-- Count `n` more at BAR0 address `a` (64-bit counters do not wrap within the rated life: R107). -/
def Units.count (u : Units) (a : Nat) (n : Nat := 1) : Units := u.setCnt a (u.cnt a + n)

/-- Key of the count of management-channel drops (R52), which no register shows. -/
abbrev mgmtDrops : Nat := 2 ^ 40

/-- Key of the count of traffic dropped for a fenced route entry (Table 2-5), which no register shows. -/
abbrev fencedDrops : Nat := 2 ^ 40 + 1

/-- Count `n` more in a counter of `w` bits that saturates. -/
def Units.countSat (u : Units) (w a : Nat) (n : Nat := 1) : Units := u.setCnt a (satW w (u.cnt a + n))

/-- The stored RW word at BAR0 address `a`, whose reset value is `d`. -/
def Units.cfg (u : Units) (a d : Nat) : Nat := NMap.getD u.regs.cfg a d

/-- Store an RW word. -/
def Units.setCfg (u : Units) (a v : Nat) : Units := { u with regs := { u.regs with cfg := NMap.set u.regs.cfg a v } }

/-- Record something that leaves the T3. -/
def Units.emit (u : Units) (o : Out) : Units := { u with out := u.out ++ [o] }

/-- Ask for an effect on another unit before the step ends. -/
def Units.later (u : Units) (t : Todo) : Units := { u with todo := u.todo ++ [t] }

/-- Draw a free value's index: the counter of values the spec leaves open. -/
def Units.draw (u : Units) : Units := { u with free := u.free + 1 }

/-! Privilege (R14) -/

/-- Privilege field of a sender stamp, bits [15:12] (R447). -/
def stampPriv (stamp : Nat) : Nat := bits stamp 15 12

/-- Source class and index of a sender stamp (Table 19-1). -/
def stampClass (stamp : Nat) : Nat := bits stamp 31 28
def stampIndex (stamp : Nat) : Nat := bits stamp 27 16

/-- A sender stamp (R447). -/
def mkStamp (cls idx priv : Nat) : Nat := (cls % 16) * 2 ^ 28 + (idx % 4096) * 2 ^ 16 + (priv % 16) * 2 ^ 12

/-- Operator privilege or above (Table 0-7); a reserved encoding is refused (R14). -/
def isOperator (priv : Nat) : Bool := priv == 2 || priv == 3

/-- Tenant privilege or above. -/
def isTenant (priv : Nat) : Bool := priv == 1 || priv == 2 || priv == 3

/-! Budgets: gates and charges (06 R135-R142) -/

/-- The resource code of an instance (Table 6-2). -/
def resOf (inst : Nat) : Nat :=
  if inst = 7 then 5 else if inst < 16 then inst else if inst < 32 then 1 else if inst < 48 then 2 else if inst < 64 then 1 else 2

/-- Instance of a port's sending and receiving direction. -/
def txInst (p : Nat) : Nat := if p < 16 then 16 + p else 32 + (p - 16)
def rxInst (p : Nat) : Nat := if p < 16 then 48 + p else 64 + (p - 16)

/-- Guarantee and cap of activity `a` on resource `r` in a table (default cap 1,024; 1,120 on POWER). -/
def guarOf (t : NMap Nat) (a r : Nat) : Nat := NMap.getD t (8 * a + r) 0
def capOf (t : NMap Nat) (a r : Nat) : Nat := NMap.getD t (8 * a + r) (if r = 6 then 1120 else 1024)

/-- Energy of 0.25 W over a sub-slot of 10 us, pJ. -/
abbrev quarterW : Nat := 2500000

/-- What activity `a` may use of an instance in a sub-slot at most: its cap (R137). -/
def Budget.most (b : Budget) (a inst : Nat) : Nat :=
  if inst = 6 then quarterW * capOf b.cap a 6 else NMap.getD b.slotCaps inst 0 * capOf b.cap a (resOf inst) / 1024

/-- Allowance of an activity on an instance in this sub-slot, and what it has spent of it and of the spare. -/
def Budget.gotOf (b : Budget) (a inst : Nat) : Nat := NMap.getD b.got (128 * a + inst) 0
def Budget.spentOf (b : Budget) (a inst : Nat) : Nat := NMap.getD b.spent (128 * a + inst) 0

/-- An activity's way to an instance is open (R139): SAFETY always; else its allowance is not spent, or what neither pass gave is left
and its cap not reached. -/
def Budget.opens (b : Budget) (a inst : Nat) : Bool :=
  a == 0 || decide (b.spentOf a inst < b.gotOf a inst) || (decide (0 < NMap.getD b.spare inst 0) && decide (b.spentOf a inst < b.most a inst))

/-- The gate of R139 and R142: the instance and the package power are both open to the activity. -/
def Units.gate (u : Units) (a inst : Nat) : Bool := u.bud.opens a inst && u.bud.opens a 6

/-- Charge `n` to an activity on one instance: its own allowance first, then what neither pass gave (R139). -/
def Budget.charge (b : Budget) (a inst n : Nat) : Budget :=
  let own := b.gotOf a inst - b.spentOf a inst
  { b with spent := NMap.put b.spent 0 (128 * a + inst) (b.spentOf a inst + n),
           spare := NMap.put b.spare 0 inst (NMap.getD b.spare inst 0 - (n - min own n)) }

/-- Energy of `n` bytes or beats of a resource, pJ: the fixed weight, scaled by measured over estimated power (R142). -/
def Budget.energy (b : Budget) (r n : Nat) : Nat := n * Config.energyWeight r * b.scaleNum / max 1 b.scaleDen

/-- Charge a request to its activity (R136): the bytes or beats on the instance, and their energy on POWER (R142). -/
def Units.spend (u : Units) (a inst n : Nat) : Units :=
  { u with bud := if inst = 6 then u.bud.charge a 6 n else (u.bud.charge a inst n).charge a 6 (u.bud.energy (resOf inst) n) }

/-- Activity of a lantern message's bytes (Table 6-3). -/
def lanternAct (cls : Nat) : Nat :=
  if cls = 0x06 ∨ cls = 0x07 then 1 else if cls = 0x02 ∨ cls = 0x08 ∨ cls = 0x09 then 5 else if 1 ≤ cls ∧ cls ≤ 0x1F then 7
  else if cls = 0x57 ∨ cls = 0x58 ∨ cls = 0x59 ∨ cls = 0x5A then 5 else if cls = 0x5B then 6 else if 0x5C ≤ cls ∧ cls ≤ 0x5F then 11
  else if cls = 0x60 ∨ cls = 0x61 then 2 else if cls = 0x20 ∨ cls = 0x21 then 7 else 4

/-- Activity of a sconce message's bytes (Table 6-3). -/
def sconceAct (cls : Nat) : Nat :=
  if 3 ≤ cls ∧ cls ≤ 6 ∨ cls = 0x0B ∨ cls = 0x0C ∨ cls = 0x13 then 7 else if cls = 0x02 then 10 else if cls = 0x08 ∨ cls = 0x10 ∨ cls = 0x1C then 2
  else if cls = 0x16 ∨ cls = 0x17 then 5 else if cls = 0x18 then 6 else if 0x19 ≤ cls ∧ cls ≤ 0x1B then 11 else 4

/-! Ports -/

/-- Port `p` (0-15 sconce, 16-21 lantern). -/
def Units.port (u : Units) (p : Nat) : Link := NMap.getD u.link.port p Link.reset

/-- Store port `p`. -/
def Units.setPort (u : Units) (p : Nat) (l : Link) : Units :=
  { u with link := { u.link with port := NMap.put u.link.port Link.reset p l } }

/-- BAR0 base of port `p`'s block (Table 24-1). -/
def portBase (p : Nat) : Nat := if p < 16 then 0x400000 + 0x10000 * p else 0x500000 + 0x10000 * (p - 16)

/-- Source unit of port `p` in an event record (Table 21-1). -/
def portUnit (p : Nat) : Nat := if p < 16 then 0x40 + p else 0x50 + (p - 16)

/-- A port takes a message from the units unless it is powered down or draining (R106). -/
def Link.accepts (l : Link) : Bool := !(l.state == 0) && !(l.state == 7) && !l.draining

/-- Element `k` of a per-channel list. -/
def vcGet (l : List Nat) (k : Nat) : Nat := l.getD k 0

/-- Link credit left on a virtual channel (R91). -/
def Link.credit (l : Link) (vc : Nat) : Nat :=
  vcGet l.txInit vc - wrapW 16 (vcGet l.txSent vc + 2 ^ 16 - vcGet l.txFreed vc)

/-- A frame leaves port `p` (R88): its Credit VC rotates from frame to frame and its Credit and Ack are those in force (R91, R93). -/
def Units.sendFrame (u : Units) (p typ vc seq first : Nat) (parts : List TxPart) (body : List Nat) : Units :=
  let l := u.port p
  let f : FrameOut := { typ := typ, vc := vc, creditVc := l.creditVc, seq := seq, ack := wrapW 14 (l.rxSeq + 2 ^ 14 - 1),
                        credit := vcGet l.rxFreed l.creditVc, first := first, parts := parts, body := body }
  ((u.setPort p { l with creditVc := (l.creditVc + 1) % 3 }).emit (.frame p f)).count (portBase p + 0x100)

/-- Bytes of the parts of stored messages; empty when one is not stored. -/
def Units.partBytes (u : Units) (p : Nat) (l : List TxPart) : List Nat :=
  if l.all fun x => NMap.has u.link.store (p * 2 ^ 32 + x.no) then
    l.flatMap fun x => (((NMap.getD u.link.store (p * 2 ^ 32 + x.no) (0, [])).2.drop x.off).take x.len)
  else []

/-- Send a sequenced frame, or send it again (R93). -/
def Units.sendSeq (u : Units) (p : Nat) (f : TxFrame) : Units :=
  u.sendFrame p f.typ f.vc f.seq f.first f.parts (if f.typ = 1 then u.partBytes p f.parts else f.body)

/-- The message that a channel sends next (R89): one already begun goes on; else the oldest whose activity is not held (R139). -/
def pickMsg (ok : Nat → Bool) (vc : Nat) (q : List TxMsg) : Option TxMsg :=
  match q.find? fun m => m.vc = vc && m.sent ≠ 0 with
  | some m => if ok m.act then some m else none
  | none => q.find? fun m => m.vc = vc && ok m.act

/-- Take `n` further bytes of message `no`: it leaves the queue when all of it is framed. -/
def takeMsg (no n : Nat) : List TxMsg → List TxMsg
  | [] => []
  | m :: r => if m.no = no then (if m.bytes ≤ m.sent + n then r else { m with sent := m.sent + n } :: r) else m :: takeMsg no n r

/-- Fill the `room` left in a body of channel `vc` with whole messages end to end, the last cut at the body's end (R89): messages and the
bytes taken of each, and what still waits. -/
def fillBody (ok : Nat → Bool) (vc : Nat) : Nat → Nat → List TxMsg → List (TxMsg × Nat) × List TxMsg
  | 0, _, q => ([], q)
  | k + 1, room, q =>
    if room = 0 then ([], q)
    else match pickMsg ok vc q with
      | none => ([], q)
      | some m =>
        let n := min room (m.bytes - m.sent)
        let r := fillBody ok vc k (room - n) (takeMsg m.no n q)
        ((m, n) :: r.1, r.2)

/-- First message offset of a body (Table 4-2): where the first message of it begins, 0xFF where none does. -/
def firstOffset : Nat → List (TxMsg × Nat) → Nat
  | _, [] => 0xFF
  | at_, (m, n) :: r => if m.sent = 0 then at_ else firstOffset (at_ + n) r

/-- A channel may send a frame: it holds a link credit, and the replay buffer has room (R91, R93). -/
def Link.mayFrame (l : Link) (vc : Nat) : Bool := decide (0 < l.credit vc) && decide (l.replay.length < 4096)

/-- Frame one body of channel `vc` of port `p`: none where nothing of it may go now. Its message bytes are charged to their activities and counted. -/
def Units.frameVc (u : Units) (p vc : Nat) : Option Units :=
  let l := u.port p
  let b := fillBody (fun a => u.gate a (txInst p)) vc 13 188 l.txq
  if b.1.isEmpty || !(l.mayFrame vc) then none
  else
    let f : TxFrame := { seq := l.txSeq, typ := 1, vc := vc, first := firstOffset 0 b.1,
                         parts := b.1.map fun x => { no := x.1.no, off := x.1.sent, len := x.2 } }
    let u := u.setPort p { l with txq := b.2, replay := l.replay ++ [f], txSeq := wrapW 14 (l.txSeq + 1),
                                  txSent := updNth l.txSent vc fun n => wrapW 16 (n + 1) }
    let u := b.1.foldl (fun u x => x.1.cnt.foldl (fun u a => u.count a x.2) (u.spend x.1.act (txInst p) x.2)) u
    some (u.sendSeq p f)

/-- Frame one body of the channel whose message has waited longest among those that may go. -/
def Units.frameNext (u : Units) (p : Nat) : Option Units :=
  ((u.port p).txq.map (·.vc)).findSome? fun vc => u.frameVc p vc

/-- Frame bodies while one may go, at most `n`. -/
def Units.pumpN (p : Nat) : Nat → Units → Units
  | 0, u => u
  | n + 1, u => match u.frameNext p with
    | some v => Units.pumpN p n v
    | none => u

/-- Most frames the messages of a queue take. -/
def framesIn (q : List TxMsg) : Nat := sumL (q.map fun m => m.bytes / 188 + 2)

/-- Stored messages that a port neither queues nor holds for replay leave the front buffer. -/
def Units.prune (u : Units) (p : Nat) : Units :=
  let l := u.port p
  let held := l.txq.map (·.no) ++ l.replay.flatMap fun f => f.parts.map (·.no)
  { u with link := { u.link with store := u.link.store.filter fun x => x.1 / 2 ^ 32 ≠ p || held.contains (x.1 % 2 ^ 32) } }

/-- Send the block credit accounts that have grown, up to 47 in a sequenced BLOCK_CREDIT frame (R92, R93, Table 4-4). -/
def Units.sendCredits (u : Units) (p : Nat) : Units :=
  let l := u.port p
  if l.creditDue.isEmpty || 4096 ≤ l.replay.length then u
  else
    let entry := fun (k : Nat) => leBytes 4 (k % 256 + 256 * (NMap.getD u.link.granted (256 * p + k) 0 % 2 ^ 24))
    let f : TxFrame := { seq := l.txSeq, typ := 4, vc := 0, body := (l.creditDue.take 47).flatMap entry }
    (u.setPort p { l with creditDue := l.creditDue.drop 47, replay := l.replay ++ [f], txSeq := wrapW 14 (l.txSeq + 1) }).sendSeq p f

/-- Frame what an ACTIVE port can send: block credits first, then of the messages that wait (R89, R91-R93, R139). -/
def Units.pump (u : Units) (p : Nat) : Units :=
  if (u.port p).state = 4 then
    let u := (List.range 5).foldl (fun u _ => u.sendCredits p) u
    (Units.pumpN p (framesIn (u.port p).txq) u).prune p
  else u.prune p

/-- Hand a message of `len` bytes (header included) to a port on virtual channel `vc` for activity `act`; its bytes count in LINK_BYTES_TX
and in `cnt` as they are sent. -/
def Units.queueTx (u : Units) (p vc act len : Nat) (cnt : List Nat) : Units :=
  let l := u.port p
  if l.accepts then
    (u.setPort p { l with nextNo := l.nextNo + 1,
                          txq := l.txq ++ [{ no := l.nextNo, vc := vc, bytes := len, act := act, cnt := (portBase p + 0x120) :: cnt }] }).pump p
  else u

/-- The Igtan side of sconce port `p`. -/
def Units.ig (u : Units) (p : Nat) : IgtanPort := NMap.getD u.igtan p IgtanPort.reset

/-- Store the Igtan side of sconce port `p`. -/
def Units.setIg (u : Units) (p : Nat) (g : IgtanPort) : Units := { u with igtan := NMap.put u.igtan IgtanPort.reset p g }

/-- Address of CHIM_LEVEL_BYTES(l, d) (Table 21-11). -/
def levelBytesAddr (l d : Nat) : Nat := 0xC00200 + 0x10 * l + 8 * d

/-- Address of CHIM_CTX_BYTES(n, c, d) (Table 21-11). -/
def ctxBytesAddr (n c d : Nat) : Nat := 0xC04000 + 0x400 * n + 0x10 * c + 8 * d

/-- The counters of a sconce message's bytes by level and context (R491): `d` 0 sent, 1 delivered. -/
def sconceCounts (p ctx d : Nat) : List Nat := if ctx = 0xFF then [levelBytesAddr 1 d] else [levelBytesAddr 0 d, ctxBytesAddr p ctx d]

/-- Virtual channel of a sconce class (Table 3-3): 0 request, 1 response, 2 system. -/
def sconceVc (cls : Nat) : Nat :=
  if cls = 0x02 ∨ cls = 0x08 ∨ cls = 0x1B then 1
  else if (3 ≤ cls ∧ cls ≤ 6) ∨ cls = 0x13 ∨ cls = 0x16 ∨ cls = 0x1A ∨ cls = 0x1C then 0 else 2

/-- Header of a sconce message sent at a port (Table 3-2, R61, R64): the selected version once ACTIVE is set, 1 before; the generations in
force; the job of the context's watch entry. -/
def Units.sconceHead (u : Units) (p cls ctx flags seq len : Nat) : SOut :=
  let g := u.ig p
  { ver := if g.active then g.proto else 1, cls := cls, len := len, ctx := ctx, flags := flags,
    ctxGen := if ctx = 0xFF then 0 else NMap.getD u.vig.ctxGen (64 * p + ctx) 0, accGen := NMap.getD u.vig.accGen p 0, seq := seq,
    job := if ctx = 0xFF then 0 else match NMap.find u.vig.watch (64 * p + ctx) with | some w => w.job | none => 0 }

/-- Send a sconce message under a header. -/
def Units.sendHead (u : Units) (p : Nat) (h : SOut) (pay : List Nat) : Units :=
  (u.emit (.sconce p h pay)).queueTx p (sconceVc h.cls) (sconceAct h.cls) (16 + h.len) (sconceCounts p h.ctx 0)

/-- Send a sconce message with payload length `len`. -/
def Units.sendS (u : Units) (p cls ctx flags seq len : Nat) (pay : List Nat) : Units := u.sendHead p (u.sconceHead p cls ctx flags seq len) pay

/-- Send a sconce request under the port's next sequence. -/
def Units.reqS (u : Units) (p cls ctx len : Nat) (pay : List Nat) : Units :=
  let g := u.ig p
  (u.setIg p { g with nextSeq := wrapW 16 (g.nextSeq + 1) }).sendS p cls ctx 0 g.nextSeq len pay

/-- Level of a lantern class (R491): classes 0x30-0x3F at the level of the role served, given by `lv`; others L2. -/
def lanternLevel (cls lv : Nat) : Nat := if 0x30 ≤ cls ∧ cls ≤ 0x3F then lv else 2

/-- Level of the role a role identifier names (Table 2-9: 1 warden L3, 2 keeper L4, 3 lighthouse L5). -/
def roleLevel (id : Nat) : Nat := if id / 2 ^ 28 = 1 then 3 else if id / 2 ^ 28 = 2 then 4 else 5

/-- The route entry of a CID is in force and has Fenced set: traffic to it is dropped and counted (Table 2-5). -/
def Units.routeFenced (u : Units) (cid : Nat) : Bool :=
  match NMap.find u.role.routes cid with
  | some e => e.valid && e.fenced
  | none => false

/-- Next-hop port (16-21) toward a CID in the lantern topology (R105); none toward a fenced one. -/
def Units.hop (u : Units) (dst : Nat) : Option Nat :=
  if u.routeFenced dst then none else (NMap.find u.role.topo dst).map (· + 16)

/-- Header of a lantern message sent (Table 4-8): the highest message version that this T3 sends and the receiver declared (R58), this T3 and its
epoch generation. -/
def Units.lanternHead (u : Units) (dst cls flags seq len : Nat) : LOut :=
  { ver := match NMap.find u.role.members dst with | some m => min u.role.msgVer (max 1 (m.getD 1 1)) | none => u.role.msgVer, cls := cls, len := len, dst := dst, hop := Config.firstHop, src := u.self, flags := flags, srcGen := u.role.t3Gen, seq := seq }

/-- The role's state. -/
def Units.roleOf (u : Units) (id : Nat) : RoleSt := NMap.getD u.role.role id RoleSt.reset

/-- A gap of a role is open as far as this T3 can see (R39): it has no holder, its holder is known to have failed, this T3 has asked for takeover as its
pilot or has seen the lease end as its witness, or holds it and sends no output. -/
def Units.gapAt (u : Units) (id : Nat) : Bool :=
  let r := u.roleOf id
  r.holder == 0 || r.vacant || (NMap.getD u.role.watch r.holder T3Watch.reset).failed || (r.pilot == u.self && r.asked) ||
    (r.witness == u.self && r.wHolder != 0 && !r.wLeased) || (r.holding && (r.stopped || r.rebuilding))

/-- The link of the management channel that a message takes (R53), among the ports `ok`: the first whose sconce port is ACTIVE and not fenced, and
whose key has a sequence left to send under; during a gap of the keeper role a key is used past its lifetime (R39). -/
def Units.mgmtLink (u : Units) (ok : Nat → Bool) : Option (Nat × LinkKey) :=
  u.role.keys.find? fun k => ok k.2.port && k.2.port < 16 && (decide (k.2.txSeq + 1 < 2 ^ 40) || u.gapAt u.role.keeperId) && (u.port k.2.port).state == 4 && !(bitAt u.vig.fenced k.2.port)

/-- Send a frame of the management channel over a link (R52, R81): the next sequence under the key in force, the plaintext encrypted and
authenticated with bytes 0-39. -/
def Units.mgmtOver (u : Units) (id : Nat) (k : LinkKey) (hop dst src len : Nat) (plain : List Nat) : Units :=
  let n := k.txSeq + 1
  let head := [k.index, hop, id, n, dst, src]
  let u := { u with role := { u.role with keys := NMap.set u.role.keys id { k with txSeq := n, used := true } } }
  u.sendS k.port 0x15 0xFF 0 0 (56 + len) (head ++ Config.seal k.key (id + n * 2 ^ 32) head plain)

/-- Send a lantern message over the management channel, where it has a link (R30, R53): role and Vigil classes; counted where it has none. -/
def Units.mgmtSend (u : Units) (dst cls flags seq len : Nat) (pay : List Nat) : Units :=
  match u.mgmtLink (fun _ => true) with
  | some (id, k) =>
    if 0x30 ≤ cls && cls < 0x50 && 16 + len ≤ 1024 then
      u.mgmtOver id k Config.firstHop dst u.self (16 + len) ([u.role.msgVer, cls, len, dst, u.self, flags, u.role.t3Gen, seq] ++ pay)
    else u
  | none => u

/-- Send a lantern message: payload length `len`, role level `lv` for classes 0x30-0x3F. Toward a destination with no next hop it goes over the
management channel (R53). -/
def Units.sendL (u : Units) (dst cls flags seq len lv : Nat) (pay : List Nat) : Units :=
  if u.routeFenced dst then u.count fencedDrops
  else
  match u.hop dst with
  | some p => (u.emit (.lantern (u.lanternHead dst cls flags seq len) pay)).queueTx p 2 (if bitAt flags 2 then 15 else lanternAct cls) (16 + len)
    [levelBytesAddr (lanternLevel cls lv) 0]
  | none => u.mgmtSend dst cls flags seq len pay

/-- Send a lantern request under the next lantern sequence. -/
def Units.reqL (u : Units) (dst cls len lv : Nat) (pay : List Nat) : Units :=
  let n := u.role.nextSeq
  ({ u with role := { u.role with nextSeq := wrapW 16 (n + 1) } }).sendL dst cls 0 n len lv pay

/-- Answer a lantern request: response flag, sequence echoed (Table 4-8). -/
def Units.answerL (u : Units) (dst cls seq len lv : Nat) (pay : List Nat) : Units := u.sendL dst cls 1 seq len lv pay

/-! Rings and completions (19) -/

/-- Ring `n`'s descriptor. -/
def Units.desc (u : Units) (n : Nat) : RingDesc := NMap.getD u.ring.desc n RingDesc.reset

/-- Store ring `n`'s descriptor. -/
def Units.setDesc (u : Units) (n : Nat) (d : RingDesc) : Units :=
  { u with ring := { u.ring with desc := NMap.put u.ring.desc RingDesc.reset n d } }

/-- Entries of a ring. -/
def RingDesc.size (d : RingDesc) : Nat := 2 ^ d.countLog2

/-- Entries between the two indices. -/
def RingDesc.fill (d : RingDesc) : Nat := wrapW 32 (d.prod + 2 ^ 32 - d.cons)

/-- Room for one more entry of the T3, beyond those reserved (R457). -/
def RingDesc.room (d : RingDesc) : Bool := d.enable && d.fill + d.reserved < d.size

/-- The producer side of a T3-produced ring: the index moves by one, and PHASE flips when it crosses a multiple of the
entry count (R455). -/
def RingDesc.push (d : RingDesc) (e : RingEntry) : RingDesc :=
  let n := wrapW 32 (d.prod + 1)
  { d with prod := n, phase := if n % d.size = 0 then !d.phase else d.phase, q := d.q ++ [e] }

/-- Record a refusal in RING_ERR. -/
def Units.ringErr (u : Units) (n status : Nat) : Units :=
  { u with ring := { u.ring with errRing := n % 2 ^ 15, errValid := true, errStatus := status } }

/-- Write an entry into a T3-produced ring, with its interrupt (MSIX_EN). -/
def Units.produce (u : Units) (n : Nat) (e : RingEntry) : Units :=
  let d := u.desc n
  let u := u.setDesc n (d.push e)
  if d.msixEn then u.emit (.msix d.vector) else u

/-- Write a completion into its completion ring: the entry carries the phase in force (Table 19-4, R455). Where a context consumes the ring it
is progress of that context (Table 12-3). -/
def Units.writeCompletion (u : Units) (cr : Nat) (c : Completion) : Units :=
  let d := u.desc cr
  let u := (u.produce cr (.completion { c with phase := d.phase })).count 0x210108
  if !d.hostSide && d.port < 16 && d.context < 64 then u.later (.progress d.port d.context 2) else u

/-- Completions wait for a ring (R461, R462). -/
def Units.hasHeld (u : Units) (cr : Nat) : Bool := u.ring.heldC.any fun h => h.1 = cr

/-- One command completes: the completion goes to the paired completion ring, into the entry that was reserved for it (R457) or into a free one.
It is held while that ring is not enabled (R461), or while it has neither (R462). -/
def Units.post (u : Units) (cmdRing : Nat) (c : Completion) (reserved : Bool) : Units :=
  let cr := (u.desc cmdRing).pair
  let d := u.desc cr
  let u := u.emit (.completion cmdRing c)
  if d.enable && !d.draining && reserved then (u.setDesc cr { d with reserved := d.reserved - 1 }).writeCompletion cr c
  else if d.room && !d.draining && !(u.hasHeld cr) then u.writeCompletion cr c
  else { u with ring := { u.ring with heldC := u.ring.heldC ++ [(cr, cmdRing, c)] } }

/-- Take one running command off the ring unit's list. -/
def dropRun (l : List RunCmd) (ring tag : Nat) : List RunCmd :=
  match l with
  | [] => []
  | r :: t => if r.ring = ring ∧ r.tag = tag then t else r :: dropRun t ring tag

/-- Complete the command (ring, tag, gen) with code `code`, a status, a detail word and a result (R457, Table 19-4). -/
def Units.completeRaw (u : Units) (ring tag gen code status detail result stamp : Nat) : Units :=
  let reserved := u.ring.running.any fun r => r.ring = ring && r.tag = tag
  let u := { u with ring := { u.ring with running := dropRun u.ring.running ring tag } }
  let u := if status = St.ABORTED_RESET then u.count 0x210110 else u
  let u := if status = St.STALE_GENERATION then u.count 0x210118 else u
  u.post ring { tag := tag, code := code, status := status, detail := detail, result := result, stamp := stamp, gen := gen,
                phase := true } reserved

/-! Events (21) -/

/-- Operating time in units of 2^-12 h, saturating (R482): the value at start plus the monotonic time, truncated. -/
def Clock.opTime (c : Clock) : Nat := satW 32 (c.opStart + c.mono * 4096 / (3600 * 10 ^ 9))

/-- Forwarding window of a level in ms (Table 2-1). -/
def windowMs (level : Nat) : Nat :=
  if level ≤ 1 then 100 else if level ≤ 3 then 1000 else if level = 4 then 10000 else 60000

/-- The record of an occurrence (R481, R482), with count 1. -/
def Units.record (u : Units) (code level src payload : Nat) (alarm qual : Bool) : EvRec :=
  { code := code, level := level, src := src, count := 1, opTime := u.clk.opTime, cycles := u.clk.cycles % 2 ^ 24,
    flags := b2n u.clk.locked + 2 * b2n alarm + 32 * b2n qual, sec := u.clk.sec % 2 ^ 34, ns := u.clk.ns, payload := payload }

/-- The log entry of a record raised here (Table 21-3); its sequence is given when it is written. -/
def Units.entry (u : Units) (r : EvRec) : LogEntry :=
  { er := r, origin := u.self, epoch := u.clk.epoch, seq := 0, mono := u.clk.mono }

/-- Last-light ring of a source unit (Table 21-8). -/
def llIndex (src : Nat) : Option Nat :=
  let s := src % 4096
  if 0x40 ≤ s ∧ s < 0x50 then some (s - 0x40)
  else if 0x50 ≤ s ∧ s < 0x56 then some (16 + (s - 0x50))
  else [(0x000, 22), (0x010, 23), (0x020, 24), (0x021, 24), (0x060, 25), (0x070, 26), (0x078, 27), (0x080, 28), (0x090, 29),
        (0x0A0, 30), (0x0B0, 31), (0x0C0, 32), (0x0D0, 33), (0x0F0, 34)].lookup s

/-- A record enters a last-light ring of 64, newest first; a frozen ring counts it as missed (R496). -/
def LastLight.add (r : LastLight) (e : EvRec) : LastLight :=
  if r.frozen then { r with missed := satW 16 (r.missed + 1) } else { r with recs := (e :: r.recs).take 64 }

/-- Store a last-light ring. -/
def Units.setLl (u : Units) (i : Nat) (r : LastLight) : Units :=
  { u with chim := { u.chim with ll := NMap.put u.chim.ll LastLight.reset i r } }

/-- Last-light ring `i`. -/
def Units.llRing (u : Units) (i : Nat) : LastLight := NMap.getD u.chim.ll i LastLight.reset

/-- Copy one entry to the feed (R487): a full feed skips it and keeps the range skipped; when there is room again the next
entry is CHIM_FEED_GAP with the first and last sequence skipped. -/
def Units.feedEntry (u : Units) (e : LogEntry) : Units :=
  match u.chim.feed with
  | none => u
  | some n =>
    let u := match u.chim.feedGap with
      | some (a, _) =>
        if (u.desc n).room then
          let g := u.entry (u.record Ev.CHIM_FEED_GAP 2 0xC0 (payloadOf [(0, 4, a), (4, 4, e.seq - 1)]) false false)
          { u.produce n (.log { g with seq := e.seq - 1 }) with chim := { u.chim with feedGap := none } }
        else u
      | none => u
    if (u.desc n).room then u.produce n (.log e)
    else { u with chim := { u.chim with feedGap := some ((u.chim.feedGap.map (·.1)).getD e.seq, e.seq) } }

/-- Write one entry at the end of the local log under the next sequence, and copy it to the feed (R485, R487). -/
def Units.append (u : Units) (e : LogEntry) : Units :=
  let e := { e with seq := u.chim.logSeq + 1 }
  let u := { u with chim := { u.chim with log := u.chim.log ++ [e], logSeq := e.seq } }
  (u.count 0xC00108).feedEntry e

/-- The local log holds 16,384 entries (R486). -/
def Chim.full (c : Chim) : Bool := 16384 ≤ c.log.length

/-- Remove the oldest entry that is not an alarm. -/
def dropNonAlarm : List LogEntry → Option (List LogEntry)
  | [] => none
  | e :: r => if Nat.testBit e.er.flags 1 then (dropNonAlarm r).map (e :: ·) else some r

/-- Write an entry to the local log (R486): a full log drops a new entry that is no alarm, an alarm takes the place of the
oldest entry that is none; when space has returned CHIM_LOG_LOST is written first. -/
def Units.logWrite (u : Units) (e : LogEntry) : Units :=
  if u.chim.full then
    if Nat.testBit e.er.flags 1 then
      match dropNonAlarm u.chim.log with
      | some l => ({ u with chim := { u.chim with log := l, lostNow := u.chim.lostNow + 1 } }.count 0xC00110).append e
      | none => { u with chim := { u.chim with lostNow := u.chim.lostNow + 1 } }.count 0xC00110
    else { u with chim := { u.chim with lostNow := u.chim.lostNow + 1 } }.count 0xC00110
  else if u.chim.lostNow = 0 then u.append e
  else
    let r := u.record Ev.CHIM_LOG_LOST 2 0xC0 (payloadOf [(0, 4, u.chim.lostNow), (4, 2, St.LOG_FULL)]) false false
    ({ u with chim := { u.chim with lostNow := 0 } }.append (u.entry r)).append e

/-- Write several entries. -/
def Units.logAll (u : Units) (l : List LogEntry) : Units := l.foldl Units.logWrite u

/-- A coalesced count in a record: at most 255, with COALESCED and SATURATED (Table 21-2, R484). -/
def EvRec.withCount (r : EvRec) (n : Nat) : EvRec :=
  { r with count := min n 255,
           flags := if 255 < n then r.flags ||| 12 else if 1 < n then r.flags ||| 4 else r.flags }

/-- CHIM_RATE fields (0x00C0_0008). -/
def Units.rateBurst (u : Units) : Nat := bits (u.cfg 0xC00008 (10 * 256 + 16)) 7 0
def Units.ratePerS (u : Units) : Nat := bits (u.cfg 0xC00008 (10 * 256 + 16)) 15 8

/-- Whether a code has a bucket of its own: one of the first 2,048 codes seen (R484). -/
def Chim.ownBucket (c : Chim) (code : Nat) : Bool := NMap.has c.buckets code || c.buckets.length < 2048

/-- The bucket that serves a code. -/
def Chim.bucket (c : Chim) (code : Nat) : Bucket := if c.ownBucket code then NMap.getD c.buckets code Bucket.reset else c.shared

/-- Store the bucket that serves a code. -/
def Chim.setBucket (c : Chim) (code : Nat) (b : Bucket) : Chim :=
  if c.ownBucket code then { c with buckets := NMap.set c.buckets code b } else { c with shared := b }

/-- The local rate limit (R484): a token writes the record with 1 plus the held count; without one it is held. -/
def Units.rateLimit (u : Units) (e : LogEntry) (more : List LogEntry) : Units :=
  let b := u.chim.bucket e.er.code
  if b.spent < u.rateBurst then
    let b' := { b with spent := b.spent + 1, held := 0, heldRec := none, heldMore := [] }
    { u with chim := u.chim.setBucket e.er.code b' }.logAll ({ e with er := e.er.withCount (1 + b.held) } :: more)
  else
    { u with chim := u.chim.setBucket e.er.code { b with held := b.held + 1, heldRec := some e, heldMore := more } }

/-- First alarm area entry that folds a new alarm: same code, origin and source unit (R488). -/
def findAlarm (m : NMap LogEntry) (e : LogEntry) : Option Nat :=
  (m.find? fun p => p.2.er.code = e.er.code && p.2.origin = e.origin && p.2.er.src = e.er.src).map (·.1)

/-- Place an alarm in the alarm area (R488), under the sequence it has in the log. -/
def Units.alarmPlace (u : Units) (e : LogEntry) : Units :=
  match findAlarm u.chim.alarms e with
  | some k =>
    let f := fun (o : LogEntry) =>
      { o with er := { (o.er.withCount (o.er.count + 1)) with opTime := e.er.opTime, sec := e.er.sec, ns := e.er.ns },
               mono := e.mono, epoch := e.epoch }
    { u with chim := { u.chim with alarms := NMap.upd u.chim.alarms k f } }
  | none =>
    match NMap.firstFree u.chim.alarms 256 with
    | some k => { u with chim := { u.chim with alarms := NMap.set u.chim.alarms k e } }
    | none => { u with chim := { u.chim with alarmFull := true } }.count 0xC00118

/-- The window of a key at a step (R489): 2 the T3's own, 3-5 the roles'. -/
def findWin (l : List FwdWin) (step code origin src : Nat) : Option FwdWin :=
  l.find? fun w => w.step = step && w.code = code && w.origin = origin && w.src = src

/-- Change the count of an open window. -/
def addWin (l : List FwdWin) (step code origin src n : Nat) : List FwdWin :=
  l.map fun w => if w.step = step && w.code = code && w.origin = origin && w.src = src then { w with count := w.count + n } else w

/-- Store a role's state. -/
def Units.setRole (u : Units) (id : Nat) (r : RoleSt) : Units :=
  { u with role := { u.role with role := NMap.put u.role.role RoleSt.reset id r } }

/-- The role this T3 holds, if any (R35: at most one). -/
def Units.heldRole (u : Units) : Option Nat := (u.role.role.find? fun p => p.2.holding).map (·.1)

/-- The role a forward of a step goes to (R489): the T3 to its warden, the warden to its keeper, the keeper to the
lighthouse; the lighthouse forwards nothing. -/
def Units.fwdRole (u : Units) (step : Nat) : Option Nat :=
  if step = 2 then some u.role.wardenId else if step = 3 then some u.role.keeperId
  else if step = 4 then some 0x30000000 else none

/-- The longest gap of a role with a ready pilot, ns (R39). -/
abbrev gapNs : Nat := 35000000

/-- Queue a message for the new holder of a role, up to 256, the rest counted (R40). -/
def RoleSt.enqueue (r : RoleSt) (x : RoleMsg) : RoleSt :=
  if r.queue.length < 256 then { r with queue := r.queue ++ [x] } else { r with queueLost := r.queueLost + 1 }

/-- A message for a role: to its holder, this T3 itself where it holds the role, or queued during a gap (R40). A member sees the start of a gap late, so
what it sent within the longest gap is kept for the new holder (DEDUCED: the assumption log, entry 164). -/
def Units.toRole (u : Units) (id cls len : Nat) (pay : List Nat) : Units :=
  let r := u.roleOf id
  let x : RoleMsg := { cls := cls, len := len, pay := pay }
  if u.gapAt id then u.setRole id (r.enqueue x)
  else if r.holding then
    u.later (.message { port := 0, src := u.self, hop := 0, flags := 0, srcGen := u.role.t3Gen, seq := u.role.nextSeq } cls pay)
  else
    (u.setRole id { r with sent := lastN 255 (r.sent.filter fun y => u.clk.mono < y.1 + gapNs) ++ [(u.clk.mono, x)] }).reqL r.holder cls len (roleLevel id) pay

/-- A role's outputs may leave this T3 (R37, R39, R44): it holds the role, has not stopped and has its state. -/
def Units.actsAs (u : Units) (id : Nat) : Bool :=
  let r := u.roleOf id
  r.holding && !r.stopped && !r.rebuilding

/-- Forward entries one step up as EVT_FWD (R490, Table 21-4), or to the role's own windows where this T3 holds it; a forward that carries an alarm waits for its
acknowledgement. -/
def Units.forward (u : Units) (step : Nat) (l : List LogEntry) : Units :=
  match u.fwdRole step with
  | none => u
  | some id =>
    if u.actsAs id then u.later (.forwarded (roleLevel id) l) else
    let alarm := l.any fun e => Nat.testBit e.er.flags 1
    let n := u.chim.fwdSeq + 1
    let c : Chim := { u.chim with
      fwdSeq := n
      fwdOut := if alarm then u.chim.fwdOut ++ [{ seq := n, dst := id, entries := l, resends := 0 }] else u.chim.fwdOut }
    ({ u with chim := c }.count 0xC00120 l.length).toRole id 0x64 (16 + 64 * l.length)
      ([n, l.length, b2n alarm] ++ l.flatMap fun (e : LogEntry) => [e.er.code, e.er.level, e.er.src, e.er.count, e.er.flags, e.er.payload, e.origin])

/-- Apply a forwarding window of `step` to an entry (R489): the first occurrence of a key opens a window and is forwarded
at once, further ones are counted. -/
def Units.window (u : Units) (step : Nat) (e : LogEntry) (more : List LogEntry) (n : Nat := 1) : Units :=
  match findWin u.chim.wins step e.er.code e.origin e.er.src with
  | some _ => { u with chim := { u.chim with wins := addWin u.chim.wins step e.er.code e.origin e.er.src n } }
  | none =>
    let w : FwdWin :=
      { step := step, evLevel := e.er.level, code := e.er.code, origin := e.origin, src := e.er.src, count := 0,
        lenMs := windowMs (if step = 2 then e.er.level else step) }
    { u with chim := { u.chim with wins := u.chim.wins ++ [w] } }.forward step (e :: more)

/-- Freeze a last-light ring and copy it to the Tallow events region: one CHIM_LAST_LIGHT entry, then its records
(R496). -/
def Units.llFreeze (u : Units) (i : Nat) : Units :=
  let r := u.llRing i
  if r.frozen then u
  else
    let n := u.chim.logSeq + 1
    let head := { (u.entry (u.record Ev.CHIM_LAST_LIGHT 2 0xC0 i false false)) with seq := n }
    let copies := r.recs.map fun x => { (u.entry x) with seq := n }
    ({ u with chim := { u.chim with logSeq := n, stored := u.chim.stored ++ head :: copies } }.count 0xC00108).setLl i
      { r with frozen := true, missed := 0 }

/-- One occurrence goes down its three paths (R483): the last-light ring, the forwarding window of its level, and the alarm
area with the log, or the rate limit. `more` are further records of the same occurrence (R557). `ll` is the ring. -/
def Units.occur (u : Units) (ll : Option Nat) (r : EvRec) (more : List Nat) : Units :=
  let e := u.entry r
  let ms := more.map fun p => u.entry { r with payload := p, flags := r.flags ||| 32 }
  let u := u.count 0xC00100
  let u := match ll with
    | some i => u.setLl i ((ms.foldl (fun (a : LastLight) (x : LogEntry) => a.add x.er)) ((u.llRing i).add r))
    | none => u
  let u := u.window 2 e ms
  if Nat.testBit r.flags 1 then
    let n := u.chim.logSeq + (if u.chim.lostNow = 0 || u.chim.full then 1 else 2)
    let u := (u.alarmPlace { e with seq := n }).logAll (e :: ms)
    match ll with
    | some i => u.llFreeze i
    | none => u
  else u.rateLimit e ms

/-! Standing orders (02) -/

/-- Entry `e` matches a trigger: code, level and job (R56). -/
def SoEntry.hits (e : SoEntry) (code level job : Nat) : Bool :=
  Nat.testBit e.flags 0 && e.trigger = code && (e.level = 0xFF || e.level = level) && (e.scope = 0 || e.scope = job)

/-- Rank of a matching entry (R56): naming the job first, then naming the level. -/
def SoEntry.rank (e : SoEntry) : Nat := (if e.scope = 0 then 2 else 0) + (if e.level = 0xFF then 1 else 0)

/-- The entry that wins among those that match: the best rank, then the lowest table index (R56). -/
def pickSo : List SoEntry → Option SoEntry
  | [] => none
  | e :: r => match pickSo r with
    | some b => if e.rank ≤ b.rank then some e else some b
    | none => some e

/-- The default action of a trigger when no enabled entry matches (R56): SNUF_CONTAINED by outcome (R304: 0 L0 confirmed,
1 L1 confirmed, 2 cycle break, 3 lost), the verdicts of Table 11-8, R351, R363, Table 13-7. -/
def soDefault (code outcome : Nat) : Option Nat :=
  if code = Ev.SNUF_CONTAINED then
    if outcome = 1 then some 0x0002 else if outcome = 3 then some 0x0001 else some 0x0006
  else if code = Ev.SHADOW_DIVERGENCE then some 0x0002
  else if code = Ev.SHADOW_NO_MAJORITY ∨ code = Ev.SPR_NO_SPARE then some 0x0008
  else if code = Ev.SHADOW_RESEED ∨ code = Ev.SHADOW_SELF_FAULT ∨ code = Ev.SHADOW_ONE_VS_ONE then some 0x0006
  else if code = Ev.FLICKER_RISK_HIGH ∨ code = Ev.EMBER_CANDIDATE then some 0x0006
  else none

/-- Record SO_ACTION (R555): the trigger, the action's low byte, the class and outcome, the hold identifier. Its source unit
is the Lamplighter, on which role logic and policy run. -/
def Units.soRecord (u : Units) (code level action cls outcome hold : Nat) : Units :=
  let p := payloadOf [(0, 2, code), (2, 1, action), (3, 1, cls + 4 * outcome), (4, 4, hold)]
  u.occur (some 22) (u.record Ev.SO_ACTION level 0x000 p (outcome == 2) false) []

/-- Carry out an entry that won, by its class (Table 2-7). -/
def Units.soPerform (u : Units) (code level : Nat) (e : SoEntry) (t : Target) : Units :=
  if e.cls = 2 then
    let id := u.role.holdId + 1
    let h : HeldAct := { id := id, entry := { e with trigger := code }, tgt := t, level := level, timed := decide (e.timeout ≠ 0) }
    ({ u with role := { u.role with holdId := id, held := u.role.held ++ [h] } }).soRecord code level e.action 2 2 id
  else if e.cls = 1 then (u.soRecord code level e.action 1 1 0).later (.act code level e t)
  else u.later (.act code level e t)

/-- The entry that a default stands for: class automatic (R555). -/
def defaultEntry (code action : Nat) : SoEntry :=
  { trigger := code, level := 0xFF, cls := 0, action := action, flags := 1, scope := 0, a := 0, b := 0, timeout := 0 }

/-- A pod's entry narrows a domain-wide one (R55): the same action or none but the notice, held back at least as far (DEDUCED: the assumption log,
entry 179). -/
def SoEntry.narrows (e d : SoEntry) : Bool := (e.action = d.action || e.action = 0x0006) && d.cls ≤ e.cls

/-- The entry that wins among those of both tables that meet `f` (R55, R56): where a domain-wide entry matches, a pod's entry takes part only if it
narrows the one that would win without it. -/
def RoleUnit.soPick (r : RoleUnit) (f : SoEntry → Bool) : Option SoEntry :=
  let dom := r.soDomain.entries.filter f
  let pod := r.soPod.entries.filter f
  match pickSo dom with
  | some d => pickSo (pod.filter (·.narrows d) ++ dom)
  | none => pickSo pod

/-- A trigger fires (R56): the best matching entry that meets the trigger's own bar `ok`, else the default. -/
def Units.soFire (u : Units) (code level : Nat) (t : Target) (ok : SoEntry → Bool) : Units :=
  match u.role.soPick fun e => e.hits code level t.job && ok e with
  | some e => u.soPerform code level e t
  | none => match soDefault code t.outcome with
    | some a => u.soPerform code level (defaultEntry code a) t
    | none => u

/-- A unit raises an event: the occurrence is recorded and forwarded (R483), and the standing orders fire (R56). -/
def Units.raise (u : Units) (code level src payload : Nat) (more : List Nat := []) (t : Target := Target.none)
    (qual : Bool := false) (alarm : Bool := false) (ll : Option Nat := llIndex src) (ok : SoEntry → Bool := fun _ => true) :
    Units :=
  (u.occur ll (u.record code level src payload (alarm || Ev.alarms.contains code) qual) more).soFire code level t ok

end Sys2Proof.Machine
end

