-- ==== Sys2Proof/Machine/Rings.lean ====
section
/-!
DEFINITION. Mailboxes and rings (19_mailboxes_and_rings): posts, doorbells, bindings, ring indices, enabling and draining a
ring, taking commands (R457), flushes and the aborts of a context reset (R459).
-/
namespace Sys2Proof.Machine

/-! Completing a command -/

/-- Stamp of the unit that completes a command (Table 19-1): the unit's class and index, at operator privilege. -/
def unitStamp (unit : Nat) : Nat :=
  if unit = 0x060 then mkStamp 5 0x060 2 else if unit = 0 then mkStamp 2 0 2 else mkStamp 6 unit 2

/-- Waiting flushes at the head of a ring's running commands (R458). -/
def flushReady (l : List RunCmd) (ring : Nat) : List RunCmd :=
  (l.filter fun r => r.ring = ring).takeWhile fun r => r.flush

/-- Complete every flush of the ring whose earlier commands have all completed (R458). -/
def Units.flushCheck (u : Units) (ring : Nat) : Units :=
  (flushReady u.ring.running ring).foldl
    (fun u r => u.completeRaw r.ring r.tag r.gen r.code St.OK 0 0 (unitStamp 0x021)) u

/-- Complete command `c` with code `code` at unit `unit` (R457: exactly one completion; R146: the first to reach it decides). -/
def Units.done (u : Units) (c : Cmd) (unit code status : Nat) (detail : Nat := 0) (result : Nat := 0) : Units :=
  if u.ring.gone.contains (c.ring, c.tag, c.gen) then
    { u with ring := { u.ring with gone := u.ring.gone.filter fun g => g ≠ (c.ring, c.tag, c.gen) } }
  else (u.completeRaw c.ring c.tag c.gen code status detail result (unitStamp unit)).flushCheck c.ring

/-- Privilege of the sender of a command (R447). -/
def cmdPriv (c : Cmd) : Nat := stampPriv c.stamp

/-- Run an operator command: a sender below operator privilege, or with a reserved encoding, gets NOT_PRIVILEGED (R14). -/
def Units.operator (u : Units) (c : Cmd) (unit code : Nat) (f : Units → Units) : Units :=
  if isOperator (stampPriv c.stamp) then f u else u.done c unit code St.NOT_PRIVILEGED

/-! Ring bodies -/

/-- Bytes of a ring's body (R454). -/
def RingDesc.bytes (d : RingDesc) : Nat := 2 ^ d.countLog2 * (32 * 2 ^ d.sizeCode)

/-- Bytes of the ring-body region (type 0x7, Table 5-2). -/
def Units.ringSpace (u : Units) : Nat :=
  sumL ((u.mantle.regions.filter fun r => r.2.typ = 7).map fun r => r.2.pages.length * 2 ^ 21)

/-- The parts of the ring-body region in use: offset and length. -/
def Units.ringBodies (u : Units) : List (Nat × Nat) :=
  ((u.ring.desc.filter fun d => d.2.enable || d.2.draining).map fun d => (d.2.bodyOffset, d.2.bytes))

/-- Lowest multiple of 4 KiB at which a body of `len` bytes fits. -/
def fitBody (space len : Nat) (used : List (Nat × Nat)) : Option Nat :=
  let up := fun n => (n + 4095) / 4096 * 4096
  let cands := 0 :: used.map fun p => up (p.1 + p.2)
  let ok := cands.filter fun c => c + len ≤ space && used.all fun p => c + len ≤ p.1 || p.1 + p.2 ≤ c
  ok.foldl (fun a c => some (match a with | some b => min b c | none => c)) none

/-! Taking commands (R457) -/

/-- The command codes of Table 24-5: high byte and number of codes. -/
def cmdRanges : List (Nat × Nat) :=
  [(1, 2), (2, 12), (3, 3), (4, 3), (5, 6), (6, 11), (7, 8), (8, 4), (9, 4), (10, 3), (11, 3), (12, 5), (13, 6)]

/-- A code the firmware knows (R550). -/
def knownCmd (code : Nat) : Bool := cmdRanges.any fun r => code / 256 = r.1 && 1 ≤ code % 256 && code % 256 ≤ r.2

/-- A RESET of the ring's owning context runs: its commands are taken but held (R457). -/
def Units.ctxResetting (u : Units) (d : RingDesc) : Bool :=
  d.context != 0xFF && d.port != 0xFF && (u.ig d.port).resets.any fun r => r.kind = 2 || r.ctx = d.context

/-- Complete an entry as it is taken. -/
def Units.refuseEntry (u : Units) (n : Nat) (e : CmdEntry) (idx status : Nat) : Units :=
  if status = St.INTEGRITY_CRC then
    let z := fun v => if e.headPoison then 0 else v
    u.completeRaw n (z e.tag) (z e.gen) (z e.code) status (n % 65536 + 65536 * (idx % 65536)) 0 (unitStamp 0x021)
  else u.completeRaw n e.tag e.gen e.code status 0 0 (unitStamp 0x021)

/-- Take the command at the head of ring `n`, when its completion entry can be reserved and no activation holds it. One whose ring gives a
reserved privilege encoding is refused (R14) after the checks of R457. -/
def Units.takeOne (u : Units) (n : Nat) : Units :=
  let d := u.desc n
  if (d.enable || d.draining) && d.kind = 0 && !u.ring.frozen && (u.desc d.pair).room then
    match d.q with
    | .cmd e :: r =>
      let u := u.setDesc n { d with q := r, cons := wrapW 32 (d.cons + 1) }
      let u := u.count 0x210100
      if e.poison then u.refuseEntry n e (d.cons % d.size) St.INTEGRITY_CRC
      else if e.gen ≠ d.gen then u.refuseEntry n e d.cons St.STALE_GENERATION
      else if e.version ≠ 1 || !knownCmd e.code then u.refuseEntry n e d.cons St.UNSUPPORTED
      else if 4 ≤ d.priv then u.refuseEntry n e d.cons St.NOT_PRIVILEGED
      else
        let stamp := if d.hostSide then mkStamp 1 0 d.priv else mkStamp 6 0 d.priv
        let rc : RunCmd :=
          { ring := n, tag := e.tag, code := e.code, stamp := stamp, gen := e.gen, held := u.ctxResetting d,
            fence := Nat.testBit e.flags 0, flush := false, order := u.ring.nextOrder }
        let cr := u.desc d.pair
        let u := u.setDesc d.pair { cr with reserved := cr.reserved + 1 }
        { u with ring := { u.ring with running := u.ring.running ++ [rc], nextOrder := u.ring.nextOrder + 1 } }
    | _ => u
  else u

/-- Take commands of ring `n` in order until one must wait. -/
def Units.take (u : Units) (n : Nat) : Units := Nat.repeat (fun u => u.takeOne n) (u.desc n).q.length u

/-- Command rings whose completion ring is `cr`. -/
def Units.pairedWith (u : Units) (cr : Nat) : List Nat :=
  (u.ring.desc.filter fun d => d.2.kind = 0 && d.2.pair = cr && (d.2.enable || d.2.draining)).map (·.1)

/-- Write the completions held for a completion ring while it has room, in order (R461, R462). -/
def Units.releaseHeld (u : Units) (cr : Nat) : Units :=
  let step := fun (u : Units) => match u.ring.heldC.find? fun h => h.1 = cr with
    | some h => if (u.desc cr).room then { u with ring := { u.ring with heldC := u.ring.heldC.erase h } }.writeCompletion cr h.2.2 else u
    | none => u
  Nat.repeat step (u.ring.heldC.filter fun h => h.1 = cr).length u

/-- A completion ring has room: held completions first, then commands of the rings it serves are taken (R457). -/
def Units.serveRing (u : Units) (cr : Nat) : Units :=
  (u.pairedWith cr).foldl (fun u n => u.take n) (u.releaseHeld cr)

/-! Index writes (R455) -/

/-- A tenant may touch only rings of its own job; an operator any; others none (R455). -/
def mayRing (w : Who) (d : RingDesc) : Bool :=
  isOperator w.priv || (w.priv = 1 && w.job ≠ 0 && d.job = w.job)

/-- The program whose submission ring this is drains (R144, R170): it takes no new item. -/
def Units.ringDrains (u : Units) (n : Nat) : Bool := u.grid.slots.any fun s => s.2.sub = n && s.2.state = 6

/-- A refused index write (R455). -/
def Units.refuseIdx (u : Units) (n status : Nat) : Units := (u.ringErr n status).count 0x210120

/-- RING_PROD_IDX_WRITE (R455, R457): the producer's doorbell. A host write to the other side's index, or to a ring that is
not its own, is ignored. -/
def ringProdIdxWrite (w : Who) (ring value : Nat) (entries : List CmdEntry) (u : Units) : Units :=
  let d := u.desc ring
  if !(mayRing w d) || !(d.kind = 0 || d.kind = 3) || (w.cls = 1 && !d.hostSide) then u
  else if !d.enable || u.ringDrains ring then u.refuseIdx ring St.BAD_STATE
  else
    let ahead := wrapW 32 (value + 2 ^ 32 - d.prod)
    if 2 ^ 31 ≤ ahead then u.refuseIdx ring St.BAD_PARAM
    else if d.size < d.fill + ahead then u.refuseIdx ring St.RING_FULL
    else (u.setDesc ring { d with prod := wrapW 32 value, q := d.q ++ (entries.take ahead).map fun e => if d.kind = 3 then .words e.raw else .cmd e }).take ring

/-- RING_CONS_IDX_WRITE (R455): frees entries of a T3-produced ring; a completion ring with room again lets the ring unit
take commands of the rings it serves, and held entries of the export ring count as delivered (R263). -/
def ringConsIdxWrite (w : Who) (ring value : Nat) (u : Units) : Units :=
  let d := u.desc ring
  if !(mayRing w d) || !(d.kind = 1 || d.kind = 2) || (w.cls = 1 && !d.hostSide) then u
  else
    let ahead := wrapW 32 (value + 2 ^ 32 - d.cons)
    if d.fill < ahead then u.refuseIdx ring St.BAD_PARAM
    else
      let u := u.setDesc ring { d with cons := wrapW 32 value, q := d.q.drop ahead }
      let u := u.serveRing ring
      if d.kind = 2 then u.later (.ringFreed ring) else u

/-! Enabling and draining (R454, R456, R461) -/

/-- Allocate the body and put the ring in service (R454). -/
def Units.ringUp (u : Units) (ring : Nat) : Units :=
  let d := u.desc ring
  if (d.kind = 0 && d.sizeCode ≠ 2) || (d.kind = 1 && d.sizeCode ≠ 0) || 8 < d.sizeCode || d.countLog2 = 0 || 16 < d.countLog2
      || 4 < d.kind then u.ringErr ring St.BAD_PARAM
  else match fitBody u.ringSpace d.bytes u.ringBodies with
    | none => u.ringErr ring St.MANTLE_FULL
    | some o =>
      (u.setDesc ring { d with enable := true, bodyOffset := o, prod := 0, cons := 0, phase := true, q := [], reserved := 0 }).serveRing
        ring

/-- RING_ENABLE_SET (R454): operator privilege; a set during the ring's drain is held until the drain ends (R145). -/
def ringEnableSet (w : Who) (ring : Nat) (u : Units) : Units :=
  let d := u.desc ring
  if !(isOperator w.priv) || d.enable then u
  else if d.draining then
    { u with drains := u.drains.map fun x => if x.unit = 0x10000 + ring then { x with enableHeld := true } else x }
  else u.ringUp ring

/-- Items a ring's drain waits for: commands queued or running, or entries not consumed (R461). -/
def Units.ringItems (u : Units) (ring : Nat) : Nat :=
  (u.desc ring).q.length + (u.ring.running.filter fun r => r.ring = ring).length

/-- RING_ENABLE_CLEAR (R461, R144): operator privilege; the ring drains. -/
def ringEnableClear (w : Who) (ring : Nat) (u : Units) : Units :=
  let d := u.desc ring
  if !(isOperator w.priv) || !d.enable then u
  else
    { u.setDesc ring { d with enable := false, draining := true } with
      drains := u.drains ++ [{ unit := 0x10000 + ring, items := u.ringItems ring, enableHeld := false }] }

/-- Field of `n` bytes at byte `a`. -/
def fieldAt (l : List Nat) (a n : Nat) : Nat := leNat ((l.drop a).take n)

/-- Completion of one work item that a drain or an unload finds on an inbound ring (R146, R168 step 4): echoing the bytes where a command
entry has its tag, code and generation. It waits where its completion ring has no room. -/
def Units.cancelItem (u : Units) (ring comp : Nat) (b : List Nat) : Units :=
  if comp = 0xFFFFFFFF then u
  else
    let c : Completion :=
      { tag := fieldAt b 4 4, code := fieldAt b 0 2, status := St.CANCELLED_BY_DISABLE, detail := 0, result := 0, stamp := unitStamp 0x0E0,
        gen := fieldAt b 12 2, phase := true }
    let u := u.emit (.completion ring c)
    if (u.desc comp).room && !(u.hasHeld comp) then u.writeCompletion comp c
    else { u with ring := { u.ring with heldC := u.ring.heldC ++ [(comp, ring, c)] } }

/-- Completion ring of the items of an inbound ring: that of the program it submits to. -/
def Units.itemRing (u : Units) (ring : Nat) : Nat :=
  match u.grid.slots.find? fun s => s.2.sub = ring with
  | some s => s.2.comp
  | none => 0xFFFFFFFF

/-- Complete everything a draining or aborted ring still holds: running commands, then queued ones or work items, in ring order. -/
def Units.abortRing (u : Units) (ring status : Nat) : Units :=
  let run := u.ring.running.filter fun r => r.ring = ring
  let u := run.foldl (fun u r => u.completeRaw r.ring r.tag r.gen r.code status 0 0 (unitStamp 0x021)) u
  let u : Units := { u with ring := { u.ring with gone := u.ring.gone ++ run.map fun (r : RunCmd) => (r.ring, r.tag, r.gen) } }
  let d := u.desc ring
  let u := u.setDesc ring { d with q := [], cons := d.prod }
  d.q.foldl (fun u e => match e with
    | .cmd c => u.completeRaw ring c.tag c.gen c.code status 0 0 (unitStamp 0x021)
    | .words b => u.cancelItem ring (u.itemRing ring) b
    | _ => u) u

/-- RING_DRAIN_END (R461, R456): what is left at the timeout is cancelled, held completions of a disabled command ring are
given up, the body is freed, and a ring without an owning context raises GEN by 1. -/
def ringDrainEnd (ring : Nat) (u : Units) : Units :=
  let d := u.desc ring
  if !d.draining then u
  else
    let u := if d.kind = 1 || d.kind = 2 then
        (if d.q.isEmpty then u else (u.setDesc ring { d with q := [], cons := d.prod }).ringErr ring St.CANCELLED_BY_DISABLE)
      else u.abortRing ring St.CANCELLED_BY_DISABLE
    let lost := (u.ring.heldC.filter fun h => d.kind = 0 && h.2.1 = ring).length
    let u := { u with ring := { u.ring with heldC := u.ring.heldC.filter fun h => !(d.kind = 0 && h.2.1 = ring) } }
    let u := if lost = 0 then u else u.count 0x210130 lost
    let d := u.desc ring
    let u := u.setDesc ring
      { d with draining := false, bodyOffset := 0, reserved := 0,
               gen := if d.context = 0xFF then wrapW 16 (d.gen + 1) else d.gen }
    let again := u.drains.any fun x => x.unit = 0x10000 + ring && x.enableHeld
    let u := { u with drains := u.drains.filter fun x => x.unit ≠ 0x10000 + ring }
    if again then u.ringUp ring else u

/-- Abort the command rings of a context on its reset (R459): GEN takes the context's new generation (R456), every running
and queued command completes with ABORTED_RESET, and the consumer index reaches the producer index. -/
def Units.ringContextAbort (u : Units) (port ctx gen : Nat) : Units :=
  let mine := (u.ring.desc.filter fun d => d.2.kind = 0 && d.2.port = port && d.2.context = ctx).map (·.1)
  mine.foldl (fun u n => (u.setDesc n { u.desc n with gen := gen }).abortRing n St.ABORTED_RESET) u

/-- Commands held for a context's RESET start after its confirm (R457). -/
def Units.releaseRun (u : Units) (port ctx : Nat) : Units :=
  { u with ring := { u.ring with running := u.ring.running.map fun r =>
      if (u.desc r.ring).port = port && (ctx = 0xFF || (u.desc r.ring).context = ctx) then { r with held := false } else r } }

/-- RING_FLUSH (0x0101, R458): completes OK once every command taken before it from the same ring has completed; a reserved privilege
encoding is refused (R14). -/
def ringFlush (c : Cmd) (u : Units) : Units :=
  let rec mark : List RunCmd → List RunCmd
    | [] => []
    | r :: t => if r.ring = c.ring ∧ r.tag = c.tag then { r with flush := true } :: t else r :: mark t
  let before := (u.ring.running.filter fun r => r.ring = c.ring).takeWhile fun r => r.tag ≠ c.tag
  if 4 ≤ stampPriv c.stamp then u.done c 0x021 0x0101 St.NOT_PRIVILEGED
  else if before.isEmpty then u.done c 0x021 0x0101 St.OK
  else { u with ring := { u.ring with running := mark u.ring.running } }

/-! Mailbox channels (R448-R453) -/

/-- Channel `n`. -/
def Units.ch (u : Units) (n : Nat) : MbChan := NMap.getD u.mb.chan n MbChan.reset

/-- Store channel `n`. -/
def Units.setCh (u : Units) (n : Nat) (c : MbChan) : Units := { u with mb := { u.mb with chan := NMap.put u.mb.chan MbChan.reset n c } }

/-- Stamp of an identity (R447). -/
def whoStamp (w : Who) : Nat := mkStamp w.cls w.idx w.priv

/-- The bound identity at or above the floor (R450), or any identity at the open mailbox outside normal service (R451). -/
def Units.mbAllowed (u : Units) (w : Who) (n : Nat) : Bool :=
  let b := (u.ch n).bind
  if n = 0 then u.mb.mode != 0 && w.priv < 4
  else bitAt b 0 && bits b 31 28 = w.cls && bits b 27 16 = w.idx && bits b 15 12 ≤ w.priv && w.priv < 4

/-- A write refused (R450): counted, LAST set, and MB_SENDER_REFUSED for a sender that is not allowed. -/
def Units.mbRefuse (u : Units) (n status : Nat) : Units :=
  let c := u.ch n
  let u := u.setCh n { c with refused := satW 16 (c.refused + 1), last := status }
  if status = St.SENDER_NOT_ALLOWED then u.raise Ev.MB_SENDER_REFUSED 2 0x020 0 else u

/-- Status of a refused identity: a reserved privilege encoding gets NOT_PRIVILEGED (R14). -/
def mbRefusal (w : Who) : Nat := if 4 ≤ w.priv then St.NOT_PRIVILEGED else St.SENDER_NOT_ALLOWED

/-- MB_POST (R448, R450, R451). -/
def mbPost (w : Who) (chan count : Nat) (u : Units) : Units :=
  let c := u.ch chan
  if 4 ≤ w.priv then u.mbRefuse chan St.NOT_PRIVILEGED
  else if count = 0 || 8 < count then u.mbRefuse chan St.BAD_PARAM
  else if !(u.mbAllowed w chan) then u.mbRefuse chan (mbRefusal w)
  else if c.outFull && chan ≠ 0 then u.mbRefuse chan St.BUSY_RETRY
  else
    let clash := chan = 0 && c.outFull
    let u := if clash then u.count 0x210128 else u
    u.setCh chan { c with msg := c.outW.take count, stamp := (whoStamp w), outFull := true, collision := c.collision || clash,
                          posted := satW 16 (c.posted + 1), writers := [] }

/-- MB_ACKNOWLEDGE (R448): the T3's 16-bit return code clears FULL. -/
def mbAcknowledge (chan code : Nat) (u : Units) : Units :=
  let c := u.ch chan
  if c.outFull then u.setCh chan { c with ack := wrapW 16 code, outFull := false, msg := [] } else u

/-- MB_RETURN_POST (R448): the return direction holds one message of 1 to 8 words. -/
def mbReturnPost (chan : Nat) (words : List Nat) (u : Units) : Units :=
  let c := u.ch chan
  if words.isEmpty || 8 < words.length then u.mbRefuse chan St.BAD_PARAM
  else if c.retFull then u
  else u.setCh chan { c with retW := words ++ c.retW.drop words.length, retFull := true, retCountValid := true,
                             retCount := words.length }

/-- MB_RET_ACK (R448, R450): writing 1 releases the return message. -/
def mbRetAck (w : Who) (chan value : Nat) (u : Units) : Units :=
  let c := u.ch chan
  if !(u.mbAllowed w chan) then u.mbRefuse chan (mbRefusal w)
  else if bitAt value 0 then u.setCh chan { c with retFull := false, retCountValid := false } else u

/-- Interrupts for pending unmasked doorbell bits: low bits toward the Lamplighter, high bits toward the host (R449). -/
def Units.dbIrq (u : Units) (chan rung : Nat) : Units :=
  let c := u.ch chan
  let hot := andNot rung c.dbMask
  let u := if bits hot 15 0 = 0 then u else u.emit (.chanIrq chan)
  if bits hot 31 16 = 0 then u else u.emit (.msix c.vector)

/-- The doorbell bits that an identity rings: the low half rings toward the T3 from the identity the channel allows, the high half toward
that sender from the Lamplighter, which stands for the T3 (R449, R450). -/
def Units.dbRings (u : Units) (w : Who) (chan : Nat) : Nat :=
  (if u.mbAllowed w chan then 0xFFFF else 0) + (if w.cls = 2 then 0xFFFF0000 else 0)

/-- The doorbell bits that an identity takes: each side clears the bits that ring toward it (R449). -/
def Units.dbTakes (u : Units) (w : Who) (chan : Nat) : Nat :=
  (if w.cls = 2 then 0xFFFF else 0) + (if u.mbAllowed w chan then 0xFFFF0000 else 0)

/-- MB_DB_SET (R449, R450): the low bits may be rung only by the identity the channel allows, the high bits by the T3's side; a reserved
privilege encoding is refused (R14). -/
def mbDbSet (w : Who) (chan value : Nat) (u : Units) : Units :=
  let c := u.ch chan
  let v := wrapW 32 value
  if 4 ≤ w.priv || (bits v 15 0 ≠ 0 && !(u.mbAllowed w chan)) then u.mbRefuse chan (mbRefusal w)
  else
    let v := v &&& u.dbRings w chan
    (u.setCh chan { c with db := c.db ||| v }).dbIrq chan v

/-- MB_DB_CLEAR (R449): the receiving side writes 1 to clear a pending bit; a reserved privilege encoding is refused (R14). -/
def mbDbClear (w : Who) (chan value : Nat) (u : Units) : Units :=
  let c := u.ch chan
  if 4 ≤ w.priv then u.mbRefuse chan St.NOT_PRIVILEGED
  else u.setCh chan { c with db := andNot c.db (wrapW 32 value &&& u.dbTakes w chan) }

/-- MB_DB_MASK_WRITE (R449, R453): a bit unmasked while still set raises its interrupt. -/
def mbDbMaskWrite (w : Who) (chan value : Nat) (u : Units) : Units :=
  let c := u.ch chan
  let v := wrapW 32 value
  if isOperator w.priv then (u.setCh chan { c with dbMask := v }).dbIrq chan (c.db &&& andNot c.dbMask v) else u

/-- MB_BIND_WRITE (R450, R453): BOUND, PRIV_FLOOR, INDEX and CLASS; operator privilege. -/
def mbBindWrite (w : Who) (chan value : Nat) (u : Units) : Units :=
  let c := u.ch chan
  if isOperator w.priv then u.setCh chan { c with bind := wrapW 32 value - bits value 11 1 * 2 } else u

/-- A write of MB_OUT word `k` (R450, R451): refused from an identity the channel does not allow; at the open mailbox words
from more than one identity set COLLISION. -/
def mbOutWrite (w : Who) (chan k value : Nat) (u : Units) : Units :=
  let c := u.ch chan
  if !(u.mbAllowed w chan) then u.mbRefuse chan (mbRefusal w)
  else
    let ws := if c.writers.contains (whoStamp w) then c.writers else c.writers ++ [whoStamp w]
    let clash := chan = 0 && 1 < ws.length && !c.collision
    let u := if clash then u.count 0x210128 else u
    u.setCh chan { c with outW := setNth c.outW k (wrapW 32 value), writers := ws, collision := c.collision || clash }

end Sys2Proof.Machine
end

