-- ==== Sys2Proof/Machine/Links.lean ====
section
/-!
DEFINITION. Sconce and lantern ports (04_sconce_and_lantern_links): bring-up, frames, flow control, acknowledgement and
replay, retrains, lane degrade, disabling, and forwarding of lantern messages. Ports 0-15 are sconce, 16-21 lantern.
-/
namespace Sys2Proof.Machine

/-! Configuration words of a port -/

/-- LINK_CTL (reset: LANE_ALLOW 0xFF, MIN_LANES 1). -/
def Units.linkCtl (u : Units) (p : Nat) : Nat := u.cfg (portBase p) 0x1FF00
def Units.laneAllow (u : Units) (p : Nat) : Nat := bits (u.linkCtl p) 15 8
def Units.minLanes (u : Units) (p : Nat) : Nat := bits (u.linkCtl p) 19 16

/-- LINK_CREDIT_INIT at reset (512, 128, 64 on a sconce port; 1,024, 256, 64 on a lantern port, units of 4 frames). -/
def creditInitReset (p : Nat) : Nat := if p < 16 then 512 + 128 * 2 ^ 11 + 64 * 2 ^ 22 else 1024 + 256 * 2 ^ 11 + 64 * 2 ^ 22

/-- Frames of initial credit asked for, by virtual channel. -/
def Units.creditInit (u : Units) (p : Nat) : List Nat :=
  let w := u.cfg (portBase p + 0x10) (creditInitReset p)
  [4 * bits w 10 0, 4 * bits w 21 11, 4 * bits w 31 22]

/-- LINK_REPLAY_CFG.MAX (reset 8). -/
def Units.replayMax (u : Units) (p : Nat) : Nat := bits (u.cfg (portBase p + 0x14) (8 * 256 + 50)) 11 8

/-- LINK_BURST_CFG (reset 8 events, 10 ms, 10 us, SER_EXP 4). -/
def Units.burstCfg (u : Units) (p : Nat) : Nat := u.cfg (portBase p + 0x18) (8 + 10 * 2 ^ 8 + 10 * 2 ^ 16 + 4 * 2 ^ 24)

/-! Lane sets (R98-R102) -/

/-- Number of lanes in a map. -/
def laneCount (m : Nat) : Nat := ((List.range 8).filter fun i => Nat.testBit m i).length

/-- The lane sets in use, widest first, then lowest lane first. -/
def laneSets : List Nat := [0xFF, 0x0F, 0xF0, 0x03, 0x0C, 0x30, 0xC0, 1, 2, 4, 8, 16, 32, 64, 128]

/-- The widest lane set without an isolated lane and within the allowed lanes (R99). -/
def pickLanes (allow isolated : Nat) : Option Nat :=
  laneSets.find? fun s => s &&& isolated = 0 && s &&& allow = s

/-- Set a LINK_EVENT bit. -/
def Link.flag (l : Link) (b : Nat) : Link := { l with event := setBit l.event b }

/-- Level of a port's events: the accelerator's (L1) on a sconce port, the tray's (L2) on a lantern port. -/
def portLevel (p : Nat) : Nat := if p < 16 then 1 else 2

/-- Raise a link event. -/
def Units.linkEvent (u : Units) (p code payload : Nat) : Units := u.raise code (portLevel p) (portUnit p) payload

/-- Store a port; Vigil reads its state there (R95). -/
def Units.putPort (u : Units) (p : Nat) (l : Link) : Units := u.setPort p l

/-- Complete the IGTAN_REG commands outstanding at a port whose Igtan side forgets its requests. -/
def Units.dropHostRegs (u : Units) (p status : Nat) : Units :=
  (u.ig p).regs.foldl (fun u r => match r.why with
    | .host ring tag stamp gen _ => u.done { ring := ring, tag := tag, gen := gen, stamp := stamp } 0x078 0x0708 status
    | _ => u) u

/-- The Igtan side forgets the requests that the link has lost: control words and keys are written again when R61 runs. -/
def IgtanPort.forget (g : IgtanPort) : IgtanPort :=
  { g with active := false, step := 0, regs := g.regs.filter fun r => match r.why with | .key .. => true | _ => false,
           ctlHeld := g.regs.foldl (fun m r => match r.why with | .ctxCtl c v _ => NMap.set m c v | _ => m) g.ctlHeld }

/-- The Igtan side of a port that leaves service (R61, R62): the block clears ACTIVE when its end enters DOWN, so this T3 holds it clear until R61 has
run again; requests outstanding at it end, an IGTAN_REG with ABORTED_RESET (DESIGN CHOICE: the assumption log, entry 160). -/
def Units.igtanDown (u : Units) (p : Nat) : Units :=
  if p < 16 then
    let u := u.dropHostRegs p St.ABORTED_RESET
    u.setIg p (u.ig p).forget
  else u

/-- The port enters DOWN and records LINK_DOWN (R95, R96, R99); a full retrain that fails has discarded its messages all the same. -/
def Units.portDown (u : Units) (p : Nat) : Units :=
  let l := u.port p
  let u := ((u.later (.outcome 1 p)).putPort p
    { l.flag 0 with state := 7, lanes := 0, map := 0, fullRun := false, newMap := none, again := false, propAt := none, retest := false }).igtanDown p
  let u := if l.fullRun then (u.setPort p { u.port p with loss := 0 }).linkEvent p Ev.LINK_RETRAIN (Config.eventPayload Ev.LINK_RETRAIN [l.loss]) else u
  u.linkEvent p Ev.LINK_DOWN 0

/-- Start bring-up at PMD_TRAIN (R96). -/
def Units.bringUp (u : Units) (p : Nat) : Units :=
  let l := u.port p
  u.putPort p { l with state := 1, restarts := 0, param := none, fullRun := false }

/-- Start a fast retrain: settings, credits, replay buffers and sequences are kept (Table 4-5). -/
def Units.startFast (u : Units) (p : Nat) : Units :=
  let l := u.port p
  u.putPort p { l.flag 1 with state := 6, propAt := none, newMap := if l.again then pickLanes (u.laneAllow p) l.isolated else l.newMap, again := false }

/-- Messages a full retrain discards: those that wait, those not acknowledged, and those of which not all has been received. -/
def Link.inFlight (l : Link) : Nat :=
  ((l.txq.map (·.no) ++ l.replay.flatMap fun f => f.parts.map (·.no)).eraseDups).length + (l.rxBuf.filter fun b => !b.isEmpty).length

/-- Start a full retrain: the replay buffers and every message not yet delivered in either direction are discarded (R95). -/
def Units.startFull (u : Units) (p : Nat) : Units :=
  let l := u.port p
  u.putPort p
    { l.flag 1 with state := 1, fullRun := true, restarts := 0, param := none, loss := l.inFlight, replay := [], replays := 0, txq := [],
                    rxBuf := [[], [], []], rxHeld := [[], [], []], rxGap := false, fastFails := [], newMap := none, again := false, propAt := none }

/-- Use a lane map: LINK_DEGRADED with the old and new maps on a change of lane count (R102). -/
def Units.useMap (u : Units) (p map : Nat) : Units :=
  let l := u.port p
  let l' := { l with map := map, lanes := laneCount map, newMap := none, propAt := none }
  if l.lanes = l'.lanes then u.setPort p l'
  else ((u.later (.flickTrig p)).setPort p (l'.flag 2)).linkEvent p Ev.LINK_DEGRADED (Config.eventPayload Ev.LINK_DEGRADED [l.map, map])

/-- Propose a lane map (R100): a LANE_CHANGE frame with the map and the sequence from which it applies. -/
def Units.propose (u : Units) (p map : Nat) : Units :=
  let l := u.port p
  (u.putPort p { l with state := 5, newMap := some map, propAt := some u.clk.mono }).sendFrame p 3 0 l.txSeq 0xFF [] [map, 0]

/-- Repeat a proposal every 100 ns until it is agreed (R100). -/
def Units.proposeAgain (u : Units) (p : Nat) : Units :=
  let l := u.port p
  match l.state, l.newMap, l.propAt with
  | 5, some m, some t => if t + 100 ≤ u.clk.mono then u.propose p m else u
  | _, _, _ => u

/-- Start a change to the widest set left (R99, R100): too narrow a set sends the port DOWN; during a change a further one
follows it. -/
def Units.changeLanes (u : Units) (p : Nat) : Units :=
  let l := u.port p
  match pickLanes (u.laneAllow p) l.isolated with
  | none => u.portDown p
  | some m =>
    if laneCount m < u.minLanes p then u.portDown p
    else if m = l.map then u
    else if l.state = 5 then u.setPort p { l with again := true }
    else if l.state = 4 then u.propose p m
    else u.setPort p { l with newMap := some m }

/-- Isolate lanes (R98, R99). -/
def Units.isolate (u : Units) (p lanes : Nat) : Units :=
  let l := u.port p
  if lanes &&& l.isolated = lanes then u
  else ((u.later (.flickTrig p)).setPort p { l with isolated := l.isolated ||| lanes }).changeLanes p

/-- Send the frames of the replay buffer again, in order (R93, R95, R100). -/
def Units.resend (u : Units) (p : Nat) (l : List TxFrame) : Units :=
  if l.isEmpty then u else l.foldl (fun u f => u.sendSeq p f) (u.count (portBase p + 0x118))

/-- The change to a new map ends (R100): both ends replay from the last Ack, and a further failed lane starts the next change. -/
def Units.endChange (u : Units) (p map : Nat) : Units :=
  let l := u.port p
  let u := (u.putPort p { l with state := 4, again := false }).useMap p map
  let u := (u.resend p l.replay).pump p
  if l.again then u.changeLanes p else u

/-! Receiving frames -/

/-- Frames flow in ACTIVE, LANE_CHANGE and FAST_RETRAIN. -/
def Link.flows (l : Link) : Bool := l.state == 4 || l.state == 5 || l.state == 6

/-- Frames of the replay buffer that an Ack acknowledges: those up to sequence `ack` (R93). -/
def ackedBy (l : List TxFrame) (ack : Nat) : Nat :=
  match l with
  | [] => 0
  | f :: _ => let n := wrapW 14 (ack + 1 + 2 ^ 14 - f.seq); if n ≤ l.length then n else 0

/-- Take the Ack and Credit fields of a good frame (Table 4-2). -/
def Link.rxHead (l : Link) (f : FrameHdr) : Link :=
  let n := ackedBy l.replay f.ack
  { l with replay := l.replay.drop n, replays := if n = 0 then l.replays else 0,
           txFreed := if f.creditVc < 3 then setNth l.txFreed f.creditVc f.credit else l.txFreed }

/-- Ask for a replay from the expected sequence, once per gap (R93). -/
def Units.askReplay (u : Units) (p : Nat) : Units :=
  let l := u.port p
  if l.rxGap then u else (u.setPort p { l with rxGap := true }).sendFrame p 2 0 l.rxSeq 0xFF [] []

/-- An IDLE frame (R88, R91): it carries Ack and Credit where no other frame does. -/
def Units.sendIdle (u : Units) (p : Nat) : Units := u.sendFrame p 0 0 (u.port p).txSeq 0xFF [] []

/-- Whether a sequence is ahead of the expected one (a gap) rather than behind it (a repeat). -/
def seqAhead (seq expect : Nat) : Bool := wrapW 14 (seq + 2 ^ 14 - expect) < 2 ^ 13

/-- Cut whole messages off a channel's bytes: a message begins with a nonzero version byte and gives its payload length in
bytes 2-3; a zero byte where one would begin is padding to the end of the body (R89). -/
def cutMsgs : Nat → List Nat → List (List Nat) × List Nat
  | 0, l => ([], l)
  | k + 1, l =>
    match l with
    | [] => ([], [])
    | b :: _ =>
      if b = 0 then ([], [])
      else
        let n := 16 + leNat ((l.drop 2).take 2)
        if l.length < 4 || l.length < n then ([], l)
        else let r := cutMsgs k (l.drop n); (l.take n :: r.1, r.2)

/-- Count a delivered message (R107, R491). -/
def Units.deliver (u : Units) (p : Nat) (m : List Nat) : Units :=
  let lvs := if p < 16 then sconceCounts p (m.getD 4 0) 1 else [levelBytesAddr (lanternLevel (m.getD 1 0) (roleLevel (leNat ((m.drop 16).take 4)))) 1]
  lvs.foldl (fun u a => u.count a m.length) (u.count (portBase p + 0x128) m.length)

/-- Frames not all of whose bytes are written onward, when the last `r` bytes received are not (R91): the newest that hold them. -/
def heldFrames : List Nat → Nat → List Nat
  | [], _ => []
  | n :: t, r => if r ≤ sumL t then heldFrames t r else n :: t

/-- Activity a received message's bytes are charged to: of its class, byte 1 of its header (Tables 3-2 and 4-8). -/
def rxAct (p : Nat) (m : List Nat) : Nat := if p < 16 then sconceAct (m.getD 1 0) else lanternAct (m.getD 1 0)

/-- Write whole messages onward, in order, while their activity is not held on the port and the Mantle (R18, R139); the bytes are charged. -/
def Units.onward (p : Nat) : List (List Nat) → Units → Units × List (List Nat)
  | [], u => (u, [])
  | m :: r, u =>
    let a := rxAct p m
    if u.gate a (rxInst p) && u.gate a 0 then Units.onward p r (((u.spend a (rxInst p) m.length).spend a 0 m.length).deliver p m) else (u, m :: r)

/-- Take what a channel of a port has received: its whole messages go onward as far as they may; a frame is freed, and its credit returned, once all
its bytes have (R18, R89, R91). -/
def Units.rxTake (u : Units) (p vc : Nat) : Units :=
  let buf := (u.port p).rxBuf.getD vc []
  let c := cutMsgs (buf.length / 16 + 1) buf
  let o := Units.onward p c.1 u
  let rest := o.2.flatten ++ c.2
  let l := o.1.port p
  let held := l.rxHeld.getD vc []
  let keep := heldFrames held rest.length
  o.1.setPort p { l with rxBuf := setNth l.rxBuf vc rest, rxHeld := setNth l.rxHeld vc keep,
                         rxFreed := updNth l.rxFreed vc fun n => wrapW 16 (n + (held.length - keep.length)) }

/-- A body joins its channel's stream (R89): between messages, the next begins at the first message offset. -/
def joinBody (buf body : List Nat) (first : Nat) : List Nat := if buf.isEmpty then body.drop first else buf ++ body

/-- After a sequenced frame is taken, an IDLE returns its Ack and Credit when nothing else has left the port (DESIGN CHOICE: the assumption log, entry
158). `before` is the port as the frame found it. -/
def Units.reply (u : Units) (p : Nat) (before : Link) : Units :=
  if (u.port p).creditVc = before.creditVc && (u.port p).txSeq = before.txSeq && (u.port p).state = 4 then u.sendIdle p else u

/-- A sequenced frame in order (R89-R93): accepted and answered, or a gap, or a repeat that is discarded. -/
def Units.inOrder (u : Units) (p : Nat) (f : FrameHdr) (k : Units → Units) : Units :=
  let l := u.port p
  if !l.flows then u
  else
    let u := (u.setPort p (l.rxHead f)).pump p
    let l := u.port p
    if f.seq = l.rxSeq then
      (k ((u.setPort p { l with rxSeq := wrapW 14 (l.rxSeq + 1), rxGap := false }).count (portBase p + 0x108))).reply p l
    else if seqAhead f.seq l.rxSeq then u.askReplay p
    else u

/-- A DATA frame that may not be taken: no credit on its channel (R91). -/
def Units.creditError (u : Units) (p : Nat) : Units :=
  ((u.setPort p ((u.port p).flag 4)).linkEvent p Ev.LINK_CREDIT_ERROR 0).startFull p

/-- FRAME_DATA (R89, R91): the body joins its channel's stream, and whole messages go onward in order. A frame of the reserved channel 3 is treated as
one with a failed CRC (DESIGN CHOICE: the spec says so of reserved types only; the assumption log, entry 159). -/
def frameData (port : Nat) (f : FrameHdr) (body : List Nat) (u : Units) : Units :=
  if 2 < f.vc then
    if (u.port port).flows then (u.count (portBase port + 0x110)).askReplay port else u
  else
    u.inOrder port f fun u =>
      let l := u.port port
      if vcGet l.rxInit f.vc ≤ wrapW 16 (vcGet l.rxCount f.vc + 2 ^ 16 - vcGet l.rxFreed f.vc) then u.creditError port
      else
        (u.setPort port { l with
          rxBuf := setNth l.rxBuf f.vc (joinBody (l.rxBuf.getD f.vc []) body f.first),
          rxHeld := setNth l.rxHeld f.vc (l.rxHeld.getD f.vc [] ++ [body.length]),
          rxCount := updNth l.rxCount f.vc fun n => wrapW 16 (n + 1) }).rxTake port f.vc

/-- FRAME_IDLE (R91, R93): Ack and Credit are taken; a next sequence beyond the expected one shows a gap; a draining port answers with IDLE until its
replay buffer is empty (R106). -/
def frameIdle (port : Nat) (f : FrameHdr) (u : Units) : Units :=
  let l := u.port port
  if !l.flows then u
  else
    let u := ((u.setPort port (l.rxHead f)).pump port).count (portBase port + 0x108)
    let l := u.port port
    if f.seq ≠ l.rxSeq && seqAhead f.seq l.rxSeq then u.askReplay port
    else if l.draining && !l.replay.isEmpty then u.sendIdle port
    else u

/-- Replay from the oldest unacknowledged frame, or from a requested one (R93, R94). The fast retrain of R94 starts as the MAXth replay of one frame is
sent (DESIGN CHOICE: the assumption log, entry 159). -/
def Units.replayFrom (u : Units) (p : Nat) (seq : Nat) : Units :=
  let l := u.port p
  match l.replay with
  | [] => u
  | f :: _ =>
    let skip := wrapW 14 (seq + 2 ^ 14 - f.seq)
    if l.replay.length ≤ skip then u
    else
      let again := if skip = 0 then l.replays + 1 else l.replays
      let u := (u.setPort p { l with replays := again }).resend p (l.replay.drop skip)
      if u.replayMax p ≤ again then
        ((u.setPort p { (u.port p).flag 3 with replays := 0 }).linkEvent p Ev.LINK_REPLAY_LIMIT 0).startFast p
      else u

/-- FRAME_REPLAY_REQ (R93). -/
def frameReplayReq (port : Nat) (f : FrameHdr) (u : Units) : Units :=
  let l := u.port port
  if !l.flows then u else ((u.setPort port (l.rxHead f)).count (portBase port + 0x108)).replayFrom port f.seq

/-- Answer the peer's lane map (R99, R100): a lane set within LANE_ALLOW without an isolated lane is agreed to; for any other this end proposes the
widest set within it that it can use; a set narrower than MIN_LANES sends the port DOWN. -/
def Units.answerMap (u : Units) (p map : Nat) : Units :=
  let l := u.port p
  match pickLanes (u.laneAllow p &&& map) l.isolated with
  | none => u.portDown p
  | some m =>
    if laneCount m < u.minLanes p then u.portDown p
    else if m = map then (u.sendFrame p 3 0 l.txSeq 0xFF [] [map, 1]).endChange p map
    else u.propose p m

/-- FRAME_LANE_CHANGE (R100): the narrower map wins; an agreement to our map, or our agreement to the peer's, makes the change. -/
def frameLaneChange (port : Nat) (f : FrameHdr) (map kind : Nat) (u : Units) : Units :=
  let l := u.port port
  if !(l.state = 4 || l.state = 5) then u
  else
    let u := (u.setPort port (l.rxHead f)).count (portBase port + 0x108)
    if kind = 1 then (if l.newMap = some map then u.endChange port map else u)
    else match l.newMap with
      | none => u.answerMap port map
      | some m => if laneCount map ≤ laneCount m then u.answerMap port map else u.propose port m

/-- FRAME_BLOCK_CREDIT (R92, Table 4-4): each entry raises the account of its context and class, modulo 2^24. Lantern ports have no such accounts. An
entry of the reserved class 3 is ignored (DESIGN CHOICE: the assumption log, entry 159). -/
def frameBlockCredit (port : Nat) (f : FrameHdr) (entries : List Nat) (u : Units) : Units :=
  u.inOrder port f fun u =>
    if 16 ≤ port then u
    else
      let g := entries.foldl (fun m e => if bits e 7 6 = 3 then m else NMap.put m 0 (256 * port + e % 256) (bits e 31 8))
        u.link.peerGranted
      { u with link := { u.link with peerGranted := g } }

/-- Frames restart with sequence 0 and the credits exchanged in PARAM (R91). -/
def Link.fresh (l : Link) (init : List Nat) : Link :=
  { l with txSeq := 0, rxSeq := 0, rxGap := false, replay := [], replays := 0, txSent := [0, 0, 0], txFreed := [0, 0, 0],
           txInit := init, rxCount := [0, 0, 0], rxFreed := [0, 0, 0], rxBuf := [[], [], []], rxHeld := [[], [], []], param := none, restarts := 0 }

/-- The port is held (Table 4-7). -/
def Units.holdPort (u : Units) (p : Nat) (mismatch : Bool) : Units :=
  let l := u.port p
  if mismatch then ((u.putPort p { l.flag 5 with state := 8, fullRun := false }).igtanDown p).linkEvent p Ev.LINK_PEER_MISMATCH 0
  else (u.putPort p { l with state := 8, fullRun := false }).igtanDown p

/-- A full retrain that ends in ACTIVE records LINK_RETRAIN with its loss; the units recover by their own means (R95). -/
def Units.fullDone (u : Units) (p : Nat) : Units :=
  let l := u.port p
  ((u.putPort p { l with state := 4, fullRun := false, loss := 0 }).linkEvent p Ev.LINK_RETRAIN (Config.eventPayload Ev.LINK_RETRAIN [l.loss])).later (.fullRetrain p)

/-- FRAME_PARAM (R97, Table 4-6): body fields version, kind, CID, lane map, initial credits. Two identical frames are
compared; the port reaches ACTIVE, and a sconce port goes on to R61, or HELD. Lane maps that leave the two ends no set in common send the port DOWN
(DESIGN CHOICE: the assumption log, entry 159). -/
def frameParam (port : Nat) (_f : FrameHdr) (body : List Nat) (u : Units) : Units :=
  let l := u.port port
  if l.state ≠ 3 then u
  else if l.param ≠ some body then (u.setPort port { l with param := some body }).count (portBase port + 0x108)
  else
    let version := body.getD 0 0
    let kind := body.getD 1 0
    let cid := body.getD 2 0
    let expect := bits (u.cfg (portBase port + 0xC) 0) 23 0
    let l := { l with peerCid := if port < 16 then 0 else cid, peerKind := kind }
    let u := (u.setPort port l).count (portBase port + 0x108)
    if version = 0 then u.holdPort port false
    else if kind ≠ (if port < 16 then 1 else 2) then u.holdPort port true
    else if 16 ≤ port && expect ≠ 0 && expect ≠ cid then u.holdPort port true
    else match pickLanes (u.laneAllow port &&& body.getD 3 0xFF) l.isolated with
      | none => u.portDown port
      | some m =>
        if laneCount m < u.minLanes port then u.portDown port
        else
          let u := (u.setPort port { l.fresh [body.getD 4 0, body.getD 5 0, body.getD 6 0] with version := min version 1 }).useMap port m
          if l.fullRun then u.fullDone port
          else
            let u := (u.putPort port { u.port port with state := 4 }).pump port
            if port < 16 then u.later (.igtanStart port) else u

/-- Burst events on one lane (R98): one longer than BURST_LONG, or BURST_COUNT within BURST_WINDOW, isolates the lane.
`b` is the lane and the length in ns. -/
def Units.burst (u : Units) (p : Nat) (b : Nat × Nat) : Units :=
  let l := u.port p
  let c := u.burstCfg p
  let now := u.clk.mono
  let ts := now :: (NMap.getD l.bursts b.1 []).filter fun t => now < t + 10 ^ 6 * bits c 15 8
  let u := (u.setPort p { l with bursts := NMap.put l.bursts [] b.1 ts }).countSat 32 (portBase p + 0x280 + 4 * b.1)
  if 1000 * bits c 23 16 < b.2 || bits c 7 0 ≤ ts.length then u.isolate p (2 ^ b.1) else u

/-- FRAME_BAD (R90, R93, R98, R103): counted, never delivered, a replay asked for; its burst events and uncorrected
codewords by lane. -/
def frameBad (port : Nat) (bursts uncorr : List (Nat × Nat)) (u : Units) : Units :=
  let l := u.port port
  if !(l.flows || l.state = 3) then u
  else
    let u := u.count (portBase port + 0x110)
    let u := if l.flows then u.askReplay port else u
    let u := uncorr.foldl (fun u x => u.count (portBase port + 0x240 + 8 * x.1) x.2) u
    bursts.foldl (fun u b => u.burst port b) u

/-- LINK_REPLAY_TIMEOUT (R93). -/
def linkReplayTimeout (port : Nat) (asSender : Bool) (u : Units) : Units :=
  let l := u.port port
  if !l.flows then u
  else if asSender then (match l.replay with | [] => u | f :: _ => u.replayFrom port f.seq)
  else if l.rxGap then u.sendFrame port 2 0 l.rxSeq 0xFF [] [] else u

/-! Bring-up and retrains (R95-R97) -/

/-- LINK_ENABLE (R96): 0 to 1 starts bring-up from DISABLED, DOWN or HELD; during the port's drain it is held (R145); in
recovery no port is enabled (R510). -/
def linkEnable (w : Who) (port : Nat) (u : Units) : Units :=
  let l := u.port port
  if !(isOperator w.priv) || u.lamp.state = 4 then u
  else if l.draining then
    { u with drains := u.drains.map fun x => if x.unit = 0x100 + port then { x with enableHeld := true } else x }
  else if bitAt (u.linkCtl port) 0 then u
  else
    let u := u.setCfg (portBase port) (setBit (u.linkCtl port) 0)
    if l.state = 0 || l.state = 7 || l.state = 8 then u.bringUp port else u

/-- Lanes powered down. -/
def Units.powerDown (u : Units) (p : Nat) : Units :=
  let l := u.port p
  (u.putPort p { l with state := 0, lanes := 0, map := 0, draining := false, replay := [], txq := [], newMap := none, again := false, propAt := none,
                        retest := false, fullRun := false }).igtanDown p

/-- LINK_DISABLE (R106): a port in ACTIVE drains; any other is powered down at once. -/
def linkDisable (w : Who) (port : Nat) (u : Units) : Units :=
  let l := u.port port
  if !(isOperator w.priv) || !(bitAt (u.linkCtl port) 0) then u
  else
    let u := u.setCfg (portBase port) (clrBit (u.linkCtl port) 0)
    if l.state = 4 then
      let u : Units := { u.setPort port { l with draining := true } with
        drains := u.drains ++ [{ unit := 0x100 + port, items := l.txq.length + l.replay.length, enableHeld := false }] }
      if l.txq.isEmpty && !l.replay.isEmpty then u.sendIdle port else u
    else u.powerDown port

/-- Work still queued at a port ends with CANCELLED_BY_DISABLE, one notice for each message (R106, R144), and the IGTAN_REG commands with it. -/
def Units.cancelTx (u : Units) (p : Nat) : Units :=
  let l := u.port p
  let u := ((l.replay.flatMap fun f => f.parts.map (·.no)) ++ l.txq.map (·.no)).eraseDups.foldl
    (fun u n => u.emit (.bus 24 [p, n, St.CANCELLED_BY_DISABLE])) u
  if p < 16 then (u.dropHostRegs p St.CANCELLED_BY_DISABLE).setIg p { u.ig p with regs := (u.ig p).regs.filter fun r => match r.why with | .host .. => false | _ => true }
  else u

/-- LINK_DRAIN_TIMEOUT (R106): work still queued ends with CANCELLED_BY_DISABLE and the lanes power down under a new tag; an ENABLE held
during the drain now starts bring-up (R145). -/
def linkDrainTimeout (port : Nat) (u : Units) : Units :=
  let l := u.port port
  if !l.draining then u
  else
    let again := u.drains.any fun x => x.unit = 0x100 + port && x.enableHeld
    let u := (u.cancelTx port).powerDown port
    let u : Units := { u with drains := u.drains.filter fun x => x.unit ≠ 0x100 + port
                              tags := NMap.set u.tags (0x100 + port) (wrapW 16 (NMap.getD u.tags (0x100 + port) 0 + 1)) }
    if again then (u.setCfg (portBase port) (setBit (u.linkCtl port) 0)).bringUp port else u

/-- LINK_RETRAIN (R95, R96): a fast retrain of an ACTIVE port; a port in DOWN or HELD tries its bring-up again. -/
def linkRetrain (w : Who) (port : Nat) (u : Units) : Units :=
  let s := (u.port port).state
  if !(isOperator w.priv) then u
  else if s = 4 || s = 5 then u.startFast port
  else if s = 7 || s = 8 then u.bringUp port
  else u

/-- LINK_FULL_RETRAIN (R95, R96). -/
def linkFullRetrain (w : Who) (port : Nat) (u : Units) : Units :=
  let s := (u.port port).state
  if !(isOperator w.priv) then u
  else if s = 4 || s = 5 || s = 6 then u.startFull port
  else if s = 7 || s = 8 then u.bringUp port
  else u

/-- LINK_LANE_RETEST (R101): PRBS31 runs on the isolated lanes while traffic continues. -/
def linkLaneRetest (w : Who) (port : Nat) (u : Units) : Units :=
  let l := u.port port
  if isOperator w.priv && l.state = 4 && l.isolated ≠ 0 then u.setPort port { l with retest := true } else u

/-- LINK_STATE_TIMEOUT (R96): PMD_TRAIN, ALIGN or PARAM over its limit restarts at PMD_TRAIN; after three restarts the port
enters DOWN. -/
def linkStateTimeout (port : Nat) (u : Units) : Units :=
  let l := u.port port
  if !(l.state = 1 || l.state = 2 || l.state = 3) then u
  else if l.restarts < 3 then u.putPort port { l with state := 1, restarts := l.restarts + 1, param := none }
  else u.portDown port

/-- PMD_TRAIN_DONE (R96). -/
def pmdTrainDone (port : Nat) (u : Units) : Units :=
  let l := u.port port
  if l.state = 1 then u.putPort port { l with state := 2 } else u

/-- Frames of receive space left for a port in the link receive partition of 15 MiB (R114, R115); one credit is 188 bytes. -/
def Units.rxSpace (u : Units) (p : Nat) : Nat :=
  (15 * 2 ^ 20 - sumL ((u.mantle.rxTaken.filter fun x => x.1 ≠ p).map (·.2))) / 188

/-- Take receive space for the port's initial credits, scaled in proportion with MANTLE_FB_SHORT when it does not fit
(R115). The space a port has taken is its own until its next PARAM, when it is powered down too (DESIGN CHOICE: the assumption log, entry 159). -/
def Units.takeRx (u : Units) (p : Nat) : Units :=
  let want := u.creditInit p
  let total := sumL want
  let free := u.rxSpace p
  let give := if total ≤ free then want else want.map fun n => n * free / total
  let u := { u with mantle := { u.mantle with rxTaken := NMap.put u.mantle.rxTaken 0 p (188 * sumL give) } }
  let u := u.setPort p { u.port p with rxInit := give }
  if total ≤ free then u else u.raise Ev.MANTLE_FB_SHORT 2 0xA0 0

/-- ALIGN_DONE (R86, R96, R98): lanes that fail to lock are isolated, reversal is corrected, any other permutation holds the
port; the port enters PARAM. `locked` is the map of lanes that locked. -/
def alignDone (port locked : Nat) (reversed permuted : Bool) (u : Units) : Units :=
  let l := u.port port
  if l.state ≠ 2 then u
  else if permuted then u.holdPort port true
  else
    let iso := l.isolated ||| andNot (u.laneAllow port) locked
    match pickLanes (u.laneAllow port) iso with
    | none => (u.setPort port { l with isolated := iso }).portDown port
    | some m =>
      if laneCount m < u.minLanes port then (u.setPort port { l with isolated := iso }).portDown port
      else
        let l' := { l with state := 3, isolated := iso, reversed := reversed, param := none }
        let u := if l.lanes = 0 then u.putPort port { l' with map := m, lanes := laneCount m } else (u.putPort port l').useMap port m
        u.takeRx port

/-- The PARAM body of a port (Table 4-6): link-layer version 1, kind 0x3 on a sconce port and 0x2 on a lantern port, this T3's CID, the lanes it can use,
the initial credits it gives. -/
def Units.paramBody (u : Units) (p : Nat) : List Nat :=
  let l := u.port p
  [1, if p < 16 then 3 else 2] ++ leBytes 3 u.self ++ [andNot (u.laneAllow p) l.isolated] ++ l.rxInit.flatMap (leBytes 2)

/-- PARAM_SEND_TIMER (R97): a PARAM frame every 1 us. -/
def paramSendTimer (port : Nat) (u : Units) : Units :=
  if (u.port port).state = 3 then u.sendFrame port 5 0 0 0xFF [] (u.paramBody port) else u

/-- LANE_CHANGE_TIMEOUT (R100): no agreement starts a fast retrain that applies the new map. -/
def laneChangeTimeout (port : Nat) (u : Units) : Units :=
  if (u.port port).state = 5 then u.startFast port else u

/-- FAST_RETRAIN_DONE (R95, R96, Table 4-5): ends in ACTIVE with a replay from the peer's last Ack, or has failed; the third
failure within 1 s starts a full retrain. -/
def fastRetrainDone (port : Nat) (ok : Bool) (peerAck : Nat) (u : Units) : Units :=
  let l := u.port port
  if l.state ≠ 6 then u
  else if ok then
    let left := l.replay.drop (ackedBy l.replay peerAck)
    let u := u.putPort port { l with state := 4, fastFails := [], replay := left, replays := 0 }
    let u := match l.newMap with | some m => u.useMap port m | none => u
    (u.resend port left).pump port
  else
    let fs := u.clk.mono :: l.fastFails.filter fun t => u.clk.mono < t + 10 ^ 9
    if 3 ≤ fs.length then u.startFull port else u.setPort port { l with fastFails := fs }

/-- FULL_RETRAIN_DONE (R95). -/
def fullRetrainDone (port : Nat) (ok : Bool) (u : Units) : Units :=
  let l := u.port port
  if !l.fullRun then u
  else if ok then (u.setPort port (l.fresh l.txInit)).fullDone port
  else u.portDown port

/-- Lanes whose symbol errors in a window exceed 10^-SER_EXP of its symbols (R98). -/
def serExcess (exp : Nat) (errs : List Nat) (syms : Nat) : Nat :=
  (List.range 8).foldl (fun a i => if syms < errs.getD i 0 * 10 ^ exp then setBit a i else a) 0

/-- LANE_SER_WINDOW (R98): lanes over the threshold in three consecutive windows are isolated; `errs` are the symbol errors before FEC by lane, `syms` the
symbols of the window; corrected symbols and eye margins by lane. -/
def laneSerWindow (port : Nat) (errs : List Nat) (syms : Nat) (corrected margins : List Nat) (u : Units) : Units :=
  let excess := serExcess (bits (u.burstCfg port) 31 24) errs syms
  let l := u.port port
  if !l.flows then u
  else
    let run := (List.range 8).foldl (fun m i => NMap.put m 0 i (if Nat.testBit excess i then NMap.getD l.serRun i 0 + 1 else 0)) l.serRun
    let u := u.setPort port { l with serRun := run }
    let u := (List.range 8).foldl (fun u i => (u.count (portBase port + 0x200 + 8 * i) (corrected.getD i 0)).setCnt
      (portBase port + 0x2A0 + 4 * i) (wrapW 16 (margins.getD i 0))) u
    let bad := (List.range 8).foldl (fun a i => if 3 ≤ NMap.getD run i 0 then setBit a i else a) 0
    if bad = 0 then u else u.isolate port bad

/-- LANE_RETEST_END (R101): with every retested lane passing the port re-widens through a lane change; lanes that fail stay
isolated; LINK_DEGRADED records the result. -/
def laneRetestEnd (port pass : Nat) (u : Units) : Units :=
  let l := u.port port
  if !l.retest then u
  else
    let left := andNot l.isolated pass
    let u := ((u.later (.flickTrig port)).setPort port { l with retest := false, isolated := left }).linkEvent port Ev.LINK_DEGRADED
      (Config.eventPayload Ev.LINK_DEGRADED [l.map, l.map])
    if left = 0 && l.flows then u.changeLanes port else u

/-! Lantern messages (R104, R105) -/

/-- The classes of Table 4-11 that are reserved. -/
def lanternReserved (cls : Nat) : Bool := cls = 0 || 0x70 ≤ cls || cls = 0x3E || cls = 0x3F || cls = 0x5F || cls = 0x62 || cls = 0x63 || (0x66 ≤ cls && cls ≤ 0x6F)

/-- LHB, LPROBE, LPROBE_ACK (Table 12-5), and ADMIN of kinds 0 and 5 pass the generation check under any tag (R105). -/
def lanternAnyGen (cls kind : Nat) : Bool := (0x40 ≤ cls && cls ≤ 0x42) || (cls = 0x3C && (kind = 0 || kind = 5))

/-- The source epoch generation is not the one in force for its CID: the Generation of its route entry of kind 1, when it
has one (R105). -/
def Units.lanternStale (u : Units) (h : LHdr) : Bool :=
  match NMap.find u.role.routes h.src with
  | some e => e.kind = 1 && e.valid && e.gen ≠ h.srcGen
  | none => false

/-- The message versions supported: version 1 only (DEDUCED: the assumption log, entry 141). -/
def lBadVer (h : LHdr) : Bool := h.ver ≠ 1

/-- A message that is dropped whatever its class: an unsupported version (R58), or an old generation (R105). -/
def Units.lanternDrops (u : Units) (h : LHdr) : Bool := lBadVer h || u.lanternStale h

/-- A drill probe (R46): flag bit 2 of the lantern header. -/
def lDrill (h : LHdr) : Bool := bitAt h.flags 2

/-- A response: flag bit 0 of the lantern header. -/
def lResp (h : LHdr) : Bool := bitAt h.flags 0

/-- Level that a drill probe's class serves (Table 2-4). -/
def drillLevel (cls : Nat) : Nat := if cls = 0x39 then 3 else if cls = 0x3C || cls = 0x3D then 5 else 4

/-- Receive a lantern message: one of an unsupported version is dropped, and a request answered with UNSUPPORTED (R58); one
of an old generation is dropped and counted (R105); a drill probe is answered, and nothing acts on it (R46, R53). -/
def Units.recvL (u : Units) (h : LHdr) (cls kind : Nat) (f : Units → Units) : Units :=
  if lBadVer h then (if lResp h then u else u.answerL h.src cls h.seq 2 2 [St.UNSUPPORTED])
  else if u.lanternStale h && !(lanternAnyGen cls kind) then u.count (portBase (16 + h.port) + 0x130)
  else if lDrill h then (if lResp h then u else u.answerL h.src cls h.seq 16 (drillLevel cls) [])
  else f u

/-- A message dropped under R105: coalesced LINK_HOP_DROP. -/
def Units.hopDrop (u : Units) (p : Nat) : Units :=
  (u.setPort p ((u.port p).flag 6)).linkEvent p Ev.LINK_HOP_DROP 0

/-- The bytes of a message as it goes on (Table 4-8): its header with the hop limit reduced by one, and its payload. -/
def forwardBytes (h : LHdr) (dst cls : Nat) (bytes : List Nat) : List Nat :=
  [h.ver, cls] ++ leBytes 2 bytes.length ++ leBytes 3 dst ++ [h.hop - 1] ++ leBytes 3 h.src ++ [h.flags] ++ leBytes 2 h.srcGen ++ leBytes 2 h.seq ++ bytes

/-! Collective messages on a lantern port (R421, R422) -/

/-- Activity of a call by its space and group (R422). -/
def collAct (gate : Bool) (space : Nat) : Nat := if space = 0 then (if gate then 1 else 12) else if space = 1 then 2 else 4

/-- A message's place among the waiting ones (R422): groups take turns, one message each; `j` messages of its group wait already. -/
def turnInsert (m : TxMsg) (j : Nat) : List TxMsg → NMap Nat → List TxMsg
  | [], _ => [m]
  | x :: r, seen =>
    if x.grp = 0 then x :: turnInsert m j r seen
    else
      let k := NMap.getD seen x.grp 0
      if j < k then m :: x :: r else x :: turnInsert m j r (NMap.set seen x.grp (k + 1))

/-- Hand a collective message to a lantern port: rounds with data (`grp` 1 + group) take turns by group on the request channel; the bytes of one
forwarded are read from the front buffer. -/
def Units.sendCollTx (u : Units) (s : CollSent) : Units :=
  let p := 16 + s.port
  let l := u.port p
  if !l.accepts then u
  else
    let u := if s.bytes.isEmpty then u.emit (.lantern s.head s.pay)
      else { u with link := { u.link with store := NMap.set u.link.store (p * 2 ^ 32 + l.nextNo) (mkStamp 4 s.from_ 2, s.bytes) } }
    let m : TxMsg := { no := l.nextNo, vc := s.vc, bytes := 16 + s.head.len, act := s.act, grp := s.grp, cnt := [portBase p + 0x120, levelBytesAddr 2 0] }
    let j := (l.txq.filter fun x => x.grp = s.grp).length
    (u.setPort p { l with nextNo := l.nextNo + 1, txq := if s.grp = 0 then l.txq ++ [m] else turnInsert m j l.txq [] }).pump p

/-- How a COLL_ROUND or COLL_ABORT that goes on is queued (R422): the signature at its front names group, space and operation; the group is a gate group
where this T3 holds it as one. -/
def Units.collOnward (u : Units) (from_ q : Nat) (o : LOut) (bytes : List Nat) : CollSent :=
  let pay := bytes.drop 16
  let group := leNat (pay.take 4)
  let sys := o.cls = 0x21 || pay.getD 16 0 = 1
  let gate := u.coll.groups.any fun g => g.2.id = group && bitAt g.2.flags 0
  { time := u.clk.mono, port := q - 16, head := o, vc := if sys then 2 else 0, grp := if sys then 0 else 1 + group,
    act := collAct gate (bits (leNat ((pay.drop 8).take 8)) 63 62), pay := [], bytes := bytes, from_ := from_ }

/-- Write a message into the front buffer, with the sender stamp of lantern port `from_` (R105, Table 19-1), and hand it to port `q` (R17): the port reads
its frames from there. -/
def Units.forwardTx (u : Units) (from_ q cls : Nat) (bytes : List Nat) (cnt : List Nat) : Units :=
  if (u.port q).accepts then
    { u with link := { u.link with store := NMap.set u.link.store (q * 2 ^ 32 + (u.port q).nextNo) (mkStamp 4 from_ 2, bytes) } }.queueTx q 2 (lanternAct cls)
      bytes.length cnt
  else u

/-- Send a message of another T3 on toward its destination at port `q`: header as it leaves, fields, and the level of a role it serves. -/
def Units.relay (u : Units) (q : Nat) (o : LOut) (pay : List Nat) (level : Nat) : Units :=
  (u.emit (.lantern o pay)).queueTx q 2 (lanternAct o.cls) (16 + o.len) [levelBytesAddr (lanternLevel o.cls level) 0]

/-- The header of a message that goes on (Table 4-8): the hop limit reduced by one. -/
def LHdr.onward (h : LHdr) (dst cls len : Nat) : LOut :=
  { ver := h.ver, cls := cls, len := len, dst := dst, hop := h.hop - 1, src := h.src, flags := h.flags, srcGen := h.srcGen, seq := h.seq }

/-- LANTERN_FORWARD (R105): a message for another CID is written to the Mantle's front buffer and goes on toward it with the hop limit reduced by one;
`level` is the level of the role a message of classes 0x30-0x3F serves. -/
def lanternForward (h : LHdr) (dst cls kind level : Nat) (bytes : List Nat) (u : Units) : Units :=
  let p := 16 + h.port
  let len := bytes.length
  if lanternReserved cls || 4128 < len then u.count (portBase p + 0x138)
  else
    u.recvL h cls kind fun u =>
      if h.hop = 0 then u.hopDrop p
      else if u.routeFenced dst then u.count fencedDrops
      else match u.hop dst with
        | none => u.hopDrop p
        | some q =>
          let u := u.emit (.bus 7 [dst, cls, h.src, h.hop - 1, q])
          let lv := lanternLevel cls level
          let u := (u.count (portBase p + 0x128) (16 + len)).count (levelBytesAddr lv 1) (16 + len)
          let out := forwardBytes h dst cls bytes
          if cls = 0x20 || cls = 0x21 then
            let s := u.collOnward h.port q (LHdr.onward h dst cls len) out
            let u := u.sendCollTx s
            { u with coll := { u.coll with recent := (u.coll.recent.filter fun r => u.clk.mono ≤ r.time + 10 ^ 7) ++ [s] } }
          else u.forwardTx h.port q cls out [levelBytesAddr lv 0]

end Sys2Proof.Machine
end

