-- ==== Sys2Proof/Machine/Beacon.lean ====
section
/-!
DEFINITION. Beacon time (18): the two time bases, sources and lock, steps and slews, transmit timestamps, the time epoch and the calendar.
-/
namespace Sys2Proof.Machine

/-- Change the Beacon. -/
def Units.upB (u : Units) (f : Beacon → Beacon) : Units := { u with bcn := f u.bcn }

/-- Change the clock. -/
def Units.upK (u : Units) (f : Clock → Clock) : Units := { u with clk := f u.clk }

/-- A Beacon event. -/
def Units.bcnEvent (u : Units) (code : Nat) (args : List Nat := []) : Units :=
  u.raise code 2 0x010 (if args.isEmpty then 0 else Config.eventPayload code args)

/-! Settings -/

def Units.bcnCtl (u : Units) : Nat := u.cfg 0x100000 0
def Units.stepUs (u : Units) : Nat := bits (u.cfg 0x100008 (1000 + 2000 * 2 ^ 20)) 19 0
def Units.lockNs (u : Units) : Nat := bits (u.cfg 0x10000C (250 + 2000 * 2 ^ 12)) 11 0
def Units.unlockNs (u : Units) : Nat := bits (u.cfg 0x10000C (250 + 2000 * 2 ^ 12)) 23 12
def Units.agreeNs (u : Units) : Nat := bits (u.cfg 0x100010 (1000 + 60 * 2 ^ 16)) 15 0
/-- BEACON_DOMAIN(d). -/
def Units.domCfg (u : Units) (d : Nat) : Nat := u.cfg (0x100020 + 4 * d) (248 * 2 ^ 24)
def Units.domOn (u : Units) (d : Nat) : Bool := bitAt (u.domCfg d) 7
/-- BEACON_CTL.PRIMARY. -/
def Units.primary (u : Units) : Nat := bits u.bcnCtl 0 0
/-- BEACON_PPS_CFG. -/
def Units.ppsCfg (u : Units) : Nat := u.cfg 0x100068 (100 * 4)

/-- Domain `d` (0 A, 1 B). -/
def Units.dom (u : Units) (d : Nat) : BcnDomain := if d = 0 then u.bcn.domA else u.bcn.domB

/-- Change domain `d`. -/
def Units.upDom (u : Units) (d : Nat) (f : BcnDomain → BcnDomain) : Units :=
  u.upB fun b => if d = 0 then { b with domA := f b.domA } else { b with domB := f b.domB }

/-! The counters (R426) -/

/-- Beacon time in ns. -/
def Clock.beacon (c : Clock) : Nat := c.sec * 10 ^ 9 + c.ns

/-- Beacon time set to `t` ns: 48 bits of seconds, 30 of nanoseconds. -/
def Clock.setBeacon (c : Clock) (t : Nat) : Clock := { c with sec := t / 10 ^ 9 % 2 ^ 48, ns := t % 10 ^ 9 }

/-- Move Beacon time by `d` ns, modulo its range; the offsets held move against it. -/
def Units.shiftTime (u : Units) (d : Int) : Units :=
  let m := 2 ^ 48 * 10 ^ 9
  let t := (((u.clk.beacon : Nat) : Int) + d) % ((m : Nat) : Int)
  let f := fun (x : BcnDomain) => { x with offset := x.offset.map fun o => (o.1 - d, o.2) }
  (u.upK fun c => c.setBeacon t.toNat).upB fun b => { b with domA := f b.domA, domB := f b.domB }

/-- Seconds carry: Beacon time plus the output advance and the pulse width (R432). -/
def Units.ppsLevel (u : Units) : Bool :=
  bitAt u.ppsCfg 1 && (u.clk.ns + bits u.ppsCfg 23 12) % 10 ^ 9 < bits u.ppsCfg 11 2 * 10 ^ 6

/-- One cycle of the 500 MHz time clock (R426): 2 ns at the corrected rate on each counter; the 1PPS output follows (R432), and a port whose lane
map is not yet agreed proposes it again when 100 ns of monotonic time have passed (R100). -/
def Units.clockCycle (u : Units) : Units :=
  let b := u.bcn
  let add := fun (r : Nat) (ppb : Int) => r + ((2 * (10 ^ 9 + ppb)).toNat)
  let t := add b.rem (b.freq + b.slew)
  let m := add b.monoRem b.freq
  let u := u.upK fun c =>
    { (c.setBeacon (c.beacon + t / 10 ^ 9)) with frac := t % 10 ^ 9 * 2 ^ 16 / 10 ^ 9, mono := wrapW 64 (c.mono + m / 10 ^ 9) }
  let u := u.upB fun b => { b with rem := t % 10 ^ 9, monoRem := m % 10 ^ 9 }
  let u := (NMap.keys u.link.port).foldl Units.proposeAgain u
  let l := u.ppsLevel
  if l = b.ppsOut then u else (u.upB fun b => { b with ppsOut := l }).emit (.pin 17 0 (b2n l))

/-! Lock, steps and slews (R433-R436) -/

/-- Change of LOCKED, recorded (R433). -/
def Units.setLock (u : Units) (on : Bool) : Units :=
  if u.clk.locked = on then u
  else (u.upK fun c => { c with locked := on }).bcnEvent (if on then Ev.BEACON_LOCKED else Ev.BEACON_UNLOCKED)

/-- The servo sets the frequency correction within 200 ppm (R426, R433). -/
def Units.steer (u : Units) : Units :=
  u.draw.upB fun b => { b with freq := max (-200000) (min 200000 (Config.servoPpb u.free)) }

/-- Select a domain (R436): nothing steps and lock is kept; a slew goes on toward the new domain's offset (Table 18-5). -/
def Units.switchTo (u : Units) (d : Nat) : Units :=
  let old := u.bcn.source
  let slew : Int := match (u.dom d).offset with
    | some o => if o.1 < 0 then -(u.bcn.slew.natAbs : Int) else (u.bcn.slew.natAbs : Int)
    | none => u.bcn.slew
  ((u.upB fun b => { b with source := d + 1, slew := slew }).count 0x100108).bcnEvent Ev.BEACON_SWITCH [old, d + 1]

/-- Domain `d` is enabled, was measured within 1 s and lies within AGREE_NS (R435 step 3). -/
def Units.agrees (u : Units) (d : Nat) : Bool :=
  u.domOn d && !(u.dom d).lost &&
    (match (u.dom d).offset with
    | some o => decide (u.clk.mono ≤ o.2 + 10 ^ 9) && decide (o.1.natAbs ≤ u.agreeNs)
    | none => false)

/-- A slew begins or goes on (R435 step 4): lock clears. -/
def Units.slewBy (u : Units) (off : Int) : Units :=
  let r := min 500000 (Config.slewPpb u.free)
  (u.draw.upB fun b => { b with slewing := true, slew := if off < 0 then -(r : Int) else (r : Int), okRun := 0 }).setLock false

/-- A measurement within LOCK_NS counts toward lock and ends a slew. -/
def Units.nearOffset (u : Units) (off : Int) : Units :=
  if off.natAbs ≤ u.lockNs then
    let n := min 16 (u.bcn.okRun + 1)
    let u := (u.upB fun b => { b with slewing := false, slew := 0, okRun := n, set := true }).steer
    if n = 16 then u.setLock true else u
  else (u.upB fun b => { b with okRun := 0 }).steer

/-- A measured offset of the source in use, not stepped: R435. `alone` is false where another domain can be selected. -/
def Units.farOffset (u : Units) (off : Int) : Units :=
  let big := u.stepUs * 1000 < off.natAbs
  let u := if big then (u.bcnEvent Ev.BEACON_STEP_REFUSED) else u
  let u := u.count 0x100100
  let other := 2 - u.bcn.source
  if (u.bcn.source = 1 || u.bcn.source = 2) && u.agrees other then
    let u := u.switchTo other
    match (u.dom other).offset with
    | some o => if u.unlockNs < o.1.natAbs then u.setLock false else u
    | none => u
  else u.slewBy off

/-- An offset of the source in use (R433-R435, R437). -/
def Units.measured (u : Units) (off : Int) : Units :=
  let first := !u.bcn.acquired
  let u := u.upB fun b => { b with acquired := true }
  let stepUp := decide (0 < off) && (first || decide (off.natAbs ≤ u.stepUs * 1000))
  if u.clk.locked then
    if off.natAbs ≤ u.unlockNs then u.nearOffset off
    else if (u.bcn.source = 1 || u.bcn.source = 2) && u.agrees (2 - u.bcn.source) then u.farOffset off
    else
      let u := (u.upB fun b => { b with okRun := 0 }).setLock false
      if stepUp then u.shiftTime off else u.farOffset off
  else if stepUp then
    let run := if off.natAbs ≤ u.lockNs then min 16 (u.bcn.okRun + 1) else 0
    let u := (u.shiftTime off).upB fun b => { b with slewing := false, slew := 0, okRun := run, set := true }
    if run = 16 then u.setLock true else u
  else if off.natAbs ≤ u.lockNs then u.nearOffset off
  else
    let u := if first && u.stepUs * 1000 < off.natAbs then u.bcnEvent Ev.BEACON_BEHIND_AT_START else u
    u.farOffset off

/-- PTP_SYNC_MEASUREMENT (R434): an offset of domain `d` in ns. Without a source the domain is selected; while the time is held over from a
lost preferred domain, only if it agrees (R436). -/
def ptpSyncMeasurement (d : Nat) (off : Int) (u : Units) : Units :=
  if 2 ≤ d || !(u.domOn d) then u.count 0x100110
  else
    let u := u.upDom d fun x => { x with offset := some (off, u.clk.mono), lost := false }
    let u :=
      if u.bcn.source = 0 && u.clk.locked && d ≠ u.primary && u.domOn u.primary then (if u.agrees d then u.switchTo d else u)
      else if u.bcn.source = 0 || u.bcn.source = 3 then u.upB fun b => { b with source := d + 1 } else u
    if u.bcn.source = d + 1 then u.measured off else u

/-- Order of announced data sets: the first element that differs decides, the lower one wins (R429: default algorithm). -/
def betterMaster : List Nat → List Nat → Bool
  | a :: r, b :: s => if a < b then true else if b < a then false else betterMaster r s
  | _, _ => false

/-- UTC day number of Beacon time under an offset. -/
def Units.utcDay (u : Units) (offset : Nat) : Nat := (u.clk.sec - offset) / 86400

/-- PTP_ANNOUNCE (R441): the best master of the domain, and its UTC offset and leap flags when currentUtcOffsetValid is set. -/
def ptpAnnounce (d : Nat) (dataset : List Nat) (utcOffset : Nat) (valid leap61 leap59 : Bool) (u : Units) : Units :=
  if 2 ≤ d || !(u.domOn d) then u.count 0x100110
  else
    let best := match (u.dom d).best with
      | some b => if betterMaster b dataset then b else dataset
      | none => dataset
    let utc := fun (x : BcnDomain) =>
      if best ≠ dataset then x.utc
      else if !valid then none
      else
        let day := match x.utc with
          | some o => if o.leap61 = leap61 && o.leap59 = leap59 then o.day else u.utcDay utcOffset
          | none => u.utcDay utcOffset
        some { offset := utcOffset % 256, leap61 := leap61, leap59 := leap59, day := day }
    u.upDom d fun x => { x with best := some best, utc := utc x }

/-- ANNOUNCE_RECEIPT_TIMEOUT of domain `d` (R436): the domain is lost; when it is the one in use, the other takes over if it agrees, else no
source is selected. -/
def announceReceiptTimeout (d : Nat) (u : Units) : Units :=
  if 2 ≤ d then u
  else
    let other := 1 - d
    let u := u.upDom d fun x => { x with lost := true, best := none, utc := none }
    if u.bcn.source ≠ d + 1 then u
    else if d = u.primary && u.agrees other then u.switchTo other
    else u.upB fun b => { b with source := 0 }

/-- BEACON_HOLD_EXPIRY (R433): no source for HOLD_MS. -/
def beaconHoldExpiry (u : Units) : Units :=
  if u.bcn.source = 0 then (u.upB fun b => { b with okRun := 0 }).setLock false else u

/-- BEACON_REVERT_TIMER (R436): REVERT_S of agreement with the preferred domain reverts to it, of disagreement raises the alarm. -/
def beaconRevertTimer (u : Units) : Units :=
  let p := u.primary
  if u.bcn.source = 0 || u.bcn.source = 3 || u.bcn.source = p + 1 || !(u.domOn p) then u
  else if u.agrees p then u.switchTo p
  else if (u.dom p).lost then u
  else u.bcnEvent Ev.BEACON_DOMAIN_DISAGREE

/-! PTP messages and timestamps (R429, R430, R438) -/

/-- A port's transmit timestamp queue. -/
def Units.txts (u : Units) (p : Nat) : TxTs := if p = 0 then u.bcn.tx0 else u.bcn.tx1

def Units.setTxts (u : Units) (p : Nat) (t : TxTs) : Units := u.upB fun b => if p = 0 then { b with tx0 := t } else { b with tx1 := t }

/-- PTP_EVENT_TRANSMIT (R438): a timestamp enters the port's queue, or is dropped; a two-step message whose timestamp was kept gets its
follow-up (bus 2). -/
def ptpEventTransmit (port seqId typ domain : Nat) (u : Units) : Units :=
  if 2 ≤ port then u
  else
    let t := u.txts port
    if 64 ≤ t.q.length then
      (u.setTxts port { t with overflow := true, drops := satW 16 (t.drops + 1) }).bcnEvent Ev.BEACON_TXTS_OVERFLOW
    else
      let u := u.setTxts port { t with q := t.q ++ [(seqId % 2 ^ 16, typ % 16, domain % 256, u.clk.sec, u.clk.ns, u.clk.frac)] }
      if typ = 0 then u.emit (.bus 2 [port, 8, seqId, domain, u.clk.sec, u.clk.ns, u.clk.frac])
      else if typ = 3 then u.emit (.bus 2 [port, 0xA, seqId, domain, u.clk.sec, u.clk.ns, u.clk.frac])
      else u

/-- BEACON_TXTS_POP (R438, R446): word 0 pops the oldest entry and latches words 1-3; an empty queue reads 0. -/
def beaconTxtsPop (w : Sys2Proof.Who) (port : Nat) (u : Units) : Units :=
  if 2 ≤ port then u
  else
    let a := 0x100080 + 0x10 * port
    if !(isOperator w.priv) then u.emit (.read a 0)
    else
      let t := u.txts port
      let hold := fun (u : Units) (v : List Nat) =>
        { u with regs := { u.regs with latch := (List.range 3).foldl (fun m k => NMap.set m (a + 4 + 4 * k) (v.getD k 0)) u.regs.latch } }
      match t.q with
      | [] => (hold u [0, 0, 0]).emit (.read a 0)
      | (s, ty, d, sec, ns, fr) :: r =>
        (hold (u.setTxts port { t with q := r }) [ns, sec % 2 ^ 32, sec / 2 ^ 32 % 2 ^ 16 + fr * 2 ^ 16]).emit
          (.read a (s + ty * 2 ^ 16 + d * 2 ^ 20 + 2 ^ 31))

/-- PTP_OTHER_MESSAGE (R429, R430): a supported message of a domain in service is timestamped; Delay_Req is answered by a port that is
master, Pdelay_Req where the domain runs peer-to-peer; any other type is dropped. -/
def ptpOtherMessage (port domain typ seqId : Nat) (u : Units) : Units :=
  let d := if bits (u.domCfg 0) 6 0 = domain && u.domOn 0 then some 0 else if bits (u.domCfg 1) 6 0 = domain && u.domOn 1 then some 1 else none
  match d with
  | none => u.count 0x100110
  | some d =>
    let c := u.domCfg d
    let p2p := bitAt c 10
    let ok := 2 > port && bitAt c (8 + port) &&
      ((!p2p && (typ = 1 || typ = 9)) || (p2p && (typ = 2 || typ = 3 || typ = 0xA)) || typ = 8)
    if !ok then u.count 0x100110
    else
      let u := u.upB fun b => { b with rx := NMap.set b.rx (16 * domain + typ) (seqId, u.clk.sec, u.clk.ns) }
      let master := bitAt c 12 && (match (u.dom d).best with | some b => decide (bits c 31 24 < b.getD 0 0) | none => true)
      if typ = 1 && master then u.emit (.bus 2 [port, 9, seqId, domain, u.clk.sec, u.clk.ns, u.clk.frac])
      else if typ = 2 then u.emit (.bus 2 [port, 3, seqId, domain, u.clk.sec, u.clk.ns, u.clk.frac])
      else u

/-! 1PPS and 10 MHz (R431, R432) -/

/-- Apply an accepted step (R439, R440): backward it opens a new epoch. -/
def Units.applyStep (u : Units) : Units :=
  match u.bcn.pend with
  | none => u
  | some s =>
    let d : Int := match s.target with
      | some t => ((t * 10 ^ 9 : Nat) : Int) - (u.clk.beacon : Int)
      | none => s.rel
    let back := d < 0 || (d = 0 && s.target.isSome && 0 < u.clk.frac)
    let u := (u.upB fun b => { b with pend := none, rem := if s.target.isSome then 0 else b.rem }).shiftTime d
    let u := if s.target.isSome then u.upK fun c => { c with frac := 0 } else u
    let u := if back then
        let old := u.clk.epoch
        let u := u.upK fun c => { c with epoch := wrapW 32 (c.epoch + 1) }
        u.bcnEvent Ev.BEACON_EPOCH [old, u.clk.epoch, ofSigned 64 d]
      else u
    u.done s.cmd 0x010 s.code St.OK

/-- The tick boundary of R439: a step that does not wait for a 1PPS edge applies. -/
def Units.stepAtTick (u : Units) : Units :=
  match u.bcn.pend with
  | some s => if s.atPps then u else u.applyStep
  | none => u

/-- The offset of a 1PPS edge: the way of the nanoseconds to 0 (R432). -/
def Units.ppsOffset (u : Units) : Int := if u.clk.ns < 500000000 then -(u.clk.ns : Int) else ((10 ^ 9 - u.clk.ns : Nat) : Int)

/-- PPS_IN_EDGE (R432, R443): the edge is timestamped; as the source it applies a waiting calendar step, else steers the nanoseconds to 0. -/
def ppsInEdge (u : Units) : Units :=
  if !(bitAt u.ppsCfg 0) then u
  else
    let u := u.upB fun b => { b with ppsPresent := true, pps := some (u.clk.sec, u.clk.ns) }
    let u := if u.bcn.source = 0 && bitAt u.bcnCtl 1 && !(u.domOn 0) && !(u.domOn 1) then u.upB fun b => { b with source := 3 } else u
    if u.bcn.source ≠ 3 then u
    else match u.bcn.pend with
      | some s => if s.atPps then u.applyStep else u.measured u.ppsOffset
      | none => u.measured u.ppsOffset

/-- PPS_LOSS_TIMEOUT (R432): no edge for 2 s. -/
def ppsLossTimeout (u : Units) : Units :=
  let u := u.bcnEvent Ev.BEACON_PPS_LOST
  u.upB fun b => { b with ppsPresent := false, source := if b.source = 3 then 0 else b.source }

/-- REF10M_LOSS (R431): the time clock returns to the SerDes reference; neither counter steps. -/
def ref10mLoss (u : Units) : Units :=
  let was := u.bcn.ref10
  let u := u.upB fun b => { b with ref10 := false, ref10In := false }
  if was then u.bcnEvent Ev.BEACON_REF_LOST else u

/-- REF10M_RETURN (R431): present for 1 s, it is followed again where REF10_EN is set. -/
def ref10mReturn (u : Units) : Units := u.upB fun b => { b with ref10In := true, ref10 := bitAt u.bcnCtl 2 }

/-! Calendar (R441-R443) -/

/-- The UTC offset in force and whether an Announce gave it. -/
def Units.utcNow (u : Units) : Option (Utc × Bool) :=
  let a := if u.bcn.source = 1 then u.bcn.domA.utc else if u.bcn.source = 2 then u.bcn.domB.utc else none
  match a with
  | some x => some (x, true)
  | none => u.bcn.utc.map fun x => (x, false)

/-- A leap year (R442). -/
def leapYear (y : Nat) : Bool := y % 4 = 0 && (y % 100 ≠ 0 || y % 400 = 0)

/-- Length of a month. -/
def monthDays (y m : Nat) : Nat :=
  if m = 2 then (if leapYear y then 29 else 28) else if m = 4 ∨ m = 6 ∨ m = 9 ∨ m = 11 then 30 else 31

/-- Days from 1970-01-01 to the first day of year `y`. -/
def daysTo (y : Nat) : Nat := (y - 1970) * 365 + ((y - 1) / 4 - 492) - ((y - 1) / 100 - 19) + ((y - 1) / 400 - 4)

/-- Day of the year before month `m`. -/
def daysBefore (y m : Nat) : Nat := sumL ((List.range (m - 1)).map fun k => monthDays y (k + 1))

/-- UTC seconds from 1970 of a date and time. -/
def utcSeconds (y mo d h mi s : Nat) : Nat := (daysTo y + daysBefore y mo + (d - 1)) * 86400 + h * 3600 + mi * 60 + s

/-- Year of a day number, by search down from an estimate. -/
def yearOf (day : Nat) : Nat := let e := 1970 + day / 365; ((List.range 4).map (e - ·)).find? (fun y => daysTo y ≤ day) |>.getD (e - 4)

/-- Month of a day of the year. -/
def monthOf (y k : Nat) : Nat := (((List.range 12).map (12 - ·)).find? fun m => daysBefore y m ≤ k).getD 1

/-- BEACON_CAL (R441, R442): 0 while no offset is known; 23:59:60 during an inserted leap second; a removed second 59 is skipped. -/
def Units.calendar (u : Units) : Nat :=
  match u.utcNow with
  | none => 0
  | some (x, _) =>
    let t := u.clk.sec - x.offset
    let leap := x.leap61 && t % 86400 = 0 && t / 86400 = x.day + 1
    let t := if leap then t - 1 else if x.leap59 && t % 86400 = 86399 && t / 86400 = x.day then t + 1 else t
    let s := if leap then 60 else t % 60
    let day := t / 86400
    let y := yearOf day
    let k := day - daysTo y
    let m := monthOf y k
    s + (t / 60 % 60) * 2 ^ 6 + (t / 3600 % 24) * 2 ^ 12 + (k - daysBefore y m + 1) * 2 ^ 17 + m * 2 ^ 22 + (y % 2 ^ 14) * 2 ^ 32

/-- LEAP_SECOND_END (R442): at the end of a leap minute the offset changes; the flags are used up. -/
def leapSecondEnd (u : Units) : Units :=
  let f := fun (x : Utc) =>
    { x with offset := if x.leap61 then (x.offset + 1) % 256 else if x.leap59 then x.offset - 1 else x.offset, leap61 := false, leap59 := false }
  match u.utcNow with
  | none => u
  | some (_, true) => u.upDom (u.bcn.source - 1) fun d => { d with utc := d.utc.map f }
  | some (_, false) => u.upB fun b => { b with utc := b.utc.map f }

/-- Accept a step: it ends a slew in progress (R440). -/
def Units.acceptStep (u : Units) (s : BcnStep) : Units := u.upB fun b => { b with pend := some s, slewing := false, slew := 0 }

/-- BEACON_STEP (0x0301, R439, R440, R445). -/
def beaconStep (c : Sys2Proof.Cmd) (step : Int) (u : Units) : Units :=
  u.operator c 0x010 0x0301 fun u =>
    if step = 0 then u.done c 0x010 0x0301 St.BAD_PARAM
    else if u.bcn.pend.isSome then u.done c 0x010 0x0301 St.BUSY_RETRY
    else u.acceptStep { rel := step, target := none, atPps := false, cmd := c, code := 0x0301 }

/-- The date and time checks of R443. -/
def dateOk (y mo d h mi s : Nat) : Bool :=
  2000 ≤ y && y ≤ 2399 && 1 ≤ mo && mo ≤ 12 && 1 ≤ d && d ≤ monthDays y mo && h ≤ 23 && mi ≤ 59 && s ≤ 59

/-- BEACON_SET_CALENDAR (0x0302, R443). -/
def beaconSetCalendar (c : Sys2Proof.Cmd) (y mo d h mi s : Nat) (u : Units) : Units :=
  u.operator c 0x010 0x0302 fun u =>
    if !(dateOk y mo d h mi s) then u.done c 0x010 0x0302 St.INVALID_DATE
    else if (u.bcn.source = 1 || u.bcn.source = 2) && u.clk.locked then u.done c 0x010 0x0302 St.BAD_STATE
    else match u.utcNow with
      | none => u.done c 0x010 0x0302 St.BAD_STATE
      | some (x, _) =>
        if u.bcn.pend.isSome then u.done c 0x010 0x0302 St.BUSY_RETRY
        else u.acceptStep { rel := 0, target := some (utcSeconds y mo d h mi s + x.offset), atPps := u.bcn.source = 3, cmd := c, code := 0x0302 }

/-- BEACON_SET_UTC (0x0303, R441, R445): used while no Announce gives a valid offset. -/
def beaconSetUtc (c : Sys2Proof.Cmd) (offset : Nat) (leap61 leap59 : Bool) (u : Units) : Units :=
  u.operator c 0x010 0x0303 fun u =>
    if 256 ≤ offset then u.done c 0x010 0x0303 St.BAD_PARAM
    else (u.upB fun b => { b with utc := some { offset := offset, leap61 := leap61, leap59 := leap59, day := u.utcDay offset } }).done c 0x010 0x0303 St.OK

end Sys2Proof.Machine
end

