-- ==== Sys2Proof/Machine/MantleOps.lean ====
section
/-!
DEFINITION. The Mantle controller (05_mantle_central_store): pages, regions, access, ECC, the front buffer, generation bumps,
the quiet interval, page retirement and pooling reports. Agent classes are numbered as the pairs of Table 5-4.
-/
namespace Sys2Proof.Machine

/-- Agent classes of Table 5-4. -/
abbrev Ag.sconce : Nat := 0
abbrev Ag.lantern : Nat := 1
abbrev Ag.wick : Nat := 2
abbrev Ag.grid : Nat := 3
abbrev Ag.tallow : Nat := 4
abbrev Ag.pcie : Nat := 5
abbrev Ag.ledger : Nat := 6
abbrev Ag.chimney : Nat := 7
abbrev Ag.coll : Nat := 8
abbrev Ag.lamp : Nat := 9

/-- Bytes of a page (2 MiB). -/
abbrev pageBytes : Nat := 2 ^ 21

/-- The stacks in service, in order (R108, R112). -/
def Mantle.stkList (x : Mantle) : List Nat := (List.range 8).filter fun i => Nat.testBit (andNot x.present x.mappedOut) i

/-- Number of stacks in service (R108, R112). -/
def Mantle.stks (x : Mantle) : Nat := x.stkList.length

/-- Pages of the Mantle present: 3,072 per stack (R108). -/
def Mantle.total (x : Mantle) : Nat := 3072 * x.stks

/-- Page descriptor `k`. -/
def Mantle.page (x : Mantle) (k : Nat) : Page := NMap.getD x.pages k Page.reset

/-- Store page descriptor `k`. -/
def Mantle.setPage (x : Mantle) (k : Nat) (p : Page) : Mantle := { x with pages := NMap.put x.pages Page.reset k p }

/-- A page an allocation may take: free and zeroed since its last owner (R118). -/
def Page.open (p : Page) : Bool := p.state == 0 && p.zeroed

/-- Free zeroed pages (MANTLE_STATUS.FREE_PAGES). -/
def Mantle.freeCount (x : Mantle) : Nat :=
  x.total - (x.pages.filter fun p => p.1 < x.total && !p.2.open).length

/-- The first `n` open pages, lowest index first, from page `k` on. -/
def Mantle.openPages (x : Mantle) : Nat → Nat → Nat → List Nat
  | 0, _, _ => []
  | _, _, 0 => []
  | fuel + 1, k, n + 1 => if (x.page k).open then k :: Mantle.openPages x fuel (k + 1) n else Mantle.openPages x fuel (k + 1) (n + 1)

/-- Pages for `bytes` (R118: whole pages). -/
def pagesFor (bytes : Nat) : Nat := bytes / pageBytes + if bytes % pageBytes = 0 then 0 else 1

/-- Store the controller. -/
def Units.setMantle (u : Units) (x : Mantle) : Units := { u with mantle := x }

/-- ROLE_REPORT of kind `kind` to a role (Table 2-10). -/
def Units.report (u : Units) (role kind len : Nat) (body : List Nat) : Units :=
  u.toRole role 0x3A (16 + len) ([kind, u.role.setVer, len] ++ body)

/-- Report the free zeroed pages to the warden (R127). -/
def Units.reportFree (u : Units) : Units := u.report u.role.wardenId 0 4 [u.mantle.freeCount]

/-- The lowest region index that is free. -/
def Mantle.freeIndex (x : Mantle) : Option Nat := (List.range 4096).find? fun k => !(NMap.has x.regions k) && !(NMap.has x.fading k)

/-- The region that a window shows: a live one, or one whose pages are quiet. -/
def Mantle.shownRegion (x : Mantle) (k : Nat) : Option Region := (NMap.find x.regions k).orElse fun _ => NMap.find x.fading k

/-- Give region `r` the first `n` open pages (R118): the region's index, or none with nothing changed. A count that falls
below 512 is reported at once (R127). -/
def Units.takePages (u : Units) (r : Region) (n : Nat) : Units × Option Nat :=
  let x := u.mantle
  if x.freeCount < n then (u, none)
  else match x.freeIndex with
    | none => (u, none)
    | some idx =>
      let ps := x.openPages x.total 0 n
      let before := x.freeCount
      let x := ps.foldl (fun x k => x.setPage k { x.page k with region := idx, state := 1, zeroed := false }) x
      let x := { x with regions := NMap.set x.regions idx { r with pages := ps } }
      let u := u.setMantle x
      (if 512 ≤ before && x.freeCount < 512 then u.reportFree else u, some idx)

/-- Allocate a region of `bytes` (R118); a recovery allocation that waits for pages goes ahead of it (R119). -/
def Units.allocRegion (u : Units) (r : Region) (bytes : Nat) : Units × Option Nat :=
  if u.mantle.waits.isEmpty then u.takePages r (pagesFor bytes) else (u, none)

/-- Free pages into the quiet state (R124), their zeroing to be charged to activity `act`; a page due for retirement is retired (R111). -/
def Mantle.quietPages (x : Mantle) (period act : Nat) (ps : List Nat) : Mantle :=
  ps.foldl (fun x k =>
    let p := x.page k
    if p.due then { x.setPage k { p with state := 3 } with retired := x.retired + 1 }
    else x.setPage k { p with state := 2, quietAt := wrapW 16 period, act := act }) x

/-- Activity `act` frees a region: its pages go quiet, and so does the region until they are zeroed (R124). -/
def Units.freeRegion (u : Units) (idx : Nat) (act : Nat := 12) : Units :=
  match NMap.find u.mantle.regions idx with
  | none => u
  | some r =>
    let x := u.mantle
    let left := r.pages.filter fun k => !((x.page k).due)
    u.setMantle { x.quietPages u.bud.period act r.pages with
      regions := NMap.del x.regions idx, fading := if left.isEmpty then x.fading else NMap.set x.fading idx { r with quiet := true, pages := left } }

/-- A page of a quiet region is zeroed: the region is gone with its last page. -/
def Mantle.fadePage (x : Mantle) (idx page : Nat) : Mantle :=
  match NMap.find x.fading idx with
  | none => x
  | some r =>
    let left := r.pages.filter fun k => k ≠ page
    { x with fading := if left.isEmpty then NMap.del x.fading idx else NMap.set x.fading idx { r with pages := left } }

/-- Physical address of byte `off` of region `idx`. -/
def Units.phys (u : Units) (idx off : Nat) : Option Nat :=
  match NMap.find u.mantle.regions idx with
  | none => none
  | some r => (r.pages[off / pageBytes]?).map fun p => p * pageBytes + off % pageBytes

/-- The region that owns physical address `a`, when its page is allocated. -/
def Units.regionAt (u : Units) (a : Nat) : Option (Nat × Region) :=
  let k := a / pageBytes
  let p := u.mantle.page k
  if k < u.mantle.total && p.state = 1 then (NMap.find u.mantle.regions p.region).map fun r => (p.region, r) else none

/-- An agent class has a right in an access mask (Table 5-4); the Lamplighter reads every region (R121). -/
def maskGrants (mask agent : Nat) (write : Bool) : Bool := (agent == 9 && !write) || Nat.testBit mask (2 * agent + b2n write)

/-- Every byte of a range lies in a region that grants the agent the right (R551). Pages decide, so each page of the range
and its last byte are looked at. -/
def Units.mayAccess (u : Units) (agent addr len : Nat) (write : Bool) : Bool :=
  let n := (addr + (len - 1)) / pageBytes - addr / pageBytes + 1
  (List.range n).all fun i => match u.regionAt ((addr / pageBytes + i) * pageBytes) with
    | some r => maskGrants r.2.mask agent write
    | none => false

/-- A line of a range reads as poison (R109). -/
def Units.poisoned (u : Units) (addr len : Nat) : Bool :=
  u.mantle.poison.any fun l => addr / 64 ≤ l && l ≤ (addr + (len - 1)) / 64

/-- Enter bytes at a physical address into the front buffer: under the tag and the context of a transfer (`from`), or under the region's own
tag for a unit's own access, which carries none (R116). -/
def memPut (m : Mem) (u : Units) (addr : Nat) (l : List Nat) (src : Option (Nat × Nat) := none) : Mem :=
  let go := fun (a : Mem × Nat) (b : Nat) =>
    match u.regionAt a.2 with
    | some r => (a.1.putByte r.1 (src.getD (r.2.gen, 0)).1 (src.getD (r.2.gen, 0)).2 a.2 b, a.2 + 1)
    | none => (a.1, a.2 + 1)
  (l.foldl go (m, addr)).1

/-- Write bytes at an offset of a region, likewise. -/
def memPutAt (m : Mem) (u : Units) (idx off : Nat) (l : List Nat) (src : Option (Nat × Nat) := none) : Mem :=
  match NMap.find u.mantle.regions idx with
  | none => m
  | some r =>
    let t := src.getD (r.gen, 0)
    let go := fun (a : Mem × Nat) (b : Nat) =>
      match u.phys idx a.2 with
      | some p => (a.1.putByte idx t.1 t.2 p b, a.2 + 1)
      | none => (a.1, a.2 + 1)
    (l.foldl go (m, off)).1

/-- Read bytes at an offset of a region; a byte outside it reads 0. -/
def memGetAt (m : Mem) (u : Units) (idx off n : Nat) : List Nat :=
  (List.range n).map fun i => match u.phys idx (off + i) with
    | some p => m.byte p
    | none => 0

/-- Lines that writing `len` bytes at `addr` covers whole: their poison goes (R109). -/
def Mantle.cure (x : Mantle) (addr len : Nat) : Mantle :=
  { x with poison := x.poison.filter fun l => !(decide (addr ≤ 64 * l) && decide (64 * l + 64 ≤ addr + len)) }

/-- What a unit's write of `len` bytes at offset `off` of a region does beside the bytes: the poison of the lines it covers whole goes (R109);
a write to a region whose pages are quiet is discarded and counted (R124). -/
def Units.cureAt (u : Units) (idx off len : Nat) : Units :=
  match NMap.find u.mantle.regions idx with
  | none => if NMap.has u.mantle.fading idx then u.count 0xA00120 else u
  | some r =>
    let whole := fun (l : Nat) => match r.pages.findIdx? (fun p => p = 64 * l / pageBytes) with
      | some i => let o := i * pageBytes + 64 * l % pageBytes; decide (off ≤ o) && decide (o + 64 ≤ off + len)
      | none => false
    u.setMantle { u.mantle with poison := u.mantle.poison.filter fun l => !(whole l) }

/-- A refused access (R121): counted and recorded, naming the agent class and the region, where one owns the address. -/
def Units.deny (u : Units) (agent addr : Nat) : Units :=
  (u.count 0xA00118).raise Ev.MANTLE_ACCESS_DENIED 2 0xA0
    (Config.eventPayload Ev.MANTLE_ACCESS_DENIED (agent :: ((u.regionAt addr).map (·.1)).toList))

/-! ECC (R109-R112) -/

/-- The stack of a line: physical addresses interleave across the stacks in service in 256-byte granules (R108). -/
def Mantle.stackOf (x : Mantle) (line : Nat) : Nat := x.stkList.getD (line / 4 % x.stks) 0

/-- A stack fails (R112): MANTLE_STACK_FAIL, inbound transfers stop, the T3 reports itself failed to the warden and asks for
a full reset; the stack is mapped out at each later start. -/
def Units.stackFail (u : Units) (stack : Nat) : Units :=
  let x := u.mantle
  if x.stackFailed then u
  else
    let u := u.setMantle { x with stackFailed := true, failedStacks := setBit x.failedStacks stack }
    let u := (u.later (.outcome 2 stack)).raise Ev.MANTLE_STACK_FAIL 2 0xA0 stack
    (u.report u.role.wardenId 2 11 [u.self, u.clk.sec * 2 ^ 30 + u.clk.ns]).emit (.bus 9 [0])

/-- A page with 2 uncorrectable or 64 corrected errors within 24 h is retired (R111): a page of a region that is not
host-visible is copied to a free page and remapped, its poisoned lines with it; one of a host-visible region, or one that
finds no free page, waits until the region frees it. -/
def pageRetire (m : Mem) (u : Units) (k : Nat) : Mem × Units :=
  let x := u.mantle
  let p := x.page k
  let wait := u.setMantle (x.setPage k { p with due := true })
  if !(2 ≤ p.uncorr.length || 64 ≤ p.corr.length) || p.state = 3 then (m, u)
  else if p.state ≠ 1 then (m, u.setMantle { x.setPage k { p with state := 3 } with retired := x.retired + 1 })
  else match NMap.find x.regions p.region, (x.openPages x.total 0 1).head? with
    | some r, some q =>
      if r.hostVisible then (m, wait)
      else
        let at_ := fun (l : Nat) => if 64 * l / pageBytes = k then l - k * (pageBytes / 64) + q * (pageBytes / 64) else l
        let x := (x.setPage q { Page.reset with region := p.region, state := 1, zeroed := false }).setPage k { p with state := 3 }
        let x := { x with regions := NMap.set x.regions p.region { r with pages := r.pages.map fun a => if a = k then q else a },
                          retired := x.retired + 1, poison := x.poison.map at_ }
        let mv := fun (c : Host.Cell) => if c.1 / pageBytes = k then [(c.1 % pageBytes + q * pageBytes, c.2)] else []
        let d := (m.dram.flatMap mv).foldl (fun d c => Memory.write d c.1 c.2) m.dram
        ({ dram := d, fb := m.fb.map fun l => { l with line := at_ l.line } }, u.setMantle x)
    | _, _ => (m, wait)

/-- A count of free zeroed pages that has fallen below 512 is reported at once (R127); `before` is the count before. -/
def Units.lowReport (u : Units) (before : Nat) : Units := if 512 ≤ before && u.mantle.freeCount < 512 then u.reportFree else u

/-- What a read of a line finds (R109): `ecc` 0 clean, 1 corrected, 2 uncorrectable. -/
def eccFound (m : Mem) (u : Units) (line ecc : Nat) : Mem × Units :=
  let x := u.mantle
  let k := 64 * line / pageBytes
  let p := x.page k
  let now := u.clk.mono
  let day := fun (l : List Nat) => now :: l.filter fun t => now < t + 86400 * 10 ^ 9
  let low := fun (r : Mem × Units) => (r.1, r.2.lowReport x.freeCount)
  if ecc = 1 then low (pageRetire m ((u.count 0xA00100).setMantle (x.setPage k { p with corr := day p.corr })) k)
  else if ecc = 2 then
    let s := x.stackOf line
    let es := now :: (NMap.getD x.stackErr s []).filter fun t => now < t + 10 ^ 9
    let x := { x.setPage k { p with uncorr := day p.uncorr } with
      poison := if x.poison.contains line then x.poison else x.poison ++ [line]
      eccAddr := 2 ^ 63 + 64 * line, stackErr := NMap.put x.stackErr [] s es }
    let u := (((u.setMantle x).count 0xA00108).count (0xA00200 + 8 * s)).raise Ev.MANTLE_ECC_UNCORR 2 0xA0 (64 * line)
    let r := low (pageRetire m u k)
    if 16 ≤ es.length then (r.1, r.2.stackFail s) else r
  else (m, u)

/-- What a read of the lines of a range finds, line by line; a line that the list does not name is clean. -/
def eccLines (addr len : Nat) (ecc : List Nat) (m : Mem) (u : Units) : Mem × Units :=
  let first := addr / 64
  (List.range ((addr + (len - 1)) / 64 - first + 1)).foldl (fun a i => eccFound a.1 a.2 (first + i) (ecc.getD i 0)) (m, u)

/-! Access under the budget (R113, R121-R125, R139) -/

/-- The generation a transfer must carry into a region (R122): the owner's tag, or for a job's region the tag of the
transfer's context (`ctxKey`: CID * 256 + context) kept per shard; none for an owner of kind none, or of a context that the job has not. -/
def Units.tagFor (u : Units) (r : Region) (ctxKey : Nat) : Option Nat :=
  if r.ownerKind = 4 then none
  else if r.ownerKind = 3 then NMap.find u.mantle.ctxTags (r.job * 2 ^ 32 + ctxKey)
  else some r.gen

/-- A transfer's generation is the one its region must carry (R122); a context that the job has not has none in a job's region. -/
def Units.tagGood (u : Units) (r : Region) (ctxKey tag : Nat) : Bool :=
  r.ownerKind = 4 || u.tagFor r ctxKey = some tag

/-- The context under which a transfer's lines stand in the front buffer (R122). -/
def Region.keyOf (r : Region) (ctxKey : Nat) : Nat := if r.ownerKind = 3 then r.job * 2 ^ 32 + ctxKey else 0

/-- A read that the budget has let through: refused on a quiet page or without the right, else the ECC outcome of each line and the bytes,
or poison. -/
def readNow (agent addr len : Nat) (ecc : List Nat) (m : Mem) (u : Units) : Mem × Units :=
  let p := u.mantle.page (addr / pageBytes)
  if p.state = 2 then (m, (u.count 0xA00120).emit (.data addr true []))
  else if !(u.mayAccess agent addr len false) then (m, (u.deny agent addr).emit (.data addr true []))
  else
    let r := eccLines addr len ecc m u
    let v := r.2.count 0xA00128 (m.fromDram addr len)
    (r.1, if v.poisoned addr len then v.emit (.data addr true []) else v.emit (.data addr false (m.bytesAt addr len)))

/-- A write that the budget has let through: checked for a quiet page, the access mask and the generation, then entered into the front buffer; a
line written whole is no longer poisoned. A failed stack takes no inbound transfer (R112). -/
def writeNow (agent addr tag ctxKey : Nat) (bytes : List Nat) (m : Mem) (u : Units) : Mem × Units :=
  let p := u.mantle.page (addr / pageBytes)
  if p.state = 2 then (m, u.count 0xA00120)
  else if !(u.mayAccess agent addr bytes.length true) then (m, u.deny agent addr)
  else if u.mantle.stackFailed && agent ≤ 1 then (m, u)
  else match u.regionAt addr with
    | none => (m, u.deny agent addr)
    | some r =>
      if !(u.tagGood r.2 ctxKey tag) then (m, u.count 0xA00110)
      else (memPut m u addr bytes (some (tag, r.2.keyOf ctxKey)), u.setMantle (u.mantle.cure addr bytes.length))

/-- A unit's own write, which carries the region's tag: refused on a quiet page or without the right. -/
def unitWrite (agent addr : Nat) (bytes : List Nat) (m : Mem) (u : Units) : Mem × Units :=
  if (u.mantle.page (addr / pageBytes)).state = 2 then (m, u.count 0xA00120)
  else if !(u.mayAccess agent addr bytes.length true) then (m, u.deny agent addr)
  else (memPut m u addr bytes, u.setMantle (u.mantle.cure addr bytes.length))

/-- Every page of a range lies in a host-visible region whose mask grants PCIe BAR2 the right (R125). -/
def Units.mayBar2 (u : Units) (addr len : Nat) (write : Bool) : Bool :=
  u.mayAccess Ag.pcie addr len write &&
    (List.range ((addr + (len - 1)) / pageBytes - addr / pageBytes + 1)).all fun i => match u.regionAt ((addr / pageBytes + i) * pageBytes) with
      | some r => r.2.hostVisible
      | none => false

/-- A BAR2 access that the budget has let through (R125): a refused or poisoned read returns all ones. -/
def bar2Now (write : Bool) (addr len : Nat) (bytes ecc : List Nat) (m : Mem) (u : Units) : Mem × Units :=
  let n := if write then bytes.length else len
  let u := u.spend 12 (if write then 7 else 5) n
  if !(u.mayBar2 addr n write) then
    let u := u.deny Ag.pcie addr
    (m, if write then u else u.emit (.data addr false (List.replicate len 255)))
  else if write then (memPut m u addr bytes, u.setMantle (u.mantle.cure addr n))
  else
    let r := eccLines addr len ecc m u
    let v := r.2.count 0xA00128 (m.fromDram addr len)
    (r.1, if v.poisoned addr len then v.emit (.data addr true (List.replicate len 255)) else v.emit (.data addr false (m.bytesAt addr len)))

/-- The next line of the patrol scrub is read and corrected as R109 provides (R110). -/
def scrubNow (ecc : Nat) (m : Mem) (u : Units) : Mem × Units :=
  let line := u.mantle.scrubAt
  let lines := u.mantle.total * (pageBytes / 64)
  let next := if line + 1 < lines then line + 1 else 0
  eccFound m ((u.count 0xA00128 64).setMantle { u.mantle with scrubAt := next, scrubActive := decide (next ≠ 0) }) line ecc

/-- The answer to a request of a unit: its activity and resource instance, and a status. -/
def Units.budAnswer (u : Units) (x : BudWait) (status : Nat) : Units := u.emit (.bus 10 [x.act, x.inst, status])

/-- Put a request of an activity to the controller (R137, R139): shut out by a cap of 0, charged and carried out at once while the gate is open,
else it waits for the next boundary behind those that wait already. -/
def Units.letIn (u : Units) (x : BudWait) (m : Mem) (go : Mem → Units → Mem × Units) : Mem × Units :=
  if x.act ≠ 0 && capOf u.bud.cap x.act (resOf x.inst) = 0 then (m, u.budAnswer x St.BUDGET_DEFERRED)
  else if u.gate x.act x.inst && !(u.bud.waits.any fun w => w.act = x.act && w.inst = x.inst) then go m (u.spend x.act x.inst x.amount)
  else (m, { u with bud := { u.bud with waits := u.bud.waits ++ [x] } })

/-! Commands -/

/-- MANTLE_READ (R113, R109, R121, R124): an agent reads `len` bytes at a physical address for an activity; `ecc` is what the read of each
line finds. A refused read, a quiet page and a poisoned line give poison. -/
def mantleRead (act agent addr len : Nat) (ecc : List Nat) (m : Mem) (u : Units) : Mem × Units :=
  u.letIn { act := act, inst := 0, amount := len, what := .read agent addr len ecc } m (readNow agent addr len ecc)

/-- MANTLE_WRITE (R113, R121, R122, R124). -/
def mantleWrite (act agent addr tag ctxKey : Nat) (bytes : List Nat) (m : Mem) (u : Units) : Mem × Units :=
  u.letIn { act := act, inst := 0, amount := bytes.length, what := .write agent addr tag ctxKey bytes } m (writeNow agent addr tag ctxKey bytes)

/-- A front buffer line may be written back: its page is allocated to its region, and the region's generation equals its tag; in a job's region
the generation is that of the context which the line came from (R116, R122). -/
def Units.lineOk (u : Units) (l : FbLine) : Bool :=
  match u.regionAt (64 * l.line) with
  | some r => r.1 = l.region && (if l.key = 0 then r.2.gen = l.tag else NMap.find u.mantle.ctxTags l.key = some l.tag)
  | none => false

/-- Write the lines of one number back, or discard the stale ones (R116). -/
def writeBackLine (line : Nat) (m : Mem) (u : Units) : Mem × Units :=
  let mine := m.fb.filter fun l => l.line = line
  let bad := (mine.filter fun l => !(u.lineOk l)).length
  let good := sumL ((mine.filter fun l => u.lineOk l).map fun l => l.bytes.length)
  (m.writeBack line u.lineOk, (u.count 0xA00110 bad).count 0xA00130 good)

/-- FB_WRITEBACK (R116). -/
def fbWriteback (line : Nat) (m : Mem) (u : Units) : Mem × Units := writeBackLine line m u

/-- Lines that the unit staging partition of 16 MiB holds (R114). -/
abbrev stagingLines : Nat := 262144

/-- While the front buffer holds more lines than its unit staging partition, the oldest is written back (R114, R116): at most `n` of them. -/
def boundStaging : Nat → Mem × Units → Mem × Units
  | 0, a => a
  | n + 1, a =>
    if a.1.fb.length ≤ stagingLines then a
    else match a.1.fb.getLast? with
      | some l => boundStaging n (writeBackLine l.line a.1 a.2)
      | none => a

/-- BAR2_ACCESS (R125): a host access at a physical address. `bytes` is what a write carries, `ecc` what a read of each line finds. -/
def bar2Access (write : Bool) (addr len : Nat) (bytes ecc : List Nat) (m : Mem) (u : Units) : Mem × Units :=
  u.letIn { act := 12, inst := 0, amount := if write then bytes.length else len, what := .bar2 write addr len bytes ecc } m
    (bar2Now write addr len bytes ecc)

/-- The entries of a Flue ring not yet consumed: offset in the trace region and monotonic time. -/
def Flue.live (f : Flue) : List (Nat × Nat) :=
  (List.range f.q.length).map fun i => (f.base + 32 * ((f.cons + i) % max 1 (f.size / 32)), (f.q.getD i []).headD 0)

/-- Age of page `j` of the trace region: 0 with no entry in it, else 1 + the time of its oldest. -/
def Units.pageAge (u : Units) (j : Nat) : Nat :=
  u.chim.flue.foldl (fun a f => f.2.live.foldl (fun a e => if e.1 / pageBytes = j && (a = 0 || e.2 + 1 < a) then e.2 + 1 else a) a) 0

/-- Insert by key into a list in rising order. -/
def insertKey (x : Nat × Nat) : List (Nat × Nat) → List (Nat × Nat)
  | [] => [x]
  | y :: r => if x.1 ≤ y.1 then x :: y :: r else y :: insertKey x r

/-- The pages of the trace region, the oldest first (R119). -/
def Units.pagesByAge (u : Units) (n : Nat) : List Nat := ((List.range n).foldr (fun j l => insertKey (u.pageAge j, j) l) []).map (·.2)

/-- A ring of which pages `gone` are reclaimed (R495): its entries there are lost, it is shortened, and it lies at its new place among the pages
that are left. -/
def Flue.shorten (f : Flue) (gone : List Nat) (mono : Nat) : Flue :=
  let inRing := gone.map fun j => min (f.base + f.size) ((j + 1) * pageBytes) - max f.base (j * pageBytes)
  let before := (gone.filter fun j => (j + 1) * pageBytes ≤ f.base).length * pageBytes + sumL ((gone.filter fun j => j * pageBytes < f.base && f.base < (j + 1) * pageBytes).map fun j => f.base - j * pageBytes)
  let keep := (f.q.zip f.live).filter fun x => !(gone.contains (x.2.1 / pageBytes))
  let lost := f.q.length - keep.length
  { f with size := f.size - sumL inRing, base := f.base - before, q := keep.map (·.1), cons := wrapW 32 (f.prod + 2 ^ 32 - keep.length),
           lost := f.lost + lost, lostNow := f.lostNow + lost, lostAt := if f.lostNow = 0 && lost ≠ 0 then mono else f.lostAt }

/-- Shorten the trace region by its oldest pages toward the floor of 64 MiB (R119): rings that lose pages are shortened and
lose the entries in them; the next entry they write is a loss marker (R495). Their zeroing is charged to RELOAD. -/
def Units.reclaimTrace (u : Units) (need : Nat) : Units :=
  match u.mantle.regions.find? fun r => r.2.typ = 6 with
  | none => u
  | some (idx, r) =>
    let k := min need (r.pages.length - 32)
    if k = 0 then u
    else
      let gone := (u.pagesByAge r.pages.length).take k
      let x := u.mantle.quietPages u.bud.period 5 (gone.filterMap fun j => r.pages[j]?)
      let keep := ((List.range r.pages.length).filter fun j => !(gone.contains j)).filterMap fun j => r.pages[j]?
      { u.setMantle { x with regions := NMap.set x.regions idx { r with pages := keep } } with
        chim := { u.chim with flue := NMap.mapV u.chim.flue fun _ f => if f.enable || f.draining then f.shorten gone u.clk.mono else f } }

/-- Pages the trace region can give up (R119). -/
def Mantle.traceSpare (x : Mantle) : Nat :=
  match x.regions.find? fun r => r.2.typ = 6 with
  | some r => r.2.pages.length - 32
  | none => 0

/-- Pages on their way to the free pool: quiet, or being zeroed (R124). -/
def Mantle.coming (x : Mantle) : Nat := (x.pages.filter fun p => p.1 < x.total && (p.2.state = 2 || (p.2.state = 0 && !p.2.zeroed))).length

/-- An allocation for a recovery (R119): at once where it can be; else the trace region shrinks and the allocation waits for its pages, behind those that
wait already; with too few pages to come it fails and changes nothing. The region's index, or whether it waits. `why` says for whom it waits. -/
def Units.allocRecovery (u : Units) (r : Region) (bytes why : Nat) : Units × Option Nat × Bool :=
  let a := u.allocRegion r bytes
  match a.2 with
  | some idx => (a.1, some idx, false)
  | none =>
    let x := u.mantle
    let n := pagesFor bytes
    let ahead := sumL (x.waits.map (·.pages))
    if ahead + n ≤ x.freeCount + x.coming + x.traceSpare then
      let u := u.reclaimTrace (n - (x.freeCount - ahead))
      (u.setMantle { u.mantle with waits := u.mantle.waits ++ [{ region := r, pages := n, why := why }] }, none, true)
    else (u, none, false)

/-- MANTLE_REGION_ALLOCATE (R118, R119): a unit's allocation takes zeroed free pages or fails with MANTLE_FULL; one for a
recovery may wait. Only a host command makes a region host-visible (R125). The answer (status, index) goes back to the unit. -/
def mantleRegionAllocate (r : Region) (bytes : Nat) (recovery : Bool) (u : Units) : Units :=
  let r := { r with hostVisible := false }
  let a := if recovery then u.allocRecovery r bytes 0 else ((u.allocRegion r bytes).1, (u.allocRegion r bytes).2, false)
  match a.2.1 with
  | some idx => a.1.emit (.bus 8 [St.OK, idx])
  | none => if a.2.2 then a.1 else u.emit (.bus 8 [St.MANTLE_FULL, 0])

/-- MANTLE_QUIET_EXPIRY (R124): the quiet interval of a page ends and its zeroing begins. -/
def mantleQuietExpiry (page : Nat) (u : Units) : Units :=
  let p := u.mantle.page page
  if p.state = 2 then u.setMantle (u.mantle.setPage page { p with state := 0, zeroed := false }) else u

/-- A recovery's allocation has its pages: a unit's request is answered, another goes on with them. -/
def Units.came (u : Units) (why idx : Nat) : Units := if why = 0 then u.emit (.bus 8 [St.OK, idx]) else u.later (.pagesCame why idx)

/-- Serve the recovery allocations that wait, the longest first, while enough pages are zeroed (R119). -/
def Units.serveWaits : List MantleWait → Units → Units
  | [], u => u
  | w :: r, u =>
    let a := u.takePages w.region w.pages
    match a.2 with
    | some idx => Units.serveWaits r (({ a.1 with mantle := { a.1.mantle with waits := r } }).came w.why idx)
    | none => u

/-- Serve what waits. -/
def Units.serveWait (u : Units) : Units := Units.serveWaits u.mantle.waits u

/-- PAGE_ZERO_DONE (R124, R119): the page is zeroed and returns to the free pool, a waiting recovery allocation first. -/
def pageZeroDone (page : Nat) (m : Mem) (u : Units) : Mem × Units :=
  let p := u.mantle.page page
  if p.state = 0 && !p.zeroed then
    ({ dram := m.dram.clear (page * pageBytes) pageBytes, fb := m.fb.filter fun l => 64 * l.line / pageBytes ≠ page },
     (((u.spend p.act 0 pageBytes).count 0xA00130 pageBytes).setMantle (((u.mantle.fadePage p.region page).setPage page { p with zeroed := true, region := 0 }).cure (page * pageBytes) pageBytes)).serveWait)
  else (m, u)

/-- PATROL_SCRUB (R110): the next line is read and corrected, or waits for its activity's allowance. -/
def patrolScrub (ecc : Nat) (m : Mem) (u : Units) : Mem × Units :=
  u.letIn { act := 3, inst := 0, amount := 64, what := .scrub ecc } m (scrubNow ecc)

/-- STACK_UNRESPONSIVE (R112). -/
def stackUnresponsive (stack : Nat) (u : Units) : Units := u.stackFail stack

/-- FREE_PAGE_REPORT (R127). -/
def freePageReport (u : Units) : Units := u.reportFree

/-- MANTLE_ECC_CLR (R129): operator privilege; 1 clears MANTLE_ECC_ADDR, valid bit included. -/
def mantleEccClr (w : Who) (value : Nat) (u : Units) : Units :=
  if isOperator w.priv && bitAt value 0 then u.setMantle { u.mantle with eccAddr := 0 } else u

/-- MANTLE_FREE (0x0402, R124, R126): a general region's pages go quiet. -/
def mantleFree (c : Cmd) (region : Nat) (u : Units) : Units :=
  u.operator c 0xA0 0x0402 fun u =>
    match NMap.find u.mantle.regions region with
    | some r => if r.typ = 8 then (u.freeRegion region).done c 0xA0 0x0402 St.OK else u.done c 0xA0 0x0402 St.BAD_PARAM
    | none => u.done c 0xA0 0x0402 St.BAD_PARAM

/-- MANTLE_SET_ACCESS (0x0403, R126): a general region's mask and host visibility, for accesses accepted afterwards. -/
def mantleSetAccess (c : Cmd) (region mask : Nat) (hostVisible : Bool) (u : Units) : Units :=
  u.operator c 0xA0 0x0403 fun u =>
    match NMap.find u.mantle.regions region with
    | some r =>
      if r.typ = 8 && mask < 2 ^ 20 then
        (u.setMantle { u.mantle with regions := NMap.set u.mantle.regions region { r with mask := mask, hostVisible := hostVisible } }).done c
          0xA0 0x0403 St.OK
      else u.done c 0xA0 0x0403 St.BAD_PARAM
    | none => u.done c 0xA0 0x0403 St.BAD_PARAM

/-- An owner whose generation changes (R123): kind 0 a context of a CID, 1 an accelerator CID, 2 this T3's epoch. -/
def Region.owned (r : Region) (kind cid ctx : Nat) : Bool :=
  kind ≠ 3 && r.ownerKind = kind && (kind = 2 || (r.ownerCid = cid && (kind = 1 || r.ownerCtx = ctx)))

/-- The Mantle writes a new tag into every region of an owner, and discards the front buffer lines of the old tag, those of a context in a job's
regions among them (R122, R123). Kind 3 names the contexts of a position at another T3, whose new Generation its route entry brings (R51). -/
def generationBump (kind cid ctx gen : Nat) (m : Mem) (u : Units) : Mem × Units :=
  let mine := fun (i : Nat) => match NMap.find u.mantle.regions i with | some r => r.owned kind cid ctx | none => false
  let named := fun (key : Nat) => (kind = 0 && key % 2 ^ 32 = cid * 256 + ctx) || (kind = 3 && key % 2 ^ 32 / 256 = cid)
  let gone := fun (l : FbLine) =>
    (mine l.region || (l.key ≠ 0 && named l.key)) && l.tag ≠ gen
  let n := (m.fb.filter gone).length
  let x := { u.mantle with
    regions := NMap.mapV u.mantle.regions fun _ r => if r.owned kind cid ctx then { r with gen := gen } else r
    ctxTags := NMap.mapV u.mantle.ctxTags fun k t => if named k then gen else t }
  (m.discard gone, (u.setMantle x).count 0xA00110 n)

/-- The tag of a context in the job regions that hold its writes (R122). -/
def Units.setCtxTag (u : Units) (job cid ctx gen : Nat) : Units :=
  u.setMantle { u.mantle with ctxTags := NMap.set u.mantle.ctxTags (job * 2 ^ 32 + cid * 256 + ctx) gen }

end Sys2Proof.Machine
end

