-- ==== Sys2Proof/Machine/BudgetOps.lean ====
section
/-!
DEFINITION. The budget controller (06_handshake_timing_and_budgets): staging and applying, periods and sub-slots, requests,
power and temperature.
-/
namespace Sys2Proof.Machine

/-- Store the budget controller. -/
def Units.setBud (u : Units) (b : Budget) : Units := { u with bud := b }

/-- R137: on each of resources 0-5 the guarantees sum to at most 1,024, and no cap is below its guarantee. -/
def stagingValid (g c : NMap Nat) : Bool :=
  ((List.range 6).all fun r => sumL ((List.range 16).map fun a => guarOf g a r) ≤ 1024) &&
  ((List.range 16).all fun a => (List.range 7).all fun r => guarOf g a r ≤ capOf c a r)

/-- A write of BUDGET_ACT(a, r) changes the staging copy (R138). -/
def Units.stageAct (u : Units) (a r value : Nat) : Units :=
  let i := 8 * a + r
  u.setBud { u.bud with sGuar := NMap.set u.bud.sGuar i (bits value 10 0), sCap := NMap.set u.bud.sCap i (bits value 26 16) }

/-- BUDGET_APPLY (R138): APPLY checks the whole staging copy against R137. -/
def budgetApply (w : Who) (value : Nat) (u : Units) : Units :=
  if !(isOperator w.priv) || !(bitAt value 0) then u
  else if stagingValid u.bud.sGuar u.bud.sCap then u.setBud { u.bud with pend := some (u.bud.sGuar, u.bud.sCap), last := St.OK }
  else u.setBud { u.bud with last := St.BAD_PARAM }

/-- A new package cap (R28, R138, R142): the ceiling is the cap unless R143 has lowered it. -/
def Budget.setCapW (b : Budget) (w : Nat) : Budget :=
  if 150 ≤ w ∧ w ≤ 280 then
    { b with capW := w, ceilW := if b.ceilW < b.capW then min b.ceilW w else w, last := St.OK }
  else { b with last := St.BAD_PARAM }

/-- BUDGET_PKG_CAP_WRITE (R138): an operator write of CAP_W, range-checked; it stands until the warden's next write. -/
def budgetPkgCapWrite (w : Who) (value : Nat) (u : Units) : Units :=
  if isOperator w.priv then u.setBud (u.bud.setCapW (bits value 8 0)) else u

/-! Capacity (Table 6-2) -/

/-- The instances of the seven resources: one per direction of a port and of PCIe. -/
def instances : List Nat :=
  [0, 3, 4, 5, 7] ++ (List.range 16).map (· + 16) ++ (List.range 6).map (· + 32) ++ (List.range 16).map (· + 48) ++ (List.range 6).map (· + 64) ++ [6]

/-- The port of an instance of SCONCE or LANTERN. -/
def instPort (inst : Nat) : Nat := if inst < 32 then inst - 16 else if inst < 48 then inst - 16 else if inst < 64 then inst - 48 else inst - 48

/-- The TLC program rate of Table 20-2 by die count, MB/s: the dies, a word line of 192 KiB per 2.0 ms each, at most 4.8 GB/s; the table's own figures for its rows. -/
def tlcRate (dies : Nat) : Nat :=
  if dies = 8 then 780 else if dies = 16 then 1570 else if dies = 32 then 3140 else min 4800 (98304 * dies / 1000)

/-- Dies populated (R465). -/
def Tallow.dieCount (t : Tallow) : Nat := ((List.range 8).filter fun c => Nat.testBit t.channels c).length * t.dies

/-- Beats a partition gives its tapers in a period (R131, R132): the rate taken at the boundary, under the pace now in force, over the usable tapers
taken then, less those that have left since (R170). -/
def Units.partBeats (u : Units) (p : Nat) : Nat :=
  let pace := u.cfg 0xE00014 0
  let r := u.bud.ratesP.getD p 0
  100 * (if pace = 0 then r else min pace r) * min (u.bud.usable.getD p 0) (u.bud.usableP.getD p 0)

/-- The POWER capacity in units of 0.25 W (R142): none while PWR_FAIL holds it (R538). -/
def Units.powerCap (u : Units) : Nat :=
  let b := u.bud
  if u.pwr.hold then 0 else 4 * ((b.ceilW - b.baseW) - b.excess)

/-- Capacity of an instance for a period (Table 6-2), as it stands: bytes for MANTLE, the links and PCIe, 1/40 byte for TALLOW (R467),
taper-beats for GRID, units of 0.25 W for POWER. A lane carries 23.5 GB/s (Table 4-9), a stack 1.2 TB/s (R108). -/
def Units.capacity (u : Units) (inst : Nat) : Nat :=
  if inst = 0 then u.mantle.stks * 120000000
  else if inst = 3 then sumL ((List.range 8).map fun p => u.partBeats p)
  else if inst = 4 then if u.tal.mounted then tlcRate u.tal.dieCount * 100 * 40 else 0
  else if inst = 5 || inst = 7 then u.bud.pcieBytes
  else if inst = 6 then u.powerCap
  else (u.port (instPort inst)).lanes * 2350000

/-- What one sub-slot of 10 us gets now: a tenth of a period's, but all of the power, in pJ (R139, R142). -/
def Units.slotCap (u : Units) (inst : Nat) : Nat := if inst = 6 then quarterW * u.powerCap else u.capacity inst / 10

/-- A guarantee in a sub-slot: in 1/1,024 of the capacity taken at the period boundary, in 0.25 W on POWER (R137). -/
def Budget.share (b : Budget) (a inst : Nat) : Nat :=
  if inst = 6 then quarterW * guarOf b.guar a 6 else NMap.getD b.taken inst 0 / 10 * guarOf b.guar a (resOf inst) / 1024

/-! Tallow's charges (R467) -/

/-- Activity of an operation of a Tallow region: the map's journal COMMIT, the ledger LEDGER, the log EXPORT_OBS (21), snapshots SNAPSHOT; a raw
command HOST. -/
def NandOp.act (o : NandOp) : Nat :=
  if o.why = 2 then 12 else if o.region = 0 then 1 else if o.region = 1 then 2 else if o.region = 2 then 15 else 9

/-- Pages of one program unit: a pSLC unit of 64 KiB, a TLC word line of 192 KiB (R469). -/
def unitPages (region : Nat) : Nat := if region = 3 then 12 else 4

/-- The block of an operation holds TLC; one that the table does not list as its region does. -/
def Tallow.inTlc (t : Tallow) (o : NandOp) : Bool :=
  match NMap.find t.blocks (o.place.die * 2 ^ 32 + o.place.block) with
  | some b => b.tlc
  | none => decide (o.region = 3)

/-- Charge of an operation in 1/40 byte (R467): a TLC byte programmed 1, a pSLC byte 0.6, a byte read 0.125; each copy of a mirrored byte is an
operation of its own. -/
def Tallow.opCost (t : Tallow) (o : NandOp) : Nat :=
  if o.kind = 0 then 16384 * max 1 o.pages * (if t.inTlc o then 40 else 24)
  else if o.kind = 1 then 16384 * (if o.why = 2 then 1 else unitPages o.region) * 5
  else 0

/-! Demand -/

/-- Amounts of the waiting requests of an activity on an instance. -/
def waitsOf (w : List BudWait) (a inst : Nat) : Nat := sumL ((w.filter fun x => x.act = a && x.inst = inst).map (·.amount))

/-- Slots of an activity whose tapers issue (R170: a draining program completes what it accepted). -/
def Units.progsOf (u : Units) (a : Nat) : List PSlot :=
  (u.grid.slots.filter fun s => s.2.activity = a && (s.2.state = 3 || s.2.state = 6)).map (·.2)

/-- Taper-beats that an activity's programs could use in a sub-slot: those of every taper of theirs that neither stopped nor waits. -/
def Units.gridDemand (u : Units) (a : Nat) : Nat :=
  sumL ((u.progsOf a).flatMap fun s => s.place.map fun l =>
    let t := NMap.getD u.grid.tapers l Taper.reset
    if t.stopped || t.wait.isSome then 0 else 10 * u.bud.ratesP.getD (l / 64) 0)

/-- Bytes of a busy stream channel not yet moved (Table 7-5). -/
def Chan.left (c : Chan) : Nat := if c.state = 1 then fieldAt c.desc 12 4 * (fieldAt c.desc 16 4 - c.rows) else 0

/-- Bytes that the busy stream channels of an activity's programs still move. -/
def Units.streamDemand (u : Units) (a : Nat) : Nat :=
  sumL (((u.grid.slots.filter fun s => s.2.activity = a).map (·.2)).flatMap fun s => s.place.flatMap fun l => (NMap.vals (NMap.getD u.grid.tapers l Taper.reset).chan).map Chan.left)

/-- Demand of an activity on an instance other than POWER: requests that wait, messages queued at a port, what its programs could issue and stream,
and Tallow operations held back. -/
def Units.demandAt (u : Units) (a inst : Nat) : Nat :=
  let w := waitsOf u.bud.waits a inst
  if inst = 0 then w + u.streamDemand a
  else if inst = 3 then w + u.gridDemand a
  else if inst = 4 then w + sumL ((u.tal.held.filter fun o => o.act = a).map u.tal.opCost)
  else if 16 ≤ inst && inst < 48 then w + sumL (((u.port (instPort inst)).txq.filter fun m => m.act = a).map fun m => m.bytes - m.sent)
  else if 48 ≤ inst then w + sumL (if a = 7 then (u.port (instPort inst)).rxBuf.map List.length else [])
  else w

/-- Demand of an activity on an instance; on POWER the requests that wait and the energy of what it demands elsewhere, as far as those capacities
reach (R142). -/
def Units.demand (u : Units) (a inst : Nat) : Nat :=
  if inst = 6 then
    waitsOf u.bud.waits a 6 + sumL ((instances.filter (· ≠ 6)).map fun i => u.bud.energy (resOf i) (min (u.demandAt a i) (NMap.getD u.bud.slotCaps i 0)))
  else u.demandAt a inst

/-! Sub-slots (R139-R141) -/

/-- Serve waiting requests of an activity in order from what it received; what is left of a request waits (R139, R140: none
is dropped or reordered). What waits after, and what is served whole. -/
def serve : List BudWait → Nat → Nat → Nat → List BudWait × List BudWait
  | [], _, _, _ => ([], [])
  | x :: r, a, inst, n =>
    if x.act = a ∧ x.inst = inst then
      if x.amount ≤ n then let t := serve r a inst (n - x.amount); (t.1, x :: t.2)
      else let t := serve r a inst 0; ({ x with amount := x.amount - n } :: t.1, t.2)
    else let t := serve r a inst n; (x :: t.1, t.2)

/-- Activities whose guarantees are lent because the unit that owns them drains (R144): the Wick's, Flicker's and Ember's. -/
def Units.isLent (u : Units) (a : Nat) : Bool :=
  u.drains.any fun d => (d.unit = 0x0D && a = 10) || (d.unit = 0x0E && a = 11) || (d.unit = 0x06 && 7 ≤ a && a ≤ 9)

/-- The two passes of R139 on one instance, in class and rank order, which is the order of the IDs of Table 6-3: what each
activity receives, and what neither pass gave. SAFETY has no budget (R136) and comes first. -/
def Units.passes (u : Units) (inst : Nat) : List (Nat × Nat) × Nat :=
  let one := fun (st : List (Nat × Nat) × Nat) (a : Nat) =>
    let d := u.demand a inst
    let g := if a = 0 then d else if u.isLent a then 0 else min d (u.bud.share a inst)
    let x := min g st.2
    (st.1 ++ [(a, x)], st.2 - x)
  let p1 := (List.range 16).foldl one ([], NMap.getD u.bud.slotCaps inst 0)
  let two := fun (st : List (Nat × Nat) × Nat) (y : Nat × Nat) =>
    let d := u.demand y.1 inst
    let lim := if y.1 = 0 then d else u.bud.most y.1 inst
    let more := min (min (d - y.2) (lim - y.2)) st.2
    (st.1 ++ [(y.1, y.2 + more)], st.2 - more)
  p1.1.foldl two ([], p1.2)

/-- GUARANTEE_YIELD of an activity short of its guarantee (R141, Table 6-4): the winner is SAFETY when the power ceiling was
lowered, else the best activity served, else the activity itself; recorded at the first short sub-slot and then at most
once per second with the shortfall of the first sub-slot it covers and their number. A sub-slot counts once, however many instances it is short
on. -/
def Units.yielded (u : Units) (inst a short : Nat) (given : List (Nat × Nat)) : Units :=
  let b := u.bud
  let r := resOf inst
  let best := (given.find? fun g => g.2 ≠ 0).map (·.1)
  let win := if r = 6 && (b.ceilW < b.capW || b.excess ≠ 0 || u.pwr.hold) then 0 else best.getD a
  let cls := if win = 0 then 1 else if win ≤ 3 then 2 else if win ≤ 10 then 3 else if win ≤ 13 then 4 else 5
  let i := 8 * a + r
  let n := NMap.getD b.short i 0 + b2n (!(b.shortNow.contains (a, r)))
  let due := match NMap.find b.lastEv i with | none => true | some t => t + 10 ^ 9 ≤ u.clk.mono
  let cap := NMap.getD b.taken inst 0 / 10
  let units := if inst = 6 then short / quarterW else if cap = 0 then 0 else short * 1024 / cap
  let first := match NMap.find b.shortBy i with | some x => x | none => units
  let b := { b with
    yields := if b.shortNow.any fun x => x.1 = a then b.yields else NMap.set b.yields a (satW 16 (NMap.getD b.yields a 0 + 1))
    shortNow := (a, r) :: b.shortNow
    lastWin := if due then NMap.set b.lastWin a win else b.lastWin
    lastRes := if due then NMap.set b.lastRes a r else b.lastRes
    short := NMap.set b.short i (if due then 0 else n)
    shortBy := if due then NMap.del b.shortBy i else NMap.set b.shortBy i first
    lastEv := if due then NMap.set b.lastEv i u.clk.mono else b.lastEv }
  let u := u.setBud b
  if due then
    u.raise Ev.GUARANTEE_YIELD 2 0xF0
      (payloadOf [(0, 1, a), (1, 1, win), (2, 1, r), (3, 1, cls), (4, 2, satW 16 first), (6, 2, satW 16 n)])
  else u

/-- One instance's allowances of a sub-slot, with the yields of R141; what is served whole of the requests that waited is carried out after. -/
def Units.slotInst (u : Units) (inst : Nat) : Units :=
  let p := u.passes inst
  let w := p.1.foldl (fun (w : List BudWait × List BudWait) g => let t := serve w.1 g.1 inst g.2; (t.1, w.2 ++ t.2)) (u.bud.waits, [])
  let got := p.1.foldl (fun t g => NMap.put t 0 (128 * g.1 + inst) g.2) u.bud.got
  let short := p.1.filterMap fun g =>
    let need := min (u.demand g.1 inst) (u.bud.share g.1 inst)
    if g.1 ≠ 0 && !(u.isLent g.1) && g.2 < need then some (g.1, need - g.2) else none
  let part := fun (g : Nat × Nat) => waitsOf u.bud.waits g.1 inst - waitsOf (w.1 ++ w.2) g.1 inst
  let spent := p.1.foldl (fun t g => NMap.put t 0 (128 * g.1 + inst) (part g)) u.bud.spent
  let u := u.setBud { u.bud with waits := w.1, got := got, spent := spent, spare := NMap.put u.bud.spare 0 inst p.2 }
  let u := w.2.foldl (fun u x => u.later (.served x)) u
  short.foldl (fun u s => u.yielded inst s.1 s.2 p.1) u

/-- BUDGET_SUB_SLOT (R139-R141): the capacities of the sub-slot are taken, every instance's allowances given, POWER's last; then what waited on them
goes on. -/
def budgetSubSlot (u : Units) : Units :=
  let u := u.setBud { u.bud with slot := (u.bud.slot + 1) % 10, got := [], spent := [], spare := [], shortNow := [],
                                 slotCaps := instances.foldl (fun t i => NMap.put t 0 i (u.slotCap i)) [] }
  (instances.foldl (fun u i => u.slotInst i) u).later .slotOpen

/-- A cap of 0 shuts an activity out of the resource: its requests complete with BUDGET_DEFERRED (R137). -/
def Units.shutOut (u : Units) : Units :=
  let out := fun (x : BudWait) => decide (x.act ≠ 0) && capOf u.bud.cap x.act (resOf x.inst) == 0
  (u.bud.waits.filter out).foldl (fun u x => u.budAnswer x St.BUDGET_DEFERRED)
    (u.setBud { u.bud with waits := u.bud.waits.filter fun x => !(out x) })

/-- PCIe bytes of a period in one direction (Table 6-2): 31.5 GB/s at 32 GT/s (`rate` in 0.1 GT/s) and 8 lanes, in proportion as the link is trained. -/
def pciePeriod (rate width : Nat) : Nat := 3150000 * rate * width / 2560

/-- The capacities are taken (R135): beat rates, usable tapers and what PCIe carries as trained. -/
def Units.takeCapacity (u : Units) (rate width : Nat) : Units :=
  let u := u.setBud { u.bud with ratesP := u.bud.rates, usableP := u.bud.usable, pcieBytes := pciePeriod rate width }
  u.setBud { u.bud with taken := instances.foldl (fun t i => NMap.put t 0 i (u.capacity i)) [] }

/-- BUDGET_PERIOD_BOUNDARY (R135, R138): the period number rises, the capacities are taken, and a pending copy takes effect. -/
def budgetPeriodBoundary (rate width : Nat) (u : Units) : Units :=
  let u : Units := { u with pwr := { u.pwr with hold := u.pwr.fail } }
  let u := (u.setBud { u.bud with period := wrapW 32 (u.bud.period + 1), slot := 0 }).takeCapacity rate width
  match u.bud.pend with
  | some p => (u.setBud { u.bud with guar := p.1, cap := p.2, pend := none }).shutOut
  | none => u

/-- SAFETY takes what it needs ahead of every allowance (R136): first from what neither pass gave, then from what the others have not spent, the lowest
class and highest rank first. -/
def Budget.safety (b : Budget) (inst n : Nat) : Budget :=
  let take := fun (st : Budget × Nat) (a : Nat) =>
    let x := min st.2 (st.1.gotOf a inst - st.1.spentOf a inst)
    ({ st.1 with got := NMap.put st.1.got 0 (128 * a + inst) (st.1.gotOf a inst - x) }, st.2 - x)
  let sp := NMap.getD b.spare inst 0
  let b := { b with spare := NMap.put b.spare 0 inst (sp - n), spent := NMap.put b.spent 0 inst (b.spentOf 0 inst + n) }
  (((List.range 15).map fun i => 15 - i).foldl take (b, n - sp)).1

/-- A request of a sub-slot's middle can be served whole: from its activity's unspent allowance, and beyond it from what neither pass gave, up to its
cap (R139). -/
def Budget.serves (b : Budget) (a inst n : Nat) : Bool :=
  let own := b.gotOf a inst - b.spentOf a inst
  decide (n ≤ own + min (NMap.getD b.spare inst 0) (b.most a inst - b.spentOf a inst - own))

/-- BUDGET_REQUEST (R136, R137, R139): a cap of 0 completes the request with BUDGET_DEFERRED; SAFETY takes what it needs; other
requests are served from their activity's unspent allowance and the capacity no pass gave, else they wait for the next boundary. -/
def budgetRequest (act inst amount : Nat) (u : Units) : Units :=
  let b := u.bud
  let x : BudWait := { act := act, inst := inst, amount := amount, what := .req }
  if act = 0 then (u.setBud (b.safety inst amount)).budAnswer x St.OK
  else if capOf b.cap act (resOf inst) = 0 then u.budAnswer x St.BUDGET_DEFERRED
  else if b.serves act inst amount then (u.spend act inst amount).budAnswer x St.OK
  else u.setBud { b with waits := b.waits ++ [x] }

/-- Carry out a request that a boundary has served (R139): what it took is charged. -/
def served (x : BudWait) (m : Mem) (u : Units) : Mem × Units :=
  let u := u.spend x.act x.inst x.amount
  match x.what with
  | .req => (m, u.budAnswer x St.OK)
  | .read agent addr len ecc => readNow agent addr len ecc m u
  | .write agent addr tag key bytes => writeNow agent addr tag key bytes m u
  | .scrub ecc => scrubNow ecc m u
  | .bar2 write addr len bytes ecc => bar2Now write addr len bytes ecc m u

/-- POWER_INTERVAL (R142): each 1 ms the measured and baseline power are taken, the weights scale by measured over estimated,
and an excess over the ceiling lowers the POWER capacity of the next interval. -/
def powerInterval (measured base estimated : Nat) (u : Units) : Units :=
  u.setBud { u.bud with measW := measured, baseW := base, scaleNum := measured, scaleDen := max 1 estimated,
                        excess := measured - u.bud.ceilW }

/-- BUDGET_THERM fields (reset 100 °C, 5 W). -/
def Units.throttleC (u : Units) : Nat := bits (u.cfg 0xF0000C (5 * 256 + 100)) 7 0
def Units.stepDownW (u : Units) : Nat := bits (u.cfg 0xF0000C (5 * 256 + 100)) 15 8

/-- THERMAL_CEILING_STEP (R143): at a 1 ms boundary the ceiling steps down while Tj is at or above THROTTLE_C, never below
60 W; at a 10 ms boundary (`ten`) it rises by 1 W while Tj is more than 2 °C below, up to the package cap. -/
def thermalCeilingStep (tj : Int) (ten : Bool) (u : Units) : Units :=
  let b := u.bud
  let t : Int := u.throttleC
  let ceil := if t ≤ tj then max 60 (b.ceilW - u.stepDownW) else if ten && tj < t - 2 then min b.capW (b.ceilW + 1) else b.ceilW
  u.setBud { b with tjMax := tj, ceilW := ceil, ceilingFloor := decide (t ≤ tj) && ceil == 60 }

end Sys2Proof.Machine
end

