-- ==== Sys2Proof/Machine/Tallow.lean ====
section
/-!
DEFINITION. Tallow (20): writes and their read-back, the erased-state check, the journal and checkpoints, mount, garbage collection, wear.
NAND operations leave as bus 22 (kind, die, block, page); what a unit is told of its write as bus 23 (owner, region, chunk, status).
-/
namespace Sys2Proof.Machine

/-- Change Tallow. -/
def Units.upT (u : Units) (f : Tallow → Tallow) : Units := { u with tal := f u.tal }

/-- A Tallow event. -/
def Units.talEvent (u : Units) (code : Nat) (args : List Nat := []) : Units :=
  u.raise code 2 0x0B0 (if args.isEmpty then 0 else Config.eventPayload code args)

/-! Geometry and tables -/

def blkKey (die block : Nat) : Nat := die * 2 ^ 32 + block
def chunkKey (region chunk : Nat) : Nat := region * 2 ^ 32 + chunk

/-- Regions 0 and 1 are mirrored, region 3 is TLC (Table 20-3). -/
def mirrored (region : Nat) : Bool := region ≤ 1

/-- The dies declared (R465): 8 × channel + die within the channel. -/
def Tallow.dieList (t : Tallow) : List Nat :=
  ((List.range 8).filter fun c => Nat.testBit t.channels c).flatMap fun c => (List.range t.dies).map fun d => 8 * c + d

def Tallow.blk (t : Tallow) (die block : Nat) : Option TBlock := NMap.find t.blocks (blkKey die block)

def Units.upBlk (u : Units) (die block : Nat) (f : TBlock → TBlock) : Units :=
  u.upT fun t => { t with blocks := NMap.upd t.blocks (blkKey die block) f }

/-- Mask of `n` pages from page `p`. -/
def pageMask (p n : Nat) : Nat := (2 ^ n - 1) * 2 ^ p

/-- Pages a write of `bytes` takes: whole units, the last one padded (R469). -/
def writePages (region bytes : Nat) : Nat := let p := unitPages region; p * max 1 ((bytes + 16384 * p - 1) / (16384 * p))

/-- Chunks of a region holding data (TALLOW_REGION). -/
def Tallow.used (t : Tallow) (region : Nat) : Nat := (t.map.filter fun m => m.1 / 2 ^ 32 = region && !m.2.isEmpty).length

/-- The block holds mapped chunks. -/
def Tallow.mappedIn (t : Tallow) (die block : Nat) : Bool := t.map.any fun m => m.2.any fun p => p.die = die && p.block = block

/-! Wear (R476, R477) -/

/-- Mean erase count of the blocks of one mode. -/
def Tallow.meanErase (t : Tallow) (tlc : Bool) : Nat :=
  let l := (NMap.vals t.blocks).filter fun b => b.tlc = tlc
  if l.isEmpty then 0 else sumL (l.map (·.erases)) / l.length

/-- Table 20-7. -/
def Tallow.wearNow (t : Tallow) : Nat :=
  let at_ := fun (k : Nat) => (t.rated.1 ≠ 0 && k * t.rated.1 ≤ 100 * t.meanErase false) || (t.rated.2 ≠ 0 && k * t.rated.2 ≤ 100 * t.meanErase true)
  if 10 * t.spare < t.spareAt || at_ 100 then 2 else if 2 * t.spare < t.spareAt || at_ 80 then 1 else 0

/-- The wear state follows its table; each state entered raises its alarm. -/
def Units.wearCheck (u : Units) : Units :=
  let n := max u.tal.wear u.tal.wearNow
  if n = u.tal.wear then u
  else
    let u := u.upT fun t => { t with wear := n }
    u.talEvent (if n = 2 then Ev.TALLOW_READ_ONLY else Ev.TALLOW_WORN)

/-! NAND operations (R471, R475) -/

/-- Issue an operation (R471): a program clears the erase bits of its pages; the bytes are charged (R467). -/
def Units.nandGo (u : Units) (o : NandOp) : Units :=
  let u := (u.spend o.act 4 (u.tal.opCost o)).upT fun t =>
    { t with
      ops := t.ops ++ [o]
      erased := if o.kind = 0 then NMap.updD t.erased 0 (blkKey o.place.die o.place.block) fun w => andNot w (w &&& pageMask o.place.page o.pages)
                else t.erased }
  u.emit (.bus 22 [o.kind, o.place.die, o.place.block, o.place.page])

/-- Issue an operation, or hold it back: while PWR_FAIL is asserted (R475), or while its activity's allowance is spent (R139). -/
def Units.nandIssue (u : Units) (o : NandOp) (pages : Nat) : Units :=
  let o := { o with pages := pages }
  if u.tal.pwrFail || !(u.gate o.act 4) then u.upT fun t => { t with held := t.held ++ [o] } else u.nandGo o

/-- Issue the operations held back, in order, as far as their activities' gates are open (R139). -/
def Units.nandRelease (u : Units) : Units :=
  if u.tal.pwrFail then u
  else
    let l := u.tal.held
    l.foldl (fun u o => if u.gate o.act 4 then u.nandGo o else u.upT fun t => { t with held := t.held ++ [o] }) (u.upT fun t => { t with held := [] })

/-- A program whose pages are not all erased is rejected (R471). -/
def Units.notErased (u : Units) (p : Place) : Units :=
  ((u.upT fun t => { t with last := St.TALLOW_NOT_ERASED }).count 0xB00120).talEvent Ev.TALLOW_NOT_ERASED [p.die, p.block, p.page]

def Tallow.isErased (t : Tallow) (p : Place) (pages : Nat) : Bool :=
  let m := pageMask p.page pages
  NMap.getD t.erased (blkKey p.die p.block) 0 &&& m = m

/-! Places -/

/-- Of the free erased blocks of a mode, the one with the lowest erase count that is not on channel `avoid` (R476). -/
def Tallow.pick (t : Tallow) (tlc : Bool) (avoid : Option Nat) : Option (Nat × TBlock) :=
  t.blocks.foldl (fun (o : Option (Nat × TBlock)) b =>
    if b.2.state ≠ 0 || b.2.tlc ≠ tlc || (match avoid with | some c => decide (b.1 / 2 ^ 32 / 8 = c) | none => false) then o
    else match o with
      | some x => if b.2.erases < x.2.erases then some b else o
      | none => some b) none

/-- A place for `pages` pages of a copy of a region; an open block without room is closed. -/
def Units.place (u : Units) (region copy pages : Nat) (avoid : Option Nat) : Units × Option Place :=
  let key := 2 * region + copy
  let cur := (NMap.find u.tal.open_ key).bind fun x => (u.tal.blk x.1 x.2).map fun b => (x.1, x.2, b)
  let fresh := fun (u : Units) =>
    match u.tal.pick (region = 3) avoid with
    | none => (u, none)
    | some (k, _) =>
      let d := k / 2 ^ 32
      let b := k % 2 ^ 32
      ((u.upBlk d b fun x => { x with state := 1, wp := pages }).upT fun t => { t with open_ := NMap.set t.open_ key (d, b) },
       some { die := d, block := b, page := 0 })
  match cur with
  | none => fresh u
  | some (d, b, x) =>
    if x.state = 1 && x.wp + pages ≤ u.tal.pagesPer && avoid ≠ some (d / 8) then
      (u.upBlk d b fun y => { y with wp := y.wp + pages }, some { die := d, block := b, page := x.wp })
    else fresh (u.upBlk d b fun y => { y with state := if y.state = 1 then 2 else y.state })

/-- What becomes of the oldest log unit handed over (R486): durable, its entries leave the log for the events region, which overwrites its oldest
unit when it is full; else the entries are handed over again. -/
def Units.logTold (u : Units) (ok : Bool) : Units :=
  let c := u.chim
  match c.units with
  | [] => u
  | s :: r =>
    if !ok then { u with chim := { c with units := [], unitSeq := 0 } }
    else
      let ends := c.ends ++ [s]
      let full := decide (4 * u.tal.sizes.getD 2 0 < ends.length)
      let first := if full then ends.headD 0 else 0
      { u with chim := { c with
          units := r, ends := if full then ends.drop 1 else ends, log := c.log.filter (fun e => s < e.seq),
          stored := (c.stored ++ c.log.filter (fun e => e.seq ≤ s)).filter fun e => first < e.seq } }

/-- Tell the unit that asked for a write (R470). -/
def Units.tellOwner (u : Units) (owner region chunk status : Nat) : Units :=
  if owner = 0 then u
  else
    let u := u.emit (.bus 23 [owner, region, chunk, status])
    if owner = 2 && region = 2 then u.logTold (decide (status = St.OK)) else u

/-- Places for the copies of a unit: two on different channels where mirrored. -/
def Units.places (u : Units) (region pages : Nat) : Units × List Place :=
  let a := u.place region 0 pages none
  match a.2 with
  | none => (a.1, [])
  | some p =>
    if !(mirrored region) then (a.1, [p])
    else
      let b := a.1.place region 1 pages (some (p.die / 8))
      match b.2 with
      | none => (b.1, [])
      | some q => (b.1, [p, q])

/-- Places for a write: a copy made by garbage collection takes one, away from the chunk's other copy (R468, R474). -/
def Units.writePlaces (u : Units) (w : TWrite) : Units × List Place :=
  match if w.kind = 1 then u.tal.gc.bind (·.todo.head?) else none with
  | none => u.places w.region w.pages
  | some (r, c, p) =>
    let all := NMap.getD u.tal.map (chunkKey r c) []
    let a := u.place w.region (if all.headD p = p then 0 else 1) w.pages ((all.find? fun q => q ≠ p).map fun q => q.die / 8)
    (a.1, a.2.toList)

/-- Program the copies of a write at fresh places. Garbage collection that finds none ends. -/
def Units.program (u : Units) (w : TWrite) : Units :=
  let r := u.writePlaces w
  let u := r.1
  if r.2.isEmpty then
    let u := u.upT fun t =>
      { t with writes := t.writes.filter (fun x => x.id ≠ w.id), last := St.TALLOW_READ_ONLY, gc := if w.kind = 1 then none else t.gc }
    u.tellOwner w.owner w.region w.chunk St.TALLOW_READ_ONLY
  else
    let n := u.tal.seq + r.2.length
    let w := { w with seq := n, copies := r.2.map fun p => { place := p, state := 0 } }
    let u := u.upT fun t => { t with seq := n, writes := t.writes.filter (fun x => x.id ≠ w.id) ++ [w] }
    r.2.foldl (fun u p =>
      if u.tal.isErased p w.pages then u.nandIssue { kind := 0, place := p, why := 0, ref := w.id, region := w.region, cmd := none, addr := 0 } w.pages
      else u.notErased p) u

/-- Begin a write. -/
def Units.startWrite (u : Units) (kind region chunk pages owner : Nat) (entries : List JEntry) (cmds : List (Nat × Sys2Proof.Cmd)) : Units :=
  let w : TWrite :=
    { id := u.tal.nextId, kind := kind, region := region, chunk := chunk, pages := pages, seq := 0, owner := owner, copies := [], entries := entries,
      after := [], cmds := cmds }
  (u.upT fun t => { t with nextId := t.nextId + 1 }).program w

/-- Journal a change (R472): its entries in one pSLC unit. -/
def Units.journal (u : Units) (entries : List JEntry) (owner region chunk : Nat) : Units :=
  (u.startWrite 2 0 chunk 4 owner entries []).upT fun t =>
    { t with writes := t.writes.map fun w => if w.id + 1 = t.nextId then { w with after := [region] } else w }

/-- A map update entry. -/
def mapEntry (region chunk : Nat) (ps : List Place) : JEntry := { kind := 0, region := region, chunk := chunk, places := ps, die := 0, block := 0 }

/-- A block entry. -/
def nandEntry (kind die block : Nat) : JEntry := { kind := kind, region := 0, chunk := 0, places := [], die := die, block := block }

/-- Retire a block after a FAIL (R476). -/
def Units.retireBlk (u : Units) (die block : Nat) : Units :=
  let u := u.upBlk die block fun b => { b with state := 3 }
  let u := u.upT fun t => { t with erased := NMap.del t.erased (blkKey die block), spare := t.spare - 1 }
  ((u.count 0xB00130).talEvent Ev.TALLOW_BLOCK_RETIRED).wearCheck.journal [nandEntry 3 die block] 0 0 0

/-- Erase a block. -/
def Units.eraseBlk (u : Units) (die block why : Nat) (cmd : Option Sys2Proof.Cmd) : Units :=
  u.nandIssue { kind := 2, place := { die := die, block := block, page := 0 }, why := why, ref := 0, region := 0, cmd := cmd, addr := 0 } 0

/-- A durable journal entry takes effect (R472). -/
def Units.applyEntry (u : Units) (e : JEntry) : Units :=
  if e.kind = 0 then
    u.upT fun t => { t with map := if e.places.isEmpty then NMap.del t.map (chunkKey e.region e.chunk) else NMap.set t.map (chunkKey e.region e.chunk) e.places }
  else if e.kind = 1 then (u.upBlk e.die e.block fun b => { b with state := 4 }).eraseBlk e.die e.block 6 none
  else if e.kind = 2 then u.upBlk e.die e.block fun b => { b with state := 0, wp := 0 }
  else if e.kind = 3 then u.upBlk e.die e.block fun b => { b with state := 3 }
  else u.upT fun t => { t with sizes := setNth t.sizes e.region e.chunk }

/-! Garbage collection (R474) -/

/-- Next chunk of the block under collection: read it. -/
def Units.gcNext (u : Units) : Units :=
  match u.tal.gc with
  | none => u
  | some g => match g.todo with
    | (r, c, p) :: _ => u.nandIssue { kind := 1, place := p, why := 1, ref := c, region := r, cmd := none, addr := 0 } 0
    | [] =>
      let moved := g.moved.map fun x => (x.1, x.2.1)
      let es := moved.eraseDups.map fun k =>
        let ps := NMap.getD u.tal.map (chunkKey k.1 k.2) []
        mapEntry k.1 k.2 (ps.map fun p => match g.moved.find? fun x => x.1 = k.1 && x.2.1 = k.2 && x.2.2.1 = p with | some x => x.2.2.2 | none => p)
      (u.upT fun t => { t with gc := some { g with phase := 1 } }).journal (es ++ [nandEntry 1 g.die g.block]) 0 0 0

/-- Valid chunks of a block: region, chunk and the place in it. -/
def Tallow.validIn (t : Tallow) (die block : Nat) : List (Nat × Nat × Place) :=
  t.map.flatMap fun m => (m.2.filter fun p => p.die = die && p.block = block).map fun p => (m.1 / 2 ^ 32, m.1 % 2 ^ 32, p)

/-- The block that garbage collection takes: the fewest valid chunks, then the lower erase count. -/
def Tallow.gcBlock (t : Tallow) (tlc : Bool) : Option Nat :=
  (t.blocks.foldl (fun (o : Option (Nat × Nat × Nat)) b =>
    if b.2.state ≠ 2 || b.2.tlc ≠ tlc then o
    else
      let v := (t.validIn (b.1 / 2 ^ 32) (b.1 % 2 ^ 32)).length
      match o with
      | some x => if v < x.2.1 || (v = x.2.1 && b.2.erases < x.2.2) then some (b.1, v, b.2.erases) else o
      | none => some (b.1, v, b.2.erases)) none).map (·.1)

/-- The full block with the lowest erase count, where the spread of a mode exceeds 1,000 (R476). -/
def Tallow.levelBlock (t : Tallow) (tlc : Bool) : Option Nat :=
  let l := t.blocks.filter fun b => b.2.tlc = tlc && b.2.state ≠ 3
  let hi := (l.map (·.2.erases)).foldl max 0
  let lo := (l.map (·.2.erases)).foldl min hi
  if hi ≤ lo + 1000 then none
  else (l.foldl (fun (o : Option (Nat × Nat)) b =>
    if b.2.state ≠ 2 then o else match o with | some x => if b.2.erases < x.2 then some (b.1, b.2.erases) else o | none => some (b.1, b.2.erases)) none).map (·.1)

/-- TALLOW_GC (R474, R476): a cell mode with fewer than FREE_MIN free erased blocks collects a block; else a wide spread of erase counts moves
the least-erased full one. -/
def tallowGc (tlc : Bool) (u : Units) : Units :=
  let t := u.tal
  if !t.mounted || t.gc.isSome || t.pwrFail || t.format.isSome then u
  else
    let free := ((NMap.vals t.blocks).filter fun b => b.tlc = tlc && b.state = 0).length
    let pick := if free < bits (u.cfg 0xB0000C 64) 9 0 then t.gcBlock tlc else t.levelBlock tlc
    match pick with
    | none => u
    | some k =>
      let g : TGc := { die := k / 2 ^ 32, block := k % 2 ^ 32, tlc := tlc, todo := t.validIn (k / 2 ^ 32) (k % 2 ^ 32), moved := [], phase := 0 }
      (u.upT fun t => { t with gc := some g }).gcNext

/-! Durability (R470) -/

/-- The end of a format: every block erased, an empty checkpoint goes out (R479). -/
def Units.formatCheck (u : Units) : Units :=
  match u.tal.format with
  | none => u
  | some c =>
    if (u.tal.ops ++ u.tal.held).any (fun o => o.why = 3) then u
    else
      let n := u.tal.blocks.length
      let more := u.tal.writes.flatMap (·.cmds)
      (u.upT fun t => { t with writes := [], format := none, map := [], journal := 0, spare := n / 10, spareAt := n / 10, wear := 0, mounted := true, blank := false }).startWrite
        3 0 0 4 0 [] ((0x0C01, c) :: more)

/-- A write whose copies are all read back (R470, R472). -/
def Units.writeDurable (u : Units) (w : TWrite) : Units :=
  let u := u.upT fun t => { t with writes := t.writes.filter fun x => x.id ≠ w.id }
  let ps := w.copies.map (·.place)
  if w.kind = 0 then
    if NMap.find u.tal.map (chunkKey w.region w.chunk) = some ps then u.tellOwner w.owner w.region w.chunk St.OK
    else u.journal [mapEntry w.region w.chunk ps] w.owner w.region w.chunk
  else if w.kind = 1 then
    match u.tal.gc with
    | none => u
    | some g => match g.todo with
      | [] => u
      | x :: r =>
        let g := { g with todo := r, moved := g.moved ++ [(x.1, x.2.1, x.2.2, ps.headD x.2.2)] }
        ((u.upT fun t => { t with gc := some g }).count 0xB00128).gcNext
  else if w.kind = 2 then
    let u := w.entries.foldl Units.applyEntry (u.upT fun t => { t with journal := t.journal + 64 * w.entries.length })
    let u := match u.tal.gc with
      | some g =>
        if g.phase = 1 && w.entries.contains (nandEntry 1 g.die g.block) then u.upT fun t => { t with gc := some { g with phase := 2 } }
        else if g.phase = 3 && w.entries.contains (nandEntry 2 g.die g.block) then u.upT fun t => { t with gc := none }
        else u
      | none => u
    u.tellOwner w.owner (w.after.headD 0) w.chunk St.OK
  else
    let u := u.upT fun t => { t with journal := 0, ckpts := (w.seq :: t.ckpts).take 2 }
    w.cmds.foldl (fun u c => u.done c.2 0x0B0 c.1 St.OK) u

/-- TALLOW_WRITE (R470): a unit's write of a chunk; owner 1 Ledger, 2 Chimney, 3 Wick. -/
def tallowWrite (owner region chunk bytes : Nat) (u : Units) : Units :=
  let t := u.tal
  let no := fun s => (u.upT fun t => { t with last := s }).tellOwner owner region chunk s
  if !t.mounted then no St.TALLOW_NOT_MOUNTED
  else if !t.enable || t.format.isSome then no St.BAD_STATE
  else if region = 0 || 4 ≤ region || t.sizes.getD region 0 ≤ chunk then no St.BAD_PARAM
  else if region = 3 && t.wear = 2 then no St.TALLOW_READ_ONLY
  else u.startWrite 0 region chunk (writePages region bytes) owner [] []

/-- A chunk's space returns (Table 20-3): journaled like every change of the map. -/
def Units.tallowFree (u : Units) (region chunk : Nat) : Units :=
  if NMap.has u.tal.map (chunkKey region chunk) then u.journal [mapEntry region chunk []] 0 0 0 else u

/-- The operation in flight at a place. -/
def Tallow.opAt (t : Tallow) (kind : Nat) (p : Place) : Option NandOp := t.ops.find? fun o => o.kind = kind && o.place = p

/-- Take an operation off the list. -/
def Units.dropOp (u : Units) (o : NandOp) : Units := u.upT fun t => { t with ops := t.ops.erase o }

/-- NAND_PROGRAM_DONE (R470, R476): passed, it is read back; failed, its block is retired and the unit programmed again elsewhere, both copies
where mirrored (R478). -/
def nandProgramDone (p : Place) (pass : Bool) (u : Units) : Units :=
  match u.tal.opAt 0 p with
  | none => u
  | some o =>
    let u := u.dropOp o
    let w := if o.why = 0 then u.tal.writes.find? fun w => w.id = o.ref else none
    let pages := match w with | some w => w.pages | none => 1
    let u := if pass then u.count 0xB00100 (16384 * pages) else u.retireBlk p.die p.block
    match w, o.cmd with
    | some w, _ =>
      if pass then
        let w := { w with copies := w.copies.map fun c => if c.place = p then { c with state := 1 } else c }
        (u.upT fun t => { t with writes := t.writes.map fun x => if x.id = w.id then w else x }).nandIssue { o with kind := 1 } 0
      else
        (u.upT fun t => { t with ops := t.ops.filter fun x => !(x.why = 0 && x.ref = w.id), open_ := t.open_.filter fun x => x.2 ≠ (p.die, p.block) }).program w
    | none, some c => u.done c 0x0B0 0x0C04 St.OK
    | none, none => u

/-- NAND_READ_DONE (R466, R470): `retries` levels were tried, `ok` when decoding succeeded, `same` when a read-back matches. -/
def nandReadDone (p : Place) (retries : Nat) (ok same : Bool) (data : List Nat) (m : Mem) (u : Units) : Mem × Units :=
  let op := u.tal.opAt 1 p
  let o : NandOp := match op with
    | some o => o
    | none =>
      match u.tal.map.find? fun x => x.2.contains p with
      | some x => { kind := 1, place := p, why := 4, ref := x.1 % 2 ^ 32, region := x.1 / 2 ^ 32, cmd := none, addr := 0 }
      | none => { kind := 1, place := p, why := 7, ref := 0, region := 0, cmd := none, addr := 0 }
  let u := if op.isSome then u.dropOp o else u
  let u := (if retries = 0 then u else u.count 0xB00110).count 0xB00108 (if o.why = 2 then 16384 else 16384 * unitPages o.region)
  let u := if ok then u else (u.upT fun t => { t with last := St.TALLOW_UNCORRECTABLE }).count 0xB00118
  let other := (NMap.getD u.tal.map (chunkKey o.region o.ref) []).find? fun q => q ≠ p
  if o.why = 0 then
    match u.tal.writes.find? fun w => w.id = o.ref with
    | none => (m, u)
    | some w =>
      if !ok || !same then (m, u.program w)
      else
        let w := { w with copies := w.copies.map fun c => if c.place = p then { c with state := 2 } else c }
        let u := u.upT fun t => { t with writes := t.writes.map fun x => if x.id = w.id then w else x }
        (m, if w.copies.all (fun c => c.state = 2) then u.writeDurable w else u)
  else if o.why = 1 then
    if ok then (m, u.startWrite 1 o.region o.ref (writePages o.region 262144) 0 [] [])
    else match other with
      | some q => (m, u.nandIssue { o with place := q } 0)
      | none => (m, (u.tellOwner 3 o.region o.ref St.TALLOW_UNCORRECTABLE).startWrite 1 o.region o.ref (writePages o.region 262144) 0 [] [])
  else if o.why = 2 then
    match o.cmd with
    | some c =>
      let r := unitWrite Ag.tallow o.addr data m u
      (r.1, r.2.done c 0x0B0 0x0C03 (if ok then St.OK else St.TALLOW_UNCORRECTABLE))
    | none => (m, u)
  else if o.why = 4 && !ok then
    match other with
    | some q => if mirrored o.region then (m, u.nandIssue { o with place := q, why := 5 } 0) else (m, u)
    | none => (m, u.tellOwner (if o.region = 1 then 1 else if o.region = 2 then 2 else 3) o.region o.ref St.TALLOW_UNCORRECTABLE)
  else if o.why = 5 then
    if ok then (m, (u.talEvent Ev.TALLOW_MIRROR_REPAIRED).startWrite 0 o.region o.ref (writePages o.region 262144) 0 [] [])
    else (m, u.tellOwner 1 o.region o.ref St.TALLOW_UNCORRECTABLE)
  else (m, u)

/-- NAND_ERASE_DONE (R471, R474, R476): a pass sets the erase bits of the block's pages; a FAIL retires it. -/
def nandEraseDone (die block : Nat) (pass : Bool) (u : Units) : Units :=
  match u.tal.opAt 2 { die := die, block := block, page := 0 } with
  | none => u
  | some o =>
    let u := u.dropOp o
    let u :=
      if !pass then u.retireBlk die block
      else
        let u := u.upT fun t => { t with erased := NMap.set t.erased (blkKey die block) (2 ^ t.pagesPer - 1) }
        let u := (u.upBlk die block fun b => { b with erases := b.erases + 1, wp := 0, state := if o.why = 3 then 0 else b.state }).wearCheck
        if o.why = 3 then u else u.journal [nandEntry 2 die block] 0 0 0
    let u := match u.tal.gc with
      | some g =>
        if o.why = 6 && g.phase = 2 && g.die = die && g.block = block then u.upT fun t => { t with gc := if pass then some { g with phase := 3 } else none } else u
      | none => u
    let u := match o.cmd with
      | some c => u.done c 0x0B0 0x0C05 St.OK
      | none => u
    if o.why = 3 then u.formatCheck else u

/-! Power (R475, R539) -/

/-- PWR_FAIL asserted: no new operation; erases in progress end with Reset and count as not done. -/
def Units.tallowPwrFail (u : Units) : Units :=
  let cut := u.tal.ops.filter fun o => o.kind = 2
  let u := u.upT fun t => { t with pwrFail := true, ops := t.ops.filter (fun o => o.kind ≠ 2), held := t.held ++ cut }
  cut.foldl (fun u o => u.emit (.bus 22 [3, o.place.die, o.place.block, 0])) u

/-- PWR_FAIL over: what was held back is issued. -/
def Units.tallowPwrGood (u : Units) : Units := (u.upT fun t => { t with pwrFail := false }).nandRelease

/-! Mount (R473) -/

/-- The mount at start. -/
def Units.tallowMount (u : Units) (x : TMount) : Units :=
  if x.result = 1 then u.talEvent Ev.TALLOW_CONFIG_MISMATCH
  else if x.result = 2 then (u.upT fun t => { t with blank := true }).talEvent Ev.TALLOW_MOUNT_FAILED
  else
    let u := u.upT fun t => { t with map := x.map, blocks := x.blocks, seq := x.seq, journal := 0, gc := none }
    let u := if x.orphans = 0 then u else u.talEvent Ev.TALLOW_ORPHAN_RECLAIMED
    let u := x.pending.foldl (fun u b =>
      (u.upBlk b.1 b.2 fun y => { y with state := 0, wp := 0, erases := y.erases + 1 }).talEvent Ev.TALLOW_ERASE_AT_MOUNT) u
    let full := 2 ^ u.tal.pagesPer - 1
    let u := u.upT fun t =>
      { t with erased := t.blocks.filterMap fun b =>
          if b.2.state = 0 then some (b.1, full) else if b.2.state = 1 then some (b.1, andNot full (2 ^ b.2.wp - 1)) else none }
    let retired := ((NMap.vals u.tal.blocks).filter fun b => b.state = 3).length
    let n := u.tal.blocks.length / 10
    ((u.upT fun t => { t with mounted := true, spareAt := n, spare := n - retired }).setCnt 0xB00130 retired).wearCheck

/-! Commands (R479) -/

/-- Checks every Tallow command shares: privilege, mounted. -/
def Units.talCmd (u : Units) (c : Sys2Proof.Cmd) (code : Nat) (f : Units → Units) : Units :=
  u.operator c 0x0B0 code fun u =>
    if !u.tal.mounted && !(code = 0x0C01 && u.tal.blank) then u.done c 0x0B0 code St.TALLOW_NOT_MOUNTED
    else if !u.tal.enable || u.tal.format.isSome then u.done c 0x0B0 code St.BAD_STATE
    else f u

/-- A die and block of the geometry. -/
def Tallow.inGeom (t : Tallow) (die block : Nat) : Bool := t.dieList.contains die && block < t.blocksPer

/-- TALLOW_FORMAT (0x0C01): `unacked` says that a ledger record is unacknowledged. Writes under way end; a checkpoint's command is completed by the
empty checkpoint. -/
def Units.formatStart (u : Units) (c : Sys2Proof.Cmd) (unacked : Bool) : Units :=
  u.talCmd c 0x0C01 fun u =>
    if !u.wick.jobs.isEmpty || unacked then u.done c 0x0B0 0x0C01 St.BAD_STATE
    else
      let t := u.tal
      let raw := fun (r : Nat) => t.sizes.getD r 0 * 16 * (if mirrored r then 2 else 1) * 3
      let slc := (raw 0 + raw 1 + raw 2) / (if t.pagesPer = 0 then 1 else t.pagesPer) / (if t.dieList.isEmpty then 1 else t.dieList.length) + 1
      let all := t.dieList.flatMap fun d => (List.range t.blocksPer).map fun b => (d, b)
      let keep := fun (d b : Nat) => match t.blk d b with | some x => x | none => { state := 0, tlc := decide (slc ≤ b), erases := 0, wp := 0 }
      let live := all.filter fun x => (keep x.1 x.2).state ≠ 3
      let u := u.upT fun t =>
        { t with format := some c, gc := none, writes := t.writes.filter (fun w => !w.cmds.isEmpty), ops := t.ops.filter (fun o => o.cmd.isSome),
                 open_ := [], erased := [],
                 blocks := all.foldl (fun m x => NMap.set m (blkKey x.1 x.2) (keep x.1 x.2)) [] }
      let u := t.writes.foldl (fun u w => u.tellOwner w.owner w.region w.chunk St.BAD_STATE) u
      (live.foldl (fun u x => u.eraseBlk x.1 x.2 3 none) u).formatCheck

/-- TALLOW_CHECKPOINT (0x0C02, R472). -/
def tallowCheckpoint (c : Sys2Proof.Cmd) (u : Units) : Units := u.talCmd c 0x0C02 fun u => u.startWrite 3 0 0 4 0 [] [(0x0C02, c)]

/-- TALLOW_CHECKPOINT_TIMER (R472): 60 s or 256 MiB of journal have passed. -/
def tallowCheckpointTimer (u : Units) : Units := if u.tal.mounted && u.tal.enable && u.tal.format.isNone then u.startWrite 3 0 0 4 0 [] [] else u

/-- TALLOW_RAW_READ (0x0C03). -/
def tallowRawRead (c : Sys2Proof.Cmd) (die block page addr : Nat) (u : Units) : Units :=
  u.talCmd c 0x0C03 fun u =>
    if !(u.tal.inGeom die block) || u.tal.pagesPer ≤ page || !(u.mayAccess 4 addr 16384 true) then u.done c 0x0B0 0x0C03 St.BAD_PARAM
    else if u.mb.mode ≠ 2 && u.tal.mappedIn die block then u.done c 0x0B0 0x0C03 St.BAD_STATE
    else u.nandIssue { kind := 1, place := { die := die, block := block, page := page }, why := 2, ref := 0, region := 0, cmd := some c, addr := addr } 0

/-- TALLOW_RAW_PROGRAM (0x0C04, R471): the erased-state check holds for it too. -/
def tallowRawProgram (c : Sys2Proof.Cmd) (die block page addr : Nat) (u : Units) : Units :=
  u.talCmd c 0x0C04 fun u =>
    let p : Place := { die := die, block := block, page := page }
    if !(u.tal.inGeom die block) || u.tal.pagesPer ≤ page || !(u.mayAccess 4 addr 16384 false) then u.done c 0x0B0 0x0C04 St.BAD_PARAM
    else if u.mb.mode ≠ 2 && u.tal.mappedIn die block then u.done c 0x0B0 0x0C04 St.BAD_STATE
    else if !(u.tal.isErased p 1) then (u.notErased p).done c 0x0B0 0x0C04 St.TALLOW_NOT_ERASED
    else u.nandIssue { kind := 0, place := p, why := 2, ref := 0, region := 0, cmd := some c, addr := addr } 1

/-- TALLOW_RAW_ERASE (0x0C05). -/
def tallowRawErase (c : Sys2Proof.Cmd) (die block : Nat) (u : Units) : Units :=
  u.talCmd c 0x0C05 fun u =>
    if !(u.tal.inGeom die block) then u.done c 0x0B0 0x0C05 St.BAD_PARAM
    else if u.mb.mode ≠ 2 && u.tal.mappedIn die block then u.done c 0x0B0 0x0C05 St.BAD_STATE
    else u.eraseBlk die block 2 (some c)

/-- TALLOW_ENABLE_CLEAR (R478, R144). -/
def tallowEnableClear (w : Sys2Proof.Who) (u : Units) : Units :=
  if !(isOperator w.priv) || !u.tal.enable then u
  else
    let d : Drain := { unit := 0x0B, items := u.tal.writes.length, enableHeld := false }
    { u.upT (fun t => { t with enable := false, draining := true }) with drains := u.drains ++ [d] }

/-- Tallow's drain ends (R144): what is in flight is cancelled. -/
def Units.tallowDrained (u : Units) (again : Bool) : Units :=
  let ws := u.tal.writes
  let cs := (u.tal.ops ++ u.tal.held).filterMap fun o => o.cmd.map fun c => (if o.kind = 0 then 0x0C04 else if o.kind = 1 then 0x0C03 else 0x0C05, c)
  let f := match u.tal.format with | some c => [(0x0C01, c)] | none => []
  let u := u.upT fun t => { t with writes := [], ops := [], held := [], format := none, gc := none, draining := false, enable := again || t.enable }
  let u := ws.foldl (fun u w => u.tellOwner w.owner w.region w.chunk St.CANCELLED_BY_DISABLE) u
  (cs ++ f ++ ws.flatMap (·.cmds)).foldl (fun u c => u.done c.2 0x0B0 c.1 St.CANCELLED_BY_DISABLE) u

end Sys2Proof.Machine
end

