-- ==== Sys2Proof/Machine/Chimney.lean ====
section
/-!
DEFINITION. The Chimney's commands (21_chimney_and_observation): event records, token refills, forwarding windows, the feed
and export rings, traces and last-light rings.
-/
namespace Sys2Proof.Machine

/-- A Beacon time in one 64-bit field: seconds [63:30], nanoseconds [29:0] (R427, Table 21-1). -/
def packTime (sec ns : Nat) : Nat := (sec % 2 ^ 34) * 2 ^ 30 + ns % 2 ^ 30

/-- Bytes 0-29 of an event record (Table 21-1). -/
def EvRec.body (r : EvRec) : List Nat :=
  leBytes 2 r.code ++ leBytes 1 r.level ++ leBytes 2 r.src ++ leBytes 1 r.count ++ leBytes 4 r.opTime ++ leBytes 3 r.cycles ++
    leBytes 1 r.flags ++ leBytes 8 (packTime r.sec r.ns) ++ leBytes 8 r.payload

/-- An event record's 32 bytes with its CRC-16 (R481). -/
def EvRec.bytes (r : EvRec) : List Nat := r.body ++ leBytes 2 (crc16 r.body)

/-- A log entry's 64 bytes (Table 21-3). -/
def LogEntry.bytes (e : LogEntry) : List Nat :=
  e.er.bytes ++ leBytes 3 e.origin ++ leBytes 1 0 ++ leBytes 4 e.epoch ++ leBytes 8 e.seq ++ leBytes 8 e.mono ++ leBytes 8 0

/-- EVENT_RAISE (R483): one occurrence. -/
def eventRaise (code level src payload : Nat) (more : List Nat) (t : Target) (u : Units) : Units :=
  u.raise code level src payload more t

/-- CHIM_TOKEN_REFILL (R484): a refilled token writes a held record at once with the held count, else it is kept. -/
def chimTokenRefill (code : Nat) (u : Units) : Units :=
  let b := u.chim.bucket code
  match b.heldRec with
  | some e =>
    { u with chim := u.chim.setBucket code { b with held := 0, heldRec := none, heldMore := [] } }.logAll
      ({ e with er := e.er.withCount b.held } :: b.heldMore)
  | none => if b.spent = 0 then u else { u with chim := u.chim.setBucket code { b with spent := b.spent - 1 } }

/-- CHIM_LOG_UNIT_WRITE (R486): the entries not yet handed over, up to 1,024, go to the Tallow events region as one unit; while Tallow is unmounted
or out of service they wait. The region is written round, four units to a chunk. -/
def chimLogUnitWrite (u : Units) : Units :=
  let c := u.chim
  let new := (c.log.filter fun e => c.unitSeq < e.seq).take 1024
  match new.getLast? with
  | none => u
  | some e =>
    if !u.tal.mounted || !u.tal.enable then u
    else
      let u := { u with chim := { c with unitSeq := e.seq, units := c.units ++ [e.seq], unitNo := c.unitNo + 1 } }.emit (.bus 3 [3, new.length, e.seq])
      tallowWrite 2 2 (c.unitNo / 4 % u.tal.sizes.getD 2 0) 65536 u

/-- The Chimney's start (R485): the sequence goes on from the highest of the events region (`events`: its entries; none where it is not mounted), and the
first entry is CHIM_START, ahead of what this start has raised so far. -/
def Units.chimStart (u : Units) (events : List LogEntry) : Units :=
  let evs := if u.tal.mounted then events else []
  let prev := evs.foldl (fun a e => max a e.seq) 0
  let r := u.record Ev.CHIM_START 2 0xC0 prev false false
  let e := u.entry r
  let up := fun (x : LogEntry) => { x with seq := x.seq + prev + 1 }
  let c := u.chim
  let c := { c with log := { e with seq := prev + 1 } :: c.log.map up, stored := evs ++ c.stored.map up, alarms := NMap.mapV c.alarms fun _ x => up x,
                    logSeq := c.logSeq + prev + 1, ends := if prev = 0 then [] else [prev] }
  ((({ u with chim := c } : Units).count 0xC00100).count 0xC00108).setLl 32 ((u.llRing 32).add r) |>.window 2 e []

/-- CHIM_WINDOW_END (R489): a window with a count above 0 forwards one CHIM_SUMMARY with the exact count. -/
def chimWindowEnd (step code origin src : Nat) (u : Units) : Units :=
  match findWin u.chim.wins step code origin src with
  | none => u
  | some w =>
    let u := { u with chim := { u.chim with wins := u.chim.wins.filter fun x => !(x.step = step && x.code = code && x.origin = origin && x.src = src) } }
    if w.count = 0 then u
    else
      let p := payloadOf [(0, 2, code), (2, 2, w.lenMs / 100), (4, 4, w.count)]
      let r := (u.record Ev.CHIM_SUMMARY w.evLevel src p false false).withCount w.count
      u.forward step [{ u.entry r with origin := origin }]

/-- One entry at the holder of a role of level `step` (R489): through the role's own window; a CHIM_SUMMARY counts as its payload count and is never
forwarded on its own. The alarm of a witness that acts alone reaches the level above its role, whose holder appoints a standby (R43). -/
def Units.passUp (u : Units) (step : Nat) (e : LogEntry) : Units :=
  let above := fun (id : Nat) => if roleLevel id = 5 then 5 else roleLevel id + 1
  let u := if e.er.code = Ev.ROLE_WITNESS_ALONE && step = above e.er.payload then u.later (.newStandby e.er.payload) else u
  if e.er.code = Ev.CHIM_SUMMARY then
    let code := bits e.er.payload 15 0
    let k := bits e.er.payload 63 32
    match findWin u.chim.wins step code e.origin e.er.src with
    | some _ => { u with chim := { u.chim with wins := addWin u.chim.wins step code e.origin e.er.src k } }
    | none =>
      let w : FwdWin :=
        { step := step, evLevel := e.er.level, code := code, origin := e.origin, src := e.er.src, count := k, lenMs := windowMs step }
      { u with chim := { u.chim with wins := u.chim.wins ++ [w] } }
  else u.window step e []

/-- One forwarded entry at a role holder (R489): logged with FORWARDED, then through the role's own window. -/
def Units.fwdEntry (u : Units) (step : Nat) (e : LogEntry) (crcOk : Bool) : Units :=
  if !crcOk then u.count 0xC00130
  else
    let e := { e with er := { e.er with flags := e.er.flags ||| 16 } }
    let n := u.chim.logSeq + 1
    let u := (u.count 0xC00128).logWrite e
    (if Nat.testBit e.er.flags 1 then u.alarmPlace { e with seq := n } else u).passUp step e

/-- EVT_FWD (R489, R490): a role holder takes each record, and acknowledges a forward that carries an alarm. -/
def evtFwd (h : LHdr) (seq : Nat) (alarm : Bool) (entries : List (LogEntry × Bool)) (u : Units) : Units :=
  u.recvL h 0x64 0 fun u => match u.heldRole with
  | none => if alarm then u.answerL h.src 0x65 h.seq 16 3 [seq, St.BAD_STATE] else u
  | some id =>
    let u := entries.foldl (fun u e => u.fwdEntry (roleLevel id) e.1 e.2) u
    if alarm then u.answerL h.src 0x65 h.seq 16 (roleLevel id) [seq, St.OK] else u

/-- EVT_FWD_ACK (R13, R490): the forward is not sent again; any status but OK acknowledges nothing. -/
def evtFwdAck (h : LHdr) (seq status : Nat) (u : Units) : Units :=
  u.recvL h 0x65 0 fun u => if status ≠ St.OK then u else { u with chim := { u.chim with fwdOut := u.chim.fwdOut.filter fun f => f.seq ≠ seq } }

/-- EVT_FWD_ACK_TIMEOUT (R490): sent again up to 3 times, then CHIM_FWD_UNACKED. -/
def evtFwdAckTimeout (seq : Nat) (u : Units) : Units :=
  match u.chim.fwdOut.find? fun f => f.seq = seq with
  | none => u
  | some f =>
    if f.resends < 3 then
      let u := { u with chim := { u.chim with fwdOut := u.chim.fwdOut.map fun (x : FwdOut) => if x.seq = seq then { x with resends := x.resends + 1 } else x } }
      u.toRole f.dst 0x64 (16 + 64 * f.entries.length)
        ([seq, f.entries.length, 1] ++ f.entries.flatMap fun (e : LogEntry) => [e.er.code, e.er.level, e.er.src, e.er.count, e.er.flags, e.er.payload, e.origin])
    else
      { u with chim := { u.chim with fwdOut := u.chim.fwdOut.filter fun (x : FwdOut) => x.seq ≠ seq } }.raise Ev.CHIM_FWD_UNACKED 2 0xC0 0

/-- CHIM_EXPORT_PERIOD (R493): the counters of every unit, in ascending BAR0 order, behind a header; a full ring skips the
export and the next header counts it. -/
def chimExportPeriod (u : Units) : Units :=
  if bits (u.cfg 0xC00010 0) 15 0 = 0 then u
  else match u.chim.exportRing with
    | none => u
    | some n =>
      if (u.desc n).room then
        let body := (u.regs.cnt.filter fun p => p.1 < 2 ^ 24).flatMap fun (p : Nat × Nat) => [p.1, p.2]
        let hd := [u.chim.exportSeq + 1, u.clk.mono, packTime u.clk.sec u.clk.ns, body.length, u.chim.exportSkipped]
        { u.produce n (.words (hd ++ body)) with chim := { u.chim with exportSeq := u.chim.exportSeq + 1, exportSkipped := 0 } }
      else { u with chim := { u.chim with exportSkipped := u.chim.exportSkipped + 1 } }

/-- Trace ring `n`. -/
def Units.flueOf (u : Units) (n : Nat) : Flue := NMap.getD u.chim.flue n Flue.reset

/-- Store trace ring `n`. -/
def Units.setFlue (u : Units) (n : Nat) (f : Flue) : Units := { u with chim := { u.chim with flue := NMap.put u.chim.flue Flue.reset n f } }

/-- Entries a trace ring has room for. -/
def Flue.space (f : Flue) : Nat := f.size / 32 - wrapW 32 (f.prod + 2 ^ 32 - f.cons)

/-- Add one 32-byte entry to a trace ring: time, source, kind, flags, sequence, data (Table 21-6). -/
def Flue.add (f : Flue) (mono src kind flags : Nat) (data : List Nat) : Flue :=
  { f with q := f.q ++ [[mono, src, kind, flags, f.seq] ++ data], seq := wrapW 32 (f.seq + 1), prod := wrapW 32 (f.prod + 1) }

/-- An entry that is dropped (R495). -/
def Flue.lose (f : Flue) (mono : Nat) : Flue :=
  { f with lost := f.lost + 1, lostNow := f.lostNow + 1, lostAt := if f.lostNow = 0 then mono else f.lostAt }

/-- A traced occurrence on one ring (R494, R495): one entry in 2^DIV; a full ring or a deferred TRACE drops it; the first
entry after a loss is a loss marker. -/
def Flue.trace (f : Flue) (mono src kind : Nat) (data : List Nat) (deferred : Bool) : Flue :=
  if !f.enable || f.source ≠ src % 4096 || kind = 0 || !(bitAt f.kinds (kind - 1)) then f
  else
    let f := { f with occ := f.occ + 1 }
    if f.occ % 2 ^ f.div ≠ 0 then f
    else if deferred || f.space = 0 then f.lose mono
    else if f.lostNow = 0 then f.add mono src kind 0 data
    else
      let g : Flue := { f.add mono src 0 1 [f.lostNow, f.lostAt] with lostNow := 0, lostAt := 0 }
      if g.space = 0 then g.lose mono else g.add mono src kind 0 data

/-- TRACE_OCCURRENCE (R494, R495): every ring that collects the source and kind takes or loses the entry. -/
def traceOccurrence (source kind : Nat) (data : List Nat) (deferred : Bool) (u : Units) : Units :=
  { u with chim := { u.chim with flue := NMap.mapV u.chim.flue fun _ f => f.trace u.clk.mono source kind data deferred } }

/-- Bytes of the trace region (type 0x6). -/
def Units.traceSpace (u : Units) : Nat :=
  sumL ((u.mantle.regions.filter fun r => r.2.typ = 6).map fun r => r.2.pages.length * 2 ^ 21)

/-- Parts of the trace region in use. -/
def Units.traceBodies (u : Units) : List (Nat × Nat) :=
  ((u.chim.flue.filter fun f => f.2.enable || f.2.draining).map fun f => (f.2.base, f.2.size))

/-- CHIM_FLUE_ENABLE (R494, R501): a write of CHIM_FLUE_CFG of trace ring `ring`; operator privilege; fields other than
ENABLE change only while ENABLE is 0; 0 to 1 allocates the pages, 1 to 0 drains (R144). -/
def chimFlueEnable (w : Who) (ring value : Nat) (u : Units) : Units :=
  let f := u.flueOf ring
  if !(isOperator w.priv) then u
  else if f.enable then
    if bitAt value 0 then u
    else
      { u.setFlue ring { f with enable := false, draining := true } with
        drains := u.drains ++ [{ unit := 0x300 + ring, items := f.q.length, enableHeld := false }] }
  else if f.draining then
    if bitAt value 0 then { u with drains := u.drains.map fun x => if x.unit = 0x300 + ring then { x with enableHeld := true } else x } else u
  else
    let f := { f with sizeLog2 := if bits value 4 1 ≤ 10 then bits value 4 1 else f.sizeLog2, div := bits value 8 5,
                      source := bits value 20 9, kinds := bits value 28 21 }
    if !(bitAt value 0) then u.setFlue ring f
    else
      let len := 65536 * 2 ^ f.sizeLog2
      match fitBody u.traceSpace len u.traceBodies with
      | none => u.setFlue ring f
      | some o => u.setFlue ring { f with enable := true, base := o, size := len, prod := 0, cons := 0, q := [], occ := 0 }

/-- CHIM_BIND_FEED (0x0D01, R487, R500). -/
def chimBindFeed (c : Cmd) (ring : Nat) (u : Units) : Units :=
  u.operator c 0xC0 0x0D01 fun u =>
    let d := u.desc ring
    if ring < 32768 && d.kind = 2 && d.sizeCode = 1 then
      ({ u with chim := { u.chim with feed := some ring, feedGap := none } }).done c 0xC0 0x0D01 St.OK
    else u.done c 0xC0 0x0D01 St.BAD_PARAM

/-- CHIM_ALARM_ACK (0x0D02, R488): frees the entry and clears ALARM_FULL. -/
def chimAlarmAck (c : Cmd) (seq : Nat) (u : Units) : Units :=
  u.operator c 0xC0 0x0D02 fun u =>
    match u.chim.alarms.find? fun p => p.2.seq = seq with
    | some p => ({ u with chim := { u.chim with alarms := NMap.del u.chim.alarms p.1, alarmFull := false } }).done c 0xC0 0x0D02 St.OK
    | none => u.done c 0xC0 0x0D02 St.BAD_STATE

/-- CHIM_EVENT_READ (0x0D03, R500, R551): entries of the Tallow events region, from sequence `first`, are written at a Mantle
address the Chimney may write; the result is the count delivered. -/
def chimEventRead (c : Cmd) (first count addr : Nat) (m : Mem) (u : Units) : Mem × Units :=
  if !(isOperator (stampPriv c.stamp)) then (m, u.done c 0xC0 0x0D03 St.NOT_PRIVILEGED)
  else if count = 0 || 16384 < count then (m, u.done c 0xC0 0x0D03 St.BAD_PARAM)
  else if !(u.chim.stored.any fun e => e.seq = first) then (m, u.done c 0xC0 0x0D03 St.BAD_STATE)
  else
    let l := (u.chim.stored.filter fun e => first ≤ e.seq && e.seq < first + count).take count
    let bytes := l.flatMap LogEntry.bytes
    if u.mayAccess Ag.chimney addr bytes.length true then
      (memPut m u addr bytes, (u.setMantle (u.mantle.cure addr bytes.length)).done c 0xC0 0x0D03 St.OK 0 l.length)
    else (m, u.done c 0xC0 0x0D03 St.NOT_PRIVILEGED)

/-- The indices of Table 21-8. -/
def llValid (n : Nat) : Bool := n ≤ 34 || (64 ≤ n && n ≤ 127)

/-- CHIM_LL_FREEZE (0x0D04, R496). -/
def chimLlFreeze (c : Cmd) (ring : Nat) (u : Units) : Units :=
  u.operator c 0xC0 0x0D04 fun u =>
    if llValid ring then (u.llFreeze ring).done c 0xC0 0x0D04 St.OK else u.done c 0xC0 0x0D04 St.BAD_PARAM

/-- CHIM_LL_RELEASE (0x0D05, R496): unfreezes the ring and clears it. -/
def chimLlRelease (c : Cmd) (ring : Nat) (u : Units) : Units :=
  u.operator c 0xC0 0x0D05 fun u =>
    if llValid ring then (u.setLl ring LastLight.reset).done c 0xC0 0x0D05 St.OK else u.done c 0xC0 0x0D05 St.BAD_PARAM

/-- CHIM_EXPORT_BIND (0x0D06, R493). -/
def chimExportBind (c : Cmd) (ring : Nat) (u : Units) : Units :=
  u.operator c 0xC0 0x0D06 fun u =>
    if ring < 32768 && (u.desc ring).kind = 2 then
      ({ u with chim := { u.chim with exportRing := some ring } }).done c 0xC0 0x0D06 St.OK
    else u.done c 0xC0 0x0D06 St.BAD_PARAM

end Sys2Proof.Machine
end

