-- ==== Sys2Proof/Machine/RefProg.lean ====
section
/-!
DEFINITION. What the reference programs of the shadow optimizer compute (11 Table 11-5, R276, R277), under the reference-arithmetic contract
(08 R206-R209): binary32 with RNE, FTZ and DAZ clear, canonical NaNs, SR_BITS 16. Every operation written out rounds once, a fused one once in all
(DEDUCED from R207: the assumption log, entry 178).
-/
namespace Sys2Proof.Machine

/-- The arithmetic context of the contract (R208). -/
def refCtx : ACtx := { rm := 0, ftz := false, daz := false, nanProp := false, sat := false, srBits := 16, word := 0 }

def rAdd (a b : Nat) : Nat := (refCtx.add 1 a b).1
def rMul (a b : Nat) : Nat := (refCtx.mul 1 a b).1
def rDiv (a b : Nat) : Nat := (refCtx.div 1 a b).1
def rSqrt (a : Nat) : Nat := (refCtx.sqrt 1 a).1
/-- a * b + c in one rounding. -/
def rFma (a b c : Nat) : Nat := (refCtx.fused 1 a b c false false).1
/-- c - a * b in one rounding. -/
def rFnma (a b c : Nat) : Nat := (refCtx.fused 1 a b c true false).1
def rMax (a b : Nat) : Nat := (refCtx.minmax 1 a b true).1
/-- An integer of at most 2^24 in binary32. -/
def rNat (n : Nat) : Nat := (refCtx.round 1 false n 0 false).1
/-- Exact sum of binary32 values, rounded once by RNE (R209). -/
def rSum (l : List Nat) : Nat := (refCtx.laccRound 1 (LAcc.zero.addAll (l.map fun x => laccTerm (fvalOf 1 x))).1).1
/-- Exact sum of squares, rounded once by RNE (R209). -/
def rSumSq (l : List Nat) : Nat := (refCtx.laccRound 1 (LAcc.zero.addAll (l.map fun x => laccProd (fvalOf 1 x) (fvalOf 1 x))).1).1

/-- What a step's drive record and the job's parameter block give a program: scalar slots, loss scale, weight decay, Nesterov, key and counter base of
the random words. -/
structure RefEnv where
  s : List Nat
  ls : Nat
  wd : Nat
  nesterov : Bool
  key : Nat
  base : Nat
  deriving DecidableEq, Repr

/-- Scalar slot `k` (Table 11-6). -/
def RefEnv.slot (v : RefEnv) (k : Nat) : Nat := v.s.getD k 0

/-- sr16: bf16 by SR at site 0 with the parameter's global index (R198, R199). -/
def RefEnv.sr16 (v : RefEnv) (e x : Nat) : Nat := ({ refCtx with rm := 5, word := srWord v.key v.base 0 e }.cvt 1 2 x).1

/-- The gradient over the loss scale. -/
def RefEnv.grad (v : RefEnv) (g : Nat) : Nat := rDiv g v.ls

/-- The moments of adamw and adam, and their update direction u, from the gradient g (R276): m, v, u. -/
def RefEnv.moments (x : RefEnv) (g m v : Nat) : Nat × Nat × Nat :=
  let m := rFma (x.slot 0) m (rMul (x.slot 1) g)
  let v := rFma (x.slot 2) v (rMul (x.slot 3) (rMul g g))
  (m, v, rDiv (rMul m (x.slot 5)) (rAdd (rSqrt (rMul v (x.slot 6))) (x.slot 4)))

/-- adamw (0x0001, 0x0002): wf, m, v. -/
def RefEnv.adamw (x : RefEnv) (grad wf m v : Nat) : Nat × Nat × Nat :=
  let r := x.moments (x.grad grad) m v
  let wf := rFnma (rMul (x.slot 7) x.wd) wf wf
  (rFnma (x.slot 7) r.2.2 wf, r.1, r.2.1)

/-- adam (0x0003): the decay is folded into the gradient. -/
def RefEnv.adam (x : RefEnv) (grad wf m v : Nat) : Nat × Nat × Nat :=
  let r := x.moments (rFma x.wd wf (x.grad grad)) m v
  (rFnma (x.slot 7) r.2.2 wf, r.1, r.2.1)

/-- lion (0x0004): wf, m. -/
def RefEnv.lion (x : RefEnv) (grad wf m : Nat) : Nat × Nat :=
  let g := x.grad grad
  let c := rFma (x.slot 0) m (rMul (x.slot 1) g)
  let d := if (fvalOf 1 c).isNan then c else if (fvalOf 1 c).isZero then 0 else fCopy 1 0x3F800000 c
  let wf := rFnma (rMul (x.slot 4) x.wd) wf wf
  (rFnma (x.slot 4) d wf, rFma (x.slot 2) m (rMul (x.slot 3) g))

/-- sgdm (0x0006, 0x0007): wf, b. -/
def RefEnv.sgdm (x : RefEnv) (grad wf b : Nat) : Nat × Nat :=
  let g := rFma x.wd wf (x.grad grad)
  let b := rFma (x.slot 0) b (rMul (x.slot 1) g)
  let d := if x.nesterov then rFma (x.slot 0) b g else b
  (rFnma (x.slot 2) d wf, b)

/-- One parameter's components after the step (R276): program, global index, components before, gradient widened to binary32. A component list of
another length, or another program, is unchanged. -/
def RefEnv.param (x : RefEnv) (prog e : Nat) (st : List Nat) (grad : Nat) : List Nat :=
  match prog, st with
  | 1, [_, wf, m, v] => let r := x.adamw grad wf m v; [x.sr16 e r.1, r.1, r.2.1, r.2.2]
  | 2, [wf, m, v] => let r := x.adamw grad wf m v; [r.1, r.2.1, r.2.2]
  | 3, [_, wf, m, v] => let r := x.adam grad wf m v; [x.sr16 e r.1, r.1, r.2.1, r.2.2]
  | 4, [_, wf, m] => let r := x.lion grad wf m; [x.sr16 e r.1, r.1, r.2]
  | 6, [wf, b] => let r := x.sgdm grad wf b; [r.1, r.2]
  | 7, [_, wf, b] => let r := x.sgdm grad wf b; [x.sr16 e r.1, r.1, r.2]
  | _, st => st

/-! Adafactor (R277) -/

/-- The second-moment statistics of a tensor after the step, and the update direction of each element before clipping: a factored tensor holds its row
factors, then its column factors, then zeros; any other holds a value for each element. -/
def RefEnv.adaStats (x : RefEnv) (rows cols : Nat) (g st : List Nat) : List Nat × List Nat :=
  let q := g.map fun a => rFma a a (x.slot 2)
  if 2 ≤ rows && 2 ≤ cols then
    let row := (List.range rows).map fun i => rFma (x.slot 0) (st.getD i 0) (rMul (x.slot 1) (rDiv (rSum ((q.drop (i * cols)).take cols)) (rNat cols)))
    let col := (List.range cols).map fun j =>
      rFma (x.slot 0) (st.getD (rows + j) 0) (rMul (x.slot 1) (rDiv (rSum ((List.range rows).map fun i => q.getD (i * cols + j) 0)) (rNat rows)))
    let mean := rDiv (rSum row) (rNat rows)
    (row ++ col ++ List.replicate (rows * cols - (rows + cols)) 0,
     (List.range (rows * cols)).map fun k => rDiv (g.getD k 0) (rSqrt (rDiv (rMul (row.getD (k / cols) 0) (col.getD (k % cols) 0)) mean)))
  else
    let v := (List.range (rows * cols)).map fun k => rFma (x.slot 0) (st.getD k 0) (rMul (x.slot 1) (q.getD k 0))
    (v, (List.range (rows * cols)).map fun k => rDiv (g.getD k 0) (rSqrt (v.getD k 0)))

/-- One tensor after the step: bf16 weights, masters, statistics; `e` is the global index of its first parameter. -/
def RefEnv.adafactor (x : RefEnv) (rows cols e : Nat) (grad wf st : List Nat) : List Nat × List Nat × List Nat :=
  let r := x.adaStats rows cols (grad.map x.grad) st
  let n := rNat (rows * cols)
  let ru := rSqrt (rDiv (rSumSq r.2) n)
  let clip := rMax 0x3F800000 (rDiv ru (x.slot 4))
  let alpha := rMul (x.slot 5) (rMax (x.slot 3) (rSqrt (rDiv (rSumSq wf) n)))
  let decay := rMul (x.slot 5) x.wd
  let wf' := (wf.zip r.2).map fun p => rFnma alpha (rDiv p.2 clip) (rFnma decay p.1 p.1)
  ((List.range wf'.length).map fun k => x.sr16 (e + k) (wf'.getD k 0), wf', r.1)

end Sys2Proof.Machine
end

