-- ==== Sys2Proof/Machine/Igtan.lean ====
section
/-!
DEFINITION. The Igtan block as the T3 sees it (03_igtan_counterpart): what the T3 accepts on a sconce port, REG_ACCESS and its
answers, the start-up of R61, the apply gate's releases, and the host commands toward a block. The Igtan block itself is
outside the T3.
-/
namespace Sys2Proof.Machine

/-! What a port accepts and sends -/

/-- Accelerator generation in force at a port. -/
def Units.accGen (u : Units) (p : Nat) : Nat := NMap.getD u.vig.accGen p 0

/-- Context generation in force. -/
def Units.ctxGen (u : Units) (p c : Nat) : Nat := NMap.getD u.vig.ctxGen (64 * p + c) 0

/-- The port is fenced (R302). -/
def Units.fenced (u : Units) (p : Nat) : Bool := bitAt u.vig.fenced p

/-- Classes a fenced port accepts (R302). -/
def fenceIn (cls : Nat) : Bool := cls = 0x01 || cls = 0x07 || cls = 0x08 || cls = 0x0A || cls = 0x0E || cls = 0x0F

/-- Classes a fenced port sends (R302). -/
def fenceOut (cls : Nat) : Bool := cls = 0x09 || cls = 0x0D || cls = 0x10

/-- Change the Igtan side of a port. -/
def Units.upIg (u : Units) (p : Nat) (f : IgtanPort → IgtanPort) : Units := u.setIg p (f (u.ig p))

/-- Change Vigil and the Snuffer. -/
def Units.upV (u : Units) (f : Vigil → Vigil) : Units := { u with vig := f u.vig }

/-- A message that R66 drops: counted in LINK_MSG_DROP, a coalesced IGTAN_MSG_UNKNOWN, no reply. -/
def Units.msgUnknown (u : Units) (p : Nat) : Units := (u.count (portBase p + 0x138)).raise Ev.IGTAN_MSG_UNKNOWN 1 (portUnit p) 0

/-- A received sconce message of class `cls` that the port drops, and what that counts (R61, R64, R302): before ACTIVE only REG_RESPONSE and
MGMT_FRAME of version 1 or 2 pass, under any generation; from then on a message of another version than the selected one is dropped (DEDUCED: the
assumption log, entry 161), as is one of a generation not in force, and at a fenced port one that R302 does not list. -/
def Units.dropS (u : Units) (h : Sys2Proof.SHdr) (cls : Nat) : Option Units :=
  if !(u.ig h.port).active then (if (cls = 0x0A || cls = 0x15) && (h.ver = 1 || h.ver = 2) then none else some u)
  else if h.ver ≠ (u.ig h.port).proto then some (u.count (portBase h.port + 0x138))
  else if h.accGen ≠ u.accGen h.port || (h.ctx ≠ 0xFF && h.ctxGen ≠ u.ctxGen h.port h.ctx) then some (u.count (portBase h.port + 0x130))
  else if u.fenced h.port && !(fenceIn cls) then some (u.count 0x780120)
  else none

/-- Receive a sconce message of class `cls`: dropped, or acted on. -/
def Units.recvS (u : Units) (h : Sys2Proof.SHdr) (cls : Nat) (f : Units → Units) : Units := (u.dropS h cls).getD (f u)

/-! Feature use (R63, Table 3-1) -/

/-- Feature bit `b` of Table 3-1 may be used with the block: the selected version has it and its bit of FEATURES is set. -/
def IgtanPort.has (g : IgtanPort) (b : Nat) : Bool :=
  bitAt g.features b && (if g.proto = 2 then b != 2 else b == 1 || b == 2 || b == 8)

/-- Feature bit that a message class needs (R63): snapshot requests, the apply gate, wait-for queries, Ember routing. -/
def needBit (cls : Nat) : Option Nat := [(0x0B, 3), (0x11, 10), (0x13, 2), (0x19, 9), (0x1B, 9)].lookup cls

/-- A class may be sent at a port: no fence keeps it back (R302), the block is active (R61) and has the feature (R63). -/
def Units.mayS (u : Units) (p cls : Nat) : Bool :=
  (!(u.fenced p) || fenceOut cls) && ((u.ig p).active || cls == 0x09 || cls == 0x15) &&
    (match needBit cls with | some b => (u.ig p).has b | none => true)

/-- Send a sconce request where its class may be sent. -/
def Units.igSend (u : Units) (p cls ctx len : Nat) (pay : List Nat) : Units := if u.mayS p cls then u.reqS p cls ctx len pay else u

/-- An operator tag as received (R79): unknown from a block without operator tags, and where its kind is reserved. -/
def IgtanPort.opTag (g : IgtanPort) (tag : Nat) : Nat := if !(g.has 9) || (8 ≤ bits tag 31 28 && bits tag 31 28 ≤ 14) then 0xFFFFFFFF else tag

/-- CID of the position on a sconce port: the valid route entry of kind 0 with this T3 and port as target (R50). -/
def Units.cidOf (u : Units) (p : Nat) : Nat :=
  match u.role.routes.find? fun e => e.2.kind = 0 && e.2.valid && e.2.target = u.self && e.2.port = p with
  | some e => e.1
  | none => 0

/-- Port of a position served by this T3. -/
def Units.portOf (u : Units) (cid : Nat) : Option Nat :=
  match NMap.find u.role.routes cid with
  | some e => if e.kind = 0 && e.valid && e.target = u.self then some e.port else none
  | none => none

/-- T3 that serves a CID (R50). -/
def Units.servedBy (u : Units) (cid : Nat) : Nat :=
  match NMap.find u.role.routes cid with
  | some e => if e.kind = 1 then cid else e.target
  | none => cid

/-- Send REG_ACCESS (R82): `data` for a write. -/
def Units.regAccess (u : Units) (p off : Nat) (write : Bool) (count : Nat) (data : List Nat) (why : RegWhy) : Units :=
  let n := (u.ig p).nextSeq
  let u := u.upIg p fun g => { g with nextSeq := wrapW 16 (n + 1), regs := g.regs ++ [{ seq := n, offset := off, write := write, count := count, why := why }] }
  u.sendS p 0x09 0xFF 0 n (8 + if write then 4 * count else 0) ([off + (if write then 2 ^ 31 else 0), count] ++ data)

/-! Start-up (R61, R62) -/

/-- Complete the IGTAN_BRINGUP commands that wait. -/
def Units.upDone (u : Units) (p status : Nat) : Units :=
  (u.ig p).cmd.foldl (fun u c => u.done { ring := c.1, tag := c.2.1, stamp := c.2.2.1, gen := c.2.2.2 } 0x078 0x0707 status)
    (u.upIg p fun g => { g with cmd := [] })

/-- The port is held (R62): ACTIVE stays clear and IGTAN_VERSION_UNSUPPORTED is recorded. -/
def Units.upHold (u : Units) (p : Nat) : Units :=
  ((u.upIg p fun g => { g with step := 0, unsupported := true, active := false }).raise Ev.IGTAN_VERSION_UNSUPPORTED 1 (portUnit p) 0).upDone p
    St.UNSUPPORTED

/-- Install a management key into an Igtan block (R52): the words of IGTAN_MGMT_KEY with INSTALL set. -/
def Units.sendKey (u : Units) (p link id index k : Nat) : Units :=
  u.regAccess p (0x3000 + 0x40 * link) true 10 ((List.range 10).map fun i => bits (k % 2 ^ 256 + id * 2 ^ 256 + index * 2 ^ 288 + 2 ^ 289) (32 * i + 31) (32 * i))
    (.key link id index k)

/-- Begin R61: read IGTAN_ID and IGTAN_FEATURES. Requests outstanding end as at a port that leaves service; keys not acknowledged are sent again. -/
def Units.startUp (u : Units) (p : Nat) : Units :=
  let u := (u.dropHostRegs p St.ABORTED_RESET).upIg p IgtanPort.forget
  let keys := (u.ig p).regs
  let u := (u.upIg p fun g => { g with step := 1, unsupported := false, regs := [], gensRead := [] }).regAccess p 0 false 2 [] .bringup
  keys.foldl (fun u r => match r.why with
    | .key link id index k => u.sendKey p link id index k
    | _ => u) u

/-- Make the generations read the ones in force (R61 step 2). -/
def Units.adopt (u : Units) (p acc : Nat) (ctxs : List Nat) : Units :=
  let now := (u.clk.sec % 2 ^ 34) * 2 ^ 30 + u.clk.ns
  u.upV fun v =>
    { v with accGen := NMap.put v.accGen 0 p acc,
             ctxGen := (List.range 64).foldl (fun m c => NMap.put m 0 (64 * p + c) (ctxs.getD c 0)) v.ctxGen,
             genStart := (List.range 64).foldl (fun m c => NMap.put m 0 (64 * p + c) now) v.genStart,
             watch := NMap.mapV v.watch fun k w => if k / 64 = p then { w with gen := ctxs.getD (k % 64) 0, genStart := now } else w }

/-- One answer of the start-up (R61): the next step, or the port is held. An answer other than OK holds it as an unsupported version does (DESIGN
CHOICE: R62 names version 0 and a read-back that differs; the assumption log, entry 162). -/
def Units.upStep (u : Units) (p : Nat) (ok : Bool) (off : Nat) (w : List Nat) : Units :=
  let g := u.ig p
  if !ok then u.upHold p
  else if g.step = 1 then
    let ver := bits (w.getD 0 0) 7 0
    if ver = 0 then u.upHold p
    else
      (u.upIg p fun g => { g with step := 3, version := ver, talnex := bits (w.getD 0 0) 15 8, features := bits (w.getD 1 0) 10 0 }).regAccess p
        0x10 false 1 [] .bringup
  else if g.step = 3 then
    (u.upIg p fun g => { g with step := 4, gensRead := [bits (w.getD 0 0) 15 0] }).regAccess p 0x200 false 16 [] .bringup
  else if g.step = 4 then
    let gs := g.gensRead ++ w.map fun x => bits x 15 0
    if off < 0x2C0 then (u.upIg p fun g => { g with gensRead := gs }).regAccess p (off + 0x40) false 16 [] .bringup
    else
      let u := u.adopt p (gs.headD 0) gs.tail
      (u.upIg p fun g => { g with step := 5, gensRead := [] }).regAccess p 8 true 1 [min 2 g.version] .bringup
  else if g.step = 5 then (u.upIg p fun g => { g with step := 6 }).regAccess p 8 false 1 [] .bringup
  else if g.step = 6 then
    if bits (w.getD 0 0) 7 0 ≠ min 2 g.version then u.upHold p
    else (u.upIg p fun g => { g with step := 7, proto := min 2 g.version }).regAccess p 0xC true 1 [g.hbPeriod + g.glimPeriod * 2 ^ 16] .bringup
  else if g.step = 7 then (u.upIg p fun g => { g with step := 8 }).regAccess p 8 true 1 [g.proto + 256] .bringup
  else if g.step = 8 then
    let u := u.upIg p fun g => { g with step := 9, active := true }
    let u := u.upV fun v => { v with port := NMap.updD v.port VPort.reset p fun x => if x.state = 3 then x else { x with state := 1, misses := 0, probes := 0 } }
    (u.upDone p St.OK).later (.brought p)
  else u

/-! Context control (R74, R83) -/

/-- A RESET of a context runs (R83, R290). -/
def Units.resetting (u : Units) (p c : Nat) : Bool := (u.ig p).resets.any fun r => r.kind = 2 || r.ctx = c

/-- Write IGTAN_CTX_CTL of a context; while a RESET of it runs or the block is not active the value is kept for later (R83). -/
def Units.writeCtl (u : Units) (p c value : Nat) : Units :=
  if u.resetting p c || !(u.ig p).active then u.upIg p fun g => { g with ctlHeld := NMap.set g.ctlHeld c value }
  else
    let old := NMap.getD (u.ig p).ctxCtl c value
    (u.upIg p fun g => { g with ctxCtl := NMap.set g.ctxCtl c value, ctlHeld := NMap.del g.ctlHeld c }).regAccess p (0x100 + 4 * c) true 1 [value]
      (.ctxCtl c value old)

/-- Write the value kept for a context, where one is. -/
def Units.ctlAgain (u : Units) (p c : Nat) : Units :=
  match NMap.find (u.ig p).ctlHeld c with
  | some v => u.writeCtl p c v
  | none => u

/-- Write every value kept at a port. -/
def Units.ctlAll (u : Units) (p : Nat) : Units := (NMap.keys (u.ig p).ctlHeld).foldl (fun u c => u.ctlAgain p c) u

/-- The block refused a control word (R74, R83): the old one stands, and the value is kept until a RESET of the context or a held update ends; a RESET
that has ended by now lets it go out again. -/
def Units.ctlRefused (u : Units) (p c value old status : Nat) : Units :=
  let u := u.upIg p fun g =>
    { g with ctxCtl := if NMap.find g.ctxCtl c = some value then NMap.set g.ctxCtl c old else g.ctxCtl,
             ctlHeld := if NMap.has g.ctlHeld c then g.ctlHeld else NMap.set g.ctlHeld c value }
  if status = St.BUSY_RETRY then u.ctlAgain p c else u

/-! The apply gate (R72, R73) -/

/-- Send an APPLY_GO again, under its own sequence (R73). -/
def Units.goAgain (u : Units) (p : Nat) (o : GoOut) : Units :=
  if u.mayS p 0x0B then u.sendS p 0x0B o.ctx 0 o.seq 16 [o.step] else u

/-- Send APPLY_GO of a step to a context. -/
def Units.sendGo (u : Units) (p ctx step : Nat) : Units :=
  let n := (u.ig p).nextSeq
  let u := u.upIg p fun g =>
    { g with gos := (g.gos.filter fun x => x.ctx ≠ ctx) ++ [{ ctx := ctx, step := step, seq := n, resends := 0 }] }
  u.igSend p 0x0B ctx 16 [step]

/-- APPLY_ACK (R73): OK ends the resends; BAD_STATE makes the T3 send the missing releases in step order up to M. -/
def applyAck (h : Sys2Proof.SHdr) (step status : Nat) (u : Units) : Units :=
  u.recvS h 0x0C fun u =>
    match (u.ig h.port).gos.find? fun x => x.ctx = h.ctx with
    | none => u
    | some o =>
      if status = St.OK then
        let u := u.upIg h.port fun g => { g with applyStep := NMap.put g.applyStep 0 h.ctx (max (NMap.getD g.applyStep h.ctx 0) step) }
        if step < o.step then u
        else (u.upIg h.port fun g => { g with gos := g.gos.filter fun x => x.ctx ≠ h.ctx }).ctlAgain h.port h.ctx
      else
        let from_ := NMap.getD (u.ig h.port).applyStep h.ctx 0
        (List.range (o.step - from_)).foldl (fun u i => u.igSend h.port 0x0B h.ctx 16 [from_ + 1 + i]) u

/-- APPLY_ACK_WAIT_EXPIRY (R73): the same APPLY_GO is sent again up to 3 times, then APPLY_ACK_TIMEOUT, and the accelerator is suspect (R288). -/
def applyAckWaitExpiry (port ctx : Nat) (u : Units) : Units :=
  match (u.ig port).gos.find? fun x => x.ctx = ctx with
  | none => u
  | some o =>
    if o.resends < 3 then
      (u.upIg port fun g => { g with gos := g.gos.map fun x => if x.ctx = ctx then { x with resends := x.resends + 1 } else x }).goAgain port o
    else
      ((u.upIg port fun g => { g with gos := g.gos.filter fun x => x.ctx ≠ ctx }).raise Ev.APPLY_ACK_TIMEOUT 1 (portUnit port) 0).later (.suspect port 1)

/-- The context is enabled: its bit in the live bitmap of the last heartbeat, or ENABLE as last written. -/
def Units.ctxEnabled (u : Units) (p c : Nat) : Bool :=
  bitAt (NMap.getD u.vig.port p VPort.reset).live c || bitAt (NMap.getD (u.ig p).ctxCtl c 0) 0

/-- A context's control word with bits set or cleared, ENABLE and ACT_EN (reset 1) as they stand. -/
def Units.ctlWord (u : Units) (p c set clear : Nat) : Nat :=
  let w := NMap.getD (u.ig p).ctxCtl c (16 + b2n (u.ctxEnabled p c))
  andNot (w ||| set) clear

/-! Other messages -/

/-- RESERVED_CLASS_MESSAGE (R66): dropped, counted in LINK_MSG_DROP, a coalesced IGTAN_MSG_UNKNOWN, no reply. -/
def reservedClassMessage (port _cls _len : Nat) (_hdrGen : Nat) (u : Units) : Units :=
  u.msgUnknown port

/-- Take an authentic MGMT_FRAME (R52): the sequence under its key rises. None where the key is not held, the sequence does not rise or the tag fails. -/
def LinkKey.take (k : LinkKey) (index seq : Nat) (tagOk : Bool) : Option LinkKey :=
  if !tagOk then none
  else if index = k.index then (if seq ≤ k.rxSeq then none else some { k with rxSeq := seq, used := true })
  else if k.old.isNone || seq ≤ k.rxOld then none
  else some { k with rxOld := seq }

/-- A 16-bit generation is older than another. -/
def genOlder (a b : Nat) : Bool := let d := wrapW 16 (b + 2 ^ 16 - a); decide (0 < d) && decide (d < 2 ^ 15)

/-- The position that a CID names stands here under an older generation than its route entry has in force: traffic to it is dropped (R51). -/
def Units.staleTarget (u : Units) (dst : Nat) : Bool :=
  match u.portOf dst, NMap.find u.role.routes dst with
  | some q, some e => e.valid && e.kind = 0 && genOlder (NMap.getD u.vig.accGen q 0) e.gen
  | _, _ => false

/-- Send the message of a management frame on toward its destination, with its hop limit reduced: on a lantern port as the lantern message that it is
(R53), else protected anew under the key of the link on which it leaves (R81), which is the position's own where this T3 serves it, and not the one it
came on. -/
def Units.mgmtOn (u : Units) (from_ hop dst src : Nat) (inner : LHdr) (cls len : Nat) (pay : List Nat) : Units :=
  match u.hop dst with
  | some q => (u.emit (.bus 7 [dst, 0x15, src, hop, q])).relay q { LHdr.onward inner dst cls len with hop := hop } pay 2
  | none =>
    match u.mgmtLink fun p => match u.portOf dst with | some q => p == q | none => p != from_ with
    | some (id, k) =>
      u.mgmtOver id k hop dst src (16 + len) ([inner.ver, cls, len, dst, inner.src, inner.flags, inner.srcGen, inner.seq] ++ pay)
    | none => u.count mgmtDrops

/-- MGMT_FRAME (R51, R52, R64, R81): `inner`, `cls`, `len` and `pay` are the lantern message that its ciphertext decrypts to. It is checked under the link's key,
the new or the old one by the key index: a sequence not above the last accepted, or a tag that fails, drops it with MGMT_AUTH_FAIL; a ciphertext out of
range is dropped under R66, and hop limit 0 drops it too. A message for this T3 has the effect of its own command; another goes on. -/
def mgmtFrame (h : Sys2Proof.SHdr) (linkId index seq hop dst src : Nat) (inner : LHdr) (cls len : Nat) (pay : List Nat) (tagOk : Bool) (u : Units) : Units :=
  if 1024 < 16 + len then u.msgUnknown h.port
  else u.recvS h 0x15 fun u =>
    match (NMap.find u.role.keys linkId).bind fun k => k.take index seq tagOk with
    | none => (u.count mgmtDrops).raise Ev.MGMT_AUTH_FAIL 2 0x000 linkId
    | some k =>
      let u := { u with role := { u.role with keys := NMap.set u.role.keys linkId k } }
      if hop = 0 then u.count mgmtDrops
      else if dst = u.self then u.later (.message inner cls pay)
      else if u.routeFenced dst then u.count fencedDrops
      else if u.staleTarget dst then u.count (portBase h.port + 0x130)
      else u.mgmtOn h.port (hop - 1) dst src inner cls len pay

/-! Host commands (R84) -/

/-- IGTAN_BRINGUP (0x0707): the commands that wait for one port complete together (DESIGN CHOICE: the assumption log, entry 163). -/
def igtanBringup (c : Sys2Proof.Cmd) (port : Nat) (u : Units) : Units :=
  u.operator c 0x078 0x0707 fun u =>
    if 16 ≤ port then u.done c 0x078 0x0707 St.BAD_PARAM
    else if (u.ig port).active || bitAt u.vig.lost port then u.done c 0x078 0x0707 St.BAD_STATE
    else
      let u := u.upIg port fun g => { g with cmd := g.cmd ++ [(c.ring, c.tag, c.stamp, c.gen)] }
      if (u.port port).state = 4 then u.startUp port else u

/-- Offsets that belong to the T3's own units for writing (R84): IGTAN_CTL, IGTAN_PERIODS, IGTAN_CTX_CTL, IGTAN_MGMT_KEY. -/
def ownOffset (o : Nat) : Bool := o = 8 || o = 0xC || (0x100 ≤ o && o < 0x200) || (0x3000 ≤ o && o < 0x3200)

/-- A tenant's read of IGTAN_ACT of its own context (R82, R84): offsets 0x1000-0x1FFF. -/
def Units.ownAct (u : Units) (c : Sys2Proof.Cmd) (port off count : Nat) (write : Bool) : Bool :=
  !write && isTenant (stampPriv c.stamp) && 0x1000 ≤ off && off % 0x40 + 4 * count ≤ 0x40 && off < 0x2000 &&
    (match NMap.find u.vig.watch (64 * port + (off - 0x1000) / 0x40) with
     | some w => w.job ≠ 0 && w.job = (u.desc c.ring).job
     | none => false)

/-- IGTAN_REG (0x0708): through REG_ACCESS; the words written come from, and those read go to, a Mantle address. -/
def igtanReg (c : Sys2Proof.Cmd) (port off : Nat) (write : Bool) (count addr : Nat) (m : Mem) (u : Units) : Mem × Units :=
  let no := fun s => (m, u.done c 0x078 0x0708 s)
  if !(isOperator (stampPriv c.stamp)) && !(u.ownAct c port off count write) then no St.NOT_PRIVILEGED
  else if 16 ≤ port || count = 0 || 16 < count then no St.BAD_PARAM
  else if !(u.mayAccess Ag.sconce addr (4 * count) (!write)) then no St.NOT_PRIVILEGED
  else if write && ((List.range count).any (fun i => ownOffset (off + 4 * i)) || u.fenced port) then no St.BAD_STATE
  else if (u.port port).state ≠ 4 then no St.BUSY_RETRY
  else
    let data := if write then (List.range count).map fun i => leNat (m.bytesAt (addr + 4 * i) 4) else []
    (m, u.regAccess port off write count data (.host c.ring c.tag c.stamp c.gen addr))

/-- RegAccess outstanding at a port under a sequence. -/
def Units.regReq (u : Units) (p seq : Nat) : Option RegReq := (u.ig p).regs.find? fun r => r.seq = seq

/-- Remove it. -/
def Units.dropReg (u : Units) (p seq : Nat) : Units := u.upIg p fun g => { g with regs := g.regs.filter fun r => r.seq ≠ seq }

end Sys2Proof.Machine
end

