-- ==== Sys2Proof/Machine/Roles.lean ====
section
/-!
DEFINITION. Roles (02_levels_and_roles, R34-R60): leases, takeover, the witness and its standby, the journal, role epochs,
routes, standing orders, role messages, admission, rollout, keys and drills.
-/
namespace Sys2Proof.Machine

/-- Change a role's state. -/
def Units.upRole (u : Units) (id : Nat) (f : RoleSt → RoleSt) : Units := u.setRole id (f (u.roleOf id))

/-- Change the role unit. -/
def Units.upR (u : Units) (f : RoleUnit → RoleUnit) : Units := { u with role := f u.role }

/-- The parties that answer lease and takeover requests: witness and standby (R42). -/
def RoleSt.judges (r : RoleSt) : List Nat := [r.witness, r.standby].filter fun c => c ≠ 0

/-- Send a role request to each of several T3s. -/
def Units.reqAll (u : Units) (dsts : List Nat) (cls len lv : Nat) (pay : List Nat) : Units :=
  dsts.foldl (fun u d => u.reqL d cls len lv pay) u

/-- A role message to a T3, which may be this one: flags 0 a request, 1 an answer under the sequence `seq`. -/
def Units.tellL (u : Units) (dst cls flags seq len lv : Nat) (pay : List Nat) : Units :=
  if dst = u.self then u.later (.message { port := 0, src := u.self, hop := 0, flags := flags, srcGen := u.role.t3Gen, seq := seq } cls pay)
  else if flags = 1 then u.answerL dst cls seq len lv pay else u.reqL dst cls len lv pay

/-- A change of a role's state enters its journal and goes to its pilot (R44). -/
def Units.journalRole (u : Units) (id : Nat) (words : List Nat) : Units :=
  let r := u.roleOf id
  if !r.holding then u
  else
    let u := u.setRole id { r with journal := r.journal ++ [words], jpos := r.jpos + 1 }
    if r.pilot = 0 || r.pilot = u.self then u
    else u.reqL r.pilot 0x34 (26 + 8 * words.length) (roleLevel id) ([id, r.epoch, r.jpos, 1, 0, words.length] ++ words)

/-- A change of the state of the role that this T3 holds, likewise (R44). -/
def Units.journalHeld (u : Units) (words : List Nat) : Units :=
  match u.heldRole with
  | some id => u.journalRole id words
  | none => u

/-- T3s of a role's scope: those a warden or keeper watches, the admitted members of the lighthouse. -/
def Units.scopeOf (u : Units) (id : Nat) : List Nat :=
  (if roleLevel id = 5 then NMap.keys u.role.members else NMap.keys u.role.watch).filter fun c => c ≠ u.self

/-- Drop a message as STALE_GENERATION (R38, R53). -/
def Units.staleL (u : Units) (h : LHdr) : Units := u.count (portBase (16 + h.port) + 0x130)

/-- Receive a role message of class `cls`: a role epoch below the one in force drops it (R38, R53). -/
def Units.recvRole (u : Units) (h : LHdr) (cls id epoch : Nat) (f : Units → Units) : Units :=
  u.recvL h cls 0 fun u => if epoch < (u.roleOf id).epoch then u.staleL h else f u

/-- Receive a role message whose payload carries no role epoch (Table 2-10): one that does not come from the holder in force, where one is known, is of
another epoch, and is dropped as STALE_GENERATION (DEDUCED: the assumption log, entry 165). -/
def Units.recvFrom (u : Units) (h : LHdr) (cls kind id : Nat) (f : Units → Units) : Units :=
  u.recvL h cls kind fun u =>
    let c := (u.roleOf id).holder
    if c ≠ 0 && h.src ≠ c then u.staleL h else f u

/-- Receive a LEASE, TAKEOVER or WITNESS message, judged by the witness epoch (R42, R53). -/
def Units.recvWit (u : Units) (h : LHdr) (cls id wepoch : Nat) (f : Units → Units) : Units :=
  u.recvL h cls 0 fun u =>
    if wepoch < (u.roleOf id).wepoch then u.staleL h
    else (f (u.upRole id fun r => { r with wepoch := wepoch }))

/-- Receive a request at a witness: the party at the current witness epoch answers (R42); a request that carries a higher
witness epoch finds an old witness. -/
def Units.atWitness (u : Units) (h : LHdr) (cls id wepoch : Nat) (f : Units → Units) : Units :=
  u.recvL h cls 0 fun u =>
    let r := u.roleOf id
    if (u.self = r.witness || r.acting) && wepoch ≤ r.wepoch then f u
    else u

/-! Lease and takeover (R36-R43) -/

/-- Send a LEASE request under sequence `seq` to witness and standby (R36, R42). -/
def Units.askLease (u : Units) (id seq : Nat) : Units :=
  let r := u.roleOf id
  u.reqAll r.judges 0x30 32 (roleLevel id) [id, r.epoch, 0, r.wepoch, seq, 0, u.self]

/-- This T3 asks for a role that nobody holds yet (R34): it is a candidate, its self-test has passed, and it holds no role. -/
def Units.mayStart (u : Units) (r : RoleSt) : Bool :=
  r.holder == 0 && r.epoch == 0 && r.cands.contains u.self && u.self != 0 && u.lamp.state == 3 && u.heldRole.isNone

/-- LEASE_RENEW_TIMER (R34, R36): the holder asks every 10 ms, as a candidate does at start; a holder that hands back does not renew (R48). -/
def leaseRenewTimer (role : Nat) (u : Units) : Units :=
  let r := u.roleOf role
  if !(r.holding && !r.stopped) && !(u.mayStart r) then u
  else (u.setRole role { r with reqSeq := wrapW 32 (r.reqSeq + 1), waiting := true }).askLease role (wrapW 32 (r.reqSeq + 1))

/-- LEASE_RETRY_TIMER (R36): an unanswered request is repeated every 1 ms. -/
def leaseRetryTimer (role : Nat) (u : Units) : Units :=
  let r := u.roleOf role
  if (r.holding || u.mayStart r) && r.waiting then u.askLease role r.reqSeq else u

/-- Send a LEASE answer: op 1 grant, 3 refuse. -/
def Units.sendLease (u : Units) (id dst op epoch seq : Nat) : Units :=
  u.sendL dst 0x30 1 (wrapW 16 seq) 32 (roleLevel id) [id, epoch, op, (u.roleOf id).wepoch, seq, if op = 1 then 20000 else 0, dst]

/-- Appointment of the parties of a role (Table 2-11, kind 4). -/
def Units.appoint (u : Units) (id : Nat) : Units :=
  let r := u.roleOf id
  let dst := u.scopeOf id ++ (r.judges ++ [r.pilot, r.holder]).filter fun c => c ≠ 0 && c ≠ u.self && !(u.scopeOf id).contains c
  u.reqAll dst.eraseDups 0x3C (28 + 4 * (4 + r.cands.length)) (roleLevel id)
    ([4, 0, 12 + 4 * (4 + r.cands.length), id, r.epoch, 4 + r.cands.length, r.holder, r.pilot, r.witness, r.standby] ++ r.cands)

/-- What a stored grant sends (R36, R38, R41, R48): the lease or takeover runs from the moment it is sent. A first grant tells who the parties are. -/
def Units.grant (u : Units) (id : Nat) (s : StoreOut) : Units :=
  let first := (u.roleOf id).wHolder = 0
  let u := u.upRole id fun r => { r with wLeased := true, wHolder := s.holder, holder := s.holder, epoch := s.epoch,
                                         wExpiry := u.clk.mono + 20000000, wAsking := if s.kind = 1 then none else r.wAsking }
  if s.kind = 1 then u.sendL s.holder 0x32 1 0 24 (roleLevel id) [id, s.epoch, 1, b2n (u.roleOf id).wPilotReady, (u.roleOf id).wepoch, s.holder]
  else
    let u := u.sendLease id s.holder 1 s.epoch s.reqSeq
    if first then u.appoint id else u

/-- Store a grant with the standby and send it on the acknowledgement (R41); a witness without a standby grants alone (R43). -/
def Units.store (u : Units) (id kind epoch holder reqSeq : Nat) : Units :=
  let r := u.roleOf id
  let s : StoreOut := { seq := wrapW 32 (r.storeSeq + 1), kind := kind, epoch := epoch, holder := holder, reqSeq := reqSeq }
  let u := u.setRole id { r with storeSeq := s.seq, stores := if r.alone then r.stores else r.stores ++ [s] }
  if r.alone then u.grant id s
  else u.reqL r.standby 0x33 32 (roleLevel id) [0, r.wepoch, id, epoch, holder, u.clk.mono + 20000000, s.seq]

/-- The first candidate but `no` that is reachable (R34): this T3 itself, its self-test passed, or one with a next hop. Another T3 passes its self-test
before it asks (DEDUCED: the assumption log, entry 166). -/
def Units.firstCand (u : Units) (r : RoleSt) (no : List Nat) : Option Nat :=
  r.cands.find? fun c => !(no.contains c) && ((c = u.self && u.lamp.state = 3) || (c ≠ u.self && (u.hop c).isSome))

/-- LEASE_REQUEST (R34, R36, R41, R48): the holder's request is stored and granted. At start the first reachable candidate is granted the role, and the
next reachable one becomes pilot. A releasing holder that asks again ends its hand-back, at a further epoch. Any other sender is refused. -/
def leaseRequest (h : LHdr) (role _epoch wepoch reqSeq : Nat) (u : Units) : Units :=
  u.atWitness h 0x30 role wepoch fun u =>
    let r := u.roleOf role
    let back := r.stores.any fun s => s.kind = 2
    let taken := r.stores.any fun s => s.kind = 1
    if r.wHolder = 0 then
      if u.firstCand r [] = some h.src then
        (u.setRole role { r with pilot := (u.firstCand r [h.src, r.witness, r.standby]).getD 0 }).store role 0 (r.epoch + 1) h.src reqSeq
      else u.sendLease role h.src 3 r.epoch reqSeq
    else if r.wHolder ≠ h.src || taken then u.sendLease role h.src 3 r.epoch reqSeq
    else if back then
      (u.setRole role { r with stores := r.stores.filter fun s => s.kind ≠ 2 }).store role 0 (r.epoch + 2) h.src reqSeq
    else u.store role 0 r.epoch h.src reqSeq

/-- Announce a role epoch to the members of the scope (R38, Table 2-10 EPOCH). -/
def Units.announce (u : Units) (id : Nat) : Units :=
  u.reqAll (u.scopeOf id) 0x36 16 (roleLevel id) [id, (u.roleOf id).epoch, u.self]

/-- No other role is held here (R35: a T3 holds at most one). -/
def Units.freeFor (u : Units) (id : Nat) : Bool := u.role.role.all fun p => p.1 = id || !p.2.holding

/-- This T3 becomes holder of a role at `epoch` (R38): it announces the epoch. A lighthouse that has no admitted versions admits its own (R58). -/
def Units.becomeHolder (u : Units) (id epoch : Nat) : Units :=
  let u := u.upRole id fun r => { r with epoch := epoch, holder := u.self, holding := true, stopped := false, leased := true, waiting := false, vacant := false,
                                         misses := 0, asked := false, handing := false, since := u.clk.mono, pilotSince := none,
                                         pilot := if r.pilot = u.self then 0 else r.pilot }
  let v := match u.lamp.fw with | some f => f.version | none => 0
  (if roleLevel id = 5 && u.role.admitted.isEmpty then u.upR fun x => { x with admitted := [v, v] } else u).announce id

/-- What a member sent to a role within the longest gap, then what it queued, goes to the new holder in order (R40); what found the queue full becomes
a coalesced event. -/
def Units.drainQueue (u : Units) (id : Nat) : Units :=
  let r := u.roleOf id
  let late := (r.sent.filter fun y => u.clk.mono < y.1 + gapNs).map (·.2)
  let u := u.setRole id { r with queue := [], queueLost := 0, sent := [] }
  let u := (late ++ r.queue).foldl (fun u m => u.toRole id m.cls m.len m.pay) u
  if r.queueLost = 0 then u else u.raise Ev.ROLE_QUEUE_FULL 2 0x000 (payloadOf [(0, 4, id), (4, 4, r.queueLost)])

/-- LEASE_GRANT (R36, R37): the grant of the request outstanding renews the lease; a grant of a further epoch makes this T3
holder (R34, R48). A holder that has stopped does not resume on a late grant. -/
def leaseGrant (h : LHdr) (role epoch wepoch reqSeq lease holder : Nat) (u : Units) : Units :=
  u.recvWit h 0x30 role wepoch fun u =>
    let r := u.roleOf role
    if holder ≠ u.self || lease = 0 then u
    else if r.holding && !r.stopped && epoch = r.epoch then
      if r.waiting && reqSeq = r.reqSeq then u.setRole role { r with waiting := false, leased := true } else u
    else if r.epoch < epoch && u.freeFor role then ((u.becomeHolder role epoch).later (.roleReady role)).drainQueue role
    else u

/-- LEASE_RELEASE (R48): the witness grants the role to the home candidate at the next role epoch, after storing. -/
def leaseRelease (h : LHdr) (role epoch wepoch : Nat) (u : Units) : Units :=
  u.atWitness h 0x30 role wepoch fun u =>
    let r := u.roleOf role
    match r.cands.head? with
    | some c => if h.src = r.wHolder && epoch = r.epoch then u.store role 2 (r.epoch + 1) c 0 else u
    | none => u

/-- A T3 asks the witness to rejoin a role as its pilot (R37, R47): a pilot's heartbeat that is not ready. -/
def Units.rejoin (u : Units) (role : Nat) : Units :=
  let r := u.roleOf role
  u.reqAll r.judges 0x31 24 (roleLevel role) [role, r.epoch, 1, 0, r.jpos]

/-- LEASE_REFUSE (R37, R47): the holder's lease is left to expire. A candidate that asked at its start and finds a higher role epoch in force becomes
pilot. -/
def leaseRefuse (h : LHdr) (role epoch wepoch : Nat) (u : Units) : Units :=
  u.recvWit h 0x30 role wepoch fun u =>
    let r := u.roleOf role
    if !r.holding && r.waiting && r.epoch < epoch then
      (u.setRole role { r with epoch := epoch, waiting := false, pilot := u.self, ready := false }).rejoin role
    else u

/-- HOLDER_LEASE_EXPIRY (R37): every role output stops; the T3 asks the witness to rejoin as pilot (ROLE_HB as a pilot that
is not ready). -/
def holderLeaseExpiry (role : Nat) (u : Units) : Units :=
  let r := u.roleOf role
  if !r.holding then u
  else
    (u.setRole role { r with holding := false, stopped := true, handing := false, rebuilding := false, leased := false, waiting := false,
                             ready := false }).rejoin role

/-- ROLE_HB_SEND (R38, Table 2-10): holder to pilot; pilot to witness and standby. -/
def roleHbSend (role : Nat) (u : Units) : Units :=
  let r := u.roleOf role
  if r.holding && !r.stopped then
    if r.pilot = 0 then u else u.reqL r.pilot 0x31 24 (roleLevel role) [role, r.epoch, 0, 0, r.jpos]
  else if r.pilot = u.self && u.self ≠ 0 then u.reqAll r.judges 0x31 24 (roleLevel role) [role, r.epoch, 1, b2n r.ready, r.jpos]
  else u

/-- ROLE_HB (R38, R44): a holder's heartbeat ends the pilot's count of misses; a pilot's tells the witness its readiness. -/
def roleHb (h : LHdr) (role epoch sender ready _jpos : Nat) (u : Units) : Units :=
  u.recvRole h 0x31 role epoch fun u =>
    if sender = 0 then
      u.upRole role fun r => { r with epoch := epoch, holder := h.src, misses := 0, asked := false, since := if r.holder = h.src then r.since else u.clk.mono }
    else u.upRole role fun r => { r with pilot := h.src, wPilotReady := decide (ready = 1) }

/-- PILOT_HB_MISS (R38): after 3 consecutive misses the pilot asks for takeover. -/
def pilotHbMiss (role : Nat) (u : Units) : Units :=
  let r := u.roleOf role
  if r.pilot ≠ u.self || r.holding then u
  else if r.misses + 1 < 3 || r.asked then u.setRole role { r with misses := r.misses + 1 }
  else
    (u.setRole role { r with misses := r.misses + 1, asked := true }).reqAll r.judges 0x32 24 (roleLevel role)
      [role, r.epoch, 0, b2n r.ready, r.wepoch, u.self]

/-- TAKEOVER_REQUEST (R38, R42): granted only when the lease and its guard have ended; before that it waits. -/
def takeoverRequest (h : LHdr) (role _epoch ready wepoch pilot : Nat) (u : Units) : Units :=
  u.atWitness h 0x32 role wepoch fun u =>
    let r := u.roleOf role
    let u := u.setRole role { r with wAsking := some pilot, wPilotReady := decide (ready = 1) }
    if r.wLeased then u.answerL h.src 0x32 h.seq 24 (roleLevel role) [role, r.epoch, 2, 0, r.wepoch, pilot]
    else if r.stores.any fun s => s.kind = 1 then u
    else u.store role 1 (r.epoch + 1) pilot 0

/-- WITNESS_LEASE_GUARD_EXPIRY (R38, R41): lease and guard have passed without a renewal; a pilot that asks is granted the
takeover at the next role epoch, stored first. -/
def witnessLeaseGuardExpiry (role : Nat) (u : Units) : Units :=
  let r := u.roleOf role
  if !(u.self = r.witness || r.acting) || !r.wLeased then u
  else
    let u := u.setRole role { r with wLeased := false }
    match r.wAsking with
    | some p => u.store role 1 (r.epoch + 1) p 0
    | none => u

/-- A candidate of a list that is no party of the role yet (R43, R47): reachable, and none of `no`. -/
def Units.nextCand (u : Units) (l no : List Nat) : Option Nat := l.find? fun c => !(no.contains c) && c ≠ u.self && (u.hop c).isSome

/-- The new holder asks the members of its scope for what they hold (R44): the EPOCH each answers, and at a keeper the route versions it lacks. -/
def Units.rebuild (u : Units) (id : Nat) : Units :=
  if roleLevel id = 4 then u.reqAll (u.scopeOf id) 0x37 16 4 [1, u.role.routeVer + 1, 2 ^ 32 - 1, 0] else u

/-- TAKEOVER_GRANT (R30, R35, R38, R44, R47): the pilot becomes holder at the raised epoch, unless it holds another role. A pilot that is not ready
rebuilds its state from its scope before its first output. A new pilot is appointed; a new warden probes the T3 that held the role; a new keeper agrees new
key-encryption keys (02, KEY). -/
def takeoverGrant (h : LHdr) (role epoch wepoch pilot : Nat) (u : Units) : Units :=
  u.recvWit h 0x32 role wepoch fun u =>
    let r := u.roleOf role
    if pilot ≠ u.self || epoch ≤ r.epoch || !(u.freeFor role) then u
    else
      let old := r.holder
      let np := (u.nextCand r.cands [old, r.witness, r.standby]).getD 0
      let u := u.setRole role { r with pilot := np }
      let u := u.becomeHolder role epoch
      let u := u.upRole role fun x => { x with rebuilding := !r.ready, imaging := true }
      let u := if r.ready then u else u.rebuild role
      let u := u.raise Ev.ROLE_TAKEOVER (roleLevel role) 0x000 (payloadOf [(0, 4, role), (4, 1, b2n r.ready)])
      let u := if np = 0 then u else u.appoint role
      let u := if r.ready then (u.later (.roleReady role)).drainQueue role else u
      if roleLevel role = 3 && old ≠ 0 then
        (u.upR fun x => { x with watch := NMap.put x.watch T3Watch.reset old { NMap.getD x.watch old T3Watch.reset with misses := 5, probing := true } }).reqL
          old 0x41 16 3 [0]
      else if roleLevel role = 4 then (u.upR fun x => { x with keks := [] }).reqAll (u.scopeOf role) 0x3C 208 4 [5, 0, 192]
      else u

/-- TAKEOVER_NOT_YET (R38): the pilot waits. -/
def takeoverNotYet (h : LHdr) (role _epoch wepoch : Nat) (u : Units) : Units := u.recvWit h 0x32 role wepoch fun u => u

/-- ROLE_REBUILD_DONE (R39, R40, R44): the new holder has its state, and its outputs begin: what waited for them is done. -/
def roleRebuildDone (role : Nat) (u : Units) : Units :=
  let r := u.roleOf role
  if r.holding && r.rebuilding then ((u.setRole role { r with rebuilding := false }).later (.roleReady role)).drainQueue role else u

/-- WITNESS_STORE (R41, R42): the standby keeps the grant and acknowledges; a lower witness epoch is refused. -/
def witnessStore (h : LHdr) (wepoch role epoch holder expiry seq : Nat) (u : Units) : Units :=
  u.recvWit h 0x33 role wepoch fun u =>
    let u := u.upRole role fun r => { r with acting := false, wHolder := holder, holder := holder, epoch := epoch, wExpiry := expiry, wLeased := true }
    u.sendL h.src 0x33 1 h.seq 32 (roleLevel role) [1, wepoch, role, epoch, holder, expiry, seq]

/-- WITNESS_STORE_ACK (R41): the witness sends the grant it stored. -/
def witnessStoreAck (h : LHdr) (wepoch role _epoch seq : Nat) (u : Units) : Units :=
  u.recvWit h 0x33 role wepoch fun u =>
    let r := u.roleOf role
    match r.stores.find? fun s => s.seq = seq with
    | some s => (u.setRole role { r with stores := r.stores.filter fun x => x.seq ≠ seq }).grant role s
    | none => u

/-- WITNESS_STORE_ACK_TIMEOUT (R41): no acknowledgement within 2 ms, no grant. -/
def witnessStoreAckTimeout (role seq : Nat) (u : Units) : Units :=
  u.upRole role fun r => { r with stores := r.stores.filter fun s => s.seq ≠ seq }

/-- WITNESS_HB_SEND (R42): the witness sends its heartbeat to the standby every 1 ms. -/
def witnessHbSend (role : Nat) (u : Units) : Units :=
  let r := u.roleOf role
  if r.witness = u.self && u.self ≠ 0 && r.standby ≠ 0 then u.reqL r.standby 0x33 32 (roleLevel role) [2, r.wepoch, role, r.epoch, r.wHolder, r.wExpiry, r.storeSeq]
  else u

/-- WITNESS_HEARTBEAT (R42): heard at the standby. -/
def witnessHeartbeat (h : LHdr) (wepoch role : Nat) (u : Units) : Units := u.recvWit h 0x33 role wepoch fun u => u

/-- STANDBY_SILENCE_EXPIRY (R42, R43): after 10 ms the standby acts as witness at a raised witness epoch, alone, with an
alarm to the level above. -/
def standbySilenceExpiry (role : Nat) (u : Units) : Units :=
  let r := u.roleOf role
  if r.standby ≠ u.self || r.acting then u
  else (u.setRole role { r with acting := true, alone := true, wepoch := r.wepoch + 1 }).raise Ev.ROLE_WITNESS_ALONE (roleLevel role) 0x000 role

/-! Journal (R44) -/

/-- Fingerprint of a role's state at a journal position (R44): the spec does not give the function. -/
def RoleSt.fingerprint (r : RoleSt) : Nat := Config.roleFingerprint r.jpos r.journal

/-- The journal entries from position `pos` on, as a message carries them: its first position, the count, and each with its length. -/
def RoleSt.entriesFrom (r : RoleSt) (pos : Nat) : List (List Nat) := r.journal.drop (pos - (r.jpos - r.journal.length))

/-- Send the pilot `d` journal entries from a position on (Table 2-10); `flags` bit 0: a full state image. -/
def Units.sendJournal (u : Units) (id d pos flags : Nat) : Units :=
  let r := u.roleOf id
  let es := r.entriesFrom pos
  u.reqL d 0x34 (24 + sumL (es.map fun e => 2 + 8 * e.length)) (roleLevel id) ([id, r.epoch, r.jpos - es.length, es.length, flags] ++ es.flatMap fun e => e.length :: e)

/-- JOURNAL (R44): the pilot applies the entries after its position; a full state image replaces its state. -/
def journal (h : LHdr) (role epoch pos : Nat) (image : Bool) (entries : List (List Nat)) (u : Units) : Units :=
  u.recvRole h 0x34 role epoch fun u =>
    let r := u.roleOf role
    if image then u.setRole role { r with journal := entries, jpos := pos + entries.length, ready := false }
    else if pos ≤ r.jpos && r.jpos ≤ pos + entries.length then
      u.setRole role { r with journal := r.journal ++ entries.drop (r.jpos - pos), jpos := pos + entries.length }
    else u.setRole role { r with ready := false }

/-- JOURNAL_CHECK_TIMER (R44): every 100 ms both sides compute the fingerprint; the holder sends its own. -/
def journalCheckTimer (role : Nat) (u : Units) : Units :=
  let r := u.roleOf role
  let r := { r with fp := r.fingerprint }
  let u := u.setRole role r
  if r.holding && !r.stopped && r.pilot ≠ 0 then u.reqL r.pilot 0x35 32 (roleLevel role) [role, r.epoch, r.jpos, r.fp, St.OK] else u

/-- JOURNAL_CHECK (R13, R44): the pilot compares at the same position and answers; on any status but OK the holder sends a full state image
and the journal after it. -/
def journalCheck (h : LHdr) (role epoch jpos fp status : Nat) (u : Units) : Units :=
  u.recvRole h 0x35 role epoch fun u =>
    let r := u.roleOf role
    if r.holding then
      if h.src ≠ r.pilot then u
      else if status = St.OK then
        u.setRole role { r with jok := max r.jok jpos, pilotSince := some (r.pilotSince.getD u.clk.mono) }
      else (u.setRole role { r with pilotSince := none }).sendJournal role h.src 0 1
    else
      let same := decide (jpos = r.jpos) && decide (fp = r.fingerprint)
      (u.setRole role { r with fp := r.fingerprint, ready := same }).answerL h.src 0x35 h.seq 32 (roleLevel role)
        [role, r.epoch, r.jpos, r.fingerprint, if same then St.OK else St.INTEGRITY_FINGERPRINT]

/-! Role epoch at a member -/

/-- EPOCH (R38, R40, R47): a member takes the epoch and holder, acknowledges and sends its queue. A holder of a lower epoch becomes pilot and
resynchronises; a new holder without a pilot takes it as such when it acknowledges. -/
def epoch (h : LHdr) (role epoch holder : Nat) (u : Units) : Units :=
  u.recvRole h 0x36 role epoch fun u =>
    let r := u.roleOf role
    if lResp h then
      if r.holding && r.pilot = 0 && r.cands.contains h.src && !(r.judges.contains h.src) then
        ((u.setRole role { r with pilot := h.src }).appoint role).sendJournal role h.src 0 1
      else u
    else
      let was := (r.holding || r.stopped || r.holder = u.self) && r.epoch < epoch && holder ≠ u.self
      let r := { r with epoch := epoch, holder := holder, vacant := false, holding := r.holding && !was, stopped := r.stopped || was,
                        handing := r.handing && !was, rebuilding := r.rebuilding && !was, since := u.clk.mono,
                        ready := r.ready && !was, pilot := if was then u.self else r.pilot }
      ((u.setRole role r).answerL h.src 0x36 h.seq 16 (roleLevel role) [role, epoch, holder]).drainQueue role

/-- ROLE_VACANT_TIMER (R39, R43 note): 35 ms without a holder; what the role set stays as it was. -/
def roleVacantTimer (role : Nat) (u : Units) : Units :=
  let r := u.roleOf role
  if r.vacant then u else (u.setRole role { r with vacant := true }).raise Ev.ROLE_VACANT (roleLevel role) 0x000 role

/-- A witness that acts alone gets a new standby from the witness candidate list, appointed by the holder of the level above (R43). -/
def Units.newStandby (u : Units) (id : Nat) : Units :=
  let r := u.roleOf id
  match u.nextCand r.wcands [r.holder, r.pilot, r.witness, r.standby] with
  | some c => (u.setRole id { r with witness := r.standby, standby := c, wepoch := r.wepoch + 1 }).appoint id
  | none => u

/-! Routes (R51) -/

/-- Write the entries of one version. -/
def RoleUnit.apply (x : RoleUnit) (version : Nat) (es : List RouteEntry) : RoleUnit :=
  { x with routeVer := version, routes := es.foldl (fun m e => NMap.set m e.cid { e with version := version }) x.routes }

/-- Apply the versions received ahead, while they follow in order. -/
def RoleUnit.catchUp : Nat → RoleUnit → RoleUnit
  | 0, x => x
  | n + 1, x => match NMap.find x.routeWait (x.routeVer + 1) with
    | some es => RoleUnit.catchUp n ({ x with routeWait := NMap.del x.routeWait (x.routeVer + 1) }.apply (x.routeVer + 1) es)
    | none => x

/-- What a change of the route entries from `old` brings (R51, R122, R324): a position at another T3 that has a new Generation has its bytes in the Mantle
judged by it, and a port here whose position has moved away is kept with the position's spare group. -/
def Units.routed (u : Units) (old : NMap RouteEntry) : Units :=
  u.role.routes.foldl (fun u p =>
    match NMap.find old p.1 with
    | none => u
    | some o =>
      let e := p.2
      if e.kind ≠ 0 || !e.valid || e = o then u
      else
        let u := if e.target ≠ u.self && e.gen ≠ o.gen then u.later (.bump 3 e.cid 0xFF e.gen) else u
        if o.target = u.self && !(e.target = u.self && e.port = o.port) then
          match u.rcv.groups.find? fun g => g.2.2.contains e.cid with
          | some g => { u with rcv := { u.rcv with moved := (u.rcv.moved.filter fun x => !(x.1 = u.self && x.2.1 = o.port)) ++ [(u.self, o.port, g.1)] } }
          | none => u
        else u) u

/-- ROUTE_VERSION (R38, R51): versions apply only in order; one more than one ahead waits, and the missing ones are asked of the
keeper. -/
def routeVersion (h : LHdr) (version : Nat) (entries : List RouteEntry) (u : Units) : Units :=
  u.recvFrom h 0x37 0 u.role.keeperId fun u =>
    let x := u.role
    if version ≤ x.routeVer then u
    else if version = x.routeVer + 1 then (u.upR fun x => (x.apply version entries).catchUp x.routeWait.length).routed x.routes
    else
      (u.upR fun x => { x with routeWait := NMap.set x.routeWait version entries }).toRole u.role.keeperId 0x37 16 [1, x.routeVer + 1, version - 1, 0]

/-- The fields of a route entry (Table 2-5). -/
def RouteEntry.words (e : RouteEntry) : List Nat :=
  [e.cid, e.kind, b2n e.valid, b2n e.fenced, b2n e.spare, e.target, e.port, e.version, e.gen]

/-- The list in groups of `n`, at most `k` of them. -/
def groupsOf (n : Nat) : Nat → List Nat → List (List Nat)
  | 0, _ => []
  | k + 1, l => if l.isEmpty then [] else l.take n :: groupsOf n k (l.drop n)

/-- Pairs of a list. -/
def pairsOf (l : List Nat) : List (Nat × Nat) := (groupsOf 2 l.length l).map fun x => (x.getD 0 0, x.getD 1 0)

/-- A route entry from its fields (Table 2-5). -/
def RouteEntry.of (x : List Nat) : RouteEntry :=
  { cid := x.getD 0 0, kind := x.getD 1 0, valid := x.getD 2 0 = 1, fenced := x.getD 3 0 = 1, spare := x.getD 4 0 = 1, target := x.getD 5 0, port := x.getD 6 0,
    version := x.getD 7 0, gen := x.getD 8 0 }

/-- The keeper issues route entries as the next version: it applies them and sends them to every T3 of its pod (R44, R51). -/
def Units.issueRoutes (u : Units) (es : List RouteEntry) : Units :=
  let v := u.role.routeVer + 1
  let es := es.map fun (e : RouteEntry) => { e with version := v }
  let u := (u.upR fun x => { x.apply v es with routeLog := NMap.set x.routeLog v es }).routed u.role.routes
  (u.journalRole u.role.keeperId ([3, v] ++ es.flatMap RouteEntry.words)).reqAll (u.scopeOf u.role.keeperId) 0x37 (16 + 16 * es.length) 4
    ([0, v, 0, es.length] ++ es.flatMap RouteEntry.words)

/-- ROUTE_REQUEST (R37, R39, R51): the keeper sends the missing versions; a T3 that does not act as keeper sends none. -/
def routeRequest (h : LHdr) (version last : Nat) (u : Units) : Units :=
  u.recvL h 0x37 1 fun u =>
    if !(u.actsAs u.role.keeperId) then u else
    let vs := u.role.routeLog.filter fun p => version ≤ p.1 && p.1 ≤ last
    vs.foldl (fun u p => u.reqL h.src 0x37 (16 + 16 * p.2.length) 4 ([0, p.1, 0, p.2.length] ++ p.2.flatMap RouteEntry.words)) u

/-! Standing orders (R54-R57) -/

/-- A standing-order entry is valid (Table 2-8 rules): no reserved action, class, level, flag or trigger. -/
def SoEntry.valid (e : SoEntry) : Bool :=
  decide (1 ≤ e.action) && decide (e.action ≤ 10) && decide (e.cls ≤ 2) && (decide (e.level ≤ 5) || e.level == 0xFF) && decide (e.flags ≤ 1) &&
    Ev.assigned e.trigger

/-- The check of R55 and of Table 2-8: OK, or the code of the refusal. -/
def soCheck (inForce version scope : Nat) (sigOk keyOperator : Bool) (entries : List SoEntry) : Nat :=
  if !sigOk then St.SIGNATURE_INVALID
  else if !keyOperator then St.NOT_PRIVILEGED
  else if 1 < scope || 4096 < entries.length || !(entries.all SoEntry.valid) then St.BAD_PARAM
  else if version ≤ inForce then St.BAD_STATE
  else St.OK

/-- The table of a scope in force. -/
def Units.soTable (u : Units) (scope : Nat) : SoTable := if scope = 1 then u.role.soDomain else u.role.soPod

/-- The fields of a standing-order entry. -/
def SoEntry.words (e : SoEntry) : List Nat := [e.trigger, e.level, e.cls, e.action, e.flags, e.scope, e.a, e.b, e.timeout]

/-- Take a table in force. -/
def Units.soTake (u : Units) (scope version : Nat) (entries : List SoEntry) : Units :=
  let t : SoTable := { version := version, entries := entries }
  u.upR fun x => if scope = 1 then { x with soDomain := t } else { x with soPod := t }

/-- Complete the SO_LOAD commands that wait for a table (Table 2-13). -/
def Units.soFinish (u : Units) (scope version status : Nat) : Units :=
  let mine := u.role.soCmds.filter fun p => p.1 = version * 2 + scope
  let u := u.upR fun x => { x with soCmds := x.soCmds.filter fun p => p.1 ≠ version * 2 + scope }
  mine.foldl (fun u p => u.done { ring := p.2.1, tag := p.2.2.1, stamp := p.2.2.2.1, gen := p.2.2.2.2 } 0 0x0209 status) u

/-- Role that distributes a scope's table (R57): 0 the pod's keeper, 1 the lighthouse. -/
def Units.soRole (u : Units) (scope : Nat) : Nat := if scope = 1 then 0x30000000 else u.role.keeperId

/-- End the distributions that every T3 of the scope has answered (R57): the T3 that brought the table is answered, and the SO_LOAD commands here
complete. -/
def Units.soEnd (u : Units) : Units :=
  let ended := u.role.soWait.filter fun w => w.left.isEmpty
  let u := u.upR fun x => { x with soWait := x.soWait.filter fun w => !w.left.isEmpty }
  ended.foldl (fun u w =>
    let u := u.soFinish w.scope w.version w.status
    match w.brought with
    | some p => u.answerL p.1 0x38 p.2 16 (roleLevel (u.soRole w.scope)) [w.version, w.scope, w.status]
    | none => u) u

/-- The holder takes a table and distributes it to the scope (R55, R57). -/
def Units.soSpread (u : Units) (version scope pod : Nat) (brought : Option (Nat × Nat)) (entries : List SoEntry) : Units :=
  let id := u.soRole scope
  let w : SoSpread := { version := version, scope := scope, left := u.scopeOf id, brought := brought, status := St.OK }
  let u := (u.soTake scope version entries).upR fun x => { x with soWait := x.soWait ++ [w] }
  (u.reqAll (u.scopeOf id) 0x38 (128 + 32 * entries.length) (roleLevel id) ([version, entries.length, scope, pod] ++ entries.flatMap SoEntry.words)).soEnd

/-- STANDING (R38, R55, R57): every T3 checks the table again before it takes it, and answers; the keeper or lighthouse passes one that a T3 brings to
its scope, and answers when every T3 of it has. An answer (`status`) ends the wait for its sender; one that a T3 has for its own SO_LOAD completes it. -/
def standing (h : LHdr) (version scope pod status : Nat) (sigOk keyOperator : Bool) (entries : List SoEntry) (u : Units) : Units :=
  u.recvL h 0x38 0 fun u =>
    let id := u.soRole scope
    let r := u.roleOf id
    let st := soCheck (u.soTable scope).version version scope sigOk keyOperator entries
    if lResp h then
      if r.holding then
        (u.upR fun x => { x with soWait := x.soWait.map fun w =>
          if w.version = version && w.scope = scope then
            { w with left := w.left.filter (· ≠ h.src), status := if w.status = St.OK then status else w.status }
          else w }).soEnd
      else u.soFinish scope version status
    else if r.holding then
      if st = St.OK && u.actsAs id then u.soSpread version scope pod (some (h.src, h.seq)) entries
      else u.answerL h.src 0x38 h.seq 16 (roleLevel id) [version, scope, if st = St.OK then St.BUSY_RETRY else st]
    else if r.holder ≠ 0 && h.src ≠ r.holder then u.staleL h
    else
      (if st = St.OK then u.soTake scope version entries else u).answerL h.src 0x38 h.seq 16 (roleLevel id) [version, scope, st]

/-! Outputs of the warden (WARDEN_SET) and reports (ROLE_REPORT) -/

/-- Receive a WARDEN_SET: from the warden of this T3 (R38, R128). -/
def Units.fromWarden (u : Units) (h : LHdr) (version : Nat) (f : Units → Units) : Units :=
  u.recvFrom h 0x39 0 u.role.wardenId fun u => f (u.upR fun x => { x with setVer := version })

/-- WARDEN_SET_CAP (R28, R138): the package cap in W. -/
def wardenSetCap (h : LHdr) (version watts : Nat) (u : Units) : Units :=
  u.fromWarden h version fun u => { u with bud := u.bud.setCapW watts }

/-- WARDEN_SET_FAN_FLOOR (R39): the rack's fan duty floor, held until the warden's next. -/
def wardenSetFanFloor (h : LHdr) (version duty : Nat) (u : Units) : Units :=
  u.fromWarden h version fun u => (u.upR fun x => { x with fanFloor := duty }).later .fan

/-- WARDEN_SET_PAIRING (R31): the pairing table; a new buddy for this tray re-places its buddy copies. -/
def wardenSetPairing (h : LHdr) (version : Nat) (pairs : List (Nat × Nat)) (u : Units) : Units :=
  u.fromWarden h version fun u =>
    let old := NMap.find u.role.pairing u.self
    let u := u.upR fun x => { x with pairing := pairs.foldl (fun m p => NMap.set m p.1 p.2) [], pairVer := version }
    match NMap.find u.role.pairing u.self with
    | some b => if old = some b then u else u.later (.newBuddy (old.getD 0) b)
    | none => u

/-- A pooled region of a job (R127, R128): buddy or staging, with lantern write. -/
def pooledRegion (typ job : Nat) : Region :=
  { typ := typ, hostVisible := false, pooled := true, quiet := false, job := job, ownerCid := 0, ownerCtx := 0xFF, ownerKind := 3, gen := 0, mask := 0x1FC,
    pages := [] }

/-- Take two regions for a recovery, both or neither (R119, R127): as wait number `n`. The regions that have come and those that wait, or none. -/
def Units.takePair (u : Units) (a b : Region × Nat) (n : Nat) : Option (Units × Option Nat × Option Nat) :=
  let x := u.allocRecovery a.1 a.2 (2 * n)
  if x.2.1.isNone && !x.2.2 then none
  else
    let y := x.1.allocRecovery b.1 b.2 (2 * n + 1)
    if y.2.1.isNone && !y.2.2 then none else some (y.1, x.2.1, y.2.1)

/-- A reservation stands (R127): its regions are kept and the warden is answered OK. -/
def Units.reserved (u : Units) (w : PoolWait) (i j : Nat) : Units :=
  (u.upR fun x => { x with pooling := x.pooling ++ [(w.job, w.shard, i, j)] }).tellL w.src 0x39 1 w.seq 44 3 [St.OK, w.job, w.shard, u.self]

/-- WARDEN_SET_POOLING (R119, R127, R128): op 0 reserves one buddy and one staging region for a shard, both or neither, waiting for pages that the trace
region gives up; op 1 withdraws the placement, and the regions are freed. -/
def wardenSetPooling (h : LHdr) (version op job shard buddyBytes stagingBytes : Nat) (u : Units) : Units :=
  u.fromWarden h version fun u =>
    if op = 0 then
      let n := u.role.poolNo + 1
      let w : PoolWait := { n := n, job := job, shard := shard, buddy := none, staging := none, src := h.src, seq := h.seq, bind := none }
      match u.takePair (pooledRegion 2 job, buddyBytes) (pooledRegion 3 job, stagingBytes) n with
      | none => u.tellL h.src 0x39 1 h.seq 44 3 [St.MANTLE_FULL, job, shard, u.self]
      | some (u, some i, some j) => u.reserved w i j
      | some (u, i, j) => u.upR fun x => { x with poolNo := n, poolWait := x.poolWait ++ [{ w with buddy := i, staging := j }] }
    else
      let mine := u.role.pooling.filter fun p => p.1 = job && p.2.1 = shard
      let late := u.role.poolWait.filter fun w => w.job = job && w.shard = shard && w.bind.isNone
      let u := u.upR fun x => { x with pooling := x.pooling.filter fun p => !(p.1 = job && p.2.1 = shard),
                                       poolWait := x.poolWait.filter fun w => !(w.job = job && w.shard = shard && w.bind.isNone) }
      let u := u.setMantle { u.mantle with waits := u.mantle.waits.filter fun w => !(late.any fun x => x.n = w.why / 2) }
      let u := late.foldl (fun u w => (w.buddy.toList ++ w.staging.toList).foldl (fun u i => u.freeRegion i 5) u) u
      mine.foldl (fun u p => (u.freeRegion p.2.2.1 5).freeRegion p.2.2.2 5) u

/-- WARDEN_SET_TOPOLOGY (R105): the next-hop port of every destination. -/
def wardenSetTopology (h : LHdr) (version : Nat) (hops : List (Nat × Nat)) (u : Units) : Units :=
  u.fromWarden h version fun u =>
    u.upR fun x => { x with topo := hops.foldl (fun m p => NMap.set m p.1 p.2) [], topoVer := version }

/-- Change the record of a watched T3. -/
def Units.upWatch (u : Units) (cid : Nat) (f : T3Watch → T3Watch) : Units :=
  u.upR fun x => { x with watch := NMap.put x.watch T3Watch.reset cid (f (NMap.getD x.watch cid T3Watch.reset)) }

/-- Receive a ROLE_REPORT at a role holder. -/
def Units.fromMember (u : Units) (h : LHdr) (f : Units → Units) : Units := u.recvL h 0x3A 0 fun u => if u.heldRole.isSome then f u else u

/-- Keep what is known of a T3, and journal it (R44). -/
def Units.noteT3 (u : Units) (cid : Nat) (f : T3Watch → T3Watch) : Units :=
  let u := u.upWatch cid f
  let w := NMap.getD u.role.watch cid T3Watch.reset
  u.journalHeld [7, cid, b2n w.failed, w.freePages, w.stks, w.pages, w.gen]

/-! Pooled placement at the warden (R31, R127) -/

/-- The T3s of the rack and their free pages: those watched that have not failed, and this one. -/
def Units.poolCands (u : Units) : List (Nat × Nat) :=
  (u.self, u.mantle.freeCount) :: (u.role.watch.filter fun p => !p.2.failed && p.1 ≠ u.self).map fun p => (p.1, p.2.freePages)

/-- The T3 with the most free pages within 2 lantern hops of `src`, but `src` itself and `no`, that has room for `bytes` (R127). -/
def Units.nextPlace (u : Units) (src bytes : Nat) (no : List Nat) : Option Nat :=
  let l := u.poolCands.filter fun p => p.1 ≠ src && !(no.contains p.1) && Config.lanternHops src p.1 ≤ 2 && pagesFor bytes ≤ p.2
  (l.foldl (fun (a : Option (Nat × Nat)) p => match a with | none => some p | some b => if b.2 < p.2 then some p else some b) none).map (·.1)

/-- Send the reservation of a placement to its next candidate, or report MANTLE_FULL to the shard's source (R127). -/
def Units.tryPlace (u : Units) (x : Placing) : Units :=
  let rest := u.role.placing.filter fun y => !(y.job = x.job && y.shard = x.shard)
  match u.nextPlace x.src (x.buddyBytes + x.stagingBytes) x.tried with
  | some c =>
    ((u.upR fun r => { r with placing := rest ++ [{ x with tried := c :: x.tried }] }).journalHeld [8, x.job, x.shard, x.src, x.buddyBytes, x.stagingBytes]).tellL c 0x39 0 0
      44 3 [3, u.role.setVer, 28, 0, 0, x.job, x.shard, x.buddyBytes, x.stagingBytes]
  | none => ((u.upR fun r => { r with placing := rest }).journalHeld [16, x.job, x.shard]).tellL x.src 0x39 1 0 44 3 [St.MANTLE_FULL, x.job, x.shard, 0]

/-- A shard's source asks its warden for a buddy (R127, R258): the warden on this T3 places it; toward another T3 the spec gives the request no message. -/
def Units.wantPlace (u : Units) (job shard buddyBytes stagingBytes : Nat) : Units :=
  if u.actsAs u.role.wardenId then
    u.tryPlace { job := job, shard := shard, src := u.self, buddyBytes := buddyBytes, stagingBytes := stagingBytes, tried := [] }
  else u.emit (.bus 16 [u.role.wardenId, job, shard, buddyBytes, stagingBytes])

/-- POOLING_RESERVATION_ANSWER (R13, R127, R264): at the warden, OK ends the placement and is told to the shard's source, a deferred answer has the request
sent again, and any other has the next candidate tried; at the source the warden's answer is taken. -/
def poolingReservationAnswer (h : LHdr) (status job shard cid : Nat) (u : Units) : Units :=
  u.recvL h 0x39 0 fun u =>
    match u.role.placing.find? fun x => x.job = job && x.shard = shard && x.tried.head? = some h.src with
    | none => u.later (.poolAnswer status job shard cid)
    | some x =>
      if status = St.OK then
        ((u.upR fun r => { r with placing := r.placing.filter (fun y => !(y.job = job && y.shard = shard)),
                                  placed := r.placed ++ [(job, shard, h.src, x.src, x.buddyBytes, x.stagingBytes)] }).journalHeld
          [9, job, shard, h.src, x.src, x.buddyBytes, x.stagingBytes]).tellL x.src 0x39 1 0 44 3 [St.OK, job, shard, h.src]
      else if St.deferred status then u.tryPlace { x with tried := x.tried.drop 1 }
      else (u.upWatch h.src fun w => { w with freePages := 0 }).tryPlace x

/-- The warden places again what a failed T3 held (R31, R128): pooled shards, and the trays that it was the buddy of. -/
def Units.rePlace (u : Units) (cid : Nat) : Units :=
  let mine := u.role.placed.filter fun p => p.2.2.1 = cid
  let u := u.upR fun x => { x with placed := x.placed.filter fun p => p.2.2.1 ≠ cid }
  let u := mine.foldl (fun u p => u.tryPlace { job := p.1, shard := p.2.1, src := p.2.2.2.1, buddyBytes := p.2.2.2.2.1, stagingBytes := p.2.2.2.2.2,
                                               tried := [cid] }) u
  if !((NMap.vals u.role.pairing).contains cid) then u
  else
    let v := u.role.setVer + 1
    let p := u.role.pairing.filterMap fun e => if e.2 = cid then (u.nextPlace e.1 0 [cid]).map fun b => (e.1, b) else some e
    let u := (u.upR fun x => { x with pairing := p, pairVer := v, setVer := v }).journalHeld ([10, v] ++ p.flatMap fun e => [e.1, e.2])
    let u := u.reqAll (u.scopeOf u.role.wardenId) 0x39 (16 + 8 * p.length) 3 ([2, v, 8 * p.length, 0] ++ p.flatMap fun e => [e.1, e.2])
    match NMap.find p u.self with
    | some b => u.later (.newBuddy cid b)
    | none => u

/-! Reports of members -/

/-- ROLE_REPORT_FREE_PAGES (R127). -/
def roleReportFreePages (h : LHdr) (_version pages : Nat) (u : Units) : Units := u.fromMember h fun u => u.noteT3 h.src fun w => { w with freePages := pages }

/-- ROLE_REPORT_STACKS (R112): the warden knows the reduced capacity. -/
def roleReportStacks (h : LHdr) (_version stks pages : Nat) (u : Units) : Units :=
  u.fromMember h fun u => u.noteT3 h.src fun w => { w with stks := stks, pages := pages }

/-- Positions a failed T3 serves. -/
def Units.positionsOf (u : Units) (cid : Nat) : List RouteEntry :=
  (NMap.vals u.role.routes).filter fun e => e.kind = 0 && e.target = cid && e.valid

/-- The keeper fences the positions of a failed T3 that are not fenced yet, at a generation one above their route entry's, and their replacement
begins (R31, R51). -/
def Units.failPositions (u : Units) (cid : Nat) : Units :=
  let ps := (u.positionsOf cid).filter fun e => !e.fenced
  if !(u.actsAs u.role.keeperId) || ps.isEmpty then u
  else
    let u := u.issueRoutes (ps.map fun (e : RouteEntry) => { e with fenced := true, gen := wrapW 16 (e.gen + 1) })
    ps.foldl (fun u e => u.later (.positionFailed e.cid (wrapW 16 (e.gen + 1)))) u

/-- ROLE_REPORT_FAILED_T3 (R31, R39, R51): the holder knows the T3 as failed, and a keeper that acts takes the declaration for every accelerator position of
the tray; one that rebuilds does so when it has its state. -/
def roleReportFailedT3 (h : LHdr) (_version cid _time : Nat) (u : Units) : Units :=
  u.fromMember h fun u => (u.noteT3 cid fun w => { w with failed := true, probing := false }).failPositions cid

/-- ROLE_REPORT_POD_SUMMARY (Table 2-10): the lighthouse keeps it. -/
def roleReportPodSummary (h : LHdr) (_version admitted failed recoveries alarms : Nat) (u : Units) : Units :=
  u.fromMember h fun u =>
    (u.upR fun x => { x with summaries := NMap.set x.summaries h.src [admitted, failed, recoveries, alarms] }).journalHeld
      [11, h.src, admitted, failed, recoveries, alarms]

/-- ROLE_REPORT_REJOINED (R31, R105): the new T3 epoch generation comes into force through the T3's route entry, and the
T3's positions are offered as spares; a warden passes the report to its keeper. -/
def roleReportRejoined (h : LHdr) (_version cid gen : Nat) (u : Units) : Units :=
  u.fromMember h fun u =>
    let u := u.noteT3 cid fun w => { w with failed := false, probing := false, misses := 0, gen := gen }
    if u.actsAs u.role.keeperId then
      let e : RouteEntry := { cid := cid, kind := 1, valid := true, fenced := false, spare := false, target := cid, port := 0, version := 0, gen := gen }
      (u.issueRoutes [e]).later (.offerSpares cid)
    else u.report u.role.keeperId 4 5 [cid, gen]

/-- WARDEN_T3_HB_MISS (R30): after 5 consecutive misses the warden probes. -/
def wardenT3HbMiss (cid : Nat) (u : Units) : Units :=
  let w := NMap.getD u.role.watch cid T3Watch.reset
  if !(u.roleOf u.role.wardenId).holding || w.failed then u
  else if w.misses + 1 < 5 || w.probing then u.upWatch cid fun w => { w with misses := w.misses + 1 }
  else (u.upWatch cid fun w => { w with misses := w.misses + 1, probing := true }).reqL cid 0x41 16 2 [0]

/-- WARDEN_PROBE_EXPIRY (R30, R31): unanswered for 2 ms, the T3 is declared failed: its positions are reported to the keeper
and the buddy copies it held are placed again. -/
def wardenProbeExpiry (cid : Nat) (u : Units) : Units :=
  let w := NMap.getD u.role.watch cid T3Watch.reset
  if !(u.actsAs u.role.wardenId) || !w.probing || w.failed then u
  else
    let u := u.noteT3 cid fun w => { w with failed := true, probing := false }
    let u := u.report u.role.keeperId 2 11 [cid, u.clk.sec * 2 ^ 30 + u.clk.ns]
    (u.rePlace cid).later (.t3Failed cid)

/-! Keys (R52) -/

/-- A message or key that fails its authentication (R52): dropped, counted, a coalesced MGMT_AUTH_FAIL. -/
def Units.authFail (u : Units) (src : Nat) : Units := (u.count mgmtDrops).raise Ev.MGMT_AUTH_FAIL 2 0x000 src

/-- A new key of a link end (R52): the key in force becomes the old one, valid for receipt. -/
def newKey (old : Option LinkKey) (index k firstUse port : Nat) : LinkKey :=
  { index := index, key := k, old := old.map (·.key), txSeq := 0, rxSeq := 0, rxOld := (old.map (·.rxSeq)).getD 0, firstUse := firstUse, used := false,
    port := port }

/-- KEY (R38, R52): a wrapped key for a link end is unwrapped under the key-encryption key agreed with the keeper and installed: at this T3's own end of a
sconce link (link 6 of the block at its far end), and, for a link end in an Igtan block, in that block's IGTAN_MGMT_KEY. -/
def key (h : LHdr) (linkId index firstUse nonce wrapped : Nat) (tagOk : Bool) (igtanPort igtanLink : Nat) (u : Units) : Units :=
  u.recvFrom h 0x3B 0 u.role.keeperId fun u =>
    match NMap.find u.role.keks h.src with
    | none => u.authFail h.src
    | some kek =>
      if !tagOk then u.authFail h.src
      else
        let k := Config.unwrapKey kek nonce wrapped
        let u := if igtanPort < 16 then u.later (.igtanKey igtanPort igtanLink linkId index k) else u
        if igtanPort < 16 && igtanLink ≠ 6 then u
        else u.upR fun x => { x with keys := NMap.set x.keys linkId (newKey (NMap.find x.keys linkId) index k firstUse (if igtanPort < 16 then igtanPort else 0xFF)) }

/-- Beacon time as a message carries it: seconds, then nanoseconds in 30 bits. -/
def Units.packTime (u : Units) : Nat := (u.clk.sec % 2 ^ 34) * 2 ^ 30 + u.clk.ns

/-- KEY_REPLACE_TIMER (R39, R44, R52): the keeper issues a new key to both ends before the old one's lifetime ends, wrapped for each under the key-encryption
key agreed with it; the link identifier, key index and first-use time are authenticated with it. The nonce is the draw of the key. -/
def keyReplaceTimer (linkId : Nat) (ends : List Nat) (u : Units) : Units :=
  if !(u.actsAs u.role.keeperId) then u
  else
    let k := Config.newKey u.free
    let nonce := u.free
    let old := NMap.find u.role.keys linkId
    let i := 1 - (old.map (·.index)).getD 1
    let t := u.packTime
    let u := (u.draw.upR fun x => { x with keys := NMap.set x.keys linkId (newKey old i k t ((old.map (·.port)).getD 0xFF)) }).journalRole u.role.keeperId [4, linkId, i, t, k]
    ends.foldl (fun u d => u.reqL d 0x3B 80 4 ([linkId, i, t, nonce] ++ Config.seal ((NMap.find u.role.keks d).getD 0) nonce [linkId, i, t] [k])) u

/-- OLD_KEY_EXPIRY (R39, R52): 10 s after the first use of the new key the old one is no longer valid. A key is not retired during a gap of the keeper
role. -/
def oldKeyExpiry (linkId : Nat) (u : Units) : Units :=
  if u.gapAt u.role.keeperId then u
  else u.upR fun x => { x with keys := NMap.upd x.keys linkId fun k => { k with old := none } }

/-! Admission, features, rollout, appointments (R58-R60) -/

/-- The domain feature set (R59): the intersection of the members' bitmaps, without the features removed. -/
def RoleUnit.common (x : RoleUnit) : Nat :=
  let all := (NMap.vals x.members).foldl (fun a m => a &&& m.getD 2 0) (2 ^ 256 - 1)
  if x.members.isEmpty then 0 else x.removed.foldl (fun a b => clrBit a b) all

/-- The feature set last distributed: the one that waits for quiet points, else the one in force. -/
def RoleUnit.lastFeats (x : RoleUnit) : Nat := match x.featNext with | some p => p.2 | none => x.featSet

/-- A feature set waits for the quiet point of every role (R59). -/
def RoleUnit.featsWait (x : RoleUnit) (e f : Nat) : RoleUnit :=
  { x with featEpoch := e, featNext := some (e, f), role := NMap.mapV x.role fun _ r => { r with featWait := true } }

/-- Distribute a feature set under the next feature-set epoch, when it differs (R59). -/
def Units.spreadFeatures (u : Units) : Units :=
  let f := u.role.common
  if f = u.role.lastFeats then u
  else
    let e := u.role.featEpoch + 1
    ((u.upR fun x => x.featsWait e f).journalHeld [12, e, f]).reqAll (u.scopeOf 0x30000000) 0x3C 52 5 [2, 0, 36, e, f]

/-- ADMIN_ADMISSION_REQUEST (R58, R59): the lighthouse admits a T3 whose version is N or N-1 and which has every feature of
the set last distributed. -/
def adminAdmissionRequest (h : LHdr) (seq version msgVer features : Nat) (u : Units) : Units :=
  u.recvL h 0x3C 0 fun u =>
    if !(u.actsAs 0x30000000) then u
    else
      let ok := u.role.admitted.contains version && (features &&& u.role.lastFeats) = u.role.lastFeats
      let st := if ok then St.OK else St.UNSUPPORTED
      let u := if ok then ((u.upR fun x => { x with members := NMap.set x.members h.src [version, msgVer, features] }).journalHeld [13, h.src, version, msgVer,
        features]).spreadFeatures else u
      u.tellL h.src 0x3C 1 h.seq 60 5 [1, seq, 44, st, u.role.admitted.getD 0 0, u.role.admitted.getD 1 0, u.role.featEpoch, u.role.lastFeats]

/-- ADMIN_ADMISSION_ANSWER (R58, R59): from the lighthouse. -/
def adminAdmissionAnswer (h : LHdr) (_seq status vOld vNew featEpoch feats : Nat) (u : Units) : Units :=
  u.recvFrom h 0x3C 1 0x30000000 fun u =>
    let u := u.upR fun x => { x with admStatus := status }
    if status ≠ St.OK then u
    else u.upR fun x => let x := { x with admitted := [vOld, vNew] }; if featEpoch = x.featEpoch then x else x.featsWait featEpoch feats

/-- ADMIN_FEATURE_SET (R38, R59): used from the next quiet point of each role; FEATURE_REMOVE commands whose bit is gone
complete. -/
def adminFeatureSet (h : LHdr) (_seq featEpoch feats : Nat) (u : Units) : Units :=
  u.recvFrom h 0x3C 2 0x30000000 fun u =>
    if featEpoch ≤ u.role.featEpoch then u
    else
      let mine := u.role.featCmds.filter fun p => !(bitAt feats p.1)
      let u := u.upR fun x => { x.featsWait featEpoch feats with featCmds := x.featCmds.filter fun p => bitAt feats p.1 }
      mine.foldl (fun u p => u.done { ring := p.2.1, tag := p.2.2.1, stamp := p.2.2.2.1, gen := p.2.2.2.2 } 0 0x020C St.OK) u

/-! Rollout (R60) -/

/-- The body of a rollout message: kind 3, sequence, its length, pod, runtime version and step; an answer carries a status beside it. -/
def rollBody (seq pod version step : Nat) : List Nat := [3, seq, 9, pod, version, step]

/-- The step of R60 in which this T3 is updated: 4 a holder, 3 a pilot, 2 a witness or standby witness, 1 none of them. -/
def Units.rollClass (u : Units) : Nat :=
  if u.heldRole.isSome then 4
  else if u.role.role.any fun p => p.2.pilot = u.self then 3
  else if u.role.role.any fun p => p.2.witness = u.self || p.2.standby = u.self then 2 else 1

/-- A live activation may begin (R515): an image is staged as trial, the runtime runs, and none is under way. -/
def Units.mayActivate (u : Units) : Bool := u.lamp.nor.trial = 1 && u.lamp.state = 3 && u.lamp.act.isNone && !u.role.rollAct

/-- A live activation begins (R515): command taking stops. -/
def Units.freezeAct (u : Units) : Units :=
  { u with ring := { u.ring with frozen := true }, lamp := { u.lamp with updState := 3, state := 5 } }

/-- A T3 answers the rollout step that it was given. -/
def Units.rollAnswer (u : Units) (status : Nat) : Units :=
  match u.role.rollMe, u.role.rollout with
  | some p, some (pod, version, step) =>
    (u.upR fun x => { x with rollMe := none, rollAct := false }).tellL p.1 0x3C 1 p.2 26 4 (rollBody 0 pod version step ++ [status])
  | _, _ => u.upR fun x => { x with rollMe := none, rollAct := false }

/-- Begin a hand-back of a role to its pilot (R48): the holder stops its outputs, sends the journal entries that its pilot has not confirmed, and releases
its lease. -/
def Units.handBack (u : Units) (role : Nat) : Units :=
  let u := u.upRole role fun r => { r with stopped := true, handing := true, waiting := false }
  let r := u.roleOf role
  (u.sendJournal role r.pilot r.jok 0).reqAll r.judges 0x30 32 (roleLevel role) [role, r.epoch, 2, r.wepoch, r.reqSeq, 0, u.self]

/-- A T3 takes a rollout step (R60): it answers at once where it runs the version already or is updated in another step; else it begins the activation,
a holder after handing its role back to its pilot. -/
def Units.rollMine (u : Units) (dst seq version step : Nat) : Units :=
  let u := u.upR fun x => { x with rollMe := some (dst, seq) }
  let runs := match u.lamp.fw with | some f => f.version = version | none => false
  if runs || u.rollClass ≠ step then u.rollAnswer St.OK
  else if !(u.mayActivate && (match slotOf u.lamp.nor.rt u.lamp.nor.bootRt with | some f => f.version = version | none => false)) then u.rollAnswer St.BAD_STATE
  else
    let u := u.freezeAct.upR fun x => { x with rollAct := true }
    match u.heldRole with
    | some id => if (u.roleOf id).pilot ≠ 0 then u.handBack id else u
    | none => u

/-- The lighthouse sends a step to the keeper of a pod. -/
def Units.rollSend (u : Units) (pod version step : Nat) : Units :=
  ((u.upR fun x => { x with rollout := some (pod, version, step), adminSeq := x.adminSeq + 1 }).journalRole 0x30000000 [14, pod, version, step]).toRole
    (0x20000000 + pod) 0x3C 25 (rollBody (u.role.adminSeq + 1) pod version step)

/-- The least pod above `pod` whose keeper role is known. -/
def Units.podAfter (u : Units) (pod : Option Nat) : Option Nat :=
  (u.role.role.filterMap fun p =>
    if p.1 / 2 ^ 28 = 2 && (match pod with | some q => decide (q < p.1 % 2 ^ 28) | none => true) then some (p.1 % 2 ^ 28) else none).foldl
    (fun (a : Option Nat) k => match a with | none => some k | some b => some (min b k)) none

/-- New firmware arrives at the lighthouse (R58, R60): it raises the admitted pair, unless a T3 still runs a version below the pair's new lower one, and
tells the members. -/
def Units.raisePair (u : Units) (version : Nat) : Units :=
  let n := u.role.admitted.getD 1 0
  if !(u.actsAs 0x30000000) || version ≤ n || (NMap.vals u.role.members).any (fun m => m.getD 0 0 < n) then u
  else
    let u := (u.upR fun x => { x with admitted := [n, version] }).journalRole 0x30000000 [15, n, version]
    u.reqAll (u.scopeOf 0x30000000) 0x3C 60 5 [1, 0, 44, St.OK, n, version, u.role.featEpoch, u.role.lastFeats]

/-- The rollout of the admitted pair's new version begins at the first pod (R60). -/
def Units.startRollout (u : Units) (version : Nat) : Units :=
  if !(u.actsAs 0x30000000) || u.role.rollout.isSome || u.role.admitted.getD 1 0 ≠ version then u
  else match u.podAfter none with
    | some pod => u.rollSend pod version 1
    | none => u

/-- The lighthouse goes on when a pod has ended a step (R60): the next step, or after the fourth the 15 minutes' wait; a failed activation holds the rollout
for the operator. -/
def Units.rollNext (u : Units) (pod version step status : Nat) : Units :=
  if u.role.rollout ≠ some (pod, version, step) then u
  else if status ≠ St.OK then u.upR fun x => { x with rolloutHold := true }
  else if step < 4 then u.rollSend pod version (step + 1)
  else (u.upR fun x => { x with rollout := some (pod, version, 5) }).journalRole 0x30000000 [14, pod, version, 5]

/-- The keeper ends a step that every T3 of its pod has answered, or that one has failed: it answers the lighthouse. -/
def Units.rollEnd (u : Units) (pod version step status : Nat) : Units :=
  match u.role.rollTo with
  | some p =>
    if status = St.OK && !u.role.rollWait.isEmpty then u
    else (u.upR fun x => { x with rollTo := none, rollWait := [] }).tellL p.1 0x3C 1 p.2 26 5 (rollBody 0 pod version step ++ [status])
  | none => u

/-- ADMIN_ROLLOUT_STEP (R38, R60): the keeper passes the lighthouse's step to the T3s of its pod, itself among them, and answers when each has answered; a
T3 takes it as its role requires. `status` stands in an answer. -/
def adminRolloutStep (h : LHdr) (seq pod version step status : Nat) (u : Units) : Units :=
  u.recvL h 0x3C 3 fun u =>
    let k := u.role.keeperId
    let top := h.src = (u.roleOf 0x30000000).holder && (u.roleOf k).holding && h.src ≠ u.self
    if lResp h then
      if (u.roleOf 0x30000000).holding then u.rollNext pod version step status
      else if (u.roleOf k).holding then (u.upR fun x => { x with rollWait := x.rollWait.filter (· ≠ h.src) }).rollEnd pod version step status
      else u
    else if top then
      let all := u.self :: u.scopeOf k
      let u := u.upR fun x => { x with rollout := some (pod, version, step), rollWait := all, rollTo := some (h.src, h.seq) }
      all.foldl (fun u d => u.tellL d 0x3C 0 0 25 4 (rollBody seq pod version step)) u
    else if (u.roleOf k).holder ≠ 0 && h.src ≠ (u.roleOf k).holder then u.staleL h
    else (u.upR fun x => { x with rollout := some (pod, version, step) }).rollMine h.src h.seq version step

/-- ADMIN_APPOINTMENT (R35, R43, R47): the parties of a role, and its candidates, at a role epoch that is not lower. One that names a T3 as two parties is
no appointment. -/
def adminAppointment (h : LHdr) (_seq role epoch : Nat) (cids : List Nat) (u : Units) : Units :=
  u.recvRole h 0x3C role epoch fun u =>
    let ps := (cids.take 4).filter (· ≠ 0)
    if ps.eraseDups.length ≠ ps.length then u
    else u.upRole role fun r =>
      { r with epoch := epoch, holder := cids.getD 0 0, pilot := cids.getD 1 0, witness := cids.getD 2 0, standby := cids.getD 3 0,
               alone := r.alone && cids.getD 3 0 = 0, acting := r.acting && cids.getD 2 0 ≠ u.self, cands := cids.drop 4 }

/-- ADMIN_KEY_AGREEMENT (R52): a signed key share gives the key-encryption key of the peer; the T3 answers with its own. -/
def adminKeyAgreement (h : LHdr) (seq : Nat) (sigOk : Bool) (secret : Nat) (u : Units) : Units :=
  u.recvL h 0x3C 5 fun u =>
    if !sigOk then u.authFail h.src
    else
      let u := u.upR fun x => { x with keks := NMap.set x.keks h.src (Config.deriveKek secret) }
      if lResp h then u else u.answerL h.src 0x3C h.seq 208 4 [5, seq, 192]

/-- FEDERATION (Table 2-10): a gateway T3 passes the inner lantern message on within its own domain, or takes it where it is for this T3. -/
def federation (h : LHdr) (dstDomain srcDomain : Nat) (inner : LHdr) (innerDst innerCls innerLen : Nat) (pay : List Nat) (u : Units) : Units :=
  u.recvL h 0x3D 0 fun u =>
    if innerDst = u.self then u.later (.message inner innerCls pay)
    else if inner.hop = 0 then u.hopDrop (16 + h.port)
    else if u.routeFenced innerDst then u.count fencedDrops
    else match u.hop innerDst with
      | some q => (u.emit (.bus 7 [innerDst, innerCls, inner.src, dstDomain, srcDomain, q])).relay q (LHdr.onward inner innerDst innerCls innerLen) pay 5
      | none => u.hopDrop (16 + h.port)

/-! Drills (R45, R46) -/

/-- The paths of Table 2-4 of a role: path number and class. -/
def drillPaths (id : Nat) : List (Nat × Nat) :=
  if roleLevel id = 3 then [(1, 0x39), (2, 0x39), (3, 0x39), (4, 0x3A)]
  else if roleLevel id = 4 then [(5, 0x37), (6, 0x56), (7, 0x44), (8, 0x3B), (9, 0x3A)]
  else [(10, 0x3C), (11, 0x3C), (12, 0x3C), (13, 0x3D)]

/-- Recipients of a path (Table 2-4): a role's reports go to the holder of the role above, feature sets and rollout commands to the keepers, federation
messages to the gateways of the route table, the rest to the scope. -/
def Units.drillTo (u : Units) (id path : Nat) : List Nat :=
  if path = 4 then [(u.roleOf u.role.keeperId).holder].filter (· ≠ 0)
  else if path = 9 then [(u.roleOf 0x30000000).holder].filter (· ≠ 0)
  else if path = 10 || path = 11 then ((u.role.role.filter fun p => p.1 / 2 ^ 28 = 2).map fun p => p.2.holder).filter fun c => c ≠ 0 && c ≠ u.self
  else if path = 13 then (((NMap.vals u.role.routes).filter fun e => e.kind = 3 && e.valid).map (·.target)).filter (· ≠ u.self)
  else u.scopeOf id

/-- Send one drill probe: flag bit 2, no content that acts. -/
def Units.drillSend (u : Units) (id path cls dst : Nat) : Units :=
  let n := u.role.nextSeq
  let u := u.upR fun x => { x with nextSeq := wrapW 16 (n + 1) }
  (u.upRole id fun r => { r with drillOut := r.drillOut ++ [(path, dst, n)] }).sendL dst cls 4 n 16 (roleLevel id) []

/-- End a drill with no probe left: the ROLE_DRILL command that began it completes with the count of failing paths. -/
def Units.drillEnd (u : Units) (id : Nat) : Units :=
  let r := u.roleOf id
  if !r.drillOut.isEmpty then u
  else match r.drillCmd with
    | some c => (u.setRole id { r with drillCmd := none }).done { ring := c.1, tag := c.2.1, stamp := c.2.2.1, gen := c.2.2.2 } 0 0x0208 St.OK r.drillFail
    | none => u

/-- The pilot sends a probe on every path of its role (R46). -/
def Units.drillStart (u : Units) (id : Nat) : Units :=
  let u := u.upRole id fun r => { r with drillFail := 0, drillOut := [] }
  ((drillPaths id).foldl (fun u p => (u.drillTo id p.1).foldl (fun u d => u.drillSend id p.1 p.2 d) u) u).drillEnd id

/-- DRILL_INTERVAL (R46): a scheduled drill. -/
def drillInterval (role : Nat) (u : Units) : Units :=
  let r := u.roleOf role
  if r.pilot = u.self && r.drillHours ≠ 0 then u.drillStart role else u

/-- DRILL_PATH_TIMEOUT (R46): no answer within 10 ms raises ROLE_DRILL_FAIL, naming the path and the recipient. -/
def drillPathTimeout (role path cid : Nat) (u : Units) : Units :=
  let r := u.roleOf role
  if r.drillOut.any fun x => x.1 = path && x.2.1 = cid then
    let u := u.setRole role { r with drillOut := r.drillOut.filter fun x => !(x.1 = path && x.2.1 = cid), drillFail := r.drillFail + 1 }
    (u.raise Ev.ROLE_DRILL_FAIL (roleLevel role) 0x000 (payloadOf [(0, 4, cid), (4, 1, path)])).drillEnd role
  else u

/-- DRILL_PROBE_ANSWER (R46, R53): the sequence echoed ends that probe. -/
def drillProbeAnswer (h : LHdr) (seq : Nat) (u : Units) : Units :=
  match u.role.role.find? fun p => p.2.drillOut.any fun x => x.2.2 = seq && x.2.1 = h.src with
  | some p => (u.upRole p.1 fun r => { r with drillOut := r.drillOut.filter fun x => !(x.2.2 = seq && x.2.1 = h.src) }).drillEnd p.1
  | none => u

/-! Hand-back and rollout (R48, R60) -/

/-- A quiet point of a role as far as its holder's state shows it (R48): no failure handled and no placement or spare-in under way in its scope, no rollout
step open, and 60 s since the last change of holder. -/
def Units.roleQuiet (u : Units) (role : Nat) : Bool :=
  let r := u.roleOf role
  !((NMap.vals u.role.watch).any fun w => w.probing) && u.role.placing.isEmpty &&
    (if roleLevel role = 4 then u.rcv.coord.isEmpty && u.rcv.waitReqs.isEmpty else true) &&
    (if roleLevel role = 5 then !((NMap.vals u.role.summaries).any fun x => x.getD 2 0 ≠ 0) else true) &&
    (match u.role.rollout with | some x => x.2.2 = 5 | none => true) && decide (r.since + 60000000000 ≤ u.clk.mono)

/-- HANDBACK_QUIET_POINT (R48): with the home flag set and the first candidate a pilot that has been ready for 60 s, at a quiet point the holder hands the role
back. A failure that arrives during the hand-back ends it: the holder asks for its lease again. `calm` says what no state of the holder shows: no route
version is on its way, and no failure elsewhere in the scope is open. -/
def handbackQuietPoint (role : Nat) (calm : Bool) (u : Units) : Units :=
  let r := u.roleOf role
  if !r.holding then u
  else if calm && u.roleQuiet role then
    if r.home && r.pilot ≠ 0 && r.cands.head? = some r.pilot && !r.stopped && !r.rebuilding &&
        (match r.pilotSince with | some t => decide (t + 60000000000 ≤ u.clk.mono) | none => false) then u.handBack role
    else u
  else if r.handing then
    (u.setRole role { r with reqSeq := wrapW 32 (r.reqSeq + 1), waiting := true, handing := false }).askLease role (wrapW 32 (r.reqSeq + 1))
  else u

/-- ROLLOUT_POD_SOAK (R60): 15 minutes of version N at every T3 of the pod, without a recovery that the rollout caused, let the next pod start. -/
def rolloutPodSoak (caused : Bool) (u : Units) : Units :=
  match u.role.rollout with
  | none => u
  | some (pod, version, step) =>
    if !(u.actsAs 0x30000000) || step ≠ 5 || caused || u.role.rolloutHold then u
    else match u.podAfter (some pod) with
      | some next => u.rollSend next version 1
      | none => (u.upR fun x => { x with rollout := none }).journalRole 0x30000000 [14, pod, version, 6]

/-- ROLE_QUIET_POINT (R59, R513): a feature set that waits for the role's quiet point is used by the role, and it is in force when every role uses it; a
role amendment held for the point applies. -/
def roleQuietPoint (role : Nat) (u : Units) : Units :=
  let f := u.role.lastFeats
  let u := u.upRole role fun r =>
    let r := { r with feats := if r.featWait then f else r.feats, featWait := false }
    match r.candWait with
    | some (c, w, wi, st, home) => { r with cands := c, wcands := w, witness := wi, standby := st, home := home, candWait := none }
    | none => r
  if u.role.featNext.isSome && !((NMap.vals u.role.role).any fun r => r.featWait) then u.upR fun x => { x with featSet := f, featNext := none } else u

/-! Commands of Table 2-13 -/

/-- A role identifier of Table 2-9. -/
def roleIdOk (id : Nat) : Bool := id / 2 ^ 28 = 1 || id / 2 ^ 28 = 2 || id = 0x30000000

/-- ROLE_DRILL (0x0208, R46, R57): carried to the pilot of the named role, which drills now and at the interval. -/
def roleDrill (c : Cmd) (role hours : Nat) (u : Units) : Units :=
  u.operator c 0 0x0208 fun u =>
    let r := u.roleOf role
    if !(roleIdOk role) || 8760 < hours then u.done c 0 0x0208 St.BAD_PARAM
    else if r.pilot = 0 then u.done c 0 0x0208 St.BAD_STATE
    else
      let u := u.setRole role { r with drillHours := hours, drillCmd := some (c.ring, c.tag, c.stamp, c.gen) }
      -- no message of the spec carries a drill to another pilot: the assumption log, entry 168
      if r.pilot = u.self then u.drillStart role else u.emit (.bus 11 [r.pilot, role, hours])

/-- A standing-order entry read from its 32 bytes (Table 2-6). -/
def soEntryOf (b : List Nat) : SoEntry :=
  let f := fun o n => leNat ((b.drop o).take n)
  { trigger := f 0 2, level := f 2 1, cls := f 3 1, action := f 4 2, flags := f 6 2, scope := f 8 4, a := f 12 4, b := f 16 4, timeout := f 20 4 }

/-- SO_LOAD (0x0209, R55, R57, Table 2-12): the table at a Mantle address is checked and passed to the keeper or the
lighthouse; `sigOk` and `keyOperator` are what its signature shows. -/
def soLoad (c : Cmd) (addr len : Nat) (sigOk keyOperator : Bool) (m : Mem) (u : Units) : Mem × Units :=
  (m, u.operator c 0 0x0209 fun u =>
    if !(u.mayAccess Ag.lamp addr len false) then u.done c 0 0x0209 St.NOT_PRIVILEGED
    else
      let b := m.bytesAt addr (min len 131200)
      let f := fun o n => leNat ((b.drop o).take n)
      let version := f 0 4
      let n := f 4 2
      let scope := f 6 1
      let pod := f 8 4
      let es := (List.range (min n 4096)).map fun i => soEntryOf ((b.drop (32 + 32 * i)).take 32)
      if u.poisoned addr len then u.done c 0 0x0209 St.INTEGRITY_CRC
      else if 4096 < n || len ≠ 128 + 32 * n || 1 < scope || f 7 1 = 0 || 16 < f 7 1 || (scope = 1 && pod ≠ 0) then
        u.done c 0 0x0209 St.BAD_PARAM
      else
        let st := soCheck (u.soTable scope).version version scope sigOk keyOperator es
        if st ≠ St.OK then u.done c 0 0x0209 st
        else
          let u := u.upR fun x => { x with soCmds := x.soCmds ++ [(version * 2 + scope, c.ring, c.tag, c.stamp, c.gen)] }
          if (u.roleOf (u.soRole scope)).holding then u.soSpread version scope pod none es
          else u.toRole (u.soRole scope) 0x38 len ([version, n, scope, pod] ++ es.flatMap SoEntry.words))

/-- A held action by its identifier. -/
def Units.heldAct (u : Units) (id : Nat) : Option HeldAct := u.role.held.find? fun h => h.id = id

/-- Remove a held action. -/
def Units.dropHeld (u : Units) (id : Nat) : Units := u.upR fun x => { x with held := x.held.filter fun h => h.id ≠ id }

/-- SO_PROCEED (0x020A, R57, Table 2-7): the held action is executed. -/
def soProceed (c : Cmd) (id : Nat) (u : Units) : Units :=
  u.operator c 0 0x020A fun u =>
    match u.heldAct id with
    | some h => ((u.dropHeld id).later (.held h)).done c 0 0x020A St.OK
    | none => u.done c 0 0x020A St.BAD_STATE

/-- SO_CANCEL (0x020B, R57): the held action is cancelled, outcome 3. -/
def soCancel (c : Cmd) (id : Nat) (u : Units) : Units :=
  u.operator c 0 0x020B fun u =>
    match u.heldAct id with
    | some h => ((u.dropHeld id).soRecord h.entry.trigger h.level h.entry.action 2 3 id).done c 0 0x020B St.OK
    | none => u.done c 0 0x020B St.BAD_STATE

/-- SO_HOLD_TIMEOUT (Table 2-7): the action is cancelled, outcome 4. -/
def soHoldTimeout (id : Nat) (u : Units) : Units :=
  match u.heldAct id with
  | some h => if h.timed then (u.dropHeld id).soRecord h.entry.trigger h.level h.entry.action 2 4 id else u
  | none => u

/-- FEATURE_REMOVE (0x020C, R57, R59): carried to the lighthouse, which distributes the set without the feature. -/
def featureRemove (c : Cmd) (bit : Nat) (u : Units) : Units :=
  u.operator c 0 0x020C fun u =>
    if 256 ≤ bit || !(bitAt ((u.role.featNext.map (·.2)).getD u.role.featSet) bit) then u.done c 0 0x020C St.BAD_PARAM
    else if (u.roleOf 0x30000000).holding then
      ((u.upR fun x => { x with removed := x.removed ++ [bit] }).spreadFeatures).done c 0 0x020C St.OK
    else
      (u.upR fun x => { x with featCmds := x.featCmds ++ [(bit, c.ring, c.tag, c.stamp, c.gen)] }).emit
        (.bus 12 [(u.roleOf 0x30000000).holder, bit])

end Sys2Proof.Machine
end

