-- ==== Sys2Proof/Machine/VigilOps.lean ====
section
/-!
DEFINITION. Vigil and the Snuffer (12_vigil_and_snuffer): heartbeats, probes and declarations, progress and stalls, circles of
waits, containment and its escalation, peer-fault notices, and their commands.
-/
namespace Sys2Proof.Machine

/-! Small operations -/

/-- Beacon time now, packed (R427). -/
def Units.now (u : Units) : Nat := (u.clk.sec % 2 ^ 34) * 2 ^ 30 + u.clk.ns

/-- Vigil's view of a port. -/
def Units.vp (u : Units) (p : Nat) : VPort := NMap.getD u.vig.port p VPort.reset

/-- Change it. -/
def Units.upVp (u : Units) (p : Nat) (f : VPort → VPort) : Units :=
  u.upV fun v => { v with port := NMap.updD v.port VPort.reset p f }

/-- Watch entry of a context. -/
def Units.watchOf (u : Units) (p c : Nat) : Option Watch := NMap.find u.vig.watch (64 * p + c)

/-- Change it. -/
def Units.upWatchE (u : Units) (p c : Nat) (f : Watch → Watch) : Units :=
  u.upV fun v => { v with watch := NMap.upd v.watch (64 * p + c) f }

/-- Job of a context's watch entry, 0 when it is not watched. -/
def Units.jobOf (u : Units) (p c : Nat) : Nat := match u.watchOf p c with | some w => w.job | none => 0

/-- Jobs watched on a port (`c` 0xFF) or in one context, each once. -/
def Units.jobsOn (u : Units) (p c : Nat) : List Nat :=
  (u.vig.watch.filter fun e => e.1 / 64 = p && (c = 0xFF || e.1 % 64 = c) && e.2.job ≠ 0).foldl
    (fun l e => if l.contains e.2.job then l else l ++ [e.2.job]) []

/-- Last released step of a job at this T3 (Table 10-5). -/
def Units.released (u : Units) (job : Nat) : Nat := match NMap.find u.wick.jobs job with | some j => j.released | none => 0

/-- A compute-part reset runs. -/
def Units.cprRunning (u : Units) (p : Nat) : Bool := (u.ig p).resets.any fun r => r.kind = 2

/-- Timers freeze while Health reads 3, a RESET runs, or the job is held (R293); a freeze that ends resumes from zero. -/
def Units.refreeze (u : Units) (p : Nat) : Units :=
  u.upV fun v => { v with watch := NMap.mapV v.watch fun k w =>
    if k / 64 ≠ p then w
    else
      let f := (NMap.getD v.port p VPort.reset).health = 3 || u.resetting p (k % 64) ||
        (match NMap.find u.wick.jobs w.job with | some j => j.held | none => false)
      if w.frozen && !f then { w with frozen := false, stalled := false } else { w with frozen := f } }

/-- A progress mark (R292): counted when its mask bit is set. -/
def Units.progress (u : Units) (p c mark : Nat) : Units :=
  u.upWatchE p c fun w =>
    if bitAt w.mask mark then { w with lastProg := u.now, stalled := false, query := false, broken := false } else w

/-! Generations and resets (R64, R65, R75-R77, R300, R301) -/

/-- Install a new context generation in the port and the owner's regions (R65, R123). -/
def Units.installCtx (u : Units) (p c : Nat) : Units :=
  let g := wrapW 16 (u.ctxGen p c + 1)
  let job := u.jobOf p c
  let u := u.upV fun v => { v with ctxGen := NMap.put v.ctxGen 0 (64 * p + c) g, genStart := NMap.put v.genStart 0 (64 * p + c) u.now }
  let u := u.upWatchE p c fun w => { w with gen := g, genStart := u.now }
  let u := if job = 0 then u else u.setCtxTag job (u.cidOf p) c g
  u.later (.bump 0 (u.cidOf p) c g)

/-- Install a new accelerator generation. -/
def Units.installAcc (u : Units) (p : Nat) : Units :=
  let g := wrapW 16 (u.accGen p + 1)
  (u.upV fun v => { v with accGen := NMap.put v.accGen 0 p g }).later (.bump 1 (u.cidOf p) 0xFF g)

/-- Contexts enabled on a port. -/
def Units.enabledOn (u : Units) (p : Nat) : List Nat := (List.range 64).filter fun c => u.ctxEnabled p c

/-- Complete the SNUF_RESET commands of a port whose resets have ended (R311). -/
def Units.resetCmdsDone (u : Units) (p status : Nat) (which : Nat → Bool) : Units :=
  let fin := u.vig.resetCmds.filter fun x => x.1 = p && which x.2.1
  let u := u.upV fun v => { v with resetCmds := v.resetCmds.filter fun x => !(x.1 = p && which x.2.1) }
  fin.foldl (fun u x => u.done { ring := x.2.2.1, tag := x.2.2.2.1, stamp := x.2.2.2.2.1, gen := x.2.2.2.2.2 } 0x078 0x0703 status) u

/-- The RESET message (Table 3-9): its header carries the generations before the new one was installed (R65). Only an active block is sent one (R61). -/
def Units.resetMsg (u : Units) (p : Nat) (r : ResetOut) : Units :=
  if u.mayS p 0x0D then
    u.sendHead p { u.sconceHead p 0x0D r.ctx 0 r.seq 16 with ctxGen := r.ctxGen, accGen := r.accGen }
      [r.kind, b2n r.report, r.newGen, if r.kind = 1 then r.released else 0]
  else u

/-- Send a RESET (R75); a compute-part reset takes over the context resets that run (R77). Shard fingerprints are asked of a block that has the
feature (R63). -/
def Units.sendReset (u : Units) (p kind ctx newGen released oldCtx oldAcc : Nat) (report : Bool) : Units :=
  let n := (u.ig p).nextSeq
  let r : ResetOut := { kind := kind, ctx := ctx, newGen := newGen, report := report && (u.ig p).has 6, released := released, seq := n, resent := false,
                        ctxGen := oldCtx, accGen := oldAcc }
  let u := if kind = 2 then u.resetCmdsDone p St.ABORTED_RESET (fun c => c ≠ 0xFF) else u
  let u := u.upIg p fun g => { g with nextSeq := wrapW 16 (n + 1), resets := (if kind = 2 then [] else g.resets.filter fun x => x.ctx ≠ ctx) ++ [r] }
  let u := u.count (if kind = 2 then 0x780110 else 0x780108)
  (u.resetMsg p r).refreeze p

/-- A port hosts mirrored state: some shard here has a replica context on it (R300 step 3). -/
def Units.mirroredOn (u : Units) (p : Nat) : Bool :=
  u.wick.shards.any fun s => bitAt s.2.roles 0 && (s.2.members.any fun x => u.portOf x.1 = some p)

/-- Reset one context (R301, R311): new generation, RESET of kind 1 with the released step, and the abort of its commands. -/
def Units.resetCtx (u : Units) (p c : Nat) (report : Bool) (released : Nat) : Units :=
  let og := u.ctxGen p c
  let u := u.installCtx p c
  (u.sendReset p 1 c (u.ctxGen p c) released og (u.accGen p) report).ringContextAbort p c (u.ctxGen p c)

/-- Reset the compute part (R300): generations of the accelerator and of every context. -/
def Units.installAll (u : Units) (p : Nat) : Units := (List.range 64).foldl (fun u c => u.installCtx p c) (u.installAcc p)

/-- Abort the command rings of every context of a port under their generations (R459). -/
def Units.abortAll (u : Units) (p : Nat) (cs : List Nat) : Units := cs.foldl (fun u c => u.ringContextAbort p c (u.ctxGen p c)) u

/-! Fault notices -/

/-- The fault notice of a containment for one job (Table 12-6); sequence and role epoch are 0 in FAULT_UP (R308). -/
def Units.notice (u : Units) (kind level p ctx status job : Nat) : Notice :=
  let tag := if ctx = 0xFF then (u.vp p).tag else match u.watchOf p ctx with | some w => w.tag | none => 0xFFFFFFFF
  { kind := kind, level := level, cid := u.cidOf p, ctx := ctx, accGen := u.accGen p,
    ctxGen := if kind = 1 then 0 else u.ctxGen p ctx, status := status, job := job, released := u.released job, time := u.now,
    tag := tag, seq := 0, epoch := 0, reporter := u.self }

/-- The fields of a notice in table order. -/
def Notice.words (n : Notice) : List Nat :=
  [n.kind, n.level, n.cid, n.ctx, n.accGen, n.ctxGen, n.status, n.job, n.released, n.time, n.tag, n.seq, n.epoch, n.reporter]

/-- Member CIDs of a job's gate group as this T3 holds it (R248, R314). -/
def Units.gateMembers (u : Units) (job : Nat) : List Nat :=
  match u.coll.groups.find? fun g => bitAt g.2.flags 0 && g.2.job = job with
  | some g => g.2.members
  | none => []

/-- Send FAULT_UP to the keeper, one for each affected job (R300 step 4), with the members of the job's gate group (R314). -/
def Units.faultUp (u : Units) (kind level p ctx status : Nat) (jobs : List Nat) : Units :=
  jobs.foldl (fun u j => u.toRole u.role.keeperId 0x43 64
    ((u.notice kind level p ctx status j).words ++ u.gateMembers j)) u

/-! Containment (R300-R305) -/

/-- Fence a port (R302): the Wick's block credits are withdrawn. -/
def Units.fence (u : Units) (p : Nat) : Units :=
  if u.fenced p then u
  else
    { (u.upV fun v => { v with fenced := setBit v.fenced p, clean := clrBit v.clean p }).count 0x780100 with
      link := { u.link with granted := u.link.granted.filter fun g => g.1 / 256 ≠ p } }

/-- Record SNUF_CONTAINED for each affected job (R304, Table 24-8): outcome 0 L0 confirmed, 1 L1 confirmed, 2 cycle break,
3 lost. -/
def Units.containReport (u : Units) (x : Contain) (outcome : Nat) : Units :=
  let cid := u.cidOf x.port
  let ctx := if x.level = 1 then 0 else x.ctx % 64
  (if x.jobs.isEmpty then [0] else x.jobs).foldl (fun u j =>
    u.raise Ev.SNUF_CONTAINED x.level 0x078 (payloadOf [(0, 4, j), (4, 3, cid), (7, 1, ctx + 64 * outcome)]) []
      { Target.none with job := j, cid := cid, port := x.port, ctx := x.ctx, outcome := outcome }) u

/-- A position is lost (R303, R304): `cause` of Table 24-8. The fence stays; every containment of the port ends lost. -/
def Units.lose (u : Units) (p cause : Nat) : Units :=
  let open_ := u.vig.contains.filter fun x => x.port = p
  let jobs := u.jobsOn p 0xFF
  let u := u.fence p
  let u := u.upV fun v => { v with lost := setBit v.lost p, contains := v.contains.filter fun x => x.port ≠ p }
  let u := ((u.upIg p fun g => { g with resets := [] }).resetCmdsDone p St.ABORTED_RESET fun _ => true).refreeze p
  let u := (u.count 0x780128).raise Ev.SNUF_ACC_LOST 1 0x078
    (payloadOf [(0, 1, p), (2, 2, u.accGen p), (4, 3, u.cidOf p), (7, 1, cause)])
  (if open_.isEmpty then [{ port := p, ctx := 0xFF, level := 1, bumped := true, brk := false, jobs := jobs, open_ := 0, served := false }] else open_).foldl
    (fun u x => u.containReport x 3) u

/-- Containments whose last reset is confirmed end (R304). -/
def Units.containCheck (u : Units) (p : Nat) : Units :=
  let excess := fun (x : Contain) => x.port = p && x.bumped &&
    (if x.level = 1 then (u.ig p).resets.isEmpty else !(u.resetting p x.ctx))
  let fin := u.vig.contains.filter excess
  let u := u.upV fun v => { v with contains := v.contains.filter fun x => !(excess x) }
  fin.foldl (fun u x => u.containReport x (if x.brk then 2 else x.level)) u

/-- Contain a failed accelerator (R300 steps 1 and 2): fence, new generations, tag bumps; a block without the compute-part reset is treated as one of
protocol 1 (R63). Containments of its contexts are
covered by it (R310). -/
def Units.containL1 (u : Units) (p : Nat) : Units :=
  if bitAt u.vig.lost p || u.vig.contains.any fun x => x.port = p && x.level = 1 then u
  else
    let x : Contain := { port := p, ctx := 0xFF, level := 1, bumped := false, brk := false, jobs := u.jobsOn p 0xFF, open_ := 0, served := false }
    let u := (u.fence p).upV fun v => { v with contains := (v.contains.filter fun y => y.port ≠ p) ++ [x] }
    let u := if (u.ig p).has 5 then u.installAll p else (u.enabledOn p).foldl (fun u c => u.installCtx p c) u
    u.later (.contained p 0xFF 1)

/-- Free the regions that a torn-down owner holds; their zeroing is charged to DETECT, and a job's regions stay (R306). -/
def Units.freeOwner (u : Units) (cid ctx : Nat) : Units :=
  let mine := u.mantle.regions.filter fun r => (r.2.ownerKind = 0 && r.2.ownerCid = cid && (ctx = 0xFF || r.2.ownerCtx = ctx)) ||
    (ctx = 0xFF && r.2.ownerKind = 1 && r.2.ownerCid = cid)
  if cid = 0 then u else mine.foldl (fun u r => u.freeRegion r.1 4) u

/-- GENERATION_BUMP_ACK (R123, R300 steps 3 and 4, R306): the acknowledgement lets the Snuffer send the resets and FAULT_UP of
an L1 declaration, and free the owner's regions, as at any other reset that runs. With no context to reset, the position is lost at once (R304). -/
def generationBumpAck (port ctx : Nat) (u : Units) : Units :=
  match u.vig.contains.find? fun x => x.port = port && x.ctx = ctx && !x.bumped with
  | none => if (if ctx < 64 then u.resetting port ctx else u.cprRunning port) then u.freeOwner (u.cidOf port) ctx else u
  | some x =>
    let u := u.upV fun v => { v with contains := v.contains.map fun y => if y.port = port && y.ctx = ctx then { y with bumped := true } else y }
    if x.level = 0 then (u.freeOwner (u.cidOf port) ctx).containCheck port
    else
      let cs := u.enabledOn port
      let old := fun c => wrapW 16 (u.ctxGen port c + 2 ^ 16 - 1)
      let whole := (u.ig port).has 5
      let u := if !whole then
          (cs.foldl (fun u c => u.sendReset port 1 c (u.ctxGen port c) (u.released (u.jobOf port c)) (old c) (u.accGen port) false) u).abortAll port cs
        else
          (u.sendReset port 2 0xFF (u.accGen port) 0 0 (wrapW 16 (u.accGen port + 2 ^ 16 - 1)) (u.mirroredOn port)).abortAll port (List.range 64)
      let u := (u.faultUp 1 1 port 0xFF St.ABORTED_RESET x.jobs).later (.candidate port 0xFF)
      let u := u.freeOwner (u.cidOf port) 0xFF
      if !whole && cs.isEmpty then u.lose port 1 else u

/-- Vigil declares an accelerator failed at L1 (R289, R290), once; the Snuffer contains it. -/
def Units.declareL1 (u : Units) (p cause tag : Nat) : Units :=
  if (u.vp p).state = 3 then u
  else
    let u := u.upVp p fun x => { x with state := 3, cause := cause, tag := tag }
    let u := (u.upIg p fun g => { g with regs := g.regs.filter fun r => r.why ≠ .probe }).count 0x700118
    let x := u.vp p
    let u := (u.later (.outcome 0 p)).raise Ev.VIGIL_ACC_FAILED 1 0x070
      (payloadOf [(0, 1, p), (1, 1, x.misses), (2, 1, x.probes), (3, 1, cause), (4, 2, u.accGen p)])
    u.containL1 p

/-- Vigil declares a context failed at L0 (R293): contained in the order of R301. A reset that runs serves the declaration;
one contained at L1 needs nothing more. -/
def Units.declareL0 (u : Units) (p c tag : Nat) : Units :=
  if u.fenced p || (u.vp p).state = 3 || u.vig.contains.any fun x => x.port = p && (x.level = 1 || x.ctx = c) then u
  else
    let job := u.jobOf p c
    let u := (u.upWatchE p c fun w => { w with tag := tag }).count 0x700120
    let u := u.raise Ev.VIGIL_CTX_FAILED 0 0x070 (payloadOf [(0, 4, job), (4, 1, p), (5, 1, c), (6, 2, u.ctxGen p c)])
    let served := u.resetting p c
    let x : Contain := { port := p, ctx := c, level := 0, bumped := served, brk := false, jobs := u.jobsOn p c, open_ := 1, served := served }
    let u := u.upV fun v => { v with contains := v.contains ++ [x] }
    let u := if served then u.ringContextAbort p c (u.ctxGen p c) else u.resetCtx p c false (u.released job)
    ((u.faultUp 2 0 p c St.ABORTED_RESET x.jobs).later (.contained p c 0)).later (.candidate p c)

/-! Heartbeats, misses and probes (R287-R290) -/

/-- VIGIL_CFG (reset 3 misses, 3 probes, 500 us). -/
def Units.vigilCfg (u : Units) : Nat := u.cfg 0x700008 (3 + 3 * 16 + 500 * 256)

/-- Send the next probe (R289): none while the port is not ACTIVE, its wait runs all the same. -/
def Units.probe (u : Units) (p : Nat) : Units :=
  let u := u.upVp p fun x => { x with probes := x.probes + 1 }
  if (u.port p).state = 4 then (u.regAccess p 0 false 1 [] .probe).count 0x700110 else u

/-- The accelerator becomes suspect (R287, R288) and is probed. -/
def Units.suspect (u : Units) (p cause : Nat) : Units :=
  if (u.vp p).state ≠ 1 then u
  else
    let u := u.upVp p fun x => { x with state := 2, probes := 0, cause := cause }
    (u.raise Ev.VIGIL_SUSPECT 1 0x070
      (payloadOf [(0, 1, p), (1, 1, (u.vp p).misses), (3, 1, cause), (4, 2, u.accGen p)])).probe p

/-- The suspicion ends (R289). -/
def Units.clearSuspect (u : Units) (p : Nat) : Units :=
  let x := u.vp p
  let u := u.upVp p fun x => { x with misses := 0 }
  if x.state ≠ 2 then u
  else
    ((u.upVp p fun x => { x with state := 1, probes := 0 }).upIg p fun g => { g with regs := g.regs.filter fun r => r.why ≠ .probe }).raise
      Ev.VIGIL_SUSPECT_CLEARED 1 0x070 (payloadOf [(0, 1, p), (1, 1, x.misses), (2, 1, x.probes), (3, 1, x.cause), (4, 2, u.accGen p)])

/-- HEARTBEAT (R67, R287, R289, R290): an accepted heartbeat ends misses and suspicion; Health 3 without a compute-part reset
of this T3 is a severity 3 fault; a watched context that leaves the live bitmap without a RESET is failed at L0. -/
def heartbeat (h : Sys2Proof.SHdr) (_seq live health _flags : Nat) (u : Units) : Units :=
  u.recvS h 0x01 fun u =>
    let p := h.port
    let u := u.count 0x700100
    let was := (u.vp p).live
    let u := (u.upVp p fun x => { x with live := live, health := health }).refreeze p
    if (u.vp p).state = 3 then u.upVp p fun x => { x with misses := 0 }
    else
      let u := u.clearSuspect p
      if health = 3 && !(u.cprRunning p) then u.declareL1 p 4 0xFFFFFFFF
      else
        let gone := (List.range 64).filter fun c => bitAt was c && !(bitAt live c) && (u.watchOf p c).isSome && !(u.resetting p c)
        gone.foldl (fun u c => u.declareL0 p c 0xFFFFFFFF) u

/-- HB_MISS_INTERVAL (R287, R288): counted of a block that ACTIVE was set at, in a full retrain, DOWN and HELD too, and not in a fast retrain, in a
lane change or at a disabled port. -/
def hbMissInterval (port : Nat) (u : Units) : Units :=
  let s := (u.port port).state
  if !((u.ig port).active || (u.vp port).state = 1 || (u.vp port).state = 2) || s = 0 || s = 5 || s = 6 then u
  else
    let u := (u.upVp port fun x => { x with misses := min 15 (x.misses + 1) }).count 0x700108
    if bits u.vigilCfg 3 0 ≤ (u.vp port).misses then u.suspect port 0 else u

/-- PROBE_WAIT_EXPIRY (R289): the next probe, or after the last the declaration. -/
def probeWaitExpiry (port : Nat) (u : Units) : Units :=
  let x := u.vp port
  if x.state ≠ 2 then u
  else
    let u := u.upIg port fun g => { g with regs := g.regs.filter fun r => r.why ≠ .probe }
    if x.probes < bits u.vigilCfg 7 4 then u.probe port else u.declareL1 port x.cause 0xFFFFFFFF

/-- FAULT_REPORT (R290, R552): recorded with its severity; 0 and 1 go to Flicker, 2 declares its context at L0 (all contexts:
as 3), 3 and the reserved ones declare the accelerator at L1. -/
def faultReport (h : Sys2Proof.SHdr) (code severity ctx tag _time detail : Nat) (u : Units) : Units :=
  u.recvS h 0x07 fun u =>
    let tag := (u.ig h.port).opTag tag
    let u := (u.emit (.bus 15 [h.port, code, severity, ctx, tag, detail])).later (.flickerFault h.port code severity)
    if severity ≤ 1 then u
    else if severity = 2 && ctx < 64 then u.declareL0 h.port ctx tag
    else u.declareL1 h.port (if severity = 2 then 3 else 2) tag

/-! Reset confirms and the ladder (R76, R77, R303, R304) -/

/-- RESET_CONFIRM (R76, R77): OK ends the reset, lets held commands start (R457) and may end containment; ABORTED_RESET says
that a compute-part reset has taken it over; BUSY_RETRY and the other statuses confirm nothing. -/
def resetConfirm (h : Sys2Proof.SHdr) (kind status _gen _duration : Nat) (u : Units) : Units :=
  u.recvS h 0x0E fun u =>
    let p := h.port
    match (u.ig p).resets.find? fun r => r.seq = h.seq && r.kind = kind with
    | none => u
    | some r =>
      let u1 := u.upIg p fun g =>
        { g with resets := g.resets.filter fun x => x.seq ≠ r.seq,
                 applyStep := if kind = 1 then NMap.put g.applyStep 0 r.ctx r.released else g.applyStep }
      if status = St.OK then
        let u := (u1.upV fun v => { v with clean := setBit v.clean p }).refreeze p
        let u := (u.releaseRun p (if kind = 2 then 0xFF else r.ctx)).ctlAll p
        let u := if (u.ig p).resets.isEmpty then u.resetCmdsDone p St.OK fun _ => true else u.resetCmdsDone p St.OK fun c => c = r.ctx
        (u.later (.confirmed p r.ctx)).containCheck p
      else if status = St.ABORTED_RESET && kind = 1 then (u1.resetCmdsDone p St.ABORTED_RESET fun c => c = r.ctx).refreeze p
      else u

/-- RESET_CONFIRM_WAIT_EXPIRY (R76, R303): the RESET is sent once more with the same content; then RESET_NO_CONFIRM, and the
Snuffer escalates: an unconfirmed context reset of protocol 2 becomes an L1 declaration when CPR_ON_CTX_FAIL is set, else the
position is lost. -/
def resetConfirmWaitExpiry (port kind ctx : Nat) (u : Units) : Units :=
  match (u.ig port).resets.find? fun r => r.kind = kind && (kind = 2 || r.ctx = ctx) with
  | none => u
  | some r =>
    if !r.resent then
      (u.upIg port fun g => { g with resets := g.resets.map fun x => if x.seq = r.seq then { x with resent := true } else x }).resetMsg port r
    else
      let u := (u.count 0x780118).raise Ev.RESET_NO_CONFIRM (if kind = 2 then 1 else 0) 0x078 0
      if kind = 1 && (u.ig port).has 5 && bitAt (u.cfg 0x78000C 1) 0 then
        let u := (u.upIg port fun g => { g with resets := g.resets.filter fun x => x.seq ≠ r.seq }).resetCmdsDone port St.ABORTED_RESET fun c => c = r.ctx
        let u := u.upV fun v => { v with contains := v.contains.filter fun x => !(x.port = port && x.ctx = r.ctx) }
        u.declareL1 port 0 0xFFFFFFFF
      else u.lose port 0

/-! Progress (R292, R293) -/

/-- A context of a block that answers wait-for queries is asked what it waits for (R63, R296). -/
def Units.askWait (u : Units) (p c : Nat) : Units :=
  if (u.ig p).has 10 then
    (u.upWatchE p c fun w => { w with query := true, replied := false }).igSend p 0x11 c 8 []
  else u

/-- PROGRESS_HALF_TIMEOUT (R293): the context is stalled; IGTAN_GATE_WAIT is read first. -/
def progressHalfTimeout (port ctx : Nat) (u : Units) : Units :=
  match u.watchOf port ctx with
  | none => u
  | some w =>
    if w.frozen || w.stalled then u
    else
      let u := (u.upWatchE port ctx fun w => { w with stalled := true }).raise Ev.VIGIL_CTX_STALLED 0 0x070
        (payloadOf [(0, 4, w.job), (4, 1, port), (5, 1, ctx), (6, 2, w.gen)])
      u.regAccess port 0x20 false 2 [] (.gateWait ctx)

/-- PROGRESS_TIMEOUT (R293, R310): no mark for T and no cycle broken for the context: failed at L0. -/
def progressTimeout (port ctx : Nat) (u : Units) : Units :=
  match u.watchOf port ctx with
  | none => u
  | some w => if w.frozen || w.broken then u else u.declareL0 port ctx 0xFFFFFFFF

/-- RING_ENTRY_UNCONSUMED (R293): a ring that a watched context consumes has held an entry for T. -/
def ringEntryUnconsumed (ring : Nat) (u : Units) : Units :=
  let d := u.desc ring
  if 16 ≤ d.port || 64 ≤ d.context then u
  else match u.watchOf d.port d.context with
    | none => u
    | some w => if w.frozen || d.q.isEmpty then u else u.declareL0 d.port d.context 0xFFFFFFFF

/-- WAITFOR_REPEAT (R296): every T/2 while the context stays stalled. -/
def waitforRepeat (port ctx : Nat) (u : Units) : Units :=
  match u.watchOf port ctx with
  | some w => if w.stalled && !w.frozen then u.askWait port ctx else u
  | none => u

/-! Circles of waits (R296-R299) -/

/-- Path entry of a context (Table 12-7): CID, context, priority, generation, generation start. -/
def Units.pathEntry (u : Units) (p c : Nat) (w : Watch) : List Nat := [u.cidOf p, c, w.priority, w.gen, w.genStart]

/-- Whether an edge's target stands in a path entry. -/
def edgeHits (e : Sys2Proof.WaitEdge) (x : List Nat) : Bool := x.getD 0 0 = e.target && (e.ctx = 0xFF || x.getD 1 0 = e.ctx)

/-- The path from the first entry that the edge hits (R297). -/
def cycleFrom (e : Sys2Proof.WaitEdge) : List (List Nat) → List (List Nat)
  | [] => []
  | x :: r => if edgeHits e x then x :: r else cycleFrom e r

/-- Entry `a` is preferred to `b` as victim (R298): lowest priority, then latest generation start, then highest CID, then
highest context. -/
def victimBefore (a b : List Nat) : Bool :=
  let k := fun (x : List Nat) (i : Nat) => x.getD i 0
  if k a 2 ≠ k b 2 then decide (k a 2 < k b 2)
  else if k a 4 ≠ k b 4 then decide (k b 4 < k a 4)
  else if k a 0 ≠ k b 0 then decide (k b 0 < k a 0)
  else decide (k b 1 < k a 1)

/-- The victim of a cycle. -/
def victim : List (List Nat) → List Nat
  | [] => []
  | x :: r => match victim r with
    | [] => x
    | y => if victimBefore x y then x else y

/-- Break the waits on a victim here (R299): still stalled and of that generation, it is reset with a context reset and its
notice goes out with kind 3 and BUSY_RETRY; otherwise the break is stale. -/
def Units.breakVictim (u : Units) (cid ctx gen : Nat) : Option Units :=
  match u.portOf cid with
  | none => none
  | some p => match u.watchOf p ctx with
    | none => none
    | some w =>
      if !w.stalled || w.gen ≠ gen || u.fenced p || u.resetting p ctx then none
      else
        let u := (u.upWatchE p ctx fun w => { w with broken := true }).resetCtx p ctx false (u.released w.job)
        let x : Contain := { port := p, ctx := ctx, level := 0, bumped := false, brk := true, jobs := [w.job], open_ := 1, served := false }
        let u := u.upV fun v => { v with contains := v.contains ++ [x] }
        let u := (u.count 0x700128).raise Ev.VIGIL_CYCLE_BROKEN 0 0x070 (payloadOf [(0, 4, w.job), (4, 1, p), (5, 1, ctx), (6, 2, gen)])
        some (u.faultUp 3 0 p ctx St.BUSY_RETRY [w.job])

/-- A cycle is found (R298): VIGIL_CYCLE_FOUND with the whole cycle, WAIT_BREAK to the T3 of the victim. -/
def Units.cycleFound (u : Units) (pid : Nat) (cyc : List (List Nat)) : Units :=
  let v := victim cyc
  let k := fun (x : List Nat) (i : Nat) => x.getD i 0
  let u := u.raise Ev.VIGIL_CYCLE_FOUND 0 0x070 (payloadOf [(0, 4, pid), (4, 3, k v 0), (7, 1, cyc.length)])
    (cyc.map fun x => payloadOf [(0, 3, k x 0), (3, 1, k x 1), (4, 1, k x 2), (6, 2, k x 3)])
  let t := u.servedBy (k v 0)
  if t = u.self then (u.breakVictim (k v 0) (k v 1) (k v 3)).getD u
  else u.reqL t 0x47 32 2 (v ++ [pid, u.self, cyc.length])

/-- Extend a probe's path by a stalled context and send it on along each of its waits (R297). -/
def Units.extend (u : Units) (origin pid job : Nat) (path : List (List Nat)) (p c : Nat) (w : Watch) : Units :=
  let path := path ++ [u.pathEntry p c w]
  let maxp := bits (u.cfg 0x70000C (16 + 256)) 4 0
  if !(bitAt (u.cfg 0x70000C (16 + 256)) 8) then u else
  w.edges.foldl (fun u e =>
    if e.resource = 5 || e.target = 0 then u
    else match cycleFrom e path with
      | [] =>
        if maxp < path.length then u.raise Ev.VIGIL_WAIT_PATH_LONG 0 0x070 (payloadOf [(0, 4, pid), (4, 3, origin), (7, 1, path.length)])
        else u.reqL (u.servedBy e.target) 0x46 (16 + 16 * path.length) 2 ([origin, pid, job, path.length] ++ path.flatten ++ [e.target, e.ctx])
      | cyc => u.cycleFound pid cyc) u

/-- WAITFOR_REPLY (R66, R80, R296, R297): `count` is its edge count and `len` its Length, which must agree; the waits of a stalled context start
probes of its own and carry on those that waited for it. -/
def waitforReply (h : Sys2Proof.SHdr) (count len : Nat) (edges : List Sys2Proof.WaitEdge) (u : Units) : Units :=
  if len ≠ 8 + 16 * count || edges.length ≠ count || 4128 < len then u.msgUnknown h.port
  else u.recvS h 0x12 fun u =>
    match u.watchOf h.port h.ctx with
    | none => u
    | some w =>
      let w := { w with edges := (edges.take 8).map fun e => { e with tag := (u.ig h.port).opTag e.tag }, replyAt := u.clk.mono, replied := true, query := false }
      let u := u.upWatchE h.port h.ctx fun _ => { w with waiting := [] }
      if !w.stalled then u
      else
        let pid := u.vig.probeId + 1
        let u := u.upV fun v => { v with probeId := pid }
        let u := u.extend u.self pid w.job [] h.port h.ctx w
        w.waiting.foldl (fun u x => u.extend x.1 x.2.1 w.job x.2.2 h.port h.ctx w) u

/-- WAIT_PROBE (R297): `target` and `ctx` are what the last edge named; a stalled target with a reply no older than 1 ms sends
the probe on, another is asked first. -/
def waitProbe (h : Sys2Proof.LHdr) (origin pid job : Nat) (path : List (List Nat)) (target ctx : Nat) (u : Units) : Units :=
  u.recvL h 0x46 0 fun u =>
    match u.portOf target with
    | none => u
    | some p =>
      let cs := (List.range 64).filter fun c => (ctx = 0xFF || c = ctx) &&
        (match u.watchOf p c with | some w => w.stalled && (ctx ≠ 0xFF || w.job = job) | none => false)
      cs.foldl (fun u c => match u.watchOf p c with
        | none => u
        | some w =>
          if w.replied && u.clk.mono ≤ w.replyAt + 1000000 then u.extend origin pid job path p c w
          else (u.upWatchE p c fun w => { w with waiting := w.waiting ++ [(origin, pid, path)] }).askWait p c) u

/-- WAIT_BREAK (R299): carried out, or dropped and counted as STALE_GENERATION. -/
def waitBreak (h : Sys2Proof.LHdr) (cid ctx gen _pid _finder : Nat) (u : Units) : Units :=
  u.recvL h 0x47 0 fun u => (u.breakVictim cid ctx gen).getD (u.staleL h)

/-! Answers of the Igtan block -/

/-- REG_RESPONSE (R61, R82, R289, R293): by what its REG_ACCESS was sent for; words read for IGTAN_REG go to the command's
Mantle address. -/
def regResponse (h : Sys2Proof.SHdr) (status : Nat) (words : List Nat) (m : Mem) (u : Units) : Mem × Units :=
  match u.dropS h 0x0A, u.regReq h.port h.seq with
    | some v, _ => (m, v)
    | none, none => (m, u)
    | none, some r =>
      let u := u.dropReg h.port h.seq
      let ok := decide (status = St.OK)
      match r.why with
      | .bringup => (m, u.upStep h.port ok r.offset words)
      | .probe => (m, if ok then u.clearSuspect h.port else u)
      | .ctxCtl c v old => (m, if ok then u else u.ctlRefused h.port c v old status)
      | .key .. => (m, u)
      | .act c => (m, if ok then u.later (.ledgerAct h.port c words) else u)
      | .gateWait c =>
        let v := words.getD 0 0 + 2 ^ 32 * words.getD 1 0
        (m, if ok && bitAt v c then u.upWatchE h.port c fun w => { w with stalled := false } else u.askWait h.port c)
      | .host ring tag stamp gen addr =>
        let c : Sys2Proof.Cmd := { ring := ring, tag := tag, gen := gen, stamp := stamp }
        if ok && !r.write then
          let w := unitWrite Ag.sconce addr ((words.take r.count).flatMap (leBytes 4)) m u
          (w.1, w.2.done c 0x078 0x0708 St.OK)
        else (m, u.done c 0x078 0x0708 status)

/-! T3 heartbeats and probes (R30, R294) -/

/-- LHB_SEND (R30): on every lantern port that is up, and to the warden. -/
def lhbSend (u : Units) : Units :=
  let n := wrapW 32 (u.vig.lhbSeq + 1)
  let u := u.upV fun v => { v with lhbSeq := n }
  let pay := [n, u.role.t3Gen, 0]
  let near := ((List.range 6).map fun i => u.port (16 + i)).filter fun l => l.state = 4 && l.peerCid ≠ 0
  let w := (u.roleOf u.role.wardenId).holder
  let dst := near.map (·.peerCid)
  (if w = 0 || w = u.self || dst.contains w then dst else dst ++ [w]).foldl (fun u d => u.sendL d 0x40 0 0 16 2 pay) u

/-- LHB (R30, R105): the warden's count of misses ends; a generation that differs from the source's route entry is reported to the keeper. -/
def lhb (h : Sys2Proof.LHdr) (_seq gen _health : Nat) (u : Units) : Units :=
  u.recvL h 0x40 0 fun u =>
    if !(u.roleOf u.role.wardenId).holding then u
    else
      let u := u.upWatch h.src fun w => { w with misses := 0, probing := false, failed := false, gen := gen }
      if u.lanternStale { h with srcGen := gen } then u.report u.role.keeperId 4 5 [h.src, gen] else u

/-- LPROBE (R294): answered with the T3 epoch generation. -/
def lprobe (h : Sys2Proof.LHdr) (u : Units) : Units := u.recvL h 0x41 0 fun u => u.sendL h.src 0x42 1 h.seq 8 2 [u.role.t3Gen]

/-- LPROBE_ACK (R30, R294). -/
def lprobeAck (h : Sys2Proof.LHdr) (_gen : Nat) (u : Units) : Units :=
  u.recvL h 0x42 0 fun u =>
    let u := u.upV fun v => { v with lprobes := v.lprobes.filter fun c => c ≠ h.src }
    if NMap.has u.role.watch h.src then u.upWatch h.src fun w => { w with misses := 0, probing := false } else u

/-- LPROBE_WAIT_EXPIRY (R294): the T3 is reported to the warden as suspect; a warden decides under R30. -/
def lprobeWaitExpiry (cid : Nat) (u : Units) : Units :=
  if !(u.vig.lprobes.contains cid) then u
  else
    let u := u.upV fun v => { v with lprobes := v.lprobes.filter fun c => c ≠ cid }
    if (u.roleOf u.role.wardenId).holding then (u.upWatch cid fun w => { w with misses := 5, probing := true }).reqL cid 0x41 8 2 []
    else u.emit (.bus 14 [(u.roleOf u.role.wardenId).holder, cid])

/-- Probe T3s that did not enter a collective (R294). -/
def Units.probeT3s (u : Units) (cids : List Nat) : Units :=
  cids.foldl (fun u c => (u.upV fun v => { v with lprobes := if v.lprobes.contains c then v.lprobes else v.lprobes ++ [c] }).reqL c 0x41 8 2 []) u

/-! Peer-fault notices (R307-R309) -/

/-- Forward a notice as PEER_FAULT to every Igtan block that hosts a watched context of the job (R307). -/
def Units.peerFault (u : Units) (n : Notice) : Units :=
  let ports := (List.range 16).filter fun p => (u.jobsOn p 0xFF).contains n.job
  ports.foldl (fun u p => if u.fenced p || !(u.ig p).active then u else (u.igSend p 0x14 0xFF 64 n.words).count 0x700130) u

/-- Key of a notice's CID and job. -/
def Notice.key (n : Notice) : Nat := n.cid * 2 ^ 32 + n.job

/-- FAULT_UP (R39, R307, R313, R51): a keeper whose outputs wait keeps it until they begin; else the keeper gives the fault the next notice sequence and its role epoch, fences the route of a
failed position, sends PF_NOTICE to the job's T3s and to the other pods' keepers, and opens or joins the job's recovery. -/
def faultUp (h : Sys2Proof.LHdr) (n : Notice) (members : List Nat) (u : Units) : Units :=
  u.recvL h 0x43 0 fun u =>
    let r := u.roleOf u.role.keeperId
    if !r.holding then u
    else if !(u.actsAs u.role.keeperId) then u.toRole u.role.keeperId 0x43 64 (n.words ++ members)
    else
      let n := { n with seq := u.role.noticeSeq + 1, epoch := r.epoch }
      let u := u.upR fun x => { x with noticeSeq := x.noticeSeq + 1 }
      let u := match NMap.find u.role.routes n.cid with
        | some e => if n.kind = 1 then u.issueRoutes [{ e with fenced := true, gen := n.accGen }] else u
        | none => u
      let known := NMap.getD u.vig.jobT3s n.job []
      let t3s := known ++ members.filter fun c => !(known.contains c)
      let keepers := (u.role.role.filter fun p => roleLevel p.1 = 4 && p.1 ≠ u.role.keeperId && p.2.holder ≠ 0 && p.2.holder ≠ u.self).map (·.2.holder)
      let dsts := t3s ++ keepers.filter fun c => !(t3s.contains c)
      let u := dsts.foldl (fun u d =>
        if d = u.self then (u.upV fun v => { v with applied := NMap.set v.applied n.key n.seq }).peerFault n
        else (u.reqL d 0x44 64 4 n.words).upV fun v => { v with notices := v.notices ++ [(n.seq, d, 0, n)] }) u
      let u := u.later (.noticed n.cid n.job)
      if n.kind = 3 then u else u.later (.recover n.job n.cid n.ctx t3s)

/-- PF_NOTICE (R307, R308, R313): forwarded once to the Igtan blocks and acknowledged; one of a lower role epoch is stale. A
keeper sends it on to its own T3s. -/
def pfNotice (h : Sys2Proof.LHdr) (n : Notice) (u : Units) : Units :=
  u.recvL h 0x44 0 fun u =>
    let r := u.roleOf u.role.keeperId
    if n.epoch < r.epoch && !r.holding then u.staleL h
    else
      let last := NMap.getD u.vig.applied n.key 0
      let ack := fun (u : Units) => u.answerL h.src 0x45 h.seq 16 4 [n.seq, n.cid, n.job, St.OK]
      if n.seq < last then u
      else if n.seq = last then ack u
      else
        let u := (u.upV fun v => { v with applied := NMap.set v.applied n.key n.seq }).peerFault n
        let u := ack u
        if r.holding then
          let u := (u.scopeOf u.role.keeperId).foldl (fun u d =>
            (u.reqL d 0x44 64 4 n.words).upV fun v => { v with notices := v.notices ++ [(n.seq, d, 0, n)] }) u
          u.later (.peerKeeper n.job h.src)
        else u

/-- PF_ACK (R13, R307): any status but OK acknowledges nothing, so the notice is sent again at its wait's end. -/
def pfAck (h : Sys2Proof.LHdr) (seq _cid _job status : Nat) (u : Units) : Units :=
  u.recvL h 0x45 0 fun u => if status ≠ St.OK then u else u.upV fun v => { v with notices := v.notices.filter fun x => !(x.1 = seq && x.2.1 = h.src) }

/-- PF_ACK_WAIT_EXPIRY (R307): sent again up to 3 times, then VIGIL_NOTICE_UNACKED. -/
def pfAckWaitExpiry (seq cid : Nat) (u : Units) : Units :=
  match u.vig.notices.find? fun x => x.1 = seq && x.2.1 = cid with
  | none => u
  | some x =>
    if x.2.2.1 < 3 then
      (u.upV fun v => { v with notices := v.notices.map fun y => if y.1 = seq && y.2.1 = cid then (y.1, y.2.1, y.2.2.1 + 1, y.2.2.2) else y }).reqL
        cid 0x44 64 4 x.2.2.2.words
    else
      (u.upV fun v => { v with notices := v.notices.filter fun y => !(y.1 = seq && y.2.1 = cid) }).raise Ev.VIGIL_NOTICE_UNACKED 4 0x070
        (payloadOf [(0, 4, seq), (4, 3, cid)])

/-! Commands (R305, R311) -/

/-- Report a watch to the keeper, which keeps the job membership of R307 (R311): kept here when this T3 holds the role. -/
def Units.watchReport (u : Units) (job p c prio timeout : Nat) (on : Bool) : Units :=
  if (u.roleOf u.role.keeperId).holding then
    let cid := u.cidOf p
    u.upV fun v =>
      let rest := v.watched.filter fun x => !(x.1 = cid && x.2.1 = c)
      { v with watched := if on then rest ++ [(cid, c, job, prio, timeout)] else rest,
               jobT3s := if on && !((NMap.getD v.jobT3s job []).contains u.self) then NMap.set v.jobT3s job (NMap.getD v.jobT3s job [] ++ [u.self]) else v.jobT3s }
  else u.emit (.bus 13 [(u.roleOf u.role.keeperId).holder, job, u.cidOf p, c, prio, timeout, b2n on])

/-- Create a watch entry (R292). -/
def Units.setWatch (u : Units) (job p c prio mask timeout : Nat) : Units :=
  let w : Watch := { job := job, stalled := false, query := false, frozen := false, priority := prio, mask := if mask = 0 then 15 else mask,
                     timeout := if timeout = 0 then 2000 else timeout, gen := u.ctxGen p c, genStart := NMap.getD u.vig.genStart (64 * p + c) 0,
                     lastProg := u.now, edges := [], replyAt := 0, replied := false, broken := false, tag := 0xFFFFFFFF, waiting := [] }
  ((u.upV fun v => { v with watch := NMap.set v.watch (64 * p + c) w }).refreeze p).watchReport job p c prio w.timeout true

/-- VIGIL_WATCH (0x0701, R292, R311). -/
def vigilWatch (c : Sys2Proof.Cmd) (job port ctx prio mask timeout : Nat) (u : Units) : Units :=
  u.operator c 0x070 0x0701 fun u =>
    if 16 ≤ port || 64 ≤ ctx || 7 < prio || 15 < mask || (timeout ≠ 0 && (timeout < 10 || 600000 < timeout)) then u.done c 0x070 0x0701 St.BAD_PARAM
    else if !(u.ctxEnabled port ctx) then u.done c 0x070 0x0701 St.BAD_STATE
    else (u.setWatch job port ctx prio mask timeout).done c 0x070 0x0701 St.OK

/-- VIGIL_UNWATCH (0x0702, R311). -/
def vigilUnwatch (c : Sys2Proof.Cmd) (port ctx : Nat) (u : Units) : Units :=
  u.operator c 0x070 0x0702 fun u =>
    if 16 ≤ port || 64 ≤ ctx then u.done c 0x070 0x0702 St.BAD_PARAM
    else
      let job := u.jobOf port ctx
      (((u.upV fun v => { v with watch := NMap.del v.watch (64 * port + ctx) }).watchReport job port ctx 0 0 false)).done c 0x070 0x0702 St.OK

/-- SNUF_RESET (0x0703, R77, R311): a tenant may reset its own context with kind 1; a reset of the context or of the compute part that runs answers
BUSY_RETRY, and a compute-part reset takes over context resets; OK comes at the confirm. -/
def snufReset (c : Sys2Proof.Cmd) (port ctx kind : Nat) (u : Units) : Units :=
  let own := isTenant (stampPriv c.stamp) && kind = 1 && port < 16 && ctx < 64 && u.jobOf port ctx ≠ 0 && u.jobOf port ctx = (u.desc c.ring).job
  let d := fun s => u.done c 0x078 0x0703 s
  if !(isOperator (stampPriv c.stamp)) && !own then d St.NOT_PRIVILEGED
  else if 16 ≤ port || (64 ≤ ctx && ctx ≠ 0xFF) || (kind ≠ 1 && kind ≠ 2) then d St.BAD_PARAM
  else if kind = 2 && !((u.ig port).has 5) then d St.UNSUPPORTED
  else
    let cs := if ctx = 0xFF then u.enabledOn port else [ctx]
    if u.cprRunning port || (kind = 1 && cs.any fun x => u.resetting port x) then d St.BUSY_RETRY
    else if kind = 1 && cs.isEmpty then d St.OK
    else
      let u := u.upV fun v => { v with resetCmds := v.resetCmds ++ [(port, if kind = 2 then 0xFF else if ctx = 0xFF then 0xFE else ctx, c.ring, c.tag, c.stamp, c.gen)] }
      if kind = 1 then cs.foldl (fun u x => u.resetCtx port x false (u.released (u.jobOf port x))) u
      else
        let oa := u.accGen port
        let u := u.installAll port
        (u.sendReset port 2 0xFF (u.accGen port) 0 0 oa (u.mirroredOn port)).abortAll port (List.range 64)

/-- Lift a fence (R305): the miss count is 0 and the port alive. -/
def Units.unfence (u : Units) (p : Nat) : Units :=
  let u := u.upV fun v => { v with fenced := clrBit v.fenced p, lost := clrBit v.lost p }
  (u.upVp p fun x => { x with state := if (u.ig p).active then 1 else 0, misses := 0, probes := 0 }).later (.unfenced p (u.cidOf p))

/-- SNUF_UNFENCE (0x0704, R305): BAD_STATE unless the port is fenced and a reset under its generations has been confirmed since
the fence. -/
def snufUnfence (c : Sys2Proof.Cmd) (port : Nat) (u : Units) : Units :=
  u.operator c 0x078 0x0704 fun u =>
    if 16 ≤ port then u.done c 0x078 0x0704 St.BAD_PARAM
    else if !(u.fenced port) || !(bitAt u.vig.clean port) then u.done c 0x078 0x0704 St.BAD_STATE
    else (u.unfence port).done c 0x078 0x0704 St.OK

/-- After R61 has completed: a fenced port's RESET under the adopted generations gives fresh ones (R305), and a block that only takes context resets
and has no enabled context needs none; at another port the context resets that ran are sent under generations above the adopted ones, and the
control words that waited are written. -/
def Units.brought (u : Units) (p : Nat) : Units :=
  if !(u.fenced p) then
    (((u.ig p).resets.filter fun r => r.kind = 1).foldl (fun u r => u.resetCtx p r.ctx r.report r.released) (u.upIg p fun g => { g with resets := [] })).ctlAll p
  else if !((u.ig p).has 5) then
    if (u.enabledOn p).isEmpty then u.upV fun v => { v with clean := setBit v.clean p }
    else (u.enabledOn p).foldl (fun u c => u.resetCtx p c false (u.released (u.jobOf p c))) u
  else
    let oa := u.accGen p
    let u := u.installAll p
    u.sendReset p 2 0xFF (u.accGen p) 0 0 oa false

end Sys2Proof.Machine
end

