-- ==== Sys2Proof/Machine/WickOps.lean ====
section
/-!
DEFINITION. The Wick's named operations (10): bindings, writer election, credits, the apply gate, commit records, seeding, the
block check table, verification and verdicts (11 R273-R281).
-/
namespace Sys2Proof.Machine

/-! Tables -/

/-- Change the Wick. -/
def Units.upW (u : Units) (f : Wick → Wick) : Units := { u with wick := f u.wick }

/-- The binding of a job. -/
def Units.jobB (u : Units) (j : Nat) : Option JobBind := NMap.find u.wick.jobs j

/-- Change the binding of a job. -/
def Units.upJob (u : Units) (j : Nat) (f : JobBind → JobBind) : Units := u.upW fun w => { w with jobs := NMap.upd w.jobs j f }

/-- Entry index of a shard bound here. -/
def Units.shKey (u : Units) (shard : Nat) : Option Nat := (u.wick.shards.find? fun e => e.2.shard = shard).map (·.1)

/-- Shard entry `k`. -/
def Units.shAt (u : Units) (k : Nat) : Shard := NMap.getD u.wick.shards k (Shard.new 0 0 0 0)

/-- Change shard entry `k`. -/
def Units.upSh (u : Units) (k : Nat) (f : Shard → Shard) : Units := u.upW fun w => { w with shards := NMap.upd w.shards k f }

/-- With the entry of a shard bound here and its job's binding; else `d`. -/
def Units.withSh {α : Type} (u : Units) (shard : Nat) (d : α) (f : Nat → Shard → JobBind → α) : α :=
  match u.shKey shard with
  | none => d
  | some k => match u.jobB (u.shAt k).job with
    | none => d
    | some j => f k (u.shAt k) j

/-- Entries of a job's shards. -/
def Units.shardsOf (u : Units) (job : Nat) : List Nat := ((u.wick.shards.filter fun e => e.2.job = job).map (·.1))

/-- The open step `n` of a shard. -/
def Shard.step? (s : Shard) (n : Nat) : Option OpenStep := s.opens.find? fun o => o.step = n

/-- Change open step `n`. -/
def Shard.upOpen (s : Shard) (n : Nat) (f : OpenStep → OpenStep) : Shard :=
  { s with opens := s.opens.map fun o => if o.step = n then f o else o }

/-- Open step `n` in a state, unless it is open. -/
def Shard.begin (s : Shard) (n state : Nat) : Shard :=
  if (s.step? n).isSome then s else { s with opens := { OpenStep.new n state with epoch := s.epoch, writer := s.writer, srcCid := (s.members.getD s.writer (0, 0)).1 } :: s.opens }

/-- Change open step `n` of entry `k`. -/
def Units.upOpen (u : Units) (k n : Nat) (f : OpenStep → OpenStep) : Units := u.upSh k fun s => s.upOpen n f

/-- The T3 is a source of the shard's gradient: the writer's context is local. -/
def Units.isWriter (u : Units) (s : Shard) : Bool := (u.portOf (s.members.getD s.writer (0, 0)).1).isSome

/-- This T3 is the shard's buddy. -/
def Shard.isBuddy (s : Shard) : Bool := bitAt s.roles 1

/-- Formats of a job's components. -/
def JobBind.layoutFmts (j : JobBind) : List Nat := j.fmts.take j.comps

/-- "No fingerprint" (08 R204). -/
abbrev noFp : Nat := 2 ^ 64 - 1

/-- Snapshot interval of a job (Table 10-2, WICK_SNAP_CFG). -/
def Units.interval (u : Units) (j : JobBind) : Nat := if j.interval = 0 then bits (u.cfg 0x60000C (50 + 10 * 65536)) 15 0 else j.interval

/-- Protocol 1 snapshot period. -/
def Units.v1Period (u : Units) : Nat := bits (u.cfg 0x60000C (50 + 10 * 65536)) 31 16

/-- A Wick event (source unit 0x060). -/
def Units.wickEvent (u : Units) (code : Nat) : Units := u.raise code 2 0x060 0

/-! Writer election (R240) and credits (R92, R241) -/

/-- Index of the writer among the replicas of an epoch (R240). -/
def writerIndex (shard epoch count : Nat) : Nat :=
  if count = 0 then 0 else (philox shard 0x5749434B epoch 0 0 0).headD 0 % count

/-- Key of a block credit account (R92). -/
def creditKey (p ctx cls : Nat) : Nat := 256 * p + 64 * cls + ctx

/-- Block credits a context still holds. -/
def Units.creditsLeft (u : Units) (p ctx cls : Nat) : Nat :=
  NMap.getD u.link.granted (creditKey p ctx cls) 0 - NMap.getD u.link.used (creditKey p ctx cls) 0

/-- The count of a block credit account is to be sent (R92). -/
def Link.owe (l : Link) (ctx cls : Nat) : Link :=
  { l with creditDue := if l.creditDue.contains (64 * cls + ctx) then l.creditDue else l.creditDue ++ [64 * cls + ctx] }

/-- Grant block credits (R92): the cumulative count goes out in a BLOCK_CREDIT frame; none to a fenced port (R302). -/
def Units.giveCredit (u : Units) (p ctx cls n : Nat) : Units :=
  if n = 0 || u.fenced p then u
  else
    let g := NMap.getD u.link.granted (creditKey p ctx cls) 0 + n
    let u : Units := { u with link := { u.link with granted := NMap.set u.link.granted (creditKey p ctx cls) g } }
    (u.setPort p ((u.port p).owe ctx cls)).pump p

/-- A full retrain has lost the frames in flight: every account of the port is told again, which its cumulative counts allow (DESIGN CHOICE: the
assumption log, entry 169). -/
def Units.tellCredits (u : Units) (p : Nat) : Units :=
  let mine := (NMap.keys u.link.granted).filter fun k => k / 256 = p
  (u.setPort p (mine.foldl (fun l k => l.owe (k % 64) (k % 256 / 64)) (u.port p))).pump p

/-- One block message uses a credit. -/
def Units.useCredit (u : Units) (p ctx cls : Nat) : Units :=
  { u with link := { u.link with used := NMap.updD u.link.used 0 (creditKey p ctx cls) (· + 1) } }

/-- Local position of a shard's replica: port and context. -/
def Units.localCtx (u : Units) (m : Nat × Nat) : Option (Nat × Nat) := (u.portOf m.1).map fun p => (p, m.2)

/-- Local replica contexts of a job: members of its shards on this T3's ports, and contexts watched for it. -/
def Units.ctxsOf (u : Units) (job : Nat) : List (Nat × Nat) :=
  let a := (u.wick.shards.filter fun e => e.2.job = job).flatMap fun e => e.2.members.filterMap u.localCtx
  let b := (u.vig.watch.filter fun e => e.2.job = job && job ≠ 0).map fun e => (e.1 / 64, e.1 % 64)
  (a ++ b).foldl (fun l x => if l.contains x then l else l ++ [x]) []

/-- The step whose gradient a shard takes next, when R22 lets it: the step mirroring, or the one after the newest, if the newest
has reached SHADOWED with no verdict open and the one before it is COMMITTED. A step that stalls while the one after it has committed holds what
comes next. -/
def Shard.nextStep (s : Shard) : Option Nat :=
  match s.opens with
  | [] => some (s.committed + 1)
  | [o] => if o.state = 1 then some o.step else if 4 ≤ o.state && o.verdict = 0 && s.committed < o.step then some (o.step + 1) else none
  | o :: _ => if o.state = 1 then some o.step else none

/-- Newest step that a shard has begun. -/
def Shard.newest (s : Shard) : Nat := (s.opens.map (·.step)).foldl max s.committed

/-- Credits that the gradient still to come of a shard's next step needs (R22, R92): one while nothing tells how many blocks there are; of a sparse
step one for a further list until its data begins, then those for the blocks that its lists name; of a dense step those of its format (DESIGN CHOICE:
the assumption log, entry 169). -/
def Shard.needs (s : Shard) : Nat :=
  match s.nextStep.map s.step? with
  | none => 0
  | some none => 1
  | some (some o) =>
    let came := o.sent + o.lost
    if o.last then 0 else if came = 0 then 1
    else max 1 ((if o.sparse then o.touched.length else compBlocks s.params (fmtWidth o.fmt)) - came)

/-- The T3's transit region (Table 5-2): index and the blocks it holds. -/
def Units.transitRegion (u : Units) : Option (Nat × Nat) := (u.mantle.regions.find? fun r => r.2.typ = 4).map fun r => (r.1, 512 * r.2.pages.length)

/-- Blocks of the transit region that neither a block in transit nor a gradient credit has claimed (R18). -/
def Units.transitFree (u : Units) : Nat :=
  let held := sumL ((NMap.vals u.wick.shards).map fun s => sumL (s.opens.map fun o => o.transit.length))
  let owed := sumL ((u.link.granted.filter fun g => g.1 % 256 < 64).map fun g => g.2 - NMap.getD u.link.used g.1 0)
  (match u.transitRegion with | some r => r.2 | none => 0) - held - owed

/-- A shard's writer is a context of this T3 that may hold credits: mirrored, not withheld, its job not held. -/
def Units.writesAt (u : Units) (s : Shard) : Option (Nat × Nat) :=
  match u.jobB s.job with
  | some j => if j.held || s.prot ≠ 0 || s.withheld || s.members.isEmpty then none else u.localCtx (s.members.getD s.writer (0, 0))
  | none => none

/-- Gradient credits that a context needs (R22, R92). Its account holds all its gradient, so a shard gets none for a step beyond one whose successor
another of its shards may not take yet. -/
def Units.ctxNeeds (u : Units) (x : Nat × Nat) : Nat :=
  let l := (NMap.vals u.wick.shards).filter fun s => u.writesAt s = some x && (match u.jobB s.job with | some j => j.mode = 0 | none => false)
  let shut := l.filter fun s => s.nextStep.isNone
  sumL ((l.filter fun s => shut.all fun w => s.nextStep.getD 0 ≤ w.newest).map Shard.needs)

/-- Grant the writer's context the gradient credits of what it sends next (R22, R92, R241), less those it holds, as far as transit space is free (R18).
In mode 2 region credits for the next epoch (R259). Only a block with the feature gets them (R63). -/
def Units.grantStep (u : Units) (k : Nat) : Units :=
  let s := u.shAt k
  match u.jobB s.job, u.writesAt s with
  | some j, some (p, c) =>
    if j.mode = 0 && (u.ig p).has 0 then u.giveCredit p c 0 (min (u.ctxNeeds (p, c) - u.creditsLeft p c 0) u.transitFree)
    else if j.mode = 2 && (u.ig p).has 1 && s.opens.isEmpty then u.giveCredit p c 1 (s.layout - u.creditsLeft p c 1)
    else u
  | _, _ => u

/-- Transit space has come free (R18, R92): every writer gets what it still needs. -/
def Units.grantAll (u : Units) : Units := (NMap.keys u.wick.shards).foldl (fun u k => u.grantStep k) u

/-- The bits of IGTAN_CTX_CTL that a job's mode needs and the block has (R63, R270, R20): MIRROR_EN, REF_ARITH, GATE_EN. -/
def IgtanPort.gateBits (g : IgtanPort) (j : JobBind) : Nat :=
  8 * b2n (g.has j.streamBit) + (if j.mode = 0 then 4 * b2n (g.has 4) + 2 * b2n (bitAt j.flags 0 && g.has 3) else 0)

/-- Set GATE_EN, REF_ARITH and MIRROR_EN of a job's local contexts (R270, R20); an unchanged word is not written. -/
def Units.setGates (u : Units) (job : Nat) : Units :=
  match u.jobB job with
  | none => u
  | some j =>
    (u.ctxsOf job).foldl (fun u x =>
      let set := (u.ig x.1).gateBits j
      if (NMap.getD (u.ig x.1).ctxCtl x.2 0) &&& set = set then u else u.writeCtl x.1 x.2 (u.ctlWord x.1 x.2 set 0)) u

/-! Commit records (R253-R255) -/

/-- Keep the records of open steps and of the last two committed ones (R255). -/
def trimRecs (l : List CommitRec) : List CommitRec :=
  let c := l.filter fun r => r.state = 6
  let top := (c.map (·.step)).foldl max 0
  let next := ((c.map (·.step)).filter fun x => x ≠ top).foldl max 0
  l.filter fun r => r.state ≠ 6 || r.step = top || r.step = next

/-- Write a record into a copy: its write sequence is one above that of the record it replaces, or of the newest. -/
def putRec (l : List CommitRec) (r : CommitRec) : List CommitRec :=
  let n := wrapW 32 ((l.map (·.seq)).foldl max 0 + 1)
  let r := { r with seq := n }
  trimRecs (if l.any fun x => x.step = r.step then l.map fun x => if x.step = r.step then r else x else r :: l)

/-- The writer's record of a step, if it has come. -/
def OpenStep.writerRec (o : OpenStep) : Option HeldRec :=
  o.recs.find? fun x => x.r.replica = o.writer && x.r.epoch = o.epoch

/-- Flags of a commit record (Table 10-7). -/
def OpenStep.flags (o : OpenStep) (durable : Bool) : Nat :=
  b2n o.seeded + 2 * b2n o.damaged + 4 * b2n o.partialRecs + 8 * b2n (o.verdict != 0) + 16 * b2n o.skipped + 32 * b2n o.sparse + 64 * b2n durable

/-- The commit record of an open step (Table 10-7). -/
def Units.recOf (u : Units) (s : Shard) (j : JobBind) (o : OpenStep) (state gradFp postFp : Nat) : CommitRec :=
  let mine := o.recs.filter fun x => x.r.epoch = o.epoch
  { step := o.step, shard := s.shard, job := s.job, state := state, flags := o.flags false, prog := j.prog, epoch := o.epoch,
    source := u.servedBy o.srcCid, writer := o.writer, buddy := s.buddy, count := s.count, gradFp := gradFp,
    postFp := postFp, goTime := o.goTime, seq := 0, reported := min 255 mine.length, agreeing := min 255 o.agreeing,
    cursor := match o.writerRec with | some x => x.r.cursor | none => 0, commitTime := if state = 6 then u.now else 0 }

/-- Write copy B of an open step at the source (R254): no post-update fingerprint is known there before COMMIT_REC. -/
def Units.writeB (u : Units) (k n : Nat) : Units :=
  let s := u.shAt k
  match s.step? n, u.jobB s.job with
  | some o, some j => u.upSh k fun s => { s with recB := putRec s.recB (u.recOf s j o o.state o.srcFp noFp) }
  | _, _ => u

/-- Write copy A of an open step at the buddy (R254) in a state. -/
def Units.writeA (u : Units) (k n state : Nat) : Units :=
  let s := u.shAt k
  match s.step? n, u.jobB s.job with
  | some o, some j => u.upSh k fun s => { s with recA := putRec s.recA (u.recOf s j o state o.gradFp (if 4 ≤ state then o.shadowFp else noFp)) }
  | _, _ => u

/-- Copy A of a step. -/
def Shard.copyA (s : Shard) (n : Nat) : Option CommitRec := s.recA.find? fun r => r.step = n

/-- The record as the fields of a message, in table order (Table 10-7). -/
def CommitRec.fields (r : CommitRec) : List Nat :=
  [r.step, r.shard, r.job, r.state, r.flags, r.prog, r.epoch, r.source, r.writer, r.buddy, r.count, r.gradFp, r.postFp, r.goTime, r.seq,
   r.reported, r.agreeing, r.cursor, r.commitTime]

/-- Send copy A of a step to the source as COMMIT_REC (R254), shown in `state`. -/
def Units.sendRec (u : Units) (k n state : Nat) : Units :=
  let s := u.shAt k
  match s.copyA n with
  | none => u
  | some r => u.reqL r.source 0x06 128 2 { r with state := state }.fields

/-- The buddy records a state, writes copy A and lets the source know of SHADOWED and of a verdict (R22, R280). -/
def Units.markA (u : Units) (k n state : Nat) (notice : Bool) : Units :=
  let u := (u.upOpen k n fun o => { o with state := state }).writeA k n state
  if notice then u.sendRec k n state else u

/-- An ascending list with an element added once (R278). -/
def insertUp : List Nat → Nat → List Nat
  | [], x => [x]
  | y :: r, x => if x < y then x :: y :: r else if x = y then y :: r else y :: insertUp r x

/-! Step records -/

/-- A step record as the fields of a message (Table 3-7). -/
def recFields (r : Sys2Proof.StepRec) : List Nat :=
  [r.step, r.shard, r.format, r.replica, r.count, r.flags, r.prog, r.epoch, r.cursor, r.rngKey, r.rngBase, r.scalars, r.lossScale, r.fp,
   r.gradFp, r.elems, r.first]

/-- Drive fields: bytes 0-23 and 32-95 without byte 13 (11, Verification and verdicts). -/
def driveFields (r : Sys2Proof.StepRec) : List Nat :=
  [r.step, r.shard, r.format, r.count, r.flags, r.prog, r.epoch, r.rngKey, r.rngBase, r.scalars, r.lossScale]

/-- The buddy takes a step record (Table 10-11): held until APPLY_GO is recorded for its step; one more than 2 beyond the last
released step is dropped with WICK_STEP_MISMATCH. One record of each replica and epoch is kept. -/
def Units.takeRec (u : Units) (k : Nat) (x : HeldRec) : Units :=
  let s := u.shAt k
  let go := match u.jobB s.job with | some j => j.released | none => 0
  let key := 2 ^ 20 + 256 * x.cid + x.ctx
  let u := u.upSh k fun s => { s with kept := NMap.set s.kept key ((x.r :: (NMap.getD s.kept key []).filter fun r => r.step ≠ x.r.step).take 2) }
  if x.r.step ≤ s.committed && (s.step? x.r.step).isNone then u
  else if go + 2 < x.r.step && (match u.jobB s.job with | some j => j.mode = 0 && bitAt j.flags 0 | none => false) then
    u.wickEvent Ev.WICK_STEP_MISMATCH
  else
    let put := fun (l : List HeldRec) => (l.filter fun y => !(y.r.step = x.r.step && y.r.replica = x.r.replica && y.r.epoch = x.r.epoch)) ++ [x]
    match s.step? x.r.step with
    | some o => if 3 ≤ o.state then u.upOpen k x.r.step fun o => { o with recs := put o.recs } else u.upSh k fun s => { s with early := put s.early }
    | none => u.upSh k fun s => { s with early := put s.early }

/-- Release the records held for a step (Table 10-11). -/
def Units.releaseRecs (u : Units) (k n : Nat) : Units :=
  let s := u.shAt k
  let mine := s.early.filter fun x => x.r.step = n
  let u := u.upSh k fun s => { s with early := s.early.filter fun x => n < x.r.step }
  mine.foldl (fun u x => u.takeRec k x) u

/-! Placement and protection (R258, R264) -/

/-- Bytes of a shard's buddy region: the layout, the block check table and the touch list (R242, R250, R278). -/
def buddyBytes (params layout : Nat) : Nat := 4096 * layout + 16 * layout + 4 * compBlocks params 4

/-- A region of the Wick for a job. -/
def wickRegion (typ job : Nat) : Region :=
  { typ := typ, hostVisible := false, pooled := false, quiet := false, job := job, ownerCid := 0, ownerCtx := 0xFF, ownerKind := 3, gen := 0,
    mask := 0x1FC, pages := [] }

/-- Bytes of a shard's second region at the buddy: staging of binary32 gradient, or the other of two buddy regions (R259). -/
def secondBytes (mode params layout : Nat) : Nat := if mode = 0 then 4096 * compBlocks params 4 else buddyBytes params layout

/-- Ask the warden for a buddy (R127, R258, R264), with the sizes of both regions. -/
def Units.askPlace (u : Units) (k : Nat) : Units :=
  let s := u.shAt k
  let mode := match u.jobB s.job with | some j => j.mode | none => 0
  u.wantPlace s.job s.shard (buddyBytes s.params s.layout) (secondBytes mode s.params s.layout)

/-- The shard becomes unbuddied (R258 step 1): forwarding ends and the warden is asked. -/
def Units.unbuddy (u : Units) (k : Nat) : Units :=
  (u.upSh k fun s => { s with prot := 1, buddy := 0, incoming := none, opens := s.opens.map fun o => { o with transit := [] } }).askPlace k

/-- The warden has no place for the shard (R264): spilled where the job allows it, else an alarm. -/
def Units.spill (u : Units) (k : Nat) : Units :=
  match u.jobB (u.shAt k).job with
  | none => u
  | some j =>
    if (u.shAt k).prot = 3 then u
    else if bitAt j.flags 2 then (u.upSh k fun s => { s with prot := 3 }).wickEvent Ev.WICK_SPILL
    else (u.upSh k fun s => { s with prot := 1 }).wickEvent Ev.WICK_UNPROTECTED

/-- Complete the commands of a list. -/
def Units.doneAll (u : Units) (l : List (Nat × Nat × Nat × Nat)) (code status result : Nat) : Units :=
  l.foldl (fun u x => u.done { ring := x.1, tag := x.2.1, stamp := x.2.2.1, gen := x.2.2.2 } 0x060 code status 0 result) u

/-- The answer to a pooling reservation at the source (R127, R258 step 2, R264). -/
def Units.poolAnswer (u : Units) (status job shard cid : Nat) : Units :=
  u.withSh shard u fun k s _ =>
    if s.job ≠ job then u
    else if status = St.OK then
      let u := u.upSh k fun s => 
        { s with buddy := cid, prot := if s.bindCmd.isSome then 0 else 2, bindCmd := none, incoming := none, spillBlk := [] }
      (u.doneAll s.bindCmd.toList 0x0602 St.OK k).grantStep k
    else
      let u := (u.spill k).upSh k fun s => { s with bindCmd := none }
      if (u.shAt k).prot = 3 then u.doneAll s.bindCmd.toList 0x0602 St.OK k
      else if s.bindCmd.isSome then (u.upW fun w => { w with shards := NMap.del w.shards k }).doneAll s.bindCmd.toList 0x0602 St.MANTLE_FULL 0
      else u

/-- A snapshot is asked for at the next commit of each of the job's shards held here as buddy (R260). -/
def Units.wantSnap (u : Units) (job : Nat) : Units :=
  u.upW fun w => { w with shards := NMap.mapV w.shards fun _ s => if s.job = job && s.isBuddy then { s with snapDue := 1 } else s }

/-! The apply gate (R248, R249) -/

/-- The gate group of a job that is held here (R248). -/
def Units.gateGroup (u : Units) (job : Nat) : Option Nat :=
  ((u.coll.groups.find? fun g => bitAt g.2.flags 0 && g.2.job = job).map fun g => g.2.id)

/-- A source shard lets its T3 enter the gate for `n`: it is unbuddied or spilled, its seed has not begun (R258), or `n` is GATED: the
step after the one that is seeded waits for the commit and is mirrored as normal (R257, R258). -/
def Units.gateReady (u : Units) (n : Nat) (s : Shard) : Bool :=
  !(u.isWriter s) || s.prot = 1 || s.prot = 3 || (s.prot = 2 && s.incoming.isNone) || (match s.step? n with | some o => 2 ≤ o.state | none => n ≤ s.committed)

/-- The T3 enters the barrier of the job's next step when every shard it writes is GATED (R248). -/
def Units.gateCheck (u : Units) (job : Nat) : Units :=
  match u.jobB job with
  | none => u
  | some j =>
    let n := j.released + 1
    if j.mode ≠ 0 || !(bitAt j.flags 0) || j.held || j.entered = some n || (u.gateGroup job).isNone then u
    else
      let mine := (u.shardsOf job).map u.shAt
      if mine.isEmpty || !(mine.any fun s => !s.members.isEmpty) || !(mine.all (u.gateReady n)) then u
      else (u.upJob job fun j => { j with entered := some n }).later (.gateEnter job n)

/-! Seeding (R257) -/

/-- The T3 of a replica serves a seed (R257): kept records of the step go to the buddy, and the named replica's context, the
writer's where none is named, gets credits for exactly the shard's layout blocks. -/
def Units.serveSeed (u : Units) (k choice n dst : Nat) : Units :=
  let s := u.shAt k
  let mine := (s.kept.filter fun e => e.1 < 1024).flatMap fun e => (e.2.filter fun r => r.step = n).map fun r => (e.1, r)
  let u := mine.foldl (fun u x =>
    if dst = u.self then u.takeRec k { r := x.2, cid := u.cidOf (x.1 / 64), ctx := x.1 % 64 } else u.reqL dst 0x05 256 2 (recFields x.2)) u
  let i := if choice = 0 then s.writer else choice - 1
  match u.localCtx (s.members.getD i (0, 0)) with
  | none => u
  | some (p, c) =>
    if (u.ig p).has 1 then (u.upSh k fun s => { s with incoming := some (n, i, []) }).giveCredit p c 1 (s.layout - u.creditsLeft p c 1) else u

/-- Ask for a seed (R257 step 1): `choice` 0 sends SEED_REQ to the T3 of every replica, and the writer's seeds; 1 + i asks the T3 of replica i, which
SEED_REQ cannot name, with BLOCK_FETCH of the first block (R281; DESIGN CHOICE: the assumption log, entry 66). -/
def Units.askSeed (u : Units) (k n choice : Nat) : Units :=
  let s := u.shAt k
  if choice = 0 then
    (s.members.map fun m => u.servedBy m.1).eraseDups.foldl (fun u t => if t = u.self then u.serveSeed k 0 n u.self else u.reqL t 0x08 16 2 [s.shard, n]) u
  else
    let t := u.servedBy (s.members.getD (choice - 1) (0, 0)).1
    if t = u.self then u.serveSeed k choice n u.self else u.reqL t 0x09 16 2 [s.shard, 0, n]

/-- A step has passed SHADOWED at this T3: no seed of it begins, since no step returns to an earlier state (R19). -/
def Shard.passed (s : Shard) (n : Nat) : Bool := n ≤ s.committed || (s.step? n).any fun o => 5 ≤ o.state

/-- Begin a seed of state `n` at the buddy (R257): every layout block comes again. -/
def Units.startSeed (u : Units) (k n choice : Nat) : Units :=
  if (u.shAt k).passed n then u
  else
    (u.upSh k fun s => (s.begin n 3).upOpen n fun o =>
      { o with seeding := true, seedGot := [], seeded := true, readDone := false, choice := choice, differ := [] }).askSeed k n choice

/-- A job without the apply gate records APPLY_GO as soon as its gradient is complete (R20). -/
def JobBind.gated (j : JobBind) : Bool := j.mode = 0 && bitAt j.flags 0

/-! The block check table (R250, R251, R256) -/

/-- Check entry of a layout block: CRC-64 and fingerprint contribution. -/
def blockEntry (s : Shard) (j : JobBind) (b : Nat) (data : List Nat) : Nat × Nat :=
  (crc64 data, fpLayout j.key j.params s.first s.params j.layoutFmts b data)

/-- Bytes of a layout block in a region. -/
def blockBytes (m : Mem) (u : Units) (region b : Nat) : List Nat := memGetAt m u region (4096 * b) 4096

/-- A layout block of a region reads as poison. -/
def Units.blockPoison (u : Units) (region b : Nat) : Bool :=
  match u.phys region (4096 * b) with | some a => u.poisoned a 4096 | none => true

/-- The tag and context under which a replica's bytes enter a region of its job (R122), where the Wick keeps a tag for it. -/
def Units.srcOf (u : Units) (job : Nat) (x : Nat × Nat) : Option (Nat × Nat) :=
  let key := job * 2 ^ 32 + x.1 * 256 + x.2
  (NMap.find u.mantle.ctxTags key).map fun t => (t, key)

/-- Write a layout block in place, for a replica's context or for the Wick itself. -/
def putBlock (m : Mem) (u : Units) (region b : Nat) (data : List Nat) (src : Option (Nat × Nat) := none) : Mem × Units :=
  (memPutAt m u region (4096 * b) data src, u.cureAt region (4096 * b) data.length)

/-! Transit (R17, R246) -/

/-- Write a block's data to the next place of the transit region: the place. -/
def toTransit (m : Mem) (u : Units) (data : List Nat) : (Mem × Units) × Nat :=
  match u.transitRegion with
  | none => ((m, u), 0)
  | some (i, n) =>
    let k := u.wick.transitNo % max 1 n
    ((memPutAt m u i (4096 * k) data, (u.cureAt i (4096 * k) data.length).upW fun w => { w with transitNo := k + 1 }), k)

/-- A block as it stands in transit. -/
def inTransit (m : Mem) (u : Units) (x : Nat × Sys2Proof.Blk) : Sys2Proof.Blk :=
  { x.2 with data := match u.transitRegion with | some r => memGetAt m u r.1 (4096 * x.1) x.2.valid | none => [] }

/-- Sum of a block check table modulo p (R252). -/
def tableSum (t : NMap (Nat × Nat)) : Nat := (sumL (t.map fun e => e.2.2)) % fpP

/-- Tap the blocks of the buddy region as they stand (R250). -/
def tap (m : Mem) (u : Units) (k : Nat) (j : JobBind) (bs : List Nat) : Units :=
  bs.foldl (fun u b => u.upSh k fun s => { s with table := NMap.set s.table b (blockEntry s j b (blockBytes m u s.bRegion b)) }) u

/-- The region that holds a shard's current state (R259). -/
def Shard.stateRegion (s : Shard) : Nat := if s.cur = 1 then s.region2 else s.bRegion

/-- The buddy copy holds the state of step `n` and nothing of a later one. -/
def Shard.holds (s : Shard) (mode n : Nat) : Bool :=
  s.curStep = some n && (mode ≠ 0 || !(s.opens.any fun o => n < o.step && 3 ≤ o.state && (o.seeding || !o.items.isEmpty || 4 ≤ o.state)))

/-- A block of the buddy copy matches its check entry. -/
def blockGood (m : Mem) (u : Units) (s : Shard) (j : JobBind) (region : Nat) (t : NMap (Nat × Nat)) (b : Nat) : Bool :=
  !(u.blockPoison region b) && NMap.find t b = some (blockEntry s j b (blockBytes m u region b))

/-- No snapshot has the block of the committed step (Table 10-9): the writer is asked while the accelerators still hold the step, else the
shard is unbuddied and is seeded at the next released step. -/
def Units.seekBlock (u : Units) (k : Nat) (s : Shard) (j : JobBind) (b : Nat) : Units :=
  if j.gated && j.released ≤ s.committed && s.curStep = some s.committed then
    u.reqL (u.servedBy (s.members.getD s.writer (0, 0)).1) 0x09 16 2 [s.shard, b, s.committed]
  else u.upSh k fun s => { s with prot := 1 }

/-- Read a block of the buddy copy with its check (R256): a check value that alone differs is repaired, a bad block is taken from a
durable snapshot of the committed step; with no other copy the shard is unbuddied. -/
def readBlock (m : Mem) (u : Units) (k b : Nat) : (Mem × Units) × Option (List Nat) :=
  let s := u.shAt k
  match u.jobB s.job with
  | none => ((m, u), none)
  | some j =>
    let data := blockBytes m u s.stateRegion b
    let e := blockEntry s j b data
    let t := NMap.getD s.table b (0, 0)
    if !(u.blockPoison s.stateRegion b) && t = e then ((m, u), some data)
    else if !(u.blockPoison s.stateRegion b) && t.2 = e.2 then
      ((m, ((u.upSh k fun s => { s with table := NMap.set s.table b e }).count 0x600228).wickEvent Ev.INTEGRITY_CRC), some data)
    else
      let u := u.wickEvent Ev.INTEGRITY_CRC
      match s.durable.find? fun x => x.man.step = s.committed with
      | some x =>
        let d := x.blocks.getD b []
        if blockEntry s j b d = t then
          let r := putBlock m u s.stateRegion b d
          ((r.1, r.2.count 0x600230), some d)
        else ((m, u.seekBlock k s j b), none)
      | none => ((m, u.seekBlock k s j b), none)

/-- A snapshot of step `n` is written or durable. -/
def Shard.captured (s : Shard) (n : Nat) : Bool := s.snap.any (fun x => x.man.step = n) || s.durable.any fun x => x.man.step = n

/-- Start a snapshot (R260): the layout blocks and the manifest, as they stand. One still running skips one that is `due` (R261). -/
def startSnapshot (m : Mem) (u : Units) (k n mode : Nat) (due : Bool) : Mem × Units :=
  let s := u.shAt k
  if s.snap.isSome || !(s.holds mode n) then (m, if due then u.wickEvent Ev.WICK_SNAPSHOT_SKIPPED else u)
  else match s.copyA n with
    | none => (m, u)
    | some r =>
      let a := (List.range s.layout).foldl (fun (a : (Mem × Units) × List (List Nat)) b =>
        let x := readBlock a.1.1 a.1.2 k b
        (x.1, a.2 ++ [x.2.getD []])) ((m, u), [])
      let u := a.1.2.upSh k fun s =>
        { s with snap := some { man := r, blocks := a.2, table := s.table }, snapDue := if s.snapDue = 1 then 2 else s.snapDue }
      (a.1.1, u.emit (.bus 3 [s.shard, n, s.layout]))

/-- Before step `n` writes the buddy copy, the blocks of a step before it that is VERIFIED and whose snapshot is due are read into the
snapshot (R261). -/
def captureBefore (m : Mem) (u : Units) (k n : Nat) (s : Shard) (j : JobBind) : Mem × Units :=
  let iv := u.interval j
  let due := (iv ≠ 0 && (n - 1) % iv = 0) || s.snapDue = 1
  if due && j.mode = 0 && s.opens.any (fun x => x.step + 1 = n && x.state = 5) && !(s.captured (n - 1)) then startSnapshot m u k (n - 1) 0 false else (m, u)

/-! The shadow (R250, R273) -/

/-- Blocks a step wrote: every block of the layout, or those of the touched parameters of a sparse step (R251, R278). -/
def OpenStep.written (o : OpenStep) (s : Shard) (j : JobBind) : List Nat :=
  if o.skipped then []
  else if o.sparse && !o.seeded then
    let w := fmtWidth o.fmt
    (o.touched.flatMap fun b => blocksOf s.params j.layoutFmts (b * (4096 / w)) (4096 / w)).foldl (fun l x => if l.contains x then l else l ++ [x]) []
  else List.range s.layout

/-- The step enters SHADOWED (R250, R254). -/
def Units.shadowed (u : Units) (k n fp : Nat) : Units :=
  ((u.upOpen k n fun o => { o with shadowFp := fp, readDone := o.skipped }).markA k n 4 true).later (.verify (u.shAt k).shard n)

/-- Parameters of the work items of a dense step, by (first, count): P parameters each (R273). -/
def denseItems (params p : Nat) : List (Nat × Nat) :=
  (List.range ((params + p - 1) / p)).map fun k => (k * p, min p (params - k * p))

/-- Whole tensors until an item holds at least P parameters or the shard ends (R273): tensors by (first, size). -/
def tensorItems (p : Nat) : List (Nat × Nat) → Nat → Nat → List (Nat × Nat)
  | [], first, count => if count = 0 then [] else [(first, count)]
  | t :: r, first, count =>
    let f := if count = 0 then t.1 else first
    if p ≤ count + t.2 then (f, count + t.2) :: tensorItems p r 0 0 else tensorItems p r f (count + t.2)

/-- Tensor table of a shard read from its region (R277): 16-byte entries until the shard is covered. -/
def readTensors (m : Mem) (u : Units) (region params : Nat) : Nat → Nat → List (Nat × Nat × Nat)
  | 0, _ => []
  | fuel + 1, off =>
    let b := memGetAt m u region off 16
    let rows := leNat ((b.drop 8).take 4)
    let cols := leNat (b.drop 12)
    let first := leNat (b.take 8)
    if params ≤ first || rows * cols = 0 then [] else (first, rows, cols) :: readTensors m u region params fuel (off + 16)

/-- P of SHADOW_CFG (R273). -/
def Units.itemSize (u : Units) : Nat := 2 ^ bits (u.cfg 0x600400 20) 4 0

/-- Registered program with an identifier. -/
def Units.progOf (u : Units) (id : Nat) : Option ProgEntry := (u.wick.progs.find? fun e => e.2.id = id).map (·.2)

/-- A job's instance on the grid. -/
def Units.inst (u : Units) (job : Nat) : ShInst :=
  NMap.getD u.wick.insts job { state := 0, slot := 0, queue := [], running := [], reload := false, faults := [] }

/-- Change it. -/
def Units.upInst (u : Units) (job : Nat) (f : ShInst → ShInst) : Units :=
  u.upW fun w => { w with insts := NMap.set w.insts job (f (Units.inst u job)) }

/-- Every block of the gradient of a step is in staging: the touched ones of a sparse step (R245, R248), and its mirror has not failed. R71 does not say
what follows from a failed mirror: here the step goes on as a damaged one does, and its buddy reaches SHADOWED by a seed (DESIGN CHOICE: the assumption
log, entry 170). -/
def OpenStep.whole (o : OpenStep) (s : Shard) : Bool :=
  !o.failed && !o.got.isEmpty &&
    (if o.sparse then o.touched.all o.got.contains else (List.range (compBlocks s.params (fmtWidth o.fmt))).all o.got.contains)

/-- What a reference program works with in a step: the drive record's fields and the parameter block (Tables 11-6, 11-7). -/
def refEnv (r : Sys2Proof.StepRec) (block : List Nat) : RefEnv :=
  { s := (List.range 8).map fun k => bits r.scalars (32 * k + 31) (32 * k), ls := r.lossScale, wd := fieldAt block 0 4, nesterov := block.getD 4 0 = 1,
    key := r.rngKey, base := r.rngBase }

/-- Byte offset of component `c` in the layout (R242). -/
def compAt (s : Shard) (fmts : List Nat) (c : Nat) : Nat := 4096 * layoutBlocks s.params (fmts.take c)

/-- Parameter ranges of an item: its own, or those of its touched gradient blocks (R273, R278). -/
def itemRanges (s : Shard) (o : OpenStep) (i : ShItem) : List (Nat × Nat) :=
  let w := 4096 / fmtWidth o.fmt
  if i.sparse then ((o.touched.drop ((i.touch - (4096 * s.layout + 16 * s.layout)) / 4)).take i.count).map fun b => (b * w, min w (s.params - b * w))
  else [(i.first, i.count)]

/-- What a reference program makes of parameters `a` to `a + n - 1` (R276, R277), by byte offset in the buddy region; `ts` are the tensors. -/
def refRange (m : Mem) (u : Units) (s : Shard) (j : JobBind) (o : OpenStep) (x : RefEnv) (prog : Nat) (ts : List (Nat × Nat × Nat)) (a n : Nat) :
    List (Nat × List Nat) :=
  let fmts := j.layoutFmts
  let w := fmtWidth o.fmt
  let elems := fun (region off w a n : Nat) => elemsOf w (n * w) (memGetAt m u region (off + a * w) (n * w))
  let comp := fun (c a n : Nat) => elems s.bRegion (compAt s fmts c) (fmtWidth (fmts.getD c 1)) a n
  let grad := fun (a n : Nat) => (elems s.sRegion 0 w a n).map fun g => if w = 2 then g * 2 ^ 16 else g
  let out := fun (c a : Nat) (l : List Nat) => let v := fmtWidth (fmts.getD c 1); (compAt s fmts c + a * v, l.flatMap (leBytes v))
  if prog = 5 then
    (ts.filter fun t => a ≤ t.1 && t.1 < a + n).flatMap fun t =>
      let k := t.2.1 * t.2.2
      let r := x.adafactor t.2.1 t.2.2 (s.first + t.1) (grad t.1 k) (comp 1 t.1 k) (comp 2 t.1 k)
      [out 0 t.1 r.1, out 1 t.1 r.2.1, out 2 t.1 r.2.2]
  else
    let g := grad a n
    let old := (List.range fmts.length).map fun c => comp c a n
    let new := (List.range n).map fun e => x.param prog (s.first + a + e) (old.map fun l => l.getD e 0) (g.getD e 0)
    (List.range fmts.length).map fun c => out c a (new.map fun l => l.getD c 0)

/-- What a reference program computes for an item (R276). -/
def refItem (m : Mem) (u : Units) (s : Shard) (j : JobBind) (o : OpenStep) (block : List Nat) (prog : Nat) (ts : List (Nat × Nat × Nat)) (i : ShItem) :
    List (Nat × List Nat) :=
  match o.drive with
  | none => []
  | some r => (itemRanges s o i).flatMap fun x => refRange m u s j o (refEnv r block) prog ts x.1 x.2

/-- The result of an item stands in the buddy region. -/
def putItem (m : Mem) (u : Units) (s : Shard) (i : ShItem) : Mem × Units :=
  i.want.foldl (fun (a : Mem × Units) x => (memPutAt a.1 a.2 s.bRegion x.1 x.2, a.2.cureAt s.bRegion x.1 x.2.length)) (m, u)

/-- Cut the step into items and push them to the instance (R273); the touch list of a sparse step goes into the buddy region
(R278). -/
def cutItems (m : Mem) (u : Units) (k n : Nat) (s : Shard) (j : JobBind) (pr : ProgEntry) (o : OpenStep) : Mem × Units :=
  let touch := o.touched
  let block := (NMap.getD u.wick.params s.job ([], 0)).1
  let ts := if bitAt pr.flags 2 then readTensors m u (NMap.getD u.wick.params s.job ([], 0)).2 s.params 65536 0 else []
  let off := 4096 * s.layout + 16 * s.layout
  let ranges :=
    if o.sparse then denseItems touch.length 256
    else if bitAt pr.flags 2 then tensorItems u.itemSize (ts.map fun t => (t.1, t.2.1 * t.2.2)) 0 0
    else denseItems s.params u.itemSize
  let items := (List.range ranges.length).map fun i =>
    let r := ranges.getD i (0, 0)
    let x : ShItem := { want := [], index := i, sparse := o.sparse, first := if o.sparse then 0 else r.1, count := r.2, touch := if o.sparse then off + 4 * r.1 else 0,
                        state := 0, fp := 0, taper := 0 }
    if bitAt pr.flags 0 then { x with want := refItem m u s j o block pr.id ts x } else x
  let u := u.upOpen k n fun o => { o with items := items, block := block }
  (if o.sparse then memPutAt m u s.bRegion off (touch.flatMap (leBytes 4)) else m,
   (if o.sparse then u.cureAt s.bRegion off (4 * touch.length) else u).upInst s.job fun i => { i with queue := i.queue ++ items.map fun x => (s.shard, n, x.index) })

/-- The job is held or in recovery, and the step lies above its recovery point (R317, R323). -/
def Units.heldStep (u : Units) (job n : Nat) (j : JobBind) : Bool :=
  j.held && (match NMap.find u.rcv.mem job with
    | some x => (match x.point with | some r => decide (r < n) | none => true)
    | none => true)

/-- A step at APPLY_GO goes on at the buddy (R250, R272, R273, R278, R282): by a seed, directly when it is skipped, or by the shadow
program. It waits while the step before it is not VERIFIED, and for its drive record. -/
def driveStep (m : Mem) (u : Units) (k n : Nat) : Mem × Units :=
  let s := u.shAt k
  match s.step? n, u.jobB s.job with
  | some o, some j =>
    let before := s.committed + 1 = n || (s.opens.any fun x => x.step + 1 = n && 5 ≤ x.state)
    let waits := s.opens.any fun x => x.step + 1 = n && x.state < 5
    let mine := o.recs.filter fun x => x.r.epoch = o.epoch && bitAt x.r.flags 1
    if !s.isBuddy || o.state ≠ 3 || o.seeding || !o.items.isEmpty || j.mode ≠ 0 || u.heldStep s.job n j || waits then (m, u)
    else
      let o := { o with sparse := o.sparse || (match mine with | x :: _ => bitAt x.r.flags 2 | [] => false), drive := (mine.head?).map (·.r) }
      let a := captureBefore m u k n s j
      let m := a.1
      let u := a.2.upOpen k n fun x => { x with sparse := o.sparse, drive := o.drive }
      match mine with
      | x :: _ =>
        if bitAt x.r.flags 0 && before then
          (m, (u.upOpen k n fun o => { o with skipped := true }).shadowed k n (tableSum s.table))
        else
          let seed := (m, u.startSeed k n 0)
          if !(o.whole s) || !before || s.curStep.isNone then (m, (u.upOpen k n fun x => { x with damaged := x.damaged || !(o.whole s) }).startSeed k n 0)
          else match u.progOf j.prog with
            | none => seed
            | some pr =>
              if o.sparse && bitAt pr.flags 5 then (m, (u.wickEvent Ev.SHADOW_SPARSE_SEEDED).startSeed k n 0)
              else if (u.inst s.job).state = 2 && (NMap.getD u.grid.slots (u.inst s.job).slot PSlot.reset).state ≠ 6 then cutItems m u k n s j pr o
              else seed
      | [] => if !(o.whole s) || !before || s.curStep.isNone then (m, u.startSeed k n 0) else (m, u)
  | _, _ => (m, u)

/-- APPLY_GO is recorded at the buddy (R21, R249, R254): copy A, the records held for the step, and the step goes on; a new buddy's first step is
seeded (R258 step 3). -/
def goBuddy (m : Mem) (u : Units) (k n time : Nat) : Mem × Units :=
  let s := u.shAt k
  let u := u.upSh k fun s => (s.begin n 1).upOpen n fun o => { o with goTime := time, state := max 3 o.state }
  if s.prot = 1 ∨ s.prot = 2 then (m, (((u.upSh k fun s => { s with prot := 2 }).startSeed k n 0).writeA k n 3).releaseRecs k n)
  else driveStep m ((u.writeA k n 3).releaseRecs k n) k n

/-! Verification (R252) and verdicts (R279, R280) -/

/-- The value with a strict plurality, if one has it. -/
def plurality {α : Type} [DecidableEq α] (l : List α) : Option α :=
  let n := fun (v : α) => (l.filter (· = v)).length
  l.find? fun v => l.all fun w => w = v || n w < n v

/-- A verdict: 0 verified, 1 no_majority, 2 reseed, 3 self_fault, 4 one_vs_one, 5 divergence; the replicas that agree and those named. -/
structure Verdict where
  kind : Nat
  agree : List HeldRec
  named : List HeldRec
  deriving DecidableEq, Repr

/-- Form the verdict (R279) over the records with flag bit 1, the drive record, the staging fingerprint (none: the records alone
decide) and the value the shadow reports. -/
def verdictOf (recs : List HeldRec) (drive : Option Sys2Proof.StepRec) (staging : Option Nat) (s : Nat) : Verdict :=
  match plurality (recs.map fun x => driveFields x.r) with
  | none => { kind := 1, agree := [], named := recs }
  | some d =>
    let lost := recs.filter fun x => driveFields x.r ≠ d
    if drive.any fun r => driveFields r ≠ d then { kind := 2, agree := [], named := lost }
    else match plurality (recs.map fun x => x.r.gradFp) with
      | none => { kind := 1, agree := [], named := recs }
      | some gv =>
        if staging.any fun g => g ≠ gv then { kind := 2, agree := [], named := recs.filter fun x => driveFields x.r ≠ d || x.r.gradFp ≠ gv }
        else
          let ok := fun (x : HeldRec) => driveFields x.r = d && x.r.gradFp = gv && x.r.fp = s
          let agree := recs.filter ok
          let out := recs.filter fun x => !(ok x)
          let most := (out.map fun x => (out.filter fun y => y.r.fp = x.r.fp).length).foldl max 0
          if agree.isEmpty then
            if recs.length = 1 then { kind := 4, agree := [], named := recs }
            else if most = out.length then { kind := 3, agree := [], named := [] }
            else { kind := 1, agree := [], named := recs }
          else if most ≤ 1 + agree.length then { kind := if out.isEmpty then 0 else 5, agree := agree, named := out }
          else { kind := 1, agree := agree, named := recs }

/-- The event of a verdict (R280, Table 24-8) and its standing orders, one for each position named. -/
def Units.verdictEvent (u : Units) (code : Nat) (s : Shard) (n : Nat) (named : List HeldRec) : Units :=
  let more := named.map fun x => payloadOf [(0, 3, x.cid), (3, 1, x.ctx), (4, 1, x.r.replica)]
  let u := u.occur (llIndex 0x060) (u.record code 1 0x060 (payloadOf [(0, 4, s.shard), (4, 4, n)]) (Ev.alarms.contains code) false) more
  let t := fun (cid ctx : Nat) =>
    ({ Target.none with job := s.job, cid := cid, port := (u.portOf cid).getD 0xFF, ctx := ctx, shard := s.shard, step := n } : Target)
  if code = Ev.SHADOW_DIVERGENCE then named.foldl (fun u x => u.soFire code 1 (t x.cid x.ctx) fun _ => true) u
  else u.soFire code 1 (t 0 0xFF) fun _ => true

/-- A step that is VERIFIED is what the buddy holds now; in modes 1 and 2 its region becomes the current one (R259). -/
def Shard.hold (s : Shard) (mode n : Nat) : Shard :=
  if mode = 0 then { s with curStep := some n }
  else { s with cur := if s.curStep.isSome && s.cur = 0 then 1 else 0, prevStep := s.curStep, curStep := some n, table := s.table2, table2 := s.table }

/-- The step is VERIFIED (R252): copy A, and COMMIT_REC with State COMMITTED goes to the source (R254). -/
def Units.verified (u : Units) (k n agree : Nat) : Units :=
  let u := u.upOpen k n fun o => { o with verdict := 0, agreeing := agree, sends := 1 }
  let u := (u.markA k n 5 false).sendRec k n 6
  let mode := match u.jobB (u.shAt k).job with | some j => j.mode | none => 0
  (((u.upSh k fun s => s.hold mode n).later (.drive (u.shAt k).shard (n + 1))).later (.serveMore (u.shAt k).shard)).later (.rcvCheck (u.shAt k).job)

/-- Every expected record has come (R252). -/
def OpenStep.allRecs (o : OpenStep) (s : Shard) : Bool :=
  (List.range s.count).all fun i => o.recs.any fun x => x.r.replica = i && x.r.epoch = o.epoch

/-- Every record that can still come has come: a failed position of the job's recovery sends none (R317). -/
def Units.recsIn (u : Units) (s : Shard) (o : OpenStep) : Bool :=
  (List.range s.count).all fun i => (o.recs.any fun x => x.r.replica = i && x.r.epoch = o.epoch) ||
    (match NMap.find u.rcv.mem s.job with
     | some x => x.failed.any fun f => f.1 = (s.members.getD i (0, 0)).1 && (f.2 = 0xFF || f.2 = (s.members.getD i (0, 0)).2)
     | none => false)

/-- Record the replicas whose records take no part in the vote (R279). -/
def Units.noteNotRef (u : Units) (k n : Nat) (l : List HeldRec) : Units :=
  l.foldl (fun u x => ((u.upOpen k n fun o => { o with noted := x.r.replica :: o.noted }).count 0x6004B8).wickEvent Ev.SHADOW_NOT_REFERENCE) u

/-- Some value of the records that vote disagrees (R252): the Wick forms a verdict (R279). -/
def OpenStep.disputed (o : OpenStep) (s : Shard) : Bool :=
  let ref := o.recs.filter fun x => x.r.epoch = o.epoch && bitAt x.r.flags 1
  ref.any fun x => x.r.fp ≠ o.shadowFp || (o.whole s && x.r.gradFp ≠ o.gradFp) || (o.drive.any fun d => driveFields d ≠ driveFields x.r)

/-- In modes 1 and 2 an epoch that does not verify is given up: the last verified region stays current (R259). -/
def Shard.dropEpoch (s : Shard) : Shard := { s with opens := s.opens.filter (fun o => 5 ≤ o.state), table2 := [] }

/-- Verify a SHADOWED step whose read-back is complete, once every record has come or the wait is over (R252, R279, R280). -/
def Units.verifyStep (u : Units) (k n : Nat) : Units :=
  let s := u.shAt k
  match s.step? n, u.jobB s.job with
  | some o, some j =>
    if !s.isBuddy || o.state ≠ 4 || o.seeding || o.verdict = 1 then u
    else if !o.readDone || (j.mode = 0 && !(u.recsIn s o) && !o.recWait) then
      -- a verdict is being formed (R280): the flag is set in both copies
      if j.mode = 0 && o.verdict = 0 && o.kind = 0 && o.disputed s then (u.upOpen k n fun o => { o with verdict := 5 }).markA k n 4 true else u
    else if j.mode = 2 then u.verified k n 0
    else if j.mode = 1 then
      match o.recs.find? fun x => x.r.epoch = o.epoch && bitAt x.r.flags 3 with
      | some x => if x.r.fp = o.shadowFp then u.verified k n 1 else u.upSh k Shard.dropEpoch
      | none => u
    else
      let recs := o.recs.filter fun x => x.r.epoch = o.epoch
      let ref := recs.filter fun x => bitAt x.r.flags 1
      let u := u.noteNotRef k n (recs.filter fun x => !(bitAt x.r.flags 1) && !(o.noted.contains x.r.replica))
      if ref.isEmpty then
        -- the drive record is the member's own (Table 13-2): every replica that would vote has failed
        if o.drive.isSome && (NMap.find u.rcv.mem s.job).isSome && tableSum s.table = o.shadowFp then
          (u.upOpen k n fun o => { o with partialRecs := true }).verified k n 0
        else u
      else
        let u := u.upOpen k n fun o => { o with partialRecs := !(o.allRecs s) }
        let same := ref.filter fun x => x.r.fp = o.shadowFp
        if o.kind ≠ 0 then
          -- after a verdict's seed: against the replica the seed came from
          let i := if o.choice = 0 then s.writer else o.choice - 1
          if same.any fun x => x.r.replica = i then u.verified k n same.length
          else
            let u := ((u.upOpen k n fun o => { o with verdict := 1, kind := 0 }).count 0x6004B0).markA k n 4 true
            u.verdictEvent Ev.SHADOW_NO_MAJORITY s n ref
        else
          let v : Verdict := if tableSum s.table ≠ o.shadowFp then { kind := 3, agree := [], named := [] } else
            verdictOf ref o.drive (if o.whole s then some o.gradFp else none) o.shadowFp
          if v.kind = 0 then u.verified k n v.agree.length
          else if v.kind = 5 then
            ((u.count 0x600498 v.named.length).verdictEvent Ev.SHADOW_DIVERGENCE s n v.named).verified k n v.agree.length
          else
            let u := (u.upOpen k n fun o => { o with verdict := v.kind }).markA k n 4 true
            if v.kind = 1 then (u.count 0x6004B0).verdictEvent Ev.SHADOW_NO_MAJORITY s n ref
            else
              let u := if v.kind = 2 then (u.count 0x6004A8).verdictEvent Ev.SHADOW_RESEED s n v.named
                else if v.kind = 3 then (u.count 0x6004A0).verdictEvent Ev.SHADOW_SELF_FAULT s n []
                else u.verdictEvent Ev.SHADOW_ONE_VS_ONE s n v.named
              let c := if v.kind = 4 then (match v.named with | x :: _ => x.r.replica + 1 | [] => 0) else 0
              (u.upOpen k n fun o => { o with kind := v.kind }).startSeed k n c
  | _, _ => u

/-- Every item of a step is done or seeded: it enters SHADOWED with the fingerprint R275 forms. -/
def Units.itemsDone (u : Units) (k n : Nat) : Units :=
  let s := u.shAt k
  match s.step? n with
  | none => u
  | some o =>
    if o.state ≠ 3 || o.seeding || o.items.isEmpty || !(o.items.all fun i => i.state = 2 || i.state = 4) then u
    else
      let base := if o.sparse then (match s.copyA (n - 1) with | some r => r.postFp | none => 0) else 0
      (u.shadowed k n ((base + sumL (o.items.map (·.fp))) % fpP)).count 0x600490

/-- Layout blocks of a work item in every component. -/
def itemBlocks (s : Shard) (j : JobBind) (o : OpenStep) (i : ShItem) : List Nat :=
  if i.sparse then
    let w := fmtWidth o.fmt
    let a := (i.touch - (4096 * s.layout + 16 * s.layout)) / 4
    (((o.touched.drop a).take i.count).flatMap fun b => blocksOf s.params j.layoutFmts (b * (4096 / w)) (4096 / w)).foldl
      (fun l x => if l.contains x then l else l ++ [x]) []
  else blocksOf s.params j.layoutFmts i.first i.count

end Sys2Proof.Machine
end

