-- ==== Sys2Proof/Machine/Grid.lean ====
section
/-!
DEFINITION. Grid control (07_taper_grid): placement, loading, program states and commands, partitions, diagnosis and repair, the message
network, stream rows and the host's window on a taper.
-/
namespace Sys2Proof.Machine

/-! Access -/

/-- Change grid control. -/
def Units.upG (u : Units) (f : GridUnit → GridUnit) : Units := { u with grid := f u.grid }

/-- Program slot `n`. -/
def Units.slot (u : Units) (n : Nat) : PSlot := NMap.getD u.grid.slots n PSlot.reset

/-- Change program slot `n`. -/
def Units.upSlot (u : Units) (n : Nat) (f : PSlot → PSlot) : Units := u.upG fun g => { g with slots := NMap.updD g.slots PSlot.reset n f }

/-- Logical taper `l`. -/
def Units.lt (u : Units) (l : Nat) : LTaper := NMap.getD u.grid.map l (LTaper.first l)

/-- Change logical taper `l`. -/
def Units.upLt (u : Units) (l : Nat) (f : LTaper → LTaper) : Units := u.upG fun g => { g with map := NMap.set g.map l (f (NMap.getD g.map l (LTaper.first l))) }

/-- Taper `l`. -/
def Units.taper (u : Units) (l : Nat) : Taper := NMap.getD u.grid.tapers l Taper.reset

/-- Store taper `l`. -/
def Units.setTaper (u : Units) (l : Nat) (t : Taper) : Units := u.upG fun g => { g with tapers := NMap.put g.tapers Taper.reset l t }

/-- Change taper `l`. -/
def Units.upTaper (u : Units) (l : Nat) (f : Taper → Taper) : Units := u.setTaper l (f (u.taper l))

/-- Partition `p` takes programs: enabled and not draining. -/
def GridUnit.ready (g : GridUnit) (p : Nat) : Bool := bitAt g.partEn p && !(bitAt g.draining p)

/-- Logical taper `l` may be placed: served, free, not suspect, in an enabled partition (R162). -/
def Units.freeTaper (u : Units) (l : Nat) : Bool :=
  let t := u.lt l
  l < 512 && t.column.isSome && t.slot.isNone && !t.suspect && u.grid.ready (l / 64)

/-- Logical indices of a partition. -/
def partOf (p : Nat) : List Nat := (List.range 64).map fun k => 64 * p + k

/-- Source unit of a grid event: block 0x0E0, the partition in bits [15:12] (Table 21-1). -/
def gridSrc (l : Nat) : Nat := 0x0E0 + 4096 * (l / 64)

/-- The last-light ring of slot `n` receives one record for a command or fault record (R496). -/
def Units.slotRecord (u : Units) (n kind : Nat) (args : List Nat) : Units :=
  let code := Config.slotRecordCode kind
  u.setLl (64 + n) ((u.llRing (64 + n)).add (u.record code 2 0x0E0 (Config.eventPayload code args) false false))

/-- Usable tapers of each partition for the budget (R131, R135). -/
def Units.usableNow (u : Units) : Units :=
  let l := (List.range 8).map fun p => if u.grid.ready p then ((partOf p).filter fun k => (u.lt k).column.isSome).length else 0
  u.setBud { u.bud with usable := l }

/-! Placement (R162) -/

/-- The partition for the next group of `g`: the fewest free tapers that still hold it, the lowest number on a tie. -/
def pickPart (free : List Nat) (g : Nat) : Option Nat :=
  ((List.range 8).filter fun p => g ≤ (free.filter fun l => l / 64 = p).length).foldl (fun (o : Option Nat) p =>
    match o with
    | none => some p
    | some q => if (free.filter fun l => l / 64 = p).length < (free.filter fun l => l / 64 = q).length then some p else some q) none

/-- Automatic placement of `k` groups of `g` among the free logical indices, in order. -/
def autoPlace : Nat → Nat → List Nat → Option (List Nat)
  | 0, _, _ => some []
  | k + 1, g, free =>
    match pickPart free g with
    | none => none
    | some p =>
      let mine := (free.filter fun l => l / 64 = p).take g
      (autoPlace k g (free.filter fun l => !mine.contains l)).map (mine ++ ·)

/-! Image header (R161, Tables 7-8 to 7-10) -/

/-- A segment lies in the code area or the parameter area (Table 7-10). -/
def segPlace (a len : Nat) : Bool := a + len ≤ 0x10000 || (0x5C000 ≤ a && a + len ≤ 0x5F000)

/-- The loader's check of an image at byte `off` of region `idx` (R161): OK or the refusal. -/
def imageCheck (m : Mem) (u : Units) (idx off : Nat) : Nat :=
  let h := memGetAt m u idx off 256
  let n := fieldAt h 8 2
  let g := fieldAt h 10 2
  let segs := fieldAt h 12 2
  let tt := fieldAt h 20 4
  let st := fieldAt h 24 4
  let len := fieldAt h 28 4
  if fieldAt h 0 4 ≠ 0x31494759 || h.getD 4 0 ≠ 1 then St.BAD_PARAM
  else if h.getD 5 0 ≠ 1 then St.UNSUPPORTED
  else if !([8, 10, 11, 13].contains (h.getD 6 0)) || n = 0 || 512 < n || g = 0 || 64 < g || n % g ≠ 0 || segs = 0 || 4096 < segs || 16 < h.getD 14 0
      || len < 256 || 2 ^ 28 < len || tt < 256 || len < tt + 8 * n || st < 256 || len < st + 16 * segs || (u.phys idx (off + (len - 1))).isNone then
    St.BAD_PARAM
  else
    let tOk := (List.range n).all fun i => let e := memGetAt m u idx (off + tt + 8 * i) 8; fieldAt e 4 2 + fieldAt e 6 2 ≤ segs
    let sOk := (List.range segs).all fun i =>
      let e := memGetAt m u idx (off + st + 16 * i) 16
      segPlace (fieldAt e 8 4) (fieldAt e 4 4) && (bitAt (fieldAt e 12 4) 0 || fieldAt e 0 4 + fieldAt e 4 4 ≤ len)
    if tOk && sOk then St.OK else St.BAD_PARAM

/-! Slot commands (R164) -/

/-- Complete a slot command and keep its status (GRID_PROG_FAULT.STATUS). -/
def Units.slotDone (u : Units) (n : Nat) (c : SlotCmd) (status : Nat) : Units :=
  let u := u.upSlot n fun s => { s with status := status }
  match c.cmd with
  | some k => u.done k 0x0E0 c.code status 0 (if c.code = 0x0501 && status = St.OK then n else 0)
  | none => u

/-- Tapers of slot `n` stop at an instruction boundary; waits are given up and run again on resume (R165, R220). -/
def Units.haltTapers (u : Units) (n : Nat) : Units :=
  (((u.slot n).place.foldl fun u l => u.upTaper l fun t => { t with wait := none }) u).upSlot n fun s => { s with popWait := [] }

/-- Start every taper at its entry (R214). -/
def Units.startTapers (u : Units) (n : Nat) : Units :=
  let s := u.slot n
  let r := match u.jobB s.job with | some j => fpR j.key | none => 2
  ((s.place.zip s.entries).foldl fun u x => u.upTaper x.1 fun t => { Taper.start x.2 r t.mem with faults := t.faults, bad := t.bad }) u

/-- Return a program's tapers: suspect ones go to the diagnostic (R168 step 5, R171). -/
def Units.freeTapers (u : Units) (n : Nat) : Units :=
  (u.slot n).place.foldl (fun u l => u.upLt l fun t => { t with slot := none, diag := t.diag || t.suspect }) u

/-- Items on a program's submission ring are cancelled, one completion each (R168 step 4). -/
def Units.cancelItems (u : Units) (n : Nat) : Units :=
  let s := u.slot n
  if s.sub = 0xFFFFFFFF then u
  else
    let d := u.desc s.sub
    d.q.foldl (fun u e => match e with
      | .words b => u.cancelItem s.sub s.comp b
      | _ => u) (u.setDesc s.sub { d with q := [], cons := d.prod })

/-- Unload (R168): the generation rises, tapers stop, messages of the old generation go, items are cancelled, the tapers return. -/
def Units.unload (u : Units) (n : Nat) : Units :=
  let s := u.slot n
  let u := (u.upG fun g => { g with net := g.net.filter fun x => x.slot ≠ n }).cancelItems n
  let u := (s.place.foldl fun u l => u.upTaper l fun t => { t with wait := none, rx := [], chan := [] }) u
  let u := u.freeTapers n
  u.upSlot n fun x => { PSlot.reset with gen := wrapW 16 (x.gen + 1), status := x.status, msgDrop := x.msgDrop, waiting := x.waiting }

/-- Run one command on a slot, in the state it finds (Table 7-12); a halt stays running until it completes. -/
def Units.runSlotCmd (u : Units) (n : Nat) (c : SlotCmd) : Units :=
  let st := (u.slot n).state
  let u := u.slotRecord n 0 [c.code]
  if c.code = 0x0502 && st = 2 then ((u.startTapers n).upSlot n fun s => { s with state := 3 }).slotDone n c St.OK
  else if c.code = 0x0503 && st = 3 then (u.haltTapers n).upSlot n fun s => { s with state := 4, running := some c }
  else if c.code = 0x0504 && st = 5 then (u.upSlot n fun s => { s with state := 3 }).slotDone n c St.OK
  else if c.code = 0x0505 && (st = 2 || st = 5 || st = 7) then (u.unload n).slotDone n c St.OK
  else u.slotDone n c St.BAD_STATE

/-- Commands that waited behind an earlier one run in the order received (R164). -/
def Units.slotNext (u : Units) (n : Nat) : Units :=
  Nat.repeat (fun u =>
    let s := u.slot n
    match s.running, s.waiting with
    | none, c :: r => (u.upSlot n fun s => { s with waiting := r }).runSlotCmd n c
    | _, _ => u) (u.slot n).waiting.length u

/-- The command that runs on a slot ends with a status; the next one may run. -/
def Units.slotEnd (u : Units) (n status : Nat) : Units :=
  let u := match (u.slot n).running with
    | some c => (u.upSlot n fun s => { s with running := none }).slotDone n c status
    | none => u
  u.slotNext n

/-- Issue a command on a slot: behind an earlier one, or at once. -/
def Units.slotCmd (u : Units) (n : Nat) (c : SlotCmd) : Units :=
  let s := u.slot n
  if s.running.isSome || !s.waiting.isEmpty then u.upSlot n fun s => { s with waiting := s.waiting ++ [c] }
  else if s.state = 1 then u.upSlot n fun s => { s with waiting := s.waiting ++ [c] }
  else (u.runSlotCmd n c)

/-- A unit that owns a program has it unloaded: a running one is halted first (Table 7-12). -/
def Units.unitUnload (u : Units) (n : Nat) : Units :=
  let s := u.slot n
  if s.state = 3 then (u.slotCmd n { code := 0x0503, cmd := none }).upSlot n fun s => { s with unloadNext := true }
  else if s.state = 4 then u.upSlot n fun s => { s with unloadNext := true }
  else if s.state = 0 || s.state = 6 then u
  else u.slotCmd n { code := 0x0505, cmd := none }

/-- GRID_START, GRID_HALT, GRID_RESUME, GRID_UNLOAD from a command ring. -/
def Units.slotHost (u : Units) (c : Sys2Proof.Cmd) (code n : Nat) : Units :=
  if 4 ≤ stampPriv c.stamp then u.done c 0x0E0 code St.NOT_PRIVILEGED
  else if 64 ≤ n then u.done c 0x0E0 code St.BAD_PARAM
  else u.slotCmd n { code := code, cmd := some c }

/-! Loading (R163) -/

/-- Accept a load: the lowest EMPTY slot becomes LOADING (R162: BUSY_RETRY when none is free). -/
def Units.loadInto (m : Mem) (u : Units) (idx off job : Nat) (list : Option (List Nat)) (sub comp : Nat) (binds : List Nat) (owner : Loader)
    (c : SlotCmd) : Units × Nat :=
  let st := imageCheck m u idx off
  let h := memGetAt m u idx off 256
  if st ≠ St.OK then (u, st)
  else if binds.length < h.getD 14 0 || 16 < binds.length || (binds.any fun r => !(NMap.has u.mantle.regions r || (owner ≠ .host && r = 0xFFFF))) ||
      (match list with | some l => l.length ≠ fieldAt h 8 2 | none => false) then (u, St.BAD_PARAM)
  else match (List.range 64).find? fun n => (u.slot n).state = 0 && (u.slot n).running.isNone with
    | none => (u, St.BUSY_RETRY)
    | some n =>
      let bind := binds.map fun r => (r, match NMap.find u.mantle.regions r with | some x => x.gen | none => 0)
      let u := u.upSlot n fun s =>
        { s with state := 1, activity := h.getD 6 0, count := fieldAt h 8 2, group := fieldAt h 10 2, progId := fieldAt h 16 2,
                 version := fieldAt h 18 2, job := job, faultTaper := 0, cause := 0, msgDrop := 0, retired := 0, beats := 0, sub := sub, comp := comp,
                 bind := bind, owner := owner, image := (idx, off), list := list, running := some c, place := [], entries := [], work := [], done := [],
                 popWait := [], unloadNext := false }
      ((u.slotRecord n 0 [0x0501]), St.OK)

/-- The identity words of the control page (Table 7-4). -/
def identity (i n l gen job sub comp : Nat) : List Nat :=
  leBytes 2 i ++ leBytes 2 n ++ leBytes 2 l ++ leBytes 2 gen ++ leBytes 4 job ++ leBytes 4 sub ++ leBytes 4 comp

/-- Local memory of program taper `i` as the loader leaves it (R163 steps 5 and 6): zeroed, segments and identity words written. -/
def loadMem (m : Mem) (u : Units) (s : PSlot) (i l : Nat) : Memory × Nat :=
  let idx := s.image.1
  let off := s.image.2
  let h := memGetAt m u idx off 256
  let e := memGetAt m u idx (off + fieldAt h 20 4 + 8 * i) 8
  let mem := (List.range (fieldAt e 6 2)).foldl (fun (d : Memory) k =>
    let g := memGetAt m u idx (off + fieldAt h 24 4 + 16 * (fieldAt e 4 2 + k)) 16
    let len := fieldAt g 4 4
    if bitAt (fieldAt g 12 4) 0 then d.clear (fieldAt g 8 4) len
    else d.writeAll (fieldAt g 8 4) (memGetAt m u idx (off + fieldAt g 0 4) len)) []
  (mem.writeAll 0x5F180 (identity i s.count l s.gen s.job s.sub s.comp), fieldAt e 0 4)

/-- Where the tapers of a load go, or its refusal (R162). -/
def Units.placeOf (u : Units) (s : PSlot) : Nat × List Nat :=
  match s.list with
  | some l => if l.all u.freeTaper && l.Nodup then (St.OK, l) else (St.BAD_STATE, [])
  | none => match autoPlace (s.count / s.group) s.group ((List.range 512).filter u.freeTaper) with
    | some l => (St.OK, l)
    | none => (St.BUSY_RETRY, [])

/-- GRID_LOAD_COMPLETE (R163): the digest and the signature have been checked; the tapers are taken, zeroed and written, or the slot
returns to EMPTY. -/
def gridLoadComplete (slot : Nat) (digestOk signatureOk : Bool) (m : Mem) (u : Units) : Mem × Units :=
  let s := u.slot slot
  if s.state ≠ 1 then (m, u)
  else
    let p := if digestOk && signatureOk then u.placeOf s else (St.SIGNATURE_INVALID, [])
    let fail := p.1 ≠ St.OK
    let ms := (List.range p.2.length).map fun i => loadMem m u s i (p.2.getD i 0)
    let u1 := (p.2.zip ms).foldl (fun u x => (u.upLt x.1 fun t => { t with slot := some slot }).setTaper x.1 (Taper.start x.2.2 2 x.2.1)) u
    let u1 := u1.upSlot slot fun s => { s with state := if fail then 0 else 2, place := p.2, entries := ms.map (·.2) }
    (m, (u1.slotEnd slot p.1).later (.gridLoaded slot p.1))

/-- GRID_LOAD (0x0501). `listAddr` is the Mantle address of the placement list. -/
def gridLoad (c : Sys2Proof.Cmd) (region placement job off sub comp : Nat) (binds : List Nat) (listAddr : Nat) (m : Mem) (u : Units) : Mem × Units :=
  let end_ := fun (u : Units) st => (m, u.done c 0x0E0 0x0501 st)
  if 4 ≤ stampPriv c.stamp then end_ u St.NOT_PRIVILEGED
  else if 1 < placement then end_ u St.BAD_PARAM
  else
    let n := fieldAt (memGetAt m u region off 256) 8 2
    if placement = 1 && !(u.mayAccess Ag.grid listAddr (2 * n) false) then end_ u St.NOT_PRIVILEGED
    else
      let l := if placement = 1 then some ((List.range n).map fun i => leNat (m.bytesAt (listAddr + 2 * i) 2)) else none
      let r := u.loadInto m region off job l sub comp binds .host { code := 0x0501, cmd := some c }
      if r.2 = St.OK then (m, r.1) else end_ r.1 r.2

/-- GRID_START (0x0502). -/
def gridStart (c : Sys2Proof.Cmd) (slot : Nat) (u : Units) : Units := u.slotHost c 0x0502 slot
/-- GRID_HALT (0x0503). -/
def gridHalt (c : Sys2Proof.Cmd) (slot : Nat) (u : Units) : Units := u.slotHost c 0x0503 slot
/-- GRID_RESUME (0x0504). -/
def gridResume (c : Sys2Proof.Cmd) (slot : Nat) (u : Units) : Units := u.slotHost c 0x0504 slot
/-- GRID_UNLOAD (0x0505). -/
def gridUnload (c : Sys2Proof.Cmd) (slot : Nat) (u : Units) : Units := u.slotHost c 0x0505 slot

/-- A unit whose program was unloaded with a partition hears of it: its items end (R168 step 4). -/
def Units.ownerTold (u : Units) (o : Loader) (n : Nat) : Units := if o = .host then u else u.later (.gridGone o n)

/-- Unload a program whose partition is disabled, or when its drain ends (R170). -/
def Units.unloadNow (u : Units) (n : Nat) : Units := ((u.unload n).ownerTold (u.slot n).owner n).slotEnd n St.BAD_STATE

/-- A stream channel of a program is busy. -/
def Units.streaming (u : Units) (n : Nat) : Bool := (u.slot n).place.any fun l => (NMap.vals (u.taper l).chan).any fun c => c.state = 1

/-- GRID_HALT_COMPLETE (R165): once no channel is busy the halt is complete; a program of a disabled partition is then unloaded (R170). -/
def gridHaltComplete (slot : Nat) (u : Units) : Units :=
  let s := u.slot slot
  if s.state ≠ 4 || u.streaming slot then u
  else if s.unloadNext then
    let u := match s.running with
      | some c => (u.upSlot slot fun s => { s with running := none }).slotDone slot c St.OK
      | none => u
    ((u.unload slot).ownerTold s.owner slot).slotNext slot
  else (u.upSlot slot fun s => { s with state := 5 }).slotEnd slot St.OK

/-! Faults of programs (R166, R167) -/

/-- A program enters FAULTED (R166): its tapers halt, and the ring of its slot freezes (R496). One that drains halts and stays DRAINING, which Table 7-12
leaves for UNLOADING alone. -/
def Units.slotFault (u : Units) (n taper cause detail : Nat) : Units :=
  let drains := decide ((u.slot n).state = 6)
  let u := if drains then (u.slot n).place.foldl (fun u l => u.upTaper l fun t => { t with stopped := true }) u else u
  let u := ((u.haltTapers n).upSlot n fun s =>
    { s with state := if drains then 6 else 7, faultTaper := taper, cause := cause, unloadNext := false }).llFreeze (64 + n)
  (u.slotEnd n St.BAD_STATE).later (.gridFault n cause detail)

/-- GRID_WATCHDOG_EXPIRY (R167): a RUNNING program has retired nothing for WD_MS while a taper of it does not wait on its submission
ring. -/
def gridWatchdogExpiry (slot : Nat) (u : Units) : Units :=
  let s := u.slot slot
  if s.state ≠ 3 || s.place.all (fun l => (u.taper l).wait = some .pop) then u
  else
    let src := match s.place with | l :: _ => gridSrc l | [] => 0x0E0
    let u := u.raise Ev.GRID_PROG_HANG 2 src 0 (ll := some (64 + slot))
    u.slotFault slot 0 0x3F 0

/-! Partitions (R170, R132, R131) -/

/-- Programs with a taper in partition `p`. -/
def Units.slotsIn (u : Units) (p : Nat) : List Nat := (List.range 64).filter fun n => (u.slot n).place.any fun l => l / 64 = p

/-- Loads in progress whose placement list has a taper in partition `p`. -/
def Units.loadsIn (u : Units) (p : Nat) : List Nat :=
  (List.range 64).filter fun n => (u.slot n).state = 1 && (match (u.slot n).list with | some l => l.any fun x => x / 64 = p | none => false)

/-- A load in progress fails as its partition is disabled (Table 7-12): the slot returns to EMPTY. -/
def Units.loadFails (u : Units) (n : Nat) : Units :=
  ((u.upSlot n fun s => { s with state := 0, place := [], entries := [] }).slotEnd n St.BAD_STATE).later (.gridLoaded n St.BAD_STATE)

/-- A partition with a failed router is out of service from the start on: all its logical indices are vacant (R150). -/
def Units.partVacant (u : Units) (p : Nat) : Bool := (partOf p).all fun l => (u.lt l).column.isNone

/-- GRID_PART_DISABLE (R170): PART_EN bit `part` is cleared. -/
def gridPartDisable (w : Who) (part : Nat) (u : Units) : Units :=
  if !(isOperator w.priv) || 8 ≤ part || !(bitAt u.grid.partEn part) then u
  else
    let run := (u.slotsIn part).filter fun n => (u.slot n).state = 3
    let d : Drain := { unit := 0x200 + part, items := run.length, enableHeld := false }
    let u := u.upG fun g => { g with partEn := clrBit g.partEn part, draining := setBit g.draining part }
    let u : Units := { u with drains := u.drains ++ [d] }
    let u := (u.loadsIn part).foldl (fun u n => u.loadFails n) u
    let u := (u.slotsIn part).foldl (fun u n =>
      let st := (u.slot n).state
      if st = 3 then u.upSlot n fun s => { s with state := 6 }
      else if st = 4 then u.upSlot n fun s => { s with unloadNext := true }
      else if st = 2 || st = 5 || st = 7 then u.unloadNow n
      else u) u
    u.usableNow

/-- GRID_PART_ENABLE (R145): held until a drain ends, and then a start of kind 2 (Table 23-7); a partition out of service for its router stays so (R150). -/
def gridPartEnable (w : Who) (part : Nat) (u : Units) : Units :=
  if !(isOperator w.priv) || 8 ≤ part || bitAt u.grid.partEn part || u.partVacant part then u
  else if bitAt u.grid.draining part then { u with drains := u.drains.map fun x => if x.unit = 0x200 + part then { x with enableHeld := true } else x }
  else u.later (.askPower 2 part 0xFF false)

/-- A partition enters service. -/
def Units.partUp (u : Units) (p : Nat) : Units := (u.upG fun g => { g with partEn := setBit g.partEn p }).usableNow

/-- A draining program has completed the work it accepted (R170): no item waits, and each of its tapers has stopped or waits
for another item. -/
def Units.slotIdle (u : Units) (n : Nat) : Bool :=
  let s := u.slot n
  s.work.isEmpty && (s.sub = 0xFFFFFFFF || (u.desc s.sub).q.isEmpty) && s.place.all fun l => (u.taper l).stopped || (u.taper l).wait = some .pop

/-- A partition's drain ends (R170): programs still DRAINING there are unloaded, and a held enable is admitted. -/
def Units.partDrained (u : Units) (p : Nat) (again : Bool) : Units :=
  let u := (u.slotsIn p).foldl (fun u n => if (u.slot n).state = 6 then u.unloadNow n else u) u
  let u := u.upG fun g => { g with draining := clrBit g.draining p }
  if again then u.later (.askPower 2 p 0xFF false) else u

/-- GRID_PACE_WRITE (R132). -/
def gridPaceWrite (w : Who) (value : Nat) (u : Units) : Units :=
  let v := bits value 15 0
  if isOperator w.priv && (v = 0 || (500 ≤ v && v ≤ 1500)) then u.setCfg 0xE00014 v else u

/-- GRID_BEAT_WINDOW (R131): the rate [M beats/s] and temperature each partition measured over 10 us; one that is stopped reports 0, and
none exceeds the pace (R132). -/
def gridBeatWindow (rates : List Nat) (temps : List Int) (u : Units) : Units :=
  let pace := u.cfg 0xE00014 0
  let r := (List.range 8).map fun p =>
    if !(bitAt u.grid.partEn p) && !(bitAt u.grid.draining p) then 0
    else if pace = 0 then rates.getD p 0 else min pace (rates.getD p 0)
  let u := u.upG fun g =>
    { g with tj := (List.range 8).map fun p => (p, temps.getD p 0),
             beats := (List.range 8).map fun p => (p, NMap.getD g.beats p 0 + 10 * r.getD p 0) }
  (u.setBud { u.bud with rates := r }).usableNow

/-! Diagnosis, retirement and repair (R171, R149, R150) -/

/-- A taper becomes suspect; the diagnostic starts at once when no program owns it (R171). -/
def Units.suspectL (u : Units) (l : Nat) : Units := u.upLt l fun t => { t with suspect := true, diag := t.diag || t.slot.isNone }

/-- GRID_DIAG (0x0506). -/
def gridDiag (c : Sys2Proof.Cmd) (taper : Nat) (u : Units) : Units :=
  let t := u.lt taper
  if 4 ≤ stampPriv c.stamp then u.done c 0x0E0 0x0506 St.NOT_PRIVILEGED
  else if 512 ≤ taper || t.column.isNone then u.done c 0x0E0 0x0506 St.BAD_PARAM
  else if t.diagCmd.isSome then u.done c 0x0E0 0x0506 St.BUSY_RETRY
  else (u.upLt taper fun t => { t with diagCmd := some c }).suspectL taper

/-- Distance of two columns. -/
def colDist (a b : Nat) : Nat := if a < b then b - a else a - b

/-- The spare that takes over a retired column: nearest, the lower column on a tie (R149). -/
def Units.spareFor (u : Units) (p col : Nat) : Option Nat :=
  let used := (partOf p).filterMap fun l => (u.lt l).column
  (([16, 33, 50, 67].filter fun c => !used.contains c && !u.grid.retired.contains (68 * p + c))).foldl (fun (o : Option Nat) c =>
    match o with
    | none => some c
    | some b => if colDist c col < colDist b col then some c else some b) none

/-- Retire the taper that serves logical index `l` (R149, R150): a spare takes over, or the index becomes vacant; the retirement goes to
the NOR record. -/
def Units.retireTaper (u : Units) (l : Nat) : Units :=
  match (u.lt l).column with
  | none => u
  | some col =>
    let p := l / 64
    let new := u.spareFor p col
    let u := u.upG fun g => { g with retired := (68 * p + col) :: g.retired }
    let u := u.upLt l fun t => { t with column := new, suspect := false, corr := [] }
    let u := (u.emit (.bus 4 [68 * p + col])).usableNow
    match new with
    | some c => u.raise Ev.GRID_TAPER_REMAP 2 (gridSrc l) (Config.eventPayload Ev.GRID_TAPER_REMAP [col, c])
    | none => u

/-- GRID_DIAG_COMPLETE (R171): a passing taper returns to the pool, a failing one is retired; a failed router is recorded (R150). -/
def gridDiagComplete (taper : Nat) (pass routerOk : Bool) (u : Units) : Units :=
  let t := u.lt taper
  if !t.diag then u
  else
    let u := u.upLt taper fun t => { t with diag := false, diagCmd := none }
    let u := if routerOk then u
      else (u.upG fun g => { g with routerFail := setBit g.routerFail (taper / 64) }).raise Ev.GRID_ROUTER_FAIL 2 (gridSrc taper) 0
    let good := pass && routerOk
    let u := (if good then u.upLt taper fun t => { t with suspect := false, corr := [] } else u.retireTaper taper).later (.diagnosed taper good)
    match t.diagCmd with
    | some c => u.done c 0x0E0 0x0506 (if good then St.OK else St.INTEGRITY_FINGERPRINT)
    | none => u

/-! The message network (R151-R154) -/

/-- Receive queue of a VC. -/
def Taper.queue (t : Taper) (vc : Nat) : RxQueue := NMap.getD t.rx vc RxQueue.reset

/-- Store a receive queue. -/
def Taper.setQueue (t : Taper) (vc : Nat) (q : RxQueue) : Taper := { t with rx := NMap.put t.rx RxQueue.reset vc q }

/-- Address of a slot of a receive queue (Table 7-3). -/
def slotAddr (vc k : Nat) : Nat := 0x50000 + 0x4000 * vc + 512 * k

/-- Slots of a queue in use. -/
def RxQueue.used (q : RxQueue) : Nat := q.held.length + q.ready.length

/-- Remove the first message that meets `f`. -/
def takeNet (f : NetMsg → Bool) : List NetMsg → List NetMsg
  | [] => []
  | x :: r => if f x then r else x :: takeNet f r

/-- MESH_MESSAGE_ARRIVE (R152-R154): the first message of a source, destination and VC enters the receive queue when it has room, or is
dropped when its generation is old or its destination is no longer its program's. -/
def meshMessageArrive (src dst vc : Nat) (u : Units) : Units :=
  let f := fun (x : NetMsg) => x.src = src && x.dst = dst && x.vc = vc
  match u.grid.net.find? f with
  | none => u
  | some x =>
    let s := u.slot x.slot
    let u1 := u.upG fun g => { g with net := takeNet f g.net }
    if s.gen ≠ x.gen || (u.lt dst).slot ≠ some x.slot then (u1.upSlot x.slot fun s => { s with msgDrop := satW 32 (s.msgDrop + 1) }).count 0xE00110
    else if s.state ≠ 3 && s.state ≠ 6 then u
    else
      let t := u.taper dst
      let q := t.queue vc
      if 32 ≤ q.used then u
      else
        let t := { t with mem := t.mem.writeAll (slotAddr vc q.next) x.bytes }
        u1.setTaper dst (t.setQueue vc { q with next := (q.next + 1) % 32, ready := q.ready ++ [q.next] })

/-! Issue gates (R139, R529) -/

/-- The gate of a taper's group of 8 is open, or may open now: a step opens one group, and no two open at the same instant (R529). -/
def Units.stepFree (u : Units) (l : Nat) : Bool := bitAt u.grid.opened (l / 8) || u.grid.stepAt ≠ some u.clk.mono

/-- Open the gate of a taper's group (R529). -/
def Units.openStep (u : Units) (l : Nat) : Units :=
  if bitAt u.grid.opened (l / 8) then u else u.upG fun g => { g with opened := setBit g.opened (l / 8), stepAt := some u.clk.mono }

/-- A group keeps its gate open while an activity of its tapers' programs may use the grid (R139). -/
def Units.groupOpen (u : Units) (k : Nat) : Bool :=
  (List.range 8).any fun i => match (u.lt (8 * k + i)).slot with | some n => u.gate (u.slot n).activity 3 | none => false

/-- Groups none of whose activities may use the grid close their gates (R139): each opens again in a step of its own (R529). -/
def Units.closeGroups (u : Units) : Units :=
  u.upG fun g => { g with opened := sumL (((List.range 64).filter fun k => bitAt g.opened k && u.groupOpen k).map fun k => 2 ^ k) }

/-! Local memory errors (R157, R171) -/

/-- A corrected error on a taper: counted, and 16 within 24 h make it suspect. -/
def Units.eccFixed (u : Units) (l : Nat) : Units :=
  let day := 86400 * 10 ^ 9
  let now := u.clk.mono
  let u := (u.count 0xE00100).upLt l fun t => { t with corr := now :: t.corr.filter fun x => now < x + day }
  if 16 ≤ (u.lt l).corr.length then u.suspectL l else u

/-- A word of `n` bytes at `a` still holds a double-bit error that a read found. -/
def Taper.badAt (t : Taper) (a n : Nat) : Bool :=
  t.bad.any fun x => decide (a < 8 * x.1 + 8) && decide (8 * x.1 < a + n) && leNat (Memory.readAll t.mem (8 * x.1) 8) == x.2

/-- What a read of `n` bytes at `a` finds: `ecc` 1 corrected, 2 a double-bit error; one that an earlier read found is still there. -/
def Taper.eccAt (t : Taper) (ecc a n : Nat) : Nat := if t.badAt a n then 2 else ecc

/-- A double-bit error at `a`: counted, the taper suspect (R171), and the word keeps it. -/
def Units.eccDouble (u : Units) (l a : Nat) : Units :=
  ((u.count 0xE00108).suspectL l).upTaper l fun t => { t with bad := (a / 8, leNat (Memory.readAll t.mem (a / 8 * 8) 8)) :: t.bad }

/-! Stream rows (R159, R160) -/

/-- Channel `k`. -/
def Taper.ch (t : Taper) (k : Nat) : Chan := NMap.getD t.chan k Chan.reset

/-- Store channel `k` and its status word (Table 7-6). -/
def Taper.setCh (t : Taper) (k : Nat) (c : Chan) : Taper :=
  { t with chan := NMap.put t.chan Chan.reset k c, mem := t.mem.writeAll (0x5F100 + 8 * k) (leBytes 8 (c.status + c.state * 2 ^ 16 + c.rows * 2 ^ 32)) }

/-- A channel that passes its bytes through the fingerprint unit. -/
def Chan.fp (c : Chan) : Bool := bitAt (c.desc.getD 2 0) 0

/-- Consume elements into the running fingerprint (R205). -/
def Taper.fingEat (t : Taper) (vs : List Nat) : Taper :=
  let r := vs.foldl (fun (a : Nat × Nat) v => ((a.1 + v * a.2) % fpP, a.2 * t.fingR % fpP)) (t.fingAcc, fpPow t.fingR t.fingPos)
  { t with fingAcc := r.1, fingPos := wrapW 64 (t.fingPos + vs.length) }

/-- STREAM_ROW_DONE (R160, R165, R166, Table 7-7): the next row of a busy channel moves, or stops the channel with its status; rows go on while the program
halts or has faulted, and stand still while the Mantle holds its activity (R139). `ecc` is what the read of local memory finds: a double-bit
error stops the channel, and its taper takes the memory fault as it does for poison (DEDUCED: the assumption log, entry 176). -/
def streamRowDone (taper chan ecc : Nat) (m : Mem) (u : Units) : Mem × Units :=
  let t := u.taper taper
  let c := t.ch chan
  match (u.lt taper).slot with
  | none => (m, u)
  | some n =>
    let s := u.slot n
    if c.state ≠ 1 || !(u.gate s.activity 0) then (m, u)
    else
      let u := u.spend s.activity 0 (fieldAt c.desc 12 4)
      let d := c.desc
      let len := fieldAt d 12 4
      let off := fieldAt d 4 8 + c.rows * fieldAt d 20 4
      let loc := fieldAt d 24 3 + c.rows * (64 * fieldAt d 28 2)
      let b := (NMap.find t.bind (d.getD 0 0)).getD (s.bind.getD (d.getD 0 0) (0, 0))
      let stop := fun (t : Taper) st p => t.setCh chan { c with state := 3, status := st, poison := p }
      let go := fun (t : Taper) =>
        let last := c.rows + 1 = fieldAt d 16 4
        t.setCh chan { c with rows := c.rows + 1, state := if last then 2 else 1, status := St.OK }
      let eat := fun (t : Taper) (x : List Nat) => if c.fp then t.fingEat (elemsOf (2 ^ t.fingWidth) (len / 2 ^ t.fingWidth) x) else t
      match NMap.find u.mantle.regions b.1, u.phys b.1 off, u.phys b.1 (off + (len - 1)) with
      | some r, some a, some _ =>
        if d.getD 1 0 = 0 then
          let lines := (List.range (len / 64)).map fun i => (64 * i, (u.phys b.1 (off + 64 * i)).getD 0)
          let bad := !(maskGrants r.mask Ag.grid false) || lines.any fun x => u.poisoned x.2 64
          let t := lines.foldl (fun (t : Taper) x =>
            if !(maskGrants r.mask Ag.grid false) || u.poisoned x.2 64 then t
            else { t with mem := t.mem.writeAll (loc + x.1) (m.bytesAt x.2 64) }) t
          let t := if bad then stop t St.INTEGRITY_CRC true else go (eat t (Memory.readAll t.mem loc len))
          let u := if maskGrants r.mask Ag.grid false then u.count 0xA00128 len else u.deny Ag.grid a
          (m, u.setTaper taper t)
        else if !(maskGrants r.mask Ag.grid true) then (m, (u.deny Ag.grid a).setTaper taper (stop t St.NOT_PRIVILEGED false))
        else if r.gen ≠ b.2 then (m, (u.count 0xA00110).setTaper taper (stop t St.STALE_GENERATION false))
        else
          let e := t.eccAt ecc loc len
          let u := if e = 1 then u.eccFixed taper else if e = 2 then u.eccDouble taper loc else u
          let t := u.taper taper
          let x := Memory.readAll t.mem loc len
          if e = 2 then (m, u.setTaper taper (stop t St.INTEGRITY_CRC true))
          else (memPutAt m u b.1 off x, (u.cureAt b.1 off x.length).setTaper taper (go (eat t x)))
      | none, _, _ =>
        let u := u.count 0xA00120
        (m, u.setTaper taper (if d.getD 1 0 = 0 then stop t St.INTEGRITY_CRC true else stop t St.STALE_GENERATION false))
      | _, _, _ => (m, u.setTaper taper (stop t St.BAD_PARAM false))

/-! The host's window on a taper (R158) -/

/-- TAPER_WINDOW_ACCESS: operator privilege; a vacant index and offsets from 0x6_0000 read 0 and discard writes; writes are discarded and
counted while the program is RUNNING or HALTING. -/
def taperWindowAccess (w : Who) (taper off len : Nat) (write : Bool) (bytes : List Nat) (u : Units) : Units :=
  let a := 0x10000000 + 0x80000 * taper + off
  if !(isOperator w.priv) || 512 ≤ taper then (if write then u else u.emit (.data a false (List.replicate len 0)))
  else
    let t := u.taper taper
    let gone := (u.lt taper).column.isNone
    if write then
      let st := match (u.lt taper).slot with | some n => (u.slot n).state | none => 0
      if st = 3 || st = 4 then
        match (u.lt taper).slot with
        | some n => u.upSlot n fun s => { s with msgDrop := satW 32 (s.msgDrop + 1) }
        | none => u
      else if gone then u
      else u.setTaper taper { t with mem := t.mem.writeAll off (bytes.take (0x60000 - off)) }
    else
      let x := (List.range len).map fun i => if gone || 0x60000 ≤ off + i then 0 else (t.mem.read (off + i)).toNat
      u.emit (.data a false x)

end Sys2Proof.Machine
end

