-- ==== Sys2Proof/Machine/Wick.lean ====
section
/-!
DEFINITION. The commands, messages and timers of the Wick mirror engine (10_wick_mirror).
-/
namespace Sys2Proof.Machine

/-! What arrives from the accelerators -/

/-- The block's Valid bytes disagree with the data it carries, or exceed a block (R66). -/
def Blk.bad (b : Sys2Proof.Blk) : Bool := b.valid ≠ b.data.length || b.valid = 0 || 4096 < b.valid

/-- Receive a block message: stale ones are the Wick's too (R244 check 1), one without a credit of its class is dropped as LINK_CREDIT_ERROR (R92), and a
failed stack takes no inbound transfer (R112). -/
def recvBlock (h : Sys2Proof.SHdr) (cls credit : Nat) (b : Sys2Proof.Blk) (m : Mem) (u : Units) (f : Mem → Units → Mem × Units) : Mem × Units :=
  let stale := h.accGen ≠ u.accGen h.port || h.ctxGen ≠ u.ctxGen h.port h.ctx
  let u := if stale && (u.ig h.port).active then u.count 0x600258 else u
  match u.dropS h cls with
  | some u => (m, u)
  | none =>
    if Blk.bad b then (m, u.msgUnknown h.port)
    else if u.creditsLeft h.port h.ctx credit = 0 then
      (m, (u.setPort h.port ((u.port h.port).flag 4)).linkEvent h.port Ev.LINK_CREDIT_ERROR 0)
    else if u.mantle.stackFailed then (m, u)
    else f m (u.useCredit h.port h.ctx credit)

/-- Fields of a block message: its header, then the data (Table 3-8). -/
def Blk.fields (b : Sys2Proof.Blk) : List Nat := [b.step, b.shard, b.index, b.fmt, b.flags, b.valid, b.tag, b.crc] ++ b.data

/-- Send a block to another T3 as lantern class `cls` (Table 10-4). -/
def Units.sendBlk (u : Units) (dst cls : Nat) (b : Sys2Proof.Blk) : Units := u.reqL dst cls (32 + b.valid) 2 (Blk.fields b)

/-- An index list's block indices (R71). -/
def listOf (b : Sys2Proof.Blk) : List Nat := elemsOf 4 b.data.length b.data

/-- A data block of the open step is taken (R244, R246): fingerprinted once, and counted where it is new. -/
def OpenStep.take (o : OpenStep) (s : Shard) (j : JobBind) (b : Sys2Proof.Blk) : OpenStep :=
  let dup := o.transit.any fun x => x.2.fmt ≠ 0x10 && x.2.index = b.index
  { o with fmt := b.fmt, sent := o.sent + b2n (!dup), srcFp := if dup then o.srcFp else (o.srcFp + fpBlock j.key s.first b.fmt b.index b.data) % fpP }

/-- An index list of the open step is taken (R71). -/
def OpenStep.takeList (o : OpenStep) (b : Sys2Proof.Blk) : OpenStep := { o with sparse := true, touched := o.touched ++ listOf b }

/-- An accepted gradient block is written to the transit region and, where the shard is buddied, forwarded from there and kept until it is acknowledged
(R17, R244, R246). -/
def passBlock (k : Nat) (s : Shard) (b : Sys2Proof.Blk) (m : Mem) (u : Units) : Mem × Units :=
  let r := toTransit m u b.data
  let u := r.1.2.count 0x600200
  if s.prot ≠ 0 then (r.1.1, u)
  else
    let x := (r.2, { b with data := [] })
    (r.1.1, ((u.upOpen k b.step fun o => { o with transit := o.transit ++ [x] }).sendBlk s.buddy 0x01 (inTransit r.1.1 u x)).count 0x600208 b.valid)

/-- GRADIENT_BLOCK (R244, R245, R246): checked, fingerprinted, written to transit and forwarded; a bad CRC-64 marks the step damaged and returns the
credit; a block of a sparse step outside its index lists is dropped, recorded, and marks its mirror failed (R18, R71). -/
def gradientBlock (h : Sys2Proof.SHdr) (b : Sys2Proof.Blk) (m : Mem) (u : Units) : Mem × Units :=
  recvBlock h 0x04 0 b m u fun m u =>
    u.withSh b.shard (m, u.wickEvent Ev.WICK_STEP_MISMATCH) fun k s j =>
      if u.localCtx (s.members.getD s.writer (0, 0)) ≠ some (h.port, h.ctx) || j.mode ≠ 0 || s.nextStep ≠ some b.step then
        (m, u.wickEvent Ev.WICK_STEP_MISMATCH)
      else
        let fresh := (s.step? b.step).isNone
        let u := u.upSh k fun s => (s.begin b.step 1).upOpen b.step fun o => { o with last := o.last || bitAt b.flags 0 }
        let u := if fresh then u.writeB k b.step else u
        let o := ((u.shAt k).step? b.step).getD (OpenStep.new b.step 1)
        if crc64 b.data ≠ b.crc then
          let u := (u.count 0x600220).wickEvent Ev.INTEGRITY_CRC
          (m, ((u.upOpen k b.step fun o => { o with damaged := true, lost := o.lost + b2n (b.fmt != 0x10), fmt := if b.fmt = 0x10 then o.fmt else b.fmt }).giveCredit
            h.port h.ctx 0 1).grantStep k)
        else if b.fmt ≠ 0x10 && o.sparse && !(o.touched.contains b.index) then
          (m, ((u.upOpen k b.step fun o => { o with failed := true, lost := o.lost + 1 }).wickEvent Ev.WICK_STEP_MISMATCH).grantStep k)
        else
          let r := passBlock k s b m (u.upOpen k b.step fun o => if b.fmt = 0x10 then o.takeList b else o.take s j b)
          (r.1, r.2.grantStep k)

/-- A block of a region or snapshot stream is written to the transit region and forwarded from there as lantern class `cls` (R17, R257, R259). -/
def streamOn (s : Shard) (cls : Nat) (b : Sys2Proof.Blk) (m : Mem) (u : Units) : Mem × Units :=
  let r := toTransit m u b.data
  (r.1.1, ((r.1.2.count 0x600200).sendBlk s.buddy cls (inTransit r.1.1 r.1.2 (r.2, { b with data := [] }))).count 0x600208 b.valid)

/-- A spilled shard's block of a seed joins the T3's own snapshot, which is written to Tallow once whole (R264). -/
def spillBlock (k : Nat) (s : Shard) (j : JobBind) (b : Sys2Proof.Blk) (u : Units) : Units :=
  let blk := NMap.set s.spillBlk b.index b.data
  let u := u.upSh k fun s => { s with spillBlk := blk }
  if blk.length < s.layout then u
  else
    let t : NMap (Nat × Nat) := NMap.mapV blk fun i d => blockEntry s j i d
    let man := { u.recOf s j (OpenStep.new b.step 6) 6 noFp (tableSum t) with flags := 1 }
    (u.upSh k fun s => { s with snap := some { man := man, blocks := NMap.vals blk, table := t }, spillBlk := [], incoming := none }).emit
      (.bus 3 [s.shard, b.step, s.layout])

/-- REGION_BLOCK (R257, R259, R264): the block of a seed goes to the buddy as FWD_SEED, of a registered region as FWD_REGION, and of a
spilled shard into the T3's own snapshot. A bad CRC-64 returns the credit, so that the block comes again. -/
def regionBlock (h : Sys2Proof.SHdr) (b : Sys2Proof.Blk) (m : Mem) (u : Units) : Mem × Units :=
  recvBlock h 0x05 1 b m u fun m u =>
    let no := (m, u.wickEvent Ev.WICK_STEP_MISMATCH)
    u.withSh b.shard no fun k s j =>
      if crc64 b.data ≠ b.crc then (m, (((u.count 0x600220).wickEvent Ev.INTEGRITY_CRC)).giveCredit h.port h.ctx 1 1)
      else if j.mode = 2 then
        if u.localCtx (s.members.getD s.writer (0, 0)) = some (h.port, h.ctx) then streamOn s 0x03 b m u else no
      else match s.incoming with
        | none => no
        | some (n, i, got) =>
          if n ≠ b.step || u.localCtx (s.members.getD i (0, 0)) ≠ some (h.port, h.ctx) then no
          else
            let u := u.upSh k fun s => { s with incoming := some (n, i, if got.contains b.index then got else b.index :: got) }
            if s.prot = 3 then let r := toTransit m u b.data; (r.1.1, spillBlock k s j b (r.1.2.count 0x600200))
            else streamOn s 0x02 b m u

/-- SNAPSHOT_BLOCK (R259): a protocol 1 snapshot block is checked and forwarded as FWD_REGION. -/
def snapshotBlock (h : Sys2Proof.SHdr) (b : Sys2Proof.Blk) (m : Mem) (u : Units) : Mem × Units :=
  recvBlock h 0x06 2 b m u fun m u =>
    u.withSh b.shard (m, u.wickEvent Ev.WICK_STEP_MISMATCH) fun _ s j =>
      if j.mode ≠ 1 || u.localCtx (s.members.getD s.writer (0, 0)) ≠ some (h.port, h.ctx) then (m, u.wickEvent Ev.WICK_STEP_MISMATCH)
      else if crc64 b.data ≠ b.crc then (m, (((u.count 0x600220).wickEvent Ev.INTEGRITY_CRC)).giveCredit h.port h.ctx 2 1)
      else streamOn s 0x03 b m u

/-- STEP_RECORD (R247): CRC-checked, kept (the last two of a context and shard) and forwarded to the shard's buddy as STEP_FWD; it is
progress of its context (R292). In mode 1 every V1_PERIOD steps the writer is asked for a snapshot (R259). -/
def stepRecord (h : Sys2Proof.SHdr) (r : Sys2Proof.StepRec) (crcOk : Bool) (u : Units) : Units :=
  u.recvS h 0x03 fun u =>
    if !crcOk then u.wickEvent Ev.INTEGRITY_CRC
    else
      let u := u.later (.progress h.port h.ctx 0)
      u.withSh r.shard u fun k s j =>
        if !(s.members.any fun m => u.localCtx m = some (h.port, h.ctx)) then u
        else
          let key := 64 * h.port + h.ctx
          let u := u.later (.stepClosed h.port h.ctx s.job r.step)
          let u := u.upSh k fun s => { s with kept := NMap.set s.kept key ((r :: NMap.getD s.kept key []).take 2) }
          let u := if s.isBuddy then u.takeRec k { r := r, cid := u.cidOf h.port, ctx := h.ctx }
            else if s.prot = 1 ∨ s.prot = 3 then u else u.reqL s.buddy 0x05 256 2 (recFields r)
          if j.mode = 1 && u.localCtx (s.members.getD s.writer (0, 0)) = some (h.port, h.ctx) && r.step % (if j.perStep then 1 else u.v1Period) = 0 && !(bitAt r.flags 3) then
            (if (u.ig h.port).has 2 then u.giveCredit h.port h.ctx 2 (s.layout - u.creditsLeft h.port h.ctx 2) else u).igSend h.port 0x13 h.ctx 8 []
          else (if s.isBuddy then u.later (.drive s.shard r.step) else u).later (.verify s.shard r.step)

/-! Commands (Table 10-1) -/

/-- A parameter block of a reference program is well formed (Table 11-7): Nesterov 0 or 1, reserved bytes 0. -/
def paramsOk (l : List Nat) : Bool := l.getD 4 0 ≤ 1 && (l.drop 5).all (· = 0)

/-- WICK_BIND_JOB is refused in mode 0 (R270). -/
def Units.bindRefused (u : Units) (job comps prog : Nat) (fmts : List Nat) : Bool :=
  match u.progOf prog, NMap.find u.wick.params job with
  | some p, some q =>
    !(bitAt p.flags 1) || p.comps ≠ comps || p.fmts ≠ fmts.take comps || (bitAt p.flags 2 && q.2 = 0xFFFF) || (bitAt p.flags 0 && !(paramsOk q.1))
  | _, _ => true

/-- WICK_BIND_JOB (0x0601, R238, R270): the job binding block of Table 10-2. A transit region is taken at the first job (Table 5-2),
and the job's local contexts get their control bits. -/
def wickBindJob (c : Sys2Proof.Cmd) (job mode comps prog key params : Nat) (fmts : List Nat) (interval flags gateMs : Nat) (u : Units) : Units :=
  u.operator c 0x060 0x0601 fun u =>
    if (u.jobB job).isSome || 2 < mode || comps = 0 || 16 < comps || params = 0 || 2 ^ 48 < params || fmts.length ≠ 16 ||
        !((fmts.take comps).all fun f => 1 ≤ f && f ≤ 5) || !((fmts.drop comps).all (· = 0)) || 8 ≤ flags ||
        (mode = 0 && u.bindRefused job comps prog fmts) then u.done c 0x060 0x0601 St.BAD_PARAM
    else if !u.wick.enable || u.lamp.state = 4 then u.done c 0x060 0x0601 St.BAD_STATE
    else
      let b : JobBind :=
        { mode := mode, comps := comps, prog := prog, key := key, params := params, fmts := fmts, interval := interval, flags := flags,
          gateMs := gateMs, released := 0, relTime := 0, relEpoch := 0, entered := none, snapNow := [], perStep := false, held := false, group := (u.gateGroup job).getD 0 }
      let u := if u.mantle.regions.any fun r => r.2.typ = 4 then u
        else (u.allocRegion { wickRegion 4 0 with ownerKind := 2, ownerCid := u.self, gen := u.role.t3Gen, mask := 0x33 } (2 ^ 31)).1
      ((u.upW fun w => { w with jobs := NMap.set w.jobs job b }).setGates job).done c 0x060 0x0601 St.OK

/-- Give a shard in the buddy role its regions: buddy and staging, or the two of R259. -/
def Shard.housed (s : Shard) (mode i j self : Nat) : Shard :=
  { s with bRegion := i, sRegion := if mode = 0 then j else 0xFFFF, region2 := if mode = 0 then 0xFFFF else j, buddy := self }

/-- The two regions of a binding in the buddy role, with their bytes. While a recovery of the job is open their allocation is a recovery's (R119). -/
def Units.bindPair (u : Units) (job : Nat) (mode params layout : Nat) : Option (Units × Option Nat × Option Nat) :=
  let a := (wickRegion 2 job, buddyBytes params layout)
  let b := (wickRegion (if mode = 0 then 3 else 2) job, secondBytes mode params layout)
  if NMap.has u.rcv.mem job then u.takePair a b (u.role.poolNo + 1)
  else
    let x := u.allocRegion a.1 a.2
    let y := x.1.allocRegion b.1 b.2
    if x.2.isSome && y.2.isSome then some (y.1, x.2, y.2) else none

/-- Bind a shard at a new entry (R239): in the buddy role its regions are allocated, or a reservation's are taken (R127); regions that wait for their
pages are given to it as they come. -/
def Units.bindShard (u : Units) (job shard first params buddy roles : Nat) (j : JobBind) : Units × Option Nat :=
  match NMap.firstFree u.wick.shards 8192 with
  | none => (u, none)
  | some k =>
    let layout := layoutBlocks params j.layoutFmts
    let s := { Shard.new shard job first params with roles := roles, prog := j.prog, layout := layout, buddy := buddy }
    let put := fun (u : Units) (s : Shard) => (u.upW fun w => { w with shards := NMap.set w.shards k s }, some k)
    if !(bitAt roles 1) then put u s
    else match u.role.pooling.find? fun p => p.1 = job && p.2.1 = shard with
      | some p => put u { s.housed j.mode p.2.2.1 p.2.2.2 u.self with roles := setBit roles 2 }
      | none => match u.bindPair job j.mode params layout with
        | none => (u, none)
        | some (v, some i, some i2) => put v (s.housed j.mode i i2 u.self)
        | some (v, i, i2) =>
          let n := u.role.poolNo + 1
          let w : PoolWait := { n := n, job := job, shard := shard, buddy := i, staging := i2, src := 0, seq := 0, bind := some k }
          put (v.upR fun x => { x with poolNo := n, poolWait := x.poolWait ++ [w] }) { s with buddy := u.self }

/-- A recovery's region has its pages (R119): once both of a pair have come, the reservation stands or the binding has its regions. A region that nobody
waits for any more is freed. -/
def Units.poolCame (u : Units) (why idx : Nat) : Units :=
  match u.role.poolWait.find? fun w => w.n = why / 2 with
  | none => u.freeRegion idx 5
  | some w =>
    let w := if why % 2 = 0 then { w with buddy := some idx } else { w with staging := some idx }
    let rest := u.role.poolWait.filter fun x => x.n ≠ w.n
    match w.buddy, w.staging with
    | some i, some j =>
      let u := u.upR fun x => { x with poolWait := rest }
      (match w.bind with
       | none => u.reserved w i j
       | some k => u.withSh w.shard u fun _ s b =>
           (u.upSh k fun s => { s.housed b.mode i j u.self with bindCmd := none }).doneAll s.bindCmd.toList 0x0602 St.OK k)
    | _, _ => u.upR fun x => { x with poolWait := rest ++ [w] }

/-- WICK_BIND_SHARD (0x0602, R238, R239, R271): with buddy 0 the rack's pairing table names the buddy, else the warden is asked and
the command waits for its answer, as it does for the pages of a recovery's allocation. The first shard in the buddy role of a mode 0 job loads the job's shadow instance. -/
def wickBindShard (c : Sys2Proof.Cmd) (job shard first params buddy roles : Nat) (u : Units) : Units :=
  u.operator c 0x060 0x0602 fun u =>
    match u.jobB job with
    | none => u.done c 0x060 0x0602 St.BAD_PARAM
    | some j =>
      if (u.shKey shard).isSome || roles = 0 || 3 < roles || params = 0 || j.params < first + params || (roles = 1 && buddy = u.self) then
        u.done c 0x060 0x0602 St.BAD_PARAM
      else
        let pair := NMap.getD u.role.pairing u.self 0
        let b := if buddy ≠ 0 then buddy else if bitAt roles 1 then u.self else pair
        let r := u.bindShard job shard first params b roles j
        match r.2 with
        | none => u.done c 0x060 0x0602 St.MANTLE_FULL
        | some k =>
          let first_ := j.mode = 0 && bitAt roles 1 && (u.inst job).state = 0
          let u := if first_ then (r.1.upInst job fun i => { i with state := 1 }).later (.shadowLoad job) else r.1
          let wait := u.upSh k fun s => { s with bindCmd := some (c.ring, c.tag, c.stamp, c.gen) }
          if b = 0 then wait.askPlace k
          else if bitAt roles 1 && (u.shAt k).bRegion = 0xFFFF then wait
          else u.done c 0x060 0x0602 St.OK 0 k

/-- The tag under which a replica's writes into its job's regions are checked (R122): its context generation at a T3 that serves it, else the Generation
of its route entry (DEDUCED: the assumption log, entry 171). -/
def Units.memberTag (u : Units) (x : Nat × Nat) : Nat :=
  match u.localCtx x with
  | some y => u.ctxGen y.1 y.2
  | none => match NMap.find u.role.routes x.1 with | some e => e.gen | none => 0

/-- Raise a shard's membership epoch (R240, R243): the writer is elected, a step in MIRRORING starts again from block 0, and the
gradient credits move. -/
def Units.membership (u : Units) (k epoch : Nat) (ms : List (Nat × Nat)) : Units :=
  let s := u.shAt k
  let w := writerIndex s.shard epoch ms.length
  let here := ms.filterMap u.localCtx
  let low := here.foldl (fun (a : Option (Nat × Nat)) x => match a with | none => some x | some y => if x.2 < y.2 then some x else some y) none
  let pos := match u.localCtx (ms.getD w (0, 0)) with | some x => some x | none => low
  let u := u.upSh k fun s =>
    { s with epoch := epoch, count := ms.length, members := ms, writer := w, ctx := (pos.map (·.2)).getD 0xFF, port := (pos.map (·.1)).getD 0xFF,
             opens := s.opens.map fun o =>
               if o.state = 1 then { o with transit := [], sent := 0, lost := 0, last := false, acked := 0, srcFp := 0, got := [], gradFp := 0, touched := [],
                                            gotLast := false, damaged := false, failed := false, epoch := epoch, writer := w, srcCid := (ms.getD w (0, 0)).1 } else o }
  let u := ms.foldl (fun u x => u.setCtxTag s.job x.1 x.2 (u.memberTag x)) u
  -- a seed restarts under the new epoch (R257)
  let u := ((u.shAt k).opens.filter (·.seeding)).foldl (fun u o => u.startSeed k o.step o.choice) u
  ((u.setGates s.job).grantStep k).gateCheck s.job

/-- WICK_MEMBERSHIP (0x0603, R243): the list of (CID, context) per replica index is read at a Mantle address. -/
def wickMembership (c : Sys2Proof.Cmd) (job shard epoch count addr : Nat) (m : Mem) (u : Units) : Mem × Units :=
  let no := fun (s : Nat) => (m, u.done c 0x060 0x0603 s)
  if !(isOperator (stampPriv c.stamp)) then no St.NOT_PRIVILEGED
  else u.withSh shard (no St.BAD_PARAM) fun k s _ =>
    if s.job ≠ job || count = 0 || 255 < count || epoch < s.epoch || (epoch = s.epoch && !s.members.isEmpty) then no St.BAD_PARAM
    else if !(u.mayAccess Ag.wick addr (4 * count) false) then no St.NOT_PRIVILEGED
    else
      let ms := (List.range count).map fun i => (leNat (m.bytesAt (addr + 4 * i) 3), leNat (m.bytesAt (addr + 4 * i + 3) 1))
      (m, (u.membership k epoch ms).done c 0x060 0x0603 St.OK)

/-- What WICK_UNBIND does to the Wick (R238, R265, R128): open steps are abandoned, every region of the job is freed under R124, reservations for it among
them; commands that wait for the job end with BAD_STATE. -/
def Units.unbindJob (c : Sys2Proof.Cmd) (job : Nat) (u : Units) : Units :=
  u.operator c 0x060 0x0604 fun u =>
    match u.jobB job with
    | none => u.done c 0x060 0x0604 St.BAD_PARAM
    | some j =>
      let ss := (u.shardsOf job).map u.shAt
      let u := u.upW fun w =>
        { w with jobs := NMap.del w.jobs job, shards := NMap.keep w.shards fun _ s => s.job ≠ job, insts := NMap.del w.insts job }
      let mine := u.mantle.regions.filter fun r => (r.2.typ = 2 || r.2.typ = 3) && r.2.ownerKind = 3 && r.2.job = job
      let u := mine.foldl (fun u r => u.freeRegion r.1) u
      let gone := u.role.poolWait.filter fun w => w.job = job
      let u := u.setMantle { u.mantle with waits := u.mantle.waits.filter fun w => !(gone.any fun x => w.why ≠ 0 && x.n = w.why / 2) }
      let u := u.upR fun x => { x with pooling := x.pooling.filter (fun p => p.1 ≠ job), poolWait := x.poolWait.filter fun w => w.job ≠ job }
      let u := u.doneAll j.snapNow 0x0605 St.BAD_STATE 0
      let u := ss.foldl (fun u s => (u.doneAll s.seedCmds 0x0606 St.BAD_STATE 0).doneAll s.bindCmd.toList 0x0602 St.BAD_STATE 0) u
      u.done c 0x060 0x0604 St.OK

/-- WICK_UNBIND (0x0604, R238, R265, R271): the job's instance is unloaded (R168). -/
def wickUnbind (c : Sys2Proof.Cmd) (job : Nat) (u : Units) : Units :=
  let i := u.inst job
  let was := (u.jobB job).isSome && isOperator (stampPriv c.stamp) && i.state = 2
  let u := Units.unbindJob c job u
  if was then u.later (.gridUnload i.slot) else u

/-- WICK_SNAPSHOT_NOW (0x0605, R260): completes once the next committed step is durable. -/
def wickSnapshotNow (c : Sys2Proof.Cmd) (job : Nat) (u : Units) : Units :=
  u.operator c 0x060 0x0605 fun u =>
    match u.jobB job with
    | none => u.done c 0x060 0x0605 St.BAD_PARAM
    | some _ =>
      if (u.shardsOf job).any fun k => (u.shAt k).isBuddy then
        (u.upJob job fun j => { j with snapNow := j.snapNow ++ [(c.ring, c.tag, c.stamp, c.gen)] }).wantSnap job
      else u.done c 0x060 0x0605 St.OK

/-- WICK_SEED (0x0606, R257): at the buddy, a seed of the last released step; where none is released, or that step is VERIFIED here already and may not
return (R19), of the next one released (R258 step 3). -/
def wickSeed (c : Sys2Proof.Cmd) (job shard : Nat) (u : Units) : Units :=
  u.operator c 0x060 0x0606 fun u =>
    u.withSh shard (u.done c 0x060 0x0606 St.BAD_PARAM) fun k s j =>
      if s.job ≠ job then u.done c 0x060 0x0606 St.BAD_PARAM
      else if !s.isBuddy then u.done c 0x060 0x0606 St.BAD_STATE
      else
        let u := u.upSh k fun s => { s with seedCmds := s.seedCmds ++ [(c.ring, c.tag, c.stamp, c.gen)], prot := if s.prot = 0 then 2 else s.prot }
        if j.released = 0 || s.passed j.released then u.upSh k fun s => { s with prot := 2 } else u.startSeed k j.released 0

/-- WICK_CTL.ENABLE cleared (R266): refused while a job is bound, else the Wick drains (R144). -/
def wickEnableClear (w : Sys2Proof.Who) (u : Units) : Units :=
  if !(isOperator w.priv) || !u.wick.enable || !u.wick.jobs.isEmpty then u
  else { u.upW fun x => { x with enable := false, draining := true } with drains := u.drains ++ [{ unit := 0x06, items := 0, enableHeld := false }] }

/-! Forwarding (R246) -/

/-- A block comes from the T3 that serves a replica of its shard (R122, R243); any may, while the shard has no members. -/
def Units.fromReplica (u : Units) (s : Shard) (i src : Nat) : Bool := s.members.isEmpty || u.servedBy (s.members.getD i (0, 0)).1 = src

/-- A block of a context that may not write the region is discarded as STALE_GENERATION (R122, R243). -/
def Units.staleBlock (u : Units) : Units := (u.count 0xA00110).count 0x600258

/-- FWD_GRADIENT at the buddy (R246): checked, written to staging under the writer's tag, fingerprinted once, acknowledged every 64 blocks and at the last.
A block that does not come from the writer's T3 is stale (R122, R243), and one for a region that is quiet is answered so (R124). -/
def fwdGradient (h : Sys2Proof.LHdr) (b : Sys2Proof.Blk) (m : Mem) (u : Units) : Mem × Units :=
  if u.lanternDrops h then (m, u.recvL h 0x01 0 id)
  else if u.mantle.stackFailed then (m, u)
  else u.withSh b.shard (m, u) fun k s j =>
    if !s.isBuddy || j.mode ≠ 0 || b.step ≤ s.committed || Blk.bad b then (m, u)
    else if !(u.fromReplica s s.writer h.src) then (m, u.staleBlock)
    else if crc64 b.data ≠ b.crc then (m, (u.count 0x600220).wickEvent Ev.INTEGRITY_CRC)
    else
      let u := u.upSh k fun s => s.begin b.step 1
      let o := ((u.shAt k).step? b.step).getD (OpenStep.new b.step 1)
      let quiet := NMap.has u.mantle.fading s.sRegion
      let ack := fun (u : Units) => match (u.shAt k).step? b.step with
        | some o => u.reqL h.src 0x04 32 2 [s.shard, b.step, o.got.length, if quiet then St.STALE_GENERATION else St.OK, o.gradFp]
        | none => u
      let last := bitAt b.flags 0
      if b.fmt = 0x10 then
        let u := u.upOpen k b.step fun o =>
          { o with sparse := true, gotLast := o.gotLast || last,
                   touched := (listOf b).foldl insertUp o.touched }
        (m, if last then ack u else u)
      else
        let dup := o.got.contains b.index
        let r := putBlock m u s.sRegion b.index b.data (u.srcOf s.job (s.members.getD s.writer (0, 0)))
        if quiet then (r.1, ack r.2) else
        let m := r.1
        let u := if dup then r.2 else r.2.count 0x600210
        let u := u.upOpen k b.step fun o =>
          { o with got := if dup then o.got else b.index :: o.got, fmt := b.fmt, gotLast := o.gotLast || last,
                   gradFp := if dup then o.gradFp else (o.gradFp + fpBlock j.key s.first b.fmt b.index b.data) % fpP }
        let held := !j.gated && (u.shAt k).early.any fun x => x.r.step = b.step
        let u := if held then u.later (.drive s.shard b.step) else u
        (m, if last || (!dup && (o.got.length + 1) % 64 = 0) then ack u else u)

/-- Every block of the step is stored (R248): the accepted ones, and of a whole sparse step every one its lists name. -/
def OpenStep.stored (o : OpenStep) (n : Nat) : Bool := decide (o.sent ≤ n) && (!o.sparse || o.damaged || o.failed || decide (o.touched.length ≤ n))

/-- The source records APPLY_GO for a step (R20, R249): what the buddy has told meanwhile follows (R19). -/
def Units.goSource (u : Units) (k n time : Nat) : Units :=
  let u := (u.upOpen k n fun o => { o with state := max 3 o.state, goTime := time }).writeB k n
  u.upOpen k n fun o => { o with state := max o.state o.ahead }

/-- FWD_ACK at the source (R246, R248, R258): acknowledged blocks leave transit; with every block counted the shard is GATED; a status
other than OK makes it unbuddied. -/
def fwdAck (h : Sys2Proof.LHdr) (shard step stored status _fp : Nat) (u : Units) : Units :=
  u.recvL h 0x04 0 fun u =>
    u.withSh shard u fun k s j =>
      match s.step? step with
      | none => u
      | some o =>
        if status ≠ St.OK then (u.unbuddy k).gateCheck s.job
        else if o.state ≠ 1 then u
        else if o.last && o.stored stored then
          let u := (u.upOpen k step fun o => { o with state := 2, acked := stored, transit := [] }).writeB k step
          (if j.gated then u.gateCheck s.job else u.goSource k step 0).grantAll
        else u.upOpen k step fun o => { o with acked := max o.acked stored }

/-- Blocks in transit as they are forwarded again: the last carries the last-block flag once that of the step has come, so that it is acknowledged even
where the flagged block was dropped (DESIGN CHOICE: the assumption log, entry 169). -/
def OpenStep.again (o : OpenStep) : List (Nat × Sys2Proof.Blk) :=
  (List.range o.transit.length).filterMap fun i => (o.transit[i]?).map fun x =>
    (x.1, { x.2 with flags := if o.last && i + 1 = o.transit.length then setBit x.2.flags 0 else x.2.flags })

/-- FWD_ACK_WAIT_EXPIRY (R246): every block of the step not acknowledged is forwarded again from transit. -/
def fwdAckWaitExpiry (shard step : Nat) (m : Mem) (u : Units) : Mem × Units :=
  (m, u.withSh shard u fun _ s _ =>
    match s.step? step with
    | none => u
    | some o =>
      if o.state ≠ 1 || s.prot ≠ 0 then u
      else o.again.foldl (fun u x => (u.sendBlk s.buddy 0x01 (inTransit m u x)).count 0x600218) u)

/-- A full retrain on the path (R246): forward again what is not acknowledged, for every shard this T3 writes. -/
def reforwardAll (m : Mem) (u : Units) : Units :=
  u.wick.shards.foldl (fun u e => e.2.opens.foldl (fun u o => if o.transit.isEmpty then u else (fwdAckWaitExpiry e.2.shard o.step m u).2) u) u

/-! The apply gate -/

/-- A spilled shard seeds its state into the T3's own snapshot area at every interval-th released step (R264). -/
def Units.spillSeed (u : Units) (k n : Nat) : Units :=
  let s := u.shAt k
  match u.jobB s.job with
  | none => u
  | some j => if s.prot = 3 && u.interval j ≠ 0 && n % u.interval j = 0 then u.serveSeed k 0 n 0 else u

/-- The seed of a shard that has a new buddy is taken at this released step (R258 step 3): the source waits for it. -/
def Units.awaitSeed (u : Units) (k n : Nat) : Units :=
  u.upSh k fun s => if s.prot = 2 && u.isWriter s && s.incoming.isNone then { s with incoming := some (n, s.writer, []) } else s

/-- GATE_BARRIER_COMPLETE (R248, R249, R20, R21): on OK the gate line is written and read back, APPLY_GO is recorded for the job's
shards, the job's contexts are released, buddies start the shadow, and the next step may be entered; else the step stays GATED. -/
def gateBarrierComplete (job step status : Nat) (m : Mem) (u : Units) : Mem × Units :=
  match u.jobB job with
  | none => (m, u)
  | some j =>
    if j.entered ≠ some step || status ≠ St.OK || step ≤ j.released then (m, u)
    else
      let ks := u.shardsOf job
      let epoch := (ks.map fun k => (u.shAt k).epoch).foldl max 0
      let u := u.upJob job fun j => { j with released := step, relTime := u.now, relEpoch := epoch }
      let u := ks.foldl (fun u k =>
        let s := u.shAt k
        if s.isBuddy || (s.step? step).isNone then u else u.goSource k step u.now) u
      let u := (u.ctxsOf job).foldl (fun u x => if bitAt (NMap.getD (u.ig x.1).ctxCtl x.2 0) 1 then u.sendGo x.1 x.2 step else u) u
      let r := ks.foldl (fun (a : Mem × Units) k =>
        let s := a.2.shAt k
        if !s.isBuddy then (a.1, (a.2.spillSeed k step).awaitSeed k step)
        else goBuddy a.1 a.2 k step u.now) (m, u)
      (r.1, (ks.foldl (fun u k => u.grantStep k) r.2).gateCheck job)

/-- A step goes on at the buddy; in a job without the apply gate it does so once its gradient is whole and a record has come (R20). -/
def driveOrGo (m : Mem) (u : Units) (k : Nat) (s : Shard) (j : JobBind) (n : Nat) : Mem × Units :=
  let whole := match (u.shAt k).step? n with | some o => o.state = 1 && o.whole s | none => false
  if !j.gated && j.mode = 0 && whole then goBuddy m u k n 0 else driveStep m u k n

/-- STEP_FWD at the buddy (R247, R252, R273): the record is kept; a step after APPLY_GO goes on, and a SHADOWED one may be verified. -/
def stepFwd (h : Sys2Proof.LHdr) (r : Sys2Proof.StepRec) (cid ctx : Nat) (crcOk : Bool) (m : Mem) (u : Units) : Mem × Units :=
  if u.lanternDrops h then (m, u.recvL h 0x05 0 id)
  else if !crcOk then (m, u.wickEvent Ev.INTEGRITY_CRC)
  else u.withSh r.shard (m, u) fun k s j =>
    if !s.isBuddy then
      -- the buddy's answer to RELOAD_REQ kind 0 (R328)
      (m, match u.localCtx (s.members.getD r.replica (0, 0)) with
        | some (p, c) => u.upSh k fun s => { s with kept := NMap.set s.kept (64 * p + c) ((r :: NMap.getD s.kept (64 * p + c) []).take 2) }
        | none => u)
    else
      let u := u.takeRec k { r := r, cid := cid, ctx := ctx }
      let a := driveOrGo m u k s j r.step
      (a.1, a.2.verifyStep k r.step)

/-! Seeds and regions at the buddy (R257, R259) -/

/-- Every layout block of a seed is stored (R257): the step enters SHADOWED again, and what the verdict made suspect is named: the
tapers whose item wrote a block that the seed changed (R280). -/
def Units.seedDone (u : Units) (k n : Nat) : Units :=
  let s := u.shAt k
  match s.step? n, u.jobB s.job with
  | some o, some j =>
    let bad := if o.kind = 3 ∨ o.kind = 4 then (o.items.filter fun i => (itemBlocks s j o i).any o.differ.contains).map (·.taper) else []
    let slot := (u.inst s.job).slot
    let u := bad.foldl (fun u t => u.later (.suspectTaper slot t s.shard n (o.kind = 4))) u
    let u := (u.upOpen k n fun o => { o with seeding := false, verdict := 0, items := [] }).count 0x600248
    let u := u.upW fun w => { w with insts := NMap.mapV w.insts fun _ i => { i with queue := i.queue.filter fun q => !(q.1 = s.shard && q.2.1 = n) } }
    let u := (u.doneAll s.seedCmds 0x0606 St.OK 0).upSh k fun s => { s with seedCmds := [] }
    u.shadowed k n (tableSum (u.shAt k).table)
  | _, _ => u

/-- Replica that a step's seed comes from (R281). -/
def OpenStep.seeder (o : OpenStep) : Nat := if o.choice = 0 then o.writer else o.choice - 1

/-- FWD_SEED at the buddy (R257, R275, R256): a block of the seed of an open step is written in place and tapped; a block of an item
that is seeded likewise; a block of the committed step replaces a bad one when it matches the check entry. -/
def fwdSeed (h : Sys2Proof.LHdr) (b : Sys2Proof.Blk) (m : Mem) (u : Units) : Mem × Units :=
  if u.lanternDrops h then (m, u.recvL h 0x02 0 id)
  else if u.mantle.stackFailed then (m, u)
  else u.withSh b.shard (m, u) fun k s j =>
    if !s.isBuddy || Blk.bad b || s.layout ≤ b.index then (m, u)
    else if (s.step? b.step).any (fun o => o.seeding && !(u.fromReplica s o.seeder h.src)) then (m, u.staleBlock)
    else if crc64 b.data ≠ b.crc then (m, (u.count 0x600220).wickEvent Ev.INTEGRITY_CRC)
    else
      let e := blockEntry s j b.index b.data
      let from_ := (s.step? b.step).bind fun o => u.srcOf s.job (s.members.getD o.seeder (0, 0))
      let store := fun (u : Units) => putBlock m u s.stateRegion b.index b.data from_
      let tapped := fun (u : Units) => u.upSh k fun s => { s with table := NMap.set s.table b.index e }
      match s.step? b.step with
      | none =>
        if b.step = s.committed && s.curStep = some b.step && NMap.find s.table b.index = some e && !(blockGood m u s j s.stateRegion s.table b.index) then
          let r := store u
          (r.1, (r.2.count 0x600230).later (.serveMore s.shard))
        else (m, u)
      | some o =>
        if o.seeding then
          let r := store u
          let diff := NMap.find s.table b.index ≠ some e
          let got := if o.seedGot.contains b.index then o.seedGot else b.index :: o.seedGot
          let u := (tapped r.2).upOpen k b.step fun o => { o with seedGot := got, differ := if diff then b.index :: o.differ else o.differ }
          (r.1, if s.layout ≤ got.length then u.seedDone k b.step else if b.index + 1 = s.layout then u.askSeed k b.step o.choice else u)
        else
          let mine := o.items.filter fun i => i.state = 3 && (itemBlocks s j o i).contains b.index
          let again := fun (u : Units) => if b.index + 1 = s.layout && o.items.any (fun i => i.state = 3) then u.askSeed k b.step 0 else u
          if mine.isEmpty || o.seedGot.contains b.index then (m, again u)
          else
            let r := store u
            let got := b.index :: o.seedGot
            let u := tapped r.2
            let t := (u.shAt k).table
            let full := fun (i : ShItem) => i.state = 3 && (itemBlocks s j o i).all got.contains
            let n := (o.items.filter full).length
            let u := u.upOpen k b.step fun o =>
              { o with seedGot := got,
                       items := o.items.map fun i =>
                         if full i then { i with state := 4, fp := (sumL ((itemBlocks s j o i).map fun x => (NMap.getD t x (0, 0)).2)) % fpP } else i }
            let left := ((u.shAt k).step? b.step).any fun o => o.items.any fun i => i.state = 3
            let u := if left && b.index + 1 = s.layout then u.askSeed k b.step 0 else u
            (r.1, (u.count 0x600488 n).itemsDone k b.step)

/-- FWD_REGION at the buddy (R259): the block goes into the region that does not hold the last verified state, and is tapped; with the
last block stored the epoch is read back. -/
def fwdRegion (h : Sys2Proof.LHdr) (b : Sys2Proof.Blk) (m : Mem) (u : Units) : Mem × Units :=
  if u.lanternDrops h then (m, u.recvL h 0x03 0 id)
  else if u.mantle.stackFailed then (m, u)
  else u.withSh b.shard (m, u) fun k s j =>
    if !s.isBuddy || j.mode = 0 || Blk.bad b || s.layout ≤ b.index || b.step ≤ s.committed || (s.step? b.step).any (fun o => 4 ≤ o.state) then (m, u)
    else if !(u.fromReplica s s.writer h.src) then (m, u.staleBlock)
    else if crc64 b.data ≠ b.crc then (m, (u.count 0x600220).wickEvent Ev.INTEGRITY_CRC)
    else
      let fresh := (s.step? b.step).isNone
      let region := if s.curStep.isSome && s.cur = 0 then s.region2 else s.bRegion
      let r := putBlock m u region b.index b.data (u.srcOf s.job (s.members.getD s.writer (0, 0)))
      let u := r.2.upSh k fun s =>
        { (if fresh then { (s.dropEpoch.begin b.step 1) with prevStep := none } else s) with
          table2 := NMap.set (if fresh then [] else s.table2) b.index (blockEntry s j b.index b.data) }
      let u := u.upOpen k b.step fun o =>
        { o with got := if o.got.contains b.index then o.got else b.index :: o.got, gotLast := o.gotLast || bitAt b.flags 0 }
      let u := if ((s.step? b.step).map fun o => o.got.contains b.index).getD false then u else u.count 0x600210
      let done := match (u.shAt k).step? b.step with | some o => s.layout ≤ o.got.length && (j.mode = 1 || o.gotLast) | none => false
      (r.1, if done then ((u.upOpen k b.step fun o => { o with shadowFp := tableSum (u.shAt k).table2, state := 4, readDone := false }).writeA k b.step 4).releaseRecs
          k b.step else u)

/-- READBACK_COMPLETE (R251): every block written for the step is read and compared with its check entry; one that differs is recorded
and the state is seeded again, else the step may be verified. -/
def readbackComplete (shard step : Nat) (m : Mem) (u : Units) : Mem × Units :=
  u.withSh shard (m, u) fun k s j =>
    match s.step? step with
    | none => (m, u)
    | some o =>
      if !s.isBuddy || o.state ≠ 4 || o.readDone || o.seeding then (m, u)
      else
        let region := if j.mode = 0 then s.bRegion else if s.curStep.isSome && s.cur = 0 then s.region2 else s.bRegion
        let t := if j.mode = 0 then s.table else s.table2
        let bad := (if j.mode = 0 then o.written s j else List.range s.layout).filter fun b => !(blockGood m u s j region t b)
        if bad.isEmpty then
          let sum := tableSum t
          let u := u.upOpen k step fun o => { o with readDone := true, shadowFp := if o.seeded then sum else o.shadowFp }
          (m, u.verifyStep k step)
        else
          let u := (u.count 0x600238 bad.length).wickEvent Ev.READBACK_MISMATCH
          (m, if j.mode = 0 then u.startSeed k step 0 else u.upSh k Shard.dropEpoch)

/-- STEP_RECORD_WAIT_EXPIRY (R252): WICK_RECORD_MISSING; the step verifies on the records it has. -/
def stepRecordWaitExpiry (shard step : Nat) (u : Units) : Units :=
  u.withSh shard u fun k s _ =>
    match s.step? step with
    | none => u
    | some o =>
      if !s.isBuddy || o.state < 3 || 5 ≤ o.state || o.allRecs s then u
      else ((u.upOpen k step fun o => { o with recWait := true }).wickEvent Ev.WICK_RECORD_MISSING).verifyStep k step

/-! The commit (R254) -/

/-- The step is COMMITTED at the buddy (R254): copy A, the recovery point, the region that is current, a snapshot where one is due,
and the step after it goes on. -/
def commitStep (m : Mem) (u : Units) (k n : Nat) : Mem × Units :=
  let s := u.shAt k
  match u.jobB s.job with
  | none => (m, u)
  | some j =>
    let u := (u.markA k n 6 false).count 0x600240
    let u := u.upSh k fun s =>
      { s with opens := s.opens.filter (fun o => o.step ≠ n), committed := max s.committed n, prot := if s.prot = 2 then 0 else s.prot }
    let count := NMap.getD u.wick.v1Steps k 0 + 1
    let u := if j.mode = 0 then u else u.upW fun w => { w with v1Steps := NMap.set w.v1Steps k count }
    let iv := u.interval j
    let due := iv ≠ 0 && (if j.mode = 0 then n % iv = 0 else count % iv = 0)
    let fix := fun (x : Snap) => if x.man.step = n then { x with man := ((u.shAt k).copyA n).getD x.man } else x
    let u := u.upSh k fun s => { s with snap := s.snap.map fix, durable := s.durable.map fix }
    let r := if (due || s.snapDue = 1) && !(s.captured n) then startSnapshot m u k n j.mode due else (m, u)
    driveStep r.1 (r.2.grantStep k) k (n + 1)

/-- COMMIT_REC at the source (R254): State COMMITTED is written as copy B, read back and answered with COMMIT_ACK; a lower state tells
of SHADOWED and of a verdict (R22, R280) and is not answered. A step that has not recorded APPLY_GO here skips no state (R19): what the buddy tells is
kept, and the buddy sends COMMIT_REC again. -/
def commitRec (h : Sys2Proof.LHdr) (r : CommitRec) (crcOk : Bool) (u : Units) : Units :=
  u.recvL h 0x06 0 fun u =>
    u.withSh r.shard u fun k s j =>
      let ack := fun (u : Units) (st : Nat) => u.reqL h.src 0x07 16 2 [r.step, r.shard, st]
      if r.state < 6 then
        ((u.upOpen k r.step fun o => { o with state := if o.state < 3 then o.state else max o.state r.state, ahead := r.state, verdict := b2n (bitAt r.flags 3) }).upSh k fun s =>
          { s with recB := s.recB.map fun x => if x.step = r.step then { x with flags := setBits x.flags 3 3 (b2n (bitAt r.flags 3)) } else x }).grantStep k
      else if !crcOk then ack u St.INTEGRITY_CRC
      else if j.gated && (s.step? r.step).any (fun o => o.state < 3) then u
      else
        let u := u.upSh k fun s =>
          { s with recB := putRec s.recB r, opens := s.opens.filter (fun o => o.step ≠ r.step), committed := max s.committed r.step,
                   prot := if s.prot = 2 then 0 else s.prot,
                   incoming := match s.incoming with | some x => if x.1 = r.step then none else some x | none => none }
        ((ack u St.OK).grantStep k).gateCheck s.job

/-- Send COMMIT_REC again, up to 3 times; then WICK_COMMIT_STALLED, and the step stays VERIFIED (R254). -/
def Units.resendRec (u : Units) (k n : Nat) : Units :=
  match (u.shAt k).step? n with
  | none => u
  | some o =>
    if o.state ≠ 5 || o.stalled then u
    else if o.sends < 4 then (u.upOpen k n fun o => { o with sends := o.sends + 1 }).sendRec k n 6
    else (u.upOpen k n fun o => { o with stalled := true }).wickEvent Ev.WICK_COMMIT_STALLED

/-- COMMIT_ACK at the buddy (R254): OK makes the step COMMITTED; a failure sends COMMIT_REC again. -/
def commitAck (h : Sys2Proof.LHdr) (step shard status : Nat) (m : Mem) (u : Units) : Mem × Units :=
  if u.lanternDrops h then (m, u.recvL h 0x07 0 id)
  else u.withSh shard (m, u) fun k s _ =>
    match s.step? step with
    | none => (m, u)
    | some o => if !s.isBuddy || o.state ≠ 5 then (m, u) else if status = St.OK then commitStep m u k step else (m, u.resendRec k step)

/-- COMMIT_ACK_WAIT_EXPIRY (R254). -/
def commitAckWaitExpiry (shard step : Nat) (u : Units) : Units := u.withSh shard u fun k s _ => if s.isBuddy then u.resendRec k step else u

/-- SEED_REQ (R257): kept step records go to the buddy, and the writer's context, where it is local, gets the seed's credits. -/
def seedReq (h : Sys2Proof.LHdr) (shard step : Nat) (u : Units) : Units :=
  u.recvL h 0x08 0 fun u => u.withSh shard u fun k _ _ => u.serveSeed k 0 step h.src

/-- The replica of the entry's local context (Table 10-3): the writer where it is local, else the lowest. -/
def Units.localReplica (u : Units) (s : Shard) : Option Nat :=
  (List.range s.members.length).find? fun i => u.localCtx (s.members.getD i (0, 0)) = some (s.port, s.ctx)

/-- BLOCK_FETCH (R256): the holder of another copy answers with the block as FWD_SEED: the buddy's committed copy, a durable snapshot
of the step, or the writer's transit; a T3 whose accelerators hold the step, the last one released, has its local replica seed it (Table 10-9). -/
def blockFetch (h : Sys2Proof.LHdr) (shard block step : Nat) (m : Mem) (u : Units) : Mem × Units :=
  if u.lanternDrops h then (m, u.recvL h 0x09 0 id)
  else u.withSh shard (m, u) fun k s j =>
    let send := fun (u : Units) (fmt : Nat) (d : List Nat) =>
      u.answerL h.src 0x02 h.seq (32 + d.length) 2
        (Blk.fields { step := step, shard := shard, index := block, fmt := fmt, flags := 0, valid := d.length, tag := 0, crc := crc64 d, data := d })
    if s.isBuddy && s.holds j.mode step && block < s.layout then
      let r := readBlock m u k block
      match r.2 with
      | some d => (r.1.1, send r.1.2 0x20 d)
      | none => r.1
    else match s.durable.find? fun x => x.man.step = step with
      | some x => (m, send u 0x20 (x.blocks.getD block []))
      | none => match (s.step? step).bind fun o => o.transit.find? fun x => x.2.index = block && x.2.fmt ≠ 0x10 with
        | some x => (m, u.sendBlk h.src 0x02 (inTransit m u x))
        | none => (m, match u.localReplica s with
          | some i => if j.gated && j.released = step then u.serveSeed k (i + 1) step h.src else u
          | none => u)

/-! Snapshots (R260-R263) -/

/-- Write the entries of a host export that the job's ring has room for: the manifest first, then the blocks (R263). -/
def Units.exportPump (u : Units) (k : Nat) : Units :=
  let s := u.shAt k
  match s.expo with
  | none => u
  | some (n, next, ring) =>
    match s.durable.find? fun x => x.man.step = n with
    | none => u
    | some x =>
      let total := x.blocks.length + 1
      let room := (u.desc ring).size - (u.desc ring).fill - (u.desc ring).reserved
      let cnt := if (u.desc ring).enable then min room (total - next) else 0
      let put := fun (u : Units) (i : Nat) =>
        u.produce ring (.words (if next + i = 0 then x.man.fields ++ x.table.flatMap (fun e => [e.2.1, e.2.2]) else x.blocks.getD (next + i - 1) []))
      let u := (List.range cnt).foldl put u
      let excess := next + cnt = total && (u.desc ring).fill = 0
      u.upSh k fun s => { s with expo := if excess then none else some (n, next + cnt, ring), exported := if excess then some n else s.exported }

/-- The job's export ring: its enabled outbound ring of lowest index. -/
def Units.exportRingOf (u : Units) (job : Nat) : Option Nat :=
  (u.ring.desc.find? fun d => d.2.job = job && d.2.kind = 2 && d.2.enable).map (·.1)

/-- Every block of a snapshot matches its check entry, and the entries sum to the commit record's fingerprint (R262). -/
def Snap.whole (x : Snap) : Bool :=
  tableSum x.table = x.man.postFp && (List.range x.blocks.length).all fun b => (NMap.find x.table b).map (·.1) = some (crc64 (x.blocks.getD b []))

/-- Post-update fingerprint of the writer's kept record of a step (R264). -/
def Units.writerFp (u : Units) (s : Shard) (n : Nat) : Option Nat :=
  match u.localCtx (s.members.getD s.writer (0, 0)) with
  | some (p, c) => ((NMap.getD s.kept (64 * p + c) []).find? fun r => r.step = n).map fun r => r.fp
  | none => none

/-- SNAPSHOT_DURABLE (R262, R263): with every block and the manifest read back the snapshot is durable in both copies, the third
oldest goes, a waiting WICK_SNAPSHOT_NOW completes, and the host export starts; a failed one is dropped. -/
def snapshotDurable (shard step : Nat) (ok : Bool) (u : Units) : Units :=
  u.withSh shard u fun k s j =>
    match s.snap with
    | none => u
    | some x =>
      if x.man.step ≠ step then u
      else if !ok || !x.whole || (s.prot = 3 && !(u.writerFp s step = some x.man.postFp)) then
        u.upSh k fun s => { s with snap := none, snapDue := if s.snapDue = 2 then 1 else s.snapDue }
      else
        let mark := fun (r : CommitRec) => if r.step = step then { r with flags := setBit r.flags 6 } else r
        let u := u.upSh k fun s =>
          { s with snap := none, snapDue := if s.snapDue = 2 then 0 else s.snapDue, durable := (x :: s.durable).take 2, recA := s.recA.map mark, recB := s.recB.map mark }
        let u := (u.count 0x600250).wickEvent Ev.WICK_SNAPSHOT_DURABLE
        let u := if s.isBuddy then u.sendRec k step 6 else u
        let u := if (u.shardsOf s.job).all (fun i => (u.shAt i).snapDue = 0) then
            (u.doneAll j.snapNow 0x0605 St.OK 0).upJob s.job fun j => { j with snapNow := [] }
          else u
        if bitAt j.flags 1 then
          let u := if s.expo.isSome then u.wickEvent Ev.WICK_EXPORT_ABANDONED else u
          match u.exportRingOf s.job with
          | some r => (u.upSh k fun s => { s with expo := some (step, 0, r) }).exportPump k
          | none => u.upSh k fun s => { s with expo := none }
        else u

/-- SPILL_RETRY_TIMER (R264): the warden is asked again for a buddy for every spilled shard. -/
def spillRetryTimer (u : Units) : Units := u.wick.shards.foldl (fun u e => if e.2.prot = 3 then u.askPlace e.1 else u) u

end Sys2Proof.Machine
end

