-- ==== Sys2Proof/Machine/Shadow.lean ====
section
/-!
DEFINITION. The commands, completions and timers of the shadow optimizer (11_shadow_optimizer).
-/
namespace Sys2Proof.Machine

/-- Seed an item (R275): its layout blocks at the step come from the writer, with the seeded flag in the commit record. -/
def Units.seedItem (u : Units) (k n idx : Nat) : Units :=
  let s := u.shAt k
  match s.step? n, u.jobB s.job with
  | some o, some j =>
    let mine := (o.items.filter fun i => i.index = idx).flatMap (itemBlocks s j o)
    let first := !(o.items.any fun i => i.state = 3)
    let u := u.upOpen k n fun o =>
      { o with seeded := true, seedGot := o.seedGot.filter (fun b => !(mine.contains b)),
               items := o.items.map fun i => if i.index = idx then { i with state := 3 } else i }
    if first then u.askSeed k n 0 else u
  | _, _ => u

/-- A completion of a job's item (R275, Table 11-4): where the program is a reference program, the item's result is that of its operation sequence
(R276). DONE is checked against the block check table, which the tap has filled; a difference makes
the taper suspect and seeds the item, as any other kind does. The step enters SHADOWED when every item is done or seeded. -/
def shadowItem (shard step item kind taper fp : Nat) (m : Mem) (u : Units) : Mem × Units :=
  u.withSh shard (m, u) fun k s j =>
    let inst := u.inst s.job
    match s.step? step with
    | none => (m, u)
    | some o =>
      match o.items.find? fun i => i.index = item with
      | none => (m, u)
      | some i =>
        if o.state ≠ 3 || o.seeding || 2 ≤ i.state then (m, u)
        else
          let u := u.upInst s.job fun x =>
            { x with queue := x.queue.filter (fun q => q ≠ (shard, step, item)), running := x.running.filter fun q => q ≠ (shard, step, item) }
          if kind ≠ 0 then (m, (u.seedItem k step item).itemsDone k step)
          else
            let bs := itemBlocks s j o i
            let before := sumL (bs.map fun b => (NMap.getD s.table b (0, 0)).2)
            let r := putItem m u s i
            let m := r.1
            let u := tap m r.2 k j bs
            let after := sumL (bs.map fun b => (NMap.getD (u.shAt k).table b (0, 0)).2)
            let want := if i.sparse then (after + bs.length * fpP - before) % fpP else after % fpP
            let u := u.upOpen k step fun o => { o with items := o.items.map fun x => if x.index = item then { x with taper := taper } else x }
            if fp = want then
              (m, ((u.upOpen k step fun o =>
                { o with items := o.items.map fun x => if x.index = item then { x with state := 2, fp := fp } else x }).count 0x600480).itemsDone k step)
            else
              let u := (u.raise Ev.SHADOW_ITEM_MISMATCH 2 0x060 0).later (.suspectTaper inst.slot taper shard step false)
              (m, u.seedItem k step item)

/-- SHADOW_UNREGISTER (0x0608): a customer program to which no job is bound. -/
def shadowUnregister (c : Sys2Proof.Cmd) (prog : Nat) (u : Units) : Units :=
  u.operator c 0x060 0x0608 fun u =>
    match u.wick.progs.find? fun e => e.2.id = prog with
    | none => u.done c 0x060 0x0608 St.BAD_PARAM
    | some e =>
      if bitAt e.2.flags 0 || (u.wick.jobs.any fun j => j.2.mode = 0 && j.2.prog = prog) then u.done c 0x060 0x0608 St.BAD_STATE
      else (u.upW fun w => { w with progs := NMap.del w.progs e.1 }).done c 0x060 0x0608 St.OK

/-- A tensor table breaks R277: entries do not follow one another from parameter 0, or a tensor exceeds 2^24 parameters. -/
def tensorsOk : Nat → List (Nat × Nat × Nat) → Bool
  | _, [] => true
  | at_, t :: r => t.1 = at_ && t.2.1 * t.2.2 ≤ 2 ^ 24 && tensorsOk (at_ + t.2.1 * t.2.2) r

/-- SHADOW_PARAMS (0x060A, R269, R270, R277): the job need not be bound; for one bound to a reference program a block that breaks
Table 11-7 is refused and the old one stays. -/
def shadowParams (c : Sys2Proof.Cmd) (job region addr : Nat) (m : Mem) (u : Units) : Mem × Units :=
  let no := fun (s : Nat) => (m, u.done c 0x060 0x060A s)
  if !(isOperator (stampPriv c.stamp)) then no St.NOT_PRIVILEGED
  else if !(u.mayAccess Ag.wick addr 256 false) then no St.NOT_PRIVILEGED
  else if region ≠ 0xFFFF && !(match NMap.find u.mantle.regions region with | some r => r.typ = 8 | none => false) then no St.BAD_PARAM
  else
    let b := m.bytesAt addr 256
    let ref := match u.jobB job with
      | some j => j.mode = 0 && ((u.progOf j.prog).map fun p => bitAt p.flags 0).getD false
      | none => false
    let longest := ((u.shardsOf job).map fun k => (u.shAt k).params).foldl max 0
    let t := if region = 0xFFFF then [] else readTensors m u region (if longest = 0 then 2 ^ 48 else longest) 65536 0
    let short := region ≠ 0xFFFF && sumL (t.map fun x => x.2.1 * x.2.2) < longest
    if (ref && !(paramsOk b)) || !(tensorsOk 0 t) || short then no St.BAD_PARAM
    else (m, (u.upW fun w => { w with params := NMap.set w.params job (b, region) }).done c 0x060 0x060A St.OK)

/-- SHADOW_RESOLVE (0x060B, R281): choice 0 keeps the shadow's value, 1 + i seeds from replica i. -/
def shadowResolve (c : Sys2Proof.Cmd) (job shard step choice : Nat) (u : Units) : Units :=
  u.operator c 0x060 0x060B fun u =>
    u.withSh shard (u.done c 0x060 0x060B St.BAD_PARAM) fun k s _ =>
      if s.job ≠ job || s.count < choice then u.done c 0x060 0x060B St.BAD_PARAM
      else match s.step? step with
        | none => u.done c 0x060 0x060B St.BAD_STATE
        | some o =>
          if !s.isBuddy || o.verdict ≠ 1 then u.done c 0x060 0x060B St.BAD_STATE
          else if choice = 0 then
            let same := (o.recs.filter fun x => x.r.epoch = o.epoch && x.r.fp = o.shadowFp).length
            (u.verified k step same).done c 0x060 0x060B St.OK
          else
            ((u.upOpen k step fun o => { o with verdict := 0, kind := 5 }).startSeed k step choice).done c 0x060 0x060B St.OK

/-- SHADOW_GRID_RETRY (R272): every 100 ms placement is tried again for the jobs that wait. -/
def shadowGridRetry (u : Units) : Units :=
  u.wick.insts.foldl (fun u e => if e.2.state = 1 then u.later (.shadowLoad e.1) else u) u

/-- SHADOW_INSTANCE_RELOAD (R281): an instance with suspect tapers is unloaded and loaded again once no item of it is queued or
running. -/
def shadowInstanceReload (job : Nat) (u : Units) : Units :=
  let i := u.inst job
  if i.state = 2 && i.reload && i.queue.isEmpty && i.running.isEmpty then
    ((u.upInst job fun i => { i with state := 1, reload := false }).later (.gridUnload i.slot)).later (.shadowLoad job)
  else u

/-- A job's instance is gone: its items with no DONE completion are seeded (R282). -/
def Units.seedItems (u : Units) (job : Nat) : Units :=
  (u.shardsOf job).foldl (fun u k =>
    (u.shAt k).opens.foldl (fun u o =>
      (o.items.filter fun x => x.state ≤ 1).foldl (fun u x => u.seedItem k o.step x.index) u) u) u

/-- A job's instance is unloaded with its partition (R170): what it has not done is seeded, and it is loaded again elsewhere (DESIGN CHOICE: the
assumption log, entry 175). -/
def Units.instGone (u : Units) (job : Nat) : Units :=
  if (u.inst job).state = 0 then u
  else ((u.seedItems job).upInst job fun i => { i with state := 1, queue := [], running := [], reload := false }).later (.shadowLoad job)

/-- SHADOW program fault (R282): the instance is unloaded, items with no DONE completion are seeded, and the program is loaded again
unless a second fault that is no memory poison came within 1 h. -/
def Units.instFault (u : Units) (job cause detail : Nat) : Units :=
  let i := u.inst job
  let u := (u.later (.gridUnload i.slot)).seedItems job
  let mem := cause = 1 && detail = 3
  let hour := 3600 * 1000000000
  let near := i.faults.any fun t => u.clk.mono < t + hour
  let u := if mem then u else u.raise Ev.SHADOW_PROGRAM_FAULT 2 0x060 cause [] Target.none false near
  let stop := !mem && near
  let u := u.upInst job fun i =>
    { i with state := if stop then 3 else 1, queue := [], running := [], reload := false, faults := if mem then i.faults else [u.clk.mono] }
  if stop then u else u.later (.shadowLoad job)

end Sys2Proof.Machine
end

