-- ==== Sys2Proof/Machine/Recovery.lean ====
section
/-!
DEFINITION. Recoveries, spares, reloads and training replay (13_spares_and_replay), and the standing-order actions SPARE_IN,
WARM_RESTORE_OR_SPARE and HOLD_JOB (Table 13-7).
-/
namespace Sys2Proof.Machine

/-- Change the recovery unit. -/
def Units.upC (u : Units) (f : Rcv → Rcv) : Units := { u with rcv := f u.rcv }

/-- Change a recovery coordinated here. -/
def Units.upCoord (u : Units) (job : Nat) (f : Recovery → Recovery) : Units := u.upC fun x => { x with coord := NMap.upd x.coord job f }

/-- Change a recovery this T3 is a member of. -/
def Units.upMem (u : Units) (job : Nat) (f : MemberRcv → MemberRcv) : Units := u.upC fun x => { x with mem := NMap.upd x.mem job f }

/-- This T3 acts as keeper (R37, R39): it holds the role and its outputs may leave. -/
def Units.isKeeper (u : Units) : Bool := u.actsAs u.role.keeperId

/-- CID of the keeper's holder. -/
def Units.keeperCid (u : Units) : Nat :=
  let r := u.roleOf u.role.keeperId
  if r.holding then u.self else r.holder

/-- A recovery as the keeper's journal keeps it (R44, R313): open with its members and failures, or closed. -/
def Units.journalRcv (u : Units) (job : Nat) : Units :=
  u.journalRole u.role.keeperId (match NMap.find u.rcv.coord job with
    | some c => [1, job, c.seq, c.phase, c.members.length] ++ c.members ++ c.failed.flatMap fun f => [f.1, f.2]
    | none => [6, job, NMap.getD u.rcv.lastSeq job 0])

/-! Records and contexts -/

/-- Contexts of a position that hold replicas of a job's shards: (context, shard entry). -/
def Units.posShards (u : Units) (cid job : Nat) : List (Nat × Nat) :=
  (u.shardsOf job).flatMap fun k => ((u.shAt k).members.filter fun x => x.1 = cid).map fun x => (x.2, k)

/-- The newest step record of a context at or below R, of the lowest shard identifier (R328), with the shard's entry. -/
def Units.newestRec (u : Units) (p c job r : Nat) : Option (Nat × Sys2Proof.StepRec) :=
  let all := (u.shardsOf job).flatMap fun k => ((NMap.getD (u.shAt k).kept (64 * p + c) []).filter fun x => x.step ≤ r).map fun x => (k, x)
  let top := (all.map fun x => x.2.step).foldl max 0
  (all.filter fun x => x.2.step = top).foldl (fun (a : Option (Nat × Sys2Proof.StepRec)) x =>
    match a with | none => some x | some y => if x.2.shard < y.2.shard then some x else some y) none

/-- Send RECOVERY kind 1 to a context (Table 13-6): `flags` bit 0 roll-forward, 1 state restore follows, 2 stream replay follows. -/
def Units.sendPrep (u : Units) (p c job flags : Nat) : Units :=
  match NMap.find u.rcv.mem job with
  | none => u
  | some x =>
    let r := x.point.getD 0
    let nr := u.newestRec p c job r
    let epoch := match nr with | some y => (u.shAt y.1).epoch | none => 0
    let body := match nr with | some y => recFields y.2 | none => List.replicate 17 0
    let u := u.upMem job fun x => { x with waitCtx := if x.waitCtx.contains (64 * p + c) then x.waitCtx else (64 * p + c) :: x.waitCtx }
    let replay := (NMap.vals u.led.streams).any fun s => s.state = 2 && s.port = p && s.ctx = c
    u.igSend p 0x18 c 288 ([1, flags + b2n x.roll + 4 * b2n replay, epoch, r, x.seq] ++ body)

/-- Post-update fingerprint of the commit record of R of a shard: copy B, copy A, or a record fetched from the buddy (R322). -/
def Units.postFp (u : Units) (k r : Nat) : Option Nat :=
  let s := u.shAt k
  match (s.recB ++ s.recA ++ s.durable.map (·.man)).find? fun x => x.step = r && x.postFp ≠ noFp && 5 ≤ x.state with
  | some x => some x.postFp
  | none => (u.rcv.fetched.find? fun f => f.1 = s.shard && f.2.1 = r).map fun f => f.2.2.1

/-- Ask a shard's buddy for its commit record, binding, entry and step records (R322, R326). -/
def Units.askRecords (u : Units) (k r : Nat) : Units :=
  let s := u.shAt k
  if s.isBuddy || s.buddy = 0 || u.rcv.wanted.contains (s.shard, r) then u
  else (u.upC fun x => { x with wanted := x.wanted ++ [(s.shard, r)] }).reqL s.buddy 0x57 24 2 [s.shard, 0, r, 0]

/-! The member (R317-R319) -/

/-- Steps to which this T3 can bring a shard (13, The recovery point): one it holds as buddy by every means of Table 13-2; one that has no buddy by its
durable snapshots alone. -/
def Shard.restorable (s : Shard) (mode : Nat) : List Nat :=
  if !s.isBuddy then (s.durable.map fun d => d.man.step).eraseDups
  else
  let here := (s.curStep.toList.filter (s.holds mode)) ++ (if mode = 0 then [] else s.prevStep.toList)
  let next := s.opens.filterMap fun o =>
    if mode = 0 && (o.state = 3 || o.state = 4) && (s.curStep = some (o.step - 1) || s.opens.any fun x => x.step + 1 = o.step && 3 ≤ x.state) &&
      (o.whole s || o.skipped || o.state = 4) then some o.step else none
  (here ++ next ++ s.durable.map fun d => d.man.step).eraseDups

/-- A shard's steps limit the recovery point (R23, R315): this T3 holds it as buddy, or is the writer's T3 of one that is unbuddied or spilled, whose
snapshots it has. -/
def Units.limits (u : Units) (s : Shard) : Bool := s.isBuddy || ((s.prot = 1 || s.prot = 3) && u.isWriter s)

/-- What a member reports (RCV_STATE): no limit where no shard of the job sets one here, else the steps restorable for every such shard,
the newest first, up to four. -/
def Units.restorable (u : Units) (job : Nat) : Option (List Nat) :=
  let mode := match u.jobB job with | some j => j.mode | none => 0
  match ((u.shardsOf job).map u.shAt).filter u.limits with
  | [] => none
  | s :: t =>
    let l := (s.restorable mode).filter fun x => t.all fun y => (y.restorable mode).contains x
    let top := fun (l : List Nat) => l.foldl max 0
    let pick := fun (n : List Nat × List Nat) => if n.2.isEmpty then n else (n.1 ++ [top n.2], n.2.filter fun x => x ≠ top n.2)
    some (Nat.repeat pick 4 ([], l)).1

/-- A buddy shard is ready at R (Table 13-2). -/
def Shard.readyAt (s : Shard) (r : Nat) : Bool := !s.isBuddy || s.curStep = some r || (s.step? r).any fun o => 5 ≤ o.state

/-- A failed position that this T3 serves and that is neither restored nor granted a spare (R318). -/
def Units.stillFailed (u : Units) (x : MemberRcv) : Bool :=
  x.failed.any fun f => f.2 = 0xFF && !(x.gone.contains f.1) && (match u.portOf f.1 with | some p => u.fenced p | none => false)

/-- Every condition of RCV_READY holds (R318). -/
def Units.memberReady (u : Units) (job : Nat) (x : MemberRcv) (r : Nat) : Bool :=
  ((u.shardsOf job).all fun k => (u.shAt k).readyAt r) && x.waitCtx.isEmpty && x.restore.isEmpty &&
    !(u.rcv.warm.any fun w => w.2.2.1 = job) && !(u.rcv.reloadQ.any fun q => q.2.2 = job) &&
    !(u.rcv.reload.any fun e => (1 ≤ e.2.state && e.2.state ≤ 3) && u.jobOf e.1 e.2.ctx = job) &&
    !(u.rcv.prep.any fun q => q.2.2 = [0xFF] || !(u.posShards q.1 job).isEmpty) && !(u.rcv.granted.any fun q => q.2.2 = job) && !(u.stillFailed x)

/-- The coordinator's next phase (Table 13-1): with every member ready it sends RCV_RESUME, records RCV_RESUMED and closes. The
members are told by `tell`. -/
def Units.coordReady (u : Units) (job : Nat) (tell : Units → Nat → List Nat → Units) : Units :=
  match NMap.find u.rcv.coord job with
  | none => u
  | some c =>
    if c.phase ≠ 2 || !(c.members.all c.ready.contains) then u
    else
      let u := c.members.foldl (fun u d => tell u d [job, c.seq]) u
      let us := satW 32 ((u.clk.mono - c.start) / 1000)
      let u := (u.raise Ev.RCV_RESUMED 4 0x078 (payloadOf [(0, 4, job), (4, 4, us)])).upC fun x => { x with coord := NMap.del x.coord job }
      let u := u.journalRcv job
      -- a later failure of these positions has a notice of its own (R368)
      { u with ember := { u.ember with noticed := u.ember.noticed.filter fun n => n.2 ≠ job } }

/-- Release the contexts of a job (R319): each asks the power sequencer for its start (R333); mirroring and timers resume. -/
def Units.memberResume (u : Units) (job : Nat) : Units :=
  match NMap.find u.rcv.mem job with
  | none => u
  | some x =>
    let cs := (u.ctxsOf job).filter fun c => !(u.fenced c.1) && (u.ig c.1).active
    let u := u.upC fun y => { y with release := y.release ++ cs.map fun c => (64 * c.1 + c.2, x.point.getD 0, x.seq), mem := NMap.del y.mem job }
    let u := u.upJob job fun j => { j with held := false, entered := none }
    let ports := (cs.map (·.1)).foldl (fun l p => if l.contains p then l else l ++ [p]) []
    let u := u.later (.emberDirect job (x.failed.map (·.1)))
    let u := ports.foldl (fun u p => u.later (.askPower 1 p 0xFF true)) u
    let u := (u.shardsOf job).foldl (fun u k => (u.upSh k fun s => { s with withheld := false }).grantStep k) u
    let u := (List.range 16).foldl (fun u p => u.refreeze p) u
    u.gateCheck job

/-- The sequencer has admitted an accelerator: RECOVERY kind 2 goes to its contexts (R319, R333). -/
def Units.releaseCtxs (u : Units) (p : Nat) : Units :=
  let mine := u.rcv.release.filter fun r => r.1 / 64 = p
  let u := u.upC fun x => { x with release := x.release.filter fun r => r.1 / 64 ≠ p }
  mine.foldl (fun u r => (u.igSend p 0x18 (r.1 % 64) 32 [2, r.2.1, r.2.2]).later (.restored p (r.1 % 64))) u

/-- A message of the recovery to a member: RCV_RESUME, or its effect when the member is this T3. -/
def Units.tellResume (u : Units) (d : Nat) (pay : List Nat) : Units :=
  if d = u.self then u.memberResume (pay.headD 0) else u.reqL d 0x54 8 4 pay

/-- The coordinator counts a member ready (R318); a failure keeps the recovery in RESTORE. -/
def Units.takeReady (u : Units) (job seq cid status : Nat) : Units :=
  match NMap.find u.rcv.coord job with
  | none => u
  | some c =>
    if c.seq ≠ seq || !(c.members.contains cid) then u
    else
      let u := u.upCoord job fun c =>
        { c with ready := if status = St.OK then (if c.ready.contains cid then c.ready else cid :: c.ready) else c.ready.filter (· ≠ cid) }
      u.coordReady job Units.tellResume

/-- Send RCV_READY to the coordinator when every condition holds (R318), once. -/
def Units.rcvCheck (u : Units) (job : Nat) : Units :=
  match NMap.find u.rcv.mem job with
  | none => u
  | some x =>
    match x.point with
    | none => u
    | some r =>
      if x.readySent || !(u.memberReady job x r) then u
      else
        let u := u.upMem job fun x => { x with readySent := true }
        if x.coord = u.self then u.takeReady job x.seq u.self St.OK else u.reqL x.coord 0x53 16 4 [job, x.seq, St.OK]

/-- Report a failure with RCV_READY (R318). -/
def Units.rcvFail (u : Units) (job status : Nat) : Units :=
  match NMap.find u.rcv.mem job with
  | none => u
  | some x => if x.coord = u.self then u.takeReady job x.seq u.self status else u.reqL x.coord 0x53 16 4 [job, x.seq, status]

/-! Reloads at the serving T3 (R327, R331) -/

/-- The reload of a port. -/
def Units.reloadOf (u : Units) (p : Nat) : Reload := NMap.getD u.rcv.reload p Reload.reset

/-- Change it. -/
def Units.upReload (u : Units) (p : Nat) (f : Reload → Reload) : Units := u.upC fun x => { x with reload := NMap.updD x.reload Reload.reset p f }

/-- Ask for the blocks of the first shard that a port's reload still needs (R327 step 1), or end it. -/
def Units.nextReload (u : Units) (p : Nat) : Units :=
  let r := u.reloadOf p
  match r.shards with
  | [] =>
    let u := (u.upReload p fun r => { r with state := 4 }).upC fun x =>
      { x with mem := NMap.mapV x.mem fun _ y => { y with restore := y.restore.filter (· ≠ 64 * p + r.ctx) } }
    let u := u.later (.rcvCheck (u.jobOf p r.ctx))
    match u.rcv.reloadQ.find? fun q => q.1 = p with
    | none => u
    | some q =>
      let r : Reload := { Reload.reset with state := 1, ctx := q.2.1 }
      u.upC fun x => { x with reloadQ := x.reloadQ.filter fun y => y ≠ q, reload := NMap.set x.reload p r }
  | shard :: _ =>
    u.withSh shard u fun k s _ =>
      let u := u.upReload p fun r => { r with state := 2, written := 0, lastSent := false, blocks := s.layout }
      -- the report that ends the reload is a new one
      let u := u.upC fun x => { x with fps := x.fps.filter fun f => !(f.1 = p && f.2.1 = r.ctx && f.2.2.1 = shard) }
      if s.isBuddy || s.buddy = 0 then
        (u.upC fun x =>
          { x with serves := (x.serves.filter fun y => !(y.shard = shard && y.dst = u.self)) ++
              [{ shard := shard, dst := u.self, step := r.step, next := 0, acked := 0 }] }).later (.serveMore shard)
      else (u.reqL s.buddy 0x57 24 2 [shard, 1, r.step, 0]).askRecords k r.step

/-- Begin a reload of a context, or queue it behind the one that runs into its port (R331). -/
def Units.startReload (u : Units) (p c job : Nat) : Units :=
  match (NMap.find u.rcv.mem job).bind (·.point) with
  | none => u
  | some r =>
    let busy := let s := (u.reloadOf p).state; s = 1 || s = 2 || s = 3
    let u := u.upMem job fun x => { x with restore := if x.restore.contains (64 * p + c) then x.restore else (64 * p + c) :: x.restore }
    if busy then u.upC fun x => { x with reloadQ := x.reloadQ ++ [(p, c, job)] }
    else
      let ks := ((u.posShards (u.cidOf p) job).filter fun e => e.1 = c).map fun e => (u.shAt e.2).shard
      let min_ := fun (l : List Nat) => l.foldl min (l.headD 0)
      let sorted := (Nat.repeat (fun (n : List Nat × List Nat) =>
        if n.2.isEmpty then n else (n.1 ++ [min_ n.2], n.2.filter fun x => x ≠ min_ n.2)) ks.length ([], ks)).1
      (u.upReload p fun _ => { Reload.reset with state := 1, ctx := c, shards := sorted, step := r }).nextReload p

/-- Queued reload of a port whose turn has come: its shards are found again. -/
def Units.resumeReload (u : Units) (p : Nat) : Units :=
  let r := u.reloadOf p
  if r.state = 1 && r.shards.isEmpty then (u.upReload p fun r => { r with state := 0 }).startReload p r.ctx (u.jobOf p r.ctx) else u

/-- A shard's reload has ended at a port: done, or loaded once more, or the position is lost (R327). -/
def Units.reloadResult (u : Units) (p : Nat) (ok : Bool) : Units :=
  let r := u.reloadOf p
  if ok then
    let u := (u.upReload p fun r => { r with shards := r.shards.tail, again := false }).count 0x780490
    (u.nextReload p).resumeReload p
  else if !r.again then (u.upReload p fun r => { r with again := true, total := 0 }).nextReload p
  else
    let u := u.raise Ev.SPR_RELOAD_FAIL 1 0x078 (payloadOf [(0, 4, r.shards.headD 0), (4, 3, u.cidOf p), (7, 1, p)])
    (u.upReload p fun r => { r with state := 5 }).lose p 2

/-- Judge a reload whose last block is acknowledged, once the shard's report and the commit record of R are here (R327). -/
def Units.reloadTry (u : Units) (p : Nat) : Units :=
  let r := u.reloadOf p
  let shard := r.shards.headD 0
  if r.state ≠ 3 then u
  else match u.rcv.fps.find? fun f => f.1 = p && f.2.1 = r.ctx && f.2.2.1 = shard, (u.shKey shard).bind fun k => u.postFp k r.step with
    | some f, some want => u.reloadResult p (f.2.2.2.2.2 = want)
    | _, _ => u

/-! Spares at the keeper (R324-R326) -/

/-- A spare that may serve a position: its rank among the free ones (R325). One prestaged for another position serves ahead of a COLD
one when no HOT spare is free (R352). `k` says which may serve: 0 HOT ones (a prestage), 1 all but COLD ones, 2 all. -/
def spareRank (pos k : Nat) (s : Spare) : Option Nat :=
  if s.state = 2 && s.pos = pos then some 0
  else if s.state = 0 then some 1
  else if s.state = 2 && 1 ≤ k then some 2
  else if s.state = 1 && k = 2 then some 3
  else none

/-- The group of a position: its number and the Talnex generation of its positions (R33, R324). -/
def Units.groupOf (u : Units) (pos : Nat) : Option (Nat × Nat) := (u.rcv.groups.find? fun g => g.2.2.contains pos).map fun g => (g.1, g.2.1)

/-- Talnex generation of a group; none where the configuration image defines no such group. -/
def Units.groupGen (u : Units) (group : Nat) : Option Nat := (NMap.find u.rcv.groups group).map (·.1)

/-- Spares of a group. -/
def Units.sparesIn (u : Units) (group : Nat) : Nat := (u.rcv.spares.filter fun s => s.group = group).length

/-- Buddy T3 of a position's largest shard (R325): of the shards bound here that the position replicates, else as the keeper knows it. -/
def Units.largestBuddy (u : Units) (pos : Nat) : Nat :=
  match (((NMap.vals u.wick.shards).filter fun s => s.members.any fun x => x.1 = pos).foldl (fun (a : Option Shard) s =>
      match a with | none => some s | some b => if b.params < s.params then some s else some b) none) with
  | some s => if s.isBuddy then u.self else s.buddy
  | none => Config.largestBuddy pos

/-- Lexicographic order of two lists of numbers. -/
def lexLt : List Nat → List Nat → Bool
  | a :: r, b :: t => decide (a < b) || (a == b && lexLt r t)
  | _, _ => false

/-- Choose a spare of the position's group and generation (R33, R325), on a T3 that has not failed: by state, then the fewest lantern hops to the buddy T3 of its largest shard, then the
lowest T3 CID, then the lowest port. -/
def Units.pickSpare (u : Units) (pos k : Nat) : Option Spare :=
  match u.groupOf pos with
  | none => none
  | some (g, gen) =>
    let t := u.largestBuddy pos
    let rank := fun (s : Spare) => [(spareRank pos k s).getD 9, Config.lanternHops s.cid t, s.cid, s.port]
    (u.rcv.spares.filter fun s =>
      s.group = g && s.talnex = gen && (spareRank pos k s).isSome && !(NMap.getD u.role.watch s.cid T3Watch.reset).failed).foldl (fun (o : Option Spare) s =>
      match o with | none => some s | some b => if lexLt (rank s) (rank b) then some s else some b) none

/-- Change the spare entry of a T3 and port. -/
def Units.upSpare (u : Units) (cid port : Nat) (f : Spare → Spare) : Units :=
  u.upC fun x => { x with spares := x.spares.map fun s => if s.cid = cid && s.port = port then f s else s }

/-- Send SPARE_GRANT to both T3s (Table 13-12); `here` is what this T3 does when it is one of them. -/
def Units.sendGrant (u : Units) (dsts : List Nat) (pay : List Nat) (here : Units → Units) : Units :=
  (dsts.foldl (fun l x => if l.contains x then l else l ++ [x]) []).foldl (fun u d => if d = u.self then here u else u.reqL d 0x56 16 4 pay) u

/-! Preparing a spare (R326) -/

/-- Send RECOVERY kind 1 with state restore to the spares whose R is known and whose buddies' records are here (R326 step 4); the
records still missing are asked for. -/
def Units.prepTry (u : Units) : Units :=
  u.rcv.granted.foldl (fun u g =>
    match (NMap.find u.rcv.mem g.2.2).bind (·.point) with
    | none => u
    | some r =>
      let es := u.posShards g.1 g.2.2
      let open_ := es.filter fun e =>
        let s := u.shAt e.2
        !s.isBuddy && s.buddy ≠ 0 && !(u.rcv.fetched.any fun f => f.1 = s.shard && f.2.1 = r)
      if !open_.isEmpty then open_.foldl (fun u e => u.askRecords e.2 r) u
      else
        let cs := (es.map (·.1)).foldl (fun l c => if l.contains c then l else l ++ [c]) []
        let u := u.upC fun x => { x with granted := x.granted.filter (· ≠ g), prep := (x.prep.filter fun y => !(y.1 = g.1 && y.2.1 = g.2.1)) ++ [(g.1, g.2.1, cs)] }
        cs.foldl (fun u c => u.sendPrep g.2.1 c g.2.2 2) u) u

/-- Prepare the spare on a port for a position (R326): its shards are bound in the source role, its contexts watched, their control
bits set; the records are fetched before RECOVERY kind 1 goes out. -/
def Units.prepare (u : Units) (pos p : Nat) : Units :=
  let jobs := (u.wick.jobs.filter fun j => !(u.posShards pos j.1).isEmpty).map (·.1)
  jobs.foldl (fun u job =>
    let es := u.posShards pos job
    let u := es.foldl (fun u e =>
      let u := u.upSh e.2 fun s => { s with roles := setBit s.roles 0 }
      u.upSh e.2 fun s => match u.localCtx (s.members.getD s.writer (0, 0)) with | some x => { s with port := x.1, ctx := x.2 } | none => s) u
    let cs := (es.map (·.1)).foldl (fun l c => if l.contains c then l else l ++ [c]) []
    let u := cs.foldl (fun u c =>
      match u.vig.watched.find? fun w => w.1 = pos && w.2.1 = c with
      | some w => u.setWatch job p c w.2.2.2.1 15 w.2.2.2.2
      | none => u.setWatch job p c 0 15 0) u
    ((u.setGates job).upC fun x => { x with granted := (x.granted.filter fun g => g ≠ (pos, p, job)) ++ [(pos, p, job)] }).prepTry) u

/-- SPARE_GRANT at the spare's T3, or at the failed position's (R325, R326): a HOT spare is prepared at once, one whose port is not
ACTIVE is powered up first (R333); a refusal leaves the position to SPR_NO_SPARE. -/
def Units.takeGrant (u : Units) (pos spareCid port status : Nat) : Units :=
  let pre := u.rcv.reqs.any fun r => r.1 = pos && r.2.2.1 = 3
  let u := u.upC fun x => { x with reqs := x.reqs.filter fun r => r.1 ≠ pos }
  if pre then u.later (.prestaged pos status)
  else if status ≠ St.OK then u
  else
  let u := (u.upC fun x => { x with mem := NMap.mapV x.mem fun _ y => { y with gone := pos :: y.gone.filter (· ≠ pos) } })
  if spareCid ≠ u.self then (u.rcv.mem.filter fun e => e.2.failed.any fun f => f.1 = pos).foldl (fun u e => u.later (.rcvCheck e.1)) u
  else if (u.ig port).active then u.prepare pos port
  else (u.upC fun x => { x with prep := x.prep ++ [(pos, port, [0xFF])] }).later (.askPower 0 port 0xFF true)

/-- Generation of a spare's accelerator (R325): its IGTAN_ACC_GEN here, or as the keeper learns it. -/
def Units.spareGen (u : Units) (s : Spare) : Nat := if s.cid = u.self then u.accGen s.port else Config.remoteGen s.cid s.port

/-- The position's own spare asks for another (R326, R334): the keeper marks it UNAVAILABLE, and it is free of the position. -/
def Units.dropSpare (u : Units) (src pos : Nat) : Units :=
  u.upC fun x => { x with spares := x.spares.map fun s => if s.state = 3 && s.pos = pos && s.cid = src then { s with state := 4, pos := 0 } else s }

/-- Move a position to a spare (R51, R325): the entry is written with Fenced set in one version, unless it is fenced; the fence and the new generation tag
stand at the serving T3 before it sends SPARE_REQ; the next version names the spare, its Generation and the Spare bit. -/
def Units.moveTo (u : Units) (e : RouteEntry) (s : Spare) : Units :=
  let u := if e.fenced then u else u.issueRoutes [{ e with fenced := true }]
  let u := u.upSpare s.cid s.port fun s => { s with state := 3, pos := e.cid }
  let u := u.upC fun x =>
    { x with holds := x.holds.filter (· ≠ e.cid),
             moved := if e.target = u.self then x.moved else (x.moved.filter fun y => !(y.1 = e.target && y.2.1 = e.port)) ++ [(e.target, e.port, s.group)] }
  let u := u.issueRoutes [{ e with target := s.cid, port := s.port, spare := true, fenced := false, valid := true, gen := u.spareGen s }]
  (u.upSpare s.cid s.port fun s => { s with version := u.role.routeVer }).journalRole u.role.keeperId [2, e.cid, s.cid, s.port]

/-- SPARE_REQ at the keeper (R325, R352): grants a spare of the position's group, or prestages one for it (action 0x0003), or
refuses with SPR_NO_SPARE. The same request again is answered with the grant that stands. -/
def Units.grantSpare (u : Units) (src pos job action a : Nat) : Units :=
  let u := if action = 3 then u else u.dropSpare src pos
  let no := fun (u : Units) => u.sendGrant [src] [pos, 0, 0, u.role.routeVer, St.BAD_STATE] fun u => u.takeGrant pos 0 0 St.BAD_STATE
  if action = 3 then
    -- the same request again renews the hold
    match u.rcv.spares.find? fun s => s.state = 2 && s.pos = pos with
    | some s => u.sendGrant [src] [pos, s.cid, s.port, u.role.routeVer, St.OK] fun u => u.takeGrant pos s.cid s.port St.OK
    | none =>
      match u.pickSpare pos 0 with
      | some s =>
        let u := (u.upSpare s.cid s.port fun s => { s with state := 2, pos := pos }).upC fun x => { x with holds := pos :: x.holds }
        u.sendGrant [src] [pos, s.cid, s.port, u.role.routeVer, St.OK] fun u => u.takeGrant pos s.cid s.port St.OK
      | none => no u
  else match u.rcv.spares.find? fun s => s.state = 3 && s.pos = pos with
  | some s => u.sendGrant [src] [pos, s.cid, s.port, u.role.routeVer, St.OK] fun u => u.takeGrant pos s.cid s.port St.OK
  | none =>
    match u.pickSpare pos (if bitAt a (if action = 2 then 1 else 0) then 1 else 2), NMap.find u.role.routes pos with
    | some s, some e =>
      let taken := u.rcv.spares.any fun x => x.state = 2 && x.pos ≠ 0 && x.cid = s.cid && x.port = s.port && x.pos ≠ pos
      let u := u.moveTo e s
      let u := if taken then u.raise Ev.SPR_PRESTAGE_TAKEN 4 0x078 (payloadOf [(0, 3, s.cid), (3, 1, s.port), (4, 3, pos)]) else u
      u.sendGrant [src, s.cid] [pos, s.cid, s.port, u.role.routeVer, St.OK] fun u => u.takeGrant pos s.cid s.port St.OK
    | _, _ =>
      let t : Target := { Target.none with job := job, cid := pos }
      let u := u.raise Ev.SPR_NO_SPARE 4 0x078 (payloadOf [(0, 4, job), (4, 3, pos)]) [] t
      no u

/-- Ask the keeper for a spare (R40, R325). -/
def Units.askSpare (u : Units) (pos job action a : Nat) : Units :=
  let u := u.upC fun x => { x with reqs := (x.reqs.filter fun r => r.1 ≠ pos) ++ [(pos, job, action, a)] }
  if u.isKeeper then u.grantSpare u.self pos job action a else u.toRole u.role.keeperId 0x55 16 [pos, job, action, wrapW 16 a]

/-! Warm restore (R322) -/

/-- The keeper writes a restored position's route entry: the same target, Fenced clear and the new Generation (R322). -/
def Units.routeRestored (u : Units) (p : Nat) : Units :=
  let cid := u.cidOf p
  if u.isKeeper then
    match NMap.find u.role.routes cid with
    | some e => u.issueRoutes [{ e with fenced := false, gen := u.accGen p }]
    | none => u
  else u.emit (.bus 18 [u.keeperCid, cid, u.accGen p])

/-- A shard's report against the commit record of R (R322): 0 equal, else the reason of Table 24-8; none: not known yet. -/
def Units.fpReason (u : Units) (p c k r : Nat) : Option Nat :=
  let s := u.shAt k
  match u.rcv.fps.find? fun f => f.1 = p && f.2.1 = c && f.2.2.1 = s.shard with
  | none => none
  | some f =>
    match u.postFp k r with
    | none => none
    | some fp => some (if f.2.2.2.1 ≠ r then 2 else if f.2.2.2.2.1 ≠ s.params then 3 else if f.2.2.2.2.2 ≠ fp then 4 else 0)

/-- Warm restore is refused (R322): SPR_WARM_REFUSED, then a reload in place where the entry asks for it and the outcome was
"confirmed", else as SPARE_IN. -/
def Units.warmRefuse (u : Units) (cid p job a reason : Nat) (lost : Bool) : Units :=
  let u := u.upC fun x => { x with warm := x.warm.filter fun w => !(w.1 = cid && w.2.2.1 = job) }
  let u := u.raise Ev.SPR_WARM_REFUSED 1 0x078 (payloadOf [(0, 4, job), (4, 3, cid), (7, 1, reason)])
  if bitAt a 0 && !lost then
    let u := (u.unfence p).routeRestored p
    let cs := ((u.posShards cid job).map (·.1)).foldl (fun l c => if l.contains c then l else l ++ [c]) []
    cs.foldl (fun u c => (u.sendPrep p c job 2).startReload p c job) u
  else u.askSpare cid job 2 a

/-- Compare what a contained position holds with R, once everything is known (R322). -/
def Units.warmTry (u : Units) (p : Nat) : Units :=
  (u.rcv.warm.filter fun w => w.2.1 = p).foldl (fun u w =>
    let cid := w.1
    let job := w.2.2.1
    let a := w.2.2.2
    match (NMap.find u.rcv.mem job).bind (·.point) with
    | none => if bitAt u.vig.lost p then u.warmRefuse cid p job a 0 true else u
    | some r =>
      if bitAt u.vig.lost p then u.warmRefuse cid p job a 0 true
      else if u.vig.contains.any fun x => x.port = p then u
      else if (u.ig p).proto = 1 then u.warmRefuse cid p job a 5 false
      else if !((u.ig p).has 6) && !(u.posShards cid job).isEmpty then u.warmRefuse cid p job a 1 false
      else
        let es := u.posShards cid job
        let rs := es.map fun e => u.fpReason p e.1 e.2 r
        match rs.find? fun x => match x with | some n => n != 0 | none => false with
        | some (some n) => u.warmRefuse cid p job a n false
        | _ =>
          if rs.any Option.isNone then (es.filter fun e => (u.postFp e.2 r).isNone).foldl (fun u e => u.askRecords e.2 r) u
          else
            let u := u.upC fun x => { x with warm := x.warm.filter fun y => y ≠ w }
            let u := (u.unfence p).routeRestored p
            let cs := (es.map (·.1)).foldl (fun l c => if l.contains c then l else l ++ [c]) []
            let u := cs.foldl (fun u c => u.sendPrep p c job 0) u
            ((u.count 0x780488).raise Ev.SPR_WARM_RESTORE 1 0x078 (payloadOf [(0, 4, job), (4, 3, cid)])).later (.rcvCheck job)) u

/-- The reports of a context that an L0 declaration reset are compared (Table 13-3): on a match RECOVERY kind 1, else a reload in
place. -/
def Units.ctxTry (u : Units) (p c : Nat) : Units :=
  u.rcv.mem.foldl (fun u e =>
    let key := 64 * p + c
    match e.2.point with
    | none => u
    | some r =>
      if !(e.2.restore.contains key) || (u.reloadOf p).state = 2 || (u.reloadOf p).state = 3 || u.rcv.reloadQ.any fun q => q.1 = p && q.2.1 = c then u
      else
        let rs := ((u.posShards (u.cidOf p) e.1).filter fun x => x.1 = c).map fun x => u.fpReason p c x.2 r
        if rs.any Option.isNone then u
        else
          let u := u.upMem e.1 fun x => { x with restore := x.restore.filter (· ≠ key) }
          if rs.all (· = some 0) then (u.sendPrep p c e.1 0).count 0x780488 else (u.sendPrep p c e.1 2).startReload p c e.1) u

/-- Something that a member waits for has come (R318, R322): what can be compared now is compared, and readiness is looked at again. -/
def Units.rcvMove (u : Units) (job : Nat) : Units :=
  let u := ((u.rcv.warm.filter fun w => w.2.2.1 = job).map (·.2.1)).foldl (fun u p => u.warmTry p) u
  let keys := ((NMap.find u.rcv.mem job).map (·.restore)).getD []
  let u := keys.foldl (fun (u : Units) key => u.ctxTry (key / 64) (key % 64)) u
  u.prepTry.rcvCheck job

/-! Standing-order actions (Table 13-7) -/

/-- Carry an action for a position served elsewhere to its T3 through the keeper. -/
def Units.carryAct (u : Units) (action a : Nat) (t : Target) : Units := u.emit (.bus 19 [u.keeperCid, action, a, t.cid, t.ctx, t.job])

/-- Contain a position that is not yet contained (13, What becomes of a failed position). -/
def Units.containFirst (u : Units) (p : Nat) : Units := if u.fenced p || (u.vp p).state = 3 then u else u.containL1 p

/-- SPARE_IN (0x0001) for a position. -/
def Units.actSpareIn (u : Units) (a : Nat) (t : Target) : Units :=
  match u.portOf t.cid with
  | some p => (u.containFirst p).askSpare t.cid t.job 1 a
  | none => u.carryAct 1 a t

/-- WARM_RESTORE_OR_SPARE (0x0002) for a position (R322). -/
def Units.actWarm (u : Units) (a : Nat) (t : Target) : Units :=
  match u.portOf t.cid with
  | some p =>
    let u := u.containFirst p
    (u.upC fun x => { x with warm := (x.warm.filter fun w => !(w.1 = t.cid && w.2.2.1 = t.job)) ++ [(t.cid, p, t.job, a)] }).warmTry p
  | none => u.carryAct 2 a t

/-- SPARE_IN and WARM_RESTORE_OR_SPARE have nothing to act on (R555): the target is no position of the route table. -/
def Units.noPosition (u : Units) (t : Target) : Bool :=
  match NMap.find u.role.routes t.cid with
  | some e => e.kind ≠ 0 || !e.valid
  | none => true

/-- Put a job on hold at this T3 (R323): no APPLY_GO, frozen timers. -/
def Units.holdJob (u : Units) (job : Nat) : Units :=
  let u := u.upJob job fun j => { j with held := true }
  (List.range 16).foldl (fun u p => u.refreeze p) u

/-! The coordinator (R313-R315) -/

/-- Enter HELD, keeping the phase to return to (Table 13-1). -/
def Units.coordHold (u : Units) (job : Nat) : Units :=
  ((u.upCoord job fun c => if c.phase = 4 then c else { c with back := c.phase, phase := 4 }).journalRcv job).holdJob job

/-- A member's own answer to RCV_QUERY (R314): the recovery opens here, and the job's gate is held. -/
def Units.memberQuery (u : Units) (job seq coord : Nat) : Units :=
  let epoch := (u.roleOf u.role.keeperId).epoch
  let old := NMap.find u.rcv.mem job
  let first := old.isNone
  let e : MemberRcv :=
    { seq := seq, coord := coord, epoch := epoch, point := none, roll := false, failed := [], waitCtx := [],
      restore := (old.map (·.restore)).getD [], before := old.bind fun o => if o.point.isSome then o.point else o.before, gone := (old.map (·.gone)).getD [],
      readySent := false, open_ := true }
  let u := u.upC fun x => { x with mem := NMap.set x.mem job e }
  let u := u.holdJob job
  if first then u.count 0x780480 else u

/-- RCV_STATE's contents: last released step, count, steps. -/
def Units.stateWords (u : Units) (job seq : Nat) : List Nat :=
  match u.restorable job with
  | none => [job, seq, u.released job, 0xFF, 0, 0, 0, 0]
  | some l => [job, seq, u.released job, l.length] ++ l ++ List.replicate (4 - l.length) 0

/-- The recovery point (R315): the newest step every answering member lists that is no newer than the highest released one; without
an apply gate no step is released. -/
def pointOf (as_ : List (Nat × Nat × Option (List Nat))) : Option Nat :=
  let top := (as_.map fun a => a.2.1).foldl max 0
  let lists := as_.filterMap fun a => a.2.2
  match lists with
  | [] => if top = 0 then none else some top
  | l :: t =>
    let ok := l.filter fun x => (top = 0 || x ≤ top) && t.all fun y => y.contains x
    if ok.isEmpty then none else some (ok.foldl max 0)

end Sys2Proof.Machine
end

