-- ==== Sys2Proof/Machine/Flicker.lean ====
section
/-!
DEFINITION. Flicker (14_flicker_forecasting): samples, buckets and features, models and evaluations, raises and their actions, outcomes.
-/
namespace Sys2Proof.Machine

/-! Values held as binary32 (R338) -/

/-- Whether n / d is at least 2^e. -/
def atLeastPow (n d : Nat) (e : Int) : Bool := if 0 ≤ e then d * 2 ^ e.toNat ≤ n else d ≤ n * 2 ^ (-e).toNat

/-- The binary32 pattern of a value; where it lies between two, which one is a free value. -/
def b32 (q : Rat) : Nat :=
  let n := q.num.natAbs
  let d := q.den
  if n = 0 then 0
  else
    let g : Int := (Nat.log2 n : Int) - (Nat.log2 d : Int)
    let e := max (-149) ((if atLeastPow n d g then g else g - 1) - 23)
    let a := if 0 ≤ e then n else n * 2 ^ (-e).toNat
    let b := if 0 ≤ e then d * 2 ^ e.toNat else d
    let x := a / b + b2n (a % b ≠ 0 && Config.flickerAway q.num d)
    fmtSign 1 (q.num < 0) + min ((e + 149).toNat * 2 ^ 23 + x) 0x7F800000

/-- The value of a binary32 pattern; 0 for one that is no number. -/
def ratOf (x : Nat) : Rat :=
  match fvalOf 1 x with
  | .fin s m e =>
    let v : Rat := if 0 ≤ e then mkRat (m * 2 ^ e.toNat) 1 else mkRat m (2 ^ (-e).toNat)
    if s then -v else v
  | _ => 0

/-! Access -/

/-- Change Flicker. -/
def Units.upF (u : Units) (f : Flicker → Flicker) : Units := { u with flick := f u.flick }

/-- Component `k`. -/
def Units.comp (u : Units) (k : Nat) : Comp := NMap.getD u.flick.comps k (Comp.new 0 0 0xFF)

/-- Change component `k`. -/
def Units.upComp (u : Units) (k : Nat) (f : Comp → Comp) : Units := u.upF fun x => { x with comps := NMap.upd x.comps k f }

/-- The component of a class, index and port. -/
def Units.compKey (u : Units) (cls idx port : Nat) : Option Nat :=
  (u.flick.comps.find? fun e => e.2.cls = cls && e.2.idx = idx && e.2.port = port).map (·.1)

/-- Record an event of Flicker: contents that are named have no layout given; where none are named the payload is 0 (R557). -/
def Units.flickEvent (u : Units) (code : Nat) (args : List Nat := []) : Units :=
  u.raise code 2 0x0D0 (if args.isEmpty then 0 else Config.eventPayload code args)

/-- Level of a component's RISK_HIGH (R351). -/
def Comp.level (c : Comp) : Nat := if c.cls ≤ 5 || c.cls = 8 then 1 else 2

/-- FLICKER_THRESH(c). -/
def Units.flickThresh (u : Units) (c : Nat) : Nat := u.cfg (0xD00040 + 4 * c) (0x0400 + 0x0200 * 2 ^ 16)

/-- Payload of Table 14-8. -/
def Comp.payload (c : Comp) (k : Nat) : Nat :=
  payloadOf [(0, 2, k + 4096 * c.cls), (2, 1, c.port), (3, 1, c.conf), (4, 2, c.risk1), (6, 2, c.risk24)]

/-- Jobs on a component's position. -/
def Units.compJobs (u : Units) (c : Comp) : List Nat :=
  if c.port = 0xFF then (u.wick.shards.map fun e => e.2.job).foldl (fun l j => if l.contains j then l else l ++ [j]) [] else u.jobsOn c.port 0xFF

/-- Target of a component's standing orders: the job a matching entry names among those of the position, else the first (R351). -/
def Units.compTarget (u : Units) (k : Nat) (c : Comp) : Target :=
  if c.port = 0xFF then { Target.none with comp := k }
  else
    let js := u.jobsOn c.port 0xFF
    let es := (u.role.soPod.entries ++ u.role.soDomain.entries).filter fun e => e.hits Ev.FLICKER_RISK_HIGH c.level e.scope
    let j := match js.find? fun j => es.any fun e => e.scope = j with | some j => j | none => js.headD 0
    { Target.none with job := j, cid := u.cidOf c.port, port := c.port, comp := k }

/-- RISK_HIGH of a component in PRIOR (R345, R350): the prior flag is set, and only NOTIFY_ONLY answers it. -/
def Units.priorHigh (u : Units) (k : Nat) : Units :=
  let c := u.comp k
  if c.state = 1 && bits (u.flickThresh c.cls) 15 0 ≤ c.risk1 then
    if u.flick.draining || !u.flick.enable then u.occur (llIndex 0x0D0) (u.record Ev.FLICKER_RISK_HIGH c.level 0x0D0 (c.payload k) false true) []
    else u.raise Ev.FLICKER_RISK_HIGH c.level 0x0D0 (c.payload k) [] (u.compTarget k c) true (ok := fun e => e.action = 6)
  else u

/-- A component whose window is not full is UNKNOWN, or PRIOR under a population prior (R343, R345). -/
def Units.notFull (u : Units) (k : Nat) : Units :=
  let c := u.comp k
  match (if u.flick.priorEn then u.flick.priors else none) with
  | some p =>
    let u' := u.upComp k fun c => { c with state := 1, conf := 0, risk1 := fieldAt p (4 * c.cls) 2, risk24 := fieldAt p (4 * c.cls + 2) 2, sample := none }
    if c.state = 1 then u' else u'.priorHigh k
  | none => u.upComp k fun c => { c with state := 0, conf := 0, risk1 := 0xFFFF, risk24 := 0xFFFF, sample := none }

/-- A component is created (R336); beyond 1,024 it is not tracked. -/
def Units.addComp (u : Units) (cls idx port : Nat) : Units × Option Nat :=
  match NMap.firstFree u.flick.comps 1024 with
  | some k => (((u.upF fun x => { x with comps := NMap.set x.comps k (Comp.new cls idx port) }).notFull k), some k)
  | none => (u.flickEvent Ev.FLICKER_TABLE_FULL, none)

/-! Samples (R337-R340) -/

/-- Count missing samples of a component. -/
def Units.miss (u : Units) (k n : Nat) : Units :=
  (u.upComp k fun c => { c with cur := { c.cur with missing := c.cur.missing + n } }).count 0xD00108 n

/-- A sample enters the open bucket. -/
def FBucket.add (b : FBucket) (xs : List Rat) : FBucket :=
  let ps := (List.range 16).map fun s => b32 (xs.getD s 0)
  { b with present := b.present + 1,
           sums := (List.range 16).map fun s => b32 (ratOf (b.sums.getD s 0) + ratOf (ps.getD s 0)),
           maxs := (List.range 16).map fun s => if b.present = 0 || ratOf (b.maxs.getD s 0) < ratOf (ps.getD s 0) then ps.getD s 0 else b.maxs.getD s 0 }

/-- A triggered evaluation is queued (R348): for a component whose window is full and whose class the model serves. -/
def Units.trigger (u : Units) (k : Nat) : Units :=
  let c := u.comp k
  let served := match u.flick.model with | some m => bitAt m.mask c.cls | none => false
  if u.flick.enable && 2 ≤ c.state && served then u.upComp k fun c => { c with pending := true } else u

/-- A sample of component `k`. -/
def Units.sampleIn (u : Units) (k : Nat) (xs : List Rat) : Units :=
  (u.upComp k fun c =>
    { c with first := some (c.first.getD u.clk.mono), lastAt := some u.clk.mono, cur := c.cur.add xs }).count 0xD00100

/-- A count over an interval of `us` microseconds as a rate per second. -/
def perSec (n us : Nat) : Rat := mkRat (n * 1000000) (if us = 0 then 1 else us)

/-- The increase of a cumulative count since the previous sample. -/
def Comp.inc (c : Comp) (s v : Nat) : Nat := match NMap.find c.last s with | some o => v - o | none => 0

/-- The signals of a glim (Tables 14-2 and 14-3), over `us` microseconds. -/
def Comp.glimSignals (c : Comp) (g : List Nat) (us : Nat) : List Rat :=
  let w0 := fieldAt g 40 4
  let w1 := fieldAt g 44 4
  let s0 := if c.cls = 4 then mkRat w0 1 else perSec w0 us
  let s1 := if c.cls = 0 || c.cls = 4 then mkRat w1 1 else if c.cls = 1 then mkRat (c.inc 12 w1) 1 else if c.cls = 3 then mkRat (w1 % 256) 1 else perSec w1 us
  [mkRat (toSigned 16 (fieldAt g 8 2)) 16, mkRat (toSigned 16 (fieldAt g 10 2)) 16, mkRat (fieldAt g 12 2) 1000, perSec (fieldAt g 14 2) us,
   perSec (fieldAt g 16 4) us, perSec (c.inc 5 (fieldAt g 20 4)) us, perSec (fieldAt g 24 4) us, perSec (fieldAt g 28 2) us, mkRat (fieldAt g 30 2) 1024,
   mkRat (fieldAt g 32 4) 1000, if c.cls = 5 then mkRat (fieldAt g 36 4) 1000 else 0, s0, s1, if c.cls = 0 then perSec c.faults us else 0, 0, 0]

/-- GLIM (R68, R336, R338): CRC-checked and reduced into its component's slots; the first one creates the component. -/
def glim (h : Sys2Proof.SHdr) (g : List Nat) (u : Units) : Units :=
  u.recvS h 0x02 fun u =>
    let cls := g.getD 0 0
    let k := u.compKey cls (g.getD 1 0) h.port
    if !u.flick.extract then u
    else if crc32c (g.take 60) ≠ fieldAt g 60 4 then
      match k with
      | some k => u.miss k 1
      | none => u.count 0xD00108
    else if 6 ≤ cls then u
    else
      let r := match k with
        | some k => (u, some k)
        | none => u.addComp cls (g.getD 1 0) h.port
      match r with
      | (u, none) => u
      | (u, some k) =>
        let c := u.comp k
        let end_ := fieldAt g 4 4
        let seq := fieldAt g 2 2
        let us := if c.seq.isNone || end_ = c.ended then 1000 * (u.ig h.port).glimPeriod else wrapW 32 (end_ + 2 ^ 32 - c.ended)
        let gap := match c.seq with
          | some s => if s = seq then 0 else wrapW 16 (seq + 2 * 2 ^ 16 - s - 1) - c.late
          | none => 0
        let more := c.inc 5 (fieldAt g 20 4)
        let u := if gap = 0 then u else u.miss k gap
        let u := u.sampleIn k (c.glimSignals g us)
        let u := u.upComp k fun c =>
          { c with seq := some seq, ended := end_, late := 0, faults := 0,
                   last := NMap.set (NMap.set c.last 5 (fieldAt g 20 4)) 12 (fieldAt g 44 4) }
        if more = 0 then u else u.trigger k

/-- FLICKER_GLIM_MISSING (R338): no glim of the component within 1.5 periods. -/
def flickerGlimMissing (comp : Nat) (u : Units) : Units :=
  let c := u.comp comp
  if !u.flick.extract || c.seq.isNone then u else (u.miss comp 1).upComp comp fun c => { c with late := c.late + 1 }

/-- Port counters that classes 8 and 9 sample (Table 4-12): FEC corrected, uncorrected, CRC failures, replays, bursts, by slot. -/
def Units.portCounts (u : Units) (p : Nat) : List (Nat × Nat) :=
  let b := portBase p
  let lanesSum := fun o w => sumL ((List.range 8).map fun l => u.cnt (b + o + w * l))
  [(6, lanesSum 0x200 8), (7, lanesSum 0x240 8), (11, u.cnt (b + 0x110)), (12, u.cnt (b + 0x118)), (13, lanesSum 0x280 4)]

/-- The signals of a port (classes 8 and 9). -/
def Units.portSignals (u : Units) (c : Comp) (p : Nat) : List Rat :=
  let us := match c.lastAt with | some t => (u.clk.mono - t) / 1000 | none => 0
  let cs := u.portCounts p
  let l := u.port p
  let ms := ((List.range 8).filter fun i => bitAt l.map i).map fun i => u.cnt (portBase p + 0x2A0 + 4 * i)
  (List.range 16).map fun s =>
    if s = 3 then mkRat (laneCount l.isolated) 1
    else if s = 8 then (match ms with | [] => 0 | x :: r => mkRat ((r.foldl min x : Nat) : Int) 1024)
    else match cs.lookup s with
      | some v => perSec (c.inc s v) us
      | none => 0

/-- FLICKER_POLL (R338, R339): every 100 ms. `reads` gives each polled component of classes 6, 7, 10 and 11 whether its read succeeded and
its signals by slot, as numerator and denominator; ports are read from their counters. -/
def flickerPoll (reads : List (Nat × Bool × List (Nat × Int × Nat))) (u : Units) : Units :=
  if !u.flick.extract then u
  else
    let ports := u.flick.comps.filter fun e => e.2.cls = 8 || e.2.cls = 9
    let u := ports.foldl (fun u e =>
      let p := if e.2.cls = 8 then e.2.idx else 16 + e.2.idx
      (u.sampleIn e.1 (u.portSignals e.2 p)).upComp e.1 fun c => { c with last := u.portCounts p }) u
    reads.foldl (fun u r =>
      let c := u.comp r.1
      if !(c.cls = 6 || c.cls = 7 || c.cls = 10 || c.cls = 11) || !(NMap.has u.flick.comps r.1) then u
      else if !r.2.1 then u.miss r.1 1
      else
        let xs := (List.range 16).map fun s => if 14 ≤ s then 0 else match r.2.2.lookup s with | some v => mkRat v.1 v.2 | none => 0
        let u := u.sampleIn r.1 xs
        if 0 < xs.getD 5 0 then u.trigger r.1 else u) u

/-! Buckets and features (R341, R342) -/

/-- Mean of a slot over buckets; slot 14 is the missing fraction. -/
def meanOf (s : Nat) (bs : List FBucket) : Rat :=
  let n := sumL (bs.map (·.present))
  let x := sumL (bs.map (·.missing))
  if n = 0 then 0
  else if s = 14 then mkRat x (n + x)
  else (bs.foldl (fun (a : Rat) b => a + ratOf (b.sums.getD s 0)) 0) / mkRat n 1

/-- Maximum of a slot over buckets. -/
def maxOf (s : Nat) (bs : List FBucket) : Rat :=
  let f := fun (b : FBucket) => if s = 14 then meanOf 14 [b] else ratOf (b.maxs.getD s 0)
  match bs with
  | [] => 0
  | b :: r => r.foldl (fun a b => if a < f b then f b else a) (f b)

/-- Least-squares slope of the bucket means against time, per hour; points are (age in buckets, mean). -/
def slopeOf (pts : List (Nat × Rat)) : Rat :=
  let n : Rat := mkRat pts.length 1
  let x := fun (p : Nat × Rat) => (-(mkRat p.1 1) : Rat)
  let sx := pts.foldl (fun (a : Rat) p => a + x p) 0
  let sy := pts.foldl (fun (a : Rat) p => a + p.2) 0
  let sxx := pts.foldl (fun (a : Rat) p => a + x p * x p) 0
  let sxy := pts.foldl (fun (a : Rat) p => a + x p * p.2) 0
  if pts.length < 2 then 0 else 360 * (n * sxy - sx * sy) / (n * sxx - sx * sx)

/-- The 64 features over a ring of buckets, newest first. -/
def features (ring : List FBucket) : List Nat :=
  let ring := ring.take 90
  let idx := (List.range ring.length).zip ring
  let all := idx.filter fun p => 0 < p.2.present
  let six := (idx.take 6).filter fun p => 0 < p.2.present
  (List.range 16).flatMap fun s =>
    [b32 (meanOf s (six.map (·.2))), b32 (meanOf s (all.map (·.2))), b32 (maxOf s (all.map (·.2))),
     b32 (slopeOf (all.map fun p => (p.1, meanOf s [p.2])))]

/-- Buckets of the ring that hold a sample. -/
def Comp.filled (c : Comp) : Nat := (c.ring.filter fun b => 0 < b.present).length

/-- A feature record (Table 14-4). -/
def Comp.record (c : Comp) (k no : Nat) (ring : List FBucket) : List Nat :=
  leBytes 2 k ++ [c.cls, c.state] ++ leBytes 4 no ++ [c.filled, c.port] ++ List.replicate 22 0 ++ (features ring).flatMap (leBytes 4)

/-- Write a feature record to the Flicker region. -/
def putFeatures (m : Mem) (u : Units) (k no : Nat) (ring : List FBucket) : Mem :=
  memPutAt m u u.flick.region (0xC00000 + 288 * k) ((u.comp k).record k no ring)

/-- Number of the bucket just closed: 10 s units of monotonic time, wrapping. -/
def Units.bucketNo (u : Units) : Nat := wrapW 32 (u.clk.mono / 10 ^ 10 - 1)

/-- A component's history is cleared (R344): the flag goes without FLICKER_RISK_CLEARED, actions taken stay. -/
def Units.clearHistory (u : Units) (k : Nat) : Units :=
  let u := u.upComp k fun c =>
    { (Comp.new c.cls c.idx c.port) with
        empties := c.empties, prestage := c.prestage, granted := c.granted, drain := c.drain, state := c.state,
        raises := if c.flag then { at_ := c.raisedAt, cleared := u.clk.mono, charged := c.hit } :: c.raises else c.raises }
  (u.notFull k).flickEvent Ev.FLICKER_HISTORY_RESET

/-- Per-step snapshots last while a flag whose RAISE_MIRROR_PRIORITY asked for them stays raised (R353). -/
def Units.mirrorNow (u : Units) : Units :=
  let js := (u.flick.comps.filter fun e => e.2.flag && bitAt e.2.mirror 1).flatMap fun e => u.compJobs e.2
  u.upW fun w => { w with jobs := NMap.mapV w.jobs fun n j => { j with perStep := js.contains n } }

/-- One component at a bucket boundary. -/
def bucketClose (m : Mem) (u : Units) (k : Nat) : Mem × Units :=
  let c := u.comp k
  let no := u.bucketNo
  let frac := b32 (if c.cur.present + c.cur.missing = 0 then 0 else mkRat c.cur.missing (c.cur.present + c.cur.missing))
  let b := { c.cur with no := no, sums := setNth c.cur.sums 14 frac, maxs := setNth c.cur.maxs 14 frac }
  let m := memPutAt m u u.flick.region (12240 * k + 136 * (no % 90))
    (leBytes 8 (Config.bucketHeader no b.present b.missing) ++ b.sums.flatMap (leBytes 4) ++ b.maxs.flatMap (leBytes 4))
  let e := if c.cur.present = 0 then min 30 (c.empties + 1) else 0
  let u := u.upComp k fun c => { c with ring := (b :: c.ring).take 90, cur := FBucket.reset, empties := e }
  let u := if e = 30 && c.empties < 30 then (u.clearHistory k).mirrorNow else u
  let c := u.comp k
  let full := (match c.first with | some t => t + 900 * 10 ^ 9 ≤ u.clk.mono | none => false) && 72 ≤ c.filled
  let u := if full then (if c.state < 2 then u.upComp k fun c => { c with state := 3, conf := 0, risk1 := 0xFFFF, risk24 := 0xFFFF } else u)
    else if 2 ≤ c.state then u.notFull k else u
  (putFeatures m u k no (u.comp k).ring, (u.cureAt u.flick.region (12240 * k + 136 * (no % 90)) 136).cureAt u.flick.region (0xC00000 + 288 * k) 288)

/-- FLICKER_BUCKET_BOUNDARY (R341-R344): every 10 s. -/
def flickerBucketBoundary (m : Mem) (u : Units) : Mem × Units :=
  u.flick.comps.foldl (fun (a : Mem × Units) e => bucketClose a.1 a.2 e.1) (m, u)

/-! Models (R346, R347, R355) -/

/-- Bytes that an image's segments put at local address `a`, from the segments numbered below `n`. -/
def imageBytes (m : Mem) (u : Units) (idx off n a len : Nat) : Option (List Nat) :=
  let st := fieldAt (memGetAt m u idx off 256) 24 4
  ((List.range n).filterMap fun i =>
    let e := memGetAt m u idx (off + st + 16 * i) 16
    let at_ := fieldAt e 8 4
    if bitAt (fieldAt e 12 4) 0 || a < at_ || at_ + fieldAt e 4 4 < a + len then none
    else some (memGetAt m u idx (off + fieldAt e 0 4 + (a - at_)) len)).head?

/-- The model declaration of an image is present and keeps within its bounds (R346). -/
def modelOk (m : Mem) (u : Units) (idx off : Nat) : Option (List Nat) :=
  let h := memGetAt m u idx off 256
  match imageBytes m u idx off (fieldAt h 12 2) 0x5EF00 16 with
  | some d =>
    let ok := h.getD 6 0 = 10 && d.getD 0 0 = 1 && fieldAt d 2 2 % 4096 ≠ 0 && 1 ≤ fieldAt d 4 2 && fieldAt d 4 2 ≤ 256
      && 2500 * fieldAt d 6 4 ≤ fieldAt h 8 2 * 1100000000
    if ok then some d else none
  | none => none

/-- Load a model image by GRID_LOAD with automatic placement; the Flicker region stands in binding slot 0 (Table 14-6). -/
def loadModel (m : Mem) (u : Units) (idx off : Nat) (c : Option Sys2Proof.Cmd) : Units × Nat :=
  match modelOk m u idx off with
  | none => (u, St.BAD_PARAM)
  | some d =>
    let n := (memGetAt m u idx off 256).getD 14 0
    let r := u.loadInto m idx off 0 none 0xFFFFFFFF 0xFFFFFFFF (u.flick.region :: List.replicate (n - 1) 0xFFFF) .flicker { code := 0x0501, cmd := none }
    if r.2 = St.OK then ((r.1.upF fun x => { x with loading := some (fieldAt d 2 2, (idx, off), c) }), St.OK) else r

/-- FLICKER_LOAD_MODEL (0x0A01). The loader's refusals pass through. -/
def flickerLoadModel (c : Sys2Proof.Cmd) (region off : Nat) (m : Mem) (u : Units) : Mem × Units :=
  let st := imageCheck m u region off
  let no := fun (u : Units) s => (m, u.done c 0x0D0 0x0A01 s)
  if !(isOperator (stampPriv c.stamp)) then no u St.NOT_PRIVILEGED
  else if u.flick.loading.isSome then no u St.BUSY_RETRY
  else if !(match NMap.find u.mantle.regions region with | some r => r.typ = 8 | none => false) then no u St.BAD_PARAM
  else if st ≠ St.OK then no u st
  else
    let r := loadModel m u region off (some c)
    if r.2 = St.OK then (m, r.1.upF fun x => { x with fault := none }) else no r.1 r.2

/-- A load of a model ended: the program starts, and takes over at the next sweep (R347). -/
def Units.modelLoaded (u : Units) (slot status : Nat) : Units :=
  match u.flick.loading with
  | none => u
  | some (mask, image, c) =>
    let u := u.upF fun x => { x with loading := none }
    let u := if status = St.OK then
        -- one that has not taken over yet is superseded
        let u := match u.flick.next with | some y => u.later (.gridUnload y.slot) | none => u
        (u.slotCmd slot { code := 0x0502, cmd := none }).upF fun x =>
          { x with next := some { slot := slot, prog := (u.slot slot).progId, mask := mask, image := image } }
      else u
    match c with
    | some c => u.done c 0x0D0 0x0A01 status 0 (if status = St.OK then slot else 0)
    | none => u

/-- Cancel what a model has in flight, and the triggered evaluations that wait where `queued` says so: counted, completed, and merged
into the next sweep (R355). -/
def Units.cancelEvals (u : Units) (queued : Bool) (which : FItem → Bool) : Units :=
  let gone := u.flick.items.filter which
  let ks := gone.flatMap (·.comps) ++ (if queued then (u.flick.comps.filter fun e => e.2.pending).map (·.1) else [])
  let cmds := u.flick.evals.filter fun e => ks.contains e.1
  let u := u.upF fun x =>
    { x with items := x.items.filter (fun i => !(which i)), lapsed := lastN 256 (x.lapsed ++ gone), evals := x.evals.filter fun e => !(cmds.contains e),
             comps := if queued then NMap.mapV x.comps fun _ c => { c with pending := false } else x.comps }
  let u := cmds.foldl (fun u e => u.done e.2 0x0D0 0x0A02 St.CANCELLED_BY_DISABLE) u
  if ks.isEmpty then u else u.count 0xD00120 ks.length

/-- A model enters FAULTED (R355): unloaded, its evaluations cancelled, and loaded again unless it faulted within 1 h. -/
def modelFault (slot : Nat) (m : Mem) (u : Units) : Mem × Units :=
  match (u.flick.model.toList ++ u.flick.next.toList ++ u.flick.old).find? fun x => x.slot = slot with
  | none => (m, u.later (.gridUnload slot))
  | some x =>
    let u := (u.cancelEvals (u.flick.model = some x) fun i => i.slot = slot).unitUnload slot
    let near := match u.flick.fault with | some t => t.1 = x.image && decide (u.clk.mono < t.2 + 3600 * 10 ^ 9) | none => false
    let drop := fun (o : Option FModel) => if o = some x then none else o
    let wasOld := u.flick.old.contains x
    let u := u.upF fun f =>
      { f with model := drop f.model, next := drop f.next, old := f.old.filter (· ≠ x), fault := if wasOld then f.fault else some (x.image, u.clk.mono) }
    if wasOld || u.flick.loading.isSome then (m, u)
    else if near then (m, u.flickEvent Ev.FLICKER_MODEL_FAULT)
    else (m, (loadModel m u x.image.1 x.image.2 none).1)

/-- A model's program is unloaded with its partition (R170, R168 step 4): what it had is cancelled, and it is loaded again elsewhere where it was in
force or about to be (DESIGN CHOICE: the assumption log, entry 175). -/
def modelGone (slot : Nat) (m : Mem) (u : Units) : Units :=
  match (u.flick.model.toList ++ u.flick.next.toList ++ u.flick.old).find? fun x => x.slot = slot with
  | none => u
  | some x =>
    let was := !(u.flick.old.contains x)
    let drop := fun (o : Option FModel) => if o = some x then none else o
    let u := (u.cancelEvals (u.flick.model = some x) fun i => i.slot = slot).upF fun f =>
      { f with model := drop f.model, next := drop f.next, old := f.old.filter (· ≠ x) }
    if was && u.flick.loading.isNone then (loadModel m u x.image.1 x.image.2 none).1 else u

/-! Evaluations (R348, R349) -/

/-- A work item (Table 14-6). -/
def flickItem (no cls : Nat) (ks : List Nat) : List Nat :=
  leBytes 8 no ++ [cls, ks.length] ++ List.replicate 6 0 ++ (ks ++ List.replicate (32 - ks.length) 0).flatMap (leBytes 2)

/-- Push an item to a model; one that drains with its partition takes no new item, and refuses the commands among its components' with BAD_STATE
(R144, R170). -/
def Units.pushEval (u : Units) (slot no cls : Nat) (ks : List Nat) : Units :=
  if (u.slot slot).state = 6 then
    let cmds := u.flick.evals.filter fun e => ks.contains e.1
    cmds.foldl (fun u e => u.done e.2 0x0D0 0x0A02 St.BAD_STATE) (u.upF fun x => { x with evals := x.evals.filter fun e => !(cmds.contains e) })
  else
  (u.upSlot slot fun s => { s with work := s.work ++ [flickItem no cls ks] }).upF fun x =>
    { x with items := x.items ++ [{ no := no, slot := slot, comps := ks }] }

/-- Runs of up to 32 components of one class. -/
def evalRuns (l : List (Nat × Nat)) : List (Nat × List Nat) :=
  (l.foldl (fun acc p => match acc with
    | (c, ks) :: r => if c = p.2 && ks.length < 32 then (c, ks ++ [p.1]) :: r else (p.2, [p.1]) :: acc
    | [] => [(p.2, [p.1])]) []).reverse

/-- The old model is unloaded once it has completed every item it was given (R347). -/
def Units.oldModel (u : Units) : Units :=
  let done := u.flick.old.filter fun o => !(u.flick.items.any fun i => i.slot = o.slot)
  done.foldl (fun u o => u.later (.gridUnload o.slot)) (u.upF fun x => { x with old := x.old.filter fun o => !(done.contains o) })

/-- FLICKER_SWEEP (R347, R348): a model that runs takes over; every full component of a served class is evaluated, pending triggers are
merged into the sweep. -/
def flickerSweep (u : Units) : Units :=
  if !u.flick.enable then u
  else
    let u := match u.flick.next with
      | some x =>
        if (u.slot x.slot).state = 3 then (u.upF fun f => { f with old := f.old ++ f.model.toList, model := some x, next := none }).oldModel else u
      | none => u
    match u.flick.model with
    | none => u
    | some x =>
      let no := wrapW 63 (u.flick.sweep + 1)
      let late := (u.flick.comps.filter fun e => e.2.pending).length
      let u := u.upF fun f => { f with sweep := no, comps := NMap.mapV f.comps fun _ c => { c with pending := false } }
      let u := if late = 0 then u else u.count 0xD00118 late
      let full := (u.flick.comps.filter fun e => 2 ≤ e.2.state && bitAt x.mask e.2.cls).map fun e => (e.1, e.2.cls)
      (evalRuns full).foldl (fun u r => u.pushEval x.slot no r.1 r.2) u

/-- FLICKER_TRIGGERED_EVAL (R348): at most one per component in 100 ms, with a feature record from the open bucket. -/
def flickerTriggeredEval (comp : Nat) (m : Mem) (u : Units) : Mem × Units :=
  let c := u.comp comp
  let soon := match c.trigAt with | some t => decide (u.clk.mono < t + 100000000) | none => false
  match u.flick.model with
  | none => (m, u)
  | some x =>
    if !u.flick.enable || !c.pending || soon || c.state < 2 then (m, u)
    else if u.flick.items.any fun i => i.no < 2 ^ 63 && i.comps.contains comp then
      -- merged with the sweep's evaluation of the component (Table 14-13)
      (m, u.upComp comp fun c => { c with pending := false })
    else
      let u := u.upComp comp fun c => { c with pending := false, trigAt := some u.clk.mono }
      let m := putFeatures m u comp (wrapW 32 (u.clk.mono / 10 ^ 10)) (c.cur :: c.ring)
      let u := u.cureAt u.flick.region (0xC00000 + 288 * comp) 288
      (m, u.pushEval x.slot (2 ^ 63 + u.flick.sweep) c.cls [comp])

/-- Count an evaluation in FLICKER_EVALS and FLICKER_RATE. -/
def Units.evalCount (u : Units) (trig : Bool) : Units :=
  let s := u.clk.mono / 10 ^ 9
  let f := u.flick
  let now := if f.rateSec = s then f.rateNow else (0, 0)
  let last := if f.rateSec = s then f.rate else if f.rateSec + 1 = s then f.rateNow else (0, 0)
  (u.upF fun x => { x with rateSec := s, rate := last, rateNow := if trig then (now.1, now.2 + 1) else (now.1 + 1, now.2) }).count 0xD00110

/-- A score of one component (R349, R350): risks saturate at 0xFFFE; the flag is raised or cleared by the class's levels. -/
def Units.score (u : Units) (k r1 r24 conf expert : Nat) : Units :=
  if (u.comp k).state < 2 then u
  else
    let u := u.upComp k fun c =>
      { c with state := 2, risk1 := min r1 0xFFFE, risk24 := min r24 0xFFFE, conf := conf, expert := expert, lastEval := u.now }
    let c := u.comp k
    let th := u.flickThresh c.cls
    if bits th 15 0 ≤ c.risk1 && !c.flag then
      let u := (u.upComp k fun c =>
        { c with flag := true, raisedAt := u.clk.mono, hit := false, acted := [], prestage := none, granted := false, mirror := 0 }).count 0xD00128
      if u.flick.enable then u.raise Ev.FLICKER_RISK_HIGH c.level 0x0D0 (c.payload k) [] (u.compTarget k c)
      else u.occur (llIndex 0x0D0) (u.record Ev.FLICKER_RISK_HIGH c.level 0x0D0 (c.payload k) false false) []
    else if c.risk1 < bits th 31 16 && c.flag then
      let u := u.upComp k fun c =>
        { c with flag := false, drain := false, raises := { at_ := c.raisedAt, cleared := u.clk.mono, charged := c.hit } :: c.raises }
      u.mirrorNow.raise Ev.FLICKER_RISK_CLEARED c.level 0x0D0 (c.payload k)
    else u

/-- Answer the FLICKER_EVAL commands that wait for a component. -/
def Units.evalAnswers (u : Units) (k : Nat) : Units :=
  let c := u.comp k
  let mine := u.flick.evals.filter fun e => e.1 = k
  let u := u.upF fun x => { x with evals := x.evals.filter fun e => e.1 ≠ k }
  mine.foldl (fun u e => u.done e.2 0x0D0 0x0A02 St.OK (c.risk1 + 2 ^ 16 * c.risk24 + 2 ^ 32 * c.conf)) u

/-- FLICKER_COMPLETION (R349, Table 14-7, R144). What comes for an item that was cancelled comes under the old tag and is dropped. `entries` are component, both risks, confidence and expert. -/
def flickerCompletion (sweep kind : Nat) (entries : List (Nat × Nat × Nat × Nat × Nat)) (u : Units) : Units :=
  let bad := fun (u : Units) => u.flickEvent Ev.FLICKER_MODEL_OUTPUT_BAD
  let mine := u.flick.items.filter fun i => i.no = sweep
  let pick := match mine.find? fun i => entries.any fun e => i.comps.contains e.1 with | some i => some i | none => mine.head?
  match pick with
  | none => match u.flick.lapsed.find? fun i => i.no = sweep with
    | some i => u.upF fun x => { x with lapsed := x.lapsed.erase i }
    | none => bad u
  | some i =>
    let u := (u.upF fun x => { x with items := x.items.erase i }).upSlot i.slot fun s => { s with done := s.done.drop 1 }
    let u := if kind ≠ 0 then bad u
      else entries.foldl (fun u e =>
        if i.comps.contains e.1 then
          ((u.score e.1 e.2.1 e.2.2.1 e.2.2.2.1 e.2.2.2.2).evalCount (2 ^ 63 ≤ sweep)).evalAnswers e.1
        else bad u) u
    u.oldModel

/-- FLICKER_STALE_EXPIRY (R343): no evaluation within 3 sweeps. -/
def flickerStaleExpiry (comp : Nat) (u : Units) : Units :=
  if (u.comp comp).state = 2 then u.upComp comp fun c => { c with state := 3, sample := none } else u

/-- FLICKER_EVAL (0x0A02). -/
def flickerEval (c : Sys2Proof.Cmd) (comp : Nat) (u : Units) : Units :=
  u.operator c 0x0D0 0x0A02 fun u =>
    let x := u.comp comp
    let served := match u.flick.model with | some m => bitAt m.mask x.cls | none => false
    if !(NMap.has u.flick.comps comp) then u.done c 0x0D0 0x0A02 St.BAD_PARAM
    else if x.state < 2 || !u.flick.enable || !served then u.done c 0x0D0 0x0A02 St.BAD_STATE
    else (u.trigger comp).upF fun f => { f with evals := f.evals ++ [(comp, c)] }

/-- FLICKER_RESET_HISTORY (0x0A03, R344): one component, or all; a drain by DRAIN_STREAMS ends (R354). -/
def flickerResetHistory (c : Sys2Proof.Cmd) (comp : Nat) (u : Units) : Units :=
  u.operator c 0x0D0 0x0A03 fun u =>
    let ks := if comp = 0xFFFF then NMap.keys u.flick.comps else [comp]
    if comp ≠ 0xFFFF && !(NMap.has u.flick.comps comp) then u.done c 0x0D0 0x0A03 St.BAD_PARAM
    else
      let u := ks.foldl (fun u k => (u.clearHistory k).upComp k fun c => { c with drain := false }) u
      u.mirrorNow.done c 0x0D0 0x0A03 St.OK

/-- FLICKER_ENABLE_CLEAR (R356, R144): evaluation and actions drain. -/
def flickerEnableClear (w : Sys2Proof.Who) (u : Units) : Units :=
  if !(isOperator w.priv) || !u.flick.enable then u
  else
    let d : Drain := { unit := 0x0D, items := u.flick.items.length, enableHeld := false }
    { u.upF (fun x => { x with enable := false, draining := true }) with drains := u.drains ++ [d] }

/-- Flicker's drain ends (R144): what is left is cancelled. -/
def Units.flickDrained (u : Units) (again : Bool) : Units :=
  (u.cancelEvals true fun _ => true).upF fun x => { x with draining := false, enable := again || x.enable }

/-- FLICKER_EXTRACT_CLEAR (R356): sampling stops. -/
def flickerExtractClear (w : Sys2Proof.Who) (u : Units) : Units :=
  if isOperator w.priv then u.upF fun x => { x with extract := false } else u

/-! Actions (R351-R354) -/

/-- Record FLICKER_ACTION; one executed is counted. -/
def Units.flickAction (u : Units) (k action status : Nat) : Units :=
  let u := u.flickEvent Ev.FLICKER_ACTION [k, action, status]
  if status = St.OK then u.count 0xD00130 else u

/-- A position is fenced or in recovery (R360). -/
def Units.posBusy (u : Units) (p : Nat) : Bool :=
  u.fenced p || (u.vp p).state = 3 || (u.jobsOn p 0xFF).any fun j => NMap.has u.rcv.mem j

/-- RAISE_MIRROR_PRIORITY for some jobs (R353). -/
def Units.mirrorUp (u : Units) (js : List Nat) (a : Nat) : Units :=
  if bitAt a 0 then js.foldl (fun u j => u.wantSnap j) u else u

/-- Actions 0x0003-0x0005 (R351): for a component, with the bar of Parameter B, once per raise; for another trigger's target, as it stands. -/
def Units.flickerAct (u : Units) (e : SoEntry) (t : Target) : Units :=
  if t.comp = 0xFFFF then
    if e.action = 4 then u.mirrorUp (if t.port = 0xFF then NMap.keys u.wick.jobs else u.jobsOn t.port 0xFF) e.a
    else if t.port = 0xFF then u
    else if u.posBusy t.port then u
    else if e.action = 3 then u.askSpare t.cid t.job 3 e.a
    else u.upF fun x => { x with drained := t.port :: x.drained }
  else
    let k := t.comp
    let c := u.comp k
    let st := fun (u : Units) s => u.flickAction k e.action s
    if !u.flick.enable || c.acted.contains e.action then u
    else if e.action ≠ 4 && c.port = 0xFF then st u St.BAD_PARAM
    else if c.state ≠ 2 || c.risk1 < bits e.b 15 0 || c.conf < bits e.b 23 16 || (e.action ≠ 4 && u.posBusy c.port) then st u St.BAD_STATE
    else
      let u := u.upComp k fun c => { c with acted := e.action :: c.acted }
      if e.action = 3 then
        let hold := if e.a % 65536 = 0 then 60 else e.a % 65536
        (u.upComp k fun c => { c with prestage := some hold }).askSpare (u.cidOf c.port) t.job 3 hold
      else if e.action = 4 then st ((u.upComp k fun c => { c with mirror := e.a }).mirrorUp (u.compJobs c) e.a).mirrorNow St.OK
      else st (u.upComp k fun c => { c with drain := true }) St.OK

/-- Answer of the keeper to a prestage (R352). -/
def Units.prestaged (u : Units) (pos status : Nat) : Units :=
  let mine := u.flick.comps.filter fun e => e.2.prestage.isSome && u.cidOf e.2.port = pos
  -- a prestage that an order of another trigger asked for
  if mine.isEmpty && status ≠ St.OK then u.flickEvent Ev.FLICKER_PRESTAGE_NONE
  else mine.foldl (fun u e =>
    if status = St.OK then
      if e.2.granted then u else (u.upComp e.1 fun c => { c with granted := true }).flickAction e.1 3 St.OK
    else (u.upComp e.1 fun c => { c with prestage := none, granted := false }).flickEvent Ev.FLICKER_PRESTAGE_NONE) u

/-- FLICKER_PRESTAGE_RENEW (R352): at half the hold, while the flag stays raised. -/
def flickerPrestageRenew (comp : Nat) (u : Units) : Units :=
  let c := u.comp comp
  match c.prestage with
  | some hold => if c.flag && c.granted && u.flick.enable then u.askSpare (u.cidOf c.port) (u.compTarget comp c).job 3 hold else u
  | none => u

/-- Contexts of a port are draining for Flicker (R354). -/
def Flicker.drains (f : Flicker) (p : Nat) : Bool := f.drained.contains p || f.comps.any fun e => e.2.drain && e.2.port = p

/-! Outcomes and calibration (R357, R358) -/

/-- Components charged with a failure (Table 14-10). -/
def Comp.charged (c : Comp) (kind idx : Nat) : Bool :=
  if kind = 0 then (c.cls ≤ 5 || c.cls = 8) && c.port = idx
  else if kind = 1 then (if idx < 16 then (c.cls = 8 || c.cls = 3) && c.port = idx else c.cls = 9 && 16 + c.idx = idx)
  else if kind = 2 then c.cls = 10 && c.idx = idx
  else c.cls = 0 && c.port = idx

/-- A failure is recorded (R357): a hit or a miss; a position declared failed drains no more (R354). -/
def Units.outcome14 (u : Units) (kind idx : Nat) : Units :=
  let mine := u.flick.comps.filter fun e => e.2.charged kind idx
  let hour := 3600 * 10 ^ 9
  let ups := mine.flatMap fun e =>
    (if e.2.flag then [e.2.raisedAt] else []) ++ (e.2.raises.filter fun r => u.clk.mono ≤ r.cleared + hour).map (·.at_)
  let u := mine.foldl (fun u e => u.upComp e.1 fun c =>
    { c with hit := true, drain := c.drain && kind ≠ 0, sample := c.sample.map fun s => (s.1, true),
             raises := c.raises.map fun r => if u.clk.mono ≤ r.cleared + hour then { r with charged := true } else r }) u
  let u := if kind = 0 then u.upF fun x => { x with drained := x.drained.filter (· ≠ idx) } else u
  match ups with
  | [] => (u.flickEvent Ev.FLICKER_OUTCOME [kind, idx, 0, 0]).count 0xD00140
  | x :: r => (u.flickEvent Ev.FLICKER_OUTCOME [kind, idx, 1, u.clk.mono - r.foldl min x]).count 0xD00138

/-- A fault report (R348, Table 14-10): severity 0 or 1 triggers an evaluation, 2 or 3 is a failure of class 0. -/
def Units.flickFault (u : Units) (port severity : Nat) : Units :=
  if severity ≤ 1 then
    match u.flick.comps.find? fun e => e.2.cls = 0 && e.2.port = port with
    | some e => (u.upComp e.1 fun c => { c with faults := c.faults + 1 }).trigger e.1
    | none => u
  else u.outcome14 3 port

/-- A lane isolation or LINK_DEGRADED on a port triggers its component (R348). -/
def Units.flickPort (u : Units) (p : Nat) : Units :=
  match u.compKey (if p < 16 then 8 else 9) (if p < 16 then p else p - 16) (if p < 16 then p else 0xFF) with
  | some k => u.trigger k
  | none => u

/-- The accelerator on a port may have been exchanged (R344). -/
def Units.flickBrought (u : Units) (p : Nat) : Units :=
  ((u.flick.comps.filter fun e => e.2.port = p).foldl (fun u e => u.clearHistory e.1) u).mirrorNow

/-- FLICKER_CALIBRATION_HOUR (R358): samples of the hour complete, and every SCORED component stores one. -/
def flickerCalibrationHour (u : Units) : Units :=
  u.flick.comps.foldl (fun u e =>
    let c := e.2
    if c.state ≠ 2 then u
    else
      let u := match c.sample with
        | some (b, hit) => u.upF fun x =>
          let q := NMap.getD x.qual (16 * c.cls + b) (0, 0)
          { x with qual := NMap.set x.qual (16 * c.cls + b) (satW 32 (q.1 + 1), satW 32 (q.2 + b2n hit)) }
        | none => u
      u.upComp e.1 fun c => { c with sample := some (16 * c.risk1 / 65536, false) }) u

/-- FLICKER_FALSE_ALARM_HOUR (R357): an hour after a raise of the component cleared. -/
def flickerFalseAlarmHour (comp : Nat) (u : Units) : Units :=
  match (u.comp comp).raises.reverse with
  | [] => u
  | r :: rest =>
    let u := u.upComp comp fun c => { c with raises := rest.reverse }
    if r.charged then u else u.count 0xD00148

end Sys2Proof.Machine
end

