-- ==== Sys2Proof/Machine/TaperOps.lean ====
section
/-!
DEFINITION. How a taper executes (09): encodings, register files, legality (R213, R222-R224), faults and handlers (R234-R236), issue and
resume.
-/
namespace Sys2Proof.Machine

/-! Instruction words (Tables 9-4, 9-5) -/

/-- A Format R word. -/
def encR (cls op : Nat) (f : RFmt) : Nat :=
  cls % 16 + (op % 256) * 2 ^ 4 + (f.d % 32) * 2 ^ 12 + (f.a % 32) * 2 ^ 17 + (f.b % 32) * 2 ^ 22 + (f.c % 32) * 2 ^ 27 + (f.rm % 8) * 2 ^ 32
    + b2n f.pe * 2 ^ 35 + (f.p % 8) * 2 ^ 36 + b2n f.pn * 2 ^ 39 + (f.fmt % 32) * 2 ^ 40 + (f.satm % 4) * 2 ^ 45 + (f.fmt2 % 32) * 2 ^ 47
    + (f.site % 256) * 2 ^ 52 + (f.rsv % 16) * 2 ^ 60

/-- A Format I word. -/
def encI (cls op : Nat) (f : IFmt) : Nat :=
  cls % 16 + (op % 256) * 2 ^ 4 + (f.d % 32) * 2 ^ 12 + (f.a % 32) * 2 ^ 17 + (f.b % 32) * 2 ^ 22 + (f.rsv % 32) * 2 ^ 27 + (f.imm % 2 ^ 32) * 2 ^ 32

/-- The fields of a Format R word. -/
def decR (w : Nat) : RFmt :=
  { d := bits w 16 12, a := bits w 21 17, b := bits w 26 22, c := bits w 31 27, rm := bits w 34 32, pe := bitAt w 35, p := bits w 38 36,
    pn := bitAt w 39, fmt := bits w 44 40, satm := bits w 46 45, fmt2 := bits w 51 47, site := bits w 59 52, rsv := bits w 63 60 }

/-- The fields of a Format I word. -/
def decI (w : Nat) : IFmt := { d := bits w 16 12, a := bits w 21 17, b := bits w 26 22, rsv := bits w 31 27, imm := bits w 63 32 }

/-- CLASS and OP of a word that the encoding tables list (Tables 9-6, 9-8 to 9-19b). -/
def listedOp (w : Nat) : Bool :=
  let c := bits w 3 0
  let o := bits w 11 4
  if c = 0 then o ≤ 4
  else if c = 1 then o ≤ 0x10 || (0x20 ≤ o && o ≤ 0x28)
  else if c = 2 then o ≤ 0x14
  else if c = 3 then o ≤ 6 || (8 ≤ o && o ≤ 0xB) || (0x10 ≤ o && o ≤ 0x19)
  else if c = 4 then o ≤ 0x16 || (0x20 ≤ o && o ≤ 0x2D) || (0x30 ≤ o && o ≤ 0x35) || (0x38 ≤ o && o ≤ 0x3E)
  else if c = 5 then o ≤ 5
  else if c = 6 then o ≤ 4
  else if c = 7 then o ≤ 7
  else if c = 8 then o ≤ 3 || (8 ≤ o && o ≤ 0xA)
  else if c = 9 then o ≤ 3
  else if c = 10 then o ≤ 4
  else if c = 11 then o ≤ 1
  else false

/-- IMM as a signed value. -/
def immVal (f : IFmt) : Int := toSigned 32 f.imm

/-! Register files (Table 9-1) -/

/-- General register: g0 reads 0. -/
def Taper.gr (t : Taper) (n : Nat) : Nat := if n = 0 then 0 else (NMap.getD t.g n 0#64).toNat
/-- Write a general register; a write of g0 is discarded. -/
def Taper.setG (t : Taper) (n x : Nat) : Taper := if n = 0 then t else { t with g := NMap.put t.g 0#64 n (BitVec.ofNat 64 x) }
def Taper.vr (t : Taper) (n : Nat) : Nat := (NMap.getD t.v n 0#512).toNat
def Taper.setV (t : Taper) (n x : Nat) : Taper := { t with v := NMap.put t.v 0#512 n (BitVec.ofNat 512 x) }
def Taper.tr (t : Taper) (n : Nat) : Nat := (NMap.getD t.t n 0#512).toNat
def Taper.setT (t : Taper) (n x : Nat) : Taper := { t with t := NMap.put t.t 0#512 n (BitVec.ofNat 512 x) }
def Taper.pr (t : Taper) (n : Nat) : Nat := (NMap.getD t.p n 0#64).toNat
def Taper.setP (t : Taper) (n x : Nat) : Taper := { t with p := NMap.put t.p 0#64 n (BitVec.ofNat 64 x) }
def Taper.ar (t : Taper) (n : Nat) : LAcc := NMap.getD t.a n LAcc.zero
def Taper.setA (t : Taper) (n : Nat) (x : LAcc) : Taper := { t with a := NMap.put t.a LAcc.zero n x }

/-- Raise ARITH_STATUS flags (R182). -/
def Taper.raise (t : Taper) (fl : Nat) : Taper := { t with status := t.status ||| fl }

/-- Lane k of width w (R175). -/
def lane (w x k : Nat) : Nat := bits x (w * (k + 1) - 1) (w * k)
/-- The lanes of a vector register. -/
def lanes (w x : Nat) : List Nat := (List.range (512 / w)).map (lane w x)
/-- A register from its lanes. -/
def ofLanes (w : Nat) : List Nat → Nat
  | [] => 0
  | a :: r => a % 2 ^ w + 2 ^ w * ofLanes w r

/-! Legality (R213, R222-R224) -/

/-- What a register or immediate field may hold. -/
inductive Fld where
  /-- not used: 0 -/
  | none
  /-- any register of a file of 32 -/
  | any
  /-- a register of a file of `n` (R213) -/
  | file (n : Nat)
  /-- a pair within a file of 32; its first member even where the tables say so -/
  | pair (even : Bool)
  /-- an immediate up to `n` -/
  | imm (n : Nat)
  deriving DecidableEq, Repr

/-- Fault detail of a field, if it is not legal (R235: 0 reserved encoding, 2 register). -/
def Fld.bad (k : Fld) (x : Nat) : Option Nat :=
  match k with
  | .none => if x = 0 then Option.none else some 0
  | .any => Option.none
  | .file n => if x < n then Option.none else some 2
  | .pair even => if x = 31 || (even && x % 2 = 1) then some 2 else Option.none
  | .imm n => if x ≤ n then Option.none else some 0

/-- How an operation uses the fields of Format R: registers; `rm` 0 not used, 1 rounds, 2 rounds and takes SR (R223), 3 uses SITE alone;
predication; formats (none: FMT must be 0); saturation. -/
structure RUse where
  d : Fld := .none
  a : Fld := .none
  b : Fld := .none
  c : Fld := .none
  rm : Nat := 0
  pe : Bool := false
  p : Fld := .none
  fmts : List Nat := []
  fmt2s : List Nat := []
  satm : Bool := false

/-- The rounding mode in force (R177). -/
def Taper.mode (t : Taper) (f : RFmt) : Nat := if f.rm = 6 then t.rmode else f.rm

/-- SR is in force. -/
def Taper.sr (t : Taper) (f : RFmt) (rm : Nat) : Bool := rm = 2 && t.mode f = 5

/-- The least fault detail among those found. -/
def leastDetail (l : List (Option Nat)) : Option Nat :=
  l.foldl (fun o x => match o, x with
    | some a, some b => some (min a b)
    | some a, none => some a
    | none, x => x) none

/-- Fault detail of an illegal Format R instruction; none when it is legal. -/
def Taper.illegalR (t : Taper) (f : RFmt) (k : RUse) : Option Nat :=
  let res := f.rsv ≠ 0 || (k.rm = 0 && f.rm ≠ 0) || (k.rm = 3 && f.rm ≠ 0) || (!k.pe && f.pe) || (!f.pe && f.pn) || (!k.satm && f.satm ≠ 0)
    || (k.fmts.isEmpty && f.fmt ≠ 0) || (k.fmt2s.isEmpty && f.fmt2 ≠ 0)
  let fm := (!k.fmts.isEmpty && !k.fmts.contains f.fmt) || (!k.fmt2s.isEmpty && !k.fmt2s.contains f.fmt2)
  let rnd := ((k.rm = 1 || k.rm = 2) && f.rm = 7) || (k.rm = 1 && t.mode f = 5) || (f.site ≠ 0 && k.rm ≠ 3 && !(t.sr f k.rm)) || (k.satm && f.satm = 3)
  leastDetail [if res then some 0 else none, if fm then some 1 else none, k.d.bad f.d, k.a.bad f.a, k.b.bad f.b, k.c.bad f.c,
    if f.pe then none else k.p.bad f.p, if rnd then some 3 else none]

/-- Fault detail of an illegal Format I instruction. -/
def illegalI (f : IFmt) (d a b : Fld) : Option Nat := leastDetail [if f.rsv ≠ 0 then some 0 else none, d.bad f.d, a.bad f.a, b.bad f.b]

/-- The arithmetic context of an instruction (R177-R181, R208). -/
def Taper.actx (t : Taper) (f : RFmt) (word : Nat) : ACtx :=
  { rm := t.mode f, ftz := t.ftz && !t.refMode, daz := t.daz && !t.refMode, nanProp := t.nanProp && !t.refMode,
    sat := f.satm = 1 || (f.satm = 0 && t.sat), srBits := if t.refMode then 16 else t.srBits, word := word }

/-- The word SR draws for element `e` (R198); 0 where the mode is not SR. -/
def Taper.srDraw (t : Taper) (f : RFmt) (e : Nat) : Nat := if t.mode f = 5 then srWord t.rngKey t.rngBase f.site e else 0

/-- Lane k is active (R224). -/
def Taper.active (t : Taper) (f : RFmt) (k : Nat) : Bool := !f.pe || (bitAt (t.pr f.p) k != f.pn)

/-! Local memory (R157, R225) -/

/-- A load may read `n` bytes at `a`: the code, data, receive queue, parameter and control areas, never the system queue. -/
def loadArea (a n : Nat) : Bool := a + n ≤ 0x58000 || (0x5C000 ≤ a && a + n ≤ 0x60000)

/-- A store may write `n` bytes at `a`: the data and parameter areas and the stream descriptors. -/
def storeArea (a n : Nat) : Bool :=
  (0x10000 ≤ a && a + n ≤ 0x50000) || (0x5C000 ≤ a && a + n ≤ 0x5F100)

/-- The data area. -/
def dataArea (a n : Nat) : Bool := 0x10000 ≤ a && a + n ≤ 0x50000

/-! Outcomes of one instruction -/

/-- What an instruction comes to: it retires (with a jump target, if any); it waits (R220); it does not issue yet (R219); or it
faults with a cause, a detail, a stream channel and an address (R234, R235). -/
inductive TOut where
  | next (t : Taper) (jump : Option Nat)
  | wait (k : TWait)
  | hold
  | trap (cause detail chan addr : Nat)

/-- An illegal instruction. -/
def TOut.illegal (d : Nat) : TOut := .trap 1 d 0xFF 0
/-- A memory fault at an address. -/
def TOut.memory (d a : Nat) : TOut := .trap 2 d 0xFF a
/-- Retire with the taper `t`. -/
def TOut.ok (t : Taper) : TOut := .next t none

/-- Taper `l` may issue: its program runs or drains, it is not stopped, its activity may use the grid (R139, R142), and the gate of its group is open or may
open now (R529). -/
def Units.mayIssue (u : Units) (l : Nat) : Option Nat :=
  match (u.lt l).slot with
  | none => none
  | some n =>
    if ((u.slot n).state = 3 || (u.slot n).state = 6) && !(u.taper l).stopped && u.gate (u.slot n).activity 3 && u.stepFree l then some n else none

/-- Beats pass on a taper and its program, and are charged to its activity (R136, R142): at least one per instruction; how many more is open (Table 9-3 gives
upper bounds). -/
def Units.beat (u : Units) (l n : Nat) : Units :=
  let k := 1 + Config.moreBeats u.free
  (((u.draw.spend (u.slot n).activity 3 k).upTaper l fun t => { t with beats := wrapW 64 (t.beats + k) }).upSlot n fun s => { s with beats := wrapW 64 (s.beats + k) })

/-- One instruction of taper `l` retires. -/
def Units.retire (u : Units) (l n : Nat) (t : Taper) (jump : Option Nat) : Units :=
  ((u.setTaper l { t with pc := jump.getD (t.pc + 8), retired := wrapW 64 (t.retired + 1), wait := none }).upSlot n
    fun s => { s with retired := wrapW 64 (s.retired + 1) }).beat l n

/-- The fault record of Table 9-20. -/
def faultBytes (t : Taper) (word cause detail chan addr faults : Nat) : List Nat :=
  leBytes 8 t.pc ++ leBytes 8 word ++ [cause, detail, chan, 0] ++ leBytes 4 faults ++ leBytes 8 addr ++ leBytes 8 t.beats ++ leBytes 8 t.retired
    ++ List.replicate 16 0

/-- Taper `l` takes a fault (R216, R235, R236): the record is written; an armed handler whose mask names a handleable cause gets it, and
otherwise the taper stops and its program enters FAULTED (R166). -/
def Units.takeFault (u : Units) (l n word cause detail chan addr : Nat) : Units :=
  let t := u.taper l
  let faults := satW 32 (t.faults + 1)
  let t' := { t with mem := t.mem.writeAll 0x5F140 (faultBytes t word cause detail chan addr faults), faults := faults, wait := none }
  let u := u.slotRecord n 1 [cause, detail]
  let canHandle := (cause = 1 || (cause = 2 && detail ≠ 3) || cause = 3 || cause = 5) && bitAt t.faultMask cause && t.armed
    && t.handler % 8 = 0 && t.handler < 0x10000 && t.handler ≠ 0
  if canHandle then
    (u.setTaper l { t' with faultReturn := if cause = 5 then t.pc + 8 else t.pc, armed := false, pc := t.handler }).beat l n
  else
    let u := (u.setTaper l { t' with stopped := true }).beat l n
    let idx := (u.slot n).place.findIdx fun x => x = l
    let u := u.raise Ev.GRID_TAPER_FAULT 2 (gridSrc l) (Config.eventPayload Ev.GRID_TAPER_FAULT [n, idx, cause]) (ll := some (64 + n))
    u.slotFault n idx cause detail

/-- The word at the program counter. -/
def Taper.word (t : Taper) : Nat := leNat (Memory.readAll t.mem t.pc 8)

/-- What an outcome does. -/
def Units.outcome (u : Units) (l n word : Nat) : TOut → Units
  | .next t j => u.retire l n t j
  | .wait k => u.upTaper l fun t => { t with wait := some k }
  | .hold => u
  | .trap cause detail chan addr => u.takeFault l n word cause detail chan addr

/-- Taper `l` issues the instruction `word` (R216, R221): its program counter must lie in the code area and hold that word. A word that no
table lists faults, whatever instruction was expected (R222); another listed word is not this instruction, and nothing happens. -/
def Units.issueU (u : Units) (l word : Nat) (run : Units → Taper → Units × TOut) : Units :=
  match u.mayIssue l with
  | none => u
  | some n =>
    let u := u.openStep l
    let t := u.taper l
    if t.wait.isSome then u
    else if t.pc % 8 ≠ 0 || 0x10000 ≤ t.pc then u.takeFault l n 0 2 1 0xFF t.pc
    else if t.badAt t.pc 8 then (u.eccDouble l t.pc).takeFault l n 0 2 3 0xFF t.pc
    else if t.word ≠ word then (if listedOp t.word then u else u.takeFault l n t.word 1 0 0xFF 0)
    else
      let r := run u t
      r.1.outcome l n word r.2

/-- As `issueU`, for an instruction that touches only its taper. -/
def Units.issue (u : Units) (l word : Nat) (run : Taper → TOut) : Units := u.issueU l word fun u t => (u, run t)

/-- A waiting instruction of taper `l` is looked at again (R220); `run` gets the waiting word. -/
def Units.resume (u : Units) (l : Nat) (k : TWait) (run : Nat → Units → Taper → Units × TOut) : Units :=
  match u.mayIssue l with
  | none => u
  | some n =>
    let u := u.openStep l
    let t := u.taper l
    if t.wait ≠ some k then u
    else
      let r := run t.word u t
      r.1.outcome l n t.word r.2

/-- A legal Format R instruction runs `go`. -/
def Taper.legalR (t : Taper) (f : RFmt) (k : RUse) (go : TOut) : TOut :=
  match t.illegalR f k with
  | some d => .illegal d
  | none => go

/-- A legal Format I instruction runs `go`. -/
def legalI (f : IFmt) (d a b : Fld) (go : TOut) : TOut :=
  match illegalI f d a b with
  | some x => .illegal x
  | none => go

/-- Under ARITH_CTL.REF an instruction outside the contract faults (R208). -/
def Taper.contract (t : Taper) (detail : Nat) (go : TOut) : TOut := if t.refMode then .trap 4 detail 0xFF 0 else go

/-- Apply what the read of `n` bytes of local memory at `a` finds (R157) to an outcome: a corrected error is counted, a double-bit error is a memory fault. -/
def Units.eccLoad (u : Units) (l ecc a n : Nat) (o : TOut) : Units × TOut :=
  match o with
  | .next t j =>
    let e := (u.taper l).eccAt ecc a n
    if e = 1 then (u.eccFixed l, .next t j)
    else if e = 2 then (u.eccDouble l a, .memory 3 a)
    else (u, .next t j)
  | o => (u, o)

end Sys2Proof.Machine
end

