-- ==== Sys2Proof/Machine/TaperInt.lean ====
section
/-!
DEFINITION. Taper instructions: system, scalar integer, scalar memory and branch, vector, tile and predicate memory (09, Tables 9-8 to
9-10 and 9-14).
-/
namespace Sys2Proof.Machine

/-! System (CLASS 0x0) -/

/-- Some busy channel passes its bytes through the fingerprint unit (R219). -/
def Taper.fpBusy (t : Taper) : Bool := t.chan.any fun c => c.2.state = 1 && c.2.fp

/-- The value of a special register, if it is listed (Table 9-2). -/
def Taper.readSr (t : Taper) (n : Nat) : Option Nat :=
  if n = 0x000 then
    let r := t.refMode
    some (t.rmode + 8 * b2n (t.ftz && !r) + 16 * b2n (t.daz && !r) + 32 * b2n (t.nanProp && !r) + 64 * b2n t.sat
      + 256 * (if r then 16 else t.srBits) + 65536 * b2n r)
  else if n = 0x001 then some t.status
  else if n = 0x010 then some t.rngKey
  else if n = 0x011 then some (t.rngBase % 2 ^ 64)
  else if n = 0x012 then some (t.rngBase / 2 ^ 64)
  else if n = 0x020 then some t.fingAcc
  else if n = 0x021 then some t.fingR
  else if n = 0x022 then some t.fingPos
  else if n = 0x023 then some t.fingWidth
  else if n = 0x030 then some t.handler
  else if n = 0x031 then some t.faultMask
  else if n = 0x032 then some t.faultReturn
  else if n = 0x040 then some t.beats
  else if n = 0x041 then some t.retired
  else none

/-- A write of ARITH_CTL (Table 8-4, R177, R208, R215). -/
def Taper.writeCtl (t : Taper) (x : Nat) : Taper :=
  let ref := t.refMode || bitAt x 16
  { t with
    rmode := if bits x 2 0 ≤ 5 then bits x 2 0 else t.rmode
    ftz := if ref then t.ftz else bitAt x 3
    daz := if ref then t.daz else bitAt x 4
    nanProp := if ref then t.nanProp else bitAt x 5
    sat := bitAt x 6
    srBits := if !ref && 8 ≤ bits x 13 8 && bits x 13 8 ≤ 32 then bits x 13 8 else t.srBits
    refMode := ref }

/-- A write of a special register; none where it is unlisted or read-only (R215). -/
def Taper.writeSr (t : Taper) (n x : Nat) : Option Taper :=
  if n = 0x000 then some (t.writeCtl x)
  else if n = 0x001 then some { t with status := andNot t.status (x % 128) }
  else if n = 0x010 then some { t with rngKey := x }
  else if n = 0x011 then some { t with rngBase := t.rngBase / 2 ^ 64 * 2 ^ 64 + x }
  else if n = 0x012 then some { t with rngBase := x * 2 ^ 64 + t.rngBase % 2 ^ 64 }
  else if n = 0x020 then some { t with fingAcc := x % fpP }
  else if n = 0x021 then some { t with fingR := x % fpP }
  else if n = 0x022 then some { t with fingPos := x }
  else if n = 0x023 then some (if x % 4 = 3 then t else { t with fingWidth := x % 4 })
  else if n = 0x030 then some { t with handler := x }
  else if n = 0x031 then some { t with faultMask := x % 2 ^ 32 }
  else if n = 0x032 then some { t with faultReturn := x }
  else none

/-- NOP. -/
def opNOP (l : Nat) (f : IFmt) (u : Units) : Units :=
  u.issue l (encI 0 0x00 f) fun t => legalI f .none .none .none (if f.imm ≠ 0 then .illegal 0 else .ok t)

/-- RDSR: accesses of FING_ACC and FING_POS wait for fingerprinting channels (R219). -/
def opRDSR (l : Nat) (f : IFmt) (u : Units) : Units :=
  u.issue l (encI 0 0x01 f) fun t => legalI f .any .none .none
    (if 4096 ≤ f.imm then .illegal 0
     else match t.readSr f.imm with
      | none => .illegal 4
      | some x => if (f.imm = 0x020 || f.imm = 0x022) && t.fpBusy then .hold else .ok (t.setG f.d x))

/-- WRSR: REF stays set once set (R215). -/
def opWRSR (l : Nat) (f : IFmt) (u : Units) : Units :=
  u.issue l (encI 0 0x02 f) fun t => legalI f .none .any .none
    (if 4096 ≤ f.imm then .illegal 0
     else match t.writeSr f.imm (t.gr f.a) with
      | none => .illegal 4
      | some t' => if (f.imm = 0x020 || f.imm = 0x022 || f.imm = 0x023) && t.fpBusy then .hold else .ok t')

/-- FRET (R236): illegal outside a handler. -/
def opFRET (l : Nat) (f : IFmt) (u : Units) : Units :=
  u.issue l (encI 0 0x03 f) fun t => legalI f .none .none .none
    (if f.imm ≠ 0 || t.armed then .illegal 0 else .next { t with armed := true } (some t.faultReturn))

/-- TRAP: a software fault with code IMM[7:0]. -/
def opTRAP (l : Nat) (f : IFmt) (u : Units) : Units :=
  u.issue l (encI 0 0x04 f) fun _ => legalI f .none .none .none (if f.imm < 256 then .trap 5 f.imm 0xFF 0 else .illegal 0)

/-! Scalar integer (CLASS 0x1, R182) -/

/-- A scalar integer operation on two registers. -/
def Units.scalarR (u : Units) (l op : Nat) (f : RFmt) (fn : Nat → Nat → Nat) : Units :=
  u.issue l (encR 1 op f) fun t => t.legalR f { d := .any, a := .any, b := .any } (.ok (t.setG f.d (fn (t.gr f.a) (t.gr f.b))))

/-- A division: a zero divisor raises DZ (R182). -/
def Units.scalarDiv (u : Units) (l op : Nat) (f : RFmt) (fn : Nat → Nat → Nat) : Units :=
  u.issue l (encR 1 op f) fun t => t.legalR f { d := .any, a := .any, b := .any }
    (.ok ((t.setG f.d (fn (t.gr f.a) (t.gr f.b))).raise (flIf (t.gr f.b = 0) flDZ)))

/-- A scalar integer operation with an immediate. -/
def Units.scalarI (u : Units) (l op : Nat) (f : IFmt) (fn : Nat → Nat) : Units :=
  u.issue l (encI 1 op f) fun t => legalI f .any .any .none (.ok (t.setG f.d (fn (t.gr f.a))))

/-- The signed value of a 64-bit register, and back. -/
def s64 (x : Nat) : Int := toSigned 64 x
def u64 (i : Int) : Nat := ofSigned 64 i

/-- Signed quotient toward zero: all ones by zero; the most negative value by -1 gives itself (R182). -/
def divS (x y : Nat) : Nat := if y = 0 then 2 ^ 64 - 1 else u64 (Int.tdiv (s64 x) (s64 y))
/-- Signed remainder: the dividend by zero. -/
def remS (x y : Nat) : Nat := if y = 0 then x else u64 (Int.tmod (s64 x) (s64 y))
def divU (x y : Nat) : Nat := if y = 0 then 2 ^ 64 - 1 else x / y
def remU (x y : Nat) : Nat := if y = 0 then x else x % y

/-- Arithmetic shift right. -/
def shiftRA (x n : Nat) : Nat := u64 (s64 x / ((2 ^ n : Nat) : Int))

/-- The immediate as a 64-bit pattern. -/
def imm64 (f : IFmt) : Nat := ofSigned 64 (immVal f)


/-- ADD. -/
def opADD (l : Nat) (f : RFmt) (u : Units) : Units := u.scalarR l 0x0 f fun x y => x + y

/-- SUB. -/
def opSUB (l : Nat) (f : RFmt) (u : Units) : Units := u.scalarR l 0x1 f fun x y => x + 2 ^ 64 - y

/-- MUL. -/
def opMUL (l : Nat) (f : RFmt) (u : Units) : Units := u.scalarR l 0x2 f fun x y => x * y

/-- MULHS. -/
def opMULHS (l : Nat) (f : RFmt) (u : Units) : Units := u.scalarR l 0x3 f fun x y => u64 (s64 x * s64 y / ((2 ^ 64 : Nat) : Int))

/-- MULHU. -/
def opMULHU (l : Nat) (f : RFmt) (u : Units) : Units := u.scalarR l 0x4 f fun x y => x * y / 2 ^ 64

/-- DIVS. -/
def opDIVS (l : Nat) (f : RFmt) (u : Units) : Units := u.scalarDiv l 0x5 f divS

/-- DIVU. -/
def opDIVU (l : Nat) (f : RFmt) (u : Units) : Units := u.scalarDiv l 0x6 f divU

/-- REMS. -/
def opREMS (l : Nat) (f : RFmt) (u : Units) : Units := u.scalarDiv l 0x7 f remS

/-- REMU. -/
def opREMU (l : Nat) (f : RFmt) (u : Units) : Units := u.scalarDiv l 0x8 f remU

/-- AND. -/
def opAND (l : Nat) (f : RFmt) (u : Units) : Units := u.scalarR l 0x9 f fun x y => x &&& y

/-- OR. -/
def opOR (l : Nat) (f : RFmt) (u : Units) : Units := u.scalarR l 0xa f fun x y => x ||| y

/-- XOR. -/
def opXOR (l : Nat) (f : RFmt) (u : Units) : Units := u.scalarR l 0xb f fun x y => x ^^^ y

/-- SHL. -/
def opSHL (l : Nat) (f : RFmt) (u : Units) : Units := u.scalarR l 0xc f fun x y => x * 2 ^ (y % 64)

/-- SHRL. -/
def opSHRL (l : Nat) (f : RFmt) (u : Units) : Units := u.scalarR l 0xd f fun x y => x / 2 ^ (y % 64)

/-- SHRA. -/
def opSHRA (l : Nat) (f : RFmt) (u : Units) : Units := u.scalarR l 0xe f fun x y => shiftRA x (y % 64)

/-- SLT. -/
def opSLT (l : Nat) (f : RFmt) (u : Units) : Units := u.scalarR l 0xf f fun x y => b2n (decide (s64 x < s64 y))

/-- SLTU. -/
def opSLTU (l : Nat) (f : RFmt) (u : Units) : Units := u.scalarR l 0x10 f fun x y => b2n (decide (x < y))

/-- ADDI. -/
def opADDI (l : Nat) (f : IFmt) (u : Units) : Units := u.scalarI l 0x20 f fun x => x + imm64 f

/-- ANDI. -/
def opANDI (l : Nat) (f : IFmt) (u : Units) : Units := u.scalarI l 0x21 f fun x => x &&& imm64 f

/-- ORI. -/
def opORI (l : Nat) (f : IFmt) (u : Units) : Units := u.scalarI l 0x22 f fun x => x ||| imm64 f

/-- XORI. -/
def opXORI (l : Nat) (f : IFmt) (u : Units) : Units := u.scalarI l 0x23 f fun x => x ^^^ imm64 f

/-- SHLI. -/
def opSHLI (l : Nat) (f : IFmt) (u : Units) : Units := u.scalarI l 0x24 f fun x => x * 2 ^ (f.imm % 64)

/-- SHRLI. -/
def opSHRLI (l : Nat) (f : IFmt) (u : Units) : Units := u.scalarI l 0x25 f fun x => x / 2 ^ (f.imm % 64)

/-- SHRAI. -/
def opSHRAI (l : Nat) (f : IFmt) (u : Units) : Units := u.scalarI l 0x26 f fun x => shiftRA x (f.imm % 64)

/-- MOVI. -/
def opMOVI (l : Nat) (f : IFmt) (u : Units) : Units :=
  u.issue l (encI 1 0x27 f) fun t => legalI f .any .none .none (.ok (t.setG f.d (imm64 f)))

/-- MOVHI. -/
def opMOVHI (l : Nat) (f : IFmt) (u : Units) : Units := u.scalarI l 0x28 f fun x => x % 2 ^ 32 + f.imm % 2 ^ 32 * 2 ^ 32

/-! Scalar memory and branch (CLASS 0x3, R225) -/

/-- gA + imm. -/
def Taper.addr (t : Taper) (f : IFmt) : Nat := ofSigned 64 ((t.gr f.a : Int) + immVal f)

/-- Access check: alignment, then the areas. -/
def accessBad (ok : Nat → Nat → Bool) (a n align : Nat) : Option TOut :=
  if a % align ≠ 0 then some (.memory 0 a) else if !(ok a n) then some (.memory 1 a) else none

/-- A load of `n` bytes aligned to `align` in class `cls`; `ecc` is what the read finds (R157). -/
def Units.loadOp (u : Units) (l cls op : Nat) (f : IFmt) (d : Fld) (n align ecc : Nat) (put : Taper → List Nat → Taper) : Units :=
  u.issueU l (encI cls op f) fun u t =>
    match illegalI f d .any .none with
    | some x => (u, .illegal x)
    | none =>
      let a := t.addr f
      match accessBad loadArea a n align with
      | some x => (u, x)
      | none => u.eccLoad l ecc a n (.ok (put t (Memory.readAll t.mem a n)))

/-- A store of `n` bytes. -/
def Units.storeOp (u : Units) (l cls op : Nat) (f : IFmt) (b : Fld) (n align : Nat) (get : Taper → List Nat) : Units :=
  u.issue l (encI cls op f) fun t => legalI f .none .any b
    (let a := t.addr f
     match accessBad storeArea a n align with
     | some x => x
     | none => .ok { t with mem := t.mem.writeAll a (get t) })

/-- A scalar load; `signed` extends the sign. -/
def Units.scalarLoad (u : Units) (l op : Nat) (f : IFmt) (n ecc : Nat) (signed : Bool) : Units :=
  u.loadOp l 3 op f .any n n ecc fun t x => t.setG f.d (if signed then ofSigned 64 (toSigned (8 * n) (leNat x)) else leNat x)

/-- A scalar store. -/
def Units.scalarStore (u : Units) (l op : Nat) (f : IFmt) (n : Nat) : Units := u.storeOp l 3 op f .any n n fun t => leBytes n (t.gr f.b)


/-- LD8U. -/
def opLD8U (l : Nat) (f : IFmt) (ecc : Nat) (u : Units) : Units := u.scalarLoad l 0x0 f 1 ecc false

/-- LD16U. -/
def opLD16U (l : Nat) (f : IFmt) (ecc : Nat) (u : Units) : Units := u.scalarLoad l 0x1 f 2 ecc false

/-- LD32U. -/
def opLD32U (l : Nat) (f : IFmt) (ecc : Nat) (u : Units) : Units := u.scalarLoad l 0x2 f 4 ecc false

/-- LD64. -/
def opLD64 (l : Nat) (f : IFmt) (ecc : Nat) (u : Units) : Units := u.scalarLoad l 0x3 f 8 ecc false

/-- LD8S. -/
def opLD8S (l : Nat) (f : IFmt) (ecc : Nat) (u : Units) : Units := u.scalarLoad l 0x4 f 1 ecc true

/-- LD16S. -/
def opLD16S (l : Nat) (f : IFmt) (ecc : Nat) (u : Units) : Units := u.scalarLoad l 0x5 f 2 ecc true

/-- LD32S. -/
def opLD32S (l : Nat) (f : IFmt) (ecc : Nat) (u : Units) : Units := u.scalarLoad l 0x6 f 4 ecc true

/-- ST8. -/
def opST8 (l : Nat) (f : IFmt) (u : Units) : Units := u.scalarStore l 0x8 f 1

/-- ST16. -/
def opST16 (l : Nat) (f : IFmt) (u : Units) : Units := u.scalarStore l 0x9 f 2

/-- ST32. -/
def opST32 (l : Nat) (f : IFmt) (u : Units) : Units := u.scalarStore l 0xa f 4

/-- ST64. -/
def opST64 (l : Nat) (f : IFmt) (u : Units) : Units := u.scalarStore l 0xb f 8

/-- Go to a target; a taken branch outside the code area, or not to a multiple of 8, faults (R225). -/
def Taper.jumpTo (t : Taper) (a : Nat) : TOut := if a % 8 ≠ 0 || 0x10000 ≤ a then .memory 2 a else .next t (some a)

/-- PC + imm. -/
def Taper.rel (t : Taper) (f : IFmt) : Nat := ofSigned 64 ((t.pc : Int) + immVal f)

/-- A conditional branch. -/
def Units.branch (u : Units) (l op : Nat) (f : IFmt) (a b : Fld) (c : Taper → Bool) : Units :=
  u.issue l (encI 3 op f) fun t => legalI f .none a b (if c t then t.jumpTo (t.rel f) else .ok t)


/-- BEQ. -/
def opBEQ (l : Nat) (f : IFmt) (u : Units) : Units := u.branch l 0x10 f .any .any fun t => t.gr f.a = t.gr f.b

/-- BNE. -/
def opBNE (l : Nat) (f : IFmt) (u : Units) : Units := u.branch l 0x11 f .any .any fun t => t.gr f.a ≠ t.gr f.b

/-- BLT. -/
def opBLT (l : Nat) (f : IFmt) (u : Units) : Units := u.branch l 0x12 f .any .any fun t => s64 (t.gr f.a) < s64 (t.gr f.b)

/-- BGE. -/
def opBGE (l : Nat) (f : IFmt) (u : Units) : Units := u.branch l 0x13 f .any .any fun t => s64 (t.gr f.b) ≤ s64 (t.gr f.a)

/-- BLTU. -/
def opBLTU (l : Nat) (f : IFmt) (u : Units) : Units := u.branch l 0x14 f .any .any fun t => t.gr f.a < t.gr f.b

/-- BGEU. -/
def opBGEU (l : Nat) (f : IFmt) (u : Units) : Units := u.branch l 0x15 f .any .any fun t => t.gr f.b ≤ t.gr f.a

/-- BPANY. -/
def opBPANY (l : Nat) (f : IFmt) (u : Units) : Units := u.branch l 0x16 f (.file 8) .none fun t => t.pr f.a ≠ 0

/-- BPNONE. -/
def opBPNONE (l : Nat) (f : IFmt) (u : Units) : Units := u.branch l 0x17 f (.file 8) .none fun t => t.pr f.a = 0

/-- JAL. -/
def opJAL (l : Nat) (f : IFmt) (u : Units) : Units :=
  u.issue l (encI 3 0x18 f) fun t => legalI f .any .none .none ((t.setG f.d (t.pc + 8)).jumpTo (t.rel f))

/-- JALR. -/
def opJALR (l : Nat) (f : IFmt) (u : Units) : Units :=
  u.issue l (encI 3 0x19 f) fun t => legalI f .any .any .none ((t.setG f.d (t.pc + 8)).jumpTo (t.addr f))

/-! Vector, tile and predicate memory (CLASS 0x5) -/

/-- VLD. -/
def opVLD (l : Nat) (f : IFmt) (ecc : Nat) (u : Units) : Units := u.loadOp l 5 0 f .any 64 64 ecc fun t x => t.setV f.d (leNat x)
/-- VST. -/
def opVST (l : Nat) (f : IFmt) (u : Units) : Units := u.storeOp l 5 1 f .any 64 64 fun t => leBytes 64 (t.vr f.b)
/-- TLD. -/
def opTLD (l : Nat) (f : IFmt) (ecc : Nat) (u : Units) : Units := u.loadOp l 5 2 f (.file 8) 64 64 ecc fun t x => t.setT f.d (leNat x)
/-- TST. -/
def opTST (l : Nat) (f : IFmt) (u : Units) : Units := u.storeOp l 5 3 f (.file 8) 64 64 fun t => leBytes 64 (t.tr f.b)
/-- PLD. -/
def opPLD (l : Nat) (f : IFmt) (ecc : Nat) (u : Units) : Units := u.loadOp l 5 4 f (.file 8) 8 8 ecc fun t x => t.setP f.d (leNat x)
/-- PST. -/
def opPST (l : Nat) (f : IFmt) (u : Units) : Units := u.storeOp l 5 5 f (.file 8) 8 8 fun t => leBytes 8 (t.pr f.b)

end Sys2Proof.Machine
end

