-- ==== Sys2Proof/Machine/TaperFloat.lean ====
section
/-!
DEFINITION. Taper instructions: scalar and vector floating point (09, Tables 9-11 and 9-12, R226, R227).
-/
namespace Sys2Proof.Machine

/-- Scalar floating formats: binary32, binary64. -/
def sF : List Nat := [1, 6]
/-- Vector floating formats: binary32, bf16, binary16. -/
def vF : List Nat := [1, 2, 3]
/-- Integer formats (Table 9-7). -/
def iF : List Nat := [0x10, 0x11, 0x12, 0x13, 0x14, 0x15, 0x16, 0x17]

/-- A scalar source: the low bits of its register. -/
def Taper.fsrc (t : Taper) (fmt r : Nat) : Nat := t.gr r % 2 ^ fmtBits fmt

/-- A scalar floating operation: `fn` gives the result's bits and flags; upper bits of the destination are 0. -/
def Units.sfOp (u : Units) (l op : Nat) (f : RFmt) (k : RUse) (no : Bool) (fn : Taper → ACtx → Nat × Nat) : Units :=
  u.issue l (encR 2 op f) fun t => t.legalR f k
    (let go := let r := fn t (t.actx f 0); TOut.ok ((t.setG f.d r.1).raise r.2)
     if no then t.contract 0 go else go)

/-- A vector operation that gives one value and its flags per lane, written to a vector register. -/
def Taper.laneWrite (t : Taper) (f : RFmt) (w : Nat) (fn : Nat → Nat × Nat) : Taper :=
  let old := t.vr f.d
  let rs := (List.range (512 / w)).map fun k => if t.active f k then fn k else (lane w old k, 0)
  (t.setV f.d (ofLanes w (rs.map (·.1)))).raise ((rs.map (·.2)).foldl (· ||| ·) 0)

/-- A vector floating operation lane by lane: `fn` on the lanes of A, B and C. -/
def Units.vfOp (u : Units) (l op : Nat) (f : RFmt) (k : RUse) (no : Bool) (fn : ACtx → Nat → Nat → Nat → Nat × Nat) : Units :=
  u.issue l (encR 4 op f) fun t => t.legalR f { k with pe := true }
    (let w := fmtBits f.fmt
     let go := TOut.ok (t.laneWrite f w fun i => fn (t.actx f 0) (lane w (t.vr f.a) i) (lane w (t.vr f.b) i) (lane w (t.vr f.c) i))
     if no then t.contract 0 go else go)

/-! Operations of both classes -/

/-- FADD. -/
def opFADD (l : Nat) (f : RFmt) (u : Units) : Units :=
  u.sfOp l 0 f { d := .any, a := .any, b := .any, rm := 1, fmts := sF } false fun t c => c.add f.fmt (t.fsrc f.fmt f.a) (t.fsrc f.fmt f.b)

/-- VFADD. -/
def opVFADD (l : Nat) (f : RFmt) (u : Units) : Units :=
  u.vfOp l 0 f { d := .any, a := .any, b := .any, rm := 1, fmts := vF } false fun c x y _ => c.add f.fmt x y

/-- FSUB. -/
def opFSUB (l : Nat) (f : RFmt) (u : Units) : Units :=
  u.sfOp l 1 f { d := .any, a := .any, b := .any, rm := 1, fmts := sF } false fun t c => c.sub f.fmt (t.fsrc f.fmt f.a) (t.fsrc f.fmt f.b)

/-- VFSUB. -/
def opVFSUB (l : Nat) (f : RFmt) (u : Units) : Units :=
  u.vfOp l 1 f { d := .any, a := .any, b := .any, rm := 1, fmts := vF } false fun c x y _ => c.sub f.fmt x y

/-- FMUL. -/
def opFMUL (l : Nat) (f : RFmt) (u : Units) : Units :=
  u.sfOp l 2 f { d := .any, a := .any, b := .any, rm := 1, fmts := sF } false fun t c => c.mul f.fmt (t.fsrc f.fmt f.a) (t.fsrc f.fmt f.b)

/-- VFMUL. -/
def opVFMUL (l : Nat) (f : RFmt) (u : Units) : Units :=
  u.vfOp l 2 f { d := .any, a := .any, b := .any, rm := 1, fmts := vF } false fun c x y _ => c.mul f.fmt x y

/-- FDIV. -/
def opFDIV (l : Nat) (f : RFmt) (u : Units) : Units :=
  u.sfOp l 3 f { d := .any, a := .any, b := .any, rm := 1, fmts := sF } false fun t c => c.div f.fmt (t.fsrc f.fmt f.a) (t.fsrc f.fmt f.b)

/-- VFDIV. -/
def opVFDIV (l : Nat) (f : RFmt) (u : Units) : Units :=
  u.vfOp l 3 f { d := .any, a := .any, b := .any, rm := 1, fmts := [1] } false fun c x y _ => c.div f.fmt x y

/-- FSQRT. -/
def opFSQRT (l : Nat) (f : RFmt) (u : Units) : Units :=
  u.sfOp l 4 f { d := .any, a := .any, rm := 1, fmts := sF } false fun t c => c.sqrt f.fmt (t.fsrc f.fmt f.a)

/-- VFSQRT. -/
def opVFSQRT (l : Nat) (f : RFmt) (u : Units) : Units :=
  u.vfOp l 4 f { d := .any, a := .any, rm := 1, fmts := [1] } false fun c x _ _ => c.sqrt f.fmt x

/-- FMA. -/
def opFMA (l : Nat) (f : RFmt) (u : Units) : Units :=
  u.sfOp l 5 f { d := .any, a := .any, b := .any, c := .any, rm := 1, fmts := sF } false fun t c =>
    c.fused f.fmt (t.fsrc f.fmt f.a) (t.fsrc f.fmt f.b) (t.fsrc f.fmt f.c) false false

/-- VFMA. -/
def opVFMA (l : Nat) (f : RFmt) (u : Units) : Units :=
  u.vfOp l 5 f { d := .any, a := .any, b := .any, c := .any, rm := 1, fmts := vF } false fun c x y z => c.fused f.fmt x y z false false

/-- FMS. -/
def opFMS (l : Nat) (f : RFmt) (u : Units) : Units :=
  u.sfOp l 6 f { d := .any, a := .any, b := .any, c := .any, rm := 1, fmts := sF } false fun t c =>
    c.fused f.fmt (t.fsrc f.fmt f.a) (t.fsrc f.fmt f.b) (t.fsrc f.fmt f.c) false true

/-- VFMS. -/
def opVFMS (l : Nat) (f : RFmt) (u : Units) : Units :=
  u.vfOp l 6 f { d := .any, a := .any, b := .any, c := .any, rm := 1, fmts := vF } false fun c x y z => c.fused f.fmt x y z false true

/-- FNMA. -/
def opFNMA (l : Nat) (f : RFmt) (u : Units) : Units :=
  u.sfOp l 7 f { d := .any, a := .any, b := .any, c := .any, rm := 1, fmts := sF } false fun t c =>
    c.fused f.fmt (t.fsrc f.fmt f.a) (t.fsrc f.fmt f.b) (t.fsrc f.fmt f.c) true false

/-- VFNMA. -/
def opVFNMA (l : Nat) (f : RFmt) (u : Units) : Units :=
  u.vfOp l 7 f { d := .any, a := .any, b := .any, c := .any, rm := 1, fmts := vF } false fun c x y z => c.fused f.fmt x y z true false

/-- FMIN. -/
def opFMIN (l : Nat) (f : RFmt) (u : Units) : Units :=
  u.sfOp l 8 f { d := .any, a := .any, b := .any, fmts := sF } false fun t c => c.minmax f.fmt (t.fsrc f.fmt f.a) (t.fsrc f.fmt f.b) false

/-- VFMIN. -/
def opVFMIN (l : Nat) (f : RFmt) (u : Units) : Units :=
  u.vfOp l 8 f { d := .any, a := .any, b := .any, fmts := vF } false fun c x y _ => c.minmax f.fmt x y false

/-- FMAX. -/
def opFMAX (l : Nat) (f : RFmt) (u : Units) : Units :=
  u.sfOp l 9 f { d := .any, a := .any, b := .any, fmts := sF } false fun t c => c.minmax f.fmt (t.fsrc f.fmt f.a) (t.fsrc f.fmt f.b) true

/-- VFMAX. -/
def opVFMAX (l : Nat) (f : RFmt) (u : Units) : Units :=
  u.vfOp l 9 f { d := .any, a := .any, b := .any, fmts := vF } false fun c x y _ => c.minmax f.fmt x y true

/-- FABS. -/
def opFABS (l : Nat) (f : RFmt) (u : Units) : Units :=
  u.sfOp l 10 f { d := .any, a := .any, fmts := sF } false fun t _ => (fAbs f.fmt (t.fsrc f.fmt f.a), 0)

/-- VFABS. -/
def opVFABS (l : Nat) (f : RFmt) (u : Units) : Units :=
  u.vfOp l 10 f { d := .any, a := .any, fmts := vF } false fun _ x _ _ => (fAbs f.fmt x, 0)

/-- FNEG. -/
def opFNEG (l : Nat) (f : RFmt) (u : Units) : Units :=
  u.sfOp l 11 f { d := .any, a := .any, fmts := sF } false fun t _ => (fNeg f.fmt (t.fsrc f.fmt f.a), 0)

/-- VFNEG. -/
def opVFNEG (l : Nat) (f : RFmt) (u : Units) : Units :=
  u.vfOp l 11 f { d := .any, a := .any, fmts := vF } false fun _ x _ _ => (fNeg f.fmt x, 0)

/-- FCOPYSIGN. -/
def opFCOPYSIGN (l : Nat) (f : RFmt) (u : Units) : Units :=
  u.sfOp l 0xC f { d := .any, a := .any, b := .any, fmts := sF } false fun t _ => (fCopy f.fmt (t.fsrc f.fmt f.a) (t.fsrc f.fmt f.b), 0)

/-- VFCOPYSIGN. -/
def opVFCOPYSIGN (l : Nat) (f : RFmt) (u : Units) : Units :=
  u.vfOp l 0xC f { d := .any, a := .any, b := .any, fmts := vF } false fun _ x y _ => (fCopy f.fmt x y, 0)

/-- FCMP: condition C of Table 9-12. -/
def opFCMP (l : Nat) (f : RFmt) (u : Units) : Units :=
  u.sfOp l 0xD f { d := .any, a := .any, b := .any, c := .imm 6, fmts := sF } false fun t c =>
    let r := c.cmp f.fmt f.c (t.fsrc f.fmt f.a) (t.fsrc f.fmt f.b)
    (b2n r.1, r.2)

/-- Set bit k of a predicate register for each active lane; other bits stay (R224). -/
def Taper.predWrite (t : Taper) (f : RFmt) (n : Nat) (fn : Nat → Bool × Nat) : Taper :=
  let r := (List.range n).foldl (fun (a : Nat × Nat) k =>
    if t.active f k then let x := fn k; ((if x.1 then setBit a.1 k else clrBit a.1 k), a.2 ||| x.2) else a) (t.pr f.d, 0)
  (t.setP f.d r.1).raise r.2

/-- VFCMP. -/
def opVFCMP (l : Nat) (f : RFmt) (u : Units) : Units :=
  u.issue l (encR 4 0xD f) fun t => t.legalR f { d := .file 8, a := .any, b := .any, c := .imm 6, fmts := [1, 2, 3, 4, 5], pe := true }
    (let w := fmtBits f.fmt
     .ok (t.predWrite f (512 / w) fun k => (t.actx f 0).cmp f.fmt f.c (lane w (t.vr f.a) k) (lane w (t.vr f.b) k)))

/-! Conversions -/

/-- FCVT: with SR, e = gC; without, C must be 0 (R226). -/
def opFCVT (l : Nat) (f : RFmt) (u : Units) : Units :=
  u.issue l (encR 2 0xE f) fun t => t.legalR f { d := .any, a := .any, c := if t.sr f 2 then .any else .none, rm := 2, fmts := sF, fmt2s := sF }
    (let r := (t.actx f (t.srDraw f (t.gr f.c))).cvt f.fmt f.fmt2 (t.fsrc f.fmt f.a)
     .ok ((t.setG f.d r.1).raise r.2))

/-- VFCVT (R226): between lane widths by the part index in B. -/
def opVFCVT (l : Nat) (f : RFmt) (u : Units) : Units :=
  u.issue l (encR 4 0xE f) fun t =>
    let ws := fmtBits f.fmt
    let wd := fmtBits f.fmt2
    let ls := 512 / max ws 1
    let ld := 512 / max wd 1
    let n := min ls ld
    t.legalR f { d := .any, a := .any, b := .imm (max ls ld / max n 1 - 1), c := if t.sr f 2 then .any else .none, rm := 2, pe := true,
                 fmts := [1, 2, 3, 4, 5], fmt2s := [1, 2, 3, 4, 5], satm := f.fmt2 = 4 || f.fmt2 = 5 }
      (let q := f.b
       let one := fun k =>
         let src := if ld < ls then q * ld + k else k
         (t.actx f (t.srDraw f (t.gr f.c + k))).cvt f.fmt f.fmt2 (lane ws (t.vr f.a) src)
       let old := t.vr f.d
       let rs := (List.range ld).map fun j =>
         let k := if ls < ld then j - q * ls else j
         let mine := ls ≥ ld || (q * ls ≤ j && j < q * ls + ls)
         if mine && t.active f k then one k else (lane wd old j, 0)
       .ok ((t.setV f.d (ofLanes wd (rs.map (·.1)))).raise ((rs.map (·.2)).foldl (· ||| ·) 0)))

/-- FCVTI: the integer in the low bits of gD; bits above a narrower integer are not stated and are free. -/
def opFCVTI (l : Nat) (f : RFmt) (u : Units) : Units :=
  u.sfOp l 0xF f { d := .any, a := .any, rm := 1, fmts := sF, fmt2s := iF } false fun t c =>
    let r := c.cvtInt f.fmt f.fmt2 (t.fsrc f.fmt f.a)
    let w := fmtBits f.fmt2
    (r.1 + (if w = 64 then 0 else Config.highBits f.fmt2 r.1 * 2 ^ w), r.2)

/-- VFCVTI: lanes of one width. -/
def opVFCVTI (l : Nat) (f : RFmt) (u : Units) : Units :=
  u.vfOp l 0xF f { d := .any, a := .any, rm := 1, fmts := vF, fmt2s := 0xFF :: iF.filter fun x => fmtBits x = fmtBits f.fmt } false fun c x _ _ => c.cvtInt f.fmt f.fmt2 x

/-- ICVTF. -/
def opICVTF (l : Nat) (f : RFmt) (u : Units) : Units :=
  u.sfOp l 0x10 f { d := .any, a := .any, rm := 1, fmts := iF, fmt2s := sF } false fun t c => c.ofInt f.fmt f.fmt2 (t.gr f.a)

/-- VICVTF: lanes of one width. -/
def opVICVTF (l : Nat) (f : RFmt) (u : Units) : Units :=
  u.vfOp l 0x10 f { d := .any, a := .any, rm := 1, fmts := iF, fmt2s := 0xFF :: vF.filter fun x => fmtBits x = fmtBits f.fmt } false fun c x _ _ =>
    c.ofInt f.fmt f.fmt2 x

/-! Approximations (outside the contract) -/

/-- RCP_EST. -/
def opRCP_EST (l : Nat) (f : RFmt) (u : Units) : Units :=
  u.sfOp l 17 f { d := .any, a := .any, fmts := [1] } true fun t c => c.rcp (t.fsrc 1 f.a)

/-- VRCP_EST. -/
def opVRCP_EST (l : Nat) (f : RFmt) (u : Units) : Units :=
  u.vfOp l 17 f { d := .any, a := .any, fmts := [1] } true fun c x _ _ => c.rcp x

/-- RSQRT_EST. -/
def opRSQRT_EST (l : Nat) (f : RFmt) (u : Units) : Units :=
  u.sfOp l 18 f { d := .any, a := .any, fmts := [1] } true fun t c => c.rsqrt (t.fsrc 1 f.a)

/-- VRSQRT_EST. -/
def opVRSQRT_EST (l : Nat) (f : RFmt) (u : Units) : Units :=
  u.vfOp l 18 f { d := .any, a := .any, fmts := [1] } true fun c x _ _ => c.rsqrt x

/-- EXP2. -/
def opEXP2 (l : Nat) (f : RFmt) (u : Units) : Units :=
  u.sfOp l 19 f { d := .any, a := .any, fmts := [1] } true fun t c => c.explog 0x13 (t.fsrc 1 f.a)

/-- VEXP2. -/
def opVEXP2 (l : Nat) (f : RFmt) (u : Units) : Units :=
  u.vfOp l 19 f { d := .any, a := .any, fmts := [1] } true fun c x _ _ => c.explog 0x13 x

/-- LOG2. -/
def opLOG2 (l : Nat) (f : RFmt) (u : Units) : Units :=
  u.sfOp l 20 f { d := .any, a := .any, fmts := [1] } true fun t c => c.explog 0x14 (t.fsrc 1 f.a)

/-- VLOG2. -/
def opVLOG2 (l : Nat) (f : RFmt) (u : Units) : Units :=
  u.vfOp l 20 f { d := .any, a := .any, fmts := [1] } true fun c x _ _ => c.explog 0x14 x

/-! MX conversion (R188, R227) -/

/-- The lanes of a source of 32 binary32 values (a pair) or 32 bf16 values. -/
def Taper.mxSource (t : Taper) (f : RFmt) : List Nat := if f.fmt = 1 then lanes 32 (t.vr f.a) ++ lanes 32 (t.vr (f.a + 1)) else lanes 16 (t.vr f.a)

/-- VMXPACK: 32 lanes to block B of vD, the scale to byte B of gC; the scale is taken over the active lanes. -/
def opVMXPACK (l : Nat) (f : RFmt) (u : Units) : Units :=
  u.issue l (encR 4 0x15 f) fun t =>
    let evenC : Fld := if f.c % 2 = 1 then .file 0 else .any
    t.legalR f { d := .any, a := if f.fmt = 1 then .pair false else .any, b := .imm 3, c := evenC, rm := 2, pe := true, fmts := [1, 2] }
      (let xs := t.mxSource f
       let act := (List.range 32).filter fun k => t.active f k
       let r := mxPack (fun i => t.actx f (t.srDraw f (t.gr (f.c + 1) + act.getD i 0))) f.fmt (act.map fun k => xs.getD k 0)
       let old := lanes 4 (t.vr f.d)
       let put := (act.zip r.2.1).foldl (fun (v : List Nat) x => setNth v (32 * f.b + x.1) x.2) old
       let g := setBits (t.gr f.c) (8 * f.b + 7) (8 * f.b) r.1
       .ok (((t.setV f.d (ofLanes 4 put)).setG f.c g).raise r.2.2))

/-- VMXUNPACK: block B of vA, with the scale in byte B of gC, to FMT2 (R187). -/
def opVMXUNPACK (l : Nat) (f : RFmt) (u : Units) : Units :=
  u.issue l (encR 4 0x16 f) fun t =>
    t.legalR f { d := if f.fmt2 = 1 then .pair false else .any, a := .any, b := .imm 3, c := .any, rm := 1, pe := true, fmts := [7], fmt2s := [1, 2] }
      (let w := fmtBits f.fmt2
       let scale := bits (t.gr f.c) (8 * f.b + 7) (8 * f.b)
       let old := if f.fmt2 = 1 then lanes 32 (t.vr f.d) ++ lanes 32 (t.vr (f.d + 1)) else lanes 16 (t.vr f.d)
       let rs := (List.range 32).map fun k =>
         if t.active f k then (t.actx f 0).mxElem f.fmt2 scale (lane 4 (t.vr f.a) (32 * f.b + k)) else (old.getD k 0, 0)
       let vs := rs.map (·.1)
       let t' := if f.fmt2 = 1 then (t.setV f.d (ofLanes w (vs.take 16))).setV (f.d + 1) (ofLanes w (vs.drop 16)) else t.setV f.d (ofLanes w vs)
       .ok (t'.raise ((rs.map (·.2)).foldl (· ||| ·) 0)))

end Sys2Proof.Machine
end

