-- ==== Sys2Proof/Machine/TaperVec.lean ====
section
/-!
DEFINITION. Taper instructions: vector integer, moves and predicates (09, Table 9-13), tiles (Table 9-15), long accumulators (Table 9-16),
fingerprints (Table 9-19a) and random words (Table 9-19b).
-/
namespace Sys2Proof.Machine

/-! Vector integer -/

/-- A vector integer operation on the lanes of A and B. -/
def Units.viOp (u : Units) (l op : Nat) (f : RFmt) (fn : Nat → Nat → Nat → Nat) : Units :=
  u.issue l (encR 4 op f) fun t => t.legalR f { d := .any, a := .any, b := .any, fmts := iF, pe := true }
    (let w := fmtBits f.fmt
     .ok (t.laneWrite f w fun k => (fn w (lane w (t.vr f.a) k) (lane w (t.vr f.b) k), 0)))

/-- An integer limited to a format. -/
def intSat (f : Nat) (i : Int) : Nat := ofSigned (fmtBits f) (max (intMin f) (min (intMax f) i))

/-- VADD. -/
def opVADD (l : Nat) (f : RFmt) (u : Units) : Units := u.viOp l 0x20 f fun _ x y => x + y

/-- VSUB. -/
def opVSUB (l : Nat) (f : RFmt) (u : Units) : Units := u.viOp l 0x21 f fun w x y => x + 2 ^ w - y

/-- VMUL. -/
def opVMUL (l : Nat) (f : RFmt) (u : Units) : Units := u.viOp l 0x22 f fun _ x y => x * y

/-- VADDS. -/
def opVADDS (l : Nat) (f : RFmt) (u : Units) : Units := u.viOp l 0x23 f fun _ x y => intSat f.fmt (intVal f.fmt x + intVal f.fmt y)

/-- VSUBS. -/
def opVSUBS (l : Nat) (f : RFmt) (u : Units) : Units := u.viOp l 0x24 f fun _ x y => intSat f.fmt (intVal f.fmt x - intVal f.fmt y)

/-- VAND. -/
def opVAND (l : Nat) (f : RFmt) (u : Units) : Units := u.viOp l 0x25 f fun _ x y => x &&& y

/-- VOR. -/
def opVOR (l : Nat) (f : RFmt) (u : Units) : Units := u.viOp l 0x26 f fun _ x y => x ||| y

/-- VXOR. -/
def opVXOR (l : Nat) (f : RFmt) (u : Units) : Units := u.viOp l 0x27 f fun _ x y => x ^^^ y

/-- VSHL. -/
def opVSHL (l : Nat) (f : RFmt) (u : Units) : Units := u.viOp l 0x28 f fun w x y => x * 2 ^ (y % w)

/-- VSHR. -/
def opVSHR (l : Nat) (f : RFmt) (u : Units) : Units := u.viOp l 0x29 f fun w x y => ofSigned w (intVal f.fmt x / ((2 ^ (y % w) : Nat) : Int))

/-- VMIN. -/
def opVMIN (l : Nat) (f : RFmt) (u : Units) : Units := u.viOp l 0x2a f fun _ x y => if intVal f.fmt x ≤ intVal f.fmt y then x else y

/-- VMAX. -/
def opVMAX (l : Nat) (f : RFmt) (u : Units) : Units := u.viOp l 0x2b f fun _ x y => if intVal f.fmt x ≤ intVal f.fmt y then y else x

/-- VCMP: condition C, 0-5, by signedness. -/
def opVCMP (l : Nat) (f : RFmt) (u : Units) : Units :=
  u.issue l (encR 4 0x2C f) fun t => t.legalR f { d := .file 8, a := .any, b := .any, c := .imm 5, fmts := iF, pe := true }
    (let w := fmtBits f.fmt
     .ok (t.predWrite f (512 / w) fun k => (condOf f.c (intVal f.fmt (lane w (t.vr f.a) k) - intVal f.fmt (lane w (t.vr f.b) k)), 0)))

/-- VSEL: PE must be 1. -/
def opVSEL (l : Nat) (f : RFmt) (u : Units) : Units :=
  u.issue l (encR 4 0x2D f) fun t => t.legalR f { d := .any, a := .any, b := .any, fmts := iF, pe := true }
    (if !f.pe then .illegal 0
     else
       let w := fmtBits f.fmt
       .ok (t.setV f.d (ofLanes w ((List.range (512 / w)).map fun k => if t.active f k then lane w (t.vr f.a) k else lane w (t.vr f.b) k))))

/-! Moves -/

/-- Formats that give a lane width (Tables 8-2, 9-7). -/
def wF : List Nat := [1, 2, 3, 4, 5, 7] ++ iF

/-- PE is allowed but on 128 lanes (R224). -/
def wPe (f : RFmt) : Bool := f.fmt ≠ 7

/-- VBCAST. -/
def opVBCAST (l : Nat) (f : RFmt) (u : Units) : Units :=
  u.issue l (encR 4 0x30 f) fun t => t.legalR f { d := .any, a := .any, fmts := wF, pe := wPe f }
    (let w := fmtBits f.fmt
     .ok (t.laneWrite f w fun _ => (t.gr f.a % 2 ^ w, 0)))

/-- VEXTRACT: a lane number at or above the lane count gives 0. -/
def opVEXTRACT (l : Nat) (f : RFmt) (u : Units) : Units :=
  u.issue l (encR 4 0x31 f) fun t => t.legalR f { d := .any, a := .any, b := .any, fmts := wF }
    (let w := fmtBits f.fmt
     .ok (t.setG f.d (if t.gr f.b < 512 / w then lane w (t.vr f.a) (t.gr f.b) else 0)))

/-- VINSERT: a lane number at or above the lane count changes nothing. -/
def opVINSERT (l : Nat) (f : RFmt) (u : Units) : Units :=
  u.issue l (encR 4 0x32 f) fun t => t.legalR f { d := .any, a := .any, b := .any, fmts := wF, pe := wPe f }
    (let w := fmtBits f.fmt
     let k := t.gr f.b
     .ok (if k < 512 / w && t.active f k then t.setV f.d (ofLanes w (setNth (lanes w (t.vr f.d)) k (t.gr f.a % 2 ^ w))) else t))

/-- VIOTA. -/
def opVIOTA (l : Nat) (f : RFmt) (u : Units) : Units :=
  u.issue l (encR 4 0x33 f) fun t => t.legalR f { d := .any, a := .any, fmts := wF, pe := wPe f }
    (let w := fmtBits f.fmt
     .ok (t.laneWrite f w fun k => ((t.gr f.a + k) % 2 ^ w, 0)))

/-- VPERM. -/
def opVPERM (l : Nat) (f : RFmt) (u : Units) : Units :=
  u.issue l (encR 4 0x34 f) fun t => t.legalR f { d := .any, a := .any, b := .any, fmts := iF, pe := true }
    (let w := fmtBits f.fmt
     .ok (t.laneWrite f w fun k => (lane w (t.vr f.a) (lane w (t.vr f.b) k % (512 / w)), 0)))

/-- VMOV: FMT 0, so no lane to predicate. -/
def opVMOV (l : Nat) (f : RFmt) (u : Units) : Units :=
  u.issue l (encR 4 0x35 f) fun t => t.legalR f { d := .any, a := .any } (.ok (t.setV f.d (t.vr f.a)))

/-! Predicates -/

/-- PAND. -/
def opPAND (l : Nat) (f : RFmt) (u : Units) : Units :=
  u.issue l (encR 4 0x38 f) fun t => t.legalR f { d := .file 8, a := .file 8, b := .file 8 } (.ok (t.setP f.d (t.pr f.a &&& t.pr f.b)))

/-- POR. -/
def opPOR (l : Nat) (f : RFmt) (u : Units) : Units :=
  u.issue l (encR 4 0x39 f) fun t => t.legalR f { d := .file 8, a := .file 8, b := .file 8 } (.ok (t.setP f.d (t.pr f.a ||| t.pr f.b)))

/-- PXOR. -/
def opPXOR (l : Nat) (f : RFmt) (u : Units) : Units :=
  u.issue l (encR 4 0x3a f) fun t => t.legalR f { d := .file 8, a := .file 8, b := .file 8 } (.ok (t.setP f.d (t.pr f.a ^^^ t.pr f.b)))

/-- PNOT. -/
def opPNOT (l : Nat) (f : RFmt) (u : Units) : Units :=
  u.issue l (encR 4 0x3B f) fun t => t.legalR f { d := .file 8, a := .file 8 } (.ok (t.setP f.d (t.pr f.a ^^^ (2 ^ 64 - 1))))

/-- PSET. -/
def opPSET (l : Nat) (f : RFmt) (u : Units) : Units :=
  u.issue l (encR 4 0x3C f) fun t => t.legalR f { d := .file 8, a := .any } (.ok (t.setP f.d (t.gr f.a)))

/-- PGET. -/
def opPGET (l : Nat) (f : RFmt) (u : Units) : Units :=
  u.issue l (encR 4 0x3D f) fun t => t.legalR f { d := .any, a := .file 8 } (.ok (t.setG f.d (t.pr f.a)))

/-- PCNT. -/
def opPCNT (l : Nat) (f : RFmt) (u : Units) : Units :=
  u.issue l (encR 4 0x3E f) fun t => t.legalR f { d := .any, a := .file 8 }
    (.ok (t.setG f.d ((List.range 64).filter fun k => bitAt (t.pr f.a) k).length))

/-! Tiles (CLASS 0x6): every one is outside the contract (R208) -/

/-- TZERO. -/
def opTZERO (l : Nat) (f : RFmt) (u : Units) : Units :=
  u.issue l (encR 6 0 f) fun t => t.legalR f { d := .file 8 } (t.contract 1 (.ok (t.setT f.d 0)))

/-- TMOVV. -/
def opTMOVV (l : Nat) (f : RFmt) (u : Units) : Units :=
  u.issue l (encR 6 3 f) fun t => t.legalR f { d := .file 8, a := .any } (t.contract 1 (.ok (t.setT f.d (t.vr f.a))))

/-- VMOVT. -/
def opVMOVT (l : Nat) (f : RFmt) (u : Units) : Units :=
  u.issue l (encR 6 4 f) fun t => t.legalR f { d := .any, a := .file 8 } (t.contract 1 (.ok (t.setV f.d (t.tr f.a))))

/-- The format of B (R228): FMT2 for the FP8 formats, 0 meaning the format of A. -/
def fmtB (f : RFmt) : Nat := if f.fmt2 = 0 then f.fmt else f.fmt2

/-- FMT2 codes that a product operation takes. -/
def pairF (f : RFmt) : List Nat := if f.fmt = 4 || f.fmt = 5 then [0, 4, 5] else [0]

/-- Elements per row of a tile operand. -/
def tileK (fmt : Nat) : Nat := if fmt = 2 then 8 else if fmt = 7 then 32 else 16

/-- An element times an E8M0 scale (R190). -/
def scaleV (s : Nat) : FVal → FVal
  | .fin n m e => .fin n m (e + (s : Int) - 127)
  | v => v

/-- Row or column i of an operand: K lanes from lane iK, as values read under DAZ, with the MX scale of MXFP4. -/
def Taper.tileRow (t : Taper) (f : RFmt) (fmt x i scales : Nat) : List FVal :=
  let w := fmtBits fmt
  let k := tileK f.fmt
  let s := bits scales (8 * i + 7) (8 * i)
  (List.range k).map fun j =>
    let v := (t.actx f 0).take fmt (lane w x (i * k + j))
    if f.fmt = 7 then scaleV s v else v

/-- The new C of a tile from its rows of A (a missing entry adds nothing) and columns of B; `bad i j` where a scale is 0xFF. -/
def Taper.tileProduct (t : Taper) (f : RFmt) (rows : List (List (Option FVal))) (cols : List (List FVal)) (bad : Nat → Nat → Bool) : Taper :=
  let cells := (List.range 16).map fun c =>
    let i := c / 4
    let j := c % 4
    let s := ((rows.getD i []).zip (cols.getD j [])).foldl (fun (s : TileSum) x => match x.1 with | some a => s.add a x.2 | none => s)
      { nan := false, bad := false, pinf := false, ninf := false, sum := 0 }
    (t.actx f 0).tileCell (lane 32 (t.tr f.d) c) s (bad i j)
  (t.setT f.d (ofLanes 32 (cells.map (·.1)))).raise ((cells.map (·.2)).foldl (· ||| ·) 0)

/-- Register C of a tile instruction: an even pair of scales for MXFP4, else not used (R228). -/
def tileC (f : RFmt) : Fld := if f.fmt = 7 then (if f.c % 2 = 1 then .file 0 else .any) else .none

/-- TMMA (R189, R190, R228). -/
def opTMMA (l : Nat) (f : RFmt) (u : Units) : Units :=
  u.issue l (encR 6 1 f) fun t => t.legalR f { d := .file 8, a := .any, b := .any, c := tileC f, fmts := [2, 4, 5, 7], fmt2s := pairF f }
    (t.contract 1
      (let sa := t.gr f.c
       let sb := t.gr (f.c + 1)
       let rows := (List.range 4).map fun i => (t.tileRow f f.fmt (t.vr f.a) i sa).map some
       let cols := (List.range 4).map fun j => t.tileRow f (fmtB f) (t.vr f.b) j sb
       .ok (t.tileProduct f rows cols fun i j => f.fmt = 7 && (bits sa (8 * i + 7) (8 * i) = 0xFF || bits sb (8 * j + 7) (8 * j) = 0xFF))))

/-- Predicate registers of the metadata (R228). -/
def metaRegs (f : RFmt) : Nat := if f.fmt = 2 then 1 else if f.fmt = 7 then 4 else 2

/-- TMMA.SP (R191, R192, R228). -/
def opTMMA_SP (l : Nat) (f : RFmt) (u : Units) : Units :=
  u.issue l (encR 6 2 f) fun t =>
    t.legalR f { d := .file 8, a := .any, b := .pair false, c := tileC f, p := if f.p % metaRegs f = 0 then .file 8 else .file 0,
                 fmts := [2, 4, 5, 7], fmt2s := pairF f }
      (t.contract 1
        (let sa := t.gr f.c
         let sb := t.gr (f.c + 1)
         let md := (List.range (metaRegs f)).foldl (fun (m : Nat) i => m + t.pr (f.p + i) * 2 ^ (64 * i)) 0
         let g := tileK f.fmt / 2
         let rs := (List.range 4).map fun i =>
           sparseRow (.fin false 0 0) (t.tileRow f f.fmt (t.vr f.a) i sa) (bits md (4 * g * (i + 1) - 1) (4 * g * i)) g
         let cols := (List.range 4).map fun j =>
           t.tileRow f (fmtB f) (t.vr f.b) j sb ++ t.tileRow f (fmtB f) (t.vr (f.b + 1)) j (sb / 2 ^ 32)
         let t' := t.tileProduct f (rs.map (·.1)) cols fun i j =>
           f.fmt = 7 && (bits sa (8 * i + 7) (8 * i) = 0xFF || bits sb (8 * j + 7) (8 * j) = 0xFF || bits sb (8 * j + 39) (8 * j + 32) = 0xFF)
         .ok (t'.raise (if rs.any fun r => r.2 then flNV + 32 else 0))))

/-! Long accumulators (CLASS 0x7) -/

/-- LACC.CLR. -/
def opLACC_CLR (l : Nat) (f : RFmt) (u : Units) : Units :=
  u.issue l (encR 7 0 f) fun t => t.legalR f { d := .file 4 } (.ok (t.setA f.d LAcc.zero))

/-- Add terms to accumulator D. -/
def Taper.laccAdd (t : Taper) (d : Nat) (l : List (Int × Nat × Bool)) : Taper :=
  let r := (t.ar d).addAll l
  (t.setA d r.1).raise r.2

/-- LACC.ADD. -/
def opLACC_ADD (l : Nat) (f : RFmt) (u : Units) : Units :=
  u.issue l (encR 7 1 f) fun t => t.legalR f { d := .file 4, a := .any, fmts := [1, 2, 3, 4, 5], pe := true }
    (let w := fmtBits f.fmt
     .ok (t.laccAdd f.d (((List.range (512 / w)).filter fun k => t.active f k).map fun k => laccTerm ((t.actx f 0).take f.fmt (lane w (t.vr f.a) k)))))

/-- LACC.MAC. -/
def opLACC_MAC (l : Nat) (f : RFmt) (u : Units) : Units :=
  u.issue l (encR 7 2 f) fun t => t.legalR f { d := .file 4, a := .any, b := .any, fmts := [1, 2, 3, 4, 5], fmt2s := pairF f, pe := true }
    (let w := fmtBits f.fmt
     let c := t.actx f 0
     .ok (t.laccAdd f.d (((List.range (512 / w)).filter fun k => t.active f k).map fun k =>
       laccProd (c.take f.fmt (lane w (t.vr f.a) k)) (c.take (fmtB f) (lane w (t.vr f.b) k)))))

/-- LACC.ACC. -/
def opLACC_ACC (l : Nat) (f : RFmt) (u : Units) : Units :=
  u.issue l (encR 7 3 f) fun t => t.legalR f { d := .file 4, a := .file 4 }
    (let r := (t.ar f.d).acc (t.ar f.a)
     .ok ((t.setA f.d r.1).raise r.2))

/-- LACC.RND (R195); with SR, e = gB. -/
def opLACC_RND (l : Nat) (f : RFmt) (u : Units) : Units :=
  u.issue l (encR 7 4 f) fun t => t.legalR f { d := .any, a := .file 4, b := if t.sr f 2 then .any else .none, rm := 2, fmts := [1, 2, 3, 6] }
    (let r := (t.actx f (t.srDraw f (t.gr f.b))).laccRound f.fmt (t.ar f.a)
     .ok ((t.setG f.d r.1).raise r.2))

/-- LACC.STAT. -/
def opLACC_STAT (l : Nat) (f : RFmt) (u : Units) : Units :=
  u.issue l (encR 7 5 f) fun t => t.legalR f { d := .any, a := .file 4 } (.ok (t.setG f.d (t.ar f.a).st.toNat))

/-- LACC.EXP: 96 bytes at gA + imm, 32-byte aligned. -/
def opLACC_EXP (l : Nat) (f : IFmt) (u : Units) : Units :=
  u.issue l (encI 7 6 f) fun t => legalI f (.file 4) .any .none
    (let a := t.addr f
     match accessBad storeArea a 96 32 with
     | some x => x
     | none => .ok { t with mem := t.mem.writeAll a (t.ar f.d).bytes })

/-- LACC.IMP. -/
def opLACC_IMP (l : Nat) (f : IFmt) (ecc : Nat) (u : Units) : Units := u.loadOp l 7 7 f (.file 4) 96 32 ecc fun t x => t.setA f.d (LAcc.ofBytes x)

/-! Fingerprints (CLASS 0xA) -/

/-- FING.V (R233): inactive lanes count as 0; waits for fingerprinting channels (R219). -/
def opFING_V (l : Nat) (f : RFmt) (u : Units) : Units :=
  u.issue l (encR 10 0 f) fun t => t.legalR f { a := .any, pe := true }
    (let w := 8 * 2 ^ t.fingWidth
     if t.fpBusy then .hold else .ok (t.fingEat ((List.range (512 / w)).map fun k => if t.active f k then lane w (t.vr f.a) k else 0)))

/-- A field operation on two registers, each reduced modulo p (R233). -/
def Units.fingOp (u : Units) (l op : Nat) (f : RFmt) (fn : Nat → Nat → Nat) : Units :=
  u.issue l (encR 10 op f) fun t => t.legalR f { d := .any, a := .any, b := .any } (.ok (t.setG f.d (fn (t.gr f.a % fpP) (t.gr f.b % fpP) % fpP)))

/-- FING.ADDM. -/
def opFING_ADDM (l : Nat) (f : RFmt) (u : Units) : Units := u.fingOp l 1 f fun x y => x + y
/-- FING.SUBM. -/
def opFING_SUBM (l : Nat) (f : RFmt) (u : Units) : Units := u.fingOp l 2 f fun x y => x + fpP - y
/-- FING.MULM. -/
def opFING_MULM (l : Nat) (f : RFmt) (u : Units) : Units := u.fingOp l 3 f fun x y => x * y
/-- FING.POWM: 0^0 = 1. -/
def opFING_POWM (l : Nat) (f : RFmt) (u : Units) : Units := u.fingOp l 4 f fun x y => fpPow x y

/-! Random words (CLASS 0xB) -/

/-- RNG.RAW: site SITE; RM must be 0 (R223). -/
def opRNG_RAW (l : Nat) (f : RFmt) (u : Units) : Units :=
  u.issue l (encR 11 0 f) fun t => t.legalR f { d := .any, a := .any, rm := 3 }
    (.ok (t.setV f.d (ofLanes 32 ((List.range 16).map fun k => srWord t.rngKey t.rngBase f.site (t.gr f.a + k)))))

/-- RNG.PHILOX. -/
def opRNG_PHILOX (l : Nat) (f : RFmt) (u : Units) : Units :=
  u.issue l (encR 11 1 f) fun t => t.legalR f { d := .any, a := .any }
    (let x := t.vr f.a
     .ok (t.setV f.d (ofLanes 32 (philox (t.rngKey % 2 ^ 32) (t.rngKey / 2 ^ 32) (lane 32 x 0) (lane 32 x 1) (lane 32 x 2) (lane 32 x 3)))))

end Sys2Proof.Machine
end

