-- ==== Sys2Proof/Machine/TaperIo.lean ====
section
/-!
DEFINITION. Taper instructions: messages and rings (09, Table 9-17), streams (Table 9-18), and the resumption of waiting ones (R220).
-/
namespace Sys2Proof.Machine

/-! Messages (R151-R154, R229, R230) -/

/-- Fault detail of a MSG.SEND (R152, R229): destination, mode, virtual channel, length, payload address. -/
def sendBad (hdr n pay : Nat) : Option TOut :=
  let dest := bits hdr 9 0
  let mode := bits hdr 11 10
  let vc := bits hdr 23 22
  let len := bits hdr 40 32
  if n ≤ dest then some (.trap 3 0 0xFF 0)
  else if mode = 3 then some (.trap 3 1 0xFF 0)
  else if 2 ≤ vc then some (.trap 3 2 0xFF 0)
  else if 504 < len || len % 8 ≠ 0 then some (.trap 3 3 0xFF 0)
  else if pay % 64 ≠ 0 || !(dataArea pay len) then some (.trap 3 4 0xFF pay)
  else none

/-- Destinations of a message (Table 7-2): one taper, the tapers of the program in its partition, or all. -/
def PSlot.dests (s : PSlot) (hdr : Nat) : List Nat :=
  let d := s.place.getD (bits hdr 9 0) 0
  let mode := bits hdr 11 10
  if mode = 0 then [d] else if mode = 1 then s.place.filter fun l => l / 64 = d / 64 else s.place

/-- Put a message into the network, one copy per destination; SRC and PROG_GEN are inserted, and bits [47:41] are 0 (R151, R10). -/
def Units.netSend (u : Units) (l n : Nat) (t : Taper) (hdr pay : Nat) : Units :=
  let s := u.slot n
  let src := s.place.findIdx fun x => x = l
  let h := setBits (setBits (setBits hdr 21 12 src) 63 48 s.gen) 47 41 0
  let b := leBytes 8 h ++ Memory.readAll t.mem pay (bits hdr 40 32)
  u.upG fun g => { g with net := g.net ++ (s.dests hdr).map fun d => { slot := n, gen := s.gen, src := l, dst := d, vc := bits hdr 23 22, bytes := b } }

/-- Back-pressure (R154): messages stand in the network on this VC and the network takes no more of them now. -/
def Units.backed (u : Units) (vc : Nat) : Bool := (u.grid.net.any fun x => x.vc = vc) && Config.meshBusy u.free

/-- Send, or wait under back-pressure; `ecc` is what the read of the payload finds (R157). -/
def Units.sendNow (u : Units) (l ecc : Nat) (t : Taper) (f : RFmt) : Units × TOut :=
  match (u.lt l).slot with
  | none => (u, .hold)
  | some n =>
    let hdr := t.gr f.a
    match sendBad hdr (u.slot n).count (t.gr f.b) with
    | some x => (u, x)
    | none =>
      if u.backed (bits hdr 23 22) then (u.draw, .wait .send)
      else
        let len := bits hdr 40 32
        match u.draw.eccLoad l (if len = 0 then 0 else ecc) (t.gr f.b) len (.ok t) with
        | (v, .next t j) => (v.netSend l n t hdr (t.gr f.b), .next t j)
        | r => r

/-- A legal Format R instruction that touches more than its taper. -/
def legalRU (u : Units) (t : Taper) (f : RFmt) (k : RUse) (go : Units × TOut) : Units × TOut :=
  match t.illegalR f k with
  | some d => (u, .illegal d)
  | none => go

/-- MSG.SEND (R229). -/
def opMSG_SEND (l ecc : Nat) (f : RFmt) (u : Units) : Units :=
  u.issueU l (encR 8 0 f) fun u t => legalRU u t f { a := .any, b := .any } (u.sendNow l ecc t f)

/-- MSG_SEND_RESUME (R220). -/
def msgSendResume (l ecc : Nat) (u : Units) : Units := u.resume l .send fun w u t => u.sendNow l ecc t (decR w)

/-- The next message of a VC becomes held: its slot address (R230). -/
def Taper.receive (t : Taper) (vc : Nat) : Option (Taper × Nat) :=
  let q := t.queue vc
  match q.ready with
  | [] => none
  | k :: r => some (t.setQueue vc { q with ready := r, held := q.held ++ [k] }, slotAddr vc k)

/-- Receive, or wait. -/
def recvNow (t : Taper) (f : RFmt) : TOut :=
  match t.receive f.c with
  | some x => .ok (x.1.setG f.d x.2)
  | none => .wait .recv

/-- MSG.RECV (R230). -/
def opMSG_RECV (l : Nat) (f : RFmt) (u : Units) : Units :=
  u.issue l (encR 8 1 f) fun t => t.legalR f { d := .any, c := .imm 1 } (recvNow t f)

/-- MSG_RECV_RESUME. -/
def msgRecvResume (l : Nat) (u : Units) : Units := u.resume l .recv fun w u t => (u, recvNow t (decR w))

/-- MSG.POLL. -/
def opMSG_POLL (l : Nat) (f : RFmt) (u : Units) : Units :=
  u.issue l (encR 8 2 f) fun t => t.legalR f { d := .any, c := .imm 1 }
    (match t.receive f.c with
     | some x => .ok (x.1.setG f.d x.2)
     | none => .ok (t.setG f.d 0))

/-- MSG.FREE: the oldest held slot of VC C. -/
def opMSG_FREE (l : Nat) (f : RFmt) (u : Units) : Units :=
  u.issue l (encR 8 3 f) fun t => t.legalR f { c := .imm 1 }
    (let q := t.queue f.c
     match q.held with
     | [] => .trap 3 5 0xFF 0
     | _ :: r => .ok (t.setQueue f.c { q with held := r }))

/-! Rings (R231) -/

/-- Slot `n`'s program has a submission ring: one bound at load, or the work queue of the unit that loaded it. -/
def PSlot.hasSub (s : PSlot) : Bool := s.sub ≠ 0xFFFFFFFF || s.owner ≠ .host

/-- Slot `n`'s program has a completion ring. -/
def PSlot.hasComp (s : PSlot) : Bool := s.comp ≠ 0xFFFFFFFF || s.owner ≠ .host

/-- Bytes 0-95 of a step record (Table 3-7). -/
def driveBytes (r : Sys2Proof.StepRec) : List Nat :=
  leBytes 8 r.step ++ leBytes 4 r.shard ++ leBytes 1 r.format ++ leBytes 1 r.replica ++ leBytes 1 r.count ++ [0] ++ leBytes 2 r.flags ++ leBytes 2 r.prog
    ++ leBytes 4 r.epoch ++ leBytes 8 r.cursor ++ leBytes 8 r.rngKey ++ leBytes 16 r.rngBase ++ leBytes 32 r.scalars ++ leBytes 4 r.lossScale
    ++ List.replicate 4 0

/-- A shadow work item (Table 11-3). -/
def itemBytes (step shard job index kind fmt first count touch params gfirst total : Nat) (drive : List Nat) : List Nat :=
  leBytes 8 step ++ leBytes 4 shard ++ leBytes 4 job ++ leBytes 4 index ++ leBytes 1 kind ++ leBytes 1 fmt ++ [0, 0] ++ leBytes 8 first ++ leBytes 4 count
    ++ leBytes 4 touch ++ leBytes 8 params ++ leBytes 8 gfirst ++ leBytes 8 total ++ drive

/-- Generation a region's owner holds now. -/
def Units.regGen (u : Units) (r : Nat) : Nat := match NMap.find u.mantle.regions r with | some x => x.gen | none => 0

/-- A taper takes the regions of its item into binding slots 0 and 1 (R274). -/
def Units.bindItem (u : Units) (buddy staging : Nat) (t : Taper) : Taper :=
  { t with bind := [(0, (buddy, u.regGen buddy)), (1, (staging, u.regGen staging))] }

/-- The next work item of a job's shadow instance: its bytes, its regions and its parameter block (R270, R274). -/
def Units.popItem (u : Units) (job : Nat) : Option (Units × List Nat × (Taper → Taper)) :=
  match (u.inst job).queue with
  | [] => none
  | (shard, step, idx) :: r =>
    let u' := u.upInst job fun i => { i with queue := r, running := i.running ++ [(shard, step, idx)] }
    u.withSh shard none fun _ s j =>
      match s.step? step with
      | none => some (u', [], fun t => t)
      | some o => match o.items.find? fun i => i.index = idx, o.drive with
        | some i, some d =>
          some (u', itemBytes step shard job idx (b2n i.sparse) o.fmt i.first i.count i.touch s.params s.first j.params (driveBytes d), fun t =>
            u.bindItem s.bRegion s.sRegion { t with mem := t.mem.writeAll 0x5C000 o.block })
        | _, _ => some (u', [], fun t => t)

/-- Take the next entry of a program's submission ring; the T3 puts the sender stamp into a host entry (R447). The last part is what
the entry does to the taper that takes it. -/
def Units.popEntry (u : Units) (n : Nat) : Option (Units × List Nat × (Taper → Taper)) :=
  let s := u.slot n
  if s.sub = 0xFFFFFFFF then
    match s.owner with
    | .wick job => u.popItem job
    | o =>
      match s.work with
      | [] => none
      | b :: r =>
        let f := match o, u.wick.qualify with
          | .qualify, some q => u.bindItem q.buddy q.staging
          | _, _ => fun t => t
        some (u.upSlot n fun s => { s with work := r }, b, f)
  else
    let d := u.desc s.sub
    match d.q with
    | .words b :: r =>
      let stamp := leBytes 4 (mkStamp 1 0 d.priv)
      let b := if d.hostSide && 12 ≤ b.length then b.take 8 ++ stamp ++ b.drop 12 else b
      some (u.setDesc s.sub { d with q := r, cons := wrapW 32 (d.cons + 1) }, b, fun t => t)
    | _ => none

/-- Put an entry at gA and its length in gD. -/
def Taper.takeEntry (t : Taper) (f : RFmt) (b : List Nat) : Taper := { t with mem := t.mem.writeAll (t.gr f.a) b }.setG f.d b.length

/-- Bytes of an entry of the submission ring: by its size code, or as the unit's next item is long. -/
def Units.entryLen (u : Units) (n : Nat) : Nat :=
  let s := u.slot n
  if s.sub = 0xFFFFFFFF then (match s.owner, s.work with | .wick _, _ => 160 | _, b :: _ => b.length | _, [] => 0) else 32 * 2 ^ (u.desc s.sub).sizeCode

/-- RING.POP and RING.TRY; entries go to tapers in the order in which they began to wait. `first` as a new instruction. -/
def Units.popNow (u : Units) (l : Nat) (t : Taper) (f : RFmt) (try_ first : Bool) : Units × TOut :=
  match (u.lt l).slot with
  | none => (u, .hold)
  | some n =>
    let s := u.slot n
    let a := t.gr f.a
    if !s.hasSub then (u, .trap 3 6 0xFF 0)
    else if a % 64 ≠ 0 || !(dataArea a (u.entryLen n)) then (u, .trap 3 4 0xFF a)
    else
      let others := s.popWait.filter fun x => x ≠ l
      let mine := if first then others.isEmpty else s.popWait.head? = some l
      match (if mine then u.popEntry n else none) with
      | some r => ((r.1.upSlot n fun s => { s with popWait := others }), .ok ((r.2.2 t).takeEntry f r.2.1))
      | none =>
        if try_ then (u, .ok (t.setG f.d 0))
        else ((if first then u.upSlot n fun s => { s with popWait := s.popWait ++ [l] } else u), .wait .pop)

/-- RING.POP. -/
def opRING_POP (l : Nat) (f : RFmt) (u : Units) : Units :=
  u.issueU l (encR 8 8 f) fun u t => legalRU u t f { d := .any, a := .any } (u.popNow l t f false true)

/-- RING_POP_RESUME. -/
def ringPopResume (l : Nat) (u : Units) : Units := u.resume l .pop fun w u t => u.popNow l t (decR w) false false

/-- RING.TRY. -/
def opRING_TRY (l : Nat) (f : RFmt) (u : Units) : Units :=
  u.issueU l (encR 8 9 f) fun u t => legalRU u t f { d := .any, a := .any } (u.popNow l t f true true)

/-- Stamp of a taper program (Table 19-1): class 7 and its slot; tenant programs at tenant privilege. -/
def PSlot.stamp (s : PSlot) (n : Nat) : Nat := mkStamp 7 n (if s.activity = 0xD then 1 else 2)

/-- A completion entry from its bytes (Table 19-4), under the program's stamp. -/
def completionOf (b : List Nat) (stamp : Nat) (phase : Bool) : Completion :=
  { tag := fieldAt b 0 4, code := fieldAt b 4 2, status := fieldAt b 6 2, detail := fieldAt b 8 8, result := fieldAt b 16 4, stamp := stamp,
    gen := fieldAt b 24 2, phase := phase }

/-- RING.PUSH: waits while the completion ring is full, and drops nothing (R231); `ecc` is what the read of the entry finds (R157). -/
def Units.pushNow (u : Units) (l ecc : Nat) (t : Taper) (f : RFmt) : Units × TOut :=
  match (u.lt l).slot with
  | none => (u, .hold)
  | some n =>
    let s := u.slot n
    let a := t.gr f.a
    if !s.hasComp then (u, .trap 3 6 0xFF 0)
    else if s.comp = 0xFFFFFFFF then
      let len := min 272 (0x50000 - a)
      if !(dataArea a 1) then (u, .trap 3 4 0xFF a)
      else match u.eccLoad l ecc a len (.ok t) with
        | (v, .next t j) => (v.upSlot n fun s => { s with done := s.done ++ [Memory.readAll t.mem a len] }, .next t j)
        | r => r
    else
      let d := u.desc s.comp
      let len := 32 * 2 ^ d.sizeCode
      if !(dataArea a len) then (u, .trap 3 4 0xFF a)
      else if !d.room then (u, .wait .push)
      else match u.eccLoad l ecc a len (.ok t) with
        | (v, .next t j) =>
          let b := Memory.readAll t.mem a len
          (v.produce s.comp (if d.kind = 1 then .completion (completionOf b (s.stamp n) d.phase) else .words b), .next t j)
        | r => r

/-- RING.PUSH. -/
def opRING_PUSH (l ecc : Nat) (f : RFmt) (u : Units) : Units :=
  u.issueU l (encR 8 0xA f) fun u t => legalRU u t f { a := .any } (u.pushNow l ecc t f)

/-- RING_PUSH_RESUME. -/
def ringPushResume (l ecc : Nat) (u : Units) : Units := u.resume l .push fun w u t => u.pushNow l ecc t (decR w)

/-! Streams (R159, R218-R220, R232) -/

/-- A descriptor's fields are in range (Table 7-5, Table 7-7). -/
def descOk (d : List Nat) (binds : Nat) : Bool :=
  let len := fieldAt d 12 4
  let n := fieldAt d 16 4
  let loc := fieldAt d 24 3
  d.getD 0 0 < binds && d.getD 1 0 ≤ 1 && d.getD 2 0 ≤ 1 && d.getD 3 0 = 0 && fieldAt d 4 8 % 64 = 0 && len % 64 = 0 && 64 ≤ len && len ≤ 262144
    && 1 ≤ n && fieldAt d 20 4 % 64 = 0 && loc % 64 = 0 && dataArea loc (len + (n - 1) * (64 * fieldAt d 28 2)) && d.getD 27 0 = 0 && fieldAt d 30 2 = 0

/-- Start a channel from its descriptor, or wait for the channel or the fingerprint source (R218, R219). -/
def Units.startNow (u : Units) (l : Nat) (t : Taper) (f : RFmt) : Units × TOut :=
  match (u.lt l).slot with
  | none => (u, .hold)
  | some n =>
    let d := Memory.readAll t.mem (0x5F000 + 32 * f.a) 32
    let fp := bitAt (d.getD 2 0) 0
    if (t.ch f.a).state = 1 || (fp && t.fpBusy) then (u, .wait .start)
    else
      let ok := descOk d (u.slot n).bind.length
      (u, .ok (t.setCh f.a { state := if ok then 1 else 3, status := if ok then 0 else St.BAD_PARAM, rows := 0, desc := d, poison := false }))

/-- STR.START. -/
def opSTR_START (l : Nat) (f : RFmt) (u : Units) : Units :=
  u.issueU l (encR 9 0 f) fun u t => legalRU u t f { a := .imm 7 } (u.startNow l t f)

/-- STR_START_RESUME. -/
def strStartResume (l : Nat) (u : Units) : Units := u.resume l .start fun w u t => u.startNow l t (decR w)

/-- Status word of a channel (Table 7-6). -/
def Chan.word (c : Chan) : Nat := c.status + c.state * 2 ^ 16 + c.rows * 2 ^ 32

/-- Take the memory fault of a channel that read poison, once per start (R232): the poison mark goes with the fault. -/
def Units.poisonFault (u : Units) (l : Nat) (t : Taper) (k : Nat) : Units × TOut :=
  (u.setTaper l { t with chan := NMap.put t.chan Chan.reset k { t.ch k with poison := false } }, .trap 2 4 k 0)

/-- STR.WAIT and STR.WAITALL over channels `ks`; `one` writes gD. -/
def Units.waitNow (u : Units) (l : Nat) (t : Taper) (f : RFmt) (all : Bool) : Units × TOut :=
  let ks := if all then List.range 8 else [f.a]
  if ks.any fun k => (t.ch k).state = 1 then (u, .wait .wait)
  else match ks.find? fun k => (t.ch k).poison with
    | some k => u.poisonFault l t k
    | none => (u, .ok (if all then t else t.setG f.d (t.ch f.a).word))

/-- STR.WAIT. -/
def opSTR_WAIT (l : Nat) (f : RFmt) (u : Units) : Units :=
  u.issueU l (encR 9 1 f) fun u t => legalRU u t f { d := .any, a := .imm 7 } (u.waitNow l t f false)

/-- STR.TEST. -/
def opSTR_TEST (l : Nat) (f : RFmt) (u : Units) : Units :=
  u.issue l (encR 9 2 f) fun t => t.legalR f { d := .any, a := .imm 7 } (.ok (t.setG f.d (t.ch f.a).word))

/-- STR.WAITALL. -/
def opSTR_WAITALL (l : Nat) (f : RFmt) (u : Units) : Units :=
  u.issueU l (encR 9 3 f) fun u t => legalRU u t f {} (u.waitNow l t f true)

/-- STR_WAIT_RESUME. -/
def strWaitResume (l : Nat) (u : Units) : Units := u.resume l .wait fun w u t => u.waitNow l t (decR w) (bits w 11 4 = 3)

end Sys2Proof.Machine
end

