-- ==== Sys2Proof/Machine/ShadowProg.lean ====
section
/-!
DEFINITION. Programs of the shadow optimizer on the grid (11): registration, qualification, loading of a job's instance, completions.
-/
namespace Sys2Proof.Machine

/-- Images that follow one another from an offset and name one program (R284: every variant in the image table): tapers and offset. -/
def variantsAt (m : Mem) (u : Units) (idx act prog : Nat) : Nat → Nat → List (Nat × Nat)
  | 0, _ => []
  | k + 1, off =>
    let h := memGetAt m u idx off 256
    if imageCheck m u idx off = St.OK && h.getD 6 0 = act && fieldAt h 16 2 = prog then
      (fieldAt h 8 2, off) :: variantsAt m u idx act prog k (off + (fieldAt h 28 4 + 63) / 64 * 64)
    else []

/-- Taper counts of a variant list as Table 11-2 packs them. -/
def variantBits (l : List (Nat × Nat)) : Nat :=
  (List.range 8).foldl (fun a k => if l.any fun v => v.1 = 64 * (k + 1) then setBit a k else a) 0

/-- The layout declaration of a customer program (R284) is present. -/
def layoutOk (d : List Nat) : Bool :=
  let c := d.getD 0 0
  1 ≤ c && c ≤ 16 && ((d.drop 1).take c).all (fun f => 1 ≤ f && f ≤ 5) && ((d.drop (1 + c)).take (16 - c)).all (· = 0) && d.getD 17 0 ≤ 1
    && (d.drop 18).all (· = 0)

/-- SHADOW_REGISTER (0x0607, R268, R269, R284): the signature has been checked. -/
def shadowRegister (c : Sys2Proof.Cmd) (region off : Nat) (signatureOk : Bool) (m : Mem) (u : Units) : Mem × Units :=
  let no := fun s => (m, u.done c 0x060 0x0607 s)
  let h := memGetAt m u region off 256
  let st := imageCheck m u region off
  let id := fieldAt h 16 2
  if !(isOperator (stampPriv c.stamp)) then no St.NOT_PRIVILEGED
  else if !(match NMap.find u.mantle.regions region with | some r => r.typ = 8 | none => false) then no St.BAD_PARAM
  else if st ≠ St.OK then no st
  else match imageBytes m u region off 1 0x5EF00 32 with
    | none => no St.BAD_PARAM
    | some d =>
      if h.getD 6 0 ≠ 8 || id < 0x100 || id = 0xFFFF || (u.progOf id).isSome || !(layoutOk d) then no St.BAD_PARAM
      else if !signatureOk then no St.SIGNATURE_INVALID
      else match NMap.firstFree u.wick.progs 16 with
        | none => no St.BAD_STATE
        | some k =>
          let e : ProgEntry :=
            { id := id, version := fieldAt h 18 2, flags := 24 + 32 * (d.getD 17 0), comps := d.getD 0 0, region := region, offset := off,
              tapers := variantBits (variantsAt m u region 8 id 8 off), fmts := (d.drop 1).take (d.getD 0 0) }
          (m, (u.upW fun w => { w with progs := NMap.set w.progs k e }).done c 0x060 0x0607 St.OK 0 k)

/-! Instances (R271, R272) -/

/-- A placement for `k` tapers in groups of 64 can be found now. -/
def Units.placeable (u : Units) (n : Nat) : Bool := (autoPlace (n / 64) 64 ((List.range 512).filter u.freeTaper)).isSome

/-- Load the instance of a job: the variant with the most tapers that placement accepts; none leaves the job waiting (R272). -/
def loadInstance (job : Nat) (m : Mem) (u : Units) : Units :=
  match (u.jobB job).bind fun j => u.progOf j.prog with
  | none => u
  | some p =>
    let vs := variantsAt m u p.region 8 p.id 8 p.offset
    let best := (vs.filter fun v => u.placeable v.1).foldl (fun (o : Option (Nat × Nat)) v =>
      match o with | some b => if b.1 < v.1 then some v else some b | none => some v) none
    let no := (u.upInst job fun i => { i with state := 1 }).raise Ev.SHADOW_NO_GRID 2 0x060 0
    match best with
    | none => no
    | some v =>
      let t := (NMap.getD u.wick.params job ([], 0xFFFF)).2
      let n := (memGetAt m u p.region v.2 256).getD 14 0
      let u := if t = 0xFFFF then u else u.setMantle { u.mantle with regions := NMap.upd u.mantle.regions t fun r => { r with mask := setBit r.mask (2 * Ag.grid) } }
      let binds := [0xFFFF, 0xFFFF, 0xFFFF, t] ++ List.replicate (n - 4) 0xFFFF
      let r := u.loadInto m p.region v.2 job none 0xFFFFFFFF 0xFFFFFFFF binds (.wick job) { code := 0x0501, cmd := none }
      if r.2 = St.OK then r.1 else no

/-- The load of a job's instance ended: the parameter block is written and the program starts, or the job waits (R271, R272). -/
def Units.instLoaded (u : Units) (job slot status : Nat) : Units :=
  if status ≠ St.OK then (u.upInst job fun i => { i with state := 1 }).raise Ev.SHADOW_NO_GRID 2 0x060 0
  else if (u.inst job).state = 0 then u.later (.gridUnload slot)
  else
    let b := (NMap.getD u.wick.params job ([], 0)).1
    let u := (u.slot slot).place.foldl (fun u l => u.upTaper l fun t => { t with mem := t.mem.writeAll 0x5C000 b }) u
    (u.slotCmd slot { code := 0x0502, cmd := none }).upInst job fun i => { i with state := 2, slot := slot, queue := [], running := [] }

/-! Qualification (R285) -/

/-- Vector count, key, E and parameter block of a vector set (Table 11-11). -/
def setHeader (m : Mem) (u : Units) (set : Nat) : Nat × Nat × Nat × List Nat :=
  let h := memGetAt m u set 0 276
  (fieldAt h 0 4, fieldAt h 4 8, fieldAt h 12 8, h.drop 20)

/-- Vector `k` of a set: parameters, first index, offsets of state, gradient and step record, expected fingerprint, gradient format. -/
def setVector (m : Mem) (u : Units) (set k : Nat) : List Nat :=
  let v := memGetAt m u set (288 + 64 * k) 64
  [fieldAt v 0 8, fieldAt v 8 8, fieldAt v 16 8, fieldAt v 24 8, fieldAt v 32 8, fieldAt v 40 8, v.getD 48 0]

/-- End a qualification: its slot, regions and tapers return, and the command completes. -/
def Units.qualEnd (u : Units) (q : Qualify) (status detail : Nat) : Units :=
  let u := if q.slot < 64 then u.later (.gridUnload q.slot) else u
  let u := (u.freeRegion q.buddy).freeRegion q.staging
  let good := status = St.OK
  (u.upW fun w =>
    { w with qualify := none,
             progs := NMap.mapV w.progs fun _ p => if good && p.id = q.prog then { p with flags := p.flags ||| 2 } else p }).done q.cmd 0x060 0x0609 status detail

/-- Run the vector that is next: its state and gradient go into the scratch regions and its item to the program; after the last one the
program qualifies. -/
def qualNext (m : Mem) (u : Units) (q : Qualify) : Mem × Units :=
  let h := setHeader m u q.set
  match u.progOf q.prog with
  | none => (m, u.qualEnd q St.BAD_PARAM 0)
  | some p =>
    if h.1 ≤ q.vec then (m, u.qualEnd q St.OK 0)
    else
      let v := setVector m u q.set q.vec
      let n := v.getD 0 0
      let fmt := v.getD 6 0
      let r := memGetAt m u q.set (v.getD 4 0) 96
      let m := memPutAt m u q.buddy 0 (memGetAt m u q.set (v.getD 2 0) (4096 * layoutBlocks n p.fmts))
      let m := memPutAt m u q.staging 0 (memGetAt m u q.set (v.getD 3 0) (n * fmtWidth fmt))
      let u := (u.cureAt q.buddy 0 (4096 * layoutBlocks n p.fmts)).cureAt q.staging 0 (n * fmtWidth fmt)
      let b := itemBytes (fieldAt r 0 8) (fieldAt r 8 4) 0 0 0 fmt 0 n 0 n (v.getD 1 0) h.2.2.1 r
      (m, (u.upW fun w => { w with qualify := some q }).upSlot q.slot fun s => { s with work := [b] })

/-- SHADOW_QUALIFY (0x0609): loads the smallest variant outside any job. -/
def shadowQualify (c : Sys2Proof.Cmd) (prog set : Nat) (m : Mem) (u : Units) : Mem × Units :=
  let no := fun (u : Units) s => (m, u.done c 0x060 0x0609 s)
  if !(isOperator (stampPriv c.stamp)) then no u St.NOT_PRIVILEGED
  else match u.progOf prog with
    | none => no u St.BAD_PARAM
    | some p =>
      let h := setHeader m u set
      let ns := (List.range h.1).map fun k => (setVector m u set k).getD 0 0
      let bad := h.1 = 0 || 4096 < h.1 || ns.any fun n => n = 0 || n % 4096 ≠ 0 || 2 ^ 24 < n
      if !(match NMap.find u.mantle.regions set with | some r => r.typ = 8 | none => false) || bad then no u St.BAD_PARAM
      else if u.wick.qualify.isSome then no u St.BUSY_RETRY
      else
        let vs := variantsAt m u p.region 8 p.id 8 p.offset
        let least := vs.foldl (fun (o : Option (Nat × Nat)) v => match o with | some b => if v.1 < b.1 then some v else some b | none => some v) none
        let n := ns.foldl max 0
        let a := u.allocRegion (wickRegion 2 0) (4096 * layoutBlocks n p.fmts)
        match least, a.2 with
        | some v, some b =>
          let g := a.1.allocRegion (wickRegion 3 0) (4 * n)
          match g.2 with
          | none => no u St.MANTLE_FULL
          | some s =>
            let k := (memGetAt m u p.region v.2 256).getD 14 0
            let r := g.1.loadInto m p.region v.2 0 none 0xFFFFFFFF 0xFFFFFFFF (List.replicate (max 4 k) 0xFFFF) .qualify { code := 0x0501, cmd := none }
            if r.2 = St.OK then
              (m, r.1.upW fun w => { w with qualify := some { cmd := c, prog := prog, set := set, slot := 64, buddy := b, staging := s, vec := 0 } })
            else no u r.2
        | none, _ => no u St.BAD_PARAM
        | _, none => no u St.MANTLE_FULL

/-- The load of a qualification ended. -/
def qualLoaded (slot status : Nat) (m : Mem) (u : Units) : Mem × Units :=
  match u.wick.qualify with
  | none => (m, u.later (.gridUnload slot))
  | some q =>
    if status ≠ St.OK then (m, u.qualEnd q status 0)
    else
      let blk := (setHeader m u q.set).2.2.2
      let u := (u.slot slot).place.foldl (fun u l => u.upTaper l fun t => { t with mem := t.mem.writeAll 0x5C000 blk }) u
      qualNext m (u.slotCmd slot { code := 0x0502, cmd := none }) { q with slot := slot }

/-- Fingerprint of a vector's state as it stands in the scratch region. -/
def qualFp (m : Mem) (u : Units) (q : Qualify) (p : ProgEntry) : Nat :=
  let h := setHeader m u q.set
  let v := setVector m u q.set q.vec
  let n := v.getD 0 0
  sumL ((List.range (layoutBlocks n p.fmts)).map fun b =>
    fpLayout h.2.1 h.2.2.1 (v.getD 1 0) n p.fmts b (memGetAt m u q.buddy (4096 * b) 4096)) % fpP

/-- A vector's completion (R285): its fingerprint and the stored state's must equal the expected one. -/
def qualItem (kind fp : Nat) (m : Mem) (u : Units) : Mem × Units :=
  match u.wick.qualify with
  | none => (m, u)
  | some q =>
    match u.progOf q.prog with
    | none => (m, u.qualEnd q St.BAD_PARAM 0)
    | some p =>
      let want := (setVector m u q.set q.vec).getD 5 0
      if kind = 0 && fp = want && qualFp m u q p = want then qualNext m u { q with vec := q.vec + 1 }
      else (m, u.qualEnd q St.INTEGRITY_FINGERPRINT q.vec)

/-- SHADOW_COMPLETION (R275, R285): of a job's item, else of the vector that a qualification runs. -/
def shadowCompletion (shard step item kind _reason taper fp _beats : Nat) (m : Mem) (u : Units) : Mem × Units :=
  let slot := match u.shKey shard with
    | some k => some (u.inst (u.shAt k).job).slot
    | none => u.wick.qualify.map (·.slot)
  let u := match slot with | some n => if n < 64 then u.upSlot n fun s => { s with done := s.done.drop 1 } else u | none => u
  if (u.shKey shard).isSome then shadowItem shard step item kind taper fp m u
  else match u.wick.qualify with
    | some q => if q.slot < 64 then qualItem kind fp m u else (m, u)
    | none => (m, u)

/-- A load of the grid ended (R163): its owner goes on. -/
def gridLoaded (slot status : Nat) (m : Mem) (u : Units) : Mem × Units :=
  match (u.slot slot).owner with
  | .wick job => (m, u.instLoaded job slot status)
  | .flicker => (m, u.modelLoaded slot status)
  | .qualify => qualLoaded slot status m u
  | _ => (m, u)

end Sys2Proof.Machine
end

