-- ==== Sys2Proof/Machine/Ember.lean ====
section
/-!
DEFINITION. Ember (15_ember_stand_in): expert tables, stand-ins, routes, token sets, batches and hand-back.
-/
namespace Sys2Proof.Machine

/-- Change Ember. -/
def Units.upE (u : Units) (f : Ember → Ember) : Units := { u with ember := f u.ember }

/-- Change a stand-in entry. -/
def Units.upEntry (u : Units) (k : Nat) (f : StandIn → StandIn) : Units := u.upE fun x => { x with entries := NMap.upd x.entries k f }

/-- EMBER_CFG fields: BATCH_MAX. -/
def Units.batchMax (u : Units) : Nat := bits (u.cfg 0xE03008 (50 + 64 * 2 ^ 10 + 5 * 2 ^ 18 + 20 * 2 ^ 24)) 17 10

/-! Expert tables (R365, R366) -/

/-- Bytes of one matrix of `n` weights, rounded to 4 KiB; MXFP4 scales follow on their own boundary. -/
def matBytes (fmt n : Nat) : Nat :=
  let up := fun b => (b + 4095) / 4096 * 4096
  if fmt = 7 then up (n / 2) + up (n / 32) else if fmt = 2 then up (2 * n) else up n

/-- Bytes an expert's matrices take from its weight offset. -/
def Expert.bytes (e : Expert) : Nat := (if e.act ≤ 1 then 3 else 2) * matBytes e.fmt (e.dModel * e.dFf)

/-- A descriptor keeps within Table 15-2 and its matrices within `len` bytes. -/
def Expert.ok (e : Expert) (len : Nat) : Bool :=
  bits e.tag 31 28 = 2 && [2, 4, 5, 7].contains e.fmt && e.act ≤ 3 && e.dModel % 64 = 0 && 64 ≤ e.dModel && e.dModel ≤ 16384 && e.dFf % 64 = 0
    && 64 ≤ e.dFf && e.dFf ≤ 32768 && e.off % 4096 = 0 && e.off + e.bytes ≤ len

/-- A descriptor from its bytes; none when a reserved byte is set. -/
def expertOf (b : List Nat) : Option Expert :=
  if fieldAt b 6 2 = 0 && fieldAt b 12 4 = 0 && fieldAt b 24 8 = 0 then
    some { tag := fieldAt b 0 4, fmt := b.getD 4 0, act := b.getD 5 0, dModel := fieldAt b 8 2, dFf := fieldAt b 10 2, off := fieldAt b 16 8 }
  else none

/-- Load an Ember instance: the variant with the most tapers that placement accepts (R367). -/
def emberLoad (m : Mem) (u : Units) : Option Units :=
  let i := u.ember.image
  let h := memGetAt m u i.1 i.2 256
  let vs := if imageCheck m u i.1 i.2 = St.OK && h.getD 6 0 = 11 then variantsAt m u i.1 11 (fieldAt h 16 2) 8 i.2 else []
  let best := (vs.filter fun v => u.placeable v.1).foldl (fun (o : Option (Nat × Nat)) v =>
    match o with | some b => if b.1 < v.1 then some v else some b | none => some v) none
  match best with
  | none => none
  | some v =>
    let n := (memGetAt m u i.1 v.2 256).getD 14 0
    let r := u.loadInto m i.1 v.2 0 none 0xFFFFFFFF 0xFFFFFFFF (List.replicate n 0xFFFF) (.ember 0) { code := 0x0501, cmd := none }
    if r.2 = St.OK then some (r.1.upE fun x => { x with inst := 1 }) else none

/-- A stand-in of the shard: its entry. -/
def Ember.entryOf (x : Ember) (shard : Nat) : Option (Nat × StandIn) := x.entries.find? fun e => e.2.shard = shard

/-- EMBER_BIND (0x0B01, R365): applied here and carried to the shard's other T3. -/
def emberBind (c : Sys2Proof.Cmd) (job shard count addr : Nat) (m : Mem) (u : Units) : Mem × Units :=
  let no := fun s => (m, u.done c 0x0E0 0x0B01 s)
  if !(isOperator (stampPriv c.stamp)) then no St.NOT_PRIVILEGED
  else match u.shKey shard, u.jobB job with
    | some k, some j =>
      let s := u.shAt k
      let bs := (List.range count).map fun i => m.bytesAt (addr + 32 * i) 32
      let es := bs.filterMap expertOf
      if j.mode ≠ 2 || s.job ≠ job || count = 0 || 64 < count || !(u.mayAccess Ag.grid addr (32 * count) false) || es.length ≠ count
          || !(es.all fun e => e.ok (4096 * s.layout)) || !((es.map (·.tag)).Nodup) then no St.BAD_PARAM
      else if s.prot ≠ 0 then no St.BAD_STATE
      else
        let active := (u.ember.entryOf shard).isSome
        let old := NMap.find u.ember.tables shard
        let t : EmbTable := match active, old with
          | true, some o => { o with next := some es }
          | _, _ => { job := job, experts := es, next := none }
        let u := u.upE fun x => { x with tables := NMap.set x.tables shard t }
        let other := if s.isBuddy then u.servedBy ((s.members.getD s.writer (0, 0)).1) else s.buddy
        let u := if other = 0 || other = u.self then u else u.emit (.bus 21 ([other, job, shard] ++ bs.flatten))
        let u := if s.isBuddy && bitAt (u.cfg 0xE03000 1) 1 && u.ember.inst = 0 then (emberLoad m u).getD u else u
        (m, u.done c 0x0E0 0x0B01 St.OK)
    | _, _ => no St.BAD_PARAM

/-! Sending (R368, R370, R372) -/

/-- Cut the bytes after a set's header into messages of at most 4,096: the last has the continuation flag clear. -/
def cutSet : Nat → List Nat → List (List Nat × Bool)
  | 0, l => [(l, false)]
  | k + 1, l => if l.length ≤ 4096 then [(l, false)] else (l.take 4096, true) :: cutSet k (l.drop 4096)

/-- Bytes of a set in messages. -/
def setMsgs (l : List Nat) : List (List Nat × Bool) := cutSet l.length l

/-- EMBER_RESULT to the Igtan block of a dispatcher. -/
def Units.embAnswer (u : Units) (p ctx hseq tag seq k status set : Nat) (vecs : List Nat) : Units :=
  (setMsgs vecs).foldl (fun u x =>
    u.sendS p 0x1B ctx (1 + 2 * b2n x.2) hseq (32 + x.1.length) ([tag, seq, k, status, set, 1] ++ x.1)) u

/-- Routes go to the Igtan blocks that host watched contexts of the job, and are remembered by the member T3. -/
def Units.memberRoute (u : Units) (r : EmbRoute) : Units :=
  let ports := (List.range 16).filter fun p => (u.jobsOn p 0xFF).contains r.job
  let u := ports.foldl (fun u p => u.igSend p 0x19 0xFF (16 + 4 * r.tags.length) ([r.mode, r.tags.length, r.cid, r.ctx, r.seq] ++ r.tags)) u
  if u.ember.routes.any fun x => x.cid = r.cid && x.ctx = r.ctx && r.seq < x.seq then u
  else u.upE fun x => { x with routes := (x.routes.filter fun y => !(y.cid = r.cid && y.ctx = r.ctx)) ++ [r] }

/-- Payload of EMB_CTL (Table 15-5). -/
def embCtl (op : Nat) (r : EmbRoute) (status : Nat) : List Nat :=
  [op, r.mode, r.tags.length, r.job, r.shard, r.cid, r.ctx, r.seq, status] ++ (if op = 2 then r.tags else [])

/-- Bytes of an EMB_CTL payload. -/
def embLen (op : Nat) (r : EmbRoute) : Nat := if op = 2 then 32 + 4 * r.tags.length else 32

/-- The keeper distributes a route to every member T3 of the job (R368). -/
def Units.distribute (u : Units) (r : EmbRoute) : Units :=
  (NMap.getD u.vig.jobT3s r.job []).foldl (fun u d => if d = u.self then u.memberRoute r else u.reqL d 0x5C (embLen 2 r) 2 (embCtl 2 r 0)) u

/-- A route at the keeper: a stand-in route waits for the notice of its failure. -/
def Units.keeperRoute (u : Units) (r : EmbRoute) : Units :=
  if r.mode = 0 && !(u.ember.noticed.contains (r.cid, r.job)) then u.upE fun x => { x with held := x.held ++ [r] }
  else if r.mode = 0 then u.distribute r
  -- a later failure of the position has a notice of its own; a stand-in route that never went out is not sent after it
  else (u.upE fun x =>
    { x with noticed := x.noticed.filter (· ≠ (r.cid, r.job)), held := x.held.filter fun y => !(y.cid = r.cid && y.job = r.job && y.seq < r.seq) }).distribute r

/-- The notice of a failure went out: routes that waited for it follow. -/
def Units.noticed (u : Units) (cid job : Nat) : Units :=
  let mine := u.ember.held.filter fun r => r.cid = cid && r.job = job
  let u := u.upE fun x => { x with held := x.held.filter (fun r => !(r.cid = cid && r.job = job)), noticed := (cid, job) :: x.noticed.erase (cid, job) }
  mine.foldl (fun u r => u.distribute r) u

/-- Send a route to the job's keeper, queued while there is none (R40). -/
def Units.routeUp (u : Units) (r : EmbRoute) : Units :=
  if u.isKeeper then u.keeperRoute r else u.toRole u.role.keeperId 0x5C (embLen 2 r) (embCtl 2 r 0)

/-- EMBER_REFUSED (R364). -/
def Units.embRefused (u : Units) (reason cid shard : Nat) : Units :=
  (u.count 0xE03120).raise Ev.EMBER_REFUSED 2 0x0E0 (payloadOf [(0, 1, reason), (1, 3, cid), (4, 4, shard)])

/-! Starting (R362, R368) -/

/-- The buddy's region of a shard is current and verified (R259). -/
def Shard.regionGood (s : Shard) : Bool := s.isBuddy && s.prot = 0 && s.curStep.isSome

/-- Answer of the buddy: OK with a route, or a refusal. -/
def Units.startAnswer (u : Units) (r : EmbRoute) (origin status : Nat) (here : Units → Units) : Units :=
  if origin = u.self then here u else u.answerL origin 0x5C 0 32 2 (embCtl 3 r status)

/-- Cap of R363 from this T3's own standing orders. -/
def Units.embCap (u : Units) (job : Nat) : Nat :=
  match u.role.soPick fun e => (e.hits Ev.EMBER_CANDIDATE 1 job || e.hits Ev.EMBER_CANDIDATE 0 job) && e.action = 9 with
  | some e => e.a % 65536
  | none => 0

/-- What the position's T3 does with the ack (R368 step 3). -/
def Units.startAck (u : Units) (r : EmbRoute) (status : Nat) : Units :=
  if status = St.OK then u.routeUp { r with mode := 0, tags := match NMap.find u.ember.tables r.shard with | some t => t.experts.map (·.tag) | none => r.tags }
  else u.embRefused status r.cid r.shard

/-- A stand-in becomes ACTIVE under the next sequence, and the position's T3 hears of it. -/
def Units.standIn (u : Units) (k : Nat) : Units :=
  match NMap.find u.ember.entries k with
  | none => u
  | some e =>
    let n := wrapW 32 (u.ember.seq + 1)
    let u := (u.upE fun x => { x with seq := n }).count 0xE03100
    let u := u.upEntry k fun e => { e with state := 2, seq := n, start := u.now }
    let tags := match NMap.find u.ember.tables e.shard with | some t => t.experts.map (·.tag) | none => []
    let r : EmbRoute := { job := e.job, shard := e.shard, cid := e.cid, ctx := e.ctx, seq := n, mode := 0, tags := tags }
    u.startAnswer r e.origin St.OK fun u => u.startAck r St.OK

/-- First condition of R362 that fails at the buddy (Table 15-1). -/
def embReason (m : Mem) (u : Units) (job shard : Nat) : Option Nat :=
  let no9 := (List.range 16).any fun p => (u.jobsOn p 0xFF).contains job && !(bitAt (u.ig p).features 9)
  match NMap.find u.ember.tables shard with
  | none => some 1
  | some _ =>
    if !(u.withSh shard false fun _ s j => s.regionGood && j.mode = 2) then some 2
    else if no9 then some 3
    else if !u.ember.enable then some 4
    else if (NMap.firstFree u.ember.entries 16).isNone then some 5
    else if u.ember.inst = 0 && (emberLoad m u).isNone then some 6
    else none

/-- EMB_CTL start at the buddy (R368 step 2). -/
def embStart (m : Mem) (u : Units) (origin job shard cid ctx : Nat) : Mem × Units :=
  let r : EmbRoute := { job := job, shard := shard, cid := cid, ctx := ctx, seq := 0, mode := 0, tags := [] }
  match embReason m u job shard with
  | some x => (m, u.startAnswer r origin x fun u => u.startAck r x)
  | none =>
    let u := if u.ember.inst = 0 then (emberLoad m u).getD u else u
    match NMap.firstFree u.ember.entries 16 with
    | none => (m, u)
    | some k =>
      let e : StandIn := { job := job, shard := shard, cid := cid, ctx := ctx, origin := origin, state := 1, seq := 0, start := 0, cap := u.embCap job, taken := [],
                           queue := [], served := 0, stops := [], unbind := false }
      let u := u.upE fun x => { x with entries := NMap.set x.entries k e }
      (m, if u.ember.inst = 2 then u.standIn k else u)

/-- EMBER_CANDIDATE (R363): a contained position with Ember experts bound. -/
def Units.emberCandidate (u : Units) (p ctx : Nat) : Units :=
  let cid := u.cidOf p
  let mine := u.wick.shards.filter fun e => NMap.has u.ember.tables e.2.shard && (e.2.members.any fun m => m.1 = cid && (ctx = 0xFF || m.2 = ctx))
  mine.foldl (fun u e =>
    let c := match e.2.members.find? fun m => m.1 = cid with | some m => m.2 | none => ctx
    u.raise Ev.EMBER_CANDIDATE (if ctx = 0xFF then 1 else 0) 0x0E0 0 []
      { Target.none with job := e.2.job, cid := cid, port := p, ctx := c, shard := e.2.shard }) u

/-- EMBER_STAND_IN at the position's T3 (R368 step 1): only a fenced position. -/
def actEmber (t : Target) (m : Mem) (u : Units) : Mem × Units :=
  match u.shKey t.shard with
  | none => (m, u.embRefused 1 t.cid t.shard)
  | some k =>
    let s := u.shAt k
    let r : EmbRoute := { job := s.job, shard := s.shard, cid := t.cid, ctx := t.ctx, seq := 0, mode := 0, tags := [] }
    if !(u.fenced t.port) then (m, u)
    else if !(NMap.has u.ember.tables t.shard) then (m, u.embRefused 1 t.cid t.shard)
    else if s.prot ≠ 0 then (m, u.embRefused 2 t.cid t.shard)
    else if s.buddy = u.self then embStart m u u.self s.job s.shard t.cid t.ctx
    else if (u.hop s.buddy).isNone then (m, u.embRefused 7 t.cid t.shard)
    else (m, u.reqL s.buddy 0x5C 32 2 (embCtl 0 r 0))

/-- EMB_CTL_START. -/
def embCtlStart (h : Sys2Proof.LHdr) (job shard cid ctx : Nat) (m : Mem) (u : Units) : Mem × Units :=
  if u.lanternDrops h then (m, u.recvL h 0x5C 0 fun u => u) else embStart m u h.src job shard cid ctx

/-- EMB_CTL_ACK (R368 step 3). -/
def embCtlAck (h : Sys2Proof.LHdr) (job shard cid ctx seq status : Nat) (u : Units) : Units :=
  u.recvL h 0x5C 0 fun u => u.startAck { job := job, shard := shard, cid := cid, ctx := ctx, seq := seq, mode := 0, tags := [] } status

/-- EMB_CTL_ROUTE (R368 steps 4 and 5): the keeper distributes it, a member forwards it. -/
def embCtlRoute (h : Sys2Proof.LHdr) (mode job shard cid ctx seq : Nat) (tags : List Nat) (u : Units) : Units :=
  u.recvL h 0x5C 0 fun u =>
    let r : EmbRoute := { job := job, shard := shard, cid := cid, ctx := ctx, seq := seq, mode := mode, tags := tags }
    if u.isKeeper then u.keeperRoute r else u.memberRoute r

/-! Ending (R376, R377) -/

/-- The entry enters ENDING. -/
def Units.embEnding (u : Units) (k : Nat) : Units := u.upEntry k fun e => { e with state := 3 }

/-- The buddy ends a stand-in (R377): the keeper distributes the direct route. -/
def Units.embEnd (u : Units) (k : Nat) : Units :=
  match NMap.find u.ember.entries k with
  | some e =>
    if e.state = 3 then u
    else
      let tags := match NMap.find u.ember.tables e.shard with | some t => t.experts.map (·.tag) | none => []
      (u.embEnding k).routeUp { job := e.job, shard := e.shard, cid := e.cid, ctx := e.ctx, seq := e.seq + 1, mode := 1, tags := tags }
  | none => u

/-- EMB_CTL_STOP (R376). -/
def embCtlStop (h : Sys2Proof.LHdr) (job shard cid ctx _seq : Nat) (u : Units) : Units :=
  u.recvL h 0x5C 0 fun u =>
    match u.ember.entries.find? fun e => e.2.shard = shard && e.2.job = job && e.2.cid = cid && e.2.ctx = ctx with
    | some e => u.embEnding e.1
    | none => u

/-- The recovery resumes (R376): direct routes one sequence higher, and EMB_CTL stop from the position's T3. -/
def Units.emberDirect (u : Units) (job : Nat) (cids : List Nat) : Units :=
  let mine := u.ember.routes.filter fun r => r.job = job && r.mode = 0 && cids.contains r.cid
  mine.foldl (fun u r =>
    let u := u.memberRoute { r with mode := 1, seq := r.seq + 1 }
    match u.shKey r.shard with
    | some k =>
      let s := u.shAt k
      if (u.portOf r.cid).isNone then u
      else if s.buddy = u.self then
        (match u.ember.entries.find? fun e => e.2.shard = r.shard && e.2.cid = r.cid && e.2.ctx = r.ctx with | some e => u.embEnding e.1 | none => u)
      else u.reqL s.buddy 0x5C 32 2 (embCtl 1 r 0)
    | none => u) u

/-- EMBER_STOP (0x0B03). -/
def emberStop (c : Sys2Proof.Cmd) (job shard : Nat) (u : Units) : Units :=
  u.operator c 0x0E0 0x0B03 fun u =>
    match u.ember.entryOf shard with
    | some e =>
      if e.2.job ≠ job then u.done c 0x0E0 0x0B03 St.BAD_STATE
      else (u.upEntry e.1 fun x => { x with stops := x.stops ++ [(0x0B03, c)] }).embEnd e.1
    | none => u.done c 0x0E0 0x0B03 St.BAD_STATE

/-- No table is bound: a preloaded instance goes (R367). -/
def Units.embIdle (u : Units) : Units :=
  if u.ember.tables.isEmpty && u.ember.entries.isEmpty && u.ember.inst = 2 then (u.upE fun x => { x with inst := 0 }).later (.gridUnload u.ember.slot) else u

/-- EMBER_UNBIND (0x0B02): completes once any stand-in of the shard has ended. -/
def emberUnbind (c : Sys2Proof.Cmd) (job shard : Nat) (u : Units) : Units :=
  u.operator c 0x0E0 0x0B02 fun u =>
    match NMap.find u.ember.tables shard with
    | none => u.done c 0x0E0 0x0B02 St.BAD_PARAM
    | some t =>
      if t.job ≠ job then u.done c 0x0E0 0x0B02 St.BAD_PARAM
      else match u.ember.entryOf shard with
        | some e => (u.upEntry e.1 fun x => { x with stops := x.stops ++ [(0x0B02, c)], unbind := true }).embEnd e.1
        | none => ((u.upE fun x => { x with tables := NMap.del x.tables shard }).embIdle).done c 0x0E0 0x0B02 St.OK

/-- EMBER_ENABLE_CLEAR (R377, R144). -/
def emberEnableClear (w : Sys2Proof.Who) (u : Units) : Units :=
  if !(isOperator w.priv) || !u.ember.enable then u
  else
    let d : Drain := { unit := 0x0E, items := u.ember.entries.length, enableHeld := false }
    let u : Units := { u.upE (fun x => { x with enable := false, draining := true }) with drains := u.drains ++ [d] }
    u.ember.entries.foldl (fun u e => u.embEnd e.1) u

/-- Stand-ins whose buddy region is no longer current and verified end (R377). -/
def Units.emberCheck (u : Units) : Units :=
  u.ember.entries.foldl (fun u e => if e.2.state = 2 && !(u.withSh e.2.shard false fun _ s _ => s.regionGood) then u.embEnd e.1 else u) u

/-! Token sets -/

/-- A result at the member T3 (R372): to the Igtan block; one that comes too late is stale. -/
def Units.embResult (u : Units) (src tag seq k status set : Nat) (vecs : List Nat) (more : Bool) : Option Units :=
  match u.ember.fwds.find? fun f => f.buddy = src && f.tag = tag && f.seq = seq && f.set = set with
  | none => none
  | some f =>
    let u := u.sendS f.port 0x1B f.ctx (1 + 2 * b2n more) f.hseq (32 + vecs.length) ([tag, seq, k, status, set, 1] ++ vecs)
    some (if more then u else u.upE fun x => { x with fwds := x.fwds.filter (· ≠ f) })

/-- The buddy answers a set. -/
def Units.embReply (u : Units) (s : TokSet) (status : Nat) (vecs : List Nat) : Units :=
  let u := if status = St.BUSY_RETRY then u.count 0xE03110 else if status = St.CANCELLED_BY_DISABLE then u.count 0xE03118 else u
  (setMsgs vecs).foldl (fun u x =>
    if s.src = u.self then (u.embResult u.self s.tag s.seq s.refs.length status s.set x.1 x.2).getD u
    else u.reqL s.src 0x5E (32 + x.1.length) 2 ([s.tag, s.seq, s.refs.length, status, s.set, 1] ++ x.1)) u

/-- Tokens queued at a stand-in. -/
def StandIn.queued (e : StandIn) : Nat := sumL (e.queue.map fun s => s.refs.length)

/-- A whole set at the buddy (R370): queued under its expert, or answered. -/
def Units.embQueue (u : Units) (s : TokSet) : Units :=
  match u.ember.entries.find? fun e => e.2.seq = s.seq && 2 ≤ e.2.state && (match NMap.find u.ember.tables e.2.shard with
      | some t => t.experts.any fun x => x.tag = s.tag | none => false) with
  | none => u.embReply s St.STALE_GENERATION []
  | some e =>
    let t := e.2.taken.filter fun x => u.clk.mono < x.1 + 1000000
    let mine := sumL ((t.filter fun x => x.2.1 = s.tag).map (·.2.2))
    let k := s.refs.length
    if 4096 < e.2.queued + k || (e.2.cap ≠ 0 && e.2.cap < mine + k) then u.embReply s St.BUSY_RETRY []
    else u.upEntry e.1 fun e => { e with queue := e.queue ++ [s], taken := t ++ [(u.clk.mono, s.tag, k)] }

/-- Gather the messages of a set: the whole of it when the last one has come. -/
def Units.gather (u : Units) (key set : Nat) (refs vecs : List Nat) (more : Bool) : Units × Option (List Nat × List Nat) :=
  let p := match u.ember.parts.find? fun p => p.key = key && p.set = set with
    | some p => { p with refs := p.refs ++ refs, vecs := p.vecs ++ vecs }
    | none => { key := key, set := set, refs := refs, vecs := vecs }
  let rest := u.ember.parts.filter fun p => !(p.key = key && p.set = set)
  if more then (u.upE fun x => { x with parts := rest ++ [p] }, none) else (u.upE fun x => { x with parts := rest }, some (p.refs, p.vecs))

/-- T3 that holds the buddy copy of a route's shard. -/
def Units.buddyOf (u : Units) (r : EmbRoute) : Nat :=
  match u.shKey r.shard with
  | some k => (u.shAt k).buddy
  | none => NMap.getD u.role.pairing (u.servedBy r.cid) 0

/-- The set's length agrees with its token count, and with the expert's d_model where this T3 knows it. -/
def Units.setLenOk (u : Units) (r : EmbRoute) (tag k len : Nat) : Bool :=
  let d := len / (2 * k)
  let known := match NMap.find u.ember.tables r.shard with | some t => (t.experts.find? fun e => e.tag = tag).map (·.dModel) | none => none
  1 ≤ k && k ≤ 256 && len % (2 * k) = 0 && (match known with | some x => d = x | none => d % 64 = 0 && 64 ≤ d && d ≤ 16384)

/-- A tracked stream served by Ember carries the stand-in flag (R396). -/
def Units.markServed (u : Units) (refs : List Nat) : Units :=
  let named := fun (i : Nat) => refs.any fun r => !(bitAt r 31) && r % 2 ^ 17 = i
  let l := u.led.streams.map fun e => if named e.1 then (e.1, { e.2 with flags := e.2.flags ||| 8 }) else e
  { u with led := { u.led with streams := l } }

/-- EMBER_TOKENS (R370): a message of a set; the whole set is checked against the forwarded route and goes to the buddy; one of the
sequence that a direct route has ended still goes there, to be served until the drain ends or answered STALE_GENERATION (R376). -/
def emberTokens (h : Sys2Proof.SHdr) (tag seq k set : Nat) (refs vecs : List Nat) (u : Units) : Units :=
  u.recvS h 0x1A fun u =>
    let key := 64 * h.port + h.ctx
    match u.gather key set refs vecs (bitAt h.flags 1) with
    | (u, none) => u
    | (u, some (refs, vecs)) =>
      match u.ember.routes.find? fun r => r.seq = seq + r.mode && r.tags.contains tag with
      | none => u.embAnswer h.port h.ctx h.seq tag seq k St.BAD_PARAM set []
      | some r =>
        if refs.length ≠ k || !(u.setLenOk r tag k vecs.length) then u.embAnswer h.port h.ctx h.seq tag seq k St.BAD_PARAM set []
        else
          let b := u.buddyOf r
          let u := (u.markServed refs).upE fun x =>
            { x with fwds := x.fwds ++ [{ port := h.port, ctx := h.ctx, hseq := h.seq, tag := tag, seq := seq, set := set, k := k, buddy := b }] }
          if b = u.self then u.embQueue { src := u.self, tag := tag, seq := seq, set := set, refs := refs, vecs := vecs }
          else
            let body := refs.flatMap (leBytes 4) ++ vecs
            (setMsgs body).foldl (fun u x => u.reqL b 0x5D (32 + x.1.length) 2 ([tag, seq, k, 0, set, 0] ++ x.1)) u

/-- EMB_TOKENS at the buddy (R370). -/
def embTokens (h : Sys2Proof.LHdr) (tag seq _k set : Nat) (refs vecs : List Nat) (u : Units) : Units :=
  u.recvL h 0x5D 0 fun u =>
    match u.gather (2 ^ 20 + h.src) set refs vecs (bitAt h.flags 1) with
    | (u, none) => u
    | (u, some (refs, vecs)) => u.embQueue { src := h.src, tag := tag, seq := seq, set := set, refs := refs, vecs := vecs }

/-- EMB_RESULT at the member T3 (R372). -/
def embResultMsg (h : Sys2Proof.LHdr) (tag seq k status set : Nat) (vecs : List Nat) (u : Units) : Units :=
  u.recvL h 0x5E 0 fun u => (u.embResult h.src tag seq k status set vecs (bitAt h.flags 1)).getD (u.staleL h)

/-- Sets in flight end with ABORTED_RESET (R372). -/
def Units.embAbort (u : Units) (which : EmbFwd → Bool) : Units :=
  let mine := u.ember.fwds.filter which
  let u := u.upE fun x => { x with fwds := x.fwds.filter fun f => !(which f) }
  mine.foldl (fun u f => u.embAnswer f.port f.ctx f.hseq f.tag f.seq f.k St.ABORTED_RESET f.set []) u

/-- EMBER_RESULT_TIMEOUT (R372): no result within RESULT_MS. -/
def emberResultTimeout (port ctx set : Nat) (u : Units) : Units := u.embAbort fun f => f.port = port && f.ctx = ctx && f.set = set

/-- A T3 is declared failed: sets forwarded to it end (R372), and a position's T3 whose buddy it was sends the direct route (R377). -/
def Units.emberT3Lost (u : Units) (cid : Nat) : Units :=
  let mine := u.ember.routes.filter fun r => r.mode = 0 && (u.portOf r.cid).isSome && u.buddyOf r = cid
  mine.foldl (fun u r => u.routeUp { r with mode := 1, seq := r.seq + 1 }) (u.embAbort fun f => f.buddy = cid)

/-! Batches (R371) -/

/-- Experts with queued tokens, in rotation order: entry and tag. -/
def Ember.waiting (x : Ember) : List (Nat × Nat) :=
  let l := x.entries.flatMap fun e => (e.2.queue.map fun s => (e.1, s.tag)).foldl (fun l p => if l.contains p then l else l ++ [p]) []
  let after := fun (p : Nat × Nat) => x.rot.1 < p.1 || (x.rot.1 = p.1 && x.rot.2 < p.2)
  let ins := fun (l : List (Nat × Nat)) p => (l.filter fun q => q.1 < p.1 || (q.1 = p.1 && q.2 ≤ p.2)) ++ p :: l.filter fun q => !(q.1 < p.1 || (q.1 = p.1 && q.2 ≤ p.2))
  let s := l.foldl ins []
  s.filter after ++ s.filter fun p => !(after p)

/-- Whole sets that enter a batch of at most `n` tokens; a larger set forms a batch of its own. -/
def takeSets (n : Nat) : Nat → List TokSet → List TokSet
  | _, [] => []
  | got, s :: r => if got = 0 || got + s.refs.length ≤ n then (if n ≤ got + s.refs.length then [s] else s :: takeSets n (got + s.refs.length) r) else []

/-- EMBER_BATCH_CLOSE (R371): the next expert in rotation; one batch is served at a time. -/
def emberBatchClose (u : Units) : Units :=
  if u.ember.inst ≠ 2 || u.ember.batch.isSome then u
  else match u.ember.waiting with
    | [] => u
    | (k, tag) :: _ =>
      match NMap.find u.ember.entries k with
      | none => u
      | some e =>
        let b := takeSets u.batchMax 0 (e.queue.filter fun s => s.tag = tag)
        let u := u.upEntry k fun e => { e with queue := e.queue.filter fun s => !(b.contains s) }
        u.upE fun x => { x with batch := some (k, b), rot := (k, tag) }

/-- EMBER_BATCH_DONE (R372, R374): the outputs of the batch's sets, and the taper-beats and Mantle bytes it took, which weigh the stand-in
energy of its stream references (R396). -/
def emberBatchDone (outs : List (List Nat)) (beats bytes : Nat) (u : Units) : Units :=
  match u.ember.batch with
  | none => u
  | some (k, b) =>
    let n := sumL (b.map fun s => s.refs.length)
    let w := (64 * beats + bytes) / (if n = 0 then 1 else n)
    let u := u.upE fun x => { x with batch := none, work := x.work ++ b.flatMap fun s => s.refs.map fun r => (s.src, r, w) }
    let u := (u.upEntry k fun e => { e with served := e.served + n }).count 0xE03108 n
    ((List.range b.length).zip b).foldl (fun u x => u.embReply x.2 St.OK (outs.getD x.1 [])) u

/-- EMBER_DRAIN_EXPIRY (R376): sets left are cancelled, the entry is freed, EMBER_HANDBACK is recorded; what waited for the end follows. -/
def emberDrainExpiry (entry : Nat) (u : Units) : Units :=
  match NMap.find u.ember.entries entry with
  | none => u
  | some e =>
    if e.state ≠ 3 then u
    else
      let run := match u.ember.batch with | some (k, b) => if k = entry then b else [] | none => []
      let u := (run ++ e.queue).foldl (fun u s => u.embReply s St.CANCELLED_BY_DISABLE []) u
      let u := u.upE fun x =>
        { x with entries := NMap.del x.entries entry, batch := if run.isEmpty then x.batch else none,
                 tables := if e.unbind then NMap.del x.tables e.shard
                   else NMap.upd x.tables e.shard fun t => match t.next with | some n => { t with experts := n, next := none } | none => t }
      let u := u.raise Ev.EMBER_HANDBACK 2 0x0E0 (Config.eventPayload Ev.EMBER_HANDBACK [e.cid, e.shard, e.served])
      (e.stops.foldl (fun u c => u.done c.2 0x0E0 c.1 St.OK) u).embIdle

/-- EMBER_IDLE_UNLOAD (R367): no stand-in for 60 s, without PRELOAD. -/
def emberIdleUnload (u : Units) : Units :=
  if u.ember.entries.isEmpty && u.ember.inst = 2 && !(bitAt (u.cfg 0xE03000 1) 1) then
    (u.upE fun x => { x with inst := 0 }).later (.gridUnload u.ember.slot)
  else u

/-- Ember's drain ends (R144): every stand-in has ended, or ends now. -/
def Units.emberDrained (u : Units) (again : Bool) : Units :=
  (u.ember.entries.foldl (fun u e => emberDrainExpiry e.1 (u.embEnding e.1)) u).upE fun x => { x with draining := false, enable := again || x.enable }

/-- The load of the instance ended: stand-ins that wait start, or are refused (R368). -/
def Units.emberLoaded (u : Units) (slot status : Nat) : Units :=
  let waits := u.ember.entries.filter fun e => e.2.state = 1
  if status = St.OK then
    let u := (u.slotCmd slot { code := 0x0502, cmd := none }).upE fun x => { x with inst := 2, slot := slot }
    (waits.foldl (fun u e => u.standIn e.1) u).embIdle
  else
    let u := u.upE fun x => { x with inst := 0, entries := x.entries.filter fun e => e.2.state ≠ 1 }
    waits.foldl (fun u e =>
      let r : EmbRoute := { job := e.2.job, shard := e.2.shard, cid := e.2.cid, ctx := e.2.ctx, seq := 0, mode := 0, tags := [] }
      u.startAnswer r e.2.origin 6 fun u => u.startAck r 6) u

/-- The instance is unloaded with its partition (R170): running sets are cancelled and it is loaded again elsewhere (DESIGN CHOICE: the assumption log,
entry 175). -/
def emberGone (m : Mem) (u : Units) : Units :=
  let run := match u.ember.batch with | some (_, b) => b | none => []
  let u := (run.foldl (fun u s => u.embReply s St.CANCELLED_BY_DISABLE []) u).upE fun x => { x with batch := none, inst := 0 }
  if u.ember.entries.isEmpty then u else (emberLoad m u).getD u

/-- The instance enters FAULTED (Table 15-7): running sets are cancelled; it is loaded again once, a second fault within 1 h ends every
stand-in. -/
def emberFault (m : Mem) (u : Units) : Mem × Units :=
  let run := match u.ember.batch with | some (_, b) => b | none => []
  let u := run.foldl (fun u s => u.embReply s St.CANCELLED_BY_DISABLE []) u
  let near := match u.ember.fault with | some t => decide (u.clk.mono < t + 3600 * 10 ^ 9) | none => false
  let u := (u.upE fun x => { x with batch := none, inst := 0, fault := some u.clk.mono }).unitUnload u.ember.slot
  if near then
    (m, u.ember.entries.foldl (fun u e => u.embEnd e.1) (u.raise Ev.EMBER_PROGRAM_FAULT 2 0x0E0 0))
  else (m, (emberLoad m u).getD u)

end Sys2Proof.Machine
end

