-- ==== Sys2Proof/Machine/RcvOps.lean ====
section
/-!
DEFINITION. The messages, timers and commands of recoveries, spares and reloads (13_spares_and_replay).
-/
namespace Sys2Proof.Machine

/-! The member at R (R317) -/

/-- Record APPLY_GO for R where it lies above the last released step (R317 step 1): gate line, records, releases. -/
def memberRelease (m : Mem) (u : Units) (job r : Nat) : Mem × Units :=
  match u.jobB job with
  | none => (m, u)
  | some j =>
    if r ≤ j.released || !j.gated then (m, u)
    else
      let ks := u.shardsOf job
      let epoch := (ks.map fun k => (u.shAt k).epoch).foldl max 0
      let u := u.upJob job fun j => { j with released := r, relTime := u.now, relEpoch := epoch }
      let u := ks.foldl (fun u k =>
        let s := u.shAt k
        if s.isBuddy || (s.step? r).isNone then u else u.goSource k r u.now) u
      let u := (u.ctxsOf job).foldl (fun u x => if bitAt (NMap.getD (u.ig x.1).ctxCtl x.2 0) 1 && !(u.fenced x.1) then u.sendGo x.1 x.2 r else u) u
      ks.foldl (fun (a : Mem × Units) k => if (a.2.shAt k).isBuddy then goBuddy a.1 a.2 k r u.now else a) (m, u)

/-- Abandon every open step above R (R317 step 2): staging and commit records go, and credits are withheld. -/
def Shard.abandon (s : Shard) (r : Nat) : Shard :=
  { s with opens := s.opens.filter (fun o => o.step ≤ r), recA := s.recA.filter (fun x => x.step ≤ r), recB := s.recB.filter (fun x => x.step ≤ r),
           early := s.early.filter (fun x => x.r.step ≤ r), withheld := true, incoming := none }

/-- A drive record for a shard that has none, made from one of R of another shard of the job (Table 13-2). -/
def Units.madeDrive (u : Units) (job r : Nat) (s : Shard) : Option Sys2Proof.StepRec :=
  let all := (u.shardsOf job).flatMap fun k =>
    ((u.shAt k).opens.filter fun o => o.step = r).flatMap fun o => (o.recs.filter fun x => bitAt x.r.flags 1).map fun x => x.r
  match all with
  | [] => none
  | x :: _ => some { x with shard := s.shard, gradFp := match s.step? r with | some o => o.gradFp | none => 0, elems := s.params, first := s.first }

/-- Take a shard's durable snapshot of R into its buddy region (Table 13-2), checked against the manifest. -/
def restoreSnap (m : Mem) (u : Units) (k r : Nat) : Mem × Units :=
  let s := u.shAt k
  match s.durable.find? fun x => x.man.step = r, u.jobB s.job with
  | some x, some j =>
    let good := (List.range x.blocks.length).all fun b => NMap.find x.table b = some (blockEntry s j b (x.blocks.getD b []))
    if !good then (m, u.rcvFail s.job St.INTEGRITY_CRC)
    else
      let a := (List.range x.blocks.length).foldl (fun (a : Mem × Units) b => putBlock a.1 a.2 s.bRegion b (x.blocks.getD b [])) (m, u)
      (a.1, a.2.upSh k fun s =>
        { s with table := x.table, curStep := some r, committed := r, cur := 0, opens := [], recA := putRec s.recA { x.man with state := 6 } })
  | _, _ => (m, u)

/-- Bring a buddy shard to R by the first means of Table 13-2 that applies. -/
def bringTo (m : Mem) (u : Units) (k r : Nat) : Mem × Units :=
  let s := u.shAt k
  match u.jobB s.job with
  | none => (m, u)
  | some j =>
    if !s.isBuddy || s.holds j.mode r then (m, u)
    else match s.step? r with
      | some o =>
        if o.state = 3 then
          let a := driveStep m u k r
          let s' := a.2.shAt k
          let none_ := !(o.recs.any fun x => x.r.epoch = o.epoch && bitAt x.r.flags 1)
          match none_, (if none_ && (a.2.inst s.job).state = 2 && o.whole s then a.2.madeDrive s.job r s else none), a.2.progOf j.prog, s'.step? r with
          | true, some d, some pr, some o' =>
            if o'.seeding || !o'.items.isEmpty then a
            else
              let o' := { o' with drive := some d, sparse := o'.sparse || bitAt d.flags 2 }
              cutItems a.1 (a.2.upOpen k r fun x => { x with drive := o'.drive, sparse := o'.sparse }) k r s' j pr o'
          | true, none, _, some o' => if o'.seeding then a else (a.1, a.2.startSeed k r 0)
          | _, _, _, _ => a
        else (m, u.verifyStep k r)
      | none =>
        if j.mode ≠ 0 && s.prevStep = some r then
          (m, u.upSh k fun s => { s with cur := 1 - s.cur, curStep := some r, prevStep := none, committed := r, table := s.table2, table2 := s.table })
        else if s.durable.any fun x => x.man.step = r then restoreSnap m u k r
        else (m, u.rcvFail s.job St.BAD_STATE)

/-- A position named in RCV_POINT is not restored yet: fenced, compared, or being prepared or reloaded. -/
def Units.unrestored (u : Units) (job p : Nat) : Bool :=
  u.fenced p || (u.rcv.warm.any fun w => w.2.1 = p && w.2.2.1 = job) || (u.rcv.granted.any fun g => g.2.1 = p && g.2.2 = job) ||
    (u.rcv.prep.any fun x => x.2.1 = p) || (u.rcv.reloadQ.any fun q => q.1 = p && q.2.2 = job) ||
    (let s := (u.reloadOf p).state; s = 1 || s = 2 || s = 3)

/-- Treat a surviving context at R (Table 13-3). One restored at this R under an earlier sequence of the recovery is a survivor
(R334). -/
def Units.surviveCtx (u : Units) (job r : Nat) (failed : List (Nat × Nat)) (p c : Nat) : Units :=
  let cid := u.cidOf p
  let again := (NMap.find u.rcv.mem job).any fun x => x.before = some r
  let waits := (NMap.find u.rcv.mem job).any fun x => x.restore.contains (64 * p + c)
  if (failed.any fun f => f.1 = cid && f.2 = 0xFF) && u.unrestored job p then u
  else if again && waits then u
  else if !again && failed.any fun f => f.1 = cid && f.2 = c then
    (u.upMem job fun x => { x with restore := if x.restore.contains (64 * p + c) then x.restore else (64 * p + c) :: x.restore }).resetCtx p c true r
  else if (u.ig p).proto = 1 || r < NMap.getD (u.ig p).applyStep c 0 then (u.sendPrep p c job 2).startReload p c job
  else u.sendPrep p c job 0

/-- The point differs from the one that preparations and reloads of an earlier sequence worked towards (R334): they begin again;
work at the same point stands. -/
def Units.restartRestores (u : Units) (job r : Nat) : Units :=
  let same := (NMap.find u.rcv.mem job).any fun x => x.before = some r
  let mine := u.rcv.prep.filter fun x => x.2.2 ≠ [0xFF] && !(u.posShards x.1 job).isEmpty
  let u := if same then mine.foldl (fun u x => x.2.2.foldl (fun u c => u.sendPrep x.2.1 c job 2) u) u
    else
      let late := u.rcv.reload.filter fun e => 1 ≤ e.2.state && e.2.state ≤ 3 && u.jobOf e.1 e.2.ctx = job && e.2.step ≠ r
      let u := u.upMem job fun x => { x with restore := [] }
      let back := (mine.map fun x => (x.1, x.2.1)) ++ ((late.map fun e => (u.cidOf e.1, e.1)).filter fun g =>
        (NMap.find u.rcv.mem job).any fun x => x.failed.any fun f => f.1 = g.1 && f.2 = 0xFF)
      let u := late.foldl (fun u e => u.upReload e.1 fun _ => Reload.reset) u
      u.upC fun x =>
        { x with wanted := [], reloadQ := x.reloadQ.filter (fun q => q.2.2 ≠ job), prep := x.prep.filter (fun y => !(mine.contains y)),
                 granted := back.foldl (fun l g => if l.contains (g.1, g.2, job) then l else l ++ [(g.1, g.2, job)]) x.granted }
  u

/-- What a member does on RCV_POINT, in the order of R317. -/
def memberPoint (job seq r : Nat) (roll : Bool) (failed : List (Nat × Nat)) (m : Mem) (u : Units) : Mem × Units :=
  match NMap.find u.rcv.mem job with
  | none => (m, u)
  | some x =>
    if x.seq ≠ seq then (m, u)
    else
      let u := u.upMem job fun x => { x with point := some r, roll := roll, failed := failed, readySent := false }
      -- 1
      let u := match (u.jobB job).bind (·.entered) with | some n => if r < n then u.later (.gateCancel job n) else u | none => u
      let a := memberRelease m (u.upJob job fun j => { j with entered := none }) job r
      -- 2
      let ks := a.2.shardsOf job
      let u := ks.foldl (fun u k => u.upSh k fun s => s.abandon r) a.2
      -- 3
      let a := ks.foldl (fun (a : Mem × Units) k => bringTo a.1 a.2 k r) (a.1, u)
      -- 4
      let u := ks.foldl (fun u k => let s := u.shAt k; u.membership k (s.epoch + 1) s.members) a.2
      -- 5
      let cs := (u.vig.watch.filter fun e => e.2.job = job).map fun e => (e.1 / 64, e.1 % 64)
      let u := cs.foldl (fun u c => u.surviveCtx job r failed c.1 c.2) (u.restartRestores job r)
      let u := ks.foldl (fun u k => u.later (.serveMore (u.shAt k).shard)) u
      (a.1, (u.upC fun x => { x with lastSeq := NMap.set x.lastSeq job seq }).later (.rcvCheck job))

/-! The coordinator (R313-R315) -/

/-- Send RCV_QUERY to every member (Table 13-1), under the recovery's sequence; this T3 answers itself. -/
def Units.coordQuery (u : Units) (job : Nat) : Units :=
  match NMap.find u.rcv.coord job with
  | none => u
  | some c =>
    c.members.foldl (fun u d =>
      if d = u.self then
        let u := u.memberQuery job c.seq u.self
        u.upCoord job fun c => { c with answers := (c.answers.filter fun a => a.1 ≠ u.self) ++ [(u.self, u.released job, u.restorable job)] }
      else u.reqL d 0x50 16 4 [job, c.seq, u.self]) u

/-- A failure opens a recovery, or joins the open one, which goes back to QUERY under a new sequence once a point was fixed (R313,
R334). -/
def Units.openRecovery (u : Units) (job cid ctx : Nat) (members : List Nat) : Units :=
  let f := (cid, ctx)
  match NMap.find u.rcv.coord job with
  | some c =>
    let failed := if c.failed.contains f then c.failed else c.failed ++ [f]
    if c.phase = 0 || (c.phase = 4 && c.back = 0) then u.upCoord job fun c => { c with failed := failed }
    else
      let seq := wrapW 32 (c.seq + 1)
      let u := (u.upC fun x => { x with lastSeq := NMap.set x.lastSeq job seq }).upCoord job fun c =>
        { c with seq := seq, phase := if c.phase = 4 then 4 else 0, back := 0, failed := failed, answers := [], ready := [] }
      let u := u.journalRcv job
      -- a held recovery asks when it is released
      if c.phase = 4 then u else u.coordQuery job
  | none =>
    let seq := wrapW 32 (NMap.getD u.rcv.lastSeq job 0 + 1)
    let c : Recovery :=
      { seq := seq, phase := 0, back := 0, members := members, answers := [], point := 0, ready := [], failed := [f], start := u.clk.mono }
    let u := u.upC fun x => { x with coord := NMap.set x.coord job c, lastSeq := NMap.set x.lastSeq job seq }
    (u.journalRcv job).coordQuery job

/-- Fix the recovery point (R315): RCV_POINT goes to every member left, or the recovery is held with RCV_NO_COMMON_POINT. -/
def coordPoint (job : Nat) (m : Mem) (u : Units) : Mem × Units :=
  match NMap.find u.rcv.coord job with
  | none => (m, u)
  | some c =>
    match pointOf c.answers with
    | none => (m, (u.raise Ev.RCV_NO_COMMON_POINT 4 0x078 (payloadOf [(0, 4, job), (4, 4, c.seq)])).coordHold job)
    | some r =>
      let roll := c.answers.any fun a => a.2.1 < r && c.answers.any fun b => 0 < b.2.1
      let u := u.upCoord job fun c => { c with phase := 2, point := r, ready := [] }
      c.members.foldl (fun (a : Mem × Units) d =>
        if d = a.2.self then memberPoint job c.seq r roll c.failed a.1 a.2
        else (a.1, a.2.reqL d 0x52 (24 + 4 * c.failed.length) 4 ([job, c.seq, r, b2n roll, c.failed.length] ++ c.failed.flatMap fun f => [f.1, f.2]))) (m, u)

/-- QUERY ends when every member has answered (Table 13-1). -/
def coordAnswered (job : Nat) (m : Mem) (u : Units) : Mem × Units :=
  match NMap.find u.rcv.coord job with
  | none => (m, u)
  | some c => if c.phase = 0 && c.members.all fun d => c.answers.any fun a => a.1 = d then coordPoint job m u else (m, u)

/-- A recovery message of an older sequence is stale (R314). -/
def Units.rcvStale (u : Units) (job seq : Nat) : Bool :=
  seq < NMap.getD u.rcv.lastSeq job 0 || (match NMap.find u.rcv.mem job with | some x => decide (seq < x.seq) | none => false)

/-- RCV_QUERY (R314): a member answers RCV_STATE. -/
def rcvQuery (h : Sys2Proof.LHdr) (job seq coord : Nat) (u : Units) : Units :=
  u.recvL h 0x50 0 fun u =>
    if u.rcvStale job seq then u.staleL h
    else (u.memberQuery job seq coord).reqL h.src 0x51 56 4 (u.stateWords job seq)

/-- RCV_STATE (R315): the coordinator keeps the answer; with every member's it fixes the point. -/
def rcvState (h : Sys2Proof.LHdr) (job seq released count : Nat) (steps : List Nat) (m : Mem) (u : Units) : Mem × Units :=
  if u.lanternDrops h then (m, u.recvL h 0x51 0 id)
  else match NMap.find u.rcv.coord job with
    | none => (m, u)
    | some c =>
      if c.seq ≠ seq then (m, u.staleL h)
      else
        let a := (h.src, released, if count = 0xFF then none else some (steps.take count))
        coordAnswered job m (u.upCoord job fun c => { c with answers := (c.answers.filter fun x => x.1 ≠ h.src) ++ [a] })

/-- RCV_QUERY_TIMEOUT (Table 13-1): silent members are reported to their warden as suspect and left out. -/
def rcvQueryTimeout (job : Nat) (m : Mem) (u : Units) : Mem × Units :=
  match NMap.find u.rcv.coord job with
  | none => (m, u)
  | some c =>
    if c.phase ≠ 0 then (m, u)
    else
      let late := c.members.filter fun d => !(c.answers.any fun a => a.1 = d)
      let u := late.foldl (fun u d => u.emit (.bus 14 [u.role.wardenId, d])) u
      coordPoint job m (u.upCoord job fun c => { c with members := c.members.filter fun d => !(late.contains d) })

/-- RCV_POINT (R317). -/
def rcvPoint (h : Sys2Proof.LHdr) (job seq r : Nat) (roll : Bool) (failed : List (Nat × Nat)) (m : Mem) (u : Units) : Mem × Units :=
  if u.lanternDrops h then (m, u.recvL h 0x52 0 id)
  else if u.rcvStale job seq then (m, u.staleL h)
  else memberPoint job seq r roll failed m u

/-- RCV_READY (R318). -/
def rcvReady (h : Sys2Proof.LHdr) (job seq status : Nat) (u : Units) : Units :=
  u.recvL h 0x53 0 fun u => u.takeReady job seq h.src status

/-- RCV_RESUME (R319). -/
def rcvResume (h : Sys2Proof.LHdr) (job seq : Nat) (u : Units) : Units :=
  u.recvL h 0x54 0 fun u => if u.rcvStale job seq then u.staleL h else u.memberResume job

/-- RCV_RESUME_TIMEOUT (R314): RESTORE unfinished after RESUME_S: the alarm RCV_STALLED, and HELD. -/
def rcvResumeTimeout (job : Nat) (u : Units) : Units :=
  match NMap.find u.rcv.coord job with
  | none => u
  | some c => if c.phase ≠ 2 then u else (u.raise Ev.RCV_STALLED 4 0x078 (payloadOf [(0, 4, job), (4, 4, c.seq)])).coordHold job

/-- A command of Table 13-13 at a T3 that does not hold the keeper is carried to it: with its code and parameters it is that command there. -/
def Units.carryCmd (u : Units) (code : Nat) (args : List Nat) : Units := u.emit (.bus 20 ([u.keeperCid, code] ++ args))

/-- A command of Table 13-13 at a T3 that does not act as keeper (R39, R335): carried to the keeper, or deferred while the role held here sends no output. -/
def Units.toKeeper (u : Units) (c : Sys2Proof.Cmd) (code : Nat) (args : List Nat) : Units :=
  if (u.roleOf u.role.keeperId).holding then u.done c 0x078 code St.BUSY_RETRY else (u.carryCmd code args).done c 0x078 code St.OK

/-- HOLD_JOB (0x0008, R323): the open recovery enters HELD, or one opens in HELD. -/
def Units.actHold (u : Units) (t : Target) : Units :=
  if !u.isKeeper then (u.holdJob t.job).carryCmd 0x0008 [t.job]
  else if NMap.has u.rcv.coord t.job then u.coordHold t.job
  else
    let seq := wrapW 32 (NMap.getD u.rcv.lastSeq t.job 0 + 1)
    let c : Recovery :=
      { seq := seq, phase := 4, back := 0, members := NMap.getD u.vig.jobT3s t.job [], answers := [], point := 0, ready := [], failed := [],
        start := u.clk.mono }
    ((u.upC fun x => { x with coord := NMap.set x.coord t.job c, lastSeq := NMap.set x.lastSeq t.job seq }).journalRcv t.job).holdJob t.job

/-- RCV_RELEASE (0x0705, R323, R335): a held recovery goes back to the phase it left. -/
def rcvRelease (c : Sys2Proof.Cmd) (job : Nat) (m : Mem) (u : Units) : Mem × Units :=
  if !(isOperator (stampPriv c.stamp)) then (m, u.done c 0x078 0x0705 St.NOT_PRIVILEGED)
  else if !u.isKeeper then (m, u.toKeeper c 0x0705 [job])
  else match NMap.find u.rcv.coord job with
    | none => (m, u.done c 0x078 0x0705 St.BAD_STATE)
    | some r =>
      if r.phase ≠ 4 then (m, u.done c 0x078 0x0705 St.BAD_STATE)
      else
        let u := ((u.upCoord job fun x => { x with phase := x.back }).journalRcv job).done c 0x078 0x0705 St.OK
        if r.back = 0 then coordAnswered job m (u.coordQuery job) else (m, u.coordReady job Units.tellResume)

/-- Talnex generation of a spare entry (Table 13-8): the entry's own, this T3's port's, or the group's, which is of one generation. -/
def spareTalnex (u : Units) (mine : Option Spare) (cid port group : Nat) : Nat :=
  match mine with
  | some s => s.talnex
  | none => if cid = u.self then (u.ig port).talnex else (u.groupGen group).getD 0

/-- RCV_SPARE_SET (0x0706, R33, R335, R536): a spare entry becomes HOT, COLD or UNAVAILABLE; COLD takes the position's power away. A group takes no spare of
another generation than its own (BAD_PARAM, DESIGN CHOICE: the assumption log, entry 172). -/
def rcvSpareSet (c : Sys2Proof.Cmd) (cid port state group : Nat) (u : Units) : Units :=
  u.operator c 0x078 0x0706 fun u =>
    if 16 ≤ port || !(state = 0 || state = 1 || state = 4) || 1024 ≤ group then u.done c 0x078 0x0706 St.BAD_PARAM
    else if !u.isKeeper then u.toKeeper c 0x0706 [cid, port, state, group]
    else
      let mine := u.rcv.spares.find? fun s => s.cid = cid && s.port = port
      let full := 8 ≤ u.sparesIn group || (mine.isNone && 2048 ≤ u.rcv.spares.length)
      if mine.any (fun s => s.state = 3) || (full && !(mine.any fun s => s.group = group)) then u.done c 0x078 0x0706 St.BAD_STATE
      else if (u.groupGen group).any fun g => g ≠ spareTalnex u mine cid port group then u.done c 0x078 0x0706 St.BAD_PARAM
      else
        let e : Spare := { cid := cid, port := port, state := state, talnex := spareTalnex u mine cid port group, group := group, pos := 0, version := u.role.routeVer }
        let u := (u.upC fun x => { x with spares := (x.spares.filter fun s => !(s.cid = cid && s.port = port)) ++ [e] }).journalRole u.role.keeperId
          [5, cid, port, state, group, e.talnex]
        let u := if state = 1 && cid = u.self then u.later (.powerOff port) else u
        u.done c 0x078 0x0706 St.OK

/-- A peer keeper serves the same job (R313): the keeper with the higher CID forwards its failures and stops coordinating. -/
def Units.peerKeeper (u : Units) (job cid : Nat) : Units :=
  match NMap.find u.rcv.coord job with
  | none => u
  | some c =>
    if u.self < cid then u
    else
      let u := c.failed.foldl (fun u f =>
        let n : Notice :=
          { kind := if f.2 = 0xFF then 1 else 2, level := if f.2 = 0xFF then 1 else 0, cid := f.1, ctx := f.2, accGen := 0, ctxGen := 0,
            status := St.ABORTED_RESET, job := job, released := u.released job, time := u.now, tag := 0xFFFFFFFF, seq := 0, epoch := 0, reporter := u.self }
        u.reqL cid 0x43 64 4 n.words) u
      u.upC fun x => { x with coord := NMap.del x.coord job }

/-- Jobs of a position as the keeper knows them: from the watch reports, and from the shards bound here that it replicates. -/
def Units.jobsAt (u : Units) (cid : Nat) : List Nat :=
  (((u.vig.watched.filter fun w => w.1 = cid).map fun w => w.2.2.1) ++
    ((NMap.vals u.wick.shards).filter fun s => s.members.any fun x => x.1 = cid).map (·.job)).eraseDups

/-- A position of a T3 declared failed needs replacement (R31, R313): a recovery of each of its jobs opens, and a spare is granted; one whose job the keeper
does not know is replaced all the same. A spare that served it there is UNAVAILABLE. -/
def Units.positionFailed (u : Units) (cid _gen : Nat) : Units :=
  let u := u.upC fun x => { x with spares := x.spares.map fun s => if s.state = 3 && s.pos = cid then { s with state := 4, pos := 0 } else s }
  let jobs := u.jobsAt cid
  let u := jobs.foldl (fun u j => u.openRecovery j cid 0xFF (NMap.getD u.vig.jobT3s j [])) u
  u.askSpare cid (jobs.headD 0) 1 0

/-- The keeper enters a port whose position has moved away into the position's group as a HOT spare of the group's generation, or UNAVAILABLE when the
group has 8 (R49, R324). -/
def Units.enterSpare (u : Units) (cid port group : Nat) : Units :=
  let u := u.upC fun x => { x with spares := x.spares.filter fun s => !(s.cid = cid && s.port = port) }
  let e : Spare := { cid := cid, port := port, state := if u.sparesIn group < 8 then 0 else 4, talnex := (u.groupGen group).getD 0, group := group, pos := 0,
                     version := u.role.routeVer }
  (u.upC fun x => { x with spares := x.spares ++ [e] }).journalRole u.role.keeperId [5, cid, port, e.state, group, e.talnex]

/-- Positions of a T3 that returned are offered as spares (R31): its entries that were UNAVAILABLE or ASSIGNED elsewhere are free. -/
def Units.offerSpares (u : Units) (cid : Nat) : Units :=
  let back := u.rcv.moved.filter fun x => x.1 = cid
  let u := u.upC fun x =>
    { x with moved := x.moved.filter (fun y => y.1 ≠ cid), spares := x.spares.map fun s => if s.cid = cid && s.state = 4 then { s with state := 0 } else s }
  back.foldl (fun u x => u.enterSpare cid x.2.1 x.2.2) u

/-- A fence is lifted on a port (R49, R324): where its position has moved to a spare, the keeper enters its accelerator as a spare of the group; another T3
has RCV_SPARE_SET carried to the keeper (DESIGN CHOICE: the assumption log, entry 173). -/
def Units.unfencedAt (u : Units) (p : Nat) : Units :=
  match u.rcv.moved.find? fun x => x.1 = u.self && x.2.1 = p with
  | none => u
  | some x =>
    let u := u.upC fun y => { y with moved := y.moved.filter (fun z => z ≠ x) }
    if u.isKeeper then u.enterSpare u.self p x.2.2 else u.carryCmd 0x0706 [u.self, p, 0, x.2.2]

/-! The keeper's start (R39, R44, R313) -/

/-- A journal entry of the keeper takes effect at a new holder (R44): an open recovery, a closed one, a spare granted, a spare entry. -/
def Units.replayWords (u : Units) (words : List Nat) : Units :=
  match words with
  | 1 :: job :: seq :: phase :: n :: rest =>
    let c : Recovery :=
      { seq := seq, phase := if phase = 4 then 4 else 0, back := 0, members := rest.take n, answers := [], point := 0, ready := [],
        failed := (List.range ((rest.length - n) / 2)).map fun i => (rest.getD (n + 2 * i) 0, rest.getD (n + 2 * i + 1) 0), start := u.clk.mono }
    u.upC fun x => { x with coord := NMap.set x.coord job c, lastSeq := NMap.set x.lastSeq job (max seq (NMap.getD x.lastSeq job 0)) }
  | [6, job, seq] => u.upC fun x => { x with coord := NMap.del x.coord job, lastSeq := NMap.set x.lastSeq job (max seq (NMap.getD x.lastSeq job 0)) }
  | [2, pos, cid, port] => u.upSpare cid port fun s => { s with state := 3, pos := pos, version := u.role.routeVer }
  | [5, cid, port, state, group, talnex] =>
    u.upC fun x => { x with spares := (x.spares.filter fun s => !(s.cid = cid && s.port = port)) ++
      [{ cid := cid, port := port, state := state, talnex := talnex, group := group, pos := 0, version := u.role.routeVer }] }
  | _ => u

/-- A journal entry of what a role keeps of its scope takes effect at a new holder (R44): a route version, a link key, what is known of a T3, a placement
under way, made or given up, the pairing, a pod's summary, a feature set, a member, the rollout, the admitted pair. -/
def RoleUnit.replay (x : RoleUnit) (words : List Nat) : RoleUnit :=
  let other := fun (y : Placing) (job shard : Nat) => !(y.job = job && y.shard = shard)
  match words with
  | 3 :: v :: rest =>
    let es := (groupsOf 9 rest.length rest).map RouteEntry.of
    let x := { x with routeLog := NMap.set x.routeLog v es }
    if v = x.routeVer + 1 then x.apply v es else x
  | [4, link, i, t, k] =>
    let old := NMap.find x.keys link
    if old.any fun o => o.key = k then x else { x with keys := NMap.set x.keys link (newKey old i k t ((old.map (·.port)).getD 0xFF)) }
  | [7, cid, failed, free, stks, pages, gen] =>
    { x with watch := NMap.put x.watch T3Watch.reset cid { NMap.getD x.watch cid T3Watch.reset with failed := failed = 1, freePages := free, stks := stks,
                                                                                                    pages := pages, gen := gen } }
  | [8, job, shard, src, buddy, staging] =>
    { x with placing := x.placing.filter (fun y => other y job shard) ++
        [{ job := job, shard := shard, src := src, buddyBytes := buddy, stagingBytes := staging, tried := [] }] }
  | [9, job, shard, at_, src, buddy, staging] =>
    { x with placing := x.placing.filter (fun y => other y job shard),
             placed := x.placed.filter (fun y => !(y.1 = job && y.2.1 = shard)) ++ [(job, shard, at_, src, buddy, staging)] }
  | 10 :: v :: rest => { x with pairing := pairsOf rest, pairVer := v, setVer := max v x.setVer }
  | [11, cid, admitted, failed, recoveries, alarms] => { x with summaries := NMap.set x.summaries cid [admitted, failed, recoveries, alarms] }
  | [12, e, f] => if x.featEpoch < e then x.featsWait e f else x
  | [13, cid, version, msgVer, features] => { x with members := NMap.set x.members cid [version, msgVer, features] }
  | [14, pod, version, step] => { x with rollout := if step = 6 then none else some (pod, version, step) }
  | [15, old, new] => { x with admitted := [old, new] }
  | [16, job, shard] => { x with placing := x.placing.filter fun y => other y job shard }
  | _ => x

/-- A new holder takes over what its journal holds of the role's scope, and asks again where a placement is under way (R44, R127). -/
def Units.replayRole (u : Units) (role : Nat) : Units :=
  let u := u.upR fun x => (u.roleOf role).journal.foldl RoleUnit.replay x
  if role = u.role.wardenId then (u.role.placing.filter (·.tried.isEmpty)).foldl Units.tryPlace u else u

/-- The outputs of a role held here begin (R31, R39, R44, R313): a new holder takes over what its journal holds; a keeper asks the members of the open recoveries
again, replaces the positions of the T3s that have failed meanwhile and serves the spare requests that waited. -/
def Units.roleReady (u : Units) (role : Nat) : Units :=
  if !(u.actsAs role) then u
  else
    let u := u.replayRole role
    if role ≠ u.role.keeperId then u else
    let u := if u.rcv.coord.isEmpty then (u.roleOf role).journal.foldl Units.replayWords u else u
    let open_ := (u.rcv.coord.filter fun e => e.2.phase = 0).map (·.1)
    let u := open_.foldl Units.coordQuery u
    let failed := (u.role.watch.filter fun e => e.2.failed).map (·.1)
    let u := failed.foldl Units.failPositions u
    let wait := u.rcv.waitReqs
    wait.foldl (fun u q => u.grantSpare q.1 q.2.1 q.2.2.1 q.2.2.2.1 q.2.2.2.2) (u.upC fun x => { x with waitReqs := [] })

/-! Spares (R325, R326) -/

/-- SPARE_REQ at the keeper (R39, R325, R352): one that arrives while the role's outputs wait is served when they begin. -/
def spareReq (h : Sys2Proof.LHdr) (pos job action a : Nat) (u : Units) : Units :=
  u.recvL h 0x55 0 fun u =>
    if u.isKeeper then u.grantSpare h.src pos job action a
    else if (u.roleOf u.role.keeperId).holding then u.upC fun x => { x with waitReqs := x.waitReqs ++ [(h.src, pos, job, action, a)] }
    else u

/-- SPARE_GRANT (R325, R326). A refusal to a prestage is Flicker's (R352). -/
def spareGrant (h : Sys2Proof.LHdr) (pos spareCid port _version status : Nat) (u : Units) : Units :=
  u.recvL h 0x56 0 fun u =>
    let was := u.rcv.reqs.find? fun r => r.1 = pos
    let u := u.takeGrant pos spareCid port status
    match was with
    | some r =>
      if r.2.2.1 ≠ 3 && status ≠ St.OK then u.raise Ev.SPR_NO_SPARE 4 0x078 (payloadOf [(0, 4, r.2.1), (4, 3, pos)]) [] { Target.none with job := r.2.1, cid := pos }
      else u
    | none => u

/-- RCV_PREP_TIMEOUT (R326): SPR_PREP_TIMEOUT; the position's T3 asks for another spare, at which the keeper marks this one UNAVAILABLE. -/
def rcvPrepTimeout (pos port : Nat) (u : Units) : Units :=
  match u.rcv.prep.find? fun x => x.1 = pos && x.2.1 = port with
  | none => u
  | some x =>
    if x.2.2.isEmpty then u
    else
      let u := u.upC fun y => { y with prep := y.prep.filter fun z => !(z.1 = pos && z.2.1 = port) }
      let u := u.raise Ev.SPR_PREP_TIMEOUT 1 0x078 (payloadOf [(0, 3, u.self), (3, 1, port), (4, 3, pos)])
      let job := ((u.wick.jobs.find? fun j => !(u.posShards pos j.1).isEmpty).map (·.1)).getD 0
      u.askSpare pos job 1 0

/-- PRESTAGE_HOLD_EXPIRY (R352): an unrenewed prestaged spare returns to HOT. -/
def prestageHoldExpiry (pos : Nat) (u : Units) : Units :=
  if u.rcv.holds.contains pos then
    u.upC fun x => { x with holds := x.holds.filter (· ≠ pos), spares := x.spares.map fun s => if s.state = 2 && s.pos = pos then { s with state := 0, pos := 0 } else s }
  else u

/-- RECOVERY_RESPONSE (R13, R321, R318): kind 1 prepares a context, and the member reports a failure; a failing answer to kind 2 is recorded, and kind 2 is
not sent again. -/
def recoveryResponse (h : Sys2Proof.SHdr) (kind status : Nat) (u : Units) : Units :=
  u.recvS h 0x18 fun u =>
    let key := 64 * h.port + h.ctx
    if kind = 1 then
      let jobs := (u.rcv.mem.filter fun e => e.2.waitCtx.contains key).map (·.1)
      if status = St.OK then
        let preps := u.rcv.prep.filter fun x => x.2.1 = h.port && x.2.2.contains h.ctx
        let u := u.upC fun x =>
          { x with mem := NMap.mapV x.mem (fun _ y => { y with waitCtx := y.waitCtx.filter (· ≠ key) }),
                   prep := (x.prep.map fun y => if y.2.1 = h.port then (y.1, y.2.1, y.2.2.filter (· ≠ h.ctx)) else y).filter fun y => !y.2.2.isEmpty }
        let u := preps.foldl (fun u x => (u.wick.jobs.filter fun j => (u.posShards x.1 j.1).any fun e => e.1 = h.ctx).foldl
          (fun u j => u.startReload h.port h.ctx j.1) u) u
        jobs.foldl (fun u j => u.later (.rcvCheck j)) u
      else jobs.foldl (fun u j => u.rcvFail j status) u
    else if kind = 2 then
      u.upC fun x => { x with unreleased := if status = St.OK then x.unreleased.filter (· ≠ key) else key :: x.unreleased.filter (· ≠ key) }
    else u

/-! Reloads (R327) -/

/-- The serving T3 takes a block (R17, R327 step 3): it writes it to its Mantle and sends it on from there as RESTORE_BLOCK. -/
def takeReload (m : Mem) (u : Units) (b : Sys2Proof.Blk) : Mem × Units :=
  match u.rcv.reload.find? fun e => e.2.state = 2 && e.2.shards.head? = some b.shard with
  | none => (m, u)
  | some e =>
    let last := bitAt b.flags 0
    let t := toTransit m u b.data
    let u := t.1.2.upReload e.1 fun r => { r with lastSent := r.lastSent || last, total := r.total + 1 }
    (t.1.1, (u.count 0x780498 b.valid).igSend e.1 0x16 e.2.ctx (32 + b.valid)
      ([b.step, b.shard, b.index, 0, b.flags, b.valid, b.crc] ++ (inTransit t.1.1 u (t.2, b)).data))

/-- Stream up to `n` blocks of a served reload from block `b` on; each is checked under R256, and one that has to come from another
copy first holds the stream. -/
def serveBlocks (k : Nat) (v : Serve) : Nat → Nat → Mem → Units → Mem × Units
  | 0, _, m, u => (m, u)
  | n + 1, b, m, u =>
    let s := u.shAt k
    let r := if s.isBuddy && s.curStep = some v.step then readBlock m u k b
      else ((m, u), (s.durable.find? fun x => x.man.step = v.step).map fun x => x.blocks.getD b [])
    match r.2 with
    | none => r.1
    | some d =>
      let blk : Sys2Proof.Blk := { step := v.step, shard := v.shard, index := b, fmt := 0x20, flags := b2n (b + 1 = s.layout), valid := d.length, tag := 0,
                                   crc := crc64 d, data := d }
      let u := r.1.2.upC fun x => { x with serves := x.serves.map fun y => if y.shard = v.shard && y.dst = v.dst then { y with next := b + 1 } else y }
      let a := if v.dst = u.self then takeReload r.1.1 u blk
        else (r.1.1, u.reqL v.dst 0x58 (32 + d.length) 2 ([v.step, v.shard, b, 0, blk.flags, blk.valid, blk.crc] ++ d))
      serveBlocks k v n (b + 1) a.1 a.2

/-- Stream a served reload's blocks while at most 1,024 are unacknowledged (R327 step 2, R331). -/
def servePump (m : Mem) (u : Units) (v : Serve) : Mem × Units :=
  u.withSh v.shard (m, u) fun k s _ => serveBlocks k v (min (s.layout - v.next) (1024 - (v.next - v.acked))) v.next m u

/-- Answer a RELOAD_REQ of kind 0 (R322, R326, R328): the step records up to the step, then the commit record, job binding and shard
entry; before the step is VERIFIED here, the request waits (Table 13-10). -/
def Units.tellRecords (u : Units) (shard dst step : Nat) : Units :=
  let u := u.upC fun x => { x with asked := x.asked.filter fun a => !(a.1 = shard && a.2.1 = dst) }
  u.withSh shard u fun _ s j =>
    match (s.copyA step).filter fun r => 5 ≤ r.state with
    | none => u.upC fun x => { x with asked := x.asked ++ [(shard, dst, step)] }
    | some r =>
      let bind := [s.job, j.mode, j.comps, j.prog, j.key, j.params] ++ j.fmts ++ [j.interval, j.flags, j.gateMs]
      let entry := [s.shard, s.job, s.epoch, s.count, s.writer, s.buddy, s.committed, s.first, s.params, s.layout]
      let recs := (s.kept.filter fun e => 1024 ≤ e.1).flatMap fun e => e.2.filter fun r => r.step ≤ step
      (recs.foldl (fun u r => u.reqL dst 0x05 256 2 (recFields r)) u).reqL dst 0x5A 256 2 (r.fields ++ bind ++ entry)

/-- A shard has reached a step, or a block of it was replaced (R256): what waited for it goes on. -/
def serveMore (shard : Nat) (m : Mem) (u : Units) : Mem × Units :=
  let u := (u.rcv.asked.filter fun a => a.1 = shard).foldl (fun u a => u.tellRecords a.1 a.2.1 a.2.2) u
  (u.rcv.serves.filter fun v => v.shard = shard).foldl (fun (a : Mem × Units) v => servePump a.1 a.2 v) (m, u)

/-- RELOAD_REQ at the buddy (R327, R326): kind 0 returns the commit record, job binding and shard entry and its step records; kind 1
streams the layout blocks. -/
def reloadReq (h : Sys2Proof.LHdr) (shard kind step first : Nat) (m : Mem) (u : Units) : Mem × Units :=
  if u.lanternDrops h then (m, u.recvL h 0x57 0 id)
  else u.withSh shard (m, u) fun _ _ _ =>
    if kind = 0 then (m, u.tellRecords shard h.src step)
    else if kind = 1 then
      let v : Serve := { shard := shard, dst := h.src, step := step, next := first, acked := first }
      servePump m (u.upC fun x => { x with serves := (x.serves.filter fun y => !(y.shard = shard && y.dst = h.src)) ++ [v] }) v
    else (m, u)

/-- RELOAD_BLOCK at the serving T3 (R327): a block whose CRC-64 fails is dropped. -/
def reloadBlock (h : Sys2Proof.LHdr) (b : Sys2Proof.Blk) (m : Mem) (u : Units) : Mem × Units :=
  if u.lanternDrops h then (m, u.recvL h 0x58 0 id)
  else if u.mantle.stackFailed || Blk.bad b || crc64 b.data ≠ b.crc then (m, u)
  else takeReload m u b

/-- A served reload advances (R327). -/
def ackServe (m : Mem) (u : Units) (shard dst written status : Nat) : Mem × Units :=
  match u.rcv.serves.find? fun v => v.shard = shard && v.dst = dst with
  | none => (m, u)
  | some v =>
    let total := u.withSh shard 0 fun _ s _ => s.layout
    if status ≠ St.OK || total ≤ written then (m, u.upC fun x => { x with serves := x.serves.filter fun y => !(y.shard = shard && y.dst = dst) })
    else
      let v := { v with acked := max v.acked written }
      servePump m (u.upC fun x => { x with serves := x.serves.map fun y => if y.shard = shard && y.dst = dst then v else y }) v

/-- RELOAD_ACK at the buddy (R327). -/
def reloadAck (h : Sys2Proof.LHdr) (shard _step written status : Nat) (m : Mem) (u : Units) : Mem × Units :=
  if u.lanternDrops h then (m, u.recvL h 0x59 0 id) else ackServe m u shard h.src written status

/-- RELOAD_REC at the serving T3 (R326, R322): the commit record is kept for comparison; a job or shard not bound here is bound in the
source role. -/
def reloadRec (h : Sys2Proof.LHdr) (r : CommitRec) (mode comps prog key params : Nat) (fmts : List Nat) (interval flags gateMs epoch first sparams : Nat)
    (u : Units) : Units :=
  u.recvL h 0x5A 0 fun u =>
    let u := if r.state < 5 then u else u.upC fun x => { x with wanted := x.wanted.filter (fun y => y ≠ (r.shard, r.step)), fetched := (x.fetched.filter fun f => f.1 ≠ r.shard) ++ [(r.shard, r.step, r.postFp, r.cursor)] }
    let b : JobBind :=
      { mode := mode, comps := comps, prog := prog, key := key, params := params, fmts := fmts, interval := interval, flags := flags, gateMs := gateMs,
        released := if mode = 0 && bitAt flags 0 then r.step else 0, relTime := 0, relEpoch := 0, entered := none, snapNow := [], perStep := false, held := true, group := (u.gateGroup r.job).getD 0 }
    let u := if (u.jobB r.job).isSome then u else u.upW fun w => { w with jobs := NMap.set w.jobs r.job b }
    let u := match u.jobB r.job with
      | some j =>
        if (u.shKey r.shard).isSome then u
        else
          let b := u.bindShard r.job r.shard first sparams h.src 1 j
          (match b.2 with | some k => b.1.upSh k fun s => { s with epoch := epoch, committed := r.step } | none => b.1)
      | none => u
    ((List.range 16).foldl (fun u p => (u.warmTry p).reloadTry p) u).prepTry

/-- RESTORE_ACK (R327, R321): the count goes back to the buddy; a shard that the context has not registered counts as a report that
differs; a protocol 1 shard is done when every block is acknowledged. -/
def restoreAck (h : Sys2Proof.SHdr) (step shard written : Nat) (m : Mem) (u : Units) : Mem × Units :=
  match u.dropS h 0x17 with
  | some v => (m, v)
  | none =>
    let r := u.reloadOf h.port
    if shard = 0 || r.state ≠ 2 || r.shards.head? ≠ some shard then (m, u)
    else u.withSh shard (m, u) fun _ s _ =>
      if written = 0xFFFFFFFF then
        let a := if s.isBuddy then ackServe m u shard u.self s.layout St.OK else (m, u.reqL s.buddy 0x59 24 2 [shard, step, s.layout, St.OK])
        (a.1, a.2.reloadResult h.port false)
      else
        let u := u.upReload h.port fun r => { r with written := written }
        let a := if s.isBuddy then ackServe m u shard u.self written St.OK else (m, u.reqL s.buddy 0x59 24 2 [shard, step, written, St.OK])
        if written < r.blocks then a
        else if (u.ig h.port).proto = 1 then (a.1, a.2.reloadResult h.port true)
        else (a.1, (a.2.upReload h.port fun r => { r with state := 3 }).reloadTry h.port)

/-- SHARD_FP_REPORT (R76, R322, R327): compared with the commit record of R: it ends a reload, or decides a warm restore. -/
def shardFpReport (h : Sys2Proof.SHdr) (step elems fp shard : Nat) (u : Units) : Units :=
  u.recvS h 0x0F fun u =>
    let u := u.upC fun x =>
      { x with fps := (x.fps.filter fun f => !(f.1 = h.port && f.2.1 = h.ctx && f.2.2.1 = shard)) ++ [(h.port, h.ctx, shard, step, elems, fp)] }
    let r := u.reloadOf h.port
    if (r.state = 3 || r.state = 2) && r.shards.head? = some shard && r.ctx = h.ctx then u.reloadTry h.port
    else (u.warmTry h.port).ctxTry h.port h.ctx

end Sys2Proof.Machine
end

