-- ==== Sys2Proof/Machine/Deliver.lean ====
section
/-!
DEFINITION. A lantern message that reaches this T3 without its own command has that command's effect: one that the protected management channel or a
gateway delivers, and one that this T3 sends to a role it holds itself (R52, R53, Table 2-10, Table 12-5). The payload's fields stand in table order, with
what a check of the message shows after them where a command has it as an operand.
-/
namespace Sys2Proof.Machine

/-- A standing-order entry from its fields (Table 2-6). -/
def SoEntry.of (x : List Nat) : SoEntry :=
  { trigger := x.getD 0 0, level := x.getD 1 0, cls := x.getD 2 0, action := x.getD 3 0, flags := x.getD 4 0, scope := x.getD 5 0, a := x.getD 6 0,
    b := x.getD 7 0, timeout := x.getD 8 0 }

/-- A notice from its fields (Table 12-6). -/
def Notice.of (x : List Nat) : Notice :=
  { kind := x.getD 0 0, level := x.getD 1 0, cid := x.getD 2 0, ctx := x.getD 3 0, accGen := x.getD 4 0, ctxGen := x.getD 5 0, status := x.getD 6 0,
    job := x.getD 7 0, released := x.getD 8 0, time := x.getD 9 0, tag := x.getD 10 0, seq := x.getD 11 0, epoch := x.getD 12 0, reporter := x.getD 13 0 }

/-- Journal entries, each behind its length, at most `k` of them. -/
def journalOf : Nat → List Nat → List (List Nat)
  | k + 1, n :: r => r.take n :: journalOf k (r.drop n)
  | _, _ => []

/-- A forwarded entry from its fields (Table 21-4): the record's times are those of its arrival here. -/
def Units.entryOf (u : Units) (x : List Nat) : LogEntry :=
  let r := u.record (x.getD 0 0) (x.getD 1 0) (x.getD 2 0) (x.getD 5 0) false false
  { u.entry { r with count := x.getD 3 0, flags := x.getD 4 0 } with origin := x.getD 6 0 }

/-- WARDEN_SET of a kind, and its answer (Table 2-10). -/
def wardenSet (h : Sys2Proof.LHdr) (pay : List Nat) (u : Units) : Units :=
  let f := fun (i : Nat) => pay.getD i 0
  let b := pay.drop 4
  if lResp h then poolingReservationAnswer h (f 0) (f 1) (f 2) (f 3) u
  else if f 0 = 0 then wardenSetCap h (f 1) (f 4) u
  else if f 0 = 1 then wardenSetFanFloor h (f 1) (f 4) u
  else if f 0 = 2 then wardenSetPairing h (f 1) (pairsOf b) u
  else if f 0 = 3 then wardenSetPooling h (f 1) (f 4) (f 5) (f 6) (f 7) (f 8) u
  else if f 0 = 4 then wardenSetTopology h (f 1) (pairsOf b) u
  else u

/-- ROLE_REPORT of a kind (Table 2-10). -/
def roleReport (h : Sys2Proof.LHdr) (pay : List Nat) (u : Units) : Units :=
  let f := fun (i : Nat) => pay.getD i 0
  if f 0 = 0 then roleReportFreePages h (f 1) (f 3) u
  else if f 0 = 1 then roleReportStacks h (f 1) (f 3) (f 4) u
  else if f 0 = 2 then roleReportFailedT3 h (f 1) (f 3) (f 4) u
  else if f 0 = 3 then roleReportPodSummary h (f 1) (f 3) (f 4) (f 5) (f 6) u
  else if f 0 = 4 then roleReportRejoined h (f 1) (f 3) (f 4) u
  else u

/-- ADMIN of a kind (Table 2-11). A key agreement has after its sequence and length what its signature shows and the shared secret. -/
def admin (h : Sys2Proof.LHdr) (pay : List Nat) (u : Units) : Units :=
  let f := fun (i : Nat) => pay.getD i 0
  if f 0 = 0 then adminAdmissionRequest h (f 1) (f 3) (f 4) (f 5) u
  else if f 0 = 1 then adminAdmissionAnswer h (f 1) (f 3) (f 4) (f 5) (f 6) (f 7) u
  else if f 0 = 2 then adminFeatureSet h (f 1) (f 3) (f 4) u
  else if f 0 = 3 then adminRolloutStep h (f 1) (f 3) (f 4) (f 5) (f 6) u
  else if f 0 = 4 then adminAppointment h (f 1) (f 3) (f 4) (pay.drop 6) u
  else if f 0 = 5 then adminKeyAgreement h (f 1) (f 3 = 1) (f 4) u
  else u

/-- LEASE of an operation (Table 2-10). -/
def lease (h : Sys2Proof.LHdr) (pay : List Nat) (u : Units) : Units :=
  let f := fun (i : Nat) => pay.getD i 0
  if f 2 = 0 then leaseRequest h (f 0) (f 1) (f 3) (f 4) u
  else if f 2 = 1 then leaseGrant h (f 0) (f 1) (f 3) (f 4) (f 5) (f 6) u
  else if f 2 = 2 then leaseRelease h (f 0) (f 1) (f 3) u
  else if f 2 = 3 then leaseRefuse h (f 0) (f 1) (f 3) u
  else u

/-- TAKEOVER of an operation (Table 2-10). -/
def takeover (h : Sys2Proof.LHdr) (pay : List Nat) (u : Units) : Units :=
  let f := fun (i : Nat) => pay.getD i 0
  if f 2 = 0 then takeoverRequest h (f 0) (f 1) (f 3) (f 4) (f 5) u
  else if f 2 = 1 then takeoverGrant h (f 0) (f 1) (f 4) (f 5) u
  else if f 2 = 2 then takeoverNotYet h (f 0) (f 1) (f 4) u
  else u

/-- WITNESS of an operation (Table 2-10). -/
def witness (h : Sys2Proof.LHdr) (pay : List Nat) (u : Units) : Units :=
  let f := fun (i : Nat) => pay.getD i 0
  if f 0 = 0 then witnessStore h (f 1) (f 2) (f 3) (f 4) (f 5) (f 6) u
  else if f 0 = 1 then witnessStoreAck h (f 1) (f 2) (f 3) (f 6) u
  else if f 0 = 2 then witnessHeartbeat h (f 1) (f 2) u
  else u

/-- ROUTE of an operation (Table 2-10). -/
def route (h : Sys2Proof.LHdr) (pay : List Nat) (u : Units) : Units :=
  let f := fun (i : Nat) => pay.getD i 0
  if f 0 = 0 then routeVersion h (f 1) ((groupsOf 9 (f 3) (pay.drop 4)).map RouteEntry.of) u
  else if f 0 = 1 then routeRequest h (f 1) (f 2) u
  else u

/-- STANDING, the signed table or its answer (Table 2-12): after the entries of a table stand what its signature shows and whether its key is an operator's. -/
def standingMsg (h : Sys2Proof.LHdr) (pay : List Nat) (u : Units) : Units :=
  let f := fun (i : Nat) => pay.getD i 0
  if lResp h then standing h (f 0) (f 1) 0 (f 2) true true [] u
  else
    let rest := (pay.drop 4).drop (9 * f 1)
    standing h (f 0) (f 2) (f 3) St.OK (rest.getD 0 1 = 1) (rest.getD 1 1 = 1) ((groupsOf 9 (f 1) (pay.drop 4)).map SoEntry.of) u

/-- The role classes (Table 2-10). -/
def roleMsg (h : Sys2Proof.LHdr) (cls : Nat) (pay : List Nat) (u : Units) : Units :=
  let f := fun (i : Nat) => pay.getD i 0
  if cls = 0x30 then lease h pay u
  else if cls = 0x31 then roleHb h (f 0) (f 1) (f 2) (f 3) (f 4) u
  else if cls = 0x32 then takeover h pay u
  else if cls = 0x33 then witness h pay u
  else if cls = 0x34 then journal h (f 0) (f 1) (f 2) (f 4 % 2 = 1) (journalOf (f 3) (pay.drop 5)) u
  else if cls = 0x35 then journalCheck h (f 0) (f 1) (f 2) (f 3) (f 4) u
  else if cls = 0x36 then epoch h (f 0) (f 1) (f 2) u
  else if cls = 0x37 then route h pay u
  else if cls = 0x38 then standingMsg h pay u
  else if cls = 0x39 then wardenSet h pay u
  else if cls = 0x3A then roleReport h pay u
  else if cls = 0x3B then key h (f 0) (f 1) (f 2) (f 3) (f 4) (f 5 = 1) (f 6) (f 7) u
  else if cls = 0x3C then admin h pay u
  else u

/-- The Vigil classes (Table 12-5), and what a T3 sends to a role that it holds itself. -/
def vigilMsg (h : Sys2Proof.LHdr) (cls : Nat) (pay : List Nat) (u : Units) : Units :=
  let f := fun (i : Nat) => pay.getD i 0
  if cls = 0x40 then lhb h (f 0) (f 1) (f 2) u
  else if cls = 0x41 then lprobe h u
  else if cls = 0x42 then lprobeAck h (f 0) u
  else if cls = 0x43 then faultUp h (Notice.of pay) (pay.drop 14) u
  else if cls = 0x44 then pfNotice h (Notice.of pay) u
  else if cls = 0x45 then pfAck h (f 0) (f 1) (f 2) (f 3) u
  else if cls = 0x46 then
    let n := f 3
    waitProbe h (f 0) (f 1) (f 2) (groupsOf 5 n (pay.drop 4)) (f (4 + 5 * n)) (f (5 + 5 * n)) u
  else if cls = 0x47 then waitBreak h (f 0) (f 1) (f 3) (f 5) (f 6) u
  else if cls = 0x55 then spareReq h (f 0) (f 1) (f 2) (f 3) u
  else if cls = 0x5C && f 0 = 2 then embCtlRoute h (f 1) (f 3) (f 4) (f 5) (f 6) (f 7) ((pay.drop 9).take (f 2)) u
  else if cls = 0x64 then evtFwd h (f 0) (f 2 = 1) ((groupsOf 7 (f 1) (pay.drop 3)).map fun x => (u.entryOf x, true)) u
  else u

/-- A message that this T3 takes (R46, R52, R53): an answer to a drill probe that it sent ends that probe. -/
def deliver (h : Sys2Proof.LHdr) (cls : Nat) (pay : List Nat) (u : Units) : Units :=
  if lResp h && (u.role.role.any fun p => p.2.drillOut.any fun x => x.2.2 = h.seq && x.2.1 = h.src) then drillProbeAnswer h h.seq u
  else if 0x30 ≤ cls && cls ≤ 0x3F then roleMsg h cls pay u
  else vigilMsg h cls pay u

end Sys2Proof.Machine
end

