-- ==== Sys2Proof/Machine/Collective.lean ====
section
/-!
DEFINITION. The collective engine (17): groups, calls, the algorithms of Table 17-4, aborts, internal callers.
-/
namespace Sys2Proof.Machine

open Sys2Proof (CollSig CollMsg CollAb)

/-- Change the engine. -/
def Units.upX (u : Units) (f : Coll → Coll) : Units := { u with coll := f u.coll }

/-- A group held under an identifier. -/
def Coll.find (x : Coll) (id : Nat) : Option (Nat × CollGroup) := x.groups.find? fun g => g.2.id = id

/-- The group's identifier as events and messages name it. -/
def Units.upGroup (u : Units) (id : Nat) (f : CollGroup → CollGroup) : Units :=
  u.upX fun x => { x with groups := x.groups.map fun g => if g.2.id = id then (g.1, f g.2) else g }

/-- Operation and type are paired in Table 17-3. -/
def collPaired (op t count : Nat) : Bool :=
  if t = 0 then op = 1 && count = 0
  else if t = 1 then 2 ≤ op && op ≤ 5
  else if t = 2 ∨ t = 3 ∨ t = 4 then 2 ≤ op && op ≤ 4
  else if t = 6 ∨ t = 7 then op = 2
  else if t = 8 then op = 6 || op = 7
  else false

/-! Combination (Table 17-3, R413) -/

/-- binary32 and binary64 as R176, R179 and R181 name them: RNE, FTZ and DAZ clear, canonical NaN. -/
def collArith : ACtx := { rm := 0, ftz := false, daz := false, nanProp := false, sat := false, srBits := 0, word := 0 }

/-- One element: the partial of the lower rank first. -/
def combineElem (op t : Nat) (a b : List Nat) : List Nat :=
  let x := leNat a
  let y := leNat b
  let sx := toSigned 64 x
  let sy := toSigned 64 y
  if t = 1 then leBytes 8 (if op = 2 then (x + y) % 2 ^ 64 else if op = 3 then min x y else if op = 4 then max x y else x ||| y)
  else if t = 2 then leBytes 8 (if op = 2 then (x + y) % 2 ^ 64 else if op = 3 then (if sx ≤ sy then x else y) else if sx ≤ sy then y else x)
  else if t = 3 then leBytes 4 (if op = 2 then (collArith.add 1 x y).1 else (collArith.minmax 1 x y (op == 4)).1)
  else if t = 4 then leBytes 8 (if op = 2 then (collArith.add 6 x y).1 else (collArith.minmax 6 x y (op == 4)).1)
  else if t = 6 then ((LAcc.ofBytes a).acc (LAcc.ofBytes b)).1.bytes
  else if t = 7 then leBytes 8 ((x % fpP + y % fpP) % fpP)
  else b

/-- All elements of two partials of equal length. -/
def combineAll (op t : Nat) : Nat → List Nat → List Nat → List Nat
  | 0, _, _ => []
  | n + 1, a, b =>
    let w := collElem t
    combineElem op t (a.take w) (b.take w) ++ combineAll op t n (a.drop w) (b.drop w)

/-- An input as it enters the call: fingerprints are reduced first (R204). -/
def collLoad (t : Nat) (l : List Nat) : List Nat :=
  if t = 7 then (elemsOf 8 (l.length / 8) l).flatMap fun x => leBytes 8 (x % fpP) else l

/-- `buf` with `d` at byte offset `o`. -/
def splice (buf : List Nat) (o : Nat) (d : List Nat) : List Nat := buf.take o ++ d ++ buf.drop (o + d.length)

/-! Algorithms (R414) -/

/-- One step of a call at one member: phase and round, whom it sends to with which byte ranges, whom it receives from, and whether what it
receives is combined (or copied). -/
structure CollStep where
  phase : Nat
  round : Nat
  dest : Option (Nat × List (Nat × Nat))
  from_ : Option (Nat × List (Nat × Nat))
  comb : Bool
  deriving DecidableEq, Repr

/-- ⌈log2 n⌉. -/
def clog2 (n : Nat) : Nat := if n ≤ 1 then 0 else Nat.log2 (n - 1) + 1

/-- Exchange partner of a rank at distance `d`. -/
def partner (r d : Nat) : Nat := if r / d % 2 = 0 then r + d else r - d

/-- Element range a rank keeps after `k` halving rounds of `q` (distances n'/2, n'/4, …): the lower rank keeps the lower half. -/
def keptRange (r q count : Nat) : Nat → Nat × Nat
  | 0 => (0, count)
  | k + 1 =>
    let p := keptRange r q count k
    let h := p.2 / 2
    if r / 2 ^ (q - (k + 1)) % 2 = 0 then (p.1, h) else (p.1 + h, p.2 - h)

/-- The steps of a call at rank `r` of `n` (Table 17-4), `w` bytes per element. -/
def collPlan (op n r root count w threshold : Nat) : List CollStep :=
  let s := count * w
  if op = 1 then
    (List.range (clog2 n)).map fun k =>
      { phase := 0, round := k, dest := some ((r + 2 ^ k) % n, []), from_ := some ((r + n - 2 ^ k) % n, []), comb := false }
  else if op = 6 then
    let v := (r + n - root) % n
    let real := fun (x : Nat) => (x + root) % n
    (List.range (clog2 n)).filterMap fun k =>
      if v < 2 ^ k then
        (if v + 2 ^ k < n then some { phase := 0, round := k, dest := some (real (v + 2 ^ k), [(0, s)]), from_ := none, comb := false } else none)
      else if v < 2 ^ (k + 1) then some { phase := 0, round := k, dest := none, from_ := some (real (v - 2 ^ k), [(0, s)]), comb := false }
      else none
  else if op = 7 then
    (List.range (clog2 n)).map fun k =>
      let m := min (2 ^ k) (n - 2 ^ k)
      let blk := fun (x : Nat) => (List.range m).map fun i => (((x + i) % n) * s, s)
      { phase := 0, round := k, dest := some ((r + n - 2 ^ k) % n, blk r), from_ := some ((r + 2 ^ k) % n, blk (r + 2 ^ k)), comb := false }
  else
    let q := Nat.log2 n
    let n' := 2 ^ q
    if n' ≤ r then
      [{ phase := 1, round := 0, dest := some (r - n', [(0, s)]), from_ := none, comb := false },
       { phase := 2, round := 0, dest := none, from_ := some (r - n', [(0, s)]), comb := false }]
    else
      let fold := r + n' < n
      let inn : List CollStep := if fold then [{ phase := 1, round := 0, dest := none, from_ := some (r + n', [(0, s)]), comb := true }] else []
      let out : List CollStep := if fold then [{ phase := 2, round := 0, dest := some (r + n', [(0, s)]), from_ := none, comb := false }] else []
      let main : List CollStep :=
        if s ≤ threshold * 1024 then
          (List.range q).map fun k =>
            let p := partner r (2 ^ k)
            { phase := 0, round := k, dest := some (p, [(0, s)]), from_ := some (p, [(0, s)]), comb := true }
        else
          let bytes := fun (x : Nat × Nat) => [(x.1 * w, x.2 * w)]
          let halve : List CollStep := (List.range q).map fun k =>
            let p := partner r (2 ^ (q - 1 - k))
            { phase := 0, round := k, dest := some (p, bytes (keptRange p q count (k + 1))), from_ := some (p, bytes (keptRange r q count (k + 1))), comb := true }
          let double : List CollStep := (List.range q).map fun k =>
            let p := partner r (2 ^ k)
            { phase := 3, round := k, dest := some (p, bytes (keptRange r q count (q - k))), from_ := some (p, bytes (keptRange p q count (q - k))), comb := false }
          halve ++ double
      inn ++ main ++ out

/-- The steps of a call. -/
def CollCall.plan (c : CollCall) : List CollStep :=
  collPlan c.sig.op c.members.length c.rank c.sig.root c.sig.count (collElem c.sig.typ) c.threshold

/-! Sending (R421, R422) -/

/-- Group, space and number of a call (R412). -/
def CollCall.isCall (c : CollCall) (group space num : Nat) : Bool := c.sig.group = group && c.sig.space = space && c.num = num

/-- Send a collective message to a member under the next lantern sequence, for activity `act`. -/
def Units.sendColl (u : Units) (dst cls vc grp act len : Nat) (pay : List Nat) : Units :=
  let n := u.role.nextSeq
  let u : Units := { u with role := { u.role with nextSeq := wrapW 16 (n + 1) } }
  if u.routeFenced dst then u.count fencedDrops
  else
  match u.hop dst with
  | some p =>
    let s : CollSent := { time := u.clk.mono, port := p - 16, head := u.lanternHead dst cls 0 n len, vc := vc, grp := grp, act := act, pay := pay, bytes := [], from_ := 0 }
    (u.sendCollTx s).upX fun x => { x with recent := (x.recent.filter fun r => u.clk.mono ≤ r.time + 10 ^ 7) ++ [s] }
  | none => u

/-- A message that is resent: of a call of its own only while that is open; whatever it forwarded (R421). -/
def Units.resends (u : Units) (r : CollSent) : Bool :=
  decide (u.clk.mono ≤ r.time + 10 ^ 7) &&
    (!r.bytes.isEmpty || u.coll.open_.any fun c => c.isCall (r.pay.getD 0 0) (bits (r.pay.getD 2 0) 63 62) (r.pay.getD 8 0))

/-- Resend what went over a lantern port in the last 10 ms (R421), after a full retrain with loss. -/
def Units.collResend (u : Units) (p : Nat) : Units :=
  (u.coll.recent.filter fun r => 16 + r.port = p && u.resends r).foldl (fun u r => u.sendCollTx r) u

/-- The messages of a range: at most 4,072 data bytes each. -/
def collChunks (buf : List Nat) : Nat → Nat → Nat → List (Nat × List Nat)
  | 0, _, _ => []
  | n + 1, off, len =>
    if len = 0 then [] else
    let k := min 4072 len
    (off, (buf.drop off).take k) :: collChunks buf n (off + k) (len - k)

/-- Send one step's data; a step without data is one header. -/
def Units.sendRound (u : Units) (c : CollCall) (s : CollStep) : Units :=
  match s.dest with
  | none => u
  | some (r, rs) =>
    let dst := c.members.getD r 0
    let ms := rs.flatMap fun x => collChunks c.buf (x.2 / 4072 + 1) x.1 x.2
    let ms := if ms.isEmpty then [(0, [])] else ms
    let bar := c.sig.op = 1
    ms.foldl (fun u m =>
      ((u.sendColl dst 0x20 (if bar then 2 else 0) (if bar then 0 else 1 + c.sig.group) (collAct c.gate c.sig.space) (56 + m.2.length)
        (c.sig.fields ++ [c.num, s.round, s.phase, c.rank, m.1] ++ m.2)).count 0x900130 m.2.length).spend
        (collAct c.gate c.sig.space) 0 m.2.length) u

/-! Running a call -/

/-- The same call: numbers run per group epoch (R412). -/
def CollCall.same (c d : CollCall) : Bool := c.isCall d.sig.group d.sig.space d.num && c.sig.epoch = d.sig.epoch

/-- The open call that a signature and number match: one of its epoch, else one of its number (R412, R416). -/
def Coll.match_ (x : Coll) (s : CollSig) (num : Nat) : Option CollCall :=
  match x.open_.find? fun c => c.isCall s.group s.space num && c.sig.epoch = s.epoch with
  | some c => some c
  | none => x.open_.find? fun c => c.isCall s.group s.space num

/-- Replace a call. -/
def Units.putCall (u : Units) (c : CollCall) : Units :=
  u.upX fun x => { x with open_ := x.open_.map fun d => if d.same c then c else d }

/-- Take a call out. -/
def Units.dropCall (u : Units) (c : CollCall) : Units := u.upX fun x => { x with open_ := x.open_.filter fun d => !(d.same c) }

/-- The messages of one step that have come from a rank, and whether they are all there. -/
def CollCall.arrived (c : CollCall) (s : CollStep) (r : Nat) (rs : List (Nat × Nat)) : Option (List CollMsg) :=
  let ms := c.msgs.filter fun m => m.phase = s.phase && m.round = s.round && m.rank = r
  let want := sumL (rs.map (·.2))
  if ms.isEmpty || sumL (ms.map fun m => m.data.length) < want then none else some ms

/-- Enter received bytes into the buffer. -/
def CollCall.absorb (c : CollCall) (s : CollStep) (r : Nat) (rs : List (Nat × Nat)) (ms : List CollMsg) : CollCall :=
  let raw := ms.foldl (fun b m => splice b m.off m.data) c.buf
  let buf :=
    if !s.comb then raw
    else
      let w := collElem c.sig.typ
      rs.foldl (fun b x =>
        let mine := (c.buf.drop x.1).take x.2
        let theirs := (raw.drop x.1).take x.2
        let n := x.2 / (if w = 0 then 1 else w)
        splice b x.1 (if c.rank < r then combineAll c.sig.op c.sig.typ n mine theirs else combineAll c.sig.op c.sig.typ n theirs mine)) c.buf
  { c with buf := buf, msgs := c.msgs.filter fun m => !(ms.contains m) }

/-- Do what the call can do now: send, receive, go on. Answers the call and whether it has completed. -/
def Units.advance : Nat → CollCall → Units → Units × CollCall × Bool
  | 0, c, u => (u, c, false)
  | n + 1, c, u =>
    match c.plan[c.step]? with
    | none => (u, c, true)
    | some s =>
      let u := if c.sent then u else u.sendRound c s
      let c := if c.sent then c else { c with sent := true, t0 := u.clk.mono }
      let next := fun (c : CollCall) => { c with step := c.step + 1, sent := false, worst := max c.worst (u.clk.mono - c.t0) }
      match s.from_ with
      | none => Units.advance n (next c) u
      | some (r, rs) =>
        match c.arrived s r rs with
        | none => (u, c, false)
        | some ms => Units.advance n (next (c.absorb s r rs ms)) u

/-- The bitmap of a timed-out call goes to the first 256 bytes of its output area (R424). -/
def bitmapOut (m : Mem) (u : Units) (c : CollCall) (a : CollAb) : Mem :=
  if c.caller = 0 && a.status = St.COLL_TIMEOUT then memPutAt m u c.outR c.outOff (leBytes 256 a.bitmap) else m

/-- Tell the caller of an ended call (R423, R424). -/
def Units.tellCaller (u : Units) (c : CollCall) (status detail : Nat) : Units :=
  let u := match c.cmd with
    | some k => u.done k 0x090 0x0903 status detail
    | none => u
  let job := match u.coll.find c.sig.group with | some g => g.2.job | none => 0
  let u := if c.caller = 1 then u.later (.gateDone job c.sig.seq status) else u
  if c.caller = 2 && status = St.OK then
    u.upGroup c.sig.group fun g => { g with total := (c.sig.seq % 2 ^ 62) :: elemsOf 8 4 c.buf }
  else u

/-- A call has left the table: the next call of its group and space may execute. `fuel` bounds the calls that follow. -/
def collNext : Nat → Nat → Nat → Mem → Units → Mem × Units
  | 0, _, _, m, u => (m, u)
  | fuel + 1, group, space, m, u =>
    match u.coll.open_.find? fun c => c.sig.group = group && c.sig.space = space with
    | none => (m, u)
    | some c =>
      if c.ab.isSome then (m, u)
      else
        let r := Units.advance (c.plan.length + 1) { c with running := true } u
        let u := r.1.putCall r.2.1
        if !r.2.2 then (m, u)
        else
          let c := r.2.1
          let u := u.dropCall c
          let u := (u.upGroup group fun g => { g with lastOk := NMap.set g.lastOk space c.sig.seq, worst := c.worst }).count 0x900100
          let out := c.caller = 0 && c.sig.op ≠ 1
          let m := if out then memPutAt m u c.outR c.outOff c.buf else m
          let u := if out then u.cureAt c.outR c.outOff c.buf.length else u
          let u := c.cancels.foldl (fun u k => u.done k 0x090 0x0904 St.OK) (u.tellCaller c St.OK 0)
          collNext fuel group space m u

/-- Drive the calls of a group and space. -/
def collDrive (group space : Nat) (m : Mem) (u : Units) : Mem × Units := collNext (u.coll.open_.length + 1) group space m u

/-! Aborts (R416-R420) -/

/-- Send the abort of the present round. -/
def Units.sendAbort (u : Units) (c : CollCall) (a : CollAb) : Units :=
  let n := c.members.length
  let dst := c.members.getD ((c.rank + 2 ^ a.round) % (if n = 0 then 1 else n)) 0
  u.sendColl dst 0x21 2 0 (collAct c.gate c.sig.space) 336 (c.sig.fields ++ [c.num, a.status, a.detector, a.named, a.round] ++ a.differ.fields ++ [a.bitmap])

/-- Lowest rank below `n` whose bit is clear, 0xFFFF when none is. -/
def lowestClear (bitmap n : Nat) : Nat := ((List.range n).find? fun r => !(Nat.testBit bitmap r)).getD 0xFFFF

/-- The next call of the group takes a number above that of an ended call (R420). -/
def Units.passNum (u : Units) (c : CollCall) : Units :=
  u.upGroup c.sig.group fun g =>
    if g.epoch = c.sig.epoch then { g with next := NMap.set g.next c.sig.space (max (NMap.getD g.next c.sig.space 0) (c.num + 1)) } else g

/-- The call ends with the winning abort (R419, R420). -/
def collEnd (c : CollCall) (a : CollAb) (m : Mem) (u : Units) : Mem × Units :=
  let n := c.members.length
  let a := if a.status = St.COLL_TIMEOUT then { a with named := lowestClear a.bitmap n } else a
  let u := (u.dropCall c).upX fun x => { x with ended := x.ended ++ [(c.sig, c.num, a)] }
  let u := (u.passNum c).upGroup c.sig.group fun g => { g with worst := c.worst }
  let u := u.count (if a.status = St.COLL_MISMATCH then 0x900108 else if a.status = St.COLL_TIMEOUT then 0x900110 else 0x900118)
  let u := u.raise (0x8000 + a.status) 2 0x090 (payloadOf [(0, 4, c.sig.group), (4, 2, a.named), (6, 2, a.detector)])
  let u := if a.status = St.COLL_TIMEOUT then
      u.probeT3s (((List.range n).filter fun r => !(Nat.testBit a.bitmap r)).map fun r => c.members.getD r 0)
    else u
  let m := bitmapOut m u c a
  let u := if c.caller = 0 && a.status = St.COLL_TIMEOUT then u.cureAt c.outR c.outOff 256 else u
  let u := c.cancels.foldl (fun u k => u.done k 0x090 0x0904 St.OK) (u.tellCaller c a.status a.detail)
  collDrive c.sig.group c.sig.space m u

/-- Go on with the abort rounds while the abort of the present round has come. -/
def abortGo : Nat → CollCall → Mem → Units → Mem × Units
  | 0, c, m, u => (m, u.putCall c)
  | fuel + 1, c, m, u =>
    match c.ab with
    | none => (m, u)
    | some a =>
      if clog2 c.members.length ≤ a.round then collEnd c a m u
      else match c.abGot.find? fun b => b.round = a.round with
        | none => (m, u.putCall c)
        | some b =>
          let a := { a.merge b with round := a.round + 1 }
          let c := { c with ab := some a, abGot := c.abGot.filter fun x => x.round ≠ b.round }
          abortGo fuel c m (if a.round < clog2 c.members.length then u.sendAbort c a else u)

/-- Start the abort rounds of an open call with record `a`. -/
def startAbort (c : CollCall) (a : CollAb) (m : Mem) (u : Units) : Mem × Units :=
  let c := { c with ab := some { a with round := 0 } }
  let u := u.putCall c
  if c.members.length ≤ 1 then collEnd c { a with round := 0 } m u
  else abortGo (clog2 c.members.length + 1) c m (u.sendAbort c { a with round := 0 })

/-- An abort that begins here (R416-R418). -/
def CollCall.abortOf (c : CollCall) (status named : Nat) (differ : CollSig) : CollAb :=
  { status := status, detector := c.rank, named := named, differ := differ,
    bitmap := if c.caller = 4 then 0 else c.heard ||| 2 ^ c.rank, round := 0 }

/-! Round messages (R412, R416) -/

/-- The call number at which a group and space stand: the lowest open call, else the next number. -/
def Coll.base (x : Coll) (g : CollGroup) (space : Nat) : Nat :=
  match x.open_.find? fun c => c.sig.group = g.id && c.sig.space = space && c.sig.epoch = g.epoch with
  | some c => c.num
  | none => NMap.getD g.next space 0

/-- Give a message to its call: duplicates are discarded, a differing signature starts an abort. -/
def takeRound (k : CollMsg) (c : CollCall) (m : Mem) (u : Units) : Mem × Units :=
  if c.ab.isSome || c.msgs.any (fun x => x.round = k.round && x.phase = k.phase && x.rank = k.rank && x.off = k.off) then (m, u)
  else
    let passed := c.plan.take c.step |>.any fun s => s.phase = k.phase && s.round = k.round && (match s.from_ with | some f => decide (f.1 = k.rank) | none => false)
    if passed then (m, u)
    else
      let c := { c with heard := c.heard ||| 2 ^ k.rank }
      if k.sig ≠ c.sig then startAbort c (c.abortOf St.COLL_MISMATCH k.rank k.sig) m (u.putCall c)
      else
        let u := u.putCall { c with msgs := c.msgs ++ [k] }
        if c.running then collDrive c.sig.group c.sig.space m u else (m, u)

/-- COLL_ROUND (R412, R416). -/
def collRound (h : Sys2Proof.LHdr) (k : CollMsg) (m : Mem) (u : Units) : Mem × Units :=
  if u.lanternDrops h then (m, u.recvL h 0x20 0 id)
  else
    let sp := k.sig.space
    match u.coll.find k.sig.group with
    | none => (m, u.count 0x900128)
    | some (_, g) =>
      match u.coll.match_ k.sig k.num with
      | some c => takeRound k c m u
      | none =>
        let b := u.coll.base g sp
        if k.num < NMap.getD g.next sp 0 || b + 2 < k.num then (m, u.count 0x900128)
        else if u.coll.held.any fun x => x.sig.group = g.id && x.sig.space = sp && x.num = k.num && x.round = k.round && x.phase = k.phase && x.rank = k.rank && x.off = k.off
          then (m, u)
        else (m, u.upX fun x => { x with held := x.held ++ [k] })

/-- A call that has not been entered here and whose abort rounds this T3 joins (R419). -/
def joinCall (g : CollGroup) (sig : CollSig) (num : Nat) : CollCall :=
  { sig := sig, num := num, members := g.members, rank := g.rank, gate := bitAt g.flags 0, threshold := g.threshold, caller := 4, cmd := none, outR := 0,
    outOff := 0, timeout := 0, running := false, step := 0, sent := false, buf := [], msgs := [], heard := 0, t0 := 0, worst := 0, ab := none,
    abGot := [], cancels := [] }

/-- COLL_ABORT (R419, R420). -/
def collAbort (h : Sys2Proof.LHdr) (sig : CollSig) (num : Nat) (a : CollAb) (m : Mem) (u : Units) : Mem × Units :=
  if u.lanternDrops h then (m, u.recvL h 0x21 0 id)
  else
    let sp := sig.space
    match u.coll.find sig.group with
    | none => (m, u)
    | some (_, g) =>
      match u.coll.match_ sig num with
      | some c =>
        let c := { c with abGot := if c.abGot.any (fun x => x.round = a.round) then c.abGot else c.abGot ++ [a] }
        (match c.ab with
        | some _ => abortGo (clog2 c.members.length + 1) c m (u.putCall c)
        | none => startAbort c { a with bitmap := a.bitmap ||| (if c.caller = 4 then 0 else c.heard ||| 2 ^ c.rank) } m (u.putCall c))
      | none =>
        if num < NMap.getD g.next sp 0 then
          (if u.coll.ended.any fun e => e.1.group = g.id && e.1.space = sp && e.2.1 = num then (m, u) else (m, u.count 0x900120))
        else
          let c := { joinCall g sig num with abGot := [a] }
          startAbort c a m (u.upX fun x =>
            { x with open_ := x.open_ ++ [c], held := x.held.filter fun k => !(k.sig.group = g.id && k.sig.space = sp && k.num = num) })

/-- COLL_ABORT_ROUND_EXPIRY (R419): the round of a call ends without its abort. -/
def collAbortRoundExpiry (group space num : Nat) (m : Mem) (u : Units) : Mem × Units :=
  match u.coll.open_.find? fun c => c.isCall group space num with
  | none => (m, u)
  | some c => match c.ab with
    | none => (m, u)
    | some a =>
      let a := { a with round := a.round + 1 }
      let c := { c with ab := some a }
      abortGo (clog2 c.members.length + 1) c m (if a.round < clog2 c.members.length then u.sendAbort c a else u)

/-- COLL_CALL_TIMEOUT (R417). -/
def collCallTimeout (group space num : Nat) (m : Mem) (u : Units) : Mem × Units :=
  match u.coll.open_.find? fun c => c.isCall group space num with
  | none => (m, u)
  | some c => if c.ab.isSome then (m, u) else startAbort c (c.abortOf St.COLL_TIMEOUT 0xFFFF c.sig) m u

/-! Entering calls (R411, R412) -/

/-- Enter a call that has passed its checks: it takes the next number, and messages held for it are given to it. -/
def enterCall (g : CollGroup) (sig : CollSig) (caller : Nat) (cmd : Option Sys2Proof.Cmd) (input : List Nat) (outR outOff timeout : Nat) (m : Mem) (u : Units) :
    Mem × Units :=
  let sp := sig.space
  let num := NMap.getD g.next sp 0
  let n := g.members.length
  let data := collLoad sig.typ input
  let buf := if sig.op = 7 then List.replicate (g.rank * sig.size) 0 ++ data ++ List.replicate ((n - 1 - g.rank) * sig.size) 0
    else if sig.op = 6 && g.rank ≠ sig.root then List.replicate sig.size 0 else data
  let first := !(u.coll.open_.any fun c => c.sig.group = g.id && c.sig.space = sp)
  let c : CollCall := { joinCall g sig num with caller := caller, cmd := cmd, outR := outR, outOff := outOff, timeout := timeout, running := first, buf := buf }
  let mine := u.coll.held.filter fun k => k.sig.group = g.id && k.sig.space = sp && k.num = num
  let u := u.upX fun x => { x with open_ := x.open_ ++ [c], held := x.held.filter fun k => !(k.sig.group = g.id && k.sig.space = sp && k.num = num) }
  let u := u.upGroup g.id fun g => { g with next := NMap.set g.next sp (num + 1) }
  let r := mine.foldl (fun (a : Mem × Units) k =>
    match a.2.coll.match_ sig num with
    | some c => takeRound k c a.1 a.2
    | none => a) (m, u)
  if first then collDrive g.id sp r.1 r.2 else r

/-- The abort that has ended the call of a signature (R420). -/
def Coll.endedAs (x : Coll) (s : CollSig) : Option CollAb := (x.ended.find? fun e => e.1 = s).map (·.2.2)

/-- An internal call (Table 17-6): where it cannot be entered it is left out. -/
def callInside (id caller : Nat) (sig : CollSig) (data : List Nat) (timeout : Nat) (m : Mem) (u : Units) : Mem × Units :=
  match u.coll.find id with
  | none => (m, u)
  | some (_, g) =>
    let job := g.job
    match u.coll.endedAs sig with
    | some a => (m, if caller = 1 then u.later (.gateDone job sig.seq a.status) else u)
    | none =>
      if !u.coll.enable || 256 ≤ u.coll.open_.length then (m, u)
      else if (match NMap.find g.lastOk sig.space with | some q => decide (sig.seq ≤ q) | none => false) then (m, u)
      else enterCall g sig caller none data 0 0 timeout m u

/-- The T3 enters the apply-gate barrier of a step (R248): the gate group of the job. -/
def collGate (job step : Nat) (m : Mem) (u : Units) : Mem × Units :=
  match u.coll.groups.find? fun g => bitAt g.2.flags 0 && g.2.job = job with
  | none => (m, u)
  | some (_, g) =>
    let t := match u.jobB job with | some j => (if j.gateMs = 0 then bits (u.cfg 0x600008 2000) 15 0 else j.gateMs) | none => 0
    callInside g.id 1 { group := g.id, epoch := g.epoch, seq := step, op := 1, typ := 0, root := 0, count := 0 } [] t m u

/-- Recovery cancels the open gate calls of a job from a step on (R317, R418). -/
def collGateCancel (job step : Nat) (m : Mem) (u : Units) : Mem × Units :=
  let mine := u.coll.open_.filter fun c => c.gate && c.caller = 1 && step ≤ c.sig.seq && c.ab.isNone &&
    (match u.coll.find c.sig.group with | some g => decide (g.2.job = job) | none => false)
  mine.foldl (fun (a : Mem × Units) c => startAbort c (c.abortOf St.ABORTED_RESET c.rank c.sig) a.1 a.2) (m, u)

/-- Ledger totals at an interval boundary (R423): `total` gives the energy fields of a job's INTERVAL record. -/
def collTotals (interval : Nat) (total : Nat → List Nat) (m : Mem) (u : Units) : Mem × Units :=
  if !u.clk.locked then (m, u)
  else
    let gs := (NMap.vals u.coll.groups).filter fun g => bitAt g.flags 2
    gs.foldl (fun (a : Mem × Units) g =>
      let seq := 2 ^ 62 + u.clk.sec / (if interval = 0 then 1 else interval)
      callInside g.id 2 { group := g.id, epoch := g.epoch, seq := seq, op := 2, typ := 1, root := 0, count := 4 } ((total g.job).flatMap (leBytes 8)) 5000 a.1 a.2)
      (m, u)

/-- COLL_HEALTH_CALL (R423): a group with the health flag. -/
def collHealthCall (group : Nat) (m : Mem) (u : Units) : Mem × Units :=
  match u.coll.find group with
  | none => (m, u)
  | some (_, g) =>
    if !u.clk.locked || !(bitAt g.flags 1) || g.period = 0 then (m, u)
    else
      let ms := u.clk.sec * 1000 + u.clk.ns / 10 ^ 6
      callInside group 3 { group := group, epoch := g.epoch, seq := 2 ^ 63 + ms / g.period, op := 1, typ := 0, root := 0, count := 0 } [] g.period m u

/-! Commands (R424) -/

/-- A sender may call and cancel for a group: an operator, or a tenant for groups of its own job. -/
def Units.mayGroup (u : Units) (c : Sys2Proof.Cmd) (g : Option CollGroup) : Bool :=
  isOperator (stampPriv c.stamp) ||
    (stampPriv c.stamp == 1 && (match g with | some g => decide (g.job ≠ 0) && decide (g.job = (u.desc c.ring).job) | none => false))

/-- Ranges of a host call: input and output bytes. -/
def collRanges (sig : CollSig) (n rank : Nat) : Nat × Nat :=
  if sig.op = 1 then (0, 256)
  else if sig.op = 7 then (sig.size, max 256 (n * sig.size))
  else if sig.op = 6 then (if rank = sig.root then sig.size else 0, max 256 sig.size)
  else (sig.size, max 256 sig.size)

/-- A byte range lies in a region. -/
def Units.inRegion (u : Units) (idx off len : Nat) : Bool :=
  match NMap.find u.mantle.regions idx with
  | some r => off + len ≤ r.pages.length * pageBytes
  | none => false

/-- COLL_CALL (0x0903, R411, R424); `crc` is bytes 28-31 of the signature. -/
def collCall (c : Sys2Proof.Cmd) (sig : CollSig) (crc inR inOff outR outOff timeout : Nat) (m : Mem) (u : Units) : Mem × Units :=
  let no := fun s => (m, u.done c 0x090 0x0903 s)
  let g := (u.coll.find sig.group).map (·.2)
  if !(u.mayGroup c g) then no St.NOT_PRIVILEGED
  else if !u.coll.enable then no St.BAD_STATE
  else match g with
    | none => no St.BAD_PARAM
    | some g =>
      match u.coll.endedAs sig with
      | some a => (m, u.done c 0x090 0x0903 a.status a.detail)
      | none =>
        let n := g.members.length
        let bar := sig.op = 1
        let r := collRanges sig n g.rank
        let old := match NMap.find g.lastOk sig.space with | some q => decide (sig.seq ≤ q) | none => false
        let badRoot := if sig.op = 6 then decide (n ≤ sig.root) else decide (sig.root ≠ 0)
        if crc ≠ crc32c sig.bytes || sig.epoch ≠ g.epoch || sig.space ≠ 0 || bitAt g.flags 0 || old || !(collPaired sig.op sig.typ sig.count)
            || 2 ^ 26 < sig.size || (sig.op = 7 && 2 ^ 28 < n * sig.size) || badRoot
            || (!bar && !(NMap.has u.mantle.regions inR)) || !(NMap.has u.mantle.regions outR)
            || (!bar && !(u.inRegion inR inOff r.1)) || !(u.inRegion outR outOff r.2) then no St.BAD_PARAM
        else
          let may := fun (idx : Nat) (w : Bool) => match NMap.find u.mantle.regions idx with | some x => maskGrants x.mask 8 w | none => false
          if (!bar && !(may inR false)) || !(may outR true) then no St.NOT_PRIVILEGED
          else if 256 ≤ u.coll.open_.length then no St.BUSY_RETRY
          else
            let ms := if timeout = 0 then bits (u.cfg 0x900008 (1000 + 100 * 2 ^ 16)) 15 0 else timeout
            enterCall g sig 0 (some c) (if bar then [] else memGetAt m u inR inOff r.1) outR outOff ms m u

/-- COLL_CANCEL (0x0904, R418, R424): completes once the call has ended at this member. -/
def collCancel (c : Sys2Proof.Cmd) (group seq : Nat) (m : Mem) (u : Units) : Mem × Units :=
  let no := fun s => (m, u.done c 0x090 0x0904 s)
  if !(u.mayGroup c ((u.coll.find group).map (·.2))) then no St.NOT_PRIVILEGED
  else match u.coll.open_.find? fun x => x.sig.group = group && x.sig.seq = seq && x.caller ≠ 4 with
    | none => no St.BAD_STATE
    | some x =>
      let x := { x with cancels := x.cancels ++ [c] }
      if x.ab.isSome then (m, u.putCall x) else startAbort x (x.abortOf St.ABORTED_RESET x.rank x.sig) m (u.putCall x)

/-- A list holds no element twice. -/
def distinct : List Nat → Bool
  | [] => true
  | a :: r => !(r.contains a) && distinct r

/-- COLL_GROUP_SET (0x0901, R409): the CID list is read at a Mantle address, 4 bytes per member. -/
def collGroupSet (c : Sys2Proof.Cmd) (group epoch flags job threshold period count addr : Nat) (m : Mem) (u : Units) : Units :=
  u.operator c 0x090 0x0901 fun u =>
    let no := fun s => u.done c 0x090 0x0901 s
    let ms := if 2048 < count then [] else (elemsOf 4 count (m.bytesAt addr (4 * count))).map fun x => x % 2 ^ 24
    let badPeriod := if bitAt flags 1 then period < 100 || 60000 < period else period ≠ 0
    if count = 0 || 2048 < count || !(distinct ms) || !(ms.contains u.self) || 8 ≤ flags || 2 ^ 16 ≤ threshold || badPeriod
        || !(u.mayAccess 8 addr (4 * count) false) then no St.BAD_PARAM
    else if !u.coll.enable then no St.BAD_STATE
    else
      let old := u.coll.find group
      match (match old with
        | some (k, g) => if epoch ≤ g.epoch then none else some k
        | none => NMap.firstFree u.coll.groups 1024) with
      | none => no St.BAD_STATE
      | some k =>
        let g : CollGroup :=
          { id := group, epoch := epoch, members := ms, rank := (ms.findIdx? (· = u.self)).getD 0, flags := flags,
            threshold := if threshold = 0 then 64 else threshold, job := job, period := period, next := [],
            lastOk := (match old with | some o => o.2.lastOk | none => []), worst := 0, total := List.replicate 5 0 }
        let u := u.upX fun x => { x with groups := NMap.set x.groups k g }
        let u := if bitAt flags 0 && (u.jobB job).isSome then (u.upJob job fun j => { j with group := group }).gateCheck job else u
        u.done c 0x090 0x0901 St.OK

/-- COLL_GROUP_FREE (0x0902, R424). -/
def collGroupFree (c : Sys2Proof.Cmd) (group : Nat) (u : Units) : Units :=
  u.operator c 0x090 0x0902 fun u =>
    match u.coll.find group with
    | none => u.done c 0x090 0x0902 St.BAD_PARAM
    | some (k, g) =>
      if u.coll.open_.any fun x => x.sig.group = group then u.done c 0x090 0x0902 St.BAD_STATE
      else
        let u := u.upX fun x =>
          { x with groups := NMap.del x.groups k, ended := x.ended.filter fun e => e.1.group ≠ group, held := x.held.filter fun k => k.sig.group ≠ group }
        let u := if bitAt g.flags 0 && (u.jobB g.job).isSome then u.upJob g.job fun j => { j with group := 0 } else u
        u.done c 0x090 0x0902 St.OK

/-- COLL_ENABLE_CLEAR (R425, R144): refused while a gate group is held; else the engine drains. -/
def collEnableClear (w : Sys2Proof.Who) (u : Units) : Units :=
  if !(isOperator w.priv) || !u.coll.enable || (NMap.vals u.coll.groups).any (fun g => bitAt g.flags 0) then u
  else
    let d : Drain := { unit := 0x09, items := u.coll.open_.length, enableHeld := false }
    { u.upX (fun x => { x with enable := false, draining := true }) with drains := u.drains ++ [d] }

/-- The engine's drain ends (R144): open calls are cancelled, without abort rounds. -/
def Units.collDrained (u : Units) (again : Bool) : Units :=
  let cs := u.coll.open_
  let u := u.upX fun x => { x with open_ := [], held := [], draining := false, enable := again || x.enable }
  cs.foldl (fun u c =>
    let u := u.passNum c
    c.cancels.foldl (fun u k => u.done k 0x090 0x0904 St.OK) (u.tellCaller c St.CANCELLED_BY_DISABLE 0)) u

end Sys2Proof.Machine
end

