-- ==== Sys2Proof/Machine/LedgerOps.lean ====
section
/-!
DEFINITION. Shared operations of the Ledger (16): accounts, divisions, records and their store, the token pool.
-/
namespace Sys2Proof.Machine

open Sys2Proof (CalSet StreamEnt)

/-- Change the Ledger. -/
def Units.upL (u : Units) (f : Ledger → Ledger) : Units := { u with led := f u.led }

/-- Key of a context. -/
def ctxKey (p c : Nat) : Nat := 64 * p + c

/-- Stream `i`. -/
def Units.stream (u : Units) (i : Nat) : Option Stream := NMap.find u.led.streams i

def Units.upStream (u : Units) (i : Nat) (f : Stream → Stream) : Units := u.upL fun l => { l with streams := NMap.upd l.streams i f }

/-- A Ledger event. -/
def Units.ledEvent (u : Units) (code : Nat) (payload : Nat := 0) : Units := u.raise code 2 0x080 payload

/-! Settings -/

def Units.ledCfg (u : Units) : Nat := u.cfg 0x800008 (60 + 90 * 2 ^ 16)

/-! The store (R404, R406) -/

/-- The chunk of the ledger region that holds a record: 1,024 records of 256 bytes. -/
def recChunk (seq : Nat) : Nat := seq / 1024

/-- Chunks of the ledger region in use. -/
def Ledger.usedChunks (l : Ledger) : Nat := (((l.written ++ l.stored).map fun r => recChunk r.r.seq).eraseDups).length

/-- Fill of the ledger region in percent; it counts as full while Tallow is unmounted or disabled (R465, R478). -/
def Units.storePct (u : Units) : Nat :=
  let size := u.tal.sizes.getD 1 0
  if !u.tal.mounted || !u.tal.enable || size = 0 then 100 else min 100 (u.led.usedChunks * 100 / size)

/-- The region is full: no record can be formed. -/
def Units.storeFull (u : Units) : Bool := 100 ≤ u.storePct

/-- Ledger backpressure (R406). -/
def Units.backpressure (u : Units) : Bool := bits u.ledCfg 22 16 ≤ u.storePct || 16384 < u.led.toSign.length

/-- Tenant of a job. -/
def Units.tenantFor (u : Units) (job : Nat) : Nat := if job = 0 then 0 else (NMap.find u.led.tenants job).getD (Config.tenantOf job)

/-! Accounts (R392-R395) -/

/-- Flags of an account as a record shows them: bit 4 when a tick was estimated. -/
def Acct.shown (a : Acct) : Nat := a.flags ||| (if a.est = 0 then 0 else 16)

/-- Add shares to an account; the first tick sets its start. -/
def Acct.add (a : Acct) (d s t : Nat) : Acct := { a with e1 := a.e1 + d, e2 := a.e2 + s, e3 := a.e3 + t }

/-- Set a flag. -/
def Acct.flag (a : Acct) (b : Nat) : Acct := { a with flags := setBit a.flags b }

/-- Energy in an account. -/
def Acct.total (a : Acct) : Nat := a.e1 + a.e2 + a.e3 + a.e4

/-- Change every open account. -/
def Ledger.mapAccts (l : Ledger) (f : Acct → Acct) : Ledger :=
  { l with
    streams := l.streams.map fun e => (e.1, if e.2.recorded then e.2 else { e.2 with acct := f e.2.acct })
    excess := l.excess.map fun e => (e.1, { e.2 with acct := f e.2.acct })
    steps := l.steps.map fun e => (e.1, { e.2 with acct := f e.2.acct })
    rems := l.rems.map fun e => (e.1, f e.2)
    jobs := l.jobs.map fun e => (e.1, { e.2 with acct := f e.2.acct })
    trayAcct := f l.trayAcct }

/-- Split whole µJ by weights with the largest-remainder rule, ties to the earlier account; all weights zero: equally (R392). -/
def splitShares (total : Nat) (ws : List Nat) : List Nat :=
  let ws := if ws.all (· = 0) then ws.map (fun _ => 1) else ws
  let w := sumL ws
  if w = 0 then []
  else
    let fl := ws.map fun x => total * x / w
    let fr := ws.map fun x => total * x % w
    let left := total - sumL fl
    let n := ws.length
    (List.range n).map fun i =>
      let f := fr.getD i 0
      let rank := ((List.range n).filter fun j => f < fr.getD j 0 || (fr.getD j 0 = f && j < i)).length
      fl.getD i 0 + (if rank < left then 1 else 0)

/-- Exact value of a binary32 pattern in units of 2^-149; an infinity or NaN counts as 0. -/
def b32Units (x : Nat) : Int :=
  let e := bits x 30 23
  let f := bits x 22 0
  let m : Nat := if e = 255 then 0 else if e = 0 then f else (2 ^ 23 + f) * 2 ^ (e - 1)
  if bitAt x 31 then -(m : Int) else (m : Int)

/-- u(x) of R392: the weighted counter deltas, in units of 2^-149. -/
def activity (ws deltas : List Nat) : Nat :=
  ((List.range 8).foldl (fun (a : Int) k => a + b32Units (ws.getD k 0) * (deltas.getD k 0 : Nat)) 0).toNat

/-- Live contexts of a port: enabled, watched, not in reset (R392). -/
def Units.liveCtxs (u : Units) (p : Nat) : List Nat :=
  ((u.vig.watch.filter fun e => e.1 / 64 = p).map fun e => e.1 % 64).filter fun c => u.ctxEnabled p c && !(u.resetting p c)

/-! Records (R398, R400) -/

/-- The Beacon time that a record's end takes: the last tick's, or the present before the first. -/
def Units.tickEnd (u : Units) : Nat := if u.led.tickTime = 0 then u.now else u.led.tickTime

/-- Form a record: it takes the next sequence and waits to be signed. -/
def Units.form (u : Units) (kind flags start est tenant job subjA subjB : Nat) (e : List Nat) (cntA cntB : Nat) : Units :=
  let n := u.led.seq + 1
  let stop := u.tickEnd
  let r : LRec :=
    { kind := kind, flags := flags ||| (if u.clk.locked then 0 else 64), seq := n, methodOrigin := u.led.method + 128 * u.led.cal.origin, epoch := u.clk.epoch,
      start := if start = 0 then stop else start, stop := stop, tenant := tenant, est := min est 65535, job := job, subjA := subjA, subjB := subjB,
      e1 := e.getD 0 0, e2 := e.getD 1 0, e3 := e.getD 2 0, e4 := e.getD 3 0, cntA := cntA, cntB := cntB, digest := u.led.cal.digest }
  if u.storeFull then u.upL fun l => { l with owed := l.owed ++ [{ r with seq := 0 }] }
  else u.upL fun l => { l with seq := n, toSign := l.toSign ++ [r] }

/-- Energies of an account. -/
def Acct.energies (a : Acct) : List Nat := [a.e1, a.e2, a.e3, a.e4]

/-- Bytes 0-111 of a record (Table 16-10). -/
def LRec.bytes (r : LRec) (cid : Nat) : List Nat :=
  [1, r.kind] ++ leBytes 2 r.flags ++ leBytes 8 r.seq ++ leBytes 3 cid ++ [r.methodOrigin] ++ leBytes 4 r.epoch ++ leBytes 8 r.start ++ leBytes 8 r.stop
    ++ leBytes 2 r.tenant ++ leBytes 2 r.est ++ leBytes 4 r.job ++ leBytes 8 r.subjA ++ leBytes 4 r.subjB ++ leBytes 8 r.e1 ++ leBytes 8 r.e2
    ++ leBytes 8 r.e3 ++ leBytes 8 r.e4 ++ leBytes 4 r.cntA ++ leBytes 4 r.cntB ++ leBytes 16 r.digest

/-- The 256 bytes of a signed record. -/
def SRec.bytes (s : SRec) (cid : Nat) : List Nat := s.r.bytes cid ++ leBytes 48 s.prev ++ leBytes 48 s.sigR ++ leBytes 48 s.sigS

/-- Job sums of the interval. -/
def Units.upJobSum (u : Units) (job : Nat) (f : JobSum → JobSum) : Units :=
  if job = 0 then u else u.upL fun l => { l with jobs := NMap.set l.jobs job (f (NMap.getD l.jobs job { acct := Acct.zero, streams := 0, steps := 0 })) }

/-! Closing streams and steps -/

/-- Flags of a STREAM record from an entry's flags (Tables 16-1, 16-11). -/
def Stream.recFlags (s : Stream) : Nat :=
  let f := fun (a b : Nat) => if bitAt s.flags a then 2 ^ b else 0
  s.acct.shown ||| f 0 0 ||| f 1 1 ||| f 2 2 ||| f 3 3 ||| f 4 4 ||| f 5 8 ||| f 6 12 ||| f 7 10

/-- A stream that may have its record now: CLOSING, its tick apportioned, its charges in or its wait over (R396, R407). -/
def Stream.mayClose (s : Stream) (tick : Nat) : Bool :=
  s.state = 3 && !s.recorded && s.closeTick ≤ tick && (!(bitAt s.flags 3) || s.waited || s.closeTick ≤ s.chargedTo)

/-- Form the STREAM record of a stream. -/
def Units.closeStream (u : Units) (i : Nat) : Units :=
  match u.stream i with
  | none => u
  | some s =>
    if !(s.mayClose u.led.tick) || u.storeFull then u
    else
      let u := u.form 1 s.recFlags s.acct.start s.acct.est s.tenant s.job s.client (i + s.ctx * 2 ^ 17) s.acct.energies s.prompt s.emitted
      (u.upStream i fun s => { s with recorded := true }).upJobSum s.job fun j => { j with streams := j.streams + 1 }

/-- Form what streams may have. -/
def Units.closeStreams (u : Units) : Units := (NMap.keys u.led.streams).foldl Units.closeStream u

/-- The STEP record of a context's step `step` to `last` (R398, R406). -/
def Units.stepRecordOf (u : Units) (key step last : Nat) (s : StepAcct) : Units :=
  let fl := s.acct.shown ||| b2n s.cancelled ||| (if s.replay then 2 else 0)
  let u := u.form 2 fl s.acct.start s.acct.est (u.tenantFor s.job) s.job step (key % 64) s.acct.energies (if last = step then 0 else last) 0
  let u := u.upL fun l => { l with steps := NMap.set l.steps key { s with acct := Acct.zero, owed := none, cancelled := false, replay := s.cancelled, last := if s.cancelled then s.last else last } }
  u.upJobSum s.job fun j => { j with steps := j.steps + 1 }

/-- A context's step closes (R393, R398); while the region is full the account is kept (R406). -/
def Units.closeStep (u : Units) (p c job step : Nat) (cancelled : Bool) : Units :=
  let key := ctxKey p c
  let s := NMap.getD u.led.steps key { job := job, acct := Acct.zero, last := 0, owed := none, cancelled := false, replay := false }
  if step ≤ s.last && !s.replay && !cancelled then u
  else
    let s := { s with job := job, cancelled := cancelled }
    if u.storeFull then
      u.upL fun l => { l with steps := NMap.set l.steps key { s with owed := some ((s.owed.map (·.1)).getD step, step), last := if cancelled then s.last else max s.last step } }
    else u.stepRecordOf key step step s

/-- Space has returned: owed records, kept steps and closing streams get theirs (R406). -/
def Units.reform (u : Units) : Units :=
  if u.storeFull then u
  else
    let os := u.led.owed
    let u := os.foldl (fun u r => u.upL fun l => { l with seq := l.seq + 1, toSign := l.toSign ++ [{ r with seq := l.seq + 1 }] }) (u.upL fun l => { l with owed := [] })
    let u := u.led.steps.foldl (fun u e => match e.2.owed with | some (a, b) => u.stepRecordOf e.1 a b e.2 | none => u) u
    u.closeStreams

/-- A step record was accepted (R393); contexts of jobs that mirror, or are watched by step records, have steps. -/
def Units.ledgerStep (u : Units) (p c job step : Nat) : Units := u.closeStep p c job step false

/-- A context has steps. -/
def Units.hasSteps (u : Units) (p c : Nat) : Bool :=
  (match NMap.find u.vig.watch (ctxKey p c) with | some w => bitAt w.mask 0 || (u.jobB w.job).isSome | none => false)

/-- A context is contained (R388, R407): its OPEN streams are interrupted, its open step closes with the cancelled flag. -/
def Units.ledgerContained (u : Units) (p ctx : Nat) : Units :=
  let hit := fun (c : Nat) => ctx = 0xFF || c = ctx
  let u := u.upL fun l => { l with streams := l.streams.map fun e =>
    if e.2.state = 1 && e.2.port = p && hit e.2.ctx then (e.1, { e.2 with state := 2 }) else e }
  let ks := u.led.steps.filter fun e => e.1 / 64 = p && hit (e.1 % 64) && u.hasSteps p (e.1 % 64)
  ks.foldl (fun u e => u.closeStep p (e.1 % 64) e.2.job (e.2.last + 1) true) u

/-! The token pool (R386) -/

/-- The token pool region. -/
def Units.poolRegion (u : Units) : Option Nat := (u.mantle.regions.find? fun r => r.2.typ = 5).map (·.1)

/-- Chunks of the pool. -/
def Units.poolChunks (u : Units) : Nat :=
  match u.poolRegion with
  | some k => (match NMap.find u.mantle.regions k with | some r => r.pages.length * pageBytes / 4096 | none => 0)
  | none => 0

/-- The first `n` free chunks; none where there are fewer. -/
def Units.freeChunks (u : Units) (n : Nat) : Option (List Nat) :=
  let used := u.led.streams.flatMap fun e => e.2.chunks
  let l := ((List.range (used.length + n)).filter fun k => !(used.contains k) && k < u.poolChunks).take n
  if l.length = n then some l else none

/-- Write a chunk's header. -/
def chunkHead (m : Mem) (u : Units) (r k next count : Nat) : Mem := memPutAt m u r (4096 * k) (leBytes 4 next ++ leBytes 4 count ++ leBytes 8 0)

/-- Append one token to a stream's ledger: its last chunk has room, or a further chunk is linked; without one the stream becomes not replayable. -/
def putToken (i : Nat) (m : Mem) (u : Units) (tok : Nat) : Mem × Units :=
  match u.stream i, u.poolRegion with
  | some s, some r =>
    if bitAt s.flags 5 then (m, u)
    else
      let n := s.prompt + s.emitted
      let at_ := fun (m : Mem) (u : Units) (k : Nat) (first : Bool) =>
        let m := memPutAt m u r (4096 * k + 16 + 4 * (n % 1020)) (leBytes 4 tok)
        (chunkHead m u r k 0xFFFFFFFF (n % 1020 + 1), if first then u.upStream i fun s => { s with chunks := s.chunks ++ [k] } else u)
      if n % 1020 = 0 && s.chunks.length ≤ n / 1020 then
        match u.freeChunks 1 with
        | some (k :: _) =>
          let m := match s.chunks.getLast? with | some o => chunkHead m u r o k 1020 | none => m
          at_ m u k true
        | _ => (m, u.upStream i fun s => { s with flags := s.flags ||| 32, chunks := [] })
      else at_ m u (s.chunks.getD (n / 1020) 0) false
  | _, _ => (m, u)

/-- The tokens of a stream, oldest first. -/
def tokensOf (m : Mem) (u : Units) (s : Stream) : List Nat :=
  match u.poolRegion with
  | none => []
  | some r =>
    let n := s.prompt + s.emitted
    (s.chunks.flatMap fun k => elemsOf 4 1020 (memGetAt m u r (4096 * k + 16) 4080)).take n

/-! The stream table (R380) -/

/-- The index at the head of the free list. -/
def Ledger.head (l : Ledger) : Option Nat := if l.fresh < 131072 then some l.fresh else l.freed.head?

/-- Take it. -/
def Ledger.pop (l : Ledger) : Ledger := if l.fresh < 131072 then { l with fresh := l.fresh + 1 } else { l with freed := l.freed.drop 1 }

/-- Free an entry: its index goes to the tail, its chunks return. -/
def Units.freeStream (u : Units) (i : Nat) : Units :=
  match u.stream i with
  | none => u
  | some s => u.upL fun l => { l with streams := NMap.del l.streams i, freed := l.freed ++ [i], freedJob := NMap.set l.freedJob i s.job }

/-- A stream ends (R381): CLOSING at the end of the tick next to be apportioned, which its record covers (R407). -/
def Units.endStream (u : Units) (i : Nat) (cancel : Bool) (cmds : List (Nat × Sys2Proof.Cmd)) : Units :=
  u.upStream i fun s =>
    { s with state := 3, flags := if cancel then setBit s.flags 0 else s.flags, closeTick := u.led.tick + 1, cmds := s.cmds ++ cmds }

/-- Words of an entry (Table 16-1), as STREAM_DESC shows them. -/
def Stream.words (i : Nat) (s : Stream) : List Nat :=
  let fl := s.flags ||| (if s.acct.est = 0 then 0 else 16) ||| (if bitAt s.acct.flags 12 then 64 else 0) ||| (if bitAt s.acct.flags 10 then 128 else 0)
  let b := leBytes 4 i ++ [s.state, fl, s.ctx, s.port] ++ leBytes 4 s.job ++ leBytes 2 s.tenant ++ leBytes 2 s.ctxGen ++ leBytes 3 s.cid ++ [0]
    ++ leBytes 2 s.replays ++ leBytes 2 (min s.acct.est 65535) ++ leBytes 8 s.opened ++ leBytes 4 s.epoch ++ leBytes 4 0 ++ leBytes 4 s.prompt ++ leBytes 4 s.emitted
    ++ leBytes 4 (s.chunks.headD 0xFFFFFFFF) ++ leBytes 4 (s.chunks.getLastD 0xFFFFFFFF) ++ leBytes 8 s.acct.e1 ++ leBytes 8 s.acct.e2 ++ leBytes 8 s.acct.e3
    ++ leBytes 8 s.acct.e4 ++ leBytes 8 s.client ++ leBytes 3 s.origin ++ [0] ++ leBytes 8 s.lastTick ++ List.replicate 20 0
  elemsOf 4 32 b

/-- The entry as STREAM_MOVE carries it. -/
def Stream.ent (s : Stream) : StreamEnt :=
  { flags := s.flags, job := s.job, tenant := s.tenant, cid := s.cid, replays := s.replays, est := s.acct.est, opened := s.opened, epoch := s.epoch,
    prompt := s.prompt, emitted := s.emitted, energy := s.acct.energies, client := s.client, origin := s.origin, lastTick := s.lastTick }

/-! Replay (R329, R330, R387, R389) -/

/-- RESTORE_BLOCK messages of a stream's token ledger entry (R330): blocks of 4,096 bytes, block 0 with its preamble. -/
def Units.sendTokens (u : Units) (p c i : Nat) (data : List Nat) : Units :=
  let n := (data.length + 4095) / 4096
  (List.range n).foldl (fun u b =>
    let d := (data.drop (4096 * b)).take 4096
    u.igSend p 0x16 c (32 + d.length) ([i, 0, b, 1, b2n (b + 1 = n), d.length, crc64 d] ++ d)) u

/-- Replay a stream onto a context: it is OPEN again, with the replayed flag and one more replay. A stream without a token ledger cannot be replayed. -/
def replayStream (i p c : Nat) (m : Mem) (u : Units) : Units :=
  match u.stream i with
  | none => u
  | some s =>
    if bitAt s.flags 5 then u.raise Ev.STREAM_NOT_REPLAYED 1 0x078 (payloadOf [(0, 4, s.job), (4, 3, u.cidOf p), (7, 1, c)])
    else
      let ts := tokensOf m u s
      let data := leBytes 4 i ++ leBytes 4 s.prompt ++ leBytes 4 s.emitted ++ leBytes 4 0 ++ ts.flatMap (leBytes 4)
      let u := u.upStream i fun s => { s with state := 1, port := p, ctx := c, flags := s.flags ||| 2, replays := min 65535 (s.replays + 1) }
      (u.sendTokens p c i data).count 0x7804A0

/-- Start a move (R389): STREAM_MOVE with the entry, then one message for each chunk. -/
def moveStream (i cid target c : Nat) (m : Mem) (u : Units) : Units :=
  match u.stream i with
  | none => u
  | some s =>
    let n := u.role.nextSeq
    let ts := tokensOf m u s
    let u := u.upStream i fun s => { s with state := 4, move := (cid, c, n) }
    let u := u.reqL target 0x5B 144 2 ([i, cid, c] ++ s.words i)
    (List.range s.chunks.length).foldl (fun u k =>
      let d := (ts.drop (1020 * k)).take 1020
      let q := u.role.nextSeq
      ({ u with role := { u.role with nextSeq := wrapW 16 (q + 1) } }).sendL target 0x5B 2 q (16 + 4 * d.length) 2 ([i, cid, c] ++ d)) u

/-- Interrupted streams in order of admission. -/
def Ledger.interrupted (l : Ledger) (f : Stream → Bool) : List Nat :=
  let mine := l.streams.filter fun e => e.2.state = 2 && e.2.incoming.isNone && f e.2
  (mine.mergeSort fun a b => a.2.order ≤ b.2.order).map (·.1)

/-- A REPLAY_STREAMS entry with Parameter A = 1 for a job (R329). -/
def Units.replayGroup (u : Units) (job : Nat) : Option Nat :=
  (pickSo ((u.role.soPod.entries ++ u.role.soDomain.entries).filter fun e =>
    Nat.testBit e.flags 0 && e.action = 0x000A && e.a = 1 && (e.scope = 0 || e.scope = job))).map (·.b)

/-- Send one interrupted stream where it is to be replayed. -/
def replayOne (p c : Nat) (m : Mem) (u : Units) (i : Nat) : Units :=
  match u.stream i with
  | none => u
  | some s => match u.replayGroup s.job with
    | none => replayStream i p c m u
    | some g =>
      let t := Config.replayMember g u.free
      let u := u.draw
      match u.portOf t.1 with
      | some q => replayStream i q (t.2 % 64) m u
      | none => moveStream i t.1 (u.servedBy t.1) (t.2 % 64) m u

/-- A context is restored at this T3 (R329): its interrupted streams replay; untracked streams of it are recorded as not replayed. -/
def replayStreams (p c : Nat) (m : Mem) (u : Units) : Units :=
  let l := u.led.interrupted fun s => s.port = p && s.ctx = c
  let u := l.foldl (replayOne p c m) u
  let lost := u.led.excess.any fun e => 0 < NMap.getD e.2.open_ (ctxKey p c) 0
  if lost then u.raise Ev.STREAM_NOT_REPLAYED 1 0x078 (payloadOf [(0, 4, u.jobOf p c), (4, 3, u.cidOf p), (7, 1, c)]) else u

/-- A recovery of a job has ended: streams whose position another T3 now serves move there (R329). -/
def moveStreams (job : Nat) (m : Mem) (u : Units) : Units :=
  let l := u.led.interrupted fun s => s.job = job && (u.portOf s.cid).isNone && u.servedBy s.cid ≠ u.self
  l.foldl (fun u i => match u.stream i with
    | some s => moveStream i s.cid (u.servedBy s.cid) s.ctx m u
    | none => u) u

/-! Delivery (R405) -/

/-- Deliver durable records in sequence order while the ring has room. -/
def Units.ledgerPump (u : Units) : Units :=
  match u.led.ring with
  | none => u
  | some n =>
    (u.led.stored.filter fun s => u.led.delivered < s.r.seq).foldl (fun u s =>
      if (u.desc n).room && s.r.seq = u.led.delivered + 1 then
        (u.produce n (.words (s.bytes u.self))).upL fun l => { l with delivered := s.r.seq }
      else u) u

end Sys2Proof.Machine
end

