-- ==== Sys2Proof/Machine/Ledger.lean ====
section
/-!
DEFINITION. Streams and the Ledger's commands (16_streams_and_energy_ledger).
-/
namespace Sys2Proof.Machine

open Sys2Proof (CalSet StreamEnt)

/-! Streams (R382, R383, R405) -/

/-- Whether a sender may command streams of a job (R382). -/
def Units.mayStream (u : Units) (c : Sys2Proof.Cmd) (job : Nat) : Bool :=
  isOperator (cmdPriv c) || (cmdPriv c = 1 && job ≠ 0 && (u.desc c.ring).job = job)

/-- A STREAM_OPEN is refused by a check of Table 16-4. -/
def Units.openNo (u : Units) (c : Sys2Proof.Cmd) (status : Nat) : Units := (u.count 0x800110).done c 0x080 0x0801 status

/-- Untracked streams open of a tenant. -/
def Ledger.untracked (l : Ledger) (tenant : Nat) : Nat :=
  sumL ((l.excess.filter fun e => e.2.tenant = tenant).map fun e => sumL (e.2.open_.map (·.2)))

/-- Overflow admission (R383): the winning entry allows it, its cap is not reached and the tenant has, or may get, an account. -/
def Units.overflow (u : Units) (job tenant : Nat) : Option (Nat × Bool) :=
  match u.role.soPick fun e => e.hits Ev.LEDGER_STREAM_OVERFLOW 2 job with
  | none => none
  | some e =>
    let cap := bits e.a 15 0
    if e.action ≠ 7 || 2 ≤ e.cls || (cap ≠ 0 && cap ≤ u.led.untracked tenant) then none
    else match u.led.excess.find? fun o => o.2.tenant = tenant with
      | some o => some (o.1, false)
      | none => (NMap.firstFree u.led.excess 256).map fun k => (k, true)

/-- Beacon time at the tick boundary a new account may start from: none yet. -/
def newStream (u : Units) (port ctx job tenant client : Nat) (chunks : List Nat) : Stream :=
  { state := 1, flags := 0, ctx := ctx, port := port, job := job, tenant := tenant, ctxGen := u.ctxGen port ctx, cid := u.cidOf port, replays := 0,
    opened := u.now, epoch := u.clk.epoch, prompt := 0, emitted := 0, chunks := chunks, acct := Acct.zero, client := client, origin := u.self,
    lastTick := 0, order := u.led.order, cmds := [], closeTick := 0, recorded := false, chargedTo := 0, waited := false, move := (0, 0, 0),
    cancelWait := false, incoming := none }

/-- STREAM_OPEN (0x0801; Table 16-4). -/
def streamOpen (c : Sys2Proof.Cmd) (port ctx client : Nat) (m : Mem) (u : Units) : Mem × Units :=
  let job := u.jobOf port ctx
  let tenant := u.tenantFor job
  if !(u.mayStream c job) then (m, u.done c 0x080 0x0801 St.NOT_PRIVILEGED)
  else if !(u.ctxEnabled port ctx) || job = 0 || tenant = 0 then (m, u.openNo c St.BAD_STATE)
  else if u.poolRegion.isNone then (m, u.openNo c St.UNSUPPORTED)
  else if u.flick.drains port || u.fenced port || u.vig.contains.any (fun x => x.port = port && (x.ctx = 0xFF || x.ctx = ctx)) then
    (m, u.openNo c St.BUSY_RETRY)
  else if u.backpressure then (m, (u.ledEvent Ev.LEDGER_BACKPRESSURE).openNo c St.LEDGER_BACKPRESSURE)
  else match u.led.head with
    | none =>
      let got := u.overflow job tenant
      let u := u.raise Ev.LEDGER_STREAM_OVERFLOW 2 0x080 0 (t := { Target.none with job := job, port := port, ctx := ctx })
      match got with
      | none => (m, u.openNo c St.STREAM_TABLE_FULL)
      | some (k, fresh) =>
        if (u.freeChunks 1).isNone then (m, u.openNo c St.MANTLE_FULL)
        else
          let o : OverAcct := if fresh then { tenant := tenant, acct := Acct.zero, open_ := [], opened := 0, tokens := 0 }
            else NMap.getD u.led.excess k { tenant := tenant, acct := Acct.zero, open_ := [], opened := 0, tokens := 0 }
          let o := { o with opened := o.opened + 1, open_ := NMap.put o.open_ 0 (ctxKey port ctx) (NMap.getD o.open_ (ctxKey port ctx) 0 + 1) }
          (m, ((u.upL fun l => { l with excess := NMap.set l.excess k o }).count 0x800118).done c 0x080 0x0801 St.OK 0 (2 ^ 31 + k))
    | some i => match u.freeChunks 1 with
      | some (k :: _) =>
        let s := newStream u port ctx job tenant client [k]
        let m := chunkHead m u (u.poolRegion.getD 0) k 0xFFFFFFFF 0
        let u := u.upL fun l => { l.pop with streams := NMap.set l.streams i s, order := l.order + 1 }
        (m, (u.count 0x800108).done c 0x080 0x0801 St.OK 0 i)
      | _ => (m, u.openNo c St.MANTLE_FULL)

/-- An untracked stream ends: the account's count of its context, or of the first context with one, falls. -/
def OverAcct.close (o : OverAcct) (key : Option Nat) : OverAcct :=
  match (match key with | some k => some k | none => (NMap.keys o.open_).head?) with
  | some k => { o with open_ := NMap.put o.open_ 0 k (NMap.getD o.open_ k 0 - 1) }
  | none => o

/-- STREAM_CLOSE and STREAM_CANCEL (R382, R407). -/
def Units.streamEnd (u : Units) (c : Sys2Proof.Cmd) (code ref : Nat) (cancel : Bool) : Units :=
  if bitAt ref 31 then
    match NMap.find u.led.excess (ref % 256) with
    | none => if isTenant (cmdPriv c) then u.done c 0x080 code St.BAD_STATE else u.done c 0x080 code St.NOT_PRIVILEGED
    | some o =>
      let mine := isOperator (cmdPriv c) || (cmdPriv c = 1 && u.tenantFor (u.desc c.ring).job = o.tenant)
      if !mine then u.done c 0x080 code St.NOT_PRIVILEGED
      else if o.open_.isEmpty then u.done c 0x080 code St.BAD_STATE
      else (u.upL fun l => { l with excess := NMap.set l.excess (ref % 256) (o.close none) }).done c 0x080 code St.OK
  else
    let i := ref % 2 ^ 17
    match u.stream i with
    | none => if isTenant (cmdPriv c) then u.done c 0x080 code St.BAD_STATE else u.done c 0x080 code St.NOT_PRIVILEGED
    | some s =>
      if !(u.mayStream c s.job) then u.done c 0x080 code St.NOT_PRIVILEGED
      else if s.state = 4 && cancel then u.upStream i fun s => { s with cancelWait := true, cmds := s.cmds ++ [(code, c)] }
      else if s.state = 1 || s.state = 2 then
        let u := u.endStream i cancel [(code, c)]
        if s.state = 2 && cancel then u.upStream i fun s => { s with chunks := [] } else u
      else u.done c 0x080 code St.BAD_STATE

/-- STREAM_CLOSE (0x0802). -/
def streamClose (c : Sys2Proof.Cmd) (ref : Nat) (u : Units) : Units := u.streamEnd c 0x0802 ref false

/-- STREAM_CANCEL (0x0803). -/
def streamCancel (c : Sys2Proof.Cmd) (ref : Nat) (u : Units) : Units := u.streamEnd c 0x0803 ref true

/-- LEDGER_BIND_RING (0x0804, R405): delivery goes on from the record after the last acknowledged. -/
def ledgerBindRing (c : Sys2Proof.Cmd) (ring : Nat) (u : Units) : Units :=
  u.operator c 0x080 0x0804 fun u =>
    if ring < 32768 && (u.desc ring).kind = 2 then
      ((u.upL fun l => { l with ring := some ring, delivered := l.ack }).ledgerPump).done c 0x080 0x0804 St.OK
    else u.done c 0x080 0x0804 St.BAD_PARAM

/-! Tokens (R384-R386) -/

/-- A STREAM_TOKENS message is dropped and counted (R384). -/
def Units.rejectTokens (u : Units) (i : Option Nat) : Units :=
  let u := (u.count 0x800128).ledEvent Ev.LEDGER_TOKEN_REJECT
  match i with
  | some i => u.upStream i fun s => { s with flags := s.flags ||| 32 }
  | none => u

/-- The Length of a STREAM_TOKENS disagrees with what it names (R66): an untracked reference names no identifiers. -/
def tokensBad (ref count len : Nat) (toks : List Nat) : Bool :=
  1024 < count || (if bitAt ref 31 then len != 16 else len != 16 + 4 * count || toks.length != count)

/-- STREAM_TOKENS (Table 16-5): `ref` the stream reference, flag bits 0 prompt, 1 final, 2 cancel; `len` the payload length. One that disagrees
with its Length counts under both rules that name it, R66 at the port and R384 at the Ledger. -/
def streamTokens (h : Sys2Proof.SHdr) (ref count flags len : Nat) (toks : List Nat) (m : Mem) (u : Units) : Mem × Units :=
  let go := fun (m : Mem) (u : Units) =>
    if bitAt ref 31 then
      match NMap.find u.led.excess (ref % 256) with
      | none => (m, u.rejectTokens none)
      | some o =>
        if NMap.getD o.open_ (ctxKey h.port h.ctx) 0 = 0 then (m, u.rejectTokens none)
        else
          let o := { o with tokens := o.tokens + count }
          let o := if bitAt flags 1 then o.close (some (ctxKey h.port h.ctx)) else o
          (m, u.upL fun l => { l with excess := NMap.set l.excess (ref % 256) o, tok := l.tok ++ [(ctxKey h.port h.ctx, 2 ^ 17 + ref % 256, count)] })
    else
      let i := ref % 2 ^ 17
      match u.stream i with
      | none => (m, u.rejectTokens none)
      | some s =>
        let prompt := bitAt flags 0
        if s.state = 4 || s.state = 3 || s.incoming.isSome || s.port ≠ h.port || s.ctx ≠ h.ctx
            || (prompt && 0 < s.emitted && 0 < count) then (m, u.rejectTokens (some i))
        else
          let r := toks.foldl (fun (a : Mem × Units) t =>
            let b := putToken i a.1 a.2 t
            (b.1, b.2.upStream i fun s => if prompt then { s with prompt := wrapW 32 (s.prompt + 1) } else { s with emitted := wrapW 32 (s.emitted + 1) })) (m, u)
          let kept := match r.2.stream i with | some s => !(bitAt s.flags 5) | none => false
          let u := if kept then r.2.count 0x800120 count else r.2
          (r.1, if bitAt flags 1 then u.endStream i (bitAt flags 2) [] else u)
  match u.dropS h 0x1C with
  | some v => (m, v)
  | none =>
    if tokensBad ref count len toks then
      (m, (u.msgUnknown h.port).rejectTokens (if bitAt ref 31 || (u.stream (ref % 2 ^ 17)).isNone then none else some (ref % 2 ^ 17)))
    else go m u

/-- ACTIVITY_REPORT (R78, Table 3-11): context entries (context, eight deltas), stream entries (index, context, tokens); preamble flags: bit 0
covers several ticks (what the pending energy of R392 is for), bit 1 a delta saturated. The cumulative registers are read where a delta saturated,
and once for each context to have what to compare with (DESIGN CHOICE: the assumption log, entry 177). -/
def activityReport (h : Sys2Proof.SHdr) (tick flags _interval : Nat) (ctxs : List (Nat × List Nat)) (streams : List (Nat × Nat × Nat)) (u : Units) : Units :=
  u.recvS h 0x08 fun u =>
    let add := fun (a b : List Nat) => (List.range 8).map fun k => a.getD k 0 + b.getD k 0
    let u := ctxs.foldl (fun u e =>
      let k := ctxKey h.port (e.1 % 64)
      let known := (NMap.find u.led.act k).isSome
      let u := u.upL fun l => { l with deltas := NMap.set l.deltas k (add (NMap.getD l.deltas k []) e.2), act := NMap.upd l.act k fun a => add a e.2 }
      let u := if 0 < e.2.getD 0 0 || 0 < e.2.getD 1 0 then u.progress h.port (e.1 % 64) 3 else u
      if bitAt flags 1 || !known then u.regAccess h.port (0x1000 + 0x40 * (e.1 % 64)) false 16 [] (.act (e.1 % 64)) else u) u
    let u := streams.foldl (fun u e =>
      let i := e.1 % 2 ^ 17
      let u := if 0 < e.2.2 then u.progress h.port (e.2.1 % 64) 1 else u
      match u.stream i with
      | some s =>
        if s.port = h.port && s.ctx = e.2.1 && (s.state = 1 || (s.state = 3 && !s.recorded)) && 0 < e.2.2 then
          (u.upStream i fun s => { s with lastTick := tick }).upL fun l => { l with tok := l.tok ++ [(ctxKey h.port s.ctx, i, e.2.2)] }
        else u
      | none => u) u
    if bitAt h.flags 1 || tick ≠ u.led.tickNo then u else u.upL fun l => { l with reported := l.reported ++ [h.port] }

/-- The cumulative registers correct what saturated deltas missed (R78); the first reading of a context's only says where they stand. -/
def Units.ledgerAct (u : Units) (p c : Nat) (words : List Nat) : Units :=
  let k := ctxKey p c
  let v := (List.range 8).map fun i => words.getD (2 * i) 0 + words.getD (2 * i + 1) 0 * 2 ^ 32
  let old := NMap.getD u.led.act k v
  let more := (List.range 8).map fun i => v.getD i 0 - old.getD i 0
  u.upL fun l => { l with act := NMap.set l.act k v, deltas := NMap.set l.deltas k ((List.range 8).map fun i => (NMap.getD l.deltas k []).getD i 0 + more.getD i 0) }

/-! Moved streams (R389) -/

/-- An entry as it comes in: INTERRUPTED until its replay begins, moved in. -/
def entStream (e : StreamEnt) (u : Units) (port ctx : Nat) (chunks : List Nat) (src index : Nat) : Stream :=
  let a : Acct := { e1 := e.energy.getD 0 0, e2 := e.energy.getD 1 0, e3 := e.energy.getD 2 0, e4 := e.energy.getD 3 0, est := e.est, start := e.opened, flags := 0 }
  { state := 2, flags := e.flags ||| 4, ctx := ctx, port := port, job := e.job, tenant := e.tenant, ctxGen := u.ctxGen port ctx, cid := e.cid,
    replays := e.replays, opened := e.opened, epoch := e.epoch, prompt := e.prompt, emitted := e.emitted, chunks := chunks, acct := a, client := e.client,
    origin := e.origin, lastTick := e.lastTick, order := u.led.order, cmds := [], closeTick := 0, recorded := false, chargedTo := 0, waited := false,
    move := (src, index, 0), cancelWait := false, incoming := some (src, if bitAt e.flags 5 then 0 else e.prompt + e.emitted) }

/-- All tokens have come: the stream replays here. -/
def moveArrived (i : Nat) (m : Mem) (u : Units) : Units :=
  match u.stream i with
  | none => u
  | some s => match s.incoming with
    | some (_, 0) => replayStream i s.port s.ctx m (u.upStream i fun s => { s with incoming := none })
    | _ => u

/-- STREAM_MOVE (class 0x5B): the entry, or with the continuation flag one chunk's tokens. -/
def streamMove (h : Sys2Proof.LHdr) (index cid ctx : Nat) (ent : Option StreamEnt) (toks : List Nat) (m : Mem) (u : Units) : Mem × Units :=
  if u.lanternDrops h then (m, u.recvL h 0x5B 0 fun u => u)
  else match ent with
    | some e =>
      let n := if bitAt e.flags 5 then 0 else max 1 ((e.prompt + e.emitted + 1019) / 1020)
      match u.led.head with
      | none => (m, u.answerL h.src 0x5B h.seq 16 2 [0, St.STREAM_TABLE_FULL])
      | some i => match u.freeChunks n with
        | none => (m, u.answerL h.src 0x5B h.seq 16 2 [0, St.MANTLE_FULL])
        | some ks =>
          let s : Stream := entStream e u ((u.portOf cid).getD 0xFF) ctx [] h.src index
          let u := u.upL fun l => { l.pop with streams := NMap.set l.streams i { s with chunks := ks.take 1, prompt := 0, emitted := 0, move := (h.src, index, e.prompt) }, order := l.order + 1 }
          let u := u.answerL h.src 0x5B h.seq 16 2 [i, St.OK]
          (m, moveArrived i m u)
    | none => match u.led.streams.find? fun s => s.2.incoming.isSome && s.2.move.1 = h.src && s.2.move.2.1 = index with
      | none => (m, u)
      | some (i, _) =>
        let r := toks.foldl (fun (a : Mem × Units) t =>
          let b := putToken i a.1 a.2 t
          (b.1, b.2.upStream i fun s =>
            let s := if s.prompt < s.move.2.2 then { s with prompt := s.prompt + 1 } else { s with emitted := s.emitted + 1 }
            { s with incoming := s.incoming.map fun x => (x.1, x.2 - 1) })) (m, u)
        (r.1, moveArrived i r.1 r.2)

/-- The response to a STREAM_MOVE: the origin frees the entry, or the stream is OPEN again and replays here (R389); a cancel that waited is carried to
the new holder, or takes effect here (R407). -/
def streamMoveResponse (h : Sys2Proof.LHdr) (index status : Nat) (m : Mem) (u : Units) : Units :=
  u.recvL h 0x5B 0 fun u =>
    match u.led.streams.find? fun s => s.2.state = 4 && s.2.move.2.2 = h.seq && u.servedBy s.2.move.1 = h.src with
    | none => u
    | some (i, s) =>
      if status = St.OK then
        let u := if s.cancelWait then u.emit (.bus 20 [h.src, 0x0803, index]) else u
        let u := s.cmds.foldl (fun u x => u.done x.2 0x080 x.1 St.OK) u
        u.freeStream i
      else
        let u := replayStream i s.port s.ctx m (u.upStream i fun s => { s with state := 1 })
        if s.cancelWait then (u.upStream i fun s => { s with cmds := [], cancelWait := false }).endStream i true s.cmds else u

/-! Ticks and readings (R390, R391) -/

/-- Channels, by number. -/
def Units.upChan (u : Units) (k : Nat) (f : EnergyChan → EnergyChan) : Units := u.upL fun l => { l with chans := NMap.upd l.chans k f }

/-- A new time epoch (R400): the EPOCH record, and every open account is flagged. -/
def Units.epochCheck (u : Units) : Units :=
  if u.led.epoch = u.clk.epoch then u
  else
    let u := u.upL fun l => { l.mapAccts (fun a => a.flag 12) with epoch := u.clk.epoch }
    u.form 7 0 0 0 0 0 0 0 [] 0 0

/-- A new calibration set takes effect (R397). -/
def Units.calCheck (u : Units) : Units :=
  match u.led.calNext with
  | none => u
  | some c =>
    let old := u.led.cal
    let u := u.upL fun l => { l.mapAccts (fun a => a.flag 10) with cal := c, calNext := none }
    (u.form 8 0 0 0 0 0 (old.digest % 2 ^ 64) (old.origin % 2) [] 0 0).later .calApplied

/-- The GAP record of the first tick after a start (R403). -/
def Units.gapCheck (u : Units) : Units :=
  match u.led.gap with
  | none => u
  | some (start, flags) => (u.upL fun l => { l with gap := none, ready := true }).form 6 (flags ||| 2 ^ 11) start 0 0 0 0 0 [] 0 0

/-- LEDGER_TICK (R390): a tick boundary. A step of Beacon time waiting for it applies (R439), ACT_TICK goes to every active block, and the PMBus
reads begin. -/
def ledgerTick (u : Units) : Units :=
  let u := u.stepAtTick
  let n := u.led.tickNo + 1
  let u := u.upL fun l => { l with tickNo := n, tickTime := u.now, reported := [] }
  let u := ((u.upL fun l => { l with epoch := if l.ready then l.epoch else u.clk.epoch }).gapCheck.epochCheck).calCheck
  let u := (List.range 16).foldl (fun u p => if (u.ig p).active then u.igSend p 0x10 0xFF 8 [n] else u) u
  u.led.chans.foldl (fun u e =>
    let u := (u.upChan e.1 fun c => { c with now := none, retried := false }).emit (.bus 1 [e.2.master, e.1, 0])
    if n % 100 = 0 && e.2.kind = 0 then u.emit (.bus 1 [e.2.master, e.1, 1]) else u) u

/-- Units of 2^-149 / 1,000 µJ in one µJ. -/
def energyUnit : Nat := 1000 * 2 ^ 149

/-- PMBUS_READ_DONE (R390, R391): the accumulator's increase in nJ since the channel's last good reading (READ_EIN), or over the last 100 ticks
(READ_EOUT). -/
def pmbusReadDone (chan : Nat) (eout : Bool) (nj : Nat) (u : Units) : Units :=
  match NMap.find u.led.chans chan with
  | none => u
  | some c =>
    if eout then
      let u := u.upChan chan fun c => { c with sum100 := 0 }
      if c.sum100 < nj then u.ledEvent Ev.LEDGER_METER_DISAGREE else u
    else
      let g := u.led.cal.gains.getD chan (0x3F800000, 0)
      let total : Int := c.rem + b32Units g.1 * (nj : Int) + 1000 * b32Units g.2 * ((c.missed + 1 : Nat) : Int)
      let e := (total / (energyUnit : Int)).toNat
      u.upChan chan fun c =>
        { c with rem := total - (e : Int) * (energyUnit : Int), last := e, missed := 0, now := some (e, false), sum100 := c.sum100 + nj,
                 lastGood := u.clk.mono, lost := false }

/-- PMBUS_READ_TIMEOUT (R391): once retried, then the last good tick's energy stands in. -/
def pmbusReadTimeout (chan : Nat) (eout : Bool) (u : Units) : Units :=
  match NMap.find u.led.chans chan with
  | none => u
  | some c =>
    if eout then u
    else if !c.retried then (u.upChan chan fun c => { c with retried := true }).emit (.bus 1 [c.master, chan, 0])
    else
      ((u.upChan chan fun c =>
        { c with now := some (c.last, true), missed := c.missed + 1, rem := c.rem - (c.last : Int) * (energyUnit : Int) }).count 0x800130).ledEvent
        Ev.LEDGER_READ_FAIL

/-- LEDGER_METER_LOST_EXPIRY (R391): no good reading for 1 s. -/
def ledgerMeterLostExpiry (chan : Nat) (u : Units) : Units :=
  match NMap.find u.led.chans chan with
  | none => u
  | some c => if c.missed = 0 || c.lost then u else (u.upChan chan fun c => { c with lost := true }).ledEvent Ev.LEDGER_METER_LOST

/-! Apportioning (R392-R396) -/

/-- Add a tick's shares to an account. -/
def Acct.take (a : Acct) (e : List Nat) (est : Bool) : Acct :=
  let a := a.add (e.getD 0 0) (e.getD 1 0) (e.getD 2 0)
  if est then { a with est := a.est + 1, flags := setBit a.flags 4 } else a

/-- A job's sum, kept with the estimated flag of what it sums. -/
def Units.sumJob (u : Units) (job : Nat) (e : List Nat) (est : Bool) : Units := u.upJobSum job fun j => { j with acct := j.acct.take e est }

/-- Shares of an account: by index a stream, from 2^17 an overflow account. -/
def Units.giveTo (u : Units) (acct : Nat) (e : List Nat) (est : Bool) : Units :=
  if acct < 2 ^ 17 then
    match u.stream acct with
    | some s => (u.upStream acct fun s => { s with acct := s.acct.take e est }).sumJob s.job e est
    | none => u
  else u.upL fun l => { l with excess := NMap.upd l.excess (acct - 2 ^ 17) fun o => { o with acct := o.acct.take e est } }

/-- A live context divides its three shares (R393). -/
def Units.giveCtx (u : Units) (key : Nat) (shares : List Nat) (est : Bool) : Units :=
  let mine := (u.led.tok.filter fun t => t.1 = key).map (·.2)
  let accts := ((mine.map (·.1)).eraseDups).mergeSort fun a b => a ≤ b
  let ws := accts.map fun a => sumL ((mine.filter fun t => t.1 = a).map (·.2))
  let job := u.jobOf (key / 64) (key % 64)
  if sumL ws = 0 then
    if u.hasSteps (key / 64) (key % 64) then
      let s := NMap.getD u.led.steps key { job := job, acct := Acct.zero, last := 0, owed := none, cancelled := false, replay := false }
      (u.upL fun l => { l with steps := NMap.set l.steps key { s with job := job, acct := s.acct.take shares est } }).sumJob job shares est
    else
      (u.upL fun l => { l with rems := NMap.set l.rems key ((NMap.getD l.rems key Acct.zero).take shares est) }).sumJob job shares est
  else
    let parts := (List.range 3).map fun k => splitShares (shares.getD k 0) ws
    (List.range accts.length).foldl (fun u i => u.giveTo (accts.getD i 0) ((List.range 3).map fun k => (parts.getD k []).getD i 0) est) u

/-- What one accelerator gives (R392): dynamic share by context, energy of its pool, pending dynamic energy. -/
structure AccShare where
  port : Nat
  live : List Nat
  energy : Nat
  est : Bool
  dyn : List Nat
  pool : Nat
  pend : Nat × Bool

/-- The pseudo-code's first loop for one accelerator. -/
def Units.accShare (u : Units) (p : Nat) (es : List (Nat × Bool)) : AccShare :=
  let e := sumL (es.map (·.1))
  let est := es.any (·.2)
  let live := u.liveCtxs p
  let gen := (u.ig p).talnex
  let old := NMap.getD u.led.pendDyn p (0, false)
  let excess := e - u.led.cal.idle gen
  let ws := live.map fun c => activity (u.led.cal.weights gen) (NMap.getD u.led.deltas (ctxKey p c) [])
  if live.isEmpty then { port := p, live := [], energy := e, est := est || old.2, dyn := [], pool := e + old.1, pend := (0, false) }
  else if !(u.led.reported.contains p) then
    { port := p, live := live, energy := e, est := est, dyn := live.map fun _ => 0, pool := e - excess, pend := (old.1 + excess, old.2 || est) }
  else if sumL ws = 0 then
    { port := p, live := live, energy := e, est := est || old.2, dyn := live.map fun _ => 0, pool := e + old.1, pend := (0, false) }
  else { port := p, live := live, energy := e, est := est || old.2, dyn := splitShares (excess + old.1) ws, pool := e - excess, pend := (0, false) }

/-- Add to an interval sum of the tray: 0 used, 1 charged, 2 infrastructure, 3 ember_export, 4 ember_import. -/
def Ledger.traySum (l : Ledger) (k v : Nat) : Ledger := { l with tray := updNth l.tray k fun x => x + v }

/-- ember_export of a tick is split among the references served (R396). -/
def Units.emberSplit (u : Units) (export_ : Nat) : Units :=
  let w := u.ember.work
  let keys := (w.map fun x => (x.1, x.2.1)).eraseDups
  let parts := splitShares export_ (keys.map fun k => sumL ((w.filter fun x => x.1 = k.1 && x.2.1 = k.2).map (·.2.2)))
  let add := fun (cs : List (Nat × Nat × Nat)) (x : (Nat × Nat) × Nat) =>
    if cs.any fun c => c.1 = x.1.1 && c.2.1 = x.1.2 then cs.map fun c => if c.1 = x.1.1 && c.2.1 = x.1.2 then (c.1, c.2.1, c.2.2 + x.2) else c
    else cs ++ [(x.1.1, x.1.2, x.2)]
  let u := u.upL fun l => { l with charges := (keys.zip parts).foldl add l.charges, chargeFrom := if l.charges.isEmpty then l.tickNo else l.chargeFrom }
  { u with ember := { u.ember with work := [] } }

/-- LEDGER_APPORTION (R392): `export_` is the energy the budget controller charged to Ember in the tick [µJ]. -/
def ledgerApportion (export_ : Nat) (u : Units) : Units :=
  let l := u.led
  if l.tick = l.tickNo then u
  else
    let u := u.upL fun l => l.mapAccts fun a => if a.start = 0 then { a with start := u.tickEnd } else a
    let got := fun (kind : Nat) => l.chans.filterMap fun c => if c.2.kind = kind then c.2.now.map fun n => (c.2.port, n) else none
    let acc := got 0
    let ports := ((acc.map (·.1)).eraseDups).mergeSort fun a b => a ≤ b
    let sh := ports.map fun p => u.accShare p ((acc.filter fun x => x.1 = p).map (·.2))
    let trayIn := sumL ((got 1).map (·.2.1))
    let trayEst := (got 1).any (·.2.2) || sh.any (·.est)
    let export_ := if u.ember.work.isEmpty then 0 else export_
    let sumE := sumL (sh.map (·.energy))
    let used := max trayIn (sumE + export_)
    let u := if trayIn < used then
        (u.upL fun l => l.mapAccts fun a => a.flag 9).ledEvent Ev.LEDGER_METER_DISAGREE (used - trayIn)
      else u
    let dead := sumL ((sh.filter fun s => s.live.isEmpty).map (·.pool))
    let trayPool := dead + (used - sumE - export_)
    let live := (List.range 16).flatMap fun p => (u.liveCtxs p).map fun c => (p, c)
    let dynOf := fun (p c : Nat) => match sh.find? fun s => s.port = p with
      | some s => (match (s.live.zip s.dyn).find? fun x => x.1 = c with | some x => x.2 | none => 0)
      | none => 0
    let split := fun (total : Nat) (cs : List (Nat × Nat)) =>
      if l.method = 1 then splitShares total (cs.map fun _ => 1) else splitShares total (cs.map fun x => dynOf x.1 x.2)
    let infra := if l.method = 2 then trayPool + sumL ((sh.filter fun s => !s.live.isEmpty).map (·.pool)) else if live.isEmpty then trayPool else 0
    let tray := if l.method = 2 then live.map fun _ => 0 else split trayPool live
    let accPart := fun (p c : Nat) => match sh.find? fun s => s.port = p with
      | some s => if l.method = 2 then 0 else
          (match (s.live.zip (split s.pool (s.live.map fun c => (p, c)))).find? fun x => x.1 = c with | some x => x.2 | none => 0)
      | none => 0
    let estOf := fun (p : Nat) => trayEst || (match sh.find? fun s => s.port = p with | some s => s.est | none => false)
    let rows := live.zip tray
    let u := rows.foldl (fun u x => u.giveCtx (ctxKey x.1.1 x.1.2) [dynOf x.1.1 x.1.2, accPart x.1.1 x.1.2, x.2] (estOf x.1.1)) u
    let charged := sumL (rows.map fun x => dynOf x.1.1 x.1.2 + accPart x.1.1 x.1.2 + x.2)
    let u := u.upL fun l =>
      { ((((l.traySum 0 used).traySum 1 charged).traySum 2 infra).traySum 3 export_) with
        trayAcct := l.trayAcct.take [] trayEst
        pendDyn := sh.foldl (fun m s => NMap.put m (0, false) s.port s.pend) l.pendDyn
        deltas := l.deltas.filter fun d => !(l.reported.contains (d.1 / 64))
        tok := [], tick := l.tickNo }
    let u := (u.count 0x800138 trayIn).count 0x800140 infra
    (u.emberSplit export_).reform

/-! Intervals (R401) -/

/-- Jobs with a context at this T3, or with a sum, ascending. -/
def Units.intervalJobs (u : Units) : List Nat :=
  (((u.vig.watch.map fun w => w.2.job) ++ NMap.keys u.led.jobs).eraseDups.filter (· ≠ 0)).mergeSort fun a b => a ≤ b

/-- LEDGER_INTERVAL_BOUNDARY (R401, R406): INTERVAL, OVERFLOW and TRAY records in this order; a change of METHOD and INTERVAL_S takes effect; groups
with the totals flag call their reduction (R423). -/
def ledgerIntervalBoundary (m : Mem) (u : Units) : Mem × Units :=
  let u := u.epochCheck
  let jobs := u.led.jobs
  let r := collTotals u.led.interval (fun job => (NMap.getD jobs job { acct := Acct.zero, streams := 0, steps := 0 }).acct.energies) m u
  let u := r.2
  let u :=
    if u.storeFull then u
    else
      let u := u.intervalJobs.foldl (fun u j =>
        let s := NMap.getD u.led.jobs j { acct := Acct.zero, streams := 0, steps := 0 }
        u.form 3 s.acct.shown s.acct.start s.acct.est (u.tenantFor j) j 0 0 s.acct.energies s.streams s.steps) u
      let work := u.led.excess.filter fun o => !o.2.open_.isEmpty || 0 < o.2.opened || 0 < o.2.tokens || 0 < o.2.acct.total
      let u := work.foldl (fun u o =>
        u.form 4 (o.2.acct.shown ||| 32) o.2.acct.start o.2.acct.est o.2.tenant 0 o.2.opened o.1 o.2.acct.energies o.2.tokens 0) u
      let t := u.led.tray
      let u := u.form 5 u.led.trayAcct.shown u.led.trayAcct.start u.led.trayAcct.est 0 0 (t.getD 4 0) 0 (t.take 4) 0 0
      u.upL fun l =>
        { l with jobs := [], rems := [], tray := [0, 0, 0, 0, 0], trayAcct := Acct.zero,
                 excess := (l.excess.filter fun o => !o.2.open_.isEmpty).map fun o => (o.1, { o.2 with acct := Acct.zero, opened := 0, tokens := 0 }) }
  (r.1, u.upL fun l => { l with method := bits u.ledCfg 9 8, interval := bits u.ledCfg 7 0 })

/-! Signing, storing, delivering (R402-R406) -/

/-- LEDGER_RECORD_SIGNED (R402): the oldest waiting record is chained and signed and goes to the Tallow ledger region. -/
def ledgerRecordSigned (u : Units) : Units :=
  match u.led.toSign with
  | [] => u
  | r :: rest =>
    if u.led.noSign then u
    else
      let g := Config.sign (u.lamp.ident.ledKey.getD 0) (r.bytes u.self ++ leBytes 48 u.led.prev) u.free
      let s : SRec := { r := r, prev := u.led.prev, sigR := g.1 % 2 ^ 384, sigS := g.2 % 2 ^ 384 }
      let u := (u.draw.upL fun l => { l with toSign := rest, written := l.written ++ [s], prev := Config.sha384 (s.bytes u.self) % 2 ^ 384 }).emit
        (.bus 6 [r.seq])
      let n := u.tal.sizes.getD 1 0
      tallowWrite 1 1 (if n = 0 then 0 else recChunk r.seq % n) 256 u

/-- LEDGER_RECORD_DURABLE (R404): the oldest written record has been read back: its stream is freed, its commands complete, and it is delivered. -/
def ledgerRecordDurable (u : Units) : Units :=
  match u.led.written with
  | [] => u
  | s :: rest =>
    let u := (u.upL fun l => { l with written := rest, stored := l.stored ++ [s], durable := s.r.seq }).count 0x800100
    let i := s.r.subjB % 2 ^ 17
    let u := if s.r.kind = 1 then
        match u.stream i with
        | some x => if x.recorded then (x.cmds.foldl (fun u c => u.done c.2 0x080 c.1 St.OK) u).freeStream i else u
        | none => u
      else u
    u.ledgerPump

/-- LEDGER_ACK_SEQ_WRITE (R405): chunks whose records are all acknowledged return. -/
def ledgerAckSeqWrite (w : Sys2Proof.Who) (value : Nat) (u : Units) : Units :=
  if !(isOperator w.priv) || value < u.led.ack || u.led.durable < value then u
  else
    let gone := ((u.led.stored.filter fun s => s.r.seq ≤ value).map fun s => recChunk s.r.seq).eraseDups
    let u := u.upL fun l => { l with ack := value, delivered := max l.delivered value, stored := l.stored.filter fun s => value < s.r.seq }
    let left := (u.led.written ++ u.led.stored).map fun s => recChunk s.r.seq
    let n := u.tal.sizes.getD 1 0
    let free := gone.filter fun k => !(left.contains k) && recChunk (u.led.seq + 1) ≠ k
    (free.foldl (fun u k => u.tallowFree 1 (if n = 0 then 0 else k % n)) u).reform.ledgerPump

/-- TALLOW_FORMAT (0x0C01): not while a ledger record is unacknowledged (Table 20-8). -/
def tallowFormat (c : Sys2Proof.Cmd) (u : Units) : Units :=
  u.formatStart c (!u.led.stored.isEmpty || !u.led.written.isEmpty || !u.led.toSign.isEmpty)

/-! Stand-in charges (R396) -/

/-- The words of a charge message. -/
def ChargeOut.words (x : ChargeOut) : List Nat := [x.seq, x.first] ++ x.charges.flatMap fun c => [c.1, c.2]

/-- LEDGER_CHARGE_SEND: one LEDGER_CHARGE to each member with its charges of the last 100 ticks. -/
def ledgerChargeSend (u : Units) : Units :=
  let l := u.led
  let dsts := (l.charges.map (·.1)).eraseDups
  let u := u.upL fun l => { l with charges := [] }
  dsts.foldl (fun u d =>
    let n := u.led.chargeSeq + 1
    let x : ChargeOut := { dst := d, seq := n, first := l.chargeFrom, charges := (l.charges.filter fun c => c.1 = d).map fun c => (c.2.1, c.2.2), resends := 0 }
    (u.upL fun l => { l with chargeSeq := n, chargeOut := l.chargeOut ++ [x] }).reqL d 0x60 (16 + 16 * x.charges.length) 2 x.words) u

/-- Apply one charge: to the stream, to the overflow account, or, where the stream is FREE, to its job's INTERVAL record. -/
def Units.applyCharge (u : Units) (ref e : Nat) : Units :=
  let imp := fun (u : Units) => u.upL fun l => (l.traySum 4 e).traySum 1 e
  let late := fun (u : Units) (job : Nat) => (imp u).upJobSum job fun j => { j with acct := ({ j.acct with e4 := j.acct.e4 + e } : Acct).flag 3 }
  if bitAt ref 31 then
    match NMap.find u.led.excess (ref % 256) with
    | some _ => (imp u).upL fun l => { l with excess := NMap.upd l.excess (ref % 256) fun o => { o with acct := ({ o.acct with e4 := o.acct.e4 + e } : Acct).flag 3 } }
    | none => u.upL fun l => (l.traySum 4 e).traySum 2 e
  else
    let i := ref % 2 ^ 17
    match u.stream i with
    | some s =>
      if s.recorded then late u s.job
      else
        let u := (imp u).upStream i fun s => { s with acct := { s.acct with e4 := s.acct.e4 + e }, flags := s.flags ||| 8 }
        u.upJobSum s.job fun j => { j with acct := { j.acct with e4 := j.acct.e4 + e } }
    | none => match NMap.find u.led.freedJob i with
      | some job => late u job
      | none => u.upL fun l => (l.traySum 4 e).traySum 2 e

/-- LEDGER_CHARGE (class 0x60): applied once by its sequence, and acknowledged. -/
def ledgerCharge (h : Sys2Proof.LHdr) (seq first : Nat) (charges : List (Nat × Nat)) (u : Units) : Units :=
  u.recvL h 0x60 0 fun u =>
    let old := NMap.getD u.led.applied h.src []
    let u :=
      if old.contains seq then u
      else
        let u := (charges.foldl (fun u c => u.applyCharge c.1 c.2) u).count 0x800148
        let mine := fun (i : Nat) (s : Stream) => charges.any (fun c => c.1 % 2 ^ 17 = i && !(bitAt c.1 31)) ||
          (bitAt s.flags 3 && u.ember.routes.any fun r => r.cid = s.cid && r.ctx = s.ctx && u.buddyOf r = h.src)
        (u.upL fun l => { l with
          applied := NMap.set l.applied h.src (old ++ [seq])
          streams := l.streams.map fun e => (e.1, if mine e.1 e.2 then { e.2 with chargedTo := max e.2.chargedTo (first + 99) } else e.2) }).closeStreams
    u.answerL h.src 0x61 h.seq 16 2 [seq, St.OK]

/-- LEDGER_CHARGE_ACK (class 0x61). -/
def ledgerChargeAck (h : Sys2Proof.LHdr) (seq _status : Nat) (u : Units) : Units :=
  u.recvL h 0x61 0 fun u => u.upL fun l => { l with chargeOut := l.chargeOut.filter fun x => !(x.dst = h.src && x.seq = seq) }

/-- LEDGER_CHARGE_RESEND: after 10 ms, up to 3 times. -/
def ledgerChargeResend (dst seq : Nat) (u : Units) : Units :=
  match u.led.chargeOut.find? fun x => x.dst = dst && x.seq = seq with
  | none => u
  | some x =>
    if x.resends < 3 then
      (u.upL fun l => { l with chargeOut := l.chargeOut.map fun (y : ChargeOut) => if y.dst = dst && y.seq = seq then { y with resends := y.resends + 1 } else y }).reqL
        dst 0x60 (16 + 16 * x.charges.length) 2 x.words
    else u.upL fun l => { l with chargeOut := l.chargeOut.filter fun y => !(y.dst = dst && y.seq = seq) }

/-- STREAM_CLOSING_WAIT_EXPIRY (R396): 250 ms have passed. -/
def streamClosingWaitExpiry (index : Nat) (u : Units) : Units :=
  (u.upStream index fun s => if s.state = 3 then { s with waited := true } else s).closeStreams

/-- LEDGER_STATUS (R408). -/
def Units.ledgerStatus (u : Units) : Nat :=
  let r := u.led.ready
  b2n r + 2 * b2n (r && u.backpressure) + 4 * b2n (r && u.storeFull) + 8 * b2n (u.led.chans.any fun c => c.2.lost) + 16 * b2n u.led.ring.isSome
    + (if r then u.storePct else 0) * 2 ^ 8 + satW 16 u.led.toSign.length * 2 ^ 16

end Sys2Proof.Machine
end

