-- ==== Sys2Proof/Machine/Power.lean ====
section
/-!
DEFINITION. The power sequencer, position power, and the fan outputs (23_pins_power_package). Pins: 1 CORE_EN, 2 FAULT_N, 3 THERMTRIP_N, 4 POS_EN,
5 FAN_PWM (duty in steps of 0.5 %), 17 PPS_OUT.
-/
namespace Sys2Proof.Machine

/-- Change the sequencer. -/
def Units.upP (u : Units) (f : Pwr → Pwr) : Units := { u with pwr := f u.pwr }

/-- A Lamplighter or sequencer event. -/
def Units.lampEvent (u : Units) (code : Nat) (payload : Nat := 0) : Units := u.raise code 2 0x000 payload

/-- FAULT_N (R542). -/
def Units.setFault (u : Units) (on : Bool) : Units :=
  if u.lamp.fault = on then u else ({ u with lamp := { u.lamp with fault := on } }).emit (.pin 2 0 (b2n !on))

/-- HOST_ALERT_N is asserted while an alarm is unacknowledged (R542). -/
def Units.hostAlert (u : Units) : Bool := !u.chim.alarms.isEmpty

/-- Drive the fans (R540, R541): full duty until the Lamplighter has written one, and in over-temperature; else the warden's floor. -/
def Units.fans (u : Units) : Units :=
  let d := if u.pwr.overtemp || !u.pwr.fanSet then 200 else u.role.fanFloor
  (List.range 16).foldl (fun u i => u.emit (.pin 5 i d)) u

/-- The warden's floor has changed: the Lamplighter writes the duty. -/
def Units.fanWrite (u : Units) : Units := (u.upP fun p => { p with fanSet := true }).fans

/-! Admission (R534, R535) -/

/-- Declared inrush of a kind [W]. -/
def Pwr.watts (p : Pwr) (kind : Nat) : Nat := p.inrush.getD kind 0

/-- Starts admitted in (t - 10 ms, t]. -/
def Pwr.inWindow (p : Pwr) (now : Nat) : List (Nat × Nat) := p.window.filter fun w => now < w.1 + 10 ^ 7

/-- Inrush in the current window (PWRSEQ_BUDGET.WINDOW_W). -/
def Units.windowW (u : Units) : Nat := sumL ((u.pwr.inWindow u.clk.mono).map (·.2))

/-- POS_EN of a port. Commands that still wait for POS_PG of a position switched off complete with BAD_STATE. -/
def Units.posEnable (u : Units) (p : Nat) (on : Bool) : Units :=
  let late := if on then [] else u.pwr.posCmds.filter fun x => x.1 = p
  let u := if on then u else u.upP fun x => { x with posCmds := x.posCmds.filter fun y => y.1 ≠ p }
  let u := late.foldl (fun u x => u.done x.2 0x000 0x0207 St.BAD_STATE) u
  (u.upP fun x => if on then { x with posEn := setBit x.posEn p } else { x with posEn := clrBit x.posEn p, posPg := clrBit x.posPg p }).emit (.pin 4 p (b2n on))

/-- An admitted start takes place. -/
def Units.started (u : Units) (x : PwrStart) : Units :=
  if x.kind = 0 then
    let u := u.posEnable x.port true
    match x.cmd with
    | some c =>
      if bitAt u.pwr.posPg x.port then u.done c 0x000 0x0207 St.OK else u.upP fun p => { p with posCmds := p.posCmds ++ [(x.port, c)] }
    | none => u
  else if x.kind = 1 then u.releaseCtxs x.port
  else u.partUp x.port

/-- Admit the head of the queue, if the window allows it; one beyond the whole budget needs an empty window. -/
def Units.admitOne (u : Units) : Units :=
  match u.pwr.queue with
  | [] => u
  | x :: r =>
    let now := u.clk.mono
    let win := u.pwr.inWindow now
    let w := u.pwr.watts x.kind
    let excess := decide (u.pwr.budgetW < w)
    if u.pwr.fail || u.pwr.overtemp || (if excess then !win.isEmpty else decide (u.pwr.budgetW < sumL (win.map (·.2)) + w)) then u
    else
      let u := (u.upP fun p => { p with queue := r, window := win ++ [(now, w)] }).count 0x280
      let u := u.setCnt 0x298 (max (u.cnt 0x298) (satW 32 ((now - x.at_) / 1000)))
      let u := if excess then u.lampEvent Ev.PWR_START_OVERSIZE else u
      u.started x

/-- Admit from the head while the budget allows. -/
def Units.admitQueue (u : Units) : Units := Nat.repeat Units.admitOne u.pwr.queue.length u

/-- The spare being powered up for a position on a port cannot start: its T3 asks for another, at which the keeper marks it UNAVAILABLE (R326, R543). -/
def Units.spareRefused (u : Units) (port : Nat) : Units :=
  match u.rcv.prep.find? fun x => x.2.1 = port && x.2.2 = [0xFF] with
  | none => u
  | some x =>
    let u := u.upC fun y => { y with prep := y.prep.filter fun z => !(z.1 = x.1 && z.2.1 = port) }
    let job := ((u.wick.jobs.find? fun j => !(u.posShards x.1 j.1).isEmpty).map (·.1)).getD 0
    u.askSpare x.1 job 1 0

/-- A start arrives (R534, R535): recovery starts stand ahead of the others. -/
def Units.startRequest (u : Units) (x : PwrStart) : Units :=
  if 64 ≤ u.pwr.queue.length then
    let u := (u.count 0x290).lampEvent Ev.PWR_QUEUE_FULL
    match x.cmd with
    | some c => u.done c 0x000 0x0207 St.BUSY_RETRY
    | none => if x.kind = 0 then u.spareRefused x.port else u
  else
    let q := u.pwr.queue
    let q' := if x.recovery then (q.filter (·.recovery)) ++ [x] ++ q.filter (fun y => !y.recovery) else q ++ [x]
    let u := (u.upP fun p => { p with queue := q' }).admitQueue
    if u.pwr.queue.contains x then u.count 0x288 else u

/-- The request of a unit. -/
def Units.askStart (u : Units) (kind port ctx : Nat) (recovery : Bool) (cmd : Option Sys2Proof.Cmd) : Units :=
  u.startRequest { kind := kind, port := port, ctx := ctx, recovery := recovery, at_ := u.clk.mono, cmd := cmd }

/-- POWER_START_REQUEST (R534): a start of Table 23-7 arrives; a release always counts as recovery and a partition never does. -/
def powerStartRequest (kind port ctx : Nat) (recovery : Bool) (u : Units) : Units :=
  if 3 ≤ kind then u else u.askStart kind port ctx (kind = 1 || (kind = 0 && recovery)) none

/-- POWER_WINDOW_LEAVE (R534): a start has left the window. -/
def powerWindowLeave (u : Units) : Units := (u.upP fun p => { p with window := p.inWindow u.clk.mono }).admitQueue

/-! Position power (R536) -/

/-- A position's power may be taken away. -/
def Units.mayPowerOff (u : Units) (p : Nat) : Bool := u.fenced p || (u.enabledOn p).isEmpty

/-- PWRSEQ_POS (0x0207): 0 off, 1 on, 2 cycle. -/
def pwrseqPos (c : Sys2Proof.Cmd) (port action : Nat) (u : Units) : Units :=
  u.operator c 0x000 0x0207 fun u =>
    if 16 ≤ port || 3 ≤ action then u.done c 0x000 0x0207 St.BAD_PARAM
    else if action = 1 then
      if bitAt u.pwr.posEn port && bitAt u.pwr.posPg port then u.done c 0x000 0x0207 St.OK
      else if bitAt u.pwr.posEn port then u.upP fun p => { p with posCmds := p.posCmds ++ [(port, c)] }
      else u.askStart 0 port 0xFF false (some c)
    else if !(u.mayPowerOff port) then u.done c 0x000 0x0207 St.BAD_STATE
    else if action = 0 then (u.posEnable port false).done c 0x000 0x0207 St.OK
    else (u.posEnable port false).upP fun p => { p with cycles := p.cycles ++ [(port, c)] }

/-- POS_CYCLE_POWER_ON (R536): 1 s after the power-off of a cycle. -/
def posCyclePowerOn (port : Nat) (u : Units) : Units :=
  match u.pwr.cycles.find? fun x => x.1 = port with
  | none => u
  | some x => (u.upP fun p => { p with cycles := p.cycles.erase x }).askStart 0 port 0xFF false (some x.2)

/-- POS_PG_ASSERT (R96, R325, R536): the commands that waited complete. A port that is DOWN or HELD stays so, but for that of a COLD spare which is being
prepared: the T3 retrains it (DEDUCED: the assumption log, entry 174). -/
def posPgAssert (port : Nat) (u : Units) : Units :=
  if !(bitAt u.pwr.posEn port) then u
  else
    let mine := u.pwr.posCmds.filter fun x => x.1 = port
    let u := u.upP fun p => { p with posPg := setBit p.posPg port, posCmds := p.posCmds.filter fun x => x.1 ≠ port }
    let u := mine.foldl (fun u x => u.done x.2 0x000 0x0207 St.OK) u
    let s := (u.port port).state
    if (u.rcv.prep.any fun x => x.2.1 = port && x.2.2 = [0xFF]) && bitAt (u.linkCtl port) 0 && (s = 7 || s = 8) then u.bringUp port else u

/-- POS_PG_TIMEOUT (R536): PWR_POS_FAIL, and the position is lost (R303). -/
def posPgTimeout (port : Nat) (u : Units) : Units :=
  if !(bitAt u.pwr.posEn port) || bitAt u.pwr.posPg port then u
  else
    let mine := u.pwr.posCmds.filter fun x => x.1 = port
    let u := u.upP fun p => { p with posCmds := p.posCmds.filter fun x => x.1 ≠ port }
    let u := mine.foldl (fun u x => u.done x.2 0x000 0x0207 St.BAD_STATE) u
    ((u.lampEvent Ev.PWR_POS_FAIL).spareRefused port).lose port 3

/-! Over-temperature (R540) -/

/-- OVERTEMP_ENTER. -/
def overtempEnter (u : Units) : Units :=
  if u.pwr.overtemp then u else ((u.upP fun p => { p with overtemp := true }).fans).lampEvent Ev.PKG_OVERTEMP

/-- OVERTEMP_END. -/
def overtempEnd (u : Units) : Units :=
  if u.pwr.overtemp then ((u.upP fun p => { p with overtemp := false }).fans).admitQueue else u

/-- PWR_FAIL is asserted (R538). -/
def Units.pwrFailOn (u : Units) : Units :=
  if u.pwr.fail then u else ((u.upP fun p => { p with fail := true, hold := true }).tallowPwrFail).lampEvent Ev.PWR_FAIL_ASSERTED

/-- PWR_FAIL_ASSERT. -/
def pwrFailAssert (u : Units) : Units := u.pwrFailOn

/-- PWR_FAIL_DEASSERT (R539): deasserted for 1 ms; the POWER capacity returns at the next budget period. -/
def pwrFailDeassert (u : Units) : Units :=
  if u.pwr.fail then ((u.upP fun p => { p with fail := false }).tallowPwrGood).admitQueue else u

/-- PWRSEQ_STATUS (R544). -/
def Units.pwrseqStatus (u : Units) : Nat :=
  let p := u.pwr
  b2n p.coreEn + 2 * b2n p.corePg + 4 * b2n p.fail + 8 * b2n p.thermtrip + 16 * b2n p.overtemp + p.queue.length * 2 ^ 8 + p.posEn * 2 ^ 16

end Sys2Proof.Machine
end

