-- ==== Sys2Proof/Machine/Start.lean ====
section
/-!
DEFINITION. Full T3 resets, and the start sequence of Table 22-6 (22, 23).
-/
namespace Sys2Proof.Machine

open Sys2Proof (CalSet)

/-- Change the Lamplighter. -/
def Units.upLamp (u : Units) (f : Lamp → Lamp) : Units := { u with lamp := f u.lamp }

/-! Verifying images (R509, R510) -/

/-- A loader or runtime image passes under the root key and a floor (R509). -/
def FwImage.ok (f : FwImage) (root floor : Nat) : Bool := f.sigKey = root && floor ≤ f.svn

/-- The slot that runs: the one the pointer names, else the other. -/
def pickSlot (p : Option FwImage × Option FwImage) (b : Bool) (root floor : Nat) : Option Bool :=
  let ok := fun (b : Bool) => match slotOf p b with | some f => f.ok root floor | none => false
  if ok b then some b else if ok (!b) then some (!b) else none

/-- A role's parties of a section 0x0003 (R34, R35). -/
def CfgRole.ok (r : CfgRole) : Bool :=
  r.cands.length ≤ 8 && r.witness ≠ r.standby && !(r.cands.contains r.witness) && !(r.cands.contains r.standby)

/-- Tallow's region sizes in GiB for a geometry: raw capacity and snapshot region (Table 20-3). -/
def CfgImage.rawGiB (c : CfgImage) : Nat := c.nand.getD 0 0 * c.nand.getD 1 0 * c.nand.getD 2 0 / 8
def CfgImage.snapGiB (c : CfgImage) : Nat := (c.rawGiB * 9 - 10 * (6 + 6 * c.nand.getD 7 0 + 3 * c.nand.getD 8 0)) / 10

/-- The first check of R510 that an image fails: 0 none, 1 signature, 2 serial, 3 reserved section, 4 R34, 5 R117, 6 R390, 7 R468. -/
def CfgImage.check (c : CfgImage) (n : Nor) (serial : Nat) : Nat :=
  let pages := 3072 * ((List.range 8).filter fun i => !(bitAt n.health.mappedOut i)).length
  if n.owner.getD c.ownerIdx 0 ≠ c.sigKey || c.sigKey = 0 then 1
  else if c.serial ≠ 0 && c.serial ≠ serial then 2
  else if c.reserved then 3
  else if (match c.part.roles with | some (l, ok) => !ok || l.any fun r => !r.ok | none => false) then 4
  else if pages < sumL (c.sizes.map pagesFor) then 5
  else if (List.range 4).any fun k => 32 < (c.chans.filter fun x => x.2.2 = k).length then 6
  else if c.nand.getD 7 0 < 1 || 64 < c.nand.getD 7 0 || c.nand.getD 8 0 < 1 || 64 < c.nand.getD 8 0 || c.snapGiB < 64 || 4096 < c.rawGiB
      || !([1, 2, 4, 8].contains (c.nand.getD 0 0)) || 8 < c.nand.getD 1 0 then 7
  else 0

/-- The configuration slot that passes and has the higher version. -/
def Nor.pickCfg (n : Nor) (serial : Nat) : Option Bool :=
  let ok := fun (b : Bool) => match slotOf n.cfg b with | some c => c.check n serial = 0 | none => false
  let v : Bool → Nat := fun b => match slotOf n.cfg b with | some c => c.version | none => 0
  if ok false && ok true then some (decide (v false < v true)) else if ok false then some false else if ok true then some true else none

/-- A calibration slot is valid (R520): a factory set under the root key, a user set under an owner or configuration operator key. -/
def calOk (x : Option (CalSet × Nat)) (root : Nat) (keys : List Nat) : Bool :=
  match x with | some (c, k) => if c.origin = 0 then k = root else keys.contains k | none => false

/-- Keys that may sign a user calibration set or an amendment. -/
def Lamp.keys (l : Lamp) : List Nat := l.nor.owner ++ (match l.cfg with | some c => c.opKeys | none => [])

/-! Reset -/

/-- What the health record holds now (Table 22-3). -/
def Units.healthNow (u : Units) : Health :=
  if !u.mantle.ready then u.lamp.nor.health
  else
    { pages := (u.mantle.pages.filter fun p => p.2.state = 3).map (·.1), mappedOut := u.mantle.mappedOut ||| u.mantle.failedStacks, retired := u.grid.retired,
      routerFail := u.grid.routerFail, cols := (u.grid.map.filter fun t => t.2.column ≠ some (firstColumn t.1)).map fun t => (t.1, t.2.column),
      epoch := u.clk.epoch }

/-- A full T3 reset with AUX power kept (R533): everything is lost but what NOR, the fuses and the straps hold, and POS_EN. The latch of a thermal
trip goes where `untrip` says so (Table 23-10). -/
def Units.cleared (u : Units) (untrip : Bool) : Units :=
  { Units.reset with
    out := u.out, free := u.free
    lamp := { Lamp.reset with fuses := u.lamp.fuses, nor := { u.lamp.nor with health := u.healthNow }, fault := u.lamp.fault }
    pwr := { Pwr.reset with straps := u.pwr.straps, posEn := u.pwr.posEn, posPg := u.pwr.posPg, fail := u.pwr.fail, hold := u.pwr.fail,
                            thermtrip := u.pwr.thermtrip && !untrip,
                            tries := if 2 ≤ u.pwr.tries then 2 else 0 } }

/-! The start (R509-R511, R517-R520, R526, R541) -/

/-- Counters at start (R519): the valid slot with the higher sequence rolls into the other. -/
def Nor.rollAtStart (n : Nor) : Nor × CtrSlot :=
  let s : Bool → Nat := fun b => match slotOf n.ctr b with | some c => c.seq | none => 0
  let cur := decide (s false < s true)
  let old := (slotOf n.ctr cur).getD { seq := 0, coarse := 0, cycles := 0, ticks := 0 }
  let new : CtrSlot := { seq := old.seq + 1, coarse := old.coarse + old.ticks, cycles := wrapW 32 (old.cycles + 1), ticks := 0 }
  ({ n with ctr := setSlot n.ctr (!cur) (some new) }, new)

/-- The runtime slot of this start (R509, R517): a staged slot starts its trial; a reset before commit runs the other slot. -/
def Nor.runtime (n : Nor) (fuses : Fuses) : Nor × Option Bool × Bool :=
  let want := if n.trial = 2 then !n.bootRt else n.bootRt
  match pickSlot n.rt want fuses.root fuses.fwFloor with
  | none => (n, none, false)
  | some b =>
    let back := n.trial = 2 || (n.trial = 1 && b ≠ n.bootRt)
    ({ n with bootRt := b, trial := if back then 0 else if n.trial = 1 then 2 else n.trial }, some b, back)

/-- Take the calibration set in force (R520); an overwrite that power interrupted is completed (R521). -/
def Units.bootCal (u : Units) : Units :=
  let n := u.lamp.nor
  let ok := fun (b : Bool) => calOk (slotOf n.cal b) u.lamp.fuses.root u.lamp.keys
  let sq : Bool → Nat := fun b => match slotOf n.cal b with | some c => c.1.seq | none => 0
  let best := if ok false && ok true then some (decide (sq false < sq true)) else if ok false then some false else if ok true then some true else none
  match best with
  | none => (u.upL fun l => { l with cal := CalSet.none }).lampEvent Ev.LAMP_CAL_INVALID
  | some b =>
    match slotOf n.cal b with
    | none => u
    | some (c, k) =>
      let same := match slotOf n.cal (!b) with | some (d, _) => d.digest = c.digest | none => false
      let redo := c.origin = 1 && !same
      let c := { c with seq := if redo then c.seq + 1 else c.seq }
      let n := if redo then { n with cal := setSlot n.cal (!b) (some (c, k)) } else n
      (u.upLamp fun l => { l with nor := n, calValid := true, calSlot := b != redo }).upL fun l => { l with cal := c }

/-- A certificate issued under a private key (R505): a signature over SHA-384 of what it certifies. -/
def Cert.issue (subject key issuerKey draw : Nat) (info : List Nat) : Cert :=
  { subject := subject, key := Config.publicKey key, info := info, issuer := Config.publicKey issuerKey,
    sig := Config.sign issuerKey (subject :: Config.publicKey key :: info) draw }

/-- The boot ROM derives the Ledger identity and erases the DeviceID key before the FSBL runs; the FSBL puts the Ledger key into the signing engine
(R505). -/
def Units.romIdent (u : Units) (f : FwImage) : Units :=
  let uds := u.lamp.fuses.uds
  let dev := Config.privateKey uds
  let cdi := Config.cdi uds [f.digest, f.svn]
  let key := Config.privateKey cdi
  let u := u.draw.upLamp fun l => { l with ident := { Ident.none with devKey := some dev, fsblCdi := cdi, ledCert := some (Cert.issue 2 key dev u.free [f.digest, f.svn]) } }
  u.upLamp fun l => { l with ident := { l.ident with devKey := none, ledKey := some key } }

/-- The FSBL issues the Alias for the runtime and the configuration image of this start (R505). -/
def Units.aliasIdent (u : Units) : Units :=
  match u.lamp.fw, u.lamp.ident.ledKey with
  | some f, some k =>
    let info := [f.digest, match u.lamp.cfg with | some c => c.digest | none => 0]
    let cdi := Config.cdi u.lamp.ident.fsblCdi info
    let key := Config.privateKey cdi
    u.draw.upLamp fun l => { l with ident := { l.ident with rtCdi := cdi, aliasKey := some key, aliasCert := some (Cert.issue 3 key k u.free info) } }
  | _, _ => u

/-- A certificate chain of Table 22-2: slot 0 down to the Alias, slot 1 down to the Ledger identity. -/
def Lamp.chain (l : Lamp) (slot : Nat) : List Cert :=
  l.nor.factory ++ l.ident.ledCert.toList ++ if slot = 0 then l.ident.aliasCert.toList else []

/-- Take a configuration image, or enter recovery (R510, R526). -/
def Units.bootCfg (u : Units) : Units :=
  let n := u.lamp.nor
  let serial := u.lamp.fuses.serial
  let bad := fun (b : Bool) => match slotOf n.cfg b with | some c => c.check n serial | none => 1
  let u := [false, true].foldl (fun u b =>
    if bad b = 0 then u else u.lampEvent Ev.LAMP_CFG_REFUSED (Config.eventPayload Ev.LAMP_CFG_REFUSED [b2n b, bad b])) u
  match n.pickCfg serial with
  | none => { u with lamp := { u.lamp with state := 4 }, mb := { u.mb with mode := 3 } }
  | some b =>
    let c := slotOf n.cfg b
    let force := bitAt u.pwr.straps 4
    let priv := match c with | some x => (match x.part.mbox with | some m => m.2 | none => u.lamp.pciePriv) | none => u.lamp.pciePriv
    let u := u.upLamp fun l => { l with cfg := c, cfgSlot := b, pciePriv := if force then l.pciePriv else priv, state := if force then 4 else 2 }
    if force then { u with mb := { u.mb with mode := 3 } } else u

/-- CORE_EN (R531, R532), unless AUX_ONLY keeps it low, a thermal trip is latched or two attempts have failed. -/
def Units.coreOn (u : Units) : Units :=
  if bitAt u.pwr.straps 5 || u.pwr.thermtrip || 2 ≤ u.pwr.tries then u else (u.upP fun p => { p with coreEn := true }).emit (.pin 1 0 1)

/-- The start from the FSBL stage on. -/
def Units.fsblStage (u : Units) : Units :=
  match pickSlot u.lamp.nor.fsbl u.lamp.nor.bootFsbl u.lamp.fuses.root u.lamp.fuses.fsblFloor with
  | none => (u.upLamp fun l => { l with state := 0 }).setFault true
  | some b =>
    let r := u.lamp.nor.rollAtStart
    let u := u.upLamp fun l => { l with nor := { r.1 with bootFsbl := b }, fsblSlot := b, state := 1 }
    let u : Units := { u with clk := { u.clk with opStart := r.2.coarse * 4096 / 10, cycles := r.2.cycles } }
    let u := match slotOf u.lamp.nor.fsbl b with | some f => u.romIdent f | none => u
    let rt := u.lamp.nor.runtime u.lamp.fuses
    match rt.2.1 with
    | none => u
    | some s =>
      let u := u.upLamp fun l => { l with nor := rt.1, fwSlot := s, fw := slotOf rt.1.rt s, state := 2 }
      let u := if rt.2.2 then u.lampEvent Ev.LAMP_FW_FALLBACK else u
      u.bootCfg.aliasIdent.bootCal.coreOn

/-- AUX_POWER_GOOD (R511, R526): the straps are sampled, NOR and the fuses read, and the start runs up to CORE_EN. -/
def auxPowerGood (straps : Nat) (fuses : Fuses) (nor : Nor) (_m : Mem) (u : Units) : Mem × Units :=
  let s := straps % 64
  let u : Units := { Units.reset with out := u.out, free := u.free, lamp := { Lamp.reset with fuses := fuses, nor := nor }, pwr := { Pwr.reset with straps := s } }
  let u := u.fans
  (Mem.reset, if bits s 1 0 ≠ 0 then u.setFault true else u.fsblStage)

/-! The core start (Table 22-6 from the Mantle on) -/

/-- The regions created at start (R117, R556): type, access mask of Table 5-10, host-visible, owner kind. -/
def fixedRegions : List (Nat × Nat × Bool × Nat) := [(1, 0xFD370, false, 4), (5, 0x43005, false, 2), (6, 0x4C480, true, 2), (7, 0xFFFF0, true, 2)]

/-- Default sizes of Table 5-2: system, token pool, trace, ring bodies. -/
def fixedSizes : List Nat := [2 ^ 28, 2 ^ 31, 2 ^ 29, 2 ^ 30]

/-- Mantle training, zeroing and fixed regions (Table 22-6). -/
def Units.startMantle (u : Units) (present : Nat) : Units :=
  let h := u.lamp.nor.health
  let pages := h.pages.foldl (fun m k => NMap.set m k { Page.reset with state := 3 }) []
  let u := u.setMantle { Mantle.reset with present := present % 256, mappedOut := h.mappedOut, ready := true, pages := pages, retired := h.pages.length }
  let sizes := match u.lamp.cfg with | some c => c.sizes | none => []
  (List.range 4).foldl (fun u k =>
    match fixedRegions[k]? with
    | some (typ, mask, hv, kind) =>
      (u.allocRegion { typ := typ, hostVisible := hv, pooled := false, quiet := false, job := 0, ownerCid := if kind = 2 then u.self else 0, ownerCtx := 0xFF,
                       ownerKind := kind, gen := if kind = 2 then u.role.t3Gen else 0, mask := mask, pages := [] } (sizes.getD k (fixedSizes.getD k 0))).1
    | none => u) u

/-- The grid's self-test (R149, R150): retired tapers stay retired, failing ones are retired, a partition with a failed router stays out of service,
its logical indices vacant. -/
def Units.startGrid (u : Units) (bad : List Nat) : Units :=
  let h := u.lamp.nor.health
  let gone := ((List.range 8).filter fun p => bitAt h.routerFail p).flatMap partOf
  let u := u.upG fun g =>
    { g with retired := h.retired, routerFail := h.routerFail, up := true,
             map := gone.foldl (fun m l => NMap.set m l { LTaper.first l with column := none })
               (h.cols.map fun c => (c.1, { LTaper.first c.1 with column := c.2 })) }
  let u := bad.foldl (fun u l => u.retireTaper l) u
  (List.range 8).foldl (fun u p => if bitAt h.routerFail p then u else u.askStart 2 p 0xFF false none) u

/-- Offsets of the firmware's program images in the system region: from 64 MiB on, at 64-byte boundaries. -/
def blobOffsets : List (List Nat) → Nat → List Nat
  | [], _ => []
  | b :: r, o => o :: blobOffsets r (o + (b.length + 63) / 64 * 64)

/-- Reference shadow programs are registered (R268), the Flicker region allocated (R337), T3-side components created (R336) and FLK_REF loaded. -/
def Units.startPrograms (m : Mem) (u : Units) : Mem × Units :=
  let blobs := match u.lamp.fw with | some f => f.blobs | none => []
  let offs := blobOffsets blobs (2 ^ 26)
  let sys := ((u.mantle.regions.find? fun r => r.2.typ = 1).map (·.1)).getD 0xFFFF
  let m := (blobs.zip offs).foldl (fun m x => memPutAt m u sys x.2 x.1) m
  let u : Units := { u with
    wick := { u.wick with ready := true, progs := refProgs.map fun p => (p.1, { p.2 with region := sys, offset := offs.getD p.1 0 }) }
    ember := { u.ember with image := if offs.length < 9 then (0xFFFF, 0) else (sys, offs.getD 8 0) } }
  let g := u.allocRegion { typ := 8, hostVisible := false, pooled := false, quiet := false, job := 0, ownerCid := 0, ownerCtx := 0xFF, ownerKind := 4, gen := 0,
                           mask := 0xC0, pages := [] } (2 ^ 24)
  let prior := match u.lamp.cfg with | some c => c.part.prior | none => none
  let u := g.1.upF fun x => { x with region := g.2.getD 0xFFFF, ready := g.2.isSome, priors := prior, priorEn := prior.isSome }
  let fans := match u.lamp.cfg with | some c => (c.fans, c.stages) | none => (0, 0)
  let stks := (List.range 8).filter fun i => bitAt (andNot u.mantle.present u.mantle.mappedOut) i
  let comps := (List.range fans.1).map (fun i => (6, i, 0xFF)) ++ (List.range fans.2).map (fun i => (7, i, 0xFF)) ++
    (List.range 16).map (fun i => (8, i, i)) ++ (List.range 6).map (fun i => (9, i, 0xFF)) ++ stks.map (fun i => (10, i, 0xFF)) ++ [(11, 0, 0xFF)]
  let u := comps.foldl (fun u c => (u.addComp c.1 c.2.1 c.2.2).1) u
  if 8 ≤ offs.length then (m, (loadModel m u sys (offs.getD 7 0) none).1) else (m, u)

/-- Apply sections of a configuration image or an amendment (Table 22-5); role candidates wait for the role's quiet point in an amendment (R513). -/
def Units.applyPart (u : Units) (x : CfgPart) (amend : Bool) : Units :=
  let u := match x.roles with
    | some (l, _) => l.foldl (fun u (r : CfgRole) =>
        let old := u.roleOf r.id
        if amend then u.setRole r.id { old with candWait := some (r.cands, r.wcands, r.witness, r.standby, r.home) }
        else u.setRole r.id { old with cands := r.cands, wcands := r.wcands, witness := r.witness, standby := r.standby, home := r.home }) u
    | none => u
  let u := match x.cabling with
    | some l => l.foldl (fun u e => u.setCfg (portBase e.1 + 0xC) (e.2 % 2 ^ 24)) u
    | none => u
  let u := match x.groups with | some g => u.upC fun r => { r with groups := g } | none => u
  let u : Units := match x.mbox with
    | some (b, priv) =>
      { u with mb := { u.mb with chan := b.foldl (fun m e => NMap.put m MbChan.reset e.1 { NMap.getD m e.1 MbChan.reset with bind := e.2 }) u.mb.chan }
               lamp := { u.lamp with pciePriv := priv } }
    | none => u
  let u := match x.prior with | some p => u.upF fun f => { f with priors := some p } | none => u
  let u := match x.beacon with
    | some (regs, utc) => (regs.foldl (fun u e => u.setCfg e.1 e.2) u).upB fun b => { b with utc := match utc with | some t => some t | none => b.utc }
    | none => u
  let u := match x.budget with
    | some (g, c) =>
      if stagingValid g c then
        if amend then u.setBud { u.bud with sGuar := g, sCap := c, pend := some (g, c), last := St.OK }
        else u.setBud { u.bud with sGuar := g, sCap := c, guar := g, cap := c }
      else u
    | none => u
  match x.orders with
  | some (p, d) => u.upR fun r => { r with soPod := if p.version ≤ r.soPod.version && amend then r.soPod else p, soDomain := if d.version ≤ r.soDomain.version && amend then r.soDomain else d }
  | none => u

/-- Tallow's geometry and mount (R465, R468, R473). -/
def Units.startTallow (u : Units) (x : TMount) : Units :=
  match u.lamp.cfg with
  | none => u
  | some c =>
    let n := fun (k : Nat) => c.nand.getD k 0
    let u := u.upT fun t =>
      { t with channels := n 0, dies := n 1, dieSize := n 2, blocksPer := n 3, pagesPer := n 4, rated := (n 5, n 6),
               sizes := [4096, 4096 * n 7, 4096 * n 8, 4096 * c.snapGiB] }
    u.tallowMount x

/-- Beacon time and the Ledger's chain head (R403, R437). -/
def Units.startLedger (u : Units) (x : LedHead) : Units :=
  let t := if x.valid then x.stop else 0
  let u : Units := { u with clk := { u.clk with sec := t / 2 ^ 30, ns := t % 2 ^ 30, frac := 0, epoch := u.lamp.nor.health.epoch, locked := false } }
  let changed := x.valid && !(u.lamp.ident.ledKey.any fun k => Config.publicKey k = x.key)
  let flags := (if x.valid then 0 else 2 ^ 7) + if changed then 2 ^ 13 else 0
  let chans := match u.lamp.cfg with | some c => c.chans | none => []
  let mk := fun (e : Nat × Nat × Nat) =>
    ({ kind := e.1, port := e.2.1, master := e.2.2, rem := 0, last := 0, missed := 0, now := none, retried := false, sum100 := 0, lastGood := 0, lost := false } : EnergyChan)
  let u := u.upL fun l =>
    { l with chans := (List.range chans.length).zip (chans.map mk), seq := if x.valid then x.seq else x.ack, durable := if x.valid then x.seq else x.ack,
             ack := x.ack, delivered := x.ack, prev := if x.valid then x.prev else 0, stored := x.stored.filter fun s => x.ack < s.r.seq,
             gap := some (if x.valid then x.stop else 0, flags), tenants := match u.lamp.cfg with | some c => c.tenants | none => [] }
  u

/-- Ports are enabled (Table 22-6), but not in recovery (R510). -/
def Units.startPorts (u : Units) : Units :=
  (List.range 22).foldl (fun u p => (u.setCfg (portBase p) (setBit (u.linkCtl p) 0)).bringUp p) u

/-- The runtime asks the lighthouse for admission (R58, R59): it declares its version, its message version and its own features. -/
def Units.askAdmission (u : Units) : Units :=
  let v := match u.lamp.fw with | some f => f.version | none => 0
  let n := u.role.adminSeq + 1
  (u.upR fun x => { x with adminSeq := n }).toRole 0x30000000 0x3C 52 [0, n, 36, v, u.role.msgVer, Config.ownFeatures]

/-- A start with stacks mapped out tells the warden of the reduced capacity (R112): the stacks in service and the pages in total. -/
def Units.reportStacks (u : Units) : Units :=
  u.report u.role.wardenId 1 5 [andNot u.mantle.present u.mantle.mappedOut, u.mantle.total]

/-- CORE_PG_ASSERT (R112, R531, Table 22-6): the core rails are within range and the start goes on to its end; in recovery no port is enabled. -/
def corePgAssert (x : CoreStart) (m : Mem) (u : Units) : Mem × Units :=
  if !u.pwr.coreEn || u.pwr.corePg then (m, u)
  else
    let u := u.upP fun p => { p with corePg := true, tries := 0 }
    if u.lamp.state ≠ 2 && u.lamp.state ≠ 4 then (m, u)
    else
      let rec_ := decide (u.lamp.state = 4)
      let u : Units := match u.lamp.cfg with
        | some c =>
          { u with self := c.cid, role := { u.role with wardenId := c.wardenId, keeperId := c.keeperId, t3Gen := wrapW 16 u.clk.cycles }
                   pwr := { u.pwr with budgetW := c.budgetW, inrush := c.inrush } }
        | none => { u with role := { u.role with t3Gen := wrapW 16 u.clk.cycles } }
      let u := (u.startMantle x.present).startGrid x.bad
      let r := u.startPrograms Mem.reset
      let u := if rec_ then r.2 else r.2.startPorts
      let u := match u.lamp.cfg with | some c => u.applyPart c.part false | none => u
      let u := ((u.startTallow x.mount).chimStart x.events).startLedger x.led
      let u : Units := { u with coll := { u.coll with ready := true } }
      if rec_ then (r.1, u)
      else
        let u : Units := { u with mb := { u.mb with mode := 0 }, lamp := { u.lamp with state := 3 } }
        let u := (u.setFault false).askAdmission
        (r.1, if u.mantle.mappedOut = 0 then u else u.reportStacks)

/-- CORE_PG_TIMEOUT (R532): CORE_EN is taken back; after the second attempt it stays so, with FAULT_N. -/
def corePgTimeout (u : Units) : Units :=
  if !u.pwr.coreEn || u.pwr.corePg then u
  else
    let n := u.pwr.tries + 1
    let u := (((u.upP fun p => { p with coreEn := false, tries := n }).emit (.pin 1 0 0))).lampEvent Ev.PWR_CORE_TIMEOUT
    if 2 ≤ n then u.setFault true else u

/-- CORE_EN_RETRY (R532): once more, 1 s later. -/
def coreEnRetry (u : Units) : Units := if u.pwr.tries = 1 && !u.pwr.coreEn then u.coreOn else u

/-- A full T3 reset (R533): CORE_EN is deasserted, and the start runs again from the FSBL stage. -/
def Units.fullReset (u : Units) (untrip : Bool) : Units :=
  let u := (u.cleared untrip).emit (.pin 1 0 0)
  let u := if untrip && !u.pwr.thermtrip then u.emit (.pin 3 0 1) else u
  u.fans.fsblStage

/-- CORE_PG_DEASSERT (R533): after 10 us handled as PWR_FAIL, after 3 ms (`long`) as a full T3 reset. -/
def corePgDeassert (long : Bool) (m : Mem) (u : Units) : Mem × Units :=
  if !u.pwr.corePg then (m, u)
  else
    let u := u.pwrFailOn
    if long then (Mem.reset, u.fullReset false) else (m, u)

/-- SYS_RESET (R533): the same for SYS_RESET_N; below 95 °C it ends a thermal trip (Table 23-10). -/
def sysReset (tj : Int) (_m : Mem) (u : Units) : Mem × Units := (Mem.reset, u.fullReset (tj < 95))

/-- THERMTRIP (R540): THERMTRIP_N and the loss of the core rails, in hardware; the Lamplighter records the alarm. -/
def thermtrip (m : Mem) (u : Units) : Mem × Units :=
  if u.pwr.thermtrip then (m, u)
  else
    let u := ((u.cleared false).emit (.pin 3 0 0)).emit (.pin 1 0 0)
    let u : Units := { u with pwr := { u.pwr with thermtrip := true, coreEn := false, corePg := false } }
    (Mem.reset, (u.setFault true).lampEvent Ev.PKG_THERMTRIP)

end Sys2Proof.Machine
end

