-- ==== Sys2Proof/Machine/Lamp.lean ====
section
/-!
DEFINITION. The Lamplighter's commands (22_lamplighter_boot_and_update): amendments, updates, activation, calibration, the owner record, restarts,
signing health, operating time, and the requests of SPDM and PLDM.
-/
namespace Sys2Proof.Machine

open Sys2Proof (CalSet)

/-- A command of Table 22-10 is refused: LAMP_STATUS.LAST takes the status. -/
def Units.lampNo (u : Units) (c : Sys2Proof.Cmd) (code status : Nat) : Units :=
  (u.upLamp fun l => { l with last := status }).done c 0x000 code status

/-- Privilege of a Lamplighter command. -/
def Units.lampOp (u : Units) (c : Sys2Proof.Cmd) (code : Nat) (f : Units → Units) : Units :=
  if isOperator (cmdPriv c) then f u else u.lampNo c code St.NOT_PRIVILEGED

/-! Amendments (R512, R513) -/

/-- LAMP_AMEND (0x0201): `a` is the amendment that the Mantle holds at `addr`. -/
def lampAmend (c : Sys2Proof.Cmd) (_addr _len : Nat) (a : Amendment) (u : Units) : Units :=
  u.lampOp c 0x0201 fun u =>
    let cfg := u.lamp.cfg
    let ver := match cfg with | some x => x.version | none => 0
    let breaks := match a.part.roles with | some (l, ok) => !ok || l.any (fun r => !r.ok) | none => false
    if u.lamp.state = 4 || cfg.isNone || a.base ≠ ver || a.seq ≠ u.lamp.amendSeq + 1 then u.lampNo c 0x0201 St.BAD_STATE
    else if a.fixed || breaks then u.lampNo c 0x0201 St.BAD_PARAM
    else if !(u.lamp.keys.contains a.sigKey) then u.lampNo c 0x0201 St.SIGNATURE_INVALID
    else
      let u := u.applyPart a.part true
      ((u.upLamp fun l => { l with amendSeq := a.seq, amended := true }).count 0x108).done c 0x000 0x0201 St.OK

/-! Updates (R514) -/

/-- Status of the checks of R514 for an image of a kind: 0 loader, 1 runtime, 2 configuration. -/
def Units.upCheck (u : Units) (kind : Nat) (i : UpImage) : Nat :=
  let l := u.lamp
  match i with
  | .fw f =>
    if kind = 2 then St.BAD_PARAM
    else if f.sigKey ≠ l.fuses.root then St.SIGNATURE_INVALID
    else if f.svn < (if kind = 0 then l.fuses.fsblFloor else l.fuses.fwFloor) then St.UNSUPPORTED
    else if kind = 1 && !(u.role.admitted.contains f.version) then St.UNSUPPORTED
    else St.OK
  | .cfg x =>
    if kind ≠ 2 then St.BAD_PARAM
    else
      let k := x.check l.nor l.fuses.serial
      if k = 0 then St.OK else if k = 1 then St.SIGNATURE_INVALID else if k = 3 then St.UNSUPPORTED else St.BAD_PARAM

/-- Stage an image into the inactive slot (R514): a failing check or read-back leaves the slot erased. At the
acting lighthouse, firmware of a new version raises the admitted pair first, and once staged its rollout begins (R58, R60). Answers the status. -/
def Units.stage (u : Units) (kind : Nat) (i : UpImage) (same : Bool) : Units × Nat :=
  let new := match i with
    | .fw f => if kind = 1 && f.sigKey = u.lamp.fuses.root && u.lamp.fuses.fwFloor ≤ f.svn then some f.version else none
    | .cfg _ => none
  let u := match new with | some v => u.raisePair v | none => u
  let st := u.upCheck kind i
  let st := if st = St.OK && !same then St.READBACK_MISMATCH else st
  let ok := decide (st = St.OK)
  let n := u.lamp.nor
  let n := match i with
    | .fw f =>
      if kind = 0 then { n with fsbl := setSlot n.fsbl (!u.lamp.fsblSlot) (if ok then some f else none), bootFsbl := if ok then !u.lamp.fsblSlot else n.bootFsbl }
      else if kind = 1 then
        { n with rt := setSlot n.rt (!u.lamp.fwSlot) (if ok then some f else none), bootRt := if ok then !u.lamp.fwSlot else n.bootRt,
                 trial := if ok then 1 else if n.trial = 1 then 0 else n.trial }
      else n
    | .cfg x => if kind = 2 then { n with cfg := setSlot n.cfg (!u.lamp.cfgSlot) (if ok then some x else none) } else n
  let n := if !ok && kind = 1 && u.lamp.nor.trial = 1 then { n with bootRt := u.lamp.fwSlot } else n
  let u := u.upLamp fun l => { l with nor := n, updState := if ok then 2 else 0, updKind := kind, updLast := st }
  (match new with | some v => if ok then u.startRollout v else u | none => u, st)

/-- LAMP_UPDATE (0x0202): `i` is the image in the region, `same` whether the read-back's digest agrees. In recovery only a configuration image (R510);
no NOR erase starts while PWR_FAIL is asserted (R538). -/
def lampUpdate (c : Sys2Proof.Cmd) (kind region off len : Nat) (i : UpImage) (same : Bool) (u : Units) : Units :=
  u.lampOp c 0x0202 fun u =>
    let room := match NMap.find u.mantle.regions region with | some r => r.typ = 8 && off + len ≤ r.pages.length * pageBytes | none => false
    if 3 ≤ kind || !room then u.lampNo c 0x0202 St.BAD_PARAM
    else if u.lamp.state = 4 && kind ≠ 2 then u.lampNo c 0x0202 St.BAD_STATE
    else if u.pwr.fail || u.lamp.updState = 3 || u.lamp.updState = 4 then u.lampNo c 0x0202 St.BUSY_RETRY
    else
      let r := u.stage kind i same
      if r.2 = St.OK then r.1.done c 0x000 0x0202 St.OK else r.1.lampNo c 0x0202 r.2

/-! Activation (R515-R517) -/

/-- LAMP_ACTIVATE (0x0203): command taking stops; the quiesce point is awaited. -/
def lampActivate (c : Sys2Proof.Cmd) (u : Units) : Units :=
  u.lampOp c 0x0203 fun u =>
    if u.lamp.act.isSome || u.role.rollAct then u.lampNo c 0x0203 St.BUSY_RETRY
    else if !u.mayActivate then u.lampNo c 0x0203 St.BAD_STATE
    else u.freezeAct.upLamp fun l => { l with act := some c }

/-- The quiesce point (R515): no command runs but the activation, nothing drains, no role is held, no recovery is in RESTORE here, no journal entry is in
flight. -/
def Units.quiet (u : Units) : Bool :=
  (u.ring.running.all fun r => match u.lamp.act with | some c => r.ring = c.ring && r.tag = c.tag | none => false) && u.drains.isEmpty &&
    (u.role.role.all fun r => !r.2.holding) && ((NMap.vals u.rcv.mem).all fun x => !(x.open_ && x.point.isSome && !x.readySent)) &&
    (u.tal.writes.all fun w => w.kind ≠ 2)

/-- Take the command at the head of a ring held by an activation: one that the new firmware cannot parse, by ring and tag, completes with
UNSUPPORTED_AFTER_ACTIVATION (R460). -/
def Units.takeHeld (u : Units) (n : Nat) (bad : List (Nat × Nat)) : Units :=
  let d := u.desc n
  match d.q with
  | .cmd e :: r =>
    if bad.contains (n, e.tag) && !e.poison && e.gen = d.gen && (d.enable || d.draining) && (u.desc d.pair).room then
      let u := u.setDesc n { d with q := r, cons := wrapW 32 (d.cons + 1) }
      let cr := u.desc d.pair
      let u := (u.setDesc d.pair { cr with reserved := cr.reserved + 1 }).count 0x210100
      u.refuseEntry n e d.cons St.UNSUPPORTED_AFTER_ACTIVATION
    else u.takeOne n
  | _ => u

/-- The commands held by an activation are taken in ring order. -/
def Units.unfreeze (u : Units) (bad : List (Nat × Nat)) : Units :=
  let u : Units := { u with ring := { u.ring with frozen := false } }
  ((u.ring.desc.filter fun d => d.2.kind = 0).map (·.1)).foldl (fun u n => Nat.repeat (fun u => Units.takeHeld u n bad) (u.desc n).q.length u) u

/-- The activation has ended: LAMP_ACTIVATE completes, or the step of a rollout is answered (R60). -/
def Units.actEnd (u : Units) (act : Option Sys2Proof.Cmd) (status : Nat) : Units :=
  match act with
  | some c => if status = St.OK then u.done c 0x000 0x0203 St.OK else u.lampNo c 0x0203 status
  | none => u.rollAnswer status

/-- QUIESCE_POINT_REACHED (R516, R460): the runtime switches; when the new firmware reports ready (`ready`), it takes the held commands but those it cannot
parse (`bad`, ring and tag), and the activation is complete. -/
def quiescePointReached (ready : Bool) (bad : List (Nat × Nat)) (u : Units) : Units :=
  if u.lamp.updState ≠ 3 || !u.quiet then u
  else
    let b := u.lamp.nor.bootRt
    let img := slotOf u.lamp.nor.rt b
    let act := u.lamp.act
    let u := u.upLamp fun l => { l with updState := 4, fwSlot := b, nor := { l.nor with trial := 2 } }
    if !ready then u
    else
      let u := u.upLamp fun l =>
        { l with updState := 5, state := 3, updLast := St.OK, act := none, fw := img,
                 actLog := l.actLog ++ (match img with | some f => [(f.version, f.digest)] | none => []) }
      ((u.count 0x110).actEnd act St.OK).unfreeze bad

/-- QUIESCE_TIMEOUT (R515): the activation is abandoned and the held commands go to the old firmware. -/
def quiesceTimeout (u : Units) : Units :=
  if u.lamp.updState ≠ 3 then u
  else ((u.upLamp fun l => { l with act := none, updState := 2, state := 3, updLast := St.BUSY_RETRY }).actEnd u.lamp.act St.BUSY_RETRY).unfreeze []

/-- Ask for a full T3 reset (R31). -/
def Units.askReset (u : Units) : Units := u.emit (.bus 9 [u.self])

/-- ACTIVATION_READY_TIMEOUT (R516): 500 ms without a report of readiness; the next start runs the previous slot. -/
def activationReadyTimeout (u : Units) : Units := if u.lamp.updState = 4 then u.askReset else u

/-- TRIAL_COMMIT_TIMER (R517): the trial slot is committed, and the floor that its header asks for is fused. -/
def trialCommitTimer (u : Units) : Units :=
  if u.lamp.nor.trial ≠ 2 || u.lamp.state ≠ 3 then u
  else
    let f := match u.lamp.fw with | some f => f.floor | none => 0
    u.upLamp fun l =>
      { l with nor := { l.nor with trial := 0 }, updState := if l.updState = 5 then 0 else l.updState, fuses := { l.fuses with fwFloor := max l.fuses.fwFloor f } }

/-- TRIAL_START_TIMEOUT (R517): a start under a trial slot that is not RUNNING after 10 s is given up; the next one falls back. -/
def trialStartTimeout (u : Units) : Units := if u.lamp.nor.trial = 2 && u.lamp.state ≠ 3 && u.lamp.updState ≠ 4 then u.askReset else u

/-! Calibration (R520, R521) -/

/-- A set's fields from its 4,096 bytes (Table 22-9); none where the magic, version, origin, channel count or CRC-32C is wrong. -/
def calParse (b : List Nat) : Option CalSet :=
  let at_ := fun (o n : Nat) => leNat ((b.drop o).take n)
  let n := at_ 6 2
  if at_ 0 4 ≠ 0x4C414347 || at_ 4 1 ≠ 1 || 1 < at_ 5 1 || n = 0 || 128 < n || at_ 4092 4 ≠ crc32c (b.take 4092) then none
  else
    some { gains := (List.range n).map fun k => (at_ (256 + 16 * k + 4) 4, at_ (256 + 16 * k + 8) 4), weights4 := elemsOf 4 8 ((b.drop 16).take 32),
           weights5 := elemsOf 4 8 ((b.drop 48).take 32), idle4 := at_ 80 4, idle5 := at_ 84 4, origin := at_ 5 1, seq := at_ 4064 8,
           digest := Config.sha384 (b.take 3968) % 2 ^ 128 }

/-- LAMP_CAL_WRITE (0x0204, R521): `sigKey` is the key under which the set's signature verifies. The slot that is not in force is written; the rest follows at
the next tick. -/
def lampCalWrite (c : Sys2Proof.Cmd) (addr sigKey : Nat) (m : Mem) (u : Units) : Units :=
  u.lampOp c 0x0204 fun u =>
    match calParse (m.bytesAt addr 4096) with
    | none => u.lampNo c 0x0204 St.BAD_PARAM
    | some s =>
      if s.origin = 0 && cmdPriv c ≠ 3 then u.lampNo c 0x0204 St.NOT_PRIVILEGED
      else if !(calOk (some (s, sigKey)) u.lamp.fuses.root u.lamp.keys) then u.lampNo c 0x0204 St.SIGNATURE_INVALID
      else if u.lamp.calCmd.isSome || u.led.calNext.isSome then u.lampNo c 0x0204 St.BUSY_RETRY
      else
        let s := { s with seq := u.led.cal.seq + 1 }
        let b := !u.lamp.calSlot
        let u := u.upLamp fun l => { l with calCmd := some c, nor := { l.nor with cal := setSlot l.nor.cal b (some (s, sigKey)) } }
        u.upL fun l => { l with calNext := some s }

/-- The set has taken effect at a tick: the other slot is rewritten with the next sequence, and the command completes (R521). -/
def Units.calApplied (u : Units) : Units :=
  let b := !u.lamp.calSlot
  let n := u.lamp.nor
  let other := (slotOf n.cal b).map fun x => ({ x.1 with seq := x.1.seq + 1 }, x.2)
  let cmd := u.lamp.calCmd
  let u := u.upLamp fun l => { l with nor := { n with cal := setSlot n.cal (!b) other }, calValid := true, calCmd := none }
  let u := u.upL fun l => { l with cal := { l.cal with seq := l.cal.seq + 1 } }
  match cmd with
  | some c => u.done c 0x000 0x0204 St.OK
  | none => u

/-! The owner record (22) -/

/-- LAMP_OWNER_SET (0x0205): up to 4 public keys at `addr`; while the record is empty, in start-up or recovery, without a signature; else signed by the owner
key `idx` (`sigKey` verifies). -/
def lampOwnerSet (c : Sys2Proof.Cmd) (count idx addr sigKey : Nat) (m : Mem) (u : Units) : Units :=
  u.lampOp c 0x0205 fun u =>
    let own := u.lamp.nor.owner
    if count = 0 || 4 < count then u.lampNo c 0x0205 St.BAD_PARAM
    else if own.isEmpty && u.mb.mode ≠ 1 && u.mb.mode ≠ 3 then u.lampNo c 0x0205 St.BAD_STATE
    else if !own.isEmpty && (own.length ≤ idx || own.getD idx 0 ≠ sigKey) then u.lampNo c 0x0205 St.SIGNATURE_INVALID
    else
      let keys := (List.range count).map fun k => leNat (m.bytesAt (addr + 96 * k) 96)
      (u.upLamp fun l => { l with nor := { l.nor with owner := keys } }).done c 0x000 0x0205 St.OK

/-- LAMP_OWNER_CLEAR (0x0206): vendor-root privilege. -/
def lampOwnerClear (c : Sys2Proof.Cmd) (u : Units) : Units :=
  if cmdPriv c = 3 then (u.upLamp fun l => { l with nor := { l.nor with owner := [] } }).done c 0x000 0x0206 St.OK
  else u.lampNo c 0x0206 St.NOT_PRIVILEGED

/-! Restarts, entropy, operating time (R502, R504, R519) -/

/-- The runtime restarts from its SRAM: roles held here lapse (R37); a second restart within 1 h asks for a full T3 reset, and so does one during an
activation's switch, whose slot the next start does not use. -/
def Units.restarted (u : Units) (code : Nat) : Units :=
  let now := u.clk.mono
  let again := match u.lamp.restart with | some t => decide (now < t + 3600 * 10 ^ 9) | none => false
  let u := (u.count 0x100).lampEvent code
  let held := (u.role.role.filter fun r => r.2.holding).map (·.1)
  let u := held.foldl (fun u k => u.setRole k { u.roleOf k with holding := false, stopped := true, leased := false, handing := false, rebuilding := false }) u
  let u := u.upLamp fun l => { l with restart := some now }
  if u.lamp.updState = 4 then u.askReset
  else if again then (u.setFault true).askReset
  else u

/-- LOCKSTEP_MISMATCH. -/
def lockstepMismatch (u : Units) : Units := u.restarted Ev.LAMP_LOCKSTEP

/-- LAMP_WATCHDOG_EXPIRY. -/
def lampWatchdogExpiry (u : Units) : Units := u.restarted Ev.LAMP_WATCHDOG

/-- ENTROPY_HEALTH_FAIL (R504): all signing stops. -/
def entropyHealthFail (u : Units) : Units := (u.upL fun l => { l with noSign := true }).lampEvent Ev.LAMP_ENTROPY_FAIL

/-- ENTROPY_HEALTH_PASS (R504): 4,096 samples have passed; signing resumes. -/
def entropyHealthPass (u : Units) : Units := u.upL fun l => { l with noSign := false }

/-- OP_TIME_TICK (R519): one tick per 360 s; a full field rolls into the other slot, unless PWR_FAIL holds the erase back (R538). -/
def opTimeTick (u : Units) : Units :=
  let n := u.lamp.nor
  let s : Bool → Nat := fun b => match slotOf n.ctr b with | some c => c.seq | none => 0
  let cur := decide (s false < s true)
  match slotOf n.ctr cur with
  | none => u
  | some c =>
    let t := min 4096 (c.ticks + 1)
    let n := { n with ctr := setSlot n.ctr cur (some { c with ticks := t }) }
    let n := if t = 4096 && !u.pwr.fail then
        { n with ctr := setSlot n.ctr (!cur) (some { seq := c.seq + 1, coarse := c.coarse + 4096, cycles := c.cycles, ticks := 0 }) } else n
    u.upLamp fun l => { l with nor := n }

/-! SPDM and PLDM (R506) -/

/-- Measurement blocks 1-7 of Table 22-2: boot ROM; loader and its security version; runtime and configuration image of the start, as the certificates of
the start hold them (R505); calibration digest and origin; floors; activation log. -/
def Units.measurements (u : Units) : List Nat :=
  let l := u.lamp
  let info := fun (c : Option Cert) => match c with | some x => x.info | none => [0, 0]
  [Config.romDigest] ++ info l.ident.ledCert ++ info l.ident.aliasCert ++ [u.led.cal.digest, u.led.cal.origin] ++ [l.fuses.fsblFloor, l.fuses.fwFloor] ++
    l.actLog.flatMap fun (a : Nat × Nat) => [a.1, a.2]

/-- The words of a certificate. -/
def Cert.words (c : Cert) : List Nat := [c.subject, c.key] ++ c.info ++ [c.issuer, c.sig.1, c.sig.2]

/-- The words of a certificate chain (Table 22-2). -/
def Lamp.chainWords (l : Lamp) (slot : Nat) : List Nat := (l.chain slot).flatMap Cert.words

/-- Words signed under the Alias key (Table 22-1), with their signature; unsigned where this start issued no Alias. -/
def Units.aliasSigned (u : Units) (w : List Nat) : List Nat :=
  match u.lamp.ident.aliasKey with
  | some k => let s := Config.sign k w u.free; w ++ [s.1, s.2]
  | none => w

/-- What a supported request is answered with (Table 22-2): digests of the two chains, a chain, and under the Alias key the chain's digest or the
measurements. -/
def Units.spdmBody (u : Units) (req slot : Nat) : List Nat :=
  if req = 3 then [Config.sha384 (u.lamp.chainWords 0), Config.sha384 (u.lamp.chainWords 1)]
  else if req = 4 then u.lamp.chainWords slot
  else if req = 5 then u.aliasSigned [Config.sha384 (u.lamp.chainWords slot)]
  else if req = 6 then u.aliasSigned u.measurements
  else []

/-- SPDM_REQUEST (R506, R509): `path` 0 PCIe VDM, 1 management ports; `req` 0-6 the requests of Table 22-2 in its order, a greater number one that is not
supported. In the boot ROM only GET_VERSION is answered, with an error. While the entropy source has failed its health test nothing is signed (R504): a
request whose answer is signed gets BUSY_RETRY. -/
def spdmRequest (path req slot : Nat) (u : Units) : Units :=
  let st := if u.lamp.state = 0 then St.BAD_STATE else if 7 ≤ req || ((req = 4 || req = 5) && 2 ≤ slot) then St.UNSUPPORTED
    else if (req = 5 || req = 6) && u.led.noSign then St.BUSY_RETRY else St.OK
  if u.lamp.state = 0 && req ≠ 0 then u
  else
    let u := (u.emit (.bus 5 ([1, path, req, slot, st] ++ if st = St.OK then u.spdmBody req slot else []))).count 0x118
    if req = 5 || req = 6 then u.draw else u

/-- PLDM_REQUEST (R506). -/
def pldmRequest (path : Nat) (r : Pldm) (u : Units) : Units :=
  match r with
  | .base code => u.emit (.bus 5 [2, path, 0, code, St.OK])
  | .sensor i =>
    match u.flick.comps.find? fun c => c.2.cls = 11 && c.2.idx = i with
    | some c => u.emit (.bus 5 [2, path, 2, i, St.OK, c.2.state, c.2.conf])
    | none => u.emit (.bus 5 [2, path, 2, i, St.BAD_PARAM])
  | .update kind i same =>
    if 3 ≤ kind then u.emit (.bus 5 [2, path, 5, kind, St.BAD_PARAM])
    else if u.lamp.state = 4 && kind ≠ 2 then u.emit (.bus 5 [2, path, 5, kind, St.BAD_STATE])
    else if u.pwr.fail || u.lamp.updState = 3 || u.lamp.updState = 4 then u.emit (.bus 5 [2, path, 5, kind, St.BUSY_RETRY])
    else
      let x := u.stage kind i same
      x.1.emit (.bus 5 [2, path, 5, kind, x.2])
  | .other t => u.emit (.bus 5 [2, path, t, St.UNSUPPORTED])

/-! Registers (R523) -/

/-- LAMP_STATUS. -/
def Units.lampStatus (u : Units) : Nat :=
  let l := u.lamp
  l.state + 8 * b2n l.fwSlot + 16 * b2n (l.nor.trial = 2) + 32 * b2n l.cfgSlot + 64 * b2n l.amended + 128 * (u.led.cal.origin % 2) + 256 * b2n l.calValid
    + wrapW 16 l.last * 2 ^ 16

/-- LAMP_UPDATE_STATUS. -/
def Units.updateStatus (u : Units) : Nat := u.lamp.updState + 8 * u.lamp.updKind + wrapW 16 u.lamp.updLast * 2 ^ 16

/-- LAMP_SVN. -/
def Units.lampSvn (u : Units) : Nat :=
  wrapW 8 u.lamp.fuses.fsblFloor + 256 * wrapW 8 u.lamp.fuses.fwFloor + 65536 * (match u.lamp.fw with | some f => wrapW 8 f.svn | none => 0)

end Sys2Proof.Machine
end

