-- ==== Sys2Proof/Machine/RegRead.lean ====
section
/-!
DEFINITION. What a read of each register of Table 24-2 gives (24 R545, R546, and the field tables of each chapter).
-/
namespace Sys2Proof.Machine

/-! Descriptors shown in windows -/

/-- Words of bytes, little-endian (R3). -/
def wordOf (l : List Nat) (w : Nat) : Nat := leNat ((l.drop (4 * w)).take 4)

/-- Region descriptor (Table 5-3). -/
def Region.bytes (i : Nat) (r : Region) : List Nat :=
  leBytes 2 i ++ [r.typ, 1 + 2 * b2n r.hostVisible + 4 * b2n r.pooled + 8 * b2n r.quiet] ++ leBytes 4 r.job ++ leBytes 3 r.ownerCid ++ [r.ownerCtx, r.ownerKind, 0]
    ++ leBytes 2 r.gen ++ leBytes 4 r.mask ++ leBytes 4 r.pages.length ++ leBytes 2 (r.pages.headD 0) ++ List.replicate 6 0

/-- Shard entry (Table 10-3). -/
def Shard.bytes (s : Shard) : List Nat :=
  let newest := match s.opens with | o :: _ => o.state | [] => 0
  leBytes 4 s.shard ++ leBytes 4 s.job ++ [s.roles, s.prot] ++ leBytes 2 s.prog ++ leBytes 4 s.epoch ++ [s.count, s.writer, s.ctx, s.port] ++ leBytes 3 s.buddy
    ++ [newest] ++ leBytes 8 s.committed ++ leBytes 8 s.first ++ leBytes 8 s.params ++ leBytes 2 s.bRegion ++ leBytes 2 s.sRegion ++ leBytes 4 s.layout
    ++ List.replicate 8 0

/-- Commit record with its two check values (Table 10-7). -/
def CommitRec.bytes (r : CommitRec) : List Nat :=
  let a := leBytes 8 r.step ++ leBytes 4 r.shard ++ leBytes 4 r.job ++ [r.state, r.flags] ++ leBytes 2 r.prog ++ leBytes 4 r.epoch ++ leBytes 3 r.source ++ [r.writer]
    ++ leBytes 3 r.buddy ++ [r.count] ++ leBytes 8 r.gradFp ++ leBytes 8 r.postFp ++ leBytes 8 r.goTime ++ leBytes 4 r.seq
  let b := leBytes 8 r.step ++ leBytes 4 r.shard ++ [r.reported, r.agreeing, 0, 0] ++ leBytes 8 r.postFp ++ leBytes 8 r.gradFp ++ leBytes 8 r.cursor
    ++ leBytes 8 r.commitTime ++ List.replicate 12 0
  a ++ leBytes 4 (crc32c a) ++ b ++ leBytes 4 (crc32c b)

/-- Registered program entry (Table 11-2). -/
def ProgEntry.bytes (p : ProgEntry) : List Nat :=
  leBytes 2 p.id ++ leBytes 2 p.version ++ [p.flags, p.comps] ++ leBytes 2 p.region ++ leBytes 4 p.offset ++ [p.tapers, 0, 0, 0]
    ++ (List.range 16).map fun c => p.fmts.getD c 0

/-- Watch entry (Table 12-2). -/
def Watch.bytes (x : Watch) : List Nat :=
  leBytes 4 x.job ++ [1 + 2 * b2n x.stalled + 4 * b2n x.query + 8 * b2n x.frozen, x.priority, x.mask, 0] ++ leBytes 4 x.timeout ++ leBytes 2 x.gen ++ [0, 0]
    ++ leBytes 8 x.genStart ++ leBytes 8 x.lastProg

/-- Component entry (Table 14-15). -/
def Comp.bytes (i : Nat) (c : Comp) : List Nat :=
  let fl := b2n c.flag + 2 * b2n (!c.acted.isEmpty) + 4 * b2n c.drain + 8 * b2n c.sample.isSome
  leBytes 2 i ++ [c.cls, c.idx, c.port, c.state, fl, c.conf] ++ leBytes 2 c.risk1 ++ leBytes 2 c.risk24 ++ [c.ring.length, c.empties] ++ leBytes 2 c.expert
    ++ leBytes 8 c.lastEval ++ leBytes 4 (match c.first with | some t => t / 10 ^ 9 | none => 0) ++ [0, 0, 0, 0]

/-- Stand-in entry (Table 15-11): `n` experts are bound. -/
def StandIn.bytes (n : Nat) (s : StandIn) : List Nat :=
  leBytes 4 s.job ++ leBytes 4 s.shard ++ leBytes 3 s.cid ++ [s.ctx, s.state, n, 0, 0] ++ leBytes 4 s.seq
    ++ leBytes 4 (sumL (s.queue.map fun t => t.refs.length)) ++ leBytes 8 s.start

/-- Group descriptor (Table 17-1). -/
def CollGroup.bytes (g : CollGroup) : List Nat :=
  leBytes 4 g.id ++ leBytes 4 g.epoch ++ leBytes 2 g.members.length ++ leBytes 2 g.rank ++ [g.flags, 1] ++ leBytes 2 g.threshold ++ leBytes 4 g.job
    ++ leBytes 2 g.period ++ [0, 0] ++ leBytes 8 (NMap.getD g.next 0 0) ++ leBytes 8 (NMap.getD g.lastOk 0 0) ++ leBytes 4 g.worst ++ List.replicate 20 0

/-- The group's last Ledger total: sequence and four energies. -/
def CollGroup.totalBytes (g : CollGroup) : List Nat := (List.range 5).flatMap fun k => leBytes 8 (g.total.getD k 0)

/-- Bytes of a listed descriptor; none listed shows zeros. -/
def shown {α : Type} (m : NMap α) (i : Nat) (f : α → List Nat) : List Nat := match NMap.find m i with | some x => f x | none => []

/-! The registers of each block -/

/-- Index (into a register array of `n` elements of `stride` bytes from `base`) that an offset names, when it names the element's word `at`. -/
def arrayAt (o base stride n at_ : Nat) : Option Nat :=
  if base + at_ ≤ o && (o - base - at_) % stride = 0 && (o - base - at_) / stride < n then some ((o - base - at_) / stride) else none

/-- The tenant's context job: the job of its watch entry. -/
abbrev Units.ctxJob (u : Units) (p c : Nat) : Nat := u.jobOf p c

/-- Lamplighter and power sequencer (22, 23). -/
def Units.lampReg (u : Units) (o : Nat) : Nat :=
  if o = 0x0 then 0x00A10003
  else if o = 0x4 then (match u.lamp.fw with | some f => f.version | none => 0x10000)
  else if o = 0x8 then u.lampStatus
  else if o = 0xC then (match u.lamp.cfg with | some c => c.version | none => 0)
  else if o = 0x10 then u.lamp.amendSeq
  else if o = 0x20 then u.clk.cycles
  else if o = 0x24 then u.lampSvn
  else if o = 0x28 then u.updateStatus
  else if o = 0x2C then u.cfg 0x2C 2000
  else if o = 0x30 then u.pwr.straps
  else if o = 0x200 then u.pwrseqStatus
  else if o = 0x204 then wrapW 16 u.pwr.budgetW + wrapW 16 u.windowW * 2 ^ 16
  else if o = 0x208 then wrapW 12 (u.pwr.inrush.getD 0 0) + wrapW 12 (u.pwr.inrush.getD 1 0) * 2 ^ 12 + wrapW 8 (u.pwr.inrush.getD 2 0) * 2 ^ 24
  else if o = 0x298 then u.cnt 0x298
  else match arrayAt o 0x40 4 4 0 with
    | some k => u.led.cal.digest / 2 ^ (32 * k)
    | none => match arrayAt o 0x80 4 8 0 with
      | some f => u.lamp.pciePriv.getD f 0
      | none => 0

/-- Beacon (18). -/
def Units.bcnReg (u : Units) (o : Nat) : Nat :=
  let b := u.bcn
  let dom : BcnDomain → Nat := fun d => match d.offset with
    | some x => ofSigned 32 (max (-(2 ^ 31)) (min (2 ^ 31 - 1) x.1))
    | none => 0
  let tx : TxTs → Nat := fun t => t.q.length + 128 * b2n t.overflow + t.drops * 2 ^ 16
  if o = 0x0 then u.bcnCtl
  else if o = 0x4 then
    b2n u.clk.locked + 2 * b2n b.set + 4 * b.source + 16 * b2n b.slewing + 32 * b2n b.ref10 + 64 * b2n b.ppsPresent
  else if o = 0x8 then u.cfg 0x100008 (1000 + 2000 * 2 ^ 20)
  else if o = 0xC then u.cfg 0x10000C (250 + 2000 * 2 ^ 12)
  else if o = 0x10 then u.cfg 0x100010 (1000 + 60 * 2 ^ 16)
  else if o = 0x20 then u.domCfg 0
  else if o = 0x24 then u.domCfg 1
  else if o = 0x30 then u.clk.frac
  else if o = 0x34 then u.clk.ns
  else if o = 0x38 then u.clk.sec
  else if o = 0x3C then u.clk.sec / 2 ^ 32
  else if o = 0x48 then dom b.domA
  else if o = 0x4C then dom b.domB
  else if o = 0x50 then ofSigned 32 (b.freq + b.slew)
  else if o = 0x54 then u.clk.epoch
  else if o = 0x58 then
    (match u.utcNow with
    | some (x, announced) => wrapW 8 x.offset + 256 + 512 * b2n (!announced) + 1024 * b2n x.leap61 + 2048 * b2n x.leap59
    | none => 0)
  else if o = 0x68 then u.ppsCfg
  else if o = 0x70 then tx b.tx0
  else if o = 0x74 then tx b.tx1
  else 0

/-- A mailbox channel's register at offset `o` (Table 19-2). -/
def Units.mbReg (u : Units) (n o : Nat) : Nat :=
  let c := u.ch n
  if o < 0x20 then c.outW.getD (o / 4) 0
  else if o < 0x40 then c.retW.getD ((o - 0x20) / 4) 0
  else if o = 0x44 then b2n c.outFull + 2 * b2n c.retFull + 4 * b2n c.collision + 8 * b2n c.retCountValid + 16 * wrapW 4 c.retCount + c.last * 2 ^ 16
  else if o = 0x48 then c.stamp
  else if o = 0x4C then c.ack
  else if o = 0x58 || o = 0x5C then c.db
  else if o = 0x60 then c.dbMask
  else if o = 0x64 then c.vector
  else if o = 0x70 then c.bind
  else if o = 0x74 then c.posted + c.refused * 2 ^ 16
  else 0

/-- Word `k` of RING_DESC(n) (19). -/
def RingDesc.word (d : RingDesc) (k : Nat) : Nat :=
  if k = 0 then d.bodyOffset
  else if k = 1 then
    d.sizeCode + d.countLog2 * 2 ^ 8 + d.kind * 2 ^ 16 + b2n d.enable * 2 ^ 24 + b2n d.hostSide * 2 ^ 25 + b2n d.msixEn * 2 ^ 26 + b2n d.phase * 2 ^ 27
  else if k = 2 then d.prod
  else if k = 3 then d.cons
  else if k = 4 then d.pair + d.gen * 2 ^ 16
  else if k = 5 then d.job
  else if k = 6 then d.priv + d.context * 2 ^ 8 + d.port * 2 ^ 16
  else d.vector

/-- A port's register at offset `o` (04). -/
def Units.linkReg (u : Units) (p o : Nat) : Nat :=
  let l := u.port p
  let b := portBase p
  if o = 0x0 then u.linkCtl p
  else if o = 0x4 then l.state + 16 * l.lanes + 256 * l.map + l.isolated * 2 ^ 16 + b2n l.reversed * 2 ^ 24
  else if o = 0x8 then (if p < 16 then 0 else l.peerCid) + l.peerKind * 2 ^ 24
  else if o = 0xC then u.cfg (b + 0xC) 0
  else if o = 0x10 then u.cfg (b + 0x10) (creditInitReset p)
  else if o = 0x14 then u.cfg (b + 0x14) (8 * 256 + 50)
  else if o = 0x18 then u.burstCfg p
  else if o = 0x1C then l.event
  else if 0x280 ≤ o && o < 0x2C0 then u.cnt (b + o)
  else 0

/-- The commit record that WICK_COMMIT_SEL shows (R267): the open ones newest first, then the committed ones, with whether it is copy A. -/
def Units.shownRec (u : Units) : Option (Shard × Bool × CommitRec) :=
  match NMap.find u.wick.shards (u.cfg 0x600040 0) with
  | none => none
  | some s =>
    let l := if s.recA.isEmpty then s.recB else s.recA
    let k := u.cfg 0x600084 0
    let pick := if k < 2 then (l.filter fun r => r.state ≠ 6)[k]? else (l.filter fun r => r.state = 6)[k - 2]?
    pick.map fun r => (s, !s.recA.isEmpty, r)

/-- Wick and shadow optimizer (10, 11). -/
def Units.wickReg (u : Units) (o : Nat) : Nat :=
  let x := u.wick
  if o = 0x0 then b2n x.enable
  else if o = 0x4 then b2n x.ready + 2 * b2n x.draining + x.shards.length * 2 ^ 16
  else if o = 0x8 then u.cfg 0x600008 2000
  else if o = 0xC then u.cfg 0x60000C (50 + 10 * 2 ^ 16)
  else if o = 0x10 then u.cfg 0x600010 5000
  else if o = 0x14 then u.cfg 0x600014 60
  else if o = 0x40 then u.cfg 0x600040 0
  else if 0x44 ≤ o && o < 0x84 then wordOf (shown x.shards (u.cfg 0x600040 0) Shard.bytes) ((o - 0x44) / 4)
  else if o = 0x84 then u.cfg 0x600084 0
  else if o = 0x88 then
    (match u.shownRec with
    | some (s, a, r) =>
      r.state + 16 * b2n (a && s.isBuddy) + 32 * b2n (bitAt r.flags 3) + 64 * b2n (s.opens.any (fun w => w.seeding) || s.prot = 2) + 128 * b2n (s.prot = 1)
        + 256 * b2n (s.prot = 3) + 512 * b2n s.snap.isSome
    | none => 0)
  else if 0xC0 ≤ o && o < 0x140 then (match u.shownRec with | some (_, _, r) => wordOf r.bytes ((o - 0xC0) / 4) | none => 0)
  else if o = 0x400 then u.cfg 0x600400 20
  else if o = 0x404 then
    x.progs.length + (x.insts.filter fun i => i.2.state = 2).length * 2 ^ 8 + b2n (x.insts.any fun i => i.2.state = 1) * 2 ^ 16 + b2n x.qualify.isSome * 2 ^ 17
  else if o = 0x408 then u.cfg 0x600408 0
  else if 0x40C ≤ o && o < 0x42C then wordOf (shown x.progs (u.cfg 0x600408 0) ProgEntry.bytes) ((o - 0x40C) / 4)
  else 0

/-- Bit map over the 16 sconce ports. -/
def portMap (f : Nat → Bool) : Nat := sumL ((List.range 16).map fun p => b2n (f p) * 2 ^ p)

/-- Vigil (12). -/
def Units.vigReg (u : Units) (o : Nat) : Nat :=
  if o = 0x0 then 1
  else if o = 0x4 then portMap (fun p => (u.vp p).state = 2) + portMap (fun p => (u.vp p).state = 3) * 2 ^ 16
  else if o = 0x8 then u.vigilCfg
  else if o = 0xC then u.cfg 0x70000C (16 + 256)
  else if o = 0x80 then u.cfg 0x700080 0
  else if 0x84 ≤ o && o < 0xA4 then wordOf (shown u.vig.watch (u.cfg 0x700080 0) Watch.bytes) ((o - 0x84) / 4)
  else match arrayAt o 0x40 4 16 0 with
    | some p => let x := u.vp p; x.state + 4 * satW 4 x.misses + 64 * satW 4 x.probes + wrapW 8 x.health * 2 ^ 16
    | none => 0

/-- RESET_STATE of a port (SNUF_PORT). -/
def Units.resetState (u : Units) (p : Nat) : Nat :=
  let rs := (u.ig p).resets
  if bitAt u.vig.lost p then 4
  else if rs.any (fun r => r.resent) then 3
  else if rs.any (fun r => r.kind = 2) then 2
  else if rs.isEmpty then 0 else 1

/-- Snuffer and recovery (12, 13). -/
def Units.snufReg (u : Units) (o : Nat) : Nat :=
  if o = 0x0 then 1
  else if o = 0x4 then wrapW 16 u.vig.fenced + wrapW 16 u.vig.lost * 2 ^ 16
  else if o = 0x8 then u.role.t3Gen
  else if o = 0xC then u.cfg 0x78000C 1
  else if o = 0x400 then u.cfg 0x780400 (20 + 500 * 2 ^ 8)
  else if o = 0x404 then u.cfg 0x780404 10
  else if o = 0x408 then
    satW 8 (u.rcv.mem.filter fun x => x.2.open_).length + 256 * b2n (!u.rcv.coord.isEmpty)
      + 512 * b2n ((u.rcv.coord.any fun x => x.2.phase = 4) || u.wick.jobs.any fun j => j.2.held)
  else match arrayAt o 0x40 4 16 0 with
    | some p => wrapW 16 (u.accGen p) + u.resetState p * 2 ^ 16 + b2n (u.fenced p) * 2 ^ 19
    | none => match arrayAt o 0x440 4 16 0 with
      | some p => let r := u.reloadOf p; r.state + satW 24 (r.total / 1024) * 2 ^ 8
      | none =>
        if 0x1000 ≤ o && o < 0x2000 && o % 4 = 0 then
          let p := (o - 0x1000) / 0x100
          let c := (o - 0x1000) % 0x100 / 4
          wrapW 16 (u.ctxGen p c) + b2n ((u.ig p).resets.any fun r => r.ctx = c || r.ctx = 0xFF) * 2 ^ 16
        else 0

/-- Ledger (16). -/
def Units.ledReg (u : Units) (o : Nat) : Nat :=
  if o = 0x0 then 1
  else if o = 0x4 then u.ledgerStatus
  else if o = 0x8 then u.ledCfg
  else if o = 0xC then u.led.ring.getD 0
  else if o = 0x28 then u.led.streams.length + u.led.excess.length * 2 ^ 18
  else if o = 0x40 then u.cfg 0x800040 0
  else if 0x44 ≤ o && o < 0xC4 then
    (match NMap.find u.led.streams (u.cfg 0x800040 0) with
    | some s => (s.words (u.cfg 0x800040 0)).getD ((o - 0x44) / 4) 0
    | none => 0)
  else 0

/-- Collective engine (17). -/
def Units.collReg (u : Units) (o : Nat) : Nat :=
  let x := u.coll
  let sel := u.cfg 0x900040 0
  if o = 0x0 then b2n x.enable
  else if o = 0x4 then b2n x.ready + 2 * b2n x.draining + x.groups.length * 2 ^ 16
  else if o = 0x8 then u.cfg 0x900008 (1000 + 100 * 2 ^ 16)
  else if o = 0xC then x.open_.length
  else if o = 0x40 then sel
  else if 0x44 ≤ o && o < 0x84 then wordOf (shown x.groups sel CollGroup.bytes) ((o - 0x44) / 4)
  else if 0x84 ≤ o && o < 0xAC then wordOf (shown x.groups sel CollGroup.totalBytes) ((o - 0x84) / 4)
  else 0

/-- Mantle (05). -/
def Units.mantleReg (u : Units) (o : Nat) : Nat :=
  let x := u.mantle
  let sel := u.cfg 0xA00040 0
  if o = 0x0 then wrapW 8 (andNot x.present x.mappedOut) + 256 * wrapW 8 x.mappedOut + wrapW 15 x.total * 2 ^ 16
  else if o = 0x4 then b2n x.ready + 2 * b2n x.stackFailed + 4 * b2n x.scrubActive + (if x.ready then wrapW 15 x.freeCount else 0) * 2 ^ 16
  else if o = 0x8 then u.cfg 0xA00008 200
  else if o = 0xC then u.cfg 0xA0000C 24
  else if o = 0x10 then 15 + 17 * 2 ^ 8 + 16 * 2 ^ 16 + ((15 * 2 ^ 20 - sumL (NMap.vals x.rxTaken)) / 2 ^ 20) * 2 ^ 24
  else if o = 0x40 then sel
  else if 0x44 ≤ o && o < 0x64 then wordOf ((x.shownRegion sel).elim [] (Region.bytes sel)) ((o - 0x44) / 4)
  else if o = 0x148 then x.retired
  else 0

/-- Tallow (20). -/
def Units.tallowReg (u : Units) (o : Nat) : Nat :=
  let t := u.tal
  let all := NMap.vals t.blocks
  let tlc := all.filter fun b => b.tlc
  if o = 0x0 then b2n t.enable
  else if o = 0x4 then
    b2n t.mounted + 2 * b2n t.draining + 4 * b2n t.gc.isSome + 8 * b2n t.pwrFail + 16 * wrapW 2 t.wear + wrapW 16 t.last * 2 ^ 16
  else if o = 0x8 then wrapW 8 t.channels + 256 * wrapW 4 t.dies + wrapW 2 t.dieSize * 2 ^ 12
  else if o = 0xC then u.cfg 0xB0000C 64
  else if o = 0x130 then u.cnt 0xB00130
  else if o = 0x138 then (all.map fun b => b.erases).foldl max 0
  else if o = 0x13C then (if tlc.isEmpty then 0 else sumL (tlc.map fun b => b.erases) / tlc.length)
  else 0

/-- CHIM_FLUE_CFG of a trace ring. -/
def Flue.cfgWord (f : Flue) : Nat := b2n f.enable + 2 * f.sizeLog2 + 32 * f.div + 512 * f.source + f.kinds * 2 ^ 21

/-- Chimney (21). -/
def Units.chimReg (u : Units) (o : Nat) : Nat :=
  let c := u.chim
  let f := u.flueOf (u.cfg 0xC00090 0)
  let ll := u.cfg 0xC000C0 0
  let r := u.llRing (bits ll 6 0)
  if o = 0x4 then b2n c.full + 2 * b2n c.alarmFull + 4 * b2n c.feed.isSome + c.alarms.length * 2 ^ 16
  else if o = 0x8 then u.cfg 0xC00008 (10 * 256 + 16)
  else if o = 0x10 then u.cfg 0xC00010 0
  else if o = 0x14 then u.cfg 0xC00014 0
  else if o = 0x40 then u.cfg 0xC00040 0
  else if 0x44 ≤ o && o < 0x84 then wordOf (shown c.alarms (u.cfg 0xC00040 0) LogEntry.bytes) ((o - 0x44) / 4)
  else if o = 0x90 then u.cfg 0xC00090 0
  else if o = 0x94 then f.cfgWord
  else if o = 0xA0 then f.base
  else if o = 0xC0 then ll
  else if o = 0xC4 then b2n r.frozen + r.missed * 2 ^ 16
  else if 0xC8 ≤ o && o < 0xE8 then (match r.recs[bits ll 12 7]? with | some e => wordOf e.bytes ((o - 0xC8) / 4) | none => 0)
  else 0

/-- Flicker (14). -/
def Units.flickReg (u : Units) (o : Nat) : Nat :=
  let x := u.flick
  let sel := u.cfg 0xD00080 0
  if o = 0x0 then b2n x.enable + 2 * b2n x.extract + 4 * b2n x.priorEn
  else if o = 0x4 then b2n x.ready + 2 * b2n x.draining + 4 * b2n x.model.isSome + x.comps.length * 2 ^ 16
  else if o = 0x8 then u.cfg 0xD00008 1000
  else if o = 0xC then (match x.model with | some m => m.slot + m.prog * 2 ^ 16 | none => 0)
  else if o = 0x10 then wrapW 16 x.rate.1 + wrapW 16 x.rate.2 * 2 ^ 16
  else if o = 0x80 then sel
  else if 0x84 ≤ o && o < 0xA4 then wordOf (shown x.comps sel (Comp.bytes sel)) ((o - 0x84) / 4)
  else if o = 0xC0 then u.cfg 0xD000C0 0
  else match arrayAt o 0x40 4 16 0 with
    | some c => u.flickThresh c
    | none => 0

/-- Grid control and Ember (07, 06, 15). -/
def Units.gridReg (u : Units) (o : Nat) : Nat :=
  let g := u.grid
  let part := fun (f : Nat → Bool) => sumL ((List.range 8).map fun p => b2n (f p) * 2 ^ p)
  let mapped := fun (p : Nat) => ((List.range 64).filter fun k => (u.lt (64 * p + k)).column.isSome).length
  let retired := fun (p : Nat) => (g.retired.filter fun x => x / 68 = p).length
  let rates := (List.range 8).map fun p => u.bud.rates.getD p 0
  if o = 0x0 then wrapW 8 g.partEn
  else if o = 0x4 then
    part (fun p => g.ready p) + 256 * part (fun p => bitAt g.draining p) + part (fun p => g.up && mapped p < 64) * 2 ^ 16
  else if o = 0x8 then 1 + 8 * 256 + (if g.up then sumL ((List.range 8).map mapped) else 0) * 2 ^ 16
  else if o = 0xC then u.cfg 0xE0000C 100
  else if o = 0x10 then (match rates with | [] => 0 | r :: l => wrapW 16 (l.foldl min r)) + wrapW 2 u.lamp.fuses.bin * 2 ^ 16
  else if o = 0x14 then u.cfg 0xE00014 0
  else if 0x20 ≤ o && o < 0x40 then
    let p := (o - 0x20) / 4
    wrapW 16 (u.bud.rates.getD p 0) + ofSigned 8 (NMap.getD g.tj p 0) * 2 ^ 16
  else if 0x80 ≤ o && o < 0xA0 then
    let p := (o - 0x80) / 4
    if g.up then mapped p + 128 * (68 - mapped p - retired p) + wrapW 8 (retired p) * 2 ^ 16 else 0
  else if 0x1000 ≤ o && o < 0x1800 then
    let l := u.lt ((o - 0x1000) / 4)
    match l.column with
    | some c =>
      c + 128 * b2n g.up + (match l.slot with | some s => 256 * s + 2 ^ 14 | none => 0) + b2n l.suspect * 2 ^ 15
    | none => 0
  else if 0x2000 ≤ o && o < 0x3000 then
    let s := u.slot ((o - 0x2000) / 0x40)
    let k := (o - 0x2000) % 0x40
    if k = 0x0 then s.state + 16 * s.activity + s.gen * 2 ^ 16
    else if k = 0x4 then s.count + s.progId * 2 ^ 16
    else if k = 0x8 then s.status + s.faultTaper * 2 ^ 16 + s.cause * 2 ^ 26
    else if k = 0xC then s.job
    else if k = 0x10 then satW 32 s.msgDrop
    else 0
  else if o = 0x3000 then b2n u.ember.enable + 2 * b2n (bitAt (u.cfg 0xE03000 1) 1)
  else if o = 0x3004 then
    b2n u.ember.draining + 2 * b2n (u.ember.inst = 2) + 4 * u.ember.slot + (u.ember.entries.filter fun e => e.2.state = 2 || e.2.state = 3).length * 2 ^ 8
  else if o = 0x3008 then u.cfg 0xE03008 (50 + 64 * 2 ^ 10 + 5 * 2 ^ 18 + 20 * 2 ^ 24)
  else if o = 0x3010 then u.cfg 0xE03010 0
  else if 0x3014 ≤ o && o < 0x3034 then
    (match NMap.find u.ember.entries (u.cfg 0xE03010 0) with
    | some e =>
      let n := match NMap.find u.ember.tables e.shard with | some t => t.experts.length | none => 0
      wordOf (e.bytes n) ((o - 0x3014) / 4)
    | none => 0)
  else 0

/-- BUDGET_CAPACITY: a capacity as the period's boundary took it: KiB, of one port for 1 and 2; thousands of taper-beats; 0.25 W. -/
def Budget.capReg (b : Budget) (r : Nat) : Nat :=
  let c := NMap.getD b.taken (if r = 1 then 16 else if r = 2 then 32 else r) 0
  if r = 3 then c / 1000 else if r = 4 then c / 40960 else if r = 6 then c else c / 1024

/-- Budget controller (06). -/
def Units.budReg (u : Units) (o : Nat) : Nat :=
  let b := u.bud
  if o = 0x4 then
    wrapW 16 b.last + b2n b.pend.isSome * 2 ^ 16 + b2n (b.ceilW < b.capW) * 2 ^ 17 + b2n b.ceilingFloor * 2 ^ 18
  else if o = 0x8 then b.capW + b.ceilW * 2 ^ 16
  else if o = 0xC then u.cfg 0xF0000C (5 * 256 + 100) + ofSigned 8 b.tjMax * 2 ^ 16
  else if o = 0x10 then satW 9 b.measW + satW 9 b.baseW * 2 ^ 16
  else if o = 0x14 then u.cfg 0xF00014 5000
  else if o = 0x18 then b.period
  else match arrayAt o 0x40 4 7 0 with
    | some r => b.capReg r
    | none =>
      if 0x100 ≤ o && o < 0x300 then
        let a := (o - 0x100) / 0x20
        let r := (o - 0x100) % 0x20 / 4
        if r < 7 then guarOf b.sGuar a r + capOf b.sCap a r * 2 ^ 16
        else NMap.getD b.yields a 0 + NMap.getD b.lastWin a 0 * 2 ^ 16 + NMap.getD b.lastRes a 0 * 2 ^ 20
      else 0

/-- The port whose block holds an address. -/
def portAt (a : Nat) : Option Nat :=
  if 0x400000 ≤ a && a < 0x500000 then some ((a - 0x400000) / 0x10000)
  else if 0x500000 ≤ a && a < 0x560000 then some (16 + (a - 0x500000) / 0x10000)
  else none

/-- The 32-bit registers: word at BAR0 address `a` (Table 24-2); an offset that the table does not list reads 0. -/
def Units.regWord (u : Units) (a : Nat) : Nat :=
  if a % 4 ≠ 0 then 0
  else if a < 0x1000 then u.lampReg a
  else if 0x100000 ≤ a && a < 0x101000 then u.bcnReg (a - 0x100000)
  else if 0x200000 ≤ a && a < 0x210000 then u.mbReg ((a - 0x200000) / 0x100) ((a - 0x200000) % 0x100)
  else if a = 0x210000 then u.mb.mode
  else if a = 0x210004 then u.ring.errRing + b2n u.ring.errValid * 2 ^ 15 + u.ring.errStatus * 2 ^ 16
  else if 0x300000 ≤ a && a < 0x400000 then (u.desc ((a - 0x300000) / 0x20)).word ((a - 0x300000) % 0x20 / 4)
  else match portAt a with
    | some p => u.linkReg p (a - portBase p)
    | none =>
      if 0x600000 ≤ a && a < 0x601000 then u.wickReg (a - 0x600000)
      else if 0x700000 ≤ a && a < 0x701000 then u.vigReg (a - 0x700000)
      else if 0x780000 ≤ a && a < 0x790000 then u.snufReg (a - 0x780000)
      else if 0x800000 ≤ a && a < 0x801000 then u.ledReg (a - 0x800000)
      else if 0x900000 ≤ a && a < 0x901000 then u.collReg (a - 0x900000)
      else if 0xA00000 ≤ a && a < 0xA01000 then u.mantleReg (a - 0xA00000)
      else if 0xB00000 ≤ a && a < 0xB01000 then u.tallowReg (a - 0xB00000)
      else if 0xC00000 ≤ a && a < 0xC01000 then u.chimReg (a - 0xC00000)
      else if 0xD00000 ≤ a && a < 0xD01000 then u.flickReg (a - 0xD00000)
      else if 0xE00000 ≤ a && a < 0xE04000 then u.gridReg (a - 0xE00000)
      else if 0xF00000 ≤ a && a < 0xF01000 then u.budReg (a - 0xF00000)
      else 0

/-! 64-bit registers -/

/-- Whether the counters of Table 24-2 with 64 bits hold address `a` as a low word. -/
def counterLow (a : Nat) : Bool :=
  let span := fun (b lo hi : Nat) => b + lo ≤ a && a < b + hi
  a % 8 = 0 &&
  (span 0 0x100 0x120 || span 0 0x280 0x298 || span 0x100000 0x100 0x118 || span 0x210000 0x100 0x138 || span 0x600000 0x200 0x260
    || span 0x600000 0x480 0x4C0 || span 0x700000 0x100 0x138 || span 0x780000 0x100 0x130 || span 0x780000 0x480 0x4A8 || span 0x800000 0x100 0x150
    || span 0x900000 0x100 0x138 || span 0xA00000 0x100 0x138 || span 0xA00000 0x200 0x240 || span 0xB00000 0x100 0x130 || span 0xC00000 0x100 0x138
    || span 0xC00000 0x200 0x260 || span 0xC00000 0x4000 0x8000 || span 0xD00000 0x100 0x150 || span 0xE00000 0x100 0x118 || span 0xE00000 0x3100 0x3128
    || match portAt a with | some p => span (portBase p) 0x100 0x140 || span (portBase p) 0x200 0x280 | none => false)

/-- Operating time (R519), units of 2^-12 h. -/
def Clock.opTime64 (c : Clock) : Nat := wrapW 64 (c.opStart + c.mono * 4096 / (3600 * 10 ^ 9))

/-- The value of the 64-bit register whose low word stands at `a`. -/
def Units.reg64 (u : Units) (a : Nat) : Option Nat :=
  if counterLow a then some (u.cnt a)
  else if a = 0x18 then some u.clk.opTime64
  else if a = 0x100040 then some u.clk.mono
  else if a = 0x100060 then some u.calendar
  else if a = 0x800010 then some u.led.tick
  else if a = 0x800018 then some u.led.durable
  else if a = 0x800020 then some u.led.ack
  else if a = 0xA00140 then some u.mantle.eccAddr
  else if a = 0xC00020 then some u.chim.logSeq
  else if a = 0xC00098 then let f := u.flueOf (u.cfg 0xC00090 0); some (f.prod + f.cons * 2 ^ 32)
  else if a = 0xC000A8 then some (u.flueOf (u.cfg 0xC00090 0)).lost
  else if a = 0xD000C8 then
    let s := u.cfg 0xD000C0 0
    let q := NMap.getD u.flick.qual (16 * bits s 7 4 + bits s 3 0) (0, 0)
    some (satW 32 q.1 + satW 32 q.2 * 2 ^ 32)
  else if 0xB00040 ≤ a && a < 0xB00060 && a % 8 = 0 then
    let r := (a - 0xB00040) / 8
    some (u.tal.sizes.getD r 0 + (u.tal.map.filter fun x => x.1 / 2 ^ 32 = r).length * 2 ^ 32)
  else if 0xE00040 ≤ a && a < 0xE00080 && a % 8 = 0 then some (NMap.getD u.grid.beats ((a - 0xE00040) / 8) 0)
  else if 0xE02000 ≤ a && a < 0xE03000 then
    let s := u.slot ((a - 0xE02000) / 0x40)
    let k := (a - 0xE02000) % 0x40
    if k = 0x18 then some s.retired else if k = 0x20 then some s.beats else none
  else none

/-- The live word at BAR0 address `a`. -/
def Units.live (u : Units) (a : Nat) : Nat :=
  match u.reg64 a with
  | some v => v
  | none => match (if 4 ≤ a then u.reg64 (a - 4) else none) with
    | some v => v / 2 ^ 32
    | none => u.regWord a

/-! Privilege -/

/-- Counters of a block at 0x0100-0x03FF (R492). -/
def isCounter (a : Nat) : Bool :=
  let c := counterLow a || (4 ≤ a && counterLow (a - 4)) || a = 0x298 || a = 0xA00140 || a = 0xA00144 || a = 0xA00148 || a = 0xB00130 || a = 0xB00138 || a = 0xB0013C
    || match portAt a with | some p => portBase p + 0x280 ≤ a && a < portBase p + 0x2C0 | none => false
  let o := match portAt a with | some _ => a % 0x10000 | none => a % 0x1000
  c && 0x100 ≤ o && o < 0x400

/-- What a tenant may read for its job (R126, R172, R267, R312, R408, R425, R455, R492). -/
def Units.tenantMay (u : Units) (job a : Nat) : Bool :=
  job ≠ 0 &&
  (if 0xA00044 ≤ a && a < 0xA00064 then (match u.mantle.shownRegion (u.cfg 0xA00040 0) with | some r => r.job = job && r.ownerKind = 0 | none => false)
  else if 0x600044 ≤ a && a < 0x600140 && a ≠ 0x600084 then (match NMap.find u.wick.shards (u.cfg 0x600040 0) with | some s => s.job = job | none => false)
  else if 0x700084 ≤ a && a < 0x7000A4 then (match NMap.find u.vig.watch (u.cfg 0x700080 0) with | some x => x.job = job | none => false)
  else if 0x781000 ≤ a && a < 0x782000 then u.ctxJob ((a - 0x781000) / 0x100) ((a - 0x781000) % 0x100 / 4) = job
  else if 0x800044 ≤ a && a < 0x8000C4 then (match u.stream (u.cfg 0x800040 0) with | some s => s.job = job | none => false)
  else if 0x900044 ≤ a && a < 0x9000AC then (match NMap.find u.coll.groups (u.cfg 0x900040 0) with | some g => g.job = job | none => false)
  else if 0xE02000 ≤ a && a < 0xE03000 then (u.slot ((a - 0xE02000) / 0x40)).job = job
  else if 0xC04000 ≤ a && a < 0xC08000 then u.ctxJob ((a - 0xC04000) / 0x400) ((a - 0xC04000) % 0x400 / 0x10) = job
  else if 0x300000 ≤ a && a < 0x400000 then (u.desc ((a - 0x300000) / 0x20)).job = job
  else false)

/-- What tenants and observers alike may read (R172, R361, R408, R446, R463, R480, R492, R501, R523). -/
def Units.anyMay (u : Units) (a : Nat) : Bool :=
  a = 0x0 || a = 0x4 || a = 0x8 || a = 0x100004 || (0x100030 ≤ a && a < 0x100048) || (0x100054 ≤ a && a < 0x10005C) || (0x100060 ≤ a && a < 0x100068)
    || a = 0x210000 || a = 0x800004 || a = 0xB00004 || a = 0xC00004 || a = 0xD00004 || a = 0xE00010
    || (isCounter a && bitAt (u.cfg 0xC00014 0) (a / 2 ^ 20 % 256))

/-- Whether an identity may read the word at `a`: an operator any word (Table 0-7), a reserved encoding none (R14), a bound mailbox sender
its own channel (R453). -/
def Units.mayRead (u : Units) (w : Sys2Proof.Who) (a : Nat) : Bool :=
  if 4 ≤ w.priv then false
  else if isOperator w.priv then true
  else if 0x200000 ≤ a && a < 0x210000 then
    let b := (u.ch ((a - 0x200000) / 0x100)).bind
    bitAt b 0 && bits b 31 28 = w.cls && bits b 27 16 = w.idx
  else u.anyMay a || (w.priv = 1 && u.tenantMay w.job a)

end Sys2Proof.Machine
end

