-- ==== Sys2Proof/Machine/Regs.lean ====
section
/-!
DEFINITION. Register reads and writes over BAR0 (00 R9-R12, R553; 24 R545), the mailbox mode (19 R452), MANTLE_ALLOC (05 R126) and the drain of a
unit (06 R144, R145). A write of a word that holds fields with rows of their own leaves those fields to their commands.
-/
namespace Sys2Proof.Machine

/-! Reading -/

/-- Take a latched word (R11): it is returned once. -/
def Units.unlatch (u : Units) (a : Nat) : Units := { u with regs := { u.regs with latch := NMap.del u.regs.latch a } }

/-- Latch words for the reads that follow (R11, R553). -/
def Units.latchWords (u : Units) (a : Nat) (l : List Nat) : Units :=
  { u with regs := { u.regs with latch := (List.range l.length).foldl (fun m k => NMap.set m (a + 4 * k) (l.getD k 0)) u.regs.latch } }

/-- Clear the RC fields of the word at `a` (R9): MB_COUNT, BEACON_TXTS_STATUS.DROPS, GRID_PROG_MSGDROP and BUDGET_ACT_STAT.YIELD_SLOTS. -/
def Units.readClear (u : Units) (a : Nat) : Units :=
  if 0x200000 ≤ a && a < 0x210000 && a % 0x100 = 0x74 then
    let n := (a - 0x200000) / 0x100
    u.setCh n { u.ch n with posted := 0, refused := 0 }
  else if a = 0x100070 || a = 0x100074 then
    let p := (a - 0x100070) / 4
    u.setTxts p { u.txts p with drops := 0 }
  else if 0xE02000 ≤ a && a < 0xE03000 && (a - 0xE02000) % 0x40 = 0x10 then
    u.upSlot ((a - 0xE02000) / 0x40) fun s => { s with msgDrop := 0 }
  else if 0xF00100 ≤ a && a < 0xF00300 && (a - 0xF00100) % 0x20 = 0x1C then
    u.setBud { u.bud with yields := NMap.del u.bud.yields ((a - 0xF00100) / 0x20) }
  else u

/-- A 4-byte read (R9, R11, R545): a word refused for privilege returns 0; a latched word is returned once; a low word latches its high word, and word 0 of
BEACON_TIME latches words 1-3; RC fields clear. -/
def Units.readWord (u : Units) (w : Sys2Proof.Who) (a : Nat) : Units :=
  if !(u.mayRead w a) then u.emit (.read a 0)
  else match NMap.find u.regs.latch a with
    | some v => (u.unlatch a).emit (.read a v)
    | none =>
      let v := wrapW 32 (u.live a)
      let u := match u.reg64 a with
        | some x => u.latchWords (a + 4) [x / 2 ^ 32]
        | none => if a = 0x100030 then u.latchWords 0x100034 [u.clk.ns, wrapW 32 u.clk.sec, wrapW 16 (u.clk.sec / 2 ^ 32)] else u.readClear a
      u.emit (.read a v)

/-- REG64_LOW_READ (R11, R553): the low word of a 64-bit register, or word 0 of BEACON_TIME, which latch the words above. -/
def reg64LowRead (w : Sys2Proof.Who) (addr : Nat) (u : Units) : Units := (u.unlatch addr).readWord w addr

/-- REG_READ_CLEAR (R9, R11): the value of a 32-bit register or of a high word; RC fields then clear. -/
def regReadClear (w : Sys2Proof.Who) (addr : Nat) (u : Units) : Units := u.readWord w addr

/-! Writing -/

/-- A register of stored RW fields: address of the first, distance, number, reset word, and its fields as (high bit, low bit, least value, greatest
value); a value outside leaves the field unchanged. -/
structure RwReg where
  base : Nat
  stride : Nat
  count : Nat
  reset : Nat
  fields : List (Nat × Nat × Nat × Nat)
  deriving DecidableEq, Repr

/-- Stored RW registers of the field tables (04-24), the ports' apart. -/
def rwRegs : List RwReg :=
  let one := fun (a r : Nat) (f : List (Nat × Nat × Nat × Nat)) => ({ base := a, stride := 4, count := 1, reset := r, fields := f } : RwReg)
  [one 0x2C 2000 [(15, 0, 100, 60000)],
   one 0x100008 (1000 + 2000 * 2 ^ 20) [(19, 0, 10, 1000000), (31, 20, 100, 4000)],
   one 0x100010 (1000 + 60 * 2 ^ 16) [(15, 0, 10, 65535), (27, 16, 1, 3600)],
   one 0x100068 400 [(1, 0, 0, 3), (11, 2, 1, 500), (23, 12, 0, 4095)],
   one 0x600008 2000 [(15, 0, 10, 60000)],
   one 0x60000C (50 + 10 * 2 ^ 16) [(15, 0, 0, 65535), (31, 16, 1, 65535)],
   one 0x600010 5000 [(15, 0, 100, 60000)],
   one 0x600014 60 [(15, 0, 1, 3600)],
   one 0x600040 0 [(12, 0, 0, 8191)],
   one 0x600084 0 [(1, 0, 0, 3)],
   one 0x600400 20 [(4, 0, 12, 24)],
   one 0x600408 0 [(3, 0, 0, 15)]] ++
  [one 0x700008 (3 + 3 * 16 + 500 * 256) [(3, 0, 1, 15), (7, 4, 1, 8), (19, 8, 50, 4000)],
   one 0x70000C (16 + 256) [(4, 0, 2, 31), (8, 8, 0, 1)],
   one 0x700080 0 [(9, 0, 0, 1023)],
   one 0x78000C 1 [(0, 0, 0, 1)],
   one 0x780400 (20 + 500 * 2 ^ 8) [(7, 0, 5, 200), (19, 8, 50, 4000)],
   one 0x780404 10 [(15, 0, 1, 600)],
   one 0x800008 (60 + 90 * 2 ^ 16) [(7, 0, 10, 255), (9, 8, 0, 2), (22, 16, 50, 98)],
   one 0x800040 0 [(16, 0, 0, 131071)],
   one 0x900008 (1000 + 100 * 2 ^ 16) [(15, 0, 1, 60000), (27, 16, 10, 4000)],
   one 0x900040 0 [(9, 0, 0, 1023)],
   one 0xA00008 200 [(15, 0, 20, 10000)],
   one 0xA0000C 24 [(7, 0, 1, 168)],
   one 0xA00040 0 [(11, 0, 0, 4095)],
   one 0xB0000C 64 [(9, 0, 8, 1023)]] ++
  [one 0xC00008 (10 * 256 + 16) [(7, 0, 1, 255), (15, 8, 1, 255)],
   one 0xC00014 0 [(31, 0, 0, 2 ^ 32 - 1)],
   one 0xC00040 0 [(7, 0, 0, 255)],
   one 0xC00090 0 [(5, 0, 0, 63)],
   one 0xC000C0 0 [(12, 0, 0, 8191)],
   one 0xD00008 1000 [(15, 0, 100, 1000)],
   one 0xD00080 0 [(9, 0, 0, 1023)],
   one 0xD000C0 0 [(7, 0, 0, 255)],
   one 0xE0000C 100 [(15, 0, 1, 10000)],
   one 0xE03008 (50 + 64 * 2 ^ 10 + 5 * 2 ^ 18 + 20 * 2 ^ 24) [(9, 0, 10, 1000), (17, 10, 1, 255), (23, 18, 1, 60), (31, 24, 1, 255)],
   one 0xE03010 0 [(3, 0, 0, 15)],
   one 0xF0000C (5 * 256 + 100) [(7, 0, 85, 103), (15, 8, 1, 20)],
   one 0xF00014 5000 [(15, 0, 100, 60000)]]

/-- The word after a write, field by field. -/
def rwWord (old value : Nat) (fs : List (Nat × Nat × Nat × Nat)) : Nat :=
  fs.foldl (fun w f =>
    let v := bits value f.1 f.2.1
    if f.2.2.1 ≤ v && v ≤ f.2.2.2 then setBits w f.1 f.2.1 v else w) old

/-- Write a stored RW register. -/
def Units.writeRw (u : Units) (r : RwReg) (a value : Nat) : Units := u.setCfg a (rwWord (u.cfg a r.reset) value r.fields)

/-- A set of a unit's ENABLE (R145): held while the unit drains. -/
def Units.enableUnit (u : Units) (unit : Nat) (draining : Bool) (f : Units → Units) : Units :=
  if draining then { u with drains := u.drains.map fun x => if x.unit = unit then { x with enableHeld := true } else x } else f u

/-- A port's registers (04): LANE_ALLOW and MIN_LANES of LINK_CTL, the stored words, and LINK_EVENT's W1C bits. -/
def Units.linkWrite (u : Units) (p o value : Nat) : Units :=
  let b := portBase p
  if o = 0x0 then
    let m := bits value 19 16
    let x := setBits (u.linkCtl p) 15 8 (bits value 15 8)
    u.setCfg b (if m = 1 || m = 2 || m = 4 || m = 8 then setBits x 19 16 m else x)
  else if o = 0xC then u.setCfg (b + 0xC) (bits value 23 0)
  else if o = 0x10 then u.setCfg (b + 0x10) (wrapW 32 value)
  else if o = 0x14 then u.writeRw { base := b, stride := 4, count := 1, reset := 8 * 256 + 50, fields := [(7, 0, 1, 255), (11, 8, 1, 15)] } (b + 0x14) value
  else if o = 0x18 then u.setCfg (b + 0x18) (wrapW 32 value)
  else if o = 0x1C then u.setPort p { u.port p with event := andNot (u.port p).event (bits value 6 0) }
  else u

/-- RING_DESC(n): its RW fields change only while ENABLE is 0 and no drain runs (R454); the indices and ENABLE have rows of their own. -/
def Units.descWrite (u : Units) (n k value : Nat) : Units :=
  let d := u.desc n
  if d.enable || d.draining then u
  else if k = 1 then
    u.setDesc n { d with sizeCode := bits value 7 0, countLog2 := bits value 15 8, kind := bits value 23 16, hostSide := bitAt value 25, msixEn := bitAt value 26 }
  else if k = 4 then u.setDesc n { d with pair := bits value 15 0 }
  else if k = 5 then u.setDesc n { d with job := wrapW 32 value }
  else if k = 6 then u.setDesc n { d with priv := bits value 3 0, context := bits value 15 8, port := bits value 23 16 }
  else if k = 7 then u.setDesc n { d with vector := bits value 10 0 }
  else u

/-- A mailbox channel's registers: MB_OUT words (R450, R451), COLLISION (W1C) by an identity the channel allows or an operator, MB_VECTOR (R453). -/
def Units.mbWrite (u : Units) (w : Sys2Proof.Who) (n o value : Nat) : Units :=
  if o < 0x20 then mbOutWrite w n (o / 4) value u
  else if o = 0x44 then
    if bitAt value 2 && (isOperator w.priv || u.mbAllowed w n) then u.setCh n { u.ch n with collision := false } else u
  else if o = 0x64 then (if isOperator w.priv then u.setCh n { u.ch n with vector := bits value 10 0 } else u)
  else u

/-- BEACON_CTL, BEACON_LOCK_CFG, BEACON_DOMAIN and BEACON_TXTS_STATUS (18). A source taken out of service is no source any more. -/
def Units.bcnWrite (u : Units) (o value : Nat) : Units :=
  if o = 0x0 then
    let u := u.setCfg 0x100000 (bits value 2 0)
    u.upB fun b =>
      { b with ref10 := bitAt value 2 && b.ref10In, source := if b.source = 3 && !(bitAt value 1) then 0 else b.source }
  else if o = 0xC then
    let lock := bits value 11 0
    let un := bits value 23 12
    if 10 ≤ lock && lock ≤ 4000 && 100 ≤ un && un ≤ 4000 && lock < un then u.setCfg 0x10000C (bits value 23 0) else u
  else if o = 0x20 || o = 0x24 then
    let d := (o - 0x20) / 4
    let other := u.domCfg (1 - d)
    let v := bits value 12 0 + bits value 31 24 * 2 ^ 24
    if bitAt v 7 && bitAt other 7 && bits v 6 0 = bits other 6 0 then u
    else (u.setCfg (0x100000 + o) v).upB fun b =>
      { b with source := if bitAt v 7 then (if b.source = 3 then 0 else b.source) else if b.source = d + 1 then 0 else b.source }
  else if o = 0x70 || o = 0x74 then
    let p := (o - 0x70) / 4
    if bitAt value 7 then u.setTxts p { u.txts p with overflow := false } else u
  else u

/-- FLICKER_CTL (R356, R345): sets of ENABLE and EXTRACT_EN, and PRIOR_EN, which needs a population prior. -/
def Units.flickCtl (u : Units) (value : Nat) : Units :=
  let u := if bitAt value 0 then u.enableUnit 0x0D u.flick.draining fun u => u.upF fun x => { x with enable := true } else u
  let u := if bitAt value 1 then u.upF fun x => { x with extract := true } else u
  u.upF fun x => { x with priorEn := bitAt value 2 && x.priors.isSome }

/-- Registers of operator privilege with rules of their own. -/
def Units.ctlWrite (u : Units) (a value : Nat) : Units :=
  if a = 0x600000 then (if bitAt value 0 then u.enableUnit 0x06 u.wick.draining fun u => u.upW fun x => { x with enable := true } else u)
  else if a = 0x900000 then (if bitAt value 0 then u.enableUnit 0x09 u.coll.draining fun u => u.upX fun x => { x with enable := true } else u)
  else if a = 0xB00000 then (if bitAt value 0 then u.enableUnit 0x0B u.tal.draining fun u => u.upT fun x => { x with enable := true } else u)
  else if a = 0xD00000 then u.flickCtl value
  else if a = 0xE03000 then
    let u := u.setCfg 0xE03000 (setBits (u.cfg 0xE03000 1) 1 1 (bits value 1 1))
    if bitAt value 0 then u.enableUnit 0x0E u.ember.draining fun u => u.upE fun x => { x with enable := true } else u
  else if a = 0xC00010 then (let p := bits value 15 0; if p = 0 || 100 ≤ p then u.setCfg a p else u)
  else if a = 0x210004 then (if bitAt value 15 then { u with ring := { u.ring with errValid := false } } else u)
  else match arrayAt a 0xD00040 4 16 0 with
    | some _ => if bits value 31 16 < bits value 15 0 then u.setCfg a (wrapW 32 value) else u
    | none =>
      if 0xF00100 ≤ a && a < 0xF00300 then
        let r := (a - 0xF00100) % 0x20 / 4
        if r < 7 then u.stageAct ((a - 0xF00100) / 0x20) r value else u
      else match rwRegs.find? fun r => r.base = a with
        | some r => u.writeRw r a value
        | none => u

/-- REGISTER_WRITE (R9, R10, R545): a 4-byte write of the fields that have no row of their own, by their types and ranges. An operator may write each (Table 0-7
and each chapter's rule), a tenant MANTLE_REGION_SEL (R129) and its own mailbox channel; any other write is discarded. -/
def registerWrite (w : Sys2Proof.Who) (addr value : Nat) (u : Units) : Units :=
  if addr % 4 ≠ 0 || 4 ≤ w.priv then u
  else if 0x200000 ≤ addr && addr < 0x210000 then u.mbWrite w ((addr - 0x200000) / 0x100) ((addr - 0x200000) % 0x100) value
  else if !(isOperator w.priv || (addr = 0xA00040 && isTenant w.priv)) then u
  else if 0x300000 ≤ addr && addr < 0x400000 then u.descWrite ((addr - 0x300000) / 0x20) ((addr - 0x300000) % 0x20 / 4) value
  else match portAt addr with
    | some p => u.linkWrite p (addr - portBase p) value
    | none =>
      if addr = 0x100000 || addr = 0x10000C || addr = 0x100020 || addr = 0x100024 || addr = 0x100070 || addr = 0x100074 then u.bcnWrite (addr - 0x100000) value
      else u.ctlWrite addr value

/-- The 64-bit RW registers of BAR0 (Table 24-2), by the address of the low word: LEDGER_ACK_SEQ and CHIM_FLUE_IDX. -/
def isWide (a : Nat) : Bool := a = 0x800020 || a = 0xC00098

/-- REG64_LOW_WRITE (R12): held until the next high-word write; a further one replaces it. -/
def reg64LowWrite (w : Sys2Proof.Who) (addr value : Nat) (u : Units) : Units :=
  if isOperator w.priv && isWide addr then { u with regs := { u.regs with held := NMap.set u.regs.held addr (wrapW 32 value) } } else u

/-- The host has consumed entries of the selected trace ring up to index `cons`. -/
def Units.flueCons (u : Units) (cons : Nat) : Units :=
  let n := u.cfg 0xC00090 0
  let f := u.flueOf n
  let ahead := wrapW 32 (cons + 2 ^ 32 - f.cons)
  if wrapW 32 (f.prod + 2 ^ 32 - f.cons) < ahead then u else u.setFlue n { f with cons := wrapW 32 cons, q := f.q.drop ahead }

/-- REG64_HIGH_WRITE (R12): the held low word and the high word take effect together; without a held word the low word keeps its value. -/
def reg64HighWrite (w : Sys2Proof.Who) (addr value : Nat) (u : Units) : Units :=
  let low := addr - 4
  if !(isOperator w.priv) || addr < 4 || !(isWide low) then u
  else
    let held := NMap.find u.regs.held low
    let u : Units := { u with regs := { u.regs with held := NMap.del u.regs.held low } }
    if low = 0x800020 then ledgerAckSeqWrite w (held.getD (wrapW 32 u.led.ack) + wrapW 32 value * 2 ^ 32) u
    else u.flueCons (wrapW 32 value)

/-! Mailbox mode and host regions -/

/-- MB_SET_MODE (0x0102, R452). -/
def mbSetMode (c : Sys2Proof.Cmd) (mode : Nat) (u : Units) : Units :=
  u.operator c 0x021 0x0102 fun u =>
    let end_ := fun (u : Units) (s : Nat) => u.done c 0x021 0x0102 s
    if u.mb.mode = 1 || u.mb.mode = 3 then end_ u St.BAD_STATE
    else if mode ≠ 0 && mode ≠ 2 then end_ u St.BAD_PARAM
    else if mode = u.mb.mode then end_ u St.OK
    else if mode = 2 && (!u.wick.jobs.isEmpty || !u.vig.watch.isEmpty) then end_ u St.BAD_STATE
    else end_ { u with mb := { u.mb with mode := mode } } St.OK

/-- MANTLE_ALLOC (0x0401, R126): a general region of owner kind none or context. -/
def mantleAlloc (c : Sys2Proof.Cmd) (typ : Nat) (hostVisible : Bool) (cid ctx mask bytes : Nat) (u : Units) : Units :=
  u.operator c 0xA0 0x0401 fun u =>
    let r : Region :=
      { typ := 8, hostVisible := hostVisible, pooled := false, quiet := false, job := 0, ownerCid := 0, ownerCtx := 0xFF, ownerKind := 4, gen := 0, mask := mask,
        pages := [] }
    let owned : Option Region :=
      if cid = 0 && ctx = 0xFF then some r
      else match u.portOf cid with
        | some p => if ctx < 64 then some { r with ownerKind := 0, ownerCid := cid, ownerCtx := ctx, gen := u.ctxGen p ctx, job := u.ctxJob p ctx } else none
        | none => none
    match owned with
    | none => u.done c 0xA0 0x0401 St.BAD_PARAM
    | some r =>
      if typ ≠ 8 || bytes = 0 || 2 ^ 20 ≤ mask then u.done c 0xA0 0x0401 St.BAD_PARAM
      else
        let a := u.allocRegion r bytes
        match a.2 with
        | some i => a.1.done c 0xA0 0x0401 St.OK 0 i
        | none => u.done c 0xA0 0x0401 St.MANTLE_FULL

/-! Drains (R144, R145) -/

/-- Accepted work of a draining unit that has not completed. -/
def Units.drainLeft (u : Units) (unit : Nat) : Nat :=
  if unit = 0x09 then u.coll.open_.length
  else if unit = 0x0B then u.tal.writes.length + (u.tal.ops.filter fun o => o.cmd.isSome).length + b2n u.tal.format.isSome
  else if unit = 0x0D then u.flick.items.length + u.flick.evals.length
  else if unit = 0x0E then u.ember.entries.length
  else if 0x100 ≤ unit && unit < 0x116 then (u.port (unit - 0x100)).txq.length + (u.port (unit - 0x100)).replay.length
  else if 0x200 ≤ unit && unit < 0x208 then ((u.slotsIn (unit - 0x200)).filter fun n => (u.slot n).state = 6 && !(u.slotIdle n)).length
  else if 0x300 ≤ unit && unit < 0x340 then (u.flueOf (unit - 0x300)).q.length
  else if 0x10000 ≤ unit then u.ringItems (unit - 0x10000)
  else 0

/-- A trace ring's drain ends (R501): its pages return; a held enable allocates again. -/
def Units.flueDrained (u : Units) (n : Nat) (again : Bool) : Units :=
  let f := u.flueOf n
  let len := 65536 * 2 ^ f.sizeLog2
  let off : Flue := { f with draining := false, q := [], cons := f.prod, base := 0, size := 0 }
  let u := u.setFlue n off
  if !again then u
  else match fitBody u.traceSpace len u.traceBodies with
    | none => u
    | some o => u.setFlue n { off with enable := true, base := o, size := len, prod := 0, cons := 0, occ := 0 }

/-- A unit's drain ends: what is left completes with CANCELLED_BY_DISABLE, and a held enable takes effect (R144, R145). -/
def Units.drainOver (u : Units) (unit : Nat) : Units :=
  let again := u.drains.any fun x => x.unit = unit && x.enableHeld
  if 0x100 ≤ unit && unit < 0x116 then linkDrainTimeout (unit - 0x100) u
  else if 0x10000 ≤ unit then ringDrainEnd (unit - 0x10000) u
  else
    let u : Units := { u with drains := u.drains.filter fun x => x.unit ≠ unit }
    if unit = 0x06 then u.upW fun x => { x with draining := false, enable := again || x.enable }
    else if unit = 0x09 then u.collDrained again
    else if unit = 0x0B then u.tallowDrained again
    else if unit = 0x0D then u.flickDrained again
    else if unit = 0x0E then u.emberDrained again
    else if 0x200 ≤ unit && unit < 0x208 then u.partDrained (unit - 0x200) again
    else if 0x300 ≤ unit && unit < 0x340 then u.flueDrained (unit - 0x300) again
    else u

/-- The unit's generation tag rises as its drain ends: it returns to service under a new one (R144, R145). A port raises its own (R106). -/
def Units.raiseTag (u : Units) (unit : Nat) : Units :=
  if 0x100 ≤ unit && unit < 0x116 then u else { u with tags := NMap.set u.tags unit (wrapW 16 (NMap.getD u.tags unit 0 + 1)) }

/-- UNIT_DRAIN_TIMEOUT (R144): the unit bumps its generation tag, and each item still queued or in flight completes with CANCELLED_BY_DISABLE. -/
def unitDrainTimeout (unit : Nat) (u : Units) : Units :=
  if !(u.drains.any fun x => x.unit = unit) then u
  else (u.raiseTag unit).drainOver unit

/-- UNIT_DRAIN_END (R144, R145): a drain with no accepted work left is over. -/
def unitDrainEnd (unit : Nat) (u : Units) : Units :=
  if (u.drains.any fun x => x.unit = unit) && u.drainLeft unit = 0 then (u.raiseTag unit).drainOver unit else u

end Sys2Proof.Machine
end

