-- ==== Sys2Proof/Machine/Settle.lean ====
section
/-!
DEFINITION. Effects of one unit on another that belong to the same step (95): each is carried out in the order raised, before the
step ends.
-/
namespace Sys2Proof.Machine

/-- Change the units' half of a pair. -/
def onU (f : Units → Units) (a : Mem × Units) : Mem × Units := (a.1, f a.2)

/-- The action's own rule would refuse a Flicker action (R351): the bar of the entry, an unserved position, a position under recovery. -/
def Units.flickRefuses (u : Units) (e : SoEntry) (t : Target) : Bool :=
  if t.comp = 0xFFFF then e.action ≠ 4 && (t.port = 0xFF || u.posBusy t.port)
  else
    let c := u.comp t.comp
    !u.flick.enable || (e.action ≠ 4 && c.port = 0xFF) || c.state ≠ 2 || c.risk1 < bits e.b 15 0 || c.conf < bits e.b 23 16 ||
      (e.action ≠ 4 && u.posBusy c.port)

/-- Perform the action of a standing-order entry (Table 2-8); true when its own rule refused it: SPARE_IN and WARM_RESTORE_OR_SPARE on what is no position
of the route table, HOLD_JOB with no job, REPLAY_STREAMS with no interrupted stream, Flicker's and Ember's by their chapters (R555). -/
def performAct (e : SoEntry) (t : Target) (m : Mem) (u : Units) : (Mem × Units) × Bool :=
  if e.action = 1 || e.action = 2 then
    if u.noPosition t then ((m, u), true) else ((m, if e.action = 1 then u.actSpareIn e.a t else u.actWarm e.a t), false)
  else if e.action = 3 || e.action = 4 || e.action = 5 then ((m, u.flickerAct e t), u.flickRefuses e t)
  else if e.action = 8 then if t.job = 0 then ((m, u), true) else ((m, u.actHold t), false)
  else if e.action = 9 then
    let r := actEmber t m u
    (r, decide (u.cnt 0xE03120 < r.2.cnt 0xE03120) || ((u.shKey t.shard).isSome && !(u.fenced t.port)))
  else if e.action = 10 then ((m, u), (u.led.interrupted fun s => s.cid = t.cid && (t.ctx = 0xFF || s.ctx = t.ctx)).isEmpty)
  else ((m, u), false)

/-- An action is carried out and recorded (R56, R555): outcome 0 executed, 5 refused by the action's own rule. -/
def carryOutAct (code level : Nat) (e : SoEntry) (t : Target) (cls hold : Nat) (m : Mem) (u : Units) : Mem × Units :=
  let r := performAct e t m u
  (r.1.1, r.1.2.soRecord code level e.action cls (if r.2 then 5 else 0) hold)

/-- Keep what a one_vs_one verdict awaits (Table 11-8): the taper joins the others of its shard and step. -/
def Units.awaitDiag (u : Units) (shard step l : Nat) : Units :=
  let named := u.withSh shard [] fun _ s _ => match s.step? step with
    | some o => o.recs.filter fun x => x.r.replica + 1 = o.choice
    | none => []
  u.upW fun w =>
    { w with suspects :=
        if w.suspects.any fun x => x.1 = shard && x.2.1 = step then
          w.suspects.map fun x => if x.1 = shard && x.2.1 = step then (x.1, x.2.1, l :: x.2.2.1.filter (· ≠ l), x.2.2.2) else x
        else w.suspects ++ [(shard, step, [l], named)] }

/-- A taper of a program becomes suspect (R171, Table 11-8), and its instance is to be loaded again (R281). -/
def Units.suspectTaper (u : Units) (slot rel shard step : Nat) (one : Bool) : Units :=
  match (u.slot slot).place[rel]? with
  | none => u
  | some l =>
    let u := u.suspectL l
    let u := match (u.slot slot).owner with
      | .wick job => u.upInst job fun i => { i with reload := true }
      | _ => u
    if one then u.awaitDiag shard step l else u

/-- A diagnostic of a taper that a one_vs_one verdict made suspect ended (Table 11-8): when every one passed, the replica is named;
when one failed, the verdict stands as self_fault. -/
def Units.diagnosed (u : Units) (taper : Nat) (good : Bool) : Units :=
  let mine := u.wick.suspects.filter fun x => x.2.2.1.contains taper
  mine.foldl (fun u x =>
    let left := x.2.2.1.filter (· ≠ taper)
    let drop := fun (u : Units) => u.upW fun w => { w with suspects := w.suspects.filter fun y => !(y.1 = x.1 && y.2.1 = x.2.1) }
    if !good then (drop u).count 0x6004A0
    else if left.isEmpty then (drop u).withSh x.1 (drop u) fun _ s _ => (drop u).verdictEvent Ev.SHADOW_ACCEL_SUSPECT s x.2.1 x.2.2.2
    else u.upW fun w => { w with suspects := w.suspects.map fun y => if y.1 = x.1 && y.2.1 = x.2.1 then (y.1, y.2.1, left, y.2.2.2) else y }) u

/-- The pairing table gave this tray a new buddy (R258): shards whose buddy was the old one are placed again. -/
def Units.newBuddy (u : Units) (old new : Nat) : Units :=
  if old = 0 || old = new then u
  else ((NMap.keys u.wick.shards).filter fun k => bitAt (u.shAt k).roles 0 && (u.shAt k).buddy = old).foldl (fun u k => u.unbuddy k) u

/-- A T3 is declared failed (R258, R372, R377). -/
def Units.t3Failed (u : Units) (cid : Nat) : Units :=
  (((NMap.keys u.wick.shards).filter fun k => bitAt (u.shAt k).roles 0 && (u.shAt k).buddy = cid).foldl (fun u k => u.unbuddy k) u).emberT3Lost cid

/-- A port has completed R61 (R305): Vigil, Flicker, and a COLD spare that waits for it (R326). -/
def Units.portBrought (u : Units) (p : Nat) : Units :=
  let u := (u.brought p).flickBrought p
  match u.rcv.prep.find? fun x => x.2.1 = p && x.2.2 = [0xFF] with
  | some x => (u.upC fun y => { y with prep := y.prep.erase x }).prepare x.1 p
  | none => u

/-- A ring has room again: a host export and the ledger's delivery go on (R263, R405). -/
def Units.ringFreed (u : Units) (ring : Nat) : Units :=
  let ks := (NMap.keys u.wick.shards).filter fun k => match (u.shAt k).expo with | some x => x.2.2 = ring | none => false
  let u := ks.foldl (fun u k => u.exportPump k) u
  if u.led.ring = some ring then u.ledgerPump else u

/-- The owner of a program that entered FAULTED (R166, R282, R355, Table 15-7). -/
def progFault (slot cause detail : Nat) (m : Mem) (u : Units) : Mem × Units :=
  match (u.slot slot).owner with
  | .host => (m, u)
  | .wick job => (m, u.instFault job cause detail)
  | .flicker => modelFault slot m u
  | .ember _ => emberFault m u
  | .qualify => match u.wick.qualify with
    | some q => (m, u.qualEnd q St.INTEGRITY_FINGERPRINT q.vec)
    | none => (m, u)

/-- The owner of a program whose load ended (R163). -/
def progLoaded (slot status : Nat) (m : Mem) (u : Units) : Mem × Units :=
  match (u.slot slot).owner with
  | .ember _ => (m, u.emberLoaded slot status)
  | _ => gridLoaded slot status m u

/-- Do something with the entry index of a shard. -/
def withKey (u : Units) (m : Mem) (shard : Nat) (f : Nat → Mem × Units) : Mem × Units :=
  match u.shKey shard with
  | some k => f k
  | none => (m, u)

/-- The program of a unit was unloaded with a partition (R170). -/
def progGone (o : Loader) (slot : Nat) (m : Mem) (u : Units) : Units :=
  match o with
  | .host => u
  | .wick job => u.instGone job
  | .flicker => modelGone slot m u
  | .ember _ => emberGone m u
  | .qualify => match u.wick.qualify with
    | some q => u.qualEnd q St.CANCELLED_BY_DISABLE 0
    | none => u

/-- The ports that have traffic. -/
def Units.livePorts (u : Units) : List Nat := (NMap.keys u.link.port).filter fun p => (u.port p).flows

/-- What waited on allowances goes on at a sub-slot's begin (R139): Tallow's operations, what ports hold to send and to write onward; groups of tapers
that no activity may use close their gates. -/
def Units.slotOpen (u : Units) : Units :=
  let u := u.livePorts.foldl (fun u p => [0, 1, 2].foldl (fun u vc => u.rxTake p vc) (u.pump p)) u.nandRelease
  u.closeGroups

/-- After a full retrain with loss (R92, R246, R421): block credits are told again at a sconce port, blocks forwarded again, collective messages resent. -/
def Units.afterLoss (u : Units) (p : Nat) (m : Mem) : Units :=
  let u := reforwardAll m u
  (if p < 16 then u.tellCredits p else u).collResend p

/-- One effect. -/
def settleOne (t : Todo) (m : Mem) (u : Units) : Mem × Units :=
  match t with
  | .act code level e t => carryOutAct code level e t e.cls 0 m u
  | .igtanStart p => (m, u.startUp p)
  | .fullRetrain p => (m, u.afterLoss p m)
  | .fan => (m, u.fanWrite)
  | .newBuddy old new => (m, u.newBuddy old new)
  | .positionFailed cid gen => (m, u.positionFailed cid gen)
  | .offerSpares cid => (m, u.offerSpares cid)
  | .t3Failed cid => (m, u.t3Failed cid)
  | .igtanKey p link id index k => (m, u.sendKey p link id index k)
  | .poolAnswer status job shard cid => (m, u.poolAnswer status job shard cid)
  | .held h => carryOutAct h.entry.trigger h.level h.entry h.tgt 2 h.id m u
  | .newStandby role => (m, u.newStandby role)
  | .bump kind cid ctx gen => generationBump kind cid ctx gen m u
  | .contained p ctx _ => (m, u.ledgerContained p ctx)
  | .candidate p ctx => (m, u.emberCandidate p ctx)
  | .unfenced p _ => (m, u.unfencedAt p)
  | .declareL1 p cause tag => (m, u.declareL1 p cause tag)
  | .progress p ctx mark => (m, u.progress p ctx mark)
  | .recover job cid ctx members => (m, u.openRecovery job cid ctx members)
  | .peerKeeper job cid => (m, u.peerKeeper job cid)
  | .flickerFault p _ severity => (m, u.flickFault p severity)
  | .ledgerAct p ctx words => (m, u.ledgerAct p ctx words)
  | .brought p => (m, u.portBrought p)
  | .suspect p cause => (m, u.suspect p cause)
  | .confirmed p ctx => (m, (u.warmTry p).ctxTry p ctx)
  | .gateEnter job step => collGate job step m u
  | .shadowLoad job => (m, loadInstance job m u)
  | .gridUnload slot => (m, u.unitUnload slot)
  | .suspectTaper slot rel shard step one => (m, u.suspectTaper slot rel shard step one)
  | .drive shard step => u.withSh shard (m, u) fun k s j => driveOrGo m u k s j step
  | .verify shard step => withKey u m shard fun k => (m, u.verifyStep k step)
  | .rcvCheck job => (m, u.rcvMove job)
  | .askPower kind p ctx recovery => (m, u.askStart kind p ctx recovery none)
  | .powerOff p => (m, u.posEnable p false)
  | .gateCancel job step => collGateCancel job step m u
  | .gridLoaded slot status => progLoaded slot status m u
  | .gridFault slot cause detail => progFault slot cause detail m u
  | .gridGone o slot => (m, progGone o slot m u)
  | .outcome kind idx => (m, u.outcome14 kind idx)
  | .flickTrig p => (m, u.flickPort p)
  | .prestaged pos status => (m, u.prestaged pos status)
  | .emberDirect job cids => (m, moveStreams job m (u.emberDirect job cids))
  | .noticed cid job => (m, u.noticed cid job)
  | .stepClosed p ctx job step => (m, u.ledgerStep p ctx job step)
  | .gateDone job step status => gateBarrierComplete job step status m u
  | .restored p ctx => (m, replayStreams p ctx m u)
  | .calApplied => (m, u.calApplied)
  | .diagnosed taper good => (m, u.diagnosed taper good)
  | .ringFreed ring => (m, u.ringFreed ring)
  | .serveMore shard => serveMore shard m u
  | .message h cls pay => (m, deliver h cls pay u)
  | .roleReady role => (m, u.roleReady role)
  | .forwarded level l => (m, l.foldl (fun u e => u.passUp level e) u)
  | .served x => served x m u
  | .slotOpen => (m, u.slotOpen)
  | .pagesCame why idx => (m, u.poolCame why idx)

/-- Carry out what waits, oldest first, at most `n` effects; what is left waits for the next step. -/
def settle : Nat → Mem × Units → Mem × Units
  | 0, a => a
  | n + 1, a => match a.2.todo with
    | [] => a
    | t :: r => settle n (settleOne t a.1 { a.2 with todo := r })

/-- Effects of one step that are carried out within it. -/
def settleFuel : Nat := 4096

/-- The end of a step: what waits is carried out, stand-ins whose buddy region is no longer good end (R377), and the front buffer keeps to its partition
(R114). -/
def carry (a : Mem × Units) : Mem × Units :=
  let b := match a.2.todo with
    | [] => a
    | _ => settle settleFuel (onU Units.emberCheck (settle settleFuel a))
  boundStaging b.1.fb.length b

/-- The end of a step of the Wick: stand-ins whose buddy region is no longer good end (R377). -/
def carryWick (a : Mem × Units) : Mem × Units := carry (onU Units.emberCheck a)

end Sys2Proof.Machine
end

