-- ==== Sys2Proof/Machine/State.lean ====
section
/-!
DEFINITION. The state of the T3 between two commands.
-/
namespace Sys2Proof.Machine

/-- The state: the commands that wait, first in, first out (the model's own); the Mantle's bytes and the tapers; the units. -/
structure State where
  pending : List Instr
  mem : Mem
  u : Units
  deriving DecidableEq, Repr

/-- Reasons to stop with a fault. Nobody raises one: the spec gives every command an effect in every state (safe). -/
inductive Fault where
  deriving DecidableEq, Repr

/-- Reasons to refuse a command. -/
inductive Refusal where
  /-- a command that has no meaning here, by its mnemonic; no arm of the dispatch raises it (safe: the model says less than the hardware does) -/
  | notModelled (mnemonic : String)
  deriving DecidableEq, Repr

/-- The T3 right after reset: nothing waits, nothing is stored, and every unit is as at reset. -/
def State.reset : State := { pending := [], mem := Mem.reset, u := Units.reset }

end Sys2Proof.Machine
end

