-- ==== Sys2Proof/Machine/Run.lean ====
section
/-!
DEFINITION. How the effect of a command becomes the next state: its own effect, then the effects on other units that belong to the same
step (95).
-/
namespace Sys2Proof.Machine

/-- Store the Mantle and the units. -/
def State.put (s : State) (a : Mem × Units) : State := { s with mem := a.1, u := a.2 }

/-- A command that acts on the Mantle and the units. -/
def State.run (s : State) (f : Mem → Units → Mem × Units) : Host.Outcome State Fault Refusal := .next (s.put (carry (f s.mem s.u)))

/-- A command that acts on the units alone. -/
def State.runU (s : State) (f : Units → Units) : Host.Outcome State Fault Refusal := s.run fun m u => (m, f u)

/-- A command of the Wick (R377 after it). -/
def State.runWick (s : State) (f : Mem → Units → Mem × Units) : Host.Outcome State Fault Refusal := .next (s.put (carryWick (f s.mem s.u)))

/-- A command of the Wick that acts on the units alone. -/
def State.runUWick (s : State) (f : Units → Units) : Host.Outcome State Fault Refusal := s.runWick fun m u => (m, f u)

end Sys2Proof.Machine
end

