-- ==== Sys2Proof/Machine/ExecBeacon.lean ====
section
/-!
DEFINITION. The meanings of the commands whose effects stand in Machine/Beacon.lean, on the whole state.
-/
namespace Sys2Proof.Machine

/-- BEACON_STEP (R439). -/
def execBeaconStep (c : Cmd) (step : Int) (s : State) : Host.Outcome State Fault Refusal :=
  s.runU fun u => beaconStep c step u

/-- BEACON_SET_CALENDAR (R443). -/
def execBeaconSetCalendar (c : Cmd) (y mo d h mi sec : Nat) (s : State) : Host.Outcome State Fault Refusal :=
  s.runU fun u => beaconSetCalendar c y mo d h mi sec u

/-- BEACON_SET_UTC (R441). -/
def execBeaconSetUtc (c : Cmd) (offset : Nat) (leap61 leap59 : Bool) (s : State) : Host.Outcome State Fault Refusal :=
  s.runU fun u => beaconSetUtc c offset leap61 leap59 u

/-- PTP_SYNC_MEASUREMENT (R434). -/
def execPtpSyncMeasurement (d : Nat) (off : Int) (s : State) : Host.Outcome State Fault Refusal :=
  s.runU fun u => ptpSyncMeasurement d off u

/-- PTP_ANNOUNCE (R441). -/
def execPtpAnnounce (d : Nat) (dataset : List Nat) (utcOffset : Nat) (valid leap61 leap59 : Bool) (s : State) : Host.Outcome State Fault Refusal :=
  s.runU fun u => ptpAnnounce d dataset utcOffset valid leap61 leap59 u

/-- PTP_EVENT_TRANSMIT (R438). -/
def execPtpEventTransmit (port seqId typ domain : Nat) (s : State) : Host.Outcome State Fault Refusal :=
  s.runU fun u => ptpEventTransmit port seqId typ domain u

/-- BEACON_TXTS_POP (R438). -/
def execBeaconTxtsPop (w : Who) (port : Nat) (s : State) : Host.Outcome State Fault Refusal :=
  s.runU fun u => beaconTxtsPop w port u

/-- PPS_IN_EDGE (R432). -/
def execPpsInEdge (s : State) : Host.Outcome State Fault Refusal :=
  s.runU fun u => ppsInEdge u

/-- PPS_LOSS_TIMEOUT (R432). -/
def execPpsLossTimeout (s : State) : Host.Outcome State Fault Refusal :=
  s.runU fun u => ppsLossTimeout u

/-- REF10M_LOSS (R431). -/
def execRef10mLoss (s : State) : Host.Outcome State Fault Refusal :=
  s.runU fun u => ref10mLoss u

/-- REF10M_RETURN (R431). -/
def execRef10mReturn (s : State) : Host.Outcome State Fault Refusal :=
  s.runU fun u => ref10mReturn u

/-- ANNOUNCE_RECEIPT_TIMEOUT (R436). -/
def execAnnounceReceiptTimeout (d : Nat) (s : State) : Host.Outcome State Fault Refusal :=
  s.runU fun u => announceReceiptTimeout d u

/-- BEACON_HOLD_EXPIRY (R433). -/
def execBeaconHoldExpiry (s : State) : Host.Outcome State Fault Refusal :=
  s.runU fun u => beaconHoldExpiry u

/-- BEACON_REVERT_TIMER (R436). -/
def execBeaconRevertTimer (s : State) : Host.Outcome State Fault Refusal :=
  s.runU fun u => beaconRevertTimer u

/-- LEAP_SECOND_END (R442). -/
def execLeapSecondEnd (s : State) : Host.Outcome State Fault Refusal :=
  s.runU fun u => leapSecondEnd u

/-- PTP_OTHER_MESSAGE (R429). -/
def execPtpOtherMessage (port domain typ seqId : Nat) (s : State) : Host.Outcome State Fault Refusal :=
  s.runU fun u => ptpOtherMessage port domain typ seqId u

end Sys2Proof.Machine
end

