-- ==== Sys2Proof/Machine/ExecBudgetOps.lean ====
section
/-!
DEFINITION. The meanings of the commands whose effects stand in Machine/BudgetOps.lean, on the whole state.
-/
namespace Sys2Proof.Machine

/-- BUDGET_APPLY (R138). -/
def execBudgetApply (w : Who) (value : Nat) (s : State) : Host.Outcome State Fault Refusal :=
  s.runU fun u => budgetApply w value u

/-- BUDGET_PKG_CAP_WRITE (R138). -/
def execBudgetPkgCapWrite (w : Who) (value : Nat) (s : State) : Host.Outcome State Fault Refusal :=
  s.runU fun u => budgetPkgCapWrite w value u

/-- BUDGET_PERIOD_BOUNDARY (R135). -/
def execBudgetPeriodBoundary (rate width : Nat) (s : State) : Host.Outcome State Fault Refusal :=
  s.runU fun u => budgetPeriodBoundary rate width u

/-- BUDGET_SUB_SLOT (R139). -/
def execBudgetSubSlot (s : State) : Host.Outcome State Fault Refusal :=
  s.runU fun u => budgetSubSlot u

/-- BUDGET_REQUEST (R139). -/
def execBudgetRequest (act inst amount : Nat) (s : State) : Host.Outcome State Fault Refusal :=
  s.runU fun u => budgetRequest act inst amount u

/-- POWER_INTERVAL (R142). -/
def execPowerInterval (measured base estimated : Nat) (s : State) : Host.Outcome State Fault Refusal :=
  s.runU fun u => powerInterval measured base estimated u

/-- THERMAL_CEILING_STEP (R143). -/
def execThermalCeilingStep (tj : Int) (ten : Bool) (s : State) : Host.Outcome State Fault Refusal :=
  s.runU fun u => thermalCeilingStep tj ten u

end Sys2Proof.Machine
end

