-- ==== Sys2Proof/Machine/ExecChimney.lean ====
section
/-!
DEFINITION. The meanings of the commands whose effects stand in Machine/Chimney.lean, on the whole state.
-/
namespace Sys2Proof.Machine

/-- EVENT_RAISE (R483). -/
def execEventRaise (code level src payload : Nat) (more : List Nat) (t : Target) (s : State) : Host.Outcome State Fault Refusal :=
  s.runU fun u => eventRaise code level src payload more t u

/-- CHIM_TOKEN_REFILL (R484). -/
def execChimTokenRefill (code : Nat) (s : State) : Host.Outcome State Fault Refusal :=
  s.runU fun u => chimTokenRefill code u

/-- CHIM_LOG_UNIT_WRITE (R486). -/
def execChimLogUnitWrite (s : State) : Host.Outcome State Fault Refusal :=
  s.runU fun u => chimLogUnitWrite u

/-- CHIM_WINDOW_END (R489). -/
def execChimWindowEnd (step code origin src : Nat) (s : State) : Host.Outcome State Fault Refusal :=
  s.runU fun u => chimWindowEnd step code origin src u

/-- EVT_FWD (R489). -/
def execEvtFwd (h : LHdr) (seq : Nat) (alarm : Bool) (entries : List (LogEntry × Bool)) (s : State) : Host.Outcome State Fault Refusal :=
  s.runU fun u => evtFwd h seq alarm entries u

/-- EVT_FWD_ACK (R490). -/
def execEvtFwdAck (h : LHdr) (seq status : Nat) (s : State) : Host.Outcome State Fault Refusal :=
  s.runU fun u => evtFwdAck h seq status u

/-- EVT_FWD_ACK_TIMEOUT (R490). -/
def execEvtFwdAckTimeout (seq : Nat) (s : State) : Host.Outcome State Fault Refusal :=
  s.runU fun u => evtFwdAckTimeout seq u

/-- CHIM_EXPORT_PERIOD (R493). -/
def execChimExportPeriod (s : State) : Host.Outcome State Fault Refusal :=
  s.runU fun u => chimExportPeriod u

/-- TRACE_OCCURRENCE (R494). -/
def execTraceOccurrence (source kind : Nat) (data : List Nat) (deferred : Bool) (s : State) : Host.Outcome State Fault Refusal :=
  s.runU fun u => traceOccurrence source kind data deferred u

/-- CHIM_FLUE_ENABLE (R494). -/
def execChimFlueEnable (w : Who) (ring value : Nat) (s : State) : Host.Outcome State Fault Refusal :=
  s.runU fun u => chimFlueEnable w ring value u

/-- CHIM_BIND_FEED (R487). -/
def execChimBindFeed (c : Cmd) (ring : Nat) (s : State) : Host.Outcome State Fault Refusal :=
  s.runU fun u => chimBindFeed c ring u

/-- CHIM_ALARM_ACK (R488). -/
def execChimAlarmAck (c : Cmd) (seq : Nat) (s : State) : Host.Outcome State Fault Refusal :=
  s.runU fun u => chimAlarmAck c seq u

/-- CHIM_EVENT_READ (R500). -/
def execChimEventRead (c : Cmd) (first count addr : Nat) (s : State) : Host.Outcome State Fault Refusal :=
  s.run fun m u => chimEventRead c first count addr m u

/-- CHIM_LL_FREEZE (R496). -/
def execChimLlFreeze (c : Cmd) (ring : Nat) (s : State) : Host.Outcome State Fault Refusal :=
  s.runU fun u => chimLlFreeze c ring u

/-- CHIM_LL_RELEASE (R496). -/
def execChimLlRelease (c : Cmd) (ring : Nat) (s : State) : Host.Outcome State Fault Refusal :=
  s.runU fun u => chimLlRelease c ring u

/-- CHIM_EXPORT_BIND (R493). -/
def execChimExportBind (c : Cmd) (ring : Nat) (s : State) : Host.Outcome State Fault Refusal :=
  s.runU fun u => chimExportBind c ring u

end Sys2Proof.Machine
end

