-- ==== Sys2Proof/Machine/ExecCollective.lean ====
section
/-!
DEFINITION. The meanings of the commands whose effects stand in Machine/Collective.lean, on the whole state.
-/
namespace Sys2Proof.Machine

/-- COLL_GROUP_SET (R409). -/
def execCollGroupSet (c : Cmd) (group epoch flags job threshold period count addr : Nat) (s : State) : Host.Outcome State Fault Refusal :=
  s.run fun m u => (m, collGroupSet c group epoch flags job threshold period count addr m u)

/-- COLL_GROUP_FREE (R424). -/
def execCollGroupFree (c : Cmd) (group : Nat) (s : State) : Host.Outcome State Fault Refusal :=
  s.runU fun u => collGroupFree c group u

/-- COLL_CALL (R411). -/
def execCollCall (c : Cmd) (sig : CollSig) (crc inR inOff outR outOff timeout : Nat) (s : State) : Host.Outcome State Fault Refusal :=
  s.run fun m u => collCall c sig crc inR inOff outR outOff timeout m u

/-- COLL_CANCEL (R418). -/
def execCollCancel (c : Cmd) (group seq : Nat) (s : State) : Host.Outcome State Fault Refusal :=
  s.run fun m u => collCancel c group seq m u

/-- COLL_ROUND (R412). -/
def execCollRound (h : LHdr) (k : CollMsg) (s : State) : Host.Outcome State Fault Refusal :=
  s.run fun m u => collRound h k m u

/-- COLL_ABORT (R419). -/
def execCollAbort (h : LHdr) (sig : CollSig) (num : Nat) (a : CollAb) (s : State) : Host.Outcome State Fault Refusal :=
  s.run fun m u => collAbort h sig num a m u

/-- COLL_CALL_TIMEOUT (R417). -/
def execCollCallTimeout (group space num : Nat) (s : State) : Host.Outcome State Fault Refusal :=
  s.run fun m u => collCallTimeout group space num m u

/-- COLL_ABORT_ROUND_EXPIRY (R419). -/
def execCollAbortRoundExpiry (group space num : Nat) (s : State) : Host.Outcome State Fault Refusal :=
  s.run fun m u => collAbortRoundExpiry group space num m u

/-- COLL_HEALTH_CALL (R423). -/
def execCollHealthCall (group : Nat) (s : State) : Host.Outcome State Fault Refusal :=
  s.run fun m u => collHealthCall group m u

/-- COLL_ENABLE_CLEAR (R425). -/
def execCollEnableClear (w : Who) (s : State) : Host.Outcome State Fault Refusal :=
  s.runU fun u => collEnableClear w u

end Sys2Proof.Machine
end

