-- ==== Sys2Proof/Machine/ExecEmber.lean ====
section
/-!
DEFINITION. The meanings of the commands whose effects stand in Machine/Ember.lean, on the whole state.
-/
namespace Sys2Proof.Machine

/-- EMBER_TOKENS (R370). -/
def execEmberTokens (h : SHdr) (tag seq k set : Nat) (refs vecs : List Nat) (s : State) : Host.Outcome State Fault Refusal :=
  s.runU fun u => emberTokens h tag seq k set refs vecs u

/-- EMBER_BIND (R365). -/
def execEmberBind (c : Cmd) (job shard count addr : Nat) (s : State) : Host.Outcome State Fault Refusal :=
  s.run fun m u => emberBind c job shard count addr m u

/-- EMBER_UNBIND (R377). -/
def execEmberUnbind (c : Cmd) (job shard : Nat) (s : State) : Host.Outcome State Fault Refusal :=
  s.runU fun u => emberUnbind c job shard u

/-- EMBER_STOP (R377). -/
def execEmberStop (c : Cmd) (job shard : Nat) (s : State) : Host.Outcome State Fault Refusal :=
  s.runU fun u => emberStop c job shard u

/-- EMBER_ENABLE_CLEAR (R377). -/
def execEmberEnableClear (w : Who) (s : State) : Host.Outcome State Fault Refusal :=
  s.runU fun u => emberEnableClear w u

/-- EMB_CTL_START (R368). -/
def execEmbCtlStart (h : LHdr) (job shard cid ctx : Nat) (s : State) : Host.Outcome State Fault Refusal :=
  s.run fun m u => embCtlStart h job shard cid ctx m u

/-- EMB_CTL_ACK (R368). -/
def execEmbCtlAck (h : LHdr) (job shard cid ctx seq status : Nat) (s : State) : Host.Outcome State Fault Refusal :=
  s.runU fun u => embCtlAck h job shard cid ctx seq status u

/-- EMB_CTL_ROUTE (R368). -/
def execEmbCtlRoute (h : LHdr) (mode job shard cid ctx seq : Nat) (tags : List Nat) (s : State) : Host.Outcome State Fault Refusal :=
  s.runU fun u => embCtlRoute h mode job shard cid ctx seq tags u

/-- EMB_CTL_STOP (R376). -/
def execEmbCtlStop (h : LHdr) (job shard cid ctx seq : Nat) (s : State) : Host.Outcome State Fault Refusal :=
  s.runU fun u => embCtlStop h job shard cid ctx seq u

/-- EMB_TOKENS (R370). -/
def execEmbTokens (h : LHdr) (tag seq k set : Nat) (refs vecs : List Nat) (s : State) : Host.Outcome State Fault Refusal :=
  s.runU fun u => embTokens h tag seq k set refs vecs u

/-- EMB_RESULT (R372). -/
def execEmbResultMsg (h : LHdr) (tag seq k status set : Nat) (vecs : List Nat) (s : State) : Host.Outcome State Fault Refusal :=
  s.runU fun u => embResultMsg h tag seq k status set vecs u

/-- EMBER_BATCH_CLOSE (R371). -/
def execEmberBatchClose (s : State) : Host.Outcome State Fault Refusal :=
  s.runU fun u => emberBatchClose u

/-- EMBER_BATCH_DONE (R374). -/
def execEmberBatchDone (outs : List (List Nat)) (beats bytes : Nat) (s : State) : Host.Outcome State Fault Refusal :=
  s.runU fun u => emberBatchDone outs beats bytes u

/-- EMBER_RESULT_TIMEOUT (R372). -/
def execEmberResultTimeout (port ctx set : Nat) (s : State) : Host.Outcome State Fault Refusal :=
  s.runU fun u => emberResultTimeout port ctx set u

/-- EMBER_DRAIN_EXPIRY (R376). -/
def execEmberDrainExpiry (entry : Nat) (s : State) : Host.Outcome State Fault Refusal :=
  s.runU fun u => emberDrainExpiry entry u

/-- EMBER_IDLE_UNLOAD (R367). -/
def execEmberIdleUnload (s : State) : Host.Outcome State Fault Refusal :=
  s.runU fun u => emberIdleUnload u

end Sys2Proof.Machine
end

