-- ==== Sys2Proof/Machine/ExecFlicker.lean ====
section
/-!
DEFINITION. The meanings of the commands whose effects stand in Machine/Flicker.lean, on the whole state.
-/
namespace Sys2Proof.Machine

/-- GLIM (R68). -/
def execGlim (h : SHdr) (g : List Nat) (s : State) : Host.Outcome State Fault Refusal :=
  s.runU fun u => glim h g u

/-- FLICKER_LOAD_MODEL (R346). -/
def execFlickerLoadModel (c : Cmd) (region off : Nat) (s : State) : Host.Outcome State Fault Refusal :=
  s.run fun m u => flickerLoadModel c region off m u

/-- FLICKER_EVAL (R359). -/
def execFlickerEval (c : Cmd) (comp : Nat) (s : State) : Host.Outcome State Fault Refusal :=
  s.runU fun u => flickerEval c comp u

/-- FLICKER_RESET_HISTORY (R344). -/
def execFlickerResetHistory (c : Cmd) (comp : Nat) (s : State) : Host.Outcome State Fault Refusal :=
  s.runU fun u => flickerResetHistory c comp u

/-- FLICKER_ENABLE_CLEAR (R356). -/
def execFlickerEnableClear (w : Who) (s : State) : Host.Outcome State Fault Refusal :=
  s.runU fun u => flickerEnableClear w u

/-- FLICKER_EXTRACT_CLEAR (R356). -/
def execFlickerExtractClear (w : Who) (s : State) : Host.Outcome State Fault Refusal :=
  s.runU fun u => flickerExtractClear w u

/-- FLICKER_POLL (R338). -/
def execFlickerPoll (reads : List (Nat × Bool × List (Nat × Int × Nat))) (s : State) : Host.Outcome State Fault Refusal :=
  s.runU fun u => flickerPoll reads u

/-- FLICKER_GLIM_MISSING (R338). -/
def execFlickerGlimMissing (comp : Nat) (s : State) : Host.Outcome State Fault Refusal :=
  s.runU fun u => flickerGlimMissing comp u

/-- FLICKER_BUCKET_BOUNDARY (R341). -/
def execFlickerBucketBoundary (s : State) : Host.Outcome State Fault Refusal :=
  s.run fun m u => flickerBucketBoundary m u

/-- FLICKER_SWEEP (R348). -/
def execFlickerSweep (s : State) : Host.Outcome State Fault Refusal :=
  s.runU fun u => flickerSweep u

/-- FLICKER_TRIGGERED_EVAL (R348). -/
def execFlickerTriggeredEval (comp : Nat) (s : State) : Host.Outcome State Fault Refusal :=
  s.run fun m u => flickerTriggeredEval comp m u

/-- FLICKER_COMPLETION (R349). -/
def execFlickerCompletion (sweep kind : Nat) (entries : List (Nat × Nat × Nat × Nat × Nat)) (s : State) : Host.Outcome State Fault Refusal :=
  s.runU fun u => flickerCompletion sweep kind entries u

/-- FLICKER_STALE_EXPIRY (R343). -/
def execFlickerStaleExpiry (comp : Nat) (s : State) : Host.Outcome State Fault Refusal :=
  s.runU fun u => flickerStaleExpiry comp u

/-- FLICKER_PRESTAGE_RENEW (R352). -/
def execFlickerPrestageRenew (comp : Nat) (s : State) : Host.Outcome State Fault Refusal :=
  s.runU fun u => flickerPrestageRenew comp u

/-- FLICKER_CALIBRATION_HOUR (R358). -/
def execFlickerCalibrationHour (s : State) : Host.Outcome State Fault Refusal :=
  s.runU fun u => flickerCalibrationHour u

/-- FLICKER_FALSE_ALARM_HOUR (R357). -/
def execFlickerFalseAlarmHour (comp : Nat) (s : State) : Host.Outcome State Fault Refusal :=
  s.runU fun u => flickerFalseAlarmHour comp u

end Sys2Proof.Machine
end

