-- ==== Sys2Proof/Machine/ExecGrid.lean ====
section
/-!
DEFINITION. The meanings of the commands whose effects stand in Machine/Grid.lean, on the whole state.
-/
namespace Sys2Proof.Machine

/-- GRID_PACE_WRITE (R132). -/
def execGridPaceWrite (w : Who) (value : Nat) (s : State) : Host.Outcome State Fault Refusal :=
  s.runU fun u => gridPaceWrite w value u

/-- GRID_PART_DISABLE (R170). -/
def execGridPartDisable (w : Who) (part : Nat) (s : State) : Host.Outcome State Fault Refusal :=
  s.runU fun u => gridPartDisable w part u

/-- GRID_PART_ENABLE (R145). -/
def execGridPartEnable (w : Who) (part : Nat) (s : State) : Host.Outcome State Fault Refusal :=
  s.runU fun u => gridPartEnable w part u

/-- GRID_BEAT_WINDOW (R131). -/
def execGridBeatWindow (rates : List Nat) (temps : List Int) (s : State) : Host.Outcome State Fault Refusal :=
  s.runU fun u => gridBeatWindow rates temps u

/-- GRID_LOAD (R163). -/
def execGridLoad (c : Cmd) (region placement job off sub comp : Nat) (binds : List Nat) (listAddr : Nat) (s : State) : Host.Outcome State Fault Refusal :=
  s.run fun m u => gridLoad c region placement job off sub comp binds listAddr m u

/-- GRID_LOAD_COMPLETE (R163). -/
def execGridLoadComplete (slot : Nat) (digestOk signatureOk : Bool) (s : State) : Host.Outcome State Fault Refusal :=
  s.run fun m u => gridLoadComplete slot digestOk signatureOk m u

/-- GRID_START (R214). -/
def execGridStart (c : Cmd) (slot : Nat) (s : State) : Host.Outcome State Fault Refusal :=
  s.runU fun u => gridStart c slot u

/-- GRID_HALT (R165). -/
def execGridHalt (c : Cmd) (slot : Nat) (s : State) : Host.Outcome State Fault Refusal :=
  s.runU fun u => gridHalt c slot u

/-- GRID_HALT_COMPLETE (R165). -/
def execGridHaltComplete (slot : Nat) (s : State) : Host.Outcome State Fault Refusal :=
  s.runU fun u => gridHaltComplete slot u

/-- GRID_RESUME (R165). -/
def execGridResume (c : Cmd) (slot : Nat) (s : State) : Host.Outcome State Fault Refusal :=
  s.runU fun u => gridResume c slot u

/-- GRID_UNLOAD (R168). -/
def execGridUnload (c : Cmd) (slot : Nat) (s : State) : Host.Outcome State Fault Refusal :=
  s.runU fun u => gridUnload c slot u

/-- GRID_DIAG (R171). -/
def execGridDiag (c : Cmd) (taper : Nat) (s : State) : Host.Outcome State Fault Refusal :=
  s.runU fun u => gridDiag c taper u

/-- GRID_DIAG_COMPLETE (R171). -/
def execGridDiagComplete (taper : Nat) (pass routerOk : Bool) (s : State) : Host.Outcome State Fault Refusal :=
  s.runU fun u => gridDiagComplete taper pass routerOk u

/-- GRID_WATCHDOG_EXPIRY (R167). -/
def execGridWatchdogExpiry (slot : Nat) (s : State) : Host.Outcome State Fault Refusal :=
  s.runU fun u => gridWatchdogExpiry slot u

/-- MESH_MESSAGE_ARRIVE (R152). -/
def execMeshMessageArrive (src dst vc : Nat) (s : State) : Host.Outcome State Fault Refusal :=
  s.runU fun u => meshMessageArrive src dst vc u

/-- STREAM_ROW_DONE (R160). -/
def execStreamRowDone (taper : Nat) (row : RowDone) (s : State) : Host.Outcome State Fault Refusal :=
  s.run fun m u => streamRowDone taper row.chan row.ecc m u

/-- TAPER_WINDOW_ACCESS (R158). -/
def execTaperWindowAccess (w : Who) (taper off len : Nat) (write : Bool) (bytes : List Nat) (s : State) : Host.Outcome State Fault Refusal :=
  s.runU fun u => taperWindowAccess w taper off len write bytes u

end Sys2Proof.Machine
end

