-- ==== Sys2Proof/Machine/ExecIgtan.lean ====
section
/-!
DEFINITION. The meanings of the commands whose effects stand in Machine/Igtan.lean, on the whole state.
-/
namespace Sys2Proof.Machine

/-- APPLY_ACK (R73). -/
def execApplyAck (h : SHdr) (step status : Nat) (s : State) : Host.Outcome State Fault Refusal :=
  s.runU fun u => applyAck h step status u

/-- MGMT_FRAME (R81). -/
def execMgmtFrame (h : SHdr) (linkId index seq hop dst src : Nat) (inner : Inner) (plain : Option (List Nat)) (s : State) : Host.Outcome State Fault Refusal :=
  s.runU fun u => mgmtFrame h linkId index seq hop dst src inner.head inner.cls inner.len (plain.getD []) plain.isSome u

/-- RESERVED_CLASS_MESSAGE (R66). -/
def execReservedClassMessage (port cls len hdrGen : Nat) (s : State) : Host.Outcome State Fault Refusal :=
  s.runU fun u => reservedClassMessage port cls len hdrGen u

/-- APPLY_ACK_WAIT_EXPIRY (R73). -/
def execApplyAckWaitExpiry (port ctx : Nat) (s : State) : Host.Outcome State Fault Refusal :=
  s.runU fun u => applyAckWaitExpiry port ctx u

/-- IGTAN_BRINGUP (R84). -/
def execIgtanBringup (c : Cmd) (port : Nat) (s : State) : Host.Outcome State Fault Refusal :=
  s.runU fun u => igtanBringup c port u

/-- IGTAN_REG (R84). -/
def execIgtanReg (c : Cmd) (port off : Nat) (write : Bool) (count addr : Nat) (s : State) : Host.Outcome State Fault Refusal :=
  s.run fun m u => igtanReg c port off write count addr m u

end Sys2Proof.Machine
end

