-- ==== Sys2Proof/Machine/ExecLamp.lean ====
section
/-!
DEFINITION. The meanings of the commands whose effects stand in Machine/Lamp.lean, on the whole state.
-/
namespace Sys2Proof.Machine

/-- LAMP_AMEND (R512). -/
def execLampAmend (c : Cmd) (addr len : Nat) (a : Amendment) (s : State) : Host.Outcome State Fault Refusal :=
  s.runU fun u => lampAmend c addr len a u

/-- LAMP_UPDATE (R514). -/
def execLampUpdate (c : Cmd) (kind region off len : Nat) (im : UpImage) (same : Bool) (s : State) : Host.Outcome State Fault Refusal :=
  s.runU fun u => lampUpdate c kind region off len im same u

/-- LAMP_ACTIVATE (R515). -/
def execLampActivate (c : Cmd) (s : State) : Host.Outcome State Fault Refusal :=
  s.runU fun u => lampActivate c u

/-- QUIESCE_POINT_REACHED (R516). -/
def execQuiescePointReached (ready : Bool) (bad : List (Nat × Nat)) (s : State) : Host.Outcome State Fault Refusal :=
  s.runU fun u => quiescePointReached ready bad u

/-- QUIESCE_TIMEOUT (R515). -/
def execQuiesceTimeout (s : State) : Host.Outcome State Fault Refusal :=
  s.runU fun u => quiesceTimeout u

/-- ACTIVATION_READY_TIMEOUT (R516). -/
def execActivationReadyTimeout (s : State) : Host.Outcome State Fault Refusal :=
  s.runU fun u => activationReadyTimeout u

/-- TRIAL_COMMIT_TIMER (R517). -/
def execTrialCommitTimer (s : State) : Host.Outcome State Fault Refusal :=
  s.runU fun u => trialCommitTimer u

/-- TRIAL_START_TIMEOUT (R517). -/
def execTrialStartTimeout (s : State) : Host.Outcome State Fault Refusal :=
  s.runU fun u => trialStartTimeout u

/-- LAMP_CAL_WRITE (R521). -/
def execLampCalWrite (c : Cmd) (addr sigKey : Nat) (s : State) : Host.Outcome State Fault Refusal :=
  s.run fun m u => (m, lampCalWrite c addr sigKey m u)

/-- LAMP_OWNER_SET (R522). -/
def execLampOwnerSet (c : Cmd) (count idx addr sigKey : Nat) (s : State) : Host.Outcome State Fault Refusal :=
  s.run fun m u => (m, lampOwnerSet c count idx addr sigKey m u)

/-- LAMP_OWNER_CLEAR (R522). -/
def execLampOwnerClear (c : Cmd) (s : State) : Host.Outcome State Fault Refusal :=
  s.runU fun u => lampOwnerClear c u

/-- LOCKSTEP_MISMATCH (R502). -/
def execLockstepMismatch (s : State) : Host.Outcome State Fault Refusal :=
  s.runU fun u => lockstepMismatch u

/-- LAMP_WATCHDOG_EXPIRY (R502). -/
def execLampWatchdogExpiry (s : State) : Host.Outcome State Fault Refusal :=
  s.runU fun u => lampWatchdogExpiry u

/-- ENTROPY_HEALTH_FAIL (R504). -/
def execEntropyHealthFail (s : State) : Host.Outcome State Fault Refusal :=
  s.runU fun u => entropyHealthFail u

/-- ENTROPY_HEALTH_PASS (R504). -/
def execEntropyHealthPass (s : State) : Host.Outcome State Fault Refusal :=
  s.runU fun u => entropyHealthPass u

/-- OP_TIME_TICK (R519). -/
def execOpTimeTick (s : State) : Host.Outcome State Fault Refusal :=
  s.runU fun u => opTimeTick u

/-- SPDM_REQUEST (R506). -/
def execSpdmRequest (path req slot : Nat) (s : State) : Host.Outcome State Fault Refusal :=
  s.runU fun u => spdmRequest path req slot u

/-- PLDM_REQUEST (R506). -/
def execPldmRequest (path : Nat) (r : Pldm) (s : State) : Host.Outcome State Fault Refusal :=
  s.runU fun u => pldmRequest path r u

end Sys2Proof.Machine
end

