-- ==== Sys2Proof/Machine/ExecLedger.lean ====
section
/-!
DEFINITION. The meanings of the commands whose effects stand in Machine/Ledger.lean, on the whole state.
-/
namespace Sys2Proof.Machine

/-- ACTIVITY_REPORT (R78). -/
def execActivityReport (h : SHdr) (tick flags interval : Nat) (ctxs : List (Nat × List Nat)) (streams : List (Nat × Nat × Nat)) (s : State) : Host.Outcome State Fault Refusal :=
  s.runU fun u => activityReport h tick flags interval ctxs streams u

/-- STREAM_TOKENS (R384). -/
def execStreamTokens (h : SHdr) (ref count flags len : Nat) (toks : List Nat) (s : State) : Host.Outcome State Fault Refusal :=
  s.run fun m u => streamTokens h ref count flags len toks m u

/-- STREAM_MOVE (R389). -/
def execStreamMove (h : LHdr) (index cid ctx : Nat) (ent : Option StreamEnt) (toks : List Nat) (s : State) : Host.Outcome State Fault Refusal :=
  s.run fun m u => streamMove h index cid ctx ent toks m u

/-- STREAM_MOVE_RESPONSE (R389). -/
def execStreamMoveResponse (h : LHdr) (index status : Nat) (s : State) : Host.Outcome State Fault Refusal :=
  s.run fun m u => (m, streamMoveResponse h index status m u)

/-- STREAM_OPEN (R382). -/
def execStreamOpen (c : Cmd) (port ctx client : Nat) (s : State) : Host.Outcome State Fault Refusal :=
  s.run fun m u => streamOpen c port ctx client m u

/-- STREAM_CLOSE (R382). -/
def execStreamClose (c : Cmd) (ref : Nat) (s : State) : Host.Outcome State Fault Refusal :=
  s.runU fun u => streamClose c ref u

/-- STREAM_CANCEL (R382). -/
def execStreamCancel (c : Cmd) (ref : Nat) (s : State) : Host.Outcome State Fault Refusal :=
  s.runU fun u => streamCancel c ref u

/-- LEDGER_BIND_RING (R405). -/
def execLedgerBindRing (c : Cmd) (ring : Nat) (s : State) : Host.Outcome State Fault Refusal :=
  s.runU fun u => ledgerBindRing c ring u

/-- LEDGER_TICK (R390). -/
def execLedgerTick (s : State) : Host.Outcome State Fault Refusal :=
  s.runU fun u => ledgerTick u

/-- PMBUS_READ_DONE (R391). -/
def execPmbusReadDone (chan : Nat) (eout : Bool) (nj : Nat) (s : State) : Host.Outcome State Fault Refusal :=
  s.runU fun u => pmbusReadDone chan eout nj u

/-- PMBUS_READ_TIMEOUT (R391). -/
def execPmbusReadTimeout (chan : Nat) (eout : Bool) (s : State) : Host.Outcome State Fault Refusal :=
  s.runU fun u => pmbusReadTimeout chan eout u

/-- LEDGER_METER_LOST_EXPIRY (R391). -/
def execLedgerMeterLostExpiry (chan : Nat) (s : State) : Host.Outcome State Fault Refusal :=
  s.runU fun u => ledgerMeterLostExpiry chan u

/-- LEDGER_APPORTION (R392). -/
def execLedgerApportion (export_ : Nat) (s : State) : Host.Outcome State Fault Refusal :=
  s.runU fun u => ledgerApportion export_ u

/-- LEDGER_INTERVAL_BOUNDARY (R401). -/
def execLedgerIntervalBoundary (s : State) : Host.Outcome State Fault Refusal :=
  s.run fun m u => ledgerIntervalBoundary m u

/-- LEDGER_RECORD_SIGNED (R402). -/
def execLedgerRecordSigned (s : State) : Host.Outcome State Fault Refusal :=
  s.runU fun u => ledgerRecordSigned u

/-- LEDGER_RECORD_DURABLE (R404). -/
def execLedgerRecordDurable (s : State) : Host.Outcome State Fault Refusal :=
  s.runU fun u => ledgerRecordDurable u

/-- LEDGER_ACK_SEQ_WRITE (R405). -/
def execLedgerAckSeqWrite (w : Who) (value : Nat) (s : State) : Host.Outcome State Fault Refusal :=
  s.runU fun u => ledgerAckSeqWrite w value u

/-- LEDGER_CHARGE_SEND (R396). -/
def execLedgerChargeSend (s : State) : Host.Outcome State Fault Refusal :=
  s.runU fun u => ledgerChargeSend u

/-- LEDGER_CHARGE (R396). -/
def execLedgerCharge (h : LHdr) (seq first : Nat) (charges : List (Nat × Nat)) (s : State) : Host.Outcome State Fault Refusal :=
  s.runU fun u => ledgerCharge h seq first charges u

/-- LEDGER_CHARGE_ACK (R396). -/
def execLedgerChargeAck (h : LHdr) (seq status : Nat) (s : State) : Host.Outcome State Fault Refusal :=
  s.runU fun u => ledgerChargeAck h seq status u

/-- LEDGER_CHARGE_RESEND (R396). -/
def execLedgerChargeResend (dst seq : Nat) (s : State) : Host.Outcome State Fault Refusal :=
  s.runU fun u => ledgerChargeResend dst seq u

/-- STREAM_CLOSING_WAIT_EXPIRY (R396). -/
def execStreamClosingWaitExpiry (index : Nat) (s : State) : Host.Outcome State Fault Refusal :=
  s.runU fun u => streamClosingWaitExpiry index u

/-- TALLOW_FORMAT (R479). -/
def execTallowFormat (c : Cmd) (s : State) : Host.Outcome State Fault Refusal :=
  s.runU fun u => tallowFormat c u

end Sys2Proof.Machine
end

