-- ==== Sys2Proof/Machine/ExecLinks.lean ====
section
/-!
DEFINITION. The meanings of the commands whose effects stand in Machine/Links.lean, on the whole state.
-/
namespace Sys2Proof.Machine

/-- LINK_ENABLE (R96). -/
def execLinkEnable (w : Who) (port : Nat) (s : State) : Host.Outcome State Fault Refusal :=
  s.runU fun u => linkEnable w port u

/-- LINK_DISABLE (R106). -/
def execLinkDisable (w : Who) (port : Nat) (s : State) : Host.Outcome State Fault Refusal :=
  s.runU fun u => linkDisable w port u

/-- LINK_RETRAIN (R95). -/
def execLinkRetrain (w : Who) (port : Nat) (s : State) : Host.Outcome State Fault Refusal :=
  s.runU fun u => linkRetrain w port u

/-- LINK_FULL_RETRAIN (R95). -/
def execLinkFullRetrain (w : Who) (port : Nat) (s : State) : Host.Outcome State Fault Refusal :=
  s.runU fun u => linkFullRetrain w port u

/-- LINK_LANE_RETEST (R101). -/
def execLinkLaneRetest (w : Who) (port : Nat) (s : State) : Host.Outcome State Fault Refusal :=
  s.runU fun u => linkLaneRetest w port u

/-- FRAME_DATA (R89). -/
def execFrameData (port : Nat) (f : FrameHdr) (body : List Nat) (s : State) : Host.Outcome State Fault Refusal :=
  s.runU fun u => frameData port f body u

/-- FRAME_IDLE (R91). -/
def execFrameIdle (port : Nat) (f : FrameHdr) (s : State) : Host.Outcome State Fault Refusal :=
  s.runU fun u => frameIdle port f u

/-- FRAME_REPLAY_REQ (R93). -/
def execFrameReplayReq (port : Nat) (f : FrameHdr) (s : State) : Host.Outcome State Fault Refusal :=
  s.runU fun u => frameReplayReq port f u

/-- FRAME_LANE_CHANGE (R100). -/
def execFrameLaneChange (port : Nat) (f : FrameHdr) (map kind : Nat) (s : State) : Host.Outcome State Fault Refusal :=
  s.runU fun u => frameLaneChange port f map kind u

/-- FRAME_BLOCK_CREDIT (R92). -/
def execFrameBlockCredit (port : Nat) (f : FrameHdr) (entries : List Nat) (s : State) : Host.Outcome State Fault Refusal :=
  s.runU fun u => frameBlockCredit port f entries u

/-- FRAME_PARAM (R97). -/
def execFrameParam (port : Nat) (f : FrameHdr) (body : List Nat) (s : State) : Host.Outcome State Fault Refusal :=
  s.runU fun u => frameParam port f body u

/-- FRAME_BAD (R90). -/
def execFrameBad (port : Nat) (bursts uncorr : List (Nat × Nat)) (s : State) : Host.Outcome State Fault Refusal :=
  s.runU fun u => frameBad port bursts uncorr u

/-- LINK_REPLAY_TIMEOUT (R93). -/
def execLinkReplayTimeout (port : Nat) (asSender : Bool) (s : State) : Host.Outcome State Fault Refusal :=
  s.runU fun u => linkReplayTimeout port asSender u

/-- LINK_STATE_TIMEOUT (R96). -/
def execLinkStateTimeout (port : Nat) (s : State) : Host.Outcome State Fault Refusal :=
  s.runU fun u => linkStateTimeout port u

/-- PMD_TRAIN_DONE (R96). -/
def execPmdTrainDone (port : Nat) (s : State) : Host.Outcome State Fault Refusal :=
  s.runU fun u => pmdTrainDone port u

/-- ALIGN_DONE (R96). -/
def execAlignDone (port locked : Nat) (reversed permuted : Bool) (s : State) : Host.Outcome State Fault Refusal :=
  s.runU fun u => alignDone port locked reversed permuted u

/-- PARAM_SEND_TIMER (R97). -/
def execParamSendTimer (port : Nat) (s : State) : Host.Outcome State Fault Refusal :=
  s.runU fun u => paramSendTimer port u

/-- LANE_CHANGE_TIMEOUT (R100). -/
def execLaneChangeTimeout (port : Nat) (s : State) : Host.Outcome State Fault Refusal :=
  s.runU fun u => laneChangeTimeout port u

/-- FAST_RETRAIN_DONE (R95). -/
def execFastRetrainDone (port : Nat) (ok : Bool) (peerAck : Nat) (s : State) : Host.Outcome State Fault Refusal :=
  s.runU fun u => fastRetrainDone port ok peerAck u

/-- FULL_RETRAIN_DONE (R95). -/
def execFullRetrainDone (port : Nat) (ok : Bool) (s : State) : Host.Outcome State Fault Refusal :=
  s.runU fun u => fullRetrainDone port ok u

/-- LANE_SER_WINDOW (R98). -/
def execLaneSerWindow (port : Nat) (w : SerWindow) (corrected margins : List Nat) (s : State) : Host.Outcome State Fault Refusal :=
  s.runU fun u => laneSerWindow port w.errs w.syms corrected margins u

/-- LANE_RETEST_END (R101). -/
def execLaneRetestEnd (port pass : Nat) (s : State) : Host.Outcome State Fault Refusal :=
  s.runU fun u => laneRetestEnd port pass u

/-- LINK_DRAIN_TIMEOUT (R106). -/
def execLinkDrainTimeout (port : Nat) (s : State) : Host.Outcome State Fault Refusal :=
  s.runU fun u => linkDrainTimeout port u

/-- LANTERN_FORWARD (R105). -/
def execLanternForward (h : LHdr) (dst cls kind level : Nat) (bytes : List Nat) (s : State) : Host.Outcome State Fault Refusal :=
  s.runU fun u => lanternForward h dst cls kind level bytes u

end Sys2Proof.Machine
end

