-- ==== Sys2Proof/Machine/ExecMantleOps.lean ====
section
/-!
DEFINITION. The meanings of the commands whose effects stand in Machine/MantleOps.lean, on the whole state.
-/
namespace Sys2Proof.Machine

/-- MANTLE_READ (R113). -/
def execMantleRead (r : Requester) (addr len : Nat) (ecc : List Nat) (s : State) : Host.Outcome State Fault Refusal :=
  s.run fun m u => mantleRead r.act r.agent addr len ecc m u

/-- MANTLE_WRITE (R113). -/
def execMantleWrite (r : Requester) (addr tag ctxKey : Nat) (bytes : List Nat) (s : State) : Host.Outcome State Fault Refusal :=
  s.run fun m u => mantleWrite r.act r.agent addr tag ctxKey bytes m u

/-- FB_WRITEBACK (R116). -/
def execFbWriteback (line : Nat) (s : State) : Host.Outcome State Fault Refusal :=
  s.run fun m u => fbWriteback line m u

/-- BAR2_ACCESS (R125). -/
def execBar2Access (write : Bool) (addr len : Nat) (d : Bar2Data) (s : State) : Host.Outcome State Fault Refusal :=
  s.run fun m u => bar2Access write addr len d.bytes d.ecc m u

/-- MANTLE_REGION_ALLOCATE (R118). -/
def execMantleRegionAllocate (r : Region) (bytes : Nat) (recovery : Bool) (s : State) : Host.Outcome State Fault Refusal :=
  s.runU fun u => mantleRegionAllocate r bytes recovery u

/-- MANTLE_QUIET_EXPIRY (R124). -/
def execMantleQuietExpiry (page : Nat) (s : State) : Host.Outcome State Fault Refusal :=
  s.runU fun u => mantleQuietExpiry page u

/-- PAGE_ZERO_DONE (R124). -/
def execPageZeroDone (page : Nat) (s : State) : Host.Outcome State Fault Refusal :=
  s.run fun m u => pageZeroDone page m u

/-- PATROL_SCRUB (R110). -/
def execPatrolScrub (ecc : Nat) (s : State) : Host.Outcome State Fault Refusal :=
  s.run fun m u => patrolScrub ecc m u

/-- STACK_UNRESPONSIVE (R112). -/
def execStackUnresponsive (stack : Nat) (s : State) : Host.Outcome State Fault Refusal :=
  s.runU fun u => stackUnresponsive stack u

/-- FREE_PAGE_REPORT (R127). -/
def execFreePageReport (s : State) : Host.Outcome State Fault Refusal :=
  s.runU fun u => freePageReport u

/-- MANTLE_ECC_CLR (R129). -/
def execMantleEccClr (w : Who) (value : Nat) (s : State) : Host.Outcome State Fault Refusal :=
  s.runU fun u => mantleEccClr w value u

/-- MANTLE_FREE (R124). -/
def execMantleFree (c : Cmd) (region : Nat) (s : State) : Host.Outcome State Fault Refusal :=
  s.runU fun u => mantleFree c region u

/-- MANTLE_SET_ACCESS (R126). -/
def execMantleSetAccess (c : Cmd) (region mask : Nat) (hostVisible : Bool) (s : State) : Host.Outcome State Fault Refusal :=
  s.runU fun u => mantleSetAccess c region mask hostVisible u

end Sys2Proof.Machine
end

