-- ==== Sys2Proof/Machine/ExecPower.lean ====
section
/-!
DEFINITION. The meanings of the commands whose effects stand in Machine/Power.lean, on the whole state.
-/
namespace Sys2Proof.Machine

/-- PWR_FAIL_ASSERT (R538). -/
def execPwrFailAssert (s : State) : Host.Outcome State Fault Refusal :=
  s.runU fun u => pwrFailAssert u

/-- PWR_FAIL_DEASSERT (R539). -/
def execPwrFailDeassert (s : State) : Host.Outcome State Fault Refusal :=
  s.runU fun u => pwrFailDeassert u

/-- POWER_START_REQUEST (R534). -/
def execPowerStartRequest (kind port ctx : Nat) (recovery : Bool) (s : State) : Host.Outcome State Fault Refusal :=
  s.runU fun u => powerStartRequest kind port ctx recovery u

/-- POWER_WINDOW_LEAVE (R534). -/
def execPowerWindowLeave (s : State) : Host.Outcome State Fault Refusal :=
  s.runU fun u => powerWindowLeave u

/-- PWRSEQ_POS (R536). -/
def execPwrseqPos (c : Cmd) (port action : Nat) (s : State) : Host.Outcome State Fault Refusal :=
  s.runU fun u => pwrseqPos c port action u

/-- POS_PG_TIMEOUT (R536). -/
def execPosPgTimeout (port : Nat) (s : State) : Host.Outcome State Fault Refusal :=
  s.runU fun u => posPgTimeout port u

/-- OVERTEMP_ENTER (R540). -/
def execOvertempEnter (s : State) : Host.Outcome State Fault Refusal :=
  s.runU fun u => overtempEnter u

/-- OVERTEMP_END (R540). -/
def execOvertempEnd (s : State) : Host.Outcome State Fault Refusal :=
  s.runU fun u => overtempEnd u

/-- POS_PG_ASSERT (R536). -/
def execPosPgAssert (port : Nat) (s : State) : Host.Outcome State Fault Refusal :=
  s.runU fun u => posPgAssert port u

/-- POS_CYCLE_POWER_ON (R536). -/
def execPosCyclePowerOn (port : Nat) (s : State) : Host.Outcome State Fault Refusal :=
  s.runU fun u => posCyclePowerOn port u

end Sys2Proof.Machine
end

