-- ==== Sys2Proof/Machine/ExecRcvOps.lean ====
section
/-!
DEFINITION. The meanings of the commands whose effects stand in Machine/RcvOps.lean, on the whole state.
-/
namespace Sys2Proof.Machine

/-- SHARD_FP_REPORT (R322). -/
def execShardFpReport (h : SHdr) (step elems fp shard : Nat) (s : State) : Host.Outcome State Fault Refusal :=
  s.runU fun u => shardFpReport h step elems fp shard u

/-- RESTORE_ACK (R327). -/
def execRestoreAck (h : SHdr) (step shard written : Nat) (s : State) : Host.Outcome State Fault Refusal :=
  s.run fun m u => restoreAck h step shard written m u

/-- RECOVERY_RESPONSE (R321). -/
def execRecoveryResponse (h : SHdr) (kind status : Nat) (s : State) : Host.Outcome State Fault Refusal :=
  s.runU fun u => recoveryResponse h kind status u

/-- RCV_QUERY (R314). -/
def execRcvQuery (h : LHdr) (job seq coord : Nat) (s : State) : Host.Outcome State Fault Refusal :=
  s.runU fun u => rcvQuery h job seq coord u

/-- RCV_STATE (R315). -/
def execRcvState (h : LHdr) (job seq released count : Nat) (steps : List Nat) (s : State) : Host.Outcome State Fault Refusal :=
  s.run fun m u => rcvState h job seq released count steps m u

/-- RCV_QUERY_TIMEOUT (R314). -/
def execRcvQueryTimeout (job : Nat) (s : State) : Host.Outcome State Fault Refusal :=
  s.run fun m u => rcvQueryTimeout job m u

/-- RCV_POINT (R317). -/
def execRcvPoint (h : LHdr) (job seq r : Nat) (roll : Bool) (failed : List (Nat × Nat)) (s : State) : Host.Outcome State Fault Refusal :=
  s.run fun m u => rcvPoint h job seq r roll failed m u

/-- RCV_READY (R318). -/
def execRcvReady (h : LHdr) (job seq status : Nat) (s : State) : Host.Outcome State Fault Refusal :=
  s.runU fun u => rcvReady h job seq status u

/-- RCV_RESUME (R319). -/
def execRcvResume (h : LHdr) (job seq : Nat) (s : State) : Host.Outcome State Fault Refusal :=
  s.runU fun u => rcvResume h job seq u

/-- RCV_RESUME_TIMEOUT (R314). -/
def execRcvResumeTimeout (job : Nat) (s : State) : Host.Outcome State Fault Refusal :=
  s.runU fun u => rcvResumeTimeout job u

/-- RCV_RELEASE (R323). -/
def execRcvRelease (c : Cmd) (job : Nat) (s : State) : Host.Outcome State Fault Refusal :=
  s.run fun m u => rcvRelease c job m u

/-- RCV_SPARE_SET (R335). -/
def execRcvSpareSet (c : Cmd) (cid port state group : Nat) (s : State) : Host.Outcome State Fault Refusal :=
  s.runU fun u => rcvSpareSet c cid port state group u

/-- SPARE_REQ (R325). -/
def execSpareReq (h : LHdr) (pos job action a : Nat) (s : State) : Host.Outcome State Fault Refusal :=
  s.runU fun u => spareReq h pos job action a u

/-- SPARE_GRANT (R326). -/
def execSpareGrant (h : LHdr) (pos spareCid port version status : Nat) (s : State) : Host.Outcome State Fault Refusal :=
  s.runU fun u => spareGrant h pos spareCid port version status u

/-- RCV_PREP_TIMEOUT (R326). -/
def execRcvPrepTimeout (pos port : Nat) (s : State) : Host.Outcome State Fault Refusal :=
  s.runU fun u => rcvPrepTimeout pos port u

/-- PRESTAGE_HOLD_EXPIRY (R352). -/
def execPrestageHoldExpiry (pos : Nat) (s : State) : Host.Outcome State Fault Refusal :=
  s.runU fun u => prestageHoldExpiry pos u

/-- RELOAD_REQ (R327). -/
def execReloadReq (h : LHdr) (shard kind step first : Nat) (s : State) : Host.Outcome State Fault Refusal :=
  s.run fun m u => reloadReq h shard kind step first m u

/-- RELOAD_BLOCK (R327). -/
def execReloadBlock (h : LHdr) (b : Blk) (s : State) : Host.Outcome State Fault Refusal :=
  s.run fun m u => reloadBlock h b m u

/-- RELOAD_ACK (R327). -/
def execReloadAck (h : LHdr) (shard step written status : Nat) (s : State) : Host.Outcome State Fault Refusal :=
  s.run fun m u => reloadAck h shard step written status m u

/-- RELOAD_REC (R326). -/
def execReloadRec (h : LHdr) (r : CommitRec) (mode comps prog key params : Nat) (fmts : List Nat) (interval flags gateMs epoch first sparams : Nat) (s : State) : Host.Outcome State Fault Refusal :=
  s.runU fun u => reloadRec h r mode comps prog key params fmts interval flags gateMs epoch first sparams u

end Sys2Proof.Machine
end

