-- ==== Sys2Proof/Machine/ExecRegs.lean ====
section
/-!
DEFINITION. The meanings of the commands whose effects stand in Machine/Regs.lean, on the whole state.
-/
namespace Sys2Proof.Machine

/-- REGISTER_WRITE (R9). -/
def execRegisterWrite (w : Who) (addr value : Nat) (s : State) : Host.Outcome State Fault Refusal :=
  s.runU fun u => registerWrite w addr value u

/-- REG64_LOW_READ (R11). -/
def execReg64LowRead (w : Who) (addr : Nat) (s : State) : Host.Outcome State Fault Refusal :=
  s.runU fun u => reg64LowRead w addr u

/-- REG64_LOW_WRITE (R12). -/
def execReg64LowWrite (w : Who) (addr value : Nat) (s : State) : Host.Outcome State Fault Refusal :=
  s.runU fun u => reg64LowWrite w addr value u

/-- REG_READ_CLEAR (R9). -/
def execRegReadClear (w : Who) (addr : Nat) (s : State) : Host.Outcome State Fault Refusal :=
  s.runU fun u => regReadClear w addr u

/-- MB_SET_MODE (R452). -/
def execMbSetMode (c : Cmd) (mode : Nat) (s : State) : Host.Outcome State Fault Refusal :=
  s.runU fun u => mbSetMode c mode u

/-- UNIT_DRAIN_TIMEOUT (R144). -/
def execUnitDrainTimeout (unit : Nat) (s : State) : Host.Outcome State Fault Refusal :=
  s.runU fun u => unitDrainTimeout unit u

/-- UNIT_DRAIN_END (R144). -/
def execUnitDrainEnd (unit : Nat) (s : State) : Host.Outcome State Fault Refusal :=
  s.runU fun u => unitDrainEnd unit u

/-- MANTLE_ALLOC (R126). -/
def execMantleAlloc (c : Cmd) (typ : Nat) (hostVisible : Bool) (cid ctx mask bytes : Nat) (s : State) : Host.Outcome State Fault Refusal :=
  s.runU fun u => mantleAlloc c typ hostVisible cid ctx mask bytes u

/-- REG64_HIGH_WRITE (R12). -/
def execReg64HighWrite (w : Who) (addr value : Nat) (s : State) : Host.Outcome State Fault Refusal :=
  s.runU fun u => reg64HighWrite w addr value u

end Sys2Proof.Machine
end

