-- ==== Sys2Proof/Machine/ExecRings.lean ====
section
/-!
DEFINITION. The meanings of the commands whose effects stand in Machine/Rings.lean, on the whole state.
-/
namespace Sys2Proof.Machine

/-- RING_FLUSH (R458). -/
def execRingFlush (c : Cmd) (s : State) : Host.Outcome State Fault Refusal :=
  s.runU fun u => ringFlush c u

/-- RING_PROD_IDX_WRITE (R455). -/
def execRingProdIdxWrite (w : Who) (ring value : Nat) (entries : List CmdEntry) (s : State) : Host.Outcome State Fault Refusal :=
  s.runU fun u => ringProdIdxWrite w ring value entries u

/-- RING_CONS_IDX_WRITE (R455). -/
def execRingConsIdxWrite (w : Who) (ring value : Nat) (s : State) : Host.Outcome State Fault Refusal :=
  s.runU fun u => ringConsIdxWrite w ring value u

/-- RING_ENABLE_SET (R454). -/
def execRingEnableSet (w : Who) (ring : Nat) (s : State) : Host.Outcome State Fault Refusal :=
  s.runU fun u => ringEnableSet w ring u

/-- RING_ENABLE_CLEAR (R461). -/
def execRingEnableClear (w : Who) (ring : Nat) (s : State) : Host.Outcome State Fault Refusal :=
  s.runU fun u => ringEnableClear w ring u

/-- RING_DRAIN_END (R461). -/
def execRingDrainEnd (ring : Nat) (s : State) : Host.Outcome State Fault Refusal :=
  s.runU fun u => ringDrainEnd ring u

/-- MB_POST (R448). -/
def execMbPost (w : Who) (chan count : Nat) (s : State) : Host.Outcome State Fault Refusal :=
  s.runU fun u => mbPost w chan count u

/-- MB_ACKNOWLEDGE (R448). -/
def execMbAcknowledge (chan code : Nat) (s : State) : Host.Outcome State Fault Refusal :=
  s.runU fun u => mbAcknowledge chan code u

/-- MB_RETURN_POST (R448). -/
def execMbReturnPost (chan : Nat) (words : List Nat) (s : State) : Host.Outcome State Fault Refusal :=
  s.runU fun u => mbReturnPost chan words u

/-- MB_RET_ACK (R448). -/
def execMbRetAck (w : Who) (chan value : Nat) (s : State) : Host.Outcome State Fault Refusal :=
  s.runU fun u => mbRetAck w chan value u

/-- MB_DB_SET (R449). -/
def execMbDbSet (w : Who) (chan value : Nat) (s : State) : Host.Outcome State Fault Refusal :=
  s.runU fun u => mbDbSet w chan value u

/-- MB_DB_CLEAR (R449). -/
def execMbDbClear (w : Who) (chan value : Nat) (s : State) : Host.Outcome State Fault Refusal :=
  s.runU fun u => mbDbClear w chan value u

/-- MB_DB_MASK_WRITE (R449). -/
def execMbDbMaskWrite (w : Who) (chan value : Nat) (s : State) : Host.Outcome State Fault Refusal :=
  s.runU fun u => mbDbMaskWrite w chan value u

/-- MB_BIND_WRITE (R450). -/
def execMbBindWrite (w : Who) (chan value : Nat) (s : State) : Host.Outcome State Fault Refusal :=
  s.runU fun u => mbBindWrite w chan value u

end Sys2Proof.Machine
end

