-- ==== Sys2Proof/Machine/ExecRoles.lean ====
section
/-!
DEFINITION. The meanings of the commands whose effects stand in Machine/Roles.lean, on the whole state.
-/
namespace Sys2Proof.Machine

/-- LEASE_RENEW_TIMER (R36). -/
def execLeaseRenewTimer (role : Nat) (s : State) : Host.Outcome State Fault Refusal :=
  s.runU fun u => leaseRenewTimer role u

/-- LEASE_RETRY_TIMER (R36). -/
def execLeaseRetryTimer (role : Nat) (s : State) : Host.Outcome State Fault Refusal :=
  s.runU fun u => leaseRetryTimer role u

/-- LEASE_REQUEST (R36). -/
def execLeaseRequest (h : LHdr) (role epoch wepoch reqSeq : Nat) (s : State) : Host.Outcome State Fault Refusal :=
  s.runU fun u => leaseRequest h role epoch wepoch reqSeq u

/-- LEASE_GRANT (R36). -/
def execLeaseGrant (h : LHdr) (role epoch wepoch reqSeq lease holder : Nat) (s : State) : Host.Outcome State Fault Refusal :=
  s.runU fun u => leaseGrant h role epoch wepoch reqSeq lease holder u

/-- LEASE_RELEASE (R48). -/
def execLeaseRelease (h : LHdr) (role epoch wepoch : Nat) (s : State) : Host.Outcome State Fault Refusal :=
  s.runU fun u => leaseRelease h role epoch wepoch u

/-- LEASE_REFUSE (R37). -/
def execLeaseRefuse (h : LHdr) (role epoch wepoch : Nat) (s : State) : Host.Outcome State Fault Refusal :=
  s.runU fun u => leaseRefuse h role epoch wepoch u

/-- HOLDER_LEASE_EXPIRY (R37). -/
def execHolderLeaseExpiry (role : Nat) (s : State) : Host.Outcome State Fault Refusal :=
  s.runU fun u => holderLeaseExpiry role u

/-- ROLE_HB_SEND (R38). -/
def execRoleHbSend (role : Nat) (s : State) : Host.Outcome State Fault Refusal :=
  s.runU fun u => roleHbSend role u

/-- ROLE_HB (R38). -/
def execRoleHb (h : LHdr) (role epoch sender ready jpos : Nat) (s : State) : Host.Outcome State Fault Refusal :=
  s.runU fun u => roleHb h role epoch sender ready jpos u

/-- PILOT_HB_MISS (R38). -/
def execPilotHbMiss (role : Nat) (s : State) : Host.Outcome State Fault Refusal :=
  s.runU fun u => pilotHbMiss role u

/-- TAKEOVER_REQUEST (R38). -/
def execTakeoverRequest (h : LHdr) (role epoch ready wepoch pilot : Nat) (s : State) : Host.Outcome State Fault Refusal :=
  s.runU fun u => takeoverRequest h role epoch ready wepoch pilot u

/-- WITNESS_LEASE_GUARD_EXPIRY (R38). -/
def execWitnessLeaseGuardExpiry (role : Nat) (s : State) : Host.Outcome State Fault Refusal :=
  s.runU fun u => witnessLeaseGuardExpiry role u

/-- TAKEOVER_GRANT (R38). -/
def execTakeoverGrant (h : LHdr) (role epoch wepoch pilot : Nat) (s : State) : Host.Outcome State Fault Refusal :=
  s.runU fun u => takeoverGrant h role epoch wepoch pilot u

/-- TAKEOVER_NOT_YET (R38). -/
def execTakeoverNotYet (h : LHdr) (role epoch wepoch : Nat) (s : State) : Host.Outcome State Fault Refusal :=
  s.runU fun u => takeoverNotYet h role epoch wepoch u

/-- ROLE_REBUILD_DONE (R44). -/
def execRoleRebuildDone (role : Nat) (s : State) : Host.Outcome State Fault Refusal :=
  s.runU fun u => roleRebuildDone role u

/-- WITNESS_STORE (R41). -/
def execWitnessStore (h : LHdr) (wepoch role epoch holder expiry seq : Nat) (s : State) : Host.Outcome State Fault Refusal :=
  s.runU fun u => witnessStore h wepoch role epoch holder expiry seq u

/-- WITNESS_STORE_ACK (R41). -/
def execWitnessStoreAck (h : LHdr) (wepoch role epoch seq : Nat) (s : State) : Host.Outcome State Fault Refusal :=
  s.runU fun u => witnessStoreAck h wepoch role epoch seq u

/-- WITNESS_STORE_ACK_TIMEOUT (R41). -/
def execWitnessStoreAckTimeout (role seq : Nat) (s : State) : Host.Outcome State Fault Refusal :=
  s.runU fun u => witnessStoreAckTimeout role seq u

/-- WITNESS_HB_SEND (R42). -/
def execWitnessHbSend (role : Nat) (s : State) : Host.Outcome State Fault Refusal :=
  s.runU fun u => witnessHbSend role u

/-- WITNESS_HEARTBEAT (R42). -/
def execWitnessHeartbeat (h : LHdr) (wepoch role : Nat) (s : State) : Host.Outcome State Fault Refusal :=
  s.runU fun u => witnessHeartbeat h wepoch role u

/-- STANDBY_SILENCE_EXPIRY (R42). -/
def execStandbySilenceExpiry (role : Nat) (s : State) : Host.Outcome State Fault Refusal :=
  s.runU fun u => standbySilenceExpiry role u

/-- JOURNAL (R44). -/
def execJournal (h : LHdr) (role epoch pos : Nat) (image : Bool) (entries : List (List Nat)) (s : State) : Host.Outcome State Fault Refusal :=
  s.runU fun u => journal h role epoch pos image entries u

/-- JOURNAL_CHECK_TIMER (R44). -/
def execJournalCheckTimer (role : Nat) (s : State) : Host.Outcome State Fault Refusal :=
  s.runU fun u => journalCheckTimer role u

/-- JOURNAL_CHECK (R44). -/
def execJournalCheck (h : LHdr) (role epoch jpos fp status : Nat) (s : State) : Host.Outcome State Fault Refusal :=
  s.runU fun u => journalCheck h role epoch jpos fp status u

/-- EPOCH (R38). -/
def execEpoch (h : LHdr) (role epoch holder : Nat) (s : State) : Host.Outcome State Fault Refusal :=
  s.runU fun u => Machine.epoch h role epoch holder u

/-- ROLE_VACANT_TIMER (R43). -/
def execRoleVacantTimer (role : Nat) (s : State) : Host.Outcome State Fault Refusal :=
  s.runU fun u => roleVacantTimer role u

/-- ROUTE_VERSION (R51). -/
def execRouteVersion (h : LHdr) (version : Nat) (entries : List RouteEntry) (s : State) : Host.Outcome State Fault Refusal :=
  s.runU fun u => routeVersion h version entries u

/-- ROUTE_REQUEST (R51). -/
def execRouteRequest (h : LHdr) (version last : Nat) (s : State) : Host.Outcome State Fault Refusal :=
  s.runU fun u => routeRequest h version last u

/-- STANDING (R55). -/
def execStanding (h : LHdr) (version scope pod status : Nat) (key : SoKey) (entries : List SoEntry) (s : State) : Host.Outcome State Fault Refusal :=
  s.runU fun u => standing h version scope pod status key.ok key.operator entries u

/-- WARDEN_SET_CAP (R138). -/
def execWardenSetCap (h : LHdr) (version watts : Nat) (s : State) : Host.Outcome State Fault Refusal :=
  s.runU fun u => wardenSetCap h version watts u

/-- WARDEN_SET_FAN_FLOOR (R39). -/
def execWardenSetFanFloor (h : LHdr) (version duty : Nat) (s : State) : Host.Outcome State Fault Refusal :=
  s.runU fun u => wardenSetFanFloor h version duty u

/-- WARDEN_SET_PAIRING (R31). -/
def execWardenSetPairing (h : LHdr) (version : Nat) (pairs : List (Nat × Nat)) (s : State) : Host.Outcome State Fault Refusal :=
  s.runU fun u => wardenSetPairing h version pairs u

/-- WARDEN_SET_POOLING (R127). -/
def execWardenSetPooling (h : LHdr) (version op job shard buddyBytes stagingBytes : Nat) (s : State) : Host.Outcome State Fault Refusal :=
  s.runU fun u => wardenSetPooling h version op job shard buddyBytes stagingBytes u

/-- WARDEN_SET_TOPOLOGY (R105). -/
def execWardenSetTopology (h : LHdr) (version : Nat) (hops : List (Nat × Nat)) (s : State) : Host.Outcome State Fault Refusal :=
  s.runU fun u => wardenSetTopology h version hops u

/-- ROLE_REPORT_FREE_PAGES (R127). -/
def execRoleReportFreePages (h : LHdr) (version pages : Nat) (s : State) : Host.Outcome State Fault Refusal :=
  s.runU fun u => roleReportFreePages h version pages u

/-- ROLE_REPORT_STACKS (R112). -/
def execRoleReportStacks (h : LHdr) (version stks pages : Nat) (s : State) : Host.Outcome State Fault Refusal :=
  s.runU fun u => roleReportStacks h version stks pages u

/-- ROLE_REPORT_FAILED_T3 (R31). -/
def execRoleReportFailedT3 (h : LHdr) (version cid time : Nat) (s : State) : Host.Outcome State Fault Refusal :=
  s.runU fun u => roleReportFailedT3 h version cid time u

/-- ROLE_REPORT_POD_SUMMARY (R53). -/
def execRoleReportPodSummary (h : LHdr) (version admitted failed recoveries alarms : Nat) (s : State) : Host.Outcome State Fault Refusal :=
  s.runU fun u => roleReportPodSummary h version admitted failed recoveries alarms u

/-- ROLE_REPORT_REJOINED (R105). -/
def execRoleReportRejoined (h : LHdr) (version cid gen : Nat) (s : State) : Host.Outcome State Fault Refusal :=
  s.runU fun u => roleReportRejoined h version cid gen u

/-- WARDEN_T3_HB_MISS (R30). -/
def execWardenT3HbMiss (cid : Nat) (s : State) : Host.Outcome State Fault Refusal :=
  s.runU fun u => wardenT3HbMiss cid u

/-- WARDEN_PROBE_EXPIRY (R30). -/
def execWardenProbeExpiry (cid : Nat) (s : State) : Host.Outcome State Fault Refusal :=
  s.runU fun u => wardenProbeExpiry cid u

/-- KEY (R52). -/
def execKey (h : LHdr) (linkId index firstUse nonce wrapped : Nat) (tagOk : Bool) (igtanPort igtanLink : Nat) (s : State) : Host.Outcome State Fault Refusal :=
  s.runU fun u => key h linkId index firstUse nonce wrapped tagOk igtanPort igtanLink u

/-- KEY_REPLACE_TIMER (R52). -/
def execKeyReplaceTimer (linkId : Nat) (ends : List Nat) (s : State) : Host.Outcome State Fault Refusal :=
  s.runU fun u => keyReplaceTimer linkId ends u

/-- OLD_KEY_EXPIRY (R52). -/
def execOldKeyExpiry (linkId : Nat) (s : State) : Host.Outcome State Fault Refusal :=
  s.runU fun u => oldKeyExpiry linkId u

/-- ADMIN_ADMISSION_REQUEST (R58). -/
def execAdminAdmissionRequest (h : LHdr) (seq version msgVer features : Nat) (s : State) : Host.Outcome State Fault Refusal :=
  s.runU fun u => adminAdmissionRequest h seq version msgVer features u

/-- ADMIN_ADMISSION_ANSWER (R58). -/
def execAdminAdmissionAnswer (h : LHdr) (seq status vOld vNew featEpoch feats : Nat) (s : State) : Host.Outcome State Fault Refusal :=
  s.runU fun u => adminAdmissionAnswer h seq status vOld vNew featEpoch feats u

/-- ADMIN_FEATURE_SET (R59). -/
def execAdminFeatureSet (h : LHdr) (seq featEpoch feats : Nat) (s : State) : Host.Outcome State Fault Refusal :=
  s.runU fun u => adminFeatureSet h seq featEpoch feats u

/-- ADMIN_ROLLOUT_STEP (R60). -/
def execAdminRolloutStep (h : LHdr) (seq pod version : Nat) (x : RollStep) (s : State) : Host.Outcome State Fault Refusal :=
  s.runU fun u => adminRolloutStep h seq pod version x.step x.status u

/-- ADMIN_APPOINTMENT (R47). -/
def execAdminAppointment (h : LHdr) (seq role epoch : Nat) (cids : List Nat) (s : State) : Host.Outcome State Fault Refusal :=
  s.runU fun u => adminAppointment h seq role epoch cids u

/-- ADMIN_KEY_AGREEMENT (R52). -/
def execAdminKeyAgreement (h : LHdr) (seq : Nat) (sigOk : Bool) (secret : Nat) (s : State) : Host.Outcome State Fault Refusal :=
  s.runU fun u => adminKeyAgreement h seq sigOk secret u

/-- FEDERATION (R53). -/
def execFederation (h : LHdr) (dstDomain srcDomain innerDst : Nat) (inner : Inner) (pay : List Nat) (s : State) : Host.Outcome State Fault Refusal :=
  s.runU fun u => federation h dstDomain srcDomain inner.head innerDst inner.cls inner.len pay u

/-- DRILL_INTERVAL (R46). -/
def execDrillInterval (role : Nat) (s : State) : Host.Outcome State Fault Refusal :=
  s.runU fun u => drillInterval role u

/-- DRILL_PATH_TIMEOUT (R46). -/
def execDrillPathTimeout (role path cid : Nat) (s : State) : Host.Outcome State Fault Refusal :=
  s.runU fun u => drillPathTimeout role path cid u

/-- HANDBACK_QUIET_POINT (R48). -/
def execHandbackQuietPoint (role : Nat) (calm : Bool) (s : State) : Host.Outcome State Fault Refusal :=
  s.runU fun u => handbackQuietPoint role calm u

/-- ROLLOUT_POD_SOAK (R60). -/
def execRolloutPodSoak (caused : Bool) (s : State) : Host.Outcome State Fault Refusal :=
  s.runU fun u => rolloutPodSoak caused u

/-- ROLE_DRILL (R46). -/
def execRoleDrill (c : Cmd) (role hours : Nat) (s : State) : Host.Outcome State Fault Refusal :=
  s.runU fun u => roleDrill c role hours u

/-- SO_LOAD (R57). -/
def execSoLoad (c : Cmd) (addr len : Nat) (sigOk keyOperator : Bool) (s : State) : Host.Outcome State Fault Refusal :=
  s.run fun m u => soLoad c addr len sigOk keyOperator m u

/-- SO_PROCEED (R57). -/
def execSoProceed (c : Cmd) (id : Nat) (s : State) : Host.Outcome State Fault Refusal :=
  s.runU fun u => soProceed c id u

/-- SO_CANCEL (R57). -/
def execSoCancel (c : Cmd) (id : Nat) (s : State) : Host.Outcome State Fault Refusal :=
  s.runU fun u => soCancel c id u

/-- SO_HOLD_TIMEOUT (R555). -/
def execSoHoldTimeout (id : Nat) (s : State) : Host.Outcome State Fault Refusal :=
  s.runU fun u => soHoldTimeout id u

/-- FEATURE_REMOVE (R59). -/
def execFeatureRemove (c : Cmd) (bit : Nat) (s : State) : Host.Outcome State Fault Refusal :=
  s.runU fun u => featureRemove c bit u

/-- ROLE_QUIET_POINT (R59). -/
def execRoleQuietPoint (role : Nat) (s : State) : Host.Outcome State Fault Refusal :=
  s.runU fun u => roleQuietPoint role u

/-- POOLING_RESERVATION_ANSWER (R127). -/
def execPoolingReservationAnswer (h : LHdr) (status job : Nat) (p : Placed) (s : State) : Host.Outcome State Fault Refusal :=
  s.runU fun u => poolingReservationAnswer h status job p.shard p.cid u

/-- DRILL_PROBE_ANSWER (R46). -/
def execDrillProbeAnswer (h : LHdr) (seq : Nat) (s : State) : Host.Outcome State Fault Refusal :=
  s.runU fun u => drillProbeAnswer h seq u

end Sys2Proof.Machine
end

