-- ==== Sys2Proof/Machine/ExecShadow.lean ====
section
/-!
DEFINITION. The meanings of the commands whose effects stand in Machine/Shadow.lean, on the whole state.
-/
namespace Sys2Proof.Machine

/-- SHADOW_UNREGISTER (R269). -/
def execShadowUnregister (c : Cmd) (prog : Nat) (s : State) : Host.Outcome State Fault Refusal :=
  s.runUWick fun u => shadowUnregister c prog u

/-- SHADOW_PARAMS (R269). -/
def execShadowParams (c : Cmd) (job region addr : Nat) (s : State) : Host.Outcome State Fault Refusal :=
  s.runWick fun m u => shadowParams c job region addr m u

/-- SHADOW_RESOLVE (R281). -/
def execShadowResolve (c : Cmd) (job shard step choice : Nat) (s : State) : Host.Outcome State Fault Refusal :=
  s.runUWick fun u => shadowResolve c job shard step choice u

/-- SHADOW_GRID_RETRY (R272). -/
def execShadowGridRetry (s : State) : Host.Outcome State Fault Refusal :=
  s.runUWick fun u => shadowGridRetry u

/-- SHADOW_INSTANCE_RELOAD (R281). -/
def execShadowInstanceReload (job : Nat) (s : State) : Host.Outcome State Fault Refusal :=
  s.runUWick fun u => shadowInstanceReload job u

end Sys2Proof.Machine
end

