-- ==== Sys2Proof/Machine/ExecShadowProg.lean ====
section
/-!
DEFINITION. The meanings of the commands whose effects stand in Machine/ShadowProg.lean, on the whole state.
-/
namespace Sys2Proof.Machine

/-- SHADOW_COMPLETION (R275). -/
def execShadowCompletion (shard step item kind reason taper fp beats : Nat) (s : State) : Host.Outcome State Fault Refusal :=
  s.runWick fun m u => shadowCompletion shard step item kind reason taper fp beats m u

/-- SHADOW_REGISTER (R269). -/
def execShadowRegister (c : Cmd) (region off : Nat) (signatureOk : Bool) (s : State) : Host.Outcome State Fault Refusal :=
  s.runWick fun m u => shadowRegister c region off signatureOk m u

/-- SHADOW_QUALIFY (R285). -/
def execShadowQualify (c : Cmd) (prog set : Nat) (s : State) : Host.Outcome State Fault Refusal :=
  s.runWick fun m u => shadowQualify c prog set m u

end Sys2Proof.Machine
end

