-- ==== Sys2Proof/Machine/ExecStart.lean ====
section
/-!
DEFINITION. The meanings of the commands whose effects stand in Machine/Start.lean, on the whole state.
-/
namespace Sys2Proof.Machine

/-- AUX_POWER_GOOD (R511). -/
def execAuxPowerGood (straps : Nat) (fuses : Fuses) (nor : Nor) (s : State) : Host.Outcome State Fault Refusal :=
  s.run fun m u => auxPowerGood straps fuses nor m u

/-- CORE_PG_ASSERT (R531). -/
def execCorePgAssert (x : CoreStart) (s : State) : Host.Outcome State Fault Refusal :=
  s.run fun m u => corePgAssert x m u

/-- CORE_PG_TIMEOUT (R532). -/
def execCorePgTimeout (s : State) : Host.Outcome State Fault Refusal :=
  s.runU fun u => corePgTimeout u

/-- CORE_PG_DEASSERT (R533). -/
def execCorePgDeassert (long : Bool) (s : State) : Host.Outcome State Fault Refusal :=
  s.run fun m u => corePgDeassert long m u

/-- SYS_RESET (R533). -/
def execSysReset (tj : Int) (s : State) : Host.Outcome State Fault Refusal :=
  s.run fun m u => sysReset tj m u

/-- THERMTRIP (R540). -/
def execThermtrip (s : State) : Host.Outcome State Fault Refusal :=
  s.run fun m u => thermtrip m u

/-- CORE_EN_RETRY (R532). -/
def execCoreEnRetry (s : State) : Host.Outcome State Fault Refusal :=
  s.runU fun u => coreEnRetry u

end Sys2Proof.Machine
end

