-- ==== Sys2Proof/Machine/ExecTallow.lean ====
section
/-!
DEFINITION. The meanings of the commands whose effects stand in Machine/Tallow.lean, on the whole state.
-/
namespace Sys2Proof.Machine

/-- TALLOW_CHECKPOINT (R472). -/
def execTallowCheckpoint (c : Cmd) (s : State) : Host.Outcome State Fault Refusal :=
  s.runU fun u => tallowCheckpoint c u

/-- TALLOW_RAW_READ (R479). -/
def execTallowRawRead (c : Cmd) (die block page addr : Nat) (s : State) : Host.Outcome State Fault Refusal :=
  s.runU fun u => tallowRawRead c die block page addr u

/-- TALLOW_RAW_PROGRAM (R471). -/
def execTallowRawProgram (c : Cmd) (die block page addr : Nat) (s : State) : Host.Outcome State Fault Refusal :=
  s.runU fun u => tallowRawProgram c die block page addr u

/-- TALLOW_RAW_ERASE (R476). -/
def execTallowRawErase (c : Cmd) (die block : Nat) (s : State) : Host.Outcome State Fault Refusal :=
  s.runU fun u => tallowRawErase c die block u

/-- TALLOW_ENABLE_CLEAR (R478). -/
def execTallowEnableClear (w : Who) (s : State) : Host.Outcome State Fault Refusal :=
  s.runU fun u => tallowEnableClear w u

/-- TALLOW_WRITE (R470). -/
def execTallowWrite (owner region chunk bytes : Nat) (s : State) : Host.Outcome State Fault Refusal :=
  s.runU fun u => tallowWrite owner region chunk bytes u

/-- NAND_PROGRAM_DONE (R476). -/
def execNandProgramDone (p : Place) (pass : Bool) (s : State) : Host.Outcome State Fault Refusal :=
  s.runU fun u => nandProgramDone p pass u

/-- NAND_READ_DONE (R466). -/
def execNandReadDone (p : Place) (retries : Nat) (ok same : Bool) (data : List Nat) (s : State) : Host.Outcome State Fault Refusal :=
  s.run fun m u => nandReadDone p retries ok same data m u

/-- NAND_ERASE_DONE (R471). -/
def execNandEraseDone (die block : Nat) (pass : Bool) (s : State) : Host.Outcome State Fault Refusal :=
  s.runU fun u => nandEraseDone die block pass u

/-- TALLOW_GC (R474). -/
def execTallowGc (tlc : Bool) (s : State) : Host.Outcome State Fault Refusal :=
  s.runU fun u => tallowGc tlc u

/-- TALLOW_CHECKPOINT_TIMER (R472). -/
def execTallowCheckpointTimer (s : State) : Host.Outcome State Fault Refusal :=
  s.runU fun u => tallowCheckpointTimer u

end Sys2Proof.Machine
end

