-- ==== Sys2Proof/Machine/ExecTaperFloat.lean ====
section
/-!
DEFINITION. The meanings of the commands whose effects stand in Machine/TaperFloat.lean, on the whole state.
-/
namespace Sys2Proof.Machine

/-- FADD (R176). -/
def execOpFADD (l : Nat) (f : RFmt) (s : State) : Host.Outcome State Fault Refusal :=
  s.runU fun u => opFADD l f u

/-- FSUB (R176). -/
def execOpFSUB (l : Nat) (f : RFmt) (s : State) : Host.Outcome State Fault Refusal :=
  s.runU fun u => opFSUB l f u

/-- FMUL (R176). -/
def execOpFMUL (l : Nat) (f : RFmt) (s : State) : Host.Outcome State Fault Refusal :=
  s.runU fun u => opFMUL l f u

/-- FDIV (R176). -/
def execOpFDIV (l : Nat) (f : RFmt) (s : State) : Host.Outcome State Fault Refusal :=
  s.runU fun u => opFDIV l f u

/-- FSQRT (R176). -/
def execOpFSQRT (l : Nat) (f : RFmt) (s : State) : Host.Outcome State Fault Refusal :=
  s.runU fun u => opFSQRT l f u

/-- FMA (R176). -/
def execOpFMA (l : Nat) (f : RFmt) (s : State) : Host.Outcome State Fault Refusal :=
  s.runU fun u => opFMA l f u

/-- FMS (R176). -/
def execOpFMS (l : Nat) (f : RFmt) (s : State) : Host.Outcome State Fault Refusal :=
  s.runU fun u => opFMS l f u

/-- FNMA (R176). -/
def execOpFNMA (l : Nat) (f : RFmt) (s : State) : Host.Outcome State Fault Refusal :=
  s.runU fun u => opFNMA l f u

/-- FMIN (R181). -/
def execOpFMIN (l : Nat) (f : RFmt) (s : State) : Host.Outcome State Fault Refusal :=
  s.runU fun u => opFMIN l f u

/-- FMAX (R181). -/
def execOpFMAX (l : Nat) (f : RFmt) (s : State) : Host.Outcome State Fault Refusal :=
  s.runU fun u => opFMAX l f u

/-- FABS (R183). -/
def execOpFABS (l : Nat) (f : RFmt) (s : State) : Host.Outcome State Fault Refusal :=
  s.runU fun u => opFABS l f u

/-- FNEG (R183). -/
def execOpFNEG (l : Nat) (f : RFmt) (s : State) : Host.Outcome State Fault Refusal :=
  s.runU fun u => opFNEG l f u

/-- FCOPYSIGN (R183). -/
def execOpFCOPYSIGN (l : Nat) (f : RFmt) (s : State) : Host.Outcome State Fault Refusal :=
  s.runU fun u => opFCOPYSIGN l f u

/-- FCMP (R181). -/
def execOpFCMP (l : Nat) (f : RFmt) (s : State) : Host.Outcome State Fault Refusal :=
  s.runU fun u => opFCMP l f u

/-- FCVT (R176). -/
def execOpFCVT (l : Nat) (f : RFmt) (s : State) : Host.Outcome State Fault Refusal :=
  s.runU fun u => opFCVT l f u

/-- FCVTI (R182). -/
def execOpFCVTI (l : Nat) (f : RFmt) (s : State) : Host.Outcome State Fault Refusal :=
  s.runU fun u => opFCVTI l f u

/-- ICVTF (R176). -/
def execOpICVTF (l : Nat) (f : RFmt) (s : State) : Host.Outcome State Fault Refusal :=
  s.runU fun u => opICVTF l f u

/-- RCP_EST (R183). -/
def execOpRCP_EST (l : Nat) (f : RFmt) (s : State) : Host.Outcome State Fault Refusal :=
  s.runU fun u => opRCP_EST l f u

/-- RSQRT_EST (R183). -/
def execOpRSQRT_EST (l : Nat) (f : RFmt) (s : State) : Host.Outcome State Fault Refusal :=
  s.runU fun u => opRSQRT_EST l f u

/-- EXP2 (R183). -/
def execOpEXP2 (l : Nat) (f : RFmt) (s : State) : Host.Outcome State Fault Refusal :=
  s.runU fun u => opEXP2 l f u

/-- LOG2 (R183). -/
def execOpLOG2 (l : Nat) (f : RFmt) (s : State) : Host.Outcome State Fault Refusal :=
  s.runU fun u => opLOG2 l f u

/-- VFADD (R176). -/
def execOpVFADD (l : Nat) (f : RFmt) (s : State) : Host.Outcome State Fault Refusal :=
  s.runU fun u => opVFADD l f u

/-- VFSUB (R176). -/
def execOpVFSUB (l : Nat) (f : RFmt) (s : State) : Host.Outcome State Fault Refusal :=
  s.runU fun u => opVFSUB l f u

/-- VFMUL (R176). -/
def execOpVFMUL (l : Nat) (f : RFmt) (s : State) : Host.Outcome State Fault Refusal :=
  s.runU fun u => opVFMUL l f u

/-- VFDIV (R176). -/
def execOpVFDIV (l : Nat) (f : RFmt) (s : State) : Host.Outcome State Fault Refusal :=
  s.runU fun u => opVFDIV l f u

/-- VFSQRT (R176). -/
def execOpVFSQRT (l : Nat) (f : RFmt) (s : State) : Host.Outcome State Fault Refusal :=
  s.runU fun u => opVFSQRT l f u

/-- VFMA (R176). -/
def execOpVFMA (l : Nat) (f : RFmt) (s : State) : Host.Outcome State Fault Refusal :=
  s.runU fun u => opVFMA l f u

/-- VFMS (R176). -/
def execOpVFMS (l : Nat) (f : RFmt) (s : State) : Host.Outcome State Fault Refusal :=
  s.runU fun u => opVFMS l f u

/-- VFNMA (R176). -/
def execOpVFNMA (l : Nat) (f : RFmt) (s : State) : Host.Outcome State Fault Refusal :=
  s.runU fun u => opVFNMA l f u

/-- VFMIN (R181). -/
def execOpVFMIN (l : Nat) (f : RFmt) (s : State) : Host.Outcome State Fault Refusal :=
  s.runU fun u => opVFMIN l f u

/-- VFMAX (R181). -/
def execOpVFMAX (l : Nat) (f : RFmt) (s : State) : Host.Outcome State Fault Refusal :=
  s.runU fun u => opVFMAX l f u

/-- VFABS (R183). -/
def execOpVFABS (l : Nat) (f : RFmt) (s : State) : Host.Outcome State Fault Refusal :=
  s.runU fun u => opVFABS l f u

/-- VFNEG (R183). -/
def execOpVFNEG (l : Nat) (f : RFmt) (s : State) : Host.Outcome State Fault Refusal :=
  s.runU fun u => opVFNEG l f u

/-- VFCOPYSIGN (R183). -/
def execOpVFCOPYSIGN (l : Nat) (f : RFmt) (s : State) : Host.Outcome State Fault Refusal :=
  s.runU fun u => opVFCOPYSIGN l f u

/-- VFCMP (R181). -/
def execOpVFCMP (l : Nat) (f : RFmt) (s : State) : Host.Outcome State Fault Refusal :=
  s.runU fun u => opVFCMP l f u

/-- VFCVT (R226). -/
def execOpVFCVT (l : Nat) (f : RFmt) (s : State) : Host.Outcome State Fault Refusal :=
  s.runU fun u => opVFCVT l f u

/-- VFCVTI (R182). -/
def execOpVFCVTI (l : Nat) (f : RFmt) (s : State) : Host.Outcome State Fault Refusal :=
  s.runU fun u => opVFCVTI l f u

/-- VICVTF (R176). -/
def execOpVICVTF (l : Nat) (f : RFmt) (s : State) : Host.Outcome State Fault Refusal :=
  s.runU fun u => opVICVTF l f u

/-- VRCP_EST (R183). -/
def execOpVRCP_EST (l : Nat) (f : RFmt) (s : State) : Host.Outcome State Fault Refusal :=
  s.runU fun u => opVRCP_EST l f u

/-- VRSQRT_EST (R183). -/
def execOpVRSQRT_EST (l : Nat) (f : RFmt) (s : State) : Host.Outcome State Fault Refusal :=
  s.runU fun u => opVRSQRT_EST l f u

/-- VEXP2 (R183). -/
def execOpVEXP2 (l : Nat) (f : RFmt) (s : State) : Host.Outcome State Fault Refusal :=
  s.runU fun u => opVEXP2 l f u

/-- VLOG2 (R183). -/
def execOpVLOG2 (l : Nat) (f : RFmt) (s : State) : Host.Outcome State Fault Refusal :=
  s.runU fun u => opVLOG2 l f u

/-- VMXPACK (R227). -/
def execOpVMXPACK (l : Nat) (f : RFmt) (s : State) : Host.Outcome State Fault Refusal :=
  s.runU fun u => opVMXPACK l f u

/-- VMXUNPACK (R227). -/
def execOpVMXUNPACK (l : Nat) (f : RFmt) (s : State) : Host.Outcome State Fault Refusal :=
  s.runU fun u => opVMXUNPACK l f u

end Sys2Proof.Machine
end

