-- ==== Sys2Proof/Machine/ExecTaperInt.lean ====
section
/-!
DEFINITION. The meanings of the commands whose effects stand in Machine/TaperInt.lean, on the whole state.
-/
namespace Sys2Proof.Machine

/-- NOP (R216). -/
def execOpNOP (l : Nat) (f : IFmt) (s : State) : Host.Outcome State Fault Refusal :=
  s.runU fun u => opNOP l f u

/-- RDSR (R215). -/
def execOpRDSR (l : Nat) (f : IFmt) (s : State) : Host.Outcome State Fault Refusal :=
  s.runU fun u => opRDSR l f u

/-- WRSR (R215). -/
def execOpWRSR (l : Nat) (f : IFmt) (s : State) : Host.Outcome State Fault Refusal :=
  s.runU fun u => opWRSR l f u

/-- FRET (R236). -/
def execOpFRET (l : Nat) (f : IFmt) (s : State) : Host.Outcome State Fault Refusal :=
  s.runU fun u => opFRET l f u

/-- TRAP (R236). -/
def execOpTRAP (l : Nat) (f : IFmt) (s : State) : Host.Outcome State Fault Refusal :=
  s.runU fun u => opTRAP l f u

/-- ADD (R182). -/
def execOpADD (l : Nat) (f : RFmt) (s : State) : Host.Outcome State Fault Refusal :=
  s.runU fun u => opADD l f u

/-- SUB (R182). -/
def execOpSUB (l : Nat) (f : RFmt) (s : State) : Host.Outcome State Fault Refusal :=
  s.runU fun u => opSUB l f u

/-- MUL (R182). -/
def execOpMUL (l : Nat) (f : RFmt) (s : State) : Host.Outcome State Fault Refusal :=
  s.runU fun u => opMUL l f u

/-- MULHS (R182). -/
def execOpMULHS (l : Nat) (f : RFmt) (s : State) : Host.Outcome State Fault Refusal :=
  s.runU fun u => opMULHS l f u

/-- MULHU (R182). -/
def execOpMULHU (l : Nat) (f : RFmt) (s : State) : Host.Outcome State Fault Refusal :=
  s.runU fun u => opMULHU l f u

/-- DIVS (R182). -/
def execOpDIVS (l : Nat) (f : RFmt) (s : State) : Host.Outcome State Fault Refusal :=
  s.runU fun u => opDIVS l f u

/-- DIVU (R182). -/
def execOpDIVU (l : Nat) (f : RFmt) (s : State) : Host.Outcome State Fault Refusal :=
  s.runU fun u => opDIVU l f u

/-- REMS (R182). -/
def execOpREMS (l : Nat) (f : RFmt) (s : State) : Host.Outcome State Fault Refusal :=
  s.runU fun u => opREMS l f u

/-- REMU (R182). -/
def execOpREMU (l : Nat) (f : RFmt) (s : State) : Host.Outcome State Fault Refusal :=
  s.runU fun u => opREMU l f u

/-- AND (R182). -/
def execOpAND (l : Nat) (f : RFmt) (s : State) : Host.Outcome State Fault Refusal :=
  s.runU fun u => opAND l f u

/-- OR (R182). -/
def execOpOR (l : Nat) (f : RFmt) (s : State) : Host.Outcome State Fault Refusal :=
  s.runU fun u => opOR l f u

/-- XOR (R182). -/
def execOpXOR (l : Nat) (f : RFmt) (s : State) : Host.Outcome State Fault Refusal :=
  s.runU fun u => opXOR l f u

/-- SHL (R182). -/
def execOpSHL (l : Nat) (f : RFmt) (s : State) : Host.Outcome State Fault Refusal :=
  s.runU fun u => opSHL l f u

/-- SHRL (R182). -/
def execOpSHRL (l : Nat) (f : RFmt) (s : State) : Host.Outcome State Fault Refusal :=
  s.runU fun u => opSHRL l f u

/-- SHRA (R182). -/
def execOpSHRA (l : Nat) (f : RFmt) (s : State) : Host.Outcome State Fault Refusal :=
  s.runU fun u => opSHRA l f u

/-- SLT (R182). -/
def execOpSLT (l : Nat) (f : RFmt) (s : State) : Host.Outcome State Fault Refusal :=
  s.runU fun u => opSLT l f u

/-- SLTU (R182). -/
def execOpSLTU (l : Nat) (f : RFmt) (s : State) : Host.Outcome State Fault Refusal :=
  s.runU fun u => opSLTU l f u

/-- ADDI (R182). -/
def execOpADDI (l : Nat) (f : IFmt) (s : State) : Host.Outcome State Fault Refusal :=
  s.runU fun u => opADDI l f u

/-- ANDI (R182). -/
def execOpANDI (l : Nat) (f : IFmt) (s : State) : Host.Outcome State Fault Refusal :=
  s.runU fun u => opANDI l f u

/-- ORI (R182). -/
def execOpORI (l : Nat) (f : IFmt) (s : State) : Host.Outcome State Fault Refusal :=
  s.runU fun u => opORI l f u

/-- XORI (R182). -/
def execOpXORI (l : Nat) (f : IFmt) (s : State) : Host.Outcome State Fault Refusal :=
  s.runU fun u => opXORI l f u

/-- SHLI (R182). -/
def execOpSHLI (l : Nat) (f : IFmt) (s : State) : Host.Outcome State Fault Refusal :=
  s.runU fun u => opSHLI l f u

/-- SHRLI (R182). -/
def execOpSHRLI (l : Nat) (f : IFmt) (s : State) : Host.Outcome State Fault Refusal :=
  s.runU fun u => opSHRLI l f u

/-- SHRAI (R182). -/
def execOpSHRAI (l : Nat) (f : IFmt) (s : State) : Host.Outcome State Fault Refusal :=
  s.runU fun u => opSHRAI l f u

/-- MOVI (R182). -/
def execOpMOVI (l : Nat) (f : IFmt) (s : State) : Host.Outcome State Fault Refusal :=
  s.runU fun u => opMOVI l f u

/-- MOVHI (R182). -/
def execOpMOVHI (l : Nat) (f : IFmt) (s : State) : Host.Outcome State Fault Refusal :=
  s.runU fun u => opMOVHI l f u

/-- LD8U (R225). -/
def execOpLD8U (l : Nat) (f : IFmt) (ecc : Nat) (s : State) : Host.Outcome State Fault Refusal :=
  s.runU fun u => opLD8U l f ecc u

/-- LD16U (R225). -/
def execOpLD16U (l : Nat) (f : IFmt) (ecc : Nat) (s : State) : Host.Outcome State Fault Refusal :=
  s.runU fun u => opLD16U l f ecc u

/-- LD32U (R225). -/
def execOpLD32U (l : Nat) (f : IFmt) (ecc : Nat) (s : State) : Host.Outcome State Fault Refusal :=
  s.runU fun u => opLD32U l f ecc u

/-- LD64 (R225). -/
def execOpLD64 (l : Nat) (f : IFmt) (ecc : Nat) (s : State) : Host.Outcome State Fault Refusal :=
  s.runU fun u => opLD64 l f ecc u

/-- LD8S (R225). -/
def execOpLD8S (l : Nat) (f : IFmt) (ecc : Nat) (s : State) : Host.Outcome State Fault Refusal :=
  s.runU fun u => opLD8S l f ecc u

/-- LD16S (R225). -/
def execOpLD16S (l : Nat) (f : IFmt) (ecc : Nat) (s : State) : Host.Outcome State Fault Refusal :=
  s.runU fun u => opLD16S l f ecc u

/-- LD32S (R225). -/
def execOpLD32S (l : Nat) (f : IFmt) (ecc : Nat) (s : State) : Host.Outcome State Fault Refusal :=
  s.runU fun u => opLD32S l f ecc u

/-- ST8 (R225). -/
def execOpST8 (l : Nat) (f : IFmt) (s : State) : Host.Outcome State Fault Refusal :=
  s.runU fun u => opST8 l f u

/-- ST16 (R225). -/
def execOpST16 (l : Nat) (f : IFmt) (s : State) : Host.Outcome State Fault Refusal :=
  s.runU fun u => opST16 l f u

/-- ST32 (R225). -/
def execOpST32 (l : Nat) (f : IFmt) (s : State) : Host.Outcome State Fault Refusal :=
  s.runU fun u => opST32 l f u

/-- ST64 (R225). -/
def execOpST64 (l : Nat) (f : IFmt) (s : State) : Host.Outcome State Fault Refusal :=
  s.runU fun u => opST64 l f u

/-- BEQ (R225). -/
def execOpBEQ (l : Nat) (f : IFmt) (s : State) : Host.Outcome State Fault Refusal :=
  s.runU fun u => opBEQ l f u

/-- BNE (R225). -/
def execOpBNE (l : Nat) (f : IFmt) (s : State) : Host.Outcome State Fault Refusal :=
  s.runU fun u => opBNE l f u

/-- BLT (R225). -/
def execOpBLT (l : Nat) (f : IFmt) (s : State) : Host.Outcome State Fault Refusal :=
  s.runU fun u => opBLT l f u

/-- BGE (R225). -/
def execOpBGE (l : Nat) (f : IFmt) (s : State) : Host.Outcome State Fault Refusal :=
  s.runU fun u => opBGE l f u

/-- BLTU (R225). -/
def execOpBLTU (l : Nat) (f : IFmt) (s : State) : Host.Outcome State Fault Refusal :=
  s.runU fun u => opBLTU l f u

/-- BGEU (R225). -/
def execOpBGEU (l : Nat) (f : IFmt) (s : State) : Host.Outcome State Fault Refusal :=
  s.runU fun u => opBGEU l f u

/-- BPANY (R225). -/
def execOpBPANY (l : Nat) (f : IFmt) (s : State) : Host.Outcome State Fault Refusal :=
  s.runU fun u => opBPANY l f u

/-- BPNONE (R225). -/
def execOpBPNONE (l : Nat) (f : IFmt) (s : State) : Host.Outcome State Fault Refusal :=
  s.runU fun u => opBPNONE l f u

/-- JAL (R225). -/
def execOpJAL (l : Nat) (f : IFmt) (s : State) : Host.Outcome State Fault Refusal :=
  s.runU fun u => opJAL l f u

/-- JALR (R225). -/
def execOpJALR (l : Nat) (f : IFmt) (s : State) : Host.Outcome State Fault Refusal :=
  s.runU fun u => opJALR l f u

/-- VLD (R225). -/
def execOpVLD (l : Nat) (f : IFmt) (ecc : Nat) (s : State) : Host.Outcome State Fault Refusal :=
  s.runU fun u => opVLD l f ecc u

/-- VST (R225). -/
def execOpVST (l : Nat) (f : IFmt) (s : State) : Host.Outcome State Fault Refusal :=
  s.runU fun u => opVST l f u

/-- TLD (R225). -/
def execOpTLD (l : Nat) (f : IFmt) (ecc : Nat) (s : State) : Host.Outcome State Fault Refusal :=
  s.runU fun u => opTLD l f ecc u

/-- TST (R225). -/
def execOpTST (l : Nat) (f : IFmt) (s : State) : Host.Outcome State Fault Refusal :=
  s.runU fun u => opTST l f u

/-- PLD (R225). -/
def execOpPLD (l : Nat) (f : IFmt) (ecc : Nat) (s : State) : Host.Outcome State Fault Refusal :=
  s.runU fun u => opPLD l f ecc u

/-- PST (R225). -/
def execOpPST (l : Nat) (f : IFmt) (s : State) : Host.Outcome State Fault Refusal :=
  s.runU fun u => opPST l f u

end Sys2Proof.Machine
end

