-- ==== Sys2Proof/Machine/ExecTaperIo.lean ====
section
/-!
DEFINITION. The meanings of the commands whose effects stand in Machine/TaperIo.lean, on the whole state.
-/
namespace Sys2Proof.Machine

/-- MSG_SEND_RESUME (R220). -/
def execMsgSendResume (l : TaperRead) (s : State) : Host.Outcome State Fault Refusal :=
  s.runU fun u => msgSendResume l.taper l.ecc u

/-- MSG_RECV_RESUME (R230). -/
def execMsgRecvResume (l : Nat) (s : State) : Host.Outcome State Fault Refusal :=
  s.runU fun u => msgRecvResume l u

/-- RING_POP_RESUME (R231). -/
def execRingPopResume (l : Nat) (s : State) : Host.Outcome State Fault Refusal :=
  s.runU fun u => ringPopResume l u

/-- RING_PUSH_RESUME (R231). -/
def execRingPushResume (l : TaperRead) (s : State) : Host.Outcome State Fault Refusal :=
  s.runU fun u => ringPushResume l.taper l.ecc u

/-- STR_START_RESUME (R219). -/
def execStrStartResume (l : Nat) (s : State) : Host.Outcome State Fault Refusal :=
  s.runU fun u => strStartResume l u

/-- STR_WAIT_RESUME (R232). -/
def execStrWaitResume (l : Nat) (s : State) : Host.Outcome State Fault Refusal :=
  s.runU fun u => strWaitResume l u

/-- MSG_SEND (R229). -/
def execOpMSG_SEND (l : TaperRead) (f : RFmt) (s : State) : Host.Outcome State Fault Refusal :=
  s.runU fun u => opMSG_SEND l.taper l.ecc f u

/-- MSG_RECV (R230). -/
def execOpMSG_RECV (l : Nat) (f : RFmt) (s : State) : Host.Outcome State Fault Refusal :=
  s.runU fun u => opMSG_RECV l f u

/-- MSG_POLL (R230). -/
def execOpMSG_POLL (l : Nat) (f : RFmt) (s : State) : Host.Outcome State Fault Refusal :=
  s.runU fun u => opMSG_POLL l f u

/-- MSG_FREE (R230). -/
def execOpMSG_FREE (l : Nat) (f : RFmt) (s : State) : Host.Outcome State Fault Refusal :=
  s.runU fun u => opMSG_FREE l f u

/-- RING_POP (R231). -/
def execOpRING_POP (l : Nat) (f : RFmt) (s : State) : Host.Outcome State Fault Refusal :=
  s.runU fun u => opRING_POP l f u

/-- RING_TRY (R231). -/
def execOpRING_TRY (l : Nat) (f : RFmt) (s : State) : Host.Outcome State Fault Refusal :=
  s.runU fun u => opRING_TRY l f u

/-- RING_PUSH (R231). -/
def execOpRING_PUSH (l : TaperRead) (f : RFmt) (s : State) : Host.Outcome State Fault Refusal :=
  s.runU fun u => opRING_PUSH l.taper l.ecc f u

/-- STR_START (R218). -/
def execOpSTR_START (l : Nat) (f : RFmt) (s : State) : Host.Outcome State Fault Refusal :=
  s.runU fun u => opSTR_START l f u

/-- STR_WAIT (R232). -/
def execOpSTR_WAIT (l : Nat) (f : RFmt) (s : State) : Host.Outcome State Fault Refusal :=
  s.runU fun u => opSTR_WAIT l f u

/-- STR_TEST (R232). -/
def execOpSTR_TEST (l : Nat) (f : RFmt) (s : State) : Host.Outcome State Fault Refusal :=
  s.runU fun u => opSTR_TEST l f u

/-- STR_WAITALL (R232). -/
def execOpSTR_WAITALL (l : Nat) (f : RFmt) (s : State) : Host.Outcome State Fault Refusal :=
  s.runU fun u => opSTR_WAITALL l f u

end Sys2Proof.Machine
end

