-- ==== Sys2Proof/Machine/ExecTaperVec.lean ====
section
/-!
DEFINITION. The meanings of the commands whose effects stand in Machine/TaperVec.lean, on the whole state.
-/
namespace Sys2Proof.Machine

/-- VADD (R224). -/
def execOpVADD (l : Nat) (f : RFmt) (s : State) : Host.Outcome State Fault Refusal :=
  s.runU fun u => opVADD l f u

/-- VSUB (R224). -/
def execOpVSUB (l : Nat) (f : RFmt) (s : State) : Host.Outcome State Fault Refusal :=
  s.runU fun u => opVSUB l f u

/-- VMUL (R224). -/
def execOpVMUL (l : Nat) (f : RFmt) (s : State) : Host.Outcome State Fault Refusal :=
  s.runU fun u => opVMUL l f u

/-- VADDS (R224). -/
def execOpVADDS (l : Nat) (f : RFmt) (s : State) : Host.Outcome State Fault Refusal :=
  s.runU fun u => opVADDS l f u

/-- VSUBS (R224). -/
def execOpVSUBS (l : Nat) (f : RFmt) (s : State) : Host.Outcome State Fault Refusal :=
  s.runU fun u => opVSUBS l f u

/-- VAND (R224). -/
def execOpVAND (l : Nat) (f : RFmt) (s : State) : Host.Outcome State Fault Refusal :=
  s.runU fun u => opVAND l f u

/-- VOR (R224). -/
def execOpVOR (l : Nat) (f : RFmt) (s : State) : Host.Outcome State Fault Refusal :=
  s.runU fun u => opVOR l f u

/-- VXOR (R224). -/
def execOpVXOR (l : Nat) (f : RFmt) (s : State) : Host.Outcome State Fault Refusal :=
  s.runU fun u => opVXOR l f u

/-- VSHL (R224). -/
def execOpVSHL (l : Nat) (f : RFmt) (s : State) : Host.Outcome State Fault Refusal :=
  s.runU fun u => opVSHL l f u

/-- VSHR (R224). -/
def execOpVSHR (l : Nat) (f : RFmt) (s : State) : Host.Outcome State Fault Refusal :=
  s.runU fun u => opVSHR l f u

/-- VMIN (R224). -/
def execOpVMIN (l : Nat) (f : RFmt) (s : State) : Host.Outcome State Fault Refusal :=
  s.runU fun u => opVMIN l f u

/-- VMAX (R224). -/
def execOpVMAX (l : Nat) (f : RFmt) (s : State) : Host.Outcome State Fault Refusal :=
  s.runU fun u => opVMAX l f u

/-- VCMP (R224). -/
def execOpVCMP (l : Nat) (f : RFmt) (s : State) : Host.Outcome State Fault Refusal :=
  s.runU fun u => opVCMP l f u

/-- VSEL (R224). -/
def execOpVSEL (l : Nat) (f : RFmt) (s : State) : Host.Outcome State Fault Refusal :=
  s.runU fun u => opVSEL l f u

/-- VBCAST (R224). -/
def execOpVBCAST (l : Nat) (f : RFmt) (s : State) : Host.Outcome State Fault Refusal :=
  s.runU fun u => opVBCAST l f u

/-- VEXTRACT (R224). -/
def execOpVEXTRACT (l : Nat) (f : RFmt) (s : State) : Host.Outcome State Fault Refusal :=
  s.runU fun u => opVEXTRACT l f u

/-- VINSERT (R224). -/
def execOpVINSERT (l : Nat) (f : RFmt) (s : State) : Host.Outcome State Fault Refusal :=
  s.runU fun u => opVINSERT l f u

/-- VIOTA (R224). -/
def execOpVIOTA (l : Nat) (f : RFmt) (s : State) : Host.Outcome State Fault Refusal :=
  s.runU fun u => opVIOTA l f u

/-- VPERM (R224). -/
def execOpVPERM (l : Nat) (f : RFmt) (s : State) : Host.Outcome State Fault Refusal :=
  s.runU fun u => opVPERM l f u

/-- VMOV (R224). -/
def execOpVMOV (l : Nat) (f : RFmt) (s : State) : Host.Outcome State Fault Refusal :=
  s.runU fun u => opVMOV l f u

/-- PAND (R224). -/
def execOpPAND (l : Nat) (f : RFmt) (s : State) : Host.Outcome State Fault Refusal :=
  s.runU fun u => opPAND l f u

/-- POR (R224). -/
def execOpPOR (l : Nat) (f : RFmt) (s : State) : Host.Outcome State Fault Refusal :=
  s.runU fun u => opPOR l f u

/-- PXOR (R224). -/
def execOpPXOR (l : Nat) (f : RFmt) (s : State) : Host.Outcome State Fault Refusal :=
  s.runU fun u => opPXOR l f u

/-- PNOT (R224). -/
def execOpPNOT (l : Nat) (f : RFmt) (s : State) : Host.Outcome State Fault Refusal :=
  s.runU fun u => opPNOT l f u

/-- PSET (R224). -/
def execOpPSET (l : Nat) (f : RFmt) (s : State) : Host.Outcome State Fault Refusal :=
  s.runU fun u => opPSET l f u

/-- PGET (R224). -/
def execOpPGET (l : Nat) (f : RFmt) (s : State) : Host.Outcome State Fault Refusal :=
  s.runU fun u => opPGET l f u

/-- PCNT (R224). -/
def execOpPCNT (l : Nat) (f : RFmt) (s : State) : Host.Outcome State Fault Refusal :=
  s.runU fun u => opPCNT l f u

/-- TZERO (R228). -/
def execOpTZERO (l : Nat) (f : RFmt) (s : State) : Host.Outcome State Fault Refusal :=
  s.runU fun u => opTZERO l f u

/-- TMMA (R228). -/
def execOpTMMA (l : Nat) (f : RFmt) (s : State) : Host.Outcome State Fault Refusal :=
  s.runU fun u => opTMMA l f u

/-- TMMA_SP (R228). -/
def execOpTMMA_SP (l : Nat) (f : RFmt) (s : State) : Host.Outcome State Fault Refusal :=
  s.runU fun u => opTMMA_SP l f u

/-- TMOVV (R228). -/
def execOpTMOVV (l : Nat) (f : RFmt) (s : State) : Host.Outcome State Fault Refusal :=
  s.runU fun u => opTMOVV l f u

/-- VMOVT (R228). -/
def execOpVMOVT (l : Nat) (f : RFmt) (s : State) : Host.Outcome State Fault Refusal :=
  s.runU fun u => opVMOVT l f u

/-- LACC_CLR (R193). -/
def execOpLACC_CLR (l : Nat) (f : RFmt) (s : State) : Host.Outcome State Fault Refusal :=
  s.runU fun u => opLACC_CLR l f u

/-- LACC_ADD (R193). -/
def execOpLACC_ADD (l : Nat) (f : RFmt) (s : State) : Host.Outcome State Fault Refusal :=
  s.runU fun u => opLACC_ADD l f u

/-- LACC_MAC (R193). -/
def execOpLACC_MAC (l : Nat) (f : RFmt) (s : State) : Host.Outcome State Fault Refusal :=
  s.runU fun u => opLACC_MAC l f u

/-- LACC_ACC (R193). -/
def execOpLACC_ACC (l : Nat) (f : RFmt) (s : State) : Host.Outcome State Fault Refusal :=
  s.runU fun u => opLACC_ACC l f u

/-- LACC_RND (R195). -/
def execOpLACC_RND (l : Nat) (f : RFmt) (s : State) : Host.Outcome State Fault Refusal :=
  s.runU fun u => opLACC_RND l f u

/-- LACC_STAT (R194). -/
def execOpLACC_STAT (l : Nat) (f : RFmt) (s : State) : Host.Outcome State Fault Refusal :=
  s.runU fun u => opLACC_STAT l f u

/-- LACC_EXP (R196). -/
def execOpLACC_EXP (l : Nat) (f : IFmt) (s : State) : Host.Outcome State Fault Refusal :=
  s.runU fun u => opLACC_EXP l f u

/-- LACC_IMP (R196). -/
def execOpLACC_IMP (l : Nat) (f : IFmt) (ecc : Nat) (s : State) : Host.Outcome State Fault Refusal :=
  s.runU fun u => opLACC_IMP l f ecc u

/-- FING_V (R233). -/
def execOpFING_V (l : Nat) (f : RFmt) (s : State) : Host.Outcome State Fault Refusal :=
  s.runU fun u => opFING_V l f u

/-- FING_ADDM (R233). -/
def execOpFING_ADDM (l : Nat) (f : RFmt) (s : State) : Host.Outcome State Fault Refusal :=
  s.runU fun u => opFING_ADDM l f u

/-- FING_SUBM (R233). -/
def execOpFING_SUBM (l : Nat) (f : RFmt) (s : State) : Host.Outcome State Fault Refusal :=
  s.runU fun u => opFING_SUBM l f u

/-- FING_MULM (R233). -/
def execOpFING_MULM (l : Nat) (f : RFmt) (s : State) : Host.Outcome State Fault Refusal :=
  s.runU fun u => opFING_MULM l f u

/-- FING_POWM (R233). -/
def execOpFING_POWM (l : Nat) (f : RFmt) (s : State) : Host.Outcome State Fault Refusal :=
  s.runU fun u => opFING_POWM l f u

/-- RNG_RAW (R198). -/
def execOpRNG_RAW (l : Nat) (f : RFmt) (s : State) : Host.Outcome State Fault Refusal :=
  s.runU fun u => opRNG_RAW l f u

/-- RNG_PHILOX (R197). -/
def execOpRNG_PHILOX (l : Nat) (f : RFmt) (s : State) : Host.Outcome State Fault Refusal :=
  s.runU fun u => opRNG_PHILOX l f u

end Sys2Proof.Machine
end

