-- ==== Sys2Proof/Machine/ExecVigilOps.lean ====
section
/-!
DEFINITION. The meanings of the commands whose effects stand in Machine/VigilOps.lean, on the whole state.
-/
namespace Sys2Proof.Machine

/-- HEARTBEAT (R287). -/
def execHeartbeat (h : SHdr) (seq live health flags : Nat) (s : State) : Host.Outcome State Fault Refusal :=
  s.runU fun u => heartbeat h seq live health flags u

/-- FAULT_REPORT (R290). -/
def execFaultReport (h : SHdr) (code severity ctx tag time detail : Nat) (s : State) : Host.Outcome State Fault Refusal :=
  s.runU fun u => faultReport h code severity ctx tag time detail u

/-- REG_RESPONSE (R289). -/
def execRegResponse (h : SHdr) (status : Nat) (words : List Nat) (s : State) : Host.Outcome State Fault Refusal :=
  s.run fun m u => regResponse h status words m u

/-- RESET_CONFIRM (R76). -/
def execResetConfirm (h : SHdr) (kind status gen duration : Nat) (s : State) : Host.Outcome State Fault Refusal :=
  s.runU fun u => resetConfirm h kind status gen duration u

/-- WAITFOR_REPLY (R296). -/
def execWaitforReply (h : SHdr) (b : WaitBody) (s : State) : Host.Outcome State Fault Refusal :=
  s.runU fun u => waitforReply h b.count b.len b.edges u

/-- RESET_CONFIRM_WAIT_EXPIRY (R76). -/
def execResetConfirmWaitExpiry (port kind ctx : Nat) (s : State) : Host.Outcome State Fault Refusal :=
  s.runU fun u => resetConfirmWaitExpiry port kind ctx u

/-- HB_MISS_INTERVAL (R287). -/
def execHbMissInterval (port : Nat) (s : State) : Host.Outcome State Fault Refusal :=
  s.runU fun u => hbMissInterval port u

/-- PROBE_WAIT_EXPIRY (R289). -/
def execProbeWaitExpiry (port : Nat) (s : State) : Host.Outcome State Fault Refusal :=
  s.runU fun u => probeWaitExpiry port u

/-- GENERATION_BUMP_ACK (R123). -/
def execGenerationBumpAck (port ctx : Nat) (s : State) : Host.Outcome State Fault Refusal :=
  s.runU fun u => generationBumpAck port ctx u

/-- PROGRESS_HALF_TIMEOUT (R293). -/
def execProgressHalfTimeout (port ctx : Nat) (s : State) : Host.Outcome State Fault Refusal :=
  s.runU fun u => progressHalfTimeout port ctx u

/-- PROGRESS_TIMEOUT (R293). -/
def execProgressTimeout (port ctx : Nat) (s : State) : Host.Outcome State Fault Refusal :=
  s.runU fun u => progressTimeout port ctx u

/-- RING_ENTRY_UNCONSUMED (R293). -/
def execRingEntryUnconsumed (ring : Nat) (s : State) : Host.Outcome State Fault Refusal :=
  s.runU fun u => ringEntryUnconsumed ring u

/-- WAITFOR_REPEAT (R296). -/
def execWaitforRepeat (port ctx : Nat) (s : State) : Host.Outcome State Fault Refusal :=
  s.runU fun u => waitforRepeat port ctx u

/-- LHB_SEND (R30). -/
def execLhbSend (s : State) : Host.Outcome State Fault Refusal :=
  s.runU fun u => lhbSend u

/-- LHB (R30). -/
def execLhb (h : LHdr) (seq gen health : Nat) (s : State) : Host.Outcome State Fault Refusal :=
  s.runU fun u => lhb h seq gen health u

/-- LPROBE (R294). -/
def execLprobe (h : LHdr) (s : State) : Host.Outcome State Fault Refusal :=
  s.runU fun u => lprobe h u

/-- LPROBE_ACK (R294). -/
def execLprobeAck (h : LHdr) (gen : Nat) (s : State) : Host.Outcome State Fault Refusal :=
  s.runU fun u => lprobeAck h gen u

/-- LPROBE_WAIT_EXPIRY (R294). -/
def execLprobeWaitExpiry (cid : Nat) (s : State) : Host.Outcome State Fault Refusal :=
  s.runU fun u => lprobeWaitExpiry cid u

/-- FAULT_UP (R307). -/
def execFaultUp (h : LHdr) (n : Notice) (members : List Nat) (s : State) : Host.Outcome State Fault Refusal :=
  s.runU fun u => faultUp h n members u

/-- PF_NOTICE (R308). -/
def execPfNotice (h : LHdr) (n : Notice) (s : State) : Host.Outcome State Fault Refusal :=
  s.runU fun u => pfNotice h n u

/-- PF_ACK (R307). -/
def execPfAck (h : LHdr) (seq cid job status : Nat) (s : State) : Host.Outcome State Fault Refusal :=
  s.runU fun u => pfAck h seq cid job status u

/-- PF_ACK_WAIT_EXPIRY (R307). -/
def execPfAckWaitExpiry (seq cid : Nat) (s : State) : Host.Outcome State Fault Refusal :=
  s.runU fun u => pfAckWaitExpiry seq cid u

/-- WAIT_PROBE (R297). -/
def execWaitProbe (h : LHdr) (origin pid job : Nat) (path : List (List Nat)) (target ctx : Nat) (s : State) : Host.Outcome State Fault Refusal :=
  s.runU fun u => waitProbe h origin pid job path target ctx u

/-- WAIT_BREAK (R299). -/
def execWaitBreak (h : LHdr) (cid ctx gen pid finder : Nat) (s : State) : Host.Outcome State Fault Refusal :=
  s.runU fun u => waitBreak h cid ctx gen pid finder u

/-- VIGIL_WATCH (R292). -/
def execVigilWatch (c : Cmd) (job port ctx prio mask timeout : Nat) (s : State) : Host.Outcome State Fault Refusal :=
  s.runU fun u => vigilWatch c job port ctx prio mask timeout u

/-- VIGIL_UNWATCH (R311). -/
def execVigilUnwatch (c : Cmd) (port ctx : Nat) (s : State) : Host.Outcome State Fault Refusal :=
  s.runU fun u => vigilUnwatch c port ctx u

/-- SNUF_RESET (R311). -/
def execSnufReset (c : Cmd) (port ctx kind : Nat) (s : State) : Host.Outcome State Fault Refusal :=
  s.runU fun u => snufReset c port ctx kind u

/-- SNUF_UNFENCE (R305). -/
def execSnufUnfence (c : Cmd) (port : Nat) (s : State) : Host.Outcome State Fault Refusal :=
  s.runU fun u => snufUnfence c port u

end Sys2Proof.Machine
end

