-- ==== Sys2Proof/Machine/ExecWick.lean ====
section
/-!
DEFINITION. The meanings of the commands whose effects stand in Machine/Wick.lean, on the whole state.
-/
namespace Sys2Proof.Machine

/-- STEP_RECORD (R247). -/
def execStepRecord (h : SHdr) (r : StepRec) (crcOk : Bool) (s : State) : Host.Outcome State Fault Refusal :=
  s.runUWick fun u => stepRecord h r crcOk u

/-- GRADIENT_BLOCK (R244). -/
def execGradientBlock (h : SHdr) (b : Blk) (s : State) : Host.Outcome State Fault Refusal :=
  s.runWick fun m u => gradientBlock h b m u

/-- REGION_BLOCK (R257). -/
def execRegionBlock (h : SHdr) (b : Blk) (s : State) : Host.Outcome State Fault Refusal :=
  s.runWick fun m u => regionBlock h b m u

/-- SNAPSHOT_BLOCK (R259). -/
def execSnapshotBlock (h : SHdr) (b : Blk) (s : State) : Host.Outcome State Fault Refusal :=
  s.runWick fun m u => snapshotBlock h b m u

/-- WICK_BIND_JOB (R238). -/
def execWickBindJob (c : Cmd) (job mode comps prog key params : Nat) (fmts : List Nat) (interval flags gateMs : Nat) (s : State) : Host.Outcome State Fault Refusal :=
  s.runUWick fun u => wickBindJob c job mode comps prog key params fmts interval flags gateMs u

/-- WICK_BIND_SHARD (R238). -/
def execWickBindShard (c : Cmd) (job shard first params buddy roles : Nat) (s : State) : Host.Outcome State Fault Refusal :=
  s.runUWick fun u => wickBindShard c job shard first params buddy roles u

/-- WICK_MEMBERSHIP (R243). -/
def execWickMembership (c : Cmd) (job shard epoch count addr : Nat) (s : State) : Host.Outcome State Fault Refusal :=
  s.runWick fun m u => wickMembership c job shard epoch count addr m u

/-- WICK_UNBIND (R265). -/
def execWickUnbind (c : Cmd) (job : Nat) (s : State) : Host.Outcome State Fault Refusal :=
  s.runUWick fun u => wickUnbind c job u

/-- WICK_SNAPSHOT_NOW (R260). -/
def execWickSnapshotNow (c : Cmd) (job : Nat) (s : State) : Host.Outcome State Fault Refusal :=
  s.runUWick fun u => wickSnapshotNow c job u

/-- WICK_SEED (R257). -/
def execWickSeed (c : Cmd) (job shard : Nat) (s : State) : Host.Outcome State Fault Refusal :=
  s.runUWick fun u => wickSeed c job shard u

/-- WICK_ENABLE_CLEAR (R266). -/
def execWickEnableClear (w : Who) (s : State) : Host.Outcome State Fault Refusal :=
  s.runUWick fun u => wickEnableClear w u

/-- FWD_GRADIENT (R246). -/
def execFwdGradient (h : LHdr) (b : Blk) (s : State) : Host.Outcome State Fault Refusal :=
  s.runWick fun m u => fwdGradient h b m u

/-- FWD_SEED (R257). -/
def execFwdSeed (h : LHdr) (b : Blk) (s : State) : Host.Outcome State Fault Refusal :=
  s.runWick fun m u => fwdSeed h b m u

/-- FWD_REGION (R259). -/
def execFwdRegion (h : LHdr) (b : Blk) (s : State) : Host.Outcome State Fault Refusal :=
  s.runWick fun m u => fwdRegion h b m u

/-- FWD_ACK (R248). -/
def execFwdAck (h : LHdr) (shard step stored status fp : Nat) (s : State) : Host.Outcome State Fault Refusal :=
  s.runUWick fun u => fwdAck h shard step stored status fp u

/-- GATE_BARRIER_COMPLETE (R249). -/
def execGateBarrierComplete (job step status : Nat) (s : State) : Host.Outcome State Fault Refusal :=
  s.runWick fun m u => gateBarrierComplete job step status m u

/-- STEP_FWD (R252). -/
def execStepFwd (h : LHdr) (r : StepRec) (cid ctx : Nat) (crcOk : Bool) (s : State) : Host.Outcome State Fault Refusal :=
  s.runWick fun m u => stepFwd h r cid ctx crcOk m u

/-- READBACK_COMPLETE (R251). -/
def execReadbackComplete (shard step : Nat) (s : State) : Host.Outcome State Fault Refusal :=
  s.runWick fun m u => readbackComplete shard step m u

/-- STEP_RECORD_WAIT_EXPIRY (R252). -/
def execStepRecordWaitExpiry (shard step : Nat) (s : State) : Host.Outcome State Fault Refusal :=
  s.runUWick fun u => stepRecordWaitExpiry shard step u

/-- COMMIT_REC (R254). -/
def execCommitRec (h : LHdr) (r : CommitRec) (crcOk : Bool) (s : State) : Host.Outcome State Fault Refusal :=
  s.runUWick fun u => commitRec h r crcOk u

/-- COMMIT_ACK (R254). -/
def execCommitAck (h : LHdr) (step shard status : Nat) (s : State) : Host.Outcome State Fault Refusal :=
  s.runWick fun m u => commitAck h step shard status m u

/-- COMMIT_ACK_WAIT_EXPIRY (R254). -/
def execCommitAckWaitExpiry (shard step : Nat) (s : State) : Host.Outcome State Fault Refusal :=
  s.runUWick fun u => commitAckWaitExpiry shard step u

/-- FWD_ACK_WAIT_EXPIRY (R246). -/
def execFwdAckWaitExpiry (shard step : Nat) (s : State) : Host.Outcome State Fault Refusal :=
  s.runWick fun m u => fwdAckWaitExpiry shard step m u

/-- SEED_REQ (R257); its reserved bytes are ignored (R10). -/
def execSeedReq (h : LHdr) (shard _reserved step : Nat) (s : State) : Host.Outcome State Fault Refusal :=
  s.runUWick fun u => seedReq h shard step u

/-- BLOCK_FETCH (R256). -/
def execBlockFetch (h : LHdr) (shard block step : Nat) (s : State) : Host.Outcome State Fault Refusal :=
  s.runWick fun m u => blockFetch h shard block step m u

/-- SNAPSHOT_DURABLE (R262). -/
def execSnapshotDurable (shard step : Nat) (ok : Bool) (s : State) : Host.Outcome State Fault Refusal :=
  s.runUWick fun u => snapshotDurable shard step ok u

/-- SPILL_RETRY_TIMER (R264). -/
def execSpillRetryTimer (s : State) : Host.Outcome State Fault Refusal :=
  s.runUWick fun u => spillRetryTimer u

end Sys2Proof.Machine
end

