-- ==== Sys2Proof/Machine/Dispatch.lean ====
section
/-!
DEFINITION. The dispatch from a command to its meaning: one arm for each row of the table.
-/
namespace Sys2Proof.Machine

/-- The effect of a command on everything but the queue. -/
def exec (i : Instr) (s : State) : Host.Outcome State Fault Refusal :=
  match i with
  | .registerWrite w addr value => Sys2Proof.Machine.execRegisterWrite w addr value s
  | .reg64LowRead w addr => Sys2Proof.Machine.execReg64LowRead w addr s
  | .reg64LowWrite w addr value => Sys2Proof.Machine.execReg64LowWrite w addr value s
  | .regReadClear w addr => Sys2Proof.Machine.execRegReadClear w addr s
  | .ringFlush c => Sys2Proof.Machine.execRingFlush c s
  | .mbSetMode c mode => Sys2Proof.Machine.execMbSetMode c mode s
  | .ringProdIdxWrite w ring value entries => Sys2Proof.Machine.execRingProdIdxWrite w ring value entries s
  | .ringConsIdxWrite w ring value => Sys2Proof.Machine.execRingConsIdxWrite w ring value s
  | .ringEnableSet w ring => Sys2Proof.Machine.execRingEnableSet w ring s
  | .ringEnableClear w ring => Sys2Proof.Machine.execRingEnableClear w ring s
  | .ringDrainEnd ring => Sys2Proof.Machine.execRingDrainEnd ring s
  | .mbPost w chan count => Sys2Proof.Machine.execMbPost w chan count s
  | .mbAcknowledge chan code => Sys2Proof.Machine.execMbAcknowledge chan code s
  | .mbReturnPost chan words => Sys2Proof.Machine.execMbReturnPost chan words s
  | .mbRetAck w chan value => Sys2Proof.Machine.execMbRetAck w chan value s
  | .mbDbSet w chan value => Sys2Proof.Machine.execMbDbSet w chan value s
  | .mbDbClear w chan value => Sys2Proof.Machine.execMbDbClear w chan value s
  | .mbDbMaskWrite w chan value => Sys2Proof.Machine.execMbDbMaskWrite w chan value s
  | .mbBindWrite w chan value => Sys2Proof.Machine.execMbBindWrite w chan value s
  | .budgetApply w value => Sys2Proof.Machine.execBudgetApply w value s
  | .budgetPkgCapWrite w value => Sys2Proof.Machine.execBudgetPkgCapWrite w value s
  | .budgetPeriodBoundary rate width => Sys2Proof.Machine.execBudgetPeriodBoundary rate width s
  | .budgetSubSlot => Sys2Proof.Machine.execBudgetSubSlot s
  | .budgetRequest act inst amount => Sys2Proof.Machine.execBudgetRequest act inst amount s
  | .powerInterval measured base estimated => Sys2Proof.Machine.execPowerInterval measured base estimated s
  | .thermalCeilingStep tj ten => Sys2Proof.Machine.execThermalCeilingStep tj ten s
  | .gridPaceWrite w value => Sys2Proof.Machine.execGridPaceWrite w value s
  | .gridPartDisable w part => Sys2Proof.Machine.execGridPartDisable w part s
  | .gridPartEnable w part => Sys2Proof.Machine.execGridPartEnable w part s
  | .gridBeatWindow rates temps => Sys2Proof.Machine.execGridBeatWindow rates temps s
  | .unitDrainTimeout unit => Sys2Proof.Machine.execUnitDrainTimeout unit s
  | .unitDrainEnd unit => Sys2Proof.Machine.execUnitDrainEnd unit s
  | .linkEnable w port => Sys2Proof.Machine.execLinkEnable w port s
  | .linkDisable w port => Sys2Proof.Machine.execLinkDisable w port s
  | .linkRetrain w port => Sys2Proof.Machine.execLinkRetrain w port s
  | .linkFullRetrain w port => Sys2Proof.Machine.execLinkFullRetrain w port s
  | .linkLaneRetest w port => Sys2Proof.Machine.execLinkLaneRetest w port s
  | .frameData port f body => Sys2Proof.Machine.execFrameData port f body s
  | .frameIdle port f => Sys2Proof.Machine.execFrameIdle port f s
  | .frameReplayReq port f => Sys2Proof.Machine.execFrameReplayReq port f s
  | .frameLaneChange port f map kind => Sys2Proof.Machine.execFrameLaneChange port f map kind s
  | .frameBlockCredit port f entries => Sys2Proof.Machine.execFrameBlockCredit port f entries s
  | .frameParam port f body => Sys2Proof.Machine.execFrameParam port f body s
  | .frameBad port bursts uncorr => Sys2Proof.Machine.execFrameBad port bursts uncorr s
  | .linkReplayTimeout port asSender => Sys2Proof.Machine.execLinkReplayTimeout port asSender s
  | .linkStateTimeout port => Sys2Proof.Machine.execLinkStateTimeout port s
  | .pmdTrainDone port => Sys2Proof.Machine.execPmdTrainDone port s
  | .alignDone port locked reversed permuted => Sys2Proof.Machine.execAlignDone port locked reversed permuted s
  | .paramSendTimer port => Sys2Proof.Machine.execParamSendTimer port s
  | .laneChangeTimeout port => Sys2Proof.Machine.execLaneChangeTimeout port s
  | .fastRetrainDone port ok peerAck => Sys2Proof.Machine.execFastRetrainDone port ok peerAck s
  | .fullRetrainDone port ok => Sys2Proof.Machine.execFullRetrainDone port ok s
  | .laneSerWindow port w corrected margins => Sys2Proof.Machine.execLaneSerWindow port w corrected margins s
  | .laneRetestEnd port pass => Sys2Proof.Machine.execLaneRetestEnd port pass s
  | .linkDrainTimeout port => Sys2Proof.Machine.execLinkDrainTimeout port s
  | .lanternForward h dst cls kind level bytes => Sys2Proof.Machine.execLanternForward h dst cls kind level bytes s
  | .heartbeat h seq live health flags => Sys2Proof.Machine.execHeartbeat h seq live health flags s
  | .glim h g => Sys2Proof.Machine.execGlim h g s
  | .stepRecord h r crcOk => Sys2Proof.Machine.execStepRecord h r crcOk s
  | .gradientBlock h b => Sys2Proof.Machine.execGradientBlock h b s
  | .regionBlock h b => Sys2Proof.Machine.execRegionBlock h b s
  | .snapshotBlock h b => Sys2Proof.Machine.execSnapshotBlock h b s
  | .faultReport h code severity ctx tag time detail => Sys2Proof.Machine.execFaultReport h code severity ctx tag time detail s
  | .activityReport h tick flags interval ctxs streams => Sys2Proof.Machine.execActivityReport h tick flags interval ctxs streams s
  | .regResponse h status words => Sys2Proof.Machine.execRegResponse h status words s
  | .applyAck h step status => Sys2Proof.Machine.execApplyAck h step status s
  | .resetConfirm h kind status gen duration => Sys2Proof.Machine.execResetConfirm h kind status gen duration s
  | .shardFpReport h step elems fp shard => Sys2Proof.Machine.execShardFpReport h step elems fp shard s
  | .waitforReply h b => Sys2Proof.Machine.execWaitforReply h b s
  | .mgmtFrame h linkId index seq hop dst src inner plain => Sys2Proof.Machine.execMgmtFrame h linkId index seq hop dst src inner plain s
  | .restoreAck h step shard written => Sys2Proof.Machine.execRestoreAck h step shard written s
  | .recoveryResponse h kind status => Sys2Proof.Machine.execRecoveryResponse h kind status s
  | .emberTokens h tag seq k set refs vecs => Sys2Proof.Machine.execEmberTokens h tag seq k set refs vecs s
  | .streamTokens h ref count flags len toks => Sys2Proof.Machine.execStreamTokens h ref count flags len toks s
  | .reservedClassMessage port cls len hdrGen => Sys2Proof.Machine.execReservedClassMessage port cls len hdrGen s
  | .applyAckWaitExpiry port ctx => Sys2Proof.Machine.execApplyAckWaitExpiry port ctx s
  | .resetConfirmWaitExpiry port kind ctx => Sys2Proof.Machine.execResetConfirmWaitExpiry port kind ctx s
  | .hbMissInterval port => Sys2Proof.Machine.execHbMissInterval port s
  | .probeWaitExpiry port => Sys2Proof.Machine.execProbeWaitExpiry port s
  | .generationBumpAck port ctx => Sys2Proof.Machine.execGenerationBumpAck port ctx s
  | .progressHalfTimeout port ctx => Sys2Proof.Machine.execProgressHalfTimeout port ctx s
  | .progressTimeout port ctx => Sys2Proof.Machine.execProgressTimeout port ctx s
  | .ringEntryUnconsumed ring => Sys2Proof.Machine.execRingEntryUnconsumed ring s
  | .waitforRepeat port ctx => Sys2Proof.Machine.execWaitforRepeat port ctx s
  | .lhbSend => Sys2Proof.Machine.execLhbSend s
  | .lhb h seq gen health => Sys2Proof.Machine.execLhb h seq gen health s
  | .lprobe h => Sys2Proof.Machine.execLprobe h s
  | .lprobeAck h gen => Sys2Proof.Machine.execLprobeAck h gen s
  | .lprobeWaitExpiry cid => Sys2Proof.Machine.execLprobeWaitExpiry cid s
  | .faultUp h n members => Sys2Proof.Machine.execFaultUp h n members s
  | .pfNotice h n => Sys2Proof.Machine.execPfNotice h n s
  | .pfAck h seq cid job status => Sys2Proof.Machine.execPfAck h seq cid job status s
  | .pfAckWaitExpiry seq cid => Sys2Proof.Machine.execPfAckWaitExpiry seq cid s
  | .waitProbe h origin pid job path target ctx => Sys2Proof.Machine.execWaitProbe h origin pid job path target ctx s
  | .waitBreak h cid ctx gen pid finder => Sys2Proof.Machine.execWaitBreak h cid ctx gen pid finder s
  | .leaseRenewTimer role => Sys2Proof.Machine.execLeaseRenewTimer role s
  | .leaseRetryTimer role => Sys2Proof.Machine.execLeaseRetryTimer role s
  | .leaseRequest h role epoch wepoch reqSeq => Sys2Proof.Machine.execLeaseRequest h role epoch wepoch reqSeq s
  | .leaseGrant h role epoch wepoch reqSeq lease holder => Sys2Proof.Machine.execLeaseGrant h role epoch wepoch reqSeq lease holder s
  | .leaseRelease h role epoch wepoch => Sys2Proof.Machine.execLeaseRelease h role epoch wepoch s
  | .leaseRefuse h role epoch wepoch => Sys2Proof.Machine.execLeaseRefuse h role epoch wepoch s
  | .holderLeaseExpiry role => Sys2Proof.Machine.execHolderLeaseExpiry role s
  | .roleHbSend role => Sys2Proof.Machine.execRoleHbSend role s
  | .roleHb h role epoch sender ready jpos => Sys2Proof.Machine.execRoleHb h role epoch sender ready jpos s
  | .pilotHbMiss role => Sys2Proof.Machine.execPilotHbMiss role s
  | .takeoverRequest h role epoch ready wepoch pilot => Sys2Proof.Machine.execTakeoverRequest h role epoch ready wepoch pilot s
  | .witnessLeaseGuardExpiry role => Sys2Proof.Machine.execWitnessLeaseGuardExpiry role s
  | .takeoverGrant h role epoch wepoch pilot => Sys2Proof.Machine.execTakeoverGrant h role epoch wepoch pilot s
  | .takeoverNotYet h role epoch wepoch => Sys2Proof.Machine.execTakeoverNotYet h role epoch wepoch s
  | .roleRebuildDone role => Sys2Proof.Machine.execRoleRebuildDone role s
  | .witnessStore h wepoch role epoch holder expiry seq => Sys2Proof.Machine.execWitnessStore h wepoch role epoch holder expiry seq s
  | .witnessStoreAck h wepoch role epoch seq => Sys2Proof.Machine.execWitnessStoreAck h wepoch role epoch seq s
  | .witnessStoreAckTimeout role seq => Sys2Proof.Machine.execWitnessStoreAckTimeout role seq s
  | .witnessHbSend role => Sys2Proof.Machine.execWitnessHbSend role s
  | .witnessHeartbeat h wepoch role => Sys2Proof.Machine.execWitnessHeartbeat h wepoch role s
  | .standbySilenceExpiry role => Sys2Proof.Machine.execStandbySilenceExpiry role s
  | .journal h role epoch pos image entries => Sys2Proof.Machine.execJournal h role epoch pos image entries s
  | .journalCheckTimer role => Sys2Proof.Machine.execJournalCheckTimer role s
  | .journalCheck h role epoch jpos fp status => Sys2Proof.Machine.execJournalCheck h role epoch jpos fp status s
  | .epoch h role epoch holder => Sys2Proof.Machine.execEpoch h role epoch holder s
  | .roleVacantTimer role => Sys2Proof.Machine.execRoleVacantTimer role s
  | .routeVersion h version entries => Sys2Proof.Machine.execRouteVersion h version entries s
  | .routeRequest h version last => Sys2Proof.Machine.execRouteRequest h version last s
  | .standing h version scope pod status key entries => Sys2Proof.Machine.execStanding h version scope pod status key entries s
  | .wardenSetCap h version watts => Sys2Proof.Machine.execWardenSetCap h version watts s
  | .wardenSetFanFloor h version duty => Sys2Proof.Machine.execWardenSetFanFloor h version duty s
  | .wardenSetPairing h version pairs => Sys2Proof.Machine.execWardenSetPairing h version pairs s
  | .wardenSetPooling h version op job shard buddyBytes stagingBytes => Sys2Proof.Machine.execWardenSetPooling h version op job shard buddyBytes stagingBytes s
  | .wardenSetTopology h version hops => Sys2Proof.Machine.execWardenSetTopology h version hops s
  | .roleReportFreePages h version pages => Sys2Proof.Machine.execRoleReportFreePages h version pages s
  | .roleReportStacks h version stks pages => Sys2Proof.Machine.execRoleReportStacks h version stks pages s
  | .roleReportFailedT3 h version cid time => Sys2Proof.Machine.execRoleReportFailedT3 h version cid time s
  | .roleReportPodSummary h version admitted failed recoveries alarms => Sys2Proof.Machine.execRoleReportPodSummary h version admitted failed recoveries alarms s
  | .roleReportRejoined h version cid gen => Sys2Proof.Machine.execRoleReportRejoined h version cid gen s
  | .wardenT3HbMiss cid => Sys2Proof.Machine.execWardenT3HbMiss cid s
  | .wardenProbeExpiry cid => Sys2Proof.Machine.execWardenProbeExpiry cid s
  | .key h linkId index firstUse nonce wrapped tagOk igtanPort igtanLink => Sys2Proof.Machine.execKey h linkId index firstUse nonce wrapped tagOk igtanPort igtanLink s
  | .keyReplaceTimer linkId ends => Sys2Proof.Machine.execKeyReplaceTimer linkId ends s
  | .oldKeyExpiry linkId => Sys2Proof.Machine.execOldKeyExpiry linkId s
  | .adminAdmissionRequest h seq version msgVer features => Sys2Proof.Machine.execAdminAdmissionRequest h seq version msgVer features s
  | .adminAdmissionAnswer h seq status vOld vNew featEpoch feats => Sys2Proof.Machine.execAdminAdmissionAnswer h seq status vOld vNew featEpoch feats s
  | .adminFeatureSet h seq featEpoch feats => Sys2Proof.Machine.execAdminFeatureSet h seq featEpoch feats s
  | .adminRolloutStep h seq pod version x => Sys2Proof.Machine.execAdminRolloutStep h seq pod version x s
  | .adminAppointment h seq role epoch cids => Sys2Proof.Machine.execAdminAppointment h seq role epoch cids s
  | .adminKeyAgreement h seq sigOk secret => Sys2Proof.Machine.execAdminKeyAgreement h seq sigOk secret s
  | .federation h dstDomain srcDomain innerDst inner pay => Sys2Proof.Machine.execFederation h dstDomain srcDomain innerDst inner pay s
  | .drillInterval role => Sys2Proof.Machine.execDrillInterval role s
  | .drillPathTimeout role path cid => Sys2Proof.Machine.execDrillPathTimeout role path cid s
  | .handbackQuietPoint role calm => Sys2Proof.Machine.execHandbackQuietPoint role calm s
  | .rolloutPodSoak caused => Sys2Proof.Machine.execRolloutPodSoak caused s
  | .roleDrill c role hours => Sys2Proof.Machine.execRoleDrill c role hours s
  | .soLoad c addr len sigOk keyOperator => Sys2Proof.Machine.execSoLoad c addr len sigOk keyOperator s
  | .soProceed c id => Sys2Proof.Machine.execSoProceed c id s
  | .soCancel c id => Sys2Proof.Machine.execSoCancel c id s
  | .soHoldTimeout id => Sys2Proof.Machine.execSoHoldTimeout id s
  | .featureRemove c bit => Sys2Proof.Machine.execFeatureRemove c bit s
  | .mantleRead r addr len ecc => Sys2Proof.Machine.execMantleRead r addr len ecc s
  | .mantleWrite r addr tag ctxKey bytes => Sys2Proof.Machine.execMantleWrite r addr tag ctxKey bytes s
  | .fbWriteback line => Sys2Proof.Machine.execFbWriteback line s
  | .bar2Access write addr len d => Sys2Proof.Machine.execBar2Access write addr len d s
  | .mantleRegionAllocate r bytes recovery => Sys2Proof.Machine.execMantleRegionAllocate r bytes recovery s
  | .mantleQuietExpiry page => Sys2Proof.Machine.execMantleQuietExpiry page s
  | .pageZeroDone page => Sys2Proof.Machine.execPageZeroDone page s
  | .patrolScrub ecc => Sys2Proof.Machine.execPatrolScrub ecc s
  | .stackUnresponsive stack => Sys2Proof.Machine.execStackUnresponsive stack s
  | .freePageReport => Sys2Proof.Machine.execFreePageReport s
  | .mantleEccClr w value => Sys2Proof.Machine.execMantleEccClr w value s
  | .mantleAlloc c typ hostVisible cid ctx mask bytes => Sys2Proof.Machine.execMantleAlloc c typ hostVisible cid ctx mask bytes s
  | .mantleFree c region => Sys2Proof.Machine.execMantleFree c region s
  | .mantleSetAccess c region mask hostVisible => Sys2Proof.Machine.execMantleSetAccess c region mask hostVisible s
  | .gridLoad c region placement job off sub comp binds listAddr => Sys2Proof.Machine.execGridLoad c region placement job off sub comp binds listAddr s
  | .gridLoadComplete slot digestOk signatureOk => Sys2Proof.Machine.execGridLoadComplete slot digestOk signatureOk s
  | .gridStart c slot => Sys2Proof.Machine.execGridStart c slot s
  | .gridHalt c slot => Sys2Proof.Machine.execGridHalt c slot s
  | .gridHaltComplete slot => Sys2Proof.Machine.execGridHaltComplete slot s
  | .gridResume c slot => Sys2Proof.Machine.execGridResume c slot s
  | .gridUnload c slot => Sys2Proof.Machine.execGridUnload c slot s
  | .gridDiag c taper => Sys2Proof.Machine.execGridDiag c taper s
  | .gridDiagComplete taper pass routerOk => Sys2Proof.Machine.execGridDiagComplete taper pass routerOk s
  | .gridWatchdogExpiry slot => Sys2Proof.Machine.execGridWatchdogExpiry slot s
  | .meshMessageArrive src dst vc => Sys2Proof.Machine.execMeshMessageArrive src dst vc s
  | .streamRowDone taper row => Sys2Proof.Machine.execStreamRowDone taper row s
  | .taperWindowAccess w taper off len write bytes => Sys2Proof.Machine.execTaperWindowAccess w taper off len write bytes s
  | .msgSendResume l => Sys2Proof.Machine.execMsgSendResume l s
  | .msgRecvResume l => Sys2Proof.Machine.execMsgRecvResume l s
  | .ringPopResume l => Sys2Proof.Machine.execRingPopResume l s
  | .ringPushResume l => Sys2Proof.Machine.execRingPushResume l s
  | .strStartResume l => Sys2Proof.Machine.execStrStartResume l s
  | .strWaitResume l => Sys2Proof.Machine.execStrWaitResume l s
  | .opNOP l f => Sys2Proof.Machine.execOpNOP l f s
  | .opRDSR l f => Sys2Proof.Machine.execOpRDSR l f s
  | .opWRSR l f => Sys2Proof.Machine.execOpWRSR l f s
  | .opFRET l f => Sys2Proof.Machine.execOpFRET l f s
  | .opTRAP l f => Sys2Proof.Machine.execOpTRAP l f s
  | .opADD l f => Sys2Proof.Machine.execOpADD l f s
  | .opSUB l f => Sys2Proof.Machine.execOpSUB l f s
  | .opMUL l f => Sys2Proof.Machine.execOpMUL l f s
  | .opMULHS l f => Sys2Proof.Machine.execOpMULHS l f s
  | .opMULHU l f => Sys2Proof.Machine.execOpMULHU l f s
  | .opDIVS l f => Sys2Proof.Machine.execOpDIVS l f s
  | .opDIVU l f => Sys2Proof.Machine.execOpDIVU l f s
  | .opREMS l f => Sys2Proof.Machine.execOpREMS l f s
  | .opREMU l f => Sys2Proof.Machine.execOpREMU l f s
  | .opAND l f => Sys2Proof.Machine.execOpAND l f s
  | .opOR l f => Sys2Proof.Machine.execOpOR l f s
  | .opXOR l f => Sys2Proof.Machine.execOpXOR l f s
  | .opSHL l f => Sys2Proof.Machine.execOpSHL l f s
  | .opSHRL l f => Sys2Proof.Machine.execOpSHRL l f s
  | .opSHRA l f => Sys2Proof.Machine.execOpSHRA l f s
  | .opSLT l f => Sys2Proof.Machine.execOpSLT l f s
  | .opSLTU l f => Sys2Proof.Machine.execOpSLTU l f s
  | .opADDI l f => Sys2Proof.Machine.execOpADDI l f s
  | .opANDI l f => Sys2Proof.Machine.execOpANDI l f s
  | .opORI l f => Sys2Proof.Machine.execOpORI l f s
  | .opXORI l f => Sys2Proof.Machine.execOpXORI l f s
  | .opSHLI l f => Sys2Proof.Machine.execOpSHLI l f s
  | .opSHRLI l f => Sys2Proof.Machine.execOpSHRLI l f s
  | .opSHRAI l f => Sys2Proof.Machine.execOpSHRAI l f s
  | .opMOVI l f => Sys2Proof.Machine.execOpMOVI l f s
  | .opMOVHI l f => Sys2Proof.Machine.execOpMOVHI l f s
  | .opLD8U l f ecc => Sys2Proof.Machine.execOpLD8U l f ecc s
  | .opLD16U l f ecc => Sys2Proof.Machine.execOpLD16U l f ecc s
  | .opLD32U l f ecc => Sys2Proof.Machine.execOpLD32U l f ecc s
  | .opLD64 l f ecc => Sys2Proof.Machine.execOpLD64 l f ecc s
  | .opLD8S l f ecc => Sys2Proof.Machine.execOpLD8S l f ecc s
  | .opLD16S l f ecc => Sys2Proof.Machine.execOpLD16S l f ecc s
  | .opLD32S l f ecc => Sys2Proof.Machine.execOpLD32S l f ecc s
  | .opST8 l f => Sys2Proof.Machine.execOpST8 l f s
  | .opST16 l f => Sys2Proof.Machine.execOpST16 l f s
  | .opST32 l f => Sys2Proof.Machine.execOpST32 l f s
  | .opST64 l f => Sys2Proof.Machine.execOpST64 l f s
  | .opBEQ l f => Sys2Proof.Machine.execOpBEQ l f s
  | .opBNE l f => Sys2Proof.Machine.execOpBNE l f s
  | .opBLT l f => Sys2Proof.Machine.execOpBLT l f s
  | .opBGE l f => Sys2Proof.Machine.execOpBGE l f s
  | .opBLTU l f => Sys2Proof.Machine.execOpBLTU l f s
  | .opBGEU l f => Sys2Proof.Machine.execOpBGEU l f s
  | .opBPANY l f => Sys2Proof.Machine.execOpBPANY l f s
  | .opBPNONE l f => Sys2Proof.Machine.execOpBPNONE l f s
  | .opJAL l f => Sys2Proof.Machine.execOpJAL l f s
  | .opJALR l f => Sys2Proof.Machine.execOpJALR l f s
  | .opFADD l f => Sys2Proof.Machine.execOpFADD l f s
  | .opFSUB l f => Sys2Proof.Machine.execOpFSUB l f s
  | .opFMUL l f => Sys2Proof.Machine.execOpFMUL l f s
  | .opFDIV l f => Sys2Proof.Machine.execOpFDIV l f s
  | .opFSQRT l f => Sys2Proof.Machine.execOpFSQRT l f s
  | .opFMA l f => Sys2Proof.Machine.execOpFMA l f s
  | .opFMS l f => Sys2Proof.Machine.execOpFMS l f s
  | .opFNMA l f => Sys2Proof.Machine.execOpFNMA l f s
  | .opFMIN l f => Sys2Proof.Machine.execOpFMIN l f s
  | .opFMAX l f => Sys2Proof.Machine.execOpFMAX l f s
  | .opFABS l f => Sys2Proof.Machine.execOpFABS l f s
  | .opFNEG l f => Sys2Proof.Machine.execOpFNEG l f s
  | .opFCOPYSIGN l f => Sys2Proof.Machine.execOpFCOPYSIGN l f s
  | .opFCMP l f => Sys2Proof.Machine.execOpFCMP l f s
  | .opFCVT l f => Sys2Proof.Machine.execOpFCVT l f s
  | .opFCVTI l f => Sys2Proof.Machine.execOpFCVTI l f s
  | .opICVTF l f => Sys2Proof.Machine.execOpICVTF l f s
  | .opRCP_EST l f => Sys2Proof.Machine.execOpRCP_EST l f s
  | .opRSQRT_EST l f => Sys2Proof.Machine.execOpRSQRT_EST l f s
  | .opEXP2 l f => Sys2Proof.Machine.execOpEXP2 l f s
  | .opLOG2 l f => Sys2Proof.Machine.execOpLOG2 l f s
  | .opVFADD l f => Sys2Proof.Machine.execOpVFADD l f s
  | .opVFSUB l f => Sys2Proof.Machine.execOpVFSUB l f s
  | .opVFMUL l f => Sys2Proof.Machine.execOpVFMUL l f s
  | .opVFDIV l f => Sys2Proof.Machine.execOpVFDIV l f s
  | .opVFSQRT l f => Sys2Proof.Machine.execOpVFSQRT l f s
  | .opVFMA l f => Sys2Proof.Machine.execOpVFMA l f s
  | .opVFMS l f => Sys2Proof.Machine.execOpVFMS l f s
  | .opVFNMA l f => Sys2Proof.Machine.execOpVFNMA l f s
  | .opVFMIN l f => Sys2Proof.Machine.execOpVFMIN l f s
  | .opVFMAX l f => Sys2Proof.Machine.execOpVFMAX l f s
  | .opVFABS l f => Sys2Proof.Machine.execOpVFABS l f s
  | .opVFNEG l f => Sys2Proof.Machine.execOpVFNEG l f s
  | .opVFCOPYSIGN l f => Sys2Proof.Machine.execOpVFCOPYSIGN l f s
  | .opVFCMP l f => Sys2Proof.Machine.execOpVFCMP l f s
  | .opVFCVT l f => Sys2Proof.Machine.execOpVFCVT l f s
  | .opVFCVTI l f => Sys2Proof.Machine.execOpVFCVTI l f s
  | .opVICVTF l f => Sys2Proof.Machine.execOpVICVTF l f s
  | .opVRCP_EST l f => Sys2Proof.Machine.execOpVRCP_EST l f s
  | .opVRSQRT_EST l f => Sys2Proof.Machine.execOpVRSQRT_EST l f s
  | .opVEXP2 l f => Sys2Proof.Machine.execOpVEXP2 l f s
  | .opVLOG2 l f => Sys2Proof.Machine.execOpVLOG2 l f s
  | .opVMXPACK l f => Sys2Proof.Machine.execOpVMXPACK l f s
  | .opVMXUNPACK l f => Sys2Proof.Machine.execOpVMXUNPACK l f s
  | .opVADD l f => Sys2Proof.Machine.execOpVADD l f s
  | .opVSUB l f => Sys2Proof.Machine.execOpVSUB l f s
  | .opVMUL l f => Sys2Proof.Machine.execOpVMUL l f s
  | .opVADDS l f => Sys2Proof.Machine.execOpVADDS l f s
  | .opVSUBS l f => Sys2Proof.Machine.execOpVSUBS l f s
  | .opVAND l f => Sys2Proof.Machine.execOpVAND l f s
  | .opVOR l f => Sys2Proof.Machine.execOpVOR l f s
  | .opVXOR l f => Sys2Proof.Machine.execOpVXOR l f s
  | .opVSHL l f => Sys2Proof.Machine.execOpVSHL l f s
  | .opVSHR l f => Sys2Proof.Machine.execOpVSHR l f s
  | .opVMIN l f => Sys2Proof.Machine.execOpVMIN l f s
  | .opVMAX l f => Sys2Proof.Machine.execOpVMAX l f s
  | .opVCMP l f => Sys2Proof.Machine.execOpVCMP l f s
  | .opVSEL l f => Sys2Proof.Machine.execOpVSEL l f s
  | .opVBCAST l f => Sys2Proof.Machine.execOpVBCAST l f s
  | .opVEXTRACT l f => Sys2Proof.Machine.execOpVEXTRACT l f s
  | .opVINSERT l f => Sys2Proof.Machine.execOpVINSERT l f s
  | .opVIOTA l f => Sys2Proof.Machine.execOpVIOTA l f s
  | .opVPERM l f => Sys2Proof.Machine.execOpVPERM l f s
  | .opVMOV l f => Sys2Proof.Machine.execOpVMOV l f s
  | .opPAND l f => Sys2Proof.Machine.execOpPAND l f s
  | .opPOR l f => Sys2Proof.Machine.execOpPOR l f s
  | .opPXOR l f => Sys2Proof.Machine.execOpPXOR l f s
  | .opPNOT l f => Sys2Proof.Machine.execOpPNOT l f s
  | .opPSET l f => Sys2Proof.Machine.execOpPSET l f s
  | .opPGET l f => Sys2Proof.Machine.execOpPGET l f s
  | .opPCNT l f => Sys2Proof.Machine.execOpPCNT l f s
  | .opVLD l f ecc => Sys2Proof.Machine.execOpVLD l f ecc s
  | .opVST l f => Sys2Proof.Machine.execOpVST l f s
  | .opTLD l f ecc => Sys2Proof.Machine.execOpTLD l f ecc s
  | .opTST l f => Sys2Proof.Machine.execOpTST l f s
  | .opPLD l f ecc => Sys2Proof.Machine.execOpPLD l f ecc s
  | .opPST l f => Sys2Proof.Machine.execOpPST l f s
  | .opTZERO l f => Sys2Proof.Machine.execOpTZERO l f s
  | .opTMMA l f => Sys2Proof.Machine.execOpTMMA l f s
  | .opTMMA_SP l f => Sys2Proof.Machine.execOpTMMA_SP l f s
  | .opTMOVV l f => Sys2Proof.Machine.execOpTMOVV l f s
  | .opVMOVT l f => Sys2Proof.Machine.execOpVMOVT l f s
  | .opLACC_CLR l f => Sys2Proof.Machine.execOpLACC_CLR l f s
  | .opLACC_ADD l f => Sys2Proof.Machine.execOpLACC_ADD l f s
  | .opLACC_MAC l f => Sys2Proof.Machine.execOpLACC_MAC l f s
  | .opLACC_ACC l f => Sys2Proof.Machine.execOpLACC_ACC l f s
  | .opLACC_RND l f => Sys2Proof.Machine.execOpLACC_RND l f s
  | .opLACC_STAT l f => Sys2Proof.Machine.execOpLACC_STAT l f s
  | .opLACC_EXP l f => Sys2Proof.Machine.execOpLACC_EXP l f s
  | .opLACC_IMP l f ecc => Sys2Proof.Machine.execOpLACC_IMP l f ecc s
  | .opMSG_SEND l f => Sys2Proof.Machine.execOpMSG_SEND l f s
  | .opMSG_RECV l f => Sys2Proof.Machine.execOpMSG_RECV l f s
  | .opMSG_POLL l f => Sys2Proof.Machine.execOpMSG_POLL l f s
  | .opMSG_FREE l f => Sys2Proof.Machine.execOpMSG_FREE l f s
  | .opRING_POP l f => Sys2Proof.Machine.execOpRING_POP l f s
  | .opRING_TRY l f => Sys2Proof.Machine.execOpRING_TRY l f s
  | .opRING_PUSH l f => Sys2Proof.Machine.execOpRING_PUSH l f s
  | .opSTR_START l f => Sys2Proof.Machine.execOpSTR_START l f s
  | .opSTR_WAIT l f => Sys2Proof.Machine.execOpSTR_WAIT l f s
  | .opSTR_TEST l f => Sys2Proof.Machine.execOpSTR_TEST l f s
  | .opSTR_WAITALL l f => Sys2Proof.Machine.execOpSTR_WAITALL l f s
  | .opFING_V l f => Sys2Proof.Machine.execOpFING_V l f s
  | .opFING_ADDM l f => Sys2Proof.Machine.execOpFING_ADDM l f s
  | .opFING_SUBM l f => Sys2Proof.Machine.execOpFING_SUBM l f s
  | .opFING_MULM l f => Sys2Proof.Machine.execOpFING_MULM l f s
  | .opFING_POWM l f => Sys2Proof.Machine.execOpFING_POWM l f s
  | .opRNG_RAW l f => Sys2Proof.Machine.execOpRNG_RAW l f s
  | .opRNG_PHILOX l f => Sys2Proof.Machine.execOpRNG_PHILOX l f s
  | .wickBindJob c job mode comps prog key params fmts interval flags gateMs => Sys2Proof.Machine.execWickBindJob c job mode comps prog key params fmts interval flags gateMs s
  | .wickBindShard c job shard first params buddy roles => Sys2Proof.Machine.execWickBindShard c job shard first params buddy roles s
  | .wickMembership c job shard epoch count addr => Sys2Proof.Machine.execWickMembership c job shard epoch count addr s
  | .wickUnbind c job => Sys2Proof.Machine.execWickUnbind c job s
  | .wickSnapshotNow c job => Sys2Proof.Machine.execWickSnapshotNow c job s
  | .wickSeed c job shard => Sys2Proof.Machine.execWickSeed c job shard s
  | .wickEnableClear w => Sys2Proof.Machine.execWickEnableClear w s
  | .fwdGradient h b => Sys2Proof.Machine.execFwdGradient h b s
  | .fwdSeed h b => Sys2Proof.Machine.execFwdSeed h b s
  | .fwdRegion h b => Sys2Proof.Machine.execFwdRegion h b s
  | .fwdAck h shard step stored status fp => Sys2Proof.Machine.execFwdAck h shard step stored status fp s
  | .gateBarrierComplete job step status => Sys2Proof.Machine.execGateBarrierComplete job step status s
  | .stepFwd h r cid ctx crcOk => Sys2Proof.Machine.execStepFwd h r cid ctx crcOk s
  | .shadowCompletion shard step item kind reason taper fp beats => Sys2Proof.Machine.execShadowCompletion shard step item kind reason taper fp beats s
  | .readbackComplete shard step => Sys2Proof.Machine.execReadbackComplete shard step s
  | .stepRecordWaitExpiry shard step => Sys2Proof.Machine.execStepRecordWaitExpiry shard step s
  | .commitRec h r crcOk => Sys2Proof.Machine.execCommitRec h r crcOk s
  | .commitAck h step shard status => Sys2Proof.Machine.execCommitAck h step shard status s
  | .commitAckWaitExpiry shard step => Sys2Proof.Machine.execCommitAckWaitExpiry shard step s
  | .fwdAckWaitExpiry shard step => Sys2Proof.Machine.execFwdAckWaitExpiry shard step s
  | .seedReq h shard reserved step => Sys2Proof.Machine.execSeedReq h shard reserved step s
  | .blockFetch h shard block step => Sys2Proof.Machine.execBlockFetch h shard block step s
  | .snapshotDurable shard step ok => Sys2Proof.Machine.execSnapshotDurable shard step ok s
  | .spillRetryTimer => Sys2Proof.Machine.execSpillRetryTimer s
  | .shadowRegister c region off signatureOk => Sys2Proof.Machine.execShadowRegister c region off signatureOk s
  | .shadowUnregister c prog => Sys2Proof.Machine.execShadowUnregister c prog s
  | .shadowQualify c prog set => Sys2Proof.Machine.execShadowQualify c prog set s
  | .shadowParams c job region addr => Sys2Proof.Machine.execShadowParams c job region addr s
  | .shadowResolve c job shard step choice => Sys2Proof.Machine.execShadowResolve c job shard step choice s
  | .shadowGridRetry => Sys2Proof.Machine.execShadowGridRetry s
  | .shadowInstanceReload job => Sys2Proof.Machine.execShadowInstanceReload job s
  | .vigilWatch c job port ctx prio mask timeout => Sys2Proof.Machine.execVigilWatch c job port ctx prio mask timeout s
  | .vigilUnwatch c port ctx => Sys2Proof.Machine.execVigilUnwatch c port ctx s
  | .snufReset c port ctx kind => Sys2Proof.Machine.execSnufReset c port ctx kind s
  | .snufUnfence c port => Sys2Proof.Machine.execSnufUnfence c port s
  | .igtanBringup c port => Sys2Proof.Machine.execIgtanBringup c port s
  | .igtanReg c port off write count addr => Sys2Proof.Machine.execIgtanReg c port off write count addr s
  | .rcvQuery h job seq coord => Sys2Proof.Machine.execRcvQuery h job seq coord s
  | .rcvState h job seq released count steps => Sys2Proof.Machine.execRcvState h job seq released count steps s
  | .rcvQueryTimeout job => Sys2Proof.Machine.execRcvQueryTimeout job s
  | .rcvPoint h job seq r roll failed => Sys2Proof.Machine.execRcvPoint h job seq r roll failed s
  | .rcvReady h job seq status => Sys2Proof.Machine.execRcvReady h job seq status s
  | .rcvResume h job seq => Sys2Proof.Machine.execRcvResume h job seq s
  | .rcvResumeTimeout job => Sys2Proof.Machine.execRcvResumeTimeout job s
  | .rcvRelease c job => Sys2Proof.Machine.execRcvRelease c job s
  | .rcvSpareSet c cid port state group => Sys2Proof.Machine.execRcvSpareSet c cid port state group s
  | .spareReq h pos job action a => Sys2Proof.Machine.execSpareReq h pos job action a s
  | .spareGrant h pos spareCid port version status => Sys2Proof.Machine.execSpareGrant h pos spareCid port version status s
  | .rcvPrepTimeout pos port => Sys2Proof.Machine.execRcvPrepTimeout pos port s
  | .prestageHoldExpiry pos => Sys2Proof.Machine.execPrestageHoldExpiry pos s
  | .reloadReq h shard kind step first => Sys2Proof.Machine.execReloadReq h shard kind step first s
  | .reloadBlock h b => Sys2Proof.Machine.execReloadBlock h b s
  | .reloadAck h shard step written status => Sys2Proof.Machine.execReloadAck h shard step written status s
  | .reloadRec h r mode comps prog key params fmts interval flags gateMs epoch first sparams => Sys2Proof.Machine.execReloadRec h r mode comps prog key params fmts interval flags gateMs epoch first sparams s
  | .streamMove h index cid ctx ent toks => Sys2Proof.Machine.execStreamMove h index cid ctx ent toks s
  | .streamMoveResponse h index status => Sys2Proof.Machine.execStreamMoveResponse h index status s
  | .flickerLoadModel c region off => Sys2Proof.Machine.execFlickerLoadModel c region off s
  | .flickerEval c comp => Sys2Proof.Machine.execFlickerEval c comp s
  | .flickerResetHistory c comp => Sys2Proof.Machine.execFlickerResetHistory c comp s
  | .flickerEnableClear w => Sys2Proof.Machine.execFlickerEnableClear w s
  | .flickerExtractClear w => Sys2Proof.Machine.execFlickerExtractClear w s
  | .flickerPoll reads => Sys2Proof.Machine.execFlickerPoll reads s
  | .flickerGlimMissing comp => Sys2Proof.Machine.execFlickerGlimMissing comp s
  | .flickerBucketBoundary => Sys2Proof.Machine.execFlickerBucketBoundary s
  | .flickerSweep => Sys2Proof.Machine.execFlickerSweep s
  | .flickerTriggeredEval comp => Sys2Proof.Machine.execFlickerTriggeredEval comp s
  | .flickerCompletion sweep kind entries => Sys2Proof.Machine.execFlickerCompletion sweep kind entries s
  | .flickerStaleExpiry comp => Sys2Proof.Machine.execFlickerStaleExpiry comp s
  | .flickerPrestageRenew comp => Sys2Proof.Machine.execFlickerPrestageRenew comp s
  | .flickerCalibrationHour => Sys2Proof.Machine.execFlickerCalibrationHour s
  | .flickerFalseAlarmHour comp => Sys2Proof.Machine.execFlickerFalseAlarmHour comp s
  | .emberBind c job shard count addr => Sys2Proof.Machine.execEmberBind c job shard count addr s
  | .emberUnbind c job shard => Sys2Proof.Machine.execEmberUnbind c job shard s
  | .emberStop c job shard => Sys2Proof.Machine.execEmberStop c job shard s
  | .emberEnableClear w => Sys2Proof.Machine.execEmberEnableClear w s
  | .embCtlStart h job shard cid ctx => Sys2Proof.Machine.execEmbCtlStart h job shard cid ctx s
  | .embCtlAck h job shard cid ctx seq status => Sys2Proof.Machine.execEmbCtlAck h job shard cid ctx seq status s
  | .embCtlRoute h mode job shard cid ctx seq tags => Sys2Proof.Machine.execEmbCtlRoute h mode job shard cid ctx seq tags s
  | .embCtlStop h job shard cid ctx seq => Sys2Proof.Machine.execEmbCtlStop h job shard cid ctx seq s
  | .embTokens h tag seq k set refs vecs => Sys2Proof.Machine.execEmbTokens h tag seq k set refs vecs s
  | .embResultMsg h tag seq k status set vecs => Sys2Proof.Machine.execEmbResultMsg h tag seq k status set vecs s
  | .emberBatchClose => Sys2Proof.Machine.execEmberBatchClose s
  | .emberBatchDone outs beats bytes => Sys2Proof.Machine.execEmberBatchDone outs beats bytes s
  | .emberResultTimeout port ctx set => Sys2Proof.Machine.execEmberResultTimeout port ctx set s
  | .emberDrainExpiry entry => Sys2Proof.Machine.execEmberDrainExpiry entry s
  | .emberIdleUnload => Sys2Proof.Machine.execEmberIdleUnload s
  | .streamOpen c port ctx client => Sys2Proof.Machine.execStreamOpen c port ctx client s
  | .streamClose c ref => Sys2Proof.Machine.execStreamClose c ref s
  | .streamCancel c ref => Sys2Proof.Machine.execStreamCancel c ref s
  | .ledgerBindRing c ring => Sys2Proof.Machine.execLedgerBindRing c ring s
  | .ledgerTick => Sys2Proof.Machine.execLedgerTick s
  | .pmbusReadDone chan eout nj => Sys2Proof.Machine.execPmbusReadDone chan eout nj s
  | .pmbusReadTimeout chan eout => Sys2Proof.Machine.execPmbusReadTimeout chan eout s
  | .ledgerMeterLostExpiry chan => Sys2Proof.Machine.execLedgerMeterLostExpiry chan s
  | .ledgerApportion export_ => Sys2Proof.Machine.execLedgerApportion export_ s
  | .ledgerIntervalBoundary => Sys2Proof.Machine.execLedgerIntervalBoundary s
  | .ledgerRecordSigned => Sys2Proof.Machine.execLedgerRecordSigned s
  | .ledgerRecordDurable => Sys2Proof.Machine.execLedgerRecordDurable s
  | .ledgerAckSeqWrite w value => Sys2Proof.Machine.execLedgerAckSeqWrite w value s
  | .ledgerChargeSend => Sys2Proof.Machine.execLedgerChargeSend s
  | .ledgerCharge h seq first charges => Sys2Proof.Machine.execLedgerCharge h seq first charges s
  | .ledgerChargeAck h seq status => Sys2Proof.Machine.execLedgerChargeAck h seq status s
  | .ledgerChargeResend dst seq => Sys2Proof.Machine.execLedgerChargeResend dst seq s
  | .streamClosingWaitExpiry index => Sys2Proof.Machine.execStreamClosingWaitExpiry index s
  | .collGroupSet c group epoch flags job threshold period count addr => Sys2Proof.Machine.execCollGroupSet c group epoch flags job threshold period count addr s
  | .collGroupFree c group => Sys2Proof.Machine.execCollGroupFree c group s
  | .collCall c sig crc inR inOff outR outOff timeout => Sys2Proof.Machine.execCollCall c sig crc inR inOff outR outOff timeout s
  | .collCancel c group seq => Sys2Proof.Machine.execCollCancel c group seq s
  | .collRound h k => Sys2Proof.Machine.execCollRound h k s
  | .collAbort h sig num a => Sys2Proof.Machine.execCollAbort h sig num a s
  | .collCallTimeout group space num => Sys2Proof.Machine.execCollCallTimeout group space num s
  | .collAbortRoundExpiry group space num => Sys2Proof.Machine.execCollAbortRoundExpiry group space num s
  | .collHealthCall group => Sys2Proof.Machine.execCollHealthCall group s
  | .collEnableClear w => Sys2Proof.Machine.execCollEnableClear w s
  | .beaconStep c step => Sys2Proof.Machine.execBeaconStep c step s
  | .beaconSetCalendar c y mo d h mi sec => Sys2Proof.Machine.execBeaconSetCalendar c y mo d h mi sec s
  | .beaconSetUtc c offset leap61 leap59 => Sys2Proof.Machine.execBeaconSetUtc c offset leap61 leap59 s
  | .ptpSyncMeasurement d off => Sys2Proof.Machine.execPtpSyncMeasurement d off s
  | .ptpAnnounce d dataset utcOffset valid leap61 leap59 => Sys2Proof.Machine.execPtpAnnounce d dataset utcOffset valid leap61 leap59 s
  | .ptpEventTransmit port seqId typ domain => Sys2Proof.Machine.execPtpEventTransmit port seqId typ domain s
  | .beaconTxtsPop w port => Sys2Proof.Machine.execBeaconTxtsPop w port s
  | .ppsInEdge => Sys2Proof.Machine.execPpsInEdge s
  | .ppsLossTimeout => Sys2Proof.Machine.execPpsLossTimeout s
  | .ref10mLoss => Sys2Proof.Machine.execRef10mLoss s
  | .ref10mReturn => Sys2Proof.Machine.execRef10mReturn s
  | .announceReceiptTimeout d => Sys2Proof.Machine.execAnnounceReceiptTimeout d s
  | .beaconHoldExpiry => Sys2Proof.Machine.execBeaconHoldExpiry s
  | .beaconRevertTimer => Sys2Proof.Machine.execBeaconRevertTimer s
  | .leapSecondEnd => Sys2Proof.Machine.execLeapSecondEnd s
  | .tallowFormat c => Sys2Proof.Machine.execTallowFormat c s
  | .tallowCheckpoint c => Sys2Proof.Machine.execTallowCheckpoint c s
  | .tallowRawRead c die block page addr => Sys2Proof.Machine.execTallowRawRead c die block page addr s
  | .tallowRawProgram c die block page addr => Sys2Proof.Machine.execTallowRawProgram c die block page addr s
  | .tallowRawErase c die block => Sys2Proof.Machine.execTallowRawErase c die block s
  | .tallowEnableClear w => Sys2Proof.Machine.execTallowEnableClear w s
  | .tallowWrite owner region chunk bytes => Sys2Proof.Machine.execTallowWrite owner region chunk bytes s
  | .nandProgramDone p pass => Sys2Proof.Machine.execNandProgramDone p pass s
  | .nandReadDone p retries ok same data => Sys2Proof.Machine.execNandReadDone p retries ok same data s
  | .nandEraseDone die block pass => Sys2Proof.Machine.execNandEraseDone die block pass s
  | .tallowGc tlc => Sys2Proof.Machine.execTallowGc tlc s
  | .tallowCheckpointTimer => Sys2Proof.Machine.execTallowCheckpointTimer s
  | .eventRaise code level src payload more t => Sys2Proof.Machine.execEventRaise code level src payload more t s
  | .chimTokenRefill code => Sys2Proof.Machine.execChimTokenRefill code s
  | .chimLogUnitWrite => Sys2Proof.Machine.execChimLogUnitWrite s
  | .chimWindowEnd step code origin src => Sys2Proof.Machine.execChimWindowEnd step code origin src s
  | .evtFwd h seq alarm entries => Sys2Proof.Machine.execEvtFwd h seq alarm entries s
  | .evtFwdAck h seq status => Sys2Proof.Machine.execEvtFwdAck h seq status s
  | .evtFwdAckTimeout seq => Sys2Proof.Machine.execEvtFwdAckTimeout seq s
  | .chimExportPeriod => Sys2Proof.Machine.execChimExportPeriod s
  | .traceOccurrence source kind data deferred => Sys2Proof.Machine.execTraceOccurrence source kind data deferred s
  | .chimFlueEnable w ring value => Sys2Proof.Machine.execChimFlueEnable w ring value s
  | .chimBindFeed c ring => Sys2Proof.Machine.execChimBindFeed c ring s
  | .chimAlarmAck c seq => Sys2Proof.Machine.execChimAlarmAck c seq s
  | .chimEventRead c first count addr => Sys2Proof.Machine.execChimEventRead c first count addr s
  | .chimLlFreeze c ring => Sys2Proof.Machine.execChimLlFreeze c ring s
  | .chimLlRelease c ring => Sys2Proof.Machine.execChimLlRelease c ring s
  | .chimExportBind c ring => Sys2Proof.Machine.execChimExportBind c ring s
  | .lampAmend c addr len a => Sys2Proof.Machine.execLampAmend c addr len a s
  | .lampUpdate c kind region off len im same => Sys2Proof.Machine.execLampUpdate c kind region off len im same s
  | .lampActivate c => Sys2Proof.Machine.execLampActivate c s
  | .quiescePointReached ready bad => Sys2Proof.Machine.execQuiescePointReached ready bad s
  | .quiesceTimeout => Sys2Proof.Machine.execQuiesceTimeout s
  | .activationReadyTimeout => Sys2Proof.Machine.execActivationReadyTimeout s
  | .trialCommitTimer => Sys2Proof.Machine.execTrialCommitTimer s
  | .trialStartTimeout => Sys2Proof.Machine.execTrialStartTimeout s
  | .lampCalWrite c addr sigKey => Sys2Proof.Machine.execLampCalWrite c addr sigKey s
  | .lampOwnerSet c count idx addr sigKey => Sys2Proof.Machine.execLampOwnerSet c count idx addr sigKey s
  | .lampOwnerClear c => Sys2Proof.Machine.execLampOwnerClear c s
  | .lockstepMismatch => Sys2Proof.Machine.execLockstepMismatch s
  | .lampWatchdogExpiry => Sys2Proof.Machine.execLampWatchdogExpiry s
  | .entropyHealthFail => Sys2Proof.Machine.execEntropyHealthFail s
  | .entropyHealthPass => Sys2Proof.Machine.execEntropyHealthPass s
  | .opTimeTick => Sys2Proof.Machine.execOpTimeTick s
  | .spdmRequest path req slot => Sys2Proof.Machine.execSpdmRequest path req slot s
  | .pldmRequest path r => Sys2Proof.Machine.execPldmRequest path r s
  | .auxPowerGood straps fuses nor => Sys2Proof.Machine.execAuxPowerGood straps fuses nor s
  | .corePgAssert x => Sys2Proof.Machine.execCorePgAssert x s
  | .corePgTimeout => Sys2Proof.Machine.execCorePgTimeout s
  | .corePgDeassert long => Sys2Proof.Machine.execCorePgDeassert long s
  | .sysReset tj => Sys2Proof.Machine.execSysReset tj s
  | .pwrFailAssert => Sys2Proof.Machine.execPwrFailAssert s
  | .pwrFailDeassert => Sys2Proof.Machine.execPwrFailDeassert s
  | .powerStartRequest kind port ctx recovery => Sys2Proof.Machine.execPowerStartRequest kind port ctx recovery s
  | .powerWindowLeave => Sys2Proof.Machine.execPowerWindowLeave s
  | .pwrseqPos c port action => Sys2Proof.Machine.execPwrseqPos c port action s
  | .posPgTimeout port => Sys2Proof.Machine.execPosPgTimeout port s
  | .overtempEnter => Sys2Proof.Machine.execOvertempEnter s
  | .overtempEnd => Sys2Proof.Machine.execOvertempEnd s
  | .thermtrip => Sys2Proof.Machine.execThermtrip s
  | .reg64HighWrite w addr value => Sys2Proof.Machine.execReg64HighWrite w addr value s
  | .roleQuietPoint role => Sys2Proof.Machine.execRoleQuietPoint role s
  | .poolingReservationAnswer h status job p => Sys2Proof.Machine.execPoolingReservationAnswer h status job p s
  | .drillProbeAnswer h seq => Sys2Proof.Machine.execDrillProbeAnswer h seq s
  | .ptpOtherMessage port domain typ seqId => Sys2Proof.Machine.execPtpOtherMessage port domain typ seqId s
  | .posPgAssert port => Sys2Proof.Machine.execPosPgAssert port s
  | .posCyclePowerOn port => Sys2Proof.Machine.execPosCyclePowerOn port s
  | .coreEnRetry => Sys2Proof.Machine.execCoreEnRetry s

end Sys2Proof.Machine
end

