-- ==== Sys2Proof/Machine/Step.lean ====
section
/-!
DEFINITION. One step: the command at the front of the queue; on an empty queue one cycle of the Beacon clock.
-/
namespace Sys2Proof.Machine

/-- The command that a word of the table's bits spells, at the front of the queue. No row gives bits, so the state stays. -/
def State.withFetchWord (s : State) (nbits w : Nat) : State :=
  match Sys2Proof.decodeTableWord nbits w with
  | some i => { s with pending := i :: s.pending }
  | none => s

/-- One step: DESIGN CHOICE, with nothing to do the Beacon's clock advances by one cycle (18). -/
def step (s : State) : Host.Outcome State Fault Refusal :=
  match s.pending with
  | [] => .next { s with u := s.u.clockCycle }
  | i :: r => exec i { s with pending := r }

end Sys2Proof.Machine
end

