-- ==== Sys2Proof/Safety.lean ====
section
/-!
DEFINITION. What claims are stated in: good states, the state after an effect, and a taper about to issue an instruction.
-/
namespace Sys2Proof.Machine

/-- Nothing is left to be carried out: what every command that ran to its end leaves (95). -/
def State.idle (s : State) : Prop := s.u.todo = []

/-- The front buffer keeps to its unit staging partition (R114). -/
def State.staged (s : State) : Prop := s.mem.fb.length ≤ stagingLines

/-- The Mantle's bytes and its front buffer are in their canonical form. -/
def State.memOk (s : State) : Prop := s.mem.wf = true

/-- What has left the T3, oldest first. -/
def State.outputs (s : State) : List Out := s.u.out

/-- The state once a command's own effect has left the units at `u`, and the effects that it raises on other units have been carried out. -/
def State.after (s : State) (u : Units) : State := s.put (carry (s.mem, u))

/-- The same for an effect on the Mantle and the units. -/
def State.afterM (s : State) (a : Mem × Units) : State := s.put (carry a)

/-- The same for a command of the Wick, after which stand-ins whose buddy region is no longer good end (R377). -/
def State.afterW (s : State) (u : Units) : State := s.put (carryWick (s.mem, u))
def State.afterWM (s : State) (a : Mem × Units) : State := s.put (carryWick a)

/-- A sconce message of class `cls` is acted on: the block is active, the message is of the selected version, its generations are those in force, and no
fence keeps it back (R61, R64, R302). -/
def State.hears (s : State) (h : SHdr) (cls : Nat) : Prop :=
  (s.u.ig h.port).active = true ∧ h.ver = (s.u.ig h.port).proto ∧ h.accGen = s.u.accGen h.port ∧ (h.ctx = 0xFF ∨ h.ctxGen = s.u.ctxGen h.port h.ctx) ∧
    (s.u.fenced h.port = false ∨ fenceIn cls = true)

/-- A lantern message is acted on: of a version supported and of the sender's generation in force, and no drill probe (R46, R58, R105). -/
def State.hearsL (s : State) (h : LHdr) : Prop := s.u.lanternDrops h = false ∧ lDrill h = false

/-- A role message is acted on: heard, and of no lower role epoch (R38, R53). -/
def State.hearsRole (s : State) (h : LHdr) (role epoch : Nat) : Prop := s.hearsL h ∧ (s.u.roleOf role).epoch ≤ epoch

/-- A message that one holder sends is acted on: heard, and from the holder in force where one is known (R38, R53). -/
def State.hearsFrom (s : State) (h : LHdr) (role : Nat) : Prop := s.hearsL h ∧ ((s.u.roleOf role).holder = 0 ∨ h.src = (s.u.roleOf role).holder)

/-- A message of the witness protocol is acted on: heard, and of no lower witness epoch (R42). -/
def State.hearsWit (s : State) (h : LHdr) (role wepoch : Nat) : Prop := s.hearsL h ∧ (s.u.roleOf role).wepoch ≤ wepoch

/-- This T3 is the witness, or acts as it, that answers a request under a witness epoch (R42). -/
def State.judges (s : State) (h : LHdr) (role wepoch : Nat) : Prop :=
  s.hearsL h ∧ (s.u.self = (s.u.roleOf role).witness ∨ (s.u.roleOf role).acting = true) ∧ wepoch ≤ (s.u.roleOf role).wepoch

/-- Shard `shard` is bound here at entry `k`, with what the entry and its job's binding hold (R238, R239). -/
def State.holds (s : State) (shard k : Nat) (x : Shard) (j : JobBind) : Prop :=
  s.u.shKey shard = some k ∧ s.u.shAt k = x ∧ s.u.jobB x.job = some j

/-- A block message is acted on: it is heard, sound, a credit of its class is left, and no stack of the Mantle has failed (R66, R92, R112). -/
def State.hearsBlock (s : State) (h : SHdr) (cls credit : Nat) (b : Blk) : Prop :=
  s.hears h cls ∧ h.ctxGen = s.u.ctxGen h.port h.ctx ∧ Blk.bad b = false ∧ s.u.creditsLeft h.port h.ctx credit ≠ 0 ∧
    s.u.mantle.stackFailed = false

/-- Taper `l`, which serves program slot `n`, is about to issue the instruction `word` (R216, R221): its program runs, the grid's budget and its group's gate
let it issue (R139, R529), and no error stands in the word (R157). -/
def State.issues (s : State) (l n word : Nat) : Prop :=
  s.u.mayIssue l = some n ∧ (s.u.taper l).wait = none ∧ (s.u.taper l).pc % 8 = 0 ∧ (s.u.taper l).pc < 0x10000 ∧
    (s.u.taper l).badAt (s.u.taper l).pc 8 = false ∧ (s.u.taper l).word = word

/-- The units as taper `l` issues: the gate of its group of 8 stands open (R529). -/
def State.open (s : State) (l : Nat) : Units := s.u.openStep l

/-- Taper `l` of slot `n` waits in `k` and may go on (R220). -/
def State.waits (s : State) (l n : Nat) (k : TWait) : Prop := s.u.mayIssue l = some n ∧ (s.u.taper l).wait = some k

/-- The instruction of taper `l` retires with the taper `t`; the program counter goes to `jump`, else to the next instruction. -/
def State.retires (s : State) (l n : Nat) (t : Taper) (jump : Option Nat := none) : State := s.after ((s.open l).retire l n t jump)

/-- A general register as 64 bits; g0 reads 0. -/
def Taper.x (t : Taper) (r : Nat) : DWord := BitVec.ofNat 64 (t.gr r)

/-- A general register written; a write of g0 is discarded. -/
def Taper.setX (t : Taper) (r : Nat) (x : DWord) : Taper := if r = 0 then t else { t with g := NMap.put t.g 0#64 r x }

/-- The sign-extended immediate. -/
def immX (f : IFmt) : DWord := (BitVec.ofNat 32 f.imm).signExtend 64

/-- 1 for true. -/
def bit64 (b : Bool) : DWord := if b then 1 else 0

/-- Scalar integer instructions on two registers (R182): constructor, OP of CLASS 0x1, result. -/
inductive ScalarOp : (Nat → RFmt → Instr) → Nat → (DWord → DWord → DWord) → Prop where
  | add' : ScalarOp .opADD 0x0 (fun x y => x + y)
  | sub' : ScalarOp .opSUB 0x1 (fun x y => x - y)
  | mul : ScalarOp .opMUL 0x2 (fun x y => x * y)
  | mulhs : ScalarOp .opMULHS 0x3 (fun x y => (x.signExtend 128 * y.signExtend 128).extractLsb' 64 64)
  | mulhu : ScalarOp .opMULHU 0x4 (fun x y => (x.setWidth 128 * y.setWidth 128).extractLsb' 64 64)
  | and' : ScalarOp .opAND 0x9 (fun x y => x &&& y)
  | or' : ScalarOp .opOR 0xA (fun x y => x ||| y)
  | xor' : ScalarOp .opXOR 0xB (fun x y => x ^^^ y)
  | shl : ScalarOp .opSHL 0xC (fun x y => x <<< (y.toNat % 64))
  | shrl : ScalarOp .opSHRL 0xD (fun x y => x >>> (y.toNat % 64))
  | shra : ScalarOp .opSHRA 0xE (fun x y => x.sshiftRight (y.toNat % 64))
  | slt : ScalarOp .opSLT 0xF (fun x y => bit64 (x.slt y))
  | sltu : ScalarOp .opSLTU 0x10 (fun x y => bit64 (x.ult y))

/-- Divisions (R182): a zero divisor gives all ones, or the dividend as the remainder. -/
inductive DivisionOp : (Nat → RFmt → Instr) → Nat → (DWord → DWord → DWord) → Prop where
  | divs : DivisionOp .opDIVS 0x5 (fun x y => if y = 0 then BitVec.allOnes 64 else x.sdiv y)
  | divu : DivisionOp .opDIVU 0x6 (fun x y => if y = 0 then BitVec.allOnes 64 else x / y)
  | rems : DivisionOp .opREMS 0x7 (fun x y => if y = 0 then x else x.srem y)
  | remu : DivisionOp .opREMU 0x8 (fun x y => if y = 0 then x else x % y)

/-- Scalar integer instructions with an immediate (R182). -/
inductive ImmediateOp : (Nat → IFmt → Instr) → Nat → (DWord → DWord → DWord) → Prop where
  | addi : ImmediateOp .opADDI 0x20 (fun x i => x + i)
  | andi : ImmediateOp .opANDI 0x21 (fun x i => x &&& i)
  | ori : ImmediateOp .opORI 0x22 (fun x i => x ||| i)
  | xori : ImmediateOp .opXORI 0x23 (fun x i => x ^^^ i)
  | shli : ImmediateOp .opSHLI 0x24 (fun x i => x <<< (i.toNat % 64))
  | shrli : ImmediateOp .opSHRLI 0x25 (fun x i => x >>> (i.toNat % 64))
  | shrai : ImmediateOp .opSHRAI 0x26 (fun x i => x.sshiftRight (i.toNat % 64))
  | movhi : ImmediateOp .opMOVHI 0x28 (fun x i => (i <<< 32) ||| (x &&& 0xFFFFFFFF#64))

/-- Scalar loads (R225): OP of CLASS 0x3, bytes, sign extension. -/
inductive LoadOp : (Nat → IFmt → Nat → Instr) → Nat → Nat → Bool → Prop where
  | ld8u : LoadOp .opLD8U 0 1 false
  | ld16u : LoadOp .opLD16U 1 2 false
  | ld32u : LoadOp .opLD32U 2 4 false
  | ld64 : LoadOp .opLD64 3 8 false
  | ld8s : LoadOp .opLD8S 4 1 true
  | ld16s : LoadOp .opLD16S 5 2 true
  | ld32s : LoadOp .opLD32S 6 4 true

/-- Scalar stores (R225). -/
inductive StoreOp : (Nat → IFmt → Instr) → Nat → Nat → Prop where
  | st8 : StoreOp .opST8 0x8 1
  | st16 : StoreOp .opST16 0x9 2
  | st32 : StoreOp .opST32 0xA 4
  | st64 : StoreOp .opST64 0xB 8

/-- Conditional branches on two registers (R225). -/
inductive BranchOp : (Nat → IFmt → Instr) → Nat → (DWord → DWord → Bool) → Prop where
  | beq : BranchOp .opBEQ 0x10 (fun x y => x == y)
  | bne : BranchOp .opBNE 0x11 (fun x y => x != y)
  | blt : BranchOp .opBLT 0x12 (fun x y => x.slt y)
  | bge : BranchOp .opBGE 0x13 (fun x y => !(x.slt y))
  | bltu : BranchOp .opBLTU 0x14 (fun x y => x.ult y)
  | bgeu : BranchOp .opBGEU 0x15 (fun x y => !(x.ult y))

/-- Scalar floating instructions (R226): OP of CLASS 0x2, use of the fields, whether it lies outside the contract, result and flags. -/
inductive ScalarFloatOp : (Nat → RFmt → Instr) → Nat → RUse → Bool → (RFmt → Taper → ACtx → Nat × Nat) → Prop where
  | fadd : ScalarFloatOp .opFADD 0 { d := .any, a := .any, b := .any, rm := 1, fmts := sF } false (fun f t c => c.add f.fmt (t.fsrc f.fmt f.a) (t.fsrc f.fmt f.b))
  | fsub : ScalarFloatOp .opFSUB 1 { d := .any, a := .any, b := .any, rm := 1, fmts := sF } false (fun f t c => c.sub f.fmt (t.fsrc f.fmt f.a) (t.fsrc f.fmt f.b))
  | fmul : ScalarFloatOp .opFMUL 2 { d := .any, a := .any, b := .any, rm := 1, fmts := sF } false (fun f t c => c.mul f.fmt (t.fsrc f.fmt f.a) (t.fsrc f.fmt f.b))
  | fdiv : ScalarFloatOp .opFDIV 3 { d := .any, a := .any, b := .any, rm := 1, fmts := sF } false (fun f t c => c.div f.fmt (t.fsrc f.fmt f.a) (t.fsrc f.fmt f.b))
  | fsqrt : ScalarFloatOp .opFSQRT 4 { d := .any, a := .any, rm := 1, fmts := sF } false (fun f t c => c.sqrt f.fmt (t.fsrc f.fmt f.a))
  | fma : ScalarFloatOp .opFMA 5 { d := .any, a := .any, b := .any, c := .any, rm := 1, fmts := sF } false (fun f t c => c.fused f.fmt (t.fsrc f.fmt f.a) (t.fsrc f.fmt f.b) (t.fsrc f.fmt f.c) false false)
  | fms : ScalarFloatOp .opFMS 6 { d := .any, a := .any, b := .any, c := .any, rm := 1, fmts := sF } false (fun f t c => c.fused f.fmt (t.fsrc f.fmt f.a) (t.fsrc f.fmt f.b) (t.fsrc f.fmt f.c) false true)
  | fnma : ScalarFloatOp .opFNMA 7 { d := .any, a := .any, b := .any, c := .any, rm := 1, fmts := sF } false (fun f t c => c.fused f.fmt (t.fsrc f.fmt f.a) (t.fsrc f.fmt f.b) (t.fsrc f.fmt f.c) true false)
  | fmin : ScalarFloatOp .opFMIN 8 { d := .any, a := .any, b := .any, fmts := sF } false (fun f t c => c.minmax f.fmt (t.fsrc f.fmt f.a) (t.fsrc f.fmt f.b) false)
  | fmax : ScalarFloatOp .opFMAX 9 { d := .any, a := .any, b := .any, fmts := sF } false (fun f t c => c.minmax f.fmt (t.fsrc f.fmt f.a) (t.fsrc f.fmt f.b) true)
  | fabs : ScalarFloatOp .opFABS 0xA { d := .any, a := .any, fmts := sF } false (fun f t _ => (fAbs f.fmt (t.fsrc f.fmt f.a), 0))
  | fneg : ScalarFloatOp .opFNEG 0xB { d := .any, a := .any, fmts := sF } false (fun f t _ => (fNeg f.fmt (t.fsrc f.fmt f.a), 0))
  | fcopysign : ScalarFloatOp .opFCOPYSIGN 0xC { d := .any, a := .any, b := .any, fmts := sF } false (fun f t _ => (fCopy f.fmt (t.fsrc f.fmt f.a) (t.fsrc f.fmt f.b), 0))
  | fcmp : ScalarFloatOp .opFCMP 0xD { d := .any, a := .any, b := .any, fmts := sF, c := .imm 6 } false (fun f t c => let r := c.cmp f.fmt f.c (t.fsrc f.fmt f.a) (t.fsrc f.fmt f.b); (b2n r.1, r.2))
  | icvtf : ScalarFloatOp .opICVTF 0x10 { d := .any, a := .any, rm := 1, fmts := iF, fmt2s := sF } false (fun f t c => c.ofInt f.fmt f.fmt2 (t.gr f.a))
  | rcp_est : ScalarFloatOp .opRCP_EST 0x11 { d := .any, a := .any, fmts := [1] } true (fun f t c => c.rcp (t.fsrc 1 f.a))
  | rsqrt_est : ScalarFloatOp .opRSQRT_EST 0x12 { d := .any, a := .any, fmts := [1] } true (fun f t c => c.rsqrt (t.fsrc 1 f.a))
  | exp2 : ScalarFloatOp .opEXP2 0x13 { d := .any, a := .any, fmts := [1] } true (fun f t c => c.explog 0x13 (t.fsrc 1 f.a))
  | log2 : ScalarFloatOp .opLOG2 0x14 { d := .any, a := .any, fmts := [1] } true (fun f t c => c.explog 0x14 (t.fsrc 1 f.a))

/-- Vector floating instructions lane by lane (R226). -/
inductive VectorFloatOp : (Nat → RFmt → Instr) → Nat → (RFmt → RUse) → Bool → (RFmt → ACtx → Nat → Nat → Nat → Nat × Nat) → Prop where
  | vfadd : VectorFloatOp .opVFADD 0 (fun _ => { d := .any, a := .any, b := .any, rm := 1, fmts := vF }) false (fun f c x y _ => c.add f.fmt x y)
  | vfsub : VectorFloatOp .opVFSUB 1 (fun _ => { d := .any, a := .any, b := .any, rm := 1, fmts := vF }) false (fun f c x y _ => c.sub f.fmt x y)
  | vfmul : VectorFloatOp .opVFMUL 2 (fun _ => { d := .any, a := .any, b := .any, rm := 1, fmts := vF }) false (fun f c x y _ => c.mul f.fmt x y)
  | vfdiv : VectorFloatOp .opVFDIV 3 (fun _ => { d := .any, a := .any, b := .any, rm := 1, fmts := [1] }) false (fun f c x y _ => c.div f.fmt x y)
  | vfsqrt : VectorFloatOp .opVFSQRT 4 (fun _ => { d := .any, a := .any, rm := 1, fmts := [1] }) false (fun f c x _ _ => c.sqrt f.fmt x)
  | vfma : VectorFloatOp .opVFMA 5 (fun _ => { d := .any, a := .any, b := .any, c := .any, rm := 1, fmts := vF }) false (fun f c x y z => c.fused f.fmt x y z false false)
  | vfms : VectorFloatOp .opVFMS 6 (fun _ => { d := .any, a := .any, b := .any, c := .any, rm := 1, fmts := vF }) false (fun f c x y z => c.fused f.fmt x y z false true)
  | vfnma : VectorFloatOp .opVFNMA 7 (fun _ => { d := .any, a := .any, b := .any, c := .any, rm := 1, fmts := vF }) false (fun f c x y z => c.fused f.fmt x y z true false)
  | vfmin : VectorFloatOp .opVFMIN 8 (fun _ => { d := .any, a := .any, b := .any, fmts := vF }) false (fun f c x y _ => c.minmax f.fmt x y false)
  | vfmax : VectorFloatOp .opVFMAX 9 (fun _ => { d := .any, a := .any, b := .any, fmts := vF }) false (fun f c x y _ => c.minmax f.fmt x y true)
  | vfabs : VectorFloatOp .opVFABS 0xA (fun _ => { d := .any, a := .any, fmts := vF }) false (fun f _ x _ _ => (fAbs f.fmt x, 0))
  | vfneg : VectorFloatOp .opVFNEG 0xB (fun _ => { d := .any, a := .any, fmts := vF }) false (fun f _ x _ _ => (fNeg f.fmt x, 0))
  | vfcopysign : VectorFloatOp .opVFCOPYSIGN 0xC (fun _ => { d := .any, a := .any, b := .any, fmts := vF }) false (fun f _ x y _ => (fCopy f.fmt x y, 0))
  | vfcvti : VectorFloatOp .opVFCVTI 0xF (fun f => { d := .any, a := .any, rm := 1, fmts := vF, fmt2s := 0xFF :: iF.filter fun x => fmtBits x = fmtBits f.fmt }) false (fun f c x _ _ => c.cvtInt f.fmt f.fmt2 x)
  | vicvtf : VectorFloatOp .opVICVTF 0x10 (fun f => { d := .any, a := .any, rm := 1, fmts := iF, fmt2s := 0xFF :: vF.filter fun x => fmtBits x = fmtBits f.fmt }) false (fun f c x _ _ => c.ofInt f.fmt f.fmt2 x)
  | vrcp_est : VectorFloatOp .opVRCP_EST 0x11 (fun _ => { d := .any, a := .any, fmts := [1] }) true (fun _ c x _ _ => c.rcp x)
  | vrsqrt_est : VectorFloatOp .opVRSQRT_EST 0x12 (fun _ => { d := .any, a := .any, fmts := [1] }) true (fun _ c x _ _ => c.rsqrt x)
  | vexp2 : VectorFloatOp .opVEXP2 0x13 (fun _ => { d := .any, a := .any, fmts := [1] }) true (fun _ c x _ _ => c.explog 0x13 x)
  | vlog2 : VectorFloatOp .opVLOG2 0x14 (fun _ => { d := .any, a := .any, fmts := [1] }) true (fun _ c x _ _ => c.explog 0x14 x)

/-- Vector integer instructions lane by lane (R227): operands as integers of the format FMT, the result before it wraps to the lane width. -/
inductive VectorIntOp : (Nat → RFmt → Instr) → Nat → (RFmt → Nat → Nat → Nat) → Prop where
  | vadd : VectorIntOp .opVADD 0x20 (fun _ x y => x + y)
  | vsub : VectorIntOp .opVSUB 0x21 (fun f x y => x + 2 ^ fmtBits f.fmt - y)
  | vmul : VectorIntOp .opVMUL 0x22 (fun _ x y => x * y)
  | vadds : VectorIntOp .opVADDS 0x23 (fun f x y => ofSigned (fmtBits f.fmt) (max (intMin f.fmt) (min (intMax f.fmt) (intVal f.fmt x + intVal f.fmt y))))
  | vsubs : VectorIntOp .opVSUBS 0x24 (fun f x y => ofSigned (fmtBits f.fmt) (max (intMin f.fmt) (min (intMax f.fmt) (intVal f.fmt x - intVal f.fmt y))))
  | vand : VectorIntOp .opVAND 0x25 (fun _ x y => x &&& y)
  | vor : VectorIntOp .opVOR 0x26 (fun _ x y => x ||| y)
  | vxor : VectorIntOp .opVXOR 0x27 (fun _ x y => x ^^^ y)
  | vshl : VectorIntOp .opVSHL 0x28 (fun f x y => x * 2 ^ (y % fmtBits f.fmt))
  | vshr : VectorIntOp .opVSHR 0x29 (fun f x y => ofSigned (fmtBits f.fmt) (intVal f.fmt x / ((2 ^ (y % fmtBits f.fmt) : Nat) : Int)))
  | vmin : VectorIntOp .opVMIN 0x2A (fun f x y => if intVal f.fmt x ≤ intVal f.fmt y then x else y)
  | vmax : VectorIntOp .opVMAX 0x2B (fun f x y => if intVal f.fmt x ≤ intVal f.fmt y then y else x)

/-- Operations on two predicate registers. -/
inductive PredicateOp : (Nat → RFmt → Instr) → Nat → (Nat → Nat → Nat) → Prop where
  | pand : PredicateOp .opPAND 0x38 (fun x y => x &&& y)
  | por : PredicateOp .opPOR 0x39 (fun x y => x ||| y)
  | pxor : PredicateOp .opPXOR 0x3A (fun x y => x ^^^ y)

/-- Field operations modulo 2^61 - 1 on reduced operands (R233). -/
inductive FieldOp : (Nat → RFmt → Instr) → Nat → (Nat → Nat → Nat) → Prop where
  | fing_addm : FieldOp .opFING_ADDM 1 (fun x y => x + y)
  | fing_subm : FieldOp .opFING_SUBM 2 (fun x y => x + (2 ^ 61 - 1) - y)
  | fing_mulm : FieldOp .opFING_MULM 3 (fun x y => x * y)
  | fing_powm : FieldOp .opFING_POWM 4 (fun x y => x ^ y)

end Sys2Proof.Machine
end

