-- ==== Sys2Proof/WellFormed.lean ====
section
/-!
DEFINITION. Well-formed commands: every operand has the width that the spec's field for it has. The meanings are total and do not use this; it says which
terms stand for something the hardware can be given.
-/
namespace Sys2Proof

/-- A number of at most `w` bits. -/
def fits (w n : Nat) : Bool := decide (n < 2 ^ w)

/-- Numbers of at most `w` bits. -/
def allFit (w : Nat) (l : List Nat) : Bool := l.all (fits w)

/-- An identity of Tables 19-1 and 0-7. -/
def Who.ok (w : Who) : Bool := fits 4 w.cls && fits 12 w.idx && fits 4 w.priv && fits 32 w.job

/-- A command of Table 19-3 under a stamp of R447. -/
def Cmd.ok (c : Cmd) : Bool := fits 16 c.ring && fits 32 c.tag && fits 16 c.gen && fits 64 c.stamp

/-- A frame header of Table 4-2. -/
def FrameHdr.ok (f : FrameHdr) : Bool := fits 2 f.vc && fits 2 f.creditVc && fits 14 f.seq && fits 14 f.ack && fits 16 f.credit && fits 8 f.first

/-- A sconce header of Table 3-2, at a sconce port. -/
def SHdr.ok (h : SHdr) : Bool :=
  decide (1 ≤ h.ver) && fits 8 h.ver && decide (h.port < 16) && fits 8 h.ctx && fits 8 h.flags && fits 16 h.ctxGen && fits 16 h.accGen && fits 16 h.seq && fits 32 h.job

/-- A lantern header of Table 4-8, at a lantern port. -/
def LHdr.ok (h : LHdr) : Bool := decide (1 ≤ h.ver) && fits 8 h.ver && decide (h.port < 6) && fits 24 h.src && fits 8 h.hop && fits 8 h.flags && fits 16 h.srcGen && fits 16 h.seq

/-- A block header of Table 3-8 with its data. -/
def Blk.ok (b : Blk) : Bool :=
  fits 64 b.step && fits 32 b.shard && fits 32 b.index && fits 8 b.fmt && fits 8 b.flags && decide (1 ≤ b.valid && b.valid ≤ 4096) && fits 32 b.tag &&
    fits 64 b.crc && allFit 8 b.data && decide (b.data.length = b.valid)

/-- A step record of Table 3-7. -/
def StepRec.ok (r : StepRec) : Bool :=
  fits 64 r.step && fits 32 r.shard && fits 8 r.format && fits 8 r.replica && fits 8 r.count && fits 16 r.flags && fits 16 r.prog && fits 32 r.epoch &&
    fits 64 r.cursor && fits 64 r.rngKey && fits 128 r.rngBase && fits 256 r.scalars && fits 32 r.lossScale && fits 64 r.fp && fits 64 r.gradFp &&
    fits 64 r.elems && fits 64 r.first

/-- A wait-for edge of Table 3-14. -/
def WaitEdge.ok (e : WaitEdge) : Bool := fits 32 e.target && fits 8 e.ctx && fits 32 e.tag

/-- A Format R instruction (Table 9-4). -/
def RFmt.ok (f : RFmt) : Bool :=
  fits 5 f.d && fits 5 f.a && fits 5 f.b && fits 5 f.c && fits 3 f.rm && fits 3 f.p && fits 5 f.fmt && fits 2 f.satm && fits 5 f.fmt2 && fits 8 f.site &&
    fits 4 f.rsv

/-- A Format I instruction (Table 9-5). -/
def IFmt.ok (f : IFmt) : Bool := fits 5 f.d && fits 5 f.a && fits 5 f.b && fits 5 f.rsv && fits 32 f.imm

/-- A route entry (Table 2-3). -/
def Machine.RouteEntry.ok (e : RouteEntry) : Bool := fits 24 e.cid && fits 24 e.target && fits 8 e.port && fits 32 e.version && fits 16 e.gen

/-- A standing-order entry (Table 2-12). -/
def Machine.SoEntry.ok (e : SoEntry) : Bool := fits 16 e.trigger && fits 8 e.level && fits 8 e.cls && fits 16 e.action && fits 32 e.a && fits 32 e.b

/-- What a standing order acts on. -/
def Machine.Target.ok (t : Target) : Bool := fits 32 t.job && fits 24 t.cid && fits 8 t.port && fits 8 t.ctx && fits 32 t.shard && fits 64 t.step

/-- A failure notice (Table 12-9). -/
def Machine.Notice.ok (n : Notice) : Bool := fits 8 n.kind && fits 8 n.level && fits 24 n.cid && fits 8 n.ctx && fits 16 n.accGen && fits 32 n.job

/-- The head of a command entry (Table 19-3). -/
def Machine.CmdEntry.ok (e : CmdEntry) : Bool := fits 16 e.code && fits 8 e.version && fits 8 e.flags && fits 32 e.tag && fits 16 e.gen && allFit 8 e.raw

/-- A log entry (Table 21-3). -/
def Machine.LogEntry.ok (e : LogEntry) : Bool := fits 16 e.er.code && fits 8 e.er.level && fits 16 e.er.src && fits 64 e.er.payload && fits 24 e.origin && fits 64 e.seq

/-- A commit record (Table 10-9). -/
def Machine.CommitRec.ok (r : CommitRec) : Bool := fits 64 r.step && fits 32 r.shard && fits 32 r.job && fits 8 r.state && fits 8 r.flags

/-- A call's signature (Table 17-2). -/
def CollSig.ok (s : CollSig) : Bool := fits 32 s.group && fits 32 s.epoch && fits 64 s.seq && fits 64 s.count

/-- Every operand has its width. -/
def wellFormed (i : Instr) : Bool :=
  match i with
  | .registerWrite w addr value => w.ok && fits 64 addr && fits 32 value
  | .reg64LowRead w addr => w.ok && fits 64 addr
  | .reg64LowWrite w addr value => w.ok && fits 64 addr && fits 32 value
  | .regReadClear w addr => w.ok && fits 64 addr
  | .ringFlush c => c.ok
  | .mbSetMode c mode => c.ok && fits 8 mode
  | .ringProdIdxWrite w ring value entries => w.ok && fits 32 ring && fits 32 value && entries.all (·.ok)
  | .ringConsIdxWrite w ring value => w.ok && fits 32 ring && fits 32 value
  | .ringEnableSet w ring => w.ok && fits 32 ring
  | .ringEnableClear w ring => w.ok && fits 32 ring
  | .ringDrainEnd ring => fits 32 ring
  | .mbPost w chan count => w.ok && fits 8 chan && fits 64 count
  | .mbAcknowledge chan code => fits 8 chan && fits 16 code
  | .mbReturnPost chan words => fits 8 chan && allFit 32 words
  | .mbRetAck w chan value => w.ok && fits 8 chan && fits 32 value
  | .mbDbSet w chan value => w.ok && fits 8 chan && fits 32 value
  | .mbDbClear w chan value => w.ok && fits 8 chan && fits 32 value
  | .mbDbMaskWrite w chan value => w.ok && fits 8 chan && fits 32 value
  | .mbBindWrite w chan value => w.ok && fits 8 chan && fits 32 value
  | .budgetApply w value => w.ok && fits 32 value
  | .budgetPkgCapWrite w value => w.ok && fits 32 value
  | .budgetPeriodBoundary rate width => fits 16 rate && fits 8 width
  | .budgetSubSlot => true
  | .budgetRequest act inst amount => fits 8 act && fits 8 inst && fits 64 amount
  | .powerInterval measured base estimated => fits 64 measured && fits 64 base && fits 64 estimated
  | .thermalCeilingStep _ _ => true
  | .gridPaceWrite w value => w.ok && fits 32 value
  | .gridPartDisable w part => w.ok && fits 3 part
  | .gridPartEnable w part => w.ok && fits 3 part
  | .gridBeatWindow rates _ => allFit 64 rates
  | .unitDrainTimeout unit => fits 16 unit
  | .unitDrainEnd unit => fits 16 unit
  | .linkEnable w port => w.ok && fits 8 port
  | .linkDisable w port => w.ok && fits 8 port
  | .linkRetrain w port => w.ok && fits 8 port
  | .linkFullRetrain w port => w.ok && fits 8 port
  | .linkLaneRetest w port => w.ok && fits 8 port
  | .frameData port f body => fits 8 port && f.ok && allFit 8 body
  | .frameIdle port f => fits 8 port && f.ok
  | .frameReplayReq port f => fits 8 port && f.ok
  | .frameLaneChange port f map kind => fits 8 port && f.ok && fits 64 map && fits 8 kind
  | .frameBlockCredit port f entries => fits 8 port && f.ok && allFit 64 entries
  | .frameParam port f body => fits 8 port && f.ok && allFit 8 body
  | .frameBad port _ _ => fits 8 port
  | .linkReplayTimeout port _ => fits 8 port
  | .linkStateTimeout port => fits 8 port
  | .pmdTrainDone port => fits 8 port
  | .alignDone port locked _ _ => fits 8 port && fits 64 locked
  | .paramSendTimer port => fits 8 port
  | .laneChangeTimeout port => fits 8 port
  | .fastRetrainDone port _ peerAck => fits 8 port && fits 16 peerAck
  | .fullRetrainDone port _ => fits 8 port
  | .laneSerWindow port w corrected margins => fits 8 port && allFit 64 w.errs && fits 64 w.syms && allFit 64 corrected && allFit 64 margins
  | .laneRetestEnd port pass => fits 8 port && fits 64 pass
  | .linkDrainTimeout port => fits 8 port
  | .lanternForward h dst cls kind level bytes => h.ok && fits 24 dst && fits 8 cls && fits 8 kind && fits 8 level && allFit 8 bytes
  | .heartbeat h seq live health flags => h.ok && fits 64 seq && fits 64 live && fits 8 health && fits 64 flags
  | .glim h g => h.ok && allFit 64 g
  | .stepRecord h r _ => h.ok && r.ok
  | .gradientBlock h b => h.ok && b.ok
  | .regionBlock h b => h.ok && b.ok
  | .snapshotBlock h b => h.ok && b.ok
  | .faultReport h code severity ctx tag time detail => h.ok && fits 16 code && fits 64 severity && fits 8 ctx && fits 32 tag && fits 64 time && fits 64 detail
  | .activityReport h tick flags interval _ _ => h.ok && fits 32 tick && fits 64 flags && fits 64 interval
  | .regResponse h status words => h.ok && fits 16 status && allFit 32 words
  | .applyAck h step status => h.ok && fits 64 step && fits 16 status
  | .resetConfirm h kind status gen duration => h.ok && fits 8 kind && fits 16 status && fits 16 gen && fits 64 duration
  | .shardFpReport h step elems fp shard => h.ok && fits 64 step && fits 64 elems && fits 64 fp && fits 32 shard
  | .waitforReply h b => h.ok && fits 8 b.count && fits 16 b.len && b.edges.all (·.ok)
  | .mgmtFrame h linkId index seq hop dst src inner plain => h.ok && fits 64 linkId && fits 32 index && fits 64 seq && fits 8 hop && fits 24 dst && fits 24 src && inner.head.ok && fits 8 inner.cls && fits 64 inner.len && plain.all (allFit 64)
  | .restoreAck h step shard written => h.ok && fits 64 step && fits 32 shard && fits 64 written
  | .recoveryResponse h kind status => h.ok && fits 8 kind && fits 16 status
  | .emberTokens h tag seq k set refs vecs => h.ok && fits 32 tag && fits 64 seq && fits 64 k && fits 16 set && allFit 64 refs && allFit 8 vecs
  | .streamTokens h ref count flags len toks => h.ok && fits 32 ref && fits 64 count && fits 64 flags && fits 64 len && allFit 64 toks
  | .reservedClassMessage port cls len hdrGen => fits 8 port && fits 8 cls && fits 64 len && fits 16 hdrGen
  | .applyAckWaitExpiry port ctx => fits 8 port && fits 8 ctx
  | .resetConfirmWaitExpiry port kind ctx => fits 8 port && fits 8 kind && fits 8 ctx
  | .hbMissInterval port => fits 8 port
  | .probeWaitExpiry port => fits 8 port
  | .generationBumpAck port ctx => fits 8 port && fits 8 ctx
  | .progressHalfTimeout port ctx => fits 8 port && fits 8 ctx
  | .progressTimeout port ctx => fits 8 port && fits 8 ctx
  | .ringEntryUnconsumed ring => fits 32 ring
  | .waitforRepeat port ctx => fits 8 port && fits 8 ctx
  | .lhbSend => true
  | .lhb h seq gen health => h.ok && fits 64 seq && fits 16 gen && fits 8 health
  | .lprobe h => h.ok
  | .lprobeAck h gen => h.ok && fits 16 gen
  | .lprobeWaitExpiry cid => fits 24 cid
  | .faultUp h n members => h.ok && n.ok && allFit 64 members
  | .pfNotice h n => h.ok && n.ok
  | .pfAck h seq cid job status => h.ok && fits 64 seq && fits 24 cid && fits 32 job && fits 16 status
  | .pfAckWaitExpiry seq cid => fits 64 seq && fits 24 cid
  | .waitProbe h origin pid job _ target ctx => h.ok && fits 24 origin && fits 64 pid && fits 32 job && fits 24 target && fits 8 ctx
  | .waitBreak h cid ctx gen pid finder => h.ok && fits 24 cid && fits 8 ctx && fits 16 gen && fits 64 pid && fits 24 finder
  | .leaseRenewTimer role => fits 32 role
  | .leaseRetryTimer role => fits 32 role
  | .leaseRequest h role epoch wepoch reqSeq => h.ok && fits 32 role && fits 32 epoch && fits 32 wepoch && fits 64 reqSeq
  | .leaseGrant h role epoch wepoch reqSeq lease holder => h.ok && fits 32 role && fits 32 epoch && fits 32 wepoch && fits 64 reqSeq && fits 64 lease && fits 24 holder
  | .leaseRelease h role epoch wepoch => h.ok && fits 32 role && fits 32 epoch && fits 32 wepoch
  | .leaseRefuse h role epoch wepoch => h.ok && fits 32 role && fits 32 epoch && fits 32 wepoch
  | .holderLeaseExpiry role => fits 32 role
  | .roleHbSend role => fits 32 role
  | .roleHb h role epoch sender ready jpos => h.ok && fits 32 role && fits 32 epoch && fits 8 sender && fits 64 ready && fits 64 jpos
  | .pilotHbMiss role => fits 32 role
  | .takeoverRequest h role epoch ready wepoch pilot => h.ok && fits 32 role && fits 32 epoch && fits 64 ready && fits 32 wepoch && fits 24 pilot
  | .witnessLeaseGuardExpiry role => fits 32 role
  | .takeoverGrant h role epoch wepoch pilot => h.ok && fits 32 role && fits 32 epoch && fits 32 wepoch && fits 24 pilot
  | .takeoverNotYet h role epoch wepoch => h.ok && fits 32 role && fits 32 epoch && fits 32 wepoch
  | .roleRebuildDone role => fits 32 role
  | .witnessStore h wepoch role epoch holder expiry seq => h.ok && fits 32 wepoch && fits 32 role && fits 32 epoch && fits 24 holder && fits 64 expiry && fits 64 seq
  | .witnessStoreAck h wepoch role epoch seq => h.ok && fits 32 wepoch && fits 32 role && fits 32 epoch && fits 64 seq
  | .witnessStoreAckTimeout role seq => fits 32 role && fits 64 seq
  | .witnessHbSend role => fits 32 role
  | .witnessHeartbeat h wepoch role => h.ok && fits 32 wepoch && fits 32 role
  | .standbySilenceExpiry role => fits 32 role
  | .journal h role epoch pos _ _ => h.ok && fits 32 role && fits 32 epoch && fits 24 pos
  | .journalCheckTimer role => fits 32 role
  | .journalCheck h role epoch jpos fp status => h.ok && fits 32 role && fits 32 epoch && fits 64 jpos && fits 64 fp && fits 16 status
  | .epoch h role epoch holder => h.ok && fits 32 role && fits 32 epoch && fits 24 holder
  | .roleVacantTimer role => fits 32 role
  | .routeVersion h version entries => h.ok && fits 32 version && entries.all (·.ok)
  | .routeRequest h version last => h.ok && fits 32 version && fits 64 last
  | .standing h version scope pod status _ entries => h.ok && fits 32 version && fits 8 scope && fits 24 pod && fits 16 status && entries.all (·.ok)
  | .wardenSetCap h version watts => h.ok && fits 32 version && fits 64 watts
  | .wardenSetFanFloor h version duty => h.ok && fits 32 version && fits 64 duty
  | .wardenSetPairing h version _ => h.ok && fits 32 version
  | .wardenSetPooling h version op job shard buddyBytes stagingBytes => h.ok && fits 32 version && fits 64 op && fits 32 job && fits 32 shard && fits 64 buddyBytes && fits 64 stagingBytes
  | .wardenSetTopology h version _ => h.ok && fits 32 version
  | .roleReportFreePages h version pages => h.ok && fits 32 version && fits 64 pages
  | .roleReportStacks h version stks pages => h.ok && fits 32 version && fits 64 stks && fits 64 pages
  | .roleReportFailedT3 h version cid time => h.ok && fits 32 version && fits 24 cid && fits 64 time
  | .roleReportPodSummary h version admitted failed recoveries alarms => h.ok && fits 32 version && fits 64 admitted && fits 64 failed && fits 64 recoveries && fits 64 alarms
  | .roleReportRejoined h version cid gen => h.ok && fits 32 version && fits 24 cid && fits 16 gen
  | .wardenT3HbMiss cid => fits 24 cid
  | .wardenProbeExpiry cid => fits 24 cid
  | .key h linkId index firstUse nonce _ _ igtanPort igtanLink => h.ok && fits 64 linkId && fits 32 index && fits 64 firstUse && fits 64 nonce && fits 64 igtanPort && fits 64 igtanLink
  | .keyReplaceTimer linkId ends => fits 64 linkId && allFit 64 ends
  | .oldKeyExpiry linkId => fits 64 linkId
  | .adminAdmissionRequest h seq version msgVer features => h.ok && fits 64 seq && fits 32 version && fits 16 msgVer && fits 64 features
  | .adminAdmissionAnswer h seq status vOld vNew featEpoch feats => h.ok && fits 64 seq && fits 16 status && fits 16 vOld && fits 16 vNew && fits 64 featEpoch && fits 64 feats
  | .adminFeatureSet h seq featEpoch feats => h.ok && fits 64 seq && fits 64 featEpoch && fits 64 feats
  | .adminRolloutStep h seq pod version x => h.ok && fits 64 seq && fits 24 pod && fits 32 version && fits 64 x.step && fits 16 x.status
  | .adminAppointment h seq role epoch cids => h.ok && fits 64 seq && fits 32 role && fits 32 epoch && allFit 64 cids
  | .adminKeyAgreement h seq _ _ => h.ok && fits 64 seq
  | .federation h dstDomain srcDomain innerDst inner pay => h.ok && fits 24 dstDomain && fits 24 srcDomain && inner.head.ok && fits 24 innerDst && fits 8 inner.cls && fits 64 inner.len && allFit 64 pay
  | .drillInterval role => fits 32 role
  | .drillPathTimeout role path cid => fits 32 role && fits 64 path && fits 24 cid
  | .handbackQuietPoint role _ => fits 32 role
  | .rolloutPodSoak _ => true
  | .roleDrill c role hours => c.ok && fits 32 role && fits 64 hours
  | .soLoad c addr len _ _ => c.ok && fits 64 addr && fits 64 len
  | .soProceed c id => c.ok && fits 32 id
  | .soCancel c id => c.ok && fits 32 id
  | .soHoldTimeout id => fits 32 id
  | .featureRemove c bit => c.ok && fits 8 bit
  | .mantleRead r addr len ecc => fits 5 r.act && fits 64 r.agent && fits 64 addr && fits 64 len && allFit 2 ecc
  | .mantleWrite r addr tag ctxKey bytes => fits 5 r.act && fits 64 r.agent && fits 64 addr && fits 32 tag && fits 64 ctxKey && allFit 8 bytes
  | .fbWriteback line => fits 64 line
  | .bar2Access _ addr len d => fits 64 addr && fits 64 len && allFit 8 d.bytes && allFit 2 d.ecc
  | .mantleRegionAllocate _ bytes _ => fits 64 bytes
  | .mantleQuietExpiry page => fits 64 page
  | .pageZeroDone page => fits 64 page
  | .patrolScrub ecc => fits 64 ecc
  | .stackUnresponsive stack => fits 64 stack
  | .freePageReport => true
  | .mantleEccClr w value => w.ok && fits 32 value
  | .mantleAlloc c typ _ cid ctx mask bytes => c.ok && fits 64 typ && fits 24 cid && fits 8 ctx && fits 64 mask && fits 64 bytes
  | .mantleFree c region => c.ok && fits 16 region
  | .mantleSetAccess c region mask _ => c.ok && fits 16 region && fits 64 mask
  | .gridLoad c region placement job off sub comp binds listAddr => c.ok && fits 16 region && fits 64 placement && fits 32 job && fits 64 off && fits 64 sub && fits 16 comp && allFit 64 binds && fits 64 listAddr
  | .gridLoadComplete slot _ _ => fits 6 slot
  | .gridStart c slot => c.ok && fits 6 slot
  | .gridHalt c slot => c.ok && fits 6 slot
  | .gridHaltComplete slot => fits 6 slot
  | .gridResume c slot => c.ok && fits 6 slot
  | .gridUnload c slot => c.ok && fits 6 slot
  | .gridDiag c taper => c.ok && fits 9 taper
  | .gridDiagComplete taper _ _ => fits 9 taper
  | .gridWatchdogExpiry slot => fits 6 slot
  | .meshMessageArrive src dst vc => fits 24 src && fits 24 dst && fits 8 vc
  | .streamRowDone taper row => fits 9 taper && fits 8 row.chan && fits 2 row.ecc
  | .taperWindowAccess w taper off len _ bytes => w.ok && fits 9 taper && fits 64 off && fits 64 len && allFit 8 bytes
  | .msgSendResume l => fits 9 l.taper && fits 2 l.ecc
  | .msgRecvResume l => fits 9 l
  | .ringPopResume l => fits 9 l
  | .ringPushResume l => fits 9 l.taper && fits 2 l.ecc
  | .strStartResume l => fits 9 l
  | .strWaitResume l => fits 9 l
  | .opNOP l f => fits 9 l && f.ok
  | .opRDSR l f => fits 9 l && f.ok
  | .opWRSR l f => fits 9 l && f.ok
  | .opFRET l f => fits 9 l && f.ok
  | .opTRAP l f => fits 9 l && f.ok
  | .opADD l f => fits 9 l && f.ok
  | .opSUB l f => fits 9 l && f.ok
  | .opMUL l f => fits 9 l && f.ok
  | .opMULHS l f => fits 9 l && f.ok
  | .opMULHU l f => fits 9 l && f.ok
  | .opDIVS l f => fits 9 l && f.ok
  | .opDIVU l f => fits 9 l && f.ok
  | .opREMS l f => fits 9 l && f.ok
  | .opREMU l f => fits 9 l && f.ok
  | .opAND l f => fits 9 l && f.ok
  | .opOR l f => fits 9 l && f.ok
  | .opXOR l f => fits 9 l && f.ok
  | .opSHL l f => fits 9 l && f.ok
  | .opSHRL l f => fits 9 l && f.ok
  | .opSHRA l f => fits 9 l && f.ok
  | .opSLT l f => fits 9 l && f.ok
  | .opSLTU l f => fits 9 l && f.ok
  | .opADDI l f => fits 9 l && f.ok
  | .opANDI l f => fits 9 l && f.ok
  | .opORI l f => fits 9 l && f.ok
  | .opXORI l f => fits 9 l && f.ok
  | .opSHLI l f => fits 9 l && f.ok
  | .opSHRLI l f => fits 9 l && f.ok
  | .opSHRAI l f => fits 9 l && f.ok
  | .opMOVI l f => fits 9 l && f.ok
  | .opMOVHI l f => fits 9 l && f.ok
  | .opLD8U l f ecc => fits 9 l && f.ok && fits 64 ecc
  | .opLD16U l f ecc => fits 9 l && f.ok && fits 64 ecc
  | .opLD32U l f ecc => fits 9 l && f.ok && fits 64 ecc
  | .opLD64 l f ecc => fits 9 l && f.ok && fits 64 ecc
  | .opLD8S l f ecc => fits 9 l && f.ok && fits 64 ecc
  | .opLD16S l f ecc => fits 9 l && f.ok && fits 64 ecc
  | .opLD32S l f ecc => fits 9 l && f.ok && fits 64 ecc
  | .opST8 l f => fits 9 l && f.ok
  | .opST16 l f => fits 9 l && f.ok
  | .opST32 l f => fits 9 l && f.ok
  | .opST64 l f => fits 9 l && f.ok
  | .opBEQ l f => fits 9 l && f.ok
  | .opBNE l f => fits 9 l && f.ok
  | .opBLT l f => fits 9 l && f.ok
  | .opBGE l f => fits 9 l && f.ok
  | .opBLTU l f => fits 9 l && f.ok
  | .opBGEU l f => fits 9 l && f.ok
  | .opBPANY l f => fits 9 l && f.ok
  | .opBPNONE l f => fits 9 l && f.ok
  | .opJAL l f => fits 9 l && f.ok
  | .opJALR l f => fits 9 l && f.ok
  | .opFADD l f => fits 9 l && f.ok
  | .opFSUB l f => fits 9 l && f.ok
  | .opFMUL l f => fits 9 l && f.ok
  | .opFDIV l f => fits 9 l && f.ok
  | .opFSQRT l f => fits 9 l && f.ok
  | .opFMA l f => fits 9 l && f.ok
  | .opFMS l f => fits 9 l && f.ok
  | .opFNMA l f => fits 9 l && f.ok
  | .opFMIN l f => fits 9 l && f.ok
  | .opFMAX l f => fits 9 l && f.ok
  | .opFABS l f => fits 9 l && f.ok
  | .opFNEG l f => fits 9 l && f.ok
  | .opFCOPYSIGN l f => fits 9 l && f.ok
  | .opFCMP l f => fits 9 l && f.ok
  | .opFCVT l f => fits 9 l && f.ok
  | .opFCVTI l f => fits 9 l && f.ok
  | .opICVTF l f => fits 9 l && f.ok
  | .opRCP_EST l f => fits 9 l && f.ok
  | .opRSQRT_EST l f => fits 9 l && f.ok
  | .opEXP2 l f => fits 9 l && f.ok
  | .opLOG2 l f => fits 9 l && f.ok
  | .opVFADD l f => fits 9 l && f.ok
  | .opVFSUB l f => fits 9 l && f.ok
  | .opVFMUL l f => fits 9 l && f.ok
  | .opVFDIV l f => fits 9 l && f.ok
  | .opVFSQRT l f => fits 9 l && f.ok
  | .opVFMA l f => fits 9 l && f.ok
  | .opVFMS l f => fits 9 l && f.ok
  | .opVFNMA l f => fits 9 l && f.ok
  | .opVFMIN l f => fits 9 l && f.ok
  | .opVFMAX l f => fits 9 l && f.ok
  | .opVFABS l f => fits 9 l && f.ok
  | .opVFNEG l f => fits 9 l && f.ok
  | .opVFCOPYSIGN l f => fits 9 l && f.ok
  | .opVFCMP l f => fits 9 l && f.ok
  | .opVFCVT l f => fits 9 l && f.ok
  | .opVFCVTI l f => fits 9 l && f.ok
  | .opVICVTF l f => fits 9 l && f.ok
  | .opVRCP_EST l f => fits 9 l && f.ok
  | .opVRSQRT_EST l f => fits 9 l && f.ok
  | .opVEXP2 l f => fits 9 l && f.ok
  | .opVLOG2 l f => fits 9 l && f.ok
  | .opVMXPACK l f => fits 9 l && f.ok
  | .opVMXUNPACK l f => fits 9 l && f.ok
  | .opVADD l f => fits 9 l && f.ok
  | .opVSUB l f => fits 9 l && f.ok
  | .opVMUL l f => fits 9 l && f.ok
  | .opVADDS l f => fits 9 l && f.ok
  | .opVSUBS l f => fits 9 l && f.ok
  | .opVAND l f => fits 9 l && f.ok
  | .opVOR l f => fits 9 l && f.ok
  | .opVXOR l f => fits 9 l && f.ok
  | .opVSHL l f => fits 9 l && f.ok
  | .opVSHR l f => fits 9 l && f.ok
  | .opVMIN l f => fits 9 l && f.ok
  | .opVMAX l f => fits 9 l && f.ok
  | .opVCMP l f => fits 9 l && f.ok
  | .opVSEL l f => fits 9 l && f.ok
  | .opVBCAST l f => fits 9 l && f.ok
  | .opVEXTRACT l f => fits 9 l && f.ok
  | .opVINSERT l f => fits 9 l && f.ok
  | .opVIOTA l f => fits 9 l && f.ok
  | .opVPERM l f => fits 9 l && f.ok
  | .opVMOV l f => fits 9 l && f.ok
  | .opPAND l f => fits 9 l && f.ok
  | .opPOR l f => fits 9 l && f.ok
  | .opPXOR l f => fits 9 l && f.ok
  | .opPNOT l f => fits 9 l && f.ok
  | .opPSET l f => fits 9 l && f.ok
  | .opPGET l f => fits 9 l && f.ok
  | .opPCNT l f => fits 9 l && f.ok
  | .opVLD l f ecc => fits 9 l && f.ok && fits 64 ecc
  | .opVST l f => fits 9 l && f.ok
  | .opTLD l f ecc => fits 9 l && f.ok && fits 64 ecc
  | .opTST l f => fits 9 l && f.ok
  | .opPLD l f ecc => fits 9 l && f.ok && fits 64 ecc
  | .opPST l f => fits 9 l && f.ok
  | .opTZERO l f => fits 9 l && f.ok
  | .opTMMA l f => fits 9 l && f.ok
  | .opTMMA_SP l f => fits 9 l && f.ok
  | .opTMOVV l f => fits 9 l && f.ok
  | .opVMOVT l f => fits 9 l && f.ok
  | .opLACC_CLR l f => fits 9 l && f.ok
  | .opLACC_ADD l f => fits 9 l && f.ok
  | .opLACC_MAC l f => fits 9 l && f.ok
  | .opLACC_ACC l f => fits 9 l && f.ok
  | .opLACC_RND l f => fits 9 l && f.ok
  | .opLACC_STAT l f => fits 9 l && f.ok
  | .opLACC_EXP l f => fits 9 l && f.ok
  | .opLACC_IMP l f ecc => fits 9 l && f.ok && fits 64 ecc
  | .opMSG_SEND l f => fits 9 l.taper && fits 2 l.ecc && f.ok
  | .opMSG_RECV l f => fits 9 l && f.ok
  | .opMSG_POLL l f => fits 9 l && f.ok
  | .opMSG_FREE l f => fits 9 l && f.ok
  | .opRING_POP l f => fits 9 l && f.ok
  | .opRING_TRY l f => fits 9 l && f.ok
  | .opRING_PUSH l f => fits 9 l.taper && fits 2 l.ecc && f.ok
  | .opSTR_START l f => fits 9 l && f.ok
  | .opSTR_WAIT l f => fits 9 l && f.ok
  | .opSTR_TEST l f => fits 9 l && f.ok
  | .opSTR_WAITALL l f => fits 9 l && f.ok
  | .opFING_V l f => fits 9 l && f.ok
  | .opFING_ADDM l f => fits 9 l && f.ok
  | .opFING_SUBM l f => fits 9 l && f.ok
  | .opFING_MULM l f => fits 9 l && f.ok
  | .opFING_POWM l f => fits 9 l && f.ok
  | .opRNG_RAW l f => fits 9 l && f.ok
  | .opRNG_PHILOX l f => fits 9 l && f.ok
  | .wickBindJob c job mode comps prog key params fmts interval flags gateMs => c.ok && fits 32 job && fits 8 mode && fits 64 comps && fits 16 prog && fits 64 key && fits 64 params && allFit 64 fmts && fits 64 interval && fits 64 flags && fits 64 gateMs
  | .wickBindShard c job shard first params buddy roles => c.ok && fits 32 job && fits 32 shard && fits 64 first && fits 64 params && fits 64 buddy && fits 64 roles
  | .wickMembership c job shard epoch count addr => c.ok && fits 32 job && fits 32 shard && fits 32 epoch && fits 64 count && fits 64 addr
  | .wickUnbind c job => c.ok && fits 32 job
  | .wickSnapshotNow c job => c.ok && fits 32 job
  | .wickSeed c job shard => c.ok && fits 32 job && fits 32 shard
  | .wickEnableClear w => w.ok
  | .fwdGradient h b => h.ok && b.ok
  | .fwdSeed h b => h.ok && b.ok
  | .fwdRegion h b => h.ok && b.ok
  | .fwdAck h shard step stored status fp => h.ok && fits 32 shard && fits 64 step && fits 64 stored && fits 16 status && fits 64 fp
  | .gateBarrierComplete job step status => fits 32 job && fits 64 step && fits 16 status
  | .stepFwd h r cid ctx _ => h.ok && r.ok && fits 24 cid && fits 8 ctx
  | .shadowCompletion shard step item kind reason taper fp beats => fits 32 shard && fits 64 step && fits 32 item && fits 8 kind && fits 64 reason && fits 9 taper && fits 64 fp && fits 64 beats
  | .readbackComplete shard step => fits 32 shard && fits 64 step
  | .stepRecordWaitExpiry shard step => fits 32 shard && fits 64 step
  | .commitRec h r _ => h.ok && r.ok
  | .commitAck h step shard status => h.ok && fits 64 step && fits 32 shard && fits 16 status
  | .commitAckWaitExpiry shard step => fits 32 shard && fits 64 step
  | .fwdAckWaitExpiry shard step => fits 32 shard && fits 64 step
  | .seedReq h shard reserved step => h.ok && fits 32 shard && fits 32 reserved && fits 64 step
  | .blockFetch h shard block step => h.ok && fits 32 shard && fits 64 block && fits 64 step
  | .snapshotDurable shard step _ => fits 32 shard && fits 64 step
  | .spillRetryTimer => true
  | .shadowRegister c region off _ => c.ok && fits 16 region && fits 64 off
  | .shadowUnregister c prog => c.ok && fits 16 prog
  | .shadowQualify c prog set => c.ok && fits 16 prog && fits 16 set
  | .shadowParams c job region addr => c.ok && fits 32 job && fits 16 region && fits 64 addr
  | .shadowResolve c job shard step choice => c.ok && fits 32 job && fits 32 shard && fits 64 step && fits 64 choice
  | .shadowGridRetry => true
  | .shadowInstanceReload job => fits 32 job
  | .vigilWatch c job port ctx prio mask timeout => c.ok && fits 32 job && fits 8 port && fits 8 ctx && fits 64 prio && fits 64 mask && fits 32 timeout
  | .vigilUnwatch c port ctx => c.ok && fits 8 port && fits 8 ctx
  | .snufReset c port ctx kind => c.ok && fits 8 port && fits 8 ctx && fits 8 kind
  | .snufUnfence c port => c.ok && fits 8 port
  | .igtanBringup c port => c.ok && fits 8 port
  | .igtanReg c port off _ count addr => c.ok && fits 8 port && fits 64 off && fits 64 count && fits 64 addr
  | .rcvQuery h job seq coord => h.ok && fits 32 job && fits 64 seq && fits 24 coord
  | .rcvState h job seq released count steps => h.ok && fits 32 job && fits 64 seq && fits 64 released && fits 64 count && allFit 64 steps
  | .rcvQueryTimeout job => fits 32 job
  | .rcvPoint h job seq r _ _ => h.ok && fits 32 job && fits 64 seq && fits 64 r
  | .rcvReady h job seq status => h.ok && fits 32 job && fits 64 seq && fits 16 status
  | .rcvResume h job seq => h.ok && fits 32 job && fits 64 seq
  | .rcvResumeTimeout job => fits 32 job
  | .rcvRelease c job => c.ok && fits 32 job
  | .rcvSpareSet c cid port state group => c.ok && fits 24 cid && fits 8 port && fits 8 state && fits 16 group
  | .spareReq h pos job action a => h.ok && fits 24 pos && fits 32 job && fits 64 action && fits 64 a
  | .spareGrant h pos spareCid port version status => h.ok && fits 24 pos && fits 24 spareCid && fits 8 port && fits 32 version && fits 16 status
  | .rcvPrepTimeout pos port => fits 24 pos && fits 8 port
  | .prestageHoldExpiry pos => fits 24 pos
  | .reloadReq h shard kind step first => h.ok && fits 32 shard && fits 8 kind && fits 64 step && fits 64 first
  | .reloadBlock h b => h.ok && b.ok
  | .reloadAck h shard step written status => h.ok && fits 32 shard && fits 64 step && fits 64 written && fits 16 status
  | .reloadRec h r mode comps prog key params fmts interval flags gateMs epoch first sparams => h.ok && r.ok && fits 8 mode && fits 64 comps && fits 16 prog && fits 64 key && fits 64 params && allFit 64 fmts && fits 64 interval && fits 64 flags && fits 64 gateMs && fits 32 epoch && fits 64 first && fits 64 sparams
  | .streamMove h index cid ctx _ toks => h.ok && fits 32 index && fits 24 cid && fits 8 ctx && allFit 64 toks
  | .streamMoveResponse h index status => h.ok && fits 32 index && fits 16 status
  | .flickerLoadModel c region off => c.ok && fits 16 region && fits 64 off
  | .flickerEval c comp => c.ok && fits 16 comp
  | .flickerResetHistory c comp => c.ok && fits 16 comp
  | .flickerEnableClear w => w.ok
  | .flickerExtractClear w => w.ok
  | .flickerPoll _ => true
  | .flickerGlimMissing comp => fits 16 comp
  | .flickerBucketBoundary => true
  | .flickerSweep => true
  | .flickerTriggeredEval comp => fits 16 comp
  | .flickerCompletion sweep kind _ => fits 64 sweep && fits 8 kind
  | .flickerStaleExpiry comp => fits 16 comp
  | .flickerPrestageRenew comp => fits 16 comp
  | .flickerCalibrationHour => true
  | .flickerFalseAlarmHour comp => fits 16 comp
  | .emberBind c job shard count addr => c.ok && fits 32 job && fits 32 shard && fits 64 count && fits 64 addr
  | .emberUnbind c job shard => c.ok && fits 32 job && fits 32 shard
  | .emberStop c job shard => c.ok && fits 32 job && fits 32 shard
  | .emberEnableClear w => w.ok
  | .embCtlStart h job shard cid ctx => h.ok && fits 32 job && fits 32 shard && fits 24 cid && fits 8 ctx
  | .embCtlAck h job shard cid ctx seq status => h.ok && fits 32 job && fits 32 shard && fits 24 cid && fits 8 ctx && fits 64 seq && fits 16 status
  | .embCtlRoute h mode job shard cid ctx seq tags => h.ok && fits 8 mode && fits 32 job && fits 32 shard && fits 24 cid && fits 8 ctx && fits 64 seq && allFit 64 tags
  | .embCtlStop h job shard cid ctx seq => h.ok && fits 32 job && fits 32 shard && fits 24 cid && fits 8 ctx && fits 64 seq
  | .embTokens h tag seq k set refs vecs => h.ok && fits 32 tag && fits 64 seq && fits 64 k && fits 16 set && allFit 64 refs && allFit 8 vecs
  | .embResultMsg h tag seq k status set vecs => h.ok && fits 32 tag && fits 64 seq && fits 64 k && fits 16 status && fits 16 set && allFit 8 vecs
  | .emberBatchClose => true
  | .emberBatchDone _ beats bytes => fits 64 beats && fits 64 bytes
  | .emberResultTimeout port ctx set => fits 8 port && fits 8 ctx && fits 16 set
  | .emberDrainExpiry entry => fits 64 entry
  | .emberIdleUnload => true
  | .streamOpen c port ctx client => c.ok && fits 8 port && fits 8 ctx && fits 32 client
  | .streamClose c ref => c.ok && fits 32 ref
  | .streamCancel c ref => c.ok && fits 32 ref
  | .ledgerBindRing c ring => c.ok && fits 32 ring
  | .ledgerTick => true
  | .pmbusReadDone chan _ nj => fits 8 chan && fits 64 nj
  | .pmbusReadTimeout chan _ => fits 8 chan
  | .ledgerMeterLostExpiry chan => fits 8 chan
  | .ledgerApportion export_ => fits 64 export_
  | .ledgerIntervalBoundary => true
  | .ledgerRecordSigned => true
  | .ledgerRecordDurable => true
  | .ledgerAckSeqWrite w value => w.ok && fits 32 value
  | .ledgerChargeSend => true
  | .ledgerCharge h seq first _ => h.ok && fits 64 seq && fits 64 first
  | .ledgerChargeAck h seq status => h.ok && fits 64 seq && fits 16 status
  | .ledgerChargeResend dst seq => fits 24 dst && fits 64 seq
  | .streamClosingWaitExpiry index => fits 32 index
  | .collGroupSet c group epoch flags job threshold period count addr => c.ok && fits 16 group && fits 32 epoch && fits 64 flags && fits 32 job && fits 32 threshold && fits 32 period && fits 64 count && fits 64 addr
  | .collGroupFree c group => c.ok && fits 16 group
  | .collCall c sig crc inR inOff outR outOff timeout => c.ok && sig.ok && fits 64 crc && fits 64 inR && fits 64 inOff && fits 64 outR && fits 64 outOff && fits 32 timeout
  | .collCancel c group seq => c.ok && fits 16 group && fits 64 seq
  | .collRound h _ => h.ok
  | .collAbort h sig num _ => h.ok && sig.ok && fits 64 num
  | .collCallTimeout group space num => fits 16 group && fits 64 space && fits 64 num
  | .collAbortRoundExpiry group space num => fits 16 group && fits 64 space && fits 64 num
  | .collHealthCall group => fits 16 group
  | .collEnableClear w => w.ok
  | .beaconStep c _ => c.ok
  | .beaconSetCalendar c y mo d h mi sec => c.ok && fits 64 y && fits 64 mo && fits 8 d && fits 64 h && fits 64 mi && fits 64 sec
  | .beaconSetUtc c offset _ _ => c.ok && fits 64 offset
  | .ptpSyncMeasurement d _ => fits 8 d
  | .ptpAnnounce d dataset utcOffset _ _ _ => fits 8 d && allFit 64 dataset && fits 64 utcOffset
  | .ptpEventTransmit port seqId typ domain => fits 8 port && fits 64 seqId && fits 64 typ && fits 64 domain
  | .beaconTxtsPop w port => w.ok && fits 8 port
  | .ppsInEdge => true
  | .ppsLossTimeout => true
  | .ref10mLoss => true
  | .ref10mReturn => true
  | .announceReceiptTimeout d => fits 8 d
  | .beaconHoldExpiry => true
  | .beaconRevertTimer => true
  | .leapSecondEnd => true
  | .tallowFormat c => c.ok
  | .tallowCheckpoint c => c.ok
  | .tallowRawRead c die block page addr => c.ok && fits 64 die && fits 64 block && fits 64 page && fits 64 addr
  | .tallowRawProgram c die block page addr => c.ok && fits 64 die && fits 64 block && fits 64 page && fits 64 addr
  | .tallowRawErase c die block => c.ok && fits 64 die && fits 64 block
  | .tallowEnableClear w => w.ok
  | .tallowWrite owner region chunk bytes => fits 64 owner && fits 16 region && fits 64 chunk && fits 64 bytes
  | .nandProgramDone _ _ => true
  | .nandReadDone _ retries _ _ data => fits 64 retries && allFit 8 data
  | .nandEraseDone die block _ => fits 64 die && fits 64 block
  | .tallowGc _ => true
  | .tallowCheckpointTimer => true
  | .eventRaise code level src payload more t => fits 16 code && fits 8 level && fits 24 src && fits 64 payload && allFit 64 more && t.ok
  | .chimTokenRefill code => fits 16 code
  | .chimLogUnitWrite => true
  | .chimWindowEnd step code origin src => fits 64 step && fits 16 code && fits 24 origin && fits 24 src
  | .evtFwd h seq _ _ => h.ok && fits 64 seq
  | .evtFwdAck h seq status => h.ok && fits 64 seq && fits 16 status
  | .evtFwdAckTimeout seq => fits 64 seq
  | .chimExportPeriod => true
  | .traceOccurrence source kind data _ => fits 64 source && fits 8 kind && allFit 8 data
  | .chimFlueEnable w ring value => w.ok && fits 32 ring && fits 32 value
  | .chimBindFeed c ring => c.ok && fits 32 ring
  | .chimAlarmAck c seq => c.ok && fits 64 seq
  | .chimEventRead c first count addr => c.ok && fits 64 first && fits 64 count && fits 64 addr
  | .chimLlFreeze c ring => c.ok && fits 32 ring
  | .chimLlRelease c ring => c.ok && fits 32 ring
  | .chimExportBind c ring => c.ok && fits 32 ring
  | .lampAmend c addr len _ => c.ok && fits 64 addr && fits 64 len
  | .lampUpdate c kind region off len _ _ => c.ok && fits 8 kind && fits 16 region && fits 64 off && fits 64 len
  | .lampActivate c => c.ok
  | .quiescePointReached _ _ => true
  | .quiesceTimeout => true
  | .activationReadyTimeout => true
  | .trialCommitTimer => true
  | .trialStartTimeout => true
  | .lampCalWrite c addr _ => c.ok && fits 64 addr
  | .lampOwnerSet c count idx addr _ => c.ok && fits 64 count && fits 64 idx && fits 64 addr
  | .lampOwnerClear c => c.ok
  | .lockstepMismatch => true
  | .lampWatchdogExpiry => true
  | .entropyHealthFail => true
  | .entropyHealthPass => true
  | .opTimeTick => true
  | .spdmRequest path req slot => fits 64 path && fits 64 req && fits 6 slot
  | .pldmRequest path _ => fits 64 path
  | .auxPowerGood straps _ _ => fits 64 straps
  | .corePgAssert _ => true
  | .corePgTimeout => true
  | .corePgDeassert _ => true
  | .sysReset _ => true
  | .pwrFailAssert => true
  | .pwrFailDeassert => true
  | .powerStartRequest kind port ctx _ => fits 8 kind && fits 8 port && fits 8 ctx
  | .powerWindowLeave => true
  | .pwrseqPos c port action => c.ok && fits 8 port && fits 64 action
  | .posPgTimeout port => fits 8 port
  | .overtempEnter => true
  | .overtempEnd => true
  | .thermtrip => true
  | .reg64HighWrite w addr value => w.ok && fits 64 addr && fits 32 value
  | .roleQuietPoint role => fits 32 role
  | .poolingReservationAnswer h status job p => h.ok && fits 16 status && fits 32 job && fits 32 p.shard && fits 24 p.cid
  | .drillProbeAnswer h seq => h.ok && fits 64 seq
  | .ptpOtherMessage port domain typ seqId => fits 8 port && fits 64 domain && fits 64 typ && fits 64 seqId
  | .posPgAssert port => fits 8 port
  | .posCyclePowerOn port => fits 8 port
  | .coreEnRetry => true

end Sys2Proof
end

