-- ==== Sys2Proof/Certificates/Slice0/Obligations.lean ====
section
/-!
DEFINITION. The statements for the provers.
-/
open Sys2Proof Sys2Proof.Machine

/-- A step is exec of the front command on the state with the queue's rest; an empty queue passes one Beacon cycle (the model's choice). For every command and state, step with the command at the front of the queue is exec of the command on the state with the queue's rest. On an empty queue a step advances Beacon time by one 500 MHz cycle, with which a port repeats a lane map not yet agreed when 100 ns have passed (R100), and changes nothing else (DESIGN CHOICE, assumption 3). Where a command's own effect raises nothing on other units and the front buffer keeps to its partition, the next state is that effect stored and nothing more. -/
def Obligations.StepRunsTheFrontCommand : Prop :=
  ∀ (s : State),
    (∀ c r, step { s with pending := c :: r } = exec c { s with pending := r }) ∧
    (s.pending = [] → step s = .next { s with u := s.u.clockCycle }) ∧
    (∀ u : Units, u.todo = [] → s.staged → s.after u = { s with u := u }) ∧
    (∀ a : Mem × Units, a.2.todo = [] → a.1.fb.length ≤ stagingLines → s.afterM a = { s with mem := a.1, u := a.2 })

/-- After reset the registers read as the register tables give them, the Mantle is blank and no command waits. In State.reset the queue is empty, nothing is left to be carried out, memory lists nothing and has its canonical form, and each register whose table gives a reset value that is not 0 reads, in the bits the table gives a number, as that value: LINK, MANTLE, BUDGET, GRID, WICK, SHADOW, VIGIL, SNUF, FLICKER, EMBER, LEDGER, COLL, BEACON, RING, MB, TALLOW, CHIM and LAMP registers (address, bits, value). -/
def Obligations.ResetReadsAsTheRegisterTablesSay : Prop :=
  State.reset.pending = [] ∧ State.reset.idle ∧ State.reset.memOk ∧ State.reset.mem = { dram := [], fb := [] } ∧
    ∀ r ∈ [(0x400000, 0xFFFFFFFF, 0x1FF00), (0x400010, 0xFFC00000, 0x10000000), (0x400014, 0xFFFFFFFF, 0x832), (0x400018, 0xFFFFFFFF, 0x40A0A08), (0xA00000, 0xFFFFFFFF, 0x600000FF), (0xA00008, 0xFFFFFFFF, 0xC8), (0xA0000C, 0xFFFFFFFF, 0x18), (0xA00010, 0xFFFFFFFF, 0xF10110F)] ++
      [(0xF00008, 0xFFFFFFFF, 0x1180118), (0xF0000C, 0xFFFFFFFF, 0x564), (0xF00014, 0xFFFFFFFF, 0x1388), (0xE00008, 0xFFFFFFFF, 0x801), (0xE0000C, 0xFFFFFFFF, 0x64), (0x600000, 0xFFFFFFFF, 0x1), (0x600008, 0xFFFFFFFF, 0x7D0), (0x60000C, 0xFFFFFFFF, 0xA0032)] ++
      [(0x600010, 0xFFFFFFFF, 0x1388), (0x600014, 0xFFFFFFFF, 0x3C), (0x600400, 0xFFFFFFFF, 0x14), (0x700000, 0xFFFFFFFF, 0x1), (0x700008, 0xFFFFFFFF, 0x1F433), (0x70000C, 0xFFFFFFFF, 0x110), (0x780000, 0xFFFFFFFF, 0x1), (0x78000C, 0xFFFFFFFF, 0x1)] ++
      [(0x780400, 0xFFFFFFFF, 0x1F414), (0x780404, 0xFFFFFFFF, 0xA), (0xD00000, 0xFFFFFFFF, 0x3), (0xD00008, 0xFFFFFFFF, 0x3E8), (0xD00040, 0xFFFFFFFF, 0x2000400), (0xE03000, 0xFFFFFFFF, 0x1), (0xE03008, 0xFFFFFFFF, 0x14150032), (0x800000, 0xFFFFFFFF, 0x1)] ++
      [(0x800008, 0xFFFFFFFF, 0x5A003C), (0x900000, 0xFFFFFFFF, 0x1), (0x900008, 0xFFFFFFFF, 0x6403E8), (0x100008, 0xFFFFFFFF, 0x7D0003E8), (0x10000C, 0xFFFFFFFF, 0x7D00FA), (0x100010, 0xFFFFFFFF, 0x3C03E8), (0x100020, 0xFFFFFCFF, 0xF8000000), (0x100068, 0xFFFFFFFF, 0x190)] ++
      [(0x300004, 0xFFFFFFFF, 0x8000100), (0x210000, 0xFFFFFFFF, 0x1), (0xB00000, 0xFFFFFFFF, 0x1), (0xB0000C, 0xFFFFFFFF, 0x40), (0xC00008, 0xFFFFFFFF, 0xA10), (0x0, 0xFFFFFFFF, 0xA10003), (0x4, 0xFFFF0000, 0x10000), (0x2C, 0xFFFFFFFF, 0x7D0)],
      State.reset.u.live r.1 % 2 ^ 32 &&& r.2.1 = r.2.2

/-- Every step ends in a next state, takes exactly one command, and keeps the Mantle in its canonical form and the front buffer within its partition. Whatever the state and whatever command stands at the front of its queue, a step answers a next state, never a fault or a refusal, and leaves exactly the queue's rest waiting; when the Mantle's DRAM and front buffer are in their canonical form before it (addresses rising, no blank byte listed, offsets and bytes of front buffer lines in range), they are after it; and when the front buffer holds no more lines than its unit staging partition of 16 MiB before it, it holds no more after it (R114). -/
def Obligations.EveryStepEndsWellAndKeepsTheStore : Prop :=
  ∀ s : State, (∃ t, step s = .next t ∧ t.pending = s.pending.tail) ∧
    ∀ t, step s = .next t → (s.memOk → t.memOk) ∧ (s.staged → t.staged)

/-- Beacon, Chimney and Lamplighter commands below their privilege end with NOT_PRIVILEGED, those out of range with BAD_PARAM. Each command of Tables 18-6, 21-10 and 22-10 from a sender below operator privilege, LAMP_OWNER_CLEAR from one below vendor-root, completes with NOT_PRIVILEGED and does nothing else (the Lamplighter's also leave the status in LAMP_STATUS.LAST). From an operator, BEACON_STEP of 0, BEACON_SET_UTC of an offset above 255, CHIM_BIND_FEED and CHIM_EXPORT_BIND of an index out of range or of the wrong kind of ring, CHIM_EVENT_READ of a count outside 1 to 16,384 and CHIM_LL_FREEZE and CHIM_LL_RELEASE of no listed ring complete with BAD_PARAM and do nothing else. -/
def Obligations.CommandsBelowTheirPrivilegeAreRefused : Prop :=
  ∀ (s : State) (c : Cmd) (step : Int) (ring seq count addr : Nat),
    let no : Nat → Nat → Nat → State := fun unit code status => s.after (s.u.done c unit code status)
    let lampNo : Nat → State := fun code => s.after ((s.u.upLamp fun l => { l with last := St.NOT_PRIVILEGED }).done c 0x000 code St.NOT_PRIVILEGED)
    (isOperator (stampPriv c.stamp) = false →
      exec (.beaconStep c step) s = .next (no 0x010 0x0301 St.NOT_PRIVILEGED) ∧
      (∀ y mo d h mi sec, exec (.beaconSetCalendar c y mo d h mi sec) s = .next (no 0x010 0x0302 St.NOT_PRIVILEGED)) ∧
      (∀ offset leap61 leap59, exec (.beaconSetUtc c offset leap61 leap59) s = .next (no 0x010 0x0303 St.NOT_PRIVILEGED)) ∧
      exec (.chimBindFeed c ring) s = .next (no 0x0C0 0x0D01 St.NOT_PRIVILEGED) ∧
      exec (.chimAlarmAck c seq) s = .next (no 0x0C0 0x0D02 St.NOT_PRIVILEGED) ∧
      exec (.chimEventRead c seq count addr) s = .next (no 0x0C0 0x0D03 St.NOT_PRIVILEGED) ∧
      exec (.chimLlFreeze c ring) s = .next (no 0x0C0 0x0D04 St.NOT_PRIVILEGED) ∧
      exec (.chimLlRelease c ring) s = .next (no 0x0C0 0x0D05 St.NOT_PRIVILEGED) ∧
      exec (.chimExportBind c ring) s = .next (no 0x0C0 0x0D06 St.NOT_PRIVILEGED) ∧
      (∀ len a, exec (.lampAmend c addr len a) s = .next (lampNo 0x0201)) ∧
      (∀ kind region off len im same, exec (.lampUpdate c kind region off len im same) s = .next (lampNo 0x0202)) ∧
      exec (.lampActivate c) s = .next (lampNo 0x0203) ∧
      (∀ key, exec (.lampCalWrite c addr key) s = .next (lampNo 0x0204)) ∧
      (∀ idx key, exec (.lampOwnerSet c count idx addr key) s = .next (lampNo 0x0205))) ∧
    (stampPriv c.stamp ≠ 3 → exec (.lampOwnerClear c) s = .next (lampNo 0x0206)) ∧
    (isOperator (stampPriv c.stamp) = true →
      exec (.beaconStep c 0) s = .next (no 0x010 0x0301 St.BAD_PARAM) ∧
      (∀ offset leap61 leap59, 255 < offset → exec (.beaconSetUtc c offset leap61 leap59) s = .next (no 0x010 0x0303 St.BAD_PARAM)) ∧
      (¬(ring < 32768 ∧ (s.u.desc ring).kind = 2 ∧ (s.u.desc ring).sizeCode = 1) → exec (.chimBindFeed c ring) s = .next (no 0x0C0 0x0D01 St.BAD_PARAM)) ∧
      (¬(1 ≤ count ∧ count ≤ 16384) → exec (.chimEventRead c seq count addr) s = .next (no 0x0C0 0x0D03 St.BAD_PARAM)) ∧
      (llValid ring = false → exec (.chimLlFreeze c ring) s = .next (no 0x0C0 0x0D04 St.BAD_PARAM) ∧
        exec (.chimLlRelease c ring) s = .next (no 0x0C0 0x0D05 St.BAD_PARAM)) ∧
      (¬(ring < 32768 ∧ (s.u.desc ring).kind = 2) → exec (.chimExportBind c ring) s = .next (no 0x0C0 0x0D06 St.BAD_PARAM)))

/-- A low-word read latches the high word, and the next read of the high word returns it once. Reading the low word of a 64-bit register returns that word and latches the high word. A read of the high word returns the word that was latched, and with nothing latched the live high word. (Nothing is ever latched at a low word, and the word above a low word is none; the statement takes both as premises.) -/
def Obligations.WideRegistersAreReadLowFirst : Prop :=
  ∀ (s : State) (w : Who) (a : Nat), s.idle → s.staged →
    (∀ x, s.u.mayRead w a = true → NMap.find s.u.regs.latch a = none → s.u.reg64 a = some x →
      ∃ t, exec (.reg64LowRead w a) s = .next t ∧ t.outputs = s.outputs ++ [.read a (x % 2 ^ 32)] ∧ NMap.find t.u.regs.latch (a + 4) = some (x / 2 ^ 32)) ∧
    (∀ v, s.u.mayRead w (a + 4) = true → NMap.find s.u.regs.latch (a + 4) = some v →
      ∃ t, exec (.regReadClear w (a + 4)) s = .next t ∧ t.outputs = s.outputs ++ [.read (a + 4) v] ∧
        t.u.regs.latch = NMap.del s.u.regs.latch (a + 4) ∧ t.u.reg64 a = s.u.reg64 a) ∧
    (∀ x, s.u.mayRead w (a + 4) = true → NMap.find s.u.regs.latch (a + 4) = none → s.u.reg64 a = some x → s.u.reg64 (a + 4) = none →
      ∃ t, exec (.regReadClear w (a + 4)) s = .next t ∧ t.outputs = s.outputs ++ [.read (a + 4) (x / 2 ^ 32 % 2 ^ 32)])

/-- Register reads and writes act on the addressed word alone. REGISTER_WRITE by an operator to a stored register changes each field whose new value is in range; by a tenant to a register outside its mailbox and MANTLE_REGION_SEL it changes nothing; REG64_LOW_READ returns the low word and latches the high word of a 64-bit register, and of word 0 of BEACON_TIME latches words 1 to 3; REG_READ_CLEAR returns a plain word and clears its RC fields, or returns a latched word once; REG64_LOW_WRITE holds the word of a wide register until REG64_HIGH_WRITE makes both take effect, in LEDGER_ACK_SEQ and in the consumer half of CHIM_FLUE_IDX; a high word written with none held keeps the low word. A read of a word that the identity may not read returns 0, clears no field, drops no latch of another word and leaves every other part of the T3 as it was; a write of a wide register below operator privilege changes nothing. -/
def Obligations.RegisterAccessesActOnTheWord : Prop :=
  (∀ (s : State) (w : Who) (addr value : Nat),
    (∀ r ∈ rwRegs, isOperator w.priv = true →
      exec (.registerWrite w r.base value) s = .next (s.after (s.u.setCfg r.base (rwWord (s.u.cfg r.base r.reset) value r.fields)))) ∧
    (isOperator w.priv = false → ¬(0x200000 ≤ addr ∧ addr < 0x210000) → addr ≠ 0xA00040 →
      exec (.registerWrite w addr value) s = .next (s.after s.u)) ∧
    (∀ x, s.u.mayRead w addr = true → s.u.reg64 addr = some x →
      exec (.reg64LowRead w addr) s = .next (s.after
        (((s.u.unlatch addr).latchWords (addr + 4) [x / 2 ^ 32]).emit (.read addr (wrapW 32 x))))) ∧
    (s.u.mayRead w 0x100030 = true →
      exec (.reg64LowRead w 0x100030) s = .next (s.after
        (((s.u.unlatch 0x100030).latchWords 0x100034 [s.u.clk.ns, wrapW 32 s.u.clk.sec, wrapW 16 (s.u.clk.sec / 2 ^ 32)]).emit
          (.read 0x100030 (wrapW 32 (s.u.live 0x100030)))))) ∧
    (s.u.mayRead w addr = true → NMap.find s.u.regs.latch addr = none → s.u.reg64 addr = none → addr ≠ 0x100030 →
      exec (.regReadClear w addr) s = .next (s.after ((s.u.readClear addr).emit (.read addr (wrapW 32 (s.u.live addr)))))) ∧
    (∀ v, s.u.mayRead w addr = true → NMap.find s.u.regs.latch addr = some v →
      exec (.regReadClear w addr) s = .next (s.after ((s.u.unlatch addr).emit (.read addr v)))) ∧
    (isOperator w.priv = true → isWide addr = true →
      exec (.reg64LowWrite w addr value) s =
        .next (s.after { s.u with regs := { s.u.regs with held := NMap.set s.u.regs.held addr (wrapW 32 value) } })) ∧
    (isOperator w.priv = true →
      exec (.reg64HighWrite w 0x800024 value) s = .next (s.after
        (ledgerAckSeqWrite w ((NMap.find s.u.regs.held 0x800020).getD (wrapW 32 s.u.led.ack) + wrapW 32 value * 2 ^ 32)
          { s.u with regs := { s.u.regs with held := NMap.del s.u.regs.held 0x800020 } })) ∧
      exec (.reg64HighWrite w 0xC0009C value) s = .next (s.after
        (({ s.u with regs := { s.u.regs with held := NMap.del s.u.regs.held 0xC00098 } } : Units).flueCons (wrapW 32 value)))) ∧
    (isOperator w.priv = false →
      exec (.reg64LowWrite w addr value) s = .next (s.after s.u) ∧ exec (.reg64HighWrite w addr value) s = .next (s.after s.u))) ∧
  (∀ (s : State) (w : Who) (addr : Nat), s.u.mayRead w addr = false →
    exec (.regReadClear w addr) s = .next (s.after (s.u.emit (.read addr 0))) ∧
    exec (.reg64LowRead w addr) s = .next (s.after ((s.u.unlatch addr).emit (.read addr 0))))

/-- Mode changes, unit drains and general allocations take effect. MB_SET_MODE by an operator moves the mailbox between normal service and mode 2 and completes OK, the mode it stands in included; mode 2 with a job or a watch bound, or any change in start-up or recovery, completes with BAD_STATE, another mode value with BAD_PARAM. UNIT_DRAIN_TIMEOUT of a draining unit raises the unit's generation tag and ends the drain; UNIT_DRAIN_END does so once no accepted work is left; with no drain running, or work left at UNIT_DRAIN_END, each changes nothing. MANTLE_ALLOC of a general region that fits, owned by none or by a context of an accelerator of this tray, completes OK with the region's index; one that does not fit with MANTLE_FULL. -/
def Obligations.UnitDrainsAndAllocationsTakeEffect : Prop :=
  ∀ (s : State) (c : Cmd),
    (∀ mode, isOperator (stampPriv c.stamp) = true →
      (s.u.mb.mode ≠ 1 → s.u.mb.mode ≠ 3 → mode = 0 ∨ mode = 2 →
        (mode ≠ s.u.mb.mode → mode = 2 → s.u.wick.jobs = [] ∧ s.u.vig.watch = []) →
        exec (.mbSetMode c mode) s = .next (s.after (({ s.u with mb := { s.u.mb with mode := mode } } : Units).done c 0x021 0x0102 St.OK))) ∧
      (s.u.mb.mode = 1 ∨ s.u.mb.mode = 3 ∨ mode = 2 ∧ s.u.mb.mode ≠ 2 ∧ (s.u.wick.jobs ≠ [] ∨ s.u.vig.watch ≠ []) →
        exec (.mbSetMode c mode) s = .next (s.after (s.u.done c 0x021 0x0102 St.BAD_STATE))) ∧
      (s.u.mb.mode ≠ 1 → s.u.mb.mode ≠ 3 → mode ≠ 0 → mode ≠ 2 →
        exec (.mbSetMode c mode) s = .next (s.after (s.u.done c 0x021 0x0102 St.BAD_PARAM)))) ∧
    (∀ unit,
      ((s.u.drains.any fun x => x.unit = unit) = true →
        exec (.unitDrainTimeout unit) s = .next (s.after ((s.u.raiseTag unit).drainOver unit)) ∧
        (s.u.drainLeft unit = 0 → exec (.unitDrainEnd unit) s = .next (s.after ((s.u.raiseTag unit).drainOver unit))) ∧
        (s.u.drainLeft unit ≠ 0 → exec (.unitDrainEnd unit) s = .next (s.after s.u))) ∧
      ((s.u.drains.any fun x => x.unit = unit) = false →
        exec (.unitDrainTimeout unit) s = .next (s.after s.u) ∧ exec (.unitDrainEnd unit) s = .next (s.after s.u))) ∧
    (∀ hv mask bytes, isOperator (stampPriv c.stamp) = true → bytes ≠ 0 → mask < 2 ^ 20 →
      let r : Region := { typ := 8, hostVisible := hv, pooled := false, quiet := false, job := 0, ownerCid := 0, ownerCtx := 0xFF, ownerKind := 4,
                          gen := 0, mask := mask, pages := [] }
      (∀ u' i, s.u.allocRegion r bytes = (u', some i) →
        exec (.mantleAlloc c 8 hv 0 0xFF mask bytes) s = .next (s.after (u'.done c 0xA0 0x0401 St.OK 0 i))) ∧
      ((s.u.allocRegion r bytes).2 = none →
        exec (.mantleAlloc c 8 hv 0 0xFF mask bytes) s = .next (s.after (s.u.done c 0xA0 0x0401 St.MANTLE_FULL))) ∧
      (∀ cid ctx p, s.u.portOf cid = some p → ctx < 64 →
        let o := { r with ownerKind := 0, ownerCid := cid, ownerCtx := ctx, gen := s.u.ctxGen p ctx, job := s.u.ctxJob p ctx }
        (∀ u' i, s.u.allocRegion o bytes = (u', some i) →
          exec (.mantleAlloc c 8 hv cid ctx mask bytes) s = .next (s.after (u'.done c 0xA0 0x0401 St.OK 0 i))) ∧
        ((s.u.allocRegion o bytes).2 = none →
          exec (.mantleAlloc c 8 hv cid ctx mask bytes) s = .next (s.after (s.u.done c 0xA0 0x0401 St.MANTLE_FULL)))))

/-- The ring commands move indices, enable, drain and flush rings. RING_PROD_IDX_WRITE by an identity that may touch the enabled command or inbound ring, with room, queues the entries, and the ring unit takes commands in order; RING_CONS_IDX_WRITE frees entries of a completion or outbound ring and serves it; RING_ENABLE_SET by an operator gives a ring of a legal shape the lowest body that fits, RING_ENABLE_CLEAR starts the drain, RING_DRAIN_END ends it, and a set written during the drain takes effect then; RING_FLUSH with no earlier command of its ring running completes OK, and with one is marked to complete after it. An identity that may not touch the ring, a host identity at an index of the T3's side, and a RING_ENABLE write below operator privilege change nothing. A producer index of a disabled ring, or of one whose program drains, one that moves backward and one that would overfill the ring, and a consumer index past the producer's, queue and free nothing: the ring's error is set and the refusal counted. A RING_ENABLE_SET of an illegal shape or with no space sets BAD_PARAM or MANTLE_FULL and leaves the ring off. What a drained ring still holds is cancelled, and completions held for a drained command ring are given up and counted. -/
def Obligations.RingIndicesAndEnablesAct : Prop :=
  (∀ (s : State) (w : Who) (ring value : Nat) (entries : List CmdEntry),
    let d := s.u.desc ring
    let ahead := wrapW 32 (value + 2 ^ 32 - d.prod)
    let freed := wrapW 32 (value + 2 ^ 32 - d.cons)
    (mayRing w d = true → ¬(w.cls = 1 ∧ d.hostSide = false) → d.kind = 0 ∨ d.kind = 3 →
      (d.enable = true → s.u.ringDrains ring = false → ahead < 2 ^ 31 → d.fill + ahead ≤ d.size →
        exec (.ringProdIdxWrite w ring value entries) s = .next (s.after ((s.u.setDesc ring
          { d with prod := wrapW 32 value,
                   q := d.q ++ (entries.take ahead).map fun e => if d.kind = 3 then RingEntry.words e.raw else RingEntry.cmd e }).take ring))) ∧
      (d.enable = false ∨ s.u.ringDrains ring = true →
        exec (.ringProdIdxWrite w ring value entries) s = .next (s.after ((s.u.ringErr ring St.BAD_STATE).count 0x210120))) ∧
      (d.enable = true → s.u.ringDrains ring = false → 2 ^ 31 ≤ ahead →
        exec (.ringProdIdxWrite w ring value entries) s = .next (s.after ((s.u.ringErr ring St.BAD_PARAM).count 0x210120))) ∧
      (d.enable = true → s.u.ringDrains ring = false → ahead < 2 ^ 31 → d.size < d.fill + ahead →
        exec (.ringProdIdxWrite w ring value entries) s = .next (s.after ((s.u.ringErr ring St.RING_FULL).count 0x210120)))) ∧
    (mayRing w d = true → ¬(w.cls = 1 ∧ d.hostSide = false) → d.kind = 1 ∨ d.kind = 2 →
      let u' := (s.u.setDesc ring { d with cons := wrapW 32 value, q := d.q.drop freed }).serveRing ring
      (freed ≤ d.fill → exec (.ringConsIdxWrite w ring value) s = .next (s.after (if d.kind = 2 then u'.later (.ringFreed ring) else u'))) ∧
      (d.fill < freed → exec (.ringConsIdxWrite w ring value) s = .next (s.after ((s.u.ringErr ring St.BAD_PARAM).count 0x210120)))) ∧
    (mayRing w d = false ∨ w.cls = 1 ∧ d.hostSide = false →
      exec (.ringProdIdxWrite w ring value entries) s = .next (s.after s.u) ∧ exec (.ringConsIdxWrite w ring value) s = .next (s.after s.u))) ∧
  (∀ (s : State) (w : Who) (ring : Nat),
    let d := s.u.desc ring
    let legal := (d.kind = 0 → d.sizeCode = 2) ∧ (d.kind = 1 → d.sizeCode = 0) ∧ d.sizeCode ≤ 8 ∧ 1 ≤ d.countLog2 ∧ d.countLog2 ≤ 16 ∧ d.kind ≤ 4
    (isOperator w.priv = true → d.enable = false → d.draining = false →
      (∀ o, legal → fitBody s.u.ringSpace d.bytes s.u.ringBodies = some o →
        exec (.ringEnableSet w ring) s = .next (s.after ((s.u.setDesc ring
          { d with enable := true, bodyOffset := o, prod := 0, cons := 0, phase := true, q := [], reserved := 0 }).serveRing ring))) ∧
      (legal → fitBody s.u.ringSpace d.bytes s.u.ringBodies = none →
        exec (.ringEnableSet w ring) s = .next (s.after (s.u.ringErr ring St.MANTLE_FULL))) ∧
      (¬legal → exec (.ringEnableSet w ring) s = .next (s.after (s.u.ringErr ring St.BAD_PARAM)))) ∧
    (isOperator w.priv = true → d.enable = false → d.draining = true →
      exec (.ringEnableSet w ring) s = .next (s.after
        { s.u with drains := s.u.drains.map fun x => if x.unit = 0x10000 + ring then { x with enableHeld := true } else x })) ∧
    (isOperator w.priv = true → d.enable = true →
      exec (.ringEnableClear w ring) s = .next (s.after { s.u.setDesc ring { d with enable := false, draining := true } with
        drains := s.u.drains ++ [{ unit := 0x10000 + ring, items := s.u.ringItems ring, enableHeld := false }] })) ∧
    (isOperator w.priv = false →
      exec (.ringEnableSet w ring) s = .next (s.after s.u) ∧ exec (.ringEnableClear w ring) s = .next (s.after s.u))) ∧
  (∀ (s : State) (ring : Nat),
    let d := s.u.desc ring
    let endDrain := fun (u : Units) =>
      let v : Units := { u.setDesc ring { u.desc ring with
          draining := false, bodyOffset := 0, reserved := 0,
          gen := if (u.desc ring).context = 0xFF then wrapW 16 ((u.desc ring).gen + 1) else (u.desc ring).gen } with
        drains := u.drains.filter fun x => x.unit ≠ 0x10000 + ring }
      if (u.drains.any fun x => x.unit = 0x10000 + ring && x.enableHeld) then v.ringUp ring else v
    d.draining = true →
      (d.kind = 1 ∨ d.kind = 2 →
        (d.q = [] → exec (.ringDrainEnd ring) s = .next (s.after (endDrain s.u))) ∧
        (d.q ≠ [] → exec (.ringDrainEnd ring) s = .next (s.after
          (endDrain ((s.u.setDesc ring { d with q := [], cons := d.prod }).ringErr ring St.CANCELLED_BY_DISABLE))))) ∧
      (d.kind = 3 ∨ d.kind = 4 → exec (.ringDrainEnd ring) s = .next (s.after (endDrain (s.u.abortRing ring St.CANCELLED_BY_DISABLE)))) ∧
      (d.kind = 0 →
        let u := s.u.abortRing ring St.CANCELLED_BY_DISABLE
        let lost := (u.ring.heldC.filter fun h => h.2.1 = ring).length
        let v : Units := { u with ring := { u.ring with heldC := u.ring.heldC.filter fun h => h.2.1 ≠ ring } }
        exec (.ringDrainEnd ring) s = .next (s.after (endDrain (if lost = 0 then v else v.count 0x210130 lost))))) ∧
  (∀ (s : State) (c : Cmd),
    (stampPriv c.stamp < 4 → (s.u.ring.running.filter fun r => r.ring = c.ring).takeWhile (fun r => r.tag ≠ c.tag) = [] →
      exec (.ringFlush c) s = .next (s.after (s.u.done c 0x021 0x0101 St.OK))) ∧
    (∀ pre r post, stampPriv c.stamp < 4 → s.u.ring.running = pre ++ r :: post → r.ring = c.ring → r.tag = c.tag →
      (∀ x ∈ pre, ¬(x.ring = c.ring ∧ x.tag = c.tag)) → (∃ x ∈ pre, x.ring = c.ring) →
      exec (.ringFlush c) s = .next (s.after { s.u with ring := { s.u.ring with running := pre ++ { r with flush := true } :: post } })) ∧
    (4 ≤ stampPriv c.stamp → exec (.ringFlush c) s = .next (s.after (s.u.done c 0x021 0x0101 St.NOT_PRIVILEGED))))

/-- The mailbox commands post, acknowledge, return and ring. MB_POST of 1 to 8 words by an allowed identity on an empty channel takes the message with its sender stamp and sets FULL; at the open mailbox a further post replaces the message and sets COLLISION. MB_ACKNOWLEDGE gives the return code and clears FULL; MB_RETURN_POST puts 1 to 8 words in an empty return direction and MB_RET_ACK releases them; MB_DB_SET sets the bits that the identity rings, MB_DB_CLEAR clears those it takes, MB_DB_MASK_WRITE and MB_BIND_WRITE by an operator change the mask and the binding, and unmasked rings raise their interrupts. MB_POST or MB_RET_ACK by an identity the channel does not allow, MB_DB_SET of low bits by such an identity, a post of 0 or more than 8 words, a post to a full private channel, and any of them from a reserved privilege encoding only count the refusal and set LAST, with MB_SENDER_REFUSED for an identity that is not allowed; a mask or binding written below operator privilege stays. -/
def Obligations.MailboxCommandsExchange : Prop :=
  (∀ (s : State) (w : Who) (n value : Nat),
    let c := s.u.ch n
    (∀ k, 1 ≤ k → k ≤ 8 → s.u.mbAllowed w n = true →
      (c.outFull = false →
        exec (.mbPost w n k) s = .next (s.after (s.u.setCh n
          { c with msg := c.outW.take k, stamp := whoStamp w, outFull := true, posted := satW 16 (c.posted + 1), writers := [] }))) ∧
      (c.outFull = true → n = 0 →
        exec (.mbPost w n k) s = .next (s.after ((s.u.count 0x210128).setCh n
          { c with msg := c.outW.take k, stamp := whoStamp w, outFull := true, collision := true, posted := satW 16 (c.posted + 1),
                   writers := [] })))) ∧
    (c.outFull = true →
      exec (.mbAcknowledge n value) s = .next (s.after (s.u.setCh n { c with ack := wrapW 16 value, outFull := false, msg := [] }))) ∧
    (∀ words, words ≠ [] → words.length ≤ 8 → c.retFull = false →
      exec (.mbReturnPost n words) s = .next (s.after (s.u.setCh n
        { c with retW := words ++ c.retW.drop words.length, retFull := true, retCountValid := true, retCount := words.length }))) ∧
    (s.u.mbAllowed w n = true →
      (bitAt value 0 = true → exec (.mbRetAck w n value) s = .next (s.after (s.u.setCh n { c with retFull := false, retCountValid := false }))) ∧
      (bitAt value 0 = false → exec (.mbRetAck w n value) s = .next (s.after s.u))) ∧
    (w.priv < 4 →
      (bits (wrapW 32 value) 15 0 = 0 ∨ s.u.mbAllowed w n = true →
        exec (.mbDbSet w n value) s = .next (s.after
          ((s.u.setCh n { c with db := c.db ||| (wrapW 32 value &&& s.u.dbRings w n) }).dbIrq n (wrapW 32 value &&& s.u.dbRings w n)))) ∧
      exec (.mbDbClear w n value) s = .next (s.after (s.u.setCh n { c with db := andNot c.db (wrapW 32 value &&& s.u.dbTakes w n) }))) ∧
    (isOperator w.priv = true →
      exec (.mbDbMaskWrite w n value) s = .next (s.after
        ((s.u.setCh n { c with dbMask := wrapW 32 value }).dbIrq n (c.db &&& andNot c.dbMask (wrapW 32 value)))) ∧
      exec (.mbBindWrite w n value) s = .next (s.after (s.u.setCh n { c with bind := wrapW 32 value - bits value 11 1 * 2 }))) ∧
    (isOperator w.priv = false →
      exec (.mbDbMaskWrite w n value) s = .next (s.after s.u) ∧ exec (.mbBindWrite w n value) s = .next (s.after s.u))) ∧
  (∀ (s : State) (w : Who) (n value k : Nat),
    (w.priv < 4 → s.u.mbAllowed w n = false →
      (1 ≤ k → k ≤ 8 → exec (.mbPost w n k) s = .next (s.after (s.u.mbRefuse n St.SENDER_NOT_ALLOWED))) ∧
      exec (.mbRetAck w n value) s = .next (s.after (s.u.mbRefuse n St.SENDER_NOT_ALLOWED)) ∧
      (bits (wrapW 32 value) 15 0 ≠ 0 → exec (.mbDbSet w n value) s = .next (s.after (s.u.mbRefuse n St.SENDER_NOT_ALLOWED)))) ∧
    (4 ≤ w.priv →
      exec (.mbPost w n k) s = .next (s.after (s.u.mbRefuse n St.NOT_PRIVILEGED)) ∧
      exec (.mbRetAck w n value) s = .next (s.after (s.u.mbRefuse n St.NOT_PRIVILEGED)) ∧
      exec (.mbDbSet w n value) s = .next (s.after (s.u.mbRefuse n St.NOT_PRIVILEGED)) ∧
      exec (.mbDbClear w n value) s = .next (s.after (s.u.mbRefuse n St.NOT_PRIVILEGED))) ∧
    (w.priv < 4 → k = 0 ∨ 8 < k → exec (.mbPost w n k) s = .next (s.after (s.u.mbRefuse n St.BAD_PARAM))) ∧
    (1 ≤ k → k ≤ 8 → s.u.mbAllowed w n = true → (s.u.ch n).outFull = true → n ≠ 0 →
      exec (.mbPost w n k) s = .next (s.after (s.u.mbRefuse n St.BUSY_RETRY))))

/-- The budget commands apply, cap, divide, answer and step down. BUDGET_APPLY by an operator of a valid staging copy makes it pending, of an invalid one only sets BAD_PARAM; BUDGET_PERIOD_BOUNDARY takes the capacities of the period and puts a pending copy in force; BUDGET_PKG_CAP_WRITE by an operator sets CAP_W in its range and else BAD_PARAM. BUDGET_SUB_SLOT takes the capacities of the sub-slot and gives every instance its two passes. BUDGET_REQUEST of SAFETY takes what it needs and is answered OK, of an activity with a cap of 0 is answered BUDGET_DEFERRED, of another is served whole from its unspent allowance and the capacity no pass gave, and else waits. POWER_INTERVAL and THERMAL_CEILING_STEP set the power excess and the ceiling. A write below operator privilege, and an apply with APPLY 0, change nothing. -/
def Obligations.BudgetCommandsAct : Prop :=
  ∀ (s : State) (w : Who) (value act inst amount : Nat),
    (isOperator w.priv = true → bitAt value 0 = true →
      (stagingValid s.u.bud.sGuar s.u.bud.sCap = true →
        exec (.budgetApply w value) s = .next (s.after (s.u.setBud { s.u.bud with pend := some (s.u.bud.sGuar, s.u.bud.sCap), last := St.OK }))) ∧
      (stagingValid s.u.bud.sGuar s.u.bud.sCap = false →
        exec (.budgetApply w value) s = .next (s.after (s.u.setBud { s.u.bud with last := St.BAD_PARAM })))) ∧
    (isOperator w.priv = false ∨ bitAt value 0 = false → exec (.budgetApply w value) s = .next (s.after s.u)) ∧
    (isOperator w.priv = true →
      (150 ≤ bits value 8 0 → bits value 8 0 ≤ 280 →
        exec (.budgetPkgCapWrite w value) s = .next (s.after (s.u.setBud { s.u.bud with
          capW := bits value 8 0,
          ceilW := if s.u.bud.ceilW < s.u.bud.capW then min s.u.bud.ceilW (bits value 8 0) else bits value 8 0, last := St.OK }))) ∧
      (bits value 8 0 < 150 ∨ 280 < bits value 8 0 →
        exec (.budgetPkgCapWrite w value) s = .next (s.after (s.u.setBud { s.u.bud with last := St.BAD_PARAM })))) ∧
    (isOperator w.priv = false → exec (.budgetPkgCapWrite w value) s = .next (s.after s.u)) ∧
    (∀ rate width,
      let u := (({ s.u with pwr := { s.u.pwr with hold := s.u.pwr.fail } } : Units).setBud
        { s.u.bud with period := wrapW 32 (s.u.bud.period + 1), slot := 0 }).takeCapacity rate width
      (s.u.bud.pend = none → exec (.budgetPeriodBoundary rate width) s = .next (s.after u)) ∧
      (∀ g c, s.u.bud.pend = some (g, c) →
        exec (.budgetPeriodBoundary rate width) s = .next (s.after ((u.setBud { u.bud with guar := g, cap := c, pend := none }).shutOut)))) ∧
    (exec .budgetSubSlot s = .next (s.after ((instances.foldl (fun u i => u.slotInst i)
      (s.u.setBud { s.u.bud with
        slot := (s.u.bud.slot + 1) % 10, got := [], spent := [], spare := [], shortNow := [],
        slotCaps := instances.foldl (fun t i => NMap.put t 0 i (s.u.slotCap i)) [] })).later .slotOpen))) ∧
    (exec (.budgetRequest 0 inst amount) s = .next (s.after ((s.u.setBud (s.u.bud.safety inst amount)).emit (.bus 10 [0, inst, St.OK])))) ∧
    (act ≠ 0 → capOf s.u.bud.cap act (resOf inst) = 0 →
      exec (.budgetRequest act inst amount) s = .next (s.after (s.u.emit (.bus 10 [act, inst, St.BUDGET_DEFERRED])))) ∧
    (act ≠ 0 → capOf s.u.bud.cap act (resOf inst) ≠ 0 →
      let own := s.u.bud.gotOf act inst - s.u.bud.spentOf act inst
      let more := min (NMap.getD s.u.bud.spare inst 0) (s.u.bud.most act inst - s.u.bud.spentOf act inst - own)
      (amount ≤ own + more →
        exec (.budgetRequest act inst amount) s = .next (s.after ((s.u.spend act inst amount).emit (.bus 10 [act, inst, St.OK])))) ∧
      (own + more < amount →
        exec (.budgetRequest act inst amount) s = .next (s.after (s.u.setBud { s.u.bud with
          waits := s.u.bud.waits ++ [{ act := act, inst := inst, amount := amount, what := .req }] })))) ∧
    (∀ measured base estimated, exec (.powerInterval measured base estimated) s = .next (s.after (s.u.setBud { s.u.bud with
      measW := measured, baseW := base, scaleNum := measured, scaleDen := max 1 estimated, excess := measured - s.u.bud.ceilW }))) ∧
    (∀ (tj : Int) (ten : Bool),
      let t : Int := s.u.throttleC
      let c := if t ≤ tj then max 60 (s.u.bud.ceilW - s.u.stepDownW)
        else if ten = true ∧ tj < t - 2 then min s.u.bud.capW (s.u.bud.ceilW + 1) else s.u.bud.ceilW
      exec (.thermalCeilingStep tj ten) s = .next (s.after (s.u.setBud
        { s.u.bud with tjMax := tj, ceilW := c, ceilingFloor := decide (t ≤ tj) && c == 60 })))

/-- The two passes of a sub-slot never give more than its capacity. On every instance and in every state, what the activities receive in the two passes of R139 and what neither pass gave add up exactly to the capacity that BUDGET_SUB_SLOT took for the sub-slot. -/
def Obligations.BudgetPassesRespectCapacity : Prop :=
  ∀ (u : Units) (inst : Nat), sumL ((u.passes inst).1.map (·.2)) + (u.passes inst).2 = NMap.getD u.bud.slotCaps inst 0

/-- The power sequencer queues, admits, switches and reports. POWER_START_REQUEST queues a start of Table 23-7, a recovery start ahead of the others, and admits from the head; with 64 waiting it counts PWR_QUEUE_FULL and queues nothing. POWER_WINDOW_LEAVE drops starts older than 10 ms and admits. PWRSEQ_POS by an operator turns a position on, off or cycles it when it may; a position already on completes OK, one that waits for POS_PG waits, one in use completes BAD_STATE, a port or action out of range BAD_PARAM; below operator privilege it completes NOT_PRIVILEGED. POS_CYCLE_POWER_ON asks for the start of a cycled position; POS_PG_ASSERT completes the commands that waited, and retrains the port of a COLD spare that waits for its power (the model's choice, assumption 174); POS_PG_TIMEOUT loses the position; PWR_FAIL and over-temperature set and end their states. -/
def Obligations.PowerSequencerAdmitsAndSwitches : Prop :=
  ∀ (s : State) (c : Cmd) (kind port ctx : Nat) (recovery : Bool),
    (kind < 3 →
      let x : PwrStart := { kind := kind, port := port, ctx := ctx, recovery := kind = 1 || (kind = 0 && recovery), at_ := s.u.clk.mono, cmd := none }
      let q := s.u.pwr.queue
      (q.length < 64 →
        let u' := (s.u.upP fun p => { p with queue :=
          if x.recovery then (q.filter (·.recovery)) ++ [x] ++ q.filter (fun y => !y.recovery) else q ++ [x] }).admitQueue
        exec (.powerStartRequest kind port ctx recovery) s = .next (s.after (if u'.pwr.queue.contains x then u'.count 0x288 else u'))) ∧
      (64 ≤ q.length →
        let u' := (s.u.count 0x290).lampEvent Ev.PWR_QUEUE_FULL
        exec (.powerStartRequest kind port ctx recovery) s = .next (s.after (if kind = 0 then u'.spareRefused port else u')))) ∧
    (exec .powerWindowLeave s = .next (s.after ((s.u.upP fun p => { p with window := p.inWindow s.u.clk.mono }).admitQueue))) ∧
    (isOperator (stampPriv c.stamp) = true →
      (port < 16 →
        (bitAt s.u.pwr.posEn port = false →
          exec (.pwrseqPos c port 1) s = .next (s.after (s.u.askStart 0 port 0xFF false (some c)))) ∧
        (bitAt s.u.pwr.posEn port = true → bitAt s.u.pwr.posPg port = true →
          exec (.pwrseqPos c port 1) s = .next (s.after (s.u.done c 0x000 0x0207 St.OK))) ∧
        (bitAt s.u.pwr.posEn port = true → bitAt s.u.pwr.posPg port = false →
          exec (.pwrseqPos c port 1) s = .next (s.after (s.u.upP fun p => { p with posCmds := p.posCmds ++ [(port, c)] }))) ∧
        (s.u.mayPowerOff port = true →
          exec (.pwrseqPos c port 0) s = .next (s.after ((s.u.posEnable port false).done c 0x000 0x0207 St.OK)) ∧
          exec (.pwrseqPos c port 2) s = .next (s.after ((s.u.posEnable port false).upP fun p => { p with cycles := p.cycles ++ [(port, c)] }))) ∧
        (s.u.mayPowerOff port = false →
          exec (.pwrseqPos c port 0) s = .next (s.after (s.u.done c 0x000 0x0207 St.BAD_STATE)) ∧
          exec (.pwrseqPos c port 2) s = .next (s.after (s.u.done c 0x000 0x0207 St.BAD_STATE)))) ∧
      (∀ action, 16 ≤ port ∨ 3 ≤ action → exec (.pwrseqPos c port action) s = .next (s.after (s.u.done c 0x000 0x0207 St.BAD_PARAM)))) ∧
    (isOperator (stampPriv c.stamp) = false →
      ∀ action, exec (.pwrseqPos c port action) s = .next (s.after (s.u.done c 0x000 0x0207 St.NOT_PRIVILEGED))) ∧
    (∀ x, (s.u.pwr.cycles.find? fun y => y.1 = port) = some x →
      exec (.posCyclePowerOn port) s = .next (s.after ((s.u.upP fun p => { p with cycles := p.cycles.erase x }).askStart 0 port 0xFF false (some x.2)))) ∧
    (bitAt s.u.pwr.posEn port = true →
      let mine := s.u.pwr.posCmds.filter fun x => x.1 = port
      let rest := s.u.pwr.posCmds.filter fun x => x.1 ≠ port
      let u' := mine.foldl (fun u x => u.done x.2 0x000 0x0207 St.OK) (s.u.upP fun p => { p with posPg := setBit p.posPg port, posCmds := rest })
      exec (.posPgAssert port) s = .next (s.after
        (if (u'.rcv.prep.any fun x => x.2.1 = port && x.2.2 = [0xFF]) = true ∧ bitAt (u'.linkCtl port) 0 = true ∧
            ((u'.port port).state = 7 ∨ (u'.port port).state = 8) then u'.bringUp port else u')) ∧
      (bitAt s.u.pwr.posPg port = false →
        exec (.posPgTimeout port) s = .next (s.after ((((mine.foldl (fun u x => u.done x.2 0x000 0x0207 St.BAD_STATE)
          (s.u.upP fun p => { p with posCmds := rest })).lampEvent Ev.PWR_POS_FAIL).spareRefused port).lose port 3)))) ∧
    (s.u.pwr.overtemp = false →
      exec .overtempEnter s = .next (s.after (((s.u.upP fun p => { p with overtemp := true }).fans).lampEvent Ev.PKG_OVERTEMP))) ∧
    (s.u.pwr.overtemp = true → exec .overtempEnd s = .next (s.after (((s.u.upP fun p => { p with overtemp := false }).fans).admitQueue))) ∧
    (s.u.pwr.fail = false → exec .pwrFailAssert s =
      .next (s.after (((s.u.upP fun p => { p with fail := true, hold := true }).tallowPwrFail).lampEvent Ev.PWR_FAIL_ASSERTED))) ∧
    (s.u.pwr.fail = true → exec .pwrFailDeassert s = .next (s.after (((s.u.upP fun p => { p with fail := false }).tallowPwrGood).admitQueue)))

/-- The start, the resets and the thermal trip run their stages. AUX_POWER_GOOD takes the straps, the fuses and NOR into a reset T3, drives the fans and runs from the FSBL stage (or raises FAULT_N on a bad strap); CORE_PG_ASSERT runs the rest of the start, with or without a configuration image, in recovery with no port enabled, and with stacks mapped out reports the capacity; CORE_PG_TIMEOUT takes CORE_EN back and the second one raises FAULT_N; CORE_EN_RETRY tries once more; CORE_PG_DEASSERT for 10 us is handled as PWR_FAIL and for 3 ms, like SYS_RESET, as a full reset that runs again from the FSBL stage; THERMTRIP latches the trip and drops the core rails. -/
def Obligations.StartAndResetRunTheStages : Prop :=
  ∀ (s : State),
    (∀ straps fuses nor,
      let u' := ({ Units.reset with out := s.u.out, free := s.u.free, lamp := { Lamp.reset with fuses := fuses, nor := nor },
                                    pwr := { Pwr.reset with straps := straps % 64 } } : Units).fans
      (bits (straps % 64) 1 0 = 0 → exec (.auxPowerGood straps fuses nor) s = .next (s.afterM (Mem.reset, u'.fsblStage))) ∧
      (bits (straps % 64) 1 0 ≠ 0 → exec (.auxPowerGood straps fuses nor) s = .next (s.afterM (Mem.reset, u'.setFault true)))) ∧
    (∀ x, s.u.pwr.coreEn = true → s.u.pwr.corePg = false →
      let u0 : Units := s.u.upP fun p => { p with corePg := true, tries := 0 }
      let take : Units := match s.u.lamp.cfg with
        | some cfg => { u0 with self := cfg.cid
                                role := { u0.role with wardenId := cfg.wardenId, keeperId := cfg.keeperId, t3Gen := wrapW 16 u0.clk.cycles }
                                pwr := { u0.pwr with budgetW := cfg.budgetW, inrush := cfg.inrush } }
        | none => { u0 with role := { u0.role with t3Gen := wrapW 16 u0.clk.cycles } }
      let r := ((take.startMantle x.present).startGrid x.bad).startPrograms Mem.reset
      let rest : Units → Units := fun u =>
        let u := match u.lamp.cfg with | some c => u.applyPart c.part false | none => u
        let u := ((u.startTallow x.mount).chimStart x.events).startLedger x.led
        { u with coll := { u.coll with ready := true } }
      (s.u.lamp.state = 4 → exec (.corePgAssert x) s = .next (s.afterM (r.1, rest r.2))) ∧
      (s.u.lamp.state = 2 →
        let u2 := rest r.2.startPorts
        let u3 := (({ u2 with mb := { u2.mb with mode := 0 }, lamp := { u2.lamp with state := 3 } } : Units).setFault false).askAdmission
        exec (.corePgAssert x) s = .next (s.afterM (r.1, if u3.mantle.mappedOut = 0 then u3 else u3.reportStacks)))) ∧
    (s.u.pwr.coreEn = true → s.u.pwr.corePg = false →
      let u' := (((s.u.upP fun p => { p with coreEn := false, tries := s.u.pwr.tries + 1 }).emit (.pin 1 0 0))).lampEvent Ev.PWR_CORE_TIMEOUT
      exec .corePgTimeout s = .next (s.after (if 1 ≤ s.u.pwr.tries then u'.setFault true else u'))) ∧
    (s.u.pwr.tries = 1 → s.u.pwr.coreEn = false → bitAt s.u.pwr.straps 5 = false → s.u.pwr.thermtrip = false →
      exec .coreEnRetry s = .next (s.after ((s.u.upP fun p => { p with coreEn := true }).emit (.pin 1 0 1)))) ∧
    (s.u.pwr.corePg = true →
      exec (.corePgDeassert false) s = .next (s.after s.u.pwrFailOn) ∧
      exec (.corePgDeassert true) s = .next (s.afterM (Mem.reset, (((s.u.pwrFailOn.cleared false).emit (.pin 1 0 0)).fans).fsblStage))) ∧
    (∀ tj : Int, tj < 95 → exec (.sysReset tj) s =
      .next (s.afterM (Mem.reset, ((((s.u.cleared true).emit (.pin 1 0 0)).emit (.pin 3 0 1)).fans).fsblStage))) ∧
    (∀ tj : Int, 95 ≤ tj → exec (.sysReset tj) s = .next (s.afterM (Mem.reset, (((s.u.cleared false).emit (.pin 1 0 0)).fans).fsblStage))) ∧
    (s.u.pwr.thermtrip = false →
      let u' := ((s.u.cleared false).emit (.pin 3 0 0)).emit (.pin 1 0 0)
      exec .thermtrip s = .next (s.afterM (Mem.reset,
        ((({ u' with pwr := { u'.pwr with thermtrip := true, coreEn := false, corePg := false } } : Units).setFault true).lampEvent Ev.PKG_THERMTRIP))))

/-- Grid partitions change and program slots load, start, halt, resume and unload. GRID_PACE_WRITE by an operator sets a pace of 0 or 500 to 1500 and changes nothing else. GRID_PART_DISABLE drains the partition's running programs, fails its loads and unloads the others; GRID_PART_ENABLE asks for a power start, during a drain once it has ended. GRID_BEAT_WINDOW takes rates, none above the pace. GRID_LOAD of a sound image, placed automatically or by a list the sender gives, takes a slot, and otherwise completes with the refusal of R161 or R162; GRID_LOAD_COMPLETE with a good digest and signature takes and writes the tapers, and otherwise empties the slot. GRID_START, GRID_HALT, GRID_RESUME and GRID_UNLOAD act in the states of Table 7-12, complete with BAD_STATE in another, and wait behind a load or an earlier command; a slot above 63 is BAD_PARAM, a reserved privilege encoding NOT_PRIVILEGED. GRID_HALT_COMPLETE, once no stream channel of the program is busy, and GRID_WATCHDOG_EXPIRY end a halt and a hung program. -/
def Obligations.GridPartitionsAndSlotsAct : Prop :=
  ∀ (s : State) (w : Who) (c : Cmd) (n part : Nat),
    (∀ value,
      (isOperator w.priv = true → bits value 15 0 = 0 ∨ 500 ≤ bits value 15 0 ∧ bits value 15 0 ≤ 1500 →
        exec (.gridPaceWrite w value) s = .next (s.after (s.u.setCfg 0xE00014 (bits value 15 0)))) ∧
      (isOperator w.priv = false ∨ (bits value 15 0 ≠ 0 ∧ bits value 15 0 < 500) ∨ 1500 < bits value 15 0 →
        exec (.gridPaceWrite w value) s = .next (s.after s.u))) ∧
    (isOperator w.priv = true → part < 8 →
      (bitAt s.u.grid.partEn part = true →
        let u0 : Units := { s.u.upG fun g => { g with partEn := clrBit g.partEn part, draining := setBit g.draining part } with
          drains := s.u.drains ++ [{ unit := 0x200 + part, items := ((s.u.slotsIn part).filter fun n => (s.u.slot n).state = 3).length, enableHeld := false }] }
        let u' := (u0.loadsIn part).foldl (fun u n => u.loadFails n) u0
        exec (.gridPartDisable w part) s = .next (s.after ((u'.slotsIn part).foldl (fun u n =>
            if (u.slot n).state = 3 then u.upSlot n fun q => { q with state := 6 }
            else if (u.slot n).state = 4 then u.upSlot n fun q => { q with unloadNext := true }
            else if (u.slot n).state = 2 || (u.slot n).state = 5 || (u.slot n).state = 7 then u.unloadNow n else u) u').usableNow)) ∧
      (bitAt s.u.grid.partEn part = false → s.u.partVacant part = false →
        (bitAt s.u.grid.draining part = false →
          exec (.gridPartEnable w part) s = .next (s.after (s.u.later (.askPower 2 part 0xFF false)))) ∧
        (bitAt s.u.grid.draining part = true →
          exec (.gridPartEnable w part) s = .next (s.after
            { s.u with drains := s.u.drains.map fun x => if x.unit = 0x200 + part then { x with enableHeld := true } else x })))) ∧
    (isOperator w.priv = false →
      exec (.gridPartDisable w part) s = .next (s.after s.u) ∧ exec (.gridPartEnable w part) s = .next (s.after s.u)) ∧
    (∀ rates temps,
      let r := (List.range 8).map fun p =>
        if !(bitAt s.u.grid.partEn p) && !(bitAt s.u.grid.draining p) then 0
        else if s.u.cfg 0xE00014 0 = 0 then rates.getD p 0 else min (s.u.cfg 0xE00014 0) (rates.getD p 0)
      let u' := s.u.upG fun g => { g with tj := (List.range 8).map fun p => (p, temps.getD p 0),
                                          beats := (List.range 8).map fun p => (p, NMap.getD g.beats p 0 + 10 * r.getD p 0) }
      exec (.gridBeatWindow rates temps) s = .next (s.after (u'.setBud { u'.bud with rates := r }).usableNow)) ∧
    (∀ region job off sub comp binds listAddr u' st, stampPriv c.stamp < 4 →
      let k := fieldAt (memGetAt s.mem s.u region off 256) 8 2
      let list := (List.range k).map fun i => leNat (s.mem.bytesAt (listAddr + 2 * i) 2)
      (s.u.loadInto s.mem region off job none sub comp binds .host { code := 0x0501, cmd := some c } = (u', st) →
        exec (.gridLoad c region 0 job off sub comp binds listAddr) s =
          .next (s.after (if st = St.OK then u' else u'.done c 0x0E0 0x0501 st))) ∧
      (s.u.mayAccess Ag.grid listAddr (2 * k) false = true →
        s.u.loadInto s.mem region off job (some list) sub comp binds .host { code := 0x0501, cmd := some c } = (u', st) →
        exec (.gridLoad c region 1 job off sub comp binds listAddr) s =
          .next (s.after (if st = St.OK then u' else u'.done c 0x0E0 0x0501 st))) ∧
      (s.u.mayAccess Ag.grid listAddr (2 * k) false = false →
        exec (.gridLoad c region 1 job off sub comp binds listAddr) s = .next (s.after (s.u.done c 0x0E0 0x0501 St.NOT_PRIVILEGED)))) ∧
    ((s.u.slot n).state = 1 →
      (∀ place, s.u.placeOf (s.u.slot n) = (St.OK, place) →
        let ms := (List.range place.length).map fun i => loadMem s.mem s.u (s.u.slot n) i (place.getD i 0)
        let u1 := (place.zip ms).foldl (fun u x => (u.upLt x.1 fun t => { t with slot := some n }).setTaper x.1 (Taper.start x.2.2 2 x.2.1)) s.u
        exec (.gridLoadComplete n true true) s = .next (s.after
          (((u1.upSlot n fun q => { q with state := 2, place := place, entries := ms.map (·.2) }).slotEnd n St.OK).later (.gridLoaded n St.OK)))) ∧
      (∀ st, st ≠ St.OK → s.u.placeOf (s.u.slot n) = (st, []) →
        exec (.gridLoadComplete n true true) s = .next (s.after
          (((s.u.upSlot n fun q => { q with state := 0, place := [], entries := [] }).slotEnd n st).later (.gridLoaded n st)))) ∧
      (∀ d g, (d && g) = false →
        exec (.gridLoadComplete n d g) s = .next (s.after
          (((s.u.upSlot n fun q => { q with state := 0, place := [], entries := [] }).slotEnd n St.SIGNATURE_INVALID).later
            (.gridLoaded n St.SIGNATURE_INVALID))))) ∧
    (stampPriv c.stamp < 4 → n < 64 →
      let rec_ : Nat → Units := fun code => s.u.slotRecord n 0 [code]
      let cmd : Nat → SlotCmd := fun code => { code := code, cmd := some c }
      let st := (s.u.slot n).state
      ((s.u.slot n).running = none → (s.u.slot n).waiting = [] →
        (st = 2 → exec (.gridStart c n) s = .next (s.after
          ((((rec_ 0x0502).startTapers n).upSlot n fun q => { q with state := 3 }).slotDone n (cmd 0x0502) St.OK))) ∧
        (st = 3 → exec (.gridHalt c n) s = .next (s.after
          (((rec_ 0x0503).haltTapers n).upSlot n fun q => { q with state := 4, running := some (cmd 0x0503) }))) ∧
        (st = 5 → exec (.gridResume c n) s = .next (s.after
          (((rec_ 0x0504).upSlot n fun q => { q with state := 3 }).slotDone n (cmd 0x0504) St.OK))) ∧
        (st = 2 ∨ st = 5 ∨ st = 7 → exec (.gridUnload c n) s = .next (s.after
          (((rec_ 0x0505).unload n).slotDone n (cmd 0x0505) St.OK))) ∧
        (st ≠ 1 → st ≠ 2 → exec (.gridStart c n) s = .next (s.after ((rec_ 0x0502).slotDone n (cmd 0x0502) St.BAD_STATE))) ∧
        (st ≠ 1 → st ≠ 3 → exec (.gridHalt c n) s = .next (s.after ((rec_ 0x0503).slotDone n (cmd 0x0503) St.BAD_STATE))) ∧
        (st ≠ 1 → st ≠ 5 → exec (.gridResume c n) s = .next (s.after ((rec_ 0x0504).slotDone n (cmd 0x0504) St.BAD_STATE))) ∧
        (st ≠ 1 → st ≠ 2 → st ≠ 5 → st ≠ 7 →
          exec (.gridUnload c n) s = .next (s.after ((rec_ 0x0505).slotDone n (cmd 0x0505) St.BAD_STATE)))) ∧
      ((s.u.slot n).running.isSome = true ∨ (s.u.slot n).waiting ≠ [] ∨ st = 1 →
        let behind : Nat → State := fun code => s.after (s.u.upSlot n fun q => { q with waiting := q.waiting ++ [cmd code] })
        exec (.gridStart c n) s = .next (behind 0x0502) ∧ exec (.gridHalt c n) s = .next (behind 0x0503) ∧
          exec (.gridResume c n) s = .next (behind 0x0504) ∧ exec (.gridUnload c n) s = .next (behind 0x0505))) ∧
    (4 ≤ stampPriv c.stamp ∨ 64 ≤ n →
      let no : Nat → State := fun code => s.after (s.u.done c 0x0E0 code (if 4 ≤ stampPriv c.stamp then St.NOT_PRIVILEGED else St.BAD_PARAM))
      exec (.gridStart c n) s = .next (no 0x0502) ∧ exec (.gridHalt c n) s = .next (no 0x0503) ∧
        exec (.gridResume c n) s = .next (no 0x0504) ∧ exec (.gridUnload c n) s = .next (no 0x0505)) ∧
    ((s.u.slot n).state = 4 → s.u.streaming n = false →
      ((s.u.slot n).unloadNext = false →
        exec (.gridHaltComplete n) s = .next (s.after ((s.u.upSlot n fun q => { q with state := 5 }).slotEnd n St.OK))) ∧
      (∀ k, (s.u.slot n).unloadNext = true → (s.u.slot n).running = some k →
        exec (.gridHaltComplete n) s = .next (s.after (((((s.u.upSlot n fun q => { q with running := none }).slotDone n k St.OK).unload n).ownerTold
          (s.u.slot n).owner n).slotNext n)))) ∧
    (∀ l rest, (s.u.slot n).state = 3 → (s.u.slot n).place = l :: rest →
      ((l :: rest).all fun k => (s.u.taper k).wait = some .pop) = false →
      exec (.gridWatchdogExpiry n) s = .next (s.after ((s.u.raise Ev.GRID_PROG_HANG 2 (gridSrc l)
        0 (ll := some (64 + n))).slotFault n 0 0x3F 0)))

/-- Diagnostics, mesh arrivals, stream rows and window accesses act on tapers. GRID_DIAG marks a served taper suspect and keeps the command; of a vacant one it completes BAD_PARAM, of one under diagnosis BUSY_RETRY. GRID_DIAG_COMPLETE with a pass returns the taper to the pool and completes OK; with a failure it retires it, with a failed router after the router is recorded, and completes INTEGRITY_FINGERPRINT. MESH_MESSAGE_ARRIVE puts a current message into the receive queue's next slot when it has room, leaves it in the network when it has none, and drops one of an old generation or whose destination left its program. STREAM_ROW_DONE of a busy channel whose activity the Mantle does not hold (R139) charges the row: a read row copies the lines and a write row of a current region the bytes, through the fingerprint unit when the channel asks for it; a write without access stops the channel with NOT_PRIVILEGED, one under an old generation with STALE_GENERATION, one whose local memory holds a double-bit error with INTEGRITY_CRC, and a region not there stops it too. TAPER_WINDOW_ACCESS reads and writes local memory for an operator; a write while the program runs or halts is discarded and counted, a vacant taper reads 0, and below operator privilege a read gives 0 and a write does nothing. -/
def Obligations.GridDiagnosticsMessagesAndStreamsAct : Prop :=
  ∀ (s : State) (w : Who) (c : Cmd) (l : Nat),
    (stampPriv c.stamp < 4 →
      (l < 512 → (s.u.lt l).column.isSome = true → (s.u.lt l).diagCmd = none →
        exec (.gridDiag c l) s = .next (s.after ((s.u.upLt l fun t => { t with diagCmd := some c }).suspectL l))) ∧
      (512 ≤ l ∨ (s.u.lt l).column = none → exec (.gridDiag c l) s = .next (s.after (s.u.done c 0x0E0 0x0506 St.BAD_PARAM))) ∧
      (l < 512 → (s.u.lt l).column.isSome = true → (s.u.lt l).diagCmd.isSome = true →
        exec (.gridDiag c l) s = .next (s.after (s.u.done c 0x0E0 0x0506 St.BUSY_RETRY)))) ∧
    ((s.u.lt l).diag = true →
      let u1 := s.u.upLt l fun t => { t with diag := false, diagCmd := none }
      let u2 := (u1.upG fun g => { g with routerFail := setBit g.routerFail (l / 64) }).raise Ev.GRID_ROUTER_FAIL 2 (gridSrc l) 0
      let answer := fun (u : Units) st => match (s.u.lt l).diagCmd with | some k => u.done k 0x0E0 0x0506 st | none => u
      exec (.gridDiagComplete l true true) s = .next (s.after (answer ((u1.upLt l fun t =>
        { t with suspect := false, corr := [] }).later (.diagnosed l true)) St.OK)) ∧
      exec (.gridDiagComplete l false true) s = .next (s.after (answer ((u1.retireTaper l).later (.diagnosed l false)) St.INTEGRITY_FINGERPRINT)) ∧
      (∀ pass, exec (.gridDiagComplete l pass false) s = .next (s.after
        (answer ((u2.retireTaper l).later (.diagnosed l false)) St.INTEGRITY_FINGERPRINT)))) ∧
    (∀ src vc x, (s.u.grid.net.find? fun y => y.src = src && y.dst = l && y.vc = vc) = some x →
      let u' := s.u.upG fun g => { g with net := takeNet (fun y => y.src = src && y.dst = l && y.vc = vc) g.net }
      let q := (s.u.taper l).queue vc
      ((s.u.slot x.slot).gen = x.gen → (s.u.lt l).slot = some x.slot → (s.u.slot x.slot).state = 3 ∨ (s.u.slot x.slot).state = 6 →
        (q.used < 32 → exec (.meshMessageArrive src l vc) s = .next (s.after (u'.setTaper l
          (({ s.u.taper l with mem := (s.u.taper l).mem.writeAll (slotAddr vc q.next) x.bytes } : Taper).setQueue vc
            { q with next := (q.next + 1) % 32, ready := q.ready ++ [q.next] })))) ∧
        (32 ≤ q.used → exec (.meshMessageArrive src l vc) s = .next (s.after s.u))) ∧
      ((s.u.slot x.slot).gen ≠ x.gen ∨ (s.u.lt l).slot ≠ some x.slot →
        exec (.meshMessageArrive src l vc) s = .next (s.after
          ((u'.upSlot x.slot fun p => { p with msgDrop := satW 32 (p.msgDrop + 1) }).count 0xE00110)))) ∧
    (∀ chan ecc n, (s.u.lt l).slot = some n → ((s.u.taper l).ch chan).state = 1 → s.u.gate (s.u.slot n).activity 0 = true →
      let t := s.u.taper l
      let ch := t.ch chan
      let d := ch.desc
      let len := fieldAt d 12 4
      let off := fieldAt d 4 8 + ch.rows * fieldAt d 20 4
      let loc := fieldAt d 24 3 + ch.rows * (64 * fieldAt d 28 2)
      let b := (NMap.find t.bind (d.getD 0 0)).getD ((s.u.slot n).bind.getD (d.getD 0 0) (0, 0))
      let u := s.u.spend (s.u.slot n).activity 0 len
      let eat := fun (t : Taper) (x : List Nat) => if ch.fp then t.fingEat (elemsOf (2 ^ t.fingWidth) (len / 2 ^ t.fingWidth) x) else t
      let go := fun (t : Taper) => t.setCh chan
        { ch with rows := ch.rows + 1, state := if ch.rows + 1 = fieldAt d 16 4 then 2 else 1, status := St.OK }
      let stop := fun (t : Taper) st p => t.setCh chan { ch with state := 3, status := st, poison := p }
      (∀ r, NMap.find u.mantle.regions b.1 = some r → (u.phys b.1 off).isSome = true → (u.phys b.1 (off + (len - 1))).isSome = true →
        (d.getD 1 0 = 0 → maskGrants r.mask Ag.grid false = true →
          let lines := (List.range (len / 64)).map fun i => (64 * i, (u.phys b.1 (off + 64 * i)).getD 0)
          let t' := lines.foldl (fun (t : Taper) x =>
            if u.poisoned x.2 64 then t else { t with mem := t.mem.writeAll (loc + x.1) (s.mem.bytesAt x.2 64) }) t
          exec (.streamRowDone l ⟨chan, ecc⟩) s = .next (s.after ((u.count 0xA00128 len).setTaper l
            (if lines.any fun x => u.poisoned x.2 64 then stop t' St.INTEGRITY_CRC true else go (eat t' (Memory.readAll t'.mem loc len)))))) ∧
        (d.getD 1 0 = 1 → maskGrants r.mask Ag.grid true = true → r.gen = b.2 → t.eccAt ecc loc len = 0 →
          let x := Memory.readAll t.mem loc len
          exec (.streamRowDone l ⟨chan, ecc⟩) s = .next (s.afterM (memPutAt s.mem u b.1 off x,
            (u.cureAt b.1 off x.length).setTaper l (go (eat t x))))) ∧
        (d.getD 1 0 = 1 → maskGrants r.mask Ag.grid true = true → r.gen = b.2 → t.eccAt ecc loc len = 2 →
          exec (.streamRowDone l ⟨chan, ecc⟩) s = .next (s.after
            ((u.eccDouble l loc).setTaper l (stop ((u.eccDouble l loc).taper l) St.INTEGRITY_CRC true)))) ∧
        (d.getD 1 0 = 1 → maskGrants r.mask Ag.grid true = true → r.gen ≠ b.2 →
          exec (.streamRowDone l ⟨chan, ecc⟩) s = .next (s.after ((u.count 0xA00110).setTaper l (stop t St.STALE_GENERATION false)))) ∧
        (∀ a, u.phys b.1 off = some a → d.getD 1 0 = 1 → maskGrants r.mask Ag.grid true = false →
          exec (.streamRowDone l ⟨chan, ecc⟩) s = .next (s.after ((u.deny Ag.grid a).setTaper l (stop t St.NOT_PRIVILEGED false))))) ∧
      (NMap.find u.mantle.regions b.1 = none →
        exec (.streamRowDone l ⟨chan, ecc⟩) s = .next (s.after ((u.count 0xA00120).setTaper l
          (if d.getD 1 0 = 0 then stop t St.INTEGRITY_CRC true else stop t St.STALE_GENERATION false))))) ∧
    (∀ off len bytes,
      let a := 0x10000000 + 0x80000 * l + off
      let st := match (s.u.lt l).slot with | some n => (s.u.slot n).state | none => 0
      (isOperator w.priv = true → l < 512 →
        (st ≠ 3 → st ≠ 4 → (s.u.lt l).column.isSome = true → exec (.taperWindowAccess w l off len true bytes) s =
          .next (s.after (s.u.setTaper l { s.u.taper l with mem := (s.u.taper l).mem.writeAll off (bytes.take (0x60000 - off)) }))) ∧
        (∀ n, (s.u.lt l).slot = some n → (s.u.slot n).state = 3 ∨ (s.u.slot n).state = 4 → exec (.taperWindowAccess w l off len true bytes) s =
          .next (s.after (s.u.upSlot n fun q => { q with msgDrop := satW 32 (q.msgDrop + 1) }))) ∧
        (exec (.taperWindowAccess w l off len false bytes) s = .next (s.after (s.u.emit (.data a false
          ((List.range len).map fun i => if (s.u.lt l).column = none ∨ 0x60000 ≤ off + i then 0 else ((s.u.taper l).mem.read (off + i)).toNat)))))) ∧
      (isOperator w.priv = false →
        exec (.taperWindowAccess w l off len true bytes) s = .next (s.after s.u) ∧
        exec (.taperWindowAccess w l off len false bytes) s = .next (s.after (s.u.emit (.data a false (List.replicate len 0))))))

/-- The link commands and timers move a port through its states. LINK_ENABLE of a disabled, down or held port by an operator starts bring-up, during a drain once it has ended; LINK_DISABLE drains an active port and powers another down; LINK_RETRAIN and LINK_FULL_RETRAIN start the two retrains of an active port and bring a down or held one up again; LINK_LANE_RETEST tests isolated lanes; below operator privilege each changes nothing. PMD_TRAIN_DONE, ALIGN_DONE and the state timer move bring-up on, back or down; PARAM_SEND_TIMER sends the port's PARAM; a lane change without agreement starts a fast retrain, a fast retrain ends in ACTIVE with a replay, and the third that fails within 1 s starts a full one; a full retrain ends in ACTIVE or DOWN; LANE_RETEST_END returns the lanes that passed, and with none left isolated widens the port; LINK_DRAIN_TIMEOUT cancels what is queued and powers the port down under a new tag. -/
def Obligations.LinkControlsMoveThePort : Prop :=
  ∀ (s : State) (w : Who) (p : Nat),
    let l := s.u.port p
    (isOperator w.priv = true →
      (s.u.lamp.state ≠ 4 → l.draining = false → bitAt (s.u.linkCtl p) 0 = false → l.state = 0 ∨ l.state = 7 ∨ l.state = 8 →
        exec (.linkEnable w p) s = .next (s.after ((s.u.setCfg (portBase p) (setBit (s.u.linkCtl p) 0)).bringUp p))) ∧
      (s.u.lamp.state ≠ 4 → l.draining = true → exec (.linkEnable w p) s = .next (s.after
        { s.u with drains := s.u.drains.map fun x => if x.unit = 0x100 + p then { x with enableHeld := true } else x })) ∧
      (bitAt (s.u.linkCtl p) 0 = true →
        (l.state = 4 →
          let u' : Units := { (s.u.setCfg (portBase p) (clrBit (s.u.linkCtl p) 0)).setPort p { l with draining := true } with
            drains := s.u.drains ++ [{ unit := 0x100 + p, items := l.txq.length + l.replay.length, enableHeld := false }] }
          exec (.linkDisable w p) s = .next (s.after (if l.txq.isEmpty && !l.replay.isEmpty then u'.sendIdle p else u'))) ∧
        (l.state ≠ 4 → exec (.linkDisable w p) s = .next (s.after ((s.u.setCfg (portBase p) (clrBit (s.u.linkCtl p) 0)).powerDown p)))) ∧
      (l.state = 4 ∨ l.state = 5 → exec (.linkRetrain w p) s = .next (s.after (s.u.startFast p))) ∧
      (l.state = 4 ∨ l.state = 5 ∨ l.state = 6 → exec (.linkFullRetrain w p) s = .next (s.after (s.u.startFull p))) ∧
      (l.state = 7 ∨ l.state = 8 → exec (.linkRetrain w p) s = .next (s.after (s.u.bringUp p)) ∧
        exec (.linkFullRetrain w p) s = .next (s.after (s.u.bringUp p))) ∧
      (l.state = 4 → l.isolated ≠ 0 → exec (.linkLaneRetest w p) s = .next (s.after (s.u.setPort p { l with retest := true })))) ∧
    (isOperator w.priv = false →
      exec (.linkEnable w p) s = .next (s.after s.u) ∧ exec (.linkDisable w p) s = .next (s.after s.u) ∧
      exec (.linkRetrain w p) s = .next (s.after s.u) ∧ exec (.linkFullRetrain w p) s = .next (s.after s.u) ∧
      exec (.linkLaneRetest w p) s = .next (s.after s.u)) ∧
    (l.state = 1 → exec (.pmdTrainDone p) s = .next (s.after (s.u.setPort p { l with state := 2 }))) ∧
    (∀ locked rev, l.state = 2 →
      let iso := l.isolated ||| andNot (s.u.laneAllow p) locked
      let l' := { l with state := 3, isolated := iso, reversed := rev, param := none }
      (∀ m, pickLanes (s.u.laneAllow p) iso = some m →
        (s.u.minLanes p ≤ laneCount m →
          exec (.alignDone p locked rev false) s = .next (s.after
            ((if l.lanes = 0 then s.u.setPort p { l' with map := m, lanes := laneCount m } else (s.u.setPort p l').useMap p m).takeRx p))) ∧
        (laneCount m < s.u.minLanes p →
          exec (.alignDone p locked rev false) s = .next (s.after ((s.u.setPort p { l with isolated := iso }).portDown p)))) ∧
      (pickLanes (s.u.laneAllow p) iso = none →
        exec (.alignDone p locked rev false) s = .next (s.after ((s.u.setPort p { l with isolated := iso }).portDown p))) ∧
      (exec (.alignDone p locked rev true) s = .next (s.after (s.u.holdPort p true)))) ∧
    (l.state = 1 ∨ l.state = 2 ∨ l.state = 3 →
      (l.restarts < 3 → exec (.linkStateTimeout p) s = .next (s.after (s.u.setPort p { l with state := 1, restarts := l.restarts + 1, param := none }))) ∧
      (3 ≤ l.restarts → exec (.linkStateTimeout p) s = .next (s.after (s.u.portDown p)))) ∧
    (l.state = 3 → exec (.paramSendTimer p) s = .next (s.after (s.u.sendFrame p 5 0 0 0xFF [] (s.u.paramBody p)))) ∧
    (l.state = 5 → exec (.laneChangeTimeout p) s = .next (s.after (s.u.startFast p))) ∧
    (l.state = 6 →
      (∀ ack,
        let left := l.replay.drop (ackedBy l.replay ack)
        let u1 := s.u.setPort p { l with state := 4, fastFails := [], replay := left, replays := 0 }
        let u2 := match l.newMap with | some m => u1.useMap p m | none => u1
        exec (.fastRetrainDone p true ack) s = .next (s.after ((u2.resend p left).pump p))) ∧
      (∀ ack,
        let fs := s.u.clk.mono :: l.fastFails.filter fun t => s.u.clk.mono < t + 10 ^ 9
        (fs.length < 3 → exec (.fastRetrainDone p false ack) s = .next (s.after (s.u.setPort p { l with fastFails := fs }))) ∧
        (3 ≤ fs.length → exec (.fastRetrainDone p false ack) s = .next (s.after (s.u.startFull p))))) ∧
    (l.fullRun = true → exec (.fullRetrainDone p true) s = .next (s.after ((s.u.setPort p (l.fresh l.txInit)).fullDone p)) ∧
      exec (.fullRetrainDone p false) s = .next (s.after (s.u.portDown p))) ∧
    (∀ pass, l.retest = true →
      let left := andNot l.isolated pass
      let u' := ((s.u.later (.flickTrig p)).setPort p { l with retest := false, isolated := left }).linkEvent p Ev.LINK_DEGRADED
        (Config.eventPayload Ev.LINK_DEGRADED [l.map, l.map])
      exec (.laneRetestEnd p pass) s = .next (s.after (if left = 0 ∧ l.flows = true then u'.changeLanes p else u'))) ∧
    (l.draining = true →
      let u0 := (s.u.cancelTx p).powerDown p
      let u1 : Units := { u0 with drains := u0.drains.filter fun x => x.unit ≠ 0x100 + p
                                  tags := NMap.set u0.tags (0x100 + p) (wrapW 16 (NMap.getD u0.tags (0x100 + p) 0 + 1)) }
      exec (.linkDrainTimeout p) s = .next (s.after
        (if (s.u.drains.any fun x => x.unit = 0x100 + p && x.enableHeld) then (u1.setCfg (portBase p) (setBit (u1.linkCtl p) 0)).bringUp p else u1)))

/-- Frames are delivered in order, acknowledged, replayed and credited. FRAME_DATA in sequence with credit joins its channel's stream and writes whole messages onward as far as their activities may; without credit it delivers nothing, raises LINK_CREDIT_ERROR and starts a full retrain; beyond the expected sequence it asks for a replay, behind it it is discarded, and on the reserved channel 3 it counts as a bad frame (the model's choice, assumption 159). FRAME_IDLE takes Ack and Credit and shows a gap; FRAME_REPLAY_REQ replays from the requested frame; FRAME_LANE_CHANGE agrees to the narrower map, answers it with one both ends can use, or ends the change; FRAME_BLOCK_CREDIT in sequence raises the peer's accounts at a sconce port, entries of class 3 apart. A first FRAME_PARAM is kept; a second identical one of the right kind, version, CID and lanes makes the port ACTIVE or ends its full retrain, a wrong kind or CID or version 0 holds it, and lanes that fall short take it DOWN. FRAME_BAD is counted and asks for a replay, with its burst events and uncorrected codewords; LINK_REPLAY_TIMEOUT replays or asks again; LANE_SER_WINDOW counts lanes and isolates those over the threshold in three windows; LANTERN_FORWARD writes the message to the front buffer and sends it on with one hop less, collective messages in their group's turn, and drops what has no hop left, no route, or a fenced destination. -/
def Obligations.LinkFramesAreTaken : Prop :=
  (∀ (s : State) (p : Nat) (f : FrameHdr),
    let l := s.u.port p
    let u1 := (s.u.setPort p (l.rxHead f)).pump p
    let u2 := (u1.setPort p { u1.port p with rxSeq := wrapW 14 ((u1.port p).rxSeq + 1), rxGap := false }).count (portBase p + 0x108)
    (l.flows = true → f.seq = (u1.port p).rxSeq →
      let m := u2.port p
      (∀ body, f.vc ≤ 2 →
        let held := wrapW 16 (vcGet m.rxCount f.vc + 2 ^ 16 - vcGet m.rxFreed f.vc)
        (held < vcGet m.rxInit f.vc →
          exec (.frameData p f body) s = .next (s.after (((u2.setPort p { m with
            rxBuf := setNth m.rxBuf f.vc (joinBody (m.rxBuf.getD f.vc []) body f.first),
            rxHeld := setNth m.rxHeld f.vc (m.rxHeld.getD f.vc [] ++ [body.length]),
            rxCount := updNth m.rxCount f.vc fun n => wrapW 16 (n + 1) }).rxTake p f.vc).reply p (u1.port p)))) ∧
        (vcGet m.rxInit f.vc ≤ held → exec (.frameData p f body) s = .next (s.after ((u2.creditError p).reply p (u1.port p))))) ∧
      (∀ entries, p < 16 → exec (.frameBlockCredit p f entries) s = .next (s.after (({ u2 with link := { u2.link with
        peerGranted := entries.foldl (fun t e => if bits e 7 6 = 3 then t else NMap.put t 0 (256 * p + e % 256) (bits e 31 8))
          u2.link.peerGranted } } : Units).reply p (u1.port p))))) ∧
    (∀ body, l.flows = true → f.vc ≤ 2 → f.seq ≠ (u1.port p).rxSeq →
      exec (.frameData p f body) s = .next (s.after (if seqAhead f.seq (u1.port p).rxSeq then u1.askReplay p else u1))) ∧
    (∀ body, l.flows = true → 2 < f.vc → exec (.frameData p f body) s = .next (s.after ((s.u.count (portBase p + 0x110)).askReplay p))) ∧
    (l.flows = true →
      let u := u1.count (portBase p + 0x108)
      exec (.frameIdle p f) s = .next (s.after
        (if f.seq ≠ (u.port p).rxSeq ∧ seqAhead f.seq (u.port p).rxSeq = true then u.askReplay p
         else if (u.port p).draining = true ∧ (u.port p).replay ≠ [] then u.sendIdle p else u))) ∧
    (l.flows = true →
      exec (.frameReplayReq p f) s = .next (s.after (((s.u.setPort p (l.rxHead f)).count (portBase p + 0x108)).replayFrom p f.seq))) ∧
    (∀ map, l.state = 4 ∨ l.state = 5 →
      let u := (s.u.setPort p (l.rxHead f)).count (portBase p + 0x108)
      (l.newMap = none → exec (.frameLaneChange p f map 0) s = .next (s.after (u.answerMap p map))) ∧
      (∀ mine, l.newMap = some mine →
        (laneCount map ≤ laneCount mine → exec (.frameLaneChange p f map 0) s = .next (s.after (u.answerMap p map))) ∧
        (laneCount mine < laneCount map → exec (.frameLaneChange p f map 0) s = .next (s.after (u.propose p mine)))) ∧
      (l.newMap = some map → exec (.frameLaneChange p f map 1) s = .next (s.after (u.endChange p map)))) ∧
    (∀ body, l.state = 3 →
      (l.param ≠ some body →
        exec (.frameParam p f body) s = .next (s.after ((s.u.setPort p { l with param := some body }).count (portBase p + 0x108)))) ∧
      (l.param = some body →
        let l' := { l with peerCid := if p < 16 then 0 else body.getD 2 0, peerKind := body.getD 1 0 }
        let u := (s.u.setPort p l').count (portBase p + 0x108)
        let cid := bits (s.u.cfg (portBase p + 0xC) 0) 23 0
        (body.getD 0 0 = 0 → exec (.frameParam p f body) s = .next (s.after (u.holdPort p false))) ∧
        (body.getD 0 0 ≠ 0 → body.getD 1 0 ≠ (if p < 16 then 1 else 2) ∨ 16 ≤ p ∧ cid ≠ 0 ∧ cid ≠ body.getD 2 0 →
          exec (.frameParam p f body) s = .next (s.after (u.holdPort p true))) ∧
        (body.getD 0 0 ≠ 0 → body.getD 1 0 = (if p < 16 then 1 else 2) → (16 ≤ p → cid = 0 ∨ cid = body.getD 2 0) →
          (pickLanes (s.u.laneAllow p &&& body.getD 3 0xFF) l.isolated = none →
            exec (.frameParam p f body) s = .next (s.after (u.portDown p))) ∧
          (∀ m, pickLanes (s.u.laneAllow p &&& body.getD 3 0xFF) l.isolated = some m →
            let u' := (u.setPort p { l'.fresh [body.getD 4 0, body.getD 5 0, body.getD 6 0] with version := min (body.getD 0 0) 1 }).useMap p m
            let up := (u'.setPort p { u'.port p with state := 4 }).pump p
            (laneCount m < s.u.minLanes p → exec (.frameParam p f body) s = .next (s.after (u.portDown p))) ∧
            (s.u.minLanes p ≤ laneCount m →
              (l.fullRun = true → exec (.frameParam p f body) s = .next (s.after (u'.fullDone p))) ∧
              (l.fullRun = false →
                exec (.frameParam p f body) s = .next (s.after (if p < 16 then up.later (.igtanStart p) else up)))))))) ∧
    (∀ bursts uncorr, l.flows = true ∨ l.state = 3 →
      let c := s.u.count (portBase p + 0x110)
      let a := if l.flows then c.askReplay p else c
      exec (.frameBad p bursts uncorr) s = .next (s.after
        (bursts.foldl (fun u b => u.burst p b) (uncorr.foldl (fun u x => u.count (portBase p + 0x240 + 8 * x.1) x.2) a)))) ∧
    (∀ fr rest, l.flows = true → l.replay = fr :: rest → exec (.linkReplayTimeout p true) s = .next (s.after (s.u.replayFrom p fr.seq))) ∧
    (l.flows = true → l.rxGap = true → exec (.linkReplayTimeout p false) s = .next (s.after (s.u.sendFrame p 2 0 l.rxSeq 0xFF [] []))) ∧
    (∀ errs syms corrected margins, l.flows = true →
      let excess := serExcess (bits (s.u.burstCfg p) 31 24) errs syms
      let run := (List.range 8).foldl (fun m i => NMap.put m 0 i (if Nat.testBit excess i then NMap.getD l.serRun i 0 + 1 else 0)) l.serRun
      let u := (List.range 8).foldl (fun u i => (u.count (portBase p + 0x200 + 8 * i) (corrected.getD i 0)).setCnt
          (portBase p + 0x2A0 + 4 * i) (wrapW 16 (margins.getD i 0))) (s.u.setPort p { l with serRun := run })
      let bad := (List.range 8).foldl (fun a i => if 3 ≤ NMap.getD run i 0 then setBit a i else a) 0
      exec (.laneSerWindow p ⟨errs, syms⟩ corrected margins) s = .next (s.after (if bad = 0 then u else u.isolate p bad)))) ∧
  (∀ (s : State) (h : LHdr) (dst cls kind level : Nat) (bytes : List Nat),
    let p := 16 + h.port
    let len := bytes.length
    (lanternReserved cls = true ∨ 4128 < len →
      exec (.lanternForward h dst cls kind level bytes) s = .next (s.after (s.u.count (portBase p + 0x138)))) ∧
    (lanternReserved cls = false → len ≤ 4128 → s.hearsL h →
      (h.hop = 0 → exec (.lanternForward h dst cls kind level bytes) s = .next (s.after (s.u.hopDrop p))) ∧
      (h.hop ≠ 0 → s.u.routeFenced dst = true → exec (.lanternForward h dst cls kind level bytes) s = .next (s.after (s.u.count fencedDrops))) ∧
      (h.hop ≠ 0 → s.u.routeFenced dst = false →
        (s.u.hop dst = none → exec (.lanternForward h dst cls kind level bytes) s = .next (s.after (s.u.hopDrop p))) ∧
        (∀ q, s.u.hop dst = some q →
          let u := ((s.u.emit (.bus 7 [dst, cls, h.src, h.hop - 1, q])).count (portBase p + 0x128) (16 + len)).count
            (levelBytesAddr (lanternLevel cls level) 1) (16 + len)
          let out := forwardBytes h dst cls bytes
          (cls ≠ 0x20 → cls ≠ 0x21 → exec (.lanternForward h dst cls kind level bytes) s = .next (s.after
            (u.forwardTx h.port q cls out [levelBytesAddr (lanternLevel cls level) 0]))) ∧
          (cls = 0x20 ∨ cls = 0x21 →
            let x := u.collOnward h.port q (LHdr.onward h dst cls len) out
            let v := u.sendCollTx x
            exec (.lanternForward h dst cls kind level bytes) s = .next (s.after
              { v with coll := { v.coll with recent := (v.coll.recent.filter fun r => v.clk.mono ≤ r.time + 10 ^ 7) ++ [x] } }))))))

/-- Reads and writes of the Mantle move exactly the addressed bytes. MANTLE_READ whose activity the budget lets through and that is allowed takes what the read of each line finds and gives the bytes, or poison where a line is poisoned. MANTLE_WRITE let through and allowed that carries the region's generation enters the bytes in the front buffer under that tag and cures whole lines; one with another generation is only counted, and with a stack failed an inbound one is dropped. BAR2_ACCESS does the same for pages of host-visible regions. An access whose activity has a cap of 0 is answered BUDGET_DEFERRED; one whose activity has spent its allowance, or stands behind another that waits, waits. FB_WRITEBACK writes the good lines to DRAM and drops the others. -/
def Obligations.MantleAccessesMoveBytes : Prop :=
  ∀ (s : State) (act agent addr : Nat),
    let go := fun (a : Nat) => (a = 0 ∨ capOf s.u.bud.cap a 0 ≠ 0) ∧ s.u.gate a 0 = true ∧ (s.u.bud.waits.any fun w => w.act = a && w.inst = 0) = false
    let shut := fun (a : Nat) => a ≠ 0 ∧ capOf s.u.bud.cap a 0 = 0
    let held := fun (a : Nat) => (a = 0 ∨ capOf s.u.bud.cap a 0 ≠ 0) ∧ (s.u.gate a 0 = false ∨ (s.u.bud.waits.any fun w => w.act = a && w.inst = 0) = true)
    let no := fun (a : Nat) => s.after (s.u.emit (.bus 10 [a, 0, St.BUDGET_DEFERRED]))
    let wait := fun (x : BudWait) => s.after { s.u with bud := { s.u.bud with waits := s.u.bud.waits ++ [x] } }
    (∀ len ecc,
      let u := s.u.spend act 0 len
      (go act → (u.mantle.page (addr / pageBytes)).state ≠ 2 → u.mayAccess agent addr len false = true →
        let r := eccLines addr len ecc s.mem u
        let v := r.2.count 0xA00128 (s.mem.fromDram addr len)
        exec (.mantleRead ⟨act, agent⟩ addr len ecc) s = .next (s.afterM (r.1,
          if v.poisoned addr len then v.emit (.data addr true []) else v.emit (.data addr false (s.mem.bytesAt addr len))))) ∧
      (shut act → exec (.mantleRead ⟨act, agent⟩ addr len ecc) s = .next (no act)) ∧
      (held act → exec (.mantleRead ⟨act, agent⟩ addr len ecc) s =
        .next (wait { act := act, inst := 0, amount := len, what := .read agent addr len ecc }))) ∧
    (∀ tag key bytes,
      let u := s.u.spend act 0 bytes.length
      (go act → (u.mantle.page (addr / pageBytes)).state ≠ 2 → u.mayAccess agent addr bytes.length true = true →
        (u.mantle.stackFailed = true → agent ≤ 1 → exec (.mantleWrite ⟨act, agent⟩ addr tag key bytes) s = .next (s.after u)) ∧
        (∀ i r, u.mantle.stackFailed = false ∨ 1 < agent → u.regionAt addr = some (i, r) →
          (r.ownerKind = 4 ∨ u.tagFor r key = some tag →
            exec (.mantleWrite ⟨act, agent⟩ addr tag key bytes) s = .next (s.afterM
              (memPut s.mem u addr bytes (some (tag, if r.ownerKind = 3 then r.job * 2 ^ 32 + key else 0)),
               u.setMantle (u.mantle.cure addr bytes.length)))) ∧
          (r.ownerKind ≠ 4 → u.tagFor r key ≠ some tag →
            exec (.mantleWrite ⟨act, agent⟩ addr tag key bytes) s = .next (s.after (u.count 0xA00110))))) ∧
      (shut act → exec (.mantleWrite ⟨act, agent⟩ addr tag key bytes) s = .next (no act)) ∧
      (held act → exec (.mantleWrite ⟨act, agent⟩ addr tag key bytes) s =
        .next (wait { act := act, inst := 0, amount := bytes.length, what := .write agent addr tag key bytes }))) ∧
    (∀ line, exec (.fbWriteback line) s = .next (s.afterM (s.mem.writeBack line s.u.lineOk,
      (s.u.count 0xA00110 ((s.mem.fb.filter fun l => l.line = line).filter fun l => !(s.u.lineOk l)).length).count 0xA00130
        (sumL (((s.mem.fb.filter fun l => l.line = line).filter fun l => s.u.lineOk l).map fun l => l.bytes.length))))) ∧
    (∀ len bytes ecc,
      let ur := (s.u.spend 12 0 len).spend 12 5 len
      let uw := (s.u.spend 12 0 bytes.length).spend 12 7 bytes.length
      (go 12 →
        (ur.mayBar2 addr len false = true →
          let r := eccLines addr len ecc s.mem ur
          let v := r.2.count 0xA00128 (s.mem.fromDram addr len)
          exec (.bar2Access false addr len ⟨bytes, ecc⟩) s = .next (s.afterM (r.1,
            if v.poisoned addr len then v.emit (.data addr true (List.replicate len 255))
            else v.emit (.data addr false (s.mem.bytesAt addr len))))) ∧
        (ur.mayBar2 addr len false = false →
          exec (.bar2Access false addr len ⟨bytes, ecc⟩) s =
            .next (s.after ((ur.deny Ag.pcie addr).emit (.data addr false (List.replicate len 255))))) ∧
        (uw.mayBar2 addr bytes.length true = true →
          exec (.bar2Access true addr len ⟨bytes, ecc⟩) s =
            .next (s.afterM (memPut s.mem uw addr bytes, uw.setMantle (uw.mantle.cure addr bytes.length))))) ∧
      (∀ wr, (shut 12 → exec (.bar2Access wr addr len ⟨bytes, ecc⟩) s = .next (no 12)) ∧
        (held 12 → exec (.bar2Access wr addr len ⟨bytes, ecc⟩) s = .next (wait
          { act := 12, inst := 0, amount := if wr then bytes.length else len, what := .bar2 wr addr len bytes ecc }))))

/-- Pages and regions are allocated, freed, zeroed, scrubbed and reported. MANTLE_REGION_ALLOCATE that fits answers OK with the index, never host-visible; one that does not answers MANTLE_FULL, but for one of a recovery that pages on their way can serve, which waits after the trace region has shrunk. MANTLE_QUIET_EXPIRY ends a page's quiet interval and PAGE_ZERO_DONE zeroes it, charges the zeroing and returns the page to the pool, the recoveries that wait first. PATROL_SCRUB reads the next line when its activity may, and else waits. STACK_UNRESPONSIVE fails the stack; FREE_PAGE_REPORT reports; MANTLE_ECC_CLR by an operator clears the error address. MANTLE_FREE and MANTLE_SET_ACCESS act on a general region and complete OK; of no general region, or with a mask of 2^20 or more, they complete BAD_PARAM (the model's choice where no region has the index); below operator privilege NOT_PRIVILEGED. -/
def Obligations.MantlePagesAndRegionsAct : Prop :=
  ∀ (s : State) (w : Who) (c : Cmd),
    (∀ r bytes,
      let q := { r with hostVisible := false }
      (∀ u' i, s.u.allocRegion q bytes = (u', some i) → ∀ rec_,
        exec (.mantleRegionAllocate r bytes rec_) s = .next (s.after (u'.emit (.bus 8 [St.OK, i])))) ∧
      ((s.u.allocRegion q bytes).2 = none →
        exec (.mantleRegionAllocate r bytes false) s = .next (s.after (s.u.emit (.bus 8 [St.MANTLE_FULL, 0]))) ∧
        (let ahead := sumL (s.u.mantle.waits.map (·.pages))
         let u' := s.u.reclaimTrace (pagesFor bytes - (s.u.mantle.freeCount - ahead))
         (ahead + pagesFor bytes ≤ s.u.mantle.freeCount + s.u.mantle.coming + s.u.mantle.traceSpare →
           exec (.mantleRegionAllocate r bytes true) s = .next (s.after (u'.setMantle
             { u'.mantle with waits := u'.mantle.waits ++ [{ region := q, pages := pagesFor bytes, why := 0 }] }))) ∧
         (s.u.mantle.freeCount + s.u.mantle.coming + s.u.mantle.traceSpare < ahead + pagesFor bytes →
           exec (.mantleRegionAllocate r bytes true) s = .next (s.after (s.u.emit (.bus 8 [St.MANTLE_FULL, 0]))))))) ∧
    (∀ k, (s.u.mantle.page k).state = 2 →
      exec (.mantleQuietExpiry k) s = .next (s.after (s.u.setMantle (s.u.mantle.setPage k { s.u.mantle.page k with state := 0, zeroed := false })))) ∧
    (∀ k, (s.u.mantle.page k).state = 0 → (s.u.mantle.page k).zeroed = false →
      let u := (s.u.spend (s.u.mantle.page k).act 0 pageBytes).count 0xA00130 pageBytes
      exec (.pageZeroDone k) s = .next (s.afterM
        ({ dram := s.mem.dram.clear (k * pageBytes) pageBytes, fb := s.mem.fb.filter fun l => 64 * l.line / pageBytes ≠ k },
         (u.setMantle (((s.u.mantle.fadePage (s.u.mantle.page k).region k).setPage k
           { s.u.mantle.page k with zeroed := true, region := 0 }).cure (k * pageBytes) pageBytes)).serveWait))) ∧
    (∀ ecc,
      let next := if s.u.mantle.scrubAt + 1 < s.u.mantle.total * (pageBytes / 64) then s.u.mantle.scrubAt + 1 else 0
      (capOf s.u.bud.cap 3 0 ≠ 0 →
        (s.u.gate 3 0 = true → (s.u.bud.waits.any fun x => x.act = 3 && x.inst = 0) = false →
          exec (.patrolScrub ecc) s = .next (s.afterM (eccFound s.mem (((s.u.spend 3 0 64).count 0xA00128 64).setMantle
            { s.u.mantle with scrubAt := next, scrubActive := decide (next ≠ 0) }) s.u.mantle.scrubAt ecc))) ∧
        (s.u.gate 3 0 = false ∨ (s.u.bud.waits.any fun x => x.act = 3 && x.inst = 0) = true →
          exec (.patrolScrub ecc) s = .next (s.after { s.u with bud := { s.u.bud with
            waits := s.u.bud.waits ++ [{ act := 3, inst := 0, amount := 64, what := .scrub ecc }] } }))) ∧
      (capOf s.u.bud.cap 3 0 = 0 → exec (.patrolScrub ecc) s = .next (s.after (s.u.emit (.bus 10 [3, 0, St.BUDGET_DEFERRED]))))) ∧
    (∀ stack,
      (s.u.mantle.stackFailed = false →
        let u' := ((s.u.setMantle { s.u.mantle with stackFailed := true, failedStacks := setBit s.u.mantle.failedStacks stack }).later
          (.outcome 2 stack)).raise Ev.MANTLE_STACK_FAIL 2 0xA0 stack
        exec (.stackUnresponsive stack) s = .next (s.after
          ((u'.report u'.role.wardenId 2 11 [u'.self, u'.clk.sec * 2 ^ 30 + u'.clk.ns]).emit (.bus 9 [0])))) ∧
      (s.u.mantle.stackFailed = true → exec (.stackUnresponsive stack) s = .next (s.after s.u))) ∧
    exec .freePageReport s = .next (s.after (s.u.report s.u.role.wardenId 0 4 [s.u.mantle.freeCount])) ∧
    (∀ value,
      (isOperator w.priv = true → bitAt value 0 = true →
        exec (.mantleEccClr w value) s = .next (s.after (s.u.setMantle { s.u.mantle with eccAddr := 0 }))) ∧
      (isOperator w.priv = false ∨ bitAt value 0 = false → exec (.mantleEccClr w value) s = .next (s.after s.u))) ∧
    (∀ i mask hv,
      (isOperator (stampPriv c.stamp) = true →
        (∀ r, NMap.find s.u.mantle.regions i = some r → r.typ = 8 →
          exec (.mantleFree c i) s = .next (s.after ((s.u.freeRegion i).done c 0xA0 0x0402 St.OK)) ∧
          (mask < 2 ^ 20 → exec (.mantleSetAccess c i mask hv) s = .next (s.after ((s.u.setMantle
            { s.u.mantle with regions := NMap.set s.u.mantle.regions i { r with mask := mask, hostVisible := hv } }).done c 0xA0 0x0403 St.OK)))) ∧
        ((∀ r, NMap.find s.u.mantle.regions i = some r → r.typ ≠ 8) →
          exec (.mantleFree c i) s = .next (s.after (s.u.done c 0xA0 0x0402 St.BAD_PARAM)) ∧
          exec (.mantleSetAccess c i mask hv) s = .next (s.after (s.u.done c 0xA0 0x0403 St.BAD_PARAM))) ∧
        (2 ^ 20 ≤ mask → exec (.mantleSetAccess c i mask hv) s = .next (s.after (s.u.done c 0xA0 0x0403 St.BAD_PARAM)))) ∧
      (isOperator (stampPriv c.stamp) = false →
        exec (.mantleFree c i) s = .next (s.after (s.u.done c 0xA0 0x0402 St.NOT_PRIVILEGED)) ∧
        exec (.mantleSetAccess c i mask hv) s = .next (s.after (s.u.done c 0xA0 0x0403 St.NOT_PRIVILEGED))))

/-- A refused access changes no byte, a front buffer write is read back, and byte stores stay canonical. A read or write by an agent class whose access mask bit is clear, once the budget lets it through, and any access to a quiet page is only charged, counted and recorded, and answered with poison or, on BAR2, all ones; where that raises nothing on other units, the Mantle is the same as before, byte for byte. After a byte is entered into the front buffer under any region, tag and context, its address reads as that byte and every other address reads as before; and writing the buffer's lines of one number back, all of them good and canonical, changes what no address reads. A byte written to a canonical store reads back, every other address reads as before, and the store stays canonical; two canonical stores that read the same at every address are the same list. -/
def Obligations.RefusedMantleAccessesLeaveMemory : Prop :=
  (∀ (s : State) (act agent addr tag key len : Nat) (bytes ecc : List Nat),
    let go := fun (a : Nat) => (a = 0 ∨ capOf s.u.bud.cap a 0 ≠ 0) ∧ s.u.gate a 0 = true ∧ (s.u.bud.waits.any fun w => w.act = a && w.inst = 0) = false
    let same := fun (u : Units) (o : Host.Outcome State Fault Refusal) =>
      o = .next (s.after u) ∧ (u.todo = [] → s.staged → s.after u = { s with u := u })
    let uw := s.u.spend act 0 bytes.length
    let ur := s.u.spend act 0 len
    let bw := (s.u.spend 12 0 bytes.length).spend 12 7 bytes.length
    let br := (s.u.spend 12 0 len).spend 12 5 len
    (go act →
      ((s.u.mantle.page (addr / pageBytes)).state ≠ 2 →
        (uw.mayAccess agent addr bytes.length true = false →
          same (uw.deny agent addr) (exec (.mantleWrite ⟨act, agent⟩ addr tag key bytes) s)) ∧
        (ur.mayAccess agent addr len false = false →
          same ((ur.deny agent addr).emit (.data addr true [])) (exec (.mantleRead ⟨act, agent⟩ addr len ecc) s))) ∧
      ((s.u.mantle.page (addr / pageBytes)).state = 2 →
        same (uw.count 0xA00120) (exec (.mantleWrite ⟨act, agent⟩ addr tag key bytes) s) ∧
        same ((ur.count 0xA00120).emit (.data addr true [])) (exec (.mantleRead ⟨act, agent⟩ addr len ecc) s))) ∧
    (go 12 →
      (bw.mayBar2 addr bytes.length true = false → same (bw.deny Ag.pcie addr) (exec (.bar2Access true addr len ⟨bytes, ecc⟩) s)) ∧
      (br.mayBar2 addr len false = false → same ((br.deny Ag.pcie addr).emit (.data addr false (List.replicate len 255)))
        (exec (.bar2Access false addr len ⟨bytes, ecc⟩) s)))) ∧
  ((∀ (m : Mem) (region tag key a b v : Nat),
      (m.putByte region tag key a v).byte a = v % 256 ∧ (b ≠ a → (m.putByte region tag key a v).byte b = m.byte b)) ∧
    (∀ (m : Mem) (line : Nat), m.wf = true → ∀ a, (m.writeBack line fun _ => true).byte a = m.byte a)) ∧
  ((∀ (m : Memory) (k a : Nat) (v : Byte), m.wf = true → (m.write k v).wf = true ∧ (m.write k v).read a = if a = k then v else m.read a) ∧
    (∀ m n : Memory, m.wf = true → n.wf = true → (∀ a, m.read a = n.read a) → m = n))

/-- The commands of the sconce protocol acknowledge, resend, forward, bring up and access. A message that the port takes has its effect, one that it does not is dropped and counted as R61, R64 and R302 say. An APPLY_ACK of OK for the newest release, or a later one, ends its resends, one of an older release only raises the context's apply step, and one that is not OK makes the missing releases be sent again in step order. APPLY_ACK_WAIT_EXPIRY sends the same APPLY_GO again, three times at the most, and then makes the accelerator suspect. RESERVED_CLASS_MESSAGE is counted with IGTAN_MSG_UNKNOWN. A MGMT_FRAME that is authentic and fresh moves its key's sequence on, and its message, if for this T3, has the effect of its own command; one for another goes on with its hop limit reduced, and one that is not authentic, or of hop limit 0, is dropped. IGTAN_BRINGUP of a port that is not active starts R61, or waits for the link. IGTAN_REG reads or writes through REG_ACCESS. Each of the two is refused as R84 says. -/
def Obligations.IgtanCommandsAct : Prop :=
  (∀ (s : State) (h : SHdr) (step status : Nat),
    (∀ o, s.u.dropS h 0x0C = none → ((s.u.ig h.port).gos.find? fun x => x.ctx = h.ctx) = some o →
      let at_ := NMap.getD (s.u.ig h.port).applyStep h.ctx 0
      let v := s.u.upIg h.port fun g => { g with applyStep := NMap.put g.applyStep 0 h.ctx (max (NMap.getD g.applyStep h.ctx 0) step) }
      (status = St.OK → o.step ≤ step → exec (.applyAck h step status) s =
        .next (s.after ((v.upIg h.port fun g => { g with gos := g.gos.filter fun x => x.ctx ≠ h.ctx }).ctlAgain h.port h.ctx))) ∧
      (status = St.OK → step < o.step → exec (.applyAck h step status) s = .next (s.after v)) ∧
      (status ≠ St.OK → exec (.applyAck h step status) s = .next (s.after
        ((List.range (o.step - at_)).foldl (fun u i => u.igSend h.port 0x0B h.ctx 16 [at_ + 1 + i]) s.u)))) ∧
    (s.u.dropS h 0x0C = none → ((s.u.ig h.port).gos.find? fun x => x.ctx = h.ctx) = none → exec (.applyAck h step status) s = .next (s.after s.u)) ∧
    (∀ u, s.u.dropS h 0x0C = some u → exec (.applyAck h step status) s = .next (s.after u)) ∧
    (∀ cls u, s.u.dropS h cls = some u ↔
      (s.u.ig h.port).active = false ∧ ¬((cls = 0x0A ∨ cls = 0x15) ∧ (h.ver = 1 ∨ h.ver = 2)) ∧ u = s.u ∨
      (s.u.ig h.port).active = true ∧ (
        h.ver ≠ (s.u.ig h.port).proto ∧ u = s.u.count (portBase h.port + 0x138) ∨
        h.ver = (s.u.ig h.port).proto ∧ (
          (h.accGen ≠ s.u.accGen h.port ∨ h.ctx ≠ 0xFF ∧ h.ctxGen ≠ s.u.ctxGen h.port h.ctx) ∧ u = s.u.count (portBase h.port + 0x130) ∨
          h.accGen = s.u.accGen h.port ∧ (h.ctx = 0xFF ∨ h.ctxGen = s.u.ctxGen h.port h.ctx) ∧
            s.u.fenced h.port = true ∧ fenceIn cls = false ∧ u = s.u.count 0x780120)))) ∧
  (∀ (s : State) (p ctx : Nat),
    (∀ o, ((s.u.ig p).gos.find? fun x => x.ctx = ctx) = some o →
      let again := s.u.upIg p fun g => { g with gos := g.gos.map fun x => if x.ctx = ctx then { x with resends := x.resends + 1 } else x }
      (o.resends < 3 →
        (again.mayS p 0x0B = true → exec (.applyAckWaitExpiry p ctx) s = .next (s.after (again.sendS p 0x0B o.ctx 0 o.seq 16 [o.step]))) ∧
        (again.mayS p 0x0B = false → exec (.applyAckWaitExpiry p ctx) s = .next (s.after again))) ∧
      (3 ≤ o.resends → exec (.applyAckWaitExpiry p ctx) s = .next (s.after (((s.u.upIg p fun g =>
        { g with gos := g.gos.filter fun x => x.ctx ≠ ctx }).raise Ev.APPLY_ACK_TIMEOUT 1 (portUnit p) 0).later (.suspect p 1))))) ∧
    (((s.u.ig p).gos.find? fun x => x.ctx = ctx) = none → exec (.applyAckWaitExpiry p ctx) s = .next (s.after s.u)) ∧
    (∀ cls len gen, exec (.reservedClassMessage p cls len gen) s =
      .next (s.after ((s.u.count (portBase p + 0x138)).raise Ev.IGTAN_MSG_UNKNOWN 1 (portUnit p) 0)))) ∧
  (∀ (s : State) (h : SHdr) (link index seq hop dst src : Nat) (inner : LHdr) (cls len : Nat) (plain : Option (List Nat)),
    let f := Instr.mgmtFrame h link index seq hop dst src ⟨inner, cls, len⟩ plain
    (1008 < len → exec f s = .next (s.after (s.u.msgUnknown h.port))) ∧
    (len ≤ 1008 → s.u.dropS h 0x15 = none →
      (∀ k k' pay, NMap.find s.u.role.keys link = some k → plain = some pay →
        index = k.index ∧ k.rxSeq < seq ∧ k' = { k with rxSeq := seq, used := true } ∨
          index ≠ k.index ∧ k.old.isNone = false ∧ k.rxOld < seq ∧ k' = { k with rxOld := seq } →
        let v : Units := { s.u with role := { s.u.role with keys := NMap.set s.u.role.keys link k' } }
        (hop = 0 → exec f s = .next (s.after (v.count mgmtDrops))) ∧
        (hop ≠ 0 → dst = v.self → exec f s = .next (s.after (v.later (.message inner cls pay)))) ∧
        (hop ≠ 0 → dst ≠ v.self → v.routeFenced dst = true → exec f s = .next (s.after (v.count fencedDrops))) ∧
        (hop ≠ 0 → dst ≠ v.self → v.routeFenced dst = false → v.staleTarget dst = true →
          exec f s = .next (s.after (v.count (portBase h.port + 0x130)))) ∧
        (hop ≠ 0 → dst ≠ v.self → v.routeFenced dst = false → v.staleTarget dst = false →
          exec f s = .next (s.after (v.mgmtOn h.port (hop - 1) dst src inner cls len pay)))) ∧
      (NMap.find s.u.role.keys link = none ∨ plain = none ∨ (∃ k, NMap.find s.u.role.keys link = some k ∧
          (index = k.index ∧ seq ≤ k.rxSeq ∨ index ≠ k.index ∧ (k.old.isNone = true ∨ seq ≤ k.rxOld))) →
        exec f s = .next (s.after ((s.u.count mgmtDrops).raise Ev.MGMT_AUTH_FAIL 2 0x000 link)))) ∧
    (∀ u, len ≤ 1008 → s.u.dropS h 0x15 = some u → exec f s = .next (s.after u))) ∧
  (∀ (s : State) (c : Cmd) (p : Nat),
    (let cmd := (c.ring, c.tag, c.stamp, c.gen)
     let v := s.u.upIg p fun g => { g with cmd := g.cmd ++ [cmd] }
     (isOperator (stampPriv c.stamp) = false →
       exec (.igtanBringup c p) s = .next (s.after (s.u.done c 0x078 0x0707 St.NOT_PRIVILEGED))) ∧
     (isOperator (stampPriv c.stamp) = true →
       (16 ≤ p → exec (.igtanBringup c p) s = .next (s.after (s.u.done c 0x078 0x0707 St.BAD_PARAM))) ∧
       (p < 16 → (s.u.ig p).active = true ∨ bitAt s.u.vig.lost p = true →
         exec (.igtanBringup c p) s = .next (s.after (s.u.done c 0x078 0x0707 St.BAD_STATE))) ∧
       (p < 16 → (s.u.ig p).active = false → bitAt s.u.vig.lost p = false →
         ((v.port p).state = 4 → exec (.igtanBringup c p) s = .next (s.after (v.startUp p))) ∧
         ((v.port p).state ≠ 4 → exec (.igtanBringup c p) s = .next (s.after v))))) ∧
    (∀ off write count addr,
      let may := isOperator (stampPriv c.stamp) = true ∨ s.u.ownAct c p off count write = true
      let ends := fun st => exec (.igtanReg c p off write count addr) s = .next (s.after (s.u.done c 0x078 0x0708 st))
      (¬may → ends St.NOT_PRIVILEGED) ∧
      (may → p ≥ 16 ∨ count = 0 ∨ 16 < count → ends St.BAD_PARAM) ∧
      (may → p < 16 → 1 ≤ count → count ≤ 16 →
        (s.u.mayAccess Ag.sconce addr (4 * count) (!write) = false → ends St.NOT_PRIVILEGED) ∧
        (s.u.mayAccess Ag.sconce addr (4 * count) (!write) = true →
          (write = true → (∃ i < count, ownOffset (off + 4 * i) = true) ∨ s.u.fenced p = true → ends St.BAD_STATE) ∧
          (write = false ∨ (∀ i < count, ownOffset (off + 4 * i) = false) ∧ s.u.fenced p = false →
            ((s.u.port p).state ≠ 4 → ends St.BUSY_RETRY) ∧
            ((s.u.port p).state = 4 →
              (write = false → exec (.igtanReg c p off write count addr) s =
                .next (s.after (s.u.regAccess p off false count [] (.host c.ring c.tag c.stamp c.gen addr)))) ∧
              (write = true → exec (.igtanReg c p off write count addr) s = .next (s.after (s.u.regAccess p off true count
                ((List.range count).map fun i => leNat (s.mem.bytesAt (addr + 4 * i) 4)) (.host c.ring c.tag c.stamp c.gen addr))))))))))

/-- The scalar integer instructions and divisions write their 64-bit result and their flag, and nothing else. ADD, SUB, MUL, MULHS, MULHU, AND, OR, XOR, SHL, SHRL, SHRA, SLT and SLTU, when due and legal, retire with gD holding the 64-bit result (g0 stays 0), and leave every other register, flag and byte of the taper as it was; only the program counter and the retirement and beat counts move. DIVS, DIVU, REMS and REMU, when due and legal, retire with the quotient or remainder in gD; a zero divisor gives all ones, or the dividend as the remainder, and raises ARITH_STATUS.DZ; nothing else of the taper changes. ADDI, ANDI, ORI, XORI, SHLI, SHRLI, SHRAI and MOVHI, when due and legal, retire with gD holding the result of gA and the sign-extended immediate; MOVI retires with gD holding the sign-extended immediate; nothing else of the taper changes. -/
def Obligations.ScalarInstructionsCompute : Prop :=
  (∀ con op fn, ScalarOp con op fn → ∀ (s : State) (l n : Nat) (f : RFmt), s.issues l n (encR 1 op f) →
    (s.u.taper l).illegalR f { d := .any, a := .any, b := .any } = none →
    exec (con l f) s = .next (s.retires l n ((s.u.taper l).setX f.d (fn ((s.u.taper l).x f.a) ((s.u.taper l).x f.b))))) ∧
  (∀ con op fn, DivisionOp con op fn → ∀ (s : State) (l n : Nat) (f : RFmt), s.issues l n (encR 1 op f) →
    (s.u.taper l).illegalR f { d := .any, a := .any, b := .any } = none →
    exec (con l f) s = .next (s.retires l n
      (((s.u.taper l).setX f.d (fn ((s.u.taper l).x f.a) ((s.u.taper l).x f.b))).raise (if (s.u.taper l).x f.b = 0 then flDZ else 0)))) ∧
  (∀ (s : State) (l n : Nat) (f : IFmt),
    (∀ con op fn, ImmediateOp con op fn → s.issues l n (encI 1 op f) → illegalI f .any .any .none = none →
      exec (con l f) s = .next (s.retires l n ((s.u.taper l).setX f.d (fn ((s.u.taper l).x f.a) (immX f))))) ∧
    (s.issues l n (encI 1 0x27 f) → illegalI f .any .none .none = none →
      exec (.opMOVI l f) s = .next (s.retires l n ((s.u.taper l).setX f.d (immX f)))))

/-- The scalar loads read aligned bytes of a readable area into gD. LD8U, LD16U, LD32U, LD64, LD8S, LD16S and LD32S at a naturally aligned address of an area that R225 lets a load read put the little-endian value, zero- or sign-extended, into gD; a corrected memory error is counted and the load completes all the same; a double-bit error makes the taper take a memory fault of detail 3. -/
def Obligations.ScalarLoadsRead : Prop :=
  ∀ con op k signed, LoadOp con op k signed → ∀ (s : State) (l n ecc : Nat) (f : IFmt), s.issues l n (encI 3 op f) →
    illegalI f .any .any .none = none → (s.u.taper l).addr f % k = 0 → loadArea ((s.u.taper l).addr f) k = true →
    let x := leNat (Memory.readAll (s.u.taper l).mem ((s.u.taper l).addr f) k)
    let t := (s.u.taper l).setG f.d (if signed then ofSigned 64 (toSigned (8 * k) x) else x)
    let found := (s.u.taper l).eccAt ecc ((s.u.taper l).addr f) k
    (found = 0 → exec (con l f ecc) s = .next (s.retires l n t)) ∧
    (found = 1 → exec (con l f ecc) s = .next (s.after (((s.open l).eccFixed l).retire l n t none))) ∧
    (found = 2 → exec (con l f ecc) s =
      .next (s.after (((s.open l).eccDouble l ((s.u.taper l).addr f)).takeFault l n (encI 3 op f) 2 3 0xFF ((s.u.taper l).addr f))))

/-- Stores write their bytes at gA + imm and no other byte, and wide accesses move whole registers. ST8, ST16, ST32 and ST64 at a naturally aligned address of an area that R225 lets a store write put the low 1, 2, 4 or 8 bytes of gB there, little-endian; the taper is otherwise unchanged, so every byte outside the stored ones reads as before. VLD, TLD and PLD put the 64, 64 or 8 bytes at an aligned, readable gA + imm into vD, tD or pD, with a corrected error counted and a double-bit error faulting as for the scalar loads; VST, TST and PST put the register's bytes at an aligned, writable gA + imm; nothing else of the taper changes. -/
def Obligations.StoresAndWideAccessesMove : Prop :=
  (∀ con op k, StoreOp con op k → ∀ (s : State) (l n : Nat) (f : IFmt), s.issues l n (encI 3 op f) →
    illegalI f .none .any .any = none → (s.u.taper l).addr f % k = 0 → storeArea ((s.u.taper l).addr f) k = true →
    let t : Taper := { s.u.taper l with mem := (s.u.taper l).mem.writeAll ((s.u.taper l).addr f) (leBytes k ((s.u.taper l).gr f.b)) }
    exec (con l f) s = .next (s.retires l n t) ∧
    ∀ a, a < (s.u.taper l).addr f ∨ (s.u.taper l).addr f + k ≤ a → Memory.read t.mem a = Memory.read (s.u.taper l).mem a) ∧
  (∀ (s : State) (l n ecc : Nat) (f : IFmt),
    (let a := (s.u.taper l).addr f
     let t := s.u.taper l
     let found := t.eccAt ecc a
     (a % 64 = 0 → loadArea a 64 = true →
        (s.issues l n (encI 5 0 f) → illegalI f .any .any .none = none → found 64 = 0 →
          exec (.opVLD l f ecc) s = .next (s.retires l n (t.setV f.d (leNat (Memory.readAll t.mem a 64))))) ∧
        (s.issues l n (encI 5 2 f) → illegalI f (.file 8) .any .none = none → found 64 = 0 →
          exec (.opTLD l f ecc) s = .next (s.retires l n (t.setT f.d (leNat (Memory.readAll t.mem a 64)))))) ∧
     (a % 64 = 0 → storeArea a 64 = true →
        (s.issues l n (encI 5 1 f) → illegalI f .none .any .any = none →
          exec (.opVST l f) s = .next (s.retires l n { t with mem := t.mem.writeAll a (leBytes 64 (t.vr f.b)) })) ∧
        (s.issues l n (encI 5 3 f) → illegalI f .none .any (.file 8) = none →
          exec (.opTST l f) s = .next (s.retires l n { t with mem := t.mem.writeAll a (leBytes 64 (t.tr f.b)) }))) ∧
     (a % 64 = 0 → loadArea a 64 = true →
        let bad := (s.open l).eccDouble l a
        (s.issues l n (encI 5 0 f) → illegalI f .any .any .none = none →
          (found 64 = 1 → exec (.opVLD l f ecc) s = .next (s.after (((s.open l).eccFixed l).retire l n (t.setV f.d (leNat (Memory.readAll t.mem a 64))) none))) ∧
          (found 64 = 2 → exec (.opVLD l f ecc) s = .next (s.after (bad.takeFault l n (encI 5 0 f) 2 3 0xFF a)))) ∧
        (s.issues l n (encI 5 2 f) → illegalI f (.file 8) .any .none = none →
          (found 64 = 1 → exec (.opTLD l f ecc) s = .next (s.after (((s.open l).eccFixed l).retire l n (t.setT f.d (leNat (Memory.readAll t.mem a 64))) none))) ∧
          (found 64 = 2 → exec (.opTLD l f ecc) s = .next (s.after (bad.takeFault l n (encI 5 2 f) 2 3 0xFF a))))) ∧
     (s.issues l n (encI 5 4 f) → illegalI f (.file 8) .any .none = none → a % 8 = 0 → loadArea a 8 = true →
        (found 8 = 1 → exec (.opPLD l f ecc) s = .next (s.after (((s.open l).eccFixed l).retire l n (t.setP f.d (leNat (Memory.readAll t.mem a 8))) none))) ∧
        (found 8 = 2 → exec (.opPLD l f ecc) s = .next (s.after (((s.open l).eccDouble l a).takeFault l n (encI 5 4 f) 2 3 0xFF a))) ∧
        (found 8 = 0 → exec (.opPLD l f ecc) s = .next (s.retires l n (t.setP f.d (leNat (Memory.readAll t.mem a 8)))))) ∧
     (s.issues l n (encI 5 5 f) → illegalI f .none .any (.file 8) = none → a % 8 = 0 → storeArea a 8 = true →
        exec (.opPST l f) s = .next (s.retires l n { t with mem := t.mem.writeAll a (leBytes 8 (t.pr f.b)) }))))

/-- A scalar access that is not aligned, or outside the allowed areas, takes a memory fault. A legal scalar load or store whose address is not naturally aligned takes a memory fault of detail 0, and one whose aligned address lies outside the areas of R225 one of detail 1, at that address and before any memory is read or written. -/
def Obligations.MisplacedAccessesFault : Prop :=
  ∀ (s : State) (l n ecc : Nat) (f : IFmt),
    (∀ con op k signed, LoadOp con op k signed → s.issues l n (encI 3 op f) → illegalI f .any .any .none = none →
      ((s.u.taper l).addr f % k ≠ 0 →
        exec (con l f ecc) s = .next (s.after ((s.open l).takeFault l n (encI 3 op f) 2 0 0xFF ((s.u.taper l).addr f)))) ∧
      ((s.u.taper l).addr f % k = 0 → loadArea ((s.u.taper l).addr f) k = false →
        exec (con l f ecc) s = .next (s.after ((s.open l).takeFault l n (encI 3 op f) 2 1 0xFF ((s.u.taper l).addr f))))) ∧
    (∀ con op k, StoreOp con op k → s.issues l n (encI 3 op f) → illegalI f .none .any .any = none →
      ((s.u.taper l).addr f % k ≠ 0 →
        exec (con l f) s = .next (s.after ((s.open l).takeFault l n (encI 3 op f) 2 0 0xFF ((s.u.taper l).addr f)))) ∧
      ((s.u.taper l).addr f % k = 0 → storeArea ((s.u.taper l).addr f) k = false →
        exec (con l f) s = .next (s.after ((s.open l).takeFault l n (encI 3 op f) 2 1 0xFF ((s.u.taper l).addr f)))))

/-- Branches and jumps go to their target, or on. BEQ, BNE, BLT, BGE, BLTU, BGEU, BPANY and BPNONE retire to PC + imm when their condition holds and that target is a multiple of 8 in the code area, and to the next instruction when it does not hold, and change no register; JAL and JALR write PC + 8 to gD and go to PC + imm, or gA + imm with gA as it was before. -/
def Obligations.BranchesAndJumpsMove : Prop :=
  ∀ (s : State) (l n : Nat) (f : IFmt),
    (∀ con op fn, BranchOp con op fn → s.issues l n (encI 3 op f) → illegalI f .none .any .any = none →
      (fn ((s.u.taper l).x f.a) ((s.u.taper l).x f.b) = false → exec (con l f) s = .next (s.retires l n (s.u.taper l))) ∧
      (fn ((s.u.taper l).x f.a) ((s.u.taper l).x f.b) = true → (s.u.taper l).rel f % 8 = 0 → (s.u.taper l).rel f < 0x10000 →
        exec (con l f) s = .next (s.retires l n (s.u.taper l) (some ((s.u.taper l).rel f))))) ∧
    (illegalI f .none (.file 8) .none = none →
      ((s.u.taper l).pr f.a = 0 →
        (s.issues l n (encI 3 0x16 f) → exec (.opBPANY l f) s = .next (s.retires l n (s.u.taper l))) ∧
        (s.issues l n (encI 3 0x17 f) → (s.u.taper l).rel f % 8 = 0 → (s.u.taper l).rel f < 0x10000 →
          exec (.opBPNONE l f) s = .next (s.retires l n (s.u.taper l) (some ((s.u.taper l).rel f))))) ∧
      ((s.u.taper l).pr f.a ≠ 0 →
        (s.issues l n (encI 3 0x17 f) → exec (.opBPNONE l f) s = .next (s.retires l n (s.u.taper l))) ∧
        (s.issues l n (encI 3 0x16 f) → (s.u.taper l).rel f % 8 = 0 → (s.u.taper l).rel f < 0x10000 →
          exec (.opBPANY l f) s = .next (s.retires l n (s.u.taper l) (some ((s.u.taper l).rel f)))))) ∧
    (s.issues l n (encI 3 0x18 f) → illegalI f .any .none .none = none → (s.u.taper l).rel f % 8 = 0 → (s.u.taper l).rel f < 0x10000 →
      exec (.opJAL l f) s = .next (s.retires l n ((s.u.taper l).setG f.d ((s.u.taper l).pc + 8)) (some ((s.u.taper l).rel f)))) ∧
    (s.issues l n (encI 3 0x19 f) → illegalI f .any .any .none = none → (s.u.taper l).addr f % 8 = 0 → (s.u.taper l).addr f < 0x10000 →
      exec (.opJALR l f) s = .next (s.retires l n ((s.u.taper l).setG f.d ((s.u.taper l).pc + 8)) (some ((s.u.taper l).addr f))))

/-- NOP, RDSR, WRSR, FRET and TRAP do what Tables 9-2 and 9-8 say. NOP only retires; RDSR puts a listed special register's value into gD and WRSR writes gA to a listed, writable one, when no fingerprinting channel holds it up; FRET goes to FAULT_RETURN and arms the handler, once a handler runs; TRAP with a code below 256 takes a software fault (cause 5) of that detail. A taken branch or a jump to a target that is not a multiple of 8 in the code area takes a memory fault of detail 2; RDSR of an unlisted number and WRSR of an unlisted or read-only one an illegal-instruction fault of detail 4; FRET outside a handler one of detail 0; a floating instruction outside the contract, in reference mode, a contract fault of detail 0; a wide access that is not aligned or not allowed a memory fault as the scalar ones. -/
def Obligations.SystemInstructionsAct : Prop :=
  (∀ (s : State) (l n : Nat) (f : IFmt),
    let t := s.u.taper l
    (s.issues l n (encI 0 0 f) → illegalI f .none .none .none = none → f.imm = 0 → exec (.opNOP l f) s = .next (s.retires l n t)) ∧
    (s.issues l n (encI 0 1 f) → illegalI f .any .none .none = none → f.imm < 4096 →
      (f.imm ≠ 0x020 ∧ f.imm ≠ 0x022 ∨ t.fpBusy = false) →
      ∀ x, t.readSr f.imm = some x → exec (.opRDSR l f) s = .next (s.retires l n (t.setG f.d x))) ∧
    (s.issues l n (encI 0 2 f) → illegalI f .none .any .none = none → f.imm < 4096 →
      (f.imm ≠ 0x020 ∧ f.imm ≠ 0x022 ∧ f.imm ≠ 0x023 ∨ t.fpBusy = false) →
      ∀ t', t.writeSr f.imm (t.gr f.a) = some t' → exec (.opWRSR l f) s = .next (s.retires l n t')) ∧
    (s.issues l n (encI 0 3 f) → illegalI f .none .none .none = none → f.imm = 0 → t.armed = false →
      exec (.opFRET l f) s = .next (s.retires l n { t with armed := true } (some t.faultReturn))) ∧
    (s.issues l n (encI 0 4 f) → illegalI f .none .none .none = none → f.imm < 256 →
      exec (.opTRAP l f) s = .next (s.after ((s.open l).takeFault l n (encI 0 4 f) 5 f.imm 0xFF 0)))) ∧
  (∀ (s : State) (l n : Nat) (f : IFmt) (r : RFmt),
    let t := s.u.taper l
    (∀ con op fn, BranchOp con op fn → s.issues l n (encI 3 op f) → illegalI f .none .any .any = none → fn (t.x f.a) (t.x f.b) = true →
      t.rel f % 8 ≠ 0 ∨ 0x10000 ≤ t.rel f → exec (con l f) s = .next (s.after ((s.open l).takeFault l n (encI 3 op f) 2 2 0xFF (t.rel f)))) ∧
    (s.issues l n (encI 3 0x18 f) → illegalI f .any .none .none = none → t.rel f % 8 ≠ 0 ∨ 0x10000 ≤ t.rel f →
      exec (.opJAL l f) s = .next (s.after ((s.open l).takeFault l n (encI 3 0x18 f) 2 2 0xFF (t.rel f)))) ∧
    (s.issues l n (encI 3 0x19 f) → illegalI f .any .any .none = none → t.addr f % 8 ≠ 0 ∨ 0x10000 ≤ t.addr f →
      exec (.opJALR l f) s = .next (s.after ((s.open l).takeFault l n (encI 3 0x19 f) 2 2 0xFF (t.addr f)))) ∧
    (s.issues l n (encI 0 1 f) → illegalI f .any .none .none = none → f.imm < 4096 → t.readSr f.imm = none →
      exec (.opRDSR l f) s = .next (s.after ((s.open l).takeFault l n (encI 0 1 f) 1 4 0xFF 0))) ∧
    (s.issues l n (encI 0 2 f) → illegalI f .none .any .none = none → f.imm < 4096 → t.writeSr f.imm (t.gr f.a) = none →
      exec (.opWRSR l f) s = .next (s.after ((s.open l).takeFault l n (encI 0 2 f) 1 4 0xFF 0))) ∧
    (s.issues l n (encI 0 3 f) → illegalI f .none .none .none = none → t.armed = true →
      exec (.opFRET l f) s = .next (s.after ((s.open l).takeFault l n (encI 0 3 f) 1 0 0xFF 0))) ∧
    (∀ con op k fn, ScalarFloatOp con op k true fn → s.issues l n (encR 2 op r) → t.illegalR r k = none → t.refMode = true →
      exec (con l r) s = .next (s.after ((s.open l).takeFault l n (encR 2 op r) 4 0 0xFF 0))) ∧
    (∀ con op k fn, VectorFloatOp con op k true fn → s.issues l n (encR 4 op r) → t.illegalR r { k r with pe := true } = none → t.refMode = true →
      exec (con l r) s = .next (s.after ((s.open l).takeFault l n (encR 4 op r) 4 0 0xFF 0))) ∧
    (let bad := fun (ok : Bool) (align d : Nat) => t.addr f % align ≠ 0 ∧ d = 0 ∨ t.addr f % align = 0 ∧ ok = false ∧ d = 1
     (∀ ecc d, bad (loadArea (t.addr f) 64) 64 d →
       (s.issues l n (encI 5 0 f) → illegalI f .any .any .none = none →
         exec (.opVLD l f ecc) s = .next (s.after ((s.open l).takeFault l n (encI 5 0 f) 2 d 0xFF (t.addr f)))) ∧
       (s.issues l n (encI 5 2 f) → illegalI f (.file 8) .any .none = none →
         exec (.opTLD l f ecc) s = .next (s.after ((s.open l).takeFault l n (encI 5 2 f) 2 d 0xFF (t.addr f))))) ∧
     (∀ d, bad (storeArea (t.addr f) 64) 64 d →
       (s.issues l n (encI 5 1 f) → illegalI f .none .any .any = none →
         exec (.opVST l f) s = .next (s.after ((s.open l).takeFault l n (encI 5 1 f) 2 d 0xFF (t.addr f)))) ∧
       (s.issues l n (encI 5 3 f) → illegalI f .none .any (.file 8) = none →
         exec (.opTST l f) s = .next (s.after ((s.open l).takeFault l n (encI 5 3 f) 2 d 0xFF (t.addr f))))) ∧
     (∀ ecc d, bad (loadArea (t.addr f) 8) 8 d → s.issues l n (encI 5 4 f) → illegalI f (.file 8) .any .none = none →
         exec (.opPLD l f ecc) s = .next (s.after ((s.open l).takeFault l n (encI 5 4 f) 2 d 0xFF (t.addr f)))) ∧
     (∀ d, bad (storeArea (t.addr f) 8) 8 d → s.issues l n (encI 5 5 f) → illegalI f .none .any (.file 8) = none →
         exec (.opPST l f) s = .next (s.after ((s.open l).takeFault l n (encI 5 5 f) 2 d 0xFF (t.addr f))))))

/-- A write of a special register never clears ARITH_CTL.REF. Whatever special register a program writes and whatever value, a taper in reference mode is in reference mode after it, and a write of 1 to REF sets it. -/
def Obligations.ReferenceModeStaysSet : Prop :=
  (∀ (t t' : Taper) (k x : Nat), t.writeSr k x = some t' → t.refMode = true → t'.refMode = true) ∧
    (∀ (t t' : Taper) (x : Nat), t.writeSr 0 x = some t' → bitAt x 16 = true → t'.refMode = true)

/-- An illegal scalar, floating, vector or field instruction takes an illegal-instruction fault with the least detail. A due two-register scalar, scalar floating, vector floating, vector integer, predicate or field instruction whose fields are not legal takes an illegal-instruction fault (cause 1) whose detail is the least of those that apply, and writes no register. -/
def Obligations.IllegalRegisterFormatFaults : Prop :=
  ∀ (s : State) (l n d : Nat) (f : RFmt),
    (∀ con op fn, ScalarOp con op fn → s.issues l n (encR 1 op f) → (s.u.taper l).illegalR f { d := .any, a := .any, b := .any } = some d →
      exec (con l f) s = .next (s.after ((s.open l).takeFault l n (encR 1 op f) 1 d 0xFF 0))) ∧
    (∀ con op k no fn, ScalarFloatOp con op k no fn → s.issues l n (encR 2 op f) → (s.u.taper l).illegalR f k = some d →
      exec (con l f) s = .next (s.after ((s.open l).takeFault l n (encR 2 op f) 1 d 0xFF 0))) ∧
    (∀ con op k no fn, VectorFloatOp con op k no fn → s.issues l n (encR 4 op f) → (s.u.taper l).illegalR f { k f with pe := true } = some d →
      exec (con l f) s = .next (s.after ((s.open l).takeFault l n (encR 4 op f) 1 d 0xFF 0))) ∧
    (∀ con op fn, VectorIntOp con op fn → s.issues l n (encR 4 op f) →
      (s.u.taper l).illegalR f { d := .any, a := .any, b := .any, fmts := iF, pe := true } = some d →
      exec (con l f) s = .next (s.after ((s.open l).takeFault l n (encR 4 op f) 1 d 0xFF 0))) ∧
    (∀ con op fn, PredicateOp con op fn → s.issues l n (encR 4 op f) →
      (s.u.taper l).illegalR f { d := .file 8, a := .file 8, b := .file 8 } = some d →
      exec (con l f) s = .next (s.after ((s.open l).takeFault l n (encR 4 op f) 1 d 0xFF 0))) ∧
    (∀ con op fn, FieldOp con op fn → s.issues l n (encR 10 op f) → (s.u.taper l).illegalR f { d := .any, a := .any, b := .any } = some d →
      exec (con l f) s = .next (s.after ((s.open l).takeFault l n (encR 10 op f) 1 d 0xFF 0)))

/-- The scalar floating instructions write the rounded result and raise its flags. Each scalar floating instruction of Table 9-11, when due and legal, and outside reference mode if it lies outside the contract, retires with gD holding the result bits of its operation under the rounding mode in force and ARITH_STATUS raised by its flags; FCVT draws for stochastic rounding with e = gC; FCVTI leaves the bits above a narrower integer free; nothing else of the taper changes. -/
def Obligations.ScalarFloatingInstructionsCompute : Prop :=
  ∀ (s : State) (l n : Nat) (f : RFmt),
    let t := s.u.taper l
    (∀ con op k no fn, ScalarFloatOp con op k no fn → s.issues l n (encR 2 op f) → t.illegalR f k = none → (no = true → t.refMode = false) →
      exec (con l f) s = .next (s.retires l n ((t.setG f.d (fn f t (t.actx f 0)).1).raise (fn f t (t.actx f 0)).2))) ∧
    (s.issues l n (encR 2 0xE f) →
      t.illegalR f { d := .any, a := .any, c := if t.sr f 2 then .any else .none, rm := 2, fmts := sF, fmt2s := sF } = none →
      let r := (t.actx f (t.srDraw f (t.gr f.c))).cvt f.fmt f.fmt2 (t.fsrc f.fmt f.a)
      exec (.opFCVT l f) s = .next (s.retires l n ((t.setG f.d r.1).raise r.2))) ∧
    (s.issues l n (encR 2 0xF f) → t.illegalR f { d := .any, a := .any, rm := 1, fmts := sF, fmt2s := iF } = none →
      let r := (t.actx f 0).cvtInt f.fmt f.fmt2 (t.fsrc f.fmt f.a)
      let hi := if fmtBits f.fmt2 = 64 then 0 else Config.highBits f.fmt2 r.1 * 2 ^ fmtBits f.fmt2
      exec (.opFCVTI l f) s = .next (s.retires l n ((t.setG f.d (r.1 + hi)).raise r.2)))

/-- The vector floating instructions compute every active lane and keep the others. Each vector floating instruction of Table 9-12, when due and legal, and outside reference mode if it lies outside the contract, retires with every active lane of vD holding the lane result and every other lane as it was, with the flags of the active lanes raised; VFCMP writes the active lanes' bits of pD; VFCVT between any two formats, by its part number, VMXPACK, and VMXUNPACK to bf16 or to a binary32 pair retire with the registers that R226 and R227 name. -/
def Obligations.VectorFloatingInstructionsCompute : Prop :=
  ∀ (s : State) (l n : Nat) (f : RFmt),
    let t := s.u.taper l
    let w := fmtBits f.fmt
    (∀ con op k no fn, VectorFloatOp con op k no fn → s.issues l n (encR 4 op f) → t.illegalR f { k f with pe := true } = none →
      (no = true → t.refMode = false) →
      exec (con l f) s = .next (s.retires l n
        (t.laneWrite f w fun i => fn f (t.actx f 0) (lane w (t.vr f.a) i) (lane w (t.vr f.b) i) (lane w (t.vr f.c) i)))) ∧
    (s.issues l n (encR 4 0xD f) →
      t.illegalR f { d := .file 8, a := .any, b := .any, c := .imm 6, fmts := [1, 2, 3, 4, 5], pe := true } = none →
      exec (.opVFCMP l f) s = .next (s.retires l n
        (t.predWrite f (512 / w) fun k => (t.actx f 0).cmp f.fmt f.c (lane w (t.vr f.a) k) (lane w (t.vr f.b) k)))) ∧
    (let ls := 512 / max w 1
     let ld := 512 / max (fmtBits f.fmt2) 1
     s.issues l n (encR 4 0xE f) →
     t.illegalR f { d := .any, a := .any, b := .imm (max ls ld / max (min ls ld) 1 - 1), c := if t.sr f 2 then .any else .none, rm := 2, pe := true,
                    fmts := [1, 2, 3, 4, 5], fmt2s := [1, 2, 3, 4, 5], satm := f.fmt2 = 4 || f.fmt2 = 5 } = none →
     let one := fun j k => (t.actx f (t.srDraw f (t.gr f.c + k))).cvt f.fmt f.fmt2 (lane w (t.vr f.a) j)
     let rs := (List.range ld).map fun j =>
       if ld < ls then (if t.active f j then one (f.b * ld + j) j else (lane (fmtBits f.fmt2) (t.vr f.d) j, 0))
       else if f.b * ls ≤ j ∧ j < f.b * ls + ls ∧ t.active f (j - f.b * ls) then one (j - f.b * ls) (j - f.b * ls)
       else (lane (fmtBits f.fmt2) (t.vr f.d) j, 0)
     exec (.opVFCVT l f) s = .next (s.retires l n
       ((t.setV f.d (ofLanes (fmtBits f.fmt2) (rs.map (·.1)))).raise ((rs.map (·.2)).foldl (· ||| ·) 0)))) ∧
    (s.issues l n (encR 4 0x15 f) →
      t.illegalR f { d := .any, a := if f.fmt = 1 then .pair false else .any, b := .imm 3, c := if f.c % 2 = 1 then .file 0 else .any,
                     rm := 2, pe := true, fmts := [1, 2] } = none →
      let act := (List.range 32).filter fun k => t.active f k
      let r := mxPack (fun i => t.actx f (t.srDraw f (t.gr (f.c + 1) + act.getD i 0))) f.fmt (act.map fun k => (t.mxSource f).getD k 0)
      exec (.opVMXPACK l f) s = .next (s.retires l n
        (((t.setV f.d (ofLanes 4 ((act.zip r.2.1).foldl (fun v x => setNth v (32 * f.b + x.1) x.2) (lanes 4 (t.vr f.d))))).setG f.c
          (setBits (t.gr f.c) (8 * f.b + 7) (8 * f.b) r.1)).raise r.2.2))) ∧
    (s.issues l n (encR 4 0x16 f) →
      t.illegalR f { d := if f.fmt2 = 1 then .pair false else .any, a := .any, b := .imm 3, c := .any, rm := 1, pe := true,
                     fmts := [7], fmt2s := [1, 2] } = none →
      let old := if f.fmt2 = 1 then lanes 32 (t.vr f.d) ++ lanes 32 (t.vr (f.d + 1)) else lanes 16 (t.vr f.d)
      let rs := (List.range 32).map fun k =>
        if t.active f k then (t.actx f 0).mxElem f.fmt2 (bits (t.gr f.c) (8 * f.b + 7) (8 * f.b)) (lane 4 (t.vr f.a) (32 * f.b + k))
        else (old.getD k 0, 0)
      let flags := (rs.map (·.2)).foldl (· ||| ·) 0
      let vs := rs.map (·.1)
      (f.fmt2 = 2 → exec (.opVMXUNPACK l f) s = .next (s.retires l n ((t.setV f.d (ofLanes 16 vs)).raise flags))) ∧
      (f.fmt2 = 1 → exec (.opVMXUNPACK l f) s = .next (s.retires l n
        (((t.setV f.d (ofLanes 32 (vs.take 16))).setV (f.d + 1) (ofLanes 32 (vs.drop 16))).raise flags))))

/-- The vector integer instructions compute every active lane, wrapping or limiting. The twelve vector integer instructions of Table 9-13, when due and legal, retire with every active lane of vD holding the lane result, wrapped to the lane (the saturating ones limited to the format), and every other lane as it was; VCMP writes the active lanes' bits of pD, VSEL selects each lane by the predicate, and VPERM permutes. -/
def Obligations.VectorIntegerInstructionsCompute : Prop :=
  ∀ (s : State) (l n : Nat) (f : RFmt),
    let t := s.u.taper l
    let w := fmtBits f.fmt
    (∀ con op fn, VectorIntOp con op fn → s.issues l n (encR 4 op f) →
      t.illegalR f { d := .any, a := .any, b := .any, fmts := iF, pe := true } = none →
      exec (con l f) s = .next (s.retires l n (t.laneWrite f w fun k => (fn f (lane w (t.vr f.a) k) (lane w (t.vr f.b) k), 0)))) ∧
    (s.issues l n (encR 4 0x2C f) → t.illegalR f { d := .file 8, a := .any, b := .any, c := .imm 5, fmts := iF, pe := true } = none →
      exec (.opVCMP l f) s = .next (s.retires l n (t.predWrite f (512 / w) fun k =>
        (condOf f.c (intVal f.fmt (lane w (t.vr f.a) k) - intVal f.fmt (lane w (t.vr f.b) k)), 0)))) ∧
    (s.issues l n (encR 4 0x2D f) → t.illegalR f { d := .any, a := .any, b := .any, fmts := iF, pe := true } = none → f.pe = true →
      exec (.opVSEL l f) s = .next (s.retires l n (t.setV f.d (ofLanes w ((List.range (512 / w)).map fun k =>
        if t.active f k then lane w (t.vr f.a) k else lane w (t.vr f.b) k))))) ∧
    (s.issues l n (encR 4 0x34 f) → t.illegalR f { d := .any, a := .any, b := .any, fmts := iF, pe := true } = none →
      exec (.opVPERM l f) s = .next (s.retires l n (t.laneWrite f w fun k => (lane w (t.vr f.a) (lane w (t.vr f.b) k % (512 / w)), 0))))

/-- The vector moves and the predicate instructions write their one register. VBCAST, VIOTA, VINSERT, VEXTRACT and VMOV, when due and legal, retire with the lanes of Table 9-13: a lane number at or above the lane count extracts 0 and inserts nothing; nothing else of the taper changes. PAND, POR, PXOR, PNOT, PSET, PGET and PCNT, when due and legal, retire with the result in pD or gD; nothing else of the taper changes. -/
def Obligations.VectorMovesMove : Prop :=
  (∀ (s : State) (l n : Nat) (f : RFmt),
    let t := s.u.taper l
    let w := fmtBits f.fmt
    (s.issues l n (encR 4 0x30 f) → t.illegalR f { d := .any, a := .any, fmts := wF, pe := wPe f } = none →
      exec (.opVBCAST l f) s = .next (s.retires l n (t.laneWrite f w fun _ => (t.gr f.a % 2 ^ w, 0)))) ∧
    (s.issues l n (encR 4 0x31 f) → t.illegalR f { d := .any, a := .any, b := .any, fmts := wF } = none →
      (t.gr f.b < 512 / w → exec (.opVEXTRACT l f) s = .next (s.retires l n (t.setG f.d (lane w (t.vr f.a) (t.gr f.b))))) ∧
      (512 / w ≤ t.gr f.b → exec (.opVEXTRACT l f) s = .next (s.retires l n (t.setG f.d 0)))) ∧
    (s.issues l n (encR 4 0x32 f) → t.illegalR f { d := .any, a := .any, b := .any, fmts := wF, pe := wPe f } = none →
      (t.gr f.b < 512 / w → t.active f (t.gr f.b) = true →
        exec (.opVINSERT l f) s = .next (s.retires l n (t.setV f.d (ofLanes w (setNth (lanes w (t.vr f.d)) (t.gr f.b) (t.gr f.a % 2 ^ w)))))) ∧
      (512 / w ≤ t.gr f.b ∨ t.active f (t.gr f.b) = false → exec (.opVINSERT l f) s = .next (s.retires l n t))) ∧
    (s.issues l n (encR 4 0x33 f) → t.illegalR f { d := .any, a := .any, fmts := wF, pe := wPe f } = none →
      exec (.opVIOTA l f) s = .next (s.retires l n (t.laneWrite f w fun k => ((t.gr f.a + k) % 2 ^ w, 0)))) ∧
    (s.issues l n (encR 4 0x35 f) → t.illegalR f { d := .any, a := .any } = none →
      exec (.opVMOV l f) s = .next (s.retires l n (t.setV f.d (t.vr f.a))))) ∧
  (∀ (s : State) (l n : Nat) (f : RFmt),
    let t := s.u.taper l
    (∀ con op fn, PredicateOp con op fn → s.issues l n (encR 4 op f) → t.illegalR f { d := .file 8, a := .file 8, b := .file 8 } = none →
      exec (con l f) s = .next (s.retires l n (t.setP f.d (fn (t.pr f.a) (t.pr f.b))))) ∧
    (s.issues l n (encR 4 0x3B f) → t.illegalR f { d := .file 8, a := .file 8 } = none →
      exec (.opPNOT l f) s = .next (s.retires l n { t with p := NMap.put t.p 0#64 f.d (~~~NMap.getD t.p f.a 0#64) })) ∧
    (s.issues l n (encR 4 0x3C f) → t.illegalR f { d := .file 8, a := .any } = none →
      exec (.opPSET l f) s = .next (s.retires l n (t.setP f.d (t.gr f.a)))) ∧
    (s.issues l n (encR 4 0x3D f) → t.illegalR f { d := .any, a := .file 8 } = none →
      exec (.opPGET l f) s = .next (s.retires l n (t.setG f.d (t.pr f.a)))) ∧
    (s.issues l n (encR 4 0x3E f) → t.illegalR f { d := .any, a := .file 8 } = none →
      exec (.opPCNT l f) s = .next (s.retires l n (t.setG f.d ((List.range 64).countP fun k => bitAt (t.pr f.a) k)))))

/-- The tile instructions clear, move and multiply tiles, and fault in reference mode. Outside reference mode TZERO clears tD, TMOVV and VMOVT copy between vector and tile registers, TMMA adds vA times vB into tD cell by cell, and TMMA.SP does so with the rows of A spread by their metadata; in reference mode each of them takes a contract fault (cause 4, detail 1). -/
def Obligations.TileInstructionsCompute : Prop :=
  ∀ (s : State) (l n : Nat) (f : RFmt),
    let t := s.u.taper l
    let uses : RUse := { d := .file 8, a := .any, b := .any, c := tileC f, fmts := [2, 4, 5, 7], fmt2s := pairF f }
    let usesSp : RUse := { d := .file 8, a := .any, b := .pair false, c := tileC f, p := if f.p % metaRegs f = 0 then .file 8 else .file 0,
                           fmts := [2, 4, 5, 7], fmt2s := pairF f }
    (t.refMode = false →
      (s.issues l n (encR 6 0 f) → t.illegalR f { d := .file 8 } = none → exec (.opTZERO l f) s = .next (s.retires l n (t.setT f.d 0))) ∧
      (s.issues l n (encR 6 3 f) → t.illegalR f { d := .file 8, a := .any } = none →
        exec (.opTMOVV l f) s = .next (s.retires l n (t.setT f.d (t.vr f.a)))) ∧
      (s.issues l n (encR 6 4 f) → t.illegalR f { d := .any, a := .file 8 } = none →
        exec (.opVMOVT l f) s = .next (s.retires l n (t.setV f.d (t.tr f.a)))) ∧
      (s.issues l n (encR 6 1 f) → t.illegalR f uses = none →
        exec (.opTMMA l f) s = .next (s.retires l n (t.tileProduct f
          ((List.range 4).map fun i => (t.tileRow f f.fmt (t.vr f.a) i (t.gr f.c)).map some)
          ((List.range 4).map fun j => t.tileRow f (fmtB f) (t.vr f.b) j (t.gr (f.c + 1)))
          fun i j => f.fmt = 7 && (bits (t.gr f.c) (8 * i + 7) (8 * i) = 0xFF || bits (t.gr (f.c + 1)) (8 * j + 7) (8 * j) = 0xFF)))) ∧
      (s.issues l n (encR 6 2 f) → t.illegalR f usesSp = none →
        let md := (List.range (metaRegs f)).foldl (fun m i => m + t.pr (f.p + i) * 2 ^ (64 * i)) 0
        let g := tileK f.fmt / 2
        let rs := (List.range 4).map fun i =>
          sparseRow (.fin false 0 0) (t.tileRow f f.fmt (t.vr f.a) i (t.gr f.c)) (bits md (4 * g * (i + 1) - 1) (4 * g * i)) g
        let cols := (List.range 4).map fun j =>
          t.tileRow f (fmtB f) (t.vr f.b) j (t.gr (f.c + 1)) ++ t.tileRow f (fmtB f) (t.vr (f.b + 1)) j (t.gr (f.c + 1) / 2 ^ 32)
        exec (.opTMMA_SP l f) s = .next (s.retires l n ((t.tileProduct f (rs.map (·.1)) cols fun i j =>
            f.fmt = 7 && (bits (t.gr f.c) (8 * i + 7) (8 * i) = 0xFF || bits (t.gr (f.c + 1)) (8 * j + 7) (8 * j) = 0xFF
              || bits (t.gr (f.c + 1)) (8 * j + 39) (8 * j + 32) = 0xFF)).raise (if rs.any fun r => r.2 then flNV + 32 else 0))))) ∧
    (t.refMode = true →
      (s.issues l n (encR 6 0 f) → t.illegalR f { d := .file 8 } = none →
        exec (.opTZERO l f) s = .next (s.after ((s.open l).takeFault l n (encR 6 0 f) 4 1 0xFF 0))) ∧
      (s.issues l n (encR 6 1 f) → t.illegalR f uses = none →
        exec (.opTMMA l f) s = .next (s.after ((s.open l).takeFault l n (encR 6 1 f) 4 1 0xFF 0))) ∧
      (s.issues l n (encR 6 2 f) → t.illegalR f usesSp = none →
        exec (.opTMMA_SP l f) s = .next (s.after ((s.open l).takeFault l n (encR 6 2 f) 4 1 0xFF 0))) ∧
      (s.issues l n (encR 6 3 f) → t.illegalR f { d := .file 8, a := .any } = none →
        exec (.opTMOVV l f) s = .next (s.after ((s.open l).takeFault l n (encR 6 3 f) 4 1 0xFF 0))) ∧
      (s.issues l n (encR 6 4 f) → t.illegalR f { d := .any, a := .file 8 } = none →
        exec (.opVMOVT l f) s = .next (s.after ((s.open l).takeFault l n (encR 6 4 f) 4 1 0xFF 0))))

/-- The long accumulator instructions clear, add, round, report, export and import. LACC.CLR, LACC.ADD, LACC.MAC, LACC.ACC, LACC.RND, LACC.STAT, LACC.EXP and LACC.IMP, when due, legal and with an aligned, allowed address, retire with the accumulator, the general register or the 96 bytes of memory that Table 9-16 names; nothing else of the taper changes. At an address that is not a multiple of 32, or outside the areas that R225 allows for 96 bytes, LACC.EXP and LACC.IMP take a memory fault of detail 0 or 1; a corrected error on the read of LACC.IMP is counted, and a double-bit error takes a memory fault of detail 3. -/
def Obligations.LongAccumulatorInstructionsCompute : Prop :=
  (∀ (s : State) (l n : Nat),
    let t := s.u.taper l
    (∀ f : RFmt,
      (s.issues l n (encR 7 0 f) → t.illegalR f { d := .file 4 } = none → exec (.opLACC_CLR l f) s = .next (s.retires l n (t.setA f.d LAcc.zero))) ∧
      (s.issues l n (encR 7 1 f) → t.illegalR f { d := .file 4, a := .any, fmts := [1, 2, 3, 4, 5], pe := true } = none →
        let r := (t.ar f.d).addAll (((List.range (512 / fmtBits f.fmt)).filter fun k => t.active f k).map fun k =>
          laccTerm ((t.actx f 0).take f.fmt (lane (fmtBits f.fmt) (t.vr f.a) k)))
        exec (.opLACC_ADD l f) s = .next (s.retires l n ((t.setA f.d r.1).raise r.2))) ∧
      (s.issues l n (encR 7 2 f) →
        t.illegalR f { d := .file 4, a := .any, b := .any, fmts := [1, 2, 3, 4, 5], fmt2s := pairF f, pe := true } = none →
        let r := (t.ar f.d).addAll (((List.range (512 / fmtBits f.fmt)).filter fun k => t.active f k).map fun k =>
          laccProd ((t.actx f 0).take f.fmt (lane (fmtBits f.fmt) (t.vr f.a) k)) ((t.actx f 0).take (fmtB f) (lane (fmtBits f.fmt) (t.vr f.b) k)))
        exec (.opLACC_MAC l f) s = .next (s.retires l n ((t.setA f.d r.1).raise r.2))) ∧
      (s.issues l n (encR 7 3 f) → t.illegalR f { d := .file 4, a := .file 4 } = none →
        exec (.opLACC_ACC l f) s = .next (s.retires l n ((t.setA f.d ((t.ar f.d).acc (t.ar f.a)).1).raise ((t.ar f.d).acc (t.ar f.a)).2))) ∧
      (s.issues l n (encR 7 4 f) →
        t.illegalR f { d := .any, a := .file 4, b := if t.sr f 2 then .any else .none, rm := 2, fmts := [1, 2, 3, 6] } = none →
        let r := (t.actx f (t.srDraw f (t.gr f.b))).laccRound f.fmt (t.ar f.a)
        exec (.opLACC_RND l f) s = .next (s.retires l n ((t.setG f.d r.1).raise r.2))) ∧
      (s.issues l n (encR 7 5 f) → t.illegalR f { d := .any, a := .file 4 } = none →
        exec (.opLACC_STAT l f) s = .next (s.retires l n (t.setG f.d (t.ar f.a).st.toNat)))) ∧
    (∀ f : IFmt, t.addr f % 32 = 0 → illegalI f (.file 4) .any .none = none →
      (s.issues l n (encI 7 6 f) → storeArea (t.addr f) 96 = true →
        exec (.opLACC_EXP l f) s = .next (s.retires l n { t with mem := t.mem.writeAll (t.addr f) (t.ar f.d).bytes })) ∧
      (∀ ecc, s.issues l n (encI 7 7 f) → loadArea (t.addr f) 96 = true → t.eccAt ecc (t.addr f) 96 = 0 →
        exec (.opLACC_IMP l f ecc) s = .next (s.retires l n (t.setA f.d (LAcc.ofBytes (Memory.readAll t.mem (t.addr f) 96))))))) ∧
  (∀ (s : State) (l n : Nat) (f : IFmt), illegalI f (.file 4) .any .none = none →
    let t := s.u.taper l
    let a := t.addr f
    (s.issues l n (encI 7 6 f) → (∀ d, a % 32 ≠ 0 ∧ d = 0 ∨ a % 32 = 0 ∧ storeArea a 96 = false ∧ d = 1 →
      exec (.opLACC_EXP l f) s = .next (s.after ((s.open l).takeFault l n (encI 7 6 f) 2 d 0xFF a)))) ∧
    (s.issues l n (encI 7 7 f) →
      (∀ ecc d, a % 32 ≠ 0 ∧ d = 0 ∨ a % 32 = 0 ∧ loadArea a 96 = false ∧ d = 1 →
        exec (.opLACC_IMP l f ecc) s = .next (s.after ((s.open l).takeFault l n (encI 7 7 f) 2 d 0xFF a))) ∧
      (∀ ecc, a % 32 = 0 → loadArea a 96 = true →
        (t.eccAt ecc a 96 = 1 → exec (.opLACC_IMP l f ecc) s =
          .next (s.after (((s.open l).eccFixed l).retire l n (t.setA f.d (LAcc.ofBytes (Memory.readAll t.mem a 96))) none))) ∧
        (t.eccAt ecc a 96 = 2 → exec (.opLACC_IMP l f ecc) s = .next (s.after (((s.open l).eccDouble l a).takeFault l n (encI 7 7 f) 2 3 0xFF a))))))

/-- The fingerprint and random instructions compute in the field and by Philox. FING.ADDM, FING.SUBM, FING.MULM and FING.POWM retire with gD holding the result modulo 2^61 - 1 of the operands reduced first; FING.V feeds the lanes of vA, an inactive one as 0, to the fingerprint unit when no fingerprinting channel runs; RNG.RAW and RNG.PHILOX write the words of R196 and R198 to vD. -/
def Obligations.FingerprintAndRandomInstructionsCompute : Prop :=
  ∀ (s : State) (l n : Nat) (f : RFmt),
    let t := s.u.taper l
    (∀ con op fn, FieldOp con op fn → s.issues l n (encR 10 op f) → t.illegalR f { d := .any, a := .any, b := .any } = none →
      exec (con l f) s = .next (s.retires l n (t.setG f.d (fn (t.gr f.a % (2 ^ 61 - 1)) (t.gr f.b % (2 ^ 61 - 1)) % (2 ^ 61 - 1))))) ∧
    (s.issues l n (encR 10 0 f) → t.illegalR f { a := .any, pe := true } = none → t.fpBusy = false →
      exec (.opFING_V l f) s = .next (s.retires l n (t.fingEat ((List.range (512 / (8 * 2 ^ t.fingWidth))).map fun k =>
        if t.active f k then lane (8 * 2 ^ t.fingWidth) (t.vr f.a) k else 0)))) ∧
    (s.issues l n (encR 11 0 f) → t.illegalR f { d := .any, a := .any, rm := 3 } = none →
      exec (.opRNG_RAW l f) s = .next (s.retires l n (t.setV f.d (ofLanes 32 ((List.range 16).map fun k =>
        srWord t.rngKey t.rngBase f.site (t.gr f.a + k)))))) ∧
    (s.issues l n (encR 11 1 f) → t.illegalR f { d := .any, a := .any } = none →
      exec (.opRNG_PHILOX l f) s = .next (s.retires l n (t.setV f.d (ofLanes 32 (philox (t.rngKey % 2 ^ 32) (t.rngKey / 2 ^ 32)
        (lane 32 (t.vr f.a) 0) (lane 32 (t.vr f.a) 1) (lane 32 (t.vr f.a) 2) (lane 32 (t.vr f.a) 3))))))

/-- The message instructions send, receive, poll and free, and their waits resume. MSG.SEND of a sound header and payload, and its resumption, put one copy for each destination into the network when there is no back-pressure; MSG.RECV and its resumption, and MSG.POLL, take the next ready message of VC C, give its slot address and hold the slot; MSG.POLL with none ready gives 0; MSG.FREE frees the oldest held slot. A corrected error in the payload that MSG.SEND reads is counted, and a double-bit error makes the taper take a memory fault of detail 3. MSG.SEND of an unsound header or payload takes the message fault that R229 names and, under back-pressure, waits, as its resumption then does; MSG.RECV with nothing ready waits; MSG.FREE with no slot held takes a message fault of detail 5. -/
def Obligations.MessageInstructionsExchange : Prop :=
  (∀ (s : State) (l n ecc : Nat) (f : RFmt),
    let t := s.u.taper l
    let len := bits (t.gr f.a) 40 32
    let found := t.eccAt (if len = 0 then 0 else ecc) (t.gr f.b) len
    let sent := fun (u : Units) => s.after ((u.netSend l n t (t.gr f.a) (t.gr f.b)).retire l n t none)
    let bad := fun (w : Nat) => s.after (((s.open l).draw.eccDouble l (t.gr f.b)).takeFault l n w 2 3 0xFF (t.gr f.b))
    (sendBad (t.gr f.a) (s.u.slot n).count (t.gr f.b) = none → (s.open l).backed (bits (t.gr f.a) 23 22) = false →
      (s.issues l n (encR 8 0 f) → t.illegalR f { a := .any, b := .any } = none →
        (found = 0 → exec (.opMSG_SEND ⟨l, ecc⟩ f) s = .next (sent (s.open l).draw)) ∧
        (found = 1 → exec (.opMSG_SEND ⟨l, ecc⟩ f) s = .next (sent ((s.open l).draw.eccFixed l))) ∧
        (found = 2 → exec (.opMSG_SEND ⟨l, ecc⟩ f) s = .next (bad (encR 8 0 f)))) ∧
      (s.waits l n .send → f = decR t.word →
        (found = 0 → exec (.msgSendResume ⟨l, ecc⟩) s = .next (sent (s.open l).draw)) ∧
        (found = 1 → exec (.msgSendResume ⟨l, ecc⟩) s = .next (sent ((s.open l).draw.eccFixed l))) ∧
        (found = 2 → exec (.msgSendResume ⟨l, ecc⟩) s = .next (bad t.word)))) ∧
    (∀ k r, (t.queue f.c).ready = k :: r →
      let t' := (t.setQueue f.c { t.queue f.c with ready := r, held := (t.queue f.c).held ++ [k] }).setG f.d (slotAddr f.c k)
      (s.issues l n (encR 8 1 f) → t.illegalR f { d := .any, c := .imm 1 } = none → exec (.opMSG_RECV l f) s = .next (s.retires l n t')) ∧
      (s.issues l n (encR 8 2 f) → t.illegalR f { d := .any, c := .imm 1 } = none → exec (.opMSG_POLL l f) s = .next (s.retires l n t')) ∧
      (s.waits l n .recv → f = decR t.word → exec (.msgRecvResume l) s = .next (s.retires l n t'))) ∧
    (s.issues l n (encR 8 2 f) → t.illegalR f { d := .any, c := .imm 1 } = none → (t.queue f.c).ready = [] →
      exec (.opMSG_POLL l f) s = .next (s.retires l n (t.setG f.d 0))) ∧
    (∀ k r, s.issues l n (encR 8 3 f) → t.illegalR f { c := .imm 1 } = none → (t.queue f.c).held = k :: r →
      exec (.opMSG_FREE l f) s = .next (s.retires l n (t.setQueue f.c { t.queue f.c with held := r })))) ∧
  (∀ (s : State) (l n ecc : Nat) (f : RFmt),
    let t := s.u.taper l
    let waiting := fun (u : Units) (k : TWait) => s.after (u.upTaper l fun t => { t with wait := some k })
    (t.illegalR f { a := .any, b := .any } = none →
      (∀ c d k x, sendBad (t.gr f.a) (s.u.slot n).count (t.gr f.b) = some (.trap c d k x) →
        (s.issues l n (encR 8 0 f) → exec (.opMSG_SEND ⟨l, ecc⟩ f) s = .next (s.after ((s.open l).takeFault l n (encR 8 0 f) c d k x)))) ∧
      (sendBad (t.gr f.a) (s.u.slot n).count (t.gr f.b) = none → (s.open l).backed (bits (t.gr f.a) 23 22) = true →
        (s.issues l n (encR 8 0 f) → exec (.opMSG_SEND ⟨l, ecc⟩ f) s = .next (waiting (s.open l).draw .send)) ∧
        (s.waits l n .send → f = decR t.word → exec (.msgSendResume ⟨l, ecc⟩) s = .next (waiting (s.open l).draw .send)))) ∧
    ((t.queue f.c).ready = [] →
      (s.issues l n (encR 8 1 f) → t.illegalR f { d := .any, c := .imm 1 } = none → exec (.opMSG_RECV l f) s = .next (waiting (s.open l) .recv)) ∧
      (s.waits l n .recv → f = decR t.word → exec (.msgRecvResume l) s = .next (waiting (s.open l) .recv))) ∧
    (s.issues l n (encR 8 3 f) → t.illegalR f { c := .imm 1 } = none → (t.queue f.c).held = [] →
      exec (.opMSG_FREE l f) s = .next (s.after ((s.open l).takeFault l n (encR 8 3 f) 3 5 0xFF 0))))

/-- The ring instructions take and give entries, and their waits resume. RING.POP and RING.TRY with no other taper waiting, and the resumption of the taper that waits first, take the next entry of the submission ring to the aligned address gA in the data area with its length in gD; RING.TRY with no entry gives 0; RING.PUSH and its resumption put an entry on a bound completion ring that has room, a corrected error in the entry counted, while a double-bit error makes the taper take a memory fault of detail 3. Without the ring it names, RING.POP, RING.TRY or RING.PUSH takes a message fault of detail 6, and at a bad address one of detail 4; RING.POP with no entry waits its turn; RING.PUSH waits on a full ring, and gives a unit's own program's result (up to 272 bytes from gA) to that unit. -/
def Obligations.RingInstructionsExchange : Prop :=
  (∀ (s : State) (l n ecc : Nat) (f : RFmt),
    let t := s.u.taper l
    let p := s.u.slot n
    let a := t.gr f.a
    (p.hasSub = true → a % 64 = 0 → dataArea a (s.u.entryLen n) = true →
      (∀ r, (s.open l).popEntry n = some r →
        let u' := (r.1.upSlot n fun q => { q with popWait := p.popWait.filter fun x => x ≠ l })
        let t' := (r.2.2 t).takeEntry f r.2.1
        (t.illegalR f { d := .any, a := .any } = none → (p.popWait.filter fun x => x ≠ l) = [] →
          (s.issues l n (encR 8 8 f) → exec (.opRING_POP l f) s = .next (s.after (u'.retire l n t' none))) ∧
          (s.issues l n (encR 8 9 f) → exec (.opRING_TRY l f) s = .next (s.after (u'.retire l n t' none)))) ∧
        (s.waits l n .pop → f = decR t.word → p.popWait.head? = some l →
          exec (.ringPopResume l) s = .next (s.after (u'.retire l n t' none)))) ∧
      ((s.open l).popEntry n = none → t.illegalR f { d := .any, a := .any } = none → s.issues l n (encR 8 9 f) →
        exec (.opRING_TRY l f) s = .next (s.retires l n (t.setG f.d 0)))) ∧
    (p.comp ≠ 0xFFFFFFFF → dataArea a (32 * 2 ^ (s.u.desc p.comp).sizeCode) = true → (s.u.desc p.comp).room = true →
      let d := s.u.desc p.comp
      let found := t.eccAt ecc a (32 * 2 ^ d.sizeCode)
      let b := Memory.readAll t.mem a (32 * 2 ^ d.sizeCode)
      let given := fun (u : Units) => s.after ((u.produce p.comp (if d.kind = 1 then .completion (completionOf b (p.stamp n) d.phase) else .words b)).retire l n t none)
      let bad := fun (w : Nat) => s.after (((s.open l).eccDouble l a).takeFault l n w 2 3 0xFF a)
      (s.issues l n (encR 8 0xA f) → t.illegalR f { a := .any } = none →
        (found = 0 → exec (.opRING_PUSH ⟨l, ecc⟩ f) s = .next (given (s.open l))) ∧
        (found = 1 → exec (.opRING_PUSH ⟨l, ecc⟩ f) s = .next (given ((s.open l).eccFixed l))) ∧
        (found = 2 → exec (.opRING_PUSH ⟨l, ecc⟩ f) s = .next (bad (encR 8 0xA f)))) ∧
      (s.waits l n .push → f = decR t.word →
        (found = 0 → exec (.ringPushResume ⟨l, ecc⟩) s = .next (given (s.open l))) ∧
        (found = 1 → exec (.ringPushResume ⟨l, ecc⟩) s = .next (given ((s.open l).eccFixed l))) ∧
        (found = 2 → exec (.ringPushResume ⟨l, ecc⟩) s = .next (bad t.word))))) ∧
  (∀ (s : State) (l n ecc : Nat) (f : RFmt),
    let t := s.u.taper l
    let p := s.u.slot n
    let a := t.gr f.a
    (t.illegalR f { d := .any, a := .any } = none →
      (∀ d x, p.hasSub = false ∧ d = 6 ∧ x = 0 ∨ p.hasSub = true ∧ (a % 64 ≠ 0 ∨ dataArea a (s.u.entryLen n) = false) ∧ d = 4 ∧ x = a →
        (s.issues l n (encR 8 8 f) → exec (.opRING_POP l f) s = .next (s.after ((s.open l).takeFault l n (encR 8 8 f) 3 d 0xFF x))) ∧
        (s.issues l n (encR 8 9 f) → exec (.opRING_TRY l f) s = .next (s.after ((s.open l).takeFault l n (encR 8 9 f) 3 d 0xFF x)))) ∧
      (p.hasSub = true → a % 64 = 0 → dataArea a (s.u.entryLen n) = true → (s.open l).popEntry n = none → s.issues l n (encR 8 8 f) →
        exec (.opRING_POP l f) s =
          .next (s.after (((s.open l).upSlot n fun q => { q with popWait := q.popWait ++ [l] }).upTaper l fun t => { t with wait := some .pop })))) ∧
    (t.illegalR f { a := .any } = none →
      (∀ d x, p.hasComp = false ∧ d = 6 ∧ x = 0 ∨
          p.hasComp = true ∧ p.comp ≠ 0xFFFFFFFF ∧ dataArea a (32 * 2 ^ (s.u.desc p.comp).sizeCode) = false ∧ d = 4 ∧ x = a →
        s.issues l n (encR 8 0xA f) → exec (.opRING_PUSH ⟨l, ecc⟩ f) s = .next (s.after ((s.open l).takeFault l n (encR 8 0xA f) 3 d 0xFF x))) ∧
      (p.comp ≠ 0xFFFFFFFF → dataArea a (32 * 2 ^ (s.u.desc p.comp).sizeCode) = true → (s.u.desc p.comp).room = false →
        s.issues l n (encR 8 0xA f) → exec (.opRING_PUSH ⟨l, ecc⟩ f) s = .next (s.after ((s.open l).upTaper l fun t => { t with wait := some .push }))) ∧
      (p.hasComp = true → p.comp = 0xFFFFFFFF → dataArea a 1 = true → t.eccAt ecc a (min 272 (0x50000 - a)) = 0 → s.issues l n (encR 8 0xA f) →
        exec (.opRING_PUSH ⟨l, ecc⟩ f) s = .next (s.after (((s.open l).upSlot n fun q =>
          { q with done := q.done ++ [Memory.readAll t.mem a (min 272 (0x50000 - a))] }).retire l n t none)))))

/-- The stream instructions start, test and wait for channels, and their waits resume. STR.START of a free channel, and its resumption, start it from its descriptor (or put it in error with BAD_PARAM when the descriptor is not sound); STR.TEST gives a channel's status word at once; STR.WAIT gives it, STR.WAITALL only retires, once the channels are not busy and none holds poison, and so does the resumption of either; poison makes the wait take a memory fault of detail 4 that names the channel. STR.START of a busy channel, or of a fingerprinting one while another fingerprints, waits; STR.WAIT of a busy channel, STR.WAITALL with any busy, and the resumption of either wait on; poison found by STR.WAITALL takes the memory fault of the first poisoned channel. -/
def Obligations.StreamInstructionsStartAndWait : Prop :=
  (∀ (s : State) (l n : Nat) (f : RFmt),
    let t := s.u.taper l
    let d := Memory.readAll t.mem (0x5F000 + 32 * f.a) 32
    (¬((t.ch f.a).state = 1) → (bitAt (d.getD 2 0) 0 = true → t.fpBusy = false) →
      let c : Chan := if descOk d (s.u.slot n).bind.length then { state := 1, status := 0, rows := 0, desc := d, poison := false }
        else { state := 3, status := St.BAD_PARAM, rows := 0, desc := d, poison := false }
      (s.issues l n (encR 9 0 f) → t.illegalR f { a := .imm 7 } = none → exec (.opSTR_START l f) s = .next (s.retires l n (t.setCh f.a c))) ∧
      (s.waits l n .start → f = decR t.word → exec (.strStartResume l) s = .next (s.retires l n (t.setCh f.a c)))) ∧
    (s.issues l n (encR 9 2 f) → t.illegalR f { d := .any, a := .imm 7 } = none →
      exec (.opSTR_TEST l f) s = .next (s.retires l n (t.setG f.d (t.ch f.a).word))) ∧
    ((t.ch f.a).state ≠ 1 →
      ((t.ch f.a).poison = false →
        (s.issues l n (encR 9 1 f) → t.illegalR f { d := .any, a := .imm 7 } = none →
          exec (.opSTR_WAIT l f) s = .next (s.retires l n (t.setG f.d (t.ch f.a).word))) ∧
        (s.waits l n .wait → f = decR t.word → bits t.word 11 4 = 1 →
          exec (.strWaitResume l) s = .next (s.retires l n (t.setG f.d (t.ch f.a).word)))) ∧
      ((t.ch f.a).poison = true → s.issues l n (encR 9 1 f) → t.illegalR f { d := .any, a := .imm 7 } = none →
        exec (.opSTR_WAIT l f) s = .next (s.after (((s.open l).setTaper l
          { t with chan := NMap.put t.chan Chan.reset f.a { t.ch f.a with poison := false } }).takeFault l n (encR 9 1 f) 2 4 f.a 0)))) ∧
    ((∀ k < 8, (t.ch k).state ≠ 1 ∧ (t.ch k).poison = false) →
      (s.issues l n (encR 9 3 f) → t.illegalR f {} = none → exec (.opSTR_WAITALL l f) s = .next (s.retires l n t)) ∧
      (s.waits l n .wait → bits t.word 11 4 = 3 → exec (.strWaitResume l) s = .next (s.retires l n t)))) ∧
  (∀ (s : State) (l n : Nat) (f : RFmt),
    let t := s.u.taper l
    let waiting := fun (k : TWait) => s.after ((s.open l).upTaper l fun t => { t with wait := some k })
    ((t.ch f.a).state = 1 ∨ bitAt ((Memory.readAll t.mem (0x5F000 + 32 * f.a) 32).getD 2 0) 0 = true ∧ t.fpBusy = true →
      (s.issues l n (encR 9 0 f) → t.illegalR f { a := .imm 7 } = none → exec (.opSTR_START l f) s = .next (waiting .start)) ∧
      (s.waits l n .start → f = decR t.word → exec (.strStartResume l) s = .next (waiting .start))) ∧
    ((t.ch f.a).state = 1 →
      (s.issues l n (encR 9 1 f) → t.illegalR f { d := .any, a := .imm 7 } = none → exec (.opSTR_WAIT l f) s = .next (waiting .wait)) ∧
      (s.waits l n .wait → f = decR t.word → bits t.word 11 4 = 1 → exec (.strWaitResume l) s = .next (waiting .wait))) ∧
    (s.issues l n (encR 9 3 f) → t.illegalR f {} = none →
      ((∃ k < 8, (t.ch k).state = 1) → exec (.opSTR_WAITALL l f) s = .next (waiting .wait)) ∧
      (∀ k < 8, (∀ j < 8, (t.ch j).state ≠ 1) → (t.ch k).poison = true → (∀ j < k, (t.ch j).poison = false) →
        exec (.opSTR_WAITALL l f) s = .next (s.after (((s.open l).setTaper l
          { t with chan := NMap.put t.chan Chan.reset k { t.ch k with poison := false } }).takeFault l n (encR 9 3 f) 2 4 k 0)))))

/-- The Beacon commands accept steps, dates, offsets, measurements and timestamps. BEACON_STEP of a nonzero amount and BEACON_SET_CALENDAR of a valid date with a known UTC offset and no PTP lock are accepted and end a slew, and answer BUSY_RETRY while a step waits; a date that is not valid ends with INVALID_DATE, and one under PTP lock or with no offset known with BAD_STATE; BEACON_SET_UTC below 256 is taken. PTP_SYNC_MEASUREMENT keeps the offset of its domain and, from the source in use or one that it makes the source, disciplines the clock, while a held-over time takes the other domain only if it agrees; PTP_ANNOUNCE keeps the better master, and its UTC offset where it gives one; each of a domain that is not in service is only counted. PTP_EVENT_TRANSMIT queues a timestamp, answers a two-step message with its follow-up, and drops the timestamp of a full queue; BEACON_TXTS_POP takes the oldest, reads 0 on an empty queue and below operator privilege. PTP_OTHER_MESSAGE that its domain supports is timestamped and answered where R430 has it, and else counted. -/
def Obligations.BeaconCommandsKeepTime : Prop :=
  ∀ (s : State) (w : Who) (c : Cmd),
    (isOperator (stampPriv c.stamp) = true →
      (∀ step : Int, step ≠ 0 →
        (s.u.bcn.pend = none → exec (.beaconStep c step) s = .next (s.after (s.u.upB fun b =>
          { b with pend := some { rel := step, target := none, atPps := false, cmd := c, code := 0x0301 }, slewing := false, slew := 0 }))) ∧
        (s.u.bcn.pend.isSome = true → exec (.beaconStep c step) s = .next (s.after (s.u.done c 0x010 0x0301 St.BUSY_RETRY)))) ∧
      (∀ y mo d h mi sec,
        let ends := fun st => exec (.beaconSetCalendar c y mo d h mi sec) s = .next (s.after (s.u.done c 0x010 0x0302 st))
        let ptp := (s.u.bcn.source = 1 ∨ s.u.bcn.source = 2) ∧ s.u.clk.locked = true
        (dateOk y mo d h mi sec = false → ends St.INVALID_DATE) ∧
        (dateOk y mo d h mi sec = true →
          (ptp ∨ s.u.utcNow = none → ends St.BAD_STATE) ∧
          (∀ x a, ¬ptp → s.u.utcNow = some (x, a) →
            (s.u.bcn.pend.isSome = true → ends St.BUSY_RETRY) ∧
            (s.u.bcn.pend = none → exec (.beaconSetCalendar c y mo d h mi sec) s = .next (s.after (s.u.upB fun b =>
              { b with pend := some { rel := 0, target := some (utcSeconds y mo d h mi sec + x.offset), atPps := s.u.bcn.source = 3, cmd := c, code := 0x0302 },
                       slewing := false, slew := 0 })))))) ∧
      (∀ off l61 l59, off < 256 → exec (.beaconSetUtc c off l61 l59) s = .next (s.after ((s.u.upB fun b =>
        { b with utc := some { offset := off, leap61 := l61, leap59 := l59, day := s.u.utcDay off } }).done c 0x010 0x0303 St.OK)))) ∧
    (∀ d (off : Int),
      let u1 := s.u.upDom d fun x => { x with offset := some (off, s.u.clk.mono), lost := false }
      let held := u1.bcn.source = 0 ∧ u1.clk.locked = true ∧ d ≠ u1.primary ∧ u1.domOn u1.primary = true
      (2 ≤ d ∨ s.u.domOn d = false → exec (.ptpSyncMeasurement d off) s = .next (s.after (s.u.count 0x100110))) ∧
      (d < 2 → s.u.domOn d = true →
        (u1.bcn.source = d + 1 → exec (.ptpSyncMeasurement d off) s = .next (s.after (u1.measured off))) ∧
        (u1.bcn.source = 2 - d → exec (.ptpSyncMeasurement d off) s = .next (s.after u1)) ∧
        (u1.bcn.source = 0 ∨ u1.bcn.source = 3 → ¬held → exec (.ptpSyncMeasurement d off) s =
          .next (s.after ((u1.upB fun b => { b with source := d + 1 }).measured off))) ∧
        (held → u1.agrees d = true → exec (.ptpSyncMeasurement d off) s = .next (s.after ((u1.switchTo d).measured off))) ∧
        (held → u1.agrees d = false → exec (.ptpSyncMeasurement d off) s = .next (s.after u1)))) ∧
    (∀ d data off valid l61 l59,
      let day := match (s.u.dom d).utc with
        | some o => if o.leap61 = l61 ∧ o.leap59 = l59 then o.day else s.u.utcDay off
        | none => s.u.utcDay off
      (2 ≤ d ∨ s.u.domOn d = false → exec (.ptpAnnounce d data off valid l61 l59) s = .next (s.after (s.u.count 0x100110))) ∧
      (d < 2 → s.u.domOn d = true →
        (∀ b, (s.u.dom d).best = some b → betterMaster b data = true → b ≠ data →
          exec (.ptpAnnounce d data off valid l61 l59) s = .next (s.after (s.u.upDom d fun x => { x with best := some b }))) ∧
        ((∀ b, (s.u.dom d).best = some b → betterMaster b data = false) →
          exec (.ptpAnnounce d data off valid l61 l59) s = .next (s.after (s.u.upDom d fun x =>
            { x with best := some data,
                     utc := if valid = true then some { offset := off % 256, leap61 := l61, leap59 := l59, day := day } else none }))))) ∧
    (∀ p seq ty dom, p < 2 →
      (64 ≤ (s.u.txts p).q.length → exec (.ptpEventTransmit p seq ty dom) s = .next (s.after ((s.u.setTxts p
        { s.u.txts p with overflow := true, drops := satW 16 ((s.u.txts p).drops + 1) }).bcnEvent Ev.BEACON_TXTS_OVERFLOW))) ∧
      ((s.u.txts p).q.length < 64 →
        let u1 := s.u.setTxts p { s.u.txts p with q := (s.u.txts p).q ++ [(seq % 2 ^ 16, ty % 16, dom % 256, s.u.clk.sec, s.u.clk.ns, s.u.clk.frac)] }
        (ty ≠ 0 → ty ≠ 3 → exec (.ptpEventTransmit p seq ty dom) s = .next (s.after u1)) ∧
        (∀ r, ty = 0 ∧ r = 8 ∨ ty = 3 ∧ r = 0xA → exec (.ptpEventTransmit p seq ty dom) s =
          .next (s.after (u1.emit (.bus 2 [p, r, seq, dom, s.u.clk.sec, s.u.clk.ns, s.u.clk.frac])))))) ∧
    (∀ p, p < 2 →
      let a := 0x100080 + 0x10 * p
      let latched := fun (u : Units) (v : List Nat) => ({ u with
        regs := { u.regs with latch := (List.range 3).foldl (fun m k => NMap.set m (a + 4 + 4 * k) (v.getD k 0)) u.regs.latch } } : Units)
      (isOperator w.priv = false → exec (.beaconTxtsPop w p) s = .next (s.after (s.u.emit (.read a 0)))) ∧
      (isOperator w.priv = true →
        ((s.u.txts p).q = [] → exec (.beaconTxtsPop w p) s = .next (s.after ((latched s.u [0, 0, 0]).emit (.read a 0)))) ∧
        (∀ sq ty dm sec ns fr rest, (s.u.txts p).q = (sq, ty, dm, sec, ns, fr) :: rest →
          exec (.beaconTxtsPop w p) s = .next (s.after ((latched (s.u.setTxts p { s.u.txts p with q := rest })
            [ns, sec % 2 ^ 32, sec / 2 ^ 32 % 2 ^ 16 + fr * 2 ^ 16]).emit (.read a (sq + ty * 2 ^ 16 + dm * 2 ^ 20 + 2 ^ 31))))))) ∧
    (∀ p dom ty seq d,
      let serves := fun (k : Nat) => bits (s.u.domCfg k) 6 0 = dom ∧ s.u.domOn k = true
      let x := s.u.domCfg d
      let ok := p < 2 ∧ bitAt x (8 + p) = true ∧ (ty = 8 ∨ bitAt x 10 = false ∧ (ty = 1 ∨ ty = 9) ∨ bitAt x 10 = true ∧ (ty = 2 ∨ ty = 3 ∨ ty = 0xA))
      let u1 := s.u.upB fun b => { b with rx := NMap.set b.rx (16 * dom + ty) (seq, s.u.clk.sec, s.u.clk.ns) }
      let master := bitAt x 12 = true ∧ ∀ b, (s.u.dom d).best = some b → bits x 31 24 < b.getD 0 0
      let answer := fun (k : Nat) => u1.emit (.bus 2 [p, k, seq, dom, s.u.clk.sec, s.u.clk.ns, s.u.clk.frac])
      (¬(serves 0) → ¬(serves 1) → exec (.ptpOtherMessage p dom ty seq) s = .next (s.after (s.u.count 0x100110))) ∧
      (d = 0 ∧ serves 0 ∨ d = 1 ∧ ¬(serves 0) ∧ serves 1 →
        (¬ok → exec (.ptpOtherMessage p dom ty seq) s = .next (s.after (s.u.count 0x100110))) ∧
        (ok →
          (ty = 1 → master → exec (.ptpOtherMessage p dom ty seq) s = .next (s.after (answer 9))) ∧
          (ty = 2 → exec (.ptpOtherMessage p dom ty seq) s = .next (s.after (answer 3))) ∧
          (ty ≠ 2 → (ty = 1 → ¬master) → exec (.ptpOtherMessage p dom ty seq) s = .next (s.after u1)))))

/-- The 1PPS and 10 MHz inputs and the Beacon's timers act. PPS_IN_EDGE with the input enabled is timestamped; as the source, which it becomes where no source and no domain is in service and the input is allowed as one, it applies a step that waits for it and else steers the time to the edge; with the input not enabled it does nothing. PPS_LOSS_TIMEOUT and REF10M_LOSS record the loss and leave the source; REF10M_RETURN follows the reference again where it is enabled. ANNOUNCE_RECEIPT_TIMEOUT loses the domain: from the preferred one in use the other takes over if it agrees, and else no source is left. BEACON_HOLD_EXPIRY without a source ends lock. BEACON_REVERT_TIMER on the other domain returns to the preferred one if it agrees, and else raises the alarm unless it is lost. LEAP_SECOND_END moves the UTC offset in force by the leap second and uses up the flags. Each in a state that it does not name changes nothing. -/
def Obligations.BeaconEdgesAndTimersAct : Prop :=
  ∀ (s : State),
    (bitAt s.u.ppsCfg 0 = false → exec .ppsInEdge s = .next (s.after s.u)) ∧
    (bitAt s.u.ppsCfg 0 = true →
      let u1 := s.u.upB fun b => { b with ppsPresent := true, pps := some (s.u.clk.sec, s.u.clk.ns) }
      let fresh := s.u.bcn.source = 0 ∧ bitAt s.u.bcnCtl 1 = true ∧ s.u.domOn 0 = false ∧ s.u.domOn 1 = false
      let off : Int := if s.u.clk.ns < 500000000 then -(s.u.clk.ns : Int) else ((10 ^ 9 - s.u.clk.ns : Nat) : Int)
      (s.u.bcn.source ≠ 3 → ¬fresh → exec .ppsInEdge s = .next (s.after u1)) ∧
      (∀ v : Units, s.u.bcn.source = 3 ∧ v = u1 ∨ fresh ∧ v = (u1.upB fun b => { b with source := 3 }) →
        (∀ x, s.u.bcn.pend = some x → x.atPps = true → exec .ppsInEdge s = .next (s.after v.applyStep)) ∧
        (s.u.bcn.pend = none ∨ (∃ x, s.u.bcn.pend = some x ∧ x.atPps = false) → exec .ppsInEdge s = .next (s.after (v.measured off))))) ∧
    exec .ppsLossTimeout s = .next (s.after ((s.u.bcnEvent Ev.BEACON_PPS_LOST).upB fun b =>
      { b with ppsPresent := false, source := if b.source = 3 then 0 else b.source })) ∧
    (let u1 := s.u.upB fun b => { b with ref10 := false, ref10In := false }
     (s.u.bcn.ref10 = true → exec .ref10mLoss s = .next (s.after (u1.bcnEvent Ev.BEACON_REF_LOST))) ∧
     (s.u.bcn.ref10 = false → exec .ref10mLoss s = .next (s.after u1))) ∧
    exec .ref10mReturn s = .next (s.after (s.u.upB fun b => { b with ref10In := true, ref10 := bitAt s.u.bcnCtl 2 })) ∧
    (∀ d, d < 2 →
      let u1 := s.u.upDom d fun x => { x with lost := true, best := none, utc := none }
      (u1.bcn.source ≠ d + 1 → exec (.announceReceiptTimeout d) s = .next (s.after u1)) ∧
      (u1.bcn.source = d + 1 → d = u1.primary → u1.agrees (1 - d) = true →
        exec (.announceReceiptTimeout d) s = .next (s.after (u1.switchTo (1 - d)))) ∧
      (u1.bcn.source = d + 1 → d ≠ u1.primary ∨ u1.agrees (1 - d) = false →
        exec (.announceReceiptTimeout d) s = .next (s.after (u1.upB fun b => { b with source := 0 })))) ∧
    (s.u.bcn.source = 0 → exec .beaconHoldExpiry s = .next (s.after ((s.u.upB fun b => { b with okRun := 0 }).setLock false))) ∧
    (s.u.bcn.source ≠ 0 → exec .beaconHoldExpiry s = .next (s.after s.u)) ∧
    (let away := (s.u.bcn.source ≠ 0 ∧ s.u.bcn.source ≠ 3) ∧ s.u.bcn.source ≠ s.u.primary + 1 ∧ s.u.domOn s.u.primary = true
     (away →
       (s.u.agrees s.u.primary = true → exec .beaconRevertTimer s = .next (s.after (s.u.switchTo s.u.primary))) ∧
       (s.u.agrees s.u.primary = false →
         ((s.u.dom s.u.primary).lost = false → exec .beaconRevertTimer s = .next (s.after (s.u.bcnEvent Ev.BEACON_DOMAIN_DISAGREE))) ∧
         ((s.u.dom s.u.primary).lost = true → exec .beaconRevertTimer s = .next (s.after s.u)))) ∧
     (¬away → exec .beaconRevertTimer s = .next (s.after s.u))) ∧
    (let f := fun (y : Utc) => { y with offset := if y.leap61 then (y.offset + 1) % 256 else if y.leap59 then y.offset - 1 else y.offset,
                                        leap61 := false, leap59 := false }
     (s.u.utcNow = none → exec .leapSecondEnd s = .next (s.after s.u)) ∧
     (∀ x, s.u.utcNow = some (x, true) → exec .leapSecondEnd s = .next (s.after (s.u.upDom (s.u.bcn.source - 1) fun d => { d with utc := d.utc.map f }))) ∧
     (∀ x, s.u.utcNow = some (x, false) → exec .leapSecondEnd s = .next (s.after (s.u.upB fun b => { b with utc := b.utc.map f }))))

/-- Calendar conversion follows the Gregorian rules. February has 29 days in a leap year and 28 otherwise; a year divisible by 4 is a leap year unless it is divisible by 100 and not by 400, so 2000 is one and 2100 is not; the other months have their Gregorian lengths, a year is the sum of its months, and the day after the last day of a year is the first of the next. For every date and time from 2000 to 2399, without a leap second pending, Beacon time at that date's UTC seconds plus the offset in force makes BEACON_CAL read as exactly that date and time. -/
def Obligations.CalendarFollowsTheGregorianRules : Prop :=
  (∀ y, monthDays y 2 = (if y % 4 = 0 ∧ ¬(y % 100 = 0 ∧ y % 400 ≠ 0) then 29 else 28)) ∧ monthDays 2000 2 = 29 ∧ monthDays 2100 2 = 28 ∧
    (∀ y m, 1 ≤ m → m ≤ 12 → m ≠ 2 → monthDays y m = if m = 4 ∨ m = 6 ∨ m = 9 ∨ m = 11 then 30 else 31) ∧
    (∀ y m, 2000 ≤ y → 1 ≤ m → m ≤ 12 →
      daysTo 1970 = 0 ∧ daysTo (y + 1) = daysTo y + daysBefore y 13 ∧ daysBefore y 1 = 0 ∧ daysBefore y (m + 1) = daysBefore y m + monthDays y m) ∧
    ∀ (u : Units) (x : Utc) (a : Bool) (y mo d h mi sec : Nat), dateOk y mo d h mi sec = true → u.utcNow = some (x, a) → x.leap61 = false → x.leap59 = false →
      u.clk.sec = utcSeconds y mo d h mi sec + x.offset →
      u.calendar = sec + mi * 2 ^ 6 + h * 2 ^ 12 + d * 2 ^ 17 + mo * 2 ^ 22 + y * 2 ^ 32

/-- Heartbeats, misses, probes, fault reports, register responses and progress timers act as Vigil provides. An accepted HEARTBEAT keeps its bitmap and health and ends misses and suspicion; Health 3 without a compute-part reset declares the accelerator at L1, and else each watched context that left the bitmap without a reset is failed. A miss is counted of a block that was active, at a port enabled that neither retrains fast nor changes lanes, and the limit makes the accelerator suspect; PROBE_WAIT_EXPIRY sends the next probe or declares. FAULT_REPORT of severity 0 or 1 only passes it on, of severity 2 declares its context, else the accelerator. REG_RESPONSE serves what its REG_ACCESS was sent for: the start-up, a probe, a control word, an activity read, the gate wait, IGTAN_REG. PROGRESS_HALF_TIMEOUT stalls a context and reads its gate wait, PROGRESS_TIMEOUT fails one for which no cycle was broken, WAITFOR_REPEAT asks a stalled one again, and RING_ENTRY_UNCONSUMED fails the context of a ring that holds an entry; a frozen or unwatched context is left alone. -/
def Obligations.VigilWatchesAcceleratorsAndContexts : Prop :=
  ∀ (s : State) (h : SHdr) (port ctx : Nat),
    (∀ seq live health flags, s.hears h 0x01 →
      let u1 := ((s.u.count 0x700100).upVp h.port fun x => { x with live := live, health := health }).refreeze h.port
      let u2 := u1.clearSuspect h.port
      ((u1.vp h.port).state = 3 → exec (.heartbeat h seq live health flags) s = .next (s.after (u1.upVp h.port fun x => { x with misses := 0 }))) ∧
      ((u1.vp h.port).state ≠ 3 → health = 3 → u2.cprRunning h.port = false →
        exec (.heartbeat h seq live health flags) s = .next (s.after (u2.declareL1 h.port 4 0xFFFFFFFF))) ∧
      ((u1.vp h.port).state ≠ 3 → health ≠ 3 ∨ u2.cprRunning h.port = true →
        let was := ((s.u.count 0x700100).vp h.port).live
        exec (.heartbeat h seq live health flags) s = .next (s.after (((List.range 64).filter fun c =>
            bitAt was c && !(bitAt live c) && (u2.watchOf h.port c).isSome && !(u2.resetting h.port c)).foldl
          (fun u c => u.declareL0 h.port c 0xFFFFFFFF) u2)))) ∧
    (let x := (s.u.port port).state
     let counts := ((s.u.ig port).active = true ∨ (s.u.vp port).state = 1 ∨ (s.u.vp port).state = 2) ∧ x ≠ 0 ∧ x ≠ 5 ∧ x ≠ 6
     let u1 := (s.u.upVp port fun x => { x with misses := min 15 (x.misses + 1) }).count 0x700108
     (counts → (u1.vp port).misses < bits u1.vigilCfg 3 0 → exec (.hbMissInterval port) s = .next (s.after u1)) ∧
     (counts → bits u1.vigilCfg 3 0 ≤ (u1.vp port).misses → exec (.hbMissInterval port) s = .next (s.after (u1.suspect port 0))) ∧
     (¬counts → exec (.hbMissInterval port) s = .next (s.after s.u))) ∧
    (let u1 := s.u.upIg port fun g => { g with regs := g.regs.filter fun r => r.why ≠ .probe }
     ((s.u.vp port).state = 2 →
       ((s.u.vp port).probes < bits u1.vigilCfg 7 4 → exec (.probeWaitExpiry port) s = .next (s.after (u1.probe port))) ∧
       (bits u1.vigilCfg 7 4 ≤ (s.u.vp port).probes →
         exec (.probeWaitExpiry port) s = .next (s.after (u1.declareL1 port (s.u.vp port).cause 0xFFFFFFFF)))) ∧
     ((s.u.vp port).state ≠ 2 → exec (.probeWaitExpiry port) s = .next (s.after s.u))) ∧
    (∀ code sev c tag time detail, s.hears h 0x07 →
      let g := (s.u.ig h.port).opTag tag
      let u1 := (s.u.emit (.bus 15 [h.port, code, sev, c, g, detail])).later (.flickerFault h.port code sev)
      (sev ≤ 1 → exec (.faultReport h code sev c tag time detail) s = .next (s.after u1)) ∧
      (sev = 2 → c < 64 → exec (.faultReport h code sev c tag time detail) s = .next (s.after (u1.declareL0 h.port c g))) ∧
      (sev = 2 → 64 ≤ c → exec (.faultReport h code sev c tag time detail) s = .next (s.after (u1.declareL1 h.port 3 g))) ∧
      (2 < sev → exec (.faultReport h code sev c tag time detail) s = .next (s.after (u1.declareL1 h.port 2 g)))) ∧
    ((∀ st words u, s.u.dropS h 0x0A = some u → exec (.regResponse h st words) s = .next (s.after u)) ∧
     (∀ st words, s.u.dropS h 0x0A = none → s.u.regReq h.port h.seq = none → exec (.regResponse h st words) s = .next (s.after s.u)) ∧
     (∀ st words r, s.u.dropS h 0x0A = none → s.u.regReq h.port h.seq = some r →
      let u1 := s.u.dropReg h.port h.seq
      let word := words.getD 0 0 + 2 ^ 32 * words.getD 1 0
      (r.why = .bringup → exec (.regResponse h st words) s = .next (s.after (u1.upStep h.port (decide (st = St.OK)) r.offset words))) ∧
      (r.why = .probe →
        (st = St.OK → exec (.regResponse h st words) s = .next (s.after (u1.clearSuspect h.port))) ∧
        (st ≠ St.OK → exec (.regResponse h st words) s = .next (s.after u1))) ∧
      (∀ c v old, r.why = .ctxCtl c v old →
        (st = St.OK → exec (.regResponse h st words) s = .next (s.after u1)) ∧
        (st ≠ St.OK → exec (.regResponse h st words) s = .next (s.after (u1.ctlRefused h.port c v old st)))) ∧
      (∀ a b c d, r.why = .key a b c d → exec (.regResponse h st words) s = .next (s.after u1)) ∧
      (∀ c, r.why = .act c →
        (st = St.OK → exec (.regResponse h st words) s = .next (s.after (u1.later (.ledgerAct h.port c words)))) ∧
        (st ≠ St.OK → exec (.regResponse h st words) s = .next (s.after u1))) ∧
      (∀ c, r.why = .gateWait c →
        (st = St.OK → bitAt word c = true →
          exec (.regResponse h st words) s = .next (s.after (u1.upWatchE h.port c fun w => { w with stalled := false }))) ∧
        (st ≠ St.OK ∨ bitAt word c = false → exec (.regResponse h st words) s = .next (s.after (u1.askWait h.port c)))) ∧
      (∀ ring tag stamp gen addr, r.why = .host ring tag stamp gen addr →
        let c : Cmd := { ring := ring, tag := tag, gen := gen, stamp := stamp }
        (st = St.OK → r.write = false →
          let w := unitWrite Ag.sconce addr ((words.take r.count).flatMap (leBytes 4)) s.mem u1
          exec (.regResponse h st words) s = .next (s.afterM (w.1, w.2.done c 0x078 0x0708 St.OK))) ∧
        (st ≠ St.OK ∨ r.write = true → exec (.regResponse h st words) s = .next (s.after (u1.done c 0x078 0x0708 st)))))) ∧
    (s.u.watchOf port ctx = none →
      exec (.progressHalfTimeout port ctx) s = .next (s.after s.u) ∧ exec (.progressTimeout port ctx) s = .next (s.after s.u) ∧
        exec (.waitforRepeat port ctx) s = .next (s.after s.u)) ∧
    (∀ w, s.u.watchOf port ctx = some w →
      (w.frozen = false → w.stalled = false → exec (.progressHalfTimeout port ctx) s = .next (s.after
        (((s.u.upWatchE port ctx fun w => { w with stalled := true }).raise Ev.VIGIL_CTX_STALLED 0 0x070
          (payloadOf [(0, 4, w.job), (4, 1, port), (5, 1, ctx), (6, 2, w.gen)])).regAccess port 0x20 false 2 [] (.gateWait ctx)))) ∧
      (w.frozen = true ∨ w.stalled = true → exec (.progressHalfTimeout port ctx) s = .next (s.after s.u)) ∧
      (w.frozen = false → w.broken = false → exec (.progressTimeout port ctx) s = .next (s.after (s.u.declareL0 port ctx 0xFFFFFFFF))) ∧
      (w.frozen = true ∨ w.broken = true → exec (.progressTimeout port ctx) s = .next (s.after s.u)) ∧
      (w.stalled = true → w.frozen = false → exec (.waitforRepeat port ctx) s = .next (s.after (s.u.askWait port ctx))) ∧
      (w.frozen = true ∨ w.stalled = false → exec (.waitforRepeat port ctx) s = .next (s.after s.u))) ∧
    (∀ ring,
      let d := s.u.desc ring
      (∀ w, d.port < 16 → d.context < 64 → s.u.watchOf d.port d.context = some w →
        (w.frozen = false → d.q ≠ [] → exec (.ringEntryUnconsumed ring) s = .next (s.after (s.u.declareL0 d.port d.context 0xFFFFFFFF))) ∧
        (w.frozen = true ∨ d.q = [] → exec (.ringEntryUnconsumed ring) s = .next (s.after s.u))) ∧
      (16 ≤ d.port ∨ 64 ≤ d.context ∨ s.u.watchOf d.port d.context = none → exec (.ringEntryUnconsumed ring) s = .next (s.after s.u)))

/-- Resets, their confirms, watches and fences act as the Snuffer provides. RESET_CONFIRM OK ends the reset and may end containment, ABORTED_RESET of a context reset says that a compute-part reset has taken it over, and any other confirms nothing. RESET_CONFIRM_WAIT_EXPIRY sends the RESET once more with the same sequence, and the second time makes an unconfirmed context reset an L1 declaration where that is set and the block has the compute-part reset, and else loses the position. GENERATION_BUMP_ACK of a containment frees the owner's regions, ends an L0 one whose reset is confirmed, and lets the resets and fault reports of an L1 one go. VIGIL_WATCH of an enabled context and VIGIL_UNWATCH set and remove the watch entry and complete OK. SNUF_RESET of kind 1 resets the contexts, of kind 2 the compute part, which takes context resets over; one that runs already answers BUSY_RETRY. SNUF_UNFENCE lifts a fence on a port confirmed clean, and else answers BAD_STATE. Values out of range end with BAD_PARAM, a sender that may not with NOT_PRIVILEGED. -/
def Obligations.SnufferResetsAndFences : Prop :=
  ∀ (s : State) (h : SHdr) (c : Cmd) (port ctx : Nat),
    (∀ kind st gen duration, s.hears h 0x0E →
      (((s.u.ig h.port).resets.find? fun r => r.seq = h.seq && r.kind = kind) = none →
        exec (.resetConfirm h kind st gen duration) s = .next (s.after s.u)) ∧
      (∀ r, ((s.u.ig h.port).resets.find? fun r => r.seq = h.seq && r.kind = kind) = some r →
        let u1 := s.u.upIg h.port fun g => { g with resets := g.resets.filter fun x => x.seq ≠ r.seq,
                                                    applyStep := if kind = 1 then NMap.put g.applyStep 0 r.ctx r.released else g.applyStep }
        let u2 := (((u1.upV fun v => { v with clean := setBit v.clean h.port }).refreeze h.port).releaseRun h.port (if kind = 2 then 0xFF else r.ctx)).ctlAll h.port
        let u3 := u2.resetCmdsDone h.port St.OK fun c => (u2.ig h.port).resets.isEmpty || c = r.ctx
        (st = St.OK → exec (.resetConfirm h kind st gen duration) s = .next (s.after ((u3.later (.confirmed h.port r.ctx)).containCheck h.port))) ∧
        (st = St.ABORTED_RESET → kind = 1 → exec (.resetConfirm h kind st gen duration) s =
          .next (s.after ((u1.resetCmdsDone h.port St.ABORTED_RESET fun c => c = r.ctx).refreeze h.port))) ∧
        (st ≠ St.OK → st ≠ St.ABORTED_RESET ∨ kind ≠ 1 → exec (.resetConfirm h kind st gen duration) s = .next (s.after s.u)))) ∧
    (∀ kind r, ((s.u.ig port).resets.find? fun r => r.kind = kind && (kind = 2 || r.ctx = ctx)) = some r →
      (r.resent = false → exec (.resetConfirmWaitExpiry port kind ctx) s = .next (s.after
        ((s.u.upIg port fun g => { g with resets := g.resets.map fun x => if x.seq = r.seq then { x with resent := true } else x }).resetMsg port r))) ∧
      (r.resent = true →
        let u1 := (s.u.count 0x780118).raise Ev.RESET_NO_CONFIRM (if kind = 2 then 1 else 0) 0x078 0
        let wider := kind = 1 ∧ (u1.ig port).has 5 = true ∧ bitAt (u1.cfg 0x78000C 1) 0 = true
        (wider → exec (.resetConfirmWaitExpiry port kind ctx) s = .next (s.after (((((u1.upIg port fun g =>
            { g with resets := g.resets.filter fun x => x.seq ≠ r.seq }).resetCmdsDone port St.ABORTED_RESET fun c => c = r.ctx).upV fun v =>
            { v with contains := v.contains.filter fun x => !(x.port = port && x.ctx = r.ctx) })).declareL1 port 0 0xFFFFFFFF))) ∧
        (¬wider → exec (.resetConfirmWaitExpiry port kind ctx) s = .next (s.after (u1.lose port 0))))) ∧
    ((∀ x, (s.u.vig.contains.find? fun x => x.port = port && x.ctx = ctx && !x.bumped) = some x →
      let u1 := s.u.upV fun v => { v with contains := v.contains.map fun y => if y.port = port && y.ctx = ctx then { y with bumped := true } else y }
      let old := fun c => wrapW 16 (u1.ctxGen port c + 2 ^ 16 - 1)
      let all := fun (v : Units) => ((v.faultUp 1 1 port 0xFF St.ABORTED_RESET x.jobs).later (.candidate port 0xFF))
      let free := fun (v : Units) => (all v).freeOwner ((all v).cidOf port) 0xFF
      (x.level = 0 → exec (.generationBumpAck port ctx) s = .next (s.after ((u1.freeOwner (u1.cidOf port) ctx).containCheck port))) ∧
      (x.level ≠ 0 → (u1.ig port).has 5 = true →
        let v := (u1.sendReset port 2 0xFF (u1.accGen port) 0 0 (wrapW 16 (u1.accGen port + 2 ^ 16 - 1)) (u1.mirroredOn port)).abortAll port (List.range 64)
        exec (.generationBumpAck port ctx) s = .next (s.after (free v))) ∧
      (x.level ≠ 0 → (u1.ig port).has 5 = false →
        let cs := u1.enabledOn port
        let v := (cs.foldl (fun u c => u.sendReset port 1 c (u.ctxGen port c) (u.released (u.jobOf port c)) (old c) (u.accGen port) false) u1).abortAll port cs
        (cs ≠ [] → exec (.generationBumpAck port ctx) s = .next (s.after (free v))) ∧
        (cs = [] → exec (.generationBumpAck port ctx) s = .next (s.after ((free v).lose port 1))))) ∧
     ((s.u.vig.contains.find? fun x => x.port = port && x.ctx = ctx && !x.bumped) = none →
      let runs := if ctx < 64 then s.u.resetting port ctx else s.u.cprRunning port
      (runs = true → exec (.generationBumpAck port ctx) s = .next (s.after (s.u.freeOwner (s.u.cidOf port) ctx))) ∧
      (runs = false → exec (.generationBumpAck port ctx) s = .next (s.after s.u)))) ∧
    (isOperator (stampPriv c.stamp) = true →
      (∀ job prio mask timeout,
        let good := port < 16 ∧ ctx < 64 ∧ prio ≤ 7 ∧ mask ≤ 15 ∧ (timeout = 0 ∨ 10 ≤ timeout ∧ timeout ≤ 600000)
        (¬good → exec (.vigilWatch c job port ctx prio mask timeout) s = .next (s.after (s.u.done c 0x070 0x0701 St.BAD_PARAM))) ∧
        (good → s.u.ctxEnabled port ctx = true →
          exec (.vigilWatch c job port ctx prio mask timeout) s = .next (s.after ((s.u.setWatch job port ctx prio mask timeout).done c 0x070 0x0701 St.OK))) ∧
        (good → s.u.ctxEnabled port ctx = false →
          exec (.vigilWatch c job port ctx prio mask timeout) s = .next (s.after (s.u.done c 0x070 0x0701 St.BAD_STATE)))) ∧
      (port < 16 → ctx < 64 →
        exec (.vigilUnwatch c port ctx) s = .next (s.after (((s.u.upV fun v => { v with watch := NMap.del v.watch (64 * port + ctx) }).watchReport
          (s.u.jobOf port ctx) port ctx 0 0 false).done c 0x070 0x0702 St.OK))) ∧
      (16 ≤ port ∨ 64 ≤ ctx → exec (.vigilUnwatch c port ctx) s = .next (s.after (s.u.done c 0x070 0x0702 St.BAD_PARAM))) ∧
      (16 ≤ port → exec (.snufUnfence c port) s = .next (s.after (s.u.done c 0x078 0x0704 St.BAD_PARAM))) ∧
      (port < 16 → s.u.fenced port = true → bitAt s.u.vig.clean port = true →
        exec (.snufUnfence c port) s = .next (s.after ((s.u.unfence port).done c 0x078 0x0704 St.OK))) ∧
      (port < 16 → s.u.fenced port = false ∨ bitAt s.u.vig.clean port = false →
        exec (.snufUnfence c port) s = .next (s.after (s.u.done c 0x078 0x0704 St.BAD_STATE)))) ∧
    (isOperator (stampPriv c.stamp) = false →
      (∀ job prio mask timeout, exec (.vigilWatch c job port ctx prio mask timeout) s = .next (s.after (s.u.done c 0x070 0x0701 St.NOT_PRIVILEGED))) ∧
      exec (.vigilUnwatch c port ctx) s = .next (s.after (s.u.done c 0x070 0x0702 St.NOT_PRIVILEGED)) ∧
      exec (.snufUnfence c port) s = .next (s.after (s.u.done c 0x078 0x0704 St.NOT_PRIVILEGED))) ∧
    (∀ kind,
      let own := isTenant (stampPriv c.stamp) = true ∧ kind = 1 ∧ port < 16 ∧ ctx < 64 ∧ s.u.jobOf port ctx ≠ 0 ∧ s.u.jobOf port ctx = (s.u.desc c.ring).job
      let may := isOperator (stampPriv c.stamp) = true ∨ own
      let good := port < 16 ∧ (ctx < 64 ∨ ctx = 0xFF) ∧ (kind = 1 ∨ kind = 2)
      let ends := fun st => exec (.snufReset c port ctx kind) s = .next (s.after (s.u.done c 0x078 0x0703 st))
      let cs := if ctx = 0xFF then s.u.enabledOn port else [ctx]
      let busy := s.u.cprRunning port = true ∨ kind = 1 ∧ (∃ x ∈ cs, s.u.resetting port x = true)
      let noted := fun k => s.u.upV fun v => { v with resetCmds := v.resetCmds ++ [(port, k, c.ring, c.tag, c.stamp, c.gen)] }
      (¬may → ends St.NOT_PRIVILEGED) ∧
      (may → ¬good → ends St.BAD_PARAM) ∧
      (may → good → kind = 2 → (s.u.ig port).has 5 = false → ends St.UNSUPPORTED) ∧
      (may → good → (kind = 2 → (s.u.ig port).has 5 = true) →
        (busy → ends St.BUSY_RETRY) ∧
        (¬busy → kind = 1 →
          (cs = [] → ends St.OK) ∧
          (cs ≠ [] → exec (.snufReset c port ctx kind) s = .next (s.after
            (cs.foldl (fun u x => u.resetCtx port x false (u.released (u.jobOf port x))) (noted (if ctx = 0xFF then 0xFE else ctx)))))) ∧
        (¬busy → kind = 2 →
          let v := (noted 0xFF).installAll port
          exec (.snufReset c port ctx kind) s = .next (s.after
            ((v.sendReset port 2 0xFF (v.accGen port) 0 0 (s.u.accGen port) (v.mirroredOn port)).abortAll port (List.range 64))))))

/-- Wait replies and probes, fault notices and lantern heartbeats act. WAITFOR_REPLY whose count agrees with its length keeps the edges of a context, and of a stalled one starts and carries on probes; one that does not agree is dropped and counted. WAIT_PROBE carries on at a stalled context whose reply is fresh, and asks another first; WAIT_BREAK breaks the waits of a stalled context of its generation, and else is counted as stale. LHB_SEND goes to every neighbour and the warden; LHB resets the warden's misses and reports a generation that differs from the route's; LPROBE is answered; LPROBE_ACK and LPROBE_WAIT_EXPIRY end the wait, the latter with a report to the warden, or, at the warden, a probe of its own. FAULT_UP at the keeper takes the next notice sequence and the role epoch, fences the position's route, goes out as PF_NOTICE to the job's T3s and the other keepers and, but for a broken cycle, opens the recovery; at a keeper whose outputs wait it waits, and elsewhere it changes nothing. PF_NOTICE is applied once and acknowledged, and a keeper sends it on; one of a lower role epoch is stale. PF_ACK of OK ends its notice; PF_ACK_WAIT_EXPIRY sends again three times, then records VIGIL_NOTICE_UNACKED. -/
def Obligations.WaitsNoticesAndLanternHeartbeatsAct : Prop :=
  ∀ (s : State) (h : SHdr) (l : LHdr),
    (∀ count len edges,
      let sound := len = 8 + 16 * count ∧ edges.length = count ∧ len ≤ 4128
      (¬sound → exec (.waitforReply h ⟨count, len, edges⟩) s = .next (s.after (s.u.msgUnknown h.port))) ∧
      (sound → s.hears h 0x12 →
        (s.u.watchOf h.port h.ctx = none → exec (.waitforReply h ⟨count, len, edges⟩) s = .next (s.after s.u)) ∧
        (∀ w, s.u.watchOf h.port h.ctx = some w →
          let w1 := { w with edges := (edges.take 8).map fun e => { e with tag := (s.u.ig h.port).opTag e.tag },
                             replyAt := s.u.clk.mono, replied := true, query := false }
          let u1 := s.u.upWatchE h.port h.ctx fun _ => { w1 with waiting := [] }
          (w.stalled = false → exec (.waitforReply h ⟨count, len, edges⟩) s = .next (s.after u1)) ∧
          (w.stalled = true →
            let id := u1.vig.probeId + 1
            let u2 := (u1.upV fun v => { v with probeId := id }).extend u1.self id w1.job [] h.port h.ctx w1
            exec (.waitforReply h ⟨count, len, edges⟩) s = .next (s.after
              (w1.waiting.foldl (fun u x => u.extend x.1 x.2.1 w1.job x.2.2 h.port h.ctx w1) u2)))))) ∧
    (let n := wrapW 32 (s.u.vig.lhbSeq + 1)
     let u1 := s.u.upV fun v => { v with lhbSeq := n }
     let near := (((List.range 6).map fun i => u1.port (16 + i)).filter fun l => l.state = 4 && l.peerCid ≠ 0).map (·.peerCid)
     let w := (u1.roleOf u1.role.wardenId).holder
     exec .lhbSend s = .next (s.after ((if w = 0 || w = u1.self || near.contains w then near else near ++ [w]).foldl
       (fun u d => u.sendL d 0x40 0 0 16 2 [n, u1.role.t3Gen, 0]) u1))) ∧
    (s.hearsL l →
      (∀ seq gen health,
        ((s.u.roleOf s.u.role.wardenId).holding = false → exec (.lhb l seq gen health) s = .next (s.after s.u)) ∧
        ((s.u.roleOf s.u.role.wardenId).holding = true →
          let u1 := s.u.upWatch l.src fun w => { w with misses := 0, probing := false, failed := false, gen := gen }
          (u1.lanternStale { l with srcGen := gen } = false → exec (.lhb l seq gen health) s = .next (s.after u1)) ∧
          (u1.lanternStale { l with srcGen := gen } = true →
            exec (.lhb l seq gen health) s = .next (s.after (u1.report u1.role.keeperId 4 5 [l.src, gen]))))) ∧
      (exec (.lprobe l) s = .next (s.after (s.u.sendL l.src 0x42 1 l.seq 8 2 [s.u.role.t3Gen]))) ∧
      (∀ gen,
        let u1 := s.u.upV fun v => { v with lprobes := v.lprobes.filter fun c => c ≠ l.src }
        (NMap.has s.u.role.watch l.src = false → exec (.lprobeAck l gen) s = .next (s.after u1)) ∧
        (NMap.has s.u.role.watch l.src = true →
          exec (.lprobeAck l gen) s = .next (s.after (u1.upWatch l.src fun w => { w with misses := 0, probing := false })))) ∧
      (∀ n members, (s.u.roleOf s.u.role.keeperId).holding = false → exec (.faultUp l n members) s = .next (s.after s.u)) ∧
      (∀ n members, (s.u.roleOf s.u.role.keeperId).holding = true → s.u.actsAs s.u.role.keeperId = false →
        exec (.faultUp l n members) s = .next (s.after (s.u.toRole s.u.role.keeperId 0x43 64 (n.words ++ members)))) ∧
      (∀ n members, (s.u.roleOf s.u.role.keeperId).holding = true → s.u.actsAs s.u.role.keeperId = true →
        let m : Notice := { n with seq := s.u.role.noticeSeq + 1, epoch := (s.u.roleOf s.u.role.keeperId).epoch }
        let u1 := s.u.upR fun x => { x with noticeSeq := x.noticeSeq + 1 }
        ∀ u2 : Units, (∃ e, NMap.find u1.role.routes m.cid = some e ∧ m.kind = 1 ∧ u2 = u1.issueRoutes [{ e with fenced := true, gen := m.accGen }]) ∨
            (NMap.find u1.role.routes m.cid = none ∨ m.kind ≠ 1) ∧ u2 = u1 →
          let known := NMap.getD u2.vig.jobT3s m.job []
          let t3s := known ++ members.filter fun c => !(known.contains c)
          let keepers := (u2.role.role.filter fun p => roleLevel p.1 = 4 && p.1 ≠ u2.role.keeperId && p.2.holder ≠ 0 && p.2.holder ≠ u2.self).map (·.2.holder)
          let u3 := (t3s ++ keepers.filter fun c => !(t3s.contains c)).foldl (fun u d =>
            if d = u.self then (u.upV fun v => { v with applied := NMap.set v.applied m.key m.seq }).peerFault m
            else (u.reqL d 0x44 64 4 m.words).upV fun v => { v with notices := v.notices ++ [(m.seq, d, 0, m)] }) u2
          (m.kind = 3 → exec (.faultUp l n members) s = .next (s.after (u3.later (.noticed m.cid m.job)))) ∧
          (m.kind ≠ 3 → exec (.faultUp l n members) s =
            .next (s.after ((u3.later (.noticed m.cid m.job)).later (.recover m.job m.cid m.ctx t3s))))) ∧
      (∀ n, n.epoch < (s.u.roleOf s.u.role.keeperId).epoch → (s.u.roleOf s.u.role.keeperId).holding = false →
        exec (.pfNotice l n) s = .next (s.after (s.u.staleL l))) ∧
      (∀ n, (s.u.roleOf s.u.role.keeperId).epoch ≤ n.epoch ∨ (s.u.roleOf s.u.role.keeperId).holding = true →
        let last := NMap.getD s.u.vig.applied n.key 0
        let u1 := (s.u.upV fun v => { v with applied := NMap.set v.applied n.key n.seq }).peerFault n
        let ack := fun (u : Units) => u.answerL l.src 0x45 l.seq 16 4 [n.seq, n.cid, n.job, St.OK]
        (n.seq < last → exec (.pfNotice l n) s = .next (s.after s.u)) ∧
        (n.seq = last → exec (.pfNotice l n) s = .next (s.after (ack s.u))) ∧
        (last < n.seq →
          ((s.u.roleOf s.u.role.keeperId).holding = false → exec (.pfNotice l n) s = .next (s.after (ack u1))) ∧
          ((s.u.roleOf s.u.role.keeperId).holding = true → exec (.pfNotice l n) s = .next (s.after
            ((((ack u1).scopeOf (ack u1).role.keeperId).foldl (fun u d => (u.reqL d 0x44 64 4 n.words).upV fun v =>
              { v with notices := v.notices ++ [(n.seq, d, 0, n)] }) (ack u1)).later (.peerKeeper n.job l.src)))))) ∧
      (∀ seq cid job st,
        (st = St.OK → exec (.pfAck l seq cid job st) s = .next (s.after (s.u.upV fun v =>
          { v with notices := v.notices.filter fun x => !(x.1 = seq && x.2.1 = l.src) }))) ∧
        (st ≠ St.OK → exec (.pfAck l seq cid job st) s = .next (s.after s.u))) ∧
      (∀ origin pid job path target ctx,
        (s.u.portOf target = none → exec (.waitProbe l origin pid job path target ctx) s = .next (s.after s.u)) ∧
        (∀ p, s.u.portOf target = some p →
          let cs := (List.range 64).filter fun c => (ctx = 0xFF || c = ctx) &&
            (match s.u.watchOf p c with | some w => w.stalled && (ctx ≠ 0xFF || w.job = job) | none => false)
          exec (.waitProbe l origin pid job path target ctx) s = .next (s.after (cs.foldl (fun u c => match u.watchOf p c with
            | none => u
            | some w =>
              if w.replied = true ∧ u.clk.mono ≤ w.replyAt + 1000000 then u.extend origin pid job path p c w
              else (u.upWatchE p c fun w => { w with waiting := w.waiting ++ [(origin, pid, path)] }).askWait p c) s.u)))) ∧
      (∀ cid ctx gen pid finder,
        (s.u.portOf cid = none → exec (.waitBreak l cid ctx gen pid finder) s = .next (s.after (s.u.staleL l))) ∧
        (∀ p, s.u.portOf cid = some p →
          (s.u.watchOf p ctx = none → exec (.waitBreak l cid ctx gen pid finder) s = .next (s.after (s.u.staleL l))) ∧
          (∀ w, s.u.watchOf p ctx = some w →
            let breaks := w.stalled = true ∧ w.gen = gen ∧ s.u.fenced p = false ∧ s.u.resetting p ctx = false
            (¬breaks → exec (.waitBreak l cid ctx gen pid finder) s = .next (s.after (s.u.staleL l))) ∧
            (breaks →
              let u1 := (s.u.upWatchE p ctx fun w => { w with broken := true }).resetCtx p ctx false (s.u.released w.job)
              let u2 := u1.upV fun v => { v with
                contains := v.contains ++ [{ port := p, ctx := ctx, level := 0, bumped := false, brk := true, jobs := [w.job], open_ := 1, served := false }] }
              exec (.waitBreak l cid ctx gen pid finder) s = .next (s.after (((u2.count 0x700128).raise Ev.VIGIL_CYCLE_BROKEN 0 0x070
                (payloadOf [(0, 4, w.job), (4, 1, p), (5, 1, ctx), (6, 2, gen)])).faultUp 3 0 p ctx St.BUSY_RETRY [w.job]))))))) ∧
    (∀ cid,
      (s.u.vig.lprobes.contains cid = false → exec (.lprobeWaitExpiry cid) s = .next (s.after s.u)) ∧
      (s.u.vig.lprobes.contains cid = true →
        let u1 := s.u.upV fun v => { v with lprobes := v.lprobes.filter fun c => c ≠ cid }
        ((u1.roleOf u1.role.wardenId).holding = false →
          exec (.lprobeWaitExpiry cid) s = .next (s.after (u1.emit (.bus 14 [(u1.roleOf u1.role.wardenId).holder, cid])))) ∧
        ((u1.roleOf u1.role.wardenId).holding = true → exec (.lprobeWaitExpiry cid) s =
          .next (s.after ((u1.upWatch cid fun w => { w with misses := 5, probing := true }).reqL cid 0x41 8 2 []))))) ∧
    (∀ seq cid,
      ((s.u.vig.notices.find? fun x => x.1 = seq && x.2.1 = cid) = none → exec (.pfAckWaitExpiry seq cid) s = .next (s.after s.u)) ∧
      (∀ x, (s.u.vig.notices.find? fun x => x.1 = seq && x.2.1 = cid) = some x →
        (x.2.2.1 < 3 → exec (.pfAckWaitExpiry seq cid) s = .next (s.after ((s.u.upV fun v =>
          { v with notices := v.notices.map fun y => if y.1 = seq && y.2.1 = cid then (y.1, y.2.1, y.2.2.1 + 1, y.2.2.2) else y }).reqL cid 0x44 64 4
            x.2.2.2.words))) ∧
        (3 ≤ x.2.2.1 → exec (.pfAckWaitExpiry seq cid) s = .next (s.after ((s.u.upV fun v =>
          { v with notices := v.notices.filter fun y => !(y.1 = seq && y.2.1 = cid) }).raise Ev.VIGIL_NOTICE_UNACKED 4 0x070
            (payloadOf [(0, 4, seq), (4, 3, cid)]))))))

/-- Flicker's samples, buckets, sweeps, evaluations, commands and timers act on components. GLIM with a good CRC is sampled into its component, which the first one creates, with the missing ones before it counted and an evaluation triggered by more uncorrected errors; one with a bad CRC counts a missing sample. FLICKER_POLL samples each port from its counters and each polled component from its read, or counts it missing; FLICKER_GLIM_MISSING counts one; FLICKER_BUCKET_BOUNDARY closes the open bucket of each component. FLICKER_SWEEP lets a model that runs take over, numbers a sweep, merges what was triggered and gives the model every full component it serves. FLICKER_TRIGGERED_EVAL gives the model the component, unless it comes within 100 ms or the sweep has it. FLICKER_COMPLETION scores the item's components, drops what comes for a cancelled item, and records any other as a bad output. FLICKER_EVAL waits for its component; FLICKER_RESET_HISTORY clears one or all; FLICKER_LOAD_MODEL loads a sound image; each is refused as Table 14-13 says. The two clears stop evaluation and sampling for an operator. Stale expiry, prestage renewal, the calibration hour and the false-alarm hour act on their components. -/
def Obligations.FlickerSamplesEvaluatesAndClears : Prop :=
  ∀ (s : State) (h : SHdr) (w : Who) (c : Cmd) (k : Nat),
    (∀ g, s.hears h 0x02 →
      let key := s.u.compKey (g.getD 0 0) (g.getD 1 0) h.port
      (s.u.flick.extract = false → exec (.glim h g) s = .next (s.after s.u)) ∧
      (s.u.flick.extract = true → crc32c (g.take 60) ≠ fieldAt g 60 4 →
        (∀ k, key = some k → exec (.glim h g) s = .next (s.after (s.u.miss k 1))) ∧
        (key = none → exec (.glim h g) s = .next (s.after (s.u.count 0xD00108)))) ∧
      (s.u.flick.extract = true → crc32c (g.take 60) = fieldAt g 60 4 →
        (6 ≤ g.getD 0 0 → exec (.glim h g) s = .next (s.after s.u)) ∧
        (g.getD 0 0 < 6 →
          (∀ v, key = none → s.u.addComp (g.getD 0 0) (g.getD 1 0) h.port = (v, none) → exec (.glim h g) s = .next (s.after v)) ∧
          (∀ v k, key = some k ∧ v = s.u ∨ key = none ∧ s.u.addComp (g.getD 0 0) (g.getD 1 0) h.port = (v, some k) →
            let c := v.comp k
            let us := if c.seq.isNone ∨ fieldAt g 4 4 = c.ended then 1000 * (v.ig h.port).glimPeriod else wrapW 32 (fieldAt g 4 4 + 2 ^ 32 - c.ended)
            ∀ gap v1, (c.seq = none ∧ gap = 0 ∨ ∃ q, c.seq = some q ∧
                gap = if q = fieldAt g 2 2 then 0 else wrapW 16 (fieldAt g 2 2 + 2 * 2 ^ 16 - q - 1) - c.late) →
              v1 = (if gap = 0 then v else v.miss k gap) →
              let v2 := (v1.sampleIn k (c.glimSignals g us)).upComp k fun c =>
                { c with seq := some (fieldAt g 2 2), ended := fieldAt g 4 4, late := 0, faults := 0,
                         last := NMap.set (NMap.set c.last 5 (fieldAt g 20 4)) 12 (fieldAt g 44 4) }
              (c.inc 5 (fieldAt g 20 4) = 0 → exec (.glim h g) s = .next (s.after v2)) ∧
              (c.inc 5 (fieldAt g 20 4) ≠ 0 → exec (.glim h g) s = .next (s.after (v2.trigger k))))))) ∧
    (∀ reads : List (Nat × Bool × List (Nat × Int × Nat)),
      (s.u.flick.extract = false → exec (.flickerPoll reads) s = .next (s.after s.u)) ∧
      (s.u.flick.extract = true → exec (.flickerPoll reads) s = .next (s.after (reads.foldl (fun u r =>
        let cls := (u.comp r.1).cls
        let xs := (List.range 16).map fun x => if 14 ≤ x then 0 else match r.2.2.lookup x with | some v => mkRat v.1 v.2 | none => 0
        if NMap.has u.flick.comps r.1 = true ∧ (cls = 6 ∨ cls = 7 ∨ cls = 10 ∨ cls = 11) then
          (if r.2.1 = true then (if 0 < xs.getD 5 0 then (u.sampleIn r.1 xs).trigger r.1 else u.sampleIn r.1 xs) else u.miss r.1 1)
        else u)
        ((s.u.flick.comps.filter fun e => e.2.cls = 8 || e.2.cls = 9).foldl (fun u e =>
          let p := if e.2.cls = 8 then e.2.idx else 16 + e.2.idx
          (u.sampleIn e.1 (u.portSignals e.2 p)).upComp e.1 fun c => { c with last := u.portCounts p }) s.u))))) ∧
    (s.u.flick.extract = true → (s.u.comp k).seq ≠ none →
      exec (.flickerGlimMissing k) s = .next (s.after ((s.u.miss k 1).upComp k fun c => { c with late := c.late + 1 }))) ∧
    (s.u.flick.extract = false ∨ (s.u.comp k).seq = none → exec (.flickerGlimMissing k) s = .next (s.after s.u)) ∧
    (exec .flickerBucketBoundary s = .next (s.afterM (s.u.flick.comps.foldl (fun a e => bucketClose a.1 a.2 e.1) (s.mem, s.u)))) ∧
    (s.u.flick.enable = false → exec .flickerSweep s = .next (s.after s.u)) ∧
    (s.u.flick.enable = true → ∀ v : Units,
      (∃ x, s.u.flick.next = some x ∧ (s.u.slot x.slot).state = 3 ∧
        v = (s.u.upF fun f => { f with old := f.old ++ f.model.toList, model := some x, next := none }).oldModel) ∨
        ((∀ x, s.u.flick.next = some x → (s.u.slot x.slot).state ≠ 3) ∧ v = s.u) →
      (v.flick.model = none → exec .flickerSweep s = .next (s.after v)) ∧
      (∀ x, v.flick.model = some x →
        let no := wrapW 63 (v.flick.sweep + 1)
        let late := (v.flick.comps.filter fun e => e.2.pending).length
        let u1 := v.upF fun f => { f with sweep := no, comps := NMap.mapV f.comps fun _ c => { c with pending := false } }
        let u2 := if late = 0 then u1 else u1.count 0xD00118 late
        exec .flickerSweep s = .next (s.after ((evalRuns ((u2.flick.comps.filter fun e => 2 ≤ e.2.state && bitAt x.mask e.2.cls).map
          fun e => (e.1, e.2.cls))).foldl (fun u r => u.pushEval x.slot no r.1 r.2) u2)))) ∧
    (let due := s.u.flick.enable = true ∧ (s.u.comp k).pending = true ∧ (∀ t, (s.u.comp k).trigAt = some t → t + 100000000 ≤ s.u.clk.mono) ∧ 2 ≤ (s.u.comp k).state
     (s.u.flick.model = none ∨ ¬due → exec (.flickerTriggeredEval k) s = .next (s.after s.u)) ∧
     (∀ x, s.u.flick.model = some x → due →
       ((s.u.flick.items.any fun i => i.no < 2 ^ 63 && i.comps.contains k) = true →
         exec (.flickerTriggeredEval k) s = .next (s.after (s.u.upComp k fun c => { c with pending := false }))) ∧
       ((s.u.flick.items.any fun i => i.no < 2 ^ 63 && i.comps.contains k) = false →
         let u1 := s.u.upComp k fun c => { c with pending := false, trigAt := some s.u.clk.mono }
         exec (.flickerTriggeredEval k) s = .next (s.afterM
           (putFeatures s.mem u1 k (wrapW 32 (s.u.clk.mono / 10 ^ 10)) ((s.u.comp k).cur :: (s.u.comp k).ring),
            (u1.cureAt u1.flick.region (0xC00000 + 288 * k) 288).pushEval x.slot (2 ^ 63 + s.u.flick.sweep) (s.u.comp k).cls [k]))))) ∧
    (∀ sweep kind entries,
      let mine := s.u.flick.items.filter fun i => i.no = sweep
      let named := mine.find? fun i => entries.any fun e => i.comps.contains e.1
      let bad := fun (u : Units) => u.flickEvent Ev.FLICKER_MODEL_OUTPUT_BAD
      (mine = [] →
        (∀ i, (s.u.flick.lapsed.find? fun i => i.no = sweep) = some i → exec (.flickerCompletion sweep kind entries) s =
          .next (s.after (s.u.upF fun x => { x with lapsed := x.lapsed.erase i }))) ∧
        ((s.u.flick.lapsed.find? fun i => i.no = sweep) = none →
          exec (.flickerCompletion sweep kind entries) s = .next (s.after (bad s.u)))) ∧
      (∀ i, named = some i ∨ named = none ∧ mine.head? = some i →
        let u1 := (s.u.upF fun x => { x with items := x.items.erase i }).upSlot i.slot fun s => { s with done := s.done.drop 1 }
        (kind ≠ 0 → exec (.flickerCompletion sweep kind entries) s = .next (s.after (bad u1).oldModel)) ∧
        (kind = 0 → exec (.flickerCompletion sweep kind entries) s = .next (s.after (entries.foldl (fun u e =>
          if i.comps.contains e.1 = true then ((u.score e.1 e.2.1 e.2.2.1 e.2.2.2.1 e.2.2.2.2).evalCount (2 ^ 63 ≤ sweep)).evalAnswers e.1
          else bad u) u1).oldModel)))) ∧
    (isOperator (stampPriv c.stamp) = true →
      (let served := ∃ m, s.u.flick.model = some m ∧ bitAt m.mask (s.u.comp k).cls = true
       let good := 2 ≤ (s.u.comp k).state ∧ s.u.flick.enable = true ∧ served
       (NMap.has s.u.flick.comps k = false → exec (.flickerEval c k) s = .next (s.after (s.u.done c 0x0D0 0x0A02 St.BAD_PARAM))) ∧
       (NMap.has s.u.flick.comps k = true → good →
         exec (.flickerEval c k) s = .next (s.after ((s.u.trigger k).upF fun f => { f with evals := f.evals ++ [(k, c)] }))) ∧
       (NMap.has s.u.flick.comps k = true → ¬good → exec (.flickerEval c k) s = .next (s.after (s.u.done c 0x0D0 0x0A02 St.BAD_STATE)))) ∧
      (let cleared := fun (u : Units) (k : Nat) => (u.clearHistory k).upComp k fun c => { c with drain := false }
       (k = 0xFFFF → exec (.flickerResetHistory c k) s = .next (s.after
         (((NMap.keys s.u.flick.comps).foldl cleared s.u).mirrorNow.done c 0x0D0 0x0A03 St.OK))) ∧
       (k ≠ 0xFFFF → NMap.has s.u.flick.comps k = true →
         exec (.flickerResetHistory c k) s = .next (s.after ((cleared s.u k).mirrorNow.done c 0x0D0 0x0A03 St.OK))) ∧
       (k ≠ 0xFFFF → NMap.has s.u.flick.comps k = false →
         exec (.flickerResetHistory c k) s = .next (s.after (s.u.done c 0x0D0 0x0A03 St.BAD_PARAM))))) ∧
    (isOperator (stampPriv c.stamp) = false → ∀ region off,
      exec (.flickerEval c k) s = .next (s.after (s.u.done c 0x0D0 0x0A02 St.NOT_PRIVILEGED)) ∧
      exec (.flickerResetHistory c k) s = .next (s.after (s.u.done c 0x0D0 0x0A03 St.NOT_PRIVILEGED)) ∧
      exec (.flickerLoadModel c region off) s = .next (s.after (s.u.done c 0x0D0 0x0A01 St.NOT_PRIVILEGED))) ∧
    (∀ region off, isOperator (stampPriv c.stamp) = true →
      let ends := fun st => exec (.flickerLoadModel c region off) s = .next (s.after (s.u.done c 0x0D0 0x0A01 st))
      let general := ∃ r, NMap.find s.u.mantle.regions region = some r ∧ r.typ = 8
      (s.u.flick.loading.isSome = true → ends St.BUSY_RETRY) ∧
      (s.u.flick.loading = none → ¬general → ends St.BAD_PARAM) ∧
      (s.u.flick.loading = none → general → imageCheck s.mem s.u region off ≠ St.OK → ends (imageCheck s.mem s.u region off)) ∧
      (s.u.flick.loading = none → general → imageCheck s.mem s.u region off = St.OK → ∀ u' st, loadModel s.mem s.u region off (some c) = (u', st) →
        (st = St.OK → exec (.flickerLoadModel c region off) s = .next (s.after (u'.upF fun x => { x with fault := none }))) ∧
        (st ≠ St.OK → exec (.flickerLoadModel c region off) s = .next (s.after (u'.done c 0x0D0 0x0A01 st))))) ∧
    (isOperator w.priv = true →
      (s.u.flick.enable = true → exec (.flickerEnableClear w) s = .next (s.after
        { s.u.upF (fun x => { x with enable := false, draining := true }) with
          drains := s.u.drains ++ [{ unit := 0x0D, items := s.u.flick.items.length, enableHeld := false }] })) ∧
      (exec (.flickerExtractClear w) s = .next (s.after (s.u.upF fun x => { x with extract := false })))) ∧
    (isOperator w.priv = false ∨ s.u.flick.enable = false → exec (.flickerEnableClear w) s = .next (s.after s.u)) ∧
    (isOperator w.priv = false → exec (.flickerExtractClear w) s = .next (s.after s.u)) ∧
    ((s.u.comp k).state = 2 → exec (.flickerStaleExpiry k) s = .next (s.after (s.u.upComp k fun c => { c with state := 3, sample := none }))) ∧
    ((s.u.comp k).state ≠ 2 → exec (.flickerStaleExpiry k) s = .next (s.after s.u)) ∧
    (let stays := (s.u.comp k).flag = true ∧ (s.u.comp k).granted = true ∧ s.u.flick.enable = true
     (∀ hold, (s.u.comp k).prestage = some hold → stays →
       exec (.flickerPrestageRenew k) s = .next (s.after (s.u.askSpare (s.u.cidOf (s.u.comp k).port) (s.u.compTarget k (s.u.comp k)).job 3 hold))) ∧
     ((s.u.comp k).prestage = none ∨ ¬stays → exec (.flickerPrestageRenew k) s = .next (s.after s.u))) ∧
    (exec .flickerCalibrationHour s = .next (s.after (s.u.flick.comps.foldl (fun u e =>
      if e.2.state ≠ 2 then u
      else
        let v := match e.2.sample with
          | some (b, hit) => u.upF fun x => { x with
              qual := NMap.set x.qual (16 * e.2.cls + b) (satW 32 ((NMap.getD x.qual (16 * e.2.cls + b) (0, 0)).1 + 1), satW 32 ((NMap.getD x.qual (16 * e.2.cls + b) (0, 0)).2 + b2n hit)) }
          | none => u
        v.upComp e.1 fun c => { c with sample := some (16 * e.2.risk1 / 65536, false) }) s.u))) ∧
    ((s.u.comp k).raises = [] → exec (.flickerFalseAlarmHour k) s = .next (s.after s.u)) ∧
    (∀ r rest, (s.u.comp k).raises = rest ++ [r] →
      let u1 := s.u.upComp k fun c => { c with raises := rest }
      (r.charged = true → exec (.flickerFalseAlarmHour k) s = .next (s.after u1)) ∧
      (r.charged = false → exec (.flickerFalseAlarmHour k) s = .next (s.after (u1.count 0xD00148))))

/-- The Wick binds jobs and shards, forwards blocks and records, and passes the gate. The WICK commands bind a job and a shard, raise the membership, unbind, keep a snapshot request and start a seed, and are refused as Table 10-1 says; WICK_ENABLE_CLEAR with no job drains the Wick. A sound GRADIENT_BLOCK of the writer's next step is fingerprinted, written to transit and forwarded; one with a bad CRC-64 marks the step damaged, one outside a sparse step's lists is dropped, recorded and marks its mirror failed, and any other block is recorded as a mismatch. REGION_BLOCK and SNAPSHOT_BLOCK are written to transit and forwarded, kept for a spilled shard, returned with their credit when the CRC-64 is bad, or recorded as a mismatch. A block that is not sound, finds no credit or meets a failed stack is dropped. STEP_RECORD is kept and sent to the buddy, and asks for the snapshot that is due. FWD_GRADIENT is written and fingerprinted at the buddy and acknowledged. FWD_ACK moves the step on, and a failure makes the shard unbuddied; its timeout forwards again what is not acknowledged; GATE_BARRIER_COMPLETE of the entered step records APPLY_GO for every shard of the job. -/
def Obligations.WickBindsAndMirrors : Prop :=
  ∀ (s : State) (h : SHdr) (l : LHdr) (w : Who) (c : Cmd) (shard k : Nat) (x : Shard) (j : JobBind),
    (∀ (b : Blk) con cls credit, (con, cls, credit) = (Instr.gradientBlock, 0x04, 0) ∨ (con, cls, credit) = (Instr.regionBlock, 0x05, 1) ∨
        (con, cls, credit) = (Instr.snapshotBlock, 0x06, 2) →
      let stale := (h.accGen ≠ s.u.accGen h.port ∨ h.ctxGen ≠ s.u.ctxGen h.port h.ctx) ∧ (s.u.ig h.port).active = true
      ∀ v : Units, stale ∧ v = s.u.count 0x600258 ∨ ¬stale ∧ v = s.u →
        (∀ v', v.dropS h cls = some v' → exec (con h b) s = .next (s.afterW v')) ∧
        (v.dropS h cls = none →
          (Blk.bad b = true → exec (con h b) s = .next (s.afterW (v.msgUnknown h.port))) ∧
          (Blk.bad b = false → v.creditsLeft h.port h.ctx credit = 0 → exec (con h b) s =
            .next (s.afterW ((v.setPort h.port ((v.port h.port).flag 4)).linkEvent h.port Ev.LINK_CREDIT_ERROR 0))) ∧
          (Blk.bad b = false → v.creditsLeft h.port h.ctx credit ≠ 0 → v.mantle.stackFailed = true → exec (con h b) s = .next (s.afterW v)))) ∧
    (∀ b : Blk, s.hearsBlock h 0x04 0 b → s.holds b.shard k x j →
      let u0 := s.u.useCredit h.port h.ctx 0
      let mine := s.u.localCtx (x.members.getD x.writer (0, 0)) = some (h.port, h.ctx) ∧ j.mode = 0 ∧ x.nextStep = some b.step
      (¬mine → exec (.gradientBlock h b) s = .next (s.afterW (u0.wickEvent Ev.WICK_STEP_MISMATCH))) ∧
      (mine →
        let u1 := u0.upSh k fun s => (s.begin b.step 1).upOpen b.step fun o => { o with last := o.last || bitAt b.flags 0 }
        let u2 := if (x.step? b.step).isNone then u1.writeB k b.step else u1
        let o := ((u2.shAt k).step? b.step).getD (OpenStep.new b.step 1)
        let out := o.sparse = true ∧ o.touched.contains b.index = false
        (crc64 b.data ≠ b.crc → exec (.gradientBlock h b) s = .next (s.afterW ((((((u2.count 0x600220).wickEvent Ev.INTEGRITY_CRC).upOpen k b.step fun o =>
          { o with damaged := true, lost := o.lost + b2n (b.fmt != 0x10), fmt := if b.fmt = 0x10 then o.fmt else b.fmt })).giveCredit h.port h.ctx 0 1).grantStep k))) ∧
        (crc64 b.data = b.crc → b.fmt ≠ 0x10 → out → exec (.gradientBlock h b) s = .next (s.afterW
          (((u2.upOpen k b.step fun o => { o with failed := true, lost := o.lost + 1 }).wickEvent Ev.WICK_STEP_MISMATCH).grantStep k))) ∧
        (crc64 b.data = b.crc → b.fmt = 0x10 → 
          let r := passBlock k x b s.mem (u2.upOpen k b.step fun o => { o with sparse := true, touched := o.touched ++ listOf b })
          exec (.gradientBlock h b) s = .next (s.afterWM (r.1, r.2.grantStep k))) ∧
        (crc64 b.data = b.crc → b.fmt ≠ 0x10 → ¬out →
          let r := passBlock k x b s.mem (u2.upOpen k b.step fun o => o.take x j b)
          exec (.gradientBlock h b) s = .next (s.afterWM (r.1, r.2.grantStep k))))) ∧
    (∀ b : Blk, s.hearsBlock h 0x05 1 b → s.holds b.shard k x j →
      let u0 := s.u.useCredit h.port h.ctx 1
      let from_ := fun (i : Nat) => s.u.localCtx (x.members.getD i (0, 0)) = some (h.port, h.ctx)
      let no := exec (.regionBlock h b) s = .next (s.afterW (u0.wickEvent Ev.WICK_STEP_MISMATCH))
      (crc64 b.data ≠ b.crc → exec (.regionBlock h b) s = .next (s.afterW (((u0.count 0x600220).wickEvent Ev.INTEGRITY_CRC).giveCredit h.port h.ctx 1 1))) ∧
      (crc64 b.data = b.crc → j.mode = 2 →
        (from_ x.writer → exec (.regionBlock h b) s = .next (s.afterWM (streamOn x 0x03 b s.mem u0))) ∧ (¬(from_ x.writer) → no)) ∧
      (crc64 b.data = b.crc → j.mode ≠ 2 →
        (x.incoming = none → no) ∧
        (∀ n i got, x.incoming = some (n, i, got) →
          let u1 := u0.upSh k fun s => { s with incoming := some (n, i, if got.contains b.index then got else b.index :: got) }
          (n ≠ b.step ∨ ¬(from_ i) → no) ∧
          (n = b.step → from_ i → x.prot ≠ 3 → exec (.regionBlock h b) s = .next (s.afterWM (streamOn x 0x02 b s.mem u1))) ∧
          (n = b.step → from_ i → x.prot = 3 →
            let r := toTransit s.mem u1 b.data
            exec (.regionBlock h b) s = .next (s.afterWM (r.1.1, spillBlock k x j b (r.1.2.count 0x600200))))))) ∧
    (∀ b : Blk, s.hearsBlock h 0x06 2 b → s.holds b.shard k x j →
      let u0 := s.u.useCredit h.port h.ctx 2
      let mine := j.mode = 1 ∧ s.u.localCtx (x.members.getD x.writer (0, 0)) = some (h.port, h.ctx)
      (¬mine → exec (.snapshotBlock h b) s = .next (s.afterW (u0.wickEvent Ev.WICK_STEP_MISMATCH))) ∧
      (mine → crc64 b.data ≠ b.crc →
        exec (.snapshotBlock h b) s = .next (s.afterW (((u0.count 0x600220).wickEvent Ev.INTEGRITY_CRC).giveCredit h.port h.ctx 2 1))) ∧
      (mine → crc64 b.data = b.crc → exec (.snapshotBlock h b) s = .next (s.afterWM (streamOn x 0x03 b s.mem u0)))) ∧
    (∀ r : StepRec, s.hears h 0x03 →
      (exec (.stepRecord h r false) s = .next (s.afterW (s.u.wickEvent Ev.INTEGRITY_CRC))) ∧
      (s.holds r.shard k x j →
        let u1 := s.u.later (.progress h.port h.ctx 0)
        ((x.members.any fun m => s.u.localCtx m = some (h.port, h.ctx)) = false → exec (.stepRecord h r true) s = .next (s.afterW u1)) ∧
        ((x.members.any fun m => s.u.localCtx m = some (h.port, h.ctx)) = true →
          let u2 := (u1.later (.stepClosed h.port h.ctx x.job r.step)).upSh k fun s =>
            { s with kept := NMap.set s.kept (64 * h.port + h.ctx) ((r :: NMap.getD s.kept (64 * h.port + h.ctx) []).take 2) }
          ∀ v : Units, (x.isBuddy = true ∧ v = u2.takeRec k { r := r, cid := u2.cidOf h.port, ctx := h.ctx } ∨
              x.isBuddy = false ∧ (x.prot = 1 ∨ x.prot = 3) ∧ v = u2 ∨
              x.isBuddy = false ∧ ¬(x.prot = 1 ∨ x.prot = 3) ∧ v = u2.reqL x.buddy 0x05 256 2 (recFields r)) →
            let due := j.mode = 1 ∧ v.localCtx (x.members.getD x.writer (0, 0)) = some (h.port, h.ctx) ∧
              r.step % (if j.perStep = true then 1 else v.v1Period) = 0 ∧ bitAt r.flags 3 = false
            (¬due → exec (.stepRecord h r true) s = .next (s.afterW
              ((if x.isBuddy = true then v.later (.drive x.shard r.step) else v).later (.verify x.shard r.step)))) ∧
            (due → exec (.stepRecord h r true) s = .next (s.afterW
              ((if (v.ig h.port).has 2 = true then v.giveCredit h.port h.ctx 2 (x.layout - v.creditsLeft h.port h.ctx 2) else v).igSend h.port 0x13 h.ctx 8 []))))) ∧
      ((∀ k, s.u.shKey r.shard = some k → s.u.jobB (s.u.shAt k).job = none) →
        exec (.stepRecord h r true) s = .next (s.afterW (s.u.later (.progress h.port h.ctx 0))))) ∧
    (isOperator (stampPriv c.stamp) = true →
      (∀ job mode comps prog key params fmts interval flags gateMs,
        let i := Instr.wickBindJob c job mode comps prog key params fmts interval flags gateMs
        let good := s.u.jobB job = none ∧ mode ≤ 2 ∧ 1 ≤ comps ∧ comps ≤ 16 ∧ 1 ≤ params ∧ params ≤ 2 ^ 48 ∧ fmts.length = 16 ∧
          (∀ f ∈ fmts.take comps, 1 ≤ f ∧ f ≤ 5) ∧ (∀ f ∈ fmts.drop comps, f = 0) ∧ flags < 8 ∧ (mode = 0 → s.u.bindRefused job comps prog fmts = false)
        (¬good → exec i s = .next (s.afterW (s.u.done c 0x060 0x0601 St.BAD_PARAM))) ∧
        (good → s.u.wick.enable = false ∨ s.u.lamp.state = 4 → exec i s = .next (s.afterW (s.u.done c 0x060 0x0601 St.BAD_STATE))) ∧
        (good → s.u.wick.enable = true → s.u.lamp.state ≠ 4 →
          let u1 := if (s.u.mantle.regions.any fun r => r.2.typ = 4) then s.u
            else (s.u.allocRegion { wickRegion 4 0 with ownerKind := 2, ownerCid := s.u.self, gen := s.u.role.t3Gen, mask := 0x33 } (2 ^ 31)).1
          let b : JobBind :=
            { mode := mode, comps := comps, prog := prog, key := key, params := params, fmts := fmts, interval := interval, flags := flags,
              gateMs := gateMs, released := 0, relTime := 0, relEpoch := 0, entered := none, snapNow := [], perStep := false, held := false,
              group := (s.u.gateGroup job).getD 0 }
          exec i s = .next (s.afterW (((u1.upW fun w => { w with jobs := NMap.set w.jobs job b }).setGates job).done c 0x060 0x0601 St.OK)))) ∧
      (∀ job first params buddy roles,
        let i := Instr.wickBindShard c job shard first params buddy roles
        (s.u.jobB job = none → exec i s = .next (s.afterW (s.u.done c 0x060 0x0602 St.BAD_PARAM))) ∧
        (s.u.jobB job = some j →
          let good := s.u.shKey shard = none ∧ (roles = 1 ∨ roles = 2 ∨ roles = 3) ∧ params ≠ 0 ∧ first + params ≤ j.params ∧ ¬(roles = 1 ∧ buddy = s.u.self)
          let b := if buddy ≠ 0 then buddy else if bitAt roles 1 then s.u.self else NMap.getD s.u.role.pairing s.u.self 0
          (¬good → exec i s = .next (s.afterW (s.u.done c 0x060 0x0602 St.BAD_PARAM))) ∧
          (good →
            (∀ v, s.u.bindShard job shard first params b roles j = (v, none) → exec i s = .next (s.afterW (s.u.done c 0x060 0x0602 St.MANTLE_FULL))) ∧
            (∀ v k, s.u.bindShard job shard first params b roles j = (v, some k) →
              let opens := j.mode = 0 ∧ bitAt roles 1 = true ∧ (s.u.inst job).state = 0
              ∀ v' : Units, opens ∧ v' = (v.upInst job fun i => { i with state := 1 }).later (.shadowLoad job) ∨ ¬opens ∧ v' = v →
                let waits := v'.upSh k fun s => { s with bindCmd := some (c.ring, c.tag, c.stamp, c.gen) }
                (b = 0 → exec i s = .next (s.afterW (waits.askPlace k))) ∧
                (b ≠ 0 → bitAt roles 1 = true ∧ (v'.shAt k).bRegion = 0xFFFF → exec i s = .next (s.afterW waits)) ∧
                (b ≠ 0 → bitAt roles 1 = false ∨ (v'.shAt k).bRegion ≠ 0xFFFF → exec i s = .next (s.afterW (v'.done c 0x060 0x0602 St.OK 0 k))))))) ∧
      (∀ job epoch count addr, s.holds shard k x j →
        let i := Instr.wickMembership c job shard epoch count addr
        let good := x.job = job ∧ 1 ≤ count ∧ count ≤ 255 ∧ (x.epoch < epoch ∨ epoch = x.epoch ∧ x.members = [])
        (¬good → exec i s = .next (s.afterW (s.u.done c 0x060 0x0603 St.BAD_PARAM))) ∧
        (good → s.u.mayAccess Ag.wick addr (4 * count) false = false → exec i s = .next (s.afterW (s.u.done c 0x060 0x0603 St.NOT_PRIVILEGED))) ∧
        (good → s.u.mayAccess Ag.wick addr (4 * count) false = true →
          exec i s = .next (s.afterW ((s.u.membership k epoch ((List.range count).map fun i =>
            (leNat (s.mem.bytesAt (addr + 4 * i) 3), leNat (s.mem.bytesAt (addr + 4 * i + 3) 1)))).done c 0x060 0x0603 St.OK)))) ∧
      (∀ job, s.u.jobB job = none →
        exec (.wickUnbind c job) s = .next (s.afterW (s.u.done c 0x060 0x0604 St.BAD_PARAM)) ∧
        exec (.wickSnapshotNow c job) s = .next (s.afterW (s.u.done c 0x060 0x0605 St.BAD_PARAM))) ∧
      (∀ job, s.u.jobB job = some j →
        let ss := (s.u.shardsOf job).map s.u.shAt
        let u1 := s.u.upW fun w => { w with jobs := NMap.del w.jobs job, shards := NMap.keep w.shards fun _ s => s.job ≠ job, insts := NMap.del w.insts job }
        let u2 := (u1.mantle.regions.filter fun r => (r.2.typ = 2 || r.2.typ = 3) && r.2.ownerKind = 3 && r.2.job = job).foldl (fun u r => u.freeRegion r.1) u1
        let gone := u2.role.poolWait.filter fun w => w.job = job
        let u3 := (u2.setMantle { u2.mantle with waits := u2.mantle.waits.filter fun w => !(gone.any fun x => w.why ≠ 0 && x.n = w.why / 2) }).upR fun x =>
          { x with pooling := x.pooling.filter (fun p => p.1 ≠ job), poolWait := x.poolWait.filter fun w => w.job ≠ job }
        let u4 := (ss.foldl (fun u s => (u.doneAll s.seedCmds 0x0606 St.BAD_STATE 0).doneAll s.bindCmd.toList 0x0602 St.BAD_STATE 0)
          (u3.doneAll j.snapNow 0x0605 St.BAD_STATE 0)).done c 0x060 0x0604 St.OK
        ((s.u.inst job).state ≠ 2 → exec (.wickUnbind c job) s = .next (s.afterW u4)) ∧
        ((s.u.inst job).state = 2 → exec (.wickUnbind c job) s = .next (s.afterW (u4.later (.gridUnload (s.u.inst job).slot))))) ∧
      (∀ job, s.u.jobB job = some j →
        (((s.u.shardsOf job).any fun k => (s.u.shAt k).isBuddy) = true → exec (.wickSnapshotNow c job) s = .next (s.afterW
          ((s.u.upJob job fun j => { j with snapNow := j.snapNow ++ [(c.ring, c.tag, c.stamp, c.gen)] }).wantSnap job))) ∧
        (((s.u.shardsOf job).any fun k => (s.u.shAt k).isBuddy) = false →
          exec (.wickSnapshotNow c job) s = .next (s.afterW (s.u.done c 0x060 0x0605 St.OK)))) ∧
      (∀ job, s.holds shard k x j →
        let u1 := s.u.upSh k fun s => { s with seedCmds := s.seedCmds ++ [(c.ring, c.tag, c.stamp, c.gen)], prot := if s.prot = 0 then 2 else s.prot }
        (x.job ≠ job → exec (.wickSeed c job shard) s = .next (s.afterW (s.u.done c 0x060 0x0606 St.BAD_PARAM))) ∧
        (x.job = job → x.isBuddy = false → exec (.wickSeed c job shard) s = .next (s.afterW (s.u.done c 0x060 0x0606 St.BAD_STATE))) ∧
        (x.job = job → x.isBuddy = true → j.released = 0 ∨ x.passed j.released = true →
          exec (.wickSeed c job shard) s = .next (s.afterW (u1.upSh k fun s => { s with prot := 2 }))) ∧
        (x.job = job → x.isBuddy = true → j.released ≠ 0 → x.passed j.released = false →
          exec (.wickSeed c job shard) s = .next (s.afterW (u1.startSeed k j.released 0)))) ∧
      ((∀ k, s.u.shKey shard = some k → s.u.jobB (s.u.shAt k).job = none) → ∀ job epoch count addr,
        exec (.wickMembership c job shard epoch count addr) s = .next (s.afterW (s.u.done c 0x060 0x0603 St.BAD_PARAM)) ∧
        exec (.wickSeed c job shard) s = .next (s.afterW (s.u.done c 0x060 0x0606 St.BAD_PARAM)))) ∧
    (isOperator (stampPriv c.stamp) = false → ∀ job,
      let no := fun (i : Instr) code => exec i s = .next (s.afterW (s.u.done c 0x060 code St.NOT_PRIVILEGED))
      (∀ mode comps prog key params fmts interval flags gateMs, no (.wickBindJob c job mode comps prog key params fmts interval flags gateMs) 0x0601) ∧
      (∀ first params buddy roles, no (.wickBindShard c job shard first params buddy roles) 0x0602) ∧
      (∀ epoch count addr, no (.wickMembership c job shard epoch count addr) 0x0603) ∧
      no (.wickUnbind c job) 0x0604 ∧ no (.wickSnapshotNow c job) 0x0605 ∧ no (.wickSeed c job shard) 0x0606) ∧
    (let drains := isOperator w.priv = true ∧ s.u.wick.enable = true ∧ s.u.wick.jobs = []
     (drains → exec (.wickEnableClear w) s = .next (s.afterW
       { s.u.upW fun x => { x with enable := false, draining := true } with drains := s.u.drains ++ [{ unit := 0x06, items := 0, enableHeld := false }] })) ∧
     (¬drains → exec (.wickEnableClear w) s = .next (s.afterW s.u))) ∧
    (∀ b : Blk, s.hearsL l →
      (s.u.mantle.stackFailed = true → exec (.fwdGradient l b) s = .next (s.afterW s.u)) ∧
      (s.u.mantle.stackFailed = false → s.holds b.shard k x j →
        let takes := x.isBuddy = true ∧ j.mode = 0 ∧ x.committed < b.step ∧ Blk.bad b = false
        (¬takes → exec (.fwdGradient l b) s = .next (s.afterW s.u)) ∧
        (takes → s.u.fromReplica x x.writer l.src = false → exec (.fwdGradient l b) s = .next (s.afterW s.u.staleBlock)) ∧
        (takes → s.u.fromReplica x x.writer l.src = true → crc64 b.data ≠ b.crc →
          exec (.fwdGradient l b) s = .next (s.afterW ((s.u.count 0x600220).wickEvent Ev.INTEGRITY_CRC))) ∧
        (takes → s.u.fromReplica x x.writer l.src = true → crc64 b.data = b.crc →
          let u1 := s.u.upSh k fun s => s.begin b.step 1
          let o := ((u1.shAt k).step? b.step).getD (OpenStep.new b.step 1)
          let quiet := NMap.has u1.mantle.fading x.sRegion
          let last := bitAt b.flags 0
          let ack := fun (u : Units) => match (u.shAt k).step? b.step with
            | some o => u.reqL l.src 0x04 32 2 [x.shard, b.step, o.got.length, if quiet then St.STALE_GENERATION else St.OK, o.gradFp]
            | none => u
          (b.fmt = 0x10 →
            let u2 := u1.upOpen k b.step fun o =>
              { o with sparse := true, gotLast := o.gotLast || last, touched := (listOf b).foldl insertUp o.touched }
            exec (.fwdGradient l b) s = .next (s.afterW (if last = true then ack u2 else u2))) ∧
          (b.fmt ≠ 0x10 →
            let r := putBlock s.mem u1 x.sRegion b.index b.data (u1.srcOf x.job (x.members.getD x.writer (0, 0)))
            let dup := o.got.contains b.index
            (quiet = true → exec (.fwdGradient l b) s = .next (s.afterWM (r.1, ack r.2))) ∧
            (quiet = false →
              let u2 := (if dup = true then r.2 else r.2.count 0x600210).upOpen k b.step fun o =>
                { o with got := if dup = true then o.got else b.index :: o.got, fmt := b.fmt, gotLast := o.gotLast || last,
                         gradFp := if dup = true then o.gradFp else (o.gradFp + fpBlock j.key x.first b.fmt b.index b.data) % fpP }
              let goes := j.gated = false ∧ (∃ y ∈ (u2.shAt k).early, y.r.step = b.step)
              let u3 := if goes then u2.later (.drive x.shard b.step) else u2
              exec (.fwdGradient l b) s =
                .next (s.afterWM (r.1, if last = true ∨ dup = false ∧ (o.got.length + 1) % 64 = 0 then ack u3 else u3))))))) ∧
    (∀ step stored status fp, s.hearsL l → s.holds shard k x j →
      (x.step? step = none → exec (.fwdAck l shard step stored status fp) s = .next (s.afterW s.u)) ∧
      (∀ o, x.step? step = some o →
        (status ≠ St.OK → exec (.fwdAck l shard step stored status fp) s = .next (s.afterW ((s.u.unbuddy k).gateCheck x.job))) ∧
        (status = St.OK → o.state ≠ 1 → exec (.fwdAck l shard step stored status fp) s = .next (s.afterW s.u)) ∧
        (status = St.OK → o.state = 1 → o.last = true → o.stored stored = true →
          let u1 := (s.u.upOpen k step fun o => { o with state := 2, acked := stored, transit := [] }).writeB k step
          (j.gated = true → exec (.fwdAck l shard step stored status fp) s = .next (s.afterW (u1.gateCheck x.job).grantAll)) ∧
          (j.gated = false → exec (.fwdAck l shard step stored status fp) s = .next (s.afterW (u1.goSource k step 0).grantAll))) ∧
        (status = St.OK → o.state = 1 → o.last = false ∨ o.stored stored = false →
          exec (.fwdAck l shard step stored status fp) s = .next (s.afterW (s.u.upOpen k step fun o => { o with acked := max o.acked stored }))))) ∧
    (∀ step, s.holds shard k x j →
      (x.step? step = none → exec (.fwdAckWaitExpiry shard step) s = .next (s.afterW s.u)) ∧
      (∀ o, x.step? step = some o →
        (o.state = 1 → x.prot = 0 → exec (.fwdAckWaitExpiry shard step) s = .next (s.afterW
          (o.again.foldl (fun u y => (u.sendBlk x.buddy 0x01 (inTransit s.mem u y)).count 0x600218) s.u))) ∧
        (o.state ≠ 1 ∨ x.prot ≠ 0 → exec (.fwdAckWaitExpiry shard step) s = .next (s.afterW s.u)))) ∧
    (∀ job step status,
      (s.u.jobB job = none → exec (.gateBarrierComplete job step status) s = .next (s.afterW s.u)) ∧
      (s.u.jobB job = some j →
        let passes := j.entered = some step ∧ status = St.OK ∧ j.released < step
        (¬passes → exec (.gateBarrierComplete job step status) s = .next (s.afterW s.u)) ∧
        (passes →
          let ks := s.u.shardsOf job
          let u1 := s.u.upJob job fun j => { j with released := step, relTime := s.u.now, relEpoch := (ks.map fun k => (s.u.shAt k).epoch).foldl max 0 }
          let u2 := ks.foldl (fun u k => if (u.shAt k).isBuddy || ((u.shAt k).step? step).isNone then u else u.goSource k step u.now) u1
          let u3 := (u2.ctxsOf job).foldl (fun u x => if bitAt (NMap.getD (u.ig x.1).ctxCtl x.2 0) 1 then u.sendGo x.1 x.2 step else u) u2
          let r := ks.foldl (fun (a : Mem × Units) k =>
            if !(a.2.shAt k).isBuddy then (a.1, (a.2.spillSeed k step).awaitSeed k step) else goBuddy a.1 a.2 k step u3.now) (s.mem, u3)
          exec (.gateBarrierComplete job step status) s = .next (s.afterWM (r.1, (ks.foldl (fun u k => u.grantStep k) r.2).gateCheck job)))))

/-- The buddy verifies, commits and seeds, and snapshots become durable. At a buddy, STEP_FWD keeps the record and lets the step go on; FWD_SEED stores a block of a seeded step, of a seeded item and of the committed step; FWD_REGION stores a block of an epoch, and the last one ends it; READBACK_COMPLETE marks a step read or seeds it again; a missing record is recorded and the step verified; COMMIT_ACK OK commits and a failure sends COMMIT_REC again; the commit timer sends it again, then stalls. A block that does not come from the replica's T3 is stale, and one whose CRC-64 fails is recorded. At a source STEP_FWD answers a reload, COMMIT_REC COMMITTED is written, answered and ends the step, and a lower state tells of the buddy; SEED_REQ serves the seed and BLOCK_FETCH another copy's block. SNAPSHOT_DURABLE keeps a snapshot that is whole and drops another; the spill timer asks again for each spilled shard. -/
def Obligations.WickVerifiesCommitsAndSeeds : Prop :=
  ∀ (s : State) (l : LHdr) (shard k : Nat) (x : Shard) (j : JobBind) (step : Nat),
    (∀ (r : StepRec) cid ctx, s.hearsL l →
      (exec (.stepFwd l r cid ctx false) s = .next (s.afterW (s.u.wickEvent Ev.INTEGRITY_CRC))) ∧
      (s.holds r.shard k x j →
        (x.isBuddy = true →
          let a := driveOrGo s.mem (s.u.takeRec k { r := r, cid := cid, ctx := ctx }) k x j r.step
          exec (.stepFwd l r cid ctx true) s = .next (s.afterWM (a.1, a.2.verifyStep k r.step))) ∧
        (x.isBuddy = false → s.u.localCtx (x.members.getD r.replica (0, 0)) = none → exec (.stepFwd l r cid ctx true) s = .next (s.afterW s.u)) ∧
        (∀ p d, x.isBuddy = false → s.u.localCtx (x.members.getD r.replica (0, 0)) = some (p, d) →
          exec (.stepFwd l r cid ctx true) s = .next (s.afterW (s.u.upSh k fun s =>
            { s with kept := NMap.set s.kept (64 * p + d) ((r :: NMap.getD s.kept (64 * p + d) []).take 2) }))))) ∧
    (∀ b : Blk, s.hearsL l →
      (s.u.mantle.stackFailed = true → exec (.fwdSeed l b) s = .next (s.afterW s.u) ∧ exec (.fwdRegion l b) s = .next (s.afterW s.u)) ∧
      (s.u.mantle.stackFailed = false → s.holds b.shard k x j →
        let sound := x.isBuddy = true ∧ Blk.bad b = false ∧ b.index < x.layout
        let e := blockEntry x j b.index b.data
        let stored := fun (f : Option (Nat × Nat)) => putBlock s.mem s.u x.stateRegion b.index b.data f
        let tapped := fun (u : Units) => u.upSh k fun s => { s with table := NMap.set s.table b.index e }
        (¬sound → exec (.fwdSeed l b) s = .next (s.afterW s.u)) ∧
        (sound → x.step? b.step = none → crc64 b.data = b.crc →
          let mends := b.step = x.committed ∧ x.curStep = some b.step ∧ NMap.find x.table b.index = some e ∧
            blockGood s.mem s.u x j x.stateRegion x.table b.index = false
          (mends → exec (.fwdSeed l b) s = .next (s.afterWM ((stored none).1, ((stored none).2.count 0x600230).later (.serveMore x.shard)))) ∧
          (¬mends → exec (.fwdSeed l b) s = .next (s.afterW s.u))) ∧
        (sound → ¬(∃ o, x.step? b.step = some o ∧ o.seeding = true ∧ s.u.fromReplica x o.seeder l.src = false) → crc64 b.data ≠ b.crc →
          exec (.fwdSeed l b) s = .next (s.afterW ((s.u.count 0x600220).wickEvent Ev.INTEGRITY_CRC))) ∧
        (∀ o, sound → x.step? b.step = some o →
          let r := stored (s.u.srcOf x.job (x.members.getD o.seeder (0, 0)))
          (o.seeding = true → s.u.fromReplica x o.seeder l.src = false → exec (.fwdSeed l b) s = .next (s.afterW s.u.staleBlock)) ∧
          (o.seeding = true → s.u.fromReplica x o.seeder l.src = true → crc64 b.data = b.crc →
            let got := if o.seedGot.contains b.index = true then o.seedGot else b.index :: o.seedGot
            let u1 := (tapped r.2).upOpen k b.step fun o =>
              { o with seedGot := got, differ := if NMap.find x.table b.index ≠ some e then b.index :: o.differ else o.differ }
            (x.layout ≤ got.length → exec (.fwdSeed l b) s = .next (s.afterWM (r.1, u1.seedDone k b.step))) ∧
            (got.length < x.layout → b.index + 1 = x.layout → exec (.fwdSeed l b) s = .next (s.afterWM (r.1, u1.askSeed k b.step o.choice))) ∧
            (got.length < x.layout → b.index + 1 ≠ x.layout → exec (.fwdSeed l b) s = .next (s.afterWM (r.1, u1)))) ∧
          (o.seeding = false → crc64 b.data = b.crc →
            let mine := o.items.filter fun i => i.state = 3 && (itemBlocks x j o i).contains b.index
            (mine = [] ∨ o.seedGot.contains b.index = true → exec (.fwdSeed l b) s = .next (s.afterW
              (if b.index + 1 = x.layout ∧ (∃ i ∈ o.items, i.state = 3) then s.u.askSeed k b.step 0 else s.u))) ∧
            (mine ≠ [] → o.seedGot.contains b.index = false →
              let got := b.index :: o.seedGot
              let u1 := tapped r.2
              let t := (u1.shAt k).table
              let full := fun (i : ShItem) => i.state = 3 && (itemBlocks x j o i).all got.contains
              let u2 := u1.upOpen k b.step fun o =>
                { o with seedGot := got,
                         items := o.items.map fun i =>
                           if full i then { i with state := 4, fp := (sumL ((itemBlocks x j o i).map fun x => (NMap.getD t x (0, 0)).2)) % fpP } else i }
              let left := ((u2.shAt k).step? b.step).any fun o => o.items.any fun i => i.state = 3
              let u3 := if left = true ∧ b.index + 1 = x.layout then u2.askSeed k b.step 0 else u2
              exec (.fwdSeed l b) s = .next (s.afterWM (r.1, (u3.count 0x600488 (o.items.filter full).length).itemsDone k b.step))))) ∧
        (let takes := sound ∧ j.mode ≠ 0 ∧ x.committed < b.step ∧ (∀ o, x.step? b.step = some o → o.state < 4)
         let from_ := s.u.fromReplica x x.writer l.src
         (¬takes → exec (.fwdRegion l b) s = .next (s.afterW s.u)) ∧
         (takes → from_ = false → exec (.fwdRegion l b) s = .next (s.afterW s.u.staleBlock)) ∧
         (takes → from_ = true → crc64 b.data ≠ b.crc → exec (.fwdRegion l b) s = .next (s.afterW ((s.u.count 0x600220).wickEvent Ev.INTEGRITY_CRC))) ∧
         (takes → from_ = true → crc64 b.data = b.crc →
           let fresh := (x.step? b.step).isNone
           let r := putBlock s.mem s.u (if x.curStep.isSome && x.cur = 0 then x.region2 else x.bRegion) b.index b.data (s.u.srcOf x.job (x.members.getD x.writer (0, 0)))
           let u1 := (r.2.upSh k fun s =>
             { (if fresh then { (s.dropEpoch.begin b.step 1) with prevStep := none } else s) with
               table2 := NMap.set (if fresh then [] else s.table2) b.index e }).upOpen k b.step fun o =>
             { o with got := if o.got.contains b.index then o.got else b.index :: o.got, gotLast := o.gotLast || bitAt b.flags 0 }
           let u2 := if ((x.step? b.step).map fun o => o.got.contains b.index).getD false then u1 else u1.count 0x600210
           let ends := ∃ o, (u2.shAt k).step? b.step = some o ∧ x.layout ≤ o.got.length ∧ (j.mode = 1 ∨ o.gotLast = true)
           (¬ends → exec (.fwdRegion l b) s = .next (s.afterWM (r.1, u2))) ∧
           (ends → exec (.fwdRegion l b) s = .next (s.afterWM (r.1, ((u2.upOpen k b.step fun o =>
             { o with shadowFp := tableSum (u2.shAt k).table2, state := 4, readDone := false }).writeA k b.step 4).releaseRecs k b.step))))))) ∧
    (s.holds shard k x j → x.step? step = none →
      exec (.readbackComplete shard step) s = .next (s.afterW s.u) ∧ exec (.stepRecordWaitExpiry shard step) s = .next (s.afterW s.u) ∧
      (s.hearsL l → ∀ st, exec (.commitAck l step shard st) s = .next (s.afterW s.u))) ∧
    (∀ o, s.holds shard k x j → x.step? step = some o →
      (let reads := x.isBuddy = true ∧ o.state = 4 ∧ o.readDone = false ∧ o.seeding = false
       let t := if j.mode = 0 then x.table else x.table2
       let region := if j.mode = 0 then x.bRegion else if x.curStep.isSome && x.cur = 0 then x.region2 else x.bRegion
       let bad := (if j.mode = 0 then o.written x j else List.range x.layout).filter fun b => !(blockGood s.mem s.u x j region t b)
       let told := (s.u.count 0x600238 bad.length).wickEvent Ev.READBACK_MISMATCH
       (¬reads → exec (.readbackComplete shard step) s = .next (s.afterW s.u)) ∧
       (reads → bad = [] → exec (.readbackComplete shard step) s = .next (s.afterW ((s.u.upOpen k step fun o =>
         { o with readDone := true, shadowFp := if o.seeded = true then tableSum t else o.shadowFp }).verifyStep k step))) ∧
       (reads → bad ≠ [] → j.mode = 0 → exec (.readbackComplete shard step) s = .next (s.afterW (told.startSeed k step 0))) ∧
       (reads → bad ≠ [] → j.mode ≠ 0 → exec (.readbackComplete shard step) s = .next (s.afterW (told.upSh k Shard.dropEpoch)))) ∧
      (let misses := x.isBuddy = true ∧ 3 ≤ o.state ∧ o.state < 5 ∧ o.allRecs x = false
       (misses → exec (.stepRecordWaitExpiry shard step) s = .next (s.afterW
         (((s.u.upOpen k step fun o => { o with recWait := true }).wickEvent Ev.WICK_RECORD_MISSING).verifyStep k step))) ∧
       (¬misses → exec (.stepRecordWaitExpiry shard step) s = .next (s.afterW s.u))) ∧
      (∀ st, s.hearsL l →
        (x.isBuddy = true → o.state = 5 → st = St.OK → exec (.commitAck l step shard st) s = .next (s.afterWM (commitStep s.mem s.u k step))) ∧
        (x.isBuddy = true → o.state = 5 → st ≠ St.OK → exec (.commitAck l step shard st) s = .next (s.afterW (s.u.resendRec k step))) ∧
        (x.isBuddy = false ∨ o.state ≠ 5 → exec (.commitAck l step shard st) s = .next (s.afterW s.u))) ∧
      (x.isBuddy = true →
        (o.state = 5 → o.stalled = false → o.sends < 4 →
          exec (.commitAckWaitExpiry shard step) s = .next (s.afterW ((s.u.upOpen k step fun o => { o with sends := o.sends + 1 }).sendRec k step 6))) ∧
        (o.state = 5 → o.stalled = false → 4 ≤ o.sends → exec (.commitAckWaitExpiry shard step) s = .next (s.afterW
          ((s.u.upOpen k step fun o => { o with stalled := true }).wickEvent Ev.WICK_COMMIT_STALLED))) ∧
        (o.state ≠ 5 ∨ o.stalled = true → exec (.commitAckWaitExpiry shard step) s = .next (s.afterW s.u))) ∧
      (x.isBuddy = false → exec (.commitAckWaitExpiry shard step) s = .next (s.afterW s.u))) ∧
    (∀ (r : CommitRec) ok, s.hearsL l → s.holds r.shard k x j →
      let ack := fun (u : Units) (st : Nat) => u.reqL l.src 0x07 16 2 [r.step, r.shard, st]
      let early := j.gated = true ∧ (∃ o, x.step? r.step = some o ∧ o.state < 3)
      (r.state < 6 → exec (.commitRec l r ok) s = .next (s.afterW
        (((s.u.upOpen k r.step fun o => { o with
            state := if o.state < 3 then o.state else max o.state r.state, ahead := r.state, verdict := b2n (bitAt r.flags 3) }).upSh k fun s => { s with
            recB := s.recB.map fun x => if x.step = r.step then { x with flags := setBits x.flags 3 3 (b2n (bitAt r.flags 3)) } else x }).grantStep k))) ∧
      (6 ≤ r.state → ok = false → exec (.commitRec l r ok) s = .next (s.afterW (ack s.u St.INTEGRITY_CRC))) ∧
      (6 ≤ r.state → ok = true → early → exec (.commitRec l r ok) s = .next (s.afterW s.u)) ∧
      (6 ≤ r.state → ok = true → ¬early → exec (.commitRec l r ok) s = .next (s.afterW (((ack (s.u.upSh k fun s =>
        { s with recB := putRec s.recB r, opens := s.opens.filter (fun o => o.step ≠ r.step), committed := max s.committed r.step,
                 prot := if s.prot = 2 then 0 else s.prot,
                 incoming := match s.incoming with | some x => if x.1 = r.step then none else some x | none => none }) St.OK).grantStep k).gateCheck x.job)))) ∧
    (s.hearsL l → s.holds shard k x j →
      (∀ reserved, exec (.seedReq l shard reserved step) s = .next (s.afterW (s.u.serveSeed k 0 step l.src))) ∧
      (∀ block,
        let send := fun (u : Units) (d : List Nat) => u.answerL l.src 0x02 l.seq (32 + d.length) 2
          (Blk.fields { step := step, shard := shard, index := block, fmt := 0x20, flags := 0, valid := d.length, tag := 0, crc := crc64 d, data := d })
        let has := x.isBuddy = true ∧ x.holds j.mode step = true ∧ block < x.layout
        let r := readBlock s.mem s.u k block
        let snap := x.durable.find? fun y => y.man.step = step
        let moves := (x.step? step).bind fun o => o.transit.find? fun x => x.2.index = block && x.2.fmt ≠ 0x10
        (∀ d, has → r.2 = some d → exec (.blockFetch l shard block step) s = .next (s.afterWM (r.1.1, send r.1.2 d))) ∧
        (has → r.2 = none → exec (.blockFetch l shard block step) s = .next (s.afterWM r.1)) ∧
        (∀ y, ¬has → snap = some y → exec (.blockFetch l shard block step) s = .next (s.afterW (send s.u (y.blocks.getD block [])))) ∧
        (∀ y, ¬has → snap = none → moves = some y →
          exec (.blockFetch l shard block step) s = .next (s.afterW (s.u.sendBlk l.src 0x02 (inTransit s.mem s.u y)))) ∧
        (¬has → snap = none → moves = none →
          (∀ i, s.u.localReplica x = some i → j.gated = true → j.released = step →
            exec (.blockFetch l shard block step) s = .next (s.afterW (s.u.serveSeed k (i + 1) step l.src))) ∧
          (s.u.localReplica x = none ∨ j.gated = false ∨ j.released ≠ step → exec (.blockFetch l shard block step) s = .next (s.afterW s.u))))) ∧
    (s.holds shard k x j → ∀ ok,
      (x.snap = none → exec (.snapshotDurable shard step ok) s = .next (s.afterW s.u)) ∧
      (∀ y, x.snap = some y →
        let good := ok = true ∧ y.whole = true ∧ (x.prot = 3 → s.u.writerFp x step = some y.man.postFp)
        (y.man.step ≠ step → exec (.snapshotDurable shard step ok) s = .next (s.afterW s.u)) ∧
        (y.man.step = step → ¬good → exec (.snapshotDurable shard step ok) s = .next (s.afterW (s.u.upSh k fun s =>
          { s with snap := none, snapDue := if s.snapDue = 2 then 1 else s.snapDue }))) ∧
        (y.man.step = step → good →
          let mark := fun (r : CommitRec) => if r.step = step then { r with flags := setBit r.flags 6 } else r
          let u1 := ((s.u.upSh k fun s => { s with
              snap := none, snapDue := if s.snapDue = 2 then 0 else s.snapDue, durable := (y :: s.durable).take 2, recA := s.recA.map mark,
              recB := s.recB.map mark }).count 0x600250).wickEvent Ev.WICK_SNAPSHOT_DURABLE
          let u2 := if x.isBuddy = true then u1.sendRec k step 6 else u1
          let u3 := if (u2.shardsOf x.job).all (fun i => (u2.shAt i).snapDue = 0) then
              (u2.doneAll j.snapNow 0x0605 St.OK 0).upJob x.job fun j => { j with snapNow := [] }
            else u2
          let u4 := if x.expo.isSome then u3.wickEvent Ev.WICK_EXPORT_ABANDONED else u3
          (bitAt j.flags 1 = false → exec (.snapshotDurable shard step ok) s = .next (s.afterW u3)) ∧
          (bitAt j.flags 1 = true →
            (∀ r, u4.exportRingOf x.job = some r → exec (.snapshotDurable shard step ok) s =
              .next (s.afterW ((u4.upSh k fun s => { s with expo := some (step, 0, r) }).exportPump k))) ∧
            (u4.exportRingOf x.job = none → exec (.snapshotDurable shard step ok) s =
              .next (s.afterW (u4.upSh k fun s => { s with expo := none }))))))) ∧
    exec .spillRetryTimer s = .next (s.afterW (s.u.wick.shards.foldl (fun u e => if e.2.prot = 3 then u.askPlace e.1 else u) s.u))

/-- Streams open, take tokens, close and move, and activity is reported. STREAM_OPEN makes the checks of Table 16-4 in its order, each refusal with its status; a free entry and a chunk give the stream its index, and a full table lets only the stand-in order LEDGER_STREAM_OVERFLOW admit it untracked. STREAM_CLOSE and STREAM_CANCEL make an OPEN or INTERRUPTED stream CLOSING, lower an untracked account, let a cancel of a MOVING stream wait, and are refused to another job and in another state. STREAM_TOKENS whose count or Length disagrees, or whose stream does not take them, is dropped and counted; otherwise its tokens are appended and the final flag ends the stream, and an untracked account counts them. STREAM_MOVE takes a free entry and chunks and answers OK, answers STREAM_TABLE_FULL or MANTLE_FULL without them, and its further messages bring the tokens, after the last of which the stream replays; the answer OK frees the entry of the source and carries a waiting cancel on, and another answer opens and replays it there. ACTIVITY_REPORT adds deltas and tokens, restarts the watched units and, complete, counts as the port's report. LEDGER_BIND_RING takes an outbound ring only. LEDGER_ACK_SEQ_WRITE frees what is acknowledged and, outside its range or from another sender, changes nothing. STREAM_CLOSING_WAIT_EXPIRY ends the wait. -/
def Obligations.StreamCommandsAndMessagesAct : Prop :=
  ∀ (s : State) (h : SHdr) (l : LHdr) (w : Who) (c : Cmd) (i : Nat),
    (∀ port ctx client,
      let job := s.u.jobOf port ctx
      let tenant := s.u.tenantFor job
      let no := fun (u : Units) (st : Nat) => (u.count 0x800110).done c 0x080 0x0801 st
      let stands := s.u.ctxEnabled port ctx = true ∧ job ≠ 0 ∧ tenant ≠ 0
      let stopped := s.u.flick.drains port = true ∨ s.u.fenced port = true ∨ (s.u.vig.contains.any fun x => x.port = port && (x.ctx = 0xFF || x.ctx = ctx)) = true
      (s.u.mayStream c job = false → exec (.streamOpen c port ctx client) s = .next (s.afterM (s.mem, s.u.done c 0x080 0x0801 St.NOT_PRIVILEGED))) ∧
      (s.u.mayStream c job = true → ¬stands → exec (.streamOpen c port ctx client) s = .next (s.afterM (s.mem, no s.u St.BAD_STATE))) ∧
      (s.u.mayStream c job = true → stands → s.u.poolRegion.isNone = true →
        exec (.streamOpen c port ctx client) s = .next (s.afterM (s.mem, no s.u St.UNSUPPORTED))) ∧
      (s.u.mayStream c job = true → stands → s.u.poolRegion.isNone = false →
        (stopped → exec (.streamOpen c port ctx client) s = .next (s.afterM (s.mem, no s.u St.BUSY_RETRY))) ∧
        (¬stopped → s.u.backpressure = true → exec (.streamOpen c port ctx client) s = .next (s.afterM
          (s.mem, no (s.u.ledEvent Ev.LEDGER_BACKPRESSURE) St.LEDGER_BACKPRESSURE))) ∧
        (¬stopped → s.u.backpressure = false →
          (∀ k, s.u.led.head = some k →
            (∀ q qs, s.u.freeChunks 1 = some (q :: qs) →
              let x := newStream s.u port ctx job tenant client [q]
              let u1 := s.u.upL fun l => { l.pop with streams := NMap.set l.streams k x, order := l.order + 1 }
              exec (.streamOpen c port ctx client) s = .next (s.afterM
                (chunkHead s.mem s.u (s.u.poolRegion.getD 0) q 0xFFFFFFFF 0, (u1.count 0x800108).done c 0x080 0x0801 St.OK 0 k))) ∧
            (s.u.freeChunks 1 = none → exec (.streamOpen c port ctx client) s = .next (s.afterM (s.mem, no s.u St.MANTLE_FULL)))) ∧
          (s.u.led.head = none →
            let u1 := s.u.raise Ev.LEDGER_STREAM_OVERFLOW 2 0x080 0 (t := { Target.none with job := job, port := port, ctx := ctx })
            (s.u.overflow job tenant = none → exec (.streamOpen c port ctx client) s = .next (s.afterM (s.mem, no u1 St.STREAM_TABLE_FULL))) ∧
            (∀ k fresh, s.u.overflow job tenant = some (k, fresh) →
              (u1.freeChunks 1 = none → exec (.streamOpen c port ctx client) s = .next (s.afterM (s.mem, no u1 St.MANTLE_FULL))) ∧
              ((u1.freeChunks 1).isSome = true →
                let empty : OverAcct := { tenant := tenant, acct := Acct.zero, open_ := [], opened := 0, tokens := 0 }
                let a := if fresh = true then empty else NMap.getD u1.led.excess k empty
                let b := { a with opened := a.opened + 1, open_ := NMap.put a.open_ 0 (ctxKey port ctx) (NMap.getD a.open_ (ctxKey port ctx) 0 + 1) }
                exec (.streamOpen c port ctx client) s = .next (s.afterM
                  (s.mem, ((u1.upL fun l => { l with excess := NMap.set l.excess k b }).count 0x800118).done c 0x080 0x0801 St.OK 0 (2 ^ 31 + k)))))))))  ∧
    (∀ ref,
      let close := fun (code st : Nat) => (State.after s (s.u.done c 0x080 code st) : State)
      (bitAt ref 31 = false →
        (s.u.stream (ref % 2 ^ 17) = none →
          let st := if isTenant (cmdPriv c) = true then St.BAD_STATE else St.NOT_PRIVILEGED
          exec (.streamClose c ref) s = .next (close 0x0802 st) ∧ exec (.streamCancel c ref) s = .next (close 0x0803 st)) ∧
        (∀ x, s.u.stream (ref % 2 ^ 17) = some x →
          (s.u.mayStream c x.job = false →
            exec (.streamClose c ref) s = .next (close 0x0802 St.NOT_PRIVILEGED) ∧ exec (.streamCancel c ref) s = .next (close 0x0803 St.NOT_PRIVILEGED)) ∧
          (s.u.mayStream c x.job = true →
            (x.state = 1 →
              exec (.streamClose c ref) s = .next (s.after (s.u.endStream (ref % 2 ^ 17) false [(0x0802, c)])) ∧
              exec (.streamCancel c ref) s = .next (s.after (s.u.endStream (ref % 2 ^ 17) true [(0x0803, c)]))) ∧
            (x.state = 2 →
              exec (.streamClose c ref) s = .next (s.after (s.u.endStream (ref % 2 ^ 17) false [(0x0802, c)])) ∧
              exec (.streamCancel c ref) s = .next (s.after
                ((s.u.endStream (ref % 2 ^ 17) true [(0x0803, c)]).upStream (ref % 2 ^ 17) fun y => { y with chunks := [] }))) ∧
            (x.state = 4 →
              exec (.streamClose c ref) s = .next (close 0x0802 St.BAD_STATE) ∧
              exec (.streamCancel c ref) s = .next (s.after (s.u.upStream (ref % 2 ^ 17) fun y =>
                { y with cancelWait := true, cmds := y.cmds ++ [(0x0803, c)] }))) ∧
            (x.state ≠ 1 → x.state ≠ 2 → x.state ≠ 4 →
              exec (.streamClose c ref) s = .next (close 0x0802 St.BAD_STATE) ∧ exec (.streamCancel c ref) s = .next (close 0x0803 St.BAD_STATE))))) ∧
      (bitAt ref 31 = true →
        (NMap.find s.u.led.excess (ref % 256) = none →
          let st := if isTenant (cmdPriv c) = true then St.BAD_STATE else St.NOT_PRIVILEGED
          exec (.streamClose c ref) s = .next (close 0x0802 st) ∧ exec (.streamCancel c ref) s = .next (close 0x0803 st)) ∧
        (∀ o, NMap.find s.u.led.excess (ref % 256) = some o →
          let mine := isOperator (cmdPriv c) = true ∨ (cmdPriv c = 1 ∧ s.u.tenantFor (s.u.desc c.ring).job = o.tenant)
          let u1 := s.u.upL fun l => { l with excess := NMap.set l.excess (ref % 256) (o.close none) }
          (¬mine → exec (.streamClose c ref) s = .next (close 0x0802 St.NOT_PRIVILEGED) ∧
            exec (.streamCancel c ref) s = .next (close 0x0803 St.NOT_PRIVILEGED)) ∧
          (mine → o.open_.isEmpty = true → exec (.streamClose c ref) s = .next (close 0x0802 St.BAD_STATE) ∧
            exec (.streamCancel c ref) s = .next (close 0x0803 St.BAD_STATE)) ∧
          (mine → o.open_.isEmpty = false →
            exec (.streamClose c ref) s = .next (s.after (u1.done c 0x080 0x0802 St.OK)) ∧
            exec (.streamCancel c ref) s = .next (s.after (u1.done c 0x080 0x0803 St.OK)))))) ∧
    (∀ ref count flags len toks, s.hears h 0x1C →
      let k := ref % 2 ^ 17
      let reject := fun (u : Units) => (u.count 0x800128).ledEvent Ev.LEDGER_TOKEN_REJECT
      let mark := fun (u : Units) => u.upStream k fun y => { y with flags := y.flags ||| 32 }
      (bitAt ref 31 = false →
        let sound := count ≤ 1024 ∧ len = 16 + 4 * count ∧ toks.length = count
        (s.u.stream k = none →
          (¬sound → exec (.streamTokens h ref count flags len toks) s = .next (s.afterM (s.mem, reject (s.u.msgUnknown h.port)))) ∧
          (sound → exec (.streamTokens h ref count flags len toks) s = .next (s.afterM (s.mem, reject s.u)))) ∧
        (∀ x, s.u.stream k = some x →
          let takes := x.state ≠ 3 ∧ x.state ≠ 4 ∧ x.incoming = none ∧ x.port = h.port ∧ x.ctx = h.ctx ∧ ¬(bitAt flags 0 = true ∧ 0 < x.emitted ∧ 0 < count)
          (¬sound → exec (.streamTokens h ref count flags len toks) s = .next (s.afterM (s.mem, mark (reject (s.u.msgUnknown h.port))))) ∧
          (sound → ¬takes → exec (.streamTokens h ref count flags len toks) s = .next (s.afterM (s.mem, mark (reject s.u)))) ∧
          (sound → takes →
            let r := toks.foldl (fun (a : Mem × Units) t =>
              let b := putToken k a.1 a.2 t
              (b.1, b.2.upStream k fun y => if bitAt flags 0 = true then { y with prompt := wrapW 32 (y.prompt + 1) } else { y with emitted := wrapW 32 (y.emitted + 1) }))
              (s.mem, s.u)
            let u1 := if (match r.2.stream k with | some y => !(bitAt y.flags 5) | none => false) = true then r.2.count 0x800120 count else r.2
            exec (.streamTokens h ref count flags len toks) s = .next (s.afterM
              (r.1, if bitAt flags 1 = true then u1.endStream k (bitAt flags 2) [] else u1))))) ∧
      (bitAt ref 31 = true →
        (1024 < count ∨ len ≠ 16 → exec (.streamTokens h ref count flags len toks) s = .next (s.afterM (s.mem, reject (s.u.msgUnknown h.port)))) ∧
        (count ≤ 1024 → len = 16 →
          (NMap.find s.u.led.excess (ref % 256) = none → exec (.streamTokens h ref count flags len toks) s = .next (s.afterM (s.mem, reject s.u))) ∧
          (∀ o, NMap.find s.u.led.excess (ref % 256) = some o →
            (NMap.getD o.open_ (ctxKey h.port h.ctx) 0 = 0 → exec (.streamTokens h ref count flags len toks) s = .next (s.afterM (s.mem, reject s.u))) ∧
            (NMap.getD o.open_ (ctxKey h.port h.ctx) 0 ≠ 0 →
              let a : OverAcct := { o with tokens := o.tokens + count }
              exec (.streamTokens h ref count flags len toks) s = .next (s.afterM (s.mem, s.u.upL fun l =>
                { l with
                  excess := NMap.set l.excess (ref % 256) (if bitAt flags 1 = true then a.close (some (ctxKey h.port h.ctx)) else a)
                  tok := l.tok ++ [(ctxKey h.port h.ctx, 2 ^ 17 + ref % 256, count)] }))))))) ∧
    (s.hearsL l →
      (∀ index cid ctx (e : StreamEnt) toks,
        let n := if bitAt e.flags 5 = true then 0 else max 1 ((e.prompt + e.emitted + 1019) / 1020)
        (s.u.led.head = none → exec (.streamMove l index cid ctx (some e) toks) s =
          .next (s.afterM (s.mem, s.u.answerL l.src 0x5B l.seq 16 2 [0, St.STREAM_TABLE_FULL]))) ∧
        (s.u.led.head = some i → s.u.freeChunks n = none → exec (.streamMove l index cid ctx (some e) toks) s =
          .next (s.afterM (s.mem, s.u.answerL l.src 0x5B l.seq 16 2 [0, St.MANTLE_FULL]))) ∧
        (∀ ks, s.u.led.head = some i → s.u.freeChunks n = some ks →
          let x : Stream := { entStream e s.u ((s.u.portOf cid).getD 0xFF) ctx [] l.src index with
            chunks := ks.take 1, prompt := 0, emitted := 0, move := (l.src, index, e.prompt) }
          let u1 := s.u.upL fun l => { l.pop with streams := NMap.set l.streams i x, order := l.order + 1 }
          exec (.streamMove l index cid ctx (some e) toks) s = .next (s.afterM (s.mem, moveArrived i s.mem (u1.answerL l.src 0x5B l.seq 16 2 [i, St.OK]))))) ∧
      (∀ index cid ctx toks,
        let mine := s.u.led.streams.find? fun x => x.2.incoming.isSome && x.2.move.1 = l.src && x.2.move.2.1 = index
        (mine = none → exec (.streamMove l index cid ctx none toks) s = .next (s.after s.u)) ∧
        (∀ x, mine = some (i, x) →
          let r := toks.foldl (fun (a : Mem × Units) t =>
            let b := putToken i a.1 a.2 t
            (b.1, b.2.upStream i fun y =>
              let y := if y.prompt < y.move.2.2 then { y with prompt := y.prompt + 1 } else { y with emitted := y.emitted + 1 }
              { y with incoming := y.incoming.map fun z => (z.1, z.2 - 1) })) (s.mem, s.u)
          exec (.streamMove l index cid ctx none toks) s = .next (s.afterM (r.1, moveArrived i r.1 r.2)))) ∧
      (∀ index status,
        let mine := s.u.led.streams.find? fun x => x.2.state = 4 && x.2.move.2.2 = l.seq && s.u.servedBy x.2.move.1 = l.src
        (mine = none → exec (.streamMoveResponse l index status) s = .next (s.after s.u)) ∧
        (∀ x, mine = some (i, x) →
          let u1 := if x.cancelWait = true then s.u.emit (.bus 20 [l.src, 0x0803, index]) else s.u
          let u2 := replayStream i x.port x.ctx s.mem (s.u.upStream i fun y => { y with state := 1 })
          (status = St.OK → exec (.streamMoveResponse l index status) s = .next (s.after
            ((x.cmds.foldl (fun u y => u.done y.2 0x080 y.1 St.OK) u1).freeStream i))) ∧
          (status ≠ St.OK → x.cancelWait = false → exec (.streamMoveResponse l index status) s = .next (s.after u2)) ∧
          (status ≠ St.OK → x.cancelWait = true → exec (.streamMoveResponse l index status) s = .next (s.after
            ((u2.upStream i fun y => { y with cmds := [], cancelWait := false }).endStream i true x.cmds)))))) ∧
    (∀ tick flags interval (ctxs : List (Nat × List Nat)) (streams : List (Nat × Nat × Nat)), s.hears h 0x08 →
      let add := fun (a b : List Nat) => (List.range 8).map fun k => a.getD k 0 + b.getD k 0
      let ctxOne := fun (u : Units) (e : Nat × List Nat) =>
        let k := ctxKey h.port (e.1 % 64)
        let u1 := u.upL fun l => { l with deltas := NMap.set l.deltas k (add (NMap.getD l.deltas k []) e.2), act := NMap.upd l.act k fun a => add a e.2 }
        let u2 := if 0 < e.2.getD 0 0 || 0 < e.2.getD 1 0 then u1.progress h.port (e.1 % 64) 3 else u1
        if bitAt flags 1 || !(NMap.find u.led.act k).isSome then u2.regAccess h.port (0x1000 + 0x40 * (e.1 % 64)) false 16 [] (.act (e.1 % 64)) else u2
      let streamOne := fun (u : Units) (e : Nat × Nat × Nat) =>
        let k := e.1 % 2 ^ 17
        let u1 := if 0 < e.2.2 then u.progress h.port (e.2.1 % 64) 1 else u
        match u1.stream k with
        | some x =>
          if x.port = h.port && x.ctx = e.2.1 && (x.state = 1 || (x.state = 3 && !x.recorded)) && 0 < e.2.2 then
            (u1.upStream k fun y => { y with lastTick := tick }).upL fun l => { l with tok := l.tok ++ [(ctxKey h.port x.ctx, k, e.2.2)] }
          else u1
        | none => u1
      let u1 := streams.foldl streamOne (ctxs.foldl ctxOne s.u)
      let whole := bitAt h.flags 1 = false ∧ tick = u1.led.tickNo
      (whole → exec (.activityReport h tick flags interval ctxs streams) s = .next (s.after (u1.upL fun l => { l with reported := l.reported ++ [h.port] }))) ∧
      (¬whole → exec (.activityReport h tick flags interval ctxs streams) s = .next (s.after u1))) ∧
    (isOperator (stampPriv c.stamp) = true →
      (i < 32768 ∧ (s.u.desc i).kind = 2 → exec (.ledgerBindRing c i) s = .next (s.after
        ((s.u.upL fun l => { l with ring := some i, delivered := l.ack }).ledgerPump.done c 0x080 0x0804 St.OK))) ∧
      (¬(i < 32768 ∧ (s.u.desc i).kind = 2) → exec (.ledgerBindRing c i) s = .next (s.after (s.u.done c 0x080 0x0804 St.BAD_PARAM)))) ∧
    (isOperator w.priv = false ∨ i < s.u.led.ack ∨ s.u.led.durable < i → exec (.ledgerAckSeqWrite w i) s = .next (s.after s.u)) ∧
    (isOperator w.priv = true → s.u.led.ack ≤ i → i ≤ s.u.led.durable →
      let gone := ((s.u.led.stored.filter fun x => x.r.seq ≤ i).map fun x => recChunk x.r.seq).eraseDups
      let u1 := s.u.upL fun l => { l with ack := i, delivered := max l.delivered i, stored := l.stored.filter fun x => i < x.r.seq }
      let left := (u1.led.written ++ u1.led.stored).map fun x => recChunk x.r.seq
      let n := u1.tal.sizes.getD 1 0
      let free := gone.filter fun k => !(left.contains k) && recChunk (u1.led.seq + 1) ≠ k
      exec (.ledgerAckSeqWrite w i) s = .next (s.after
        ((free.foldl (fun u k => u.tallowFree 1 (if n = 0 then 0 else k % n)) u1).reform.ledgerPump))) ∧
    (exec (.streamClosingWaitExpiry i) s = .next (s.after
      (s.u.upStream i fun y => if y.state = 3 then { y with waited := true } else y).closeStreams))

/-- The Ledger ticks, reads meters, apportions, signs records and exchanges charges. LEDGER_TICK applies a waiting step of Beacon time, starts the next tick, forms the GAP, EPOCH and CALIBRATION records that are due, sends ACT_TICK to every active block and starts the channels' reads. PMBUS_READ_DONE keeps the calibrated energy, or compares the 100-tick sum; PMBUS_READ_TIMEOUT retries once, then uses the last energy; LEDGER_METER_LOST_EXPIRY marks the channel lost; a channel not defined changes nothing. LEDGER_APPORTION of a tick already apportioned changes nothing; otherwise it divides what was used among the live contexts by METHOD. LEDGER_INTERVAL_BOUNDARY has the reductions of totals called, forms the INTERVAL, OVERFLOW and TRAY records unless the store is full, and takes the settings. LEDGER_RECORD_SIGNED chains the oldest record, LEDGER_RECORD_DURABLE makes it deliverable and frees its recorded stream. TALLOW_FORMAT makes its checks in order. The charge commands send one message to each member, apply a charge once to the stream, overflow account, job or infrastructure it names, acknowledge it, and send again three times. A division of a whole number of microjoules over at least one account gives each account the floor of its share, or that floor and one more, and the shares add up to the whole; weights that are all zero divide it equally; of two accounts, the one with the larger fractional part, or of equal ones the earlier, is not the one left without. -/
def Obligations.LedgerReadsApportionsAndCharges : Prop :=
  (∀ (s : State) (l : LHdr) (c : Cmd) (chan : Nat),
    (let u0 := s.u.stepAtTick
     let n := u0.led.tickNo + 1
     let u1 := u0.upL fun l => { l with tickNo := n, tickTime := u0.now, reported := [] }
     let u2 := ((u1.upL fun l => { l with epoch := if l.ready = true then l.epoch else u1.clk.epoch }).gapCheck.epochCheck).calCheck
     let u3 := (List.range 16).foldl (fun u p => if (u.ig p).active then u.igSend p 0x10 0xFF 8 [n] else u) u2
     exec .ledgerTick s = .next (s.after (u3.led.chans.foldl (fun u e =>
       let v := (u.upChan e.1 fun c => { c with now := none, retried := false }).emit (.bus 1 [e.2.master, e.1, 0])
       if n % 100 = 0 ∧ e.2.kind = 0 then v.emit (.bus 1 [e.2.master, e.1, 1]) else v) u3))) ∧
    (∀ u : Units,
      (u.led.gap = none → u.gapCheck = u) ∧
      (∀ start flags, u.led.gap = some (start, flags) →
        u.gapCheck = (u.upL fun l => { l with gap := none, ready := true }).form 6 (flags ||| 2 ^ 11) start 0 0 0 0 0 [] 0 0) ∧
      (u.led.epoch = u.clk.epoch → u.epochCheck = u) ∧
      (u.led.epoch ≠ u.clk.epoch →
        u.epochCheck = (u.upL fun l => { l.mapAccts (fun a => a.flag 12) with epoch := u.clk.epoch }).form 7 0 0 0 0 0 0 0 [] 0 0) ∧
      (u.led.calNext = none → u.calCheck = u) ∧
      (∀ cal, u.led.calNext = some cal →
        u.calCheck = ((u.upL fun l => { l.mapAccts (fun a => a.flag 10) with cal := cal, calNext := none }).form 8 0 0 0 0 0
          (u.led.cal.digest % 2 ^ 64) (u.led.cal.origin % 2) [] 0 0).later .calApplied)) ∧
    (NMap.find s.u.led.chans chan = none → ∀ eout nj,
      exec (.pmbusReadDone chan eout nj) s = .next (s.after s.u) ∧ exec (.pmbusReadTimeout chan eout) s = .next (s.after s.u) ∧
      exec (.ledgerMeterLostExpiry chan) s = .next (s.after s.u)) ∧
    (∀ x, NMap.find s.u.led.chans chan = some x →
      (∀ nj, x.sum100 < nj → exec (.pmbusReadDone chan true nj) s = .next (s.after ((s.u.upChan chan fun c => { c with sum100 := 0 }).ledEvent Ev.LEDGER_METER_DISAGREE))) ∧
      (∀ nj, nj ≤ x.sum100 → exec (.pmbusReadDone chan true nj) s = .next (s.after (s.u.upChan chan fun c => { c with sum100 := 0 }))) ∧
      (∀ nj : Nat,
        let g := s.u.led.cal.gains.getD chan (0x3F800000, 0)
        let total : Int := x.rem + b32Units g.1 * (nj : Int) + 1000 * b32Units g.2 * ((x.missed + 1 : Nat) : Int)
        let e := (total / (energyUnit : Int)).toNat
        exec (.pmbusReadDone chan false nj) s = .next (s.after (s.u.upChan chan fun c =>
          { c with rem := total - (e : Int) * (energyUnit : Int), last := e, missed := 0, now := some (e, false), sum100 := c.sum100 + nj,
                   lastGood := s.u.clk.mono, lost := false }))) ∧
      exec (.pmbusReadTimeout chan true) s = .next (s.after s.u) ∧
      (x.retried = false → exec (.pmbusReadTimeout chan false) s = .next (s.after
        ((s.u.upChan chan fun c => { c with retried := true }).emit (.bus 1 [x.master, chan, 0])))) ∧
      (x.retried = true → exec (.pmbusReadTimeout chan false) s = .next (s.after (((s.u.upChan chan fun c =>
        { c with now := some (c.last, true), missed := c.missed + 1, rem := c.rem - (c.last : Int) * (energyUnit : Int) }).count 0x800130).ledEvent
          Ev.LEDGER_READ_FAIL))) ∧
      (x.missed = 0 ∨ x.lost = true → exec (.ledgerMeterLostExpiry chan) s = .next (s.after s.u)) ∧
      (x.missed ≠ 0 → x.lost = false → exec (.ledgerMeterLostExpiry chan) s = .next (s.after
        ((s.u.upChan chan fun c => { c with lost := true }).ledEvent Ev.LEDGER_METER_LOST)))) ∧
    (∀ e, s.u.led.tick = s.u.led.tickNo → exec (.ledgerApportion e) s = .next (s.after s.u)) ∧
    (∀ e, s.u.led.tick ≠ s.u.led.tickNo →
      let u1 := s.u.upL fun l => l.mapAccts fun a => if a.start = 0 then { a with start := s.u.tickEnd } else a
      let got := fun (kind : Nat) => s.u.led.chans.filterMap fun c => if c.2.kind = kind then c.2.now.map fun n => (c.2.port, n) else none
      let ports := (((got 0).map (·.1)).eraseDups).mergeSort fun a b => a ≤ b
      let sh := ports.map fun p => u1.accShare p (((got 0).filter fun x => x.1 = p).map (·.2))
      let trayIn := sumL ((got 1).map (·.2.1))
      let trayEst := (got 1).any (·.2.2) || sh.any (·.est)
      let out := if u1.ember.work.isEmpty = true then 0 else e
      let sumE := sumL (sh.map (·.energy))
      let used := max trayIn (sumE + out)
      let u2 := if trayIn < used then (u1.upL fun l => l.mapAccts fun a => a.flag 9).ledEvent Ev.LEDGER_METER_DISAGREE (used - trayIn) else u1
      let trayPool := sumL ((sh.filter fun s => s.live.isEmpty).map (·.pool)) + (used - sumE - out)
      let live := (List.range 16).flatMap fun p => (u2.liveCtxs p).map fun c => (p, c)
      let dynOf := fun (p c : Nat) => match sh.find? fun s => s.port = p with
        | some s => (match (s.live.zip s.dyn).find? fun x => x.1 = c with | some x => x.2 | none => 0)
        | none => 0
      let split := fun (total : Nat) (cs : List (Nat × Nat)) =>
        if s.u.led.method = 1 then splitShares total (cs.map fun _ => 1) else splitShares total (cs.map fun x => dynOf x.1 x.2)
      let infra := if s.u.led.method = 2 then trayPool + sumL ((sh.filter fun s => !s.live.isEmpty).map (·.pool))
        else if live.isEmpty = true then trayPool else 0
      let tray := if s.u.led.method = 2 then live.map fun _ => 0 else split trayPool live
      let accPart := fun (p c : Nat) => match sh.find? fun s => s.port = p with
        | some x => if s.u.led.method = 2 then 0 else
            (match (x.live.zip (split x.pool (x.live.map fun c => (p, c)))).find? fun x => x.1 = c with | some x => x.2 | none => 0)
        | none => 0
      let estOf := fun (p : Nat) => trayEst || (match sh.find? fun s => s.port = p with | some s => s.est | none => false)
      let rows := live.zip tray
      let u3 := rows.foldl (fun u x => u.giveCtx (ctxKey x.1.1 x.1.2) [dynOf x.1.1 x.1.2, accPart x.1.1 x.1.2, x.2] (estOf x.1.1)) u2
      let charged := sumL (rows.map fun x => dynOf x.1.1 x.1.2 + accPart x.1.1 x.1.2 + x.2)
      let u4 := u3.upL fun l => { ((((l.traySum 0 used).traySum 1 charged).traySum 2 infra).traySum 3 out) with
        trayAcct := l.trayAcct.take [] trayEst, pendDyn := sh.foldl (fun m s => NMap.put m (0, false) s.port s.pend) l.pendDyn
        deltas := l.deltas.filter fun d => !(l.reported.contains (d.1 / 64)), tok := [], tick := l.tickNo }
      exec (.ledgerApportion e) s = .next (s.after (((u4.count 0x800138 trayIn).count 0x800140 infra).emberSplit out).reform)) ∧
    (let u1 := s.u.epochCheck
     let r := collTotals u1.led.interval (fun job => (NMap.getD u1.led.jobs job { acct := Acct.zero, streams := 0, steps := 0 }).acct.energies) s.mem u1
     let take := fun (u : Units) => u.upL fun l => { l with method := bits u.ledCfg 9 8, interval := bits u.ledCfg 7 0 }
     (r.2.storeFull = true → exec .ledgerIntervalBoundary s = .next (s.afterM (r.1, take r.2))) ∧
     (r.2.storeFull = false →
       let u2 := r.2.intervalJobs.foldl (fun u j =>
         let x := NMap.getD u.led.jobs j { acct := Acct.zero, streams := 0, steps := 0 }
         u.form 3 x.acct.shown x.acct.start x.acct.est (u.tenantFor j) j 0 0 x.acct.energies x.streams x.steps) r.2
       let work := u2.led.excess.filter fun o => !o.2.open_.isEmpty || 0 < o.2.opened || 0 < o.2.tokens || 0 < o.2.acct.total
       let u3 := work.foldl (fun u o =>
         u.form 4 (o.2.acct.shown ||| 32) o.2.acct.start o.2.acct.est o.2.tenant 0 o.2.opened o.1 o.2.acct.energies o.2.tokens 0) u2
       let t := u3.led.tray
       let u4 := u3.form 5 u3.led.trayAcct.shown u3.led.trayAcct.start u3.led.trayAcct.est 0 0 (t.getD 4 0) 0 (t.take 4) 0 0
       exec .ledgerIntervalBoundary s = .next (s.afterM (r.1, take (u4.upL fun l =>
         { l with jobs := [], rems := [], tray := [0, 0, 0, 0, 0], trayAcct := Acct.zero,
                  excess := (l.excess.filter fun o => !o.2.open_.isEmpty).map fun o => (o.1, { o.2 with acct := Acct.zero, opened := 0, tokens := 0 }) }))))) ∧
    (s.u.led.toSign = [] ∨ s.u.led.noSign = true → exec .ledgerRecordSigned s = .next (s.after s.u)) ∧
    (∀ r rest, s.u.led.toSign = r :: rest → s.u.led.noSign = false →
      let g := Config.sign (s.u.lamp.ident.ledKey.getD 0) (r.bytes s.u.self ++ leBytes 48 s.u.led.prev) s.u.free
      let x : SRec := { r := r, prev := s.u.led.prev, sigR := g.1 % 2 ^ 384, sigS := g.2 % 2 ^ 384 }
      let u1 := (s.u.draw.upL fun l => { l with toSign := rest, written := l.written ++ [x], prev := Config.sha384 (x.bytes s.u.self) % 2 ^ 384 }).emit
        (.bus 6 [r.seq])
      let n := u1.tal.sizes.getD 1 0
      exec .ledgerRecordSigned s = .next (s.after (tallowWrite 1 1 (if n = 0 then 0 else recChunk r.seq % n) 256 u1))) ∧
    (s.u.led.written = [] → exec .ledgerRecordDurable s = .next (s.after s.u)) ∧
    (∀ x rest, s.u.led.written = x :: rest →
      let u1 := (s.u.upL fun l => { l with written := rest, stored := l.stored ++ [x], durable := x.r.seq }).count 0x800100
      let i := x.r.subjB % 2 ^ 17
      (x.r.kind ≠ 1 ∨ s.u.stream i = none → exec .ledgerRecordDurable s = .next (s.after u1.ledgerPump)) ∧
      (∀ t, x.r.kind = 1 → s.u.stream i = some t →
        (t.recorded = false → exec .ledgerRecordDurable s = .next (s.after u1.ledgerPump)) ∧
        (t.recorded = true → exec .ledgerRecordDurable s = .next (s.after
          ((t.cmds.foldl (fun u c => u.done c.2 0x080 c.1 St.OK) u1).freeStream i).ledgerPump)))) ∧
    (let no := fun (st : Nat) => s.after (s.u.done c 0x0B0 0x0C01 st)
     let t := s.u.tal
     let free := s.u.wick.jobs = [] ∧ s.u.led.stored = [] ∧ s.u.led.written = [] ∧ s.u.led.toSign = []
     (isOperator (stampPriv c.stamp) = false → exec (.tallowFormat c) s = .next (no St.NOT_PRIVILEGED)) ∧
     (isOperator (stampPriv c.stamp) = true →
       (t.mounted = false → t.blank = false → exec (.tallowFormat c) s = .next (no St.TALLOW_NOT_MOUNTED)) ∧
       (t.mounted = true ∨ t.blank = true →
         (t.enable = false ∨ t.format ≠ none ∨ ¬free → exec (.tallowFormat c) s = .next (no St.BAD_STATE)) ∧
         (t.enable = true → t.format = none → free →
           let raw := fun (r : Nat) => t.sizes.getD r 0 * 16 * (if mirrored r = true then 2 else 1) * 3
           let slc := (raw 0 + raw 1 + raw 2) / (if t.pagesPer = 0 then 1 else t.pagesPer) / (if t.dieList.isEmpty = true then 1 else t.dieList.length) + 1
           let all := t.dieList.flatMap fun d => (List.range t.blocksPer).map fun b => (d, b)
           let keep := fun (d b : Nat) => match t.blk d b with | some x => x | none => { state := 0, tlc := decide (slc ≤ b), erases := 0, wp := 0 }
           let live := all.filter fun x => (keep x.1 x.2).state ≠ 3
           let u1 := s.u.upT fun t =>
             { t with format := some c, gc := none, writes := t.writes.filter (fun w => !w.cmds.isEmpty), ops := t.ops.filter (fun o => o.cmd.isSome),
                      open_ := [], erased := [], blocks := all.foldl (fun m x => NMap.set m (blkKey x.1 x.2) (keep x.1 x.2)) [] }
           let u2 := t.writes.foldl (fun u w => u.tellOwner w.owner w.region w.chunk St.BAD_STATE) u1
           exec (.tallowFormat c) s = .next (s.after ((live.foldl (fun u x => u.eraseBlk x.1 x.2 3 none) u2).formatCheck)))))) ∧
    (let dsts := (s.u.led.charges.map (·.1)).eraseDups
     exec .ledgerChargeSend s = .next (s.after (dsts.foldl (fun u d =>
       let x : ChargeOut := { dst := d, seq := u.led.chargeSeq + 1, first := s.u.led.chargeFrom,
                              charges := (s.u.led.charges.filter fun c => c.1 = d).map fun c => (c.2.1, c.2.2), resends := 0 }
       (u.upL fun l => { l with chargeSeq := u.led.chargeSeq + 1, chargeOut := l.chargeOut ++ [x] }).reqL d 0x60 (16 + 16 * x.charges.length) 2 x.words)
       (s.u.upL fun l => { l with charges := [] })))) ∧
    (∀ seq, s.hearsL l →
      (∀ first charges, (NMap.getD s.u.led.applied l.src []).contains seq = true →
        exec (.ledgerCharge l seq first charges) s = .next (s.after (s.u.answerL l.src 0x61 l.seq 16 2 [seq, St.OK]))) ∧
      (∀ first charges, (NMap.getD s.u.led.applied l.src []).contains seq = false →
        let u1 := (charges.foldl (fun u c => u.applyCharge c.1 c.2) s.u).count 0x800148
        let mine := fun (i : Nat) (t : Stream) => charges.any (fun c => c.1 % 2 ^ 17 = i && !(bitAt c.1 31)) ||
          (bitAt t.flags 3 && u1.ember.routes.any fun r => r.cid = t.cid && r.ctx = t.ctx && u1.buddyOf r = l.src)
        exec (.ledgerCharge l seq first charges) s = .next (s.after (((u1.upL fun x =>
          { x with applied := NMap.set x.applied l.src (NMap.getD s.u.led.applied l.src [] ++ [seq])
                   streams := x.streams.map fun e => (e.1, if mine e.1 e.2 = true then { e.2 with chargedTo := max e.2.chargedTo (first + 99) } else e.2) }
          ).closeStreams).answerL l.src 0x61 l.seq 16 2 [seq, St.OK]))) ∧
      (∀ status, exec (.ledgerChargeAck l seq status) s = .next (s.after (s.u.upL fun x =>
        { x with chargeOut := x.chargeOut.filter fun y => !(y.dst = l.src && y.seq = seq) })))) ∧
    (∀ (u : Units) (ref e : Nat),
      let imp := u.upL fun l => (l.traySum 4 e).traySum 1 e
      let infra := u.upL fun l => (l.traySum 4 e).traySum 2 e
      let late := fun (job : Nat) => imp.upJobSum job fun j => { j with acct := ({ j.acct with e4 := j.acct.e4 + e } : Acct).flag 3 }
      (bitAt ref 31 = true →
        (NMap.find u.led.excess (ref % 256) = none → u.applyCharge ref e = infra) ∧
        ((NMap.find u.led.excess (ref % 256)).isSome = true → u.applyCharge ref e = imp.upL fun l =>
          { l with excess := NMap.upd l.excess (ref % 256) fun o => { o with acct := ({ o.acct with e4 := o.acct.e4 + e } : Acct).flag 3 } })) ∧
      (bitAt ref 31 = false →
        (∀ t, u.stream (ref % 2 ^ 17) = some t →
          (t.recorded = true → u.applyCharge ref e = late t.job) ∧
          (t.recorded = false → u.applyCharge ref e =
            (imp.upStream (ref % 2 ^ 17) fun s => { s with acct := { s.acct with e4 := s.acct.e4 + e }, flags := s.flags ||| 8 }).upJobSum t.job fun j =>
              { j with acct := { j.acct with e4 := j.acct.e4 + e } })) ∧
        (u.stream (ref % 2 ^ 17) = none →
          (∀ job, NMap.find u.led.freedJob (ref % 2 ^ 17) = some job → u.applyCharge ref e = late job) ∧
          (NMap.find u.led.freedJob (ref % 2 ^ 17) = none → u.applyCharge ref e = infra)))) ∧
    (∀ dst seq, (s.u.led.chargeOut.find? fun x => x.dst = dst && x.seq = seq) = none →
      exec (.ledgerChargeResend dst seq) s = .next (s.after s.u)) ∧
    (∀ dst seq x, (s.u.led.chargeOut.find? fun x => x.dst = dst && x.seq = seq) = some x →
      (x.resends < 3 → exec (.ledgerChargeResend dst seq) s = .next (s.after ((s.u.upL fun l => { l with chargeOut := l.chargeOut.map fun (y : ChargeOut) =>
        if y.dst = dst && y.seq = seq then { y with resends := y.resends + 1 } else y }).reqL dst 0x60 (16 + 16 * x.charges.length) 2 x.words))) ∧
      (3 ≤ x.resends → exec (.ledgerChargeResend dst seq) s = .next (s.after (s.u.upL fun l =>
        { l with chargeOut := l.chargeOut.filter fun y => !(y.dst = dst && y.seq = seq) }))))) ∧
  (∀ (total : Nat) (weights : List Nat), weights ≠ [] →
    let ws := if weights.all (· = 0) then weights.map (fun _ => 1) else weights
    let r := splitShares total weights
    r.length = weights.length ∧ sumL r = total ∧
    (∀ i < weights.length, r.getD i 0 = total * ws.getD i 0 / sumL ws ∨ r.getD i 0 = total * ws.getD i 0 / sumL ws + 1) ∧
    (∀ i < weights.length, ∀ j < weights.length,
      total * ws.getD j 0 % sumL ws < total * ws.getD i 0 % sumL ws ∨ (total * ws.getD i 0 % sumL ws = total * ws.getD j 0 % sumL ws ∧ i < j) →
      r.getD j 0 = total * ws.getD j 0 / sumL ws + 1 → r.getD i 0 = total * ws.getD i 0 / sumL ws + 1))

/-- Recovery messages, spare grants and reloads act. RCV_QUERY is answered with the state; RCV_STATE of the open sequence is kept and, the last one, fixes the point; RCV_QUERY_TIMEOUT reports silent members and fixes it without them; RCV_POINT is carried out at the member, RCV_READY counted, RCV_RESUME releases the job; RCV_RESUME_TIMEOUT raises RCV_STALLED and holds. A message of an older sequence is counted as stale. RCV_RELEASE and RCV_SPARE_SET make their checks at the keeper, act and complete, and at another T3 are carried to it. SPARE_REQ is granted by the keeper, and waits where its outputs wait; SPARE_GRANT is taken, and a refusal raises SPR_NO_SPARE but for a prestage; RCV_PREP_TIMEOUT asks for another spare; PRESTAGE_HOLD_EXPIRY returns the spare to HOT. RECOVERY_RESPONSE of kind 1 starts the reloads of its context or reports the failure, of kind 2 keeps what was not released. RELOAD_REQ of kind 0 sends the records and of kind 1 streams the blocks, RELOAD_BLOCK goes on to the context, RELOAD_ACK and RESTORE_ACK advance the stream, RELOAD_REC binds what is not bound and is kept for comparison, and SHARD_FP_REPORT is compared. -/
def Obligations.RecoveryMessagesSparesAndReloadsAct : Prop :=
  ∀ (s : State) (h : SHdr) (l : LHdr) (c : Cmd) (job seq : Nat),
    (s.hearsL l →
      (∀ coord, s.u.rcvStale job seq = false → exec (.rcvQuery l job seq coord) s = .next (s.after
        ((s.u.memberQuery job seq coord).reqL l.src 0x51 56 4 (s.u.stateWords job seq)))) ∧
      (∀ coord, s.u.rcvStale job seq = true → exec (.rcvQuery l job seq coord) s = .next (s.after (s.u.staleL l)) ∧
        exec (.rcvResume l job seq) s = .next (s.after (s.u.staleL l)) ∧
        (∀ r roll failed, exec (.rcvPoint l job seq r roll failed) s = .next (s.after (s.u.staleL l)))) ∧
      (∀ released count steps,
        (NMap.find s.u.rcv.coord job = none → exec (.rcvState l job seq released count steps) s = .next (s.after s.u)) ∧
        (∀ x, NMap.find s.u.rcv.coord job = some x →
          (x.seq = seq → exec (.rcvState l job seq released count steps) s = .next (s.afterM (coordAnswered job s.mem (s.u.upCoord job fun c =>
            { c with answers := (c.answers.filter fun x => x.1 ≠ l.src) ++ [(l.src, released, if count = 0xFF then none else some (steps.take count))] })))) ∧
          (x.seq ≠ seq → exec (.rcvState l job seq released count steps) s = .next (s.after (s.u.staleL l))))) ∧
      (s.u.rcvStale job seq = false →
        (∀ r roll failed, exec (.rcvPoint l job seq r roll failed) s = .next (s.afterM (memberPoint job seq r roll failed s.mem s.u))) ∧
        exec (.rcvResume l job seq) s = .next (s.after (s.u.memberResume job))) ∧
      (∀ status, exec (.rcvReady l job seq status) s = .next (s.after (s.u.takeReady job seq l.src status)))) ∧
    (NMap.find s.u.rcv.coord job = none →
      exec (.rcvQueryTimeout job) s = .next (s.after s.u) ∧ exec (.rcvResumeTimeout job) s = .next (s.after s.u)) ∧
    (∀ x, NMap.find s.u.rcv.coord job = some x →
      (x.phase = 0 →
        let late := x.members.filter fun d => !(x.answers.any fun a => a.1 = d)
        exec (.rcvQueryTimeout job) s = .next (s.afterM (coordPoint job s.mem
          ((late.foldl (fun u d => u.emit (.bus 14 [u.role.wardenId, d])) s.u).upCoord job fun c =>
            { c with members := c.members.filter fun d => !(late.contains d) })))) ∧
      (x.phase ≠ 0 → exec (.rcvQueryTimeout job) s = .next (s.after s.u)) ∧
      (x.phase = 2 → exec (.rcvResumeTimeout job) s = .next (s.after
        ((s.u.raise Ev.RCV_STALLED 4 0x078 (payloadOf [(0, 4, job), (4, 4, x.seq)])).coordHold job))) ∧
      (x.phase ≠ 2 → exec (.rcvResumeTimeout job) s = .next (s.after s.u))) ∧
    (isOperator (stampPriv c.stamp) = true →
      (s.u.isKeeper = false → exec (.rcvRelease c job) s = .next (s.after (s.u.toKeeper c 0x0705 [job]))) ∧
      (s.u.isKeeper = true →
        (NMap.find s.u.rcv.coord job = none → exec (.rcvRelease c job) s = .next (s.after (s.u.done c 0x078 0x0705 St.BAD_STATE))) ∧
        (∀ x, NMap.find s.u.rcv.coord job = some x →
          let u1 := ((s.u.upCoord job fun x => { x with phase := x.back }).journalRcv job).done c 0x078 0x0705 St.OK
          (x.phase ≠ 4 → exec (.rcvRelease c job) s = .next (s.after (s.u.done c 0x078 0x0705 St.BAD_STATE))) ∧
          (x.phase = 4 → x.back = 0 → exec (.rcvRelease c job) s = .next (s.afterM (coordAnswered job s.mem (u1.coordQuery job)))) ∧
          (x.phase = 4 → x.back ≠ 0 → exec (.rcvRelease c job) s = .next (s.after (u1.coordReady job Units.tellResume))))) ∧
      (∀ cid port state group,
        let sound := port < 16 ∧ (state = 0 ∨ state = 1 ∨ state = 4) ∧ group < 1024
        let mine := s.u.rcv.spares.find? fun x => x.cid = cid && x.port = port
        let full := (8 ≤ s.u.sparesIn group ∨ (mine = none ∧ 2048 ≤ s.u.rcv.spares.length)) ∧ ¬(∃ x, mine = some x ∧ x.group = group)
        let serves := ∃ x, mine = some x ∧ x.state = 3
        let talnex := spareTalnex s.u mine cid port group
        let other := ∃ g, s.u.groupGen group = some g ∧ g ≠ talnex
        let e : Spare := { cid := cid, port := port, state := state, talnex := talnex, group := group, pos := 0, version := s.u.role.routeVer }
        let u1 := (s.u.upC fun x => { x with spares := (x.spares.filter fun y => !(y.cid = cid && y.port = port)) ++ [e] }).journalRole s.u.role.keeperId
          [5, cid, port, state, group, talnex]
        (¬sound → exec (.rcvSpareSet c cid port state group) s = .next (s.after (s.u.done c 0x078 0x0706 St.BAD_PARAM))) ∧
        (sound → s.u.isKeeper = false → exec (.rcvSpareSet c cid port state group) s = .next (s.after (s.u.toKeeper c 0x0706 [cid, port, state, group]))) ∧
        (sound → s.u.isKeeper = true → serves ∨ full → exec (.rcvSpareSet c cid port state group) s = .next (s.after (s.u.done c 0x078 0x0706 St.BAD_STATE))) ∧
        (sound → s.u.isKeeper = true → ¬(serves ∨ full) → other →
          exec (.rcvSpareSet c cid port state group) s = .next (s.after (s.u.done c 0x078 0x0706 St.BAD_PARAM))) ∧
        (sound → s.u.isKeeper = true → ¬(serves ∨ full) → ¬other →
          (state = 1 → cid = s.u.self → exec (.rcvSpareSet c cid port state group) s =
            .next (s.after ((u1.later (.powerOff port)).done c 0x078 0x0706 St.OK))) ∧
          (state ≠ 1 ∨ cid ≠ s.u.self → exec (.rcvSpareSet c cid port state group) s = .next (s.after (u1.done c 0x078 0x0706 St.OK)))))) ∧
    (s.hearsL l →
      (∀ pos action a,
        (s.u.isKeeper = true → exec (.spareReq l pos job action a) s = .next (s.after (s.u.grantSpare l.src pos job action a))) ∧
        (s.u.isKeeper = false → (s.u.roleOf s.u.role.keeperId).holding = true → exec (.spareReq l pos job action a) s =
          .next (s.after (s.u.upC fun x => { x with waitReqs := x.waitReqs ++ [(l.src, pos, job, action, a)] }))) ∧
        (s.u.isKeeper = false → (s.u.roleOf s.u.role.keeperId).holding = false → exec (.spareReq l pos job action a) s = .next (s.after s.u))) ∧
      (∀ pos cid port version status,
        let was := s.u.rcv.reqs.find? fun r => r.1 = pos
        let u1 := s.u.takeGrant pos cid port status
        (was = none → exec (.spareGrant l pos cid port version status) s = .next (s.after u1)) ∧
        (∀ r, was = some r →
          (r.2.2.1 ≠ 3 → status ≠ St.OK → exec (.spareGrant l pos cid port version status) s = .next (s.after
            (u1.raise Ev.SPR_NO_SPARE 4 0x078 (payloadOf [(0, 4, r.2.1), (4, 3, pos)]) [] { Target.none with job := r.2.1, cid := pos }))) ∧
          (r.2.2.1 = 3 ∨ status = St.OK → exec (.spareGrant l pos cid port version status) s = .next (s.after u1))))) ∧
    (∀ pos port,
      let open_ := s.u.rcv.prep.find? fun x => x.1 = pos && x.2.1 = port
      (open_ = none → exec (.rcvPrepTimeout pos port) s = .next (s.after s.u)) ∧
      (∀ x, open_ = some x →
        let u1 := (s.u.upC fun y => { y with prep := y.prep.filter fun z => !(z.1 = pos && z.2.1 = port) }).raise Ev.SPR_PREP_TIMEOUT 1 0x078
          (payloadOf [(0, 3, s.u.self), (3, 1, port), (4, 3, pos)])
        let jb := ((u1.wick.jobs.find? fun j => !(u1.posShards pos j.1).isEmpty).map (·.1)).getD 0
        (x.2.2 = [] → exec (.rcvPrepTimeout pos port) s = .next (s.after s.u)) ∧
        (x.2.2 ≠ [] → exec (.rcvPrepTimeout pos port) s = .next (s.after (u1.askSpare pos jb 1 0))))) ∧
    (∀ pos,
      (s.u.rcv.holds.contains pos = true → exec (.prestageHoldExpiry pos) s = .next (s.after (s.u.upC fun x =>
        { x with holds := x.holds.filter (· ≠ pos), spares := x.spares.map fun y => if y.state = 2 && y.pos = pos then { y with state := 0, pos := 0 } else y }))) ∧
      (s.u.rcv.holds.contains pos = false → exec (.prestageHoldExpiry pos) s = .next (s.after s.u))) ∧
    (s.hears h 0x18 →
      let key := 64 * h.port + h.ctx
      let jobs := (s.u.rcv.mem.filter fun e => e.2.waitCtx.contains key).map (·.1)
      let preps := s.u.rcv.prep.filter fun x => x.2.1 = h.port && x.2.2.contains h.ctx
      let u1 := s.u.upC fun x =>
        { x with mem := NMap.mapV x.mem (fun _ y => { y with waitCtx := y.waitCtx.filter (· ≠ key) }),
                 prep := (x.prep.map fun y => if y.2.1 = h.port then (y.1, y.2.1, y.2.2.filter (· ≠ h.ctx)) else y).filter fun y => !y.2.2.isEmpty }
      let u2 := preps.foldl (fun u x => (u.wick.jobs.filter fun j => (u.posShards x.1 j.1).any fun e => e.1 = h.ctx).foldl
        (fun u j => u.startReload h.port h.ctx j.1) u) u1
      (exec (.recoveryResponse h 1 St.OK) s = .next (s.after (jobs.foldl (fun u j => u.later (.rcvCheck j)) u2))) ∧
      (exec (.recoveryResponse h 2 St.OK) s = .next (s.after (s.u.upC fun x => { x with unreleased := x.unreleased.filter (· ≠ key) }))) ∧
      (∀ status, status ≠ St.OK →
        exec (.recoveryResponse h 1 status) s = .next (s.after (jobs.foldl (fun u j => u.rcvFail j status) s.u)) ∧
        exec (.recoveryResponse h 2 status) s = .next (s.after (s.u.upC fun x => { x with unreleased := key :: x.unreleased.filter (· ≠ key) }))) ∧
      (∀ kind status, kind ≠ 1 → kind ≠ 2 → exec (.recoveryResponse h kind status) s = .next (s.after s.u))) ∧
    (s.hearsL l →
      (∀ b : Blk,
        let sound := s.u.mantle.stackFailed = false ∧ Blk.bad b = false ∧ crc64 b.data = b.crc
        (¬sound → exec (.reloadBlock l b) s = .next (s.after s.u)) ∧
        (sound →
          let runs := s.u.rcv.reload.find? fun e => e.2.state = 2 && e.2.shards.head? = some b.shard
          (runs = none → exec (.reloadBlock l b) s = .next (s.after s.u)) ∧
          (∀ p x, runs = some (p, x) →
            let t := toTransit s.mem s.u b.data
            let u1 := t.1.2.upReload p fun r => { r with lastSent := r.lastSent || bitAt b.flags 0, total := r.total + 1 }
            exec (.reloadBlock l b) s = .next (s.afterM (t.1.1, (u1.count 0x780498 b.valid).igSend p 0x16 x.ctx (32 + b.valid)
              ([b.step, b.shard, b.index, 0, b.flags, b.valid, b.crc] ++ (inTransit t.1.1 u1 (t.2, b)).data)))))) ∧
      (∀ shard step written status,
        let runs := s.u.rcv.serves.find? fun v => v.shard = shard && v.dst = l.src
        let total := s.u.withSh shard 0 fun _ x _ => x.layout
        (runs = none → exec (.reloadAck l shard step written status) s = .next (s.after s.u)) ∧
        (∀ v, runs = some v →
          let v' := { v with acked := max v.acked written }
          (status ≠ St.OK ∨ total ≤ written → exec (.reloadAck l shard step written status) s = .next (s.after (s.u.upC fun x =>
            { x with serves := x.serves.filter fun y => !(y.shard = shard && y.dst = l.src) }))) ∧
          (status = St.OK → written < total → exec (.reloadAck l shard step written status) s = .next (s.afterM (servePump s.mem
            (s.u.upC fun x => { x with serves := x.serves.map fun y => if y.shard = shard && y.dst = l.src then v' else y }) v'))))) ∧
      (∀ shard kind step first,
        ((∀ k, s.u.shKey shard = some k → s.u.jobB (s.u.shAt k).job = none) → exec (.reloadReq l shard kind step first) s = .next (s.after s.u)) ∧
        (∀ k x j, s.holds shard k x j →
          let v : Serve := { shard := shard, dst := l.src, step := step, next := first, acked := first }
          (exec (.reloadReq l shard 0 step first) s = .next (s.after (s.u.tellRecords shard l.src step))) ∧
          (exec (.reloadReq l shard 1 step first) s = .next (s.afterM
            (servePump s.mem (s.u.upC fun x => { x with serves := (x.serves.filter fun y => !(y.shard = shard && y.dst = l.src)) ++ [v] }) v))) ∧
          (kind ≠ 0 → kind ≠ 1 → exec (.reloadReq l shard kind step first) s = .next (s.after s.u)))) ∧
      (∀ (r : CommitRec) mode comps prog key params fmts interval flags gateMs epoch first sparams,
        let u1 := if r.state < 5 then s.u else s.u.upC fun x =>
          { x with wanted := x.wanted.filter (fun y => y ≠ (r.shard, r.step)), fetched := (x.fetched.filter fun f => f.1 ≠ r.shard) ++ [(r.shard, r.step, r.postFp, r.cursor)] }
        let b : JobBind :=
          { mode := mode, comps := comps, prog := prog, key := key, params := params, fmts := fmts, interval := interval, flags := flags, gateMs := gateMs,
            released := if mode = 0 && bitAt flags 0 then r.step else 0, relTime := 0, relEpoch := 0, entered := none, snapNow := [], perStep := false, held := true, group := (u1.gateGroup r.job).getD 0 }
        let u2 := if (u1.jobB r.job).isSome = true then u1 else u1.upW fun w => { w with jobs := NMap.set w.jobs r.job b }
        let all := fun (u : Units) => ((List.range 16).foldl (fun u p => (u.warmTry p).reloadTry p) u).prepTry
        (u2.jobB r.job = none ∨ (u2.shKey r.shard).isSome = true →
          exec (.reloadRec l r mode comps prog key params fmts interval flags gateMs epoch first sparams) s = .next (s.after (all u2))) ∧
        (∀ j, u2.jobB r.job = some j → u2.shKey r.shard = none →
          let d := u2.bindShard r.job r.shard first sparams l.src 1 j
          (d.2 = none → exec (.reloadRec l r mode comps prog key params fmts interval flags gateMs epoch first sparams) s = .next (s.after (all d.1))) ∧
          (∀ k, d.2 = some k → exec (.reloadRec l r mode comps prog key params fmts interval flags gateMs epoch first sparams) s =
            .next (s.after (all (d.1.upSh k fun x => { x with epoch := epoch, committed := r.step }))))))) ∧
    (s.hears h 0x17 → ∀ step shard written,
      let r := s.u.reloadOf h.port
      let takes := shard ≠ 0 ∧ r.state = 2 ∧ r.shards.head? = some shard
      (¬takes → exec (.restoreAck h step shard written) s = .next (s.after s.u)) ∧
      (∀ k x j, takes → s.holds shard k x j →
        let back := fun (u : Units) (n : Nat) =>
          if x.isBuddy = true then ackServe s.mem u shard u.self n St.OK else (s.mem, u.reqL x.buddy 0x59 24 2 [shard, step, n, St.OK])
        let more := back (s.u.upReload h.port fun r => { r with written := written }) written
        let lost := back s.u x.layout
        (written = 0xFFFFFFFF → exec (.restoreAck h step shard written) s = .next (s.afterM (lost.1, lost.2.reloadResult h.port false))) ∧
        (written ≠ 0xFFFFFFFF → written < r.blocks → exec (.restoreAck h step shard written) s = .next (s.afterM more)) ∧
        (written ≠ 0xFFFFFFFF → r.blocks ≤ written → (s.u.ig h.port).proto = 1 →
          exec (.restoreAck h step shard written) s = .next (s.afterM (more.1, more.2.reloadResult h.port true))) ∧
        (written ≠ 0xFFFFFFFF → r.blocks ≤ written → (s.u.ig h.port).proto ≠ 1 →
          exec (.restoreAck h step shard written) s = .next (s.afterM (more.1, (more.2.upReload h.port fun r => { r with state := 3 }).reloadTry h.port))))) ∧
    (∀ step elems fp shard, s.hears h 0x0F →
      let u1 := s.u.upC fun x =>
        { x with fps := (x.fps.filter fun f => !(f.1 = h.port && f.2.1 = h.ctx && f.2.2.1 = shard)) ++ [(h.port, h.ctx, shard, step, elems, fp)] }
      let r := u1.reloadOf h.port
      let ends := (r.state = 3 ∨ r.state = 2) ∧ r.shards.head? = some shard ∧ r.ctx = h.ctx
      (ends → exec (.shardFpReport h step elems fp shard) s = .next (s.after (u1.reloadTry h.port))) ∧
      (¬ends → exec (.shardFpReport h step elems fp shard) s = .next (s.after ((u1.warmTry h.port).ctxTry h.port h.ctx))))

/-- Ember's commands, control messages, token sets and timers act. EMBER_BIND of sound descriptors of a healthy mode 2 shard binds the table, or keeps it for the end of a running stand-in, carries it to the shard's other T3, preloads where that is set and completes OK; a fault of the parameters or a shard not healthy is refused. EMBER_UNBIND removes the table, with a stand-in after its end; EMBER_STOP ends the stand-in; EMBER_ENABLE_CLEAR drains and ends every stand-in. EMB_CTL_START answers the first condition that fails, or makes an entry; EMB_CTL_ACK sends the route or records the refusal; EMB_CTL_ROUTE is distributed by the keeper and remembered by a member; EMB_CTL_STOP ends its entry. A token set is gathered; whole, it is marked, forwarded and served by its route, or answered BAD_PARAM; at the buddy it is queued; results go to the accelerator, and one that matches nothing is stale. EMBER_BATCH_CLOSE takes the next expert's sets while no batch runs, EMBER_BATCH_DONE answers them. EMBER_RESULT_TIMEOUT answers what is open with ABORTED_RESET, EMBER_DRAIN_EXPIRY cancels what is left and frees an ENDING entry, EMBER_IDLE_UNLOAD unloads an idle instance. -/
def Obligations.EmberStandsInAndServes : Prop :=
  ∀ (s : State) (h : SHdr) (l : LHdr) (w : Who) (c : Cmd) (job shard : Nat),
    (isOperator (stampPriv c.stamp) = true →
      (s.u.shKey shard = none ∨ s.u.jobB job = none → ∀ count addr,
        exec (.emberBind c job shard count addr) s = .next (s.after (s.u.done c 0x0E0 0x0B01 St.BAD_PARAM))) ∧
      (∀ count addr k j, s.u.shKey shard = some k → s.u.jobB job = some j →
        let x := s.u.shAt k
        let bs := (List.range count).map fun i => s.mem.bytesAt (addr + 32 * i) 32
        let es := bs.filterMap expertOf
        let sound := j.mode = 2 ∧ x.job = job ∧ 1 ≤ count ∧ count ≤ 64 ∧ s.u.mayAccess Ag.grid addr (32 * count) false = true ∧ es.length = count ∧
          (es.all fun e => e.ok (4096 * x.layout)) = true ∧ (es.map (·.tag)).Nodup
        let fresh : EmbTable := { job := job, experts := es, next := none }
        let t := if (s.u.ember.entryOf shard).isSome = true then
            (match NMap.find s.u.ember.tables shard with | some o => { o with next := some es } | none => fresh)
          else fresh
        let u1 := s.u.upE fun y => { y with tables := NMap.set y.tables shard t }
        let other := if x.isBuddy = true then s.u.servedBy ((x.members.getD x.writer (0, 0)).1) else x.buddy
        let u2 := if other = 0 ∨ other = s.u.self then u1 else u1.emit (.bus 21 ([other, job, shard] ++ bs.flatten))
        let preload := x.isBuddy = true ∧ bitAt (s.u.cfg 0xE03000 1) 1 = true ∧ s.u.ember.inst = 0
        (¬sound → exec (.emberBind c job shard count addr) s = .next (s.after (s.u.done c 0x0E0 0x0B01 St.BAD_PARAM))) ∧
        (sound → x.prot ≠ 0 → exec (.emberBind c job shard count addr) s = .next (s.after (s.u.done c 0x0E0 0x0B01 St.BAD_STATE))) ∧
        (sound → x.prot = 0 → ¬preload → exec (.emberBind c job shard count addr) s = .next (s.after (u2.done c 0x0E0 0x0B01 St.OK))) ∧
        (sound → x.prot = 0 → preload →
          exec (.emberBind c job shard count addr) s = .next (s.after (((emberLoad s.mem u2).getD u2).done c 0x0E0 0x0B01 St.OK)))) ∧
      (let t := NMap.find s.u.ember.tables shard
       (t = none → exec (.emberUnbind c job shard) s = .next (s.after (s.u.done c 0x0E0 0x0B02 St.BAD_PARAM))) ∧
       (∀ x, t = some x →
        (x.job ≠ job → exec (.emberUnbind c job shard) s = .next (s.after (s.u.done c 0x0E0 0x0B02 St.BAD_PARAM))) ∧
        (x.job = job → s.u.ember.entryOf shard = none → exec (.emberUnbind c job shard) s =
          .next (s.after (((s.u.upE fun x => { x with tables := NMap.del x.tables shard }).embIdle).done c 0x0E0 0x0B02 St.OK))) ∧
        (∀ e, x.job = job → s.u.ember.entryOf shard = some e → exec (.emberUnbind c job shard) s = .next (s.after
          ((s.u.upEntry e.1 fun x => { x with stops := x.stops ++ [(0x0B02, c)], unbind := true }).embEnd e.1))))) ∧
      (∀ e, s.u.ember.entryOf shard = some e →
        (e.2.job = job → exec (.emberStop c job shard) s = .next (s.after
          ((s.u.upEntry e.1 fun x => { x with stops := x.stops ++ [(0x0B03, c)] }).embEnd e.1))) ∧
        (e.2.job ≠ job → exec (.emberStop c job shard) s = .next (s.after (s.u.done c 0x0E0 0x0B03 St.BAD_STATE)))) ∧
      (s.u.ember.entryOf shard = none → exec (.emberStop c job shard) s = .next (s.after (s.u.done c 0x0E0 0x0B03 St.BAD_STATE)))) ∧
    (isOperator w.priv = true → s.u.ember.enable = true →
      let u1 : Machine.Units := { s.u.upE (fun x => { x with enable := false, draining := true }) with
        drains := s.u.drains ++ [{ unit := 0x0E, items := s.u.ember.entries.length, enableHeld := false }] }
      exec (.emberEnableClear w) s = .next (s.after (s.u.ember.entries.foldl (fun u e => u.embEnd e.1) u1))) ∧
    (isOperator w.priv = false ∨ s.u.ember.enable = false → exec (.emberEnableClear w) s = .next (s.after s.u)) ∧
    (s.hearsL l → ∀ cid ctx seq,
      (let r : EmbRoute := { job := job, shard := shard, cid := cid, ctx := ctx, seq := 0, mode := 0, tags := [] }
       let e : StandIn := { job := job, shard := shard, cid := cid, ctx := ctx, origin := l.src, state := 1, seq := 0, start := 0, cap := 0, taken := [], queue := [],
                            served := 0, stops := [], unbind := false }
       let u1 := if s.u.ember.inst = 0 then (emberLoad s.mem s.u).getD s.u else s.u
       let free := NMap.firstFree u1.ember.entries 16
       let why := embReason s.mem s.u job shard
       (∀ x, why = some x → exec (.embCtlStart l job shard cid ctx) s = .next (s.after (s.u.startAnswer r l.src x fun u => u.startAck r x))) ∧
       (why = none → free = none → exec (.embCtlStart l job shard cid ctx) s = .next (s.after u1)) ∧
       (∀ k, why = none → free = some k →
         let u2 := u1.upE fun x => { x with entries := NMap.set x.entries k { e with cap := u1.embCap job } }
         (u1.ember.inst = 2 → exec (.embCtlStart l job shard cid ctx) s = .next (s.after (u2.standIn k))) ∧
         (u1.ember.inst ≠ 2 → exec (.embCtlStart l job shard cid ctx) s = .next (s.after u2)))) ∧
      (let r : EmbRoute := { job := job, shard := shard, cid := cid, ctx := ctx, seq := seq, mode := 0, tags := [] }
       (∀ status, status ≠ St.OK → exec (.embCtlAck l job shard cid ctx seq status) s = .next (s.after (s.u.embRefused status cid shard))) ∧
       (NMap.find s.u.ember.tables shard = none → exec (.embCtlAck l job shard cid ctx seq St.OK) s = .next (s.after (s.u.routeUp r))) ∧
       (∀ t, NMap.find s.u.ember.tables shard = some t →
         exec (.embCtlAck l job shard cid ctx seq St.OK) s = .next (s.after (s.u.routeUp { r with tags := t.experts.map (·.tag) })))) ∧
      (∀ mode tags,
        let r : EmbRoute := { job := job, shard := shard, cid := cid, ctx := ctx, seq := seq, mode := mode, tags := tags }
        (s.u.isKeeper = true → exec (.embCtlRoute l mode job shard cid ctx seq tags) s = .next (s.after (s.u.keeperRoute r))) ∧
        (s.u.isKeeper = false → exec (.embCtlRoute l mode job shard cid ctx seq tags) s = .next (s.after (s.u.memberRoute r)))) ∧
      (let mine := s.u.ember.entries.find? fun e => e.2.shard = shard && e.2.job = job && e.2.cid = cid && e.2.ctx = ctx
       (∀ e, mine = some e → exec (.embCtlStop l job shard cid ctx seq) s = .next (s.after (s.u.upEntry e.1 fun x => { x with state := 3 }))) ∧
       (mine = none → exec (.embCtlStop l job shard cid ctx seq) s = .next (s.after s.u))) ∧
      (∀ tag k set refs vecs,
        let g := s.u.gather (2 ^ 20 + l.src) set refs vecs (bitAt l.flags 1)
        (g.2 = none → exec (.embTokens l tag seq k set refs vecs) s = .next (s.after g.1)) ∧
        (∀ rs vs, g.2 = some (rs, vs) → exec (.embTokens l tag seq k set refs vecs) s = .next (s.after
          (g.1.embQueue { src := l.src, tag := tag, seq := seq, set := set, refs := rs, vecs := vs })))) ∧
      (∀ tag k status set vecs,
        let mine := s.u.ember.fwds.find? fun f => f.buddy = l.src && f.tag = tag && f.seq = seq && f.set = set
        (∀ f, mine = some f →
          let u1 := s.u.sendS f.port 0x1B f.ctx (1 + 2 * b2n (bitAt l.flags 1)) f.hseq (32 + vecs.length) ([tag, seq, k, status, set, 1] ++ vecs)
          (bitAt l.flags 1 = false → exec (.embResultMsg l tag seq k status set vecs) s =
            .next (s.after (u1.upE fun x => { x with fwds := x.fwds.filter (· ≠ f) }))) ∧
          (bitAt l.flags 1 = true → exec (.embResultMsg l tag seq k status set vecs) s = .next (s.after u1))) ∧
        (mine = none → exec (.embResultMsg l tag seq k status set vecs) s = .next (s.after (s.u.staleL l))))) ∧
    (∀ tag seq k set refs vecs, s.hears h 0x1A →
      let g := s.u.gather (64 * h.port + h.ctx) set refs vecs (bitAt h.flags 1)
      let bad := g.1.embAnswer h.port h.ctx h.seq tag seq k St.BAD_PARAM set []
      (g.2 = none → exec (.emberTokens h tag seq k set refs vecs) s = .next (s.after g.1)) ∧
      (∀ rs vs, g.2 = some (rs, vs) →
        let route := g.1.ember.routes.find? fun r => r.seq = seq + r.mode && r.tags.contains tag
        (route = none → exec (.emberTokens h tag seq k set refs vecs) s = .next (s.after bad)) ∧
        (∀ r, route = some r →
          let sound := rs.length = k ∧ g.1.setLenOk r tag k vs.length = true
          let b := g.1.buddyOf r
          let u1 := (g.1.markServed rs).upE fun x =>
            { x with fwds := x.fwds ++ [{ port := h.port, ctx := h.ctx, hseq := h.seq, tag := tag, seq := seq, set := set, k := k, buddy := b }] }
          (¬sound → exec (.emberTokens h tag seq k set refs vecs) s = .next (s.after bad)) ∧
          (sound → b = g.1.self → exec (.emberTokens h tag seq k set refs vecs) s =
            .next (s.after (u1.embQueue { src := g.1.self, tag := tag, seq := seq, set := set, refs := rs, vecs := vs }))) ∧
          (sound → b ≠ g.1.self → exec (.emberTokens h tag seq k set refs vecs) s =
            .next (s.after ((setMsgs (rs.flatMap (leBytes 4) ++ vs)).foldl
              (fun u x => u.reqL b 0x5D (32 + x.1.length) 2 ([tag, seq, k, 0, set, 0] ++ x.1)) u1)))))) ∧
    (s.u.ember.inst ≠ 2 ∨ s.u.ember.batch ≠ none ∨ s.u.ember.waiting = [] → exec .emberBatchClose s = .next (s.after s.u)) ∧
    (∀ k tag rest, s.u.ember.inst = 2 → s.u.ember.batch = none → s.u.ember.waiting = (k, tag) :: rest →
      (NMap.find s.u.ember.entries k = none → exec .emberBatchClose s = .next (s.after s.u)) ∧
      (∀ e, NMap.find s.u.ember.entries k = some e →
        let b := takeSets s.u.batchMax 0 (e.queue.filter fun x => x.tag = tag)
        exec .emberBatchClose s = .next (s.after ((s.u.upEntry k fun e => { e with queue := e.queue.filter fun x => !(b.contains x) }).upE fun x =>
          { x with batch := some (k, b), rot := (k, tag) })))) ∧
    (∀ outs beats bytes,
      (s.u.ember.batch = none → exec (.emberBatchDone outs beats bytes) s = .next (s.after s.u)) ∧
      (∀ k b, s.u.ember.batch = some (k, b) →
        let n := sumL (b.map fun x => x.refs.length)
        let share := (64 * beats + bytes) / (if n = 0 then 1 else n)
        let u1 := s.u.upE fun y => { y with batch := none, work := y.work ++ b.flatMap fun x => x.refs.map fun r => (x.src, r, share) }
        let u2 := (u1.upEntry k fun e => { e with served := e.served + n }).count 0xE03108 n
        exec (.emberBatchDone outs beats bytes) s = .next (s.after
          (((List.range b.length).zip b).foldl (fun u x => u.embReply x.2 St.OK (outs.getD x.1 [])) u2)))) ∧
    (∀ port ctx set,
      let open_ := s.u.ember.fwds.filter fun f => f.port = port && f.ctx = ctx && f.set = set
      let u1 := s.u.upE fun x => { x with fwds := x.fwds.filter fun f => !(f.port = port && f.ctx = ctx && f.set = set) }
      exec (.emberResultTimeout port ctx set) s = .next (s.after
        (open_.foldl (fun u f => u.embAnswer f.port f.ctx f.hseq f.tag f.seq f.k St.ABORTED_RESET f.set []) u1))) ∧
    (∀ k,
      (NMap.find s.u.ember.entries k = none → exec (.emberDrainExpiry k) s = .next (s.after s.u)) ∧
      (∀ e, NMap.find s.u.ember.entries k = some e →
        let run := match s.u.ember.batch with | some (n, b) => if n = k then b else [] | none => []
        let u1 := (run ++ e.queue).foldl (fun u x => u.embReply x St.CANCELLED_BY_DISABLE []) s.u
        let u2 := u1.upE fun x =>
          { x with entries := NMap.del x.entries k, batch := if run.isEmpty then x.batch else none,
                   tables := if e.unbind then NMap.del x.tables e.shard
                     else NMap.upd x.tables e.shard fun t => match t.next with | some n => { t with experts := n, next := none } | none => t }
        let u3 := u2.raise Ev.EMBER_HANDBACK 2 0x0E0 (Config.eventPayload Ev.EMBER_HANDBACK [e.cid, e.shard, e.served])
        (e.state ≠ 3 → exec (.emberDrainExpiry k) s = .next (s.after s.u)) ∧
        (e.state = 3 → exec (.emberDrainExpiry k) s = .next (s.after ((e.stops.foldl (fun u c => u.done c.2 0x0E0 c.1 St.OK) u3).embIdle))))) ∧
    (let idle := s.u.ember.entries = [] ∧ s.u.ember.inst = 2 ∧ bitAt (s.u.cfg 0xE03000 1) 1 = false
     (idle → exec .emberIdleUnload s = .next (s.after ((s.u.upE fun x => { x with inst := 0 }).later (.gridUnload s.u.ember.slot)))) ∧
     (¬idle → exec .emberIdleUnload s = .next (s.after s.u)))

/-- Leases are renewed, granted and released, takeovers granted, and the witness protocol acts. The holder asks for its lease every 10 ms and again while it waits, as a candidate does at start. The witness grants the start's first reachable candidate, stores and grants the holder's request, ends its hand-back, and refuses any other; a release is granted to the home candidate; a takeover request in a lease is answered 'not yet', and granted once the lease and its guard have ended. A grant of the outstanding request renews the lease, one of a further epoch makes a T3 that holds no role the holder; LEASE_REFUSE leaves the lease, and makes a candidate that finds a higher epoch the pilot. HOLDER_LEASE_EXPIRY stops the outputs and asks to rejoin. The pilot asks for takeover at the third miss; TAKEOVER_GRANT makes it holder at the raised epoch, rebuilding if it was not ready. The standby stores and acknowledges; the witness sends the grant it stored, and drops it at the timeout; a silent witness makes the standby act alone. Heartbeats are sent, ROLE_REBUILD_DONE starts the outputs, and ROLE_VACANT_TIMER marks the role vacant. A ROLE_HB, JOURNAL or EPOCH of a role epoch below the one in force, and a WITNESS_STORE of a lower witness epoch, is only counted as stale. -/
def Obligations.LeasesTakeoversAndWitnessesAct : Prop :=
  (∀ (s : State) (l : LHdr) (role epoch wepoch : Nat),
    let r := s.u.roleOf role
    let asks := fun (x : RoleSt) => (s.u.setRole role { x with reqSeq := wrapW 32 (x.reqSeq + 1), waiting := true }).askLease role (wrapW 32 (x.reqSeq + 1))
    ((r.holding = true ∧ r.stopped = false) ∨ s.u.mayStart r = true → exec (.leaseRenewTimer role) s = .next (s.after (asks r))) ∧
    (¬((r.holding = true ∧ r.stopped = false) ∨ s.u.mayStart r = true) → exec (.leaseRenewTimer role) s = .next (s.after s.u)) ∧
    ((r.holding = true ∨ s.u.mayStart r = true) ∧ r.waiting = true → exec (.leaseRetryTimer role) s = .next (s.after (s.u.askLease role r.reqSeq))) ∧
    (¬((r.holding = true ∨ s.u.mayStart r = true) ∧ r.waiting = true) → exec (.leaseRetryTimer role) s = .next (s.after s.u)) ∧
    (r.holding = false → exec (.holderLeaseExpiry role) s = .next (s.after s.u)) ∧
    (r.holding = true → exec (.holderLeaseExpiry role) s = .next (s.after
      ((s.u.setRole role { r with
        holding := false, stopped := true, handing := false, rebuilding := false, leased := false, waiting := false, ready := false }).rejoin role))) ∧
    (s.judges l role wepoch →
      (∀ seq,
        let refuse := s.u.sendLease role l.src 3 r.epoch seq
        let taken := ∃ x ∈ r.stores, x.kind = 1
        let back := ∃ x ∈ r.stores, x.kind = 2
        (r.wHolder = 0 → s.u.firstCand r [] = some l.src → exec (.leaseRequest l role epoch wepoch seq) s = .next (s.after
          ((s.u.setRole role { r with pilot := (s.u.firstCand r [l.src, r.witness, r.standby]).getD 0 }).store role 0 (r.epoch + 1) l.src seq))) ∧
        (r.wHolder = 0 → s.u.firstCand r [] ≠ some l.src → exec (.leaseRequest l role epoch wepoch seq) s = .next (s.after refuse)) ∧
        (r.wHolder ≠ 0 → r.wHolder ≠ l.src ∨ taken → exec (.leaseRequest l role epoch wepoch seq) s = .next (s.after refuse)) ∧
        (r.wHolder ≠ 0 → r.wHolder = l.src → ¬taken → back → exec (.leaseRequest l role epoch wepoch seq) s = .next (s.after
          ((s.u.setRole role { r with stores := r.stores.filter fun x => x.kind ≠ 2 }).store role 0 (r.epoch + 2) l.src seq))) ∧
        (r.wHolder ≠ 0 → r.wHolder = l.src → ¬taken → ¬back → exec (.leaseRequest l role epoch wepoch seq) s = .next (s.after
          (s.u.store role 0 r.epoch l.src seq)))) ∧
      (∀ c, r.cands.head? = some c → l.src = r.wHolder → epoch = r.epoch →
        exec (.leaseRelease l role epoch wepoch) s = .next (s.after (s.u.store role 2 (r.epoch + 1) c 0))) ∧
      (r.cands.head? = none ∨ l.src ≠ r.wHolder ∨ epoch ≠ r.epoch → exec (.leaseRelease l role epoch wepoch) s = .next (s.after s.u)) ∧
      (∀ ready pilot,
        let u1 := s.u.setRole role { r with wAsking := some pilot, wPilotReady := decide (ready = 1) }
        let asked := ∃ x ∈ r.stores, x.kind = 1
        (r.wLeased = true → exec (.takeoverRequest l role epoch ready wepoch pilot) s = .next (s.after
          (u1.answerL l.src 0x32 l.seq 24 (roleLevel role) [role, r.epoch, 2, 0, r.wepoch, pilot]))) ∧
        (r.wLeased = false → asked → exec (.takeoverRequest l role epoch ready wepoch pilot) s = .next (s.after u1)) ∧
        (r.wLeased = false → ¬asked →
          exec (.takeoverRequest l role epoch ready wepoch pilot) s = .next (s.after (u1.store role 1 (r.epoch + 1) pilot 0))))) ∧
    (let ends := (s.u.self = r.witness ∨ r.acting = true) ∧ r.wLeased = true
     let u1 := s.u.setRole role { r with wLeased := false }
     (¬ends → exec (.witnessLeaseGuardExpiry role) s = .next (s.after s.u)) ∧
     (ends → r.wAsking = none → exec (.witnessLeaseGuardExpiry role) s = .next (s.after u1)) ∧
     (∀ p, ends → r.wAsking = some p → exec (.witnessLeaseGuardExpiry role) s = .next (s.after (u1.store role 1 (r.epoch + 1) p 0)))) ∧
    (s.hearsWit l role wepoch →
      let u1 := s.u.upRole role fun r => { r with wepoch := wepoch }
      let r1 := u1.roleOf role
      (∀ seq lease holder,
        let mine := holder = u1.self ∧ lease ≠ 0
        let renews := r1.holding = true ∧ r1.stopped = false ∧ epoch = r1.epoch
        (¬mine → exec (.leaseGrant l role epoch wepoch seq lease holder) s = .next (s.after u1)) ∧
        (mine → renews → r1.waiting = true → seq = r1.reqSeq →
          exec (.leaseGrant l role epoch wepoch seq lease holder) s = .next (s.after (u1.setRole role { r1 with waiting := false, leased := true }))) ∧
        (mine → renews → r1.waiting = false ∨ seq ≠ r1.reqSeq → exec (.leaseGrant l role epoch wepoch seq lease holder) s = .next (s.after u1)) ∧
        (mine → ¬renews → r1.epoch < epoch → u1.freeFor role = true → exec (.leaseGrant l role epoch wepoch seq lease holder) s =
          .next (s.after (((u1.becomeHolder role epoch).later (.roleReady role)).drainQueue role))) ∧
        (mine → ¬renews → epoch ≤ r1.epoch ∨ u1.freeFor role = false → exec (.leaseGrant l role epoch wepoch seq lease holder) s = .next (s.after u1))) ∧
      (let late := r1.holding = false ∧ r1.waiting = true ∧ r1.epoch < epoch
       (late → exec (.leaseRefuse l role epoch wepoch) s = .next (s.after
         ((u1.setRole role { r1 with epoch := epoch, waiting := false, pilot := u1.self, ready := false }).rejoin role))) ∧
       (¬late → exec (.leaseRefuse l role epoch wepoch) s = .next (s.after u1))) ∧
      exec (.takeoverNotYet l role epoch wepoch) s = .next (s.after u1) ∧
      exec (.witnessHeartbeat l wepoch role) s = .next (s.after u1) ∧
      (∀ holder expiry seq, exec (.witnessStore l wepoch role epoch holder expiry seq) s = .next (s.after
        ((u1.upRole role fun r => { r with acting := false, wHolder := holder, holder := holder, epoch := epoch, wExpiry := expiry, wLeased := true }).sendL
          l.src 0x33 1 l.seq 32 (roleLevel role) [1, wepoch, role, epoch, holder, expiry, seq]))) ∧
      (∀ seq,
        let mine := r1.stores.find? fun x => x.seq = seq
        (∀ x, mine = some x → exec (.witnessStoreAck l wepoch role epoch seq) s = .next (s.after
          ((u1.setRole role { r1 with stores := r1.stores.filter fun x => x.seq ≠ seq }).grant role x))) ∧
        (mine = none → exec (.witnessStoreAck l wepoch role epoch seq) s = .next (s.after u1))) ∧
      (∀ pilot,
        let takes := pilot = u1.self ∧ r1.epoch < epoch ∧ u1.freeFor role = true
        let np := (u1.nextCand r1.cands [r1.holder, r1.witness, r1.standby]).getD 0
        let u2 := ((u1.setRole role { r1 with pilot := np }).becomeHolder role epoch).upRole role fun x => { x with rebuilding := !r1.ready, imaging := true }
        let u3 := (if r1.ready = true then u2 else u2.rebuild role).raise Ev.ROLE_TAKEOVER (roleLevel role) 0x000 (payloadOf [(0, 4, role), (4, 1, b2n r1.ready)])
        let u4 := if np = 0 then u3 else u3.appoint role
        let u5 := if r1.ready = true then (u4.later (.roleReady role)).drainQueue role else u4
        (¬takes → exec (.takeoverGrant l role epoch wepoch pilot) s = .next (s.after u1)) ∧
        (takes → roleLevel role = 3 → r1.holder ≠ 0 → exec (.takeoverGrant l role epoch wepoch pilot) s = .next (s.after
          ((u5.upWatch r1.holder fun w => { w with misses := 5, probing := true }).reqL r1.holder 0x41 16 3 [0]))) ∧
        (takes → roleLevel role = 4 → exec (.takeoverGrant l role epoch wepoch pilot) s = .next (s.after
          ((u5.upR fun x => { x with keks := [] }).reqAll (u5.scopeOf role) 0x3C 208 4 [5, 0, 192]))) ∧
        (takes → ¬(roleLevel role = 3 ∧ r1.holder ≠ 0) → roleLevel role ≠ 4 → exec (.takeoverGrant l role epoch wepoch pilot) s = .next (s.after u5)))) ∧
    (∀ seq, exec (.witnessStoreAckTimeout role seq) s = .next (s.after
      (s.u.upRole role fun r => { r with stores := r.stores.filter fun s => s.seq ≠ seq }))) ∧
    (let beats := r.witness = s.u.self ∧ s.u.self ≠ 0 ∧ r.standby ≠ 0
     (beats → exec (.witnessHbSend role) s = .next (s.after
       (s.u.reqL r.standby 0x33 32 (roleLevel role) [2, r.wepoch, role, r.epoch, r.wHolder, r.wExpiry, r.storeSeq]))) ∧
     (¬beats → exec (.witnessHbSend role) s = .next (s.after s.u))) ∧
    (r.standby = s.u.self → r.acting = false → exec (.standbySilenceExpiry role) s = .next (s.after
      ((s.u.setRole role { r with acting := true, alone := true, wepoch := r.wepoch + 1 }).raise Ev.ROLE_WITNESS_ALONE (roleLevel role) 0x000 role))) ∧
    (r.standby ≠ s.u.self ∨ r.acting = true → exec (.standbySilenceExpiry role) s = .next (s.after s.u)) ∧
    (r.pilot ≠ s.u.self ∨ r.holding = true → exec (.pilotHbMiss role) s = .next (s.after s.u)) ∧
    (r.pilot = s.u.self → r.holding = false →
      (r.misses < 2 ∨ r.asked = true → exec (.pilotHbMiss role) s = .next (s.after (s.u.setRole role { r with misses := r.misses + 1 }))) ∧
      (2 ≤ r.misses → r.asked = false → exec (.pilotHbMiss role) s = .next (s.after
        ((s.u.setRole role { r with misses := r.misses + 1, asked := true }).reqAll r.judges 0x32 24 (roleLevel role)
          [role, r.epoch, 0, b2n r.ready, r.wepoch, s.u.self])))) ∧
    (let holds := r.holding = true ∧ r.stopped = false
     (holds → r.pilot = 0 → exec (.roleHbSend role) s = .next (s.after s.u)) ∧
     (holds → r.pilot ≠ 0 → exec (.roleHbSend role) s = .next (s.after
       (s.u.reqL r.pilot 0x31 24 (roleLevel role) [role, r.epoch, 0, 0, r.jpos]))) ∧
     (¬holds → r.pilot = s.u.self → s.u.self ≠ 0 → exec (.roleHbSend role) s = .next (s.after
       (s.u.reqAll r.judges 0x31 24 (roleLevel role) [role, r.epoch, 1, b2n r.ready, r.jpos]))) ∧
     (¬holds → r.pilot ≠ s.u.self ∨ s.u.self = 0 → exec (.roleHbSend role) s = .next (s.after s.u))) ∧
    (r.holding = true ∧ r.rebuilding = true → exec (.roleRebuildDone role) s = .next (s.after
      (((s.u.setRole role { r with rebuilding := false }).later (.roleReady role)).drainQueue role))) ∧
    (¬(r.holding = true ∧ r.rebuilding = true) → exec (.roleRebuildDone role) s = .next (s.after s.u)) ∧
    (r.vacant = true → exec (.roleVacantTimer role) s = .next (s.after s.u)) ∧
    (r.vacant = false → exec (.roleVacantTimer role) s = .next (s.after
      ((s.u.setRole role { r with vacant := true }).raise Ev.ROLE_VACANT (roleLevel role) 0x000 role)))) ∧
  (∀ (s : State) (l : LHdr) (role epoch wepoch : Nat), s.hearsL l →
    (epoch < (s.u.roleOf role).epoch →
      (∀ sender ready jpos, exec (.roleHb l role epoch sender ready jpos) s = .next (s.after (s.u.staleL l))) ∧
      (∀ pos image entries, exec (.journal l role epoch pos image entries) s = .next (s.after (s.u.staleL l))) ∧
      (∀ holder, exec (.epoch l role epoch holder) s = .next (s.after (s.u.staleL l)))) ∧
    (wepoch < (s.u.roleOf role).wepoch → ∀ holder expiry seq,
      exec (.witnessStore l wepoch role epoch holder expiry seq) s = .next (s.after (s.u.staleL l))))

/-- Heartbeats, journals, epochs, routes, standing orders, warden settings and reports act. ROLE_HB ends the pilot's misses, or tells the witness the pilot's readiness. JOURNAL that reaches the pilot's position is applied, and a full image replaces the state; JOURNAL_CHECK compares the fingerprints and answers, and on any status but OK the holder sends an image; the timer sends the check. EPOCH is taken, acknowledged and followed by the queue, stops a holder of a lower epoch, and its answer gives a holder without a pilot one. ROUTE_VERSION applies in order, and one further ahead asks for the missing ones, which ROUTE_REQUEST sends from a keeper that acts. STANDING is taken only when it passes the check, passed to the scope by its holder, and answered. The WARDEN_SET messages set the cap, the fan floor, the pairing, the topology and pooling reservations, which wait for pages; the ROLE_REPORT messages are kept at a role's holder, fence the positions of a failed T3, and offer those of one that rejoined. WARDEN_T3_HB_MISS counts and probes, WARDEN_PROBE_EXPIRY declares. -/
def Obligations.JournalsRoutesOrdersAndWardenSetsAct : Prop :=
  ∀ (s : State) (l : LHdr) (role epoch : Nat),
    (s.hearsRole l role epoch →
      let r := s.u.roleOf role
      (∀ ready jpos, exec (.roleHb l role epoch 0 ready jpos) s = .next (s.after (s.u.setRole role
        { r with epoch := epoch, holder := l.src, misses := 0, asked := false, since := if r.holder = l.src then r.since else s.u.clk.mono }))) ∧
      (∀ sender ready jpos, sender ≠ 0 → exec (.roleHb l role epoch sender ready jpos) s = .next (s.after
        (s.u.setRole role { r with pilot := l.src, wPilotReady := decide (ready = 1) }))) ∧
      (∀ pos entries,
        let meets := pos ≤ r.jpos ∧ r.jpos ≤ pos + entries.length
        exec (.journal l role epoch pos true entries) s = .next (s.after
          (s.u.setRole role { r with journal := entries, jpos := pos + entries.length, ready := false })) ∧
        (meets → exec (.journal l role epoch pos false entries) s = .next (s.after
          (s.u.setRole role { r with journal := r.journal ++ entries.drop (r.jpos - pos), jpos := pos + entries.length }))) ∧
        (¬meets → exec (.journal l role epoch pos false entries) s = .next (s.after (s.u.setRole role { r with ready := false })))) ∧
      (∀ jpos fp status,
        let same := decide (jpos = r.jpos) && decide (fp = r.fingerprint)
        (r.holding = false → exec (.journalCheck l role epoch jpos fp status) s = .next (s.after ((s.u.setRole role { r with fp := r.fingerprint, ready := same }).answerL
          l.src 0x35 l.seq 32 (roleLevel role) [role, r.epoch, r.jpos, r.fingerprint, if same then St.OK else St.INTEGRITY_FINGERPRINT]))) ∧
        (r.holding = true → l.src ≠ r.pilot → exec (.journalCheck l role epoch jpos fp status) s = .next (s.after s.u)) ∧
        (r.holding = true → l.src = r.pilot → status = St.OK → exec (.journalCheck l role epoch jpos fp status) s = .next (s.after
          (s.u.setRole role { r with jok := max r.jok jpos, pilotSince := some (r.pilotSince.getD s.u.clk.mono) }))) ∧
        (r.holding = true → l.src = r.pilot → status ≠ St.OK → exec (.journalCheck l role epoch jpos fp status) s = .next (s.after
          ((s.u.setRole role { r with pilotSince := none }).sendJournal role l.src 0 1)))) ∧
      (∀ holder,
        let takes := r.holding = true ∧ r.pilot = 0 ∧ r.cands.contains l.src = true ∧ r.judges.contains l.src = false
        let was := (r.holding || r.stopped || r.holder = s.u.self) && r.epoch < epoch && holder ≠ s.u.self
        (lResp l = true → takes → exec (.epoch l role epoch holder) s = .next (s.after
          (((s.u.setRole role { r with pilot := l.src }).appoint role).sendJournal role l.src 0 1))) ∧
        (lResp l = true → ¬takes → exec (.epoch l role epoch holder) s = .next (s.after s.u)) ∧
        (lResp l = false → exec (.epoch l role epoch holder) s = .next (s.after (((s.u.setRole role
          { r with
            epoch := epoch, holder := holder, vacant := false, holding := r.holding && !was, stopped := r.stopped || was, handing := r.handing && !was,
            rebuilding := r.rebuilding && !was, since := s.u.clk.mono, ready := r.ready && !was, pilot := if was then s.u.self else r.pilot }).answerL
              l.src 0x36 l.seq 16 (roleLevel role) [role, epoch, holder]).drainQueue role))))) ∧
    (let r := { s.u.roleOf role with fp := (s.u.roleOf role).fingerprint }
     let sends := r.holding = true ∧ r.stopped = false ∧ r.pilot ≠ 0
     (sends → exec (.journalCheckTimer role) s = .next (s.after
       ((s.u.setRole role r).reqL r.pilot 0x35 32 (roleLevel role) [role, r.epoch, r.jpos, r.fp, St.OK]))) ∧
     (¬sends → exec (.journalCheckTimer role) s = .next (s.after (s.u.setRole role r)))) ∧
    (s.hearsFrom l s.u.role.keeperId → ∀ version entries,
      (version ≤ s.u.role.routeVer → exec (.routeVersion l version entries) s = .next (s.after s.u)) ∧
      (version = s.u.role.routeVer + 1 → exec (.routeVersion l version entries) s = .next (s.after
        ((s.u.upR fun x => (x.apply version entries).catchUp x.routeWait.length).routed s.u.role.routes))) ∧
      (s.u.role.routeVer + 1 < version → exec (.routeVersion l version entries) s = .next (s.after ((s.u.upR fun x =>
        { x with routeWait := NMap.set x.routeWait version entries }).toRole s.u.role.keeperId 0x37 16 [1, s.u.role.routeVer + 1, version - 1, 0])))) ∧
    (s.hearsL l → ∀ version last,
      (s.u.actsAs s.u.role.keeperId = true →
        exec (.routeRequest l version last) s = .next (s.after ((s.u.role.routeLog.filter fun p => version ≤ p.1 && p.1 ≤ last).foldl
          (fun u p => u.reqL l.src 0x37 (16 + 16 * p.2.length) 4 ([0, p.1, 0, p.2.length] ++ p.2.flatMap RouteEntry.words)) s.u))) ∧
      (s.u.actsAs s.u.role.keeperId = false → exec (.routeRequest l version last) s = .next (s.after s.u))) ∧
    (∀ version scope pod status sigOk keyOp entries, s.hearsL l →
      let id := s.u.soRole scope
      let r := s.u.roleOf id
      let st := soCheck (s.u.soTable scope).version version scope sigOk keyOp entries
      let answer := fun (u : Units) (st : Nat) => u.answerL l.src 0x38 l.seq 16 (roleLevel id) [version, scope, st]
      (lResp l = true → r.holding = true → exec (.standing l version scope pod status ⟨sigOk, keyOp⟩ entries) s = .next (s.after
        ((s.u.upR fun x => { x with soWait := x.soWait.map fun w =>
          if w.version = version && w.scope = scope then
            { w with left := w.left.filter (· ≠ l.src), status := if w.status = St.OK then status else w.status }
          else w }).soEnd))) ∧
      (lResp l = true → r.holding = false → exec (.standing l version scope pod status ⟨sigOk, keyOp⟩ entries) s = .next (s.after (s.u.soFinish scope version status))) ∧
      (lResp l = false → r.holding = true →
        (st = St.OK → s.u.actsAs id = true → exec (.standing l version scope pod status ⟨sigOk, keyOp⟩ entries) s = .next (s.after
          (s.u.soSpread version scope pod (some (l.src, l.seq)) entries))) ∧
        (st = St.OK → s.u.actsAs id = false → exec (.standing l version scope pod status ⟨sigOk, keyOp⟩ entries) s = .next (s.after (answer s.u St.BUSY_RETRY))) ∧
        (st ≠ St.OK → exec (.standing l version scope pod status ⟨sigOk, keyOp⟩ entries) s = .next (s.after (answer s.u st)))) ∧
      (lResp l = false → r.holding = false →
        (r.holder ≠ 0 → l.src ≠ r.holder → exec (.standing l version scope pod status ⟨sigOk, keyOp⟩ entries) s = .next (s.after (s.u.staleL l))) ∧
        (r.holder = 0 ∨ l.src = r.holder →
          (st = St.OK → exec (.standing l version scope pod status ⟨sigOk, keyOp⟩ entries) s = .next (s.after (answer (s.u.soTake scope version entries) St.OK))) ∧
          (st ≠ St.OK → exec (.standing l version scope pod status ⟨sigOk, keyOp⟩ entries) s = .next (s.after (answer s.u st)))))) ∧
    (s.hearsFrom l s.u.role.wardenId → ∀ version,
      let u1 := s.u.upR fun x => { x with setVer := version }
      (∀ watts, exec (.wardenSetCap l version watts) s = .next (s.after { u1 with bud := u1.bud.setCapW watts })) ∧
      (∀ duty, exec (.wardenSetFanFloor l version duty) s = .next (s.after ((u1.upR fun x => { x with fanFloor := duty }).later .fan))) ∧
      (∀ pairs,
        let u2 := u1.upR fun x => { x with pairing := pairs.foldl (fun m p => NMap.set m p.1 p.2) [], pairVer := version }
        let old := NMap.find s.u.role.pairing s.u.self
        (NMap.find u2.role.pairing u2.self = none → exec (.wardenSetPairing l version pairs) s = .next (s.after u2)) ∧
        (∀ b, NMap.find u2.role.pairing u2.self = some b →
          (old = some b → exec (.wardenSetPairing l version pairs) s = .next (s.after u2)) ∧
          (old ≠ some b → exec (.wardenSetPairing l version pairs) s = .next (s.after (u2.later (.newBuddy (old.getD 0) b)))))) ∧
      (∀ hops, exec (.wardenSetTopology l version hops) s = .next (s.after (u1.upR fun x =>
        { x with topo := hops.foldl (fun m p => NMap.set m p.1 p.2) [], topoVer := version }))) ∧
      (∀ job shard bb sb,
        let n := u1.role.poolNo + 1
        let w : PoolWait := { n := n, job := job, shard := shard, buddy := none, staging := none, src := l.src, seq := l.seq, bind := none }
        let pair := u1.takePair (pooledRegion 2 job, bb) (pooledRegion 3 job, sb) n
        (pair = none → exec (.wardenSetPooling l version 0 job shard bb sb) s = .next (s.after
          (u1.tellL l.src 0x39 1 l.seq 44 3 [St.MANTLE_FULL, job, shard, u1.self]))) ∧
        (∀ u2 i j, pair = some (u2, some i, some j) → exec (.wardenSetPooling l version 0 job shard bb sb) s = .next (s.after (u2.reserved w i j))) ∧
        (∀ u2 i j, pair = some (u2, i, j) → i = none ∨ j = none → exec (.wardenSetPooling l version 0 job shard bb sb) s = .next (s.after
          (u2.upR fun x => { x with poolNo := n, poolWait := x.poolWait ++ [{ w with buddy := i, staging := j }] })))) ∧
      (∀ op job shard bb sb, op ≠ 0 →
        let mine := u1.role.pooling.filter fun p => p.1 = job && p.2.1 = shard
        let late := u1.role.poolWait.filter fun w => w.job = job && w.shard = shard && w.bind.isNone
        let u2 := u1.upR fun x => { x with pooling := x.pooling.filter fun p => !(p.1 = job && p.2.1 = shard),
                                           poolWait := x.poolWait.filter fun w => !(w.job = job && w.shard = shard && w.bind.isNone) }
        let u3 := u2.setMantle { u2.mantle with waits := u2.mantle.waits.filter fun w => !(late.any fun x => x.n = w.why / 2) }
        let u4 := late.foldl (fun u w => (w.buddy.toList ++ w.staging.toList).foldl (fun u i => u.freeRegion i 5) u) u3
        exec (.wardenSetPooling l version op job shard bb sb) s = .next (s.after
          (mine.foldl (fun u p => (u.freeRegion p.2.2.1 5).freeRegion p.2.2.2 5) u4)))) ∧
    (s.hearsL l → s.u.heldRole = none → ∀ version,
      (∀ pages, exec (.roleReportFreePages l version pages) s = .next (s.after s.u)) ∧
      (∀ stks pages, exec (.roleReportStacks l version stks pages) s = .next (s.after s.u)) ∧
      (∀ a f r m, exec (.roleReportPodSummary l version a f r m) s = .next (s.after s.u)) ∧
      (∀ cid time, exec (.roleReportFailedT3 l version cid time) s = .next (s.after s.u)) ∧
      (∀ cid gen, exec (.roleReportRejoined l version cid gen) s = .next (s.after s.u))) ∧
    (s.hearsL l → s.u.heldRole ≠ none → ∀ version,
      (∀ pages, exec (.roleReportFreePages l version pages) s = .next (s.after (s.u.noteT3 l.src fun w => { w with freePages := pages }))) ∧
      (∀ stks pages, exec (.roleReportStacks l version stks pages) s = .next (s.after (s.u.noteT3 l.src fun w => { w with stks := stks, pages := pages }))) ∧
      (∀ a f r m, exec (.roleReportPodSummary l version a f r m) s = .next (s.after ((s.u.upR fun x =>
        { x with summaries := NMap.set x.summaries l.src [a, f, r, m] }).journalHeld [11, l.src, a, f, r, m]))) ∧
      (∀ cid time,
        let u1 := s.u.noteT3 cid fun w => { w with failed := true, probing := false }
        let ps := (u1.positionsOf cid).filter fun e => !e.fenced
        let acts := u1.actsAs u1.role.keeperId = true ∧ ps ≠ []
        let u2 := u1.issueRoutes (ps.map fun (e : RouteEntry) => { e with fenced := true, gen := wrapW 16 (e.gen + 1) })
        (acts → exec (.roleReportFailedT3 l version cid time) s = .next (s.after
          (ps.foldl (fun u e => u.later (.positionFailed e.cid (wrapW 16 (e.gen + 1)))) u2))) ∧
        (¬acts → exec (.roleReportFailedT3 l version cid time) s = .next (s.after u1))) ∧
      (∀ cid gen,
        let u1 := s.u.noteT3 cid fun w => { w with failed := false, probing := false, misses := 0, gen := gen }
        let e : RouteEntry := { cid := cid, kind := 1, valid := true, fenced := false, spare := false, target := cid, port := 0, version := 0, gen := gen }
        (u1.actsAs u1.role.keeperId = true → exec (.roleReportRejoined l version cid gen) s = .next (s.after ((u1.issueRoutes [e]).later (.offerSpares cid)))) ∧
        (u1.actsAs u1.role.keeperId = false → exec (.roleReportRejoined l version cid gen) s = .next (s.after (u1.report u1.role.keeperId 4 5 [cid, gen]))))) ∧
    (∀ cid,
      let w := NMap.getD s.u.role.watch cid T3Watch.reset
      let watches := (s.u.roleOf s.u.role.wardenId).holding = true ∧ w.failed = false
      (¬watches → exec (.wardenT3HbMiss cid) s = .next (s.after s.u)) ∧
      (watches → w.misses < 4 ∨ w.probing = true → exec (.wardenT3HbMiss cid) s = .next (s.after (s.u.upWatch cid fun w => { w with misses := w.misses + 1 }))) ∧
      (watches → 4 ≤ w.misses → w.probing = false → exec (.wardenT3HbMiss cid) s = .next (s.after
        ((s.u.upWatch cid fun w => { w with misses := w.misses + 1, probing := true }).reqL cid 0x41 16 2 [0]))) ∧
      (let declares := s.u.actsAs s.u.role.wardenId = true ∧ w.probing = true ∧ w.failed = false
       let u1 := s.u.noteT3 cid fun w => { w with failed := true, probing := false }
       let u2 := u1.report u1.role.keeperId 2 11 [cid, u1.clk.sec * 2 ^ 30 + u1.clk.ns]
       (declares → exec (.wardenProbeExpiry cid) s = .next (s.after ((u2.rePlace cid).later (.t3Failed cid)))) ∧
       (¬declares → exec (.wardenProbeExpiry cid) s = .next (s.after s.u))))

/-- Keys, admission, rollout, drills, hand-back and the role commands act. KEY under an agreed key-encryption key installs the unwrapped key at the link end that it is for, one that fails counts MGMT_AUTH_FAIL; the keeper replaces keys, and old ones expire but in a gap of its role. The ADMIN messages admit, set features, pass on, take and answer rollout steps, appoint parties and agree keys; FEDERATION takes or passes the inner message on; ROLLOUT_POD_SOAK starts the next pod. Drills send probes; a timeout raises ROLE_DRILL_FAIL and an answer ends its probe. At a quiet point a home role is handed back, and a role's waiting features and amendment come into use. A pooled placement's answer ends it, or has the next candidate tried. ROLE_DRILL, SO_LOAD, SO_PROCEED, SO_CANCEL and FEATURE_REMOVE make their checks and act for an operator; a hold times out. -/
def Obligations.KeysAdmissionDrillsAndRoleCommandsAct : Prop :=
  ∀ (s : State) (l : LHdr) (c : Cmd) (role seq : Nat),
    (s.hearsFrom l s.u.role.keeperId → ∀ linkId index firstUse nonce wrapped igtanPort igtanLink,
      (∀ tagOk, NMap.find s.u.role.keks l.src = none ∨ tagOk = false →
        exec (.key l linkId index firstUse nonce wrapped tagOk igtanPort igtanLink) s = .next (s.after (s.u.authFail l.src))) ∧
      (∀ kek, NMap.find s.u.role.keks l.src = some kek →
        let k := Config.unwrapKey kek nonce wrapped
        let n := newKey (NMap.find s.u.role.keys linkId) index k firstUse
        let there := s.u.later (.igtanKey igtanPort igtanLink linkId index k)
        (igtanPort < 16 → igtanLink ≠ 6 → exec (.key l linkId index firstUse nonce wrapped true igtanPort igtanLink) s = .next (s.after there)) ∧
        (igtanPort < 16 → igtanLink = 6 → exec (.key l linkId index firstUse nonce wrapped true igtanPort igtanLink) s = .next (s.after
          (there.upR fun x => { x with keys := NMap.set x.keys linkId (n igtanPort) }))) ∧
        (16 ≤ igtanPort → exec (.key l linkId index firstUse nonce wrapped true igtanPort igtanLink) s = .next (s.after
          (s.u.upR fun x => { x with keys := NMap.set x.keys linkId (n 0xFF) }))))) ∧
    (∀ linkId ends,
      let k := Config.newKey s.u.free
      let old := NMap.find s.u.role.keys linkId
      let i := 1 - (old.map (·.index)).getD 1
      let t := s.u.packTime
      let u1 := (s.u.draw.upR fun x => { x with keys := NMap.set x.keys linkId (newKey old i k t ((old.map (·.port)).getD 0xFF)) }).journalRole
        s.u.draw.role.keeperId [4, linkId, i, t, k]
      (s.u.actsAs s.u.role.keeperId = true → exec (.keyReplaceTimer linkId ends) s = .next (s.after (ends.foldl (fun u d =>
        u.reqL d 0x3B 80 4 ([linkId, i, t, s.u.free] ++ Config.seal ((NMap.find u.role.keks d).getD 0) s.u.free [linkId, i, t] [k])) u1))) ∧
      (s.u.actsAs s.u.role.keeperId = false → exec (.keyReplaceTimer linkId ends) s = .next (s.after s.u))) ∧
    (∀ linkId,
      (s.u.gapAt s.u.role.keeperId = true → exec (.oldKeyExpiry linkId) s = .next (s.after s.u)) ∧
      (s.u.gapAt s.u.role.keeperId = false → exec (.oldKeyExpiry linkId) s = .next (s.after
        (s.u.upR fun x => { x with keys := NMap.upd x.keys linkId fun k => { k with old := none } })))) ∧
    (s.hearsL l →
      (∀ version msgVer features,
        let fit := s.u.role.admitted.contains version = true ∧ (features &&& s.u.role.lastFeats) = s.u.role.lastFeats
        let u1 := (((s.u.upR fun x => { x with members := NMap.set x.members l.src [version, msgVer, features] }).journalHeld
          [13, l.src, version, msgVer, features])).spreadFeatures
        let answer := fun (u : Units) (st : Nat) => u.tellL l.src 0x3C 1 l.seq 60 5
          [1, seq, 44, st, u.role.admitted.getD 0 0, u.role.admitted.getD 1 0, u.role.featEpoch, u.role.lastFeats]
        (s.u.actsAs 0x30000000 = false → exec (.adminAdmissionRequest l seq version msgVer features) s = .next (s.after s.u)) ∧
        (s.u.actsAs 0x30000000 = true → fit → exec (.adminAdmissionRequest l seq version msgVer features) s = .next (s.after (answer u1 St.OK))) ∧
        (s.u.actsAs 0x30000000 = true → ¬fit → exec (.adminAdmissionRequest l seq version msgVer features) s = .next (s.after (answer s.u St.UNSUPPORTED)))) ∧
      (∀ pod version step status,
        let k := s.u.role.keeperId
        let top := l.src = (s.u.roleOf 0x30000000).holder ∧ (s.u.roleOf k).holding = true ∧ l.src ≠ s.u.self
        let all := s.u.self :: s.u.scopeOf k
        (lResp l = true → (s.u.roleOf 0x30000000).holding = true →
          exec (.adminRolloutStep l seq pod version ⟨step, status⟩) s = .next (s.after (s.u.rollNext pod version step status))) ∧
        (lResp l = true → (s.u.roleOf 0x30000000).holding = false → (s.u.roleOf k).holding = true →
          exec (.adminRolloutStep l seq pod version ⟨step, status⟩) s = .next (s.after
            ((s.u.upR fun x => { x with rollWait := x.rollWait.filter (· ≠ l.src) }).rollEnd pod version step status))) ∧
        (lResp l = true → (s.u.roleOf 0x30000000).holding = false → (s.u.roleOf k).holding = false →
          exec (.adminRolloutStep l seq pod version ⟨step, status⟩) s = .next (s.after s.u)) ∧
        (lResp l = false → top → exec (.adminRolloutStep l seq pod version ⟨step, status⟩) s = .next (s.after
          (all.foldl (fun u d => u.tellL d 0x3C 0 0 25 4 (rollBody seq pod version step))
            (s.u.upR fun x => { x with rollout := some (pod, version, step), rollWait := all, rollTo := some (l.src, l.seq) })))) ∧
        (lResp l = false → ¬top → (s.u.roleOf k).holder ≠ 0 → l.src ≠ (s.u.roleOf k).holder →
          exec (.adminRolloutStep l seq pod version ⟨step, status⟩) s = .next (s.after (s.u.staleL l))) ∧
        (lResp l = false → ¬top → (s.u.roleOf k).holder = 0 ∨ l.src = (s.u.roleOf k).holder →
          exec (.adminRolloutStep l seq pod version ⟨step, status⟩) s = .next (s.after
            ((s.u.upR fun x => { x with rollout := some (pod, version, step) }).rollMine l.src l.seq version step)))) ∧
      (∀ secret,
        let u1 := s.u.upR fun x => { x with keks := NMap.set x.keks l.src (Config.deriveKek secret) }
        (lResp l = true → exec (.adminKeyAgreement l seq true secret) s = .next (s.after u1)) ∧
        (lResp l = false → exec (.adminKeyAgreement l seq true secret) s = .next (s.after (u1.answerL l.src 0x3C l.seq 208 4 [5, seq, 192])))) ∧
      (∀ secret, exec (.adminKeyAgreement l seq false secret) s = .next (s.after (s.u.authFail l.src)))) ∧
    (s.hearsFrom l 0x30000000 →
      (∀ vOld vNew fe feats,
        let u1 := s.u.upR fun x => { x with admStatus := St.OK, admitted := [vOld, vNew] }
        (fe = s.u.role.featEpoch → exec (.adminAdmissionAnswer l seq St.OK vOld vNew fe feats) s = .next (s.after u1)) ∧
        (fe ≠ s.u.role.featEpoch → exec (.adminAdmissionAnswer l seq St.OK vOld vNew fe feats) s = .next (s.after (u1.upR fun x => x.featsWait fe feats))) ∧
        (∀ status, status ≠ St.OK → exec (.adminAdmissionAnswer l seq status vOld vNew fe feats) s = .next (s.after
          (s.u.upR fun x => { x with admStatus := status })))) ∧
      (∀ fe feats,
        let mine := s.u.role.featCmds.filter fun p => !(bitAt feats p.1)
        let u1 := s.u.upR fun x => { x.featsWait fe feats with featCmds := x.featCmds.filter fun p => bitAt feats p.1 }
        (fe ≤ s.u.role.featEpoch → exec (.adminFeatureSet l seq fe feats) s = .next (s.after s.u)) ∧
        (s.u.role.featEpoch < fe → exec (.adminFeatureSet l seq fe feats) s = .next (s.after
          (mine.foldl (fun u p => u.done { ring := p.2.1, tag := p.2.2.1, stamp := p.2.2.2.1, gen := p.2.2.2.2 } 0 0x020C St.OK) u1))))) ∧
    (∀ epoch cids, s.hearsRole l role epoch →
      let ps := (cids.take 4).filter (· ≠ 0)
      (ps.eraseDups.length ≠ ps.length → exec (.adminAppointment l seq role epoch cids) s = .next (s.after s.u)) ∧
      (ps.eraseDups.length = ps.length → exec (.adminAppointment l seq role epoch cids) s = .next (s.after (s.u.upRole role fun r =>
        { r with epoch := epoch, holder := cids.getD 0 0, pilot := cids.getD 1 0, witness := cids.getD 2 0, standby := cids.getD 3 0,
                 alone := r.alone && cids.getD 3 0 = 0, acting := r.acting && cids.getD 2 0 ≠ s.u.self, cands := cids.drop 4 })))) ∧
    (∀ dd sd inner dst cls len pay, s.hearsL l →
      (dst = s.u.self → exec (.federation l dd sd dst ⟨inner, cls, len⟩ pay) s = .next (s.after (s.u.later (.message inner cls pay)))) ∧
      (dst ≠ s.u.self →
        (inner.hop = 0 → exec (.federation l dd sd dst ⟨inner, cls, len⟩ pay) s = .next (s.after (s.u.hopDrop (16 + l.port)))) ∧
        (inner.hop ≠ 0 → s.u.routeFenced dst = true → exec (.federation l dd sd dst ⟨inner, cls, len⟩ pay) s = .next (s.after (s.u.count fencedDrops))) ∧
        (inner.hop ≠ 0 → s.u.routeFenced dst = false → s.u.hop dst = none →
          exec (.federation l dd sd dst ⟨inner, cls, len⟩ pay) s = .next (s.after (s.u.hopDrop (16 + l.port)))) ∧
        (∀ q, inner.hop ≠ 0 → s.u.routeFenced dst = false → s.u.hop dst = some q → exec (.federation l dd sd dst ⟨inner, cls, len⟩ pay) s = .next (s.after
          ((s.u.emit (.bus 7 [dst, cls, inner.src, dd, sd, q])).relay q (LHdr.onward inner dst cls len) pay 5))))) ∧
    (let r := s.u.roleOf role
     (r.pilot = s.u.self ∧ r.drillHours ≠ 0 → exec (.drillInterval role) s = .next (s.after (s.u.drillStart role))) ∧
     (¬(r.pilot = s.u.self ∧ r.drillHours ≠ 0) → exec (.drillInterval role) s = .next (s.after s.u)) ∧
     (∀ path cid,
       let out := r.drillOut.any fun x => x.1 = path && x.2.1 = cid
       let u1 := s.u.setRole role { r with drillOut := r.drillOut.filter fun x => !(x.1 = path && x.2.1 = cid), drillFail := r.drillFail + 1 }
       (out = true → exec (.drillPathTimeout role path cid) s = .next (s.after
         ((u1.raise Ev.ROLE_DRILL_FAIL (roleLevel role) 0x000 (payloadOf [(0, 4, cid), (4, 1, path)])).drillEnd role))) ∧
       (out = false → exec (.drillPathTimeout role path cid) s = .next (s.after s.u)))) ∧
    (let mine := s.u.role.role.find? fun p => p.2.drillOut.any fun x => x.2.2 = seq && x.2.1 = l.src
     (∀ p, mine = some p → exec (.drillProbeAnswer l seq) s = .next (s.after ((s.u.upRole p.1 fun r =>
       { r with drillOut := r.drillOut.filter fun x => !(x.2.2 = seq && x.2.1 = l.src) }).drillEnd p.1))) ∧
     (mine = none → exec (.drillProbeAnswer l seq) s = .next (s.after s.u))) ∧
    (∀ calm,
      let r := s.u.roleOf role
      let quiet := calm = true ∧ s.u.roleQuiet role = true
      let home := r.home = true ∧ r.pilot ≠ 0 ∧ r.cands.head? = some r.pilot ∧ r.stopped = false ∧ r.rebuilding = false ∧
        (∃ t, r.pilotSince = some t ∧ t + 60000000000 ≤ s.u.clk.mono)
      (r.holding = false → exec (.handbackQuietPoint role calm) s = .next (s.after s.u)) ∧
      (r.holding = true → quiet → home → exec (.handbackQuietPoint role calm) s = .next (s.after (s.u.handBack role))) ∧
      (r.holding = true → quiet → ¬home → exec (.handbackQuietPoint role calm) s = .next (s.after s.u)) ∧
      (r.holding = true → ¬quiet → r.handing = true → exec (.handbackQuietPoint role calm) s = .next (s.after
        ((s.u.setRole role { r with reqSeq := wrapW 32 (r.reqSeq + 1), waiting := true, handing := false }).askLease role (wrapW 32 (r.reqSeq + 1))))) ∧
      (r.holding = true → ¬quiet → r.handing = false → exec (.handbackQuietPoint role calm) s = .next (s.after s.u))) ∧
    (∀ caused,
      (s.u.role.rollout = none → exec (.rolloutPodSoak caused) s = .next (s.after s.u)) ∧
      (∀ pod version step, s.u.role.rollout = some (pod, version, step) →
        let goes := s.u.actsAs 0x30000000 = true ∧ step = 5 ∧ caused = false ∧ s.u.role.rolloutHold = false
        (¬goes → exec (.rolloutPodSoak caused) s = .next (s.after s.u)) ∧
        (∀ n, goes → s.u.podAfter (some pod) = some n → exec (.rolloutPodSoak caused) s = .next (s.after (s.u.rollSend n version 1))) ∧
        (goes → s.u.podAfter (some pod) = none → exec (.rolloutPodSoak caused) s = .next (s.after
          ((s.u.upR fun x => { x with rollout := none }).journalRole 0x30000000 [14, pod, version, 6]))))) ∧
    (let f := s.u.role.lastFeats
     let u1 := s.u.upRole role fun r =>
       let r := { r with feats := if r.featWait then f else r.feats, featWait := false }
       match r.candWait with
       | some (c, w, wi, st, home) => { r with cands := c, wcands := w, witness := wi, standby := st, home := home, candWait := none }
       | none => r
     let all := u1.role.featNext.isSome = true ∧ ((NMap.vals u1.role.role).any fun r => r.featWait) = false
     (all → exec (.roleQuietPoint role) s = .next (s.after (u1.upR fun x => { x with featSet := f, featNext := none }))) ∧
     (¬all → exec (.roleQuietPoint role) s = .next (s.after u1))) ∧
    (∀ status job shard cid, s.hearsL l →
      let mine := s.u.role.placing.find? fun x => x.job = job && x.shard = shard && x.tried.head? = some l.src
      (mine = none → exec (.poolingReservationAnswer l status job ⟨shard, cid⟩) s = .next (s.after (s.u.later (.poolAnswer status job shard cid)))) ∧
      (∀ x, mine = some x →
        (status = St.OK → exec (.poolingReservationAnswer l status job ⟨shard, cid⟩) s = .next (s.after
          (((s.u.upR fun r => { r with placing := r.placing.filter (fun y => !(y.job = job && y.shard = shard)),
                                       placed := r.placed ++ [(job, shard, l.src, x.src, x.buddyBytes, x.stagingBytes)] }).journalHeld
            [9, job, shard, l.src, x.src]).tellL x.src 0x39 1 0 44 3 [St.OK, job, shard, l.src]))) ∧
        (status ≠ St.OK → St.deferred status = true → exec (.poolingReservationAnswer l status job ⟨shard, cid⟩) s = .next (s.after
          (s.u.tryPlace { x with tried := x.tried.drop 1 }))) ∧
        (status ≠ St.OK → St.deferred status = false → exec (.poolingReservationAnswer l status job ⟨shard, cid⟩) s = .next (s.after
          ((s.u.upWatch l.src fun w => { w with freePages := 0 }).tryPlace x))))) ∧
    (isOperator (stampPriv c.stamp) = true →
      (∀ hours,
        let r := s.u.roleOf role
        let sound := roleIdOk role = true ∧ hours ≤ 8760
        let u1 := s.u.setRole role { r with drillHours := hours, drillCmd := some (c.ring, c.tag, c.stamp, c.gen) }
        (¬sound → exec (.roleDrill c role hours) s = .next (s.after (s.u.done c 0 0x0208 St.BAD_PARAM))) ∧
        (sound → r.pilot = 0 → exec (.roleDrill c role hours) s = .next (s.after (s.u.done c 0 0x0208 St.BAD_STATE))) ∧
        (sound → r.pilot ≠ 0 → r.pilot = s.u.self → exec (.roleDrill c role hours) s = .next (s.after (u1.drillStart role))) ∧
        (sound → r.pilot ≠ 0 → r.pilot ≠ s.u.self → exec (.roleDrill c role hours) s = .next (s.after (u1.emit (.bus 11 [r.pilot, role, hours]))))) ∧
      (∀ addr len sigOk keyOp,
        let b := s.mem.bytesAt addr (min len 131200)
        let f := fun o n => leNat ((b.drop o).take n)
        let es := (List.range (min (f 4 2) 4096)).map fun i => soEntryOf ((b.drop (32 + 32 * i)).take 32)
        let sound := f 4 2 ≤ 4096 ∧ len = 128 + 32 * f 4 2 ∧ f 6 1 ≤ 1 ∧ f 7 1 ≠ 0 ∧ f 7 1 ≤ 16 ∧ (f 6 1 = 1 → f 8 4 = 0)
        let st := soCheck (s.u.soTable (f 6 1)).version (f 0 4) (f 6 1) sigOk keyOp es
        let u1 := s.u.upR fun x => { x with soCmds := x.soCmds ++ [(f 0 4 * 2 + f 6 1, c.ring, c.tag, c.stamp, c.gen)] }
        let may := s.u.mayAccess Ag.lamp addr len false = true
        (¬may → exec (.soLoad c addr len sigOk keyOp) s = .next (s.after (s.u.done c 0 0x0209 St.NOT_PRIVILEGED))) ∧
        (may → s.u.poisoned addr len = true → exec (.soLoad c addr len sigOk keyOp) s = .next (s.after (s.u.done c 0 0x0209 St.INTEGRITY_CRC))) ∧
        (may → s.u.poisoned addr len = false →
          (¬sound → exec (.soLoad c addr len sigOk keyOp) s = .next (s.after (s.u.done c 0 0x0209 St.BAD_PARAM))) ∧
          (sound → st ≠ St.OK → exec (.soLoad c addr len sigOk keyOp) s = .next (s.after (s.u.done c 0 0x0209 st))) ∧
          (sound → st = St.OK → (u1.roleOf (u1.soRole (f 6 1))).holding = true →
            exec (.soLoad c addr len sigOk keyOp) s = .next (s.after (u1.soSpread (f 0 4) (f 6 1) (f 8 4) none es))) ∧
          (sound → st = St.OK → (u1.roleOf (u1.soRole (f 6 1))).holding = false →
            exec (.soLoad c addr len sigOk keyOp) s = .next (s.after
              (u1.toRole (u1.soRole (f 6 1)) 0x38 len ([f 0 4, f 4 2, f 6 1, f 8 4] ++ es.flatMap SoEntry.words)))))) ∧
      (∀ id x, s.u.heldAct id = some x →
        exec (.soProceed c id) s = .next (s.after (((s.u.dropHeld id).later (.held x)).done c 0 0x020A St.OK)) ∧
        exec (.soCancel c id) s = .next (s.after (((s.u.dropHeld id).soRecord x.entry.trigger x.level x.entry.action 2 3 id).done c 0 0x020B St.OK))) ∧
      (∀ id, s.u.heldAct id = none →
        exec (.soProceed c id) s = .next (s.after (s.u.done c 0 0x020A St.BAD_STATE)) ∧
        exec (.soCancel c id) s = .next (s.after (s.u.done c 0 0x020B St.BAD_STATE))) ∧
      (∀ bit,
        let sound := bit < 256 ∧ bitAt ((s.u.role.featNext.map (·.2)).getD s.u.role.featSet) bit = true
        (¬sound → exec (.featureRemove c bit) s = .next (s.after (s.u.done c 0 0x020C St.BAD_PARAM))) ∧
        (sound → (s.u.roleOf 0x30000000).holding = true →
          exec (.featureRemove c bit) s = .next (s.after (((s.u.upR fun x => { x with removed := x.removed ++ [bit] }).spreadFeatures).done c 0 0x020C St.OK))) ∧
        (sound → (s.u.roleOf 0x30000000).holding = false →
          exec (.featureRemove c bit) s = .next (s.after ((s.u.upR fun x =>
            { x with featCmds := x.featCmds ++ [(bit, c.ring, c.tag, c.stamp, c.gen)] }).emit (.bus 12 [(s.u.roleOf 0x30000000).holder, bit])))))) ∧
    (∀ id,
      let times := ∃ x, s.u.heldAct id = some x ∧ x.timed = true
      (∀ x, s.u.heldAct id = some x → x.timed = true →
        exec (.soHoldTimeout id) s = .next (s.after ((s.u.dropHeld id).soRecord x.entry.trigger x.level x.entry.action 2 4 id))) ∧
      (¬times → exec (.soHoldTimeout id) s = .next (s.after s.u)))

/-- Programs are registered, given parameters and qualified, and completions move items and steps. SHADOW_REGISTER makes its checks in order, each refusal with its status, and enters a good signed image; SHADOW_UNREGISTER takes a customer program to which no job is bound out; SHADOW_PARAMS stores the block and table of a job when they keep to the tables; SHADOW_QUALIFY checks the set, allocates its regions, loads the smallest variant and holds the command. SHADOW_COMPLETION ends an item: its result stands in the buddy region, its blocks are tapped, and the fingerprint is checked; a failure or difference seeds it. Otherwise it ends a qualification's vector. SHADOW_RESOLVE keeps the shadow's value or seeds from the replica; SHADOW_GRID_RETRY loads the instances that wait, and SHADOW_INSTANCE_RELOAD one whose tapers are suspect once it is empty. -/
def Obligations.ShadowProgramsAct : Prop :=
  ∀ (s : State) (c : Cmd) (job shard step : Nat),
    (isOperator (stampPriv c.stamp) = true →
      (∀ prog,
        let no := fun (st : Nat) => s.afterW (s.u.done c 0x060 0x0608 st)
        ((s.u.wick.progs.find? fun e => e.2.id = prog) = none → exec (.shadowUnregister c prog) s = .next (no St.BAD_PARAM)) ∧
        (∀ e, (s.u.wick.progs.find? fun e => e.2.id = prog) = some e →
          let held := bitAt e.2.flags 0 = true ∨ ∃ j ∈ s.u.wick.jobs, j.2.mode = 0 ∧ j.2.prog = prog
          (held → exec (.shadowUnregister c prog) s = .next (no St.BAD_STATE)) ∧
          (¬held → exec (.shadowUnregister c prog) s = .next (s.afterW
            ((s.u.upW fun w => { w with progs := NMap.del w.progs e.1 }).done c 0x060 0x0608 St.OK))))) ∧
      (∀ region addr,
        let b := s.mem.bytesAt addr 256
        let ref := ∃ j, s.u.jobB job = some j ∧ j.mode = 0 ∧ ((s.u.progOf j.prog).map fun p => bitAt p.flags 0).getD false = true
        let longest := ((s.u.shardsOf job).map fun k => (s.u.shAt k).params).foldl max 0
        let t := if region = 0xFFFF then [] else readTensors s.mem s.u region (if longest = 0 then 2 ^ 48 else longest) 65536 0
        let named := region = 0xFFFF ∨ ∃ r, NMap.find s.u.mantle.regions region = some r ∧ r.typ = 8
        let fit := (ref → paramsOk b = true) ∧ tensorsOk 0 t = true ∧ (region = 0xFFFF ∨ longest ≤ sumL (t.map fun x => x.2.1 * x.2.2))
        let no := fun (st : Nat) => s.afterW (s.u.done c 0x060 0x060A st)
        (s.u.mayAccess Ag.wick addr 256 false = false → exec (.shadowParams c job region addr) s = .next (no St.NOT_PRIVILEGED)) ∧
        (s.u.mayAccess Ag.wick addr 256 false = true → ¬(named ∧ fit) → exec (.shadowParams c job region addr) s = .next (no St.BAD_PARAM)) ∧
        (s.u.mayAccess Ag.wick addr 256 false = true → named → fit → exec (.shadowParams c job region addr) s = .next (s.afterW
          ((s.u.upW fun w => { w with params := NMap.set w.params job (b, region) }).done c 0x060 0x060A St.OK)))) ∧
      (∀ choice,
        let no := fun (st : Nat) => s.afterW (s.u.done c 0x060 0x060B st)
        ((∀ k, s.u.shKey shard = some k → s.u.jobB (s.u.shAt k).job = none) → exec (.shadowResolve c job shard step choice) s = .next (no St.BAD_PARAM)) ∧
        (∀ k x j, s.holds shard k x j →
          (x.job ≠ job ∨ x.count < choice → exec (.shadowResolve c job shard step choice) s = .next (no St.BAD_PARAM)) ∧
          (x.job = job → choice ≤ x.count →
            (x.step? step = none → exec (.shadowResolve c job shard step choice) s = .next (no St.BAD_STATE)) ∧
            (∀ o, x.step? step = some o →
              (x.isBuddy = false ∨ o.verdict ≠ 1 → exec (.shadowResolve c job shard step choice) s = .next (no St.BAD_STATE)) ∧
              (x.isBuddy = true → o.verdict = 1 → choice = 0 → exec (.shadowResolve c job shard step choice) s = .next (s.afterW
                ((s.u.verified k step (o.recs.filter fun x => x.r.epoch = o.epoch && x.r.fp = o.shadowFp).length).done c 0x060 0x060B St.OK))) ∧
              (x.isBuddy = true → o.verdict = 1 → choice ≠ 0 → exec (.shadowResolve c job shard step choice) s = .next (s.afterW
                (((s.u.upOpen k step fun o => { o with verdict := 0, kind := 5 }).startSeed k step choice).done c 0x060 0x060B St.OK))))))) ∧
      (∀ region off signed,
        let h := memGetAt s.mem s.u region off 256
        let id := fieldAt h 16 2
        let d := imageBytes s.mem s.u region off 1 0x5EF00 32
        let named := ∃ r, NMap.find s.u.mantle.regions region = some r ∧ r.typ = 8
        let st := imageCheck s.mem s.u region off
        let no := fun (st : Nat) => s.afterW (s.u.done c 0x060 0x0607 st)
        (¬named → exec (.shadowRegister c region off signed) s = .next (no St.BAD_PARAM)) ∧
        (named → st ≠ St.OK → exec (.shadowRegister c region off signed) s = .next (no st)) ∧
        (named → st = St.OK → d = none → exec (.shadowRegister c region off signed) s = .next (no St.BAD_PARAM)) ∧
        (∀ b, named → st = St.OK → d = some b →
          let sound := h.getD 6 0 = 8 ∧ 0x100 ≤ id ∧ id ≠ 0xFFFF ∧ s.u.progOf id = none ∧ layoutOk b = true
          let e : ProgEntry := { id := id, version := fieldAt h 18 2, flags := 24 + 32 * b.getD 17 0, comps := b.getD 0 0, region := region, offset := off,
                                 tapers := variantBits (variantsAt s.mem s.u region 8 id 8 off), fmts := (b.drop 1).take (b.getD 0 0) }
          (¬sound → exec (.shadowRegister c region off signed) s = .next (no St.BAD_PARAM)) ∧
          (sound → signed = false → exec (.shadowRegister c region off signed) s = .next (no St.SIGNATURE_INVALID)) ∧
          (sound → signed = true → NMap.firstFree s.u.wick.progs 16 = none → exec (.shadowRegister c region off signed) s = .next (no St.BAD_STATE)) ∧
          (∀ k, sound → signed = true → NMap.firstFree s.u.wick.progs 16 = some k → exec (.shadowRegister c region off signed) s = .next (s.afterW
            ((s.u.upW fun w => { w with progs := NMap.set w.progs k e }).done c 0x060 0x0607 St.OK 0 k))))) ∧
      (∀ prog set,
        let ns := (List.range (setHeader s.mem s.u set).1).map fun k => (setVector s.mem s.u set k).getD 0 0
        let n := ns.foldl max 0
        let sound := (∃ r, NMap.find s.u.mantle.regions set = some r ∧ r.typ = 8) ∧ 1 ≤ (setHeader s.mem s.u set).1 ∧ (setHeader s.mem s.u set).1 ≤ 4096 ∧
          ∀ n ∈ ns, n ≠ 0 ∧ n % 4096 = 0 ∧ n ≤ 2 ^ 24
        let no := fun (st : Nat) => s.afterW (s.u.done c 0x060 0x0609 st)
        (s.u.progOf prog = none → exec (.shadowQualify c prog set) s = .next (no St.BAD_PARAM)) ∧
        (∀ p, s.u.progOf prog = some p →
          let least := (variantsAt s.mem s.u p.region 8 p.id 8 p.offset).foldl
            (fun (o : Option (Nat × Nat)) v => match o with | some b => if v.1 < b.1 then some v else some b | none => some v) none
          let a := s.u.allocRegion (wickRegion 2 0) (4096 * layoutBlocks n p.fmts)
          let g := a.1.allocRegion (wickRegion 3 0) (4 * n)
          (¬sound → exec (.shadowQualify c prog set) s = .next (no St.BAD_PARAM)) ∧
          (sound → s.u.wick.qualify ≠ none → exec (.shadowQualify c prog set) s = .next (no St.BUSY_RETRY)) ∧
          (sound → s.u.wick.qualify = none → least = none → exec (.shadowQualify c prog set) s = .next (no St.BAD_PARAM)) ∧
          (∀ v, sound → s.u.wick.qualify = none → least = some v →
            (a.2 = none ∨ g.2 = none → exec (.shadowQualify c prog set) s = .next (no St.MANTLE_FULL)) ∧
            (∀ b i, a.2 = some b → g.2 = some i →
              let r := g.1.loadInto s.mem p.region v.2 0 none 0xFFFFFFFF 0xFFFFFFFF
                (List.replicate (max 4 ((memGetAt s.mem s.u p.region v.2 256).getD 14 0)) 0xFFFF) .qualify { code := 0x0501, cmd := none }
              (r.2 ≠ St.OK → exec (.shadowQualify c prog set) s = .next (no r.2)) ∧
              (r.2 = St.OK → exec (.shadowQualify c prog set) s = .next (s.afterW (r.1.upW fun w =>
                { w with qualify := some { cmd := c, prog := prog, set := set, slot := 64, buddy := b, staging := i, vec := 0 } })))))))) ∧
    (∀ k x j item kind reason taper fp beats, s.holds shard k x j →
      let i := s.u.inst x.job
      let u0 := if i.slot < 64 then s.u.upSlot i.slot fun s => { s with done := s.done.drop 1 } else s.u
      let open_ := x.step? step
      (open_ = none → exec (.shadowCompletion shard step item kind reason taper fp beats) s = .next (s.afterW u0)) ∧
      (∀ o, open_ = some o →
        let mine := o.items.find? fun i => i.index = item
        (mine = none → exec (.shadowCompletion shard step item kind reason taper fp beats) s = .next (s.afterW u0)) ∧
        (∀ it, mine = some it →
          let runs := o.state = 3 ∧ o.seeding = false ∧ it.state < 2
          let u1 := u0.upInst x.job fun y =>
            { y with queue := y.queue.filter (fun q => q ≠ (shard, step, item)), running := y.running.filter fun q => q ≠ (shard, step, item) }
          let bs := itemBlocks x j o it
          let was := sumL (bs.map fun b => (NMap.getD x.table b (0, 0)).2)
          let p := putItem s.mem u1 x it
          let u2 := tap p.1 p.2 k j bs
          let now := sumL (bs.map fun b => (NMap.getD (u2.shAt k).table b (0, 0)).2)
          let want := if it.sparse then (now + bs.length * fpP - was) % fpP else now % fpP
          let u3 := u2.upOpen k step fun o => { o with items := o.items.map fun x => if x.index = item then { x with taper := taper } else x }
          (¬runs → exec (.shadowCompletion shard step item kind reason taper fp beats) s = .next (s.afterW u0)) ∧
          (runs → kind ≠ 0 → exec (.shadowCompletion shard step item kind reason taper fp beats) s = .next (s.afterW ((u1.seedItem k step item).itemsDone k step))) ∧
          (runs → kind = 0 → fp = want → exec (.shadowCompletion shard step item kind reason taper fp beats) s = .next (s.afterWM (p.1,
            ((u3.upOpen k step fun o => { o with items := o.items.map fun x => if x.index = item then { x with state := 2, fp := fp } else x }).count
              0x600480).itemsDone k step))) ∧
          (runs → kind = 0 → fp ≠ want → exec (.shadowCompletion shard step item kind reason taper fp beats) s = .next (s.afterWM (p.1,
            ((u3.raise Ev.SHADOW_ITEM_MISMATCH 2 0x060 0).later (.suspectTaper i.slot taper shard step false)).seedItem k step item)))))) ∧
    (∀ item kind reason taper fp beats, s.u.shKey shard = none →
      (s.u.wick.qualify = none → exec (.shadowCompletion shard step item kind reason taper fp beats) s = .next (s.afterW s.u)) ∧
      (∀ q, s.u.wick.qualify = some q →
        let u1 := s.u.upSlot q.slot fun s => { s with done := s.done.drop 1 }
        (64 ≤ q.slot → exec (.shadowCompletion shard step item kind reason taper fp beats) s = .next (s.afterW s.u)) ∧
        (q.slot < 64 → s.u.progOf q.prog = none →
          exec (.shadowCompletion shard step item kind reason taper fp beats) s = .next (s.afterW (u1.qualEnd q St.BAD_PARAM 0))) ∧
        (∀ p, q.slot < 64 → s.u.progOf q.prog = some p →
          let want := (setVector s.mem u1 q.set q.vec).getD 5 0
          let good := kind = 0 ∧ fp = want ∧ qualFp s.mem u1 q p = want
          (good → exec (.shadowCompletion shard step item kind reason taper fp beats) s = .next (s.afterWM (qualNext s.mem u1 { q with vec := q.vec + 1 }))) ∧
          (¬good → exec (.shadowCompletion shard step item kind reason taper fp beats) s =
            .next (s.afterW (u1.qualEnd q St.INTEGRITY_FINGERPRINT q.vec)))))) ∧
    exec .shadowGridRetry s = .next (s.afterW (s.u.wick.insts.foldl (fun u e => if e.2.state = 1 then u.later (.shadowLoad e.1) else u) s.u)) ∧
    (let i := s.u.inst job
     let goes := i.state = 2 ∧ i.reload = true ∧ i.queue = [] ∧ i.running = []
     (goes → exec (.shadowInstanceReload job) s = .next (s.afterW
       (((s.u.upInst job fun i => { i with state := 1, reload := false }).later (.gridUnload i.slot)).later (.shadowLoad job)))) ∧
     (¬goes → exec (.shadowInstanceReload job) s = .next (s.afterW s.u)))

/-- Groups are set and freed, and calls are entered, joined, cancelled and aborted. COLL_GROUP_SET of a sound member list sets a new group or replaces one at a higher epoch, and tells the job of a gate group; a bad list, a stale epoch, a full table and a stopped engine are refused. COLL_GROUP_FREE frees a group without open calls. COLL_CALL makes its checks in order, each refusal with its status; one that passes them is entered, and one whose call has ended completes with that end. COLL_CANCEL, COLL_CALL_TIMEOUT, a differing signature and COLL_ABORT start the abort rounds. COLL_ROUND of an open call is taken once, ahead of its call it is held, and of no group or call near it counted as dropped. COLL_ABORT joins the rounds of a call not entered, and one of a call that has completed is counted. COLL_ABORT_ROUND_EXPIRY goes to the next abort round. COLL_HEALTH_CALL enters a barrier where the group has health calls and the Beacon time is locked. COLL_ENABLE_CLEAR starts the drain, and changes nothing while a gate group is held. -/
def Obligations.CollectiveGroupsAndCallsAct : Prop :=
  ∀ (s : State) (c : Cmd) (h : LHdr) (group seq num : Nat) (m : CollMsg) (a : CollAb) (sig : CollSig),
    (isOperator (stampPriv c.stamp) = false →
      (∀ epoch flags job threshold period count addr, exec (.collGroupSet c group epoch flags job threshold period count addr) s =
        .next (s.after (s.u.done c 0x090 0x0901 St.NOT_PRIVILEGED))) ∧
      exec (.collGroupFree c group) s = .next (s.after (s.u.done c 0x090 0x0902 St.NOT_PRIVILEGED))) ∧
    (isOperator (stampPriv c.stamp) = true → ∀ epoch flags job threshold period count addr,
      let ms := (elemsOf 4 count (s.mem.bytesAt addr (4 * count))).map fun x => x % 2 ^ 24
      let new : List (Nat × Nat) → CollGroup := fun last =>
        { id := group, epoch := epoch, members := ms, rank := (ms.findIdx? (· = s.u.self)).getD 0, flags := flags,
          threshold := if threshold = 0 then 64 else threshold, job := job, period := period, next := [], lastOk := last, worst := 0, total := List.replicate 5 0 }
      let sound := 1 ≤ count ∧ count ≤ 2048 ∧ distinct ms = true ∧ ms.contains s.u.self = true ∧ flags < 8 ∧ threshold < 2 ^ 16 ∧
        (bitAt flags 1 = true → 100 ≤ period ∧ period ≤ 60000) ∧ (bitAt flags 1 = false → period = 0) ∧ s.u.mayAccess 8 addr (4 * count) false = true
      let no := fun (st : Nat) => s.after (s.u.done c 0x090 0x0901 st)
      let held := fun (k : Nat) (last : List (Nat × Nat)) =>
        let u1 := s.u.upX fun x => { x with groups := NMap.set x.groups k (new last) }
        s.after ((if bitAt flags 0 = true ∧ (u1.jobB job).isSome = true then (u1.upJob job fun j => { j with group := group }).gateCheck job else u1).done
          c 0x090 0x0901 St.OK)
      (¬sound → exec (.collGroupSet c group epoch flags job threshold period count addr) s = .next (no St.BAD_PARAM)) ∧
      (sound → s.u.coll.enable = false → exec (.collGroupSet c group epoch flags job threshold period count addr) s = .next (no St.BAD_STATE)) ∧
      (sound → s.u.coll.enable = true →
        (s.u.coll.find group = none →
          (NMap.firstFree s.u.coll.groups 1024 = none →
            exec (.collGroupSet c group epoch flags job threshold period count addr) s = .next (no St.BAD_STATE)) ∧
          (∀ k, NMap.firstFree s.u.coll.groups 1024 = some k →
            exec (.collGroupSet c group epoch flags job threshold period count addr) s = .next (held k []))) ∧
        (∀ k g, s.u.coll.find group = some (k, g) →
          (epoch ≤ g.epoch → exec (.collGroupSet c group epoch flags job threshold period count addr) s = .next (no St.BAD_STATE)) ∧
          (g.epoch < epoch → exec (.collGroupSet c group epoch flags job threshold period count addr) s = .next (held k g.lastOk))))) ∧
    (isOperator (stampPriv c.stamp) = true →
      (s.u.coll.find group = none → exec (.collGroupFree c group) s = .next (s.after (s.u.done c 0x090 0x0902 St.BAD_PARAM))) ∧
      (∀ k g, s.u.coll.find group = some (k, g) →
        ((∃ x ∈ s.u.coll.open_, x.sig.group = group) →
          exec (.collGroupFree c group) s = .next (s.after (s.u.done c 0x090 0x0902 St.BAD_STATE))) ∧
        ((∀ x ∈ s.u.coll.open_, x.sig.group ≠ group) →
          let u1 := s.u.upX fun x =>
            { x with groups := NMap.del x.groups k, ended := x.ended.filter fun e => e.1.group ≠ group, held := x.held.filter fun k => k.sig.group ≠ group }
          exec (.collGroupFree c group) s = .next (s.after ((if bitAt g.flags 0 = true ∧ (u1.jobB g.job).isSome = true then
            u1.upJob g.job fun j => { j with group := 0 } else u1).done c 0x090 0x0902 St.OK))))) ∧
    (∀ crc inR inOff outR outOff timeout,
      let call := exec (.collCall c sig crc inR inOff outR outOff timeout) s
      let no := fun (st : Nat) => s.afterM (s.mem, s.u.done c 0x090 0x0903 st)
      (s.u.mayGroup c ((s.u.coll.find sig.group).map (·.2)) = false → call = .next (no St.NOT_PRIVILEGED)) ∧
      (s.u.mayGroup c ((s.u.coll.find sig.group).map (·.2)) = true →
        (s.u.coll.enable = false → call = .next (no St.BAD_STATE)) ∧
        (s.u.coll.enable = true → s.u.coll.find sig.group = none → call = .next (no St.BAD_PARAM)) ∧
        (∀ k g, s.u.coll.enable = true → s.u.coll.find sig.group = some (k, g) →
          let n := g.members.length
          let r := collRanges sig n g.rank
          let may := fun (idx : Nat) (w : Bool) => ∃ x, NMap.find s.u.mantle.regions idx = some x ∧ maskGrants x.mask 8 w = true
          let sound := crc = crc32c sig.bytes ∧ sig.epoch = g.epoch ∧ sig.space = 0 ∧ bitAt g.flags 0 = false ∧
            (∀ q, NMap.find g.lastOk sig.space = some q → q < sig.seq) ∧ collPaired sig.op sig.typ sig.count = true ∧ sig.size ≤ 2 ^ 26 ∧
            (sig.op = 7 → n * sig.size ≤ 2 ^ 28) ∧ (sig.op = 6 → sig.root < n) ∧ (sig.op ≠ 6 → sig.root = 0) ∧
            (sig.op ≠ 1 → NMap.has s.u.mantle.regions inR = true ∧ s.u.inRegion inR inOff r.1 = true) ∧
            NMap.has s.u.mantle.regions outR = true ∧ s.u.inRegion outR outOff r.2 = true
          let allowed := (sig.op ≠ 1 → may inR false) ∧ may outR true
          (∀ e, s.u.coll.endedAs sig = some e → call = .next (s.afterM (s.mem, s.u.done c 0x090 0x0903 e.status e.detail))) ∧
          (s.u.coll.endedAs sig = none →
            (¬sound → call = .next (no St.BAD_PARAM)) ∧
            (sound → ¬allowed → call = .next (no St.NOT_PRIVILEGED)) ∧
            (sound → allowed → 256 ≤ s.u.coll.open_.length → call = .next (no St.BUSY_RETRY)) ∧
            (sound → allowed → s.u.coll.open_.length < 256 →
              call = .next (s.afterM (enterCall g sig 0 (some c) (if sig.op = 1 then [] else memGetAt s.mem s.u inR inOff r.1) outR outOff
                (if timeout = 0 then bits (s.u.cfg 0x900008 (1000 + 100 * 2 ^ 16)) 15 0 else timeout) s.mem s.u))))))) ∧
    (let may := s.u.mayGroup c ((s.u.coll.find group).map (·.2))
     let mine := s.u.coll.open_.find? fun x => x.sig.group = group && x.sig.seq = seq && x.caller ≠ 4
     (may = false → exec (.collCancel c group seq) s = .next (s.afterM (s.mem, s.u.done c 0x090 0x0904 St.NOT_PRIVILEGED))) ∧
     (may = true → mine = none → exec (.collCancel c group seq) s = .next (s.afterM (s.mem, s.u.done c 0x090 0x0904 St.BAD_STATE))) ∧
     (∀ x, may = true → mine = some x →
       let y := { x with cancels := x.cancels ++ [c] }
       (x.ab ≠ none → exec (.collCancel c group seq) s = .next (s.afterM (s.mem, s.u.putCall y))) ∧
       (x.ab = none → exec (.collCancel c group seq) s = .next (s.afterM (startAbort y (y.abortOf St.ABORTED_RESET y.rank y.sig) s.mem (s.u.putCall y)))))) ∧
    (s.hearsL h →
      (s.u.coll.find m.sig.group = none → exec (.collRound h m) s = .next (s.afterM (s.mem, s.u.count 0x900128))) ∧
      (∀ k g, s.u.coll.find m.sig.group = some (k, g) →
        (∀ x, s.u.coll.match_ m.sig m.num = some x →
          let known := x.ab ≠ none ∨ (x.msgs.any fun y => y.round = m.round && y.phase = m.phase && y.rank = m.rank && y.off = m.off) = true ∨
            ((x.plan.take x.step).any fun t => t.phase = m.phase && t.round = m.round && (match t.from_ with | some f => decide (f.1 = m.rank) | none => false)) = true
          let x' := { x with heard := x.heard ||| 2 ^ m.rank }
          (known → exec (.collRound h m) s = .next (s.afterM (s.mem, s.u))) ∧
          (¬known →
            (m.sig ≠ x.sig → exec (.collRound h m) s = .next (s.afterM
              (startAbort x' (x'.abortOf St.COLL_MISMATCH m.rank m.sig) s.mem (s.u.putCall x')))) ∧
            (m.sig = x.sig → x.running = false → exec (.collRound h m) s = .next (s.afterM (s.mem, s.u.putCall { x' with msgs := x'.msgs ++ [m] }))) ∧
            (m.sig = x.sig → x.running = true →
              exec (.collRound h m) s = .next (s.afterM (collDrive x.sig.group x.sig.space s.mem (s.u.putCall { x' with msgs := x'.msgs ++ [m] })))))) ∧
        (s.u.coll.match_ m.sig m.num = none →
          let near := NMap.getD g.next m.sig.space 0 ≤ m.num ∧ m.num ≤ s.u.coll.base g m.sig.space + 2
          let again := s.u.coll.held.any fun x => x.sig.group = g.id && x.sig.space = m.sig.space && x.num = m.num && x.round = m.round && x.phase = m.phase &&
            x.rank = m.rank && x.off = m.off
          (¬near → exec (.collRound h m) s = .next (s.afterM (s.mem, s.u.count 0x900128))) ∧
          (near → again = true → exec (.collRound h m) s = .next (s.afterM (s.mem, s.u))) ∧
          (near → again = false → exec (.collRound h m) s = .next (s.afterM (s.mem, s.u.upX fun x => { x with held := x.held ++ [m] })))))) ∧
    (s.hearsL h →
      (s.u.coll.find sig.group = none → exec (.collAbort h sig num a) s = .next (s.afterM (s.mem, s.u))) ∧
      (∀ k g, s.u.coll.find sig.group = some (k, g) →
        (∀ x, s.u.coll.match_ sig num = some x →
          let y := { x with abGot := if (x.abGot.any fun z => z.round = a.round) = true then x.abGot else x.abGot ++ [a] }
          (x.ab ≠ none → exec (.collAbort h sig num a) s = .next (s.afterM (abortGo (clog2 y.members.length + 1) y s.mem (s.u.putCall y)))) ∧
          (x.ab = none → exec (.collAbort h sig num a) s = .next (s.afterM
            (startAbort y { a with bitmap := a.bitmap ||| (if x.caller = 4 then 0 else x.heard ||| 2 ^ x.rank) } s.mem (s.u.putCall y))))) ∧
        (s.u.coll.match_ sig num = none →
          (num < NMap.getD g.next sig.space 0 →
            let ended := s.u.coll.ended.any fun e => e.1.group = g.id && e.1.space = sig.space && e.2.1 = num
            (ended = true → exec (.collAbort h sig num a) s = .next (s.afterM (s.mem, s.u))) ∧
            (ended = false → exec (.collAbort h sig num a) s = .next (s.afterM (s.mem, s.u.count 0x900120)))) ∧
          (NMap.getD g.next sig.space 0 ≤ num →
            let y := { joinCall g sig num with abGot := [a] }
            exec (.collAbort h sig num a) s = .next (s.afterM (startAbort y a s.mem (s.u.upX fun x =>
              { x with open_ := x.open_ ++ [y], held := x.held.filter fun k => !(k.sig.group = g.id && k.sig.space = sig.space && k.num = num) }))))))) ∧
    (∀ space,
      let mine := s.u.coll.open_.find? fun c => c.isCall group space num
      (mine = none → exec (.collCallTimeout group space num) s = .next (s.afterM (s.mem, s.u)) ∧
        exec (.collAbortRoundExpiry group space num) s = .next (s.afterM (s.mem, s.u))) ∧
      (∀ x, mine = some x →
        (x.ab = none → exec (.collCallTimeout group space num) s = .next (s.afterM (startAbort x (x.abortOf St.COLL_TIMEOUT 0xFFFF x.sig) s.mem s.u)) ∧
          exec (.collAbortRoundExpiry group space num) s = .next (s.afterM (s.mem, s.u))) ∧
        (∀ b, x.ab = some b →
          let b' := { b with round := b.round + 1 }
          let y := { x with ab := some b' }
          exec (.collCallTimeout group space num) s = .next (s.afterM (s.mem, s.u)) ∧
          exec (.collAbortRoundExpiry group space num) s = .next (s.afterM (abortGo (clog2 y.members.length + 1) y s.mem
            (if b'.round < clog2 y.members.length then s.u.sendAbort y b' else s.u)))))) ∧
    (s.u.coll.find group = none → exec (.collHealthCall group) s = .next (s.afterM (s.mem, s.u))) ∧
    (∀ k g, s.u.coll.find group = some (k, g) →
      let ms := s.u.clk.sec * 1000 + s.u.clk.ns / 10 ^ 6
      let q : CollSig := { group := group, epoch := g.epoch, seq := 2 ^ 63 + ms / g.period, op := 1, typ := 0, root := 0, count := 0 }
      let due := s.u.clk.locked = true ∧ bitAt g.flags 1 = true ∧ g.period ≠ 0 ∧ s.u.coll.endedAs q = none ∧ s.u.coll.enable = true ∧
        s.u.coll.open_.length < 256 ∧ ∀ n, NMap.find g.lastOk q.space = some n → n < q.seq
      (¬due → exec (.collHealthCall group) s = .next (s.afterM (s.mem, s.u))) ∧
      (due → exec (.collHealthCall group) s = .next (s.afterM (enterCall g q 3 none [] 0 0 g.period s.mem s.u)))) ∧
    (∀ w : Who,
      let goes := isOperator w.priv = true ∧ s.u.coll.enable = true ∧ ∀ g ∈ NMap.vals s.u.coll.groups, bitAt g.flags 0 = false
      (¬goes → exec (.collEnableClear w) s = .next (s.after s.u)) ∧
      (goes → exec (.collEnableClear w) s = .next (s.after
        { s.u.upX (fun x => { x with enable := false, draining := true }) with
          drains := s.u.drains ++ [{ unit := 0x09, items := s.u.coll.open_.length, enableHeld := false }] })))

/-- Tallow writes and reads back units, retires blocks, collects garbage and runs its commands. The commands end with NOT_PRIVILEGED below operator privilege, TALLOW_NOT_MOUNTED before the mount and BAD_STATE while Tallow is disabled or a format runs; TALLOW_CHECKPOINT and its timer start a checkpoint write; the raw commands end with BAD_PARAM outside the geometry, BAD_STATE on a block with mapped chunks outside maintenance mode, and otherwise issue one operation on the page or block, and a program of pages not erased is rejected and reported. TALLOW_WRITE starts a unit's write or tells the unit why not. A passed program is read back; a failed one retires its block and the write starts again. A read-back that matches makes the copy good, the last one makes the write durable, and one that differs programs the unit again; the other reads answer their command, go on with the collection, take the other copy or report the loss. A passed erase sets the erase bits and journals the block; a failed one retires it. TALLOW_GC picks a block when free ones run short or erase counts spread. A completion of no operation in flight changes nothing but, of a read, the counts and the repair of what is mapped there. TALLOW_ENABLE_CLEAR starts the drain. -/
def Obligations.TallowJournalsCollectsAndRunsCommands : Prop :=
  ∀ (s : State) (c : Cmd) (w : Who) (die block page addr : Nat),
    let p : Place := { die := die, block := block, page := page }
    let t := s.u.tal
    (let op := isOperator (stampPriv c.stamp)
     let no := fun (code st : Nat) => s.after (s.u.done c 0x0B0 code st)
     let all := fun (st : Nat) =>
       exec (.tallowCheckpoint c) s = .next (no 0x0C02 st) ∧ exec (.tallowRawRead c die block page addr) s = .next (no 0x0C03 st) ∧
       exec (.tallowRawProgram c die block page addr) s = .next (no 0x0C04 st) ∧ exec (.tallowRawErase c die block) s = .next (no 0x0C05 st)
     (op = false → all St.NOT_PRIVILEGED) ∧ (op = true → t.mounted = false → all St.TALLOW_NOT_MOUNTED) ∧
     (op = true → t.mounted = true → t.enable = false ∨ t.format ≠ none → all St.BAD_STATE) ∧
     (op = true → t.mounted = true → t.enable = true → t.format = none →
       let there := t.inGeom die block = true ∧ page < t.pagesPer
       let busy := s.u.mb.mode ≠ 2 ∧ t.mappedIn die block = true
       exec (.tallowCheckpoint c) s = .next (s.after (s.u.startWrite 3 0 0 4 0 [] [(0x0C02, c)])) ∧
       (t.inGeom die block = false → exec (.tallowRawErase c die block) s = .next (no 0x0C05 St.BAD_PARAM)) ∧
       (t.inGeom die block = true → busy → exec (.tallowRawErase c die block) s = .next (no 0x0C05 St.BAD_STATE)) ∧
       (t.inGeom die block = true → ¬busy → exec (.tallowRawErase c die block) s = .next (s.after (s.u.nandIssue
         { kind := 2, place := { die := die, block := block, page := 0 }, why := 2, ref := 0, region := 0, cmd := some c, addr := 0 } 0))) ∧
       (¬(there ∧ s.u.mayAccess 4 addr 16384 true = true) → exec (.tallowRawRead c die block page addr) s = .next (no 0x0C03 St.BAD_PARAM)) ∧
       (there → s.u.mayAccess 4 addr 16384 true = true →
         (busy → exec (.tallowRawRead c die block page addr) s = .next (no 0x0C03 St.BAD_STATE)) ∧
         (¬busy → exec (.tallowRawRead c die block page addr) s = .next (s.after (s.u.nandIssue
           { kind := 1, place := p, why := 2, ref := 0, region := 0, cmd := some c, addr := addr } 0)))) ∧
       (¬(there ∧ s.u.mayAccess 4 addr 16384 false = true) → exec (.tallowRawProgram c die block page addr) s = .next (no 0x0C04 St.BAD_PARAM)) ∧
       (there → s.u.mayAccess 4 addr 16384 false = true →
         (busy → exec (.tallowRawProgram c die block page addr) s = .next (no 0x0C04 St.BAD_STATE)) ∧
         (¬busy → t.isErased p 1 = true → exec (.tallowRawProgram c die block page addr) s = .next (s.after (s.u.nandIssue
           { kind := 0, place := p, why := 2, ref := 0, region := 0, cmd := some c, addr := addr } 1))) ∧
         (¬busy → t.isErased p 1 = false → exec (.tallowRawProgram c die block page addr) s = .next (s.after
           ((s.u.notErased p).done c 0x0B0 0x0C04 St.TALLOW_NOT_ERASED)))))) ∧
    (let runs := t.mounted = true ∧ t.enable = true ∧ t.format = none
     (runs → exec .tallowCheckpointTimer s = .next (s.after (s.u.startWrite 3 0 0 4 0 [] []))) ∧
     (¬runs → exec .tallowCheckpointTimer s = .next (s.after s.u))) ∧
    (∀ owner region chunk bytes,
      let no := fun (st : Nat) => s.after ((s.u.upT fun t => { t with last := st }).tellOwner owner region chunk st)
      let named := 1 ≤ region ∧ region ≤ 3 ∧ chunk < t.sizes.getD region 0
      (t.mounted = false → exec (.tallowWrite owner region chunk bytes) s = .next (no St.TALLOW_NOT_MOUNTED)) ∧
      (t.mounted = true → t.enable = false ∨ t.format ≠ none → exec (.tallowWrite owner region chunk bytes) s = .next (no St.BAD_STATE)) ∧
      (t.mounted = true → t.enable = true → t.format = none →
        (¬named → exec (.tallowWrite owner region chunk bytes) s = .next (no St.BAD_PARAM)) ∧
        (named → region = 3 → t.wear = 2 → exec (.tallowWrite owner region chunk bytes) s = .next (no St.TALLOW_READ_ONLY)) ∧
        (named → region ≠ 3 ∨ t.wear ≠ 2 →
          exec (.tallowWrite owner region chunk bytes) s = .next (s.after (s.u.startWrite 0 region chunk (writePages region bytes) owner [] []))))) ∧
    (t.opAt 0 p = none → ∀ pass, exec (.nandProgramDone p pass) s = .next (s.after s.u)) ∧
    (∀ o, t.opAt 0 p = some o →
      let mine := if o.why = 0 then (s.u.dropOp o).tal.writes.find? fun w => w.id = o.ref else none
      (∀ x, mine = some x →
        exec (.nandProgramDone p true) s = .next (s.after
          ((((s.u.dropOp o).count 0xB00100 (16384 * x.pages)).upT fun t => { t with writes := t.writes.map fun y =>
            if y.id = x.id then { x with copies := x.copies.map fun c => if c.place = p then { c with state := 1 } else c } else y }).nandIssue
              { o with kind := 1 } 0)) ∧
        exec (.nandProgramDone p false) s = .next (s.after
          ((((s.u.dropOp o).retireBlk die block).upT fun t =>
            { t with ops := t.ops.filter (fun y => !(y.why = 0 && y.ref = x.id)), open_ := t.open_.filter fun y => y.2 ≠ (die, block) }).program x))) ∧
      (mine = none →
        let ends := fun (u : Units) => match o.cmd with | some d => u.done d 0x0B0 0x0C04 St.OK | none => u
        exec (.nandProgramDone p true) s = .next (s.after (ends ((s.u.dropOp o).count 0xB00100 16384))) ∧
        exec (.nandProgramDone p false) s = .next (s.after (ends ((s.u.dropOp o).retireBlk die block))))) ∧
    (∀ retries ok same data,
      let o : NandOp := (t.opAt 1 p).getD (match t.map.find? fun x => x.2.contains p with
        | some x => { kind := 1, place := p, why := 4, ref := x.1 % 2 ^ 32, region := x.1 / 2 ^ 32, cmd := none, addr := 0 }
        | none => { kind := 1, place := p, why := 7, ref := 0, region := 0, cmd := none, addr := 0 })
      let u0 := if (t.opAt 1 p).isSome = true then s.u.dropOp o else s.u
      let u1 := (if retries = 0 then u0 else u0.count 0xB00110).count 0xB00108 (if o.why = 2 then 16384 else 16384 * unitPages o.region)
      let u2 := if ok = true then u1 else (u1.upT fun t => { t with last := St.TALLOW_UNCORRECTABLE }).count 0xB00118
      let other := (NMap.getD u2.tal.map (chunkKey o.region o.ref) []).find? fun q => q ≠ p
      let read := exec (.nandReadDone p retries ok same data) s
      let pages := writePages o.region 262144
      (o.why = 0 → (u2.tal.writes.find? fun w => w.id = o.ref) = none → read = .next (s.afterM (s.mem, u2))) ∧
      (∀ x, o.why = 0 → (u2.tal.writes.find? fun w => w.id = o.ref) = some x →
        let y := { x with copies := x.copies.map fun c => if c.place = p then { c with state := 2 } else c }
        let u3 := u2.upT fun t => { t with writes := t.writes.map fun z => if z.id = y.id then y else z }
        (¬(ok = true ∧ same = true) → read = .next (s.afterM (s.mem, u2.program x))) ∧
        (ok = true → same = true → y.copies.all (fun c => c.state = 2) = false → read = .next (s.afterM (s.mem, u3))) ∧
        (ok = true → same = true → y.copies.all (fun c => c.state = 2) = true → read = .next (s.afterM (s.mem, u3.writeDurable y)))) ∧
      (o.why = 1 →
        (ok = true → read = .next (s.afterM (s.mem, u2.startWrite 1 o.region o.ref pages 0 [] []))) ∧
        (∀ q, ok = false → other = some q → read = .next (s.afterM (s.mem, u2.nandIssue { o with place := q } 0))) ∧
        (ok = false → other = none → read = .next (s.afterM
          (s.mem, (u2.tellOwner 3 o.region o.ref St.TALLOW_UNCORRECTABLE).startWrite 1 o.region o.ref pages 0 [] [])))) ∧
      (o.why = 2 →
        (o.cmd = none → read = .next (s.afterM (s.mem, u2))) ∧
        (∀ d, o.cmd = some d →
          let r := unitWrite Ag.tallow o.addr data s.mem u2
          read = .next (s.afterM (r.1, r.2.done d 0x0B0 0x0C03 (if ok = true then St.OK else St.TALLOW_UNCORRECTABLE))))) ∧
      (o.why = 4 →
        (ok = true → read = .next (s.afterM (s.mem, u2))) ∧
        (∀ q, ok = false → other = some q → read = .next (s.afterM (s.mem,
          if mirrored o.region = true then u2.nandIssue { o with place := q, why := 5 } 0 else u2))) ∧
        (ok = false → other = none → read = .next (s.afterM
          (s.mem, u2.tellOwner (if o.region = 1 then 1 else if o.region = 2 then 2 else 3) o.region o.ref St.TALLOW_UNCORRECTABLE)))) ∧
      (o.why = 5 →
        (ok = true → read = .next (s.afterM (s.mem, (u2.talEvent Ev.TALLOW_MIRROR_REPAIRED).startWrite 0 o.region o.ref pages 0 [] []))) ∧
        (ok = false → read = .next (s.afterM (s.mem, u2.tellOwner 1 o.region o.ref St.TALLOW_UNCORRECTABLE)))) ∧
      (o.why ∉ [0, 1, 2, 4, 5] → read = .next (s.afterM (s.mem, u2)))) ∧
    (t.opAt 2 { die := die, block := block, page := 0 } = none → ∀ pass, exec (.nandEraseDone die block pass) s = .next (s.after s.u)) ∧
    (∀ o pass, t.opAt 2 { die := die, block := block, page := 0 } = some o →
      let u0 := s.u.dropOp o
      let u1 := u0.upT fun t => { t with erased := NMap.set t.erased (blkKey die block) (2 ^ t.pagesPer - 1) }
      let u2 := (u1.upBlk die block fun b => { b with erases := b.erases + 1, wp := 0, state := if o.why = 3 then 0 else b.state }).wearCheck
      let u3 := if pass = false then u0.retireBlk die block else if o.why = 3 then u2 else u2.journal [nandEntry 2 die block] 0 0 0
      let u4 := match u3.tal.gc with
        | some g => if o.why = 6 && g.phase = 2 && g.die = die && g.block = block then
            u3.upT fun t => { t with gc := if pass = true then some { g with phase := 3 } else none } else u3
        | none => u3
      let u5 := match o.cmd with | some d => u4.done d 0x0B0 0x0C05 St.OK | none => u4
      (o.why = 3 → exec (.nandEraseDone die block pass) s = .next (s.after u5.formatCheck)) ∧
      (o.why ≠ 3 → exec (.nandEraseDone die block pass) s = .next (s.after u5))) ∧
    (∀ tlc,
      let idle := t.mounted = true ∧ t.format = none ∧ t.gc = none ∧ t.pwrFail = false
      let few := ((NMap.vals t.blocks).filter fun b => b.tlc = tlc && b.state = 0).length < bits (s.u.cfg 0xB0000C 64) 9 0
      let pick := if few then t.gcBlock tlc else t.levelBlock tlc
      (¬idle ∨ pick = none → exec (.tallowGc tlc) s = .next (s.after s.u)) ∧
      (∀ k, idle → pick = some k →
        let g : TGc := { die := k / 2 ^ 32, block := k % 2 ^ 32, tlc := tlc, todo := t.validIn (k / 2 ^ 32) (k % 2 ^ 32), moved := [], phase := 0 }
        exec (.tallowGc tlc) s = .next (s.after ((s.u.upT fun t => { t with gc := some g }).gcNext)))) ∧
    (let goes := isOperator w.priv = true ∧ t.enable = true
     (¬goes → exec (.tallowEnableClear w) s = .next (s.after s.u)) ∧
     (goes → exec (.tallowEnableClear w) s = .next (s.after
      { s.u.upT (fun t => { t with enable := false, draining := true }) with
        drains := s.u.drains ++ [{ unit := 0x0B, items := t.writes.length, enableHeld := false }] })))

/-- Events are raised, forwarded, acknowledged and exported, and the trace and Last Light rings act. EVENT_RAISE takes one occurrence; CHIM_TOKEN_REFILL returns a token or writes the held record; CHIM_LOG_UNIT_WRITE hands the new entries to a Tallow mounted and in service, and else leaves them; CHIM_WINDOW_END ends a window and forwards one summary of one with a count; EVT_FWD gives a role holder each record, and one with an alarm is answered, BAD_STATE where no role is held; EVT_FWD_ACK with OK ends the forward; the timeout resends three times, then raises CHIM_FWD_UNACKED. CHIM_EXPORT_PERIOD writes the counters or counts a skip. TRACE_OCCURRENCE feeds the trace rings; CHIM_FLUE_ENABLE changes the fields of a ring out of use, allocates it or drains it, and holds a set written during the drain. The six commands of Table 21-9 act: CHIM_ALARM_ACK of no entry and CHIM_EVENT_READ of no stored sequence end with BAD_STATE, and the latter of an address that the Chimney may not write with NOT_PRIVILEGED. -/
def Obligations.EventsTraceAndExportAct : Prop :=
  ∀ (s : State) (c : Cmd) (h : LHdr) (code ring seq : Nat),
    let x := s.u.chim
    let at_ : Chim → State := fun x => s.after { s.u with chim := x }
    (∀ level src payload more t, exec (.eventRaise code level src payload more t) s = .next (s.after (s.u.raise code level src payload more t))) ∧
    (let b := x.bucket code
     (b.heldRec = none → b.spent ≠ 0 → exec (.chimTokenRefill code) s = .next (at_ (x.setBucket code { b with spent := b.spent - 1 }))) ∧
     (b.heldRec = none → b.spent = 0 → exec (.chimTokenRefill code) s = .next (s.after s.u)) ∧
     (∀ e, b.heldRec = some e → exec (.chimTokenRefill code) s = .next (s.after
        ({ s.u with chim := x.setBucket code { b with held := 0, heldRec := none, heldMore := [] } }.logAll ({ e with er := e.er.withCount b.held } :: b.heldMore))))) ∧
    (let new := (x.log.filter fun (e : LogEntry) => x.unitSeq < e.seq).take 1024
     (new = [] ∨ s.u.tal.mounted = false ∨ s.u.tal.enable = false → exec .chimLogUnitWrite s = .next (s.after s.u)) ∧
     (∀ e : LogEntry, s.u.tal.mounted = true → s.u.tal.enable = true → new.getLast? = some e →
       exec .chimLogUnitWrite s = .next (s.after (tallowWrite 2 2 (x.unitNo / 4 % s.u.tal.sizes.getD 2 0) 65536
          ({ s.u with chim := { x with unitSeq := e.seq, units := x.units ++ [e.seq], unitNo := x.unitNo + 1 } }.emit (.bus 3 [3, new.length, e.seq])))))) ∧
    (∀ step origin src, findWin x.wins step code origin src = none → exec (.chimWindowEnd step code origin src) s = .next (s.after s.u)) ∧
    (∀ step origin src f, findWin x.wins step code origin src = some f →
      let y := { x with wins := x.wins.filter fun x => !(x.step = step && x.code = code && x.origin = origin && x.src = src) }
      (f.count = 0 → exec (.chimWindowEnd step code origin src) s = .next (at_ y)) ∧
      (f.count ≠ 0 →
        let u1 := { s.u with chim := y }
        let r := (u1.record Ev.CHIM_SUMMARY f.evLevel src (payloadOf [(0, 2, code), (2, 2, f.lenMs / 100), (4, 4, f.count)]) false false).withCount f.count
        exec (.chimWindowEnd step code origin src) s = .next (s.after (u1.forward step [{ u1.entry r with origin := origin }])))) ∧
    (s.hearsL h → ∀ alarm entries,
      (s.u.heldRole = none → exec (.evtFwd h seq alarm entries) s = .next (s.after
        (if alarm = true then s.u.answerL h.src 0x65 h.seq 16 3 [seq, St.BAD_STATE] else s.u))) ∧
      (∀ id, s.u.heldRole = some id →
        let u1 := entries.foldl (fun u e => u.fwdEntry (roleLevel id) e.1 e.2) s.u
        exec (.evtFwd h seq alarm entries) s = .next (s.after (if alarm = true then u1.answerL h.src 0x65 h.seq 16 (roleLevel id) [seq, St.OK] else u1)))) ∧
    (s.hearsL h →
      exec (.evtFwdAck h seq St.OK) s = .next (at_ { x with fwdOut := x.fwdOut.filter fun (f : FwdOut) => f.seq ≠ seq }) ∧
      ∀ status, status ≠ St.OK → exec (.evtFwdAck h seq status) s = .next (s.after s.u)) ∧
    ((x.fwdOut.find? fun (f : FwdOut) => f.seq = seq) = none → exec (.evtFwdAckTimeout seq) s = .next (s.after s.u)) ∧
    (∀ f : FwdOut, (x.fwdOut.find? fun (f : FwdOut) => f.seq = seq) = some f →
      (f.resends < 3 → exec (.evtFwdAckTimeout seq) s = .next (s.after
        ({ s.u with chim := { x with fwdOut := x.fwdOut.map fun (y : FwdOut) => if y.seq = seq then { y with resends := y.resends + 1 } else y } }.toRole f.dst 0x64
          (16 + 64 * f.entries.length)
          ([seq, f.entries.length, 1] ++ f.entries.flatMap fun (e : LogEntry) => [e.er.code, e.er.level, e.er.src, e.er.count, e.er.flags, e.er.payload, e.origin])))) ∧
      (3 ≤ f.resends → exec (.evtFwdAckTimeout seq) s = .next (s.after
        ({ s.u with chim := { x with fwdOut := x.fwdOut.filter fun (y : FwdOut) => y.seq ≠ seq } }.raise Ev.CHIM_FWD_UNACKED 2 0xC0 0)))) ∧
    (bits (s.u.cfg 0xC00010 0) 15 0 = 0 ∨ x.exportRing = none → exec .chimExportPeriod s = .next (s.after s.u)) ∧
    (∀ n, bits (s.u.cfg 0xC00010 0) 15 0 ≠ 0 → x.exportRing = some n →
      ((s.u.desc n).room = false → exec .chimExportPeriod s = .next (at_ { x with exportSkipped := x.exportSkipped + 1 })) ∧
      ((s.u.desc n).room = true →
        let body := (s.u.regs.cnt.filter fun p => p.1 < 2 ^ 24).flatMap fun (p : Nat × Nat) => [p.1, p.2]
        exec .chimExportPeriod s = .next (s.after
          { s.u.produce n (.words ([x.exportSeq + 1, s.u.clk.mono, packTime s.u.clk.sec s.u.clk.ns, body.length, x.exportSkipped] ++ body)) with
            chim := { x with exportSeq := x.exportSeq + 1, exportSkipped := 0 } }))) ∧
    (∀ source kind data deferred, exec (.traceOccurrence source kind data deferred) s = .next (at_
      { x with flue := NMap.mapV x.flue fun _ f => f.trace s.u.clk.mono source kind data deferred })) ∧
    (∀ (w : Who) value,
      let f := s.u.flueOf ring
      let set := exec (.chimFlueEnable w ring value) s
      (isOperator w.priv = false → set = .next (s.after s.u)) ∧
      (isOperator w.priv = true →
        (f.enable = true → bitAt value 0 = true → set = .next (s.after s.u)) ∧
        (f.enable = true → bitAt value 0 = false → set = .next (s.after
          { s.u.setFlue ring { f with enable := false, draining := true } with
            drains := s.u.drains ++ [{ unit := 0x300 + ring, items := f.q.length, enableHeld := false }] })) ∧
        (f.enable = false → f.draining = true → bitAt value 0 = false → set = .next (s.after s.u)) ∧
        (f.enable = false → f.draining = true → bitAt value 0 = true → set = .next (s.after
          { s.u with drains := s.u.drains.map fun x => if x.unit = 0x300 + ring then { x with enableHeld := true } else x })) ∧
        (f.enable = false → f.draining = false →
          let g := { f with sizeLog2 := if bits value 4 1 ≤ 10 then bits value 4 1 else f.sizeLog2, div := bits value 8 5,
                            source := bits value 20 9, kinds := bits value 28 21 }
          let fit := fitBody s.u.traceSpace (65536 * 2 ^ g.sizeLog2) s.u.traceBodies
          (bitAt value 0 = false ∨ fit = none → set = .next (s.after (s.u.setFlue ring g))) ∧
          (∀ o, bitAt value 0 = true → fit = some o → set = .next (s.after (s.u.setFlue ring
            { g with enable := true, base := o, size := 65536 * 2 ^ g.sizeLog2, prod := 0, cons := 0, q := [], occ := 0 })))))) ∧
    (isOperator (stampPriv c.stamp) = true →
      (ring < 32768 → (s.u.desc ring).kind = 2 →
        ((s.u.desc ring).sizeCode = 1 → exec (.chimBindFeed c ring) s = .next (s.after
          ({ s.u with chim := { x with feed := some ring, feedGap := none } }.done c 0xC0 0x0D01 St.OK))) ∧
        exec (.chimExportBind c ring) s = .next (s.after ({ s.u with chim := { x with exportRing := some ring } }.done c 0xC0 0x0D06 St.OK))) ∧
      ((x.alarms.find? fun p => p.2.seq = seq) = none → exec (.chimAlarmAck c seq) s = .next (s.after (s.u.done c 0xC0 0x0D02 St.BAD_STATE))) ∧
      (∀ p, (x.alarms.find? fun p => p.2.seq = seq) = some p → exec (.chimAlarmAck c seq) s = .next (s.after
        ({ s.u with chim := { x with alarms := NMap.del x.alarms p.1, alarmFull := false } }.done c 0xC0 0x0D02 St.OK))) ∧
      (∀ count addr, 1 ≤ count → count ≤ 16384 →
        let l := (x.stored.filter fun (e : LogEntry) => seq ≤ e.seq && e.seq < seq + count).take count
        let bytes := l.flatMap LogEntry.bytes
        ((∀ e ∈ x.stored, e.seq ≠ seq) → exec (.chimEventRead c seq count addr) s = .next (s.afterM (s.mem, s.u.done c 0xC0 0x0D03 St.BAD_STATE))) ∧
        ((∃ e ∈ x.stored, e.seq = seq) →
          (s.u.mayAccess Ag.chimney addr bytes.length true = false →
            exec (.chimEventRead c seq count addr) s = .next (s.afterM (s.mem, s.u.done c 0xC0 0x0D03 St.NOT_PRIVILEGED))) ∧
          (s.u.mayAccess Ag.chimney addr bytes.length true = true →
            exec (.chimEventRead c seq count addr) s = .next (s.afterM
              (memPut s.mem s.u addr bytes, (s.u.setMantle (s.u.mantle.cure addr bytes.length)).done c 0xC0 0x0D03 St.OK 0 l.length))))) ∧
      (llValid ring = true → exec (.chimLlFreeze c ring) s = .next (s.after ((s.u.llFreeze ring).done c 0xC0 0x0D04 St.OK)) ∧
        exec (.chimLlRelease c ring) s = .next (s.after ((s.u.setLl ring LastLight.reset).done c 0xC0 0x0D05 St.OK))))

/-- Amendments, updates, activations, calibrations and owner keys take effect, and the controller's events act. LAMP_AMEND makes its checks in order, each refusal with its status, and applies the next signed amendment; LAMP_UPDATE stages a good image and answers a bad one with its status, BAD_PARAM outside its region, BAD_STATE of firmware in recovery and BUSY_RETRY while power fails or a switch runs; an image whose signature does not verify leaves its slot erased, a loader image above the floor enters its slot. LAMP_ACTIVATE of a trial stops command taking, the quiesce point switches the runtime and completes it, the timeouts abandon it or ask for a reset; TRIAL_COMMIT_TIMER commits the trial slot and fuses its floor. LAMP_CAL_WRITE stores a good set for the next tick, LAMP_OWNER_SET and LAMP_OWNER_CLEAR change the owner record. A restart lapses the roles held and asks for a reset during a switch or within an hour of the last; entropy failure stops signing; OP_TIME_TICK counts and rolls a full field into the other slot. SPDM and PLDM requests are answered, and nothing is signed while signing has stopped. -/
def Obligations.LamplighterCommandsAndUpdatesAct : Prop :=
  ∀ (s : State) (c : Cmd) (addr len : Nat),
    (isOperator (stampPriv c.stamp) = true →
      let no := fun (code st : Nat) => s.after ((s.u.upLamp fun l => { l with last := st }).done c 0x000 code st)
      (∀ a : Amendment,
        let next := s.u.lamp.state ≠ 4 ∧ (∃ x, s.u.lamp.cfg = some x ∧ a.base = x.version) ∧ a.seq = s.u.lamp.amendSeq + 1
        let sound := a.fixed = false ∧ ∀ l ok, a.part.roles = some (l, ok) → ok = true ∧ ∀ r ∈ l, r.ok = true
        (¬next → exec (.lampAmend c addr len a) s = .next (no 0x0201 St.BAD_STATE)) ∧
        (next → ¬sound → exec (.lampAmend c addr len a) s = .next (no 0x0201 St.BAD_PARAM)) ∧
        (next → sound → s.u.lamp.keys.contains a.sigKey = false → exec (.lampAmend c addr len a) s = .next (no 0x0201 St.SIGNATURE_INVALID)) ∧
        (next → sound → s.u.lamp.keys.contains a.sigKey = true → exec (.lampAmend c addr len a) s = .next (s.after
          ((((s.u.applyPart a.part true).upLamp fun l => { l with amendSeq := a.seq, amended := true }).count 0x108).done c 0x000 0x0201 St.OK)))) ∧
      (∀ kind region off im same,
        let fits := kind < 3 ∧ ∃ r, NMap.find s.u.mantle.regions region = some r ∧ r.typ = 8 ∧ off + len ≤ r.pages.length * pageBytes
        let busy := s.u.pwr.fail = true ∨ s.u.lamp.updState = 3 ∨ s.u.lamp.updState = 4
        let x := s.u.stage kind im same
        (¬fits → exec (.lampUpdate c kind region off len im same) s = .next (no 0x0202 St.BAD_PARAM)) ∧
        (fits → s.u.lamp.state = 4 → kind ≠ 2 → exec (.lampUpdate c kind region off len im same) s = .next (no 0x0202 St.BAD_STATE)) ∧
        (fits → s.u.lamp.state ≠ 4 ∨ kind = 2 →
          (busy → exec (.lampUpdate c kind region off len im same) s = .next (no 0x0202 St.BUSY_RETRY)) ∧
          (¬busy → x.2 = St.OK → exec (.lampUpdate c kind region off len im same) s = .next (s.after (x.1.done c 0x000 0x0202 St.OK))) ∧
          (¬busy → x.2 ≠ St.OK → exec (.lampUpdate c kind region off len im same) s = .next (s.after
            ((x.1.upLamp fun l => { l with last := x.2 }).done c 0x000 0x0202 x.2))))) ∧
      (let busy := s.u.lamp.act ≠ none ∨ s.u.role.rollAct = true
       let may := s.u.lamp.nor.trial = 1 ∧ s.u.lamp.state = 3
       (busy → exec (.lampActivate c) s = .next (no 0x0203 St.BUSY_RETRY)) ∧
       (¬busy → ¬may → exec (.lampActivate c) s = .next (no 0x0203 St.BAD_STATE)) ∧
       (¬busy → may → exec (.lampActivate c) s = .next (s.after
         ({ s.u with ring := { s.u.ring with frozen := true }, lamp := { s.u.lamp with updState := 3, state := 5 } }.upLamp fun l => { l with act := some c })))) ∧
      (∀ sigKey,
        let set := calParse (s.mem.bytesAt addr 4096)
        (set = none → exec (.lampCalWrite c addr sigKey) s = .next (no 0x0204 St.BAD_PARAM)) ∧
        (∀ x, set = some x →
          let signed := calOk (some (x, sigKey)) s.u.lamp.fuses.root s.u.lamp.keys
          let y := { x with seq := s.u.led.cal.seq + 1 }
          (x.origin = 0 → stampPriv c.stamp ≠ 3 → exec (.lampCalWrite c addr sigKey) s = .next (no 0x0204 St.NOT_PRIVILEGED)) ∧
          (x.origin ≠ 0 ∨ stampPriv c.stamp = 3 →
            (signed = false → exec (.lampCalWrite c addr sigKey) s = .next (no 0x0204 St.SIGNATURE_INVALID)) ∧
            (signed = true → s.u.lamp.calCmd ≠ none ∨ s.u.led.calNext ≠ none → exec (.lampCalWrite c addr sigKey) s = .next (no 0x0204 St.BUSY_RETRY)) ∧
            (signed = true → s.u.lamp.calCmd = none → s.u.led.calNext = none → exec (.lampCalWrite c addr sigKey) s = .next (s.after ((s.u.upLamp fun l =>
              { l with calCmd := some c, nor := { l.nor with cal := setSlot l.nor.cal (!s.u.lamp.calSlot) (some (y, sigKey)) } }).upL fun l =>
                { l with calNext := some y })))))) ∧
      (∀ count idx sigKey,
        let own := s.u.lamp.nor.owner
        let fits := 1 ≤ count ∧ count ≤ 4
        let open_ := s.u.mb.mode = 1 ∨ s.u.mb.mode = 3
        let signed := idx < own.length ∧ own.getD idx 0 = sigKey
        (¬fits → exec (.lampOwnerSet c count idx addr sigKey) s = .next (no 0x0205 St.BAD_PARAM)) ∧
        (fits → own = [] → ¬open_ → exec (.lampOwnerSet c count idx addr sigKey) s = .next (no 0x0205 St.BAD_STATE)) ∧
        (fits → own ≠ [] → ¬signed → exec (.lampOwnerSet c count idx addr sigKey) s = .next (no 0x0205 St.SIGNATURE_INVALID)) ∧
        (fits → own = [] ∧ open_ ∨ own ≠ [] ∧ signed → exec (.lampOwnerSet c count idx addr sigKey) s = .next (s.after ((s.u.upLamp fun l =>
          { l with nor := { l.nor with owner := (List.range count).map fun k => leNat (s.mem.bytesAt (addr + 96 * k) 96) } }).done c 0x000 0x0205 St.OK))))) ∧
    (stampPriv c.stamp = 3 → exec (.lampOwnerClear c) s = .next (s.after
      ((s.u.upLamp fun l => { l with nor := { l.nor with owner := [] } }).done c 0x000 0x0206 St.OK))) ∧
    (∀ (kind : Nat) (f : FwImage) (same : Bool), kind < 2 →
      let l := s.u.lamp
      let low := fun (st : Nat) (n : Nor) => (s.u.upLamp fun l => { l with nor := n, updState := 0, updKind := kind, updLast := st }, st)
      (f.sigKey ≠ l.fuses.root → kind = 0 →
        s.u.stage kind (.fw f) same = low St.SIGNATURE_INVALID { l.nor with fsbl := setSlot l.nor.fsbl (!l.fsblSlot) none }) ∧
      (f.sigKey ≠ l.fuses.root → kind = 1 → l.nor.trial ≠ 1 →
        s.u.stage kind (.fw f) same = low St.SIGNATURE_INVALID { l.nor with rt := setSlot l.nor.rt (!l.fwSlot) none }) ∧
      (f.sigKey = l.fuses.root → l.fuses.fsblFloor ≤ f.svn → kind = 0 → same = true →
        s.u.stage kind (.fw f) same = (s.u.upLamp fun l =>
          { l with nor := { l.nor with fsbl := setSlot l.nor.fsbl (!l.fsblSlot) (some f), bootFsbl := !l.fsblSlot }, updState := 2, updKind := 0, updLast := St.OK },
          St.OK))) ∧
    (let goes := s.u.lamp.updState = 3 ∧ s.u.quiet = true
     ∀ ready bad,
      (¬goes → exec (.quiescePointReached ready bad) s = .next (s.after s.u)) ∧
      (goes →
        let b := s.u.lamp.nor.bootRt
        let im := slotOf s.u.lamp.nor.rt b
        let u1 := s.u.upLamp fun l => { l with updState := 4, fwSlot := b, nor := { l.nor with trial := 2 } }
        let u2 := (u1.upLamp fun l => { l with updState := 5, state := 3, updLast := St.OK, act := none, fw := im, actLog := l.actLog ++ (match im with | some f => [(f.version, f.digest)] | none => []) }).count 0x110
        (ready = false → exec (.quiescePointReached ready bad) s = .next (s.after u1)) ∧
        (ready = true →
          (∀ d, s.u.lamp.act = some d → exec (.quiescePointReached ready bad) s = .next (s.after ((u2.done d 0x000 0x0203 St.OK).unfreeze bad))) ∧
          (s.u.lamp.act = none → exec (.quiescePointReached ready bad) s = .next (s.after ((u2.rollAnswer St.OK).unfreeze bad)))))) ∧
    (s.u.lamp.updState ≠ 3 → exec .quiesceTimeout s = .next (s.after s.u)) ∧
    (s.u.lamp.updState = 3 →
      let u1 := s.u.upLamp fun l => { l with act := none, updState := 2, state := 3, updLast := St.BUSY_RETRY }
      (∀ d, s.u.lamp.act = some d → exec .quiesceTimeout s = .next (s.after
        (((u1.upLamp fun l => { l with last := St.BUSY_RETRY }).done d 0x000 0x0203 St.BUSY_RETRY).unfreeze []))) ∧
      (s.u.lamp.act = none → exec .quiesceTimeout s = .next (s.after ((u1.rollAnswer St.BUSY_RETRY).unfreeze [])))) ∧
    (s.u.lamp.updState = 4 → exec .activationReadyTimeout s = .next (s.after (s.u.emit (.bus 9 [s.u.self])))) ∧
    (s.u.lamp.updState ≠ 4 → exec .activationReadyTimeout s = .next (s.after s.u)) ∧
    (let goes := s.u.lamp.nor.trial = 2 ∧ s.u.lamp.state = 3
     (¬goes → exec .trialCommitTimer s = .next (s.after s.u)) ∧
     (goes → exec .trialCommitTimer s = .next (s.after (s.u.upLamp fun l =>
      { l with nor := { l.nor with trial := 0 }, updState := if l.updState = 5 then 0 else l.updState,
               fuses := { l.fuses with fwFloor := max l.fuses.fwFloor (match s.u.lamp.fw with | some f => f.floor | none => 0) } })))) ∧
    (let late := s.u.lamp.nor.trial = 2 ∧ s.u.lamp.state ≠ 3 ∧ s.u.lamp.updState ≠ 4
     (late → exec .trialStartTimeout s = .next (s.after (s.u.emit (.bus 9 [s.u.self])))) ∧
     (¬late → exec .trialStartTimeout s = .next (s.after s.u))) ∧
    (∀ ev,
      let u1 := (s.u.count 0x100).lampEvent ev
      let u2 := (((u1.role.role.filter fun r => r.2.holding).map (·.1)).foldl (fun u k => u.setRole k
        { u.roleOf k with holding := false, stopped := true, leased := false, handing := false, rebuilding := false }) u1).upLamp fun l =>
          { l with restart := some s.u.clk.mono }
      let u3 := if u2.lamp.updState = 4 then u2.askReset
        else if (match s.u.lamp.restart with | some t => decide (s.u.clk.mono < t + 3600 * 10 ^ 9) | none => false) = true then (u2.setFault true).askReset else u2
      (ev = Ev.LAMP_LOCKSTEP → exec .lockstepMismatch s = .next (s.after u3)) ∧
      (ev = Ev.LAMP_WATCHDOG → exec .lampWatchdogExpiry s = .next (s.after u3))) ∧
    exec .entropyHealthFail s = .next (s.after ((s.u.upL fun l => { l with noSign := true }).lampEvent Ev.LAMP_ENTROPY_FAIL)) ∧
    exec .entropyHealthPass s = .next (s.after (s.u.upL fun l => { l with noSign := false })) ∧
    (let q : Bool → Nat := fun b => match slotOf s.u.lamp.nor.ctr b with | some x => x.seq | none => 0
     let b := decide (q false < q true)
     (slotOf s.u.lamp.nor.ctr b = none → exec .opTimeTick s = .next (s.after s.u)) ∧
     (∀ x, slotOf s.u.lamp.nor.ctr b = some x →
       let n := { s.u.lamp.nor with ctr := setSlot s.u.lamp.nor.ctr b (some { x with ticks := min 4096 (x.ticks + 1) }) }
       (x.ticks < 4095 ∨ s.u.pwr.fail = true → exec .opTimeTick s = .next (s.after (s.u.upLamp fun l => { l with nor := n }))) ∧
       (4095 ≤ x.ticks → s.u.pwr.fail = false → exec .opTimeTick s = .next (s.after (s.u.upLamp fun l => { l with nor := { n with ctr := setSlot n.ctr (!b) (some { seq := x.seq + 1, coarse := x.coarse + 4096, cycles := x.cycles, ticks := 0 }) } }))))) ∧
    (∀ path req slot,
      let go := exec (.spdmRequest path req slot) s
      let told := fun (w : List Nat) => (s.u.emit (.bus 5 ([1, path, req, slot] ++ w))).count 0x118
      let chain := fun (k : Nat) => s.u.lamp.chainWords k
      (s.u.lamp.state = 0 → req ≠ 0 → go = .next (s.after s.u)) ∧
      (s.u.lamp.state = 0 → req = 0 → go = .next (s.after (told [St.BAD_STATE]))) ∧
      (s.u.lamp.state ≠ 0 →
        (req < 3 → go = .next (s.after (told [St.OK]))) ∧
        (req = 3 → go = .next (s.after (told [St.OK, Config.sha384 (chain 0), Config.sha384 (chain 1)]))) ∧
        (req = 4 → slot < 2 → go = .next (s.after (told ([St.OK] ++ chain slot)))) ∧
        (req = 4 → 2 ≤ slot → go = .next (s.after (told [St.UNSUPPORTED]))) ∧
        (req = 5 → 2 ≤ slot → go = .next (s.after (told [St.UNSUPPORTED]).draw)) ∧
        (req = 5 ∧ slot < 2 ∨ req = 6 → s.u.led.noSign = true → go = .next (s.after (told [St.BUSY_RETRY]).draw)) ∧
        (req = 5 → slot < 2 → s.u.led.noSign = false → go = .next (s.after (told ([St.OK] ++ s.u.aliasSigned [Config.sha384 (chain slot)])).draw)) ∧
        (req = 6 → s.u.led.noSign = false → go = .next (s.after (told ([St.OK] ++ s.u.aliasSigned s.u.measurements)).draw)) ∧
        (7 ≤ req → go = .next (s.after (told [St.UNSUPPORTED]))))) ∧
    (∀ w, (∀ k, s.u.lamp.ident.aliasKey = some k →
        s.u.aliasSigned w = w ++ [(Config.sign k w s.u.free).1, (Config.sign k w s.u.free).2]) ∧
      (s.u.lamp.ident.aliasKey = none → s.u.aliasSigned w = w)) ∧
    (∀ path,
      let told := fun (w : List Nat) => s.after (s.u.emit (.bus 5 ([2, path] ++ w)))
      (∀ code, exec (.pldmRequest path (.base code)) s = .next (told [0, code, St.OK])) ∧
      (∀ im, (s.u.flick.comps.find? fun c => c.2.cls = 11 && c.2.idx = im) = none →
        exec (.pldmRequest path (.sensor im)) s = .next (told [2, im, St.BAD_PARAM])) ∧
      (∀ im x, (s.u.flick.comps.find? fun c => c.2.cls = 11 && c.2.idx = im) = some x →
        exec (.pldmRequest path (.sensor im)) s = .next (told [2, im, St.OK, x.2.state, x.2.conf])) ∧
      (∀ t, exec (.pldmRequest path (.other t)) s = .next (told [t, St.UNSUPPORTED])) ∧
      (∀ kind im same,
        let busy := s.u.pwr.fail = true ∨ s.u.lamp.updState = 3 ∨ s.u.lamp.updState = 4
        (3 ≤ kind → exec (.pldmRequest path (.update kind im same)) s = .next (told [5, kind, St.BAD_PARAM])) ∧
        (kind < 2 → s.u.lamp.state = 4 → exec (.pldmRequest path (.update kind im same)) s = .next (told [5, kind, St.BAD_STATE])) ∧
        (kind = 2 ∨ kind < 2 ∧ s.u.lamp.state ≠ 4 →
          (busy → exec (.pldmRequest path (.update kind im same)) s = .next (told [5, kind, St.BUSY_RETRY])) ∧
          (¬busy → exec (.pldmRequest path (.update kind im same)) s = .next (s.after
            ((s.u.stage kind im same).1.emit (.bus 5 [2, path, 5, kind, (s.u.stage kind im same).2])))))))
end

