-- ==== Sys2Proof/Laws/Maps.lean ====
section
/-!
SUPPORT. Sparse tables: what a table reads as after a change.
-/
namespace Sys2Proof

@[simp] theorem NMap.find_nil {α : Type} (k : Nat) : NMap.find ([] : NMap α) k = none := rfl

/-- A table reads as the value set at a key. -/
@[simp] theorem NMap.find_set_self {α : Type} (m : NMap α) (k : Nat) (v : α) : NMap.find (NMap.set m k v) k = some v := by
  induction m with
  | nil => simp [NMap.set, NMap.find]
  | cons c r ih =>
    obtain ⟨a, x⟩ := c
    unfold NMap.set
    split
    · simp [NMap.find]
    · split
      · simp [NMap.find]
      · rename_i h1 h2
        simp [NMap.find, h1, h2, ih]

/-- A table reads as before at every other key. -/
theorem NMap.find_set_ne {α : Type} (m : NMap α) (k j : Nat) (v : α) (h : j ≠ k) : NMap.find (NMap.set m k v) j = NMap.find m j := by
  induction m with
  | nil =>
    have h' : ¬ k = j := fun e => h e.symm
    simp [NMap.set, NMap.find, h']
  | cons c r ih =>
    obtain ⟨a, x⟩ := c
    have h' : ¬ k = j := fun e => h e.symm
    unfold NMap.set
    split
    · rename_i e
      subst e
      simp [NMap.find, h']
    · split
      · rename_i e1 e2
        by_cases ej : a = j
        · have : ¬ j < k := by omega
          simp [NMap.find, h', this]
        · by_cases lt : j < k
          · have : j < a := by omega
            simp [NMap.find, h', lt, ej, this]
          · simp [NMap.find, h', lt]
      · simp only [NMap.find, ih]

@[simp] theorem NMap.getD_set_self {α : Type} (m : NMap α) (k : Nat) (v d : α) : NMap.getD (NMap.set m k v) k d = v := by
  simp [NMap.getD]

theorem NMap.getD_set_ne {α : Type} (m : NMap α) (k j : Nat) (v d : α) (h : j ≠ k) : NMap.getD (NMap.set m k v) j d = NMap.getD m j d := by
  simp [NMap.getD, NMap.find_set_ne m k j v h]

/-- A value other than the default that is put reads back. -/
theorem NMap.getD_put_self {α : Type} [DecidableEq α] (m : NMap α) (k : Nat) (v d : α) (h : v ≠ d) : NMap.getD (NMap.put m d k v) k d = v := by
  simp [NMap.put, h]

end Sys2Proof
end

