-- ==== Sys2Proof/Laws/Memory.lean ====
section
/-!
SUPPORT. Byte stores: every operation keeps the canonical form; what a read gives after a write.
-/
namespace Sys2Proof.Machine

theorem Memory.wfFrom_cons (lo a : Nat) (b : Byte) (r : Memory) :
    Memory.wfFrom lo ((a, b) :: r) = true ↔ lo ≤ a ∧ b ≠ Memory.blank ∧ Memory.wfFrom (a + 1) r = true := by
  simp [Memory.wfFrom, and_assoc]

theorem Memory.wfFrom_le {lo hi : Nat} {m : Memory} (h : lo ≤ hi) (w : Memory.wfFrom hi m = true) : Memory.wfFrom lo m = true := by
  cases m with
  | nil => rfl
  | cons c r =>
    obtain ⟨a, b⟩ := c
    rw [Memory.wfFrom_cons] at w ⊢
    exact ⟨Nat.le_trans h w.1, w.2⟩

theorem Memory.wfFrom_insert (m : Memory) : ∀ (lo k : Nat) (v : Byte), lo ≤ k → v ≠ Memory.blank → Memory.wfFrom lo m = true →
    Memory.wfFrom lo (Memory.insert m k v) = true := by
  induction m with
  | nil =>
    intro lo k v hk hv _
    rw [Memory.insert, Memory.wfFrom_cons]
    exact ⟨hk, hv, rfl⟩
  | cons c r ih =>
    obtain ⟨a, b⟩ := c
    intro lo k v hk hv w
    rw [Memory.wfFrom_cons] at w
    unfold Memory.insert
    split
    · subst_vars
      rw [Memory.wfFrom_cons]
      exact ⟨hk, hv, w.2.2⟩
    · split
      · rw [Memory.wfFrom_cons, Memory.wfFrom_cons]
        exact ⟨hk, hv, by omega, w.2.1, w.2.2⟩
      · rw [Memory.wfFrom_cons]
        exact ⟨w.1, w.2.1, ih (a + 1) k v (by omega) hv w.2.2⟩

theorem Memory.wfFrom_erase (m : Memory) : ∀ (lo k : Nat), Memory.wfFrom lo m = true → Memory.wfFrom lo (Memory.erase m k) = true := by
  induction m with
  | nil => intro lo k _; rfl
  | cons c r ih =>
    obtain ⟨a, b⟩ := c
    intro lo k w
    have w' := w
    rw [Memory.wfFrom_cons] at w
    unfold Memory.erase
    split
    · exact Memory.wfFrom_le (by omega) w.2.2
    · split
      · exact w'
      · rw [Memory.wfFrom_cons]
        exact ⟨w.1, w.2.1, ih (a + 1) k w.2.2⟩

/-- Writing a byte keeps the canonical form. -/
theorem Memory.wf_write (m : Memory) (k : Nat) (v : Byte) (w : m.wf = true) : (m.write k v).wf = true := by
  unfold Memory.write
  split
  · exact Memory.wfFrom_erase m 0 k w
  · exact Memory.wfFrom_insert m 0 k v (Nat.zero_le _) (by assumption) w

/-- Writing bytes keeps the canonical form. -/
theorem Memory.wf_writeAll (l : List Nat) : ∀ (m : Memory) (k : Nat), m.wf = true → (m.writeAll k l).wf = true := by
  induction l with
  | nil => intro m k w; exact w
  | cons b r ih => intro m k w; exact ih _ _ (Memory.wf_write m k _ w)

theorem Memory.wfFrom_filter (f : Host.Cell → Bool) (m : Memory) : ∀ lo : Nat, Memory.wfFrom lo m = true → Memory.wfFrom lo (m.filter f) = true := by
  induction m with
  | nil => intro lo _; rfl
  | cons c r ih =>
    obtain ⟨a, b⟩ := c
    intro lo w
    rw [Memory.wfFrom_cons] at w
    by_cases h : f (a, b) = true
    · rw [List.filter_cons_of_pos h, Memory.wfFrom_cons]
      exact ⟨w.1, w.2.1, ih (a + 1) w.2.2⟩
    · rw [List.filter_cons_of_neg h]
      exact Memory.wfFrom_le (by omega) (ih (a + 1) w.2.2)

/-- Blanking a range keeps the canonical form. -/
theorem Memory.wf_clear (m : Memory) (k n : Nat) (w : m.wf = true) : (m.clear k n).wf = true := Memory.wfFrom_filter _ m 0 w

/-- Writing a front buffer line to DRAM keeps the canonical form. -/
theorem Memory.wf_putLine (d : Memory) (line : Nat) (l : List (Nat × Nat)) (w : d.wf = true) : (d.putLine line l).wf = true := by
  induction l with
  | nil => exact w
  | cons c r ih =>
    obtain ⟨o, v⟩ := c
    exact Memory.wf_write _ _ _ ih

/-- The two parts of the Mantle's canonical form. -/
theorem Mem.wf_iff (m : Mem) : m.wf = true ↔ m.dram.wf = true ∧ ∀ l ∈ m.fb, ∀ p ∈ l.bytes, p.1 < 64 ∧ p.2 < 256 := by
  simp [Mem.wf]

/-- Entering a byte into the front buffer keeps the canonical form (05 R116). -/
theorem Mem.wf_putByte (m : Mem) (region tag key a v : Nat) (w : m.wf = true) : (m.putByte region tag key a v).wf = true := by
  have hm : a % 64 < 64 := Nat.mod_lt _ (by omega)
  have hv : v % 256 < 256 := Nat.mod_lt _ (by omega)
  rw [Mem.wf_iff] at w ⊢
  obtain ⟨w1, w2⟩ := w
  unfold Mem.putByte
  split
  · rename_i l r hfb
    rw [hfb] at w2
    split
    · refine ⟨w1, ?_⟩
      intro x hx p hp
      rcases List.mem_cons.1 hx with rfl | hx
      · rcases List.mem_cons.1 hp with rfl | hp
        · exact ⟨hm, hv⟩
        · exact w2 l (List.mem_cons_self) p (List.mem_filter.1 hp).1
      · exact w2 x (List.mem_cons_of_mem _ hx) p hp
    · refine ⟨w1, ?_⟩
      intro x hx p hp
      rcases List.mem_cons.1 hx with rfl | hx
      · rw [List.mem_singleton.1 hp]; exact ⟨hm, hv⟩
      · exact w2 x hx p hp
  · refine ⟨w1, ?_⟩
    intro x hx p hp
    rw [List.mem_singleton.1 hx] at hp
    rw [List.mem_singleton.1 hp]
    exact ⟨hm, hv⟩

theorem Memory.wf_putLines (line : List FbLine) : ∀ d : Memory, d.wf = true → (line.foldl (fun d l => Memory.putLine d l.line l.bytes) d).wf = true := by
  induction line with
  | nil => intro d w; exact w
  | cons l r ih => intro d w; exact ih _ (Memory.wf_putLine d l.line l.bytes w)

/-- Writing lines back keeps the canonical form. -/
theorem Mem.wf_writeBack (m : Mem) (line : Nat) (ok : FbLine → Bool) (w : m.wf = true) : (m.writeBack line ok).wf = true := by
  rw [Mem.wf_iff] at w ⊢
  obtain ⟨w1, w2⟩ := w
  refine ⟨?_, fun l hl => w2 l (List.mem_filter.1 hl).1⟩
  have g : ∀ (ls : List FbLine) (d : Memory), d.wf = true → (ls.foldl (fun d l => Memory.putLine d line l.bytes) d).wf = true := by
    intro ls
    induction ls with
    | nil => intro d h; exact h
    | cons l r ih => intro d h; exact ih _ (Memory.wf_putLine d line l.bytes h)
  exact g _ _ w1

/-- Discarding lines keeps the canonical form. -/
theorem Mem.wf_discard (m : Mem) (f : FbLine → Bool) (w : m.wf = true) : (m.discard f).wf = true := by
  rw [Mem.wf_iff] at w ⊢
  exact ⟨w.1, fun l hl => w.2 l (List.mem_filter.1 hl).1⟩

/-- Nothing written is canonical. -/
@[simp] theorem Mem.wf_reset : Mem.reset.wf = true := rfl

end Sys2Proof.Machine
end

