-- ==== Sys2Proof/Laws/Receive.lean ====
section
/-!
SUPPORT. What receiving a message comes to (03, 04), said once.
-/
namespace Sys2Proof.Machine

/-- A sconce message that is acted on is not dropped. -/
theorem dropS_hears {s : State} {h : Sys2Proof.SHdr} {cls : Nat} (a : s.hears h cls) : s.u.dropS h cls = none := by
  obtain ⟨h1, hv, h2, h3, h4⟩ := a
  rcases h3 with h3 | h3 <;> rcases h4 with h4 | h4 <;> simp [Units.dropS, h1, hv, h2, h3, h4]

/-- A sconce message that is acted on. -/
theorem recvS_hears {s : State} {h : Sys2Proof.SHdr} {cls : Nat} (a : s.hears h cls) (f : Units → Units) : s.u.recvS h cls f = f s.u := by
  simp [Units.recvS, dropS_hears a]

/-- A lantern message that is acted on. -/
theorem recvL_hears {s : State} {h : Sys2Proof.LHdr} (a : s.hearsL h) (cls kind : Nat) (f : Units → Units) : s.u.recvL h cls kind f = f s.u := by
  unfold State.hearsL Units.lanternDrops at a
  rw [Bool.or_eq_false_iff] at a
  simp [Units.recvL, a.1.1, a.1.2, a.2]

/-- A command of an operator. -/
theorem operator_ok {u : Units} {c : Sys2Proof.Cmd} (h : isOperator (stampPriv c.stamp) = true) (a b : Nat) (f : Units → Units) :
    u.operator c a b f = f u := by
  unfold Units.operator; rw [if_pos h]

/-- A block message that is acted on uses one credit. -/
theorem recvBlock_hears {s : State} {h : Sys2Proof.SHdr} {cls credit : Nat} {b : Sys2Proof.Blk} (a : s.hearsBlock h cls credit b) (m : Mem)
    (f : Mem → Units → Mem × Units) : recvBlock h cls credit b m s.u f = f m (s.u.useCredit h.port h.ctx credit) := by
  obtain ⟨h1, h2, h3, h4, h6⟩ := a
  have h5 := h1.2.2.1
  unfold recvBlock
  simp only [h5, h2, ne_eq, not_true, decide_false, Bool.or_self, Bool.false_and]
  rw [if_neg (by decide), dropS_hears h1]
  simp [h3, h4, h6]

/-- What is done for a shard that is bound here. -/
theorem withSh_holds {s : State} {shard k : Nat} {x : Shard} {j : JobBind} (a : s.holds shard k x j) {α : Type} (d : α) (f : Nat → Shard → JobBind → α) :
    s.u.withSh shard d f = f k x j := by
  obtain ⟨h1, h2, h3⟩ := a
  subst h2
  simp only [Units.withSh, h1, h3]

/-- A role message that is acted on. -/
theorem recvRole_hears {s : State} {h : Sys2Proof.LHdr} {role epoch : Nat} (a : s.hearsRole h role epoch) (cls : Nat) (f : Units → Units) :
    s.u.recvRole h cls role epoch f = f s.u := by
  unfold Units.recvRole
  rw [recvL_hears a.1]
  simp [Nat.not_lt.mpr a.2]

/-- A message of a role's holder that is acted on. -/
theorem recvFrom_hears {s : State} {h : Sys2Proof.LHdr} {role : Nat} (a : s.hearsFrom h role) (cls kind : Nat) (f : Units → Units) :
    s.u.recvFrom h cls kind role f = f s.u := by
  unfold Units.recvFrom
  rw [recvL_hears a.1]
  rcases a.2 with h2 | h2 <;> simp [h2]

/-- A message of the witness protocol that is acted on brings its witness epoch. -/
theorem recvWit_hears {s : State} {h : Sys2Proof.LHdr} {role wepoch : Nat} (a : s.hearsWit h role wepoch) (cls : Nat) (f : Units → Units) :
    s.u.recvWit h cls role wepoch f = f (s.u.upRole role fun r => { r with wepoch := wepoch }) := by
  unfold Units.recvWit
  rw [recvL_hears a.1]
  simp [Nat.not_lt.mpr a.2]

/-- A request at the witness that answers it. -/
theorem atWitness_judges {s : State} {h : Sys2Proof.LHdr} {role wepoch : Nat} (a : s.judges h role wepoch) (cls : Nat) (f : Units → Units) :
    s.u.atWitness h cls role wepoch f = f s.u := by
  obtain ⟨h1, h3, h4⟩ := a
  unfold Units.atWitness
  rw [recvL_hears h1]
  rcases h3 with h3 | h3 <;> simp [h3, h4]

end Sys2Proof.Machine
end

