-- ==== Sys2Proof/Laws/State.lean ====
section
/-!
SUPPORT. What each update of the units and of the state leaves and gives: one lemma per field per update.
-/
namespace Sys2Proof.Machine

@[simp] theorem Units.upB_self (u : Units) (f : Beacon → Beacon) : (u.upB f).self = u.self := rfl
@[simp] theorem Units.upB_regs (u : Units) (f : Beacon → Beacon) : (u.upB f).regs = u.regs := rfl
@[simp] theorem Units.upB_out (u : Units) (f : Beacon → Beacon) : (u.upB f).out = u.out := rfl
@[simp] theorem Units.upB_free (u : Units) (f : Beacon → Beacon) : (u.upB f).free = u.free := rfl
@[simp] theorem Units.upB_todo (u : Units) (f : Beacon → Beacon) : (u.upB f).todo = u.todo := rfl
@[simp] theorem Units.upB_clk (u : Units) (f : Beacon → Beacon) : (u.upB f).clk = u.clk := rfl
@[simp] theorem Units.upB_ring (u : Units) (f : Beacon → Beacon) : (u.upB f).ring = u.ring := rfl
@[simp] theorem Units.upB_mb (u : Units) (f : Beacon → Beacon) : (u.upB f).mb = u.mb := rfl
@[simp] theorem Units.upB_chim (u : Units) (f : Beacon → Beacon) : (u.upB f).chim = u.chim := rfl
@[simp] theorem Units.upB_link (u : Units) (f : Beacon → Beacon) : (u.upB f).link = u.link := rfl
@[simp] theorem Units.upB_igtan (u : Units) (f : Beacon → Beacon) : (u.upB f).igtan = u.igtan := rfl
@[simp] theorem Units.upB_role (u : Units) (f : Beacon → Beacon) : (u.upB f).role = u.role := rfl
@[simp] theorem Units.upB_mantle (u : Units) (f : Beacon → Beacon) : (u.upB f).mantle = u.mantle := rfl
@[simp] theorem Units.upB_bud (u : Units) (f : Beacon → Beacon) : (u.upB f).bud = u.bud := rfl
@[simp] theorem Units.upB_wick (u : Units) (f : Beacon → Beacon) : (u.upB f).wick = u.wick := rfl
@[simp] theorem Units.upB_vig (u : Units) (f : Beacon → Beacon) : (u.upB f).vig = u.vig := rfl
@[simp] theorem Units.upB_rcv (u : Units) (f : Beacon → Beacon) : (u.upB f).rcv = u.rcv := rfl
@[simp] theorem Units.upB_grid (u : Units) (f : Beacon → Beacon) : (u.upB f).grid = u.grid := rfl
@[simp] theorem Units.upB_flick (u : Units) (f : Beacon → Beacon) : (u.upB f).flick = u.flick := rfl
@[simp] theorem Units.upB_ember (u : Units) (f : Beacon → Beacon) : (u.upB f).ember = u.ember := rfl
@[simp] theorem Units.upB_coll (u : Units) (f : Beacon → Beacon) : (u.upB f).coll = u.coll := rfl
@[simp] theorem Units.upB_tal (u : Units) (f : Beacon → Beacon) : (u.upB f).tal = u.tal := rfl
@[simp] theorem Units.upB_led (u : Units) (f : Beacon → Beacon) : (u.upB f).led = u.led := rfl
@[simp] theorem Units.upB_lamp (u : Units) (f : Beacon → Beacon) : (u.upB f).lamp = u.lamp := rfl
@[simp] theorem Units.upB_pwr (u : Units) (f : Beacon → Beacon) : (u.upB f).pwr = u.pwr := rfl
@[simp] theorem Units.upB_drains (u : Units) (f : Beacon → Beacon) : (u.upB f).drains = u.drains := rfl
@[simp] theorem Units.upB_tags (u : Units) (f : Beacon → Beacon) : (u.upB f).tags = u.tags := rfl
@[simp] theorem Units.upB_bcn (u : Units) (f : Beacon → Beacon) : (u.upB f).bcn = f u.bcn := rfl

@[simp] theorem Units.upK_self (u : Units) (f : Clock → Clock) : (u.upK f).self = u.self := rfl
@[simp] theorem Units.upK_regs (u : Units) (f : Clock → Clock) : (u.upK f).regs = u.regs := rfl
@[simp] theorem Units.upK_out (u : Units) (f : Clock → Clock) : (u.upK f).out = u.out := rfl
@[simp] theorem Units.upK_free (u : Units) (f : Clock → Clock) : (u.upK f).free = u.free := rfl
@[simp] theorem Units.upK_todo (u : Units) (f : Clock → Clock) : (u.upK f).todo = u.todo := rfl
@[simp] theorem Units.upK_ring (u : Units) (f : Clock → Clock) : (u.upK f).ring = u.ring := rfl
@[simp] theorem Units.upK_mb (u : Units) (f : Clock → Clock) : (u.upK f).mb = u.mb := rfl
@[simp] theorem Units.upK_chim (u : Units) (f : Clock → Clock) : (u.upK f).chim = u.chim := rfl
@[simp] theorem Units.upK_link (u : Units) (f : Clock → Clock) : (u.upK f).link = u.link := rfl
@[simp] theorem Units.upK_igtan (u : Units) (f : Clock → Clock) : (u.upK f).igtan = u.igtan := rfl
@[simp] theorem Units.upK_role (u : Units) (f : Clock → Clock) : (u.upK f).role = u.role := rfl
@[simp] theorem Units.upK_mantle (u : Units) (f : Clock → Clock) : (u.upK f).mantle = u.mantle := rfl
@[simp] theorem Units.upK_bud (u : Units) (f : Clock → Clock) : (u.upK f).bud = u.bud := rfl
@[simp] theorem Units.upK_wick (u : Units) (f : Clock → Clock) : (u.upK f).wick = u.wick := rfl
@[simp] theorem Units.upK_vig (u : Units) (f : Clock → Clock) : (u.upK f).vig = u.vig := rfl
@[simp] theorem Units.upK_rcv (u : Units) (f : Clock → Clock) : (u.upK f).rcv = u.rcv := rfl
@[simp] theorem Units.upK_grid (u : Units) (f : Clock → Clock) : (u.upK f).grid = u.grid := rfl
@[simp] theorem Units.upK_flick (u : Units) (f : Clock → Clock) : (u.upK f).flick = u.flick := rfl
@[simp] theorem Units.upK_ember (u : Units) (f : Clock → Clock) : (u.upK f).ember = u.ember := rfl
@[simp] theorem Units.upK_bcn (u : Units) (f : Clock → Clock) : (u.upK f).bcn = u.bcn := rfl
@[simp] theorem Units.upK_coll (u : Units) (f : Clock → Clock) : (u.upK f).coll = u.coll := rfl
@[simp] theorem Units.upK_tal (u : Units) (f : Clock → Clock) : (u.upK f).tal = u.tal := rfl
@[simp] theorem Units.upK_led (u : Units) (f : Clock → Clock) : (u.upK f).led = u.led := rfl
@[simp] theorem Units.upK_lamp (u : Units) (f : Clock → Clock) : (u.upK f).lamp = u.lamp := rfl
@[simp] theorem Units.upK_pwr (u : Units) (f : Clock → Clock) : (u.upK f).pwr = u.pwr := rfl
@[simp] theorem Units.upK_drains (u : Units) (f : Clock → Clock) : (u.upK f).drains = u.drains := rfl
@[simp] theorem Units.upK_tags (u : Units) (f : Clock → Clock) : (u.upK f).tags = u.tags := rfl
@[simp] theorem Units.upK_clk (u : Units) (f : Clock → Clock) : (u.upK f).clk = f u.clk := rfl

@[simp] theorem Units.upX_self (u : Units) (f : Coll → Coll) : (u.upX f).self = u.self := rfl
@[simp] theorem Units.upX_regs (u : Units) (f : Coll → Coll) : (u.upX f).regs = u.regs := rfl
@[simp] theorem Units.upX_out (u : Units) (f : Coll → Coll) : (u.upX f).out = u.out := rfl
@[simp] theorem Units.upX_free (u : Units) (f : Coll → Coll) : (u.upX f).free = u.free := rfl
@[simp] theorem Units.upX_todo (u : Units) (f : Coll → Coll) : (u.upX f).todo = u.todo := rfl
@[simp] theorem Units.upX_clk (u : Units) (f : Coll → Coll) : (u.upX f).clk = u.clk := rfl
@[simp] theorem Units.upX_ring (u : Units) (f : Coll → Coll) : (u.upX f).ring = u.ring := rfl
@[simp] theorem Units.upX_mb (u : Units) (f : Coll → Coll) : (u.upX f).mb = u.mb := rfl
@[simp] theorem Units.upX_chim (u : Units) (f : Coll → Coll) : (u.upX f).chim = u.chim := rfl
@[simp] theorem Units.upX_link (u : Units) (f : Coll → Coll) : (u.upX f).link = u.link := rfl
@[simp] theorem Units.upX_igtan (u : Units) (f : Coll → Coll) : (u.upX f).igtan = u.igtan := rfl
@[simp] theorem Units.upX_role (u : Units) (f : Coll → Coll) : (u.upX f).role = u.role := rfl
@[simp] theorem Units.upX_mantle (u : Units) (f : Coll → Coll) : (u.upX f).mantle = u.mantle := rfl
@[simp] theorem Units.upX_bud (u : Units) (f : Coll → Coll) : (u.upX f).bud = u.bud := rfl
@[simp] theorem Units.upX_wick (u : Units) (f : Coll → Coll) : (u.upX f).wick = u.wick := rfl
@[simp] theorem Units.upX_vig (u : Units) (f : Coll → Coll) : (u.upX f).vig = u.vig := rfl
@[simp] theorem Units.upX_rcv (u : Units) (f : Coll → Coll) : (u.upX f).rcv = u.rcv := rfl
@[simp] theorem Units.upX_grid (u : Units) (f : Coll → Coll) : (u.upX f).grid = u.grid := rfl
@[simp] theorem Units.upX_flick (u : Units) (f : Coll → Coll) : (u.upX f).flick = u.flick := rfl
@[simp] theorem Units.upX_ember (u : Units) (f : Coll → Coll) : (u.upX f).ember = u.ember := rfl
@[simp] theorem Units.upX_bcn (u : Units) (f : Coll → Coll) : (u.upX f).bcn = u.bcn := rfl
@[simp] theorem Units.upX_tal (u : Units) (f : Coll → Coll) : (u.upX f).tal = u.tal := rfl
@[simp] theorem Units.upX_led (u : Units) (f : Coll → Coll) : (u.upX f).led = u.led := rfl
@[simp] theorem Units.upX_lamp (u : Units) (f : Coll → Coll) : (u.upX f).lamp = u.lamp := rfl
@[simp] theorem Units.upX_pwr (u : Units) (f : Coll → Coll) : (u.upX f).pwr = u.pwr := rfl
@[simp] theorem Units.upX_drains (u : Units) (f : Coll → Coll) : (u.upX f).drains = u.drains := rfl
@[simp] theorem Units.upX_tags (u : Units) (f : Coll → Coll) : (u.upX f).tags = u.tags := rfl
@[simp] theorem Units.upX_coll (u : Units) (f : Coll → Coll) : (u.upX f).coll = f u.coll := rfl

@[simp] theorem Units.upE_self (u : Units) (f : Ember → Ember) : (u.upE f).self = u.self := rfl
@[simp] theorem Units.upE_regs (u : Units) (f : Ember → Ember) : (u.upE f).regs = u.regs := rfl
@[simp] theorem Units.upE_out (u : Units) (f : Ember → Ember) : (u.upE f).out = u.out := rfl
@[simp] theorem Units.upE_free (u : Units) (f : Ember → Ember) : (u.upE f).free = u.free := rfl
@[simp] theorem Units.upE_todo (u : Units) (f : Ember → Ember) : (u.upE f).todo = u.todo := rfl
@[simp] theorem Units.upE_clk (u : Units) (f : Ember → Ember) : (u.upE f).clk = u.clk := rfl
@[simp] theorem Units.upE_ring (u : Units) (f : Ember → Ember) : (u.upE f).ring = u.ring := rfl
@[simp] theorem Units.upE_mb (u : Units) (f : Ember → Ember) : (u.upE f).mb = u.mb := rfl
@[simp] theorem Units.upE_chim (u : Units) (f : Ember → Ember) : (u.upE f).chim = u.chim := rfl
@[simp] theorem Units.upE_link (u : Units) (f : Ember → Ember) : (u.upE f).link = u.link := rfl
@[simp] theorem Units.upE_igtan (u : Units) (f : Ember → Ember) : (u.upE f).igtan = u.igtan := rfl
@[simp] theorem Units.upE_role (u : Units) (f : Ember → Ember) : (u.upE f).role = u.role := rfl
@[simp] theorem Units.upE_mantle (u : Units) (f : Ember → Ember) : (u.upE f).mantle = u.mantle := rfl
@[simp] theorem Units.upE_bud (u : Units) (f : Ember → Ember) : (u.upE f).bud = u.bud := rfl
@[simp] theorem Units.upE_wick (u : Units) (f : Ember → Ember) : (u.upE f).wick = u.wick := rfl
@[simp] theorem Units.upE_vig (u : Units) (f : Ember → Ember) : (u.upE f).vig = u.vig := rfl
@[simp] theorem Units.upE_rcv (u : Units) (f : Ember → Ember) : (u.upE f).rcv = u.rcv := rfl
@[simp] theorem Units.upE_grid (u : Units) (f : Ember → Ember) : (u.upE f).grid = u.grid := rfl
@[simp] theorem Units.upE_flick (u : Units) (f : Ember → Ember) : (u.upE f).flick = u.flick := rfl
@[simp] theorem Units.upE_bcn (u : Units) (f : Ember → Ember) : (u.upE f).bcn = u.bcn := rfl
@[simp] theorem Units.upE_coll (u : Units) (f : Ember → Ember) : (u.upE f).coll = u.coll := rfl
@[simp] theorem Units.upE_tal (u : Units) (f : Ember → Ember) : (u.upE f).tal = u.tal := rfl
@[simp] theorem Units.upE_led (u : Units) (f : Ember → Ember) : (u.upE f).led = u.led := rfl
@[simp] theorem Units.upE_lamp (u : Units) (f : Ember → Ember) : (u.upE f).lamp = u.lamp := rfl
@[simp] theorem Units.upE_pwr (u : Units) (f : Ember → Ember) : (u.upE f).pwr = u.pwr := rfl
@[simp] theorem Units.upE_drains (u : Units) (f : Ember → Ember) : (u.upE f).drains = u.drains := rfl
@[simp] theorem Units.upE_tags (u : Units) (f : Ember → Ember) : (u.upE f).tags = u.tags := rfl
@[simp] theorem Units.upE_ember (u : Units) (f : Ember → Ember) : (u.upE f).ember = f u.ember := rfl

@[simp] theorem Units.upF_self (u : Units) (f : Flicker → Flicker) : (u.upF f).self = u.self := rfl
@[simp] theorem Units.upF_regs (u : Units) (f : Flicker → Flicker) : (u.upF f).regs = u.regs := rfl
@[simp] theorem Units.upF_out (u : Units) (f : Flicker → Flicker) : (u.upF f).out = u.out := rfl
@[simp] theorem Units.upF_free (u : Units) (f : Flicker → Flicker) : (u.upF f).free = u.free := rfl
@[simp] theorem Units.upF_todo (u : Units) (f : Flicker → Flicker) : (u.upF f).todo = u.todo := rfl
@[simp] theorem Units.upF_clk (u : Units) (f : Flicker → Flicker) : (u.upF f).clk = u.clk := rfl
@[simp] theorem Units.upF_ring (u : Units) (f : Flicker → Flicker) : (u.upF f).ring = u.ring := rfl
@[simp] theorem Units.upF_mb (u : Units) (f : Flicker → Flicker) : (u.upF f).mb = u.mb := rfl
@[simp] theorem Units.upF_chim (u : Units) (f : Flicker → Flicker) : (u.upF f).chim = u.chim := rfl
@[simp] theorem Units.upF_link (u : Units) (f : Flicker → Flicker) : (u.upF f).link = u.link := rfl
@[simp] theorem Units.upF_igtan (u : Units) (f : Flicker → Flicker) : (u.upF f).igtan = u.igtan := rfl
@[simp] theorem Units.upF_role (u : Units) (f : Flicker → Flicker) : (u.upF f).role = u.role := rfl
@[simp] theorem Units.upF_mantle (u : Units) (f : Flicker → Flicker) : (u.upF f).mantle = u.mantle := rfl
@[simp] theorem Units.upF_bud (u : Units) (f : Flicker → Flicker) : (u.upF f).bud = u.bud := rfl
@[simp] theorem Units.upF_wick (u : Units) (f : Flicker → Flicker) : (u.upF f).wick = u.wick := rfl
@[simp] theorem Units.upF_vig (u : Units) (f : Flicker → Flicker) : (u.upF f).vig = u.vig := rfl
@[simp] theorem Units.upF_rcv (u : Units) (f : Flicker → Flicker) : (u.upF f).rcv = u.rcv := rfl
@[simp] theorem Units.upF_grid (u : Units) (f : Flicker → Flicker) : (u.upF f).grid = u.grid := rfl
@[simp] theorem Units.upF_ember (u : Units) (f : Flicker → Flicker) : (u.upF f).ember = u.ember := rfl
@[simp] theorem Units.upF_bcn (u : Units) (f : Flicker → Flicker) : (u.upF f).bcn = u.bcn := rfl
@[simp] theorem Units.upF_coll (u : Units) (f : Flicker → Flicker) : (u.upF f).coll = u.coll := rfl
@[simp] theorem Units.upF_tal (u : Units) (f : Flicker → Flicker) : (u.upF f).tal = u.tal := rfl
@[simp] theorem Units.upF_led (u : Units) (f : Flicker → Flicker) : (u.upF f).led = u.led := rfl
@[simp] theorem Units.upF_lamp (u : Units) (f : Flicker → Flicker) : (u.upF f).lamp = u.lamp := rfl
@[simp] theorem Units.upF_pwr (u : Units) (f : Flicker → Flicker) : (u.upF f).pwr = u.pwr := rfl
@[simp] theorem Units.upF_drains (u : Units) (f : Flicker → Flicker) : (u.upF f).drains = u.drains := rfl
@[simp] theorem Units.upF_tags (u : Units) (f : Flicker → Flicker) : (u.upF f).tags = u.tags := rfl
@[simp] theorem Units.upF_flick (u : Units) (f : Flicker → Flicker) : (u.upF f).flick = f u.flick := rfl

@[simp] theorem Units.upG_self (u : Units) (f : GridUnit → GridUnit) : (u.upG f).self = u.self := rfl
@[simp] theorem Units.upG_regs (u : Units) (f : GridUnit → GridUnit) : (u.upG f).regs = u.regs := rfl
@[simp] theorem Units.upG_out (u : Units) (f : GridUnit → GridUnit) : (u.upG f).out = u.out := rfl
@[simp] theorem Units.upG_free (u : Units) (f : GridUnit → GridUnit) : (u.upG f).free = u.free := rfl
@[simp] theorem Units.upG_todo (u : Units) (f : GridUnit → GridUnit) : (u.upG f).todo = u.todo := rfl
@[simp] theorem Units.upG_clk (u : Units) (f : GridUnit → GridUnit) : (u.upG f).clk = u.clk := rfl
@[simp] theorem Units.upG_ring (u : Units) (f : GridUnit → GridUnit) : (u.upG f).ring = u.ring := rfl
@[simp] theorem Units.upG_mb (u : Units) (f : GridUnit → GridUnit) : (u.upG f).mb = u.mb := rfl
@[simp] theorem Units.upG_chim (u : Units) (f : GridUnit → GridUnit) : (u.upG f).chim = u.chim := rfl
@[simp] theorem Units.upG_link (u : Units) (f : GridUnit → GridUnit) : (u.upG f).link = u.link := rfl
@[simp] theorem Units.upG_igtan (u : Units) (f : GridUnit → GridUnit) : (u.upG f).igtan = u.igtan := rfl
@[simp] theorem Units.upG_role (u : Units) (f : GridUnit → GridUnit) : (u.upG f).role = u.role := rfl
@[simp] theorem Units.upG_mantle (u : Units) (f : GridUnit → GridUnit) : (u.upG f).mantle = u.mantle := rfl
@[simp] theorem Units.upG_bud (u : Units) (f : GridUnit → GridUnit) : (u.upG f).bud = u.bud := rfl
@[simp] theorem Units.upG_wick (u : Units) (f : GridUnit → GridUnit) : (u.upG f).wick = u.wick := rfl
@[simp] theorem Units.upG_vig (u : Units) (f : GridUnit → GridUnit) : (u.upG f).vig = u.vig := rfl
@[simp] theorem Units.upG_rcv (u : Units) (f : GridUnit → GridUnit) : (u.upG f).rcv = u.rcv := rfl
@[simp] theorem Units.upG_flick (u : Units) (f : GridUnit → GridUnit) : (u.upG f).flick = u.flick := rfl
@[simp] theorem Units.upG_ember (u : Units) (f : GridUnit → GridUnit) : (u.upG f).ember = u.ember := rfl
@[simp] theorem Units.upG_bcn (u : Units) (f : GridUnit → GridUnit) : (u.upG f).bcn = u.bcn := rfl
@[simp] theorem Units.upG_coll (u : Units) (f : GridUnit → GridUnit) : (u.upG f).coll = u.coll := rfl
@[simp] theorem Units.upG_tal (u : Units) (f : GridUnit → GridUnit) : (u.upG f).tal = u.tal := rfl
@[simp] theorem Units.upG_led (u : Units) (f : GridUnit → GridUnit) : (u.upG f).led = u.led := rfl
@[simp] theorem Units.upG_lamp (u : Units) (f : GridUnit → GridUnit) : (u.upG f).lamp = u.lamp := rfl
@[simp] theorem Units.upG_pwr (u : Units) (f : GridUnit → GridUnit) : (u.upG f).pwr = u.pwr := rfl
@[simp] theorem Units.upG_drains (u : Units) (f : GridUnit → GridUnit) : (u.upG f).drains = u.drains := rfl
@[simp] theorem Units.upG_tags (u : Units) (f : GridUnit → GridUnit) : (u.upG f).tags = u.tags := rfl
@[simp] theorem Units.upG_grid (u : Units) (f : GridUnit → GridUnit) : (u.upG f).grid = f u.grid := rfl

@[simp] theorem Units.upV_self (u : Units) (f : Vigil → Vigil) : (u.upV f).self = u.self := rfl
@[simp] theorem Units.upV_regs (u : Units) (f : Vigil → Vigil) : (u.upV f).regs = u.regs := rfl
@[simp] theorem Units.upV_out (u : Units) (f : Vigil → Vigil) : (u.upV f).out = u.out := rfl
@[simp] theorem Units.upV_free (u : Units) (f : Vigil → Vigil) : (u.upV f).free = u.free := rfl
@[simp] theorem Units.upV_todo (u : Units) (f : Vigil → Vigil) : (u.upV f).todo = u.todo := rfl
@[simp] theorem Units.upV_clk (u : Units) (f : Vigil → Vigil) : (u.upV f).clk = u.clk := rfl
@[simp] theorem Units.upV_ring (u : Units) (f : Vigil → Vigil) : (u.upV f).ring = u.ring := rfl
@[simp] theorem Units.upV_mb (u : Units) (f : Vigil → Vigil) : (u.upV f).mb = u.mb := rfl
@[simp] theorem Units.upV_chim (u : Units) (f : Vigil → Vigil) : (u.upV f).chim = u.chim := rfl
@[simp] theorem Units.upV_link (u : Units) (f : Vigil → Vigil) : (u.upV f).link = u.link := rfl
@[simp] theorem Units.upV_igtan (u : Units) (f : Vigil → Vigil) : (u.upV f).igtan = u.igtan := rfl
@[simp] theorem Units.upV_role (u : Units) (f : Vigil → Vigil) : (u.upV f).role = u.role := rfl
@[simp] theorem Units.upV_mantle (u : Units) (f : Vigil → Vigil) : (u.upV f).mantle = u.mantle := rfl
@[simp] theorem Units.upV_bud (u : Units) (f : Vigil → Vigil) : (u.upV f).bud = u.bud := rfl
@[simp] theorem Units.upV_wick (u : Units) (f : Vigil → Vigil) : (u.upV f).wick = u.wick := rfl
@[simp] theorem Units.upV_rcv (u : Units) (f : Vigil → Vigil) : (u.upV f).rcv = u.rcv := rfl
@[simp] theorem Units.upV_grid (u : Units) (f : Vigil → Vigil) : (u.upV f).grid = u.grid := rfl
@[simp] theorem Units.upV_flick (u : Units) (f : Vigil → Vigil) : (u.upV f).flick = u.flick := rfl
@[simp] theorem Units.upV_ember (u : Units) (f : Vigil → Vigil) : (u.upV f).ember = u.ember := rfl
@[simp] theorem Units.upV_bcn (u : Units) (f : Vigil → Vigil) : (u.upV f).bcn = u.bcn := rfl
@[simp] theorem Units.upV_coll (u : Units) (f : Vigil → Vigil) : (u.upV f).coll = u.coll := rfl
@[simp] theorem Units.upV_tal (u : Units) (f : Vigil → Vigil) : (u.upV f).tal = u.tal := rfl
@[simp] theorem Units.upV_led (u : Units) (f : Vigil → Vigil) : (u.upV f).led = u.led := rfl
@[simp] theorem Units.upV_lamp (u : Units) (f : Vigil → Vigil) : (u.upV f).lamp = u.lamp := rfl
@[simp] theorem Units.upV_pwr (u : Units) (f : Vigil → Vigil) : (u.upV f).pwr = u.pwr := rfl
@[simp] theorem Units.upV_drains (u : Units) (f : Vigil → Vigil) : (u.upV f).drains = u.drains := rfl
@[simp] theorem Units.upV_tags (u : Units) (f : Vigil → Vigil) : (u.upV f).tags = u.tags := rfl
@[simp] theorem Units.upV_vig (u : Units) (f : Vigil → Vigil) : (u.upV f).vig = f u.vig := rfl

@[simp] theorem Units.upL_self (u : Units) (f : Ledger → Ledger) : (u.upL f).self = u.self := rfl
@[simp] theorem Units.upL_regs (u : Units) (f : Ledger → Ledger) : (u.upL f).regs = u.regs := rfl
@[simp] theorem Units.upL_out (u : Units) (f : Ledger → Ledger) : (u.upL f).out = u.out := rfl
@[simp] theorem Units.upL_free (u : Units) (f : Ledger → Ledger) : (u.upL f).free = u.free := rfl
@[simp] theorem Units.upL_todo (u : Units) (f : Ledger → Ledger) : (u.upL f).todo = u.todo := rfl
@[simp] theorem Units.upL_clk (u : Units) (f : Ledger → Ledger) : (u.upL f).clk = u.clk := rfl
@[simp] theorem Units.upL_ring (u : Units) (f : Ledger → Ledger) : (u.upL f).ring = u.ring := rfl
@[simp] theorem Units.upL_mb (u : Units) (f : Ledger → Ledger) : (u.upL f).mb = u.mb := rfl
@[simp] theorem Units.upL_chim (u : Units) (f : Ledger → Ledger) : (u.upL f).chim = u.chim := rfl
@[simp] theorem Units.upL_link (u : Units) (f : Ledger → Ledger) : (u.upL f).link = u.link := rfl
@[simp] theorem Units.upL_igtan (u : Units) (f : Ledger → Ledger) : (u.upL f).igtan = u.igtan := rfl
@[simp] theorem Units.upL_role (u : Units) (f : Ledger → Ledger) : (u.upL f).role = u.role := rfl
@[simp] theorem Units.upL_mantle (u : Units) (f : Ledger → Ledger) : (u.upL f).mantle = u.mantle := rfl
@[simp] theorem Units.upL_bud (u : Units) (f : Ledger → Ledger) : (u.upL f).bud = u.bud := rfl
@[simp] theorem Units.upL_wick (u : Units) (f : Ledger → Ledger) : (u.upL f).wick = u.wick := rfl
@[simp] theorem Units.upL_vig (u : Units) (f : Ledger → Ledger) : (u.upL f).vig = u.vig := rfl
@[simp] theorem Units.upL_rcv (u : Units) (f : Ledger → Ledger) : (u.upL f).rcv = u.rcv := rfl
@[simp] theorem Units.upL_grid (u : Units) (f : Ledger → Ledger) : (u.upL f).grid = u.grid := rfl
@[simp] theorem Units.upL_flick (u : Units) (f : Ledger → Ledger) : (u.upL f).flick = u.flick := rfl
@[simp] theorem Units.upL_ember (u : Units) (f : Ledger → Ledger) : (u.upL f).ember = u.ember := rfl
@[simp] theorem Units.upL_bcn (u : Units) (f : Ledger → Ledger) : (u.upL f).bcn = u.bcn := rfl
@[simp] theorem Units.upL_coll (u : Units) (f : Ledger → Ledger) : (u.upL f).coll = u.coll := rfl
@[simp] theorem Units.upL_tal (u : Units) (f : Ledger → Ledger) : (u.upL f).tal = u.tal := rfl
@[simp] theorem Units.upL_lamp (u : Units) (f : Ledger → Ledger) : (u.upL f).lamp = u.lamp := rfl
@[simp] theorem Units.upL_pwr (u : Units) (f : Ledger → Ledger) : (u.upL f).pwr = u.pwr := rfl
@[simp] theorem Units.upL_drains (u : Units) (f : Ledger → Ledger) : (u.upL f).drains = u.drains := rfl
@[simp] theorem Units.upL_tags (u : Units) (f : Ledger → Ledger) : (u.upL f).tags = u.tags := rfl
@[simp] theorem Units.upL_led (u : Units) (f : Ledger → Ledger) : (u.upL f).led = f u.led := rfl

@[simp] theorem Units.draw_self (u : Units) : (u.draw).self = u.self := rfl
@[simp] theorem Units.draw_regs (u : Units) : (u.draw).regs = u.regs := rfl
@[simp] theorem Units.draw_out (u : Units) : (u.draw).out = u.out := rfl
@[simp] theorem Units.draw_todo (u : Units) : (u.draw).todo = u.todo := rfl
@[simp] theorem Units.draw_clk (u : Units) : (u.draw).clk = u.clk := rfl
@[simp] theorem Units.draw_ring (u : Units) : (u.draw).ring = u.ring := rfl
@[simp] theorem Units.draw_mb (u : Units) : (u.draw).mb = u.mb := rfl
@[simp] theorem Units.draw_chim (u : Units) : (u.draw).chim = u.chim := rfl
@[simp] theorem Units.draw_link (u : Units) : (u.draw).link = u.link := rfl
@[simp] theorem Units.draw_igtan (u : Units) : (u.draw).igtan = u.igtan := rfl
@[simp] theorem Units.draw_role (u : Units) : (u.draw).role = u.role := rfl
@[simp] theorem Units.draw_mantle (u : Units) : (u.draw).mantle = u.mantle := rfl
@[simp] theorem Units.draw_bud (u : Units) : (u.draw).bud = u.bud := rfl
@[simp] theorem Units.draw_wick (u : Units) : (u.draw).wick = u.wick := rfl
@[simp] theorem Units.draw_vig (u : Units) : (u.draw).vig = u.vig := rfl
@[simp] theorem Units.draw_rcv (u : Units) : (u.draw).rcv = u.rcv := rfl
@[simp] theorem Units.draw_grid (u : Units) : (u.draw).grid = u.grid := rfl
@[simp] theorem Units.draw_flick (u : Units) : (u.draw).flick = u.flick := rfl
@[simp] theorem Units.draw_ember (u : Units) : (u.draw).ember = u.ember := rfl
@[simp] theorem Units.draw_bcn (u : Units) : (u.draw).bcn = u.bcn := rfl
@[simp] theorem Units.draw_coll (u : Units) : (u.draw).coll = u.coll := rfl
@[simp] theorem Units.draw_tal (u : Units) : (u.draw).tal = u.tal := rfl
@[simp] theorem Units.draw_led (u : Units) : (u.draw).led = u.led := rfl
@[simp] theorem Units.draw_lamp (u : Units) : (u.draw).lamp = u.lamp := rfl
@[simp] theorem Units.draw_pwr (u : Units) : (u.draw).pwr = u.pwr := rfl
@[simp] theorem Units.draw_drains (u : Units) : (u.draw).drains = u.drains := rfl
@[simp] theorem Units.draw_tags (u : Units) : (u.draw).tags = u.tags := rfl

@[simp] theorem Units.upP_self (u : Units) (f : Pwr → Pwr) : (u.upP f).self = u.self := rfl
@[simp] theorem Units.upP_regs (u : Units) (f : Pwr → Pwr) : (u.upP f).regs = u.regs := rfl
@[simp] theorem Units.upP_out (u : Units) (f : Pwr → Pwr) : (u.upP f).out = u.out := rfl
@[simp] theorem Units.upP_free (u : Units) (f : Pwr → Pwr) : (u.upP f).free = u.free := rfl
@[simp] theorem Units.upP_todo (u : Units) (f : Pwr → Pwr) : (u.upP f).todo = u.todo := rfl
@[simp] theorem Units.upP_clk (u : Units) (f : Pwr → Pwr) : (u.upP f).clk = u.clk := rfl
@[simp] theorem Units.upP_ring (u : Units) (f : Pwr → Pwr) : (u.upP f).ring = u.ring := rfl
@[simp] theorem Units.upP_mb (u : Units) (f : Pwr → Pwr) : (u.upP f).mb = u.mb := rfl
@[simp] theorem Units.upP_chim (u : Units) (f : Pwr → Pwr) : (u.upP f).chim = u.chim := rfl
@[simp] theorem Units.upP_link (u : Units) (f : Pwr → Pwr) : (u.upP f).link = u.link := rfl
@[simp] theorem Units.upP_igtan (u : Units) (f : Pwr → Pwr) : (u.upP f).igtan = u.igtan := rfl
@[simp] theorem Units.upP_role (u : Units) (f : Pwr → Pwr) : (u.upP f).role = u.role := rfl
@[simp] theorem Units.upP_mantle (u : Units) (f : Pwr → Pwr) : (u.upP f).mantle = u.mantle := rfl
@[simp] theorem Units.upP_bud (u : Units) (f : Pwr → Pwr) : (u.upP f).bud = u.bud := rfl
@[simp] theorem Units.upP_wick (u : Units) (f : Pwr → Pwr) : (u.upP f).wick = u.wick := rfl
@[simp] theorem Units.upP_vig (u : Units) (f : Pwr → Pwr) : (u.upP f).vig = u.vig := rfl
@[simp] theorem Units.upP_rcv (u : Units) (f : Pwr → Pwr) : (u.upP f).rcv = u.rcv := rfl
@[simp] theorem Units.upP_grid (u : Units) (f : Pwr → Pwr) : (u.upP f).grid = u.grid := rfl
@[simp] theorem Units.upP_flick (u : Units) (f : Pwr → Pwr) : (u.upP f).flick = u.flick := rfl
@[simp] theorem Units.upP_ember (u : Units) (f : Pwr → Pwr) : (u.upP f).ember = u.ember := rfl
@[simp] theorem Units.upP_bcn (u : Units) (f : Pwr → Pwr) : (u.upP f).bcn = u.bcn := rfl
@[simp] theorem Units.upP_coll (u : Units) (f : Pwr → Pwr) : (u.upP f).coll = u.coll := rfl
@[simp] theorem Units.upP_tal (u : Units) (f : Pwr → Pwr) : (u.upP f).tal = u.tal := rfl
@[simp] theorem Units.upP_led (u : Units) (f : Pwr → Pwr) : (u.upP f).led = u.led := rfl
@[simp] theorem Units.upP_lamp (u : Units) (f : Pwr → Pwr) : (u.upP f).lamp = u.lamp := rfl
@[simp] theorem Units.upP_drains (u : Units) (f : Pwr → Pwr) : (u.upP f).drains = u.drains := rfl
@[simp] theorem Units.upP_tags (u : Units) (f : Pwr → Pwr) : (u.upP f).tags = u.tags := rfl
@[simp] theorem Units.upP_pwr (u : Units) (f : Pwr → Pwr) : (u.upP f).pwr = f u.pwr := rfl

@[simp] theorem Units.upC_self (u : Units) (f : Rcv → Rcv) : (u.upC f).self = u.self := rfl
@[simp] theorem Units.upC_regs (u : Units) (f : Rcv → Rcv) : (u.upC f).regs = u.regs := rfl
@[simp] theorem Units.upC_out (u : Units) (f : Rcv → Rcv) : (u.upC f).out = u.out := rfl
@[simp] theorem Units.upC_free (u : Units) (f : Rcv → Rcv) : (u.upC f).free = u.free := rfl
@[simp] theorem Units.upC_todo (u : Units) (f : Rcv → Rcv) : (u.upC f).todo = u.todo := rfl
@[simp] theorem Units.upC_clk (u : Units) (f : Rcv → Rcv) : (u.upC f).clk = u.clk := rfl
@[simp] theorem Units.upC_ring (u : Units) (f : Rcv → Rcv) : (u.upC f).ring = u.ring := rfl
@[simp] theorem Units.upC_mb (u : Units) (f : Rcv → Rcv) : (u.upC f).mb = u.mb := rfl
@[simp] theorem Units.upC_chim (u : Units) (f : Rcv → Rcv) : (u.upC f).chim = u.chim := rfl
@[simp] theorem Units.upC_link (u : Units) (f : Rcv → Rcv) : (u.upC f).link = u.link := rfl
@[simp] theorem Units.upC_igtan (u : Units) (f : Rcv → Rcv) : (u.upC f).igtan = u.igtan := rfl
@[simp] theorem Units.upC_role (u : Units) (f : Rcv → Rcv) : (u.upC f).role = u.role := rfl
@[simp] theorem Units.upC_mantle (u : Units) (f : Rcv → Rcv) : (u.upC f).mantle = u.mantle := rfl
@[simp] theorem Units.upC_bud (u : Units) (f : Rcv → Rcv) : (u.upC f).bud = u.bud := rfl
@[simp] theorem Units.upC_wick (u : Units) (f : Rcv → Rcv) : (u.upC f).wick = u.wick := rfl
@[simp] theorem Units.upC_vig (u : Units) (f : Rcv → Rcv) : (u.upC f).vig = u.vig := rfl
@[simp] theorem Units.upC_grid (u : Units) (f : Rcv → Rcv) : (u.upC f).grid = u.grid := rfl
@[simp] theorem Units.upC_flick (u : Units) (f : Rcv → Rcv) : (u.upC f).flick = u.flick := rfl
@[simp] theorem Units.upC_ember (u : Units) (f : Rcv → Rcv) : (u.upC f).ember = u.ember := rfl
@[simp] theorem Units.upC_bcn (u : Units) (f : Rcv → Rcv) : (u.upC f).bcn = u.bcn := rfl
@[simp] theorem Units.upC_coll (u : Units) (f : Rcv → Rcv) : (u.upC f).coll = u.coll := rfl
@[simp] theorem Units.upC_tal (u : Units) (f : Rcv → Rcv) : (u.upC f).tal = u.tal := rfl
@[simp] theorem Units.upC_led (u : Units) (f : Rcv → Rcv) : (u.upC f).led = u.led := rfl
@[simp] theorem Units.upC_lamp (u : Units) (f : Rcv → Rcv) : (u.upC f).lamp = u.lamp := rfl
@[simp] theorem Units.upC_pwr (u : Units) (f : Rcv → Rcv) : (u.upC f).pwr = u.pwr := rfl
@[simp] theorem Units.upC_drains (u : Units) (f : Rcv → Rcv) : (u.upC f).drains = u.drains := rfl
@[simp] theorem Units.upC_tags (u : Units) (f : Rcv → Rcv) : (u.upC f).tags = u.tags := rfl
@[simp] theorem Units.upC_rcv (u : Units) (f : Rcv → Rcv) : (u.upC f).rcv = f u.rcv := rfl

@[simp] theorem Units.upR_self (u : Units) (f : RoleUnit → RoleUnit) : (u.upR f).self = u.self := rfl
@[simp] theorem Units.upR_regs (u : Units) (f : RoleUnit → RoleUnit) : (u.upR f).regs = u.regs := rfl
@[simp] theorem Units.upR_out (u : Units) (f : RoleUnit → RoleUnit) : (u.upR f).out = u.out := rfl
@[simp] theorem Units.upR_free (u : Units) (f : RoleUnit → RoleUnit) : (u.upR f).free = u.free := rfl
@[simp] theorem Units.upR_todo (u : Units) (f : RoleUnit → RoleUnit) : (u.upR f).todo = u.todo := rfl
@[simp] theorem Units.upR_clk (u : Units) (f : RoleUnit → RoleUnit) : (u.upR f).clk = u.clk := rfl
@[simp] theorem Units.upR_ring (u : Units) (f : RoleUnit → RoleUnit) : (u.upR f).ring = u.ring := rfl
@[simp] theorem Units.upR_mb (u : Units) (f : RoleUnit → RoleUnit) : (u.upR f).mb = u.mb := rfl
@[simp] theorem Units.upR_chim (u : Units) (f : RoleUnit → RoleUnit) : (u.upR f).chim = u.chim := rfl
@[simp] theorem Units.upR_link (u : Units) (f : RoleUnit → RoleUnit) : (u.upR f).link = u.link := rfl
@[simp] theorem Units.upR_igtan (u : Units) (f : RoleUnit → RoleUnit) : (u.upR f).igtan = u.igtan := rfl
@[simp] theorem Units.upR_mantle (u : Units) (f : RoleUnit → RoleUnit) : (u.upR f).mantle = u.mantle := rfl
@[simp] theorem Units.upR_bud (u : Units) (f : RoleUnit → RoleUnit) : (u.upR f).bud = u.bud := rfl
@[simp] theorem Units.upR_wick (u : Units) (f : RoleUnit → RoleUnit) : (u.upR f).wick = u.wick := rfl
@[simp] theorem Units.upR_vig (u : Units) (f : RoleUnit → RoleUnit) : (u.upR f).vig = u.vig := rfl
@[simp] theorem Units.upR_rcv (u : Units) (f : RoleUnit → RoleUnit) : (u.upR f).rcv = u.rcv := rfl
@[simp] theorem Units.upR_grid (u : Units) (f : RoleUnit → RoleUnit) : (u.upR f).grid = u.grid := rfl
@[simp] theorem Units.upR_flick (u : Units) (f : RoleUnit → RoleUnit) : (u.upR f).flick = u.flick := rfl
@[simp] theorem Units.upR_ember (u : Units) (f : RoleUnit → RoleUnit) : (u.upR f).ember = u.ember := rfl
@[simp] theorem Units.upR_bcn (u : Units) (f : RoleUnit → RoleUnit) : (u.upR f).bcn = u.bcn := rfl
@[simp] theorem Units.upR_coll (u : Units) (f : RoleUnit → RoleUnit) : (u.upR f).coll = u.coll := rfl
@[simp] theorem Units.upR_tal (u : Units) (f : RoleUnit → RoleUnit) : (u.upR f).tal = u.tal := rfl
@[simp] theorem Units.upR_led (u : Units) (f : RoleUnit → RoleUnit) : (u.upR f).led = u.led := rfl
@[simp] theorem Units.upR_lamp (u : Units) (f : RoleUnit → RoleUnit) : (u.upR f).lamp = u.lamp := rfl
@[simp] theorem Units.upR_pwr (u : Units) (f : RoleUnit → RoleUnit) : (u.upR f).pwr = u.pwr := rfl
@[simp] theorem Units.upR_drains (u : Units) (f : RoleUnit → RoleUnit) : (u.upR f).drains = u.drains := rfl
@[simp] theorem Units.upR_tags (u : Units) (f : RoleUnit → RoleUnit) : (u.upR f).tags = u.tags := rfl
@[simp] theorem Units.upR_role (u : Units) (f : RoleUnit → RoleUnit) : (u.upR f).role = f u.role := rfl

@[simp] theorem Units.upLamp_self (u : Units) (f : Lamp → Lamp) : (u.upLamp f).self = u.self := rfl
@[simp] theorem Units.upLamp_regs (u : Units) (f : Lamp → Lamp) : (u.upLamp f).regs = u.regs := rfl
@[simp] theorem Units.upLamp_out (u : Units) (f : Lamp → Lamp) : (u.upLamp f).out = u.out := rfl
@[simp] theorem Units.upLamp_free (u : Units) (f : Lamp → Lamp) : (u.upLamp f).free = u.free := rfl
@[simp] theorem Units.upLamp_todo (u : Units) (f : Lamp → Lamp) : (u.upLamp f).todo = u.todo := rfl
@[simp] theorem Units.upLamp_clk (u : Units) (f : Lamp → Lamp) : (u.upLamp f).clk = u.clk := rfl
@[simp] theorem Units.upLamp_ring (u : Units) (f : Lamp → Lamp) : (u.upLamp f).ring = u.ring := rfl
@[simp] theorem Units.upLamp_mb (u : Units) (f : Lamp → Lamp) : (u.upLamp f).mb = u.mb := rfl
@[simp] theorem Units.upLamp_chim (u : Units) (f : Lamp → Lamp) : (u.upLamp f).chim = u.chim := rfl
@[simp] theorem Units.upLamp_link (u : Units) (f : Lamp → Lamp) : (u.upLamp f).link = u.link := rfl
@[simp] theorem Units.upLamp_igtan (u : Units) (f : Lamp → Lamp) : (u.upLamp f).igtan = u.igtan := rfl
@[simp] theorem Units.upLamp_role (u : Units) (f : Lamp → Lamp) : (u.upLamp f).role = u.role := rfl
@[simp] theorem Units.upLamp_mantle (u : Units) (f : Lamp → Lamp) : (u.upLamp f).mantle = u.mantle := rfl
@[simp] theorem Units.upLamp_bud (u : Units) (f : Lamp → Lamp) : (u.upLamp f).bud = u.bud := rfl
@[simp] theorem Units.upLamp_wick (u : Units) (f : Lamp → Lamp) : (u.upLamp f).wick = u.wick := rfl
@[simp] theorem Units.upLamp_vig (u : Units) (f : Lamp → Lamp) : (u.upLamp f).vig = u.vig := rfl
@[simp] theorem Units.upLamp_rcv (u : Units) (f : Lamp → Lamp) : (u.upLamp f).rcv = u.rcv := rfl
@[simp] theorem Units.upLamp_grid (u : Units) (f : Lamp → Lamp) : (u.upLamp f).grid = u.grid := rfl
@[simp] theorem Units.upLamp_flick (u : Units) (f : Lamp → Lamp) : (u.upLamp f).flick = u.flick := rfl
@[simp] theorem Units.upLamp_ember (u : Units) (f : Lamp → Lamp) : (u.upLamp f).ember = u.ember := rfl
@[simp] theorem Units.upLamp_bcn (u : Units) (f : Lamp → Lamp) : (u.upLamp f).bcn = u.bcn := rfl
@[simp] theorem Units.upLamp_coll (u : Units) (f : Lamp → Lamp) : (u.upLamp f).coll = u.coll := rfl
@[simp] theorem Units.upLamp_tal (u : Units) (f : Lamp → Lamp) : (u.upLamp f).tal = u.tal := rfl
@[simp] theorem Units.upLamp_led (u : Units) (f : Lamp → Lamp) : (u.upLamp f).led = u.led := rfl
@[simp] theorem Units.upLamp_pwr (u : Units) (f : Lamp → Lamp) : (u.upLamp f).pwr = u.pwr := rfl
@[simp] theorem Units.upLamp_drains (u : Units) (f : Lamp → Lamp) : (u.upLamp f).drains = u.drains := rfl
@[simp] theorem Units.upLamp_tags (u : Units) (f : Lamp → Lamp) : (u.upLamp f).tags = u.tags := rfl
@[simp] theorem Units.upLamp_lamp (u : Units) (f : Lamp → Lamp) : (u.upLamp f).lamp = f u.lamp := rfl

@[simp] theorem Units.upT_self (u : Units) (f : Tallow → Tallow) : (u.upT f).self = u.self := rfl
@[simp] theorem Units.upT_regs (u : Units) (f : Tallow → Tallow) : (u.upT f).regs = u.regs := rfl
@[simp] theorem Units.upT_out (u : Units) (f : Tallow → Tallow) : (u.upT f).out = u.out := rfl
@[simp] theorem Units.upT_free (u : Units) (f : Tallow → Tallow) : (u.upT f).free = u.free := rfl
@[simp] theorem Units.upT_todo (u : Units) (f : Tallow → Tallow) : (u.upT f).todo = u.todo := rfl
@[simp] theorem Units.upT_clk (u : Units) (f : Tallow → Tallow) : (u.upT f).clk = u.clk := rfl
@[simp] theorem Units.upT_ring (u : Units) (f : Tallow → Tallow) : (u.upT f).ring = u.ring := rfl
@[simp] theorem Units.upT_mb (u : Units) (f : Tallow → Tallow) : (u.upT f).mb = u.mb := rfl
@[simp] theorem Units.upT_chim (u : Units) (f : Tallow → Tallow) : (u.upT f).chim = u.chim := rfl
@[simp] theorem Units.upT_link (u : Units) (f : Tallow → Tallow) : (u.upT f).link = u.link := rfl
@[simp] theorem Units.upT_igtan (u : Units) (f : Tallow → Tallow) : (u.upT f).igtan = u.igtan := rfl
@[simp] theorem Units.upT_role (u : Units) (f : Tallow → Tallow) : (u.upT f).role = u.role := rfl
@[simp] theorem Units.upT_mantle (u : Units) (f : Tallow → Tallow) : (u.upT f).mantle = u.mantle := rfl
@[simp] theorem Units.upT_bud (u : Units) (f : Tallow → Tallow) : (u.upT f).bud = u.bud := rfl
@[simp] theorem Units.upT_wick (u : Units) (f : Tallow → Tallow) : (u.upT f).wick = u.wick := rfl
@[simp] theorem Units.upT_vig (u : Units) (f : Tallow → Tallow) : (u.upT f).vig = u.vig := rfl
@[simp] theorem Units.upT_rcv (u : Units) (f : Tallow → Tallow) : (u.upT f).rcv = u.rcv := rfl
@[simp] theorem Units.upT_grid (u : Units) (f : Tallow → Tallow) : (u.upT f).grid = u.grid := rfl
@[simp] theorem Units.upT_flick (u : Units) (f : Tallow → Tallow) : (u.upT f).flick = u.flick := rfl
@[simp] theorem Units.upT_ember (u : Units) (f : Tallow → Tallow) : (u.upT f).ember = u.ember := rfl
@[simp] theorem Units.upT_bcn (u : Units) (f : Tallow → Tallow) : (u.upT f).bcn = u.bcn := rfl
@[simp] theorem Units.upT_coll (u : Units) (f : Tallow → Tallow) : (u.upT f).coll = u.coll := rfl
@[simp] theorem Units.upT_led (u : Units) (f : Tallow → Tallow) : (u.upT f).led = u.led := rfl
@[simp] theorem Units.upT_lamp (u : Units) (f : Tallow → Tallow) : (u.upT f).lamp = u.lamp := rfl
@[simp] theorem Units.upT_pwr (u : Units) (f : Tallow → Tallow) : (u.upT f).pwr = u.pwr := rfl
@[simp] theorem Units.upT_drains (u : Units) (f : Tallow → Tallow) : (u.upT f).drains = u.drains := rfl
@[simp] theorem Units.upT_tags (u : Units) (f : Tallow → Tallow) : (u.upT f).tags = u.tags := rfl
@[simp] theorem Units.upT_tal (u : Units) (f : Tallow → Tallow) : (u.upT f).tal = f u.tal := rfl

@[simp] theorem Units.upW_self (u : Units) (f : Wick → Wick) : (u.upW f).self = u.self := rfl
@[simp] theorem Units.upW_regs (u : Units) (f : Wick → Wick) : (u.upW f).regs = u.regs := rfl
@[simp] theorem Units.upW_out (u : Units) (f : Wick → Wick) : (u.upW f).out = u.out := rfl
@[simp] theorem Units.upW_free (u : Units) (f : Wick → Wick) : (u.upW f).free = u.free := rfl
@[simp] theorem Units.upW_todo (u : Units) (f : Wick → Wick) : (u.upW f).todo = u.todo := rfl
@[simp] theorem Units.upW_clk (u : Units) (f : Wick → Wick) : (u.upW f).clk = u.clk := rfl
@[simp] theorem Units.upW_ring (u : Units) (f : Wick → Wick) : (u.upW f).ring = u.ring := rfl
@[simp] theorem Units.upW_mb (u : Units) (f : Wick → Wick) : (u.upW f).mb = u.mb := rfl
@[simp] theorem Units.upW_chim (u : Units) (f : Wick → Wick) : (u.upW f).chim = u.chim := rfl
@[simp] theorem Units.upW_link (u : Units) (f : Wick → Wick) : (u.upW f).link = u.link := rfl
@[simp] theorem Units.upW_igtan (u : Units) (f : Wick → Wick) : (u.upW f).igtan = u.igtan := rfl
@[simp] theorem Units.upW_role (u : Units) (f : Wick → Wick) : (u.upW f).role = u.role := rfl
@[simp] theorem Units.upW_mantle (u : Units) (f : Wick → Wick) : (u.upW f).mantle = u.mantle := rfl
@[simp] theorem Units.upW_bud (u : Units) (f : Wick → Wick) : (u.upW f).bud = u.bud := rfl
@[simp] theorem Units.upW_vig (u : Units) (f : Wick → Wick) : (u.upW f).vig = u.vig := rfl
@[simp] theorem Units.upW_rcv (u : Units) (f : Wick → Wick) : (u.upW f).rcv = u.rcv := rfl
@[simp] theorem Units.upW_grid (u : Units) (f : Wick → Wick) : (u.upW f).grid = u.grid := rfl
@[simp] theorem Units.upW_flick (u : Units) (f : Wick → Wick) : (u.upW f).flick = u.flick := rfl
@[simp] theorem Units.upW_ember (u : Units) (f : Wick → Wick) : (u.upW f).ember = u.ember := rfl
@[simp] theorem Units.upW_bcn (u : Units) (f : Wick → Wick) : (u.upW f).bcn = u.bcn := rfl
@[simp] theorem Units.upW_coll (u : Units) (f : Wick → Wick) : (u.upW f).coll = u.coll := rfl
@[simp] theorem Units.upW_tal (u : Units) (f : Wick → Wick) : (u.upW f).tal = u.tal := rfl
@[simp] theorem Units.upW_led (u : Units) (f : Wick → Wick) : (u.upW f).led = u.led := rfl
@[simp] theorem Units.upW_lamp (u : Units) (f : Wick → Wick) : (u.upW f).lamp = u.lamp := rfl
@[simp] theorem Units.upW_pwr (u : Units) (f : Wick → Wick) : (u.upW f).pwr = u.pwr := rfl
@[simp] theorem Units.upW_drains (u : Units) (f : Wick → Wick) : (u.upW f).drains = u.drains := rfl
@[simp] theorem Units.upW_tags (u : Units) (f : Wick → Wick) : (u.upW f).tags = u.tags := rfl
@[simp] theorem Units.upW_wick (u : Units) (f : Wick → Wick) : (u.upW f).wick = f u.wick := rfl

@[simp] theorem Units.emit_self (u : Units) (o : Out) : (u.emit o).self = u.self := rfl
@[simp] theorem Units.emit_regs (u : Units) (o : Out) : (u.emit o).regs = u.regs := rfl
@[simp] theorem Units.emit_free (u : Units) (o : Out) : (u.emit o).free = u.free := rfl
@[simp] theorem Units.emit_todo (u : Units) (o : Out) : (u.emit o).todo = u.todo := rfl
@[simp] theorem Units.emit_clk (u : Units) (o : Out) : (u.emit o).clk = u.clk := rfl
@[simp] theorem Units.emit_ring (u : Units) (o : Out) : (u.emit o).ring = u.ring := rfl
@[simp] theorem Units.emit_mb (u : Units) (o : Out) : (u.emit o).mb = u.mb := rfl
@[simp] theorem Units.emit_chim (u : Units) (o : Out) : (u.emit o).chim = u.chim := rfl
@[simp] theorem Units.emit_link (u : Units) (o : Out) : (u.emit o).link = u.link := rfl
@[simp] theorem Units.emit_igtan (u : Units) (o : Out) : (u.emit o).igtan = u.igtan := rfl
@[simp] theorem Units.emit_role (u : Units) (o : Out) : (u.emit o).role = u.role := rfl
@[simp] theorem Units.emit_mantle (u : Units) (o : Out) : (u.emit o).mantle = u.mantle := rfl
@[simp] theorem Units.emit_bud (u : Units) (o : Out) : (u.emit o).bud = u.bud := rfl
@[simp] theorem Units.emit_wick (u : Units) (o : Out) : (u.emit o).wick = u.wick := rfl
@[simp] theorem Units.emit_vig (u : Units) (o : Out) : (u.emit o).vig = u.vig := rfl
@[simp] theorem Units.emit_rcv (u : Units) (o : Out) : (u.emit o).rcv = u.rcv := rfl
@[simp] theorem Units.emit_grid (u : Units) (o : Out) : (u.emit o).grid = u.grid := rfl
@[simp] theorem Units.emit_flick (u : Units) (o : Out) : (u.emit o).flick = u.flick := rfl
@[simp] theorem Units.emit_ember (u : Units) (o : Out) : (u.emit o).ember = u.ember := rfl
@[simp] theorem Units.emit_bcn (u : Units) (o : Out) : (u.emit o).bcn = u.bcn := rfl
@[simp] theorem Units.emit_coll (u : Units) (o : Out) : (u.emit o).coll = u.coll := rfl
@[simp] theorem Units.emit_tal (u : Units) (o : Out) : (u.emit o).tal = u.tal := rfl
@[simp] theorem Units.emit_led (u : Units) (o : Out) : (u.emit o).led = u.led := rfl
@[simp] theorem Units.emit_lamp (u : Units) (o : Out) : (u.emit o).lamp = u.lamp := rfl
@[simp] theorem Units.emit_pwr (u : Units) (o : Out) : (u.emit o).pwr = u.pwr := rfl
@[simp] theorem Units.emit_drains (u : Units) (o : Out) : (u.emit o).drains = u.drains := rfl
@[simp] theorem Units.emit_tags (u : Units) (o : Out) : (u.emit o).tags = u.tags := rfl

@[simp] theorem Units.later_self (u : Units) (t : Todo) : (u.later t).self = u.self := rfl
@[simp] theorem Units.later_regs (u : Units) (t : Todo) : (u.later t).regs = u.regs := rfl
@[simp] theorem Units.later_out (u : Units) (t : Todo) : (u.later t).out = u.out := rfl
@[simp] theorem Units.later_free (u : Units) (t : Todo) : (u.later t).free = u.free := rfl
@[simp] theorem Units.later_clk (u : Units) (t : Todo) : (u.later t).clk = u.clk := rfl
@[simp] theorem Units.later_ring (u : Units) (t : Todo) : (u.later t).ring = u.ring := rfl
@[simp] theorem Units.later_mb (u : Units) (t : Todo) : (u.later t).mb = u.mb := rfl
@[simp] theorem Units.later_chim (u : Units) (t : Todo) : (u.later t).chim = u.chim := rfl
@[simp] theorem Units.later_link (u : Units) (t : Todo) : (u.later t).link = u.link := rfl
@[simp] theorem Units.later_igtan (u : Units) (t : Todo) : (u.later t).igtan = u.igtan := rfl
@[simp] theorem Units.later_role (u : Units) (t : Todo) : (u.later t).role = u.role := rfl
@[simp] theorem Units.later_mantle (u : Units) (t : Todo) : (u.later t).mantle = u.mantle := rfl
@[simp] theorem Units.later_bud (u : Units) (t : Todo) : (u.later t).bud = u.bud := rfl
@[simp] theorem Units.later_wick (u : Units) (t : Todo) : (u.later t).wick = u.wick := rfl
@[simp] theorem Units.later_vig (u : Units) (t : Todo) : (u.later t).vig = u.vig := rfl
@[simp] theorem Units.later_rcv (u : Units) (t : Todo) : (u.later t).rcv = u.rcv := rfl
@[simp] theorem Units.later_grid (u : Units) (t : Todo) : (u.later t).grid = u.grid := rfl
@[simp] theorem Units.later_flick (u : Units) (t : Todo) : (u.later t).flick = u.flick := rfl
@[simp] theorem Units.later_ember (u : Units) (t : Todo) : (u.later t).ember = u.ember := rfl
@[simp] theorem Units.later_bcn (u : Units) (t : Todo) : (u.later t).bcn = u.bcn := rfl
@[simp] theorem Units.later_coll (u : Units) (t : Todo) : (u.later t).coll = u.coll := rfl
@[simp] theorem Units.later_tal (u : Units) (t : Todo) : (u.later t).tal = u.tal := rfl
@[simp] theorem Units.later_led (u : Units) (t : Todo) : (u.later t).led = u.led := rfl
@[simp] theorem Units.later_lamp (u : Units) (t : Todo) : (u.later t).lamp = u.lamp := rfl
@[simp] theorem Units.later_pwr (u : Units) (t : Todo) : (u.later t).pwr = u.pwr := rfl
@[simp] theorem Units.later_drains (u : Units) (t : Todo) : (u.later t).drains = u.drains := rfl
@[simp] theorem Units.later_tags (u : Units) (t : Todo) : (u.later t).tags = u.tags := rfl

@[simp] theorem Units.setCnt_self (u : Units) (a v : Nat) : (u.setCnt a v).self = u.self := rfl
@[simp] theorem Units.setCnt_out (u : Units) (a v : Nat) : (u.setCnt a v).out = u.out := rfl
@[simp] theorem Units.setCnt_free (u : Units) (a v : Nat) : (u.setCnt a v).free = u.free := rfl
@[simp] theorem Units.setCnt_todo (u : Units) (a v : Nat) : (u.setCnt a v).todo = u.todo := rfl
@[simp] theorem Units.setCnt_clk (u : Units) (a v : Nat) : (u.setCnt a v).clk = u.clk := rfl
@[simp] theorem Units.setCnt_ring (u : Units) (a v : Nat) : (u.setCnt a v).ring = u.ring := rfl
@[simp] theorem Units.setCnt_mb (u : Units) (a v : Nat) : (u.setCnt a v).mb = u.mb := rfl
@[simp] theorem Units.setCnt_chim (u : Units) (a v : Nat) : (u.setCnt a v).chim = u.chim := rfl
@[simp] theorem Units.setCnt_link (u : Units) (a v : Nat) : (u.setCnt a v).link = u.link := rfl
@[simp] theorem Units.setCnt_igtan (u : Units) (a v : Nat) : (u.setCnt a v).igtan = u.igtan := rfl
@[simp] theorem Units.setCnt_role (u : Units) (a v : Nat) : (u.setCnt a v).role = u.role := rfl
@[simp] theorem Units.setCnt_mantle (u : Units) (a v : Nat) : (u.setCnt a v).mantle = u.mantle := rfl
@[simp] theorem Units.setCnt_bud (u : Units) (a v : Nat) : (u.setCnt a v).bud = u.bud := rfl
@[simp] theorem Units.setCnt_wick (u : Units) (a v : Nat) : (u.setCnt a v).wick = u.wick := rfl
@[simp] theorem Units.setCnt_vig (u : Units) (a v : Nat) : (u.setCnt a v).vig = u.vig := rfl
@[simp] theorem Units.setCnt_rcv (u : Units) (a v : Nat) : (u.setCnt a v).rcv = u.rcv := rfl
@[simp] theorem Units.setCnt_grid (u : Units) (a v : Nat) : (u.setCnt a v).grid = u.grid := rfl
@[simp] theorem Units.setCnt_flick (u : Units) (a v : Nat) : (u.setCnt a v).flick = u.flick := rfl
@[simp] theorem Units.setCnt_ember (u : Units) (a v : Nat) : (u.setCnt a v).ember = u.ember := rfl
@[simp] theorem Units.setCnt_bcn (u : Units) (a v : Nat) : (u.setCnt a v).bcn = u.bcn := rfl
@[simp] theorem Units.setCnt_coll (u : Units) (a v : Nat) : (u.setCnt a v).coll = u.coll := rfl
@[simp] theorem Units.setCnt_tal (u : Units) (a v : Nat) : (u.setCnt a v).tal = u.tal := rfl
@[simp] theorem Units.setCnt_led (u : Units) (a v : Nat) : (u.setCnt a v).led = u.led := rfl
@[simp] theorem Units.setCnt_lamp (u : Units) (a v : Nat) : (u.setCnt a v).lamp = u.lamp := rfl
@[simp] theorem Units.setCnt_pwr (u : Units) (a v : Nat) : (u.setCnt a v).pwr = u.pwr := rfl
@[simp] theorem Units.setCnt_drains (u : Units) (a v : Nat) : (u.setCnt a v).drains = u.drains := rfl
@[simp] theorem Units.setCnt_tags (u : Units) (a v : Nat) : (u.setCnt a v).tags = u.tags := rfl

@[simp] theorem Units.setCfg_self (u : Units) (a v : Nat) : (u.setCfg a v).self = u.self := rfl
@[simp] theorem Units.setCfg_out (u : Units) (a v : Nat) : (u.setCfg a v).out = u.out := rfl
@[simp] theorem Units.setCfg_free (u : Units) (a v : Nat) : (u.setCfg a v).free = u.free := rfl
@[simp] theorem Units.setCfg_todo (u : Units) (a v : Nat) : (u.setCfg a v).todo = u.todo := rfl
@[simp] theorem Units.setCfg_clk (u : Units) (a v : Nat) : (u.setCfg a v).clk = u.clk := rfl
@[simp] theorem Units.setCfg_ring (u : Units) (a v : Nat) : (u.setCfg a v).ring = u.ring := rfl
@[simp] theorem Units.setCfg_mb (u : Units) (a v : Nat) : (u.setCfg a v).mb = u.mb := rfl
@[simp] theorem Units.setCfg_chim (u : Units) (a v : Nat) : (u.setCfg a v).chim = u.chim := rfl
@[simp] theorem Units.setCfg_link (u : Units) (a v : Nat) : (u.setCfg a v).link = u.link := rfl
@[simp] theorem Units.setCfg_igtan (u : Units) (a v : Nat) : (u.setCfg a v).igtan = u.igtan := rfl
@[simp] theorem Units.setCfg_role (u : Units) (a v : Nat) : (u.setCfg a v).role = u.role := rfl
@[simp] theorem Units.setCfg_mantle (u : Units) (a v : Nat) : (u.setCfg a v).mantle = u.mantle := rfl
@[simp] theorem Units.setCfg_bud (u : Units) (a v : Nat) : (u.setCfg a v).bud = u.bud := rfl
@[simp] theorem Units.setCfg_wick (u : Units) (a v : Nat) : (u.setCfg a v).wick = u.wick := rfl
@[simp] theorem Units.setCfg_vig (u : Units) (a v : Nat) : (u.setCfg a v).vig = u.vig := rfl
@[simp] theorem Units.setCfg_rcv (u : Units) (a v : Nat) : (u.setCfg a v).rcv = u.rcv := rfl
@[simp] theorem Units.setCfg_grid (u : Units) (a v : Nat) : (u.setCfg a v).grid = u.grid := rfl
@[simp] theorem Units.setCfg_flick (u : Units) (a v : Nat) : (u.setCfg a v).flick = u.flick := rfl
@[simp] theorem Units.setCfg_ember (u : Units) (a v : Nat) : (u.setCfg a v).ember = u.ember := rfl
@[simp] theorem Units.setCfg_bcn (u : Units) (a v : Nat) : (u.setCfg a v).bcn = u.bcn := rfl
@[simp] theorem Units.setCfg_coll (u : Units) (a v : Nat) : (u.setCfg a v).coll = u.coll := rfl
@[simp] theorem Units.setCfg_tal (u : Units) (a v : Nat) : (u.setCfg a v).tal = u.tal := rfl
@[simp] theorem Units.setCfg_led (u : Units) (a v : Nat) : (u.setCfg a v).led = u.led := rfl
@[simp] theorem Units.setCfg_lamp (u : Units) (a v : Nat) : (u.setCfg a v).lamp = u.lamp := rfl
@[simp] theorem Units.setCfg_pwr (u : Units) (a v : Nat) : (u.setCfg a v).pwr = u.pwr := rfl
@[simp] theorem Units.setCfg_drains (u : Units) (a v : Nat) : (u.setCfg a v).drains = u.drains := rfl
@[simp] theorem Units.setCfg_tags (u : Units) (a v : Nat) : (u.setCfg a v).tags = u.tags := rfl

@[simp] theorem Units.count_self (u : Units) (a n : Nat) : (u.count a n).self = u.self := rfl
@[simp] theorem Units.count_out (u : Units) (a n : Nat) : (u.count a n).out = u.out := rfl
@[simp] theorem Units.count_free (u : Units) (a n : Nat) : (u.count a n).free = u.free := rfl
@[simp] theorem Units.count_todo (u : Units) (a n : Nat) : (u.count a n).todo = u.todo := rfl
@[simp] theorem Units.count_clk (u : Units) (a n : Nat) : (u.count a n).clk = u.clk := rfl
@[simp] theorem Units.count_ring (u : Units) (a n : Nat) : (u.count a n).ring = u.ring := rfl
@[simp] theorem Units.count_mb (u : Units) (a n : Nat) : (u.count a n).mb = u.mb := rfl
@[simp] theorem Units.count_chim (u : Units) (a n : Nat) : (u.count a n).chim = u.chim := rfl
@[simp] theorem Units.count_link (u : Units) (a n : Nat) : (u.count a n).link = u.link := rfl
@[simp] theorem Units.count_igtan (u : Units) (a n : Nat) : (u.count a n).igtan = u.igtan := rfl
@[simp] theorem Units.count_role (u : Units) (a n : Nat) : (u.count a n).role = u.role := rfl
@[simp] theorem Units.count_mantle (u : Units) (a n : Nat) : (u.count a n).mantle = u.mantle := rfl
@[simp] theorem Units.count_bud (u : Units) (a n : Nat) : (u.count a n).bud = u.bud := rfl
@[simp] theorem Units.count_wick (u : Units) (a n : Nat) : (u.count a n).wick = u.wick := rfl
@[simp] theorem Units.count_vig (u : Units) (a n : Nat) : (u.count a n).vig = u.vig := rfl
@[simp] theorem Units.count_rcv (u : Units) (a n : Nat) : (u.count a n).rcv = u.rcv := rfl
@[simp] theorem Units.count_grid (u : Units) (a n : Nat) : (u.count a n).grid = u.grid := rfl
@[simp] theorem Units.count_flick (u : Units) (a n : Nat) : (u.count a n).flick = u.flick := rfl
@[simp] theorem Units.count_ember (u : Units) (a n : Nat) : (u.count a n).ember = u.ember := rfl
@[simp] theorem Units.count_bcn (u : Units) (a n : Nat) : (u.count a n).bcn = u.bcn := rfl
@[simp] theorem Units.count_coll (u : Units) (a n : Nat) : (u.count a n).coll = u.coll := rfl
@[simp] theorem Units.count_tal (u : Units) (a n : Nat) : (u.count a n).tal = u.tal := rfl
@[simp] theorem Units.count_led (u : Units) (a n : Nat) : (u.count a n).led = u.led := rfl
@[simp] theorem Units.count_lamp (u : Units) (a n : Nat) : (u.count a n).lamp = u.lamp := rfl
@[simp] theorem Units.count_pwr (u : Units) (a n : Nat) : (u.count a n).pwr = u.pwr := rfl
@[simp] theorem Units.count_drains (u : Units) (a n : Nat) : (u.count a n).drains = u.drains := rfl
@[simp] theorem Units.count_tags (u : Units) (a n : Nat) : (u.count a n).tags = u.tags := rfl

@[simp] theorem Units.setPort_self (u : Units) (p : Nat) (l : Link) : (u.setPort p l).self = u.self := rfl
@[simp] theorem Units.setPort_regs (u : Units) (p : Nat) (l : Link) : (u.setPort p l).regs = u.regs := rfl
@[simp] theorem Units.setPort_out (u : Units) (p : Nat) (l : Link) : (u.setPort p l).out = u.out := rfl
@[simp] theorem Units.setPort_free (u : Units) (p : Nat) (l : Link) : (u.setPort p l).free = u.free := rfl
@[simp] theorem Units.setPort_todo (u : Units) (p : Nat) (l : Link) : (u.setPort p l).todo = u.todo := rfl
@[simp] theorem Units.setPort_clk (u : Units) (p : Nat) (l : Link) : (u.setPort p l).clk = u.clk := rfl
@[simp] theorem Units.setPort_ring (u : Units) (p : Nat) (l : Link) : (u.setPort p l).ring = u.ring := rfl
@[simp] theorem Units.setPort_mb (u : Units) (p : Nat) (l : Link) : (u.setPort p l).mb = u.mb := rfl
@[simp] theorem Units.setPort_chim (u : Units) (p : Nat) (l : Link) : (u.setPort p l).chim = u.chim := rfl
@[simp] theorem Units.setPort_igtan (u : Units) (p : Nat) (l : Link) : (u.setPort p l).igtan = u.igtan := rfl
@[simp] theorem Units.setPort_role (u : Units) (p : Nat) (l : Link) : (u.setPort p l).role = u.role := rfl
@[simp] theorem Units.setPort_mantle (u : Units) (p : Nat) (l : Link) : (u.setPort p l).mantle = u.mantle := rfl
@[simp] theorem Units.setPort_bud (u : Units) (p : Nat) (l : Link) : (u.setPort p l).bud = u.bud := rfl
@[simp] theorem Units.setPort_wick (u : Units) (p : Nat) (l : Link) : (u.setPort p l).wick = u.wick := rfl
@[simp] theorem Units.setPort_vig (u : Units) (p : Nat) (l : Link) : (u.setPort p l).vig = u.vig := rfl
@[simp] theorem Units.setPort_rcv (u : Units) (p : Nat) (l : Link) : (u.setPort p l).rcv = u.rcv := rfl
@[simp] theorem Units.setPort_grid (u : Units) (p : Nat) (l : Link) : (u.setPort p l).grid = u.grid := rfl
@[simp] theorem Units.setPort_flick (u : Units) (p : Nat) (l : Link) : (u.setPort p l).flick = u.flick := rfl
@[simp] theorem Units.setPort_ember (u : Units) (p : Nat) (l : Link) : (u.setPort p l).ember = u.ember := rfl
@[simp] theorem Units.setPort_bcn (u : Units) (p : Nat) (l : Link) : (u.setPort p l).bcn = u.bcn := rfl
@[simp] theorem Units.setPort_coll (u : Units) (p : Nat) (l : Link) : (u.setPort p l).coll = u.coll := rfl
@[simp] theorem Units.setPort_tal (u : Units) (p : Nat) (l : Link) : (u.setPort p l).tal = u.tal := rfl
@[simp] theorem Units.setPort_led (u : Units) (p : Nat) (l : Link) : (u.setPort p l).led = u.led := rfl
@[simp] theorem Units.setPort_lamp (u : Units) (p : Nat) (l : Link) : (u.setPort p l).lamp = u.lamp := rfl
@[simp] theorem Units.setPort_pwr (u : Units) (p : Nat) (l : Link) : (u.setPort p l).pwr = u.pwr := rfl
@[simp] theorem Units.setPort_drains (u : Units) (p : Nat) (l : Link) : (u.setPort p l).drains = u.drains := rfl
@[simp] theorem Units.setPort_tags (u : Units) (p : Nat) (l : Link) : (u.setPort p l).tags = u.tags := rfl

@[simp] theorem Units.setDesc_self (u : Units) (n : Nat) (d : RingDesc) : (u.setDesc n d).self = u.self := rfl
@[simp] theorem Units.setDesc_regs (u : Units) (n : Nat) (d : RingDesc) : (u.setDesc n d).regs = u.regs := rfl
@[simp] theorem Units.setDesc_out (u : Units) (n : Nat) (d : RingDesc) : (u.setDesc n d).out = u.out := rfl
@[simp] theorem Units.setDesc_free (u : Units) (n : Nat) (d : RingDesc) : (u.setDesc n d).free = u.free := rfl
@[simp] theorem Units.setDesc_todo (u : Units) (n : Nat) (d : RingDesc) : (u.setDesc n d).todo = u.todo := rfl
@[simp] theorem Units.setDesc_clk (u : Units) (n : Nat) (d : RingDesc) : (u.setDesc n d).clk = u.clk := rfl
@[simp] theorem Units.setDesc_mb (u : Units) (n : Nat) (d : RingDesc) : (u.setDesc n d).mb = u.mb := rfl
@[simp] theorem Units.setDesc_chim (u : Units) (n : Nat) (d : RingDesc) : (u.setDesc n d).chim = u.chim := rfl
@[simp] theorem Units.setDesc_link (u : Units) (n : Nat) (d : RingDesc) : (u.setDesc n d).link = u.link := rfl
@[simp] theorem Units.setDesc_igtan (u : Units) (n : Nat) (d : RingDesc) : (u.setDesc n d).igtan = u.igtan := rfl
@[simp] theorem Units.setDesc_role (u : Units) (n : Nat) (d : RingDesc) : (u.setDesc n d).role = u.role := rfl
@[simp] theorem Units.setDesc_mantle (u : Units) (n : Nat) (d : RingDesc) : (u.setDesc n d).mantle = u.mantle := rfl
@[simp] theorem Units.setDesc_bud (u : Units) (n : Nat) (d : RingDesc) : (u.setDesc n d).bud = u.bud := rfl
@[simp] theorem Units.setDesc_wick (u : Units) (n : Nat) (d : RingDesc) : (u.setDesc n d).wick = u.wick := rfl
@[simp] theorem Units.setDesc_vig (u : Units) (n : Nat) (d : RingDesc) : (u.setDesc n d).vig = u.vig := rfl
@[simp] theorem Units.setDesc_rcv (u : Units) (n : Nat) (d : RingDesc) : (u.setDesc n d).rcv = u.rcv := rfl
@[simp] theorem Units.setDesc_grid (u : Units) (n : Nat) (d : RingDesc) : (u.setDesc n d).grid = u.grid := rfl
@[simp] theorem Units.setDesc_flick (u : Units) (n : Nat) (d : RingDesc) : (u.setDesc n d).flick = u.flick := rfl
@[simp] theorem Units.setDesc_ember (u : Units) (n : Nat) (d : RingDesc) : (u.setDesc n d).ember = u.ember := rfl
@[simp] theorem Units.setDesc_bcn (u : Units) (n : Nat) (d : RingDesc) : (u.setDesc n d).bcn = u.bcn := rfl
@[simp] theorem Units.setDesc_coll (u : Units) (n : Nat) (d : RingDesc) : (u.setDesc n d).coll = u.coll := rfl
@[simp] theorem Units.setDesc_tal (u : Units) (n : Nat) (d : RingDesc) : (u.setDesc n d).tal = u.tal := rfl
@[simp] theorem Units.setDesc_led (u : Units) (n : Nat) (d : RingDesc) : (u.setDesc n d).led = u.led := rfl
@[simp] theorem Units.setDesc_lamp (u : Units) (n : Nat) (d : RingDesc) : (u.setDesc n d).lamp = u.lamp := rfl
@[simp] theorem Units.setDesc_pwr (u : Units) (n : Nat) (d : RingDesc) : (u.setDesc n d).pwr = u.pwr := rfl
@[simp] theorem Units.setDesc_drains (u : Units) (n : Nat) (d : RingDesc) : (u.setDesc n d).drains = u.drains := rfl
@[simp] theorem Units.setDesc_tags (u : Units) (n : Nat) (d : RingDesc) : (u.setDesc n d).tags = u.tags := rfl

@[simp] theorem Units.setRole_self (u : Units) (id : Nat) (r : RoleSt) : (u.setRole id r).self = u.self := rfl
@[simp] theorem Units.setRole_regs (u : Units) (id : Nat) (r : RoleSt) : (u.setRole id r).regs = u.regs := rfl
@[simp] theorem Units.setRole_out (u : Units) (id : Nat) (r : RoleSt) : (u.setRole id r).out = u.out := rfl
@[simp] theorem Units.setRole_free (u : Units) (id : Nat) (r : RoleSt) : (u.setRole id r).free = u.free := rfl
@[simp] theorem Units.setRole_todo (u : Units) (id : Nat) (r : RoleSt) : (u.setRole id r).todo = u.todo := rfl
@[simp] theorem Units.setRole_clk (u : Units) (id : Nat) (r : RoleSt) : (u.setRole id r).clk = u.clk := rfl
@[simp] theorem Units.setRole_ring (u : Units) (id : Nat) (r : RoleSt) : (u.setRole id r).ring = u.ring := rfl
@[simp] theorem Units.setRole_mb (u : Units) (id : Nat) (r : RoleSt) : (u.setRole id r).mb = u.mb := rfl
@[simp] theorem Units.setRole_chim (u : Units) (id : Nat) (r : RoleSt) : (u.setRole id r).chim = u.chim := rfl
@[simp] theorem Units.setRole_link (u : Units) (id : Nat) (r : RoleSt) : (u.setRole id r).link = u.link := rfl
@[simp] theorem Units.setRole_igtan (u : Units) (id : Nat) (r : RoleSt) : (u.setRole id r).igtan = u.igtan := rfl
@[simp] theorem Units.setRole_mantle (u : Units) (id : Nat) (r : RoleSt) : (u.setRole id r).mantle = u.mantle := rfl
@[simp] theorem Units.setRole_bud (u : Units) (id : Nat) (r : RoleSt) : (u.setRole id r).bud = u.bud := rfl
@[simp] theorem Units.setRole_wick (u : Units) (id : Nat) (r : RoleSt) : (u.setRole id r).wick = u.wick := rfl
@[simp] theorem Units.setRole_vig (u : Units) (id : Nat) (r : RoleSt) : (u.setRole id r).vig = u.vig := rfl
@[simp] theorem Units.setRole_rcv (u : Units) (id : Nat) (r : RoleSt) : (u.setRole id r).rcv = u.rcv := rfl
@[simp] theorem Units.setRole_grid (u : Units) (id : Nat) (r : RoleSt) : (u.setRole id r).grid = u.grid := rfl
@[simp] theorem Units.setRole_flick (u : Units) (id : Nat) (r : RoleSt) : (u.setRole id r).flick = u.flick := rfl
@[simp] theorem Units.setRole_ember (u : Units) (id : Nat) (r : RoleSt) : (u.setRole id r).ember = u.ember := rfl
@[simp] theorem Units.setRole_bcn (u : Units) (id : Nat) (r : RoleSt) : (u.setRole id r).bcn = u.bcn := rfl
@[simp] theorem Units.setRole_coll (u : Units) (id : Nat) (r : RoleSt) : (u.setRole id r).coll = u.coll := rfl
@[simp] theorem Units.setRole_tal (u : Units) (id : Nat) (r : RoleSt) : (u.setRole id r).tal = u.tal := rfl
@[simp] theorem Units.setRole_led (u : Units) (id : Nat) (r : RoleSt) : (u.setRole id r).led = u.led := rfl
@[simp] theorem Units.setRole_lamp (u : Units) (id : Nat) (r : RoleSt) : (u.setRole id r).lamp = u.lamp := rfl
@[simp] theorem Units.setRole_pwr (u : Units) (id : Nat) (r : RoleSt) : (u.setRole id r).pwr = u.pwr := rfl
@[simp] theorem Units.setRole_drains (u : Units) (id : Nat) (r : RoleSt) : (u.setRole id r).drains = u.drains := rfl
@[simp] theorem Units.setRole_tags (u : Units) (id : Nat) (r : RoleSt) : (u.setRole id r).tags = u.tags := rfl

@[simp] theorem Units.setMantle_self (u : Units) (x : Mantle) : (u.setMantle x).self = u.self := rfl
@[simp] theorem Units.setMantle_regs (u : Units) (x : Mantle) : (u.setMantle x).regs = u.regs := rfl
@[simp] theorem Units.setMantle_out (u : Units) (x : Mantle) : (u.setMantle x).out = u.out := rfl
@[simp] theorem Units.setMantle_free (u : Units) (x : Mantle) : (u.setMantle x).free = u.free := rfl
@[simp] theorem Units.setMantle_todo (u : Units) (x : Mantle) : (u.setMantle x).todo = u.todo := rfl
@[simp] theorem Units.setMantle_clk (u : Units) (x : Mantle) : (u.setMantle x).clk = u.clk := rfl
@[simp] theorem Units.setMantle_ring (u : Units) (x : Mantle) : (u.setMantle x).ring = u.ring := rfl
@[simp] theorem Units.setMantle_mb (u : Units) (x : Mantle) : (u.setMantle x).mb = u.mb := rfl
@[simp] theorem Units.setMantle_chim (u : Units) (x : Mantle) : (u.setMantle x).chim = u.chim := rfl
@[simp] theorem Units.setMantle_link (u : Units) (x : Mantle) : (u.setMantle x).link = u.link := rfl
@[simp] theorem Units.setMantle_igtan (u : Units) (x : Mantle) : (u.setMantle x).igtan = u.igtan := rfl
@[simp] theorem Units.setMantle_role (u : Units) (x : Mantle) : (u.setMantle x).role = u.role := rfl
@[simp] theorem Units.setMantle_bud (u : Units) (x : Mantle) : (u.setMantle x).bud = u.bud := rfl
@[simp] theorem Units.setMantle_wick (u : Units) (x : Mantle) : (u.setMantle x).wick = u.wick := rfl
@[simp] theorem Units.setMantle_vig (u : Units) (x : Mantle) : (u.setMantle x).vig = u.vig := rfl
@[simp] theorem Units.setMantle_rcv (u : Units) (x : Mantle) : (u.setMantle x).rcv = u.rcv := rfl
@[simp] theorem Units.setMantle_grid (u : Units) (x : Mantle) : (u.setMantle x).grid = u.grid := rfl
@[simp] theorem Units.setMantle_flick (u : Units) (x : Mantle) : (u.setMantle x).flick = u.flick := rfl
@[simp] theorem Units.setMantle_ember (u : Units) (x : Mantle) : (u.setMantle x).ember = u.ember := rfl
@[simp] theorem Units.setMantle_bcn (u : Units) (x : Mantle) : (u.setMantle x).bcn = u.bcn := rfl
@[simp] theorem Units.setMantle_coll (u : Units) (x : Mantle) : (u.setMantle x).coll = u.coll := rfl
@[simp] theorem Units.setMantle_tal (u : Units) (x : Mantle) : (u.setMantle x).tal = u.tal := rfl
@[simp] theorem Units.setMantle_led (u : Units) (x : Mantle) : (u.setMantle x).led = u.led := rfl
@[simp] theorem Units.setMantle_lamp (u : Units) (x : Mantle) : (u.setMantle x).lamp = u.lamp := rfl
@[simp] theorem Units.setMantle_pwr (u : Units) (x : Mantle) : (u.setMantle x).pwr = u.pwr := rfl
@[simp] theorem Units.setMantle_drains (u : Units) (x : Mantle) : (u.setMantle x).drains = u.drains := rfl
@[simp] theorem Units.setMantle_tags (u : Units) (x : Mantle) : (u.setMantle x).tags = u.tags := rfl

@[simp] theorem Units.setBud_self (u : Units) (b : Budget) : (u.setBud b).self = u.self := rfl
@[simp] theorem Units.setBud_regs (u : Units) (b : Budget) : (u.setBud b).regs = u.regs := rfl
@[simp] theorem Units.setBud_out (u : Units) (b : Budget) : (u.setBud b).out = u.out := rfl
@[simp] theorem Units.setBud_free (u : Units) (b : Budget) : (u.setBud b).free = u.free := rfl
@[simp] theorem Units.setBud_todo (u : Units) (b : Budget) : (u.setBud b).todo = u.todo := rfl
@[simp] theorem Units.setBud_clk (u : Units) (b : Budget) : (u.setBud b).clk = u.clk := rfl
@[simp] theorem Units.setBud_ring (u : Units) (b : Budget) : (u.setBud b).ring = u.ring := rfl
@[simp] theorem Units.setBud_mb (u : Units) (b : Budget) : (u.setBud b).mb = u.mb := rfl
@[simp] theorem Units.setBud_chim (u : Units) (b : Budget) : (u.setBud b).chim = u.chim := rfl
@[simp] theorem Units.setBud_link (u : Units) (b : Budget) : (u.setBud b).link = u.link := rfl
@[simp] theorem Units.setBud_igtan (u : Units) (b : Budget) : (u.setBud b).igtan = u.igtan := rfl
@[simp] theorem Units.setBud_role (u : Units) (b : Budget) : (u.setBud b).role = u.role := rfl
@[simp] theorem Units.setBud_mantle (u : Units) (b : Budget) : (u.setBud b).mantle = u.mantle := rfl
@[simp] theorem Units.setBud_wick (u : Units) (b : Budget) : (u.setBud b).wick = u.wick := rfl
@[simp] theorem Units.setBud_vig (u : Units) (b : Budget) : (u.setBud b).vig = u.vig := rfl
@[simp] theorem Units.setBud_rcv (u : Units) (b : Budget) : (u.setBud b).rcv = u.rcv := rfl
@[simp] theorem Units.setBud_grid (u : Units) (b : Budget) : (u.setBud b).grid = u.grid := rfl
@[simp] theorem Units.setBud_flick (u : Units) (b : Budget) : (u.setBud b).flick = u.flick := rfl
@[simp] theorem Units.setBud_ember (u : Units) (b : Budget) : (u.setBud b).ember = u.ember := rfl
@[simp] theorem Units.setBud_bcn (u : Units) (b : Budget) : (u.setBud b).bcn = u.bcn := rfl
@[simp] theorem Units.setBud_coll (u : Units) (b : Budget) : (u.setBud b).coll = u.coll := rfl
@[simp] theorem Units.setBud_tal (u : Units) (b : Budget) : (u.setBud b).tal = u.tal := rfl
@[simp] theorem Units.setBud_led (u : Units) (b : Budget) : (u.setBud b).led = u.led := rfl
@[simp] theorem Units.setBud_lamp (u : Units) (b : Budget) : (u.setBud b).lamp = u.lamp := rfl
@[simp] theorem Units.setBud_pwr (u : Units) (b : Budget) : (u.setBud b).pwr = u.pwr := rfl
@[simp] theorem Units.setBud_drains (u : Units) (b : Budget) : (u.setBud b).drains = u.drains := rfl
@[simp] theorem Units.setBud_tags (u : Units) (b : Budget) : (u.setBud b).tags = u.tags := rfl

@[simp] theorem Units.emit_out (u : Units) (o : Out) : (u.emit o).out = u.out ++ [o] := rfl
@[simp] theorem Units.later_todo (u : Units) (t : Todo) : (u.later t).todo = u.todo ++ [t] := rfl
@[simp] theorem Units.setMantle_mantle (u : Units) (x : Mantle) : (u.setMantle x).mantle = x := rfl
@[simp] theorem Units.setBud_bud (u : Units) (b : Budget) : (u.setBud b).bud = b := rfl
@[simp] theorem Units.draw_free (u : Units) : u.draw.free = u.free + 1 := rfl

@[simp] theorem State.put_mem (s : State) (a : Mem × Units) : (s.put a).mem = a.1 := rfl
@[simp] theorem State.put_u (s : State) (a : Mem × Units) : (s.put a).u = a.2 := rfl
@[simp] theorem State.put_pending (s : State) (a : Mem × Units) : (s.put a).pending = s.pending := rfl

@[simp] theorem State.reset_pending : State.reset.pending = [] := rfl
@[simp] theorem State.reset_mem : State.reset.mem = Mem.reset := rfl
@[simp] theorem State.reset_u : State.reset.u = Units.reset := rfl

end Sys2Proof.Machine
end

