-- ==== Sys2Proof/Laws/Run.lean ====
section
/-!
SUPPORT. What the end of a step can do: with nothing waiting it changes nothing.
-/
namespace Sys2Proof.Machine

/-- With nothing waiting, settling changes nothing. -/
theorem settle_idle (n : Nat) (a : Mem × Units) (h : a.2.todo = []) : settle n a = a := by
  cases n with
  | zero => rfl
  | succ n => simp [settle, h]

/-- One effect is taken from the front. -/
theorem settle_cons (n : Nat) (a : Mem × Units) (t : Todo) (r : List Todo) (h : a.2.todo = t :: r) :
    settle (n + 1) a = settle n (settleOne t a.1 { a.2 with todo := r }) := by
  simp [settle, h]

/-- A front buffer within its partition stays as it is. -/
theorem boundStaging_fits (n : Nat) (a : Mem × Units) (h : a.1.fb.length ≤ stagingLines) : boundStaging n a = a := by
  cases n <;> simp [boundStaging, h]

/-- With nothing waiting and the front buffer within its partition, the end of a step changes nothing. -/
theorem carry_idle (a : Mem × Units) (h : a.2.todo = []) (f : a.1.fb.length ≤ stagingLines) : carry a = a := by
  unfold carry
  rw [h]
  exact boundStaging_fits _ a f

/-- Storing what stands there changes nothing. -/
@[simp] theorem State.put_self (s : State) : s.put (s.mem, s.u) = s := rfl

/-- A command whose own effect raises nothing has that effect alone. -/
theorem State.runU_idle (s : State) (f : Units → Units) (h : (f s.u).todo = []) (g : s.mem.fb.length ≤ stagingLines) :
    s.runU f = .next (s.put (s.mem, f s.u)) := by
  simp [State.runU, State.run, carry_idle (s.mem, f s.u) h g]

/-- The same for a command that acts on the Mantle. -/
theorem State.run_idle (s : State) (f : Mem → Units → Mem × Units) (h : (f s.mem s.u).2.todo = [])
    (g : (f s.mem s.u).1.fb.length ≤ stagingLines) : s.run f = .next (s.put (f s.mem s.u)) := by
  simp [State.run, carry_idle (f s.mem s.u) h g]

end Sys2Proof.Machine
end

