-- ==== Sys2Proof/Laws/Taper.lean ====
section
/-!
SUPPORT. What issuing and resuming a taper instruction comes to (09), said once.
-/
namespace Sys2Proof.Machine

/-- Opening a group's gate leaves every taper as it was. -/
@[simp] theorem openStep_taper (u : Units) (k l : Nat) : (u.openStep k).taper l = u.taper l := by
  unfold Units.openStep; split <;> rfl

/-- An instruction that is due runs, and its outcome is taken. -/
theorem issueU_due {s : State} {l n w : Nat} (h : s.issues l n w) (run : Units → Taper → Units × TOut) :
    s.u.issueU l w run = (run (s.open l) (s.u.taper l)).1.outcome l n w (run (s.open l) (s.u.taper l)).2 := by
  obtain ⟨h1, h2, h3, h4, hb, h5⟩ := h
  have h6 : ¬ (0x10000 ≤ (s.u.taper l).pc) := by omega
  simp [Units.issueU, State.open, h1, h2, h3, h5, h6, hb]

/-- The same for an instruction that touches only its taper. -/
theorem issue_due {s : State} {l n w : Nat} (h : s.issues l n w) (run : Taper → TOut) :
    s.u.issue l w run = (s.open l).outcome l n w (run (s.u.taper l)) := issueU_due h _

/-- A waiting instruction that is looked at again. -/
theorem resume_due {s : State} {l n : Nat} {k : TWait} (h : s.waits l n k) (run : Nat → Units → Taper → Units × TOut) :
    s.u.resume l k run =
      (run (s.u.taper l).word (s.open l) (s.u.taper l)).1.outcome l n (s.u.taper l).word (run (s.u.taper l).word (s.open l) (s.u.taper l)).2 := by
  obtain ⟨h1, h2⟩ := h
  simp [Units.resume, State.open, h1, h2]

@[simp] theorem legalR_ok {t : Taper} {f : RFmt} {k : RUse} {go : TOut} (h : t.illegalR f k = none) : t.legalR f k go = go := by
  unfold Taper.legalR; rw [h]

@[simp] theorem legalI_ok {f : IFmt} {d a b : Fld} {go : TOut} (h : illegalI f d a b = none) : legalI f d a b go = go := by
  unfold legalI; rw [h]

@[simp] theorem legalRU_ok {u : Units} {t : Taper} {f : RFmt} {k : RUse} {go : Units × TOut} (h : t.illegalR f k = none) :
    legalRU u t f k go = go := by
  unfold legalRU; rw [h]

theorem legalRU_bad {u : Units} {t : Taper} {f : RFmt} {k : RUse} {go : Units × TOut} {x : Nat} (h : t.illegalR f k = some x) :
    legalRU u t f k go = (u, .illegal x) := by
  unfold legalRU; rw [h]

theorem legalR_bad {t : Taper} {f : RFmt} {k : RUse} {go : TOut} {x : Nat} (h : t.illegalR f k = some x) : t.legalR f k go = .illegal x := by
  unfold Taper.legalR; rw [h]

theorem legalI_bad {f : IFmt} {d a b : Fld} {go : TOut} {x : Nat} (h : illegalI f d a b = some x) : legalI f d a b go = .illegal x := by
  unfold legalI; rw [h]

/-- Arithmetic on general registers stays in the state as 64 bits. -/
theorem setG_eq (t : Taper) (r x : Nat) : t.setG r x = t.setX r (BitVec.ofNat 64 x) := by
  simp [Taper.setG, Taper.setX]

theorem gr_lt (t : Taper) (r : Nat) : t.gr r < 2 ^ 64 := by
  unfold Taper.gr; split
  · decide
  · exact BitVec.isLt _

theorem x_toNat (t : Taper) (r : Nat) : (t.x r).toNat = t.gr r := by
  rw [Taper.x, BitVec.toNat_ofNat, Nat.mod_eq_of_lt (gr_lt t r)]

end Sys2Proof.Machine
end

