-- ==== Sys2Proof/Tests/Slice0.lean ====
section
/-!
SUPPORT. Tests: for each statement with hypotheses a state and operands that meet them (test_wit_…), terms that well-formedness refuses (test_ill_…), and
values that the spec works out. The states are the reset state with a few fields changed.
-/
open Sys2Proof Sys2Proof.Machine

/-- The units at reset. -/
abbrev u0 : Units := State.reset.u

/-- The state at reset with other units. -/
abbrev st (u : Units) : State := { State.reset with u := u }

/-- A command with operator privilege, and one of the vendor root. -/
abbrev op : Sys2Proof.Cmd := { ring := 0, tag := 1, gen := 0, stamp := 0x2000 }
abbrev vr : Sys2Proof.Cmd := { ring := 0, tag := 1, gen := 0, stamp := 0x3000 }

/-- An operator, and a tenant of job 7. -/
abbrev wo : Sys2Proof.Who := { cls := 1, idx := 0, priv := 2, job := 0 }
abbrev wt : Sys2Proof.Who := { cls := 1, idx := 3, priv := 1, job := 7 }

/-- A region of a type over given pages, open to every agent. -/
abbrev reg (typ : Nat) (pages : List Nat) : Region :=
  { typ := typ, hostVisible := false, pooled := false, quiet := false, job := 0, ownerCid := 0, ownerCtx := 0xFF, ownerKind := 4, gen := 0,
    mask := 2 ^ 20 - 1, pages := pages }

set_option Elab.async false

theorem test_wit_wide_registers : (st u0).u.todo = [] ∧
    u0.mayRead wo 0x100040 = true ∧ NMap.find u0.regs.latch 0x100040 = none ∧ u0.reg64 0x100040 = some 0 ∧
    (let u := u0.latchWords 0x100044 [5]
     u.todo = [] ∧ u.mayRead wo 0x100044 = true ∧ NMap.find u.regs.latch 0x100044 = some 5) ∧
    u0.mayRead wo 0x100044 = true ∧ NMap.find u0.regs.latch 0x100044 = none ∧ u0.reg64 0x100044 = none := by
  decide +kernel

theorem test_wit_registers : isOperator wo.priv = true ∧ isOperator wt.priv = false ∧ (¬(0x200000 ≤ 0x10 ∧ 0x10 < 0x210000) ∧ 0x10 ≠ 0xA00040) ∧
    rwRegs ≠ [] ∧
    ((u0.unlatch 0x100040).mayRead wo 0x100040 = true ∧ NMap.find (u0.unlatch 0x100040).regs.latch 0x100040 = none ∧
      (u0.unlatch 0x100040).reg64 0x100040 = some 0) ∧
    (u0.mayRead wo 0x100054 = true ∧ NMap.find u0.regs.latch 0x100054 = none ∧ u0.reg64 0x100054 = none ∧ 0x100054 ≠ 0x100030) ∧
    isWide 0x800020 = true ∧ NMap.find (NMap.set u0.regs.held 0x800020 9) 0x800020 = some 9 ∧ u0.mayRead wt 0x600000 = false := by
  decide +kernel

theorem test_wit_modes_drains_allocations :
    (let u : Units := { u0 with mb := { u0.mb with mode := 2 } }
     isOperator (stampPriv op.stamp) = true ∧ u.mb.mode ≠ 1 ∧ u.mb.mode ≠ 3 ∧ 0 ≠ u.mb.mode ∧
     (let v : Units := { u0 with mb := { u0.mb with mode := 0 } }
      v.mb.mode ≠ 1 ∧ v.mb.mode ≠ 3 ∧ 2 ≠ v.mb.mode ∧ v.wick.jobs = [] ∧ v.vig.watch = [])) ∧
    (let u : Units := { u0 with drains := [{ unit := 0x09, items := 0, enableHeld := false }] }
     (u.drains.any fun x => x.unit = 0x09) = true ∧ u.drainLeft 0x09 = 0) ∧
    (let u : Units := { u0 with mantle := { u0.mantle with ready := true } }
     (u.allocRegion { typ := 8, hostVisible := false, pooled := false, quiet := false, job := 0, ownerCid := 0, ownerCtx := 0xFF, ownerKind := 4,
                        gen := 0, mask := 0, pages := [] } 1).2.isSome = true) := by
  decide +kernel

theorem test_wit_rings :
    (let u := u0.setDesc 4 { u0.desc 4 with enable := true, hostSide := true, sizeCode := 0, countLog2 := 3 }
     let d := u.desc 4
     mayRing wo d = true ∧ d.kind = 0 ∧ d.enable = true ∧ ¬(wo.cls = 1 ∧ d.hostSide = false) ∧ wrapW 32 (1 + 2 ^ 32 - d.prod) < 2 ^ 31 ∧
       d.fill + wrapW 32 (1 + 2 ^ 32 - d.prod) ≤ d.size ∧ d.size < d.fill + wrapW 32 (9 + 2 ^ 32 - d.prod) ∧
       wrapW 32 (9 + 2 ^ 32 - d.prod) < 2 ^ 31 ∧ mayRing wt d = false) ∧
    (let u := u0.setDesc 5 { u0.desc 5 with kind := 1, hostSide := true }
     let d := u.desc 5
     mayRing wo d = true ∧ d.kind = 1 ∧ ¬(wo.cls = 1 ∧ d.hostSide = false) ∧ wrapW 32 (0 + 2 ^ 32 - d.cons) ≤ d.fill) ∧
    (let u := { u0.setDesc 6 { u0.desc 6 with kind := 3, countLog2 := 4 } with
                mantle := { u0.mantle with regions := NMap.set [] 3 (reg 7 [1]) } }
     let d := u.desc 6
     d.enable = false ∧ d.draining = false ∧ d.kind = 3 ∧ d.sizeCode ≤ 8 ∧ 1 ≤ d.countLog2 ∧ d.countLog2 ≤ 16 ∧
       fitBody u.ringSpace d.bytes u.ringBodies = some 0) ∧
    (let u := u0.setDesc 7 { u0.desc 7 with kind := 1, draining := true }
     let d := u.desc 7
     d.draining = true ∧ d.q = [] ∧ (u.ring.heldC.filter fun h => h.2.1 = 7) = [] ∧ (u.drains.any fun x => x.unit = 0x10000 + 7 && x.enableHeld) = false) ∧
    (u0.ring.running.filter fun r => r.ring = op.ring).takeWhile (fun r => r.tag ≠ op.tag) = [] := by
  decide +kernel

theorem test_wit_mailboxes :
    u0.mbAllowed wo 0 = true ∧ (u0.ch 0).outFull = false ∧
    (let u := u0.setCh 0 { u0.ch 0 with outFull := true, retFull := false }
     (u.ch 0).outFull = true ∧ (u.ch 0).retFull = false) ∧ bitAt 1 0 = true ∧ u0.mbAllowed wt 3 = false ∧
    (let u := u0.setCh 3 { u0.ch 3 with bind := 1 + 1 * 2 ^ 12 + 3 * 2 ^ 16 + 1 * 2 ^ 28, outFull := true }
     u.mbAllowed wt 3 = true ∧ (u.ch 3).outFull = true) := by
  decide +kernel

theorem test_wit_budget :
    stagingValid u0.bud.sGuar u0.bud.sCap = true ∧ stagingValid (NMap.set u0.bud.sGuar 8 2000) u0.bud.sCap = false ∧
    (150 ≤ bits 200 8 0 ∧ bits 200 8 0 ≤ 280 ∧ u0.bud.capW ≤ u0.bud.ceilW) ∧
    (capOf u0.bud.cap 5 (resOf 0) ≠ 0) ∧
    (let u := u0.setBud { u0.bud with got := [(128 * 5 + 0, 10)], pend := some (u0.bud.sGuar, u0.bud.sCap) }
     let own := u.bud.gotOf 5 0 - u.bud.spentOf 5 0
     let more := min (NMap.getD u.bud.spare 0 0) (u.bud.most 5 0 - u.bud.spentOf 5 0 - own)
     u.bud.pend = some (u0.bud.sGuar, u0.bud.sCap) ∧ own + more = 10 ∧ own + more < 11) ∧
    (u0.throttleC : Int) ≤ 120 ∧ (0 : Int) < (u0.throttleC : Int) - 2 := by
  decide +kernel

theorem test_wit_power :
    u0.pwr.queue.length < 64 ∧ bitAt u0.pwr.posEn 3 = false ∧ u0.mayPowerOff 3 = true ∧
    (let u := u0.upP fun p => { p with cycles := [(3, op)], posEn := 8, overtemp := true, fail := true }
     (u.pwr.cycles.find? fun y => y.1 = 3) = some (3, op) ∧ bitAt u.pwr.posEn 3 = true ∧ bitAt u.pwr.posPg 3 = false ∧ u.pwr.overtemp = true ∧ u.pwr.fail = true) ∧
    u0.pwr.overtemp = false ∧ u0.pwr.fail = false := by
  decide +kernel

theorem test_wit_start :
    bits (0 % 64) 1 0 = 0 ∧ bits (3 % 64) 1 0 ≠ 0 ∧
    (let u := (u0.upP fun p => { p with coreEn := true, corePg := false, tries := 1 }).upLamp fun l => { l with state := 4 }
     u.pwr.coreEn = true ∧ u.pwr.corePg = false ∧ u.lamp.state = 4) ∧
    (let u := u0.upP fun p => { p with tries := 1, corePg := true }
     u.pwr.tries = 1 ∧ u.pwr.coreEn = false ∧ bitAt u.pwr.straps 5 = false ∧ u.pwr.thermtrip = false ∧ u.pwr.corePg = true) ∧ (94 : Int) < 95 := by
  decide +kernel

theorem test_wit_grid :
    (bits 0 15 0 = 0 ∧ 500 ≤ bits 500 15 0 ∧ bits 1500 15 0 ≤ 1500) ∧
    (let u := u0.upG fun g => { g with partEn := 1 }
     bitAt u.grid.partEn 0 = true ∧ bitAt u.grid.partEn 1 = false ∧ bitAt u.grid.draining 1 = false) ∧
    stampPriv op.stamp < 4 ∧
    (let u := u0.upSlot 2 fun s => { s with state := 1 }
     (u.slot 2).state = 1 ∧ (u.placeOf (u.slot 2)).1 = St.OK) ∧
    (let u := (((((u0.upSlot 2 fun s => { s with state := 2 }).upSlot 3 fun s => { s with state := 3, place := [5] }).upSlot 4 fun s => { s with state := 4 }).upSlot
        5 fun s => { s with state := 5 }).upSlot 7 fun s => { s with state := 7 })
     (u.slot 2).state = 2 ∧ (u.slot 2).running = none ∧ (u.slot 2).waiting = [] ∧ (u.slot 3).state = 3 ∧ (u.slot 3).running = none ∧ (u.slot 3).waiting = [] ∧
       (u.slot 3).place = [5] ∧ (u.taper 5).wait ≠ some .pop ∧ (u.slot 4).state = 4 ∧ (u.slot 4).unloadNext = false ∧
       (u.slot 5).state = 5 ∧ (u.slot 5).running = none ∧ (u.slot 7).state = 7) := by
  decide +kernel

theorem test_wit_grid_messages :
    (u0.lt 9).column.isSome = true ∧ (u0.lt 9).diagCmd = none ∧
    (let u := u0.upLt 9 fun t => { t with diag := true, diagCmd := some op }
     (u.lt 9).diag = true ∧ (u.lt 9).diagCmd = some op) ∧
    (let x : NetMsg := { src := 8, dst := 9, vc := 0, slot := 3, gen := 0, bytes := [1, 2, 3] }
     let u := (((u0.upG fun g => { g with net := [x] }).upLt 9 fun t => { t with slot := some 3 }).upSlot 3 fun s => { s with state := 3 })
     (u.grid.net.find? fun y => y.src = 8 && y.dst = 9 && y.vc = 0) = some x ∧ (u.slot 3).gen = x.gen ∧ (u.lt 9).slot = some x.slot ∧ (u.slot 3).state = 3 ∧
       ((u.taper 9).queue 0).used < 32 ∧ (u.slot 3).gen ≠ ({ x with gen := 1 } : NetMsg).gen) ∧
    (u0.lt 9).slot = none ∧ 0x5FFF8 + 8 ≤ 0x60000 := by
  decide +kernel

/-- The units with port `p` in a state of Table 4-7, and room on every channel. -/
abbrev up (p state : Nat) : Units :=
  u0.setPort p { u0.port p with state := state, lanes := 8, map := 255, rxInit := [8, 8, 8], rxCount := [0, 0, 0], rxFreed := [0, 0, 0] }

theorem test_wit_link_controls :
    u0.lamp.state ≠ 4 ∧ (u0.port 2).draining = false ∧ bitAt (u0.linkCtl 2) 0 = false ∧ (u0.port 2).state = 0 ∧
    (let u := (up 2 4).setCfg (portBase 2) 0x1FF01
     bitAt (u.linkCtl 2) 0 = true ∧ (u.port 2).state = 4 ∧
     (let v := u.setPort 2 { u.port 2 with isolated := 1, retest := true, draining := true }
      (v.port 2).isolated ≠ 0 ∧ (v.port 2).retest = true ∧ (v.port 2).state = 4 ∧ andNot (v.port 2).isolated 0 ≠ 0 ∧ (v.port 2).draining = true ∧
        (v.drains.any fun x => x.unit = 0x100 + 2 && x.enableHeld) = false)) ∧
    ((up 2 7).port 2).state = 7 ∧ ((up 2 1).port 2).state = 1 ∧ ((up 2 1).port 2).restarts < 3 ∧
    (let u := (up 2 2).setPort 2 { (up 2 2).port 2 with restarts := 3 }
     (u.port 2).state = 2 ∧ 3 ≤ (u.port 2).restarts ∧
     (pickLanes (u.laneAllow 2) ((u.port 2).isolated ||| andNot (u.laneAllow 2) 255)) = some 255 ∧ u.minLanes 2 ≤ laneCount 255) ∧
    ((up 2 3).port 2).state = 3 ∧ ((up 2 5).port 2).state = 5 ∧
    (((up 2 6).port 2).state = 6 ∧ ((up 2 6).port 2).newMap = none ∧ ((up 2 6).port 2).replay.length ≤ ackedBy ((up 2 6).port 2).replay 0) ∧
    (let u := (up 2 1).setPort 2 { (up 2 1).port 2 with fullRun := true }
     (u.port 2).fullRun = true) := by
  decide +kernel

/-- A frame header in sequence. -/
abbrev fr : FrameHdr := { vc := 0, creditVc := 3, seq := 0, ack := 0, credit := 0, first := 255 }

theorem test_wit_link_frames :
    (let u := up 2 4
     let u1 := (u.setPort 2 ((u.port 2).rxHead fr)).pump 2
     let u2 := (u1.setPort 2 { u1.port 2 with rxSeq := wrapW 14 ((u1.port 2).rxSeq + 1), rxGap := false }).count (portBase 2 + 0x108)
     (u.port 2).flows = true ∧ fr.seq = (u1.port 2).rxSeq ∧ fr.vc ≤ 2 ∧
       wrapW 16 (vcGet (u2.port 2).rxCount fr.vc + 2 ^ 16 - vcGet (u2.port 2).rxFreed fr.vc) < vcGet (u2.port 2).rxInit fr.vc ∧
       (u.port 2).state = 4 ∧ (u.port 2).newMap = none) ∧
    (let u := u0.setPort 2 { (up 2 4).port 2 with rxInit := [0, 0, 0] }
     let u1 := (u.setPort 2 ((u.port 2).rxHead fr)).pump 2
     let u2 := (u1.setPort 2 { u1.port 2 with rxSeq := wrapW 14 ((u1.port 2).rxSeq + 1), rxGap := false }).count (portBase 2 + 0x108)
     (u.port 2).flows = true ∧ fr.seq = (u1.port 2).rxSeq ∧
       vcGet (u2.port 2).rxInit fr.vc ≤ wrapW 16 (vcGet (u2.port 2).rxCount fr.vc + 2 ^ 16 - vcGet (u2.port 2).rxFreed fr.vc)) ∧
    (let b := [1, 1, 0, 255, 8, 8, 8]
     let u := (up 2 3).setPort 2 { (up 2 3).port 2 with param := some b }
     (u.port 2).state = 3 ∧ (u.port 2).param = some b ∧ b.getD 0 0 ≠ 0 ∧ b.getD 1 0 = 1 ∧ (u.port 2).fullRun = false ∧
       pickLanes (u.laneAllow 2 &&& b.getD 3 0xFF) (u.port 2).isolated = some 255 ∧ u.minLanes 2 ≤ laneCount 255) ∧
    (let u := (up 2 4).setPort 2 { (up 2 4).port 2 with rxGap := true, replay := [{ seq := 5, typ := 0, vc := 0 }] }
     (u.port 2).flows = true ∧ (u.port 2).rxGap = true ∧ (u.port 2).replay.head?.isSome = true) ∧
    (let u := (up 17 4).upR fun r => { r with topo := [(9, 1)] }
     lanternReserved 0x30 = false ∧ u.lanternDrops { port := 0, src := 5, hop := 16, flags := 0, srcGen := 0, seq := 0 } = false ∧ (u.hop 9).isSome = true) := by
  decide +kernel

/-- The units with the Mantle ready and one general region over page 1. -/
abbrev um : Units := { u0 with mantle := { u0.mantle with ready := true, regions := [(3, { reg 8 [1] with hostVisible := true })],
                                                            pages := [(1, { Page.reset with region := 3, state := 1 })] } }

theorem test_wit_mantle :
    (um.mantle.page (pageBytes / pageBytes)).state ≠ 2 ∧ um.mayAccess 4 pageBytes 64 false = true ∧ um.poisoned pageBytes 64 = false ∧
    um.mantle.stackFailed = false ∧ um.mayAccess 4 pageBytes 1 true = true ∧ (um.regionAt pageBytes).isSome = true ∧
    (um.tagFor { reg 8 [1] with hostVisible := true } 0xFFFF = none ∨ um.tagFor { reg 8 [1] with hostVisible := true } 0xFFFF = some 0) ∧
    um.tagFor { reg 8 [1] with ownerKind := 2, gen := 1 } 0xFFFF ≠ some 7 ∧
    um.mayAccess Ag.pcie pageBytes 8 false = true ∧ um.mayAccess Ag.pcie pageBytes 8 true = true ∧ um.mayAccess Ag.pcie 0 8 false = false ∧
    um.mayAccess 4 0 1 true = false ∧ (um.mantle.page (0 / pageBytes)).state ≠ 2 ∧ um.mayAccess Ag.pcie 0 1 true = false := by
  decide +kernel

theorem test_wit_mantle_pages :
    (um.allocRegion (reg 8 []) 1).2.isSome = true ∧ (um.allocRegion (reg 8 []) (2 ^ 60)).2 = none ∧
    (let u : Units := { um with mantle := um.mantle.setPage 1 { Page.reset with state := 2 } }
     (u.mantle.page 1).state = 2) ∧
    (let u : Units := { um with mantle := um.mantle.setPage 1 { Page.reset with state := 0, zeroed := false } }
     (u.mantle.page 1).state = 0 ∧ (u.mantle.page 1).zeroed = false) ∧
    (NMap.find um.mantle.regions 3).isSome = true ∧ um.mantle.stackFailed = false ∧ bitAt 1 0 = true ∧ Mem.reset.wf = true := by
  decide +kernel

/-- A sconce header of context 2 at port 1, of the generations at reset. -/
abbrev sh : SHdr := { port := 1, ctx := 2, flags := 0, ctxGen := 0, accGen := 0, seq := 0, job := 7 }

/-- The units with the block at port 1 active. -/
abbrev ua : Units := (up 1 4).upIg 1 fun g => { g with active := true, proto := 1, gos := [{ ctx := 2, step := 5, seq := 1, resends := 0 }] }

theorem test_wit_igtan :
    (ua.ig sh.port).active = true ∧ sh.accGen = ua.accGen sh.port ∧ sh.ctx ≠ 0xFF ∧ sh.ctxGen = ua.ctxGen sh.port sh.ctx ∧ ua.fenced sh.port = false ∧
    ((ua.ig sh.port).gos.find? fun x => x.ctx = sh.ctx).isSome = true ∧
    ((ua.upIg 1 fun g => { g with gos := [{ ctx := 2, step := 5, seq := 1, resends := 3 }] }).ig 1).gos.find? (fun x => x.ctx = 2) = some { ctx := 2, step := 5, seq := 1, resends := 3 } ∧
    ({ sh with accGen := 1 } : SHdr).accGen ≠ ua.accGen 1 ∧ (u0.ig 1).active = false ∧ bitAt u0.vig.lost 1 = false ∧ ((up 1 4).port 1).state = 4 ∧
    (((up 1 4).upIg 1 fun g => { g with cmd := [(0, 1, 0x2000, 0)] }).port 1).state = 4 ∧
    (let u : Units := { ua with vig := { ua.vig with fenced := 2 } }
     u.fenced 1 = true) ∧
    (let u : Units := { up 1 4 with mantle := um.mantle }
     u.mayAccess Ag.sconce pageBytes 4 true = true ∧ u.mayAccess Ag.sconce pageBytes 4 false = true ∧ ownOffset 0x200 = false ∧ u.fenced 1 = false) := by
  decide +kernel

/-- The units with taper 5 of the running program slot 3 at the instruction `w`. -/
abbrev ut (w : Nat) (g : Taper → Taper := id) : Units :=
  ((u0.upLt 5 fun t => { t with slot := some 3 }).upSlot 3 fun s => { s with state := 3 }).setTaper 5
    (g (Taper.start 0 2 (Memory.writeAll [] 0 (leBytes 8 w))))

/-- A Format I and a Format R instruction. -/
abbrev fi (d a b imm : Nat) : IFmt := { d := d, a := a, b := b, rsv := 0, imm := imm }
abbrev frr (d a b c fmt : Nat) (fmt2 : Nat := 0) (rm : Nat := 0) : RFmt :=
  { d := d, a := a, b := b, c := c, rm := rm, pe := false, p := 0, pn := false, fmt := fmt, satm := 0, fmt2 := fmt2, site := 0, rsv := 0 }

theorem test_wit_scalar :
    (∃ con op fn, ScalarOp con op fn ∧ (st (ut (encR 1 op (frr 1 2 3 0 0)))).issues 5 3 (encR 1 op (frr 1 2 3 0 0))) ∧
    (∃ con op fn, DivisionOp con op fn ∧ (st (ut (encR 1 op (frr 1 2 3 0 0)))).issues 5 3 (encR 1 op (frr 1 2 3 0 0))) ∧
    ((st (ut 0)).u.taper 5).illegalR (frr 1 2 3 0 0) { d := .any, a := .any, b := .any } = none ∧
    (∃ con op fn, ImmediateOp con op fn ∧ (st (ut (encI 1 op (fi 1 2 0 5)))).issues 5 3 (encI 1 op (fi 1 2 0 5))) ∧
    illegalI (fi 1 2 0 5) .any .any .none = none ∧ illegalI (fi 1 0 0 5) .any .none .none = none ∧
    (st (ut (encI 1 0x27 (fi 1 0 0 5)))).issues 5 3 (encI 1 0x27 (fi 1 0 0 5)) := by
  refine ⟨⟨_, _, _, .add', ?_⟩, ⟨_, _, _, .divs, ?_⟩, ?_, ⟨_, _, _, .addi, ?_⟩, ?_, ?_, ?_⟩ <;> (try delta State.issues) <;> decide +kernel

theorem test_wit_loads :
    (∃ con op k sg, LoadOp con op k sg ∧ (st (ut (encI 3 op (fi 1 0 0 0x10000)))).issues 5 3 (encI 3 op (fi 1 0 0 0x10000)) ∧
      (ut 0 |>.taper 5).addr (fi 1 0 0 0x10000) % k = 0 ∧ loadArea ((ut 0).taper 5 |>.addr (fi 1 0 0 0x10000)) k = true) ∧
    illegalI (fi 1 0 0 0x10000) .any .any .none = none ∧ illegalI (fi 0 0 2 0x10000) .none .any .any = none ∧
    illegalI (fi 0 0 2 0x10000) .none .any (.file 8) = none ∧ illegalI (fi 1 0 0 0x10000) (.file 8) .any .none = none ∧
    (∃ con op k, StoreOp con op k ∧ (st (ut (encI 3 op (fi 0 0 2 0x10000)))).issues 5 3 (encI 3 op (fi 0 0 2 0x10000)) ∧
      (ut 0 |>.taper 5).addr (fi 0 0 2 0x10000) % k = 0 ∧ storeArea ((ut 0).taper 5 |>.addr (fi 0 0 2 0x10000)) k = true) ∧
    (ut 0 |>.taper 5).addr (fi 1 0 0 0x10000) % 64 = 0 ∧ loadArea ((ut 0).taper 5 |>.addr (fi 1 0 0 0x10000)) 64 = true ∧
    storeArea ((ut 0).taper 5 |>.addr (fi 1 0 0 0x10000)) 64 = true ∧
    (∀ k ∈ [0, 2, 4], (st (ut (encI 5 k (fi 1 0 0 0x10000)))).issues 5 3 (encI 5 k (fi 1 0 0 0x10000))) ∧
    (∀ k ∈ [1, 3, 5], (st (ut (encI 5 k (fi 0 0 2 0x10000)))).issues 5 3 (encI 5 k (fi 0 0 2 0x10000))) := by
  refine ⟨⟨_, _, _, _, .ld8u, ?_⟩, ?_, ?_, ?_, ?_, ⟨_, _, _, .st8, ?_⟩, ?_, ?_, ?_, ?_, ?_⟩ <;> (try delta State.issues) <;> decide +kernel

theorem test_wit_misplaced :
    (∃ con op k sg, LoadOp con op k sg ∧ (st (ut (encI 3 op (fi 1 0 0 0x10001)))).issues 5 3 (encI 3 op (fi 1 0 0 0x10001)) ∧
      (ut 0 |>.taper 5).addr (fi 1 0 0 0x10001) % k ≠ 0 ∧ (ut 0 |>.taper 5).addr (fi 1 0 0 0x60000) % k = 0 ∧
      loadArea ((ut 0).taper 5 |>.addr (fi 1 0 0 0x60000)) k = false) ∧
    (∃ con op k, StoreOp con op k ∧ (st (ut (encI 3 op (fi 0 0 2 0)))).issues 5 3 (encI 3 op (fi 0 0 2 0)) ∧
      (ut 0 |>.taper 5).addr (fi 0 0 2 1) % k ≠ 0 ∧ (ut 0 |>.taper 5).addr (fi 0 0 2 0) % k = 0 ∧
      storeArea ((ut 0).taper 5 |>.addr (fi 0 0 2 0)) k = false) := by
  refine ⟨⟨_, _, _, _, .ld64, ?_⟩, ⟨_, _, _, .st64, ?_⟩⟩ <;> (try delta State.issues) <;> decide +kernel

theorem test_wit_branches :
    (∃ con op fn, BranchOp con op fn ∧ (st (ut (encI 3 op (fi 0 1 2 16)))).issues 5 3 (encI 3 op (fi 0 1 2 16)) ∧ fn 0 0 = true ∧ fn 0 1 = false) ∧
    illegalI (fi 0 1 2 16) .none .any .any = none ∧ (ut 0 |>.taper 5).rel (fi 0 1 2 16) % 8 = 0 ∧ (ut 0 |>.taper 5).rel (fi 0 1 2 16) < 0x10000 ∧
    (ut 0 |>.taper 5).rel (fi 0 1 2 3) % 8 ≠ 0 ∧ 0x10000 ≤ (ut 0 |>.taper 5).rel (fi 0 1 2 0x10000) ∧ (ut 0 |>.taper 5).x 1 = (ut 0 |>.taper 5).x 2 ∧
    illegalI (fi 0 1 0 16) .none (.file 8) .none = none ∧ (ut 0 |>.taper 5).pr 1 = 0 ∧ ((ut 0 fun t => t.setP 1 5).taper 5).pr 1 ≠ 0 ∧
    illegalI (fi 1 0 0 16) .any .none .none = none ∧ illegalI (fi 1 2 0 16) .any .any .none = none ∧
    (ut 0 |>.taper 5).addr (fi 1 2 0 16) % 8 = 0 ∧ (ut 0 |>.taper 5).addr (fi 1 2 0 16) < 0x10000 ∧ (ut 0 |>.taper 5).addr (fi 1 2 0 4) % 8 ≠ 0 ∧
    (∀ k ∈ [0x16, 0x17, 0x18, 0x19], (st (ut (encI 3 k (fi 1 2 0 16)))).issues 5 3 (encI 3 k (fi 1 2 0 16))) := by
  refine ⟨⟨_, _, _, .beq, ?_⟩, ?_, ?_, ?_, ?_, ?_, ?_, ?_, ?_, ?_, ?_, ?_, ?_, ?_, ?_, ?_⟩ <;> (try delta State.issues) <;> decide +kernel

theorem test_wit_system :
    (∀ k ∈ [0, 3, 4], (st (ut (encI 0 k (fi 0 0 0 0)))).issues 5 3 (encI 0 k (fi 0 0 0 0))) ∧ illegalI (fi 0 0 0 0) .none .none .none = none ∧
    (st (ut (encI 0 1 (fi 1 0 0 0x20)))).issues 5 3 (encI 0 1 (fi 1 0 0 0x20)) ∧ illegalI (fi 1 0 0 0x20) .any .none .none = none ∧
    (st (ut (encI 0 2 (fi 0 1 0 0x23)))).issues 5 3 (encI 0 2 (fi 0 1 0 0x23)) ∧ illegalI (fi 0 1 0 0x23) .none .any .none = none ∧
    (ut 0 |>.taper 5).fpBusy = false ∧ ((ut 0 |>.taper 5).readSr 0x20).isSome = true ∧ ((ut 0 |>.taper 5).writeSr 0x23 0).isSome = true ∧
    (ut 0 |>.taper 5).readSr 0x999 = none ∧ (ut 0 |>.taper 5).writeSr 0x40 0 = none ∧ (ut 0 |>.taper 5).armed = true ∧
    (st (ut (encI 0 3 (fi 0 0 0 0)) fun t => { t with armed := false })).issues 5 3 (encI 0 3 (fi 0 0 0 0)) ∧
    (∃ con op k fn, ScalarFloatOp con op k true fn ∧
      (st (ut (encR 2 op (frr 1 2 0 0 1)) fun t => { t with refMode := true })).issues 5 3 (encR 2 op (frr 1 2 0 0 1)) ∧
      (ut 0 |>.taper 5).illegalR (frr 1 2 0 0 1) k = none) ∧
    (∃ con op k fn, VectorFloatOp con op k true fn ∧
      (st (ut (encR 4 op (frr 1 2 0 0 1)) fun t => { t with refMode := true })).issues 5 3 (encR 4 op (frr 1 2 0 0 1)) ∧
      (ut 0 |>.taper 5).illegalR (frr 1 2 0 0 1) { k (frr 1 2 0 0 1) with pe := true } = none) ∧
    (((ut 0 fun t => { t with refMode := true }).taper 5).refMode = true) ∧
    (∃ t', (ut 0 |>.taper 5).writeSr 0 0x10000 = some t' ∧ t'.refMode = true) := by
  refine ⟨?_, ?_, ?_, ?_, ?_, ?_, ?_, ?_, ?_, ?_, ?_, ?_, ?_, ⟨_, _, _, _, .rcp_est, ?_⟩, ⟨_, _, _, _, .vrcp_est, ?_⟩, ?_, ⟨_, rfl, ?_⟩⟩ <;>
    (try delta State.issues) <;> decide +kernel

theorem test_wit_illegal_format :
    (∃ con op fn, ScalarOp con op fn ∧ (st (ut (encR 1 op { frr 1 2 3 0 0 with rsv := 1 }))).issues 5 3 (encR 1 op { frr 1 2 3 0 0 with rsv := 1 })) ∧
    (ut 0 |>.taper 5).illegalR { frr 1 2 3 0 0 with rsv := 1 } { d := .any, a := .any, b := .any } = some 0 ∧
    (∃ con op k no fn, ScalarFloatOp con op k no fn ∧ (st (ut (encR 2 op (frr 1 2 3 0 0)))).issues 5 3 (encR 2 op (frr 1 2 3 0 0)) ∧
      (ut 0 |>.taper 5).illegalR (frr 1 2 3 0 0) k = some 1) ∧
    (∃ con op k no fn, VectorFloatOp con op k no fn ∧ (st (ut (encR 4 op (frr 1 2 3 0 1 0 7)))).issues 5 3 (encR 4 op (frr 1 2 3 0 1 0 7)) ∧
      (ut 0 |>.taper 5).illegalR (frr 1 2 3 0 1 0 7) { k (frr 1 2 3 0 1 0 7) with pe := true } = some 3) ∧
    (∃ con op fn, VectorIntOp con op fn ∧ (st (ut (encR 4 op (frr 1 2 3 0 1)))).issues 5 3 (encR 4 op (frr 1 2 3 0 1))) ∧
    (∃ con op fn, PredicateOp con op fn ∧ (st (ut (encR 4 op (frr 8 2 3 0 0)))).issues 5 3 (encR 4 op (frr 8 2 3 0 0))) ∧
    (ut 0 |>.taper 5).illegalR (frr 8 2 3 0 0) { d := .file 8, a := .file 8, b := .file 8 } = some 2 ∧
    (∃ con op fn, FieldOp con op fn ∧ (st (ut (encR 10 op (frr 1 2 3 0 5)))).issues 5 3 (encR 10 op (frr 1 2 3 0 5))) := by
  refine ⟨⟨_, _, _, .add', ?_⟩, ?_, ⟨_, _, _, _, _, .fadd, ?_⟩, ⟨_, _, _, _, _, .vfadd, ?_⟩, ⟨_, _, _, .vadd, ?_⟩, ⟨_, _, _, .pand, ?_⟩, ?_, ⟨_, _, _, .fing_addm, ?_⟩⟩ <;>
    (try delta State.issues) <;> decide +kernel

theorem test_wit_floats :
    (∃ con op k no fn, ScalarFloatOp con op k no fn ∧ (st (ut (encR 2 op (frr 1 2 3 0 6)))).issues 5 3 (encR 2 op (frr 1 2 3 0 6)) ∧
      (ut 0 |>.taper 5).illegalR (frr 1 2 3 0 6) k = none) ∧
    (st (ut (encR 2 0xE (frr 1 2 0 0 1 6)))).issues 5 3 (encR 2 0xE (frr 1 2 0 0 1 6)) ∧
    (ut 0 |>.taper 5).illegalR (frr 1 2 0 0 1 6) { d := .any, a := .any, c := .none, rm := 2, fmts := sF, fmt2s := sF } = none ∧
    (st (ut (encR 2 0xF (frr 1 2 0 0 1 0x16)))).issues 5 3 (encR 2 0xF (frr 1 2 0 0 1 0x16)) ∧
    (ut 0 |>.taper 5).illegalR (frr 1 2 0 0 1 0x16) { d := .any, a := .any, rm := 1, fmts := sF, fmt2s := iF } = none ∧
    (∃ con op k no fn, VectorFloatOp con op k no fn ∧ (st (ut (encR 4 op (frr 1 2 3 0 2)))).issues 5 3 (encR 4 op (frr 1 2 3 0 2)) ∧
      (ut 0 |>.taper 5).illegalR (frr 1 2 3 0 2) { k (frr 1 2 3 0 2) with pe := true } = none) ∧
    (ut 0 |>.taper 5).refMode = false := by
  refine ⟨⟨_, _, _, _, _, .fadd, ?_⟩, ?_, ?_, ?_, ?_, ⟨_, _, _, _, _, .vfadd, ?_⟩, ?_⟩ <;> (try delta State.issues) <;> decide +kernel

theorem test_wit_vector_conversions :
    (st (ut (encR 4 0xD (frr 1 2 3 5 1)))).issues 5 3 (encR 4 0xD (frr 1 2 3 5 1)) ∧
    (ut 0 |>.taper 5).illegalR (frr 1 2 3 5 1) { d := .file 8, a := .any, b := .any, c := .imm 6, fmts := [1, 2, 3, 4, 5], pe := true } = none ∧
    (∀ f ∈ [frr 1 2 1 0 1 2, frr 1 2 1 0 2 1, frr 1 2 0 0 2 3],
      (st (ut (encR 4 0xE f))).issues 5 3 (encR 4 0xE f) ∧
      (let ls := 512 / max (fmtBits f.fmt) 1
       let ld := 512 / max (fmtBits f.fmt2) 1
       (ut 0 |>.taper 5).illegalR f { d := .any, a := .any, b := .imm (max ls ld / max (min ls ld) 1 - 1),
                                      c := if (ut 0 |>.taper 5).sr f 2 then .any else .none, rm := 2, pe := true,
                                      fmts := [1, 2, 3, 4, 5], fmt2s := [1, 2, 3, 4, 5],
                                      satm := f.fmt2 = 4 || f.fmt2 = 5 } = none)) ∧
    (st (ut (encR 4 0x15 (frr 1 2 3 4 1)))).issues 5 3 (encR 4 0x15 (frr 1 2 3 4 1)) ∧
    (ut 0 |>.taper 5).illegalR (frr 1 2 3 4 1) { d := .any, a := .pair false, b := .imm 3, c := .any, rm := 2, pe := true, fmts := [1, 2] } = none ∧
    (∀ k ∈ [1, 2], (st (ut (encR 4 0x16 (frr 2 4 3 4 7 k)))).issues 5 3 (encR 4 0x16 (frr 2 4 3 4 7 k)) ∧
      (ut 0 |>.taper 5).illegalR (frr 2 4 3 4 7 k) { d := if k = 1 then .pair false else .any, a := .any, b := .imm 3, c := .any, rm := 1, pe := true, fmts := [7], fmt2s := [1, 2] } = none) := by
  delta State.issues; decide +kernel

/-- A predicated form. -/
abbrev fp (f : RFmt) : RFmt := { f with pe := true, p := 1 }

theorem test_wit_vector_integers :
    (∃ con op fn, VectorIntOp con op fn ∧ (st (ut (encR 4 op (frr 1 2 3 0 0x10)))).issues 5 3 (encR 4 op (frr 1 2 3 0 0x10))) ∧
    (ut 0 |>.taper 5).illegalR (frr 1 2 3 0 0x10) { d := .any, a := .any, b := .any, fmts := iF, pe := true } = none ∧
    (st (ut (encR 4 0x2C (frr 1 2 3 5 0x17)))).issues 5 3 (encR 4 0x2C (frr 1 2 3 5 0x17)) ∧
    (ut 0 |>.taper 5).illegalR (frr 1 2 3 5 0x17) { d := .file 8, a := .any, b := .any, c := .imm 5, fmts := iF, pe := true } = none ∧
    (st (ut (encR 4 0x2D (fp (frr 1 2 3 0 0x10))))).issues 5 3 (encR 4 0x2D (fp (frr 1 2 3 0 0x10))) ∧
    (ut 0 |>.taper 5).illegalR (fp (frr 1 2 3 0 0x10)) { d := .any, a := .any, b := .any, fmts := iF, pe := true } = none ∧
    (st (ut (encR 4 0x34 (frr 1 2 3 0 0x10)))).issues 5 3 (encR 4 0x34 (frr 1 2 3 0 0x10)) := by
  refine ⟨⟨_, _, _, .vadd, ?_⟩, ?_⟩ <;> (try delta State.issues) <;> decide +kernel

theorem test_wit_vector_moves :
    (∀ k ∈ [0x30, 0x33], (st (ut (encR 4 k (frr 1 2 0 0 1)))).issues 5 3 (encR 4 k (frr 1 2 0 0 1))) ∧
    (ut 0 |>.taper 5).illegalR (frr 1 2 0 0 1) { d := .any, a := .any, fmts := wF, pe := wPe (frr 1 2 0 0 1) } = none ∧
    (∀ k ∈ [0x31, 0x32], (st (ut (encR 4 k (frr 1 2 3 0 1)))).issues 5 3 (encR 4 k (frr 1 2 3 0 1))) ∧
    (ut 0 |>.taper 5).illegalR (frr 1 2 3 0 1) { d := .any, a := .any, b := .any, fmts := wF } = none ∧
    (ut 0 |>.taper 5).gr 3 < 512 / 32 ∧ (ut 0 |>.taper 5).active (frr 1 2 3 0 1) 0 = true ∧ (ut 0 |>.taper 5).active (fp (frr 1 2 3 0 1)) 0 = false ∧
    512 / 32 ≤ ((ut 0 fun t => t.setG 3 16).taper 5).gr 3 ∧
    (st (ut (encR 4 0x35 (frr 1 2 0 0 0)))).issues 5 3 (encR 4 0x35 (frr 1 2 0 0 0)) ∧
    (ut 0 |>.taper 5).illegalR (frr 1 2 0 0 0) { d := .any, a := .any } = none ∧
    (∃ con op fn, PredicateOp con op fn ∧ (st (ut (encR 4 op (frr 1 2 3 0 0)))).issues 5 3 (encR 4 op (frr 1 2 3 0 0))) ∧
    (ut 0 |>.taper 5).illegalR (frr 1 2 3 0 0) { d := .file 8, a := .file 8, b := .file 8 } = none ∧
    (∀ k ∈ [0x3B, 0x3C, 0x3D, 0x3E], (st (ut (encR 4 k (frr 1 2 0 0 0)))).issues 5 3 (encR 4 k (frr 1 2 0 0 0))) ∧
    (∀ k ∈ [{ d := .file 8, a := .file 8 }, { d := .file 8, a := .any }, ({ d := .any, a := .file 8 } : RUse)], (ut 0 |>.taper 5).illegalR (frr 1 2 0 0 0) k = none) := by
  refine ⟨?_, ?_, ?_, ?_, ?_, ?_, ?_, ?_, ?_, ?_, ⟨_, _, _, .pand, ?_⟩, ?_, ?_, ?_⟩ <;> (try delta State.issues) <;> decide +kernel

theorem test_wit_tiles :
    (∀ f ∈ [frr 1 2 3 4 2 0xFF, frr 1 2 3 4 2 2],
     let t := (ut 0).taper 5
     (t.illegalR f { d := .file 8, a := .any, b := .any, c := tileC f, fmts := [2, 4, 5, 7], fmt2s := pairF f } = none →
      (st (ut (encR 6 1 f))).issues 5 3 (encR 6 1 f))) ∧
    (let t := (ut 0).taper 5
     let f := frr 1 2 3 0 2 0
     t.illegalR f { d := .file 8, a := .any, b := .any, c := tileC f, fmts := [2, 4, 5, 7], fmt2s := pairF f } = none ∧
     t.illegalR f { d := .file 8, a := .any, b := .pair false, c := tileC f, p := if f.p % metaRegs f = 0 then .file 8 else .file 0, fmts := [2, 4, 5, 7], fmt2s := pairF f } = none ∧
     (∀ k ∈ [1, 2], (st (ut (encR 6 k f))).issues 5 3 (encR 6 k f) ∧
        (st (ut (encR 6 k f) fun t => { t with refMode := true })).issues 5 3 (encR 6 k f))) ∧
    (∀ x ∈ [(0, frr 1 0 0 0 0), (3, frr 1 2 0 0 0), (4, frr 1 2 0 0 0)], (st (ut (encR 6 x.1 x.2))).issues 5 3 (encR 6 x.1 x.2) ∧
      (st (ut (encR 6 x.1 x.2) fun t => { t with refMode := true })).issues 5 3 (encR 6 x.1 x.2)) ∧
    (ut 0 |>.taper 5).illegalR (frr 1 0 0 0 0) { d := .file 8 } = none ∧ (ut 0 |>.taper 5).illegalR (frr 1 2 0 0 0) { d := .file 8, a := .any } = none ∧
    (ut 0 |>.taper 5).illegalR (frr 1 2 0 0 0) { d := .any, a := .file 8 } = none ∧ (ut 0 |>.taper 5).refMode = false := by
  delta State.issues; decide +kernel

theorem test_wit_long_accumulators :
    (let t := (ut 0).taper 5
     t.illegalR (frr 1 0 0 0 0) { d := .file 4 } = none ∧ t.illegalR (frr 1 2 0 0 1) { d := .file 4, a := .any, fmts := [1, 2, 3, 4, 5], pe := true } = none ∧
     t.illegalR (frr 1 2 3 0 1 0) { d := .file 4, a := .any, b := .any, fmts := [1, 2, 3, 4, 5], fmt2s := pairF (frr 1 2 3 0 1 0), pe := true } = none ∧
     t.illegalR (frr 1 2 0 0 0) { d := .file 4, a := .file 4 } = none ∧
     t.illegalR (frr 1 2 0 0 1) { d := .any, a := .file 4, b := if t.sr (frr 1 2 0 0 1) 2 then .any else .none, rm := 2, fmts := [1, 2, 3, 6] } = none ∧
     t.illegalR (frr 1 2 0 0 0) { d := .any, a := .file 4 } = none) ∧
    (∀ x ∈ [(0, frr 1 0 0 0 0), (1, frr 1 2 0 0 1), (2, frr 1 2 3 0 1), (3, frr 1 2 0 0 0), (4, frr 1 2 0 0 1), (5, frr 1 2 0 0 0)],
      (st (ut (encR 7 x.1 x.2))).issues 5 3 (encR 7 x.1 x.2)) ∧
    (∀ k ∈ [6, 7], (st (ut (encI 7 k (fi 1 0 0 0x10000)))).issues 5 3 (encI 7 k (fi 1 0 0 0x10000)) ∧
      (st (ut (encI 7 k (fi 1 0 0 1)))).issues 5 3 (encI 7 k (fi 1 0 0 1)) ∧
      (st (ut (encI 7 k (fi 1 0 0 0x60000)))).issues 5 3 (encI 7 k (fi 1 0 0 0x60000))) ∧
    illegalI (fi 1 0 0 0x10000) (.file 4) .any .none = none ∧ illegalI (fi 1 0 0 1) (.file 4) .any .none = none ∧
    illegalI (fi 1 0 0 0x60000) (.file 4) .any .none = none ∧
    (ut 0 |>.taper 5).addr (fi 1 0 0 0x10000) % 32 = 0 ∧ storeArea ((ut 0).taper 5 |>.addr (fi 1 0 0 0x10000)) 96 = true ∧
    loadArea ((ut 0).taper 5 |>.addr (fi 1 0 0 0x10000)) 96 = true ∧ (ut 0 |>.taper 5).addr (fi 1 0 0 1) % 32 ≠ 0 ∧
    storeArea ((ut 0).taper 5 |>.addr (fi 1 0 0 0x60000)) 96 = false ∧ loadArea ((ut 0).taper 5 |>.addr (fi 1 0 0 0x60000)) 96 = false := by
  delta State.issues; decide +kernel

theorem test_wit_fingerprint_random :
    (∃ con op fn, FieldOp con op fn ∧ (st (ut (encR 10 op (frr 1 2 3 0 0)))).issues 5 3 (encR 10 op (frr 1 2 3 0 0))) ∧
    (ut 0 |>.taper 5).illegalR (frr 1 2 3 0 0) { d := .any, a := .any, b := .any } = none ∧
    (st (ut (encR 10 0 (frr 0 2 0 0 0)))).issues 5 3 (encR 10 0 (frr 0 2 0 0 0)) ∧ (ut 0 |>.taper 5).illegalR (frr 0 2 0 0 0) { a := .any, pe := true } = none ∧
    (ut 0 |>.taper 5).fpBusy = false ∧ (∀ k ∈ [0, 1], (st (ut (encR 11 k (frr 1 2 0 0 0)))).issues 5 3 (encR 11 k (frr 1 2 0 0 0))) ∧
    (ut 0 |>.taper 5).illegalR (frr 1 2 0 0 0) { d := .any, a := .any, rm := 3 } = none ∧ (ut 0 |>.taper 5).illegalR (frr 1 2 0 0 0) { d := .any, a := .any } = none := by
  refine ⟨⟨_, _, _, .fing_addm, ?_⟩, ?_⟩ <;> (try delta State.issues) <;> decide +kernel

/-- The same with a register and other setters on the slot; the message header in g2 addresses taper 0 of a program of one taper. -/
abbrev um2 (w : Nat) (g : Taper → Taper := id) (h : PSlot → PSlot := id) : Units :=
  (ut w fun t => g ((t.setG 2 0).setG 3 0x10000)).upSlot 3 fun s => h { s with count := 1, place := [5] }

/-- The taper waits. -/
abbrev tw (k : TWait) (t : Taper) : Taper := { t with wait := some k }

theorem test_wit_messages :
    (let f := frr 0 2 3 0 0
     (st (um2 (encR 8 0 f))).issues 5 3 (encR 8 0 f) ∧ ((um2 0).taper 5).illegalR f { a := .any, b := .any } = none ∧
     sendBad (((um2 0).taper 5).gr 2) ((um2 0).slot 3).count (((um2 0).taper 5).gr 3) = none ∧ (um2 0).backed (bits (((um2 0).taper 5).gr 2) 23 22) = false ∧
     (st (um2 (encR 8 0 f) (tw .send))).waits 5 3 .send ∧ f = decR ((um2 (encR 8 0 f) (tw .send)).taper 5).word) ∧
    (let f := frr 1 0 0 1 0
     let q := fun (t : Taper) => t.setQueue 1 { t.queue 1 with ready := [4, 5], held := [2] }
     ((um2 0 q).taper 5 |>.queue 1).ready = 4 :: [5] ∧ ((um2 0 q).taper 5 |>.queue 1).held = 2 :: [] ∧
     (∀ k ∈ [1, 2], (st (um2 (encR 8 k f) q)).issues 5 3 (encR 8 k f)) ∧ ((um2 0).taper 5).illegalR f { d := .any, c := .imm 1 } = none ∧
     (st (um2 (encR 8 1 f) fun t => tw .recv (q t))).waits 5 3 .recv ∧ f = decR ((um2 (encR 8 1 f) (tw .recv)).taper 5).word ∧
     ((um2 0).taper 5 |>.queue 1).ready = [] ∧ ((um2 0).taper 5 |>.queue 1).held = [] ∧ (st (um2 (encR 8 2 f))).issues 5 3 (encR 8 2 f)) ∧
    (let f := frr 0 0 0 1 0
     (st (um2 (encR 8 3 f))).issues 5 3 (encR 8 3 f) ∧ ((um2 0).taper 5).illegalR f { c := .imm 1 } = none) := by
  delta State.issues State.waits; decide +kernel

theorem test_wit_message_fault : sendBad 1 1 0x10000 = some (.trap 3 0 0xFF 0) := rfl

theorem test_wit_ring_instructions :
    (let f := frr 1 3 0 0 0
     let h := fun (s : PSlot) => { s with sub := 0xFFFFFFFF, owner := .qualify, work := [[1, 2, 3]], popWait := [] }
     let w := fun (s : PSlot) => { h s with popWait := [5] }
     ((um2 0 id h).slot 3).hasSub = true ∧ ((um2 0).taper 5).gr 3 % 64 = 0 ∧ dataArea (((um2 0).taper 5).gr 3) ((um2 0 id h).entryLen 3) = true ∧
     ((um2 0 id h).popEntry 3).isSome = true ∧ ((um2 0).taper 5).illegalR f { d := .any, a := .any } = none ∧
     (((um2 0 id h).slot 3).popWait.filter fun x => x ≠ 5) = [] ∧
     (∀ k ∈ [8, 9], (st (um2 (encR 8 k f) id h)).issues 5 3 (encR 8 k f)) ∧
     (st (um2 (encR 8 8 f) (tw .pop) w)).waits 5 3 .pop ∧ f = decR ((um2 (encR 8 8 f) (tw .pop) w).taper 5).word ∧
     ((um2 (encR 8 8 f) (tw .pop) w).slot 3).popWait.head? = some 5 ∧
     ((um2 0 id fun s => { h s with work := [] }).popEntry 3).isNone = true ∧
     ((um2 0 id fun s => { s with sub := 0xFFFFFFFF, owner := .host }).slot 3).hasSub = false) ∧
    (let f := frr 0 3 0 0 0
     let h := fun (s : PSlot) => { s with comp := 4 }
     let u := fun (w : Nat) (g : Taper → Taper) => (um2 w g h).setDesc 4 { ((um2 w g h).desc 4) with enable := true }
     ((u 0 id).slot 3).comp ≠ 0xFFFFFFFF ∧ dataArea (((u 0 id).taper 5).gr 3) (32 * 2 ^ ((u 0 id).desc 4).sizeCode) = true ∧ ((u 0 id).desc 4).room = true ∧
     (st (u (encR 8 0xA f) id)).issues 5 3 (encR 8 0xA f) ∧ ((u 0 id).taper 5).illegalR f { a := .any } = none ∧
     (st (u (encR 8 0xA f) (tw .push))).waits 5 3 .push ∧ f = decR ((u (encR 8 0xA f) (tw .push)).taper 5).word ∧
     ((u 0 id).slot 3).hasComp = true ∧ ((um2 0 id h).desc 4).room = false ∧
     ((um2 0 id fun s => { s with comp := 0xFFFFFFFF, owner := .qualify }).slot 3).hasComp = true ∧
     ((um2 0 id fun s => { s with comp := 0xFFFFFFFF, owner := .host }).slot 3).hasComp = false) := by
  delta State.issues State.waits; decide +kernel

/-- Channel 2 of a taper. -/
abbrev ch2 (c : Chan) (t : Taper) : Taper := { t with chan := [(2, c)] }

theorem test_wit_streams :
    (let f := frr 0 2 0 0 0
     ¬(((ut 0).taper 5).ch f.a).state = 1 ∧ ((ut 0).taper 5).fpBusy = false ∧ (st (ut (encR 9 0 f))).issues 5 3 (encR 9 0 f) ∧
     ((ut 0).taper 5).illegalR f { a := .imm 7 } = none ∧
     (st (ut (encR 9 0 f) (tw .start))).waits 5 3 .start ∧ f = decR ((ut (encR 9 0 f) (tw .start)).taper 5).word ∧
     (let g := fun t => ch2 { Chan.reset with state := 1 } t
      (((ut 0 g).taper 5).ch f.a).state = 1 ∧ (st (ut (encR 9 0 f) g)).issues 5 3 (encR 9 0 f))) ∧
    (let f := frr 1 2 0 0 0
     let g := ch2 { Chan.reset with poison := true }
     (∀ k ∈ [1, 2], (st (ut (encR 9 k f))).issues 5 3 (encR 9 k f)) ∧ ((ut 0).taper 5).illegalR f { d := .any, a := .imm 7 } = none ∧
     (((ut 0).taper 5).ch f.a).state ≠ 1 ∧ (((ut 0).taper 5).ch f.a).poison = false ∧
     (st (ut (encR 9 1 f) (tw .wait))).waits 5 3 .wait ∧ f = decR ((ut (encR 9 1 f) (tw .wait)).taper 5).word ∧
       bits ((ut (encR 9 1 f) (tw .wait)).taper 5).word 11 4 = 1 ∧
     (((ut 0 g).taper 5).ch f.a).poison = true ∧ (st (ut (encR 9 1 f) g)).issues 5 3 (encR 9 1 f)) ∧
    (let f := frr 0 0 0 0 0
     (∀ k < 8, (((ut 0).taper 5).ch k).state ≠ 1 ∧ (((ut 0).taper 5).ch k).poison = false) ∧
     (st (ut (encR 9 3 f))).issues 5 3 (encR 9 3 f) ∧ ((ut 0).taper 5).illegalR f {} = none ∧
     (st (ut (encR 9 3 f) (tw .wait))).waits 5 3 .wait ∧ bits ((ut (encR 9 3 f) (tw .wait)).taper 5).word 11 4 = 3) := by
  delta State.issues State.waits; decide +kernel

/-- The units with changes to the Beacon. -/
abbrev ub (g : Beacon → Beacon) : Units := u0.upB g

/-- A UTC offset with an insertion at the end of the day. -/
abbrev leap : Utc := { offset := 37, leap61 := true, leap59 := false, day := 0 }

/-- The units with PTP domain A enabled for port 0, and agreeing. -/
abbrev ud (src : Nat) : Units := (ub fun b => { b with source := src, domA := { b.domA with offset := some (5, 0) } }).setCfg 0x100020 (0x80 + 0x100)

theorem test_wit_beacon_commands :
    isOperator (stampPriv op.stamp) = true ∧ u0.bcn.pend = none ∧ dateOk 2000 2 29 23 59 59 = true ∧ dateOk 2100 2 29 0 0 0 = false ∧ dateOk 2399 12 31 23 59 59 = true ∧
    (let u := ub fun b => { b with utc := some leap }
     ¬((u.bcn.source = 1 ∨ u.bcn.source = 2) ∧ u.clk.locked = true) ∧ u.utcNow = some (leap, false)) ∧ isOperator wo.priv = true ∧
    (ud 1).domOn 0 = true ∧ (ud 1).bcn.source = 0 + 1 ∧ ((ud 1).upDom 0 fun x => { x with offset := some (7, 0), lost := false }).bcn.source = 0 + 1 ∧
    ((ud 2).upDom 0 fun x => { x with offset := some (7, 0), lost := false }).bcn.source = 2 - 0 ∧ ((ud 1).dom 0).best = none ∧
    (u0.txts 1).q.length < 64 ∧
    (let u := u0.setTxts 1 { u0.txts 1 with q := [(1, 2, 3, 4, 5, 6)] }
     (u.txts 1).q = (1, 2, 3, 4, 5, 6) :: []) ∧
    bits ((ud 1).domCfg 0) 6 0 = 0 ∧ bitAt ((ud 1).domCfg 0) (8 + 0) = true := by
  decide +kernel

theorem test_wit_beacon_edges :
    (let u := (ub fun b => { b with source := 3 }).setCfg 0x100068 1
     bitAt u.ppsCfg 0 = true ∧ u.bcn.source = 3 ∧ u.bcn.pend = none) ∧
    ((ub fun b => { b with source := 1 }).setCfg 0x100068 1).bcn.source = 1 ∧ (ub fun b => { b with ref10 := true }).bcn.ref10 = true ∧
    (let u := (ud 1).upDom 0 fun x => { x with lost := true, best := none, utc := none }
     u.bcn.source = 0 + 1 ∧ 0 = u.primary) ∧
    (let u := (((ud 1).upB fun b => { b with domB := { b.domB with offset := some (5, 0) } }).setCfg 0x100024 0x81).upDom 0 fun x => { x with lost := true, best := none, utc := none }
     u.agrees (1 - 0) = true) ∧
    (let u := (ud 2).upDom 1 fun x => { x with lost := true, best := none, utc := none }
     u.bcn.source = 1 + 1 ∧ 1 ≠ u.primary) ∧
    u0.bcn.source = 0 ∧
    (let u := ud 2
     u.bcn.source = 2 ∧ u.bcn.source ≠ u.primary + 1 ∧ u.domOn u.primary = true ∧ u.agrees u.primary = true) ∧
    (let u := (ud 2).upDom 0 fun x => { x with offset := none }
     u.agrees u.primary = false ∧ (u.dom u.primary).lost = false) ∧
    (ub fun b => { b with utc := some leap }).bcn.utc = some leap ∧ leap.leap61 = true := by
  decide +kernel

theorem test_wit_calendar :
    (let x : Utc := { leap with leap61 := false }
     let u := (ub fun b => { b with utc := some x }).upK fun c => { c with sec := utcSeconds 2024 2 29 12 30 0 + 37 }
     dateOk 2024 2 29 12 30 0 = true ∧ u.utcNow = some (x, false) ∧ x.leap61 = false ∧ u.clk.sec = utcSeconds 2024 2 29 12 30 0 + x.offset) ∧
    (2000 ≤ 2000 ∧ 1 ≤ 1 ∧ 12 ≤ 12 ∧ 1 ≠ 2) := by
  decide +kernel

/-- A watch entry of context 2 at port 1, in job 7. -/
abbrev wch : Watch :=
  { job := 7, stalled := false, query := false, frozen := false, priority := 0, mask := 15, timeout := 0, gen := 0, genStart := 0, lastProg := 0,
    edges := [], replyAt := 0, replied := false, broken := false, tag := 0xFFFFFFFF, waiting := [] }

/-- The active accelerator at port 1 with that watch. -/
abbrev uw (w : Watch) : Units := ua.upV fun v => { v with watch := [(64 + 2, w)] }

theorem test_wit_vigil :
    (∀ c ∈ [0x01, 0x07, 0x0E, 0x12], (st (uw wch)).hears sh c) ∧
    (let f := fun (u : Units) => ((u.count 0x700100).upVp 1 fun x => { x with live := 3, health := 3 }).refreeze 1
     ((f (ua.upVp 1 fun x => { x with state := 3 })).vp 1).state = 3 ∧ ((f ua).vp 1).state ≠ 3 ∧
     (∀ c < 64, bitAt (ua.vp 1).live c = true → bitAt 3 c = true) ∧ ((f ua).clearSuspect 1).cprRunning 1 = false) ∧
    (ua.ig 1).active = true ∧ (ua.port 1).state ≠ 5 ∧ (ua.port 1).state ≠ 6 ∧
    (let f := fun (u : Units) => (u.upVp 1 fun x => { x with misses := min 15 (x.misses + 1) }).count 0x700108
     ((f ua).vp 1).misses < bits (f ua).vigilCfg 3 0 ∧
     (let u := ua.upVp 1 fun x => { x with misses := 14 }
      bits (f u).vigilCfg 3 0 ≤ ((f u).vp 1).misses)) ∧
    (u0.ig 1).active = false ∧
    (let g := fun (u : Units) => u.upIg 1 fun g => { g with regs := g.regs.filter fun r => r.why ≠ .probe }
     let u := ua.upVp 1 fun x => { x with state := 2 }
     let v := ua.upVp 1 fun x => { x with state := 2, probes := 15 }
     (u.vp 1).state = 2 ∧ (u.vp 1).probes < bits (g u).vigilCfg 7 4 ∧ (v.vp 1).state = 2 ∧ bits (g v).vigilCfg 7 4 ≤ (v.vp 1).probes) ∧
    (let u := ua.upIg 1 fun g => { g with regs := [{ seq := 0, offset := 0, write := false, count := 1, why := .probe }] }
     (u.regReq 1 0).isSome = true) ∧
    (uw wch).watchOf 1 2 = some wch ∧ (uw { wch with stalled := true }).watchOf 1 2 = some { wch with stalled := true } ∧
    (uw { wch with frozen := true }).watchOf 1 2 = some { wch with frozen := true } ∧
    (let u := (uw wch).setDesc 9 { u0.desc 9 with port := 1, context := 2, q := [.words [0]] }
     (u.desc 9).port < 16 ∧ (u.desc 9).context < 64 ∧ u.watchOf (u.desc 9).port (u.desc 9).context = some wch ∧ (u.desc 9).q ≠ []) := by
  delta State.hears; decide +kernel

theorem test_wit_snuffer :
    (let r : ResetOut := { seq := 0, kind := 1, ctx := 2, newGen := 0, released := 0, report := false, resent := false, ctxGen := 0, accGen := 0 }
     let u := ua.upIg 1 fun g => { g with resets := [r] }
     ((u.ig sh.port).resets.find? fun r => r.seq = sh.seq && r.kind = 1) = some r ∧ (st u).hears sh 0x0E ∧
     ((u.ig 1).resets.find? fun r => r.kind = 1 && (1 = 2 || r.ctx = 2)) = some r ∧ r.resent = false ∧
     (let r : ResetOut := { r with kind := 2, ctx := 0xFF, resent := true }
      let u := ua.upIg 1 fun g => { g with resets := [r] }
      ((u.ig 1).resets.find? fun r => r.kind = 2 && (2 = 2 || r.ctx = 2)) = some r)) ∧
    (let x : Contain := { port := 1, ctx := 2, level := 0, bumped := false, brk := false, jobs := [7], open_ := 1, served := false }
     let u := ua.upV fun v => { v with contains := [x] }
     (u.vig.contains.find? fun x => x.port = 1 && x.ctx = 2 && !x.bumped) = some x ∧ x.level = 0) ∧
    isOperator (stampPriv op.stamp) = true ∧ (1 : Nat) < 16 ∧ (2 : Nat) < 64 ∧
    (ua.upVp 1 fun x => { x with live := 4 }).ctxEnabled 1 2 = true ∧ ua.ctxEnabled 1 2 = false ∧
    ua.resetting 1 2 = false ∧ ua.fenced 1 = false ∧
    (let u := ua.upV fun v => { v with fenced := 2, clean := 2 }
     u.fenced 1 = true ∧ bitAt u.vig.clean 1 = true) := by
  delta State.hears; decide +kernel

/-- A lantern header of T3 9 that nothing makes stale, and an answer to a request. -/
abbrev lh : LHdr := { port := 0, src := 9, hop := 16, flags := 0, srcGen := 0, seq := 0 }

/-- A role that this T3 holds. -/
abbrev held (id : Nat) (u : Units) : Units := u.upRole id fun r => { r with holding := true, stopped := false }

/-- A fault notice about T3 9. -/
abbrev ntc : Notice :=
  { kind := 2, level := 2, cid := 9, ctx := 0xFF, accGen := 0, ctxGen := 0, status := 0, job := 7, released := 0, time := 0, tag := 0, seq := 1, epoch := 0, reporter := 9 }

/-- A route to the accelerator position 300 at port 1 of this T3. -/
abbrev rt : RouteEntry := { cid := 300, kind := 0, valid := true, fenced := false, spare := false, target := u0.self, port := 1, version := 0, gen := 0 }

theorem test_wit_waits_notices :
    (st (uw wch)).hears sh 0x12 ∧ wch.stalled = false ∧ (st u0).hearsL lh ∧
    ((held u0.role.wardenId u0).roleOf (held u0.role.wardenId u0).role.wardenId).holding = true ∧
    (NMap.getD u0.role.watch lh.src T3Watch.reset).gen = 0 ∧ (NMap.getD u0.role.watch lh.src T3Watch.reset).gen ≠ 1 ∧
    NMap.has u0.role.watch lh.src = false ∧ (u0.roleOf u0.role.keeperId).holding = false ∧
    (let u := held u0.role.keeperId u0
     (u.roleOf u.role.keeperId).holding = true ∧ (u.roleOf u.role.keeperId).stopped = false ∧ ntc.kind = 2 ∧ 9 ≠ u.self ∧ NMap.getD u.vig.jobT3s ntc.job [] = [] ∧
     (∀ r ∈ u.role.role, roleLevel r.1 = 4 → r.1 = u.role.keeperId)) ∧
    (u0.roleOf u0.role.keeperId).epoch ≤ ntc.epoch ∧ NMap.getD u0.vig.applied ntc.key 0 < ntc.seq ∧
    (let u := u0.upV fun v => { v with applied := [(ntc.key, 5)] }
     ntc.seq < NMap.getD u.vig.applied ntc.key 0) ∧
    (let u := u0.upRole u0.role.keeperId fun r => { r with epoch := 3 }
     ntc.epoch < (u.roleOf u.role.keeperId).epoch) ∧
    u0.portOf 300 = none ∧
    (let w : Watch := { wch with stalled := true, replied := true }
     let u := (uw w).upR fun r => { r with routes := [(300, rt)] }
     u.portOf 300 = some 1 ∧ u.watchOf 1 2 = some w ∧ w.gen ≠ 1 ∧ w.stalled = true ∧ u.fenced 1 = false ∧ u.resetting 1 2 = false ∧ w.replied = true ∧
     u.clk.mono ≤ w.replyAt + 1000000) ∧
    (let u := u0.upV fun v => { v with lprobes := [9] }
     u.vig.lprobes.contains 9 = true ∧ (u.roleOf u.role.wardenId).holding = false) ∧
    (let u := u0.upV fun v => { v with notices := [(1, 9, 0, ntc), (2, 9, 3, ntc)] }
     (u.vig.notices.find? fun x => x.1 = 1 && x.2.1 = 9) = some (1, 9, 0, ntc) ∧ (u.vig.notices.find? fun x => x.1 = 2 && x.2.1 = 9) = some (2, 9, 3, ntc)) := by
  delta State.hears State.hearsL; decide +kernel

/-- The units with component 4: a link (class 4) of port 1. -/
abbrev uf (g : Comp → Comp := id) : Units := ua.upF fun f => { f with comps := [(4, g (Comp.new 4 0 1))] }

/-- A glim of class 4 and index 0 with its CRC. -/
abbrev glim : List Nat := let b := [4, 0] ++ List.replicate 58 0; b ++ leBytes 4 (crc32c b)

/-- A model that covers every class. -/
abbrev mdl : FModel := { slot := 3, prog := 0x20, mask := 2 ^ 16 - 1, image := (3, 0) }

theorem test_wit_flicker :
    (st uf).hears sh 0x02 ∧ uf.flick.extract = true ∧ crc32c (glim.take 60) = fieldAt glim 60 4 ∧ glim.getD 0 0 < 6 ∧
    uf.compKey (glim.getD 0 0) (glim.getD 1 0) sh.port = some 4 ∧ (uf.comp 4).seq = none ∧ (uf.comp 4).inc 5 (fieldAt glim 20 4) = 0 ∧
    (let g := glim.take 60 ++ [0, 0, 0, 0]
     crc32c (g.take 60) ≠ fieldAt g 60 4 ∧ uf.compKey (g.getD 0 0) (g.getD 1 0) sh.port = some 4) ∧
    (let u := uf fun c => { c with cls := 6, port := 0xFF }
     (∀ e ∈ u.flick.comps, e.2.cls ≠ 8 ∧ e.2.cls ≠ 9) ∧ (u.comp 4).cls = 6 ∧ NMap.has u.flick.comps 4 = true) ∧
    ((uf fun c => { c with seq := some 1 }).comp 4).seq ≠ none ∧
    (let u := uf.upF fun f => { f with model := some mdl }
     u.flick.enable = true ∧ u.flick.next = none ∧ u.flick.model = some mdl ∧ (u.flick.comps.filter fun e => e.2.pending) = []) ∧
    (let u := (uf fun c => { c with pending := true, state := 2 }).upF fun f => { f with model := some mdl }
     (u.comp 4).pending = true ∧ (u.comp 4).trigAt = none ∧ 2 ≤ (u.comp 4).state ∧ bitAt mdl.mask (u.comp 4).cls = true ∧ NMap.has u.flick.comps 4 = true) ∧
    (let i : FItem := { no := 1, slot := 3, comps := [4] }
     let u := uf.upF fun f => { f with items := [i] }
     (u.flick.items.filter fun i => i.no = 1) = [i] ∧ i.comps = [4] ∧ (u.flick.items.filter fun i => i.no = 2) = []) ∧
    isOperator (stampPriv op.stamp) = true ∧ (uf.comp 4).state < 2 ∧ isOperator wo.priv = true ∧ ((uf fun c => { c with state := 2 }).comp 4).state = 2 ∧
    (let u := uf fun c => { c with prestage := some 30, flag := true, granted := true }
     (u.comp 4).prestage = some 30 ∧ (u.comp 4).flag = true ∧ (u.comp 4).granted = true) ∧
    (let x : Comp := { Comp.new 4 0 1 with state := 2, sample := none }
     (uf fun _ => x).flick.comps = [(4, x)]) := by
  delta State.hears; decide +kernel

/-- An image of a Flicker model (activity 0x0A) of one taper and one segment, its model declaration. -/
abbrev fimg : List Nat :=
  leBytes 4 0x31494759 ++ [1, 1, 10, 0] ++ leBytes 2 1 ++ leBytes 2 1 ++ leBytes 2 1 ++ [1, 0] ++ leBytes 2 5 ++ leBytes 2 1 ++ leBytes 4 256 ++
    leBytes 4 264 ++ leBytes 4 320 ++ List.replicate 224 0 ++ leBytes 4 0 ++ leBytes 2 0 ++ leBytes 2 1 ++
    leBytes 4 280 ++ leBytes 4 40 ++ leBytes 4 0x5EF00 ++ leBytes 4 0 ++ [1, 0] ++ leBytes 2 1 ++ leBytes 2 16 ++ List.replicate 34 0

theorem test_wit_flicker_model :
    (let m := memPutAt Mem.reset um 3 0 fimg
     um.flick.loading = none ∧ ((NMap.find um.mantle.regions 3).map fun r => r.typ) = some 8 ∧
     imageCheck m um 3 0 = St.OK ∧ (loadModel m um 3 0 (some op)).2 = St.OK) ∧
    (let r : FRaise := { at_ := 0, cleared := 0, charged := false }
     ((uf fun c => { c with raises := [r] }).comp 4).raises = [] ++ [r]) := by
  decide +kernel

/-- A job binding of mode `m` with the apply gate, one binary32 component, and a shard of it; its writer is the context 2 at port 1. -/
abbrev jb (m : Nat) : JobBind :=
  { mode := m, comps := 1, prog := 1, key := 0, params := 1000, fmts := 1 :: List.replicate 15 0, interval := 0, flags := 1, gateMs := 0, released := 0,
    relTime := 0, relEpoch := 0, entered := none, snapNow := [], perStep := false, held := false, group := 0 }
abbrev sd (g : Shard → Shard := id) : Shard := g { Shard.new 5 7 0 1000 with layout := 1, members := [(300, 2)], count := 1, buddy := 9 }

/-- The units with a job and a shard at entry 0, block credits for the context, and the route to it. -/
abbrev uk (j : JobBind) (x : Shard) : Units :=
  ((ua.upW fun w => { w with jobs := [(7, j)], shards := [(0, x)] }).upR fun r => { r with routes := [(300, rt)] }) |> fun u =>
    { u with link := { u.link with granted := [(creditKey 1 2 0, 9), (creditKey 1 2 1, 9), (creditKey 1 2 2, 9)] } }

/-- A block of step 1 with four bytes and its CRC; the same with a wrong one. -/
abbrev blk : Blk := { step := 1, shard := 5, index := 0, fmt := 1, flags := 0, valid := 4, tag := 0, crc := crc64 [1, 2, 3, 4], data := [1, 2, 3, 4] }

/-- A step record of step 1. -/
abbrev srec : StepRec :=
  { step := 1, shard := 5, format := 1, replica := 0, count := 1, flags := 0, prog := 1, epoch := 0, cursor := 0, rngKey := 0, rngBase := 0, scalars := 0,
    lossScale := 0, fp := 0, gradFp := 0, elems := 0, first := 0 }

/-- The shard with step 1 open. -/
abbrev so (g : OpenStep → OpenStep := id) (h : Shard → Shard := id) : Shard := sd fun x => h { x with opens := [g (OpenStep.new 1 1)] }

theorem test_wit_wick_blocks :
    (∀ x ∈ [sd, so, so (fun o => { o with sparse := true }), sd (fun x => { x with incoming := some (1, 0, []), prot := 3, layout := 2 })], ∀ m ∈ [0, 1, 2],
      (∀ e ∈ [(0x04, 0), (0x05, 1), (0x06, 2)], (st (uk (jb m) x)).hearsBlock sh e.1 e.2 blk) ∧ (st (uk (jb m) x)).holds 5 0 x (jb m) ∧
      (uk (jb m) x).localCtx (x.members.getD x.writer (0, 0)) = some (sh.port, sh.ctx)) ∧
    (sd).nextStep = some blk.step ∧ (so).nextStep = some blk.step ∧ crc64 blk.data = blk.crc ∧ blk.fmt ≠ 0x10 ∧
    ({ blk with fmt := 0x10 } : Blk).fmt = 0x10 ∧ crc64 ({ blk with crc := 0 } : Blk).data ≠ ({ blk with crc := 0 } : Blk).crc ∧
    (let x := so fun o => { o with sparse := true }
     (x.step? 1).isNone = false ∧ (((uk (jb 0) x).shAt 0).step? 1).map (fun o => (o.sparse, o.touched.contains blk.index)) = some (true, false)) ∧
    (sd).incoming = none ∧
    (let x := sd fun x => { x with incoming := some (1, 0, []), prot := 3, layout := 2 }
     x.incoming = some (1, 0, []) ∧ 1 = blk.step ∧ x.prot = 3 ∧ (NMap.set x.spillBlk blk.index blk.data).length < x.layout) := by
  delta State.hearsBlock State.holds State.hears; decide +kernel

theorem test_wit_wick_commands :
    (st (uk (jb 0) sd)).hears sh 0x03 ∧ ((sd).members.any fun m => (uk (jb 0) sd).localCtx m = some (sh.port, sh.ctx)) = true ∧ (sd).isBuddy = false ∧
    (sd).prot = 0 ∧ isOperator (stampPriv op.stamp) = true ∧ u0.jobB 7 = none ∧ (jb 0).fmts.length = 16 ∧
    (∀ f ∈ (jb 0).fmts.take 1, 1 ≤ f ∧ f ≤ 5) ∧ (∀ f ∈ (jb 0).fmts.drop 1, f = 0) ∧ u0.wick.enable = true ∧ u0.lamp.state ≠ 4 ∧
    (let u := u0.upW fun w => { w with params := [(7, (List.replicate 32 0, 0xFFFF))], progs := refProgs }
     let f := 2 :: 1 :: 1 :: 1 :: List.replicate 12 0
     f.length = 16 ∧ (∀ x ∈ f.take 4, 1 ≤ x ∧ x ≤ 5) ∧ (∀ x ∈ f.drop 4, x = 0) ∧ u.bindRefused 7 4 1 f = false) ∧
    (let u := u0.upW fun w => { w with jobs := [(7, jb 0)] }
     u.jobB 7 = some (jb 0) ∧ u.shKey 5 = none ∧ (1000 : Nat) ≠ 0 ∧ 0 + 1000 ≤ (jb 0).params ∧ 9 ≠ u.self ∧ (u.bindShard 7 5 0 1000 9 1 (jb 0)).2 = some 0) ∧
    (st (uk (jb 0) sd)).holds 5 0 sd (jb 0) ∧ (sd).epoch < 1 ∧ (sd).epoch = 0 ∧ (sd).members ≠ [] ∧ um.mayAccess Ag.wick pageBytes 4 false = true ∧
    ((uk (jb 0) sd).inst 7).state ≠ 2 ∧ (uk (jb 0) sd).jobB 7 = some (jb 0) ∧
    (let x := sd fun x => { x with roles := 2 }
     (st (uk (jb 0) x)).holds 5 0 x (jb 0) ∧ x.isBuddy = true ∧ (jb 0).released = 0 ∧ x.committed < blk.step ∧ Blk.bad blk = false ∧ (st (uk (jb 0) x)).hearsL lh ∧
     bitAt blk.flags 0 = false ∧ (OpenStep.new 1 1).got.contains blk.index = false) ∧
    isOperator wo.priv = true ∧ u0.wick.jobs = [] := by
  delta State.holds State.hears State.hearsL; decide +kernel

theorem test_wit_wick_acks :
    (let o : OpenStep := { OpenStep.new 1 1 with last := true, sent := 1, transit := [(0, blk)] }
     let x := so fun _ => o
     (st (uk (jb 0) x)).hearsL lh ∧ (st (uk (jb 0) x)).holds 5 0 x (jb 0) ∧ x.step? 1 = some o ∧ o.state = 1 ∧ o.last = true ∧ o.stored 1 = true ∧ o.stored 0 = false ∧
     (jb 0).gated = true ∧ x.prot = 0) ∧
    (let j : JobBind := { jb 0 with entered := some 1 }
     (uk j sd).jobB 7 = some j ∧ j.entered = some 1 ∧ j.released < 1 ∧ j.entered ≠ some 2) := by
  delta State.holds State.hearsL; decide +kernel

theorem test_wit_wick_buddy :
    (let x := so id fun x => { x with roles := 2 }
     (st (uk (jb 0) x)).holds 5 0 x (jb 0) ∧ x.isBuddy = true ∧ (jb 0).gated = true ∧ (st (uk (jb 0) x)).hearsL lh) ∧
    (let x := sd fun x => { x with roles := 2, committed := 1, curStep := some 1, table := [(0, blockEntry sd (jb 0) 0 blk.data)] }
     (st (uk (jb 0) x)).holds 5 0 x (jb 0) ∧ blk.index < x.layout ∧ x.step? 1 = none ∧ blk.step = x.committed ∧
     NMap.find x.table blk.index = some (blockEntry x (jb 0) blk.index blk.data) ∧ x.curStep = some blk.step ∧
     blockGood State.reset.mem (uk (jb 0) x) x (jb 0) x.stateRegion x.table blk.index = false) ∧
    (let o : OpenStep := { OpenStep.new 1 4 with seeding := true }
     let x := sd fun x => { x with roles := 2, layout := 2, opens := [o] }
     (st (uk (jb 0) x)).holds 5 0 x (jb 0) ∧ blk.index < x.layout ∧ x.step? 1 = some o ∧ o.seeding = true ∧ o.seedGot.contains blk.index = false ∧
     o.seedGot.length + 1 < x.layout) ∧
    (let x := so id fun x => { x with roles := 2, layout := 3 }
     (st (uk (jb 1) x)).holds 5 0 x (jb 1) ∧ (jb 1).mode ≠ 0 ∧ blk.index < x.layout ∧ x.committed < blk.step ∧ (x.step? blk.step).any (fun o => o.state < 4) = true ∧ x.curStep = none) := by
  delta State.holds State.hearsL; decide +kernel

theorem test_wit_wick_verify :
    (∀ b ∈ [false, true],
     let o : OpenStep := { OpenStep.new 1 4 with skipped := b }
     let x := sd fun x => { x with roles := 2, opens := [o] }
     (st (uk (jb 0) x)).holds 5 0 x (jb 0) ∧ x.step? 1 = some o ∧ x.isBuddy = true ∧ o.state = 4 ∧ o.readDone = false ∧ o.seeding = false ∧ (jb 0).mode = 0 ∧
     o.allRecs x = false ∧
     (((o.written x (jb 0)).filter fun b => !(blockGood State.reset.mem (uk (jb 0) x) x (jb 0) x.bRegion x.table b)) = [] ↔ b = true)) ∧
    (∀ n ∈ [0, 4],
     let o : OpenStep := { OpenStep.new 1 5 with sends := n }
     let x := sd fun x => { x with roles := 2, opens := [o] }
     (st (uk (jb 0) x)).holds 5 0 x (jb 0) ∧ x.step? 1 = some o ∧ o.state = 5 ∧ o.stalled = false ∧ (o.sends < 4 ∨ 4 ≤ o.sends)) := by
  delta State.holds State.hearsL; decide +kernel

theorem test_wit_wick_source :
    (let r : CommitRec := { step := 1, shard := 5, job := 7, state := 6, flags := 0, prog := 1, epoch := 0, source := 0, writer := 0, buddy := 9, count := 1,
                            gradFp := 0, postFp := 3, goTime := 0, seq := 1, reported := 0, agreeing := 1, cursor := 0, commitTime := 0 }
     let y : Snap := { man := r, blocks := [[1, 2]], table := [(0, (crc64 [1, 2], 3))] }
     let x := so id fun x => { x with durable := [y], snap := some y }
     (st (uk (jb 0) x)).hearsL lh ∧ (st (uk (jb 0) x)).holds r.shard 0 x (jb 0) ∧ 6 ≤ r.state ∧ x.isBuddy = false ∧
     (x.durable.find? fun y => y.man.step = 1) = some y ∧ x.snap = some y ∧ y.man.step = 1 ∧ x.prot ≠ 3 ∧ bitAt (jb 0).flags 1 = false ∧ y.whole = true) ∧
    (let x := sd fun x => { x with roles := 2, committed := 1, curStep := some 1 }
     (st (uk (jb 0) x)).holds 5 0 x (jb 0) ∧ x.isBuddy = true ∧ x.holds (jb 0).mode 1 = true ∧ 0 < x.layout ∧
     ((uk (jb 0) x).shardsOf 7).any (fun k => ((uk (jb 0) x).shAt k).isBuddy) = true) := by
  delta State.holds State.hearsL; decide +kernel

/-- Tallow mounted, its record area of 100 chunks. -/
abbrev mounted (u : Units) : Units := u.upT fun t => { t with mounted := true, enable := true, sizes := [0, 100] }

/-- The context 2 at port 1 enabled and watched for job 7 of tenant 4, and a token pool. -/
abbrev us (g : Ledger → Ledger := id) : Units :=
  let u := ((uw wch).upVp 1 fun x => { x with live := 4 }).upL fun l => g { l with tenants := [(7, 4)] }
  mounted { u with mantle := { um.mantle with regions := [(3, reg 5 [1])] } }

/-- A stream of that context, in state `k`. -/
abbrev sm (k : Nat) : Stream := { newStream us 1 2 7 4 0 [0] with state := k }

theorem test_wit_streams_commands :
    us.mayStream op (us.jobOf 1 2) = true ∧ us.ctxEnabled 1 2 = true ∧ us.jobOf 1 2 ≠ 0 ∧ us.tenantFor (us.jobOf 1 2) ≠ 0 ∧ us.poolRegion.isSome = true ∧
    us.flick.drains 1 = false ∧ us.fenced 1 = false ∧ (us.vig.contains.any fun x => x.port = 1 && (x.ctx = 0xFF || x.ctx = 2)) = false ∧
    us.backpressure = false ∧ us.led.head = some 0 ∧ us.freeChunks 1 = some [0] ∧
    (let u : Units := { us with mantle := { us.mantle with regions := [(3, reg 5 [])] } }
     u.poolRegion.isSome = true ∧ u.freeChunks 1 = none) ∧
    us.mayStream { op with stamp := 0 } (us.jobOf 1 2) = false ∧
    (let u := us fun l => { l with streams := [(9, sm 1)] }
     (9 : Nat) < 2 ^ 17 ∧ u.stream 9 = some (sm 1) ∧ u.mayStream op (sm 1).job = true ∧ (sm 1).state = 1 ∧ u.mayStream { op with stamp := 0 } (sm 1).job = false) := by
  decide +kernel

theorem test_wit_streams_messages :
    (st us).hears sh 0x1C ∧ bitAt 9 31 = false ∧ 9 % 2 ^ 17 = 9 ∧ us.stream 9 = none ∧
    (let u := us fun l => { l with streams := [(9, sm 1)] }
     u.stream 9 = some (sm 1) ∧ (sm 1).state = 1 ∧ (sm 1).incoming = none ∧ (sm 1).port = sh.port ∧ (sm 1).ctx = sh.ctx ∧ [5, 6].length = 2 ∧ bitAt 2 0 = false) ∧
    (st us).hearsL lh ∧ (us fun l => { l with fresh := 131072 }).led.head = none ∧ us.freeChunks (max 1 ((3 + 2 + 1019) / 1020)) = some [0] ∧ bitAt 0 5 = false ∧
    (let x : Stream := { sm 4 with move := (9, 0, 0) }
     let u := us fun l => { l with streams := [(9, x)] }
     (u.led.streams.find? fun x => x.2.state = 4 && x.2.move.2.2 = lh.seq && u.servedBy x.2.move.1 = lh.src) = some (9, x) ∧ x.cancelWait = false) ∧
    (st us).hears sh 0x08 ∧ us.led.tickNo = 0 ∧ bitAt sh.flags 1 = false ∧ isOperator (stampPriv op.stamp) = true ∧
    (let u := us.setDesc 9 { us.desc 9 with kind := 2 }
     (u.desc 9).kind = 2 ∧ (us.desc 9).kind ≠ 2) ∧
    isOperator wt.priv = false ∧ isOperator wo.priv = true ∧
    (let u := us fun l => { l with ack := 3, durable := 5 }
     2 < u.led.ack ∧ u.led.durable < 6 ∧ u.led.ack ≤ 4 ∧ 4 ≤ u.led.durable ∧ (∀ x ∈ u.led.stored, 4 < x.r.seq)) := by
  delta State.hears State.hearsL; decide +kernel

/-- An energy channel with nothing read. -/
abbrev ec : EnergyChan :=
  { kind := 0, port := 1, master := 0, rem := 0, last := 5, missed := 0, now := none, retried := false, sum100 := 0, lastGood := 0, lost := false }

/-- A record of kind 2. -/
abbrev lr : LRec :=
  { kind := 2, flags := 0, seq := 1, methodOrigin := 0, epoch := 0, start := 0, stop := 0, tenant := 0, est := 0, job := 0, subjA := 0, subjB := 0,
    e1 := 0, e2 := 0, e3 := 0, e4 := 0, cntA := 0, cntB := 0, digest := 0 }
abbrev sr : SRec := { r := lr, prev := 0, sigR := 0, sigS := 0 }

/-- The units with changes to the Ledger. -/
abbrev ul (g : Ledger → Ledger) : Units := u0.upL g

theorem test_wit_ledger_ticks :
    (let u := ul fun l => { l with ready := true }
     u.bcn.pend = none ∧ u.led.ready = true ∧ u.led.gap = none ∧ u.led.epoch = u.clk.epoch ∧ u.led.calNext = none ∧ u.led.chans = [] ∧ (∀ p < 16, (u.ig p).active = false)) ∧
    (let u := ul fun l => { l with chans := [(3, ec)] }
     NMap.find u.led.chans 3 = some ec ∧ ec.sum100 < 1 ∧ 0 ≤ ec.sum100 ∧ u.led.cal.gains.getD 3 (0x3F800000, 0) = (0x3F800000, 0) ∧ ec.rem = 0 ∧ ec.retried = false) ∧
    (let x := { ec with retried := true, missed := 3 }
     NMap.find (ul fun l => { l with chans := [(3, x)] }).led.chans 3 = some x ∧ x.retried = true ∧ x.missed ≠ 0 ∧ x.lost = false) ∧
    u0.led.tick = u0.led.tickNo ∧
    (let u := ul fun l => { l with tickNo := 1 }
     u.led.tick ≠ u.led.tickNo ∧ u.led.chans = [] ∧ u.ember.work = [] ∧ (∀ p < 16, u.liveCtxs p = []) ∧ u.led.method = 0) ∧
    (let u := mounted u0
     u.led.epoch = u.clk.epoch ∧ u.coll.groups = [] ∧ u.storeFull = false ∧ u.intervalJobs = [] ∧ u.led.excess = []) := by
  decide +kernel

theorem test_wit_ledger_records :
    (let u := ul fun l => { l with toSign := [lr] }
     u.led.toSign = lr :: [] ∧ u.led.noSign = false ∧ (u.upL fun l => { l with noSign := true }).led.noSign = true) ∧
    (let u := ul fun l => { l with written := [sr] }
     u.led.written = sr :: [] ∧ sr.r.kind ≠ 1) ∧
    isOperator (stampPriv op.stamp) = true ∧
    (let u := (ul fun l => { l with stored := [sr] }).upT fun t => { t with mounted := true, enable := true }
     u.tal.mounted = true ∧ u.tal.enable = true ∧ u.led.stored ≠ []) ∧
    u0.led.stored = [] ∧ u0.led.written = [] ∧ u0.led.toSign = [] ∧ u0.led.charges = [] ∧ (ul fun l => { l with charges := [(9, 1, 2)] }).led.charges = [(9, 1, 2)] ∧
    (st u0).hearsL lh ∧ (NMap.getD (ul fun l => { l with applied := [(9, [4])] }).led.applied lh.src []).contains 4 = true ∧
    (NMap.getD u0.led.applied lh.src []).contains 4 = false ∧ u0.led.streams = [] ∧
    (∀ n ∈ [0, 3],
     let x : ChargeOut := { dst := 9, seq := 1, first := 0, charges := [], resends := n }
     ((ul fun l => { l with chargeOut := [x] }).led.chargeOut.find? fun x => x.dst = 9 && x.seq = 1) = some x) ∧
    ([3, 5, 3] : List Nat) ≠ [] ∧ (100 * 3 % sumL [3, 5, 3] = 100 * 3 % sumL [3, 5, 3] ∧ (0 : Nat) < 2) ∧ splitShares 100 [3, 5, 3] = [27, 46, 27] := by
  delta State.hearsL; decide +kernel

theorem test_wit_ledger_store_full : ∃ u : Units, u.led.epoch = u.clk.epoch ∧ u.coll.groups = [] ∧ u.storeFull = true :=
  ⟨u0, by decide +kernel⟩

/-- A recovery of job 7 at its coordinator, in phase `p`, and one at a member. -/
abbrev rc (p back : Nat) : Recovery :=
  { seq := 3, phase := p, back := back, members := [9], answers := [], point := 0, ready := [], failed := [], start := 0 }
abbrev mr : MemberRcv :=
  { seq := 3, coord := 9, epoch := 0, point := none, roll := false, failed := [], waitCtx := [], restore := [], before := none, gone := [], readySent := false, open_ := true }
abbrev uc (g : Rcv → Rcv) : Units := u0.upC g

/-- The units with a reload of shard 5 into port 1. -/
abbrev urr (s : Nat) : Units := (uk (jb 0) sd).upReload 1 fun r => { r with state := s, ctx := 2, shards := [5], step := 1, blocks := 4 }

theorem test_wit_recovery_messages :
    (st u0).hearsL lh ∧ u0.rcvStale 7 3 = false ∧
    (let u := uc fun x => { x with lastSeq := [(7, 9)], mem := [(7, { mr with seq := 9 })] }
     u.rcvStale 7 3 = true) ∧
    (let u := uc fun x => { x with coord := [(7, rc 0 0)] }
     NMap.find u.rcv.coord 7 = some (rc 0 0) ∧ (rc 0 0).seq = 3 ∧ (rc 0 0).seq ≠ 4 ∧ (rc 0 0).phase = 0) ∧
    (NMap.find (uc fun x => { x with coord := [(7, rc 2 0)] }).rcv.coord 7 = some (rc 2 0) ∧ (rc 2 0).phase = 2 ∧ (rc 2 0).phase ≠ 4) ∧
    (let u := held u0.role.keeperId (uc fun x => { x with coord := [(7, rc 4 1)] })
     u.isKeeper = true ∧ NMap.find u.rcv.coord 7 = some (rc 4 1) ∧ (rc 4 1).phase = 4 ∧ (rc 4 1).back ≠ 0) ∧
    (u0.rcv.reqs.find? fun r => r.1 = 300) = none ∧ Blk.bad blk = false ∧ crc64 blk.data = blk.crc ∧
    (st (uk (jb 0) sd)).holds 5 0 sd (jb 0) ∧ ((uk (jb 0) sd).jobB 7).isSome = true ∧ ((uk (jb 0) sd).shKey 5).isSome = true ∧ isOperator (stampPriv op.stamp) = true ∧
    (u0.rcv.spares.find? fun s => s.cid = 9 && s.port = 1) = none ∧ (u0.rcv.spares.filter fun s => s.group = 0).length < 8 := by
  delta State.hearsL State.holds; decide +kernel

theorem test_wit_recovery_spares :
    (let u := uc fun x => { x with prep := [(300, 1, [2])] }
     (u.rcv.prep.find? fun x => x.1 = 300 && x.2.1 = 1) = some (300, 1, [2]) ∧ [2] ≠ [] ∧
     (held u0.role.keeperId ((u.upC fun y => { y with prep := [] }).raise Ev.SPR_PREP_TIMEOUT 1 0x078 (payloadOf [(0, 3, u.self), (3, 1, 1), (4, 3, 300)]))).isKeeper = true) ∧
    (uc fun x => { x with holds := [300] }).rcv.holds.contains 300 = true ∧ (st ua).hears sh 0x18 ∧ ua.rcv.prep = [] ∧ (st (urr 2)).hears sh 0x0F ∧
    ((urr 1).reloadOf 1).state < 2 ∧ ((urr 3).reloadOf 1).state = 3 ∧ ((urr 3).reloadOf 1).shards.head? = some 5 ∧ ((urr 3).reloadOf 1).ctx = sh.ctx ∧
    (urr 3).shKey 5 = some 0 ∧
    (let r : CommitRec := { step := 1, shard := 5, job := 7, state := 6, flags := 0, prog := 1, epoch := 0, source := 0, writer := 0, buddy := 9, count := 1,
                            gradFp := 0, postFp := 77, goTime := 0, seq := 1, reported := 0, agreeing := 1, cursor := 0, commitTime := 0 }
     let u := (uk (jb 0) (sd fun x => { x with recB := [r] })).upReload 1 fun y => { y with state := 3, ctx := 2, shards := [5], step := 1, blocks := 4 }
     (u.reloadOf 1).state = 3 ∧ u.postFp 0 (u.reloadOf 1).step = some 77) ∧
    (let u := urr 2
     (u.ig sh.port).active = true ∧ sh.accGen = u.accGen sh.port ∧ sh.ctxGen = u.ctxGen sh.port sh.ctx ∧ u.fenced sh.port = false ∧ (5 : Nat) ≠ 0 ∧
     (u.reloadOf sh.port).state = 2 ∧ (u.reloadOf sh.port).shards.head? = some 5 ∧ (st u).holds 5 0 sd (jb 0) ∧ (sd).isBuddy = false ∧ 3 < (u.reloadOf sh.port).blocks) := by
  delta State.hears State.holds; decide +kernel

/-- An expert of a mode 2 shard; the mode 2 job with the shard, its region and its expert table. -/
abbrev ex : Expert := { tag := 0x20000004, fmt := 2, act := 0, dModel := 64, dFf := 64, off := 0 }
abbrev tb : EmbTable := { job := 7, experts := [ex], next := none }
abbrev ue (g : Ember → Ember := id) : Units := (uk (jb 2) (sd fun x => { x with buddy := u0.self })).upE g

/-- A stand-in entry in state `k`. -/
abbrev si (k : Nat) : StandIn :=
  { job := 7, shard := 5, cid := 300, ctx := 2, origin := 9, state := k, seq := 1, start := 0, cap := 0, taken := [], queue := [], served := 0, stops := [], unbind := false }

theorem test_wit_ember_commands :
    isOperator (stampPriv op.stamp) = true ∧
    (∃ (m : Mem) (u : Units) (k : Nat) (j : JobBind), ({ st u with mem := m } : State).holds 5 k (u.shAt k) j ∧ (u.shAt k).job = 7 ∧ j.mode = 2 ∧
      u.mayAccess Ag.grid pageBytes 32 false = true ∧ (u.shAt k).prot = 0 ∧ (u.shAt k).isBuddy = false ∧ (u.shAt k).buddy = u.self ∧ u.ember.entryOf 5 = none ∧
      (let es := ((List.range 1).map fun i => m.bytesAt (pageBytes + 32 * i) 32).filterMap expertOf
       es.length = 1 ∧ (es.all fun e => e.ok (4096 * (u.shAt k).layout)) = true ∧ (es.map (·.tag)).Nodup)) ∧
    NMap.find (ue fun e => { e with tables := [(5, tb)] }).ember.tables 5 = some tb ∧ tb.job = 7 ∧ ue.ember.entryOf 5 = none ∧
    (ue fun e => { e with entries := [(0, si 2)] }).ember.entryOf 5 = some (0, si 2) ∧ (si 2).job = 7 ∧ isOperator wo.priv = true ∧ ue.ember.enable = true ∧ ue.ember.entries = [] := by
  refine ⟨by decide, ⟨memPutAt Mem.reset um 3 0 (leBytes 4 0x20000004 ++ [2, 0] ++ leBytes 2 0 ++ leBytes 2 64 ++ leBytes 2 64 ++ List.replicate 20 0),
    { ue with mantle := um.mantle, wick := { ue.wick with shards := [(0, sd fun x => { x with buddy := u0.self, layout := 64 })] } }, 0, jb 2, ?_⟩, ?_⟩ <;>
  (try delta State.holds) <;> decide +kernel

/-- A token set of that expert from T3 9, with one reference. -/
abbrev ts : TokSet := { src := 9, tag := 0x20000004, seq := 1, set := 6, refs := [1], vecs := [0, 0] }
abbrev fw : EmbFwd := { port := 1, ctx := 2, hseq := 0, tag := 0x20000004, seq := 1, set := 6, k := 1, buddy := 9 }
abbrev er : EmbRoute := { job := 7, shard := 5, cid := 300, ctx := 2, seq := 1, mode := 0, tags := [0x20000004] }

theorem test_wit_ember_messages :
    (st ue).hearsL lh ∧ embReason State.reset.mem ue 7 5 = some 1 ∧ lh.src ≠ ue.self ∧ ue.isKeeper = false ∧
    (let u := (ue fun e => { e with tables := [(5, tb)], inst := 1 }).upIg 1 fun g => { g with features := 0x3FF }
     let u := u.upSh 0 fun x => { x with curStep := some 1, buddy := 9, roles := 3 }
     embReason State.reset.mem u 7 5 = none ∧ u.ember.inst = 1 ∧ NMap.firstFree u.ember.entries 16 = some 0) ∧
    NMap.find (ue fun e => { e with tables := [(5, tb)] }).ember.tables 5 = some tb ∧
    ((ue fun e => { e with entries := [(0, si 2)] }).ember.entries.find? fun e => e.2.shard = 5 && e.2.job = 7 && e.2.cid = (si 2).cid && e.2.ctx = (si 2).ctx) = some (0, si 2) ∧
    (ue.ember.parts.find? fun p => p.key = 2 ^ 20 + lh.src && p.set = 6) = none ∧ bitAt lh.flags 1 = false ∧ bitAt ({ lh with flags := 2 } : LHdr).flags 1 = true ∧
    (st ue).hearsL { lh with flags := 2 } ∧
    ((ue fun e => { e with fwds := [fw] }).ember.fwds.find? fun f => f.buddy = lh.src && f.tag = 0x20000004 && f.seq = 1 && f.set = 6) = some fw ∧
    (ue.ember.fwds.find? fun f => f.buddy = lh.src && f.tag = 0x20000004 && f.seq = 1 && f.set = 6) = none ∧
    (st ue).hears sh 0x1A ∧ bitAt sh.flags 1 = false ∧ (ue.ember.parts.find? fun p => p.key = 64 * sh.port + sh.ctx && p.set = 6) = none ∧
    ((ue.upE fun x => { x with parts := [] }).ember.routes.find? fun r => r.seq = 1 + r.mode && r.tags.contains 0x20000004) = none := by
  delta State.hears State.hearsL; decide +kernel

theorem test_wit_ember_sets :
    (∀ b ∈ [9, u0.self],
     let u := (ue fun e => { e with tables := [(5, tb)], routes := [er], parts := [] }).upSh 0 fun x => { x with buddy := b }
     (u.ember.routes.find? fun r => r.seq = 1 + r.mode && r.tags.contains 0x20000004) = some er ∧ [1].length = 1 ∧
     (∃ n ∈ [0, 64, 128, 256, 512], u.setLenOk er 0x20000004 1 n = true) ∧ u.buddyOf er = b) := by
  decide +kernel

theorem test_wit_ember_timers :
    (let e : StandIn := { si 2 with queue := [ts] }
     let u := ue fun x => { x with inst := 2, entries := [(0, e)] }
     u.ember.inst = 2 ∧ u.ember.batch = none ∧ u.ember.waiting = (0, 0x20000004) :: [] ∧ NMap.find u.ember.entries 0 = some e) ∧
    (ue fun x => { x with batch := some (0, [ts]) }).ember.batch = some (0, [ts]) ∧ ts.refs ≠ [] ∧
    (ue.ember.fwds.filter fun f => f.port = 1 && f.ctx = 2 && f.set = 6) = [] ∧
    ((ue fun e => { e with fwds := [fw] }).ember.fwds.filter fun f => f.port = 1 && f.ctx = 2 && f.set = 6) = [fw] ∧
    NMap.find (ue fun e => { e with entries := [(0, si 3)] }).ember.entries 0 = some (si 3) ∧ (si 3).state = 3 ∧ (si 3).queue = [] ∧ (si 3).stops = [] ∧
    (si 3).unbind = false ∧ ue.ember.batch = none ∧
    (let u := (ue fun e => { e with inst := 2 }).setCfg 0xE03000 1
     u.ember.entries = [] ∧ u.ember.inst = 2 ∧ bitAt (u.cfg 0xE03000 1) 1 = false) := by
  decide +kernel

/-- T3 8 with its warden role (level 5 of a rack: level 3) changed. -/
abbrev u8 : Units := { u0 with self := 8 }
abbrev wid : Nat := u0.role.wardenId
abbrev kid : Nat := u0.role.keeperId
abbrev ur (g : RoleSt → RoleSt) : Units := u8.upRole wid g

theorem test_wit_leases :
    (let u := ur fun r => { r with holding := true, waiting := true, pilot := 9, rebuilding := true }
     (u.roleOf wid).holding = true ∧ (u.roleOf wid).stopped = false ∧ (u.roleOf wid).waiting = true ∧ (u.roleOf wid).pilot ≠ 0 ∧ (u.roleOf wid).rebuilding = true) ∧
    (let u := ur fun r => { r with witness := 8, wHolder := 9, cands := [9] }
     (st u).judges lh wid 0 ∧ (u.roleOf wid).wHolder = lh.src ∧ lh.src ≠ 0 ∧ (∀ x ∈ (u.roleOf wid).stores, x.kind = 0) ∧ (u.roleOf wid).cands.head? = some 9 ∧
     0 = (u.roleOf wid).epoch ∧ (u.roleOf wid).wLeased = false ∧ (∀ x ∈ (u.roleOf wid).stores, x.kind ≠ 1)) ∧
    (let u := ur fun r => { r with witness := 8, wHolder := 7, wLeased := true }
     (st u).judges lh wid 0 ∧ (u.roleOf wid).wHolder ≠ lh.src ∧ (u.roleOf wid).wHolder ≠ 0 ∧ (u.roleOf wid).wLeased = true ∧ u.self = (u.roleOf wid).witness ∧
     (u.roleOf wid).wAsking = none ∧ u.self ≠ 0) ∧
    (let u := (ur fun r => { r with witness := 8, cands := [9] }).upR fun x => { x with topo := [(9, 1)] }
     (st u).judges lh wid 0 ∧ (u.roleOf wid).wHolder = 0 ∧ u.firstCand (u.roleOf wid) [] = some lh.src) ∧
    ((ur fun r => { r with acting := true, wLeased := true, wAsking := some 9 }).roleOf wid).wAsking = some 9 := by
  delta State.judges State.hearsL; decide +kernel

theorem test_wit_grants :
    (let f := fun (u : Units) => u.upRole wid fun r => { r with wepoch := 1 }
     (st u8).hearsWit lh wid 1 ∧
     (let u := f (ur fun r => { r with holding := true, waiting := true, reqSeq := 4 })
      (u.roleOf wid).holding = true ∧ (u.roleOf wid).stopped = false ∧ 0 = (u.roleOf wid).epoch ∧ (u.roleOf wid).waiting = true ∧ 4 = (u.roleOf wid).reqSeq) ∧
     ((f u8).roleOf wid).epoch < 1 ∧ ((f u8).roleOf wid).holding = false ∧ ((f u8).role.role.all fun p => p.1 = wid || !p.2.holding) = true ∧
     (let x : StoreOut := { seq := 4, kind := 0, epoch := 1, holder := 9, reqSeq := 1 }
      ((f (ur fun r => { r with stores := [x] })).roleOf wid).stores.find? (fun x => x.seq = 4) = some x) ∧
     ((f u8).roleOf wid).cands = [] ∧ 0 ≤ ((f u8).roleOf wid).epoch) ∧
    (let u := u8.upRole 0x30000000 fun r => { r with wepoch := 1 }
     (u.roleOf 0x30000000).epoch < 1 ∧ (u.roleOf 0x30000000).cands = [] ∧ roleLevel 0x30000000 = 5 ∧ (st u8).hearsWit lh 0x30000000 1) ∧
    (let u := ur fun r => { r with witness := 8, standby := 9 }
     (u.roleOf wid).witness = u.self ∧ u.self ≠ 0 ∧ (u.roleOf wid).standby ≠ 0) ∧
    (let u := ur fun r => { r with standby := 8 }
     (u.roleOf wid).standby = u.self ∧ (u.roleOf wid).acting = false) ∧
    (∀ n ∈ [0, 2],
     let u := ur fun r => { r with pilot := 8, misses := n }
     (u.roleOf wid).pilot = u.self ∧ (u.roleOf wid).holding = false ∧ (u.roleOf wid).misses = n ∧ (u.roleOf wid).asked = false) ∧
    (u8.roleOf wid).vacant = false ∧
    (let u := ur fun r => { r with epoch := 3, wepoch := 3 }
     (st u).hearsL lh ∧ lDrill lh = false ∧ 2 < (u.roleOf wid).epoch ∧ 2 < (u.roleOf wid).wepoch) := by
  delta State.hearsWit State.hearsL; decide +kernel

theorem test_wit_journals_routes :
    (st u8).hearsRole lh wid 0 ∧ (u8.roleOf wid).jpos = 0 ∧ (u8.roleOf wid).jpos ≠ 1 ∧ (u8.roleOf wid).holding = false ∧ lResp lh = false ∧
    (let u := ur fun r => { r with holding := true, pilot := 9 }
     (u.roleOf wid).holding = true ∧ (u.roleOf wid).stopped = false ∧ (u.roleOf wid).pilot ≠ 0) ∧
    (st u8).hearsRole lh u8.role.keeperId (u8.roleOf u8.role.keeperId).epoch ∧ u8.role.routeVer = 0 ∧ 0 ≤ u8.role.routeVer ∧ 1 = u8.role.routeVer + 1 ∧ u8.role.routeVer + 1 < 2 ∧
    (st u8).hearsRole lh (u8.soRole 0) (u8.roleOf (u8.soRole 0)).epoch ∧ soCheck (u8.soTable 0).version 1 0 true false [] ≠ St.OK ∧
    (u8.roleOf (u8.soRole 0)).holding = false ∧
    soCheck (u8.soTable 0).version 1 0 true true [] = St.OK ∧
    (let u := (held (u8.soRole 0) u8).soTake 0 1 []
     (u.roleOf (u.soRole 0)).holding = true) := by
  delta State.hearsRole State.hearsL; decide +kernel

theorem test_wit_warden_sets :
    (st u8).hearsRole lh u8.role.wardenId (u8.roleOf u8.role.wardenId).epoch ∧
    (let f := fun (ps : List (Nat × Nat)) => (u8.upR fun x => { x with setVer := 1 }).upR fun x => { x with pairing := ps.foldl (fun m p => NMap.set m p.1 p.2) [], pairVer := 1 }
     NMap.find (f []).role.pairing (f []).self = none ∧ NMap.find (f [(8, 9)]).role.pairing (f [(8, 9)]).self = some 9 ∧
     NMap.find u8.role.pairing u8.self = none) ∧
    (u8.role.pooling.filter fun p => p.1 = 7 && p.2.1 = 5) = [] ∧
    (let u1 : Units := ({ u8 with mantle := um.mantle }).upR fun x => { x with setVer := 1 }
     let mk := fun (t : Nat) => ({ typ := t, hostVisible := false, pooled := true, quiet := false, job := 7, ownerCid := 0, ownerCtx := 0xFF,
                                   ownerKind := 3, gen := 0, mask := 0x1FC, pages := [] } : Region)
     (u1.allocRegion (mk 2) 1).2 = some 0 ∧ ((u1.allocRegion (mk 2) 1).1.allocRegion (mk 3) 1).2 = some 1) ∧
    (let u := held wid u8
     u.heldRole = some wid ∧ (st u).hearsRole lh wid (u.roleOf wid).epoch) ∧
    (let e : RouteEntry := { rt with target := 9 }
     let u := (held kid (u8.upR fun r => { r with routes := [(300, e)] })).upWatch 9 fun w => { w with failed := true, probing := false }
     (u.roleOf u.role.keeperId).holding = true ∧ u.positionsOf 9 = [e]) ∧
    (u8.roleOf u8.role.keeperId).holding = false ∧
    (let u := held wid u8
     (u.roleOf u.role.wardenId).holding = true ∧ (NMap.getD u.role.watch 9 T3Watch.reset).failed = false ∧ (NMap.getD u.role.watch 9 T3Watch.reset).misses < 4) ∧
    (let u := (held wid u8).upR fun r => { r with watch := [(9, { T3Watch.reset with misses := 4 })] }
     4 ≤ (NMap.getD u.role.watch 9 T3Watch.reset).misses ∧ (NMap.getD u.role.watch 9 T3Watch.reset).probing = false) ∧
    (let u := (held wid u8).upR fun r => { r with watch := [(9, { T3Watch.reset with probing := true })] }
     (NMap.getD u.role.watch 9 T3Watch.reset).probing = true ∧ (NMap.getD u.role.watch 9 T3Watch.reset).failed = false) := by
  delta State.hearsRole State.hearsL; decide +kernel

theorem test_wit_keys :
    (st u8).hearsRole lh u8.role.keeperId (u8.roleOf u8.role.keeperId).epoch ∧ NMap.find u8.role.keks lh.src = none ∧
    NMap.find (u8.upR fun r => { r with keks := [(9, 77)] }).role.keks lh.src = some 77 ∧ NMap.find u8.role.keys 4 = none ∧
    ((held kid u8).roleOf u8.role.keeperId).holding = true ∧ ((held kid u8).roleOf u8.role.keeperId).stopped = false ∧ (u8.roleOf u8.role.keeperId).vacant = false := by
  delta State.hearsRole State.hearsL; decide +kernel

/-- The lighthouse role, which T3 8 holds, with one version admitted. -/
abbrev lhs : Units := (held 0x30000000 u8).upR fun r => { r with admitted := [3, 4] }

theorem test_wit_admission :
    (st lhs).hearsL lh ∧ (lhs.roleOf 0x30000000).holding = true ∧ lhs.role.admitted.contains 5 = false ∧ lhs.role.admitted.contains 4 = true ∧
    (7 &&& lhs.role.featSet) = lhs.role.featSet ∧ 0 ≤ u8.role.featEpoch ∧ u8.role.featEpoch < 1 ∧ u8.role.featCmds = [] ∧
    (u8.roleOf u8.role.keeperId).holding = false ∧ ((held kid u8).roleOf u8.role.keeperId).holding = true ∧ lResp { lh with flags := 1 } = true ∧
    (st u8).hearsL { lh with flags := 1 } ∧ (st u8).hearsRole lh wid 0 ∧ (st u8).hearsRole lh 0x30000000 (u8.roleOf 0x30000000).epoch ∧
    ((u8.upR fun r => { r with topo := [(9, 1)] }).hop 9) = some 17 ∧
    (let u := lhs.upR fun r => { r with rollout := some (0, 4, 6), featNext := some (1, 3) }
     u.role.rollout = some (0, 4, 6) ∧ (u.roleOf 0x30000000).holding = true ∧ u.role.rolloutHold = false ∧ u.role.featNext = some (1, 3) ∧
     bitAt ((u.role.featNext.map (·.2)).getD u.role.featSet) 1 = true ∧ (1 : Nat) < 256) ∧
    ((held wid u8).roleOf u8.role.wardenId).holding = true ∧ isOperator (stampPriv op.stamp) = true := by
  delta State.hearsRole State.hearsL; decide +kernel

theorem test_wit_drills :
    (let u := ur fun r => { r with pilot := 8, drillHours := 24, drillOut := [(1, 9, 0)] }
     (u.roleOf wid).pilot = u.self ∧ (u.roleOf wid).drillHours ≠ 0 ∧ ((u.roleOf wid).drillOut.any fun x => x.1 = 1 && x.2.1 = 9) = true ∧
     ((u.role.role.find? fun p => p.2.drillOut.any fun x => x.2.2 = 0 && x.2.1 = lh.src).map (·.1)) = some wid ∧ (u.roleOf wid).pilot ≠ 0) ∧
    (let u := ur fun r => { r with holding := true, home := true, cands := [9], pilot := 9, wPilotReady := true }
     (u.roleOf wid).holding = true ∧ (u.roleOf wid).home = true ∧ (u.roleOf wid).cands.head? = some (u.roleOf wid).pilot ∧ (u.roleOf wid).wPilotReady = true ∧
     (u.roleOf wid).stopped = false ∧ (u.roleOf wid).pilot ≠ 0 ∧ (u.roleOf wid).pilot ≠ u.self) ∧
    (let u := ur fun r => { r with holding := true, stopped := true }
     (u.roleOf wid).holding = true ∧ (u.roleOf wid).stopped = true ∧ (u.roleOf wid).rebuilding = false) ∧
    roleIdOk wid = true ∧ (24 : Nat) ≤ 8760 ∧ (u8.roleOf wid).pilot = 0 := by
  decide +kernel

/-- A held standing-order action. -/
abbrev ha : HeldAct :=
  { id := 1, entry := { trigger := 0x100, level := 4, cls := 0, action := 1, flags := 0, scope := 0, a := 0, b := 0, timeout := 5 }, tgt := Target.none, level := 4, timed := true }

theorem test_wit_standing_orders :
    (let b := leBytes 4 1 ++ leBytes 2 0 ++ [0, 1] ++ List.replicate 120 0
     let m := memPutAt Mem.reset um 3 0 b
     let d := m.bytesAt pageBytes (min 128 131200)
     let f := fun o n => leNat ((d.drop o).take n)
     um.mayAccess Ag.lamp pageBytes 128 false = true ∧ um.poisoned pageBytes 128 = false ∧ f 4 2 ≤ 4096 ∧ 128 = 128 + 32 * f 4 2 ∧ f 6 1 ≤ 1 ∧ f 7 1 ≠ 0 ∧ f 7 1 ≤ 16 ∧
     f 6 1 ≠ 1 ∧ soCheck (um.soTable (f 6 1)).version (f 0 4) (f 6 1) true true [] = St.OK ∧ soCheck (um.soTable (f 6 1)).version (f 0 4) (f 6 1) false true [] ≠ St.OK ∧
     ((held kid um).roleOf (um.soRole (f 6 1))).holding = true) ∧
    (u8.upR fun r => { r with held := [ha] }).heldAct 1 = some ha ∧ ha.timed = true ∧ u8.heldAct 1 = none := by
  decide +kernel

/-- An image of a shadow program (activity 8, program 0x100) of one taper, its layout declaration: one binary32 component. -/
abbrev simg : List Nat :=
  leBytes 4 0x31494759 ++ [1, 1, 8, 0] ++ leBytes 2 1 ++ leBytes 2 1 ++ leBytes 2 1 ++ [4, 0] ++ leBytes 2 0x100 ++ leBytes 2 1 ++ leBytes 4 256 ++
    leBytes 4 264 ++ leBytes 4 320 ++ List.replicate 224 0 ++ leBytes 4 0 ++ leBytes 2 0 ++ leBytes 2 1 ++
    leBytes 4 280 ++ leBytes 4 40 ++ leBytes 4 0x5EF00 ++ leBytes 4 0 ++ [1, 1] ++ List.replicate 38 0

/-- Its program entry, and the units in which it is registered, with the image at region 3. -/
abbrev pe : ProgEntry := { id := 0x100, version := 1, flags := 24, comps := 1, region := 3, offset := 0, tapers := 0, fmts := [1] }
abbrev up2 : Units := { um with wick := { um.wick with progs := [(0, pe)] } }

theorem test_wit_shadow_programs :
    (up2.wick.progs.find? fun e => e.2.id = 0x100) = some (0, pe) ∧ bitAt pe.flags 0 = false ∧ (∀ j ∈ up2.wick.jobs, j.2.mode = 0 → j.2.prog ≠ 0x100) ∧
    um.mayAccess Ag.wick pageBytes 256 false = true ∧ um.jobB 7 = none ∧
    (let o : OpenStep := { OpenStep.new 1 4 with verdict := 1 }
     let x := sd fun x => { x with roles := 2, opens := [o] }
     (st (uk (jb 0) x)).holds 5 0 x (jb 0) ∧ x.job = 7 ∧ x.step? 1 = some o ∧ x.isBuddy = true ∧ o.verdict = 1 ∧ 0 < x.count) ∧
    (let m := memPutAt Mem.reset um 3 0 simg
     let h := memGetAt m um 3 0 256
     (NMap.find um.mantle.regions 3).isSome = true ∧ imageCheck m um 3 0 = St.OK ∧ h.getD 6 0 = 8 ∧ (imageBytes m um 3 0 1 0x5EF00 32).map layoutOk = some true ∧
     0x100 ≤ fieldAt h 16 2 ∧ fieldAt h 16 2 ≠ 0xFFFF ∧ um.progOf (fieldAt h 16 2) = none ∧ NMap.firstFree um.wick.progs 16 = some 0) ∧
    (let x : ShItem := { want := [], index := 0, sparse := false, first := 0, count := 1, touch := 0, state := 1, fp := 0, taper := 0 }
     let o : OpenStep := { OpenStep.new 1 3 with items := [x] }
     let y := sd fun x => { x with roles := 2, opens := [o] }
     let u := (uk (jb 0) y).upInst 7 fun i => { i with state := 2, slot := 3, reload := true }
     (st u).holds 5 0 y (jb 0) ∧ (u.inst y.job).slot < 64 ∧ y.step? 1 = some o ∧ o.state = 3 ∧ o.seeding = false ∧ (o.items.find? fun i => i.index = 0) = some x ∧
     x.state < 2 ∧ (u.inst 7).state = 2 ∧ (u.inst 7).reload = true ∧ (u.inst 7).queue = [] ∧ (u.inst 7).running = []) := by
  delta State.holds; decide +kernel

theorem test_wit_shadow_qualify :
    (let q : Qualify := { cmd := op, prog := 0x100, set := 3, slot := 3, buddy := 4, staging := 5, vec := 0 }
     let u : Units := { up2 with wick := { up2.wick with qualify := some q } }
     u.shKey 5 = none ∧ u.wick.qualify = some q ∧ q.slot < 64 ∧ u.progOf q.prog = some pe) ∧
    (let m := memPutAt (memPutAt Mem.reset up2 3 0 simg) up2 4 0 (leBytes 4 1 ++ List.replicate 284 0 ++ leBytes 8 4096 ++ List.replicate 56 0)
     let v := (variantsAt m up2 pe.region 8 pe.id 8 pe.offset).foldl
          (fun (o : Option (Nat × Nat)) v => match o with | some b => if v.1 < b.1 then some v else some b | none => some v) none
     let a := up2.allocRegion (wickRegion 2 0) (4096 * layoutBlocks 4096 pe.fmts)
     let b := a.1.allocRegion (wickRegion 3 0) (4 * 4096)
     up2.progOf 0x100 = some pe ∧ up2.wick.qualify = none ∧ v = some (1, 0) ∧ a.2.isSome = true ∧ b.2.isSome = true ∧
     (b.1.loadInto m pe.region 0 0 none 0xFFFFFFFF 0xFFFFFFFF (List.replicate (max 4 ((memGetAt m up2 pe.region 0 256).getD 14 0)) 0xFFFF)
        .qualify { code := 0x0501, cmd := none }).2 = St.OK) := by
  decide +kernel

/-- A group of T3 8 and T3 9 with the health flag; a barrier of it, its open call, and a round message of the other member. -/
abbrev cg : CollGroup :=
  { id := 5, epoch := 1, members := [8, 9], rank := 0, flags := 2, threshold := 64, job := 0, period := 100, next := [], lastOk := [], worst := 0, total := [0, 0, 0, 0, 0] }
abbrev cs : CollSig := { group := 5, epoch := 1, seq := 3, op := 1, typ := 0, root := 0, count := 0 }
abbrev cc : CollCall :=
  { sig := cs, num := 0, members := [8, 9], rank := 0, gate := false, threshold := 64, caller := 0, cmd := none, outR := 3, outOff := 0, timeout := 1000, running := false,
    step := 0, sent := false, buf := [], msgs := [], heard := 0, t0 := 0, worst := 0, ab := none, abGot := [], cancels := [] }
abbrev cm : CollMsg := { sig := cs, num := 0, round := 0, phase := 0, rank := 1, off := 0, data := [] }
abbrev ca : CollAb := { status := 0x305, detector := 1, named := 1, differ := cs, bitmap := 2, round := 0 }

/-- The units with that group and these calls. -/
abbrev ux (l : List CollCall) : Units := ({ u8 with mantle := um.mantle }).upX fun x => { x with groups := [(0, cg)], open_ := l }

theorem test_wit_groups :
    (let m := memPutAt Mem.reset um 3 0 (leBytes 4 8 ++ leBytes 4 9)
     let u : Units := { u8 with mantle := um.mantle }
     let ms := (elemsOf 4 2 (m.bytesAt pageBytes 8)).map fun x => x % 2 ^ 24
     isOperator (stampPriv op.stamp) = true ∧ distinct ms = true ∧ ms.contains u.self = true ∧ bitAt 2 1 = true ∧ u.mayAccess 8 pageBytes (4 * 2) false = true ∧
     u.coll.enable = true ∧ bitAt 2 0 = false ∧ u.jobB 7 = none ∧ u.coll.find 5 = none ∧ NMap.firstFree u.coll.groups 1024 = some 0) ∧
    (ux []).coll.find 5 = some (0, cg) ∧ cg.epoch < 2 ∧ (∀ x ∈ (ux []).coll.open_, x.sig.group ≠ 5) ∧ bitAt cg.flags 0 = false := by
  decide +kernel

theorem test_wit_calls :
    (ux []).mayGroup op (some cg) = true ∧ (ux []).coll.enable = true ∧ (ux []).coll.find cs.group = some (0, cg) ∧ (ux []).coll.endedAs cs = none ∧
    ((ux []).upX fun x => { x with ended := [(cs, 0, ca)] }).coll.endedAs cs = some ca ∧ cs.epoch = cg.epoch ∧ cs.space = 0 ∧
    NMap.find cg.lastOk cs.space = none ∧ collPaired cs.op cs.typ cs.count = true ∧ cs.size ≤ 2 ^ 26 ∧
    (let r := collRanges cs cg.members.length cg.rank
     (NMap.find (ux []).mantle.regions 3).isSome = true ∧ (ux []).inRegion 3 0 r.2 = true ∧
     ((NMap.find (ux []).mantle.regions 3).map fun x => maskGrants x.mask 8 true) = some true ∧ (ux []).coll.open_.length < 256) ∧
    (ux [cc]).mayGroup op (((ux [cc]).coll.find 5).map (·.2)) = true ∧
    ((ux [cc]).coll.open_.find? fun x => x.sig.group = 5 && x.sig.seq = 3 && x.caller ≠ 4) = some cc ∧ cc.ab = none ∧
    (let y : CollCall := { cc with ab := some ca }
     ((ux [y]).coll.open_.find? fun x => x.sig.group = 5 && x.sig.seq = 3 && x.caller ≠ 4) = some y ∧ y.ab ≠ none) := by
  decide +kernel

theorem test_wit_rounds :
    (st (ux [cc])).hearsL lh ∧ (ux [cc]).coll.find cm.sig.group = some (0, cg) ∧ (ux [cc]).coll.match_ cm.sig cm.num = some cc ∧ cc.ab = none ∧
    (∀ y ∈ cc.msgs, ¬(y.round = cm.round ∧ y.phase = cm.phase ∧ y.rank = cm.rank ∧ y.off = cm.off)) ∧
    (∀ t ∈ cc.plan.take cc.step, ¬(t.phase = cm.phase ∧ t.round = cm.round ∧ t.from_.map (·.1) = some cm.rank)) ∧
    cm.sig = cc.sig ∧ cc.running = false ∧ ({ cm with sig := { cs with count := 1 } } : CollMsg).sig ≠ cc.sig ∧
    (ux [cc]).coll.match_ ({ cm with sig := { cs with count := 1 } } : CollMsg).sig cm.num = some cc ∧
    (let y : CollCall := { cc with running := true }
     (ux [y]).coll.match_ cm.sig cm.num = some y ∧ y.running = true) ∧
    (let y : CollCall := { cc with msgs := [cm] }
     (ux [y]).coll.match_ cm.sig cm.num = some y ∧ cm ∈ y.msgs) ∧
    (ux []).coll.match_ cm.sig cm.num = none ∧ NMap.getD cg.next cm.sig.space 0 ≤ cm.num ∧ cm.num ≤ (ux []).coll.base cg cm.sig.space + 2 ∧ (ux []).coll.held = [] ∧
    cc.caller ≠ 4 ∧ ((ux [cc]).coll.open_.find? fun c => c.isCall 5 0 0) = some cc ∧
    (let y : CollCall := { cc with ab := some ca }
     (ux [y]).coll.match_ cs 0 = some y ∧ y.ab ≠ none ∧ ((ux [y]).coll.open_.find? fun c => c.isCall 5 0 0) = some y) := by
  delta State.hearsL; decide +kernel

theorem test_wit_health :
    (let u := (ux []).upK fun c => { c with locked := true }
     let ms := u.clk.sec * 1000 + u.clk.ns / 10 ^ 6
     let q : CollSig := { group := 5, epoch := cg.epoch, seq := 2 ^ 63 + ms / cg.period, op := 1, typ := 0, root := 0, count := 0 }
     u.coll.find 5 = some (0, cg) ∧ u.clk.locked = true ∧ bitAt cg.flags 1 = true ∧ cg.period ≠ 0 ∧ u.coll.enable = true ∧ u.coll.open_.length < 256 ∧
     u.coll.endedAs q = none ∧ NMap.find cg.lastOk q.space = none ∧ isOperator wo.priv = true ∧ (∀ g ∈ NMap.vals u.coll.groups, bitAt g.flags 0 = false)) := by
  decide +kernel

/-- Tallow mounted, one die of four blocks of eight pages. -/
abbrev ut2 (g : Tallow → Tallow := id) : Units :=
  um.upT fun t => g { t with mounted := true, enable := true, channels := 1, dies := 1, blocksPer := 4, pagesPer := 8, sizes := [0, 100, 100, 100] }

/-- An operation of kind `k` for reason `w` at page 0 of block 0, and a write whose copy it is. -/
abbrev nop (k w : Nat) (c : Option Cmd) : NandOp :=
  { kind := k, place := { die := 0, block := 0, page := 0 }, why := w, ref := 4, region := 1, cmd := c, addr := pageBytes }
abbrev twr : TWrite :=
  { id := 4, kind := 0, region := 1, chunk := 0, pages := 1, seq := 1, owner := 1, copies := [{ place := { die := 0, block := 0, page := 0 }, state := 1 }], entries := [],
    after := [], cmds := [] }

theorem test_wit_tallow_commands :
    isOperator (stampPriv op.stamp) = true ∧ (ut2).tal.mounted = true ∧ (ut2).tal.enable = true ∧ (ut2).tal.inGeom 0 0 = true ∧ (ut2).tal.mappedIn 0 0 = false ∧
    (0 : Nat) < (ut2).tal.pagesPer ∧ (ut2).mayAccess 4 pageBytes 16384 true = true ∧ (ut2).mayAccess 4 pageBytes 16384 false = true ∧
    (ut2 fun t => { t with erased := [(blkKey 0 0, 255)] }).tal.isErased { die := 0, block := 0, page := 0 } 1 = true ∧
    (ut2).tal.isErased { die := 0, block := 0, page := 0 } 1 = false ∧ (5 : Nat) < (ut2).tal.sizes.getD 1 0 ∧ (ut2).tal.wear ≠ 2 ∧ isOperator wo.priv = true := by
  decide +kernel

theorem test_wit_nand :
    (let u := ut2 fun t => { t with ops := [nop 0 0 none], writes := [twr] }
     u.tal.opAt 0 { die := 0, block := 0, page := 0 } = some (nop 0 0 none) ∧ (u.tal.writes.find? fun w => w.id = (nop 0 0 none).ref) = some twr) ∧
    (let u := ut2 fun t => { t with ops := [nop 0 2 (some op)] }
     u.tal.opAt 0 { die := 0, block := 0, page := 0 } = some (nop 0 2 (some op)) ∧ (nop 0 2 (some op)).cmd = some op) ∧
    (let u := ut2 fun t => { t with ops := [nop 1 0 none], writes := [twr] }
     u.tal.opAt 1 { die := 0, block := 0, page := 0 } = some (nop 1 0 none) ∧ (u.tal.writes.find? fun w => w.id = (nop 1 0 none).ref) = some twr) ∧
    ((twr.copies.map fun c => if c.place = { die := 0, block := 0, page := 0 } then { c with state := 2 } else c).all fun c => c.state = 2) = true ∧
    (let x : TWrite := { twr with copies := { place := { die := 1, block := 0, page := 0 }, state := 0 } :: twr.copies }
     ((x.copies.map fun c => if c.place = { die := 0, block := 0, page := 0 } then { c with state := 2 } else c).all fun c => c.state = 2) = false) ∧
    (ut2 fun t => { t with ops := [nop 1 2 (some op)] }).tal.opAt 1 { die := 0, block := 0, page := 0 } = some (nop 1 2 (some op)) ∧
    (ut2 fun t => { t with ops := [nop 2 2 (some op)] }).tal.opAt 2 { die := 0, block := 0, page := 0 } = some (nop 2 2 (some op)) ∧
    (ut2 fun t => { t with ops := [nop 2 3 none] }).tal.opAt 2 { die := 0, block := 0, page := 0 } = some (nop 2 3 none) ∧
    (let t := (ut2 fun t => { t with blocks := [(1, { state := 2, tlc := false, erases := 0, wp := 8 })] }).tal
     t.mounted = true ∧ t.gc = none ∧ t.pwrFail = false ∧
     (if ((NMap.vals t.blocks).filter fun b => b.tlc = false && b.state = 0).length < bits (ut2.cfg 0xB0000C 64) 9 0 then t.gcBlock false else t.levelBlock false) = some 1) := by
  decide +kernel

/-- A log entry of sequence `n`; the Chimney changed. -/
abbrev le (n : Nat) : LogEntry :=
  { er := { code := 0x100, level := 2, src := 0xC0, count := 1, opTime := 0, cycles := 0, flags := 0, sec := 0, ns := 0, payload := 0 }, origin := 8, epoch := 0, seq := n, mono := 0 }
abbrev uch (g : Chim → Chim) : Units := { u8 with chim := g u8.chim }

/-- A forwarding window of `n` events, a forward sent `n` times again, an export ring with room, and a trace ring. -/
abbrev fwn (n : Nat) : FwdWin := { step := 2, evLevel := 2, code := 0x100, origin := 8, src := 0xC0, count := n, lenMs := 100 }
abbrev fwo (n : Nat) : FwdOut := { seq := 7, dst := 0x30000000, entries := [le 1], resends := n }
abbrev uex (e : Bool) : Units :=
  ((uch fun x => { x with exportRing := some 9 }).setCfg 0xC00010 1).setDesc 9 { u8.desc 9 with kind := 2, sizeCode := 1, countLog2 := 6, enable := e }

theorem test_wit_events :
    ((uch fun x => x).chim.bucket 5).heldRec = none ∧ ((uch fun x => x.setBucket 5 { Bucket.reset with spent := 3 }).chim.bucket 5).spent ≠ 0 ∧
    ((uch fun x => x).chim.bucket 5).spent = 0 ∧
    (let x := (uch fun x => x.setBucket 5 { Bucket.reset with spent := 3, held := 4, heldRec := some (le 2) }).chim
     (x.bucket 5).heldRec = some (le 2)) ∧
    (let x := (uch fun x => { x with log := [le 1, le 2], unitSeq := 1 }).chim
     ((x.log.filter fun (e : LogEntry) => x.unitSeq < e.seq).take 1024).getLast? = some (le 2)) ∧
    findWin (uch fun x => { x with wins := [fwn 0] }).chim.wins 2 0x100 8 0xC0 = some (fwn 0) ∧ (fwn 0).count = 0 ∧
    findWin (uch fun x => { x with wins := [fwn 3] }).chim.wins 2 0x100 8 0xC0 = some (fwn 3) ∧ (fwn 3).count ≠ 0 ∧
    u8.heldRole = none ∧ (held kid u8).heldRole = some kid ∧
    ((uch fun x => { x with fwdOut := [fwo 2] }).chim.fwdOut.find? fun f => f.seq = 7) = some (fwo 2) ∧ (fwo 2).resends < 3 ∧
    ((uch fun x => { x with fwdOut := [fwo 3] }).chim.fwdOut.find? fun f => f.seq = 7) = some (fwo 3) ∧ 3 ≤ (fwo 3).resends := by
  decide +kernel

theorem test_wit_trace :
    bits ((uex true).cfg 0xC00010 0) 15 0 ≠ 0 ∧ (uex true).chim.exportRing = some 9 ∧ ((uex true).desc 9).room = true ∧
    bits ((uex false).cfg 0xC00010 0) 15 0 ≠ 0 ∧ (uex false).chim.exportRing = some 9 ∧ ((uex false).desc 9).room = false ∧ isOperator wo.priv = true ∧
    (u8.setFlue 3 { u8.flueOf 3 with enable := true } |>.flueOf 3).enable = true ∧ bitAt 16 0 = false ∧
    (let u : Units := { um with mantle := { um.mantle with regions := [(2, reg 6 [2, 3])] } }
     (u.flueOf 3).enable = false ∧ (u.flueOf 3).draining = false ∧ bitAt 1 0 = true ∧ bits 1 4 1 ≤ 10 ∧ bits 21 4 1 = 10 ∧
     (fitBody u.traceSpace (65536 * 2 ^ bits 1 4 1) u.traceBodies).isSome = true) ∧
    isOperator (stampPriv op.stamp) = true ∧ ((uex true).desc 9).kind = 2 ∧ ((uex true).desc 9).sizeCode = 1 ∧
    ((uch fun x => { x with alarms := [(0, le 4)] }).chim.alarms.find? fun p => p.2.seq = 4) = some (0, le 4) ∧
    (let u : Units := { um with chim := { um.chim with stored := [le 4, le 5] } }
     let l := (u.chim.stored.filter fun (e : LogEntry) => 4 ≤ e.seq && e.seq < 4 + 1).take 1
     u.mayAccess Ag.chimney pageBytes (l.flatMap LogEntry.bytes).length true = true ∧ (u.chim.stored.any fun e => e.seq = 4) = true) ∧
    llValid 34 = true ∧ llValid 35 = false ∧ llValid 64 = true ∧ llValid 127 = true := by
  decide +kernel

/-- Firmware of version `v`, a configuration of version 1, a section of no contents, and the Lamplighter changed. -/
abbrev fwi (v : Nat) : FwImage := { version := v, svn := 3, floor := 2, sigKey := 77, digest := 5, blobs := [] }
abbrev cfgi : CfgImage :=
  { version := 1, digest := 5, serial := 0, sigKey := 55, ownerIdx := 0, reserved := false, cid := 8, wardenId := 0x10000000, keeperId := 0x20000000, tenants := [], opKeys := [66], sizes := [],
    nand := [], chans := [], fans := 0, stages := 0, budgetW := 0, inrush := [],
    part := { roles := none, cabling := none, groups := none, mbox := none, prior := none, beacon := none, budget := none, orders := none } }
abbrev ulp (g : Lamp → Lamp) : Units := u8.upLamp g

/-- An amendment of that configuration, signed under key `k`. -/
abbrev amd (k : Nat) : Amendment := { base := 1, seq := 1, fixed := false, sigKey := k, part := cfgi.part }

theorem test_wit_amend :
    (let u := ulp fun l => { l with state := 3, cfg := some cfgi }
     isOperator (stampPriv op.stamp) = true ∧ u.lamp.state ≠ 4 ∧ u.lamp.cfg = some cfgi ∧ (amd 66).base = cfgi.version ∧ (amd 66).seq = u.lamp.amendSeq + 1 ∧
     (amd 66).fixed = false ∧ (amd 66).part.roles = none ∧ u.lamp.keys.contains 66 = true ∧ u.lamp.keys.contains 67 = false) ∧
    (let u := um.upLamp fun l => { l with state := 3, fuses := { l.fuses with root := 77 } }
     (∃ r, NMap.find u.mantle.regions 3 = some r ∧ r.typ = 8 ∧ 0 + 64 ≤ r.pages.length * pageBytes) ∧ u.lamp.state ≠ 4 ∧ u.pwr.fail = false ∧
     u.lamp.updState ≠ 3 ∧ u.lamp.updState ≠ 4 ∧ (u.stage 0 (.fw (fwi 4)) true).2 = St.OK ∧ (u.stage 0 (.fw (fwi 4)) false).2 ≠ St.OK) ∧
    (let u := ulp fun l => { l with state := 3, nor := { l.nor with trial := 1 } }
     u.lamp.act = none ∧ u.lamp.nor.trial = 1 ∧ u.lamp.state = 3) :=
  ⟨by decide +kernel, ⟨⟨_, rfl, rfl, by decide +kernel⟩, by decide +kernel⟩, by decide +kernel⟩

/-- The header of a user calibration set of one channel, the CRC-32C of it and of the zeros that follow it, and the memory that holds the set at page 1. -/
abbrev calHead : List Nat := leBytes 4 0x4C414347 ++ [1, 1] ++ leBytes 2 1
abbrev calCrc : Nat := 0x582982d0
abbrev calMem : Mem :=
  { dram := ((List.range 12).zip (calHead ++ leBytes 4 calCrc)).filterMap fun x =>
      if x.2 = 0 then none else some (if x.1 < 8 then pageBytes + x.1 else pageBytes + 4084 + x.1, BitVec.ofNat 8 x.2), fb := [] }

theorem cal_zeros (a b : Nat) {t v w : Nat} (h : (List.replicate a 0).foldl (crcByteR 0x82F63B78) t = v) (g : (List.replicate b 0).foldl (crcByteR 0x82F63B78) v = w) :
    (List.replicate (a + b) 0).foldl (crcByteR 0x82F63B78) t = w := by
  rw [← List.replicate_append_replicate, List.foldl_append, h, g]

theorem cal_zeros_0 : (List.replicate 512 0).foldl (crcByteR 0x82F63B78) 3386752685 = 1348900685 :=
  cal_zeros 256 256 (cal_zeros 128 128 (show (List.replicate 128 0).foldl (crcByteR 0x82F63B78) 3386752685 = 276614453 from by decide +kernel)
    (show (List.replicate 128 0).foldl (crcByteR 0x82F63B78) 276614453 = 10477465 from by decide +kernel))
    (cal_zeros 128 128 (show (List.replicate 128 0).foldl (crcByteR 0x82F63B78) 10477465 = 3626325284 from by decide +kernel)
    (show (List.replicate 128 0).foldl (crcByteR 0x82F63B78) 3626325284 = 1348900685 from by decide +kernel))

theorem cal_zeros_1 : (List.replicate 512 0).foldl (crcByteR 0x82F63B78) 1348900685 = 1162221857 :=
  cal_zeros 256 256 (cal_zeros 128 128 (show (List.replicate 128 0).foldl (crcByteR 0x82F63B78) 1348900685 = 613470595 from by decide +kernel)
    (show (List.replicate 128 0).foldl (crcByteR 0x82F63B78) 613470595 = 3599608762 from by decide +kernel))
    (cal_zeros 128 128 (show (List.replicate 128 0).foldl (crcByteR 0x82F63B78) 3599608762 = 727743118 from by decide +kernel)
    (show (List.replicate 128 0).foldl (crcByteR 0x82F63B78) 727743118 = 1162221857 from by decide +kernel))

theorem cal_zeros_2 : (List.replicate 512 0).foldl (crcByteR 0x82F63B78) 1162221857 = 703977262 :=
  cal_zeros 256 256 (cal_zeros 128 128 (show (List.replicate 128 0).foldl (crcByteR 0x82F63B78) 1162221857 = 1968771494 from by decide +kernel)
    (show (List.replicate 128 0).foldl (crcByteR 0x82F63B78) 1968771494 = 435127916 from by decide +kernel))
    (cal_zeros 128 128 (show (List.replicate 128 0).foldl (crcByteR 0x82F63B78) 435127916 = 4018944821 from by decide +kernel)
    (show (List.replicate 128 0).foldl (crcByteR 0x82F63B78) 4018944821 = 703977262 from by decide +kernel))

theorem cal_zeros_3 : (List.replicate 512 0).foldl (crcByteR 0x82F63B78) 703977262 = 1935817611 :=
  cal_zeros 256 256 (cal_zeros 128 128 (show (List.replicate 128 0).foldl (crcByteR 0x82F63B78) 703977262 = 1303797736 from by decide +kernel)
    (show (List.replicate 128 0).foldl (crcByteR 0x82F63B78) 1303797736 = 2647435709 from by decide +kernel))
    (cal_zeros 128 128 (show (List.replicate 128 0).foldl (crcByteR 0x82F63B78) 2647435709 = 1244063331 from by decide +kernel)
    (show (List.replicate 128 0).foldl (crcByteR 0x82F63B78) 1244063331 = 1935817611 from by decide +kernel))

theorem cal_zeros_4 : (List.replicate 512 0).foldl (crcByteR 0x82F63B78) 1935817611 = 3806365329 :=
  cal_zeros 256 256 (cal_zeros 128 128 (show (List.replicate 128 0).foldl (crcByteR 0x82F63B78) 1935817611 = 108036823 from by decide +kernel)
    (show (List.replicate 128 0).foldl (crcByteR 0x82F63B78) 108036823 = 2052669155 from by decide +kernel))
    (cal_zeros 128 128 (show (List.replicate 128 0).foldl (crcByteR 0x82F63B78) 2052669155 = 1506497098 from by decide +kernel)
    (show (List.replicate 128 0).foldl (crcByteR 0x82F63B78) 1506497098 = 3806365329 from by decide +kernel))

theorem cal_zeros_5 : (List.replicate 512 0).foldl (crcByteR 0x82F63B78) 3806365329 = 2782044980 :=
  cal_zeros 256 256 (cal_zeros 128 128 (show (List.replicate 128 0).foldl (crcByteR 0x82F63B78) 3806365329 = 4170270781 from by decide +kernel)
    (show (List.replicate 128 0).foldl (crcByteR 0x82F63B78) 4170270781 = 3253669720 from by decide +kernel))
    (cal_zeros 128 128 (show (List.replicate 128 0).foldl (crcByteR 0x82F63B78) 3253669720 = 3287395032 from by decide +kernel)
    (show (List.replicate 128 0).foldl (crcByteR 0x82F63B78) 3287395032 = 2782044980 from by decide +kernel))

theorem cal_zeros_6 : (List.replicate 512 0).foldl (crcByteR 0x82F63B78) 2782044980 = 3952567366 :=
  cal_zeros 256 256 (cal_zeros 128 128 (show (List.replicate 128 0).foldl (crcByteR 0x82F63B78) 2782044980 = 440635726 from by decide +kernel)
    (show (List.replicate 128 0).foldl (crcByteR 0x82F63B78) 440635726 = 1982549948 from by decide +kernel))
    (cal_zeros 128 128 (show (List.replicate 128 0).foldl (crcByteR 0x82F63B78) 1982549948 = 1853430923 from by decide +kernel)
    (show (List.replicate 128 0).foldl (crcByteR 0x82F63B78) 1853430923 = 3952567366 from by decide +kernel))

theorem cal_zeros_7 : (List.replicate 500 0).foldl (crcByteR 0x82F63B78) 3952567366 = 2815851823 :=
  cal_zeros 256 244 (cal_zeros 128 128 (show (List.replicate 128 0).foldl (crcByteR 0x82F63B78) 3952567366 = 2217286152 from by decide +kernel)
    (show (List.replicate 128 0).foldl (crcByteR 0x82F63B78) 2217286152 = 1111967391 from by decide +kernel))
    (cal_zeros 128 116 (show (List.replicate 128 0).foldl (crcByteR 0x82F63B78) 1111967391 = 3314539567 from by decide +kernel)
    (show (List.replicate 116 0).foldl (crcByteR 0x82F63B78) 3314539567 = 2815851823 from by decide +kernel))

theorem cal_zeros_all : (List.replicate 4084 0).foldl (crcByteR 0x82F63B78) 3386752685 = 2815851823 :=
  cal_zeros 2048 2036 (cal_zeros 1024 1024 (cal_zeros 512 512 cal_zeros_0
    cal_zeros_1)
    (cal_zeros 512 512 cal_zeros_2
    cal_zeros_3))
    (cal_zeros 1024 1012 (cal_zeros 512 512 cal_zeros_4
    cal_zeros_5)
    (cal_zeros 512 500 cal_zeros_6
    cal_zeros_7))

theorem cal_crc : crc32c (calHead ++ List.replicate 4084 0) = calCrc := by
  have h : calHead.foldl (crcByteR 0x82F63B78) 0xFFFFFFFF = 3386752685 := by decide +kernel
  rw [crc32c, List.foldl_append, h, cal_zeros_all]; decide

theorem cal_bytes (m : Mem) (a n k : Nat) : m.bytesAt a (n + k) = m.bytesAt a n ++ m.bytesAt (a + n) k := by
  induction n generalizing a with
  | zero => simp [Mem.bytesAt]
  | succ n ih => rw [show n + 1 + k = (n + k) + 1 by omega, Mem.bytesAt, ih]; simp [Mem.bytesAt]; congr 1; omega

theorem cal_blank (m : Mem) (a n : Nat) (h : ∀ k, a ≤ k → k < a + n → m.byte k = 0) : m.bytesAt a n = List.replicate n 0 := by
  induction n generalizing a with
  | zero => rfl
  | succ n ih =>
    rw [Mem.bytesAt, h a (Nat.le_refl a) (by omega), ih (a + 1) fun k h1 h2 => h k (by omega) (by omega)]
    rfl

theorem cal_memory : calMem.bytesAt pageBytes 4096 = calHead ++ List.replicate 4084 0 ++ leBytes 4 calCrc := by
  have h : calMem.dram.all (fun c => decide (c.1 < pageBytes + 8 ∨ pageBytes + 4092 ≤ c.1)) = true := by decide
  have r : ∀ (d : Memory) (k : Nat), (∀ c ∈ d, c.1 ≠ k) → Memory.read d k = 0 := by
    intro d k
    induction d with
    | nil => intro _; rfl
    | cons c d ih => intro g; rw [Memory.read, if_neg (g c (by simp)), ih fun x hx => g x (by simp [hx])]
  rw [cal_bytes calMem pageBytes 8 4088, cal_bytes calMem (pageBytes + 8) 4084 4, cal_blank calMem (pageBytes + 8), show calMem.bytesAt pageBytes 8 = calHead from by decide +kernel,
    show calMem.bytesAt (pageBytes + 8 + 4084) 4 = leBytes 4 calCrc from by decide +kernel, List.append_assoc calHead]
  intro k h1 h2
  have g : Memory.read calMem.dram k = 0 := r _ _ fun c hc => by
    have := List.all_eq_true.mp h c hc
    simp only [decide_eq_true_eq] at this
    omega
  show (Memory.read calMem.dram k).toNat = 0
  rw [g]; rfl

theorem cal_parses (z : List Nat) (h : z.length = 4084) (hc : crc32c (calHead ++ z) = calCrc) :
    ∃ x, calParse (calHead ++ z ++ leBytes 4 calCrc) = some x ∧ x.origin = 1 := by
  have t : (calHead ++ z ++ leBytes 4 calCrc).take 4092 = calHead ++ z := List.take_left' (by rw [List.length_append, h]; rfl)
  have d : (calHead ++ z ++ leBytes 4 calCrc).drop 4092 = leBytes 4 calCrc := List.drop_left' (by rw [List.length_append, h]; rfl)
  have e : leNat ((leBytes 4 calCrc).take 4) = calCrc := by decide +kernel
  unfold calParse
  simp only [t, d, e, hc]
  exact ⟨_, if_neg (by simp [calHead, leBytes, leNat]), by simp [calHead, leBytes, leNat]⟩

/-- A user calibration set that the memory of its address holds, signed by an operator key. -/
theorem test_wit_calibration :
    (∃ x, calParse (calMem.bytesAt pageBytes 4096) = some x ∧ x.origin ≠ 0 ∧
      calOk (some (x, 66)) (ulp fun l => { l with cfg := some cfgi }).lamp.fuses.root (ulp fun l => { l with cfg := some cfgi }).lamp.keys = true) ∧
    (ulp id).lamp.calCmd = none ∧ (ulp id).led.calNext = none := by
  obtain ⟨x, hx, ho⟩ := cal_parses _ List.length_replicate cal_crc
  refine ⟨⟨x, cal_memory ▸ hx, by rw [ho]; decide, ?_⟩, by decide, by decide⟩
  rw [calOk, ho, if_neg (by decide)]
  decide

theorem test_wit_owner :
    u8.lamp.nor.owner = [] ∧ (ulp id).mb.mode = 1 ∧ stampPriv vr.stamp = 3 ∧
    (let u := ulp fun l => { l with nor := { l.nor with owner := [44] } }
     0 < u.lamp.nor.owner.length ∧ u.lamp.nor.owner.getD 0 0 = 44) := by
  decide +kernel

theorem test_wit_activation :
    (let u := ulp fun l => { l with act := some op, updState := 3 }
     u.lamp.act = some op ∧ u.lamp.updState = 3 ∧ u.quiet = true) ∧
    (ulp fun l => { l with updState := 4 }).lamp.updState = 4 ∧
    (let u := ulp fun l => { l with state := 3, fw := some (fwi 4), nor := { l.nor with trial := 2 } }
     u.lamp.nor.trial = 2 ∧ u.lamp.state = 3 ∧ u.lamp.fw = some (fwi 4)) ∧
    (let u := ulp fun l => { l with state := 2, nor := { l.nor with trial := 2 } }
     u.lamp.nor.trial = 2 ∧ u.lamp.state ≠ 3 ∧ u.lamp.updState ≠ 4) ∧
    (let x : CtrSlot := { seq := 2, coarse := 0, cycles := 1, ticks := 4095 }
     let u := ulp fun l => { l with nor := { l.nor with ctr := (some x, some { x with seq := 1, ticks := 0 }) } }
     slotOf u.lamp.nor.ctr false = some x ∧ 0 < x.seq ∧ x.ticks = 4095 ∧ (slotOf u.lamp.nor.ctr (!false)).map (·.seq) = some 1 ∧ ({ x with ticks := 4094 } : CtrSlot).ticks < 4095) ∧
    (ulp fun l => { l with state := 1 }).lamp.state ≠ 0 ∧
    (let c : Comp := Comp.new 11 4 0xFF
     let u := u8.upF fun f => { f with comps := [(2, c)] }
     (u.flick.comps.find? fun c => c.2.cls = 11 && c.2.idx = 4) = some (2, c)) ∧
    u8.lamp.state ≠ 4 ∧ u8.pwr.fail = false ∧ u8.lamp.updState ≠ 3 ∧ u8.lamp.updState ≠ 4 := by
  decide +kernel

/-! A state and operands for each further clause of the statements, at the edges of its ranges -/

theorem test_wit_more_base :
    (st u0).idle ∧ (st u0).staged ∧ State.reset.staged ∧ State.reset.mem.fb.length ≤ stagingLines ∧ u0.mayRead wo 0x100030 = true ∧
    (let u : Units := { u0 with mb := { u0.mb with mode := 2 } }
     let v : Units := { u0 with mb := { u0.mb with mode := 1 } }
     u.mb.mode ≠ 1 ∧ u.mb.mode ≠ 3 ∧ (5 : Nat) ≠ 0 ∧ (5 : Nat) ≠ 2 ∧ v.mb.mode = 1 ∧ (0 : Nat) ≠ 2) ∧
    (let u : Units := { u0 with drains := [{ unit := 0x10000 + 7, items := 1, enableHeld := false }] }
     let v := u.setDesc 7 { u.desc 7 with q := [.words [0]] }
     (v.drains.any fun x => x.unit = 0x10000 + 7) = true ∧ v.drainLeft (0x10000 + 7) ≠ 0 ∧ (v.drains.any fun x => x.unit = 9) = false) := by
  delta State.idle State.staged; decide +kernel

theorem test_wit_more_alloc :
    (let u : Units := { u0 with mantle := { u0.mantle with ready := true }, role := { u0.role with routes := [(300,
       { cid := 300, kind := 0, valid := true, fenced := false, spare := false, target := u0.self, port := 1, version := 0, gen := 0 })] } }
     let o : Region := { reg 8 [] with ownerKind := 0, ownerCid := 300, ownerCtx := 2, gen := u.ctxGen 1 2, job := u.ctxJob 1 2, mask := 1 }
     u.portOf 300 = some 1 ∧ (u.allocRegion o 1).2.isSome = true ∧ (u.allocRegion o (2 ^ 60)).2 = none ∧ (u.allocRegion (reg 8 []) (2 ^ 60)).2 = none) := by
  decide +kernel

theorem test_wit_more_rings :
    (∀ k ∈ [0, 3],
     let u := u0.setDesc 4 { u0.desc 4 with kind := k, enable := true, hostSide := true, countLog2 := 3 }
     let d := u.desc 4
     mayRing wo d = true ∧ ¬(wo.cls = 1 ∧ d.hostSide = false) ∧ d.kind = k ∧ d.enable = true ∧ u.ringDrains 4 = false ∧
       wrapW 32 (1 + 2 ^ 32 - d.prod) < 2 ^ 31 ∧ d.fill + wrapW 32 (8 + 2 ^ 32 - d.prod) ≤ d.size ∧ d.size < d.fill + wrapW 32 (9 + 2 ^ 32 - d.prod) ∧
       2 ^ 31 ≤ wrapW 32 (2 ^ 31 + 2 ^ 32 - d.prod) ∧
       (let v := u.upSlot 3 fun s => { s with state := 6, sub := 4 }
        v.ringDrains 4 = true)) ∧
    (∀ k ∈ [1, 2],
     let d := (u0.setDesc 5 { u0.desc 5 with kind := k, hostSide := true, prod := 2 }).desc 5
     mayRing wo d = true ∧ ¬(wo.cls = 1 ∧ d.hostSide = false) ∧ d.kind = k ∧ wrapW 32 (2 + 2 ^ 32 - d.cons) ≤ d.fill ∧ d.fill < wrapW 32 (3 + 2 ^ 32 - d.cons)) ∧
    mayRing wt (u0.desc 5) = false ∧ wo.cls = 1 ∧ (u0.desc 5).hostSide = false ∧
    (let u := u0.setDesc 6 { u0.desc 6 with kind := 3, countLog2 := 4 }
     let d := u.desc 6
     d.enable = false ∧ d.draining = false ∧ ((d.kind = 0 → d.sizeCode = 2) ∧ (d.kind = 1 → d.sizeCode = 0) ∧ d.sizeCode ≤ 8 ∧ 1 ≤ d.countLog2 ∧ d.countLog2 ≤ 16 ∧ d.kind ≤ 4) ∧
     fitBody u.ringSpace d.bytes u.ringBodies = none ∧
     ¬((u0.desc 6).kind = 0 → (u0.desc 6).sizeCode = 2)) ∧
    (let u := u0.setDesc 6 { u0.desc 6 with draining := true }
     (u.desc 6).enable = false ∧ (u.desc 6).draining = true) ∧
    (∀ k ∈ [0, 1, 2, 3, 4],
     let d := (u0.setDesc 7 { u0.desc 7 with kind := k, draining := true, q := [.words [0]] }).desc 7
     d.draining = true ∧ d.kind = k ∧ d.q ≠ []) ∧
    (let x : RunCmd := { ring := 0, tag := 9, code := 0, stamp := 0x2000, gen := 0, held := false, fence := false, flush := false, order := 0 }
     let y : RunCmd := { x with tag := 1, code := 0x0101, order := 1 }
     let u : Units := { u0 with ring := { u0.ring with running := [x, y] } }
     stampPriv op.stamp < 4 ∧ u.ring.running = [x] ++ y :: [] ∧ y.ring = op.ring ∧ y.tag = op.tag ∧ (∀ z ∈ [x], ¬(z.ring = op.ring ∧ z.tag = op.tag)) ∧ (∃ z ∈ [x], z.ring = op.ring)) ∧
    4 ≤ stampPriv ({ op with stamp := 0x4000 } : Cmd).stamp := by
  decide +kernel

theorem test_wit_more_mailboxes :
    (let u := u0.setCh 0 { u0.ch 0 with outFull := true }
     u0.mbAllowed wo 0 = true ∧ (u0.ch 0).outFull = false ∧ u.mbAllowed wo 0 = true ∧ (u.ch 0).outFull = true ∧ (u.ch 0).retFull = false ∧ wo.priv < 4 ∧
     bits (wrapW 32 0x10000) 15 0 = 0 ∧ bits (wrapW 32 1) 15 0 ≠ 0 ∧ bitAt 0 0 = false) ∧
    (let u := u0.setCh 3 { u0.ch 3 with bind := 1 + 1 * 2 ^ 12 + 3 * 2 ^ 16 + 1 * 2 ^ 28, outFull := true }
     u.mbAllowed wt 3 = true ∧ (u.ch 3).outFull = true ∧ wt.priv < 4 ∧ u0.mbAllowed wt 3 = false ∧ isOperator wt.priv = false) ∧
    4 ≤ ({ wo with priv := 5 } : Who).priv := by
  decide +kernel

theorem test_wit_more_budget :
    bitAt 1 0 = true ∧ bitAt 0 0 = false ∧ stagingValid (NMap.set u0.bud.sGuar 8 2000) u0.bud.sCap = false ∧ bits 100 8 0 < 150 ∧ 280 < bits 300 8 0 ∧ u0.bud.pend = none ∧
    (let u := u0.setBud { u0.bud with cap := [(40, 0)] }; capOf u.bud.cap 5 (resOf 0) = 0) := by
  decide +kernel

theorem test_wit_more_power :
    (let u := u0.upP fun p => { p with posEn := 8, posPg := 8 }
     64 ≤ (u.upP fun p => { p with queue := List.replicate 64 { kind := 1, port := 0, ctx := 0, recovery := true, at_ := 0, cmd := none } }).pwr.queue.length ∧
     bitAt u.pwr.posEn 3 = true ∧ bitAt u.pwr.posPg 3 = true) ∧
    (let u := ua.upVp 1 fun x => { x with live := 4 }
     u.mayPowerOff 1 = false) ∧
    isOperator (stampPriv ({ op with stamp := 0 } : Cmd).stamp) = false ∧
    (let u := ((u0.upP fun p => { p with posEn := 8 }).upC fun x => { x with prep := [(300, 3, [0xFF])] }).setCfg (portBase 3) 1
     (u.rcv.prep.any fun x => x.2.1 = 3 && x.2.2 = [0xFF]) = true ∧ bitAt (u.linkCtl 3) 0 = true ∧ ((u.setPort 3 { u.port 3 with state := 7 }).port 3).state = 7) := by
  decide +kernel

theorem test_wit_more_start :
    (let u := (u0.upP fun p => { p with coreEn := true, corePg := false, tries := 0 }).upLamp fun l => { l with state := 2 }
     u.pwr.coreEn = true ∧ u.pwr.corePg = false ∧ u.lamp.state = 2) ∧ (95 : Int) ≤ 100 ∧ u0.pwr.thermtrip = false := by
  decide +kernel

theorem test_wit_more_grid_slots :
    (let u := u0.upG fun g => { g with partEn := 1 }
     (2 : Nat) < 8 ∧ bitAt u.grid.partEn 2 = false ∧ u.partVacant 2 = false ∧ bitAt u.grid.draining 2 = false ∧
     bitAt (u.upG fun g => { g with draining := 4 }).grid.draining 2 = true) ∧
    (bits 100 15 0 ≠ 0 ∧ bits 100 15 0 < 500) ∧ 1500 < bits 2000 15 0 ∧
    (let m := memPutAt Mem.reset um 3 0 fimg
     let k := fieldAt (memGetAt m um 3 0 256) 8 2
     imageCheck m um 3 0 = St.OK ∧ (um.loadInto m 3 0 7 none 0xFFFFFFFF 0xFFFFFFFF [3] .host { code := 0x0501, cmd := some op }).2 = St.OK ∧
     um.mayAccess Ag.grid pageBytes (2 * k) false = true ∧ um.mayAccess Ag.grid 0 (2 * k) false = false) ∧
    (let u := u0.upSlot 2 fun s => { s with state := 1, list := some [5, 5] }
     (u.slot 2).state = 1 ∧ u.placeOf (u.slot 2) = (St.BAD_STATE, []) ∧ (true && false) = false) ∧
    (let k : SlotCmd := { code := 0x0503, cmd := some op }
     let u := u0.upSlot 4 fun s => { s with state := 4, running := some k, unloadNext := true, waiting := [k] }
     (u.slot 4).state = 4 ∧ u.streaming 4 = false ∧ (u.slot 4).unloadNext = true ∧ (u.slot 4).running = some k ∧ (u.slot 4).running.isSome = true ∧ (u.slot 4).waiting ≠ []) ∧
    (let u := u0.upSlot 3 fun s => { s with state := 3, place := [5] }
     (u.slot 3).state = 3 ∧ (u.slot 3).place = 5 :: [] ∧ (([5] : List Nat).all fun k => (u.taper k).wait = some .pop) = false) := by
  decide +kernel

/-- A stream descriptor of one row of 64 bytes: the region entry 0, a read or a write. -/
abbrev sdesc (wr : Nat) : List Nat := [0, wr, 0, 0] ++ leBytes 8 0 ++ leBytes 4 64 ++ leBytes 4 1 ++ leBytes 4 64 ++ leBytes 3 0x10000 ++ [0] ++ leBytes 2 1 ++ [0, 0]

/-- Taper 5 of slot 3 with that channel 0 busy, bound to region 3 under generation `g`. -/
abbrev ustr (wr g : Nat) : Units :=
  { (((u0.upLt 5 fun t => { t with slot := some 3 }).upSlot 3 fun s => { s with state := 3, place := [5], bind := [(3, g)] }).setTaper 5
      ((Taper.start 0 2 []).setCh 0 { Chan.reset with state := 1, desc := sdesc wr })) with mantle := um.mantle }

theorem test_wit_more_streams :
    (let u := u0.upLt 9 fun t => { t with column := none }
     stampPriv op.stamp < 4 ∧ (u.lt 9).column = none ∧ (9 : Nat) < 512 ∧
     (let v := u0.upLt 9 fun t => { t with diagCmd := some op }
      (v.lt 9).column.isSome = true ∧ (v.lt 9).diagCmd.isSome = true)) ∧
    (let x : NetMsg := { src := 8, dst := 9, vc := 0, slot := 3, gen := 0, bytes := [1, 2, 3] }
     let u := ((((u0.upG fun g => { g with net := [x] }).upLt 9 fun t => { t with slot := some 3 }).upSlot 3 fun s => { s with state := 6 })).setTaper 9
       ((Taper.start 0 2 []).setQueue 0 { ((Taper.start 0 2 []).queue 0) with ready := List.range 32 })
     (u.grid.net.find? fun y => y.src = 8 && y.dst = 9 && y.vc = 0) = some x ∧ (u.slot x.slot).gen = x.gen ∧ (u.lt 9).slot = some x.slot ∧ (u.slot 3).state = 6 ∧
       32 ≤ ((u.taper 9).queue 0).used) ∧
    (∀ wr ∈ [0, 1],
     let u := ustr wr 0
     let t := u.taper 5
     let d := (t.ch 0).desc
     let b := (NMap.find t.bind (d.getD 0 0)).getD ((u.slot 3).bind.getD (d.getD 0 0) (0, 0))
     (u.lt 5).slot = some 3 ∧ (t.ch 0).state = 1 ∧ u.gate (u.slot 3).activity 0 = true ∧ b = (3, 0) ∧
     (NMap.find (u.spend (u.slot 3).activity 0 64).mantle.regions 3) = some { reg 8 [1] with hostVisible := true } ∧
     ((u.spend (u.slot 3).activity 0 64).phys 3 0).isSome = true ∧ ((u.spend (u.slot 3).activity 0 64).phys 3 63).isSome = true ∧
     d.getD 1 0 = wr ∧ maskGrants (2 ^ 20 - 1) Ag.grid false = true ∧ maskGrants (2 ^ 20 - 1) Ag.grid true = true ∧ maskGrants 0 Ag.grid true = false ∧
     (t.eccAt 0 0x10000 64 = 0 ∧ t.eccAt 2 0x10000 64 = 2)) ∧
    (let u := ustr 1 9
     (u.slot 3).bind.getD 0 (0, 0) = (3, 9) ∧ (reg 8 [1]).gen ≠ 9 ∧ NMap.find ({ u with mantle := u0.mantle } : Units).mantle.regions 3 = none) ∧
    (let u := ustr 0 0
     (u.lt 5).slot = some 3 ∧ (u.slot 3).state = 3 ∧ isOperator wo.priv = true ∧ (u.lt 5).column.isSome = true) := by
  decide +kernel

theorem test_wit_more_link_controls :
    u0.lamp.state ≠ 4 ∧ (u0.port 2).state = 0 ∧ (∀ k ∈ [4, 5, 6, 7, 8, 1, 2, 3], ((up 2 k).port 2).state = k) ∧ isOperator wo.priv = true ∧ isOperator wt.priv = false ∧
    (let u := (up 2 5).setCfg (portBase 2) 1
     bitAt (u.linkCtl 2) 0 = true ∧ (u.port 2).state ≠ 4) ∧
    (let u := (up 2 2).setCfg (portBase 2) 0x11FF01
     pickLanes (u.laneAllow 2) ((u.port 2).isolated ||| andNot (u.laneAllow 2) 255) = some 255) ∧
    (let u := (up 2 2).setCfg (portBase 2) 0x1FF01
     pickLanes (u.laneAllow 2) ((u.port 2).isolated ||| andNot (u.laneAllow 2) 0) = none) ∧
    (let u := (up 2 2).setCfg (portBase 2) 0x8FF01
     pickLanes (u.laneAllow 2) ((u.port 2).isolated ||| andNot (u.laneAllow 2) 1) = some 1 ∧ laneCount 1 < u.minLanes 2) ∧
    (let u := (up 2 6).setPort 2 { (up 2 6).port 2 with fastFails := [0, 0] }
     (((u.clk.mono :: (u.port 2).fastFails.filter fun t => u.clk.mono < t + 10 ^ 9).length) ≥ 3) ∧
     ((((up 2 6).port 2).fastFails.filter fun t => u.clk.mono < t + 10 ^ 9).length + 1 < 3)) := by
  decide +kernel

theorem test_wit_more_link_frames :
    (let u := (up 2 4).setPort 2 { (up 2 4).port 2 with rxSeq := 3 }
     (u.port 2).flows = true ∧ fr.vc ≤ 2 ∧ fr.seq ≠ (((u.setPort 2 ((u.port 2).rxHead fr)).pump 2).port 2).rxSeq) ∧
    2 < ({ fr with vc := 3 } : FrameHdr).vc ∧ (2 : Nat) < 16 ∧
    (let u := (up 2 5).setPort 2 { (up 2 5).port 2 with newMap := some 15 }
     ((up 2 4).port 2).state = 4 ∧ ((up 2 4).port 2).newMap = none ∧ (u.port 2).newMap = some 15 ∧ laneCount 3 ≤ laneCount 15 ∧ laneCount 15 < laneCount 255) ∧
    (let b := [1, 1, 0, 255, 8, 8, 8]
     let u := (up 2 3).setPort 2 { (up 2 3).port 2 with param := some b, fullRun := true }
     let v := ((up 17 3).setPort 17 { (up 17 3).port 17 with param := some [1, 2, 5, 255, 8, 8, 8] }).setCfg (portBase 17 + 0xC) 9
     ((up 2 3).port 2).param ≠ some b ∧ (u.port 2).fullRun = true ∧ ([0, 1, 0] : List Nat).getD 0 0 = 0 ∧ ([1, 2, 0] : List Nat).getD 1 0 ≠ 1 ∧
       (16 ≤ 17 ∧ bits (v.cfg (portBase 17 + 0xC) 0) 23 0 ≠ 0 ∧ bits (v.cfg (portBase 17 + 0xC) 0) 23 0 ≠ 5) ∧
       pickLanes (u.laneAllow 2 &&& 0) (u.port 2).isolated = none ∧
       (let w := u.setCfg (portBase 2) 0x8FF01
        pickLanes (w.laneAllow 2 &&& 1) (w.port 2).isolated = some 1 ∧ laneCount 1 < w.minLanes 2)) ∧
    (let u := (up 2 4).setPort 2 { (up 2 4).port 2 with replay := [{ seq := 5, typ := 0, vc := 0 }] }
     (u.port 2).flows = true ∧ (u.port 2).replay = { seq := 5, typ := 0, vc := 0 } :: []) ∧
    (let h : LHdr := { port := 0, src := 5, hop := 16, flags := 0, srcGen := 0, seq := 0 }
     let u := (up 17 4).upR fun r => { r with topo := [(9, 1)] }
     (st u).hearsL h ∧ h.hop ≠ 0 ∧ u.routeFenced 9 = false ∧ u.hop 9 = some 17 ∧ u.hop 8 = none ∧ u.routeFenced 8 = false ∧ (16 : Nat) ≤ 4128 ∧ (4128 : Nat) < 4129 ∧
     (0x40 : Nat) ≠ 0x20 ∧ (0x40 : Nat) ≠ 0x21 ∧ lanternReserved 0x40 = false ∧ lanternReserved 0x20 = false ∧ lanternReserved 0x7F = true ∧ (st u).hearsL { h with hop := 0 } ∧
     (u.upR fun r => { r with routes := [(9, { cid := 9, kind := 0, valid := true, fenced := true, spare := false, target := 9, port := 1, version := 0, gen := 0 })] }).routeFenced 9 = true) := by
  delta State.hearsL; decide +kernel

/-- The units of `um` in which activity 4 has an allowance that neither pass gave. -/
abbrev umg : Units := um.setBud { um.bud with slotCaps := [(0, 9999999), (5, 999999), (7, 99999)], spare := [(0, 9999999), (5, 999999), (6, 9999999999), (7, 99999)] }

theorem test_wit_more_mantle :
    (let go := fun (u : Units) (a : Nat) => (a = 0 ∨ capOf u.bud.cap a 0 ≠ 0) ∧ u.gate a 0 = true ∧ (u.bud.waits.any fun w => w.act = a && w.inst = 0) = false
     (∀ a ∈ [4, 12, 3], capOf umg.bud.cap a 0 ≠ 0 ∧ umg.gate a 0 = true ∧ (umg.bud.waits.any fun w => w.act = a && w.inst = 0) = false) ∧ go umg 4 ∧
     (let v := umg.setBud { umg.bud with cap := [(24, 0), (32, 0), (96, 0)] }
      capOf v.bud.cap 4 0 = 0 ∧ capOf v.bud.cap 12 0 = 0 ∧ capOf v.bud.cap 3 0 = 0) ∧
     capOf um.bud.cap 4 0 ≠ 0 ∧ um.gate 4 0 = false ∧ um.gate 12 0 = false ∧ um.gate 3 0 = false) ∧
    (let u := umg.spend 4 0 64
     (u.mantle.page (pageBytes / pageBytes)).state ≠ 2 ∧ u.mayAccess 4 pageBytes 64 false = true ∧ u.mayAccess 4 pageBytes 1 true = true ∧ u.mantle.stackFailed = false ∧
     u.mayAccess 4 0 1 true = false ∧ u.mayAccess 4 0 64 false = false ∧
     u.regionAt pageBytes = some (3, { reg 8 [1] with hostVisible := true }) ∧ (reg 8 [1]).ownerKind = 4 ∧
     (let v : Units := { u with mantle := { u.mantle with stackFailed := true } }
      v.mantle.stackFailed = true ∧ (1 : Nat) ≤ 1) ∧
     (let v : Units := { u with mantle := { u.mantle with regions := [(3, { reg 8 [1] with ownerKind := 2, gen := 1 })] } }
      v.regionAt pageBytes = some (3, { reg 8 [1] with ownerKind := 2, gen := 1 }) ∧ ({ reg 8 [1] with ownerKind := 2, gen := 1 } : Region).ownerKind ≠ 4 ∧
      v.tagFor { reg 8 [1] with ownerKind := 2, gen := 1 } 0xFFFF ≠ some 7)) ∧
    (let u := (umg.spend 12 0 8).spend 12 5 8
     let v := (umg.spend 12 0 8).spend 12 7 8
     u.mayBar2 pageBytes 8 false = true ∧ v.mayBar2 pageBytes 8 true = true ∧ u.mayBar2 0 8 false = false ∧ v.mayBar2 0 8 true = false) := by
  decide +kernel

theorem test_wit_more_mantle_pages :
    (let ahead := sumL (um.mantle.waits.map (·.pages))
     (um.allocRegion (reg 8 []) (2 ^ 60)).2 = none ∧ um.mantle.freeCount + um.mantle.coming + um.mantle.traceSpare < ahead + pagesFor (2 ^ 60)) ∧
    (let u : Units := { um with mantle := { um.mantle with mappedOut := 255, regions := [(2, reg 6 [2, 3])], pages := [(2, { Page.reset with region := 2, state := 1 })] } }
     let w : Units := { um with mantle := { um.mantle with pages := [] } }
     (w.allocRegion (reg 8 []) 1).2.isSome = true ∧ u.mantle.stackFailed = false) ∧
    (let v : Units := { um with mantle := { um.mantle with stackFailed := true } }
     v.mantle.stackFailed = true) ∧
    (NMap.find um.mantle.regions 3) = some { reg 8 [1] with hostVisible := true } ∧ (1 : Nat) < 2 ^ 20 ∧ (∀ r, NMap.find um.mantle.regions 4 = some r → r.typ ≠ 8) := by
  refine ⟨by decide +kernel, by decide +kernel, rfl, by decide +kernel, by decide +kernel, fun r h => ?_⟩
  have h4 : NMap.find um.mantle.regions 4 = none := by decide +kernel
  rw [h4] at h; cases h

theorem test_wit_more_igtan :
    ua.dropS sh 0x0C = none ∧ (ua.ig 1).gos.find? (fun x => x.ctx = sh.ctx) = some { ctx := 2, step := 5, seq := 1, resends := 0 } ∧ (5 : Nat) ≤ 5 ∧ (4 : Nat) < 5 ∧ St.BAD_STATE ≠ St.OK ∧
    (ua.ig 1).gos.find? (fun x => x.ctx = 3) = none ∧ ua.dropS { sh with ver := 2 } 0x0C ≠ none ∧ (ua.upIg 1 fun g => { g with features := 0x7FF, proto := 2 }).mayS 1 0x0B = true ∧ u0.mayS 1 0x0B = false ∧
    (let k : LinkKey := { index := 1, key := 5, old := some 4, txSeq := 0, rxSeq := 3, rxOld := 2, firstUse := 0, used := false, port := 1 }
     let u := ua.upR fun r => { r with keys := [(7, k)] }
     u.dropS sh 0x15 = none ∧ NMap.find u.role.keys 7 = some k ∧ (1 = k.index ∧ k.rxSeq < 4) ∧ (0 ≠ k.index ∧ k.old.isNone = false ∧ k.rxOld < 3) ∧ NMap.find u.role.keys 8 = none ∧
     (1 = k.index ∧ 3 ≤ k.rxSeq) ∧ u.self = u0.self ∧ u.routeFenced 9 = false ∧ u.staleTarget 9 = false ∧ 9 ≠ u.self ∧
     (let e : RouteEntry := { cid := 300, kind := 0, valid := true, fenced := true, spare := false, target := u0.self, port := 1, version := 0, gen := 0 }
      (u.upR fun r => { r with routes := [(300, e)] }).routeFenced 300 = true ∧
      (let v := (u.upR fun r => { r with routes := [(300, { e with fenced := false, gen := 5 })] })
       v.routeFenced 300 = false ∧ v.staleTarget 300 = true))) ∧
    (let u : Units := { ua with mantle := um.mantle }
     isOperator (stampPriv op.stamp) = true ∧ u.mayAccess Ag.sconce pageBytes 4 true = true ∧ u.mayAccess Ag.sconce 0 4 true = false ∧ (u.port 1).state = 4 ∧ u.fenced 1 = false ∧
     ownOffset 0x200 = false ∧ ((up 1 1).port 1).state ≠ 4 ∧ (∀ i < 1, ownOffset (0x200 + 4 * i) = false)) ∧
    isOperator (stampPriv ({ op with stamp := 0x1000 } : Cmd).stamp) = false ∧
    (let v : Units := (ua.setDesc 0 { ua.desc 0 with job := 7 }).upV fun v => { v with watch := [(64 + 2, { job := 7, stalled := false, query := false, frozen := false, priority := 0, mask := 15, timeout := 0, gen := 0, genStart := 0, lastProg := 0, edges := [], replyAt := 0, replied := false, broken := false, tag := 0xFFFFFFFF, waiting := [] })] }
     v.ownAct { op with stamp := 0x1000 } 1 0x1080 1 false = true) := by
  decide +kernel

theorem test_wit_more_taper :
    (let t := (ut 0).taper 5
     t.eccAt 0 0x10000 64 = 0 ∧ t.eccAt 1 0x10000 64 = 1 ∧ t.eccAt 2 0x10000 64 = 2 ∧ t.eccAt 1 0x10000 8 = 1 ∧ t.eccAt 2 0x10000 8 = 2 ∧ t.eccAt 1 0x10000 1 = 1 ∧ t.eccAt 2 0x10000 1 = 2 ∧
     (fi 0 0 0 0).imm = 0 ∧ (fi 1 0 0 0x20).imm < 4096 ∧ (fi 1 0 0 0x999).imm < 4096 ∧ (fi 0 0 0 5).imm < 256 ∧
     (st (ut (encI 0 1 (fi 1 0 0 0x999)))).issues 5 3 (encI 0 1 (fi 1 0 0 0x999)) ∧ (st (ut (encI 0 2 (fi 0 1 0 0x40)))).issues 5 3 (encI 0 2 (fi 0 1 0 0x40)) ∧
     illegalI (fi 1 0 0 0x999) .any .none .none = none ∧ illegalI (fi 0 1 0 0x40) .none .any .none = none ∧
     t.addr (fi 1 0 0 0x10001) % 64 ≠ 0 ∧ t.addr (fi 1 0 0 0x60000) % 64 = 0 ∧ loadArea (t.addr (fi 1 0 0 0x60000)) 64 = false ∧ storeArea (t.addr (fi 0 0 2 0)) 64 = false ∧
     t.addr (fi 0 0 2 0) % 64 = 0 ∧ loadArea (t.addr (fi 1 0 0 0x60000)) 8 = false ∧ storeArea (t.addr (fi 0 0 2 0)) 8 = false ∧
     (∀ k ∈ [0, 2, 4], (st (ut (encI 5 k (fi 1 0 0 0x10001)))).issues 5 3 (encI 5 k (fi 1 0 0 0x10001)) ∧ (st (ut (encI 5 k (fi 1 0 0 0x60000)))).issues 5 3 (encI 5 k (fi 1 0 0 0x60000))) ∧
     (∀ k ∈ [1, 3, 5], (st (ut (encI 5 k (fi 0 0 2 0)))).issues 5 3 (encI 5 k (fi 0 0 2 0))) ∧ illegalI (fi 1 0 0 0x60000) (.file 8) .any .none = none ∧
     illegalI (fi 0 0 2 0) .none .any (.file 8) = none ∧
     (st (ut (encR 4 0x15 (frr 1 2 0 4 2)))).issues 5 3 (encR 4 0x15 (frr 1 2 0 4 2)) ∧
     t.illegalR (frr 1 2 0 4 2) { d := .any, a := .any, b := .imm 3, c := .any, rm := 2, pe := true, fmts := [1, 2] } = none ∧
     (frr 1 2 0 4 2).c % 2 = 0) := by
  delta State.issues; decide +kernel

/-- Back-pressure is met in a state where the network holds a message of the channel, when the free value says so. -/
theorem test_wit_backed : ((um2 0).upG fun g => { g with net := [{ src := 8, dst := 9, vc := 0, slot := 3, gen := 0, bytes := [] }] }).backed 0 = Config.meshBusy (um2 0).free := by
  simp [Units.backed, Units.upG, Units.upSlot, Units.upLt, Units.setTaper]

theorem test_wit_more_taper_units :
    (let f := frr 1 3 0 0 0
     let h := fun (s : PSlot) => { s with sub := 0xFFFFFFFF, owner := .qualify, work := [], popWait := [] }
     let u := um2 (encR 8 8 f) (fun t => t.setG 3 1) h
     ((u.taper 5).gr 3 % 64 ≠ 0) ∧ (u.slot 3).hasSub = true ∧ (st u).issues 5 3 (encR 8 8 f) ∧
     dataArea (((um2 0 (fun t => t.setG 3 0x60000)).taper 5).gr 3) 64 = false ∧
     ((um2 0 id h).popEntry 3).isNone = true) ∧
    (let f := frr 0 3 0 0 0
     let h := fun (s : PSlot) => { s with comp := 0xFFFFFFFF, owner := .qualify }
     let u := um2 (encR 8 0xA f) id h
     (u.slot 3).hasComp = true ∧ (u.slot 3).comp = 0xFFFFFFFF ∧ dataArea ((u.taper 5).gr 3) 1 = true ∧ (u.taper 5).eccAt 0 ((u.taper 5).gr 3) 272 = 0 ∧
     (st u).issues 5 3 (encR 8 0xA f) ∧ (u.taper 5).eccAt 1 ((u.taper 5).gr 3) 128 = 1 ∧ (u.taper 5).eccAt 2 ((u.taper 5).gr 3) 128 = 2) ∧
    (let g := fun (c : Chan) (t : Taper) => ch2 c t
     (∃ k < 8, (((ut 0 (g { Chan.reset with state := 1 })).taper 5).ch k).state = 1) ∧
     (let t := (ut (encR 9 3 (frr 0 0 0 0 0)) (g { Chan.reset with poison := true })).taper 5
      (∀ j < 8, (t.ch j).state ≠ 1) ∧ (t.ch 2).poison = true ∧ (∀ j < 2, (t.ch j).poison = false)) ∧
     (let t := (ut 0 (g { Chan.reset with state := 1, desc := [0, 0, 1] })).taper 5
      t.fpBusy = true) ∧
     (st (ut (encR 9 0 (frr 0 2 0 0 0)) fun t => tw .start (g { Chan.reset with state := 1 } t))).waits 5 3 .start ∧
     (st (ut (encR 9 1 (frr 1 2 0 0 0)) fun t => tw .wait (g { Chan.reset with state := 1 } t))).waits 5 3 .wait) := by
  delta State.issues State.waits; decide +kernel

theorem test_wit_more_beacon :
    isOperator (stampPriv op.stamp) = true ∧ (1 : Int) ≠ 0 ∧
    (let p : BcnStep := { rel := 1, target := none, atPps := false, cmd := op, code := 0x0301 }
     (ub fun b => { b with pend := some p }).bcn.pend.isSome = true ∧ (ub fun b => { b with pend := some { p with atPps := true } }).bcn.pend = some { p with atPps := true } ∧ p.atPps = false) ∧
    (let u := (ub fun b => { b with source := 1 }).upK fun c => { c with locked := true }
     (u.bcn.source = 1 ∨ u.bcn.source = 2) ∧ u.clk.locked = true ∧ u0.utcNow = none) ∧
    u0.domOn 0 = false ∧ (ud 0).domOn 0 = true ∧ (255 : Nat) < 256 ∧
    (let u := ((ub fun b => { b with source := 0 }).upK fun c => { c with locked := true }).setCfg 0x100020 (0x80 + 0x100)
     let v := (u.setCfg 0x100024 (0x80 + 0x100 + 1)).upDom 1 fun x => { x with offset := some (1000000000, 0), lost := false }
     v.bcn.source = 0 ∧ v.clk.locked = true ∧ 1 ≠ v.primary ∧ v.domOn v.primary = true ∧ v.agrees 1 = false ∧
     (v.upDom 1 fun x => { x with offset := some (5, 0), lost := false }).agrees 1 = true) ∧
    betterMaster [5] [9] = true ∧ [9] ≠ [5] ∧ betterMaster [9] [5] = false ∧
    (u0.setTxts 1 { u0.txts 1 with q := List.replicate 64 (0, 0, 0, 0, 0, 0) } |>.txts 1).q.length = 64 ∧ (1 : Nat) < 2 ∧ isOperator wt.priv = false ∧
    (let u := ud 0
     let x := u.domCfg 0
     (bits x 6 0 = 0 ∧ u.domOn 0 = true) ∧ bitAt x (8 + 0) = true ∧ bitAt x 10 = false ∧ bitAt x 12 = false ∧
     (let v := (ub fun b => b).setCfg 0x100020 (0x80 + 0x100 + 0x1000 + 0x400)
      bitAt (v.domCfg 0) 12 = true ∧ bitAt (v.domCfg 0) 10 = true ∧ (v.dom 0).best = none ∧ v.domOn 0 = true) ∧
     ¬(bits (u0.domCfg 0) 6 0 = 9 ∧ u0.domOn 0 = true)) := by
  decide +kernel

theorem test_wit_more_beacon_edges :
    bitAt u0.ppsCfg 0 = false ∧
    (let u := (u0.setCfg 0x100068 1).setCfg 0x100000 2
     bitAt u.ppsCfg 0 = true ∧ u.bcn.source = 0 ∧ u.domOn 0 = false ∧ u.domOn 1 = false ∧ u.bcn.pend = none) ∧
    u0.bcn.ref10 = false ∧ (ub fun b => { b with source := 3 }).bcn.source = 3 ∧
    (let u := (ud 2).upDom 0 fun x => { x with offset := none, lost := true }
     u.bcn.source = 2 ∧ u.bcn.source ≠ u.primary + 1 ∧ u.domOn u.primary = true ∧ u.agrees u.primary = false ∧ (u.dom u.primary).lost = true) ∧
    u0.utcNow = none ∧ (ub fun b => { b with utc := some leap }).utcNow = some (leap, false) ∧
    (let u := (ud 1).upDom 0 fun x => { x with utc := some leap }
     u.utcNow = some (leap, true)) ∧
    (let u := (ub fun b => { b with source := 1 }).upDom 0 fun x => { x with lost := true, best := none, utc := none }
     u.bcn.source = 0 + 1 ∧ 0 = u.primary ∧ u.agrees (1 - 0) = false ∧ (u0.upDom 0 fun x => { x with lost := true, best := none, utc := none }).bcn.source ≠ 0 + 1) := by
  decide +kernel

theorem test_wit_more_vigil :
    (let u := ua.upVp 1 fun x => { x with live := 3, health := 3 }
     let r : ResetOut := { seq := 0, kind := 2, ctx := 0xFF, newGen := 0, released := 0, report := false, resent := false, ctxGen := 0, accGen := 0 }
     u.cprRunning 1 = false ∧ (u.upIg 1 fun g => { g with resets := [r] }).cprRunning 1 = true) ∧
    ((u0.ig 1).active = false ∧ (u0.vp 1).state ≠ 1 ∧ (u0.vp 1).state ≠ 2) ∧ (ua.port 1).state ≠ 0 ∧ (u0.vp 1).state ≠ 2 ∧ (1 : Nat) ≤ 1 ∧ (2 : Nat) < 3 ∧ (64 : Nat) ≤ 64 ∧
    (∀ w ∈ [RegWhy.bringup, .probe, .ctxCtl 2 1 0, .key 1 2 0 5, .act 2, .gateWait 2, .host 0 1 0x2000 0 pageBytes],
     let u := ua.upIg 1 fun g => { g with regs := [{ seq := 0, offset := 0, write := false, count := 1, why := w }] }
     u.dropS sh 0x0A = none ∧ (u.regReq 1 sh.seq).map (·.why) = some w) ∧
    ua.dropS { sh with ver := 3 } 0x0A ≠ none ∧ ua.regReq 1 0 = none ∧ bitAt 4 2 = true ∧ bitAt 0 2 = false ∧
    u0.watchOf 1 2 = none ∧ (uw { wch with broken := true }).watchOf 1 2 = some { wch with broken := true } ∧
    (let u := (uw wch).setDesc 9 { u0.desc 9 with port := 1, context := 2 }
     (u.desc 9).q = [] ∧ 16 ≤ (u0.desc 9).port) := by
  decide +kernel

/-- The active accelerator at port 1 with version 2 and every feature. -/
abbrev ua2 : Units := ua.upIg 1 fun g => { g with features := 0x7FF, proto := 2 }

theorem test_wit_more_snuffer :
    (let r : ResetOut := { seq := 0, kind := 1, ctx := 2, newGen := 0, released := 0, report := false, resent := true, ctxGen := 0, accGen := 0 }
     let u := ua2.upIg 1 fun g => { g with resets := [r] }
     ((ua.ig 1).resets.find? fun r => r.seq = sh.seq && r.kind = 1) = none ∧ ((u.ig 1).resets.find? fun r => r.kind = 1 && (1 = 2 || r.ctx = 2)) = some r ∧ r.resent = true ∧
     (let v := (u.count 0x780118).raise Ev.RESET_NO_CONFIRM 0 0x078 0
      (v.ig 1).has 5 = true ∧ bitAt (v.cfg 0x78000C 1) 0 = true) ∧
     (((ua.upIg 1 fun g => { g with resets := [r] }).count 0x780118).raise Ev.RESET_NO_CONFIRM 0 0x078 0 |>.ig 1).has 5 = false ∧ u.resetting 1 2 = true ∧
     ((u.upIg 1 fun g => { g with resets := [{ r with kind := 2, ctx := 0xFF }] }).cprRunning 1) = true ∧ St.ABORTED_RESET ≠ St.OK) ∧
    (∀ v ∈ [ua, ua2], let x : Contain := { port := 1, ctx := 0xFF, level := 1, bumped := false, brk := false, jobs := [7], open_ := 1, served := false }
     let u := v.upV fun v => { v with contains := [x] }
     (u.vig.contains.find? fun x => x.port = 1 && x.ctx = 0xFF && !x.bumped) = some x ∧ x.level ≠ 0) ∧
    (ua2.ig 1).has 5 = true ∧ (ua.ig 1).has 5 = false ∧ ua.enabledOn 1 = [] ∧ (ua.upVp 1 fun x => { x with live := 4 }).enabledOn 1 ≠ [] ∧
    (ua.vig.contains.find? fun x => x.port = 1 && x.ctx = 2 && !x.bumped) = none ∧ ua.resetting 1 2 = false ∧ ua.cprRunning 1 = false ∧
    (1 < 16 ∧ 2 < 64 ∧ 0 ≤ 7 ∧ 15 ≤ 15 ∧ (0 = 0 ∨ 10 ≤ 0 ∧ 0 ≤ 600000)) ∧ ¬(16 < 16) ∧ isOperator (stampPriv ({ op with stamp := 0 } : Cmd).stamp) = false ∧
    (let u := (uw wch).setDesc 0 { u0.desc 0 with job := 7 }
     isTenant (stampPriv ({ op with stamp := 0x1000 } : Cmd).stamp) = true ∧ u.jobOf 1 2 ≠ 0 ∧ u.jobOf 1 2 = (u.desc ({ op with stamp := 0x1000 } : Cmd).ring).job) ∧
    isTenant (stampPriv ({ op with stamp := 0 } : Cmd).stamp) = false := by
  decide +kernel

theorem test_wit_more_waits :
    (24 = 8 + 16 * 1 ∧ [({ resource := 1, target := 2, ctx := 0, tag := 0, wait := 0 } : WaitEdge)].length = 1 ∧ 24 ≤ 4128) ∧ ¬(9 = 8 + 16 * 1) ∧
    (st ua).hears sh 0x12 ∧ ua.watchOf 1 2 = none ∧ (uw { wch with stalled := true }).watchOf 1 2 = some { wch with stalled := true } ∧
    (let u := (held wid u0).upR fun r => { r with routes := [(9, { cid := 9, kind := 1, valid := true, fenced := false, spare := false, target := 9, port := 0xFF, version := 0, gen := 3 })] }
     let v := u.upWatch lh.src fun w => { w with misses := 0, probing := false, failed := false, gen := 0 }
     (v.lanternStale { lh with srcGen := 0 } = true) ∧ (st (held wid u0)).hearsL lh ∧ (u.roleOf u.role.wardenId).holding = true ∧
     ((held wid u0).upWatch lh.src fun w => { w with misses := 0, probing := false, failed := false, gen := 0 }).lanternStale { lh with srcGen := 0 } = false) ∧
    NMap.has (u0.upWatch lh.src fun w => { w with misses := 1 }).role.watch lh.src = true ∧
    (let u := held kid u0
     u.actsAs u.role.keeperId = true ∧ (u.upRole kid fun r => { r with rebuilding := true }).actsAs kid = false ∧ NMap.find u.role.routes ntc.cid = none ∧
     (let e : RouteEntry := { rt with cid := 9 }
      let v := u.upR fun r => { r with routes := [(9, e)] }
      NMap.find v.role.routes ({ ntc with kind := 1 } : Notice).cid = some e ∧ ({ ntc with kind := 3 } : Notice).kind = 3)) ∧
    (let u := u0.upRole u0.role.keeperId fun r => { r with epoch := 3 }
     ntc.epoch < (u.roleOf u.role.keeperId).epoch ∧ (u.roleOf u.role.keeperId).holding = false) ∧
    (let u := u0.upV fun v => { v with applied := [(ntc.key, 1)] }
     ntc.seq = NMap.getD u.vig.applied ntc.key 0) ∧
    (let u := (uw wch).upR fun r => { r with routes := [(300, rt)] }
     u.portOf 300 = some 1 ∧ u.watchOf 1 2 = some wch ∧ ¬(wch.stalled = true) ∧ u.watchOf 1 3 = none) ∧
    (let u := (held wid u0).upV fun v => { v with lprobes := [9] }
     u.vig.lprobes.contains 9 = true ∧ u0.vig.lprobes.contains 9 = false ∧
     (let v := u.upV fun v => { v with lprobes := v.lprobes.filter fun c => c ≠ 9 }
      (v.roleOf v.role.wardenId).holding = true)) ∧
    (u0.vig.notices.find? fun x => x.1 = 1 && x.2.1 = 9) = none := by
  delta State.hears State.hearsL; decide +kernel

theorem test_wit_more_flicker :
    (let u := ua
     u.compKey (glim.getD 0 0) (glim.getD 1 0) 1 = none ∧ (u.addComp 4 0 1).2 = some 0 ∧
     (ua.upF fun f => { f with extract := false }).flick.extract = false ∧ 6 ≤ ([6, 0] : List Nat).getD 0 0 ∧
     ((uf fun c => { c with seq := some 1 }).comp 4).seq = some 1 ∧ ((uf fun c => { c with last := [(5, 3)] }).comp 4).inc 5 7 ≠ 0) ∧
    (uf.upF fun f => { f with enable := false }).flick.enable = false ∧
    (let v := (uf.upF fun f => { f with next := some mdl })
     v.flick.next = some mdl ∧ (v.slot mdl.slot).state ≠ 3 ∧ ((v.upSlot 3 fun s => { s with state := 3 }).slot mdl.slot).state = 3 ∧ uf.flick.model = none) ∧
    (let u := (uf fun c => { c with pending := true, state := 2 }).upF fun f => { f with model := some mdl }
     (u.flick.items.any fun i => i.no < 2 ^ 63 && i.comps.contains 4) = false ∧ u.flick.enable = true ∧
     ((u.upF fun f => { f with items := [{ no := 1, slot := 3, comps := [4] }] }).flick.items.any fun i => i.no < 2 ^ 63 && i.comps.contains 4) = true ∧
     (u.flick.model.map fun m => bitAt m.mask (u.comp 4).cls) = some true) ∧
    (let i : FItem := { no := 1, slot := 3, comps := [4] }
     let u := uf.upF fun f => { f with lapsed := [i] }
     (u.flick.items.filter fun i => i.no = 1) = [] ∧ (u.flick.lapsed.find? fun i => i.no = 1) = some i ∧ (uf.flick.lapsed.find? fun i => i.no = 1) = none) ∧
    NMap.has uf.flick.comps 4 = true ∧ NMap.has uf.flick.comps 5 = false ∧ ¬(2 ≤ (uf.comp 4).state) ∧ (5 : Nat) ≠ 0xFFFF ∧
    (uf.upF fun f => { f with loading := some (3, (3, 0), none) }).flick.loading.isSome = true ∧ ((NMap.find um.mantle.regions 4).map fun r => r.typ) = none ∧ imageCheck Mem.reset um 3 0 ≠ St.OK ∧
    (uf.comp 4).state ≠ 2 ∧ (uf.comp 4).prestage = none ∧ (uf.comp 4).raises = [] ∧
    (let r : FRaise := { at_ := 0, cleared := 0, charged := true }
     ((uf fun c => { c with raises := [r] }).comp 4).raises = [] ++ [r] ∧ r.charged = true) := by
  decide +kernel

theorem full_find {α : Type} (f : Nat → α) (n a k : Nat) (h : a ≤ k) (g : k < a + n) : NMap.find ((List.range' a n).map fun i => (i, f i)) k = some (f k) := by
  induction n generalizing a with
  | zero => omega
  | succ n ih =>
    simp only [List.range'_succ, List.map_cons, NMap.find]
    split
    · simp_all
    · rw [if_neg (by omega), ih (a + 1) (by omega) (by omega)]

theorem full_map {α : Type} (v : α) (n : Nat) : ∃ l : NMap α, NMap.firstFree l n = none ∧ ∀ e ∈ l, e.2 = v :=
  ⟨(List.range' 0 n).map fun i => (i, v), List.find?_eq_none.mpr fun k hk => by
    rw [NMap.has, full_find (fun _ => v) n 0 k (Nat.zero_le _) (by simpa using hk)]; simp, by simp⟩

theorem test_wit_flicker_full : ∃ u : Units, u.compKey 4 2000 1 = none ∧ (u.addComp 4 2000 1).2 = none :=
  (full_map (Comp.new 4 5 1) 1024).elim fun l h => ⟨ua.upF fun x => { x with comps := l },
    by rw [Units.compKey, Option.map_eq_none_iff, List.find?_eq_none]; intro e he; simp [h.2 e he, Comp.new],
    by unfold Units.addComp; simp only [Units.upF, h.1]⟩

/-- A durable snapshot that is whole, of step 1. -/
abbrev snp : Snap :=
  { man := { step := 1, shard := 5, job := 7, state := 6, flags := 0, prog := 1, epoch := 0, source := 0, writer := 0, buddy := 9, count := 1, gradFp := 0, postFp := 3,
             goTime := 0, seq := 1, reported := 0, agreeing := 1, cursor := 0, commitTime := 0 }, blocks := [[1, 2]], table := [(0, (crc64 [1, 2], 3))] }

theorem test_wit_more_wick_blocks :
    (let u := uk (jb 0) sd
     (({ sh with accGen := 1 } : SHdr).accGen ≠ u.accGen 1) ∧ (u.ig 1).active = true ∧ ¬((sh.accGen ≠ u.accGen sh.port ∨ sh.ctxGen ≠ u.ctxGen sh.port sh.ctx) ∧ (u.ig sh.port).active = true) ∧
     u.dropS sh 0x04 = none ∧ u.dropS { sh with ver := 3 } 0x04 ≠ none ∧ Blk.bad { blk with data := [] } = true ∧ Blk.bad blk = false ∧
     ({ u with link := { u.link with granted := [] } } : Units).creditsLeft 1 2 0 = 0 ∧ u.creditsLeft 1 2 0 ≠ 0 ∧
     ({ u with mantle := { u.mantle with stackFailed := true } } : Units).mantle.stackFailed = true) ∧
    (let x := sd fun x => { x with opens := [OpenStep.new 3 1] }
     (sd).nextStep = some 1 ∧ x.nextStep ≠ some 1 ∧ (jb 0).mode = 0 ∧ (jb 1).mode = 1 ∧ (jb 2).mode = 2) ∧
    (let x := sd fun x => { x with incoming := some (2, 0, []), members := [(300, 3)] }
     (st (uk (jb 2) x)).holds 5 0 x (jb 2) ∧ (uk (jb 2) x).localCtx (x.members.getD x.writer (0, 0)) ≠ some (sh.port, sh.ctx) ∧ x.incoming = some (2, 0, []) ∧ 2 ≠ blk.step ∧ x.prot ≠ 3) ∧
    (let x := sd fun x => { x with buddy := 9 }
     (st (uk (jb 1) x)).hears sh 0x03 ∧ (st (uk (jb 1) x)).holds srec.shard 0 x (jb 1) ∧ (x.members.any fun m => (uk (jb 1) x).localCtx m = some (sh.port, sh.ctx)) = true ∧
     (sd fun x => { x with members := [] }).members = [] ∧ srec.step % 1 = 0 ∧ bitAt srec.flags 3 = false ∧ (jb 0).mode ≠ 1 ∧ u0.shKey 5 = none) := by
  delta State.hears State.holds; decide +kernel

theorem test_wit_more_wick_commands :
    (let u := u0.upW fun w => { w with jobs := [(7, jb 0)], enable := true }
     u.jobB 7 = some (jb 0) ∧ u.jobB 8 = none ∧ u0.jobB 7 = none ∧ (0 : Nat) ≤ 2 ∧ 1 ≤ 1 ∧ 1 ≤ 1000 ∧ 1000 ≤ 2 ^ 48 ∧ (1 : Nat) < 8 ∧ (u0.upLamp fun l => { l with state := 4 }).lamp.state = 4 ∧
     ¬(3 ≤ 2) ∧ u.shKey 5 = none ∧ (u.bindShard 7 5 0 1000 0 1 (jb 0)).2 = some 0 ∧ (u.inst 7).state = 0 ∧ bitAt 2 1 = true ∧ bitAt 1 1 = false ∧ NMap.getD u.role.pairing u.self 0 = 0) ∧
    (let u := uk (jb 0) sd
     (st u).holds 5 0 sd (jb 0) ∧ (sd).job = 7 ∧ ¬((sd).epoch < 0) ∧ u.mayAccess Ag.wick 0 4 false = false ∧ (sd).job ≠ 8 ∧ (sd).isBuddy = false ∧
     ((u.shardsOf 7).any fun k => (u.shAt k).isBuddy) = false ∧ ((u.upInst 7 fun i => { i with state := 2 }).inst 7).state = 2) ∧
    (let j : JobBind := { jb 0 with released := 1 }
     let x := sd fun x => { x with roles := 2 }
     (st (uk j x)).holds 5 0 x j ∧ x.isBuddy = true ∧ j.released ≠ 0 ∧ x.passed 1 = false ∧ (sd fun x => { x with roles := 2, committed := 1 }).passed 1 = true ∧
     (((uk j x).shardsOf 7).any fun k => ((uk j x).shAt k).isBuddy) = true) ∧
    isOperator (stampPriv ({ op with stamp := 0 } : Cmd).stamp) = false ∧ isOperator wo.priv = true ∧ u0.wick.enable = true ∧ u0.wick.jobs = [] ∧ (uk (jb 0) sd).wick.jobs ≠ [] := by
  delta State.holds; decide +kernel

/-- A Wick whose shard table is full. -/
theorem test_wit_wick_full (j : JobBind) : ∃ u : Units, (u.bindShard 7 6 0 1000 0 1 j).2 = none :=
  (full_map sd 8192).elim fun l h => ⟨u0.upW fun w => { w with shards := l }, by unfold Units.bindShard; simp only [Units.upW, h.1]⟩

theorem test_wit_more_wick_forward :
    (let x := sd fun x => { x with roles := 2 }
     let u := uk (jb 0) x
     (st u).hearsL lh ∧ u.mantle.stackFailed = false ∧ (st u).holds blk.shard 0 x (jb 0) ∧ x.isBuddy = true ∧ (jb 0).mode = 0 ∧ x.committed < blk.step ∧ Blk.bad blk = false ∧
     u.fromReplica x x.writer lh.src = false ∧ u.fromReplica x x.writer u.self = true ∧ (st u).hearsL { lh with src := u.self } ∧ crc64 blk.data = blk.crc ∧
     (let v := u.upSh 0 fun s => s.begin blk.step 1
      NMap.has v.mantle.fading x.sRegion = false) ∧ (sd).isBuddy = false) ∧
    (let x := sd fun x => { x with roles := 2 }
     let u : Units := { uk (jb 0) x with mantle := { u0.mantle with fading := [(x.sRegion, reg 8 [])] } }
     NMap.has (u.upSh 0 fun s => s.begin blk.step 1).mantle.fading x.sRegion = true) ∧
    (let o : OpenStep := { OpenStep.new 1 2 with last := true }
     let x := so fun _ => o
     x.step? 1 = some o ∧ o.state ≠ 1 ∧ x.step? 2 = none ∧ ({ jb 0 with flags := 0 } : JobBind).gated = false ∧ (OpenStep.new 1 1).last = false) ∧
    (uk { jb 0 with entered := some 1 } sd).jobB 7 = some { jb 0 with entered := some 1 } := by
  delta State.holds State.hearsL; decide +kernel

theorem test_wit_more_wick_verify :
    (let u := uk (jb 0) sd
     (sd).isBuddy = false ∧ u.localCtx ((sd).members.getD srec.replica (0, 0)) = some (1, 2) ∧ (sd fun x => { x with members := [(301, 2)] }).members.getD srec.replica (0, 0) = (301, 2) ∧
     u.localCtx (301, 2) = none) ∧
    (let o : OpenStep := { OpenStep.new 1 4 with seeding := true }
     let x := sd fun x => { x with roles := 2, layout := 1, opens := [o] }
     (st (uk (jb 0) x)).holds 5 0 x (jb 0) ∧ x.step? 1 = some o ∧ blk.index < x.layout ∧ (uk (jb 0) x).fromReplica x o.seeder lh.src = false ∧
     (uk (jb 0) x).fromReplica x o.seeder (uk (jb 0) x).self = true ∧ x.layout ≤ [blk.index].length) ∧
    (let i : ShItem := { want := [], index := 0, sparse := false, first := 0, count := 1, touch := 0, state := 3, fp := 0, taper := 0 }
     let o : OpenStep := { OpenStep.new 1 3 with items := [i] }
     let x := sd fun x => { x with roles := 2, layout := 2, opens := [o] }
     (st (uk (jb 0) x)).holds 5 0 x (jb 0) ∧ o.seeding = false ∧ (o.items.filter fun i => i.state = 3 && (itemBlocks x (jb 0) o i).contains 0) ≠ [] ∧ o.seedGot.contains 0 = false ∧
     (o.items.filter fun i => i.state = 3 && (itemBlocks x (jb 0) o i).contains 1) = []) ∧
    (let x := sd fun x => { x with roles := 2, layout := 2 }
     (st (uk (jb 1) x)).holds 5 0 x (jb 1) ∧ x.isBuddy = true ∧ (jb 1).mode ≠ 0 ∧ x.committed < blk.step ∧ x.step? 1 = none ∧ (uk (jb 1) x).fromReplica x x.writer 9 = false ∧
     (uk (jb 1) x).fromReplica x x.writer (uk (jb 1) x).self = true) := by
  delta State.holds; decide +kernel

theorem test_wit_more_wick_compare :
    (let o : OpenStep := OpenStep.new 1 4
     let x := sd fun x => { x with roles := 2, layout := 2, opens := [o] }
     (st (uk (jb 1) x)).holds 5 0 x (jb 1) ∧ o.state = 4 ∧ o.readDone = false ∧ ((List.range x.layout).filter fun b => !(blockGood State.reset.mem (uk (jb 1) x) x (jb 1) x.bRegion x.table2 b)) ≠ [] ∧
     o.allRecs x = false ∧ 3 ≤ o.state ∧ o.state < 5) ∧
    (∀ b ∈ [false, true], let o : OpenStep := { OpenStep.new 1 5 with stalled := b }
     let x := sd fun x => { x with roles := 2, opens := [o] }
     (st (uk (jb 0) x)).holds 5 0 x (jb 0) ∧ x.step? 1 = some o ∧ o.state = 5 ∧ o.stalled = b ∧ St.BAD_STATE ≠ St.OK) := by
  delta State.holds; decide +kernel

theorem test_wit_more_wick_source :
    (let x := so fun o => { o with state := 3 }
     (st (uk (jb 0) x)).holds snp.man.shard 0 x (jb 0) ∧ 6 ≤ snp.man.state ∧ ({ snp.man with state := 4 } : CommitRec).state < 6 ∧
     ¬((jb 0).gated = true ∧ ((x.step? 1).any fun o => o.state < 3) = true) ∧ ((so.step? 1).any fun o => o.state < 3) = true ∧ (jb 0).gated = true) ∧
    (let x := sd fun x => { x with roles := 2, committed := 1, curStep := some 1, layout := 1 }
     let u : Units := { uk (jb 0) x with mantle := um.mantle }
     (st u).holds 5 0 x (jb 0) ∧ x.isBuddy = true ∧ x.holds 0 1 = true ∧ 0 < x.layout) ∧
    (let x := sd fun x => { x with durable := [snp], snap := some snp }
     x.isBuddy = false ∧ (x.durable.find? fun y => y.man.step = 1) = some snp ∧ x.snap = some snp ∧ snp.man.step = 1 ∧ snp.man.step ≠ 2 ∧ snp.whole = true ∧ ({ snp with table := [] } : Snap).whole = false) ∧
    (let x := so fun o => { o with transit := [(0, blk)] }
     (x.durable.find? fun y => y.man.step = 1) = none ∧ ((x.step? 1).bind fun o => o.transit.find? fun x => x.2.index = 0 && x.2.fmt ≠ 0x10) = some (0, blk)) ∧
    (let j : JobBind := { jb 0 with released := 1 }
     let x := sd fun x => { x with port := 1, ctx := 2 }
     (uk j x).localReplica x = some 0 ∧ j.gated = true ∧ j.released = 1 ∧ (sd fun x => { x with members := [] }).members = []) ∧
    (let j : JobBind := { jb 0 with flags := 3 }
     let u := (uk j sd).setDesc 9 { u0.desc 9 with kind := 2, enable := true, job := 7 }
     bitAt j.flags 1 = true ∧ u.exportRingOf 7 = some 9 ∧ (uk j sd).exportRingOf 7 = none ∧ (sd).snap = none) := by
  delta State.holds; decide +kernel

/-- An OverAcct of tenant 4 with one stream open in the context 2 at port 1. -/
abbrev ova : OverAcct := { tenant := 4, acct := Acct.zero, open_ := [(ctxKey 1 2, 1)], opened := 1, tokens := 0 }

/-- The Ledger's table full, and the standing order that admits what it cannot hold. -/
abbrev usf (g : Ledger → Ledger := id) : Units :=
  (us fun l => g { l with fresh := 131072 }).upR fun r =>
    { r with soDomain := { version := 1, entries := [{ trigger := Ev.LEDGER_STREAM_OVERFLOW, level := 2, cls := 0, action := 7, flags := 1, scope := 0, a := 0, b := 0, timeout := 0 }] } }

theorem test_wit_more_token_streams :
    us.ctxEnabled 1 3 = false ∧ us.mayStream op (us.jobOf 1 3) = true ∧ ({ us with mantle := u0.mantle } : Units).poolRegion.isNone = true ∧
    (us.upV fun v => { v with fenced := 2 }).fenced 1 = true ∧ ((mounted us).setCfg 0x800008 0).backpressure = true ∧
    (let u1 := usf.raise Ev.LEDGER_STREAM_OVERFLOW 2 0x080 0 (t := { Target.none with job := 7, port := 1, ctx := 2 })
     usf.led.head = none ∧ usf.overflow 7 4 = some (0, true) ∧ (u1.freeChunks 1).isSome = true ∧ usf.backpressure = false ∧ usf.poolRegion.isNone = false) ∧
    (usf fun l => { l with excess := [(0, ova)] }).overflow 7 4 = some (0, false) ∧ (us fun l => { l with fresh := 131072 }).overflow 7 4 = none ∧
    (let u : Units := { usf with mantle := { usf.mantle with regions := [(3, reg 5 [])] } }
     u.overflow 7 4 = some (0, true) ∧ (u.raise Ev.LEDGER_STREAM_OVERFLOW 2 0x080 0 (t := { Target.none with job := 7, port := 1, ctx := 2 })).freeChunks 1 = none) ∧
    us.stream (9 % 2 ^ 17) = none ∧ isTenant (cmdPriv op) = true ∧ isTenant (cmdPriv { op with stamp := 0 }) = false ∧
    (∀ k ∈ [2, 3, 4], (us fun l => { l with streams := [(9, sm k)] }).stream 9 = some (sm k) ∧ (sm k).state = k) ∧
    (let u := us fun l => { l with excess := [(0, ova)] }
     bitAt (2 ^ 31) 31 = true ∧ NMap.find u.led.excess (2 ^ 31 % 256) = some ova ∧ ova.open_.isEmpty = false ∧ ({ ova with open_ := [] } : OverAcct).open_.isEmpty = true ∧
     NMap.find u.led.excess 1 = none ∧ isOperator (cmdPriv op) = true ∧ ¬(isOperator (cmdPriv { op with stamp := 0 }) = true ∨ cmdPriv { op with stamp := 0 } = 1)) := by
  decide +kernel

theorem test_wit_more_stream_messages :
    (2 ≤ 1024 ∧ 24 = 16 + 4 * 2 ∧ [5, 6].length = 2) ∧ ¬(24 = 16 + 4 * 3) ∧
    (let x : Stream := { sm 1 with emitted := 3 }
     ¬¬(bitAt 1 0 = true ∧ 0 < x.emitted ∧ 0 < 2)) ∧
    (let u := us fun l => { l with excess := [(0, ova)] }
     (1024 < 1025 ∧ 16 ≠ 20) ∧ NMap.find u.led.excess (2 ^ 31 % 256) = some ova ∧ NMap.getD ova.open_ (ctxKey sh.port sh.ctx) 0 ≠ 0 ∧
     NMap.getD ({ ova with open_ := [] } : OverAcct).open_ (ctxKey sh.port sh.ctx) 0 = 0) ∧
    (us fun l => { l with fresh := 5 }).led.head = some 5 ∧
    ({ us with mantle := { us.mantle with regions := [(3, reg 5 [])] } } : Units).freeChunks 1 = none ∧
    (let x : Stream := { sm 1 with incoming := some (0, 3), move := (9, 7, 2) }
     let u := us fun l => { l with streams := [(5, x)] }
     (u.led.streams.find? fun x => x.2.incoming.isSome && x.2.move.1 = lh.src && x.2.move.2.1 = 7) = some (5, x) ∧
     (u.led.streams.find? fun x => x.2.incoming.isSome && x.2.move.1 = lh.src && x.2.move.2.1 = 8) = none) ∧
    (let x : Stream := { sm 4 with move := (9, 0, 0), cancelWait := true, cmds := [(0x0803, op)] }
     let u := us fun l => { l with streams := [(9, x)] }
     (u.led.streams.find? fun x => x.2.state = 4 && x.2.move.2.2 = lh.seq && u.servedBy x.2.move.1 = lh.src) = some (9, x) ∧ x.cancelWait = true) ∧
    (us.led.streams.find? fun x => x.2.state = 4 && x.2.move.2.2 = lh.seq && us.servedBy x.2.move.1 = lh.src) = none ∧ bitAt 2 1 = true ∧
    (9 < 32768 ∧ ((us.setDesc 9 { us.desc 9 with kind := 2 }).desc 9).kind = 2) ∧ ¬(9 < 32768 ∧ (us.desc 9).kind = 2) := by
  decide +kernel

theorem test_wit_more_ledger :
    (let u := ul fun l => { l with gap := some (5, 1), calNext := some l.cal }
     u.led.gap = some (5, 1) ∧ u.led.calNext = some u0.led.cal) ∧ (ul fun l => { l with epoch := 1 }).led.epoch ≠ u0.clk.epoch ∧ u0.led.gap = none ∧
    NMap.find u0.led.chans 3 = none ∧ ec.sum100 < 7 ∧ ¬(ec.sum100 ≥ 1) ∧ ec.missed = 0 ∧ ({ ec with missed := 1 } : EnergyChan).lost = false ∧
    (let u := ul fun l => { l with noSign := true, toSign := [lr] }
     u.led.toSign ≠ [] ∧ u.led.noSign = true) ∧
    (let x : SRec := { sr with r := { lr with kind := 1, subjB := 9 } }
     let u := us fun l => { l with written := [x], streams := [(9, { sm 3 with recorded := true })] }
     u.led.written = x :: [] ∧ x.r.kind = 1 ∧ u.stream (x.r.subjB % 2 ^ 17) = some { sm 3 with recorded := true } ∧ ({ sm 3 with recorded := true } : Stream).recorded = true ∧
     (sm 3).recorded = false ∧ (us fun l => { l with streams := [(9, sm 3)] }).stream 9 = some (sm 3)) ∧
    u0.tal.mounted = false ∧ u0.tal.blank = false ∧ (u0.upT fun t => { t with blank := true }).tal.blank = true ∧ u0.tal.format = none ∧
    (mounted u0).tal.enable = true ∧ (u0.wick.jobs = [] ∧ u0.led.stored = [] ∧ u0.led.written = [] ∧ u0.led.toSign = []) ∧
    (let u := us fun l => { l with excess := [(0, ova)], streams := [(9, { sm 3 with recorded := true })], freedJob := [(8, 7)] }
     (NMap.find u.led.excess (2 ^ 31 % 256)).isSome = true ∧ NMap.find u.led.excess ((2 ^ 31 + 1) % 256) = none ∧ u.stream (9 % 2 ^ 17) = some { sm 3 with recorded := true } ∧
     u.stream (8 % 2 ^ 17) = none ∧ NMap.find u.led.freedJob (8 % 2 ^ 17) = some 7 ∧ NMap.find u.led.freedJob (7 % 2 ^ 17) = none) ∧
    (u0.led.chargeOut.find? fun x => x.dst = 9 && x.seq = 1) = none ∧ isOperator (stampPriv ({ op with stamp := 0 } : Cmd).stamp) = false := by
  decide +kernel

/-- A spare of T3 9 at port 1, in state `k` of group `g`. -/
abbrev spr (k g : Nat) : Spare := { cid := 9, port := 1, state := k, talnex := 3, group := g, pos := 0, version := 0 }

/-- The keeper with changes to its recovery state. -/
abbrev ukp (g : Rcv → Rcv) : Units := held u0.role.keeperId (uc g)

theorem test_wit_more_recovery :
    (u0.rcvStale 7 0 = false) ∧ (uc fun x => { x with lastSeq := [(7, 9)] }).rcvStale 7 3 = true ∧ NMap.find u0.rcv.coord 7 = none ∧ (rc 1 0).phase ≠ 0 ∧
    NMap.find (uc fun x => { x with coord := [(7, rc 1 0)] }).rcv.coord 7 = some (rc 1 0) ∧ u0.isKeeper = false ∧
    (let u := ukp fun x => { x with coord := [(7, rc 4 0)] }
     u.isKeeper = true ∧ NMap.find u.rcv.coord 7 = some (rc 4 0) ∧ (rc 4 0).back = 0 ∧ (rc 4 0).phase = 4) ∧
    (1 < 16 ∧ (0 = 0 ∨ 0 = 1 ∨ 0 = 4) ∧ 0 < 1024) ∧ ¬(16 < 16 ∧ (0 = 0 ∨ 0 = 1 ∨ 0 = 4) ∧ 0 < 1024) ∧
    (let u := ukp fun x => { x with spares := [spr 3 0] }
     u.isKeeper = true ∧ ∃ x, (u.rcv.spares.find? fun x => x.cid = 9 && x.port = 1) = some x ∧ x.state = 3) ∧
    (let u := ukp fun x => { x with spares := (List.range 8).map fun i => { spr 0 0 with port := 2 + i } }
     8 ≤ u.sparesIn 0 ∧ (u.rcv.spares.find? fun x => x.cid = 9 && x.port = 1) = none) ∧
    (let u := ukp fun x => { x with groups := [(0, (4, []))], spares := [spr 0 0] }
     (u.rcv.spares.find? fun x => x.cid = 9 && x.port = 1) = some (spr 0 0) ∧ u.groupGen 0 = some 4 ∧ 4 ≠ spareTalnex u (some (spr 0 0)) 9 1 0 ∧ (spr 0 0).state ≠ 3) ∧
    (let u := ukp fun x => { x with groups := [(0, (3, []))], spares := [spr 0 0] }
     u.groupGen 0 = some 3 ∧ 3 = spareTalnex u (some (spr 0 0)) 9 1 0 ∧ u.sparesIn 0 < 8 ∧ (1 : Nat) = 1 ∧ 9 ≠ u.self) ∧
    (let u := (ukp id).upRole u0.role.keeperId fun r => { r with stopped := true }
     u.isKeeper = false ∧ (u.roleOf u.role.keeperId).holding = true) ∧ (u0.roleOf u0.role.keeperId).holding = false := by
  decide +kernel

theorem test_wit_more_grants :
    (∀ a ∈ [1, 3], ((uc fun x => { x with reqs := [(300, 7, a, 0)] }).rcv.reqs.find? fun r => r.1 = 300) = some (300, 7, a, 0)) ∧ (1 : Nat) ≠ 3 ∧ St.BAD_STATE ≠ St.OK ∧
    (u0.rcv.prep.find? fun x => x.1 = 300 && x.2.1 = 1) = none ∧ ((uc fun x => { x with prep := [(300, 1, [])] }).rcv.prep.find? fun x => x.1 = 300 && x.2.1 = 1) = some (300, 1, []) ∧
    u0.rcv.holds.contains 300 = false ∧ (3 : Nat) ≠ 1 ∧ (3 : Nat) ≠ 2 ∧ u0.mantle.stackFailed = false ∧ ¬(Blk.bad blk = false ∧ crc64 ({ blk with crc := 0 } : Blk).data = ({ blk with crc := 0 } : Blk).crc) ∧
    ((urr 2).rcv.reload.find? fun e => e.2.state = 2 && e.2.shards.head? = some blk.shard) = some (1, (urr 2).reloadOf 1) ∧
    (u0.rcv.reload.find? fun e => e.2.state = 2 && e.2.shards.head? = some blk.shard) = none ∧
    (let v : Serve := { shard := 5, dst := lh.src, step := 1, next := 0, acked := 0 }
     let u := (uk (jb 0) (sd fun x => { x with layout := 4 })).upC fun x => { x with serves := [v] }
     (u.rcv.serves.find? fun v => v.shard = 5 && v.dst = lh.src) = some v ∧ 2 < u.withSh 5 0 (fun _ x _ => x.layout) ∧ u.withSh 5 0 (fun _ x _ => x.layout) ≤ 4) ∧
    (u0.rcv.serves.find? fun v => v.shard = 5 && v.dst = lh.src) = none ∧ u0.shKey 5 = none ∧
    (let u := u0.upW fun w => { w with jobs := [(7, jb 0)] }
     u.jobB 7 = some (jb 0) ∧ u.shKey 5 = none ∧ (u.bindShard 7 5 0 1000 9 1 (jb 0)).2 = some 0) ∧
    ((urr 2).reloadOf 1).state = 2 ∧ (urr 2).reloadOf 1 ≠ (urr 3).reloadOf 1 ∧ ((urr 2).ig 1).proto = 1 ∧ (((urr 2).upIg 1 fun g => { g with proto := 2 }).ig 1).proto ≠ 1 ∧
    (3 : Nat) < ((urr 2).reloadOf 1).blocks ∧ ((urr 2).reloadOf 1).blocks ≤ 4 ∧ ((urr 0).reloadOf 1).state ≠ 2 ∧ ((urr 0).reloadOf 1).state ≠ 3 := by
  decide +kernel

theorem test_wit_more_ember :
    ue.shKey 6 = none ∧ ue.jobB 8 = none ∧ (ue fun e => { e with tables := [(5, tb)] }).ember.tables ≠ [] ∧ NMap.find ue.ember.tables 5 = none ∧ tb.job ≠ 8 ∧ (si 2).job ≠ 8 ∧
    (ue fun e => { e with entries := [(0, si 2)], tables := [(5, tb)] }).ember.entryOf 5 = some (0, si 2) ∧ ue.ember.entryOf 5 = none ∧
    (ue fun e => { e with enable := false }).ember.enable = false ∧ ((ue.upSh 0 fun x => { x with prot := 1 }).shAt 0).prot ≠ 0 ∧ ¬(1 ≤ 0) ∧
    (let u := (ue.upSh 0 fun x => { x with roles := 2 }).setCfg 0xE03000 3
     (u.shAt 0).isBuddy = true ∧ bitAt (u.cfg 0xE03000 1) 1 = true ∧ u.ember.inst = 0) ∧
    (let u := (ue fun e => { e with tables := [(5, tb)], inst := 2 }).upIg 1 fun g => { g with features := 0x3FF }
     let u := u.upSh 0 fun x => { x with curStep := some 1, buddy := 9, roles := 3 }
     embReason State.reset.mem u 7 5 = none ∧ u.ember.inst = 2 ∧ NMap.firstFree u.ember.entries 16 = some 0) ∧
    St.BAD_STATE ≠ St.OK ∧ (held ue.role.keeperId ue).isKeeper = true ∧ (ue.ember.entries.find? fun e => e.2.shard = 5 && e.2.job = 7 && e.2.cid = 300 && e.2.ctx = 2) = none ∧
    (ue.gather (2 ^ 20 + lh.src) 6 [1] [0, 0] true).2 = none ∧ (ue.gather (2 ^ 20 + lh.src) 6 [1] [0, 0] false).2 = some ([1], [0, 0]) ∧
    (ue.gather (64 * sh.port + sh.ctx) 6 [1] [0, 0] true).2 = none ∧ (ue.gather (64 * sh.port + sh.ctx) 6 [1] [0, 0] false).2 = some ([1], [0, 0]) ∧
    (let u := ue fun e => { e with tables := [(5, tb)], routes := [er] }
     (u.ember.routes.find? fun r => r.seq = 1 + r.mode && r.tags.contains 0x20000004) = some er ∧ u.setLenOk er 0x20000004 1 2 = false ∧ u.setLenOk er 0x20000004 1 128 = true) ∧
    ue.ember.inst ≠ 2 ∧ ue.ember.waiting = [] ∧ NMap.find ue.ember.entries 0 = none ∧ (si 2).state ≠ 3 ∧ NMap.find (ue fun e => { e with entries := [(0, si 2)] }).ember.entries 0 = some (si 2) ∧
    (let u := ue fun x => { x with inst := 2, entries := [(0, { si 2 with queue := [ts] })] }
     u.ember.waiting ≠ [] ∧ u.ember.entries ≠ []) := by
  decide +kernel

theorem test_wit_more_leases :
    (let u := (ur fun r => { r with cands := [8], waiting := true }).upLamp fun l => { l with state := 3 }
     (u.roleOf wid).holding = false ∧ u.mayStart (u.roleOf wid) = true) ∧
    u8.mayStart (u8.roleOf wid) = false ∧ (u8.roleOf wid).holding = false ∧ ((ur fun r => { r with holding := true, stopped := true }).roleOf wid).stopped = true ∧
    (let x : StoreOut := { seq := 4, kind := 1, epoch := 1, holder := 9, reqSeq := 1 }
     let y : StoreOut := { x with kind := 2 }
     ((ur fun r => { r with wHolder := 9, stores := [x] }).roleOf wid).stores = [x] ∧ x.kind = 1 ∧
     (∃ z ∈ ((ur fun r => { r with wHolder := 9, stores := [y] }).roleOf wid).stores, z.kind = 2) ∧ (¬∃ z ∈ ((ur fun r => { r with wHolder := 9, stores := [y] }).roleOf wid).stores, z.kind = 1)) ∧
    ((ur fun r => { r with witness := 8, cands := [7] }).firstCand ((ur fun r => { r with witness := 8, cands := [7] }).roleOf wid) [] ≠ some lh.src) ∧ (u8.roleOf wid).wHolder = 0 ∧
    (u8.roleOf wid).cands.head? = none ∧ (u8.roleOf wid).wLeased = false ∧ u8.self ≠ (u8.roleOf wid).witness ∧ (u8.roleOf wid).acting = false ∧
    (let f := fun (u : Units) => u.upRole wid fun r => { r with wepoch := 1 }
     let u := f (ur fun r => { r with holding := true, reqSeq := 4, waiting := true })
     5 ≠ (u.roleOf wid).reqSeq ∧ ((f (ur fun r => { r with holding := true })).roleOf wid).waiting = false ∧ (f u8).freeFor wid = true ∧
     (let v := f ((held kid u8).upRole wid fun r => { r with waiting := true })
      v.freeFor wid = false) ∧
     (let v := f (ur fun r => { r with waiting := true })
      (v.roleOf wid).holding = false ∧ (v.roleOf wid).waiting = true ∧ (v.roleOf wid).epoch < 1) ∧
     ((f u8).roleOf wid).waiting = false ∧ (((f u8).roleOf wid).stores.find? fun x => x.seq = 4) = none ∧
     (roleLevel wid = 3 ∧ ((f (ur fun r => { r with holder := 9 })).roleOf wid).holder ≠ 0) ∧ (st u8).hearsWit lh kid 1 ∧ roleLevel kid = 4 ∧
     ((u8.upRole kid fun r => { r with wepoch := 1 }).roleOf kid).epoch < 1 ∧ (u8.upRole kid fun r => { r with wepoch := 1 }).freeFor kid = true) ∧
    (u8.roleOf wid).standby ≠ u8.self ∧ ((ur fun r => { r with standby := 8, acting := true }).roleOf wid).acting = true ∧ ((ur fun r => { r with pilot := 8, misses := 2, asked := true }).roleOf wid).asked = true ∧
    (u8.roleOf wid).pilot ≠ u8.self ∧ (u8.roleOf wid).pilot = 0 ∧ (u8.roleOf wid).rebuilding = false ∧ ((ur fun r => { r with vacant := true }).roleOf wid).vacant = true ∧
    ((ur fun r => { r with pilot := 8 }).roleOf wid).pilot = u8.self ∧ ((ur fun r => { r with holding := true }).roleOf wid).pilot = 0 := by
  delta State.hearsWit State.hearsL; decide +kernel

/-- The lighthouse role at T3 8, acting. -/
abbrev lht (g : RoleUnit → RoleUnit) : Units := lhs.upR g

theorem test_wit_more_journals :
    (let u := ur fun r => { r with jpos := 3 }
     2 ≤ (u.roleOf wid).jpos ∧ (u.roleOf wid).jpos ≤ 2 + [[1, 2], [3]].length ∧ ¬(4 ≤ (u.roleOf wid).jpos)) ∧
    (let u := ur fun r => { r with holding := true, pilot := lh.src }
     (u.roleOf wid).holding = true ∧ lh.src = (u.roleOf wid).pilot ∧ lh.src ≠ (u8.roleOf wid).pilot ∧ St.INTEGRITY_FINGERPRINT ≠ St.OK) ∧
    (let u := ur fun r => { r with holding := true, cands := [9], witness := 7 }
     (u.roleOf wid).holding = true ∧ (u.roleOf wid).pilot = 0 ∧ (u.roleOf wid).cands.contains lh.src = true ∧ (u.roleOf wid).judges.contains lh.src = false ∧
     lResp { lh with flags := 1 } = true ∧ (st u).hearsRole { lh with flags := 1 } wid 0) ∧
    (st u8).hearsFrom lh u8.role.keeperId ∧ (held kid u8).actsAs u8.role.keeperId = true ∧ u8.actsAs u8.role.keeperId = false ∧
    (let u := (held kid u8).upRole kid fun r => { r with stopped := true }
     (u.roleOf (u.soRole 0)).holding = true ∧ u.actsAs (u.soRole 0) = false ∧ (held kid u8).actsAs (u8.soRole 0) = true) ∧
    (let u := u8.upRole kid fun r => { r with holder := 7 }
     (u.roleOf (u.soRole 0)).holder ≠ 0 ∧ lh.src ≠ (u.roleOf (u.soRole 0)).holder ∧ (u8.roleOf (u8.soRole 0)).holder = 0) ∧
    (st u8).hearsFrom lh u8.role.wardenId ∧ (u8.upR fun r => { r with pairing := [(8, 9)] }).role.pairing = [(8, 9)] ∧
    (let u := ({ u8 with mantle := um.mantle }).upR fun x => { x with setVer := 1 }
     u.takePair (pooledRegion 2 7, 2 ^ 60) (pooledRegion 3 7, 1) 1 = none ∧ (u.takePair (pooledRegion 2 7, 1) (pooledRegion 3 7, 1) 1).map (·.2) = some (some 0, some 1)) ∧
    u8.heldRole = none ∧ (held wid u8).heldRole ≠ none ∧
    (let u := (held kid (u8.upR fun r => { r with routes := [(300, { rt with target := 9 })] })).noteT3 9 fun w => { w with failed := true, probing := false }
     u.actsAs u.role.keeperId = true ∧ (u.positionsOf 9).filter (fun e => !e.fenced) ≠ []) ∧
    (let u := (held wid u8).noteT3 9 fun w => { w with failed := true, probing := false }
     ¬(u.actsAs u.role.keeperId = true)) ∧
    (let u := (held wid u8).upR fun r => { r with watch := [(9, { T3Watch.reset with failed := true })] }
     ¬((u.roleOf u.role.wardenId).holding = true ∧ (NMap.getD u.role.watch 9 T3Watch.reset).failed = false)) := by
  delta State.hearsRole State.hearsFrom State.hearsL; decide +kernel

theorem test_wit_more_keys :
    (3 < 16 ∧ (5 : Nat) ≠ 6 ∧ (16 : Nat) ≤ 16) ∧ (held kid u8).actsAs kid = true ∧ u8.gapAt kid = true ∧ (u8.upRole kid fun r => { r with holder := 7 }).gapAt kid = false ∧
    u8.actsAs 0x30000000 = false ∧ lhs.actsAs 0x30000000 = true ∧ (lhs.role.admitted.contains 3 = true ∧ (0 &&& lhs.role.lastFeats) = lhs.role.lastFeats) ∧
    ¬(lhs.role.admitted.contains 5 = true) ∧ lResp { lh with flags := 1 } = true ∧ (u8.roleOf 0x30000000).holding = false ∧ ((held kid u8).roleOf kid).holding = true ∧
    (let u := (held kid u8).upRole 0x30000000 fun r => { r with holder := 9 }
     lh.src = (u.roleOf 0x30000000).holder ∧ (u.roleOf u.role.keeperId).holding = true ∧ lh.src ≠ u.self) ∧
    (let u := u8.upRole kid fun r => { r with holder := 7 }
     ¬(lh.src = (u.roleOf 0x30000000).holder ∧ (u.roleOf u.role.keeperId).holding = true ∧ lh.src ≠ u.self) ∧ (u.roleOf u.role.keeperId).holder ≠ 0 ∧
     lh.src ≠ (u.roleOf u.role.keeperId).holder) ∧ (u8.roleOf u8.role.keeperId).holder = 0 ∧
    (st u8).hearsFrom lh 0x30000000 ∧ 0 = u8.role.featEpoch ∧ 1 ≠ u8.role.featEpoch ∧ St.UNSUPPORTED ≠ St.OK ∧ (st u8).hearsRole lh wid 0 ∧
    ([9, 9, 0, 0].filter (· ≠ 0)).eraseDups.length ≠ ([9, 9, 0, 0].filter (· ≠ 0)).length ∧ ([9, 7, 0, 0].filter (· ≠ 0)).eraseDups.length = ([9, 7, 0, 0].filter (· ≠ 0)).length ∧
    (let u := u8.upR fun r => { r with topo := [(9, 1)], routes := [(7, { rt with cid := 7, fenced := true })] }
     u.hop 9 = some 17 ∧ u.routeFenced 7 = true ∧ u.hop 6 = none ∧ u.routeFenced 9 = false ∧ ({ lh with hop := 0 } : LHdr).hop = 0 ∧ 9 ≠ u.self) := by
  delta State.hearsRole State.hearsFrom State.hearsL; decide +kernel

theorem test_wit_more_roles :
    (u8.roleOf wid).drillHours = 0 ∧ ((u8.roleOf wid).drillOut.any fun x => x.1 = 1 && x.2.1 = 9) = false ∧
    (let u := (ur fun r => { r with holding := true, home := true, cands := [9], pilot := 9, pilotSince := some 0 }).upK fun c => { c with mono := 60000000000 }
     u.roleQuiet wid = true ∧ (u.roleOf wid).home = true ∧ (u.roleOf wid).pilot ≠ 0 ∧ (u.roleOf wid).cands.head? = some (u.roleOf wid).pilot ∧ (u.roleOf wid).stopped = false ∧
     (u.roleOf wid).rebuilding = false ∧ (u.roleOf wid).pilotSince = some 0 ∧ 0 + 60000000000 ≤ u.clk.mono) ∧
    (∀ b ∈ [true, false], (ur fun r => { r with holding := true, handing := b }).roleQuiet wid = false ∧ ((ur fun r => { r with holding := true, handing := b }).roleOf wid).handing = b) ∧
    u8.role.rollout = none ∧
    (let u := lht fun r => { r with rollout := some (0, 4, 5), role := r.role ++ [(0x30000001, RoleSt.reset)] }
     u.actsAs 0x30000000 = true ∧ u.role.rolloutHold = false ∧ u.role.rollout = some (0, 4, 5) ∧ u.podAfter (some 5) = none) ∧
    ((lht fun r => { r with role := NMap.set r.role 0x20000003 RoleSt.reset }).podAfter (some 0) = some 3) ∧ ¬((4 : Nat) = 5) ∧
    ((u8.upR fun r => { r with featNext := some (1, 3) }).role.featNext.isSome = true ∧ ((NMap.vals (u8.upR fun r => { r with featNext := some (1, 3) }).role.role).any fun r => r.featWait) = false) ∧
    (let x : Placing := { job := 7, shard := 5, src := 4, buddyBytes := 1, stagingBytes := 1, tried := [9] }
     ((u8.upR fun r => { r with placing := [x] }).role.placing.find? fun x => x.job = 7 && x.shard = 5 && x.tried.head? = some lh.src) = some x) ∧
    (u8.role.placing.find? fun x => x.job = 7 && x.shard = 5 && x.tried.head? = some lh.src) = none ∧ St.deferred St.BUSY_RETRY = true ∧ St.deferred St.MANTLE_FULL = false ∧
    (roleIdOk wid = true ∧ 8760 ≤ 8760) ∧ ¬(roleIdOk 0 = true) ∧ ((ur fun r => { r with pilot := 9 }).roleOf wid).pilot ≠ u8.self ∧ u8.mayAccess Ag.lamp pageBytes 128 false = false ∧
    (let u : Units := { um with mantle := { um.mantle with poison := [pageBytes / 64] } }
     u.mayAccess Ag.lamp pageBytes 128 false = true ∧ u.poisoned pageBytes 128 = true) ∧
    (um.roleOf (um.soRole 0)).holding = false ∧ ¬(256 < 256 ∧ bitAt 0 0 = true) := by
  decide +kernel

theorem test_wit_more_shadow :
    (up2.wick.progs.find? fun e => e.2.id = 0x200) = none ∧
    (let u : Units := { up2 with wick := { up2.wick with jobs := [(7, { jb 0 with prog := 0x100 })] } }
     ∃ j ∈ u.wick.jobs, j.2.mode = 0 ∧ j.2.prog = 0x100) ∧
    u0.mayAccess Ag.wick pageBytes 256 false = false ∧ (∃ r, NMap.find um.mantle.regions 3 = some r ∧ r.typ = 8) ∧ (0xFFFF = 0xFFFF) ∧
    u0.shKey 5 = none ∧
    (let o : OpenStep := { OpenStep.new 1 4 with verdict := 1 }
     let x := sd fun x => { x with opens := [o] }
     (st (uk (jb 0) x)).holds 5 0 x (jb 0) ∧ x.step? 2 = none ∧ x.step? 1 = some o ∧ x.isBuddy = false ∧ x.count < 2 ∧ x.job ≠ 8 ∧ (1 : Nat) ≤ x.count) ∧
    (NMap.find um.mantle.regions 9).isNone = true ∧ imageCheck Mem.reset um 3 0 ≠ St.OK ∧ ¬(0x100 ≤ 5) ∧ (true ≠ false) ∧
    up2.progOf 0x200 = none ∧ up2.progOf 0x100 = some pe ∧ (setHeader Mem.reset up2 9).1 = 0 ∧
    (let q : Qualify := { cmd := op, prog := 0x100, set := 3, slot := 64, buddy := 4, staging := 5, vec := 0 }
     let u : Units := { up2 with wick := { up2.wick with qualify := some q } }
     u.wick.qualify ≠ none ∧ 64 ≤ q.slot) ∧ up2.wick.qualify = none ∧
    (let q : Qualify := { cmd := op, prog := 0x200, set := 3, slot := 3, buddy := 4, staging := 5, vec := 0 }
     q.slot < 64 ∧ up2.progOf q.prog = none) ∧
    (∀ k ∈ [1, 2], let x : ShItem := { want := [], index := 0, sparse := false, first := 0, count := 1, touch := 0, state := k, fp := 0, taper := 0 }
     let o : OpenStep := { OpenStep.new 1 3 with items := [x] }
     let y := sd fun x => { x with roles := 2, opens := [o] }
     (st (uk (jb 0) y)).holds 5 0 y (jb 0) ∧ (o.items.find? fun i => i.index = 0) = some x ∧ (o.items.find? fun i => i.index = 1) = none ∧ y.step? 2 = none ∧ o.state = 3 ∧ o.seeding = false ∧
     (x.state < 2 ↔ k = 1)) ∧ (u0.inst 7).state ≠ 2 := by
  delta State.holds; decide +kernel

theorem test_wit_more_groups :
    isOperator (stampPriv ({ op with stamp := 0 } : Cmd).stamp) = false ∧ ¬(1 ≤ 0) ∧ ((ux []).upX fun x => { x with enable := false }).coll.enable = false ∧ (ux []).coll.enable = true ∧
    cg.epoch ≤ 1 ∧ cg.epoch < 2 ∧ (ux []).coll.find 6 = none ∧ (∃ x ∈ (ux [cc]).coll.open_, x.sig.group = 5) ∧
    (let g : CollGroup := { cg with flags := 1, job := 7 }
     let u := ((ux []).upX fun x => { x with groups := [(0, g)] }).upW fun w => { w with jobs := [(7, jb 0)] }
     bitAt g.flags 0 = true ∧ (u.jobB g.job).isSome = true ∧ u.coll.find 5 = some (0, g)) ∧
    (ux []).mayGroup { op with stamp := 0 } (some cg) = false ∧ (ux []).mayGroup op none = true ∧ ((ux []).upX fun x => { x with ended := [(cs, 0, ca)] }).coll.endedAs cs = some ca ∧
    (let u : Units := { ux [] with mantle := { um.mantle with regions := [(3, { reg 8 [1] with mask := 0 })] } }
     NMap.has u.mantle.regions 3 = true ∧ u.inRegion 3 0 (collRanges cs 2 0).2 = true ∧ ((NMap.find u.mantle.regions 3).map fun x => maskGrants x.mask 8 true) = some false) ∧
    256 ≤ (ux (List.replicate 256 cc)).coll.open_.length ∧ ((ux []).coll.open_.find? fun x => x.sig.group = 5 && x.sig.seq = 3 && x.caller ≠ 4) = none ∧
    (let y : CollCall := { cc with ab := some ca }
     ((ux [y]).coll.open_.find? fun x => x.sig.group = 5 && x.sig.seq = 3 && x.caller ≠ 4) = some y ∧ y.ab ≠ none) ∧
    (let y : CollCall := { cc with ab := some ca }
     (ux [y]).coll.match_ cm.sig cm.num = some y) ∧ (ux []).coll.find ({ cm with sig := { cs with group := 6 } } : CollMsg).sig.group = none ∧
    ¬(NMap.getD cg.next cm.sig.space 0 ≤ 9 ∧ 9 ≤ (ux []).coll.base cg cm.sig.space + 2) ∧
    ((((ux []).upX fun x => { x with held := [cm] }).coll.held.any fun x => x.sig.group = cg.id && x.sig.space = cm.sig.space && x.num = cm.num && x.round = cm.round && x.phase = cm.phase &&
      x.rank = cm.rank && x.off = cm.off)) = true ∧
    (let g : CollGroup := { cg with next := [(cs.space, 4)] }
     let u := (ux []).upX fun x => { x with groups := [(0, g)] }
     u.coll.find cs.group = some (0, g) ∧ u.coll.match_ cs 2 = none ∧ 2 < NMap.getD g.next cs.space 0 ∧ (u.coll.ended.any fun e => e.1.group = g.id && e.1.space = cs.space && e.2.1 = 2) = false ∧
     ((u.upX fun x => { x with ended := [(cs, 2, ca)] }).coll.ended.any fun e => e.1.group = g.id && e.1.space = cs.space && e.2.1 = 2) = true) ∧
    (ux []).coll.match_ cs 0 = none ∧ NMap.getD cg.next cs.space 0 ≤ 0 ∧ ((ux []).coll.open_.find? fun c => c.isCall 5 0 0) = none ∧ (ux []).clk.locked = false ∧
    isOperator wt.priv = false := by
  decide +kernel

theorem test_wit_more_tallow :
    um.tal.mounted = false ∧ (um.upT fun t => { t with mounted := true, enable := false }).tal.enable = false ∧ (ut2).tal.format = none ∧ (ut2 fun t => { t with format := some op }).tal.format ≠ none ∧
    (ut2).tal.inGeom 9 0 = false ∧ (ut2).mb.mode ≠ 2 ∧ (ut2 fun t => { t with map := [(chunkKey 1 0, [{ die := 0, block := 0, page := 0 }])] }).tal.mappedIn 0 0 = true ∧
    ¬(0 < 8 ∧ ((ut2).mayAccess 4 0 16384 true = true)) ∧ (1 ≤ 3 ∧ 3 ≤ 3 ∧ (0 : Nat) < (ut2).tal.sizes.getD 3 0) ∧ ¬((1 : Nat) ≤ 0) ∧ (ut2 fun t => { t with wear := 2 }).tal.wear = 2 ∧
    (ut2).tal.opAt 0 { die := 0, block := 0, page := 0 } = none ∧ (ut2).tal.opAt 1 { die := 0, block := 0, page := 0 } = none ∧ (ut2).tal.opAt 2 { die := 0, block := 0, page := 0 } = none ∧
    (∀ k ∈ [1, 2, 4, 5, 7], (ut2 fun t => { t with ops := [nop 1 k (some op)] }).tal.opAt 1 { die := 0, block := 0, page := 0 } = some (nop 1 k (some op)) ∧ (nop 1 k none).cmd = none) ∧
    (let u := ut2 fun t => { t with ops := [nop 1 0 none] }
     (u.tal.writes.find? fun w => w.id = (nop 1 0 none).ref) = none) ∧
    (let u := ut2 fun t => { t with map := [(chunkKey 1 4, [{ die := 0, block := 0, page := 0 }, { die := 0, block := 2, page := 0 }])] }
     ((NMap.getD u.tal.map (chunkKey 1 4) []).find? fun q => q ≠ { die := 0, block := 0, page := 0 }) = some { die := 0, block := 2, page := 0 } ∧ mirrored 1 = true) ∧
    ((NMap.getD (ut2).tal.map (chunkKey 1 4) []).find? fun q => q ≠ { die := 0, block := 0, page := 0 }) = none ∧
    (ut2 fun t => { t with ops := [nop 2 6 none], gc := some { die := 0, block := 0, tlc := false, todo := [], moved := [], phase := 2 } }).tal.opAt 2 { die := 0, block := 0, page := 0 } = some (nop 2 6 none) ∧
    (ut2 fun t => { t with pwrFail := true }).tal.pwrFail = true := by
  decide +kernel

theorem test_wit_more_events :
    (let b := ((uch fun x => x.setBucket 5 { Bucket.reset with spent := 3 }).chim.bucket 5)
     b.heldRec = none ∧ b.spent ≠ 0) ∧
    (let u := (uch fun x => { x with log := [le 1, le 2], unitSeq := 1 }).upT fun t => { t with mounted := true, enable := true }
     u.tal.mounted = true ∧ u.tal.enable = true ∧ ((u.chim.log.filter fun (e : LogEntry) => u.chim.unitSeq < e.seq).take 1024).getLast? = some (le 2)) ∧
    u8.tal.mounted = false ∧ findWin u8.chim.wins 2 0x100 8 0xC0 = none ∧ (st u8).hearsL lh ∧ (u8.chim.fwdOut.find? fun f => f.seq = 7) = none ∧ u8.chim.exportRing = none ∧ St.BAD_STATE ≠ St.OK ∧
    isOperator wt.priv = false ∧ bitAt 1 0 = true ∧ bitAt 2 0 = false ∧
    ((u8.setFlue 3 { u8.flueOf 3 with draining := true }).flueOf 3).draining = true ∧ ((u8.setFlue 3 { u8.flueOf 3 with draining := true }).flueOf 3).enable = false ∧
    fitBody u8.traceSpace (65536 * 2 ^ 0) u8.traceBodies = none ∧ (u8.chim.alarms.find? fun p => p.2.seq = 4) = none ∧ (∀ e ∈ u8.chim.stored, e.seq ≠ 4) ∧
    (let u : Units := { u8 with chim := { u8.chim with stored := [le 4] } }
     (∃ e ∈ u.chim.stored, e.seq = 4) ∧ u.mayAccess Ag.chimney pageBytes 64 true = false) := by
  delta State.hearsL; decide +kernel

theorem test_wit_more_lamp :
    (let u := ulp fun l => { l with state := 3, cfg := some cfgi }
     ¬(u.lamp.state ≠ 4 ∧ ({ amd 66 with seq := 9 }).seq = u.lamp.amendSeq + 1) ∧ ({ amd 66 with fixed := true }).fixed = true) ∧
    (u0.pwr.fail = false ∧ ¬((3 : Nat) < 3)) ∧ (um.upLamp fun l => { l with updState := 3 }).lamp.updState = 3 ∧ (um.upLamp fun l => { l with state := 4 }).lamp.state = 4 ∧
    (ulp fun l => { l with act := some op }).lamp.act ≠ none ∧ u8.lamp.nor.trial ≠ 1 ∧ u8.role.rollAct = false ∧
    (ulp fun l => { l with calCmd := some op }).lamp.calCmd ≠ none ∧ stampPriv op.stamp ≠ 3 ∧
    (1 ≤ 1 ∧ 1 ≤ 4) ∧ ¬(5 ≤ 4) ∧ (ulp id).lamp.nor.owner = [] ∧
    (let u : Units := { u8 with mb := { u8.mb with mode := 0 } }
     ¬(u.mb.mode = 1 ∨ u.mb.mode = 3)) ∧
    (let u := ulp fun l => { l with nor := { l.nor with owner := [44] } }
     u.lamp.nor.owner ≠ [] ∧ ¬(0 < u.lamp.nor.owner.length ∧ u.lamp.nor.owner.getD 0 0 = 45)) ∧
    ((fwi 4).sigKey ≠ u8.lamp.fuses.root ∧ u8.lamp.nor.trial ≠ 1) ∧
    (let u := ulp fun l => { l with fuses := { l.fuses with root := 77 } }
     (fwi 4).sigKey = u.lamp.fuses.root ∧ u.lamp.fuses.fsblFloor ≤ (fwi 4).svn) ∧
    (∀ a ∈ [some op, none], let u := ulp fun l => { l with act := a, updState := 3 }
     u.lamp.updState = 3 ∧ u.quiet = true ∧ u.lamp.act = a) ∧
    u8.lamp.updState ≠ 3 ∧ u8.lamp.updState ≠ 4 ∧ u8.lamp.nor.trial ≠ 2 ∧ (ulp fun l => { l with restart := some 0 }).lamp.restart = some 0 ∧
    slotOf (ulp fun l => { l with nor := { l.nor with ctr := (none, none) } }).lamp.nor.ctr false = none ∧
    (u8.upP fun p => { p with fail := true }).pwr.fail = true ∧ (ulp fun l => { l with state := 0 }).lamp.state = 0 ∧ (u8.upL fun l => { l with noSign := true }).led.noSign = true ∧ u8.led.noSign = false ∧
    (ulp fun l => { l with ident := { l.ident with aliasKey := some 5 } }).lamp.ident.aliasKey = some 5 ∧ u8.lamp.ident.aliasKey = none ∧
    (u8.flick.comps.find? fun c => c.2.cls = 11 && c.2.idx = 4) = none := by
  decide +kernel

/-! Well-formedness refuses an operand wider than its field, one test for each check -/

theorem test_ill_numbers : fits 16 65535 = true ∧ fits 16 65536 = false ∧ allFit 8 [0, 255] = true ∧ allFit 8 [0, 256] = false := by decide

theorem test_ill_identities :
    wo.ok = true ∧ ({ wo with cls := 16 } : Who).ok = false ∧ op.ok = true ∧ ({ op with stamp := 2 ^ 64 } : Cmd).ok = false ∧ ({ op with gen := 65536 } : Cmd).ok = false := by
  decide

theorem test_ill_headers :
    fr.ok = true ∧ ({ fr with vc := 4 } : FrameHdr).ok = false ∧ ({ fr with seq := 16384 } : FrameHdr).ok = false ∧ sh.ok = true ∧ ({ sh with port := 16 } : SHdr).ok = false ∧
    lh.ok = true ∧ ({ lh with port := 6 } : LHdr).ok = false ∧ ({ lh with src := 2 ^ 24 } : LHdr).ok = false ∧
    ({ sh with ver := 0 } : SHdr).ok = false ∧ ({ sh with ver := 256 } : SHdr).ok = false ∧ ({ lh with ver := 0 } : LHdr).ok = false ∧ ({ lh with ver := 256 } : LHdr).ok = false := by
  decide

theorem test_ill_blocks :
    blk.ok = true ∧ ({ blk with valid := 3 } : Blk).ok = false ∧ ({ blk with valid := 0, data := [] } : Blk).ok = false ∧ ({ blk with index := 2 ^ 32 } : Blk).ok = false ∧
    srec.ok = true ∧ ({ srec with scalars := 2 ^ 256 } : StepRec).ok = false := by
  decide +kernel

theorem test_ill_instruction_fields :
    (frr 1 2 3 4 1).ok = true ∧ (frr 32 2 3 4 1).ok = false ∧ ({ frr 1 2 3 4 1 with rm := 8 } : RFmt).ok = false ∧ (fi 1 2 3 0).ok = true ∧ (fi 1 2 3 (2 ^ 32)).ok = false := by
  decide

theorem test_ill_records :
    rt.ok = true ∧ ({ rt with port := 256 } : RouteEntry).ok = false ∧ ha.entry.ok = true ∧ ({ ha.entry with action := 65536 } : SoEntry).ok = false ∧
    Target.none.ok = true ∧ ({ Target.none with shard := 2 ^ 32 } : Target).ok = false ∧ ntc.ok = true ∧ ({ ntc with cid := 2 ^ 24 } : Notice).ok = false ∧
    (le 1).ok = true ∧ ({ le 1 with seq := 2 ^ 64 } : LogEntry).ok = false ∧ cs.ok = true ∧ ({ cs with epoch := 2 ^ 32 } : CollSig).ok = false := by
  decide

theorem test_ill_edges :
    ({ resource := 1, target := 2 ^ 32 - 1, ctx := 255, tag := 0, wait := 9 } : WaitEdge).ok = true ∧ ({ resource := 1, target := 2 ^ 32, ctx := 0, tag := 0, wait := 0 } : WaitEdge).ok = false ∧
    ({ code := 0x201, version := 1, flags := 0, tag := 5, gen := 0, raw := [], poison := false, headPoison := false } : CmdEntry).ok = true ∧ ({ code := 65536, version := 1, flags := 0, tag := 5, gen := 0, raw := [], poison := false, headPoison := false } : CmdEntry).ok = false ∧
    (∀ r : CommitRec, r.state = 256 → r.ok = false) := by
  refine ⟨by decide, by decide, by decide, by decide, fun r h => ?_⟩
  simp [CommitRec.ok, fits, h]

/-- Commands: an operand that does not fit makes the command ill-formed. -/
theorem test_ill_commands :
    wellFormed (.registerWrite wo 0x400000 5) = true ∧ wellFormed (.registerWrite wo 0x400000 (2 ^ 32)) = false ∧ wellFormed (.registerWrite wo (2 ^ 64) 5) = false ∧
    wellFormed (.regReadClear { wo with priv := 16 } 0) = false ∧
    wellFormed (.mantleRead ⟨31, 4⟩ 0 64 [3]) = true ∧ wellFormed (.mantleRead ⟨32, 4⟩ 0 64 []) = false ∧ wellFormed (.mantleRead ⟨0, 4⟩ 0 64 [4]) = false ∧
    wellFormed (.mantleWrite ⟨32, 4⟩ 0 0 0 []) = false ∧ wellFormed (.opNOP 512 (fi 0 0 0 0)) = false ∧ wellFormed (.streamRowDone 511 ⟨0, 4⟩) = false ∧
    wellFormed (.gridStart op 64) = false ∧ wellFormed (.standing lh 1 0 (2 ^ 24) 0 ⟨true, true⟩ []) = false ∧ wellFormed (.adminRolloutStep lh 0 0 1 ⟨1, 65536⟩) = false ∧ wellFormed (.gridPartDisable wo 8) = false ∧ wellFormed (.gridPartDisable wo 7) = true := by
  decide +kernel

/-! Values that the spec works out -/

/-- 00 R554: the check values of CRC-64 and CRC-32C over "123456789". -/
theorem test_check_values :
    crc64 [49, 50, 51, 52, 53, 54, 55, 56, 57] = 0x995DC9BBDF1939FA ∧ crc32c [49, 50, 51, 52, 53, 54, 55, 56, 57] = 0xE3069283 := by
  decide +kernel

/-- 08: the fingerprint example (shards A and B, the whole, and parameter 2 raised to 2.0). -/
theorem test_fingerprint_example :
    fpR 1 = 3 ∧ fpSum 3 0 [1065353216, 1073741824] = 4286578688 ∧ fpSum 3 2 [1065353216, 0] = 9588178944 ∧
    fpSum 3 0 [1065353216, 1073741824, 1065353216, 0] = 13874757632 ∧ fpSum 3 0 [1065353216, 1073741824, 1073741824, 0] = 13950255104 := by
  decide +kernel

/-- 08: the stochastic rounding example, its word and the other one. -/
theorem test_stochastic_rounding_example :
    let c : Nat → ACtx := fun w => { rm := 5, ftz := false, daz := false, nanProp := false, sat := false, srBits := 16, word := w }
    ((c 0xF0123456).cvt 1 2 0x3F801234).1 = 0x3F81 ∧ ((c 0x12345678).cvt 1 2 0x3F801234).1 = 0x3F80 := by
  decide +kernel

/-- 08 R198: the counter of the stochastic rounding example. -/
theorem test_stochastic_counter :
    srWord 7 (0x10 + 7 * 2 ^ 64) 2 1000003 = (philox 7 0 0x3D0A0 0 9 0).getD 3 0 := by
  decide +kernel

/-- 18 Table 18-4. -/
theorem test_dates :
    dateOk 2000 2 29 12 0 0 = true ∧ dateOk 2100 2 29 0 0 0 = false ∧ dateOk 2400 1 1 0 0 0 = false ∧ dateOk 2027 4 31 8 0 0 = false ∧
    dateOk 2027 12 31 23 59 60 = false ∧ dateOk 2099 12 31 23 59 59 = true := by
  decide

/-- 16: the shares of the energy example. -/
theorem test_energy_shares : splitShares 440000 [1300000, 400000] = [336471, 103529] := by decide

/-- 23 Table 23-9 at 200 µs: the release of port 3 is admitted, that of port 4 waits, and port 9 waits behind it. -/
theorem test_crowded_starts :
    let u : Units := { u0 with pwr := { u0.pwr with window := [(0, 20), (100000, 600)] }, clk := { u0.clk with mono := 200000 } }
    let v := powerStartRequest 1 9 0 false (powerStartRequest 1 4 0 false (powerStartRequest 1 3 0 false u))
    v.windowW = 1320 ∧ v.pwr.queue.map (·.port) = [4, 9] := by
  decide +kernel

/-- 23 Table 23-9 at 1,000 µs: partition 6 would fit, but waits behind the releases. -/
theorem test_crowded_partition :
    let x : Nat → PwrStart := fun p => { kind := 1, port := p, ctx := 0, recovery := true, at_ := 200000, cmd := none }
    let u : Units := { u0 with pwr := { u0.pwr with window := [(0, 20), (100000, 600), (200000, 700)], queue := [x 4, x 9] }, clk := { u0.clk with mono := 1000000 } }
    (powerStartRequest 2 6 0 false u).windowW = 1320 ∧ (powerStartRequest 2 6 0 false u).pwr.queue.map (·.port) = [4, 9, 6] := by
  decide +kernel

/-- What the first statements assume: a command at the front, nothing left to carry out, canonical bytes, an operator, a tenant. -/
theorem test_wit_first :
    State.reset.pending = [] ∧ u0.todo = [] ∧ ((State.reset.mem, u0).2).todo = [] ∧ State.reset.memOk ∧ isOperator (stampPriv op.stamp) = true ∧
    isOperator (stampPriv ({ op with stamp := 0 } : Cmd).stamp) = false ∧ stampPriv op.stamp ≠ 3 ∧ (255 : Nat) < 256 ∧ llValid 35 = false ∧
    ¬((40000 : Nat) < 32768 ∧ (u0.desc 40000).kind = 2) ∧ ¬((1 : Nat) ≤ 16385 ∧ (16385 : Nat) ≤ 16384) := by
  delta State.memOk; decide +kernel
end

section
/-!
PROOFS. Reads of registers over BAR0 (00 R9, R11): what a read returns, latches and leaves unchanged, and the two statements about them.
-/
namespace Sys2Proof

/-- Deleting a key that the look-up does not find changes nothing. -/
theorem NMap.del_of_find_none {α : Type} (m : NMap α) (k : Nat) (h : NMap.find m k = none) : NMap.del m k = m := by
  induction m with
  | nil => rfl
  | cons c r ih =>
    obtain ⟨a, x⟩ := c
    by_cases ha : a = k
    · simp [NMap.find, ha] at h
    · by_cases hk : k < a
      · simp [NMap.del, ha, hk]
      · simp only [NMap.find, ha, hk, if_false] at h
        simp [NMap.del, ha, hk, ih h]

end Sys2Proof

namespace Sys2Proof.Machine

/-! The latch table -/

/-- With nothing latched at a word there is nothing to take. -/
theorem Units.unlatch_of_find_none (u : Units) (a : Nat) (h : NMap.find u.regs.latch a = none) : u.unlatch a = u := by
  rw [Units.unlatch, NMap.del_of_find_none _ _ h]

/-- A single latched word is found. -/
@[simp] theorem Units.find_latchWords_singleton (u : Units) (a v : Nat) : NMap.find (u.latchWords a [v]).regs.latch a = some v :=
  NMap.find_set_self u.regs.latch a v

/-! Clearing RC fields raises no output and no effect on another unit -/

theorem Units.setCh_frame (u : Units) (n : Nat) (c : MbChan) : (u.setCh n c).out = u.out ∧ (u.setCh n c).todo = u.todo := ⟨rfl, rfl⟩
theorem Units.setTxts_frame (u : Units) (p : Nat) (t : TxTs) : (u.setTxts p t).out = u.out ∧ (u.setTxts p t).todo = u.todo := ⟨rfl, rfl⟩
theorem Units.upSlot_frame (u : Units) (n : Nat) (f : PSlot → PSlot) : (u.upSlot n f).out = u.out ∧ (u.upSlot n f).todo = u.todo := ⟨rfl, rfl⟩

theorem Units.readClear_frame (u : Units) (a : Nat) : (u.readClear a).out = u.out ∧ (u.readClear a).todo = u.todo := by
  unfold Units.readClear
  split
  · exact Units.setCh_frame u _ _
  · split
    · exact Units.setTxts_frame u _ _
    · split
      · exact Units.upSlot_frame u _ _
      · split
        · exact ⟨Units.setBud_out u _, Units.setBud_todo u _⟩
        · exact ⟨rfl, rfl⟩

@[simp] theorem Units.readClear_out (u : Units) (a : Nat) : (u.readClear a).out = u.out := (u.readClear_frame a).1
@[simp] theorem Units.readClear_todo (u : Units) (a : Nat) : (u.readClear a).todo = u.todo := (u.readClear_frame a).2

/-! What a read gives -/

/-- The live word above the low word of a 64-bit register is its high word. -/
theorem Units.live_high {u : Units} {a x : Nat} (hi : u.reg64 (a + 4) = none) (lo : u.reg64 a = some x) : u.live (a + 4) = x / 2 ^ 32 := by
  simp [Units.live, hi, lo]

/-- The live word at the low word of a 64-bit register is the register's value, of which the read takes 32 bits. -/
theorem Units.live_low {u : Units} {a x : Nat} (lo : u.reg64 a = some x) : u.live a = x := by
  simp [Units.live, lo]

/-- A latched word is returned once (R11). -/
theorem Units.readWord_latched {u : Units} {w : Who} {a v : Nat} (may : u.mayRead w a = true) (h : NMap.find u.regs.latch a = some v) :
    u.readWord w a = (u.unlatch a).emit (.read a v) := by
  simp [Units.readWord, may, h]

/-- A low word is returned and latches its high word (R11). -/
theorem Units.readWord_low {u : Units} {w : Who} {a x : Nat} (may : u.mayRead w a = true) (h : NMap.find u.regs.latch a = none)
    (lo : u.reg64 a = some x) : u.readWord w a = (u.latchWords (a + 4) [x / 2 ^ 32]).emit (.read a (wrapW 32 x)) := by
  simp [Units.readWord, may, h, lo, Units.live_low lo]

/-- With nothing latched a read returns the live word. -/
theorem Units.readWord_out_live {u : Units} {w : Who} {a : Nat} (may : u.mayRead w a = true) (h : NMap.find u.regs.latch a = none) :
    (u.readWord w a).out = u.out ++ [.read a (wrapW 32 (u.live a))] := by
  simp only [Units.readWord, may, h, Bool.not_true, Bool.false_eq_true, if_false, Units.emit_out]
  split
  · rfl
  · split
    · rfl
    · rw [Units.readClear_out]

/-- A read has no effect on another unit. -/
@[simp] theorem Units.readWord_todo (u : Units) (w : Who) (a : Nat) : (u.readWord w a).todo = u.todo := by
  unfold Units.readWord
  split
  · rfl
  · split
    · rfl
    · rw [Units.emit_todo]
      split
      · rfl
      · split
        · rfl
        · exact Units.readClear_todo u a

/-! The two reads as commands -/

/-- In an idle state REG_READ_CLEAR does what the read does and nothing else. -/
theorem exec_regReadClear_idle {s : State} (idle : s.idle) (staged : s.staged) (w : Who) (a : Nat) :
    exec (.regReadClear w a) s = .next (s.put (s.mem, s.u.readWord w a)) :=
  State.runU_idle s (regReadClear w a) ((Units.readWord_todo s.u w a).trans idle) staged

/-- In an idle state REG64_LOW_READ drops what is latched at the word, does what the read does, and nothing else. -/
theorem exec_reg64LowRead_idle {s : State} (idle : s.idle) (staged : s.staged) (w : Who) (a : Nat) :
    exec (.reg64LowRead w a) s = .next (s.put (s.mem, (s.u.unlatch a).readWord w a)) :=
  State.runU_idle s (reg64LowRead w a) ((Units.readWord_todo (s.u.unlatch a) w a).trans idle) staged

/-- An effect that raises none on another unit is all that the step does. -/
theorem State.after_idle {s : State} {u : Units} (idle : u.todo = []) (staged : s.staged) : s.after u = s.put (s.mem, u) := by
  rw [State.after, carry_idle (s.mem, u) idle staged]

/-- Settles O5: a low-word read is `readWord_low`, a latched word `readWord_latched`, and the live high word `readWord_out_live` with `live_high`. -/
theorem wideRegistersAreReadLowFirst : Obligations.WideRegistersAreReadLowFirst := by
  unfold Obligations.WideRegistersAreReadLowFirst
  intro s w a idle staged
  refine ⟨fun x may latch lo => ?_, fun v may latch => ?_, fun x may latch lo hi => ?_⟩
  · refine ⟨_, exec_reg64LowRead_idle idle staged w a, ?_⟩
    rw [Units.unlatch_of_find_none s.u a latch, Units.readWord_low may latch lo]
    exact ⟨rfl, Units.find_latchWords_singleton s.u (a + 4) (x / 2 ^ 32)⟩
  · refine ⟨_, exec_regReadClear_idle idle staged w (a + 4), ?_⟩
    rw [Units.readWord_latched may latch]
    exact ⟨rfl, rfl, rfl⟩
  · refine ⟨_, exec_regReadClear_idle idle staged w (a + 4), ?_⟩
    exact (Units.readWord_out_live may latch).trans (by rw [Units.live_high hi lo]; rfl)

/-! Why the statement of all register accesses fails -/

/-- The T3 at reset, but with a latch table that lists the low word of BEACON_MONO twice: its keys do not rise, as `NMap` says a
table's keys do. -/
def twiceLatched : State :=
  { State.reset with u := { Units.reset with regs := { RegFile.reset with latch := [(0x100040, 1), (0x100040, 2)] } } }

/-- An operator at the host. -/
def hostOperator : Who := { cls := 1, idx := 0, priv := 2, job := 0 }

/-- REG64_LOW_READ drops one of the two words latched at the low word and returns the other. -/
theorem exec_reg64LowRead_twiceLatched :
    ∃ t, exec (.reg64LowRead hostOperator 0x100040) twiceLatched = .next t ∧ t.outputs = [.read 0x100040 2] := by
  refine ⟨_, exec_reg64LowRead_idle (s := twiceLatched) rfl (Nat.zero_le _) hostOperator 0x100040, ?_⟩
  rw [Units.readWord_latched (v := 2) rfl rfl]
  rfl

/-- Refutes O6: the statement ranges over every state, and where the latch table lists the low word itself twice, which the table's canonical form
forbids, REG64_LOW_READ drops one entry and returns the other, 2, instead of the live low word of BEACON_MONO, 0. -/
theorem not_registerAccessesActOnTheWord : ¬ Obligations.RegisterAccessesActOnTheWord := by
  unfold Obligations.RegisterAccessesActOnTheWord
  rintro ⟨accesses, -⟩
  obtain ⟨-, -, lowRead, -⟩ := accesses twiceLatched hostOperator 0x100040 0
  obtain ⟨t, run, out⟩ := exec_reg64LowRead_twiceLatched
  rw [lowRead 0 rfl rfl, State.after_idle rfl (Nat.zero_le _)] at run
  injection run with eq
  have claimed : t.outputs = [.read 0x100040 0] := eq ▸ rfl
  rw [out] at claimed
  exact absurd claimed (by decide)

end Sys2Proof.Machine
end

section
/-!
PROOFS. The Wick mirror engine (10): what each of its commands, messages and timers does, branch by branch, and the statement about them.
-/
namespace Sys2Proof.Machine

/-! How a command of the Wick ends -/

/-- A command of the Wick whose own effect leaves the Mantle and the units at `a`. -/
theorem State.runWick_of_eq {s : State} {f : Mem → Units → Mem × Units} {a : Mem × Units} (e : f s.mem s.u = a) :
    s.runWick f = .next (s.afterWM a) := e ▸ rfl

/-- The same for a command that acts on the units alone. -/
theorem State.runUWick_of_eq {s : State} {f : Units → Units} {u : Units} (e : f s.u = u) : s.runUWick f = .next (s.afterW u) := e ▸ rfl

/-- The same for a command that leaves the Mantle as it was. -/
theorem State.runWick_of_units {s : State} {f : Mem → Units → Mem × Units} {u : Units} (e : f s.mem s.u = (s.mem, u)) :
    s.runWick f = .next (s.afterW u) :=
  State.runWick_of_eq e

/-! Who may command, and what a shard's entry is after small changes -/

/-- A command of a sender below operator privilege (R14). -/
theorem operator_refused {u : Units} {c : Sys2Proof.Cmd} (h : isOperator (stampPriv c.stamp) = false) (a b : Nat) (f : Units → Units) :
    u.operator c a b f = u.done c a b St.NOT_PRIVILEGED := by
  simp [Units.operator, h]

/-- What is done for a shard that is not bound here, or whose job is not. -/
theorem withSh_unbound {u : Units} {shard : Nat} (a : ∀ k, u.shKey shard = some k → u.jobB (u.shAt k).job = none) {α : Type} (d : α)
    (f : Nat → Shard → JobBind → α) : u.withSh shard d f = d := by
  unfold Units.withSh
  cases hk : u.shKey shard with
  | none => rfl
  | some k => simp only [a k hk]

/-- What is done for a shard that is bound here, once a credit is used or an effect on another unit asked for. -/
theorem useCredit_withSh_holds {s : State} {shard k : Nat} {x : Shard} {j : JobBind} (a : s.holds shard k x j) (p ctx cls : Nat) {α : Type} (d : α)
    (f : Nat → Shard → JobBind → α) : (s.u.useCredit p ctx cls).withSh shard d f = f k x j :=
  withSh_holds (s := { s with u := s.u.useCredit p ctx cls }) a d f

theorem later_withSh_holds {s : State} {shard k : Nat} {x : Shard} {j : JobBind} (a : s.holds shard k x j) (t : Todo) {α : Type} (d : α)
    (f : Nat → Shard → JobBind → α) : (s.u.later t).withSh shard d f = f k x j :=
  withSh_holds (s := { s with u := s.u.later t }) a d f

/-! Block messages that are not acted on (R66, R92, R112, R244) -/

/-- The units once a stale block of an active port is counted as the Wick's (R244 check 1). -/
def Units.countStale (u : Units) (h : Sys2Proof.SHdr) : Units :=
  if (h.accGen ≠ u.accGen h.port ∨ h.ctxGen ≠ u.ctxGen h.port h.ctx) ∧ (u.ig h.port).active = true then u.count 0x600258 else u

theorem Units.countStale_eq {u v : Units} {h : Sys2Proof.SHdr}
    (seen : ((h.accGen ≠ u.accGen h.port ∨ h.ctxGen ≠ u.ctxGen h.port h.ctx) ∧ (u.ig h.port).active = true) ∧ v = u.count 0x600258 ∨
      ¬((h.accGen ≠ u.accGen h.port ∨ h.ctxGen ≠ u.ctxGen h.port h.ctx) ∧ (u.ig h.port).active = true) ∧ v = u) : u.countStale h = v := by
  rcases seen with ⟨stale, rfl⟩ | ⟨fresh, rfl⟩
  · exact if_pos stale
  · exact if_neg fresh

theorem recvBlock_eq (h : Sys2Proof.SHdr) (cls credit : Nat) (b : Sys2Proof.Blk) (m : Mem) (u : Units) (f : Mem → Units → Mem × Units) :
    recvBlock h cls credit b m u f = (((u.countStale h).dropS h cls).map (m, ·)).getD
      (if Blk.bad b then (m, (u.countStale h).msgUnknown h.port)
       else if (u.countStale h).creditsLeft h.port h.ctx credit = 0 then
         (m, ((u.countStale h).setPort h.port (((u.countStale h).port h.port).flag 4)).linkEvent h.port Ev.LINK_CREDIT_ERROR 0)
       else if (u.countStale h).mantle.stackFailed then (m, u.countStale h)
       else f m ((u.countStale h).useCredit h.port h.ctx credit)) := by
  have same : u.countStale h = if (decide (h.accGen ≠ u.accGen h.port) || decide (h.ctxGen ≠ u.ctxGen h.port h.ctx)) && (u.ig h.port).active then
      u.count 0x600258 else u := by
    simp only [Units.countStale, Bool.and_eq_true, Bool.or_eq_true, decide_eq_true_eq]
  rw [recvBlock, ← same]
  cases (u.countStale h).dropS h cls <;> rfl

section
variable {h : Sys2Proof.SHdr} {cls credit : Nat} {b : Sys2Proof.Blk} {m : Mem} {u : Units} {f : Mem → Units → Mem × Units}

theorem recvBlock_dropped {v : Units} (drop : (u.countStale h).dropS h cls = some v) : recvBlock h cls credit b m u f = (m, v) := by
  rw [recvBlock_eq, drop]; rfl

theorem recvBlock_bad (pass : (u.countStale h).dropS h cls = none) (bad : Blk.bad b = true) :
    recvBlock h cls credit b m u f = (m, (u.countStale h).msgUnknown h.port) := by
  rw [recvBlock_eq, pass, if_pos bad]; rfl

theorem recvBlock_noCredit (pass : (u.countStale h).dropS h cls = none) (sound : Blk.bad b = false)
    (left : (u.countStale h).creditsLeft h.port h.ctx credit = 0) : recvBlock h cls credit b m u f =
      (m, ((u.countStale h).setPort h.port (((u.countStale h).port h.port).flag 4)).linkEvent h.port Ev.LINK_CREDIT_ERROR 0) := by
  rw [recvBlock_eq, pass, if_neg (by simp [sound]), if_pos left]; rfl

theorem recvBlock_stackFailed (pass : (u.countStale h).dropS h cls = none) (sound : Blk.bad b = false)
    (left : (u.countStale h).creditsLeft h.port h.ctx credit ≠ 0) (failed : (u.countStale h).mantle.stackFailed = true) :
    recvBlock h cls credit b m u f = (m, u.countStale h) := by
  rw [recvBlock_eq, pass, if_neg (by simp [sound]), if_neg left, if_pos failed]; rfl

end

/-- The three block messages with their class and credit account (R92). -/
theorem exec_block {con : Sys2Proof.SHdr → Sys2Proof.Blk → Instr} {cls credit : Nat}
    (pick : (con, cls, credit) = (Instr.gradientBlock, 0x04, 0) ∨ (con, cls, credit) = (Instr.regionBlock, 0x05, 1) ∨
      (con, cls, credit) = (Instr.snapshotBlock, 0x06, 2)) (h : Sys2Proof.SHdr) (b : Sys2Proof.Blk) :
    ∃ f, ∀ {s : State} {a}, recvBlock h cls credit b s.mem s.u f = a → exec (con h b) s = .next (s.afterWM a) := by
  rcases pick with pick | pick | pick <;> cases pick <;> exact ⟨_, fun e => State.runWick_of_eq e⟩

/-- A block message that is acted on, for a shard that is bound here, uses one credit. -/
theorem recvBlock_bound {s : State} {h : Sys2Proof.SHdr} {cls credit k : Nat} {b : Sys2Proof.Blk} {x : Shard} {j : JobBind}
    (heard : s.hearsBlock h cls credit b) (bound : s.holds b.shard k x j) {d : Mem → Units → Mem × Units}
    {f : Mem → Units → Nat → Shard → JobBind → Mem × Units} :
    recvBlock h cls credit b s.mem s.u (fun m u => u.withSh b.shard (d m u) (f m u)) = f s.mem (s.u.useCredit h.port h.ctx credit) k x j := by
  rw [recvBlock_hears heard, useCredit_withSh_holds bound]

/-- The message comes from the replica `i` of the shard. -/
def Units.comesFrom (u : Units) (h : Sys2Proof.SHdr) (x : Shard) (i : Nat) : Prop := u.localCtx (x.members.getD i (0, 0)) = some (h.port, h.ctx)

/-! GRADIENT_BLOCK (R244 to R246) -/

/-- The units once the step of a gradient block is open, where `x` was the shard's entry. -/
def Units.openGradient (u : Units) (k : Nat) (x : Shard) (b : Sys2Proof.Blk) : Units :=
  let v := u.upSh k fun s => (s.begin b.step 1).upOpen b.step fun o => { o with last := o.last || bitAt b.flags 0 }
  if (x.step? b.step).isNone then v.writeB k b.step else v

/-- The open step of an entry, that of a fresh step where none is open. -/
def Units.stepAt (u : Units) (k step : Nat) : OpenStep := ((u.shAt k).step? step).getD (OpenStep.new step 1)

/-- Whether the block comes from the writer of a mode 0 shard and belongs to its next step. -/
def Units.fromWriter (u : Units) (h : Sys2Proof.SHdr) (x : Shard) (j : JobBind) (b : Sys2Proof.Blk) : Prop :=
  u.comesFrom h x x.writer ∧ j.mode = 0 ∧ x.nextStep = some b.step

theorem Units.notFromWriter_iff (u : Units) (h : Sys2Proof.SHdr) (x : Shard) (j : JobBind) (b : Sys2Proof.Blk) :
    (u.localCtx (x.members.getD x.writer (0, 0)) ≠ some (h.port, h.ctx) || j.mode ≠ 0 || x.nextStep ≠ some b.step) = true ↔ ¬u.fromWriter h x j b := by
  simp only [Units.fromWriter, Units.comesFrom, Bool.or_eq_true, decide_eq_true_eq, Decidable.not_and_iff_not_or_not, or_assoc]

section
variable {s : State} {h : Sys2Proof.SHdr} {b : Sys2Proof.Blk} {k : Nat} {x : Shard} {j : JobBind}

theorem gradientBlock_mismatch (heard : s.hearsBlock h 0x04 0 b) (bound : s.holds b.shard k x j) (other : ¬s.u.fromWriter h x j b) :
    gradientBlock h b s.mem s.u = (s.mem, (s.u.useCredit h.port h.ctx 0).wickEvent Ev.WICK_STEP_MISMATCH) :=
  (recvBlock_bound heard bound).trans (if_pos ((s.u.notFromWriter_iff h x j b).2 other))

/-- A gradient block of the writer's next step, with the step opened for it. -/
theorem gradientBlock_fromWriter (heard : s.hearsBlock h 0x04 0 b) (bound : s.holds b.shard k x j) (mine : s.u.fromWriter h x j b) :
    gradientBlock h b s.mem s.u =
      let u := (s.u.useCredit h.port h.ctx 0).openGradient k x b
      if crc64 b.data ≠ b.crc then
        (s.mem, ((((u.count 0x600220).wickEvent Ev.INTEGRITY_CRC).upOpen k b.step fun o =>
          { o with damaged := true, lost := o.lost + b2n (b.fmt != 0x10), fmt := if b.fmt = 0x10 then o.fmt else b.fmt }).giveCredit h.port h.ctx 0 1).grantStep k)
      else if b.fmt ≠ 0x10 && (u.stepAt k b.step).sparse && !((u.stepAt k b.step).touched.contains b.index) then
        (s.mem, ((u.upOpen k b.step fun o => { o with failed := true, lost := o.lost + 1 }).wickEvent Ev.WICK_STEP_MISMATCH).grantStep k)
      else
        let r := passBlock k x b s.mem (u.upOpen k b.step fun o => if b.fmt = 0x10 then o.takeList b else o.take x j b)
        (r.1, r.2.grantStep k) :=
  (recvBlock_bound heard bound).trans (if_neg fun other => (s.u.notFromWriter_iff h x j b).1 other mine)

theorem gradientBlock_damaged (heard : s.hearsBlock h 0x04 0 b) (bound : s.holds b.shard k x j) (mine : s.u.fromWriter h x j b)
    (crc : crc64 b.data ≠ b.crc) : gradientBlock h b s.mem s.u =
      (s.mem, ((((((s.u.useCredit h.port h.ctx 0).openGradient k x b).count 0x600220).wickEvent Ev.INTEGRITY_CRC).upOpen k b.step fun o =>
        { o with damaged := true, lost := o.lost + b2n (b.fmt != 0x10), fmt := if b.fmt = 0x10 then o.fmt else b.fmt }).giveCredit h.port h.ctx 0 1).grantStep k) := by
  rw [gradientBlock_fromWriter heard bound mine]
  exact if_pos crc

theorem gradientBlock_outside (heard : s.hearsBlock h 0x04 0 b) (bound : s.holds b.shard k x j) (mine : s.u.fromWriter h x j b)
    (crc : crc64 b.data = b.crc) (data : b.fmt ≠ 0x10)
    (out : (((s.u.useCredit h.port h.ctx 0).openGradient k x b).stepAt k b.step).sparse = true ∧
      (((s.u.useCredit h.port h.ctx 0).openGradient k x b).stepAt k b.step).touched.contains b.index = false) :
    gradientBlock h b s.mem s.u = (s.mem, ((((s.u.useCredit h.port h.ctx 0).openGradient k x b).upOpen k b.step fun o =>
      { o with failed := true, lost := o.lost + 1 }).wickEvent Ev.WICK_STEP_MISMATCH).grantStep k) := by
  rw [gradientBlock_fromWriter heard bound mine]
  exact (if_neg (· crc)).trans (if_pos (by simp [data, out.1, -List.contains_eq_mem, out.2]))

theorem gradientBlock_list (heard : s.hearsBlock h 0x04 0 b) (bound : s.holds b.shard k x j) (mine : s.u.fromWriter h x j b)
    (crc : crc64 b.data = b.crc) (list : b.fmt = 0x10) : gradientBlock h b s.mem s.u =
      let r := passBlock k x b s.mem (((s.u.useCredit h.port h.ctx 0).openGradient k x b).upOpen k b.step fun o => o.takeList b)
      (r.1, r.2.grantStep k) := by
  rw [gradientBlock_fromWriter heard bound mine]
  refine (if_neg (· crc)).trans ((if_neg (by simp [list])).trans ?_)
  simp only [list, if_true]

theorem gradientBlock_data (heard : s.hearsBlock h 0x04 0 b) (bound : s.holds b.shard k x j) (mine : s.u.fromWriter h x j b)
    (crc : crc64 b.data = b.crc) (data : b.fmt ≠ 0x10)
    (within : ¬((((s.u.useCredit h.port h.ctx 0).openGradient k x b).stepAt k b.step).sparse = true ∧
      (((s.u.useCredit h.port h.ctx 0).openGradient k x b).stepAt k b.step).touched.contains b.index = false)) :
    gradientBlock h b s.mem s.u =
      let r := passBlock k x b s.mem (((s.u.useCredit h.port h.ctx 0).openGradient k x b).upOpen k b.step fun o => o.take x j b)
      (r.1, r.2.grantStep k) := by
  rw [gradientBlock_fromWriter heard bound mine]
  refine (if_neg (· crc)).trans ((if_neg fun out => within ?_).trans ?_)
  · simpa [data] using out
  · simp only [data, if_false]

/-! REGION_BLOCK and SNAPSHOT_BLOCK (R257, R259, R264) -/

/-- A block of the seed of step `n` that replica `i` sends is counted in. -/
def Units.seedBlockCame (u : Units) (k n i : Nat) (got : List Nat) (b : Sys2Proof.Blk) : Units :=
  u.upSh k fun s => { s with incoming := some (n, i, if got.contains b.index then got else b.index :: got) }

theorem regionBlock_badCrc (heard : s.hearsBlock h 0x05 1 b) (bound : s.holds b.shard k x j) (crc : crc64 b.data ≠ b.crc) :
    regionBlock h b s.mem s.u =
      (s.mem, (((s.u.useCredit h.port h.ctx 1).count 0x600220).wickEvent Ev.INTEGRITY_CRC).giveCredit h.port h.ctx 1 1) :=
  (recvBlock_bound heard bound).trans (if_pos crc)

/-- A block of a registered region (mode 2), from the writer. -/
theorem regionBlock_region (heard : s.hearsBlock h 0x05 1 b) (bound : s.holds b.shard k x j) (crc : crc64 b.data = b.crc) (mode : j.mode = 2)
    (mine : s.u.comesFrom h x x.writer) : regionBlock h b s.mem s.u = streamOn x 0x03 b s.mem (s.u.useCredit h.port h.ctx 1) :=
  (recvBlock_bound heard bound).trans ((if_neg (· crc)).trans ((if_pos mode).trans (if_pos mine)))

theorem regionBlock_region_mismatch (heard : s.hearsBlock h 0x05 1 b) (bound : s.holds b.shard k x j) (crc : crc64 b.data = b.crc)
    (mode : j.mode = 2) (other : ¬s.u.comesFrom h x x.writer) :
    regionBlock h b s.mem s.u = (s.mem, (s.u.useCredit h.port h.ctx 1).wickEvent Ev.WICK_STEP_MISMATCH) :=
  (recvBlock_bound heard bound).trans ((if_neg (· crc)).trans ((if_pos mode).trans (if_neg other)))

/-- A sound block of a seed, by the seed that the shard awaits. -/
theorem regionBlock_seed (heard : s.hearsBlock h 0x05 1 b) (bound : s.holds b.shard k x j) (crc : crc64 b.data = b.crc) (mode : j.mode ≠ 2) :
    regionBlock h b s.mem s.u =
      let u := s.u.useCredit h.port h.ctx 1
      let no := (s.mem, u.wickEvent Ev.WICK_STEP_MISMATCH)
      x.incoming.elim no fun w =>
        if w.1 ≠ b.step || s.u.localCtx (x.members.getD w.2.1 (0, 0)) ≠ some (h.port, h.ctx) then no
        else
          let v := u.seedBlockCame k w.1 w.2.1 w.2.2 b
          if x.prot = 3 then let r := toTransit s.mem v b.data; (r.1.1, spillBlock k x j b (r.1.2.count 0x600200))
          else streamOn x 0x02 b s.mem v := by
  refine (recvBlock_bound heard bound).trans ((if_neg (· crc)).trans ((if_neg mode).trans ?_))
  cases x.incoming <;> rfl

theorem regionBlock_unasked (heard : s.hearsBlock h 0x05 1 b) (bound : s.holds b.shard k x j) (crc : crc64 b.data = b.crc) (mode : j.mode ≠ 2)
    (unasked : x.incoming = none) :
    regionBlock h b s.mem s.u = (s.mem, (s.u.useCredit h.port h.ctx 1).wickEvent Ev.WICK_STEP_MISMATCH) := by
  rw [regionBlock_seed heard bound crc mode, unasked]; rfl

section
variable {n i : Nat} {got : List Nat}

theorem regionBlock_seed_mismatch (heard : s.hearsBlock h 0x05 1 b) (bound : s.holds b.shard k x j) (crc : crc64 b.data = b.crc)
    (mode : j.mode ≠ 2) (awaited : x.incoming = some (n, i, got)) (other : n ≠ b.step ∨ ¬s.u.comesFrom h x i) :
    regionBlock h b s.mem s.u = (s.mem, (s.u.useCredit h.port h.ctx 1).wickEvent Ev.WICK_STEP_MISMATCH) := by
  rw [regionBlock_seed heard bound crc mode, awaited]
  exact if_pos (by simpa only [Bool.or_eq_true, decide_eq_true_eq, Units.comesFrom] using other)

/-- The awaited seed of a shard that is not spilled goes to the buddy (R257). -/
theorem regionBlock_awaited (heard : s.hearsBlock h 0x05 1 b) (bound : s.holds b.shard k x j) (crc : crc64 b.data = b.crc)
    (mode : j.mode ≠ 2) (awaited : x.incoming = some (n, i, got)) (step : n = b.step) (mine : s.u.comesFrom h x i) (held : x.prot ≠ 3) :
    regionBlock h b s.mem s.u = streamOn x 0x02 b s.mem ((s.u.useCredit h.port h.ctx 1).seedBlockCame k n i got b) := by
  rw [regionBlock_seed heard bound crc mode, awaited]
  exact (if_neg (by simp [step, show s.u.localCtx _ = _ from mine, -List.getD_eq_getElem?_getD])).trans (if_neg held)

/-- The awaited seed of a spilled shard joins the T3's own snapshot (R264). -/
theorem regionBlock_spilled (heard : s.hearsBlock h 0x05 1 b) (bound : s.holds b.shard k x j) (crc : crc64 b.data = b.crc)
    (mode : j.mode ≠ 2) (awaited : x.incoming = some (n, i, got)) (step : n = b.step) (mine : s.u.comesFrom h x i) (spilled : x.prot = 3) :
    regionBlock h b s.mem s.u =
      let r := toTransit s.mem ((s.u.useCredit h.port h.ctx 1).seedBlockCame k n i got b) b.data
      (r.1.1, spillBlock k x j b (r.1.2.count 0x600200)) := by
  rw [regionBlock_seed heard bound crc mode, awaited]
  exact (if_neg (by simp [step, show s.u.localCtx _ = _ from mine, -List.getD_eq_getElem?_getD])).trans (if_pos spilled)

end

/-- Whether the block comes from the writer of a mode 1 shard. -/
def Units.snapshotFrom (u : Units) (h : Sys2Proof.SHdr) (x : Shard) (j : JobBind) : Prop := j.mode = 1 ∧ u.comesFrom h x x.writer

theorem Units.notSnapshotFrom_iff (u : Units) (h : Sys2Proof.SHdr) (x : Shard) (j : JobBind) :
    (j.mode ≠ 1 || u.localCtx (x.members.getD x.writer (0, 0)) ≠ some (h.port, h.ctx)) = true ↔ ¬u.snapshotFrom h x j := by
  simp only [Units.snapshotFrom, Units.comesFrom, Bool.or_eq_true, decide_eq_true_eq, Decidable.not_and_iff_not_or_not]

theorem snapshotBlock_mismatch (heard : s.hearsBlock h 0x06 2 b) (bound : s.holds b.shard k x j) (other : ¬s.u.snapshotFrom h x j) :
    snapshotBlock h b s.mem s.u = (s.mem, (s.u.useCredit h.port h.ctx 2).wickEvent Ev.WICK_STEP_MISMATCH) :=
  (recvBlock_bound heard bound).trans (if_pos ((s.u.notSnapshotFrom_iff h x j).2 other))

theorem snapshotBlock_badCrc (heard : s.hearsBlock h 0x06 2 b) (bound : s.holds b.shard k x j) (mine : s.u.snapshotFrom h x j)
    (crc : crc64 b.data ≠ b.crc) : snapshotBlock h b s.mem s.u =
      (s.mem, (((s.u.useCredit h.port h.ctx 2).count 0x600220).wickEvent Ev.INTEGRITY_CRC).giveCredit h.port h.ctx 2 1) :=
  (recvBlock_bound heard bound).trans ((if_neg fun other => (s.u.notSnapshotFrom_iff h x j).1 other mine).trans (if_pos crc))

theorem snapshotBlock_forwarded (heard : s.hearsBlock h 0x06 2 b) (bound : s.holds b.shard k x j) (mine : s.u.snapshotFrom h x j)
    (crc : crc64 b.data = b.crc) : snapshotBlock h b s.mem s.u = streamOn x 0x03 b s.mem (s.u.useCredit h.port h.ctx 2) :=
  (recvBlock_bound heard bound).trans ((if_neg fun other => (s.u.notSnapshotFrom_iff h x j).1 other mine).trans (if_neg (· crc)))

end

/-! STEP_RECORD (R247, R259) -/

/-- The units once a step record of a member is kept (the last two of a context and shard) and the Ledger is to close the step. -/
def Units.keepRecord (u : Units) (h : Sys2Proof.SHdr) (r : Sys2Proof.StepRec) (k : Nat) (x : Shard) : Units :=
  (u.later (.stepClosed h.port h.ctx x.job r.step)).upSh k fun s =>
    { s with kept := NMap.set s.kept (64 * h.port + h.ctx) ((r :: NMap.getD s.kept (64 * h.port + h.ctx) []).take 2) }

/-- A kept record is taken at the buddy, or goes to it where the shard is buddied. -/
def Units.passRecord (u : Units) (h : Sys2Proof.SHdr) (r : Sys2Proof.StepRec) (k : Nat) (x : Shard) : Units :=
  if x.isBuddy then u.takeRec k { r := r, cid := u.cidOf h.port, ctx := h.ctx }
  else if x.prot = 1 ∨ x.prot = 3 then u else u.reqL x.buddy 0x05 256 2 (recFields r)

theorem Units.passRecord_eq {u v : Units} {h : Sys2Proof.SHdr} {r : Sys2Proof.StepRec} {k : Nat} {x : Shard}
    (went : x.isBuddy = true ∧ v = u.takeRec k { r := r, cid := u.cidOf h.port, ctx := h.ctx } ∨
      x.isBuddy = false ∧ (x.prot = 1 ∨ x.prot = 3) ∧ v = u ∨
      x.isBuddy = false ∧ ¬(x.prot = 1 ∨ x.prot = 3) ∧ v = u.reqL x.buddy 0x05 256 2 (recFields r)) : u.passRecord h r k x = v := by
  rcases went with ⟨here, rfl⟩ | ⟨away, alone, rfl⟩ | ⟨away, buddied, rfl⟩
  · exact if_pos here
  · exact (if_neg (Bool.eq_false_iff.1 away)).trans (if_pos alone)
  · exact (if_neg (Bool.eq_false_iff.1 away)).trans (if_neg buddied)

/-- A snapshot is due at the record (R259). -/
def Units.snapshotDue (u : Units) (h : Sys2Proof.SHdr) (r : Sys2Proof.StepRec) (x : Shard) (j : JobBind) : Prop :=
  j.mode = 1 ∧ u.comesFrom h x x.writer ∧ r.step % (if j.perStep = true then 1 else u.v1Period) = 0 ∧ bitAt r.flags 3 = false

theorem Units.snapshotDue_iff (u : Units) (h : Sys2Proof.SHdr) (r : Sys2Proof.StepRec) (x : Shard) (j : JobBind) :
    (j.mode = 1 && u.localCtx (x.members.getD x.writer (0, 0)) = some (h.port, h.ctx) && r.step % (if j.perStep then 1 else u.v1Period) = 0 &&
      !(bitAt r.flags 3)) = true ↔ u.snapshotDue h r x j := by
  simp only [Units.snapshotDue, Units.comesFrom, Bool.and_eq_true, decide_eq_true_eq, Bool.not_eq_true', and_assoc]

section
variable {s : State} {h : Sys2Proof.SHdr} {r : Sys2Proof.StepRec} {k : Nat} {x : Shard} {j : JobBind}

theorem stepRecord_badCrc (heard : s.hears h 0x03) : stepRecord h r false s.u = s.u.wickEvent Ev.INTEGRITY_CRC := recvS_hears heard _

theorem stepRecord_unbound (heard : s.hears h 0x03) (unbound : ∀ k, s.u.shKey r.shard = some k → s.u.jobB (s.u.shAt k).job = none) :
    stepRecord h r true s.u = s.u.later (.progress h.port h.ctx 0) :=
  (recvS_hears heard _).trans ((if_neg (by decide)).trans (withSh_unbound (u := s.u.later _) unbound _ _))

theorem stepRecord_stranger (heard : s.hears h 0x03) (bound : s.holds r.shard k x j)
    (other : (x.members.any fun m => s.u.localCtx m = some (h.port, h.ctx)) = false) :
    stepRecord h r true s.u = s.u.later (.progress h.port h.ctx 0) :=
  (recvS_hears heard _).trans ((if_neg (by decide)).trans ((later_withSh_holds bound _ _ _).trans (if_pos (congrArg (! ·) other))))

/-- The record of a member of the shard, by whether a snapshot is due. -/
theorem stepRecord_member (heard : s.hears h 0x03) (bound : s.holds r.shard k x j)
    (mine : (x.members.any fun m => s.u.localCtx m = some (h.port, h.ctx)) = true) :
    stepRecord h r true s.u =
      let v := ((s.u.later (.progress h.port h.ctx 0)).keepRecord h r k x).passRecord h r k x
      if j.mode = 1 && v.localCtx (x.members.getD x.writer (0, 0)) = some (h.port, h.ctx) && r.step % (if j.perStep then 1 else v.v1Period) = 0 &&
          !(bitAt r.flags 3) then
        (if (v.ig h.port).has 2 then v.giveCredit h.port h.ctx 2 (x.layout - v.creditsLeft h.port h.ctx 2) else v).igSend h.port 0x13 h.ctx 8 []
      else (if x.isBuddy then v.later (.drive x.shard r.step) else v).later (.verify x.shard r.step) :=
  (recvS_hears heard _).trans ((if_neg (by decide)).trans ((later_withSh_holds bound _ _ _).trans (if_neg (Bool.eq_false_iff.1 (congrArg (! ·) mine)))))

variable {v : Units} (heard : s.hears h 0x03) (bound : s.holds r.shard k x j)
  (mine : (x.members.any fun m => s.u.localCtx m = some (h.port, h.ctx)) = true)
  (passed : ((s.u.later (.progress h.port h.ctx 0)).keepRecord h r k x).passRecord h r k x = v)
include heard bound mine passed

theorem stepRecord_notDue (no : ¬v.snapshotDue h r x j) :
    stepRecord h r true s.u = (if x.isBuddy = true then v.later (.drive x.shard r.step) else v).later (.verify x.shard r.step) := by
  rw [stepRecord_member heard bound mine, passed]
  exact if_neg fun due => no ((v.snapshotDue_iff h r x j).1 due)

theorem stepRecord_due (due : v.snapshotDue h r x j) : stepRecord h r true s.u =
    (if (v.ig h.port).has 2 = true then v.giveCredit h.port h.ctx 2 (x.layout - v.creditsLeft h.port h.ctx 2) else v).igSend h.port 0x13 h.ctx 8 [] := by
  rw [stepRecord_member heard bound mine, passed]
  exact if_pos ((v.snapshotDue_iff h r x j).2 due)

end

/-! WICK_BIND_JOB (R238, R270) -/

/-- The operands of WICK_BIND_JOB keep to Tables 10-1 and 10-2 and to R270. -/
def Units.bindJobOk (u : Units) (job mode comps prog params : Nat) (fmts : List Nat) (flags : Nat) : Prop :=
  u.jobB job = none ∧ mode ≤ 2 ∧ 1 ≤ comps ∧ comps ≤ 16 ∧ 1 ≤ params ∧ params ≤ 2 ^ 48 ∧ fmts.length = 16 ∧
    (∀ f ∈ fmts.take comps, 1 ≤ f ∧ f ≤ 5) ∧ (∀ f ∈ fmts.drop comps, f = 0) ∧ flags < 8 ∧ (mode = 0 → u.bindRefused job comps prog fmts = false)

theorem Units.bindJobOk_iff (u : Units) (job mode comps prog params : Nat) (fmts : List Nat) (flags : Nat) :
    ((u.jobB job).isSome || 2 < mode || comps = 0 || 16 < comps || params = 0 || 2 ^ 48 < params || fmts.length ≠ 16 ||
      !((fmts.take comps).all fun f => 1 ≤ f && f ≤ 5) || !((fmts.drop comps).all (· = 0)) || 8 ≤ flags ||
      (mode = 0 && u.bindRefused job comps prog fmts)) = false ↔ u.bindJobOk job mode comps prog params fmts flags := by
  simp only [Units.bindJobOk, Bool.or_eq_false_iff, Option.isSome_eq_false_iff, Option.isNone_iff_eq_none, decide_eq_false_iff_not, Nat.not_lt,
    Nat.not_le, Nat.one_le_iff_ne_zero, ne_eq, Decidable.not_not, Bool.not_eq_false', List.all_eq_true, Bool.and_eq_true, decide_eq_true_eq,
    Bool.and_eq_false_imp, and_assoc]

/-- What WICK_BIND_JOB binds. -/
def Units.newJob (u : Units) (job mode comps prog key params : Nat) (fmts : List Nat) (interval flags gateMs : Nat) : JobBind :=
  { mode := mode, comps := comps, prog := prog, key := key, params := params, fmts := fmts, interval := interval, flags := flags,
    gateMs := gateMs, released := 0, relTime := 0, relEpoch := 0, entered := none, snapNow := [], perStep := false, held := false,
    group := (u.gateGroup job).getD 0 }

/-- A transit region is taken where there is none (Table 5-2). -/
def Units.withTransit (u : Units) : Units :=
  if (u.mantle.regions.any fun r => r.2.typ = 4) then u
  else (u.allocRegion { wickRegion 4 0 with ownerKind := 2, ownerCid := u.self, gen := u.role.t3Gen, mask := 0x33 } (2 ^ 31)).1

section
variable {u : Units} {c : Sys2Proof.Cmd} {job mode comps prog key params : Nat} {fmts : List Nat} {interval flags gateMs : Nat}
  (op : isOperator (stampPriv c.stamp) = true)
include op

theorem wickBindJob_bad (bad : ¬u.bindJobOk job mode comps prog params fmts flags) :
    wickBindJob c job mode comps prog key params fmts interval flags gateMs u = u.done c 0x060 0x0601 St.BAD_PARAM :=
  (operator_ok op _ _ _).trans (if_pos (Bool.of_not_eq_false fun ok => bad ((u.bindJobOk_iff job mode comps prog params fmts flags).1 ok)))

variable (ok : u.bindJobOk job mode comps prog params fmts flags)
include ok

theorem wickBindJob_off (off : u.wick.enable = false ∨ u.lamp.state = 4) :
    wickBindJob c job mode comps prog key params fmts interval flags gateMs u = u.done c 0x060 0x0601 St.BAD_STATE :=
  (operator_ok op _ _ _).trans ((if_neg (Bool.eq_false_iff.1 ((u.bindJobOk_iff job mode comps prog params fmts flags).2 ok))).trans
    (if_pos (by simpa using off)))

theorem wickBindJob_binds (on : u.wick.enable = true) (up : u.lamp.state ≠ 4) :
    wickBindJob c job mode comps prog key params fmts interval flags gateMs u =
      ((u.withTransit.upW fun w =>
        { w with jobs := NMap.set w.jobs job (u.newJob job mode comps prog key params fmts interval flags gateMs) }).setGates job).done c 0x060 0x0601 St.OK :=
  (operator_ok op _ _ _).trans ((if_neg (Bool.eq_false_iff.1 ((u.bindJobOk_iff job mode comps prog params fmts flags).2 ok))).trans
    (if_neg (by simp [on, up])))

end

/-! WICK_BIND_SHARD (R238, R239, R271) -/

/-- The operands of WICK_BIND_SHARD keep to Tables 10-1 and 10-3. -/
def Units.bindShardOk (u : Units) (shard first params buddy roles : Nat) (j : JobBind) : Prop :=
  u.shKey shard = none ∧ (roles = 1 ∨ roles = 2 ∨ roles = 3) ∧ params ≠ 0 ∧ first + params ≤ j.params ∧ ¬(roles = 1 ∧ buddy = u.self)

theorem Units.bindShardOk_iff (u : Units) (shard first params buddy roles : Nat) (j : JobBind) :
    ((u.shKey shard).isSome || roles = 0 || 3 < roles || params = 0 || j.params < first + params || (roles = 1 && buddy = u.self)) = false ↔
      u.bindShardOk shard first params buddy roles j := by
  have range : (¬roles = 0 ∧ roles ≤ 3) ↔ (roles = 1 ∨ roles = 2 ∨ roles = 3) := by omega
  simp only [Units.bindShardOk, Bool.or_eq_false_iff, Option.isSome_eq_false_iff, Option.isNone_iff_eq_none, decide_eq_false_iff_not, Nat.not_lt,
    ← range, ne_eq, ← Bool.decide_and, and_assoc]

/-- The buddy of the binding: as named, this T3 in the buddy role, else the one that the pairing table gives. -/
def Units.buddyFor (u : Units) (buddy roles : Nat) : Nat :=
  if buddy ≠ 0 then buddy else if bitAt roles 1 then u.self else NMap.getD u.role.pairing u.self 0

/-- The first shard in the buddy role of a mode 0 job, bound at `v`, has the job's shadow program loaded (R271). -/
def Units.loadFirst (u v : Units) (job roles : Nat) (j : JobBind) : Units :=
  if j.mode = 0 && bitAt roles 1 && (u.inst job).state = 0 then (v.upInst job fun i => { i with state := 1 }).later (.shadowLoad job) else v

theorem Units.loadFirst_eq {u v w : Units} {job roles : Nat} {j : JobBind}
    (went : (j.mode = 0 ∧ bitAt roles 1 = true ∧ (u.inst job).state = 0) ∧ w = (v.upInst job fun i => { i with state := 1 }).later (.shadowLoad job) ∨
      ¬(j.mode = 0 ∧ bitAt roles 1 = true ∧ (u.inst job).state = 0) ∧ w = v) : u.loadFirst v job roles j = w := by
  have opens : (decide (j.mode = 0) && bitAt roles 1 && decide ((u.inst job).state = 0)) = true ↔
      j.mode = 0 ∧ bitAt roles 1 = true ∧ (u.inst job).state = 0 := by
    simp only [Bool.and_eq_true, decide_eq_true_eq, and_assoc]
  rcases went with ⟨first, rfl⟩ | ⟨later, rfl⟩
  · exact if_pos (opens.2 first)
  · exact if_neg fun first => later (opens.1 first)

section
variable {u : Units} {c : Sys2Proof.Cmd} {job shard first params buddy roles : Nat} {j : JobBind} (op : isOperator (stampPriv c.stamp) = true)
include op

theorem wickBindShard_noJob (noJob : u.jobB job = none) :
    wickBindShard c job shard first params buddy roles u = u.done c 0x060 0x0602 St.BAD_PARAM := by
  rw [wickBindShard, operator_ok op, noJob]

variable (bound : u.jobB job = some j)
include bound

theorem wickBindShard_bad (bad : ¬u.bindShardOk shard first params buddy roles j) :
    wickBindShard c job shard first params buddy roles u = u.done c 0x060 0x0602 St.BAD_PARAM := by
  rw [wickBindShard, operator_ok op, bound]
  exact if_pos (Bool.of_not_eq_false fun ok => bad ((u.bindShardOk_iff shard first params buddy roles j).1 ok))

variable (ok : u.bindShardOk shard first params buddy roles j) {v : Units}
include ok

theorem wickBindShard_full (full : u.bindShard job shard first params (u.buddyFor buddy roles) roles j = (v, none)) :
    wickBindShard c job shard first params buddy roles u = u.done c 0x060 0x0602 St.MANTLE_FULL := by
  rw [wickBindShard, operator_ok op, bound]
  refine (if_neg (Bool.eq_false_iff.1 ((u.bindShardOk_iff shard first params buddy roles j).2 ok))).trans ?_
  rw [Units.buddyFor] at full
  simp only [full]

variable {k : Nat} (entry : u.bindShard job shard first params (u.buddyFor buddy roles) roles j = (v, some k))
include entry

/-- WICK_BIND_SHARD that has bound the shard at entry `k`: it waits for a buddy or for pages, or completes. -/
theorem wickBindShard_entry : wickBindShard c job shard first params buddy roles u =
    let v' := u.loadFirst v job roles j
    let waits := v'.upSh k fun s => { s with bindCmd := some (c.ring, c.tag, c.stamp, c.gen) }
    if u.buddyFor buddy roles = 0 then waits.askPlace k
    else if bitAt roles 1 && (v'.shAt k).bRegion = 0xFFFF then waits
    else v'.done c 0x060 0x0602 St.OK 0 k := by
  rw [wickBindShard, operator_ok op, bound]
  refine (if_neg (Bool.eq_false_iff.1 ((u.bindShardOk_iff shard first params buddy roles j).2 ok))).trans ?_
  rw [Units.buddyFor] at entry
  simp only [entry]
  rfl

theorem wickBindShard_asks (alone : u.buddyFor buddy roles = 0) : wickBindShard c job shard first params buddy roles u =
    ((u.loadFirst v job roles j).upSh k fun s => { s with bindCmd := some (c.ring, c.tag, c.stamp, c.gen) }).askPlace k :=
  (wickBindShard_entry op bound ok entry).trans (if_pos alone)

theorem wickBindShard_waits (buddied : u.buddyFor buddy roles ≠ 0)
    (pages : bitAt roles 1 = true ∧ ((u.loadFirst v job roles j).shAt k).bRegion = 0xFFFF) : wickBindShard c job shard first params buddy roles u =
      (u.loadFirst v job roles j).upSh k fun s => { s with bindCmd := some (c.ring, c.tag, c.stamp, c.gen) } :=
  (wickBindShard_entry op bound ok entry).trans ((if_neg buddied).trans (if_pos (by simpa using pages)))

theorem wickBindShard_done (buddied : u.buddyFor buddy roles ≠ 0)
    (ready : bitAt roles 1 = false ∨ ((u.loadFirst v job roles j).shAt k).bRegion ≠ 0xFFFF) :
    wickBindShard c job shard first params buddy roles u = (u.loadFirst v job roles j).done c 0x060 0x0602 St.OK 0 k := by
  refine (wickBindShard_entry op bound ok entry).trans ((if_neg buddied).trans (if_neg fun pages => ?_))
  obtain ⟨role, none⟩ := Bool.and_eq_true_iff.1 pages
  exact ready.elim (Bool.eq_false_iff.1 · role) (· (of_decide_eq_true none))

end

/-! WICK_MEMBERSHIP (R243) -/

/-- The operands of WICK_MEMBERSHIP fit the shard's entry. -/
def Shard.raisable (x : Shard) (job epoch count : Nat) : Prop :=
  x.job = job ∧ 1 ≤ count ∧ count ≤ 255 ∧ (x.epoch < epoch ∨ epoch = x.epoch ∧ x.members = [])

theorem Shard.raisable_iff (x : Shard) (job epoch count : Nat) :
    (x.job ≠ job || count = 0 || 255 < count || epoch < x.epoch || (epoch = x.epoch && !x.members.isEmpty)) = false ↔ x.raisable job epoch count := by
  have newer : (x.epoch ≤ epoch ∧ (epoch = x.epoch → x.members = [])) ↔ (x.epoch < epoch ∨ epoch = x.epoch ∧ x.members = []) := by
    constructor
    · rintro ⟨le, same⟩
      rcases Nat.lt_or_eq_of_le le with lt | eq
      · exact .inl lt
      · exact .inr ⟨eq.symm, same eq.symm⟩
    · rintro (lt | ⟨eq, none⟩)
      · exact ⟨Nat.le_of_lt lt, fun eq => absurd eq (Nat.ne_of_gt lt)⟩
      · exact ⟨Nat.le_of_eq eq.symm, fun _ => none⟩
  simp only [Shard.raisable, ← newer, Bool.or_eq_false_iff, decide_eq_false_iff_not, ne_eq, Decidable.not_not, Nat.not_lt, Nat.one_le_iff_ne_zero,
    Bool.and_eq_false_imp, decide_eq_true_eq, Bool.not_eq_false', List.isEmpty_iff, and_assoc]

theorem wickMembership_refused {u : Units} {m : Mem} {c : Sys2Proof.Cmd} {job shard epoch count addr : Nat}
    (op : isOperator (stampPriv c.stamp) = false) :
    wickMembership c job shard epoch count addr m u = (m, u.done c 0x060 0x0603 St.NOT_PRIVILEGED) :=
  if_pos (by simp [op])

section
variable {s : State} {c : Sys2Proof.Cmd} {shard k : Nat} {x : Shard} {j : JobBind} {job epoch count addr : Nat}
  (op : isOperator (stampPriv c.stamp) = true)
include op

theorem wickMembership_unbound (unbound : ∀ k, s.u.shKey shard = some k → s.u.jobB (s.u.shAt k).job = none) :
    wickMembership c job shard epoch count addr s.mem s.u = (s.mem, s.u.done c 0x060 0x0603 St.BAD_PARAM) :=
  (if_neg (by simp [op])).trans (withSh_unbound unbound _ _)

variable (bound : s.holds shard k x j)
include bound

theorem wickMembership_bad (bad : ¬x.raisable job epoch count) :
    wickMembership c job shard epoch count addr s.mem s.u = (s.mem, s.u.done c 0x060 0x0603 St.BAD_PARAM) :=
  (if_neg (by simp [op])).trans ((withSh_holds bound _ _).trans
    (if_pos (Bool.of_not_eq_false fun ok => bad ((x.raisable_iff job epoch count).1 ok))))

variable (ok : x.raisable job epoch count)
include ok

theorem wickMembership_closed (closed : s.u.mayAccess Ag.wick addr (4 * count) false = false) :
    wickMembership c job shard epoch count addr s.mem s.u = (s.mem, s.u.done c 0x060 0x0603 St.NOT_PRIVILEGED) :=
  (if_neg (by simp [op])).trans ((withSh_holds bound _ _).trans
    ((if_neg (Bool.eq_false_iff.1 ((x.raisable_iff job epoch count).2 ok))).trans (if_pos (by simp [closed]))))

theorem wickMembership_raises (may : s.u.mayAccess Ag.wick addr (4 * count) false = true) :
    wickMembership c job shard epoch count addr s.mem s.u =
      (s.mem, (s.u.membership k epoch ((List.range count).map fun i =>
        (leNat (s.mem.bytesAt (addr + 4 * i) 3), leNat (s.mem.bytesAt (addr + 4 * i + 3) 1)))).done c 0x060 0x0603 St.OK) :=
  (if_neg (by simp [op])).trans ((withSh_holds bound _ _).trans
    ((if_neg (Bool.eq_false_iff.1 ((x.raisable_iff job epoch count).2 ok))).trans (if_neg (by simp [may]))))

end

/-! WICK_UNBIND and WICK_SNAPSHOT_NOW (R238, R260, R265) -/

/-- The Wick without a job: its binding, its shards and its shadow program's slot. -/
def Units.dropJob (u : Units) (job : Nat) : Units :=
  u.upW fun w => { w with jobs := NMap.del w.jobs job, shards := NMap.keep w.shards fun _ s => s.job ≠ job, insts := NMap.del w.insts job }

/-- The job's buddy and staging regions are freed (R124). -/
def Units.freeJob (u : Units) (job : Nat) : Units :=
  (u.mantle.regions.filter fun r => (r.2.typ = 2 || r.2.typ = 3) && r.2.ownerKind = 3 && r.2.job = job).foldl (fun u r => u.freeRegion r.1) u

/-- The job's reservations and what waits for their pages are dropped (R128). -/
def Units.dropPooling (u : Units) (job : Nat) : Units :=
  let gone := u.role.poolWait.filter fun w => w.job = job
  (u.setMantle { u.mantle with waits := u.mantle.waits.filter fun w => !(gone.any fun x => w.why ≠ 0 && x.n = w.why / 2) }).upR fun x =>
    { x with pooling := x.pooling.filter (fun p => p.1 ≠ job), poolWait := x.poolWait.filter fun w => w.job ≠ job }

/-- The commands that wait for a job and for its shards `ss` end with BAD_STATE. -/
def Units.endWaiting (u : Units) (j : JobBind) (ss : List Shard) : Units :=
  ss.foldl (fun u s => (u.doneAll s.seedCmds 0x0606 St.BAD_STATE 0).doneAll s.bindCmd.toList 0x0602 St.BAD_STATE 0)
    (u.doneAll j.snapNow 0x0605 St.BAD_STATE 0)

section
variable {u : Units} {c : Sys2Proof.Cmd} {job : Nat}

theorem wickUnbind_refused (op : isOperator (stampPriv c.stamp) = false) : wickUnbind c job u = u.done c 0x060 0x0604 St.NOT_PRIVILEGED := by
  rw [wickUnbind, Units.unbindJob, operator_refused op]
  exact if_neg (by simp [op])

variable (op : isOperator (stampPriv c.stamp) = true)
include op

theorem wickUnbind_noJob (noJob : u.jobB job = none) : wickUnbind c job u = u.done c 0x060 0x0604 St.BAD_PARAM := by
  rw [wickUnbind, Units.unbindJob, operator_ok op, noJob]
  exact if_neg (by simp)

/-- WICK_UNBIND of a bound job; its shadow program is unloaded where it runs (R168). -/
theorem wickUnbind_job {j : JobBind} (bound : u.jobB job = some j) : wickUnbind c job u =
    let v := ((((u.dropJob job).freeJob job).dropPooling job).endWaiting j ((u.shardsOf job).map u.shAt)).done c 0x060 0x0604 St.OK
    if (u.inst job).state = 2 then v.later (.gridUnload (u.inst job).slot) else v := by
  rw [wickUnbind, Units.unbindJob, operator_ok op, bound]
  simp only [op, Option.isSome_some, Bool.true_and, decide_eq_true_eq]
  rfl

theorem wickSnapshotNow_noJob (noJob : u.jobB job = none) : wickSnapshotNow c job u = u.done c 0x060 0x0605 St.BAD_PARAM := by
  rw [wickSnapshotNow, operator_ok op, noJob]

/-- WICK_SNAPSHOT_NOW of a bound job is kept where this T3 is the buddy of one of its shards. -/
theorem wickSnapshotNow_job {j : JobBind} (bound : u.jobB job = some j) : wickSnapshotNow c job u =
    if (u.shardsOf job).any fun k => (u.shAt k).isBuddy then
      (u.upJob job fun j => { j with snapNow := j.snapNow ++ [(c.ring, c.tag, c.stamp, c.gen)] }).wantSnap job
    else u.done c 0x060 0x0605 St.OK := by
  rw [wickSnapshotNow, operator_ok op, bound]

end

/-! WICK_SEED (R257) -/

section
variable {s : State} {c : Sys2Proof.Cmd} {shard k : Nat} {x : Shard} {j : JobBind} {job : Nat} (op : isOperator (stampPriv c.stamp) = true)
include op

theorem wickSeed_unbound (unbound : ∀ k, s.u.shKey shard = some k → s.u.jobB (s.u.shAt k).job = none) :
    wickSeed c job shard s.u = s.u.done c 0x060 0x0606 St.BAD_PARAM :=
  (operator_ok op _ _ _).trans (withSh_unbound unbound _ _)

variable (bound : s.holds shard k x j)
include bound

theorem wickSeed_otherJob (other : x.job ≠ job) : wickSeed c job shard s.u = s.u.done c 0x060 0x0606 St.BAD_PARAM :=
  (operator_ok op _ _ _).trans ((withSh_holds bound _ _).trans (if_pos other))

theorem wickSeed_notBuddy (same : x.job = job) (source : x.isBuddy = false) : wickSeed c job shard s.u = s.u.done c 0x060 0x0606 St.BAD_STATE :=
  (operator_ok op _ _ _).trans ((withSh_holds bound _ _).trans ((if_neg (· same)).trans (if_pos (by simp [source]))))

/-- WICK_SEED at the buddy, which keeps the command. -/
theorem wickSeed_buddy (same : x.job = job) (buddy : x.isBuddy = true) : wickSeed c job shard s.u =
    let u := s.u.upSh k fun s =>
      { s with seedCmds := s.seedCmds ++ [(c.ring, c.tag, c.stamp, c.gen)], prot := if s.prot = 0 then 2 else s.prot }
    if j.released = 0 || x.passed j.released then u.upSh k fun s => { s with prot := 2 } else u.startSeed k j.released 0 :=
  (operator_ok op _ _ _).trans ((withSh_holds bound _ _).trans ((if_neg (· same)).trans (if_neg (by simp [buddy]))))

end

/-! WICK_ENABLE_CLEAR (R144, R266) -/

/-- An operator may clear the enable of a Wick that has no job. -/
def Units.mayClear (u : Units) (w : Sys2Proof.Who) : Prop := isOperator w.priv = true ∧ u.wick.enable = true ∧ u.wick.jobs = []

theorem Units.mayClear_iff (u : Units) (w : Sys2Proof.Who) :
    (!(isOperator w.priv) || !u.wick.enable || !u.wick.jobs.isEmpty) = false ↔ u.mayClear w := by
  simp only [Units.mayClear, Bool.or_eq_false_iff, Bool.not_eq_false', List.isEmpty_iff, and_assoc]

theorem wickEnableClear_drains {u : Units} {w : Sys2Proof.Who} (may : u.mayClear w) : wickEnableClear w u =
    { u.upW fun x => { x with enable := false, draining := true } with drains := u.drains ++ [{ unit := 0x06, items := 0, enableHeld := false }] } :=
  if_neg (Bool.eq_false_iff.1 ((u.mayClear_iff w).2 may))

theorem wickEnableClear_ignored {u : Units} {w : Sys2Proof.Who} (no : ¬u.mayClear w) : wickEnableClear w u = u :=
  if_pos (Bool.of_not_eq_false fun may => no ((u.mayClear_iff w).1 may))

/-! FWD_GRADIENT at the buddy (R246) -/

/-- The block is of a step that the buddy of a mode 0 shard still takes, and is sound. -/
def Shard.takesGradient (x : Shard) (j : JobBind) (b : Sys2Proof.Blk) : Prop :=
  x.isBuddy = true ∧ j.mode = 0 ∧ x.committed < b.step ∧ Blk.bad b = false

theorem Shard.takesGradient_iff (x : Shard) (j : JobBind) (b : Sys2Proof.Blk) :
    (!x.isBuddy || j.mode ≠ 0 || b.step ≤ x.committed || Blk.bad b) = false ↔ x.takesGradient j b := by
  simp only [Shard.takesGradient, Bool.or_eq_false_iff, Bool.not_eq_false', decide_eq_false_iff_not, ne_eq, Decidable.not_not, Nat.not_le, and_assoc]

/-- The buddy acknowledges the blocks of the step that it has (R246); from a region that is quiet, as stale (R124). -/
def Units.ackGradient (u : Units) (src k step : Nat) (x : Shard) (quiet : Bool) : Units :=
  match (u.shAt k).step? step with
  | some o => u.reqL src 0x04 32 2 [x.shard, step, o.got.length, if quiet then St.STALE_GENERATION else St.OK, o.gradFp]
  | none => u

/-- A list block of the step is taken at the buddy (R71). -/
def Units.takeFwdList (u : Units) (k : Nat) (b : Sys2Proof.Blk) : Units :=
  u.upOpen k b.step fun o =>
    { o with sparse := true, gotLast := o.gotLast || bitAt b.flags 0, touched := (listOf b).foldl insertUp o.touched }

/-- A data block of the step is taken at the buddy: counted and fingerprinted once. -/
def Units.takeFwdData (u : Units) (k : Nat) (x : Shard) (j : JobBind) (b : Sys2Proof.Blk) (dup : Bool) : Units :=
  (if dup then u else u.count 0x600210).upOpen k b.step fun o =>
    { o with got := if dup then o.got else b.index :: o.got, fmt := b.fmt, gotLast := o.gotLast || bitAt b.flags 0,
             gradFp := if dup then o.gradFp else (o.gradFp + fpBlock j.key x.first b.fmt b.index b.data) % fpP }

/-- Without an apply gate a record that came early drives the step on. -/
def Units.driveEarly (u : Units) (k : Nat) (x : Shard) (j : JobBind) (step : Nat) : Units :=
  if j.gated = false ∧ ∃ y ∈ (u.shAt k).early, y.r.step = step then u.later (.drive x.shard step) else u

theorem JobBind.drivesEarly_iff (j : JobBind) (early : List HeldRec) (step : Nat) :
    (!j.gated && early.any fun y => y.r.step = step) = true ↔ j.gated = false ∧ ∃ y ∈ early, y.r.step = step := by
  simp only [Bool.and_eq_true, Bool.not_eq_true', List.any_eq_true, decide_eq_true_eq]

/-- A block is acknowledged at once where it is the last, or each 64th new one (R246). -/
theorem ackDue_iff (last dup : Bool) (got : Nat) :
    (last || (!dup && (got + 1) % 64 = 0)) = true ↔ last = true ∨ dup = false ∧ (got + 1) % 64 = 0 := by
  simp only [Bool.or_eq_true, Bool.and_eq_true, Bool.not_eq_true', decide_eq_true_eq]

section
variable {s : State} {l : Sys2Proof.LHdr} {b : Sys2Proof.Blk} {k : Nat} {x : Shard} {j : JobBind}

theorem fwdGradient_stackFailed (heard : s.hearsL l) (failed : s.u.mantle.stackFailed = true) : fwdGradient l b s.mem s.u = (s.mem, s.u) :=
  (if_neg (Bool.eq_false_iff.1 heard.1)).trans (if_pos failed)

variable (heard : s.hearsL l) (up : s.u.mantle.stackFailed = false) (bound : s.holds b.shard k x j)
include heard up bound

theorem fwdGradient_ignored (no : ¬x.takesGradient j b) : fwdGradient l b s.mem s.u = (s.mem, s.u) :=
  (if_neg (Bool.eq_false_iff.1 heard.1)).trans ((if_neg (Bool.eq_false_iff.1 up)).trans ((withSh_holds bound _ _).trans
    (if_pos (Bool.of_not_eq_false fun ok => no ((x.takesGradient_iff j b).1 ok)))))

variable (takes : x.takesGradient j b)
include takes

/-- A block that the buddy takes, by its sender, its CRC-64 and its kind. -/
theorem fwdGradient_takes : fwdGradient l b s.mem s.u =
    if !(s.u.fromReplica x x.writer l.src) then (s.mem, s.u.staleBlock)
    else if crc64 b.data ≠ b.crc then (s.mem, (s.u.count 0x600220).wickEvent Ev.INTEGRITY_CRC)
    else
      let u := s.u.upSh k fun s => s.begin b.step 1
      let quiet := NMap.has u.mantle.fading x.sRegion
      if b.fmt = 0x10 then
        (s.mem, if bitAt b.flags 0 then (u.takeFwdList k b).ackGradient l.src k b.step x quiet else u.takeFwdList k b)
      else
        let dup := (u.stepAt k b.step).got.contains b.index
        let r := putBlock s.mem u x.sRegion b.index b.data (u.srcOf x.job (x.members.getD x.writer (0, 0)))
        if quiet then (r.1, r.2.ackGradient l.src k b.step x quiet)
        else
          let v := r.2.takeFwdData k x j b dup
          let v := if !j.gated && (v.shAt k).early.any fun y => y.r.step = b.step then v.later (.drive x.shard b.step) else v
          (r.1, if bitAt b.flags 0 || (!dup && ((u.stepAt k b.step).got.length + 1) % 64 = 0) then v.ackGradient l.src k b.step x quiet else v) :=
  (if_neg (Bool.eq_false_iff.1 heard.1)).trans ((if_neg (Bool.eq_false_iff.1 up)).trans ((withSh_holds bound _ _).trans
    (if_neg (Bool.eq_false_iff.1 ((x.takesGradient_iff j b).2 takes)))))

theorem fwdGradient_stale (other : s.u.fromReplica x x.writer l.src = false) : fwdGradient l b s.mem s.u = (s.mem, s.u.staleBlock) :=
  (fwdGradient_takes heard up bound takes).trans (if_pos (by simp [other]))

variable (mine : s.u.fromReplica x x.writer l.src = true)
include mine

theorem fwdGradient_badCrc (crc : crc64 b.data ≠ b.crc) :
    fwdGradient l b s.mem s.u = (s.mem, (s.u.count 0x600220).wickEvent Ev.INTEGRITY_CRC) :=
  (fwdGradient_takes heard up bound takes).trans ((if_neg (by simp [mine])).trans (if_pos crc))

variable (crc : crc64 b.data = b.crc) {u : Units} (begun : (s.u.upSh k fun s => s.begin b.step 1) = u)
include crc begun

theorem fwdGradient_list (list : b.fmt = 0x10) : fwdGradient l b s.mem s.u =
    (s.mem, if bitAt b.flags 0 = true then (u.takeFwdList k b).ackGradient l.src k b.step x (NMap.has u.mantle.fading x.sRegion)
      else u.takeFwdList k b) := by
  subst begun
  exact (fwdGradient_takes heard up bound takes).trans ((if_neg (by simp [mine])).trans ((if_neg (· crc)).trans (if_pos list)))

variable (data : b.fmt ≠ 0x10) {r : Mem × Units}
  (put : putBlock s.mem u x.sRegion b.index b.data (u.srcOf x.job (x.members.getD x.writer (0, 0))) = r)
include data put

theorem fwdGradient_quiet (quiet : NMap.has u.mantle.fading x.sRegion = true) : fwdGradient l b s.mem s.u =
    (r.1, r.2.ackGradient l.src k b.step x (NMap.has u.mantle.fading x.sRegion)) := by
  subst begun put
  exact (fwdGradient_takes heard up bound takes).trans ((if_neg (by simp [mine])).trans ((if_neg (· crc)).trans
    ((if_neg data).trans (if_pos quiet))))

/-- A data block of the writer is in staging, and counted and fingerprinted once; it is acknowledged where that is due. -/
theorem fwdGradient_data (stays : NMap.has u.mantle.fading x.sRegion = false) : fwdGradient l b s.mem s.u =
    let dup := (u.stepAt k b.step).got.contains b.index
    let v := (r.2.takeFwdData k x j b dup).driveEarly k x j b.step
    (r.1, if bitAt b.flags 0 = true ∨ dup = false ∧ ((u.stepAt k b.step).got.length + 1) % 64 = 0 then
      v.ackGradient l.src k b.step x (NMap.has u.mantle.fading x.sRegion) else v) := by
  subst begun put
  refine (fwdGradient_takes heard up bound takes).trans ((if_neg (by simp [mine])).trans ((if_neg (· crc)).trans
    ((if_neg data).trans ((if_neg (by simp [stays])).trans (congrArg (Prod.mk _) ?_)))))
  simp only [JobBind.drivesEarly_iff, ackDue_iff]
  rfl

end

/-! FWD_ACK and its timeout (R246, R248, R258) -/

section
variable {s : State} {l : Sys2Proof.LHdr} {shard k step stored status fp : Nat} {x : Shard} {j : JobBind} (bound : s.holds shard k x j)
include bound

theorem fwdAck_notOpen (heard : s.hearsL l) (no : x.step? step = none) : fwdAck l shard step stored status fp s.u = s.u := by
  rw [fwdAck, recvL_hears heard, withSh_holds bound, no]

/-- FWD_ACK of an open step. -/
theorem fwdAck_open {o : OpenStep} (heard : s.hearsL l) (opened : x.step? step = some o) : fwdAck l shard step stored status fp s.u =
    if status ≠ St.OK then (s.u.unbuddy k).gateCheck x.job
    else if o.state ≠ 1 then s.u
    else if o.last && o.stored stored then
      let u := (s.u.upOpen k step fun o => { o with state := 2, acked := stored, transit := [] }).writeB k step
      (if j.gated then u.gateCheck x.job else u.goSource k step 0).grantAll
    else s.u.upOpen k step fun o => { o with acked := max o.acked stored } := by
  rw [fwdAck, recvL_hears heard, withSh_holds bound, opened]

section
variable {o : OpenStep} (heard : s.hearsL l) (opened : x.step? step = some o)
include heard opened

theorem fwdAck_failed (bad : status ≠ St.OK) : fwdAck l shard step stored status fp s.u = (s.u.unbuddy k).gateCheck x.job :=
  (fwdAck_open bound heard opened).trans (if_pos bad)

variable (good : status = St.OK)
include good

theorem fwdAck_late (passed : o.state ≠ 1) : fwdAck l shard step stored status fp s.u = s.u :=
  (fwdAck_open bound heard opened).trans ((if_neg (· good)).trans (if_pos passed))

variable (mirrors : o.state = 1)
include mirrors

theorem fwdAck_whole (last : o.last = true) (whole : o.stored stored = true) : fwdAck l shard step stored status fp s.u =
    let u := (s.u.upOpen k step fun o => { o with state := 2, acked := stored, transit := [] }).writeB k step
    (if j.gated then u.gateCheck x.job else u.goSource k step 0).grantAll :=
  (fwdAck_open bound heard opened).trans ((if_neg (· good)).trans ((if_neg (· mirrors)).trans (if_pos (by simp [last, whole]))))

theorem fwdAck_counted (wait : o.last = false ∨ o.stored stored = false) : fwdAck l shard step stored status fp s.u =
    s.u.upOpen k step fun o => { o with acked := max o.acked stored } :=
  (fwdAck_open bound heard opened).trans ((if_neg (· good)).trans ((if_neg (· mirrors)).trans
    (if_neg (Bool.eq_false_iff.1 (Bool.and_eq_false_iff.2 wait)))))

end

theorem fwdAckWaitExpiry_notOpen (no : x.step? step = none) : fwdAckWaitExpiry shard step s.mem s.u = (s.mem, s.u) := by
  rw [fwdAckWaitExpiry, withSh_holds bound, no]

theorem fwdAckWaitExpiry_again {o : OpenStep} (opened : x.step? step = some o) (mirrors : o.state = 1) (buddied : x.prot = 0) :
    fwdAckWaitExpiry shard step s.mem s.u =
      (s.mem, o.again.foldl (fun u y => (u.sendBlk x.buddy 0x01 (inTransit s.mem u y)).count 0x600218) s.u) := by
  rw [fwdAckWaitExpiry, withSh_holds bound, opened]
  exact congrArg (Prod.mk s.mem) (if_neg (by simp [mirrors, buddied]))

theorem fwdAckWaitExpiry_idle {o : OpenStep} (opened : x.step? step = some o) (no : o.state ≠ 1 ∨ x.prot ≠ 0) :
    fwdAckWaitExpiry shard step s.mem s.u = (s.mem, s.u) := by
  rw [fwdAckWaitExpiry, withSh_holds bound, opened]
  exact congrArg (Prod.mk s.mem) (if_pos (by simpa using no))

end

/-! The apply gate (R20, R248, R249) -/

/-- The barrier completes the step that the job has entered. -/
def JobBind.gatePasses (j : JobBind) (step status : Nat) : Prop := j.entered = some step ∧ status = St.OK ∧ j.released < step

theorem JobBind.gatePasses_iff (j : JobBind) (step status : Nat) :
    (j.entered ≠ some step || status ≠ St.OK || step ≤ j.released) = false ↔ j.gatePasses step status := by
  simp only [JobBind.gatePasses, Bool.or_eq_false_iff, decide_eq_false_iff_not, ne_eq, Decidable.not_not, Nat.not_le, and_assoc]

section
variable {u : Units} {m : Mem} {job step status : Nat}

theorem gateBarrierComplete_noJob (noJob : u.jobB job = none) : gateBarrierComplete job step status m u = (m, u) := by
  rw [gateBarrierComplete, noJob]

theorem gateBarrierComplete_stays {j : JobBind} (bound : u.jobB job = some j) (no : ¬j.gatePasses step status) :
    gateBarrierComplete job step status m u = (m, u) := by
  rw [gateBarrierComplete, bound]
  exact if_pos (Bool.of_not_eq_false fun ok => no ((j.gatePasses_iff step status).1 ok))

/-- GATE_BARRIER_COMPLETE that passes the gate: the job's binding, APPLY_GO at the sources, the contexts' release, the buddies' go, and the next step. -/
theorem gateBarrierComplete_passes {j : JobBind} (bound : u.jobB job = some j) (passes : j.gatePasses step status) :
    gateBarrierComplete job step status m u =
      let ks := u.shardsOf job
      let u1 := u.upJob job fun j => { j with released := step, relTime := u.now, relEpoch := (ks.map fun k => (u.shAt k).epoch).foldl max 0 }
      let u2 := ks.foldl (fun u k => if (u.shAt k).isBuddy || ((u.shAt k).step? step).isNone then u else u.goSource k step u.now) u1
      let u3 := (u2.ctxsOf job).foldl (fun u x => if bitAt (NMap.getD (u.ig x.1).ctxCtl x.2 0) 1 then u.sendGo x.1 x.2 step else u) u2
      let r := ks.foldl (fun (a : Mem × Units) k =>
        if !(a.2.shAt k).isBuddy then (a.1, (a.2.spillSeed k step).awaitSeed k step) else goBuddy a.1 a.2 k step u3.now) (m, u3)
      (r.1, (ks.foldl (fun u k => u.grantStep k) r.2).gateCheck job) := by
  rw [gateBarrierComplete, bound]
  exact if_neg (Bool.eq_false_iff.1 ((j.gatePasses_iff step status).2 passes))

end

/-! The statement -/

/-- Settles O47: each clause is what its command's branch comes to, by the lemmas above. -/
theorem wickBindsAndMirrors : Obligations.WickBindsAndMirrors := by
  unfold Obligations.WickBindsAndMirrors
  intro s h l w c shard k x j
  refine ⟨?received, ?gradient, ?region, ?snapshot, ?record, ?commands, ?refused, ?enable, ?fwd, ?ack, ?expiry, ?gate⟩
  case received =>
    intro b con cls credit pick stale v seen
    obtain ⟨f, run⟩ := exec_block pick h b
    obtain rfl := Units.countStale_eq seen
    exact ⟨fun v' drop => run (recvBlock_dropped drop), fun pass =>
      ⟨fun bad => run (recvBlock_bad pass bad),
       fun sound left => run (recvBlock_noCredit pass sound left),
       fun sound left failed => run (recvBlock_stackFailed pass sound left failed)⟩⟩
  case gradient =>
    intro b heard bound u0 mine
    exact ⟨fun other => State.runWick_of_units (gradientBlock_mismatch heard bound other), fun mine =>
      ⟨fun crc => State.runWick_of_units (gradientBlock_damaged heard bound mine crc),
       fun crc data out => State.runWick_of_units (gradientBlock_outside heard bound mine crc data out),
       fun crc list => State.runWick_of_eq (gradientBlock_list heard bound mine crc list),
       fun crc data within => State.runWick_of_eq (gradientBlock_data heard bound mine crc data within)⟩⟩
  case region =>
    intro b heard bound u0 from_ no
    exact ⟨fun crc => State.runWick_of_units (regionBlock_badCrc heard bound crc), fun crc mode =>
      ⟨fun mine => State.runWick_of_eq (regionBlock_region heard bound crc mode mine),
       fun other => State.runWick_of_units (regionBlock_region_mismatch heard bound crc mode other)⟩, fun crc mode =>
      ⟨fun unasked => State.runWick_of_units (regionBlock_unasked heard bound crc mode unasked), fun n i got awaited =>
        ⟨fun other => State.runWick_of_units (regionBlock_seed_mismatch heard bound crc mode awaited other),
         fun step mine held => State.runWick_of_eq (regionBlock_awaited heard bound crc mode awaited step mine held),
         fun step mine spilled => State.runWick_of_eq (regionBlock_spilled heard bound crc mode awaited step mine spilled)⟩⟩⟩
  case snapshot =>
    intro b heard bound u0 mine
    exact ⟨fun other => State.runWick_of_units (snapshotBlock_mismatch heard bound other),
      fun mine crc => State.runWick_of_units (snapshotBlock_badCrc heard bound mine crc),
      fun mine crc => State.runWick_of_eq (snapshotBlock_forwarded heard bound mine crc)⟩
  case record =>
    intro r heard
    exact ⟨State.runUWick_of_eq (stepRecord_badCrc heard), fun bound =>
      ⟨fun other => State.runUWick_of_eq (stepRecord_stranger heard bound other), fun mine v went =>
        ⟨fun no => State.runUWick_of_eq (stepRecord_notDue heard bound mine (Units.passRecord_eq went) no),
         fun due => State.runUWick_of_eq (stepRecord_due heard bound mine (Units.passRecord_eq went) due)⟩⟩,
      fun unbound => State.runUWick_of_eq (stepRecord_unbound heard unbound)⟩
  case commands =>
    intro op
    refine ⟨?bindJob, ?bindShard, ?membership, ?noJob, ?unbind, ?snapshotNow, ?seed, ?unbound⟩
    case bindJob =>
      intro job mode comps prog key params fmts interval flags gateMs i good
      exact ⟨fun bad => State.runUWick_of_eq (wickBindJob_bad op bad), fun ok off => State.runUWick_of_eq (wickBindJob_off op ok off),
        fun ok on up => State.runUWick_of_eq (wickBindJob_binds op ok on up)⟩
    case bindShard =>
      intro job first params buddy roles i
      refine ⟨fun noJob => State.runUWick_of_eq (wickBindShard_noJob op noJob), fun bound =>
        ⟨fun bad => State.runUWick_of_eq (wickBindShard_bad op bound bad), fun ok =>
          ⟨fun v full => State.runUWick_of_eq (wickBindShard_full op bound ok full), fun v k entry v' went => ?_⟩⟩⟩
      obtain rfl := Units.loadFirst_eq went
      exact ⟨fun alone => State.runUWick_of_eq (wickBindShard_asks op bound ok entry alone),
        fun buddied pages => State.runUWick_of_eq (wickBindShard_waits op bound ok entry buddied pages),
        fun buddied ready => State.runUWick_of_eq (wickBindShard_done op bound ok entry buddied ready)⟩
    case membership =>
      intro job epoch count addr bound i good
      exact ⟨fun bad => State.runWick_of_units (wickMembership_bad op bound bad),
        fun ok closed => State.runWick_of_units (wickMembership_closed op bound ok closed),
        fun ok may => State.runWick_of_units (wickMembership_raises op bound ok may)⟩
    case noJob =>
      exact fun job noJob => ⟨State.runUWick_of_eq (wickUnbind_noJob op noJob), State.runUWick_of_eq (wickSnapshotNow_noJob op noJob)⟩
    case unbind =>
      intro job bound ss u1 u2 gone u3 u4
      exact ⟨fun no => State.runUWick_of_eq ((wickUnbind_job op bound).trans (if_neg no)),
        fun runs => State.runUWick_of_eq ((wickUnbind_job op bound).trans (if_pos runs))⟩
    case snapshotNow =>
      intro job bound
      exact ⟨fun buddy => State.runUWick_of_eq ((wickSnapshotNow_job op bound).trans (if_pos buddy)),
        fun none => State.runUWick_of_eq ((wickSnapshotNow_job op bound).trans (if_neg (by simp only [none, Bool.false_eq_true, not_false_iff])))⟩
    case seed =>
      intro job bound u1
      exact ⟨fun other => State.runUWick_of_eq (wickSeed_otherJob op bound other),
        fun same source => State.runUWick_of_eq (wickSeed_notBuddy op bound same source),
        fun same buddy next => State.runUWick_of_eq ((wickSeed_buddy op bound same buddy).trans (if_pos (by simpa using next))),
        fun same buddy released fresh => State.runUWick_of_eq ((wickSeed_buddy op bound same buddy).trans (if_neg (by simp [released, fresh])))⟩
    case unbound =>
      exact fun unbound job epoch count addr =>
        ⟨State.runWick_of_units (wickMembership_unbound op unbound), State.runUWick_of_eq (wickSeed_unbound op unbound)⟩
  case refused =>
    intro op job no
    exact ⟨fun _ _ _ _ _ _ _ _ _ => State.runUWick_of_eq (operator_refused op _ _ _), fun _ _ _ _ => State.runUWick_of_eq (operator_refused op _ _ _),
      fun _ _ _ => State.runWick_of_units (wickMembership_refused op), State.runUWick_of_eq (wickUnbind_refused op),
      State.runUWick_of_eq (operator_refused op _ _ _), State.runUWick_of_eq (operator_refused op _ _ _)⟩
  case enable =>
    exact ⟨fun may => State.runUWick_of_eq (wickEnableClear_drains may), fun no => State.runUWick_of_eq (wickEnableClear_ignored no)⟩
  case fwd =>
    intro b heard
    exact ⟨fun failed => State.runWick_of_units (fwdGradient_stackFailed heard failed), fun up bound =>
      ⟨fun no => State.runWick_of_units (fwdGradient_ignored heard up bound no),
       fun takes other => State.runWick_of_units (fwdGradient_stale heard up bound takes other),
       fun takes mine crc => State.runWick_of_units (fwdGradient_badCrc heard up bound takes mine crc), fun takes mine crc =>
        ⟨fun list => State.runWick_of_units (fwdGradient_list heard up bound takes mine crc rfl list), fun data =>
          ⟨fun quiet => State.runWick_of_eq (fwdGradient_quiet heard up bound takes mine crc rfl data rfl quiet),
           fun stays => State.runWick_of_eq (fwdGradient_data heard up bound takes mine crc rfl data rfl stays)⟩⟩⟩⟩
  case ack =>
    intro step stored status fp heard bound
    exact ⟨fun no => State.runUWick_of_eq (fwdAck_notOpen bound heard no), fun o opened =>
      ⟨fun bad => State.runUWick_of_eq (fwdAck_failed bound heard opened bad),
       fun good passed => State.runUWick_of_eq (fwdAck_late bound heard opened good passed), fun good mirrors last whole =>
        ⟨fun gated => State.runUWick_of_eq ((fwdAck_whole bound heard opened good mirrors last whole).trans (congrArg Units.grantAll (if_pos gated))),
         fun free => State.runUWick_of_eq ((fwdAck_whole bound heard opened good mirrors last whole).trans
          (congrArg Units.grantAll (if_neg (Bool.eq_false_iff.1 free))))⟩,
       fun good mirrors wait => State.runUWick_of_eq (fwdAck_counted bound heard opened good mirrors wait)⟩⟩
  case expiry =>
    intro step bound
    exact ⟨fun no => State.runWick_of_units (fwdAckWaitExpiry_notOpen bound no), fun o opened =>
      ⟨fun mirrors buddied => State.runWick_of_units (fwdAckWaitExpiry_again bound opened mirrors buddied),
       fun no => State.runWick_of_units (fwdAckWaitExpiry_idle bound opened no)⟩⟩
  case gate =>
    intro job step status
    exact ⟨fun noJob => State.runWick_of_units (gateBarrierComplete_noJob noJob), fun bound =>
      ⟨fun no => State.runWick_of_units (gateBarrierComplete_stays bound no),
       fun passes => State.runWick_of_eq (gateBarrierComplete_passes bound passes)⟩⟩

end Sys2Proof.Machine
end

section
/-!
PROOFS. Leases, takeovers and the witness protocol (02 R34 to R48): what each command, message and timer does, branch by branch, and the statement
about them.
-/
namespace Sys2Proof.Machine

/-! How a command ends -/

/-- A command on the units whose own effect leaves them at `u`. -/
theorem State.runU_of_eq {s : State} {f : Units → Units} {u : Units} (e : f s.u = u) : s.runU f = .next (s.after u) := e ▸ rfl

/-- The same for a command that reads the Mantle and leaves it as it was. -/
theorem State.run_of_units {s : State} {f : Mem → Units → Mem × Units} {u : Units} (e : f s.mem s.u = (s.mem, u)) : s.run f = .next (s.after u) := by
  rw [State.run, e]; rfl

/-! Asking for a lease, and its end at the holder (R34, R36, R37) -/

/-- The role's state once its lease is asked for under the next sequence. -/
def RoleSt.asking (r : RoleSt) : RoleSt := { r with reqSeq := wrapW 32 (r.reqSeq + 1), waiting := true }

/-- This T3 asks for the lease: as a holder whose outputs run, or as a candidate at start. -/
def Units.asks (u : Units) (role : Nat) : Prop :=
  ((u.roleOf role).holding = true ∧ (u.roleOf role).stopped = false) ∨ u.mayStart (u.roleOf role) = true

section
variable {u : Units} {role : Nat}

theorem Units.not_asks_iff :
    (!((u.roleOf role).holding && !(u.roleOf role).stopped) && !(u.mayStart (u.roleOf role))) = true ↔ ¬u.asks role := by
  simp only [Units.asks, not_or, Bool.and_eq_true, Bool.not_eq_true', Bool.and_eq_false_imp, Bool.not_eq_false', not_and, Bool.not_eq_false,
    Bool.not_eq_true]

theorem leaseRenewTimer_asks (asks : u.asks role) :
    leaseRenewTimer role u = (u.setRole role (u.roleOf role).asking).askLease role (wrapW 32 ((u.roleOf role).reqSeq + 1)) :=
  if_neg fun no => Units.not_asks_iff.1 no asks

theorem leaseRenewTimer_idle (no : ¬u.asks role) : leaseRenewTimer role u = u := if_pos (Units.not_asks_iff.2 no)

theorem leaseRetryTimer_repeats (open_ : ((u.roleOf role).holding = true ∨ u.mayStart (u.roleOf role) = true) ∧ (u.roleOf role).waiting = true) :
    leaseRetryTimer role u = u.askLease role (u.roleOf role).reqSeq :=
  if_pos (by simpa using open_)

theorem leaseRetryTimer_idle (no : ¬(((u.roleOf role).holding = true ∨ u.mayStart (u.roleOf role) = true) ∧ (u.roleOf role).waiting = true)) :
    leaseRetryTimer role u = u :=
  if_neg (by simpa using no)

theorem holderLeaseExpiry_idle (no : (u.roleOf role).holding = false) : holderLeaseExpiry role u = u := if_pos (by simp [no])

theorem holderLeaseExpiry_stops (holds : (u.roleOf role).holding = true) : holderLeaseExpiry role u =
    (u.setRole role { u.roleOf role with
      holding := false, stopped := true, handing := false, rebuilding := false, leased := false, waiting := false, ready := false }).rejoin role :=
  if_neg (by simp [holds])

end

/-! Requests at the witness (R34, R36, R38, R41, R48) -/

/-- A stored grant of kind `k` waits for the standby's acknowledgement. -/
theorem any_kind_iff (l : List StoreOut) (k : Nat) : (l.any fun x => x.kind = k) = true ↔ ∃ x ∈ l, x.kind = k := by
  simp only [List.any_eq_true, decide_eq_true_eq]

section
variable {s : State} {l : Sys2Proof.LHdr} {role epoch wepoch : Nat} (judges : s.judges l role wepoch)
include judges

section
variable {seq : Nat}

theorem leaseRequest_first (free : (s.u.roleOf role).wHolder = 0) (first : s.u.firstCand (s.u.roleOf role) [] = some l.src) :
    leaseRequest l role epoch wepoch seq s.u =
      (s.u.setRole role { s.u.roleOf role with
        pilot := (s.u.firstCand (s.u.roleOf role) [l.src, (s.u.roleOf role).witness, (s.u.roleOf role).standby]).getD 0 }).store
          role 0 ((s.u.roleOf role).epoch + 1) l.src seq :=
  (atWitness_judges judges _ _).trans ((if_pos free).trans (if_pos first))

theorem leaseRequest_notFirst (free : (s.u.roleOf role).wHolder = 0) (other : s.u.firstCand (s.u.roleOf role) [] ≠ some l.src) :
    leaseRequest l role epoch wepoch seq s.u = s.u.sendLease role l.src 3 (s.u.roleOf role).epoch seq :=
  (atWitness_judges judges _ _).trans ((if_pos free).trans (if_neg other))

variable (held : (s.u.roleOf role).wHolder ≠ 0)
include held

theorem leaseRequest_refused (no : (s.u.roleOf role).wHolder ≠ l.src ∨ ∃ x ∈ (s.u.roleOf role).stores, x.kind = 1) :
    leaseRequest l role epoch wepoch seq s.u = s.u.sendLease role l.src 3 (s.u.roleOf role).epoch seq :=
  (atWitness_judges judges _ _).trans ((if_neg held).trans (if_pos (by simpa using no)))

variable (mine : (s.u.roleOf role).wHolder = l.src) (untaken : ¬∃ x ∈ (s.u.roleOf role).stores, x.kind = 1)
include mine untaken

/-- The holder's own request is stored; one during its hand-back ends the hand-back. -/
theorem leaseRequest_holder : leaseRequest l role epoch wepoch seq s.u =
    if ((s.u.roleOf role).stores.any fun x => x.kind = 2) = true then
      (s.u.setRole role { s.u.roleOf role with stores := (s.u.roleOf role).stores.filter fun x => x.kind ≠ 2 }).store
        role 0 ((s.u.roleOf role).epoch + 2) l.src seq
    else s.u.store role 0 (s.u.roleOf role).epoch l.src seq :=
  (atWitness_judges judges _ _).trans ((if_neg held).trans (if_neg (by simpa [mine] using untaken)))

end

theorem leaseRelease_home {c : Nat} (home : (s.u.roleOf role).cands.head? = some c) (mine : l.src = (s.u.roleOf role).wHolder)
    (now : epoch = (s.u.roleOf role).epoch) :
    leaseRelease l role epoch wepoch s.u = s.u.store role 2 ((s.u.roleOf role).epoch + 1) c 0 := by
  refine (atWitness_judges judges _ _).trans ?_
  simp only [home]
  exact if_pos (by simp [mine, now])

theorem leaseRelease_ignored (no : (s.u.roleOf role).cands.head? = none ∨ l.src ≠ (s.u.roleOf role).wHolder ∨ epoch ≠ (s.u.roleOf role).epoch) :
    leaseRelease l role epoch wepoch s.u = s.u := by
  refine (atWitness_judges judges _ _).trans ?_
  cases home : (s.u.roleOf role).cands.head? with
  | none => simp only [home]
  | some c =>
    simp only [home]
    rcases no with no | no
    · simp [no] at home
    · refine if_neg fun home => ?_
      simp only [Bool.and_eq_true, decide_eq_true_eq] at home
      exact no.elim (· home.1) (· home.2)

section
variable {ready pilot : Nat}

/-- The witness's units once it knows that `pilot` asks for takeover. -/
def Units.takeoverAsked (u : Units) (role ready pilot : Nat) : Units :=
  u.setRole role { u.roleOf role with wAsking := some pilot, wPilotReady := decide (ready = 1) }

theorem takeoverRequest_notYet (leased : (s.u.roleOf role).wLeased = true) : takeoverRequest l role epoch ready wepoch pilot s.u =
    (s.u.takeoverAsked role ready pilot).answerL l.src 0x32 l.seq 24 (roleLevel role)
      [role, (s.u.roleOf role).epoch, 2, 0, (s.u.roleOf role).wepoch, pilot] :=
  (atWitness_judges judges _ _).trans (if_pos leased)

variable (ended : (s.u.roleOf role).wLeased = false)
include ended

theorem takeoverRequest_stored (asked : ∃ x ∈ (s.u.roleOf role).stores, x.kind = 1) :
    takeoverRequest l role epoch ready wepoch pilot s.u = s.u.takeoverAsked role ready pilot :=
  (atWitness_judges judges _ _).trans ((if_neg (by simp [ended])).trans (if_pos ((any_kind_iff _ _).2 asked)))

theorem takeoverRequest_stores (no : ¬∃ x ∈ (s.u.roleOf role).stores, x.kind = 1) : takeoverRequest l role epoch ready wepoch pilot s.u =
    (s.u.takeoverAsked role ready pilot).store role 1 ((s.u.roleOf role).epoch + 1) pilot 0 :=
  (atWitness_judges judges _ _).trans ((if_neg (by simp [ended])).trans (if_neg fun asked => no ((any_kind_iff _ _).1 asked)))

end

end

/-! The end of a lease at the witness (R38, R41) -/

/-- This T3 judges the role, and its lease runs. -/
def Units.leaseEnds (u : Units) (role : Nat) : Prop :=
  (u.self = (u.roleOf role).witness ∨ (u.roleOf role).acting = true) ∧ (u.roleOf role).wLeased = true

section
variable {u : Units} {role : Nat}

theorem Units.not_leaseEnds_iff :
    (!(u.self = (u.roleOf role).witness || (u.roleOf role).acting) || !(u.roleOf role).wLeased) = true ↔ ¬u.leaseEnds role := by
  simp only [Units.leaseEnds, ← Bool.not_and, Bool.not_eq_true', Bool.and_eq_false_imp, Bool.or_eq_true, decide_eq_true_eq, not_and,
    Bool.not_eq_true]

theorem witnessLeaseGuardExpiry_idle (no : ¬u.leaseEnds role) : witnessLeaseGuardExpiry role u = u := if_pos (Units.not_leaseEnds_iff.2 no)

variable (ends : u.leaseEnds role)
include ends

theorem witnessLeaseGuardExpiry_unasked (unasked : (u.roleOf role).wAsking = none) :
    witnessLeaseGuardExpiry role u = u.setRole role { u.roleOf role with wLeased := false } := by
  refine (if_neg fun no => Units.not_leaseEnds_iff.1 no ends).trans ?_
  simp only [unasked]

theorem witnessLeaseGuardExpiry_asked {p : Nat} (asked : (u.roleOf role).wAsking = some p) : witnessLeaseGuardExpiry role u =
    (u.setRole role { u.roleOf role with wLeased := false }).store role 1 ((u.roleOf role).epoch + 1) p 0 := by
  refine (if_neg fun no => Units.not_leaseEnds_iff.1 no ends).trans ?_
  simp only [asked]

end

/-! Messages of the witness protocol (R34, R37, R38, R41, R42) -/

/-- The units once a message has brought the role's witness epoch. -/
def Units.atWepoch (u : Units) (role wepoch : Nat) : Units := u.upRole role fun r => { r with wepoch := wepoch }

section
variable {s : State} {l : Sys2Proof.LHdr} {role epoch wepoch : Nat} (heard : s.hearsWit l role wepoch)
include heard

theorem recvWit_atWepoch (cls : Nat) (f : Units → Units) : s.u.recvWit l cls role wepoch f = f (s.u.atWepoch role wepoch) :=
  recvWit_hears heard cls f

section
variable {seq lease holder : Nat}

/-- The grant is for this T3, and grants a lease. -/
def Units.granted (u : Units) (lease holder : Nat) : Prop := holder = u.self ∧ lease ≠ 0

omit heard in
theorem Units.not_granted_iff {u : Units} : (holder ≠ u.self || lease = 0) = true ↔ ¬u.granted lease holder := by
  simp only [Units.granted, Bool.or_eq_true, decide_eq_true_eq, Decidable.not_and_iff_not_or_not, ne_eq, Decidable.not_not]

/-- A grant of the epoch at which this T3 holds the role, its outputs running, renews its lease. -/
def Units.renews (u : Units) (role epoch : Nat) : Prop :=
  (u.roleOf role).holding = true ∧ (u.roleOf role).stopped = false ∧ epoch = (u.roleOf role).epoch

omit heard in
theorem Units.renews_iff {u : Units} :
    ((u.roleOf role).holding && !(u.roleOf role).stopped && epoch = (u.roleOf role).epoch) = true ↔ u.renews role epoch := by
  simp only [Units.renews, Bool.and_eq_true, Bool.not_eq_true', decide_eq_true_eq, and_assoc]

theorem leaseGrant_notMine (no : ¬(s.u.atWepoch role wepoch).granted lease holder) :
    leaseGrant l role epoch wepoch seq lease holder s.u = s.u.atWepoch role wepoch :=
  (recvWit_atWepoch heard _ _).trans (if_pos (Units.not_granted_iff.2 no))

variable (mine : (s.u.atWepoch role wepoch).granted lease holder)
include mine

section
variable (renews : (s.u.atWepoch role wepoch).renews role epoch)
include renews

theorem leaseGrant_renews (waits : ((s.u.atWepoch role wepoch).roleOf role).waiting = true)
    (asked : seq = ((s.u.atWepoch role wepoch).roleOf role).reqSeq) : leaseGrant l role epoch wepoch seq lease holder s.u =
      (s.u.atWepoch role wepoch).setRole role { (s.u.atWepoch role wepoch).roleOf role with waiting := false, leased := true } :=
  (recvWit_atWepoch heard _ _).trans ((if_neg fun no => Units.not_granted_iff.1 no mine).trans ((if_pos (Units.renews_iff.2 renews)).trans
    (if_pos (Bool.and_eq_true_iff.2 ⟨waits, decide_eq_true asked⟩))))

theorem leaseGrant_late (late : ((s.u.atWepoch role wepoch).roleOf role).waiting = false ∨
    seq ≠ ((s.u.atWepoch role wepoch).roleOf role).reqSeq) :
    leaseGrant l role epoch wepoch seq lease holder s.u = s.u.atWepoch role wepoch := by
  refine (recvWit_atWepoch heard _ _).trans ((if_neg fun no => Units.not_granted_iff.1 no mine).trans
    ((if_pos (Units.renews_iff.2 renews)).trans (if_neg fun open_ => ?_)))
  obtain ⟨waits, asked⟩ := Bool.and_eq_true_iff.1 open_
  exact late.elim (Bool.eq_false_iff.1 · waits) (· (of_decide_eq_true asked))

end

variable (other : ¬(s.u.atWepoch role wepoch).renews role epoch)
include other

theorem leaseGrant_becomes (further : ((s.u.atWepoch role wepoch).roleOf role).epoch < epoch) (free : (s.u.atWepoch role wepoch).freeFor role = true) :
    leaseGrant l role epoch wepoch seq lease holder s.u =
      (((s.u.atWepoch role wepoch).becomeHolder role epoch).later (.roleReady role)).drainQueue role :=
  (recvWit_atWepoch heard _ _).trans ((if_neg fun no => Units.not_granted_iff.1 no mine).trans ((if_neg fun r => other (Units.renews_iff.1 r)).trans
    (if_pos (Bool.and_eq_true_iff.2 ⟨decide_eq_true further, free⟩))))

theorem leaseGrant_ignored (no : epoch ≤ ((s.u.atWepoch role wepoch).roleOf role).epoch ∨ (s.u.atWepoch role wepoch).freeFor role = false) :
    leaseGrant l role epoch wepoch seq lease holder s.u = s.u.atWepoch role wepoch := by
  refine (recvWit_atWepoch heard _ _).trans ((if_neg fun no => Units.not_granted_iff.1 no mine).trans
    ((if_neg fun r => other (Units.renews_iff.1 r)).trans (if_neg fun takes => ?_)))
  obtain ⟨further, free⟩ := Bool.and_eq_true_iff.1 takes
  exact no.elim (Nat.not_le.2 (of_decide_eq_true further)) (Bool.eq_false_iff.1 · free)

end

/-- A candidate that asked at its start finds the role in force at a higher epoch. -/
def Units.findsHolder (u : Units) (role epoch : Nat) : Prop :=
  (u.roleOf role).holding = false ∧ (u.roleOf role).waiting = true ∧ (u.roleOf role).epoch < epoch

omit heard in
theorem Units.findsHolder_iff {u : Units} :
    (!(u.roleOf role).holding && (u.roleOf role).waiting && (u.roleOf role).epoch < epoch) = true ↔ u.findsHolder role epoch := by
  simp only [Units.findsHolder, Bool.and_eq_true, Bool.not_eq_true', decide_eq_true_eq, and_assoc]

theorem leaseRefuse_pilot (finds : (s.u.atWepoch role wepoch).findsHolder role epoch) : leaseRefuse l role epoch wepoch s.u =
    ((s.u.atWepoch role wepoch).setRole role { (s.u.atWepoch role wepoch).roleOf role with
      epoch := epoch, waiting := false, pilot := (s.u.atWepoch role wepoch).self, ready := false }).rejoin role :=
  (recvWit_atWepoch heard _ _).trans (if_pos (Units.findsHolder_iff.2 finds))

theorem leaseRefuse_leaves (no : ¬(s.u.atWepoch role wepoch).findsHolder role epoch) :
    leaseRefuse l role epoch wepoch s.u = s.u.atWepoch role wepoch :=
  (recvWit_atWepoch heard _ _).trans (if_neg fun finds => no (Units.findsHolder_iff.1 finds))

theorem witnessStore_stores {holder expiry seq : Nat} : witnessStore l wepoch role epoch holder expiry seq s.u =
    ((s.u.atWepoch role wepoch).upRole role fun r =>
      { r with acting := false, wHolder := holder, holder := holder, epoch := epoch, wExpiry := expiry, wLeased := true }).sendL
        l.src 0x33 1 l.seq 32 (roleLevel role) [1, wepoch, role, epoch, holder, expiry, seq] :=
  recvWit_atWepoch heard _ _

section
variable {seq : Nat}

theorem witnessStoreAck_grants {x : StoreOut} (stored : (((s.u.atWepoch role wepoch).roleOf role).stores.find? fun x => x.seq = seq) = some x) :
    witnessStoreAck l wepoch role epoch seq s.u =
      ((s.u.atWepoch role wepoch).setRole role { (s.u.atWepoch role wepoch).roleOf role with
        stores := ((s.u.atWepoch role wepoch).roleOf role).stores.filter fun x => x.seq ≠ seq }).grant role x := by
  refine (recvWit_atWepoch heard _ _).trans ?_
  simp only [stored]

theorem witnessStoreAck_unknown (unknown : (((s.u.atWepoch role wepoch).roleOf role).stores.find? fun x => x.seq = seq) = none) :
    witnessStoreAck l wepoch role epoch seq s.u = s.u.atWepoch role wepoch := by
  refine (recvWit_atWepoch heard _ _).trans ?_
  simp only [unknown]

end

/-- The units of a pilot that takes the role over at `epoch` (R38, R44, R47): at once where it was ready, else once it has rebuilt its state. -/
def Units.takeOver (u : Units) (role epoch : Nat) : Units :=
  let r := u.roleOf role
  let np := (u.nextCand r.cands [r.holder, r.witness, r.standby]).getD 0
  let v := ((u.setRole role { r with pilot := np }).becomeHolder role epoch).upRole role fun x => { x with rebuilding := !r.ready, imaging := true }
  let v := (if r.ready = true then v else v.rebuild role).raise Ev.ROLE_TAKEOVER (roleLevel role) 0x000 (payloadOf [(0, 4, role), (4, 1, b2n r.ready)])
  let v := if np = 0 then v else v.appoint role
  if r.ready = true then (v.later (.roleReady role)).drainQueue role else v

section
variable {pilot : Nat}

/-- This T3 is the pilot granted a further epoch, and holds no other role (R35). -/
def Units.takesOver (u : Units) (role epoch pilot : Nat) : Prop :=
  pilot = u.self ∧ (u.roleOf role).epoch < epoch ∧ u.freeFor role = true

omit heard in
theorem Units.not_takesOver_iff {u : Units} :
    (pilot ≠ u.self || epoch ≤ (u.roleOf role).epoch || !u.freeFor role) = true ↔ ¬u.takesOver role epoch pilot := by
  simp only [Units.takesOver, Bool.or_eq_true, decide_eq_true_eq, Bool.not_eq_true', Decidable.not_and_iff_not_or_not, ne_eq, Nat.not_lt,
    Bool.not_eq_true, or_assoc]

theorem takeoverGrant_ignored (no : ¬(s.u.atWepoch role wepoch).takesOver role epoch pilot) :
    takeoverGrant l role epoch wepoch pilot s.u = s.u.atWepoch role wepoch :=
  (recvWit_atWepoch heard _ _).trans (if_pos (Units.not_takesOver_iff.2 no))

variable (takes : (s.u.atWepoch role wepoch).takesOver role epoch pilot)
include takes

/-- A new warden probes the T3 that held the role (R30), and a new keeper agrees new keys (R52). -/
theorem takeoverGrant_takes : takeoverGrant l role epoch wepoch pilot s.u =
    let v := s.u.atWepoch role wepoch
    let w := v.takeOver role epoch
    let old := (v.roleOf role).holder
    if roleLevel role = 3 && old ≠ 0 then (w.upWatch old fun x => { x with misses := 5, probing := true }).reqL old 0x41 16 3 [0]
    else if roleLevel role = 4 then (w.upR fun x => { x with keks := [] }).reqAll (w.scopeOf role) 0x3C 208 4 [5, 0, 192]
    else w :=
  (recvWit_atWepoch heard _ _).trans (if_neg fun no => Units.not_takesOver_iff.1 no takes)

end

end

/-! Timers of the witness, the standby, the pilot and the holder (R38, R41, R42, R43, R44) -/

section
variable {u : Units} {role : Nat}

/-- This T3 is the role's witness, and has a standby to send its heartbeat to. -/
def Units.beats (u : Units) (role : Nat) : Prop := (u.roleOf role).witness = u.self ∧ u.self ≠ 0 ∧ (u.roleOf role).standby ≠ 0

theorem Units.beats_iff :
    ((u.roleOf role).witness = u.self && u.self ≠ 0 && (u.roleOf role).standby ≠ 0) = true ↔ u.beats role := by
  simp only [Units.beats, Bool.and_eq_true, decide_eq_true_eq, and_assoc]

theorem witnessHbSend_beats (beats : u.beats role) : witnessHbSend role u =
    u.reqL (u.roleOf role).standby 0x33 32 (roleLevel role) [2, (u.roleOf role).wepoch, role, (u.roleOf role).epoch, (u.roleOf role).wHolder,
      (u.roleOf role).wExpiry, (u.roleOf role).storeSeq] :=
  if_pos (Units.beats_iff.2 beats)

theorem witnessHbSend_idle (no : ¬u.beats role) : witnessHbSend role u = u := if_neg fun beats => no (Units.beats_iff.1 beats)

theorem standbySilenceExpiry_acts (standby : (u.roleOf role).standby = u.self) (quiet : (u.roleOf role).acting = false) :
    standbySilenceExpiry role u =
      (u.setRole role { u.roleOf role with acting := true, alone := true, wepoch := (u.roleOf role).wepoch + 1 }).raise
        Ev.ROLE_WITNESS_ALONE (roleLevel role) 0x000 role :=
  if_neg (by simp [standby, quiet])

theorem standbySilenceExpiry_idle (no : (u.roleOf role).standby ≠ u.self ∨ (u.roleOf role).acting = true) : standbySilenceExpiry role u = u :=
  if_pos (by simpa using no)

theorem pilotHbMiss_idle (no : (u.roleOf role).pilot ≠ u.self ∨ (u.roleOf role).holding = true) : pilotHbMiss role u = u :=
  if_pos (by simpa using no)

section
variable (pilot : (u.roleOf role).pilot = u.self) (waits : (u.roleOf role).holding = false)
include pilot waits

theorem pilotHbMiss_counts (early : (u.roleOf role).misses < 2 ∨ (u.roleOf role).asked = true) :
    pilotHbMiss role u = u.setRole role { u.roleOf role with misses := (u.roleOf role).misses + 1 } :=
  (if_neg (by simp [pilot, waits])).trans (if_pos (Bool.or_eq_true_iff.2 (early.imp_left fun few => decide_eq_true (by omega))))

theorem pilotHbMiss_asks (third : 2 ≤ (u.roleOf role).misses) (fresh : (u.roleOf role).asked = false) : pilotHbMiss role u =
    (u.setRole role { u.roleOf role with misses := (u.roleOf role).misses + 1, asked := true }).reqAll (u.roleOf role).judges 0x32 24 (roleLevel role)
      [role, (u.roleOf role).epoch, 0, b2n (u.roleOf role).ready, (u.roleOf role).wepoch, u.self] :=
  (if_neg (by simp [pilot, waits])).trans (if_neg (by simp [fresh, third]))

end

/-- This T3 holds the role and its outputs run. -/
def RoleSt.runs (r : RoleSt) : Prop := r.holding = true ∧ r.stopped = false

theorem RoleSt.runs_iff {r : RoleSt} : (r.holding && !r.stopped) = true ↔ r.runs := by
  simp only [RoleSt.runs, Bool.and_eq_true, Bool.not_eq_true']

theorem roleHbSend_alone (runs : (u.roleOf role).runs) (alone : (u.roleOf role).pilot = 0) : roleHbSend role u = u :=
  (if_pos (RoleSt.runs_iff.2 runs)).trans (if_pos alone)

theorem roleHbSend_holder (runs : (u.roleOf role).runs) (pilot : (u.roleOf role).pilot ≠ 0) : roleHbSend role u =
    u.reqL (u.roleOf role).pilot 0x31 24 (roleLevel role) [role, (u.roleOf role).epoch, 0, 0, (u.roleOf role).jpos] :=
  (if_pos (RoleSt.runs_iff.2 runs)).trans (if_neg pilot)

theorem roleHbSend_pilot (no : ¬(u.roleOf role).runs) (pilot : (u.roleOf role).pilot = u.self) (known : u.self ≠ 0) : roleHbSend role u =
    u.reqAll (u.roleOf role).judges 0x31 24 (roleLevel role) [role, (u.roleOf role).epoch, 1, b2n (u.roleOf role).ready, (u.roleOf role).jpos] :=
  (if_neg fun runs => no (RoleSt.runs_iff.1 runs)).trans (if_pos (by simp [pilot, known]))

theorem roleHbSend_idle (no : ¬(u.roleOf role).runs) (other : (u.roleOf role).pilot ≠ u.self ∨ u.self = 0) : roleHbSend role u = u := by
  refine (if_neg fun runs => no (RoleSt.runs_iff.1 runs)).trans (if_neg fun pilot => ?_)
  simp only [Bool.and_eq_true, decide_eq_true_eq] at pilot
  exact other.elim (· pilot.1) pilot.2

theorem roleRebuildDone_starts (rebuilds : (u.roleOf role).holding = true ∧ (u.roleOf role).rebuilding = true) : roleRebuildDone role u =
    ((u.setRole role { u.roleOf role with rebuilding := false }).later (.roleReady role)).drainQueue role :=
  if_pos (Bool.and_eq_true_iff.2 rebuilds)

theorem roleRebuildDone_idle (no : ¬((u.roleOf role).holding = true ∧ (u.roleOf role).rebuilding = true)) : roleRebuildDone role u = u :=
  if_neg fun rebuilds => no (Bool.and_eq_true_iff.1 rebuilds)

theorem roleVacantTimer_known (vacant : (u.roleOf role).vacant = true) : roleVacantTimer role u = u := if_pos vacant

theorem roleVacantTimer_marks (held : (u.roleOf role).vacant = false) : roleVacantTimer role u =
    (u.setRole role { u.roleOf role with vacant := true }).raise Ev.ROLE_VACANT (roleLevel role) 0x000 role :=
  if_neg (Bool.eq_false_iff.1 held)

end

/-! Messages of a lower epoch (R38, R42) -/

theorem recvRole_stale {s : State} {l : Sys2Proof.LHdr} {role epoch : Nat} (heard : s.hearsL l) (old : epoch < (s.u.roleOf role).epoch) (cls : Nat)
    (f : Units → Units) : s.u.recvRole l cls role epoch f = s.u.staleL l :=
  (recvL_hears heard _ _ _).trans (if_pos old)

theorem recvWit_stale {s : State} {l : Sys2Proof.LHdr} {role wepoch : Nat} (heard : s.hearsL l) (old : wepoch < (s.u.roleOf role).wepoch) (cls : Nat)
    (f : Units → Units) : s.u.recvWit l cls role wepoch f = s.u.staleL l :=
  (recvL_hears heard _ _ _).trans (if_pos old)

/-- Settles O53: each clause is what its command's branch comes to, by the lemmas above. -/
theorem leasesTakeoversAndWitnessesAct : Obligations.LeasesTakeoversAndWitnessesAct := by
  unfold Obligations.LeasesTakeoversAndWitnessesAct
  refine ⟨?acts, ?stale⟩
  case stale =>
    intro s l role epoch wepoch heard
    exact ⟨fun old => ⟨fun _ _ _ => State.runU_of_eq (recvRole_stale heard old _ _), fun _ _ _ => State.runU_of_eq (recvRole_stale heard old _ _),
      fun _ => State.runU_of_eq (recvRole_stale heard old _ _)⟩, fun old _ _ _ => State.runU_of_eq (recvWit_stale heard old _ _)⟩
  intro s l role epoch wepoch r asks
  refine ⟨fun h => State.runU_of_eq (leaseRenewTimer_asks h), fun no => State.runU_of_eq (leaseRenewTimer_idle no),
    fun h => State.runU_of_eq (leaseRetryTimer_repeats h), fun no => State.runU_of_eq (leaseRetryTimer_idle no),
    fun no => State.runU_of_eq (holderLeaseExpiry_idle no), fun h => State.runU_of_eq (holderLeaseExpiry_stops h),
    ?witness, ?guard, ?heard, fun seq => State.runU_of_eq rfl, ?beats,
    fun standby quiet => State.runU_of_eq (standbySilenceExpiry_acts standby quiet), fun no => State.runU_of_eq (standbySilenceExpiry_idle no),
    fun no => State.runU_of_eq (pilotHbMiss_idle no), ?misses, ?heartbeat,
    fun h => State.runU_of_eq (roleRebuildDone_starts h), fun no => State.runU_of_eq (roleRebuildDone_idle no),
    fun h => State.runU_of_eq (roleVacantTimer_known h), fun h => State.runU_of_eq (roleVacantTimer_marks h)⟩
  case witness =>
    intro judges
    refine ⟨?request, fun c home mine now => State.runU_of_eq (leaseRelease_home judges home mine now),
      fun no => State.runU_of_eq (leaseRelease_ignored judges no), ?takeover⟩
    case request =>
      intro seq refuse taken back
      exact ⟨fun free first => State.runU_of_eq (leaseRequest_first judges free first),
        fun free other => State.runU_of_eq (leaseRequest_notFirst judges free other),
        fun held no => State.runU_of_eq (leaseRequest_refused judges held no),
        fun held mine untaken back => State.runU_of_eq
          ((leaseRequest_holder judges held mine untaken).trans (if_pos ((any_kind_iff _ _).2 back))),
        fun held mine untaken no => State.runU_of_eq
          ((leaseRequest_holder judges held mine untaken).trans (if_neg fun back => no ((any_kind_iff _ _).1 back)))⟩
    case takeover =>
      intro ready pilot u1 asked
      exact ⟨fun leased => State.runU_of_eq (takeoverRequest_notYet judges leased),
        fun ended asked => State.runU_of_eq (takeoverRequest_stored judges ended asked),
        fun ended no => State.runU_of_eq (takeoverRequest_stores judges ended no)⟩
  case guard =>
    intro ends u1
    exact ⟨fun no => State.runU_of_eq (witnessLeaseGuardExpiry_idle no),
      fun ends none => State.runU_of_eq (witnessLeaseGuardExpiry_unasked ends none),
      fun p ends asked => State.runU_of_eq (witnessLeaseGuardExpiry_asked ends asked)⟩
  case heard =>
    intro heard u1 r1
    refine ⟨?grant, ?refuse, State.runU_of_eq (recvWit_hears heard _ _), State.runU_of_eq (recvWit_hears heard _ _),
      fun holder expiry seq => State.runU_of_eq (witnessStore_stores heard), ?ack, ?takeover⟩
    case grant =>
      intro seq lease holder mine renews
      exact ⟨fun no => State.runU_of_eq (leaseGrant_notMine heard no),
        fun mine renews waits asked => State.runU_of_eq (leaseGrant_renews heard mine renews waits asked),
        fun mine renews late => State.runU_of_eq (leaseGrant_late heard mine renews late),
        fun mine other further free => State.runU_of_eq (leaseGrant_becomes heard mine other further free),
        fun mine other no => State.runU_of_eq (leaseGrant_ignored heard mine other no)⟩
    case refuse =>
      exact ⟨fun late => State.runU_of_eq (leaseRefuse_pilot heard late), fun no => State.runU_of_eq (leaseRefuse_leaves heard no)⟩
    case ack =>
      intro seq mine
      exact ⟨fun x stored => State.runU_of_eq (witnessStoreAck_grants heard stored),
        fun unknown => State.runU_of_eq (witnessStoreAck_unknown heard unknown)⟩
    case takeover =>
      intro pilot takes np u2 u3 u4 u5
      exact ⟨fun no => State.runU_of_eq (takeoverGrant_ignored heard no),
        fun takes warden held => State.runU_of_eq ((takeoverGrant_takes heard takes).trans
          (if_pos (Bool.and_eq_true_iff.2 ⟨decide_eq_true warden, decide_eq_true held⟩))),
        fun takes keeper => State.runU_of_eq ((takeoverGrant_takes heard takes).trans ((if_neg (by simp [keeper])).trans (if_pos keeper))),
        fun takes other keeper => State.runU_of_eq ((takeoverGrant_takes heard takes).trans
          ((if_neg fun probes => other ((Bool.and_eq_true_iff.1 probes).imp of_decide_eq_true of_decide_eq_true)).trans (if_neg keeper)))⟩
  case beats =>
    exact ⟨fun beats => State.runU_of_eq (witnessHbSend_beats beats), fun no => State.runU_of_eq (witnessHbSend_idle no)⟩
  case misses =>
    intro pilot waits
    exact ⟨fun early => State.runU_of_eq (pilotHbMiss_counts pilot waits early),
      fun third fresh => State.runU_of_eq (pilotHbMiss_asks pilot waits third fresh)⟩
  case heartbeat =>
    exact ⟨fun runs alone => State.runU_of_eq (roleHbSend_alone runs alone), fun runs pilot => State.runU_of_eq (roleHbSend_holder runs pilot),
      fun no pilot known => State.runU_of_eq (roleHbSend_pilot no pilot known), fun no other => State.runU_of_eq (roleHbSend_idle no other)⟩

end Sys2Proof.Machine
end

section
/-!
PROOFS. Journals, role epochs, routes, standing orders, the warden's settings and the members' reports (02 R30, R31, R38, R44, R51, R55): what each
command, message and timer does, branch by branch, and the statement about them.
-/
namespace Sys2Proof.Machine

/-! Heartbeats, journals and role epochs (R38, R40, R44, R47) -/

section
variable {s : State} {l : Sys2Proof.LHdr} {role n : Nat} (heard : s.hearsRole l role n)
include heard

theorem roleHb_holder {ready jpos : Nat} : roleHb l role n 0 ready jpos s.u = s.u.setRole role { s.u.roleOf role with
    epoch := n, holder := l.src, misses := 0, asked := false,
    since := if (s.u.roleOf role).holder = l.src then (s.u.roleOf role).since else s.u.clk.mono } :=
  recvRole_hears heard _ _

theorem roleHb_pilot {sender ready jpos : Nat} (pilot : sender ≠ 0) : roleHb l role n sender ready jpos s.u =
    s.u.setRole role { s.u.roleOf role with pilot := l.src, wPilotReady := decide (ready = 1) } :=
  (recvRole_hears heard _ _).trans (if_neg pilot)

section
variable {pos : Nat} {entries : List (List Nat)}

theorem journal_image : journal l role n pos true entries s.u =
    s.u.setRole role { s.u.roleOf role with journal := entries, jpos := pos + entries.length, ready := false } :=
  recvRole_hears heard _ _

theorem journal_meets (meets : pos ≤ (s.u.roleOf role).jpos ∧ (s.u.roleOf role).jpos ≤ pos + entries.length) :
    journal l role n pos false entries s.u = s.u.setRole role { s.u.roleOf role with
      journal := (s.u.roleOf role).journal ++ entries.drop ((s.u.roleOf role).jpos - pos), jpos := pos + entries.length } :=
  (recvRole_hears heard _ _).trans ((if_neg Bool.false_ne_true).trans (if_pos (by simpa using meets)))

theorem journal_gap (gap : ¬(pos ≤ (s.u.roleOf role).jpos ∧ (s.u.roleOf role).jpos ≤ pos + entries.length)) :
    journal l role n pos false entries s.u = s.u.setRole role { s.u.roleOf role with ready := false } :=
  (recvRole_hears heard _ _).trans ((if_neg Bool.false_ne_true).trans (if_neg (by simpa using gap)))

end

section
variable {jpos fp status : Nat}

/-- The pilot answers whether its journal and the holder's have one fingerprint at one position. -/
theorem journalCheck_pilot (pilot : (s.u.roleOf role).holding = false) :
    let same := decide (jpos = (s.u.roleOf role).jpos) && decide (fp = (s.u.roleOf role).fingerprint)
    journalCheck l role n jpos fp status s.u =
      (s.u.setRole role { s.u.roleOf role with fp := (s.u.roleOf role).fingerprint, ready := same }).answerL l.src 0x35 l.seq 32 (roleLevel role)
        [role, (s.u.roleOf role).epoch, (s.u.roleOf role).jpos, (s.u.roleOf role).fingerprint, if same then St.OK else St.INTEGRITY_FINGERPRINT] :=
  (recvRole_hears heard _ _).trans (if_neg (Bool.eq_false_iff.1 pilot))

variable (holds : (s.u.roleOf role).holding = true)
include holds

theorem journalCheck_stranger (other : l.src ≠ (s.u.roleOf role).pilot) : journalCheck l role n jpos fp status s.u = s.u :=
  (recvRole_hears heard _ _).trans ((if_pos holds).trans (if_pos other))

variable (pilot : l.src = (s.u.roleOf role).pilot)
include pilot

theorem journalCheck_agrees (ok : status = St.OK) : journalCheck l role n jpos fp status s.u = s.u.setRole role { s.u.roleOf role with
    jok := max (s.u.roleOf role).jok jpos, pilotSince := some ((s.u.roleOf role).pilotSince.getD s.u.clk.mono) } :=
  (recvRole_hears heard _ _).trans ((if_pos holds).trans ((if_neg (not_not_intro pilot)).trans (if_pos ok)))

theorem journalCheck_differs (bad : status ≠ St.OK) : journalCheck l role n jpos fp status s.u =
    (s.u.setRole role { s.u.roleOf role with pilotSince := none }).sendJournal role l.src 0 1 :=
  (recvRole_hears heard _ _).trans ((if_pos holds).trans ((if_neg (not_not_intro pilot)).trans (if_neg bad)))

end

/-- A holder without a pilot takes the candidate `c`, which judges nothing of the role, as one (R47). -/
def RoleSt.takesPilot (r : RoleSt) (c : Nat) : Prop := r.holding = true ∧ r.pilot = 0 ∧ r.cands.contains c = true ∧ r.judges.contains c = false

omit heard in
theorem RoleSt.takesPilot_iff {r : RoleSt} {c : Nat} :
    (r.holding && r.pilot = 0 && r.cands.contains c && !r.judges.contains c) = true ↔ r.takesPilot c := by
  simp only [RoleSt.takesPilot, Bool.and_eq_true, decide_eq_true_eq, Bool.not_eq_true', and_assoc]

section
variable {holder : Nat}

theorem epoch_acknowledged (ack : lResp l = true) (takes : (s.u.roleOf role).takesPilot l.src) : Machine.epoch l role n holder s.u =
    ((s.u.setRole role { s.u.roleOf role with pilot := l.src }).appoint role).sendJournal role l.src 0 1 :=
  (recvRole_hears heard _ _).trans ((if_pos ack).trans (if_pos (RoleSt.takesPilot_iff.2 takes)))

theorem epoch_acknowledged_ignored (ack : lResp l = true) (no : ¬(s.u.roleOf role).takesPilot l.src) : Machine.epoch l role n holder s.u = s.u :=
  (recvRole_hears heard _ _).trans ((if_pos ack).trans (if_neg fun takes => no (RoleSt.takesPilot_iff.1 takes)))

/-- A member takes the epoch and its holder; this T3 stops as a holder of a lower epoch, and becomes pilot. -/
theorem epoch_announced (request : lResp l = false) :
    let r := s.u.roleOf role
    let was := (r.holding || r.stopped || r.holder = s.u.self) && r.epoch < n && holder ≠ s.u.self
    Machine.epoch l role n holder s.u = ((s.u.setRole role { r with
      epoch := n, holder := holder, vacant := false, holding := r.holding && !was, stopped := r.stopped || was, handing := r.handing && !was,
      rebuilding := r.rebuilding && !was, since := s.u.clk.mono, ready := r.ready && !was, pilot := if was then s.u.self else r.pilot }).answerL
        l.src 0x36 l.seq 16 (roleLevel role) [role, n, holder]).drainQueue role :=
  (recvRole_hears heard _ _).trans (if_neg (Bool.eq_false_iff.1 request))

end

end

/-- The holder's outputs run, and it has a pilot to check its journal with. -/
def RoleSt.checks (r : RoleSt) : Prop := r.holding = true ∧ r.stopped = false ∧ r.pilot ≠ 0

theorem RoleSt.checks_iff {r : RoleSt} : (r.holding && !r.stopped && r.pilot ≠ 0) = true ↔ r.checks := by
  simp only [RoleSt.checks, Bool.and_eq_true, Bool.not_eq_true', decide_eq_true_eq, and_assoc]

/-- The role's state with the fingerprint of its journal computed. -/
def RoleSt.printed (r : RoleSt) : RoleSt := { r with fp := r.fingerprint }

theorem journalCheckTimer_sends {u : Units} {role : Nat} (checks : (u.roleOf role).printed.checks) : journalCheckTimer role u =
    (u.setRole role (u.roleOf role).printed).reqL (u.roleOf role).pilot 0x35 32 (roleLevel role)
      [role, (u.roleOf role).epoch, (u.roleOf role).jpos, (u.roleOf role).fingerprint, St.OK] :=
  if_pos (RoleSt.checks_iff.2 checks)

theorem journalCheckTimer_computes {u : Units} {role : Nat} (no : ¬(u.roleOf role).printed.checks) :
    journalCheckTimer role u = u.setRole role (u.roleOf role).printed :=
  if_neg fun checks => no (RoleSt.checks_iff.1 checks)

/-! Routes (R51) -/

section
variable {s : State} {l : Sys2Proof.LHdr} {version : Nat} {entries : List RouteEntry} (heard : s.hearsFrom l s.u.role.keeperId)
include heard

theorem routeVersion_known (known : version ≤ s.u.role.routeVer) : routeVersion l version entries s.u = s.u :=
  (recvFrom_hears heard _ _ _).trans (if_pos known)

theorem routeVersion_next (next : version = s.u.role.routeVer + 1) : routeVersion l version entries s.u =
    (s.u.upR fun x => (x.apply version entries).catchUp x.routeWait.length).routed s.u.role.routes :=
  (recvFrom_hears heard _ _ _).trans ((if_neg (by omega)).trans (if_pos next))

theorem routeVersion_ahead (ahead : s.u.role.routeVer + 1 < version) : routeVersion l version entries s.u =
    (s.u.upR fun x => { x with routeWait := NMap.set x.routeWait version entries }).toRole s.u.role.keeperId 0x37 16
      [1, s.u.role.routeVer + 1, version - 1, 0] :=
  (recvFrom_hears heard _ _ _).trans ((if_neg (by omega)).trans (if_neg (by omega)))

end

theorem routeRequest_sends {s : State} {l : Sys2Proof.LHdr} {version last : Nat} (heard : s.hearsL l) (acts : s.u.actsAs s.u.role.keeperId = true) :
    routeRequest l version last s.u = (s.u.role.routeLog.filter fun p => version ≤ p.1 && p.1 ≤ last).foldl
      (fun u p => u.reqL l.src 0x37 (16 + 16 * p.2.length) 4 ([0, p.1, 0, p.2.length] ++ p.2.flatMap RouteEntry.words)) s.u :=
  (recvL_hears heard _ _ _).trans (if_neg (by simp [acts]))

theorem routeRequest_ignored {s : State} {l : Sys2Proof.LHdr} {version last : Nat} (heard : s.hearsL l) (no : s.u.actsAs s.u.role.keeperId = false) :
    routeRequest l version last s.u = s.u :=
  (recvL_hears heard _ _ _).trans (if_pos (by simp [no]))

/-! Standing orders (R55, R57) -/

/-- The answer to STANDING, at the level of the role that distributes the table. -/
def Units.answerStanding (u : Units) (l : Sys2Proof.LHdr) (level version scope status : Nat) : Units :=
  u.answerL l.src 0x38 l.seq 16 level [version, scope, status]

section
variable {s : State} {l : Sys2Proof.LHdr} {version scope pod status : Nat} {sigOk keyOp : Bool} {entries : List SoEntry} (heard : s.hearsL l)
include heard

/-- The answer of a T3 of the scope to the holder that distributes the table. -/
theorem standing_answer_holder (answer : lResp l = true) (holds : (s.u.roleOf (s.u.soRole scope)).holding = true) :
    standing l version scope pod status sigOk keyOp entries s.u = (s.u.upR fun x => { x with soWait := x.soWait.map fun w =>
      if w.version = version && w.scope = scope then
        { w with left := w.left.filter (· ≠ l.src), status := if w.status = St.OK then status else w.status }
      else w }).soEnd :=
  (recvL_hears heard _ _ _).trans ((if_pos answer).trans (if_pos holds))

theorem standing_answer_member (answer : lResp l = true) (member : (s.u.roleOf (s.u.soRole scope)).holding = false) :
    standing l version scope pod status sigOk keyOp entries s.u = s.u.soFinish scope version status :=
  (recvL_hears heard _ _ _).trans ((if_pos answer).trans (if_neg (Bool.eq_false_iff.1 member)))

variable (request : lResp l = false)
include request

section
variable (holds : (s.u.roleOf (s.u.soRole scope)).holding = true)
include holds

theorem standing_spreads (ok : soCheck (s.u.soTable scope).version version scope sigOk keyOp entries = St.OK)
    (acts : s.u.actsAs (s.u.soRole scope) = true) :
    standing l version scope pod status sigOk keyOp entries s.u = s.u.soSpread version scope pod (some (l.src, l.seq)) entries :=
  (recvL_hears heard _ _ _).trans ((if_neg (Bool.eq_false_iff.1 request)).trans ((if_pos holds).trans (if_pos (by simp [ok, acts]))))

theorem standing_holder_refuses (no : ¬(soCheck (s.u.soTable scope).version version scope sigOk keyOp entries = St.OK ∧
      s.u.actsAs (s.u.soRole scope) = true)) :
    standing l version scope pod status sigOk keyOp entries s.u = s.u.answerStanding l (roleLevel (s.u.soRole scope)) version scope
      (let st := soCheck (s.u.soTable scope).version version scope sigOk keyOp entries
       if st = St.OK then St.BUSY_RETRY else st) :=
  (recvL_hears heard _ _ _).trans ((if_neg (Bool.eq_false_iff.1 request)).trans ((if_pos holds).trans (if_neg (by simpa using no))))

end

section
variable (member : (s.u.roleOf (s.u.soRole scope)).holding = false)
include member

theorem standing_stale (known : (s.u.roleOf (s.u.soRole scope)).holder ≠ 0) (other : l.src ≠ (s.u.roleOf (s.u.soRole scope)).holder) :
    standing l version scope pod status sigOk keyOp entries s.u = s.u.staleL l :=
  (recvL_hears heard _ _ _).trans ((if_neg (Bool.eq_false_iff.1 request)).trans ((if_neg (Bool.eq_false_iff.1 member)).trans
    (if_pos (by simp [known, other]))))

/-- A T3 of the scope checks the table that the holder in force sends, takes one that passes, and answers. -/
theorem standing_member (from_ : (s.u.roleOf (s.u.soRole scope)).holder = 0 ∨ l.src = (s.u.roleOf (s.u.soRole scope)).holder) :
    standing l version scope pod status sigOk keyOp entries s.u =
      let st := soCheck (s.u.soTable scope).version version scope sigOk keyOp entries
      (if st = St.OK then s.u.soTake scope version entries else s.u).answerStanding l (roleLevel (s.u.soRole scope)) version scope st :=
  (recvL_hears heard _ _ _).trans ((if_neg (Bool.eq_false_iff.1 request)).trans ((if_neg (Bool.eq_false_iff.1 member)).trans
    (if_neg fun stale => by
      simp only [Bool.and_eq_true, decide_eq_true_eq] at stale
      exact from_.elim stale.1 stale.2)))

end

end

/-! Settings of the warden (R31, R39, R105, R119, R127, R138) -/

section
variable {s : State} {l : Sys2Proof.LHdr} {version : Nat} (heard : s.hearsFrom l s.u.role.wardenId)
include heard

/-- The units once a setting of the warden has brought its version. -/
def Units.atSetting (u : Units) (version : Nat) : Units := u.upR fun x => { x with setVer := version }

theorem fromWarden_hears (f : Units → Units) : s.u.fromWarden l version f = f (s.u.atSetting version) := recvFrom_hears heard _ _ _

section
variable {pairs : List (Nat × Nat)}

/-- The units with a new pairing table. -/
def Units.paired (u : Units) (version : Nat) (pairs : List (Nat × Nat)) : Units :=
  (u.atSetting version).upR fun x => { x with pairing := pairs.foldl (fun m p => NMap.set m p.1 p.2) [], pairVer := version }

theorem wardenSetPairing_unpaired (none : NMap.find (s.u.paired version pairs).role.pairing (s.u.paired version pairs).self = none) :
    wardenSetPairing l version pairs s.u = s.u.paired version pairs := by
  refine (fromWarden_hears heard _).trans ?_
  rw [Units.paired] at *
  simp only [none]

theorem wardenSetPairing_paired {b : Nat} (buddy : NMap.find (s.u.paired version pairs).role.pairing (s.u.paired version pairs).self = some b) :
    wardenSetPairing l version pairs s.u =
      let old := NMap.find s.u.role.pairing s.u.self
      if old = some b then s.u.paired version pairs else (s.u.paired version pairs).later (.newBuddy (old.getD 0) b) := by
  refine (fromWarden_hears heard _).trans ?_
  rw [Units.paired] at *
  simp only [buddy]
  rfl

end

section
variable {job shard buddyBytes stagingBytes : Nat}

/-- The pair of regions that a reservation takes: buddy and staging. -/
def Units.poolPair (u : Units) (job buddyBytes stagingBytes : Nat) : Option (Units × Option Nat × Option Nat) :=
  u.takePair (pooledRegion 2 job, buddyBytes) (pooledRegion 3 job, stagingBytes) (u.role.poolNo + 1)

/-- What waits for the pages of a reservation that `l` asks for. -/
def Units.poolWaiter (u : Units) (l : Sys2Proof.LHdr) (job shard : Nat) (buddy staging : Option Nat) : PoolWait :=
  { n := u.role.poolNo + 1, job := job, shard := shard, buddy := buddy, staging := staging, src := l.src, seq := l.seq, bind := none }

theorem wardenSetPooling_full (full : (s.u.atSetting version).poolPair job buddyBytes stagingBytes = none) :
    wardenSetPooling l version 0 job shard buddyBytes stagingBytes s.u =
      (s.u.atSetting version).tellL l.src 0x39 1 l.seq 44 3 [St.MANTLE_FULL, job, shard, (s.u.atSetting version).self] := by
  refine (fromWarden_hears heard _).trans ((if_pos rfl).trans ?_)
  rw [Units.poolPair] at full
  simp only [full]

theorem wardenSetPooling_reserves {v : Units} {i j : Nat}
    (pair : (s.u.atSetting version).poolPair job buddyBytes stagingBytes = some (v, some i, some j)) :
    wardenSetPooling l version 0 job shard buddyBytes stagingBytes s.u =
      v.reserved ((s.u.atSetting version).poolWaiter l job shard none none) i j := by
  refine (fromWarden_hears heard _).trans ((if_pos rfl).trans ?_)
  rw [Units.poolPair] at pair
  simp only [pair]
  rfl

theorem wardenSetPooling_waits {v : Units} {i j : Option Nat}
    (pair : (s.u.atSetting version).poolPair job buddyBytes stagingBytes = some (v, i, j)) (waits : i = none ∨ j = none) :
    wardenSetPooling l version 0 job shard buddyBytes stagingBytes s.u = v.upR fun x =>
      { x with poolNo := (s.u.atSetting version).role.poolNo + 1,
               poolWait := x.poolWait ++ [(s.u.atSetting version).poolWaiter l job shard i j] } := by
  refine (fromWarden_hears heard _).trans ((if_pos rfl).trans ?_)
  rw [Units.poolPair] at pair
  simp only [pair]
  rcases waits with rfl | rfl
  · rfl
  · cases i <;> rfl

end

end

/-! Reports of members (R31, R105, R112, R127) -/

section
variable {s : State} {l : Sys2Proof.LHdr} (heard : s.hearsL l)
include heard

theorem fromMember_unheld (none : s.u.heldRole = none) (f : Units → Units) : s.u.fromMember l f = s.u :=
  (recvL_hears heard _ _ _).trans (if_neg (by simp [none]))

variable (held : s.u.heldRole ≠ none)
include held

theorem fromMember_held (f : Units → Units) : s.u.fromMember l f = f s.u :=
  (recvL_hears heard _ _ _).trans (if_pos (Option.isSome_iff_ne_none.2 held))

omit heard held in
/-- A keeper that acts fences the positions of a failed T3 that are not fenced yet. -/
theorem Units.failPositions_fences {u : Units} {cid : Nat}
    (acts : u.actsAs u.role.keeperId = true ∧ (u.positionsOf cid).filter (fun e => !e.fenced) ≠ []) :
    let ps := (u.positionsOf cid).filter fun e => !e.fenced
    u.failPositions cid = ps.foldl (fun u e => u.later (.positionFailed e.cid (wrapW 16 (e.gen + 1))))
      (u.issueRoutes (ps.map fun (e : RouteEntry) => { e with fenced := true, gen := wrapW 16 (e.gen + 1) })) :=
  if_neg (by simpa using acts)

omit heard held in
theorem Units.failPositions_none {u : Units} {cid : Nat}
    (no : ¬(u.actsAs u.role.keeperId = true ∧ (u.positionsOf cid).filter (fun e => !e.fenced) ≠ [])) : u.failPositions cid = u := by
  refine if_pos ?_
  rw [Decidable.not_and_iff_not_or_not] at no
  simpa only [Bool.or_eq_true, Bool.not_eq_true', List.isEmpty_iff, Bool.not_eq_true, ne_eq, Decidable.not_not] using no

end

/-! Watching T3s (R30, R31) -/

section
variable {u : Units} {cid : Nat}

/-- What the warden keeps of a T3. -/
def Units.watchRec (u : Units) (cid : Nat) : T3Watch := NMap.getD u.role.watch cid T3Watch.reset

/-- This T3 holds the warden's role, and does not know the T3 as failed. -/
def Units.watches (u : Units) (cid : Nat) : Prop := (u.roleOf u.role.wardenId).holding = true ∧ (u.watchRec cid).failed = false

theorem Units.not_watches_iff : (!(u.roleOf u.role.wardenId).holding || (u.watchRec cid).failed) = true ↔ ¬u.watches cid := by
  simp only [Units.watches, Bool.or_eq_true, Bool.not_eq_true', Decidable.not_and_iff_not_or_not, Bool.not_eq_true, Bool.not_eq_false]

theorem wardenT3HbMiss_idle (no : ¬u.watches cid) : wardenT3HbMiss cid u = u := if_pos (Units.not_watches_iff.2 no)

section
variable (watches : u.watches cid)
include watches

theorem wardenT3HbMiss_counts (early : (u.watchRec cid).misses < 4 ∨ (u.watchRec cid).probing = true) :
    wardenT3HbMiss cid u = u.upWatch cid fun w => { w with misses := w.misses + 1 } :=
  (if_neg fun no => Units.not_watches_iff.1 no watches).trans
    (if_pos (Bool.or_eq_true_iff.2 (early.imp_left fun few => decide_eq_true (Nat.succ_lt_succ few))))

theorem wardenT3HbMiss_probes (fifth : 4 ≤ (u.watchRec cid).misses) (fresh : (u.watchRec cid).probing = false) : wardenT3HbMiss cid u =
    (u.upWatch cid fun w => { w with misses := w.misses + 1, probing := true }).reqL cid 0x41 16 2 [0] := by
  refine (if_neg fun no => Units.not_watches_iff.1 no watches).trans (if_neg fun early => ?_)
  rcases Bool.or_eq_true_iff.1 early with few | probing
  · exact absurd (of_decide_eq_true few) (Nat.not_lt.2 (Nat.succ_le_succ fifth))
  · exact Bool.eq_false_iff.1 fresh probing

end

/-- The warden acts, and its probe of the T3 is unanswered. -/
def Units.declares (u : Units) (cid : Nat) : Prop :=
  u.actsAs u.role.wardenId = true ∧ (u.watchRec cid).probing = true ∧ (u.watchRec cid).failed = false

theorem Units.not_declares_iff :
    (!u.actsAs u.role.wardenId || !(u.watchRec cid).probing || (u.watchRec cid).failed) = true ↔ ¬u.declares cid := by
  simp only [Units.declares, Bool.or_eq_true, Bool.not_eq_true', Decidable.not_and_iff_not_or_not, Bool.not_eq_true, Bool.not_eq_false, or_assoc]

theorem wardenProbeExpiry_declares (declares : u.declares cid) :
    let v := u.noteT3 cid fun w => { w with failed := true, probing := false }
    wardenProbeExpiry cid u = ((v.report v.role.keeperId 2 11 [cid, v.clk.sec * 2 ^ 30 + v.clk.ns]).rePlace cid).later (.t3Failed cid) :=
  if_neg fun no => Units.not_declares_iff.1 no declares

theorem wardenProbeExpiry_idle (no : ¬u.declares cid) : wardenProbeExpiry cid u = u := if_pos (Units.not_declares_iff.2 no)

end

/-- Settles O54: each clause is what its command's branch comes to, by the lemmas above. -/
theorem journalsRoutesOrdersAndWardenSetsAct : Obligations.JournalsRoutesOrdersAndWardenSetsAct := by
  unfold Obligations.JournalsRoutesOrdersAndWardenSetsAct
  intro s l role epoch
  refine ⟨?role, ?checkTimer, ?routeVersion, ?routeRequest, ?standing, ?settings, ?unheld, ?reports, ?watch⟩
  case role =>
    intro heard r
    refine ⟨fun _ _ => State.runU_of_eq (roleHb_holder heard), fun _ _ _ pilot => State.runU_of_eq (roleHb_pilot heard pilot),
      ?journal, ?check, ?epoch⟩
    case journal =>
      intro pos entries meets
      exact ⟨State.runU_of_eq (journal_image heard), fun meets => State.runU_of_eq (journal_meets heard meets),
        fun gap => State.runU_of_eq (journal_gap heard gap)⟩
    case check =>
      intro jpos fp status same
      exact ⟨fun pilot => State.runU_of_eq (journalCheck_pilot heard pilot),
        fun holds other => State.runU_of_eq (journalCheck_stranger heard holds other),
        fun holds pilot ok => State.runU_of_eq (journalCheck_agrees heard holds pilot ok),
        fun holds pilot bad => State.runU_of_eq (journalCheck_differs heard holds pilot bad)⟩
    case epoch =>
      intro holder takes was
      exact ⟨fun ack takes => State.runU_of_eq (epoch_acknowledged heard ack takes),
        fun ack no => State.runU_of_eq (epoch_acknowledged_ignored heard ack no),
        fun request => State.runU_of_eq (epoch_announced heard request)⟩
  case checkTimer =>
    exact ⟨fun sends => State.runU_of_eq (journalCheckTimer_sends sends), fun no => State.runU_of_eq (journalCheckTimer_computes no)⟩
  case routeVersion =>
    intro heard version entries
    exact ⟨fun known => State.runU_of_eq (routeVersion_known heard known), fun next => State.runU_of_eq (routeVersion_next heard next),
      fun ahead => State.runU_of_eq (routeVersion_ahead heard ahead)⟩
  case routeRequest =>
    intro heard version last
    exact ⟨fun acts => State.runU_of_eq (routeRequest_sends heard acts), fun no => State.runU_of_eq (routeRequest_ignored heard no)⟩
  case standing =>
    intro version scope pod status sigOk keyOp entries heard id r st answer
    refine ⟨fun ack holds => State.runU_of_eq (standing_answer_holder heard ack holds),
      fun ack member => State.runU_of_eq (standing_answer_member heard ack member), fun request holds => ?holder, fun request member => ?member⟩
    case holder =>
      exact ⟨fun ok acts => State.runU_of_eq (standing_spreads heard request holds ok acts),
        fun ok idle => State.runU_of_eq ((standing_holder_refuses heard request holds fun both => Bool.eq_false_iff.1 idle both.2).trans
          (congrArg (answer s.u) (if_pos ok))),
        fun bad => State.runU_of_eq ((standing_holder_refuses heard request holds fun both => bad both.1).trans (congrArg (answer s.u) (if_neg bad)))⟩
    case member =>
      refine ⟨fun known other => State.runU_of_eq (standing_stale heard request member known other), fun from_ => ⟨fun ok => ?_, fun bad => ?_⟩⟩
      · exact State.runU_of_eq ((standing_member heard request member from_).trans ((congrArg (answer · st) (if_pos ok)).trans (congrArg (answer _) ok)))
      · exact State.runU_of_eq ((standing_member heard request member from_).trans (congrArg (answer · st) (if_neg bad)))
  case settings =>
    intro heard version u1
    refine ⟨fun watts => State.runU_of_eq (fromWarden_hears heard _), fun duty => State.runU_of_eq (fromWarden_hears heard _), ?pairing,
      fun hops => State.runU_of_eq (fromWarden_hears heard _), ?reserve, ?withdraw⟩
    case pairing =>
      intro pairs u2 old
      exact ⟨fun none => State.runU_of_eq (wardenSetPairing_unpaired heard none), fun b buddy =>
        ⟨fun same => State.runU_of_eq ((wardenSetPairing_paired heard buddy).trans (if_pos same)),
         fun new => State.runU_of_eq ((wardenSetPairing_paired heard buddy).trans (if_neg new))⟩⟩
    case reserve =>
      intro job shard bb sb n w pair
      exact ⟨fun full => State.runU_of_eq (wardenSetPooling_full heard full),
        fun u2 i j pair => State.runU_of_eq (wardenSetPooling_reserves heard pair),
        fun u2 i j pair waits => State.runU_of_eq (wardenSetPooling_waits heard pair waits)⟩
    case withdraw =>
      exact fun op job shard bb sb withdraws => State.runU_of_eq ((fromWarden_hears heard _).trans (if_neg withdraws))
  case unheld =>
    intro heard none version
    exact ⟨fun _ => State.runU_of_eq (fromMember_unheld heard none _), fun _ _ => State.runU_of_eq (fromMember_unheld heard none _),
      fun _ _ _ _ => State.runU_of_eq (fromMember_unheld heard none _), fun _ _ => State.runU_of_eq (fromMember_unheld heard none _),
      fun _ _ => State.runU_of_eq (fromMember_unheld heard none _)⟩
  case reports =>
    intro heard held version
    refine ⟨fun pages => State.runU_of_eq (fromMember_held heard held _), fun stks pages => State.runU_of_eq (fromMember_held heard held _),
      fun a f r m => State.runU_of_eq (fromMember_held heard held _), ?failed, ?rejoined⟩
    case failed =>
      intro cid time u1 ps acts u2
      exact ⟨fun acts => State.runU_of_eq ((fromMember_held heard held _).trans (Units.failPositions_fences acts)),
        fun no => State.runU_of_eq ((fromMember_held heard held _).trans (Units.failPositions_none no))⟩
    case rejoined =>
      intro cid gen u1 e
      exact ⟨fun acts => State.runU_of_eq ((fromMember_held heard held _).trans (if_pos acts)),
        fun no => State.runU_of_eq ((fromMember_held heard held _).trans (if_neg (Bool.eq_false_iff.1 no)))⟩
  case watch =>
    intro cid w watches
    exact ⟨fun no => State.runU_of_eq (wardenT3HbMiss_idle no), fun watches early => State.runU_of_eq (wardenT3HbMiss_counts watches early),
      fun watches fifth fresh => State.runU_of_eq (wardenT3HbMiss_probes watches fifth fresh),
      fun declares => State.runU_of_eq (wardenProbeExpiry_declares declares), fun no => State.runU_of_eq (wardenProbeExpiry_idle no)⟩

end Sys2Proof.Machine
end

section
/-!
PROOFS. Waits, fault notices and the heartbeats of the T3s (12 R294 to R299, R307, R308; 02 R30): what each message and timer does, branch by branch,
and the statement about them.
-/
namespace Sys2Proof.Machine

/-! WAITFOR_REPLY (R66, R296, R297) -/

/-- The reply's count agrees with its length and its edges (R66). -/
def waitReplySound (count len : Nat) (edges : List Sys2Proof.WaitEdge) : Prop := len = 8 + 16 * count ∧ edges.length = count ∧ len ≤ 4128

theorem not_waitReplySound_iff {count len : Nat} {edges : List Sys2Proof.WaitEdge} :
    (len ≠ 8 + 16 * count || edges.length ≠ count || 4128 < len) = true ↔ ¬waitReplySound count len edges := by
  simp only [waitReplySound, Bool.or_eq_true, decide_eq_true_eq, Decidable.not_and_iff_not_or_not, ne_eq, Nat.not_le, or_assoc]

/-- What is kept of a context once its reply has come. -/
def Units.repliedWatch (u : Units) (p : Nat) (edges : List Sys2Proof.WaitEdge) (w : Watch) : Watch :=
  { w with edges := (edges.take 8).map fun e => { e with tag := (u.ig p).opTag e.tag }, replyAt := u.clk.mono, replied := true, query := false }

/-- The units once a reply is kept, which answers what waited for it. -/
def Units.keepReply (u : Units) (p c : Nat) (edges : List Sys2Proof.WaitEdge) (w : Watch) : Units :=
  u.upWatchE p c fun _ => { u.repliedWatch p edges w with waiting := [] }

section
variable {s : State} {h : Sys2Proof.SHdr} {count len : Nat} {edges : List Sys2Proof.WaitEdge}

theorem waitforReply_unsound (bad : ¬waitReplySound count len edges) : waitforReply h count len edges s.u = s.u.msgUnknown h.port :=
  if_pos (not_waitReplySound_iff.2 bad)

variable (sound : waitReplySound count len edges) (heard : s.hears h 0x12)
include sound heard

theorem waitforReply_unwatched (unwatched : s.u.watchOf h.port h.ctx = none) : waitforReply h count len edges s.u = s.u := by
  refine (if_neg fun bad => not_waitReplySound_iff.1 bad sound).trans ((recvS_hears heard _).trans ?_)
  simp only [unwatched]

/-- The reply of a watched context; a stalled one starts a probe of its own and carries on those that waited. -/
theorem waitforReply_watched {w : Watch} (watched : s.u.watchOf h.port h.ctx = some w) : waitforReply h count len edges s.u =
    let w' := s.u.repliedWatch h.port edges w
    let u1 := s.u.keepReply h.port h.ctx edges w
    let id := u1.vig.probeId + 1
    if !w.stalled then u1
    else w'.waiting.foldl (fun u x => u.extend x.1 x.2.1 w'.job x.2.2 h.port h.ctx w')
      ((u1.upV fun v => { v with probeId := id }).extend u1.self id w'.job [] h.port h.ctx w') := by
  refine (if_neg fun bad => not_waitReplySound_iff.1 bad sound).trans ((recvS_hears heard _).trans ?_)
  simp only [watched]
  rfl

end

/-! Lantern heartbeats and probes (R30, R294) -/

section
variable {s : State} {l : Sys2Proof.LHdr} (heard : s.hearsL l)
include heard

/-- The warden's watch once a heartbeat of the T3 has come. -/
def Units.heartbeatCame (u : Units) (cid gen : Nat) : Units :=
  u.upWatch cid fun w => { w with misses := 0, probing := false, failed := false, gen := gen }

theorem lhb_ignored {seq gen health : Nat} (no : (s.u.roleOf s.u.role.wardenId).holding = false) : lhb l seq gen health s.u = s.u :=
  (recvL_hears heard _ _ _).trans (if_pos (by simp [no]))

theorem lhb_warden {seq gen health : Nat} (warden : (s.u.roleOf s.u.role.wardenId).holding = true) : lhb l seq gen health s.u =
    let v := s.u.heartbeatCame l.src gen
    if v.lanternStale { l with srcGen := gen } then v.report v.role.keeperId 4 5 [l.src, gen] else v :=
  (recvL_hears heard _ _ _).trans (if_neg (by simp [warden]))

/-- The probe acknowledged is no longer waited for; a warden that watches the T3 ends its misses. -/
theorem lprobeAck_hears {gen : Nat} : lprobeAck l gen s.u =
    let v := s.u.upV fun v => { v with lprobes := v.lprobes.filter fun c => c ≠ l.src }
    if NMap.has s.u.role.watch l.src then v.upWatch l.src fun w => { w with misses := 0, probing := false } else v :=
  recvL_hears heard _ _ _

end

section
variable {u : Units} {cid : Nat}

/-- The units once the probe of a T3 is no longer waited for. -/
def Units.probeEnded (u : Units) (cid : Nat) : Units := u.upV fun v => { v with lprobes := v.lprobes.filter fun c => c ≠ cid }

theorem lprobeWaitExpiry_idle (no : u.vig.lprobes.contains cid = false) : lprobeWaitExpiry cid u = u :=
  if_pos (by rw [no]; rfl)

theorem lprobeWaitExpiry_probed (waits : u.vig.lprobes.contains cid = true) : lprobeWaitExpiry cid u =
    let v := u.probeEnded cid
    if (v.roleOf v.role.wardenId).holding then (v.upWatch cid fun w => { w with misses := 5, probing := true }).reqL cid 0x41 8 2 []
    else v.emit (.bus 14 [(v.roleOf v.role.wardenId).holder, cid]) :=
  if_neg (by rw [waits]; decide)

end

/-! FAULT_UP (R39, R51, R307, R313) -/

/-- The notice as the keeper sends it on: under the next notice sequence and the keeper's role epoch. -/
def Units.numbered (u : Units) (n : Notice) : Notice :=
  { n with seq := u.role.noticeSeq + 1, epoch := (u.roleOf u.role.keeperId).epoch }

/-- The route of a failed position is fenced. -/
def Units.fenceRoute (u : Units) (n : Notice) : Units :=
  match NMap.find u.role.routes n.cid with
  | some e => if n.kind = 1 then u.issueRoutes [{ e with fenced := true, gen := n.accGen }] else u
  | none => u

theorem Units.fenceRoute_eq {u v : Units} {n : Notice}
    (went : (∃ e, NMap.find u.role.routes n.cid = some e ∧ n.kind = 1 ∧ v = u.issueRoutes [{ e with fenced := true, gen := n.accGen }]) ∨
      (NMap.find u.role.routes n.cid = none ∨ n.kind ≠ 1) ∧ v = u) : u.fenceRoute n = v := by
  unfold Units.fenceRoute
  rcases went with ⟨e, route, failed, rfl⟩ | ⟨none | other, rfl⟩
  · simp only [route, failed, if_true]
  · simp only [none]
  · cases NMap.find v.role.routes n.cid with
    | none => rfl
    | some e => exact if_neg other

/-- The T3s of a job: those known here, and the members that the notice brings. -/
def Units.jobMembers (u : Units) (n : Notice) (members : List Nat) : List Nat :=
  NMap.getD u.vig.jobT3s n.job [] ++ members.filter fun c => !((NMap.getD u.vig.jobT3s n.job []).contains c)

/-- PF_NOTICE goes out to the job's T3s and to the keepers of the other pods; here it is applied. -/
def Units.notify (u : Units) (n : Notice) (members : List Nat) : Units :=
  let t3s := u.jobMembers n members
  let keepers := (u.role.role.filter fun p => roleLevel p.1 = 4 && p.1 ≠ u.role.keeperId && p.2.holder ≠ 0 && p.2.holder ≠ u.self).map (·.2.holder)
  (t3s ++ keepers.filter fun c => !(t3s.contains c)).foldl (fun u d =>
    if d = u.self then (u.upV fun v => { v with applied := NMap.set v.applied n.key n.seq }).peerFault n
    else (u.reqL d 0x44 64 4 n.words).upV fun v => { v with notices := v.notices ++ [(n.seq, d, 0, n)] }) u

section
variable {s : State} {l : Sys2Proof.LHdr} {n : Notice} {members : List Nat} (heard : s.hearsL l)
include heard

theorem faultUp_ignored (no : (s.u.roleOf s.u.role.keeperId).holding = false) : faultUp l n members s.u = s.u :=
  (recvL_hears heard _ _ _).trans (if_pos (by simp [no]))

variable (keeper : (s.u.roleOf s.u.role.keeperId).holding = true)
include keeper

theorem faultUp_waits (idle : s.u.actsAs s.u.role.keeperId = false) :
    faultUp l n members s.u = s.u.toRole s.u.role.keeperId 0x43 64 (n.words ++ members) :=
  (recvL_hears heard _ _ _).trans ((if_neg (by simp [keeper])).trans (if_pos (by simp [idle])))

/-- The keeper sends the notice out, and opens the recovery but for a broken cycle. -/
theorem faultUp_acts (acts : s.u.actsAs s.u.role.keeperId = true) : faultUp l n members s.u =
    let m := s.u.numbered n
    let v := (s.u.upR fun x => { x with noticeSeq := x.noticeSeq + 1 }).fenceRoute m
    let w := (v.notify m members).later (.noticed m.cid m.job)
    if m.kind = 3 then w else w.later (.recover m.job m.cid m.ctx (v.jobMembers m members)) :=
  (recvL_hears heard _ _ _).trans ((if_neg (by simp [keeper])).trans (if_neg (by simp [acts])))

end

/-! PF_NOTICE and PF_ACK (R307, R308, R313) -/

/-- The answer to a notice. -/
def Units.ackNotice (u : Units) (l : Sys2Proof.LHdr) (n : Notice) : Units := u.answerL l.src 0x45 l.seq 16 4 [n.seq, n.cid, n.job, St.OK]

/-- The notice is applied: its blocks are told, once. -/
def Units.applyNotice (u : Units) (n : Notice) : Units := (u.upV fun v => { v with applied := NMap.set v.applied n.key n.seq }).peerFault n

section
variable {s : State} {l : Sys2Proof.LHdr} {n : Notice} (heard : s.hearsL l)
include heard

theorem pfNotice_stale (old : n.epoch < (s.u.roleOf s.u.role.keeperId).epoch) (member : (s.u.roleOf s.u.role.keeperId).holding = false) :
    pfNotice l n s.u = s.u.staleL l :=
  (recvL_hears heard _ _ _).trans (if_pos (by simp [old, member]))

variable (inForce : (s.u.roleOf s.u.role.keeperId).epoch ≤ n.epoch ∨ (s.u.roleOf s.u.role.keeperId).holding = true)
include inForce

/-- A notice in force, by its sequence against the last one applied; a keeper sends a new one on to its scope. -/
theorem pfNotice_inForce : pfNotice l n s.u =
    let last := NMap.getD s.u.vig.applied n.key 0
    let v := (s.u.applyNotice n).ackNotice l n
    if n.seq < last then s.u
    else if n.seq = last then s.u.ackNotice l n
    else if (s.u.roleOf s.u.role.keeperId).holding then
      ((v.scopeOf v.role.keeperId).foldl (fun u d => (u.reqL d 0x44 64 4 n.words).upV fun x =>
        { x with notices := x.notices ++ [(n.seq, d, 0, n)] }) v).later (.peerKeeper n.job l.src)
    else v := by
  refine (recvL_hears heard _ _ _).trans (if_neg fun stale => ?_)
  simp only [Bool.and_eq_true, Bool.not_eq_true', decide_eq_true_eq] at stale
  exact inForce.elim (Nat.not_le.2 stale.1) (Bool.eq_false_iff.1 stale.2)

end

section
variable {u : Units} {seq cid : Nat}

theorem pfAckWaitExpiry_none (none : (u.vig.notices.find? fun x => x.1 = seq && x.2.1 = cid) = none) : pfAckWaitExpiry seq cid u = u := by
  rw [pfAckWaitExpiry, none]

theorem pfAckWaitExpiry_some {x : Nat × Nat × Nat × Notice} (waits : (u.vig.notices.find? fun x => x.1 = seq && x.2.1 = cid) = some x) :
    pfAckWaitExpiry seq cid u =
      if x.2.2.1 < 3 then
        (u.upV fun v => { v with notices := v.notices.map fun y =>
          if y.1 = seq && y.2.1 = cid then (y.1, y.2.1, y.2.2.1 + 1, y.2.2.2) else y }).reqL cid 0x44 64 4 x.2.2.2.words
      else
        (u.upV fun v => { v with notices := v.notices.filter fun y => !(y.1 = seq && y.2.1 = cid) }).raise Ev.VIGIL_NOTICE_UNACKED 4 0x070
          (payloadOf [(0, 4, seq), (4, 3, cid)]) := by
  rw [pfAckWaitExpiry, waits]

end

/-! WAIT_PROBE and WAIT_BREAK (R297, R299) -/

section
variable {s : State} {l : Sys2Proof.LHdr} (heard : s.hearsL l)
include heard

section
variable {origin pid job : Nat} {path : List (List Nat)} {target ctx : Nat}

theorem waitProbe_elsewhere (none : s.u.portOf target = none) : waitProbe l origin pid job path target ctx s.u = s.u := by
  refine (recvL_hears heard _ _ _).trans ?_
  simp only [none]

/-- The stalled contexts of a port that an edge's target names: one context, or those of the job. -/
def Units.probeTargets (u : Units) (p job ctx : Nat) : List Nat :=
  (List.range 64).filter fun c => (ctx = 0xFF || c = ctx) &&
    (match u.watchOf p c with | some w => w.stalled && (ctx ≠ 0xFF || w.job = job) | none => false)

/-- A probe at a stalled context: it goes on under a reply no older than 1 ms, and waits for another that is asked for. -/
def Units.carryProbe (u : Units) (origin pid job : Nat) (path : List (List Nat)) (p c : Nat) : Units :=
  match u.watchOf p c with
  | none => u
  | some w =>
    if w.replied = true ∧ u.clk.mono ≤ w.replyAt + 1000000 then u.extend origin pid job path p c w
    else (u.upWatchE p c fun w => { w with waiting := w.waiting ++ [(origin, pid, path)] }).askWait p c

theorem waitProbe_here {p : Nat} (here : s.u.portOf target = some p) : waitProbe l origin pid job path target ctx s.u =
    (s.u.probeTargets p job ctx).foldl (fun u c => u.carryProbe origin pid job path p c) s.u := by
  refine (recvL_hears heard _ _ _).trans ?_
  simp only [here, Bool.and_eq_true, decide_eq_true_eq]
  rfl

end

section
variable {cid ctx gen pid finder : Nat}

theorem waitBreak_elsewhere (none : s.u.portOf cid = none) : waitBreak l cid ctx gen pid finder s.u = s.u.staleL l := by
  refine (recvL_hears heard _ _ _).trans ?_
  rw [Units.breakVictim, none]
  rfl

variable {p : Nat} (here : s.u.portOf cid = some p)
include here

theorem waitBreak_unwatched (unwatched : s.u.watchOf p ctx = none) : waitBreak l cid ctx gen pid finder s.u = s.u.staleL l := by
  refine (recvL_hears heard _ _ _).trans ?_
  simp only [Units.breakVictim, here, unwatched, Option.getD_none]

/-- The waits of a watched context may be broken: it is stalled, of the generation named, at a port that is not fenced, and no reset of it runs. -/
def Units.breakable (u : Units) (p ctx gen : Nat) (w : Watch) : Prop :=
  w.stalled = true ∧ w.gen = gen ∧ u.fenced p = false ∧ u.resetting p ctx = false

omit heard here in
theorem Units.not_breakable_iff {u : Units} {w : Watch} :
    (!w.stalled || w.gen ≠ gen || u.fenced p || u.resetting p ctx) = true ↔ ¬u.breakable p ctx gen w := by
  simp only [Units.breakable, Bool.or_eq_true, Bool.not_eq_true', decide_eq_true_eq, Decidable.not_and_iff_not_or_not, ne_eq, Bool.not_eq_true,
    Bool.not_eq_false, or_assoc]

/-- The context is reset, and the containment of its broken wait opens (R299). -/
def Units.breakWait (u : Units) (p ctx : Nat) (w : Watch) : Units :=
  ((u.upWatchE p ctx fun w => { w with broken := true }).resetCtx p ctx false (u.released w.job)).upV fun v => { v with
    contains := v.contains ++ [{ port := p, ctx := ctx, level := 0, bumped := false, brk := true, jobs := [w.job], open_ := 1, served := false }] }

variable {w : Watch} (watched : s.u.watchOf p ctx = some w)
include watched

theorem waitBreak_stale (no : ¬s.u.breakable p ctx gen w) : waitBreak l cid ctx gen pid finder s.u = s.u.staleL l := by
  refine (recvL_hears heard _ _ _).trans ?_
  simp only [Units.breakVictim, here, watched]
  rw [if_pos (Units.not_breakable_iff.2 no), Option.getD_none]

theorem waitBreak_breaks (breaks : s.u.breakable p ctx gen w) : waitBreak l cid ctx gen pid finder s.u =
    (((s.u.breakWait p ctx w).count 0x700128).raise Ev.VIGIL_CYCLE_BROKEN 0 0x070
      (payloadOf [(0, 4, w.job), (4, 1, p), (5, 1, ctx), (6, 2, gen)])).faultUp 3 0 p ctx St.BUSY_RETRY [w.job] := by
  refine (recvL_hears heard _ _ _).trans ?_
  simp only [Units.breakVictim, here, watched]
  rw [if_neg fun no => Units.not_breakable_iff.1 no breaks, Option.getD_some]
  rfl

end

end

/-- Settles O45: each clause is what its command's branch comes to, by the lemmas above. -/
theorem waitsNoticesAndLanternHeartbeatsAct : Obligations.WaitsNoticesAndLanternHeartbeatsAct := by
  unfold Obligations.WaitsNoticesAndLanternHeartbeatsAct
  intro s h l
  refine ⟨?reply, State.runU_of_eq rfl, ?heard, ?probeExpiry, ?ackExpiry⟩
  case reply =>
    intro count len edges sound
    refine ⟨fun bad => State.runU_of_eq (waitforReply_unsound bad), fun sound heard =>
      ⟨fun unwatched => State.runU_of_eq (waitforReply_unwatched sound heard unwatched), ?_⟩⟩
    intro w watched w1 u1
    exact ⟨fun moves => State.runU_of_eq ((waitforReply_watched sound heard watched).trans (if_pos (by simp [moves]))),
      fun stalled => State.runU_of_eq ((waitforReply_watched sound heard watched).trans (if_neg (by simp [stalled])))⟩
  case heard =>
    intro heard
    refine ⟨?lhb, State.runU_of_eq (recvL_hears heard _ _ _), ?lprobeAck, fun n members no => State.runU_of_eq (faultUp_ignored heard no),
      fun n members keeper idle => State.runU_of_eq (faultUp_waits heard keeper idle), ?faultUp,
      fun n old member => State.runU_of_eq (pfNotice_stale heard old member), ?pfNotice, ?pfAck, ?waitProbe, ?waitBreak⟩
    case lhb =>
      intro seq gen health
      exact ⟨fun no => State.runU_of_eq (lhb_ignored heard no), fun warden =>
        ⟨fun fresh => State.runU_of_eq ((lhb_warden heard warden).trans (if_neg (Bool.eq_false_iff.1 fresh))),
         fun differs => State.runU_of_eq ((lhb_warden heard warden).trans (if_pos differs))⟩⟩
    case lprobeAck =>
      intro gen u1
      exact ⟨fun no => State.runU_of_eq ((lprobeAck_hears heard).trans (if_neg (Bool.eq_false_iff.1 no))),
        fun watched => State.runU_of_eq ((lprobeAck_hears heard).trans (if_pos watched))⟩
    case faultUp =>
      intro n members keeper acts m u1 u2 went known t3s keepers u3
      obtain rfl := Units.fenceRoute_eq went
      exact ⟨fun broken => State.runU_of_eq ((faultUp_acts heard keeper acts).trans (if_pos broken)),
        fun failed => State.runU_of_eq ((faultUp_acts heard keeper acts).trans (if_neg failed))⟩
    case pfNotice =>
      intro n inForce last u1 ack
      have branches := pfNotice_inForce heard inForce
      exact ⟨fun old => State.runU_of_eq (branches.trans (if_pos old)),
        fun same => State.runU_of_eq (branches.trans ((if_neg (Nat.not_lt.2 (Nat.le_of_eq same.symm))).trans (if_pos same))), fun new =>
        ⟨fun member => State.runU_of_eq (branches.trans ((if_neg (Nat.lt_asymm new)).trans ((if_neg (Nat.ne_of_gt new)).trans
          (if_neg (Bool.eq_false_iff.1 member))))),
         fun keeper => State.runU_of_eq (branches.trans ((if_neg (Nat.lt_asymm new)).trans ((if_neg (Nat.ne_of_gt new)).trans (if_pos keeper))))⟩⟩
    case pfAck =>
      intro seq cid job st
      exact ⟨fun ok => State.runU_of_eq ((recvL_hears heard _ _ _).trans (if_neg (not_not_intro ok))),
        fun bad => State.runU_of_eq ((recvL_hears heard _ _ _).trans (if_pos bad))⟩
    case waitProbe =>
      intro origin pid job path target ctx
      exact ⟨fun none => State.runU_of_eq (waitProbe_elsewhere heard none), fun p here => State.runU_of_eq (waitProbe_here heard here)⟩
    case waitBreak =>
      intro cid ctx gen pid finder
      exact ⟨fun none => State.runU_of_eq (waitBreak_elsewhere heard none), fun p here =>
        ⟨fun unwatched => State.runU_of_eq (waitBreak_unwatched heard here unwatched), fun w watched =>
          ⟨fun no => State.runU_of_eq (waitBreak_stale heard here watched no),
           fun breaks => State.runU_of_eq (waitBreak_breaks heard here watched breaks)⟩⟩⟩
  case probeExpiry =>
    intro cid
    exact ⟨fun no => State.runU_of_eq (lprobeWaitExpiry_idle no), fun waits =>
      ⟨fun other => State.runU_of_eq ((lprobeWaitExpiry_probed waits).trans (if_neg (Bool.eq_false_iff.1 other))),
       fun warden => State.runU_of_eq ((lprobeWaitExpiry_probed waits).trans (if_pos warden))⟩⟩
  case ackExpiry =>
    intro seq cid
    exact ⟨fun none => State.runU_of_eq (pfAckWaitExpiry_none none), fun x waits =>
      ⟨fun few => State.runU_of_eq ((pfAckWaitExpiry_some waits).trans (if_pos few)),
       fun spent => State.runU_of_eq ((pfAckWaitExpiry_some waits).trans (if_neg (Nat.not_lt.2 spent)))⟩⟩

end Sys2Proof.Machine
end

section
/-!
PROOFS. The sconce protocol at the T3 (03 R52, R61, R66, R73, R81, R82, R84; 13 R64, R302): what each message, timer and command does, branch by
branch, and the statement about them.
-/
namespace Sys2Proof.Machine

/-! What a port drops (R61, R64, R302) -/

/-- The generations of the header are those in force at the port. -/
def Units.current (u : Units) (h : Sys2Proof.SHdr) : Prop :=
  h.accGen = u.accGen h.port ∧ (h.ctx = 0xFF ∨ h.ctxGen = u.ctxGen h.port h.ctx)

theorem Units.not_current_iff {u : Units} {h : Sys2Proof.SHdr} :
    (h.accGen ≠ u.accGen h.port || (h.ctx ≠ 0xFF && h.ctxGen ≠ u.ctxGen h.port h.ctx)) = true ↔ ¬u.current h := by
  simp only [Units.current, Bool.or_eq_true, Bool.and_eq_true, decide_eq_true_eq, Decidable.not_and_iff_not_or_not, not_or, ne_eq]

section
variable {u v : Units} {h : Sys2Proof.SHdr} {cls : Nat}

/-- Before ACTIVE only REG_RESPONSE and MGMT_FRAME of version 1 or 2 pass. -/
theorem Units.dropS_inactive (off : (u.ig h.port).active = false) :
    u.dropS h cls = some v ↔ ¬((cls = 0x0A ∨ cls = 0x15) ∧ (h.ver = 1 ∨ h.ver = 2)) ∧ v = u := by
  by_cases passes : (cls = 0x0A ∨ cls = 0x15) ∧ (h.ver = 1 ∨ h.ver = 2) <;> simp [Units.dropS, off, passes, eq_comm (a := u)]

/-- At an active port a message passes when its version is the selected one, its generations are in force, and no fence keeps it back. -/
theorem Units.dropS_active (on : (u.ig h.port).active = true) :
    u.dropS h cls = some v ↔ h.ver ≠ (u.ig h.port).proto ∧ v = u.count (portBase h.port + 0x138) ∨
      h.ver = (u.ig h.port).proto ∧ (¬u.current h ∧ v = u.count (portBase h.port + 0x130) ∨
        u.current h ∧ u.fenced h.port = true ∧ fenceIn cls = false ∧ v = u.count 0x780120) := by
  rw [Units.dropS, if_neg (by simp [on])]
  by_cases ver : h.ver = (u.ig h.port).proto
  · by_cases cur : u.current h
    · rw [if_neg (not_not_intro ver), if_neg fun stale => Units.not_current_iff.1 stale cur]
      cases fence : u.fenced h.port <;> cases fenceIn cls <;> simp [ver, cur, eq_comm (a := v)]
    · rw [if_neg (not_not_intro ver), if_pos (Units.not_current_iff.2 cur)]
      simp [ver, cur, eq_comm (a := v)]
  · simp [ver, eq_comm (a := v)]

theorem Units.recvS_passes (pass : u.dropS h cls = none) (f : Units → Units) : u.recvS h cls f = f u := by rw [Units.recvS, pass, Option.getD_none]

theorem Units.recvS_drops (drop : u.dropS h cls = some v) (f : Units → Units) : u.recvS h cls f = v := by rw [Units.recvS, drop, Option.getD_some]

end

/-! The apply gate's releases (R73, R288) -/

section
variable {u : Units} {h : Sys2Proof.SHdr} {step status : Nat}

/-- The context's apply step is raised to `step`. -/
def Units.raiseApplied (u : Units) (p ctx step : Nat) : Units :=
  u.upIg p fun g => { g with applyStep := NMap.put g.applyStep 0 ctx (max (NMap.getD g.applyStep ctx 0) step) }

variable (pass : u.dropS h 0x0C = none)
include pass

theorem applyAck_none (none : ((u.ig h.port).gos.find? fun x => x.ctx = h.ctx) = none) : applyAck h step status u = u := by
  refine (Units.recvS_passes pass _).trans ?_
  simp only [none]

/-- The acknowledgement of an outstanding release: OK raises the apply step and ends the resends of the newest, another has the missing ones sent. -/
theorem applyAck_some {o : GoOut} (out : ((u.ig h.port).gos.find? fun x => x.ctx = h.ctx) = some o) : applyAck h step status u =
    let v := u.raiseApplied h.port h.ctx step
    let done := NMap.getD (u.ig h.port).applyStep h.ctx 0
    if status = St.OK then
      if step < o.step then v else (v.upIg h.port fun g => { g with gos := g.gos.filter fun x => x.ctx ≠ h.ctx }).ctlAgain h.port h.ctx
    else (List.range (o.step - done)).foldl (fun u i => u.igSend h.port 0x0B h.ctx 16 [done + 1 + i]) u := by
  refine (Units.recvS_passes pass _).trans ?_
  simp only [out]
  rfl

end

section
variable {u : Units} {p ctx : Nat}

theorem applyAckWaitExpiry_none (none : ((u.ig p).gos.find? fun x => x.ctx = ctx) = none) : applyAckWaitExpiry p ctx u = u := by
  rw [applyAckWaitExpiry, none]

theorem applyAckWaitExpiry_some {o : GoOut} (out : ((u.ig p).gos.find? fun x => x.ctx = ctx) = some o) : applyAckWaitExpiry p ctx u =
    if o.resends < 3 then
      (u.upIg p fun g => { g with gos := g.gos.map fun x => if x.ctx = ctx then { x with resends := x.resends + 1 } else x }).goAgain p o
    else
      ((u.upIg p fun g => { g with gos := g.gos.filter fun x => x.ctx ≠ ctx }).raise Ev.APPLY_ACK_TIMEOUT 1 (portUnit p) 0).later (.suspect p 1) := by
  rw [applyAckWaitExpiry, out]

end

/-! MGMT_FRAME (R51, R52, R64, R81) -/

/-- A frame is fresh under the key in force or the old one, by its key index, and its sequence moves on. -/
def LinkKey.movesOn (k : LinkKey) (index seq : Nat) (k' : LinkKey) : Prop :=
  index = k.index ∧ k.rxSeq < seq ∧ k' = { k with rxSeq := seq, used := true } ∨
    index ≠ k.index ∧ k.old.isNone = false ∧ k.rxOld < seq ∧ k' = { k with rxOld := seq }

theorem LinkKey.take_of_movesOn {k k' : LinkKey} {index seq : Nat} (moves : k.movesOn index seq k') : k.take index seq true = some k' := by
  rcases moves with ⟨new, fresh, rfl⟩ | ⟨other, held, fresh, rfl⟩
  · exact (if_neg (by decide)).trans ((if_pos new).trans (if_neg (Nat.not_le.2 fresh)))
  · exact (if_neg (by decide)).trans ((if_neg other).trans (if_neg (by simp [held, fresh])))

/-- A frame is not fresh under the key in force, nor under the old one. -/
def LinkKey.refuses (k : LinkKey) (index seq : Nat) : Prop :=
  index = k.index ∧ seq ≤ k.rxSeq ∨ index ≠ k.index ∧ (k.old.isNone = true ∨ seq ≤ k.rxOld)

theorem LinkKey.take_of_refuses {k : LinkKey} {index seq : Nat} (refuses : k.refuses index seq) (tagOk : Bool) : k.take index seq tagOk = none := by
  cases tagOk with
  | false => exact if_pos rfl
  | true =>
    rcases refuses with ⟨new, old⟩ | ⟨other, no⟩
    · exact (if_neg (by decide)).trans ((if_pos new).trans (if_pos old))
    · exact (if_neg (by decide)).trans ((if_neg other).trans (if_pos (by simpa using no)))

section
variable {u : Units} {h : Sys2Proof.SHdr} {link index seq hop dst src : Nat} {inner : Sys2Proof.LHdr} {cls len : Nat} {pay : List Nat} {tagOk : Bool}

theorem mgmtFrame_long (long : 1008 < len) : mgmtFrame h link index seq hop dst src inner cls len pay tagOk u = u.msgUnknown h.port :=
  if_pos (by omega)

variable (short : len ≤ 1008)
include short

theorem mgmtFrame_dropped {v : Units} (drop : u.dropS h 0x15 = some v) : mgmtFrame h link index seq hop dst src inner cls len pay tagOk u = v :=
  (if_neg (by omega)).trans (Units.recvS_drops drop _)

variable (pass : u.dropS h 0x15 = none)
include pass

theorem mgmtFrame_refused (no : (NMap.find u.role.keys link).bind (fun k => k.take index seq tagOk) = none) :
    mgmtFrame h link index seq hop dst src inner cls len pay tagOk u = (u.count mgmtDrops).raise Ev.MGMT_AUTH_FAIL 2 0x000 link := by
  refine (if_neg (by omega)).trans ((Units.recvS_passes pass _).trans ?_)
  simp only [no]

/-- The units once a link's key is stored. -/
def Units.keyStored (u : Units) (link : Nat) (k : LinkKey) : Units := { u with role := { u.role with keys := NMap.set u.role.keys link k } }

/-- An authentic frame: its message acts here, or goes on where its hop limit and its route let it (R51). -/
theorem mgmtFrame_taken {k : LinkKey} (taken : (NMap.find u.role.keys link).bind (fun k => k.take index seq tagOk) = some k) :
    mgmtFrame h link index seq hop dst src inner cls len pay tagOk u =
      let v := u.keyStored link k
      if hop = 0 then v.count mgmtDrops
      else if dst = v.self then v.later (.message inner cls pay)
      else if v.routeFenced dst then v.count fencedDrops
      else if v.staleTarget dst then v.count (portBase h.port + 0x130)
      else v.mgmtOn h.port (hop - 1) dst src inner cls len pay := by
  refine (if_neg (by omega)).trans ((Units.recvS_passes pass _).trans ?_)
  simp only [taken]
  rfl

end

/-! IGTAN_BRINGUP and IGTAN_REG (R82, R84) -/

section
variable {u : Units} {c : Sys2Proof.Cmd} {p : Nat}

section
variable (op : isOperator (stampPriv c.stamp) = true)
include op

theorem igtanBringup_badParam (no : 16 ≤ p) : igtanBringup c p u = u.done c 0x078 0x0707 St.BAD_PARAM :=
  (operator_ok op _ _ _).trans (if_pos no)

variable (port : p < 16)
include port

theorem igtanBringup_badState (no : (u.ig p).active = true ∨ bitAt u.vig.lost p = true) : igtanBringup c p u = u.done c 0x078 0x0707 St.BAD_STATE :=
  (operator_ok op _ _ _).trans ((if_neg (Nat.not_le.2 port)).trans (if_pos (Bool.or_eq_true_iff.2 no)))

/-- The command waits for the port, whose start-up begins where its link is up. -/
theorem igtanBringup_waits (off : (u.ig p).active = false) (there : bitAt u.vig.lost p = false) : igtanBringup c p u =
    let v := u.upIg p fun g => { g with cmd := g.cmd ++ [(c.ring, c.tag, c.stamp, c.gen)] }
    if (v.port p).state = 4 then v.startUp p else v :=
  (operator_ok op _ _ _).trans ((if_neg (Nat.not_le.2 port)).trans (if_neg (by simp [off, there])))

end

section
variable {m : Mem} {off count addr : Nat} {write : Bool}

/-- The sender may access a block's registers: an operator, or a tenant that reads the activity of its own context. -/
def Units.mayReg (u : Units) (c : Sys2Proof.Cmd) (p off count : Nat) (write : Bool) : Prop :=
  isOperator (stampPriv c.stamp) = true ∨ u.ownAct c p off count write = true

theorem Units.not_mayReg_iff : (!(isOperator (stampPriv c.stamp)) && !(u.ownAct c p off count write)) = true ↔ ¬u.mayReg c p off count write := by
  simp only [Units.mayReg, Bool.and_eq_true, Bool.not_eq_true', not_or, Bool.not_eq_true]

/-- What a write may not touch: the offsets of the T3's own units, and a fenced port. -/
theorem Units.ownWrite_iff : ((List.range count).any (fun i => ownOffset (off + 4 * i)) || u.fenced p) = true ↔
    (∃ i < count, ownOffset (off + 4 * i) = true) ∨ u.fenced p = true := by
  simp only [Bool.or_eq_true, List.any_eq_true, List.mem_range]

theorem igtanReg_refused (no : ¬u.mayReg c p off count write) :
    igtanReg c p off write count addr m u = (m, u.done c 0x078 0x0708 St.NOT_PRIVILEGED) :=
  if_pos (Units.not_mayReg_iff.2 no)

variable (may : u.mayReg c p off count write)
include may

theorem igtanReg_badParam (bad : p ≥ 16 ∨ count = 0 ∨ 16 < count) :
    igtanReg c p off write count addr m u = (m, u.done c 0x078 0x0708 St.BAD_PARAM) :=
  (if_neg fun no => Units.not_mayReg_iff.1 no may).trans (if_pos (by simpa [or_assoc] using bad))

variable (port : p < 16) (some_ : 1 ≤ count) (few : count ≤ 16)
include port some_ few

/-- IGTAN_REG with operands in range, by the access of its Mantle address, what a write may not touch, and the link. -/
theorem igtanReg_fits : igtanReg c p off write count addr m u =
    let no := fun s => (m, u.done c 0x078 0x0708 s)
    if !(u.mayAccess Ag.sconce addr (4 * count) (!write)) then no St.NOT_PRIVILEGED
    else if write && ((List.range count).any (fun i => ownOffset (off + 4 * i)) || u.fenced p) then no St.BAD_STATE
    else if (u.port p).state ≠ 4 then no St.BUSY_RETRY
    else
      (m, u.regAccess p off write count (if write then (List.range count).map fun i => leNat (m.bytesAt (addr + 4 * i) 4) else [])
        (.host c.ring c.tag c.stamp c.gen addr)) :=
  (if_neg fun no => Units.not_mayReg_iff.1 no may).trans (if_neg (by simp only [Bool.or_eq_true, decide_eq_true_eq]; omega))

theorem igtanReg_closed (closed : u.mayAccess Ag.sconce addr (4 * count) (!write) = false) :
    igtanReg c p off write count addr m u = (m, u.done c 0x078 0x0708 St.NOT_PRIVILEGED) :=
  (igtanReg_fits may port some_ few).trans (if_pos (by simp [closed]))

variable (access : u.mayAccess Ag.sconce addr (4 * count) (!write) = true)
include access

theorem igtanReg_badState (writes : write = true) (own : (∃ i < count, ownOffset (off + 4 * i) = true) ∨ u.fenced p = true) :
    igtanReg c p off write count addr m u = (m, u.done c 0x078 0x0708 St.BAD_STATE) :=
  (igtanReg_fits may port some_ few).trans ((if_neg (by simp [access])).trans (if_pos (Bool.and_eq_true_iff.2 ⟨writes, Units.ownWrite_iff.2 own⟩)))

/-- An access that R84 lets through goes out as REG_ACCESS where the link is up. -/
theorem igtanReg_sends (free : write = false ∨ (∀ i < count, ownOffset (off + 4 * i) = false) ∧ u.fenced p = false) :
    igtanReg c p off write count addr m u =
      if (u.port p).state ≠ 4 then (m, u.done c 0x078 0x0708 St.BUSY_RETRY)
      else
        (m, u.regAccess p off write count (if write then (List.range count).map fun i => leNat (m.bytesAt (addr + 4 * i) 4) else [])
          (.host c.ring c.tag c.stamp c.gen addr)) := by
  refine (igtanReg_fits may port some_ few).trans ((if_neg (by simp [access])).trans (if_neg fun kept => ?_))
  obtain ⟨writes, own⟩ := Bool.and_eq_true_iff.1 kept
  rcases free with reads | ⟨others, unfenced⟩
  · exact Bool.eq_false_iff.1 reads writes
  · rcases Units.ownWrite_iff.1 own with ⟨i, lt, mine⟩ | fenced
    · exact Bool.eq_false_iff.1 (others i lt) mine
    · exact Bool.eq_false_iff.1 unfenced fenced

end

end

/-- Settles O21: each clause is what its command's branch comes to, by the lemmas above. -/
theorem igtanCommandsAct : Obligations.IgtanCommandsAct := by
  unfold Obligations.IgtanCommandsAct
  refine ⟨?ack, ?expiry, ?frame, ?commands⟩
  case ack =>
    intro s h step status
    refine ⟨?newest, fun pass none => State.runU_of_eq (applyAck_none pass none),
      fun v drop => State.runU_of_eq (Units.recvS_drops drop _), fun cls v => ?drops⟩
    case newest =>
      intro o pass out at_ v
      have branches := applyAck_some (step := step) (status := status) pass out
      exact ⟨fun ok newest => State.runU_of_eq (branches.trans ((if_pos ok).trans (if_neg (Nat.not_lt.2 newest)))),
        fun ok older => State.runU_of_eq (branches.trans ((if_pos ok).trans (if_pos older))),
        fun bad => State.runU_of_eq (branches.trans (if_neg bad))⟩
    case drops =>
      cases active : (s.u.ig h.port).active with
      | false => simpa using Units.dropS_inactive active
      | true =>
        rw [Units.dropS_active active, Units.current]
        have stale : ¬(h.accGen = s.u.accGen h.port ∧ (h.ctx = 0xFF ∨ h.ctxGen = s.u.ctxGen h.port h.ctx)) ↔
            h.accGen ≠ s.u.accGen h.port ∨ h.ctx ≠ 0xFF ∧ h.ctxGen ≠ s.u.ctxGen h.port h.ctx := by
          simp only [Decidable.not_and_iff_not_or_not, not_or, ne_eq]
        simp [stale, and_assoc]
  case expiry =>
    intro s p ctx
    refine ⟨?out, fun none => State.runU_of_eq (applyAckWaitExpiry_none none), fun cls len gen => State.runU_of_eq rfl⟩
    intro o out again
    exact ⟨fun few =>
      ⟨fun may => State.runU_of_eq ((applyAckWaitExpiry_some out).trans ((if_pos few).trans (if_pos may))),
       fun no => State.runU_of_eq ((applyAckWaitExpiry_some out).trans ((if_pos few).trans (if_neg (Bool.eq_false_iff.1 no))))⟩,
      fun spent => State.runU_of_eq ((applyAckWaitExpiry_some out).trans (if_neg (Nat.not_lt.2 spent)))⟩
  case frame =>
    intro s h link index seq hop dst src inner cls len plain f
    refine ⟨fun long => State.runU_of_eq (mgmtFrame_long long), fun short pass => ⟨?taken, ?refused⟩,
      fun v short drop => State.runU_of_eq (mgmtFrame_dropped short drop)⟩
    case taken =>
      intro k k' pay known plain moves v
      subst plain
      have branches := mgmtFrame_taken (h := h) (hop := hop) (dst := dst) (src := src) (inner := inner) (cls := cls) (pay := pay) short pass
        (show (NMap.find s.u.role.keys link).bind (fun k => k.take index seq true) = some k' by
          rw [known]; exact LinkKey.take_of_movesOn moves)
      exact ⟨fun last => State.runU_of_eq (branches.trans (if_pos last)),
        fun goes mine => State.runU_of_eq (branches.trans ((if_neg goes).trans (if_pos mine))),
        fun goes other fenced => State.runU_of_eq (branches.trans ((if_neg goes).trans ((if_neg other).trans (if_pos fenced)))),
        fun goes other open_ stale => State.runU_of_eq (branches.trans ((if_neg goes).trans ((if_neg other).trans
          ((if_neg (Bool.eq_false_iff.1 open_)).trans (if_pos stale))))),
        fun goes other open_ fresh => State.runU_of_eq (branches.trans ((if_neg goes).trans ((if_neg other).trans
          ((if_neg (Bool.eq_false_iff.1 open_)).trans (if_neg (Bool.eq_false_iff.1 fresh))))))⟩
    case refused =>
      rintro (unknown | rfl | ⟨k, known, refuses⟩)
      · exact State.runU_of_eq (mgmtFrame_refused short pass (by rw [unknown]; rfl))
      · exact State.runU_of_eq (mgmtFrame_refused short pass (Option.bind_eq_none_iff.2 fun _ _ => rfl))
      · exact State.runU_of_eq (mgmtFrame_refused short pass (by rw [known]; exact LinkKey.take_of_refuses refuses _))
  case commands =>
    intro s c p
    refine ⟨?bringup, ?reg⟩
    case bringup =>
      intro cmd v
      exact ⟨fun no => State.runU_of_eq (operator_refused no _ _ _), fun op =>
        ⟨fun bad => State.runU_of_eq (igtanBringup_badParam op bad), fun port no => State.runU_of_eq (igtanBringup_badState op port no),
         fun port off there =>
          ⟨fun up => State.runU_of_eq ((igtanBringup_waits op port off there).trans (if_pos up)),
           fun down => State.runU_of_eq ((igtanBringup_waits op port off there).trans (if_neg down))⟩⟩⟩
    case reg =>
      intro off write count addr may ends
      refine ⟨fun no => State.run_of_units (igtanReg_refused no), fun may bad => State.run_of_units (igtanReg_badParam may bad),
        fun may port some_ few => ⟨fun closed => State.run_of_units (igtanReg_closed may port some_ few closed), fun access =>
          ⟨fun writes own => State.run_of_units (igtanReg_badState may port some_ few access writes own), fun free => ?_⟩⟩⟩
      have branches := igtanReg_sends (m := s.mem) may port some_ few access free
      exact ⟨fun down => State.run_of_units (branches.trans (if_pos down)), fun up =>
        ⟨fun reads => by subst reads; exact State.run_of_units (branches.trans (if_neg (not_not_intro up))),
         fun writes => by subst writes; exact State.run_of_units (branches.trans (if_neg (not_not_intro up)))⟩⟩

end Sys2Proof.Machine
end

section
/-!
PROOFS. Why the statement about keys, admission, drills and role commands fails: the journal entry of a pooled placement that has been taken.
-/
namespace Sys2Proof.Machine

/-- The warden of a rack, T3 8, waits for T3 9 to answer the placement of shard 5 of job 7, whose source is T3 3. -/
def placingWarden : State :=
  { State.reset with u := { Units.reset with
      self := 8
      role := { RoleUnit.reset with
        role := [(0x10000000, { RoleSt.reset with holding := true })]
        placing := [{ job := 7, shard := 5, src := 3, buddyBytes := 4, stagingBytes := 2, tried := [9] }] } } }

/-- The header of T3 9's answer. -/
def fromNine : Sys2Proof.LHdr := { port := 0, src := 9, hop := 16, flags := 1, srcGen := 0, seq := 0 }

theorem placingWarden_hearsL : placingWarden.hearsL fromNine := ⟨rfl, rfl⟩

/-- The warden journals a placement that has been taken with the bytes of its two regions (R44). -/
theorem exec_poolingReservationAnswer_placingWarden :
    ∃ t, exec (.poolingReservationAnswer fromNine St.OK 7 ⟨5, 9⟩) placingWarden = .next t ∧
      (t.u.roleOf 0x10000000).journal = [[9, 7, 5, 9, 3, 4, 2]] :=
  ⟨_, State.runU_idle placingWarden (poolingReservationAnswer fromNine St.OK 7 5 9) rfl (Nat.zero_le _), rfl⟩

/-- Refutes O55: when T3 9 has taken the placement of shard 5 of job 7 for T3 3, the warden journals [9, 7, 5, 9, 3, 4, 2], the bytes of the buddy and the
staging region with it, where the statement has it journal [9, 7, 5, 9, 3]. -/
theorem not_keysAdmissionDrillsAndRoleCommandsAct : ¬ Obligations.KeysAdmissionDrillsAndRoleCommandsAct := by
  unfold Obligations.KeysAdmissionDrillsAndRoleCommandsAct
  intro claims
  obtain ⟨-, -, -, -, -, -, -, -, -, -, -, -, pooling, -⟩ := claims placingWarden fromNine { ring := 0, tag := 0, stamp := 0, gen := 0 } 0 0
  obtain ⟨-, answered⟩ := pooling St.OK 7 5 9 placingWarden_hearsL
  obtain ⟨taken, -⟩ := answered _ rfl
  obtain ⟨t, run, journaled⟩ := exec_poolingReservationAnswer_placingWarden
  rw [taken rfl, State.after_idle rfl (Nat.zero_le _)] at run
  injection run with eq
  have claimed : (t.u.roleOf 0x10000000).journal = [[9, 7, 5, 9, 3]] := eq ▸ rfl
  rw [journaled] at claimed
  exact absurd claimed (by decide)

end Sys2Proof.Machine
end

section
/-!
PROOFS. How Vigil watches accelerators and contexts (12 R287 to R293, R296; 03 R61, R82): what each message and timer does, branch by branch, and the
statement about them.
-/
namespace Sys2Proof.Machine

/-- A command whose own effect leaves the Mantle and the units at `a`. -/
theorem State.run_of_eq {s : State} {f : Mem → Units → Mem × Units} {a : Mem × Units} (e : f s.mem s.u = a) : s.run f = .next (s.afterM a) := e ▸ rfl

/-- A command that leaves the Mantle as it was and the units by one of two branches. -/
theorem State.run_ite {s : State} {f : Mem → Units → Mem × Units} {p : Prop} [Decidable p] {a b : Units}
    (e : f s.mem s.u = (s.mem, if p then a else b)) : (p → s.run f = .next (s.after a)) ∧ (¬p → s.run f = .next (s.after b)) :=
  ⟨fun h => State.run_of_units (e.trans (congrArg _ (if_pos h))), fun h => State.run_of_units (e.trans (congrArg _ (if_neg h)))⟩

/-! HEARTBEAT (R67, R287, R289, R290) -/

/-- The units once the bitmap and the health of a heartbeat are kept. -/
def Units.keepHeartbeat (u : Units) (p live health : Nat) : Units :=
  ((u.count 0x700100).upVp p fun x => { x with live := live, health := health }).refreeze p

/-- The watched contexts that left the bitmap of a port without a reset. -/
def Units.leftWithoutReset (u : Units) (p was live : Nat) : List Nat :=
  (List.range 64).filter fun c => bitAt was c && !(bitAt live c) && (u.watchOf p c).isSome && !(u.resetting p c)

section
variable {s : State} {h : Sys2Proof.SHdr} {seq live health flags : Nat} (heard : s.hears h 0x01)
include heard

theorem heartbeat_failed (failed : ((s.u.keepHeartbeat h.port live health).vp h.port).state = 3) :
    heartbeat h seq live health flags s.u = (s.u.keepHeartbeat h.port live health).upVp h.port fun x => { x with misses := 0 } :=
  (recvS_hears heard _).trans (if_pos failed)

variable (works : ((s.u.keepHeartbeat h.port live health).vp h.port).state ≠ 3)
include works

/-- Of an accelerator not declared failed: Health 3 is a fault of the accelerator but while this T3 resets its compute part. -/
theorem heartbeat_works : heartbeat h seq live health flags s.u =
    let v := (s.u.keepHeartbeat h.port live health).clearSuspect h.port
    if (health = 3 && !(v.cprRunning h.port)) = true then v.declareL1 h.port 4 0xFFFFFFFF
    else (v.leftWithoutReset h.port ((s.u.count 0x700100).vp h.port).live live).foldl (fun u c => u.declareL0 h.port c 0xFFFFFFFF) v :=
  (recvS_hears heard _).trans (if_neg works)

end

/-! HB_MISS_INTERVAL and PROBE_WAIT_EXPIRY (R287 to R289) -/

section
variable {u : Units} {p : Nat}

/-- A missed heartbeat counts: the block was active, and its port is enabled and neither retrains fast nor changes lanes. -/
def Units.missCounts (u : Units) (p : Nat) : Prop :=
  ((u.ig p).active = true ∨ (u.vp p).state = 1 ∨ (u.vp p).state = 2) ∧ (u.port p).state ≠ 0 ∧ (u.port p).state ≠ 5 ∧ (u.port p).state ≠ 6

theorem Units.not_missCounts_iff :
    (!((u.ig p).active || (u.vp p).state = 1 || (u.vp p).state = 2) || (u.port p).state = 0 || (u.port p).state = 5 || (u.port p).state = 6) = true ↔
      ¬u.missCounts p := by
  simp only [Units.missCounts, Bool.or_eq_true, Bool.not_eq_true', ← Bool.not_eq_true, decide_eq_true_eq, Decidable.not_and_iff_not_or_not,
    Decidable.not_not, ne_eq, or_assoc]

theorem hbMissInterval_idle (no : ¬u.missCounts p) : hbMissInterval p u = u := if_pos (Units.not_missCounts_iff.2 no)

/-- The miss is counted, and the limit makes the accelerator suspect. -/
theorem hbMissInterval_counts (counts : u.missCounts p) : hbMissInterval p u =
    let v := (u.upVp p fun x => { x with misses := min 15 (x.misses + 1) }).count 0x700108
    if bits v.vigilCfg 3 0 ≤ (v.vp p).misses then v.suspect p 0 else v :=
  if_neg fun no => Units.not_missCounts_iff.1 no counts

theorem probeWaitExpiry_idle (no : (u.vp p).state ≠ 2) : probeWaitExpiry p u = u := if_pos no

/-- A suspect's probe has gone unanswered: the next one, or after the last the declaration. -/
theorem probeWaitExpiry_suspect (suspect : (u.vp p).state = 2) : probeWaitExpiry p u =
    let v := u.upIg p fun g => { g with regs := g.regs.filter fun r => r.why ≠ .probe }
    if (u.vp p).probes < bits u.vigilCfg 7 4 then v.probe p else v.declareL1 p (u.vp p).cause 0xFFFFFFFF :=
  if_neg (not_not_intro suspect)

end

/-! FAULT_REPORT (R290, R552) -/

/-- The units once a fault report is passed on to Flicker. -/
def Units.passFault (u : Units) (p code sev c tag detail : Nat) : Units :=
  (u.emit (.bus 15 [p, code, sev, c, (u.ig p).opTag tag, detail])).later (.flickerFault p code sev)

/-- A fault report by its severity: passed on alone, the context's at L0, or the accelerator's at L1. -/
theorem faultReport_hears {s : State} {h : Sys2Proof.SHdr} {code sev c tag time detail : Nat} (heard : s.hears h 0x07) :
    faultReport h code sev c tag time detail s.u =
      let v := s.u.passFault h.port code sev c tag detail
      if sev ≤ 1 then v
      else if (sev = 2 && c < 64) = true then v.declareL0 h.port c ((s.u.ig h.port).opTag tag)
      else v.declareL1 h.port (if sev = 2 then 3 else 2) ((s.u.ig h.port).opTag tag) :=
  recvS_hears heard _

/-! REG_RESPONSE (R61, R82, R289, R293): by what its REG_ACCESS was sent for -/

section
variable {u : Units} {m : Mem} {h : Sys2Proof.SHdr} {st : Nat} {words : List Nat}

theorem regResponse_dropped {v : Units} (drop : u.dropS h 0x0A = some v) : regResponse h st words m u = (m, v) := by
  simp only [regResponse, drop]

variable (pass : u.dropS h 0x0A = none)
include pass

theorem regResponse_unasked (none : u.regReq h.port h.seq = none) : regResponse h st words m u = (m, u) := by
  simp only [regResponse, pass, none]

variable {r : RegReq} (asked : u.regReq h.port h.seq = some r)
include asked

theorem regResponse_bringup (why : r.why = .bringup) :
    regResponse h st words m u = (m, (u.dropReg h.port h.seq).upStep h.port (decide (st = St.OK)) r.offset words) := by
  simp only [regResponse, pass, asked, why]

theorem regResponse_probe (why : r.why = .probe) :
    regResponse h st words m u = (m, let v := u.dropReg h.port h.seq; if st = St.OK then v.clearSuspect h.port else v) := by
  simp only [regResponse, pass, asked, why, decide_eq_true_eq]

theorem regResponse_ctxCtl {c v old : Nat} (why : r.why = .ctxCtl c v old) : regResponse h st words m u =
    (m, let w := u.dropReg h.port h.seq; if st = St.OK then w else w.ctlRefused h.port c v old st) := by
  simp only [regResponse, pass, asked, why, decide_eq_true_eq]

theorem regResponse_key {a b c d : Nat} (why : r.why = .key a b c d) : regResponse h st words m u = (m, u.dropReg h.port h.seq) := by
  simp only [regResponse, pass, asked, why]

theorem regResponse_act {c : Nat} (why : r.why = .act c) : regResponse h st words m u =
    (m, let v := u.dropReg h.port h.seq; if st = St.OK then v.later (.ledgerAct h.port c words) else v) := by
  simp only [regResponse, pass, asked, why, decide_eq_true_eq]

/-- A context that waits at the gate is not stalled; any other is asked what it waits for. -/
theorem regResponse_gateWait {c : Nat} (why : r.why = .gateWait c) : regResponse h st words m u =
    (m, let v := u.dropReg h.port h.seq
        if (decide (st = St.OK) && bitAt (words.getD 0 0 + 2 ^ 32 * words.getD 1 0) c) = true then
          v.upWatchE h.port c fun w => { w with stalled := false }
        else v.askWait h.port c) := by
  simp only [regResponse, pass, asked, why]

section
variable {ring tag stamp gen addr : Nat} (why : r.why = .host ring tag stamp gen addr)
include why

/-- The words that IGTAN_REG reads go to the command's Mantle address. -/
theorem regResponse_host_read (ok : st = St.OK) (reads : r.write = false) : regResponse h st words m u =
    let w := unitWrite Ag.sconce addr ((words.take r.count).flatMap (leBytes 4)) m (u.dropReg h.port h.seq)
    (w.1, w.2.done { ring := ring, tag := tag, gen := gen, stamp := stamp } 0x078 0x0708 St.OK) := by
  simp only [regResponse, pass, asked, why]
  exact if_pos (by simp [ok, reads])

theorem regResponse_host_ends (no : st ≠ St.OK ∨ r.write = true) : regResponse h st words m u =
    (m, (u.dropReg h.port h.seq).done { ring := ring, tag := tag, gen := gen, stamp := stamp } 0x078 0x0708 st) := by
  simp only [regResponse, pass, asked, why]
  refine if_neg fun reads => ?_
  simp only [Bool.and_eq_true, decide_eq_true_eq, Bool.not_eq_true'] at reads
  exact no.elim (· reads.1) (Bool.eq_false_iff.1 reads.2)

end

end

/-! Progress of a watched context (R292, R293, R296) -/

section
variable {u : Units} {p c : Nat}

section
variable (unwatched : u.watchOf p c = none)
include unwatched

theorem progressHalfTimeout_unwatched : progressHalfTimeout p c u = u := by simp only [progressHalfTimeout, unwatched]
theorem progressTimeout_unwatched : progressTimeout p c u = u := by simp only [progressTimeout, unwatched]
theorem waitforRepeat_unwatched : waitforRepeat p c u = u := by simp only [waitforRepeat, unwatched]

end

variable {w : Watch} (watched : u.watchOf p c = some w)
include watched

/-- The context is stalled, and its gate wait is read, unless its timers are frozen or it was stalled before. -/
theorem progressHalfTimeout_watched : progressHalfTimeout p c u =
    if (w.frozen || w.stalled) = true then u
    else ((u.upWatchE p c fun w => { w with stalled := true }).raise Ev.VIGIL_CTX_STALLED 0 0x070
      (payloadOf [(0, 4, w.job), (4, 1, p), (5, 1, c), (6, 2, w.gen)])).regAccess p 0x20 false 2 [] (.gateWait c) := by
  simp only [progressHalfTimeout, watched]

theorem progressTimeout_watched : progressTimeout p c u = if (w.frozen || w.broken) = true then u else u.declareL0 p c 0xFFFFFFFF := by
  simp only [progressTimeout, watched]

theorem waitforRepeat_watched : waitforRepeat p c u = if (w.stalled && !w.frozen) = true then u.askWait p c else u := by
  simp only [waitforRepeat, watched]

end

section
variable {u : Units} {ring : Nat}

theorem ringEntryUnconsumed_idle
    (no : 16 ≤ (u.desc ring).port ∨ 64 ≤ (u.desc ring).context ∨ u.watchOf (u.desc ring).port (u.desc ring).context = none) :
    ringEntryUnconsumed ring u = u := by
  unfold ringEntryUnconsumed
  by_cases out : 16 ≤ (u.desc ring).port ∨ 64 ≤ (u.desc ring).context
  · exact if_pos (by simpa using out)
  · have unwatched := (or_assoc.2 no).resolve_left out
    simp only [unwatched, ite_self]

theorem ringEntryUnconsumed_watched {w : Watch} (port : (u.desc ring).port < 16) (ctx : (u.desc ring).context < 64)
    (watched : u.watchOf (u.desc ring).port (u.desc ring).context = some w) : ringEntryUnconsumed ring u =
      if (w.frozen || (u.desc ring).q.isEmpty) = true then u else u.declareL0 (u.desc ring).port (u.desc ring).context 0xFFFFFFFF := by
  unfold ringEntryUnconsumed
  refine (if_neg (by simp [port, ctx])).trans ?_
  simp only [watched]

end

/-- Settles O43: each clause is what its command's branch comes to, by the lemmas above. -/
theorem vigilWatchesAcceleratorsAndContexts : Obligations.VigilWatchesAcceleratorsAndContexts := by
  unfold Obligations.VigilWatchesAcceleratorsAndContexts
  intro s h port ctx
  refine ⟨?heartbeat, ?miss, ?probeExpiry, ?faultReport, ⟨?dropped, ?unasked, ?answers⟩, ?unwatched, ?watched, ?ring⟩
  case heartbeat =>
    intro seq live health flags heard u1 u2
    refine ⟨fun failed => State.runU_of_eq (heartbeat_failed heard failed), fun works bad idle => ?_, fun works fine => ?_⟩
    · exact State.runU_of_eq ((heartbeat_works heard works).trans (if_pos (Bool.and_eq_true_iff.2 ⟨decide_eq_true bad, congrArg not idle⟩)))
    · refine State.runU_of_eq ((heartbeat_works heard works).trans (if_neg fun bad => ?_))
      simp only [Bool.and_eq_true, decide_eq_true_eq, Bool.not_eq_true'] at bad
      exact fine.elim (· bad.1) (Bool.eq_false_iff.1 bad.2)
  case miss =>
    intro x counts u1
    exact ⟨fun counts few => State.runU_of_eq ((hbMissInterval_counts counts).trans (if_neg (Nat.not_le.2 few))),
      fun counts limit => State.runU_of_eq ((hbMissInterval_counts counts).trans (if_pos limit)),
      fun no => State.runU_of_eq (hbMissInterval_idle no)⟩
  case probeExpiry =>
    intro u1
    exact ⟨fun suspect =>
      ⟨fun left => State.runU_of_eq ((probeWaitExpiry_suspect suspect).trans (if_pos left)),
       fun spent => State.runU_of_eq ((probeWaitExpiry_suspect suspect).trans (if_neg (Nat.not_lt.2 spent)))⟩,
      fun no => State.runU_of_eq (probeWaitExpiry_idle no)⟩
  case faultReport =>
    intro code sev c tag time detail heard g u1
    have branches := faultReport_hears (code := code) (sev := sev) (c := c) (tag := tag) (time := time) (detail := detail) heard
    refine ⟨fun low => State.runU_of_eq (branches.trans (if_pos low)), ?context, ?contexts, ?accelerator⟩
    case context =>
      rintro rfl one
      exact State.runU_of_eq (branches.trans ((if_neg (by decide)).trans (if_pos (by simpa using one))))
    case contexts =>
      rintro rfl all
      exact State.runU_of_eq (branches.trans ((if_neg (by decide)).trans (if_neg (by simpa using all))))
    case accelerator =>
      intro high
      have other : sev ≠ 2 := Nat.ne_of_gt high
      refine State.runU_of_eq (branches.trans ((if_neg (by omega)).trans ((if_neg (by simp [other])).trans ?_)))
      rw [if_neg other]
      rfl
  case dropped => exact fun st words u drop => State.run_of_units (regResponse_dropped drop)
  case unasked => exact fun st words pass none => State.run_of_units (regResponse_unasked pass none)
  case answers =>
    intro st words r pass asked u1 word
    refine ⟨fun why => State.run_of_units (regResponse_bringup pass asked why), fun why => ?probe, fun c v old why => ?ctxCtl,
      fun a b c d why => State.run_of_units (regResponse_key pass asked why), fun c why => ?act, fun c why => ?gateWait,
      fun ring tag stamp gen addr why => ⟨fun ok reads => State.run_of_eq (regResponse_host_read pass asked why ok reads),
        fun no => State.run_of_units (regResponse_host_ends pass asked why no)⟩⟩
    case probe => exact State.run_ite (regResponse_probe pass asked why)
    case ctxCtl => exact State.run_ite (regResponse_ctxCtl pass asked why)
    case act => exact State.run_ite (regResponse_act pass asked why)
    case gateWait =>
      have branches := regResponse_gateWait (m := s.mem) (st := st) (words := words) pass asked why
      refine ⟨fun ok waits => State.run_of_units (branches.trans (congrArg _ (if_pos ?_))),
        fun no => State.run_of_units (branches.trans (congrArg _ (if_neg fun waits => ?_)))⟩
      · exact Bool.and_eq_true_iff.2 ⟨decide_eq_true ok, waits⟩
      · simp only [Bool.and_eq_true, decide_eq_true_eq] at waits
        exact no.elim (· waits.1) (Bool.eq_false_iff.1 · waits.2)
  case unwatched =>
    exact fun none => ⟨State.runU_of_eq (progressHalfTimeout_unwatched none), State.runU_of_eq (progressTimeout_unwatched none),
      State.runU_of_eq (waitforRepeat_unwatched none)⟩
  case watched =>
    intro w watched
    exact ⟨fun runs moves => State.runU_of_eq ((progressHalfTimeout_watched watched).trans (if_neg (by simp [runs, moves]))),
      fun no => State.runU_of_eq ((progressHalfTimeout_watched watched).trans (if_pos (Bool.or_eq_true_iff.2 no))),
      fun runs whole => State.runU_of_eq ((progressTimeout_watched watched).trans (if_neg (by simp [runs, whole]))),
      fun no => State.runU_of_eq ((progressTimeout_watched watched).trans (if_pos (Bool.or_eq_true_iff.2 no))),
      fun stalled runs => State.runU_of_eq ((waitforRepeat_watched watched).trans (if_pos (by simp [stalled, runs]))),
      fun no => State.runU_of_eq ((waitforRepeat_watched watched).trans (if_neg (by rcases no with no | no <;> simp [no])))⟩
  case ring =>
    intro ring d
    refine ⟨fun w port ctx watched => ?_, fun no => State.runU_of_eq (ringEntryUnconsumed_idle no)⟩
    have branches := ringEntryUnconsumed_watched port ctx watched
    exact ⟨fun runs holds => State.runU_of_eq (branches.trans (if_neg (by simpa [runs] using holds))),
      fun no => State.runU_of_eq (branches.trans (if_pos (by simpa using no)))⟩

end Sys2Proof.Machine
end

section
/-!
PROOFS. How the Snuffer resets, watches and fences (12 R292, R300, R303 to R306, R311; 03 R76, R77; 05 R123): what each message, timer and command
does, branch by branch, and the statement about them.
-/
namespace Sys2Proof.Machine

/-! RESET_CONFIRM and its wait (R76, R77, R303, R304) -/

/-- The units once a reset runs no more; the confirm of a context reset says from which step the context applies. -/
def Units.endReset (u : Units) (p kind : Nat) (r : ResetOut) : Units :=
  u.upIg p fun g => { g with resets := g.resets.filter fun x => x.seq ≠ r.seq,
                             applyStep := if kind = 1 then NMap.put g.applyStep 0 r.ctx r.released else g.applyStep }

/-- The port is clean, and what the reset held back goes on (R457). -/
def Units.resumeAfterReset (u : Units) (p kind : Nat) (r : ResetOut) : Units :=
  (((u.upV fun v => { v with clean := setBit v.clean p }).refreeze p).releaseRun p (if kind = 2 then 0xFF else r.ctx)).ctlAll p

/-- Where `all` holds every SNUF_RESET of the port completes, and else those that `which` names. -/
theorem Units.resetCmdsDone_all_or (u : Units) (p st : Nat) (all : Bool) (which : Nat → Bool) :
    (if all then u.resetCmdsDone p st fun _ => true else u.resetCmdsDone p st which) = u.resetCmdsDone p st fun c => all || which c := by
  cases all <;> rfl

section
variable {s : State} {h : Sys2Proof.SHdr} {kind st gen duration : Nat} (heard : s.hears h 0x0E)
include heard

theorem resetConfirm_unknown (none : ((s.u.ig h.port).resets.find? fun r => r.seq = h.seq && r.kind = kind) = none) :
    resetConfirm h kind st gen duration s.u = s.u := by
  refine (recvS_hears heard _).trans ?_
  simp only [none]

variable {r : ResetOut} (runs : ((s.u.ig h.port).resets.find? fun r => r.seq = h.seq && r.kind = kind) = some r)
include runs

/-- The confirm of a reset that runs: it has ended, a reset of the compute part has taken it over, or nothing is confirmed. -/
theorem resetConfirm_known : resetConfirm h kind st gen duration s.u =
    let u1 := s.u.endReset h.port kind r
    let u2 := u1.resumeAfterReset h.port kind r
    if st = St.OK then
      ((u2.resetCmdsDone h.port St.OK fun c => (u2.ig h.port).resets.isEmpty || c = r.ctx).later (.confirmed h.port r.ctx)).containCheck h.port
    else if (st = St.ABORTED_RESET && kind = 1) = true then (u1.resetCmdsDone h.port St.ABORTED_RESET fun c => c = r.ctx).refreeze h.port
    else s.u := by
  refine (recvS_hears heard _).trans ?_
  simp only [runs, Units.resetCmdsDone_all_or]
  rfl

end

/-- The units once a reset is recorded as not confirmed. -/
def Units.noConfirm (u : Units) (kind : Nat) : Units :=
  (u.count 0x780118).raise Ev.RESET_NO_CONFIRM (if kind = 2 then 1 else 0) 0x078 0

/-- A context reset that stays unconfirmed takes the compute part with it: the block can reset it, and CPR_ON_CTX_FAIL is set. -/
def Units.escalates (u : Units) (p kind : Nat) : Prop := kind = 1 ∧ (u.ig p).has 5 = true ∧ bitAt (u.cfg 0x78000C 1) 0 = true

theorem Units.escalates_iff {u : Units} {p kind : Nat} :
    (kind = 1 && (u.ig p).has 5 && bitAt (u.cfg 0x78000C 1) 0) = true ↔ u.escalates p kind := by
  simp only [Units.escalates, Bool.and_eq_true, decide_eq_true_eq, and_assoc]

/-- The context's reset and containment give way to a declaration of the accelerator. -/
def Units.escalate (u : Units) (p : Nat) (r : ResetOut) : Units :=
  (((u.upIg p fun g => { g with resets := g.resets.filter fun x => x.seq ≠ r.seq }).resetCmdsDone p St.ABORTED_RESET fun c => c = r.ctx).upV fun v =>
    { v with contains := v.contains.filter fun x => !(x.port = p && x.ctx = r.ctx) }).declareL1 p 0 0xFFFFFFFF

section
variable {u : Units} {p kind c : Nat} {r : ResetOut} (out : ((u.ig p).resets.find? fun r => r.kind = kind && (kind = 2 || r.ctx = c)) = some r)
include out

theorem resetConfirmWaitExpiry_resends (once : r.resent = false) : resetConfirmWaitExpiry p kind c u =
    (u.upIg p fun g => { g with resets := g.resets.map fun x => if x.seq = r.seq then { x with resent := true } else x }).resetMsg p r := by
  simp only [resetConfirmWaitExpiry, out, once]
  rfl

variable (twice : r.resent = true)
include twice

theorem resetConfirmWaitExpiry_resent : resetConfirmWaitExpiry p kind c u =
    let v := u.noConfirm kind
    if (kind = 1 && (v.ig p).has 5 && bitAt (v.cfg 0x78000C 1) 0) = true then v.escalate p r else v.lose p 0 := by
  simp only [resetConfirmWaitExpiry, out, twice]
  rfl

theorem resetConfirmWaitExpiry_escalates (wider : (u.noConfirm kind).escalates p kind) :
    resetConfirmWaitExpiry p kind c u = (u.noConfirm kind).escalate p r :=
  (resetConfirmWaitExpiry_resent out twice).trans (if_pos (Units.escalates_iff.2 wider))

theorem resetConfirmWaitExpiry_loses (no : ¬(u.noConfirm kind).escalates p kind) :
    resetConfirmWaitExpiry p kind c u = (u.noConfirm kind).lose p 0 :=
  (resetConfirmWaitExpiry_resent out twice).trans (if_neg fun wider => no (Units.escalates_iff.1 wider))

end

/-! GENERATION_BUMP_ACK (R123, R300, R304, R306) -/

/-- The containment that waits for the acknowledgement of its generation bump. -/
def Units.unbumped (u : Units) (p c : Nat) : Option Contain := u.vig.contains.find? fun x => x.port = p && x.ctx = c && !x.bumped

/-- The units once the acknowledgement has come. -/
def Units.bumpAcked (u : Units) (p c : Nat) : Units :=
  u.upV fun v => { v with contains := v.contains.map fun y => if y.port = p && y.ctx = c then { y with bumped := true } else y }

/-- RESET of the compute part, under the generation before the new one. -/
def Units.resetWhole (u : Units) (p : Nat) : Units :=
  (u.sendReset p 2 0xFF (u.accGen p) 0 0 (wrapW 16 (u.accGen p + 2 ^ 16 - 1)) (u.mirroredOn p)).abortAll p (List.range 64)

/-- RESET of each enabled context, under the generations before the new ones: a block without the compute-part reset. -/
def Units.resetEach (u : Units) (p : Nat) : Units :=
  ((u.enabledOn p).foldl (fun v c => v.sendReset p 1 c (v.ctxGen p c) (v.released (v.jobOf p c)) (wrapW 16 (u.ctxGen p c + 2 ^ 16 - 1)) (v.accGen p) false)
    u).abortAll p (u.enabledOn p)

/-- The fault reports of an L1 containment go out, its spare is looked for, and the regions of the position are freed. -/
def Units.reportWhole (u : Units) (p : Nat) (jobs : List Nat) : Units :=
  let v := (u.faultUp 1 1 p 0xFF St.ABORTED_RESET jobs).later (.candidate p 0xFF)
  v.freeOwner (v.cidOf p) 0xFF

section
variable {u : Units} {p c : Nat}

theorem generationBumpAck_none (none : u.unbumped p c = none) : generationBumpAck p c u =
    if (if c < 64 then u.resetting p c else u.cprRunning p) = true then u.freeOwner (u.cidOf p) c else u := by
  unfold Units.unbumped at none
  simp only [generationBumpAck, none]

variable {x : Contain} (waits : u.unbumped p c = some x)
include waits

theorem generationBumpAck_context (context : x.level = 0) : generationBumpAck p c u =
    let v := u.bumpAcked p c
    (v.freeOwner (v.cidOf p) c).containCheck p := by
  unfold Units.unbumped at waits
  simp only [generationBumpAck, waits]
  exact if_pos context

variable (whole : x.level ≠ 0)
include whole

theorem generationBumpAck_computePart (feature : ((u.bumpAcked p c).ig p).has 5 = true) : generationBumpAck p c u =
    ((u.bumpAcked p c).resetWhole p).reportWhole p x.jobs := by
  unfold Units.unbumped at waits
  rw [Units.bumpAcked] at feature
  simp only [generationBumpAck, waits, feature]
  exact if_neg whole

/-- Without the compute-part reset the enabled contexts are reset; with none enabled the position is lost at once. -/
theorem generationBumpAck_contexts (lacks : ((u.bumpAcked p c).ig p).has 5 = false) : generationBumpAck p c u =
    let w := ((u.bumpAcked p c).resetEach p).reportWhole p x.jobs
    if ((u.bumpAcked p c).enabledOn p).isEmpty = true then w.lose p 1 else w := by
  unfold Units.unbumped at waits
  rw [Units.bumpAcked] at lacks
  simp only [generationBumpAck, waits, lacks]
  exact if_neg whole

end

/-! VIGIL_WATCH, VIGIL_UNWATCH and SNUF_UNFENCE (R292, R305, R311) -/

/-- The operands of VIGIL_WATCH are in their ranges. -/
def watchFits (port ctx prio mask timeout : Nat) : Prop :=
  port < 16 ∧ ctx < 64 ∧ prio ≤ 7 ∧ mask ≤ 15 ∧ (timeout = 0 ∨ 10 ≤ timeout ∧ timeout ≤ 600000)

theorem not_watchFits_iff {port ctx prio mask timeout : Nat} :
    (16 ≤ port || 64 ≤ ctx || 7 < prio || 15 < mask || (timeout ≠ 0 && (timeout < 10 || 600000 < timeout))) = true ↔
      ¬watchFits port ctx prio mask timeout := by
  simp only [watchFits, Bool.or_eq_true, Bool.and_eq_true, decide_eq_true_eq]
  omega

section
variable {u : Units} {c : Sys2Proof.Cmd} {port ctx : Nat} (op : isOperator (stampPriv c.stamp) = true)
include op

section
variable {job prio mask timeout : Nat}

theorem vigilWatch_badParam (bad : ¬watchFits port ctx prio mask timeout) :
    vigilWatch c job port ctx prio mask timeout u = u.done c 0x070 0x0701 St.BAD_PARAM :=
  (operator_ok op _ _ _).trans (if_pos (not_watchFits_iff.2 bad))

theorem vigilWatch_fits (fits : watchFits port ctx prio mask timeout) : vigilWatch c job port ctx prio mask timeout u =
    if (!(u.ctxEnabled port ctx)) = true then u.done c 0x070 0x0701 St.BAD_STATE
    else (u.setWatch job port ctx prio mask timeout).done c 0x070 0x0701 St.OK :=
  (operator_ok op _ _ _).trans (if_neg fun bad => not_watchFits_iff.1 bad fits)

end

theorem vigilUnwatch_badParam (bad : 16 ≤ port ∨ 64 ≤ ctx) : vigilUnwatch c port ctx u = u.done c 0x070 0x0702 St.BAD_PARAM :=
  (operator_ok op _ _ _).trans (if_pos (by simpa using bad))

theorem vigilUnwatch_fits (p : port < 16) (x : ctx < 64) : vigilUnwatch c port ctx u =
    ((u.upV fun v => { v with watch := NMap.del v.watch (64 * port + ctx) }).watchReport (u.jobOf port ctx) port ctx 0 0 false).done c 0x070 0x0702 St.OK :=
  (operator_ok op _ _ _).trans (if_neg (by simp [p, x]))

theorem snufUnfence_badParam (bad : 16 ≤ port) : snufUnfence c port u = u.done c 0x078 0x0704 St.BAD_PARAM :=
  (operator_ok op _ _ _).trans (if_pos bad)

theorem snufUnfence_fits (p : port < 16) : snufUnfence c port u =
    if (!(u.fenced port) || !(bitAt u.vig.clean port)) = true then u.done c 0x078 0x0704 St.BAD_STATE
    else (u.unfence port).done c 0x078 0x0704 St.OK :=
  (operator_ok op _ _ _).trans (if_neg (Nat.not_le.2 p))

end

/-! SNUF_RESET (R77, R311) -/

/-- The context is one of the tenant's own, and its reset alone is asked for. -/
def Units.ownReset (u : Units) (c : Sys2Proof.Cmd) (port ctx kind : Nat) : Prop :=
  isTenant (stampPriv c.stamp) = true ∧ kind = 1 ∧ port < 16 ∧ ctx < 64 ∧ u.jobOf port ctx ≠ 0 ∧ u.jobOf port ctx = (u.desc c.ring).job

/-- The sender may reset: an operator, or a tenant its own context. -/
def Units.mayReset (u : Units) (c : Sys2Proof.Cmd) (port ctx kind : Nat) : Prop :=
  isOperator (stampPriv c.stamp) = true ∨ u.ownReset c port ctx kind

/-- The operands of SNUF_RESET are in their ranges. -/
def resetFits (port ctx kind : Nat) : Prop := port < 16 ∧ (ctx < 64 ∨ ctx = 0xFF) ∧ (kind = 1 ∨ kind = 2)

theorem not_resetFits_iff {port ctx kind : Nat} :
    (16 ≤ port || (64 ≤ ctx && ctx ≠ 0xFF) || (kind ≠ 1 && kind ≠ 2)) = true ↔ ¬resetFits port ctx kind := by
  simp only [resetFits, Bool.or_eq_true, Bool.and_eq_true, decide_eq_true_eq]
  omega

/-- The contexts that SNUF_RESET names: one, or those enabled at the port. -/
def Units.resetTargets (u : Units) (port ctx : Nat) : List Nat := if ctx = 0xFF then u.enabledOn port else [ctx]

/-- A reset of the compute part runs, or one of a context that is to be reset. -/
def Units.resetBusy (u : Units) (port ctx kind : Nat) : Prop :=
  u.cprRunning port = true ∨ kind = 1 ∧ ∃ x ∈ u.resetTargets port ctx, u.resetting port x = true

/-- The command waits for the confirms. -/
def Units.noteReset (u : Units) (c : Sys2Proof.Cmd) (port k : Nat) : Units :=
  u.upV fun v => { v with resetCmds := v.resetCmds ++ [(port, k, c.ring, c.tag, c.stamp, c.gen)] }

section
variable {u : Units} {c : Sys2Proof.Cmd} {port ctx kind : Nat}

theorem Units.not_mayReset_iff :
    (!(isOperator (stampPriv c.stamp)) && !(isTenant (stampPriv c.stamp) && kind = 1 && port < 16 && ctx < 64 && u.jobOf port ctx ≠ 0 &&
      u.jobOf port ctx = (u.desc c.ring).job)) = true ↔ ¬u.mayReset c port ctx kind := by
  rw [← Bool.not_or, Bool.not_eq_true', ← Bool.not_eq_true]
  simp only [Units.mayReset, Units.ownReset, Bool.or_eq_true, Bool.and_eq_true, decide_eq_true_eq, and_assoc]

theorem Units.resetBusy_iff :
    (u.cprRunning port || (kind = 1 && (u.resetTargets port ctx).any fun x => u.resetting port x)) = true ↔ u.resetBusy port ctx kind := by
  simp only [Units.resetBusy, Bool.or_eq_true, Bool.and_eq_true, decide_eq_true_eq, List.any_eq_true]

theorem snufReset_refused (no : ¬u.mayReset c port ctx kind) : snufReset c port ctx kind u = u.done c 0x078 0x0703 St.NOT_PRIVILEGED :=
  if_pos (Units.not_mayReset_iff.2 no)

variable (may : u.mayReset c port ctx kind)
include may

theorem snufReset_badParam (bad : ¬resetFits port ctx kind) : snufReset c port ctx kind u = u.done c 0x078 0x0703 St.BAD_PARAM :=
  (if_neg fun no => Units.not_mayReset_iff.1 no may).trans (if_pos (not_resetFits_iff.2 bad))

variable (fits : resetFits port ctx kind)
include fits

theorem snufReset_unsupported (whole : kind = 2) (lacks : (u.ig port).has 5 = false) :
    snufReset c port ctx kind u = u.done c 0x078 0x0703 St.UNSUPPORTED :=
  (if_neg fun no => Units.not_mayReset_iff.1 no may).trans ((if_neg fun bad => not_resetFits_iff.1 bad fits).trans
    (if_pos (by simp [whole, lacks])))

variable (feature : kind = 2 → (u.ig port).has 5 = true)
include feature

/-- A reset that the block can carry out, by the resets that run. -/
theorem snufReset_supported : snufReset c port ctx kind u =
    if (u.cprRunning port || (kind = 1 && (u.resetTargets port ctx).any fun x => u.resetting port x)) = true then u.done c 0x078 0x0703 St.BUSY_RETRY
    else if (kind = 1 && (u.resetTargets port ctx).isEmpty) = true then u.done c 0x078 0x0703 St.OK
    else
      let v := u.noteReset c port (if kind = 2 then 0xFF else if ctx = 0xFF then 0xFE else ctx)
      if kind = 1 then (u.resetTargets port ctx).foldl (fun u x => u.resetCtx port x false (u.released (u.jobOf port x))) v
      else
        let w := v.installAll port
        (w.sendReset port 2 0xFF (w.accGen port) 0 0 (v.accGen port) (w.mirroredOn port)).abortAll port (List.range 64) :=
  (if_neg fun no => Units.not_mayReset_iff.1 no may).trans ((if_neg fun bad => not_resetFits_iff.1 bad fits).trans
    (if_neg (by simpa using feature)))

theorem snufReset_busy (busy : u.resetBusy port ctx kind) : snufReset c port ctx kind u = u.done c 0x078 0x0703 St.BUSY_RETRY :=
  (snufReset_supported may fits feature).trans (if_pos (Units.resetBusy_iff.2 busy))

variable (idle : ¬u.resetBusy port ctx kind)
include idle

theorem snufReset_nothing (context : kind = 1) (none : u.resetTargets port ctx = []) :
    snufReset c port ctx kind u = u.done c 0x078 0x0703 St.OK :=
  (snufReset_supported may fits feature).trans ((if_neg fun busy => idle (Units.resetBusy_iff.1 busy)).trans (if_pos (by simp [context, none])))

theorem snufReset_contexts (context : kind = 1) (some_ : u.resetTargets port ctx ≠ []) : snufReset c port ctx kind u =
    (u.resetTargets port ctx).foldl (fun u x => u.resetCtx port x false (u.released (u.jobOf port x)))
      (u.noteReset c port (if ctx = 0xFF then 0xFE else ctx)) := by
  refine (snufReset_supported may fits feature).trans ((if_neg fun busy => idle (Units.resetBusy_iff.1 busy)).trans ((if_neg ?_).trans
    ((if_pos context).trans ?_)))
  · simp [some_]
  · rw [if_neg (by omega : ¬kind = 2)]

theorem snufReset_computePart (whole : kind = 2) : snufReset c port ctx kind u =
    let v := (u.noteReset c port 0xFF).installAll port
    (v.sendReset port 2 0xFF (v.accGen port) 0 0 (u.accGen port) (v.mirroredOn port)).abortAll port (List.range 64) := by
  refine (snufReset_supported may fits feature).trans ((if_neg fun busy => idle (Units.resetBusy_iff.1 busy)).trans ((if_neg ?_).trans
    ((if_neg ?_).trans ?_)))
  · simp [whole]
  · omega
  · rw [if_pos whole]
    rfl

end

/-- Settles O44: each clause is what its command's branch comes to, by the lemmas above. -/
theorem snufferResetsAndFences : Obligations.SnufferResetsAndFences := by
  unfold Obligations.SnufferResetsAndFences
  intro s h c port ctx
  refine ⟨?confirm, ?expiry, ⟨?bump, ?unasked⟩, ?operator, ?refused, ?reset⟩
  case confirm =>
    intro kind st gen duration heard
    refine ⟨fun none => State.runU_of_eq (resetConfirm_unknown heard none), fun r runs => ?_⟩
    have branches := resetConfirm_known (st := st) (gen := gen) (duration := duration) heard runs
    refine ⟨fun ok => State.runU_of_eq (branches.trans (if_pos ok)), ?taken, fun bad other => State.runU_of_eq (branches.trans
      ((if_neg bad).trans (if_neg (by simpa [Decidable.imp_iff_not_or] using other))))⟩
    case taken =>
      rintro rfl rfl
      exact State.runU_of_eq (branches.trans (if_neg (by decide)))
  case expiry =>
    intro kind r out
    exact ⟨fun once => State.runU_of_eq (resetConfirmWaitExpiry_resends out once), fun twice =>
      ⟨fun yes => State.runU_of_eq (resetConfirmWaitExpiry_escalates out twice yes),
       fun no => State.runU_of_eq (resetConfirmWaitExpiry_loses out twice no)⟩⟩
  case bump =>
    intro x waits u1 old all free
    refine ⟨fun context => State.runU_of_eq (generationBumpAck_context waits context),
      fun whole feature => State.runU_of_eq (generationBumpAck_computePart waits whole feature), fun whole lacks => ?_⟩
    have branches := generationBumpAck_contexts waits whole lacks
    exact ⟨fun some_ => State.runU_of_eq (branches.trans (if_neg fun none => some_ (List.isEmpty_iff.1 none))),
      fun none => State.runU_of_eq (branches.trans (if_pos (List.isEmpty_iff.2 none)))⟩
  case unasked =>
    intro none runs
    exact ⟨fun yes => State.runU_of_eq ((generationBumpAck_none none).trans (if_pos yes)),
      fun no => State.runU_of_eq ((generationBumpAck_none none).trans (if_neg (Bool.eq_false_iff.1 no)))⟩
  case operator =>
    intro op
    refine ⟨fun job prio mask timeout => ?watch, fun p x => State.runU_of_eq (vigilUnwatch_fits op p x),
      fun bad => State.runU_of_eq (vigilUnwatch_badParam op bad), fun bad => State.runU_of_eq (snufUnfence_badParam op bad),
      fun p fenced clean => State.runU_of_eq ((snufUnfence_fits op p).trans (if_neg (by simp [fenced, clean]))),
      fun p no => State.runU_of_eq ((snufUnfence_fits op p).trans (if_pos (by simpa using no)))⟩
    exact ⟨fun bad => State.runU_of_eq (vigilWatch_badParam op bad),
      fun fits on => State.runU_of_eq ((vigilWatch_fits op fits).trans (if_neg (by simp [on]))),
      fun fits off => State.runU_of_eq ((vigilWatch_fits op fits).trans (if_pos (by simp [off])))⟩
  case refused =>
    exact fun no => ⟨fun job prio mask timeout => State.runU_of_eq (operator_refused no _ _ _), State.runU_of_eq (operator_refused no _ _ _),
      State.runU_of_eq (operator_refused no _ _ _)⟩
  case reset =>
    intro kind own may good ends cs busy noted
    exact ⟨fun no => State.runU_of_eq (snufReset_refused no), fun may bad => State.runU_of_eq (snufReset_badParam may bad),
      fun may fits whole lacks => State.runU_of_eq (snufReset_unsupported may fits whole lacks), fun may fits feature =>
      ⟨fun busy => State.runU_of_eq (snufReset_busy may fits feature busy), fun idle context =>
        ⟨fun none => State.runU_of_eq (snufReset_nothing may fits feature idle context none),
         fun some_ => State.runU_of_eq (snufReset_contexts may fits feature idle context some_)⟩,
       fun idle whole => State.runU_of_eq (snufReset_computePart may fits feature idle whole)⟩⟩

end Sys2Proof.Machine
end

section
/-!
PROOFS. Streams and the activity of accelerators (16 R381, R382, R384, R389, R396, R405, R407; 03 R66, R78): what each command, message and timer does,
branch by branch, and the statement about them.
-/
namespace Sys2Proof.Machine

/-- A command that reads the Mantle, leaves it as it was, and leaves the units at `u`. -/
theorem State.run_keeps {s : State} {f : Mem → Units → Units} {u : Units} (e : f s.mem s.u = u) :
    s.run (fun m u => (m, f m u)) = .next (s.after u) := e ▸ rfl

/-! STREAM_OPEN (R382, R383, Table 16-4) -/

/-- The context is enabled and runs for a job of a tenant. -/
def Units.servesTenant (u : Units) (port ctx : Nat) : Prop :=
  u.ctxEnabled port ctx = true ∧ u.jobOf port ctx ≠ 0 ∧ u.tenantFor (u.jobOf port ctx) ≠ 0

theorem Units.not_servesTenant_iff {u : Units} {port ctx : Nat} :
    (!(u.ctxEnabled port ctx) || u.jobOf port ctx = 0 || u.tenantFor (u.jobOf port ctx) = 0) = true ↔ ¬u.servesTenant port ctx := by
  simp only [Units.servesTenant, Bool.or_eq_true, Bool.not_eq_true', ← Bool.not_eq_true, decide_eq_true_eq, Decidable.not_and_iff_not_or_not,
    Decidable.not_not, ne_eq, or_assoc]

/-- No stream is opened: the port drains or is fenced, or the context is being contained. -/
def Units.opensNone (u : Units) (port ctx : Nat) : Prop :=
  u.flick.drains port = true ∨ u.fenced port = true ∨
    (u.vig.contains.any fun x => x.port = port && (x.ctx = 0xFF || x.ctx = ctx)) = true

theorem Units.opensNone_iff {u : Units} {port ctx : Nat} :
    (u.flick.drains port || u.fenced port || u.vig.contains.any fun x => x.port = port && (x.ctx = 0xFF || x.ctx = ctx)) = true ↔
      u.opensNone port ctx := by
  simp only [Units.opensNone, Bool.or_eq_true, or_assoc]

/-- The units once a stream is opened in the free entry `i` with the free chunk `k`. -/
def Units.openTracked (u : Units) (c : Sys2Proof.Cmd) (port ctx client i k : Nat) : Units :=
  let x := newStream u port ctx (u.jobOf port ctx) (u.tenantFor (u.jobOf port ctx)) client [k]
  ((u.upL fun l => { l.pop with streams := NMap.set l.streams i x, order := l.order + 1 }).count 0x800108).done c 0x080 0x0801 St.OK 0 i

/-- The units once the full table is recorded. -/
def Units.tableFull (u : Units) (port ctx : Nat) : Units :=
  u.raise Ev.LEDGER_STREAM_OVERFLOW 2 0x080 0 (t := { Target.none with job := u.jobOf port ctx, port := port, ctx := ctx })

/-- An overflow account of a tenant before its first stream. -/
def OverAcct.empty (tenant : Nat) : OverAcct := { tenant := tenant, acct := Acct.zero, open_ := [], opened := 0, tokens := 0 }

/-- One more untracked stream of a context. -/
def OverAcct.opens (o : OverAcct) (key : Nat) : OverAcct :=
  { o with opened := o.opened + 1, open_ := NMap.put o.open_ 0 key (NMap.getD o.open_ key 0 + 1) }

/-- The units once a stream is opened untracked, to a fresh account or to that of its tenant. -/
def Units.openUntracked (u : Units) (c : Sys2Proof.Cmd) (port ctx tenant : Nat) (acct : Nat × Bool) : Units :=
  let o := if acct.2 = true then OverAcct.empty tenant else NMap.getD u.led.excess acct.1 (OverAcct.empty tenant)
  ((u.upL fun l => { l with excess := NMap.set l.excess acct.1 (o.opens (ctxKey port ctx)) }).count 0x800118).done c 0x080 0x0801 St.OK 0 (2 ^ 31 + acct.1)

/-- A stream that passes the checks takes the free entry and a chunk; a full table may let it in untracked. -/
def placeStream (c : Sys2Proof.Cmd) (port ctx client : Nat) (m : Mem) (u : Units) : Mem × Units :=
  let v := u.tableFull port ctx
  u.led.head.elim
    ((u.overflow (u.jobOf port ctx) (u.tenantFor (u.jobOf port ctx))).elim (m, v.openNo c St.STREAM_TABLE_FULL) fun acct =>
      if (v.freeChunks 1).isNone = true then (m, v.openNo c St.MANTLE_FULL)
      else (m, v.openUntracked c port ctx (u.tenantFor (u.jobOf port ctx)) acct))
    fun i => ((u.freeChunks 1).bind List.head?).elim (m, u.openNo c St.MANTLE_FULL) fun k =>
      (chunkHead m u (u.poolRegion.getD 0) k 0xFFFFFFFF 0, u.openTracked c port ctx client i k)

section
variable {m : Mem} {u : Units} {c : Sys2Proof.Cmd} {port ctx client : Nat}

theorem streamOpen_refused (no : u.mayStream c (u.jobOf port ctx) = false) :
    streamOpen c port ctx client m u = (m, u.done c 0x080 0x0801 St.NOT_PRIVILEGED) :=
  if_pos (congrArg not no)

variable (may : u.mayStream c (u.jobOf port ctx) = true)
include may

theorem streamOpen_badState (no : ¬u.servesTenant port ctx) : streamOpen c port ctx client m u = (m, u.openNo c St.BAD_STATE) :=
  (if_neg (by simp [may])).trans (if_pos (Units.not_servesTenant_iff.2 no))

variable (serves : u.servesTenant port ctx)
include serves

theorem streamOpen_unsupported (none : u.poolRegion.isNone = true) : streamOpen c port ctx client m u = (m, u.openNo c St.UNSUPPORTED) :=
  (if_neg (by simp [may])).trans ((if_neg fun no => Units.not_servesTenant_iff.1 no serves).trans (if_pos none))

variable (pool : u.poolRegion.isNone = false)
include pool

/-- With a pool region: the port, the store, and then the place of the stream. -/
theorem streamOpen_pooled : streamOpen c port ctx client m u =
    if (u.flick.drains port || u.fenced port || u.vig.contains.any fun x => x.port = port && (x.ctx = 0xFF || x.ctx = ctx)) = true then
      (m, u.openNo c St.BUSY_RETRY)
    else if u.backpressure = true then (m, (u.ledEvent Ev.LEDGER_BACKPRESSURE).openNo c St.LEDGER_BACKPRESSURE)
    else placeStream c port ctx client m u := by
  refine (if_neg (by simp [may])).trans ((if_neg fun no => Units.not_servesTenant_iff.1 no serves).trans ((if_neg (by simp [pool])).trans ?_))
  refine congrArg (ite _ _) (congrArg (ite _ _) ?_)
  unfold placeStream
  cases u.led.head with
  | none => cases u.overflow (u.jobOf port ctx) (u.tenantFor (u.jobOf port ctx)) <;> rfl
  | some i =>
    cases u.freeChunks 1 with
    | none => rfl
    | some ks => cases ks <;> rfl

theorem streamOpen_stopped (stopped : u.opensNone port ctx) : streamOpen c port ctx client m u = (m, u.openNo c St.BUSY_RETRY) :=
  (streamOpen_pooled may serves pool).trans (if_pos (Units.opensNone_iff.2 stopped))

variable (goes : ¬u.opensNone port ctx)
include goes

theorem streamOpen_backpressure (full : u.backpressure = true) :
    streamOpen c port ctx client m u = (m, (u.ledEvent Ev.LEDGER_BACKPRESSURE).openNo c St.LEDGER_BACKPRESSURE) :=
  (streamOpen_pooled may serves pool).trans ((if_neg fun stopped => goes (Units.opensNone_iff.1 stopped)).trans (if_pos full))

variable (room : u.backpressure = false)
include room

theorem streamOpen_places : streamOpen c port ctx client m u = placeStream c port ctx client m u :=
  (streamOpen_pooled may serves pool).trans ((if_neg fun stopped => goes (Units.opensNone_iff.1 stopped)).trans (if_neg (Bool.eq_false_iff.1 room)))

section
variable {i : Nat} (entry : u.led.head = some i)
include entry

theorem streamOpen_opens {k : Nat} {ks : List Nat} (chunk : u.freeChunks 1 = some (k :: ks)) : streamOpen c port ctx client m u =
    (chunkHead m u (u.poolRegion.getD 0) k 0xFFFFFFFF 0, u.openTracked c port ctx client i k) := by
  rw [streamOpen_places may serves pool goes room, placeStream, entry, chunk]
  rfl

theorem streamOpen_noChunk (none : u.freeChunks 1 = none) : streamOpen c port ctx client m u = (m, u.openNo c St.MANTLE_FULL) := by
  rw [streamOpen_places may serves pool goes room, placeStream, entry, none]
  rfl

end

variable (full : u.led.head = none)
include full

theorem streamOpen_tableFull (no : u.overflow (u.jobOf port ctx) (u.tenantFor (u.jobOf port ctx)) = none) :
    streamOpen c port ctx client m u = (m, (u.tableFull port ctx).openNo c St.STREAM_TABLE_FULL) := by
  rw [streamOpen_places may serves pool goes room, placeStream, full, no]
  rfl

/-- The stand-in order lets a stream in untracked where the Mantle has a free chunk. -/
theorem streamOpen_untracked {acct : Nat × Bool} (order : u.overflow (u.jobOf port ctx) (u.tenantFor (u.jobOf port ctx)) = some acct) :
    streamOpen c port ctx client m u =
      if ((u.tableFull port ctx).freeChunks 1).isNone = true then (m, (u.tableFull port ctx).openNo c St.MANTLE_FULL)
      else (m, (u.tableFull port ctx).openUntracked c port ctx (u.tenantFor (u.jobOf port ctx)) acct) := by
  rw [streamOpen_places may serves pool goes room, placeStream, full, order]
  rfl

end

/-! STREAM_CLOSE and STREAM_CANCEL (R381, R382, R407) -/

/-- The status for a stream that does not stand: a tenant learns that, an observer nothing. -/
def absentStatus (c : Sys2Proof.Cmd) : Nat := if isTenant (cmdPriv c) = true then St.BAD_STATE else St.NOT_PRIVILEGED

section
variable {u : Units} {c : Sys2Proof.Cmd} {code ref : Nat} {cancel : Bool}

section
variable (tracked : bitAt ref 31 = false)
include tracked

theorem Units.streamEnd_none (none : u.stream (ref % 2 ^ 17) = none) : u.streamEnd c code ref cancel = u.done c 0x080 code (absentStatus c) := by
  refine (if_neg (Bool.eq_false_iff.1 tracked)).trans ?_
  simp only [none]
  exact (apply_ite (u.done c 0x080 code ·) _ _ _).symm

variable {x : Stream} (stream : u.stream (ref % 2 ^ 17) = some x)
include stream

/-- The end of a stream that stands, by who asks and by its state. -/
theorem Units.streamEnd_some : u.streamEnd c code ref cancel =
    if (!(u.mayStream c x.job)) = true then u.done c 0x080 code St.NOT_PRIVILEGED
    else if (x.state = 4 && cancel) = true then
      u.upStream (ref % 2 ^ 17) fun y => { y with cancelWait := true, cmds := y.cmds ++ [(code, c)] }
    else if (x.state = 1 || x.state = 2) = true then
      let v := u.endStream (ref % 2 ^ 17) cancel [(code, c)]
      if (x.state = 2 && cancel) = true then v.upStream (ref % 2 ^ 17) fun y => { y with chunks := [] } else v
    else u.done c 0x080 code St.BAD_STATE := by
  refine (if_neg (Bool.eq_false_iff.1 tracked)).trans ?_
  simp only [stream]

theorem Units.streamEnd_refused (no : u.mayStream c x.job = false) : u.streamEnd c code ref cancel = u.done c 0x080 code St.NOT_PRIVILEGED :=
  (Units.streamEnd_some tracked stream).trans (if_pos (congrArg not no))

variable (may : u.mayStream c x.job = true)
include may

theorem Units.streamEnd_open (state : x.state = 1) : u.streamEnd c code ref cancel = u.endStream (ref % 2 ^ 17) cancel [(code, c)] := by
  simp [Units.streamEnd_some tracked stream, may, state]

/-- A cancelled stream that was interrupted gives its chunks back. -/
theorem Units.streamEnd_interrupted (state : x.state = 2) : u.streamEnd c code ref cancel =
    let v := u.endStream (ref % 2 ^ 17) cancel [(code, c)]
    if cancel = true then v.upStream (ref % 2 ^ 17) fun y => { y with chunks := [] } else v := by
  simp [Units.streamEnd_some tracked stream, may, state]

theorem Units.streamEnd_moving (state : x.state = 4) : u.streamEnd c code ref cancel =
    if cancel = true then u.upStream (ref % 2 ^ 17) fun y => { y with cancelWait := true, cmds := y.cmds ++ [(code, c)] }
    else u.done c 0x080 code St.BAD_STATE := by
  simp [Units.streamEnd_some tracked stream, may, state]

theorem Units.streamEnd_badState (closed : x.state ≠ 1) (runs : x.state ≠ 2) (stays : x.state ≠ 4) :
    u.streamEnd c code ref cancel = u.done c 0x080 code St.BAD_STATE := by
  simp [Units.streamEnd_some tracked stream, may, closed, runs, stays]

end

section
variable (untracked : bitAt ref 31 = true)
include untracked

theorem Units.streamEnd_noAccount (none : NMap.find u.led.excess (ref % 256) = none) :
    u.streamEnd c code ref cancel = u.done c 0x080 code (absentStatus c) := by
  refine (if_pos untracked).trans ?_
  simp only [none]
  exact (apply_ite (u.done c 0x080 code ·) _ _ _).symm

/-- The sender may end untracked streams of an account: an operator, or its tenant. -/
def Units.mayEndUntracked (u : Units) (c : Sys2Proof.Cmd) (o : OverAcct) : Prop :=
  isOperator (cmdPriv c) = true ∨ (cmdPriv c = 1 ∧ u.tenantFor (u.desc c.ring).job = o.tenant)

omit untracked in
theorem Units.not_mayEndUntracked_iff {o : OverAcct} :
    (!(isOperator (cmdPriv c) || (cmdPriv c = 1 && u.tenantFor (u.desc c.ring).job = o.tenant))) = true ↔ ¬u.mayEndUntracked c o := by
  rw [Bool.not_eq_true', ← Bool.not_eq_true]
  simp only [Units.mayEndUntracked, Bool.or_eq_true, Bool.and_eq_true, decide_eq_true_eq]

variable {o : OverAcct} (acct : NMap.find u.led.excess (ref % 256) = some o)
include acct

theorem Units.streamEnd_notMine (no : ¬u.mayEndUntracked c o) : u.streamEnd c code ref cancel = u.done c 0x080 code St.NOT_PRIVILEGED := by
  refine (if_pos untracked).trans ?_
  simp only [acct]
  exact if_pos (Units.not_mayEndUntracked_iff.2 no)

/-- An account with a stream open counts one fewer. -/
theorem Units.streamEnd_mine (mine : u.mayEndUntracked c o) : u.streamEnd c code ref cancel =
    if o.open_.isEmpty = true then u.done c 0x080 code St.BAD_STATE
    else (u.upL fun l => { l with excess := NMap.set l.excess (ref % 256) (o.close none) }).done c 0x080 code St.OK := by
  refine (if_pos untracked).trans ?_
  simp only [acct]
  exact if_neg fun no => Units.not_mayEndUntracked_iff.1 no mine

end

end

/-- The two commands end a stream each with its own code. -/
theorem exec_streamEnds {s : State} {c : Sys2Proof.Cmd} {ref : Nat} {f : Nat → Bool → Units}
    (e : ∀ code cancel, s.u.streamEnd c code ref cancel = f code cancel) :
    exec (.streamClose c ref) s = .next (s.after (f 0x0802 false)) ∧ exec (.streamCancel c ref) s = .next (s.after (f 0x0803 true)) :=
  ⟨State.runU_of_eq (e _ _), State.runU_of_eq (e _ _)⟩

/-! STREAM_TOKENS (R66, R384) -/

/-- The count of a tracked stream's tokens agrees with the Length and with the tokens (R66). -/
def tokensSound (count len : Nat) (toks : List Nat) : Prop := count ≤ 1024 ∧ len = 16 + 4 * count ∧ toks.length = count

theorem tokensBad_tracked {ref count len : Nat} {toks : List Nat} (tracked : bitAt ref 31 = false) :
    tokensBad ref count len toks = true ↔ ¬tokensSound count len toks := by
  simp only [tokensBad, tokensSound, tracked, Bool.false_eq_true, if_false, Bool.or_eq_true, bne_iff_ne, decide_eq_true_eq,
    Decidable.not_and_iff_not_or_not, Nat.not_le, ne_eq]

theorem tokensBad_untracked {ref count len : Nat} {toks : List Nat} (untracked : bitAt ref 31 = true) :
    tokensBad ref count len toks = true ↔ 1024 < count ∨ len ≠ 16 := by
  simp only [tokensBad, untracked, if_true, Bool.or_eq_true, bne_iff_ne, decide_eq_true_eq]

/-- The stream takes the tokens: it is of the context that sends them, neither CLOSING nor MOVING nor still coming in, and no prompt follows what it
has emitted. -/
def Stream.takes (x : Stream) (h : Sys2Proof.SHdr) (flags count : Nat) : Prop :=
  x.state ≠ 3 ∧ x.state ≠ 4 ∧ x.incoming = none ∧ x.port = h.port ∧ x.ctx = h.ctx ∧ ¬(bitAt flags 0 = true ∧ 0 < x.emitted ∧ 0 < count)

theorem Stream.not_takes_iff {x : Stream} {h : Sys2Proof.SHdr} {flags count : Nat} :
    (x.state = 4 || x.state = 3 || x.incoming.isSome || x.port ≠ h.port || x.ctx ≠ h.ctx || (bitAt flags 0 && 0 < x.emitted && 0 < count)) = true ↔
      ¬x.takes h flags count := by
  simp only [Stream.takes, Bool.or_eq_true, Bool.and_eq_true, decide_eq_true_eq, Decidable.not_and_iff_not_or_not, Decidable.not_not, ne_eq,
    ← Option.not_isSome_iff_eq_none, not_or, and_assoc, or_assoc]
  exact or_left_comm

/-- The tokens are appended to the stream, as prompt or as output. -/
def takeTokens (k : Nat) (prompt : Bool) (toks : List Nat) (a : Mem × Units) : Mem × Units :=
  toks.foldl (fun a t =>
    let b := putToken k a.1 a.2 t
    (b.1, b.2.upStream k fun y => if prompt = true then { y with prompt := wrapW 32 (y.prompt + 1) } else { y with emitted := wrapW 32 (y.emitted + 1) })) a

/-- Tokens kept are counted: those of a stream that can be replayed. -/
def Units.countKept (u : Units) (k count : Nat) : Units :=
  if (match u.stream k with | some y => !(bitAt y.flags 5) | none => false) = true then u.count 0x800120 count else u

section
variable {s : State} {h : Sys2Proof.SHdr} {ref count flags len : Nat} {toks : List Nat} (heard : s.hears h 0x1C)
include heard

/-- A message that disagrees with its Length is dropped; the stream that it names loses its token ledger. -/
theorem streamTokens_disagrees (bad : tokensBad ref count len toks = true) : streamTokens h ref count flags len toks s.mem s.u =
    (s.mem, (s.u.msgUnknown h.port).rejectTokens (if (bitAt ref 31 || (s.u.stream (ref % 2 ^ 17)).isNone) = true then none else some (ref % 2 ^ 17))) := by
  simp only [streamTokens, dropS_hears heard]
  exact if_pos bad

theorem streamTokens_unsound_noStream (tracked : bitAt ref 31 = false) (bad : ¬tokensSound count len toks)
    (absent : s.u.stream (ref % 2 ^ 17) = none) :
    streamTokens h ref count flags len toks s.mem s.u = (s.mem, (s.u.msgUnknown h.port).rejectTokens none) := by
  rw [streamTokens_disagrees heard ((tokensBad_tracked tracked).2 bad), if_pos (by rw [absent]; exact Bool.or_true _)]

theorem streamTokens_unsound_stream (tracked : bitAt ref 31 = false) (bad : ¬tokensSound count len toks) {x : Stream}
    (stream : s.u.stream (ref % 2 ^ 17) = some x) :
    streamTokens h ref count flags len toks s.mem s.u = (s.mem, (s.u.msgUnknown h.port).rejectTokens (some (ref % 2 ^ 17))) := by
  rw [streamTokens_disagrees heard ((tokensBad_tracked tracked).2 bad), if_neg (by rw [tracked, stream]; exact Bool.false_ne_true)]

theorem streamTokens_unsound_untracked (untracked : bitAt ref 31 = true) (bad : 1024 < count ∨ len ≠ 16) :
    streamTokens h ref count flags len toks s.mem s.u = (s.mem, (s.u.msgUnknown h.port).rejectTokens none) := by
  rw [streamTokens_disagrees heard ((tokensBad_untracked untracked).2 bad), if_pos (by rw [untracked]; exact Bool.true_or _)]

section
variable (tracked : bitAt ref 31 = false) (sound : tokensSound count len toks)
include tracked sound

theorem streamTokens_noStream (absent : s.u.stream (ref % 2 ^ 17) = none) :
    streamTokens h ref count flags len toks s.mem s.u = (s.mem, s.u.rejectTokens none) := by
  simp only [streamTokens, dropS_hears heard]
  refine (if_neg fun bad => (tokensBad_tracked tracked).1 bad sound).trans ((if_neg (Bool.eq_false_iff.1 tracked)).trans ?_)
  simp only [absent]

variable {x : Stream} (stream : s.u.stream (ref % 2 ^ 17) = some x)
include stream

/-- Tokens for a stream that stands: dropped, or appended and, with the final flag, its end. -/
theorem streamTokens_stream : streamTokens h ref count flags len toks s.mem s.u =
    if (x.state = 4 || x.state = 3 || x.incoming.isSome || x.port ≠ h.port || x.ctx ≠ h.ctx || (bitAt flags 0 && 0 < x.emitted && 0 < count)) = true then
      (s.mem, s.u.rejectTokens (some (ref % 2 ^ 17)))
    else
      let r := takeTokens (ref % 2 ^ 17) (bitAt flags 0) toks (s.mem, s.u)
      let v := r.2.countKept (ref % 2 ^ 17) count
      (r.1, if bitAt flags 1 = true then v.endStream (ref % 2 ^ 17) (bitAt flags 2) [] else v) := by
  simp only [streamTokens, dropS_hears heard]
  refine (if_neg fun bad => (tokensBad_tracked tracked).1 bad sound).trans ((if_neg (Bool.eq_false_iff.1 tracked)).trans ?_)
  simp only [stream]
  rfl

theorem streamTokens_notTaken (no : ¬x.takes h flags count) :
    streamTokens h ref count flags len toks s.mem s.u = (s.mem, s.u.rejectTokens (some (ref % 2 ^ 17))) :=
  (streamTokens_stream heard tracked sound stream).trans (if_pos (Stream.not_takes_iff.2 no))

theorem streamTokens_taken (takes : x.takes h flags count) : streamTokens h ref count flags len toks s.mem s.u =
    let r := takeTokens (ref % 2 ^ 17) (bitAt flags 0) toks (s.mem, s.u)
    let v := r.2.countKept (ref % 2 ^ 17) count
    (r.1, if bitAt flags 1 = true then v.endStream (ref % 2 ^ 17) (bitAt flags 2) [] else v) :=
  (streamTokens_stream heard tracked sound stream).trans (if_neg fun no => Stream.not_takes_iff.1 no takes)

end

section
variable (untracked : bitAt ref 31 = true) (few : count ≤ 1024) (length : len = 16)
include untracked few length

theorem streamTokens_noAccount (absent : NMap.find s.u.led.excess (ref % 256) = none) :
    streamTokens h ref count flags len toks s.mem s.u = (s.mem, s.u.rejectTokens none) := by
  simp only [streamTokens, dropS_hears heard]
  refine (if_neg fun bad => ?_).trans ((if_pos untracked).trans ?_)
  · exact ((tokensBad_untracked untracked).1 bad).elim (Nat.not_lt.2 few) (· length)
  · simp only [absent]

/-- Tokens for an account: dropped where it has no stream of the context, and else counted; the final flag ends one of its streams. -/
theorem streamTokens_account {o : OverAcct} (acct : NMap.find s.u.led.excess (ref % 256) = some o) :
    streamTokens h ref count flags len toks s.mem s.u =
      if NMap.getD o.open_ (ctxKey h.port h.ctx) 0 = 0 then (s.mem, s.u.rejectTokens none)
      else
        let a : OverAcct := { o with tokens := o.tokens + count }
        (s.mem, s.u.upL fun l => { l with
          excess := NMap.set l.excess (ref % 256) (if bitAt flags 1 = true then a.close (some (ctxKey h.port h.ctx)) else a)
          tok := l.tok ++ [(ctxKey h.port h.ctx, 2 ^ 17 + ref % 256, count)] }) := by
  simp only [streamTokens, dropS_hears heard]
  refine (if_neg fun bad => ?_).trans ((if_pos untracked).trans ?_)
  · exact ((tokensBad_untracked untracked).1 bad).elim (Nat.not_lt.2 few) (· length)
  · simp only [acct]

end

end

/-! STREAM_MOVE and its answer (R389, R407) -/

/-- The chunks that a stream's tokens take; none where it has no token ledger. -/
def entChunks (e : Sys2Proof.StreamEnt) : Nat := if bitAt e.flags 5 = true then 0 else max 1 ((e.prompt + e.emitted + 1019) / 1020)

/-- The units once the entry `e` of the source has come to the free entry `i`, before its tokens. -/
def Units.moveIn (u : Units) (l : Sys2Proof.LHdr) (index cid ctx i : Nat) (e : Sys2Proof.StreamEnt) (ks : List Nat) : Units :=
  let x : Stream := { entStream e u ((u.portOf cid).getD 0xFF) ctx [] l.src index with
    chunks := ks.take 1, prompt := 0, emitted := 0, move := (l.src, index, e.prompt) }
  u.upL fun l => { l.pop with streams := NMap.set l.streams i x, order := l.order + 1 }

/-- One token of a moved stream has come. -/
def Stream.cameIn (y : Stream) : Stream :=
  let y := if y.prompt < y.move.2.2 then { y with prompt := y.prompt + 1 } else { y with emitted := y.emitted + 1 }
  { y with incoming := y.incoming.map fun z => (z.1, z.2 - 1) }

/-- The tokens of a chunk of a moved stream are appended. -/
def moveTokens (i : Nat) (toks : List Nat) (a : Mem × Units) : Mem × Units :=
  toks.foldl (fun a t => let b := putToken i a.1 a.2 t; (b.1, b.2.upStream i Stream.cameIn)) a

/-- The stream that is coming in from entry `index` of a T3. -/
def Units.comingFrom (u : Units) (src index : Nat) : Option (Nat × Stream) :=
  u.led.streams.find? fun x => x.2.incoming.isSome && x.2.move.1 = src && x.2.move.2.1 = index

/-- The MOVING stream that the answer of a STREAM_MOVE names. -/
def Units.movingBy (u : Units) (l : Sys2Proof.LHdr) : Option (Nat × Stream) :=
  u.led.streams.find? fun x => x.2.state = 4 && x.2.move.2.2 = l.seq && u.servedBy x.2.move.1 = l.src

section
variable {s : State} {l : Sys2Proof.LHdr} {index cid ctx : Nat} {toks : List Nat} (heard : s.hearsL l)
include heard

theorem not_lanternDrops : ¬s.u.lanternDrops l = true := Bool.eq_false_iff.1 heard.1

section
variable {e : Sys2Proof.StreamEnt}

theorem streamMove_tableFull (full : s.u.led.head = none) : streamMove l index cid ctx (some e) toks s.mem s.u =
    (s.mem, s.u.answerL l.src 0x5B l.seq 16 2 [0, St.STREAM_TABLE_FULL]) := by
  refine (if_neg (not_lanternDrops heard)).trans ?_
  simp only [full]

variable {i : Nat} (entry : s.u.led.head = some i)
include entry

theorem streamMove_mantleFull (none : s.u.freeChunks (entChunks e) = none) : streamMove l index cid ctx (some e) toks s.mem s.u =
    (s.mem, s.u.answerL l.src 0x5B l.seq 16 2 [0, St.MANTLE_FULL]) := by
  rw [entChunks] at none
  refine (if_neg (not_lanternDrops heard)).trans ?_
  simp only [entry, none]

theorem streamMove_takes {ks : List Nat} (chunks : s.u.freeChunks (entChunks e) = some ks) : streamMove l index cid ctx (some e) toks s.mem s.u =
    (s.mem, moveArrived i s.mem ((s.u.moveIn l index cid ctx i e ks).answerL l.src 0x5B l.seq 16 2 [i, St.OK])) := by
  rw [entChunks] at chunks
  refine (if_neg (not_lanternDrops heard)).trans ?_
  simp only [entry, chunks]
  rfl

end

theorem streamMove_unknown (none : s.u.comingFrom l.src index = none) : streamMove l index cid ctx Option.none toks s.mem s.u = (s.mem, s.u) := by
  rw [Units.comingFrom] at none
  refine (if_neg (not_lanternDrops heard)).trans ?_
  simp only [none]

/-- A further message brings tokens; after the last of them the stream replays. -/
theorem streamMove_tokens {i : Nat} {x : Stream} (comes : s.u.comingFrom l.src index = some (i, x)) :
    streamMove l index cid ctx none toks s.mem s.u =
      let r := moveTokens i toks (s.mem, s.u)
      (r.1, moveArrived i r.1 r.2) := by
  rw [Units.comingFrom] at comes
  refine (if_neg (not_lanternDrops heard)).trans ?_
  simp only [comes]
  rfl

section
variable {status : Nat}

theorem streamMoveResponse_unknown (none : s.u.movingBy l = none) : streamMoveResponse l index status s.mem s.u = s.u := by
  rw [Units.movingBy] at none
  refine (recvL_hears heard _ _ _).trans ?_
  simp only [none]

/-- The answer to a move: the entry is freed and a cancel that waited carried on, or the stream replays here and a cancel that waited takes effect. -/
theorem streamMoveResponse_known {i : Nat} {x : Stream} (moves : s.u.movingBy l = some (i, x)) :
    streamMoveResponse l index status s.mem s.u =
      if status = St.OK then
        (x.cmds.foldl (fun u y => u.done y.2 0x080 y.1 St.OK)
          (if x.cancelWait = true then s.u.emit (.bus 20 [l.src, 0x0803, index]) else s.u)).freeStream i
      else
        let v := replayStream i x.port x.ctx s.mem (s.u.upStream i fun y => { y with state := 1 })
        if x.cancelWait = true then (v.upStream i fun y => { y with cmds := [], cancelWait := false }).endStream i true x.cmds else v := by
  rw [Units.movingBy] at moves
  refine (recvL_hears heard _ _ _).trans ?_
  simp only [moves]

end

end

/-! ACTIVITY_REPORT (R78) -/

/-- Sums of two lists of the eight activity counts. -/
def addActivity (a b : List Nat) : List Nat := (List.range 8).map fun k => a.getD k 0 + b.getD k 0

/-- A context's deltas are added, and what it did is a progress mark; its registers are read where a delta saturated or nothing was known. -/
def Units.reportCtx (p flags : Nat) (u : Units) (e : Nat × List Nat) : Units :=
  let k := ctxKey p (e.1 % 64)
  let u1 := u.upL fun l => { l with deltas := NMap.set l.deltas k (addActivity (NMap.getD l.deltas k []) e.2),
                                    act := NMap.upd l.act k fun a => addActivity a e.2 }
  let u2 := if (0 < e.2.getD 0 0 || 0 < e.2.getD 1 0) = true then u1.progress p (e.1 % 64) 3 else u1
  if (bitAt flags 1 || !(NMap.find u.led.act k).isSome) = true then u2.regAccess p (0x1000 + 0x40 * (e.1 % 64)) false 16 [] (.act (e.1 % 64)) else u2

/-- A stream of the context, whose tick is not recorded yet, reported tokens. -/
def Stream.reports (x : Stream) (p : Nat) (e : Nat × Nat × Nat) : Bool :=
  x.port = p && x.ctx = e.2.1 && (x.state = 1 || (x.state = 3 && !x.recorded)) && 0 < e.2.2

/-- A stream's tokens are a progress mark of its context and are kept for the tick. -/
def Units.reportStream (p tick : Nat) (u : Units) (e : Nat × Nat × Nat) : Units :=
  let k := e.1 % 2 ^ 17
  let u1 := if 0 < e.2.2 then u.progress p (e.2.1 % 64) 1 else u
  match u1.stream k with
  | some x =>
    if x.reports p e then (u1.upStream k fun y => { y with lastTick := tick }).upL fun l => { l with tok := l.tok ++ [(ctxKey p x.ctx, k, e.2.2)] }
    else u1
  | none => u1

/-- The units once all that an activity report holds is added. -/
def Units.addReport (u : Units) (p tick flags : Nat) (ctxs : List (Nat × List Nat)) (streams : List (Nat × Nat × Nat)) : Units :=
  streams.foldl (Units.reportStream p tick) (ctxs.foldl (Units.reportCtx p flags) u)

/-- The message ends the report of a port for the tick in progress. -/
def Units.endsReport (u : Units) (h : Sys2Proof.SHdr) (tick : Nat) : Prop := bitAt h.flags 1 = false ∧ tick = u.led.tickNo

theorem Units.not_endsReport_iff {u : Units} {h : Sys2Proof.SHdr} {tick : Nat} :
    (bitAt h.flags 1 || tick ≠ u.led.tickNo) = true ↔ ¬u.endsReport h tick := by
  simp only [Units.endsReport, Bool.or_eq_true, decide_eq_true_eq, Decidable.not_and_iff_not_or_not, Bool.not_eq_false, ne_eq]

section
variable {s : State} {h : Sys2Proof.SHdr} {tick flags interval : Nat} {ctxs : List (Nat × List Nat)} {streams : List (Nat × Nat × Nat)}
  (heard : s.hears h 0x08)
include heard

theorem activityReport_ends (whole : (s.u.addReport h.port tick flags ctxs streams).endsReport h tick) :
    activityReport h tick flags interval ctxs streams s.u =
      (s.u.addReport h.port tick flags ctxs streams).upL fun l => { l with reported := l.reported ++ [h.port] } :=
  (recvS_hears heard _).trans (if_neg fun part => Units.not_endsReport_iff.1 part whole)

theorem activityReport_adds (part : ¬(s.u.addReport h.port tick flags ctxs streams).endsReport h tick) :
    activityReport h tick flags interval ctxs streams s.u = s.u.addReport h.port tick flags ctxs streams :=
  (recvS_hears heard _).trans (if_pos (Units.not_endsReport_iff.2 part))

end

/-! LEDGER_BIND_RING and LEDGER_ACK_SEQ_WRITE (R405) -/

section
variable {u : Units}

theorem ledgerBindRing_operator {c : Sys2Proof.Cmd} {ring : Nat} (op : isOperator (stampPriv c.stamp) = true) : ledgerBindRing c ring u =
    if (ring < 32768 && (u.desc ring).kind = 2) = true then
      (u.upL fun l => { l with ring := some ring, delivered := l.ack }).ledgerPump.done c 0x080 0x0804 St.OK
    else u.done c 0x080 0x0804 St.BAD_PARAM :=
  operator_ok op _ _ _

variable {w : Sys2Proof.Who} {value : Nat}

theorem ledgerAckSeqWrite_ignored (no : isOperator w.priv = false ∨ value < u.led.ack ∨ u.led.durable < value) : ledgerAckSeqWrite w value u = u :=
  if_pos (by simpa [or_assoc] using no)

/-- The chunks of the store that hold records acknowledged by `value`, and none that is still wanted. -/
def Units.ackedChunks (u : Units) (value : Nat) : List Nat :=
  let v := u.upL fun l => { l with ack := value, delivered := max l.delivered value, stored := l.stored.filter fun x => value < x.r.seq }
  let left := (v.led.written ++ v.led.stored).map fun x => recChunk x.r.seq
  ((u.led.stored.filter fun x => x.r.seq ≤ value).map fun x => recChunk x.r.seq).eraseDups.filter fun k =>
    !(left.contains k) && recChunk (v.led.seq + 1) ≠ k

theorem ledgerAckSeqWrite_acks (op : isOperator w.priv = true) (new : u.led.ack ≤ value) (durable : value ≤ u.led.durable) :
    ledgerAckSeqWrite w value u =
      let v := u.upL fun l => { l with ack := value, delivered := max l.delivered value, stored := l.stored.filter fun x => value < x.r.seq }
      let n := v.tal.sizes.getD 1 0
      ((u.ackedChunks value).foldl (fun u k => u.tallowFree 1 (if n = 0 then 0 else k % n)) v).reform.ledgerPump :=
  if_neg (by simp [op, new, durable])

end

/-- Settles O49: each clause is what its command's branch comes to, by the lemmas above. -/
theorem streamCommandsAndMessagesAct : Obligations.StreamCommandsAndMessagesAct := by
  unfold Obligations.StreamCommandsAndMessagesAct
  intro s h l w c i
  refine ⟨?opens, ?ends, ?tokens, ?moves, ?activity, ?bind, fun no => State.runU_of_eq (ledgerAckSeqWrite_ignored no),
    fun op new durable => State.runU_of_eq (ledgerAckSeqWrite_acks op new durable), State.runU_of_eq rfl⟩
  case opens =>
    intro port ctx client job tenant no stands stopped
    refine ⟨fun no => State.run_of_eq (streamOpen_refused no), fun may no => State.run_of_eq (streamOpen_badState may no),
      fun may serves none => State.run_of_eq (streamOpen_unsupported may serves none), fun may serves pool =>
      ⟨fun stopped => State.run_of_eq (streamOpen_stopped may serves pool stopped),
       fun goes full => State.run_of_eq (streamOpen_backpressure may serves pool goes full), fun goes room => ⟨?tracked, ?untracked⟩⟩⟩
    case tracked =>
      exact fun k entry => ⟨fun q qs chunk => State.run_of_eq (streamOpen_opens may serves pool goes room entry chunk),
        fun none => State.run_of_eq (streamOpen_noChunk may serves pool goes room entry none)⟩
    case untracked =>
      intro full u1
      refine ⟨fun no => State.run_of_eq (streamOpen_tableFull may serves pool goes room full no), fun k fresh order => ?_⟩
      have branches := streamOpen_untracked (m := s.mem) (client := client) may serves pool goes room full order
      exact ⟨fun none => State.run_of_eq (branches.trans (if_pos (Option.isNone_iff_eq_none.2 none))),
        fun chunk => State.run_of_eq (branches.trans (if_neg fun none => Option.isSome_iff_ne_none.1 chunk (Option.isNone_iff_eq_none.1 none)))⟩
  case ends =>
    intro ref close
    refine ⟨fun tracked => ⟨?none, fun x stream => ⟨?refused, ?may⟩⟩, fun untracked => ⟨?noAccount, fun o acct => ?account⟩⟩
    case none => exact fun none => (exec_streamEnds fun _ _ => Units.streamEnd_none tracked none :)
    case refused => exact fun no => (exec_streamEnds fun _ _ => Units.streamEnd_refused tracked stream no :)
    case may =>
      exact fun may => ⟨fun state => (exec_streamEnds fun _ _ => Units.streamEnd_open tracked stream may state :),
        fun state => (exec_streamEnds fun _ _ => Units.streamEnd_interrupted tracked stream may state :),
        fun state => (exec_streamEnds fun _ _ => Units.streamEnd_moving tracked stream may state :),
        fun closed runs stays => (exec_streamEnds fun _ _ => Units.streamEnd_badState tracked stream may closed runs stays :)⟩
    case noAccount => exact fun none => (exec_streamEnds fun _ _ => Units.streamEnd_noAccount untracked none :)
    case account =>
      exact ⟨fun no => (exec_streamEnds fun _ _ => Units.streamEnd_notMine untracked acct no :),
        fun mine none => (exec_streamEnds fun _ _ => (Units.streamEnd_mine untracked acct mine).trans (if_pos none) :),
        fun mine some_ => (exec_streamEnds fun _ _ => (Units.streamEnd_mine untracked acct mine).trans (if_neg (Bool.eq_false_iff.1 some_)) :)⟩
  case tokens =>
    intro ref count flags len toks heard k reject mark
    refine ⟨fun tracked => ⟨fun none => ⟨fun bad => State.run_of_eq (streamTokens_unsound_noStream heard tracked bad none),
        fun sound => State.run_of_eq (streamTokens_noStream heard tracked sound none)⟩,
      fun x stream => ⟨fun bad => State.run_of_eq (streamTokens_unsound_stream heard tracked bad stream),
        fun sound no => State.run_of_eq (streamTokens_notTaken heard tracked sound stream no),
        fun sound takes => State.run_of_eq (streamTokens_taken heard tracked sound stream takes)⟩⟩,
      fun untracked => ⟨fun bad => State.run_of_eq (streamTokens_unsound_untracked heard untracked bad), fun few length =>
        ⟨fun none => State.run_of_eq (streamTokens_noAccount heard untracked few length none), fun o acct => ?_⟩⟩⟩
    have branches := streamTokens_account (flags := flags) (toks := toks) heard untracked few length acct
    exact ⟨fun none => State.run_of_eq (branches.trans (if_pos none)), fun some_ => State.run_of_eq (branches.trans (if_neg some_))⟩
  case moves =>
    intro heard
    refine ⟨fun index cid ctx e toks => ⟨fun full => State.run_of_eq (streamMove_tableFull heard full),
      fun entry none => State.run_of_eq (streamMove_mantleFull heard entry none),
      fun ks entry chunks => State.run_of_eq (streamMove_takes heard entry chunks)⟩, fun index cid ctx toks =>
      ⟨fun none => State.run_of_units (streamMove_unknown heard none), fun x comes => State.run_of_eq (streamMove_tokens heard comes)⟩, ?answer⟩
    case answer =>
      intro index status
      refine ⟨fun none => State.run_keeps (streamMoveResponse_unknown heard none), fun x moves => ?_⟩
      have branches := streamMoveResponse_known (index := index) (status := status) heard moves
      exact ⟨fun ok => State.run_keeps (branches.trans (if_pos ok)),
        fun bad runs => State.run_keeps (branches.trans ((if_neg bad).trans (if_neg (Bool.eq_false_iff.1 runs)))),
        fun bad waits => State.run_keeps (branches.trans ((if_neg bad).trans (if_pos waits)))⟩
  case activity =>
    intro tick flags interval ctxs streams heard add ctxOne streamOne u1 whole
    exact ⟨fun whole => State.runU_of_eq (activityReport_ends heard whole), fun part => State.runU_of_eq (activityReport_adds heard part)⟩
  case bind =>
    exact fun op => ⟨fun out => State.runU_of_eq ((ledgerBindRing_operator op).trans (if_pos (by simpa using out))),
      fun no => State.runU_of_eq ((ledgerBindRing_operator op).trans (if_neg (by simpa using no)))⟩

end Sys2Proof.Machine
end

section
/-!
PROOFS. The states of sconce and lantern ports (04 R95 to R101, R106; 06 R145): what each link command and timer does, branch by branch, and the
statement about them.
-/
namespace Sys2Proof.Machine

/-! LINK_ENABLE (R96, R145) -/

section
variable {u : Units} {w : Who} {p : Nat}

theorem linkEnable_refused (no : isOperator w.priv = false) : linkEnable w p u = u := if_pos (by rw [no]; rfl)

variable (op : isOperator w.priv = true) (served : u.lamp.state ≠ 4)
include op served

/-- During the port's drain the ENABLE is held. -/
theorem linkEnable_draining (drains : (u.port p).draining = true) : linkEnable w p u =
    { u with drains := u.drains.map fun x => if x.unit = 0x100 + p then { x with enableHeld := true } else x } :=
  (if_neg (by simp [op, served])).trans (if_pos drains)

theorem linkEnable_bringsUp (steady : (u.port p).draining = false) (off : bitAt (u.linkCtl p) 0 = false)
    (stopped : (u.port p).state = 0 ∨ (u.port p).state = 7 ∨ (u.port p).state = 8) :
    linkEnable w p u = (u.setCfg (portBase p) (setBit (u.linkCtl p) 0)).bringUp p :=
  (if_neg (by simp [op, served])).trans ((if_neg (Bool.eq_false_iff.1 steady)).trans ((if_neg (Bool.eq_false_iff.1 off)).trans
    (if_pos (by simpa [or_assoc] using stopped))))

end

/-! LINK_DISABLE (R106) -/

/-- The units once a port's ENABLE is cleared and the port drains. -/
def Units.drainPort (u : Units) (p : Nat) : Units :=
  { (u.setCfg (portBase p) (clrBit (u.linkCtl p) 0)).setPort p { u.port p with draining := true } with
    drains := u.drains ++ [{ unit := 0x100 + p, items := (u.port p).txq.length + (u.port p).replay.length, enableHeld := false }] }

section
variable {u : Units} {w : Who} {p : Nat}

theorem linkDisable_refused (no : isOperator w.priv = false) : linkDisable w p u = u := if_pos (by rw [no]; rfl)

variable (op : isOperator w.priv = true) (on : bitAt (u.linkCtl p) 0 = true)
include op on

/-- An active port drains; with only unacknowledged frames left it asks for their acknowledgement at once. -/
theorem linkDisable_active (active : (u.port p).state = 4) : linkDisable w p u =
    if (u.port p).txq.isEmpty && !(u.port p).replay.isEmpty then (u.drainPort p).sendIdle p else u.drainPort p :=
  (if_neg (by simp [op, on])).trans (if_pos active)

theorem linkDisable_inactive (inactive : (u.port p).state ≠ 4) :
    linkDisable w p u = (u.setCfg (portBase p) (clrBit (u.linkCtl p) 0)).powerDown p :=
  (if_neg (by simp [op, on])).trans (if_neg inactive)

end

/-! LINK_RETRAIN, LINK_FULL_RETRAIN and LINK_LANE_RETEST (R95, R96, R101) -/

section
variable {u : Units} {w : Who} {p : Nat}

theorem linkRetrain_refused (no : isOperator w.priv = false) : linkRetrain w p u = u := if_pos (by rw [no]; rfl)

theorem linkFullRetrain_refused (no : isOperator w.priv = false) : linkFullRetrain w p u = u := if_pos (by rw [no]; rfl)

theorem linkLaneRetest_refused (no : isOperator w.priv = false) : linkLaneRetest w p u = u := if_neg (by simp [no])

variable (op : isOperator w.priv = true)
include op

theorem linkRetrain_runs (runs : (u.port p).state = 4 ∨ (u.port p).state = 5) : linkRetrain w p u = u.startFast p :=
  (if_neg (by simp [op])).trans (if_pos (by simpa using runs))

theorem linkRetrain_stopped (stopped : (u.port p).state = 7 ∨ (u.port p).state = 8) : linkRetrain w p u = u.bringUp p :=
  (if_neg (by simp [op])).trans ((if_neg (by rcases stopped with e | e <;> simp [e])).trans (if_pos (by simpa using stopped)))

theorem linkFullRetrain_runs (runs : (u.port p).state = 4 ∨ (u.port p).state = 5 ∨ (u.port p).state = 6) :
    linkFullRetrain w p u = u.startFull p :=
  (if_neg (by simp [op])).trans (if_pos (by simpa [or_assoc] using runs))

theorem linkFullRetrain_stopped (stopped : (u.port p).state = 7 ∨ (u.port p).state = 8) : linkFullRetrain w p u = u.bringUp p :=
  (if_neg (by simp [op])).trans ((if_neg (by rcases stopped with e | e <;> simp [e])).trans (if_pos (by simpa using stopped)))

theorem linkLaneRetest_tests (active : (u.port p).state = 4) (some_ : (u.port p).isolated ≠ 0) :
    linkLaneRetest w p u = u.setPort p { u.port p with retest := true } :=
  if_pos (by simp [op, active, some_])

end

/-! Bring-up (R96, R97, R98, R99) -/

/-- The lanes isolated once the lanes that failed to lock are. -/
def Units.isolatedAfterAlign (u : Units) (p locked : Nat) : Nat := (u.port p).isolated ||| andNot (u.laneAllow p) locked

/-- The units once a port enters PARAM on the lanes `m`. -/
def Units.enterParam (u : Units) (p locked : Nat) (reversed : Bool) (m : Nat) : Units :=
  let l' := { u.port p with state := 3, isolated := u.isolatedAfterAlign p locked, reversed := reversed, param := none }
  (if (u.port p).lanes = 0 then u.setPort p { l' with map := m, lanes := laneCount m } else (u.setPort p l').useMap p m).takeRx p

section
variable {u : Units} {p : Nat}

theorem pmdTrainDone_trains (trains : (u.port p).state = 1) : pmdTrainDone p u = u.setPort p { u.port p with state := 2 } := if_pos trains

section
variable {locked : Nat} {reversed : Bool} (aligns : (u.port p).state = 2)
include aligns

theorem alignDone_permuted : alignDone p locked reversed true u = u.holdPort p true := (if_neg (not_not_intro aligns)).trans (if_pos rfl)

theorem alignDone_noLanes (none : pickLanes (u.laneAllow p) (u.isolatedAfterAlign p locked) = none) :
    alignDone p locked reversed false u = (u.setPort p { u.port p with isolated := u.isolatedAfterAlign p locked }).portDown p := by
  refine (if_neg (not_not_intro aligns)).trans ((if_neg (by decide)).trans ?_)
  rw [Units.isolatedAfterAlign] at none
  simp only [none]
  rfl

/-- Some lanes are left: too few of them send the port down, else it enters PARAM on them. -/
theorem alignDone_lanes {m : Nat} (pick : pickLanes (u.laneAllow p) (u.isolatedAfterAlign p locked) = some m) :
    alignDone p locked reversed false u =
      if laneCount m < u.minLanes p then (u.setPort p { u.port p with isolated := u.isolatedAfterAlign p locked }).portDown p
      else u.enterParam p locked reversed m := by
  refine (if_neg (not_not_intro aligns)).trans ((if_neg (by decide)).trans ?_)
  rw [Units.isolatedAfterAlign] at pick
  simp only [pick]
  rfl

end

/-- Bring-up over a limit: three restarts, then DOWN. -/
theorem linkStateTimeout_starts (starts : (u.port p).state = 1 ∨ (u.port p).state = 2 ∨ (u.port p).state = 3) :
    linkStateTimeout p u = if (u.port p).restarts < 3 then
      u.setPort p { u.port p with state := 1, restarts := (u.port p).restarts + 1, param := none } else u.portDown p :=
  if_neg (by rcases starts with e | e | e <;> simp [e])

theorem paramSendTimer_param (param : (u.port p).state = 3) : paramSendTimer p u = u.sendFrame p 5 0 0 0xFF [] (u.paramBody p) := if_pos param

end

/-! The ends of lane changes, retrains and retests (R95, R100, R101) -/

/-- A port takes over the lane map that was to come into use, where there is one. -/
def Units.useNew (u : Units) (p : Nat) : Option Nat → Units
  | some m => u.useMap p m
  | none => u

/-- The times of the fast retrains that failed within the last second, the one that fails now among them. -/
def Units.fastFailed (u : Units) (p : Nat) : List Nat := u.clk.mono :: (u.port p).fastFails.filter fun t => u.clk.mono < t + 10 ^ 9

/-- The units once the result of a retest is kept and recorded. -/
def Units.retested (u : Units) (p left : Nat) : Units :=
  ((u.later (.flickTrig p)).setPort p { u.port p with retest := false, isolated := left }).linkEvent p Ev.LINK_DEGRADED
    (Config.eventPayload Ev.LINK_DEGRADED [(u.port p).map, (u.port p).map])

section
variable {u : Units} {p : Nat}

theorem laneChangeTimeout_changes (changes : (u.port p).state = 5) : laneChangeTimeout p u = u.startFast p := if_pos changes

section
variable {ack : Nat} (retrains : (u.port p).state = 6)
include retrains

theorem fastRetrainDone_ok : fastRetrainDone p true ack u =
    let left := (u.port p).replay.drop (ackedBy (u.port p).replay ack)
    let v := (u.setPort p { u.port p with state := 4, fastFails := [], replay := left, replays := 0 }).useNew p (u.port p).newMap
    (v.resend p left).pump p :=
  (if_neg (not_not_intro retrains)).trans (if_pos rfl)

theorem fastRetrainDone_failed : fastRetrainDone p false ack u =
    if 3 ≤ (u.fastFailed p).length then u.startFull p else u.setPort p { u.port p with fastFails := u.fastFailed p } :=
  (if_neg (not_not_intro retrains)).trans (if_neg (by decide))

end

section
variable (runs : (u.port p).fullRun = true)
include runs

theorem fullRetrainDone_ok : fullRetrainDone p true u = (u.setPort p ((u.port p).fresh (u.port p).txInit)).fullDone p :=
  (if_neg (by simp [runs])).trans (if_pos rfl)

theorem fullRetrainDone_failed : fullRetrainDone p false u = u.portDown p := (if_neg (by simp [runs])).trans (if_neg (by decide))

end

/-- With no lane left isolated the port widens. -/
theorem laneRetestEnd_tested {pass : Nat} (tests : (u.port p).retest = true) : laneRetestEnd p pass u =
    let left := andNot (u.port p).isolated pass
    if left = 0 ∧ (u.port p).flows = true then (u.retested p left).changeLanes p else u.retested p left :=
  (if_neg (by simp [tests])).trans (ite_congr (by simp only [Bool.and_eq_true, decide_eq_true_eq]) (fun _ => rfl) fun _ => rfl)

end

/-! LINK_DRAIN_TIMEOUT (R106, R144, R145) -/

/-- The units once a port's drain has ended: what is queued is cancelled, the lanes are powered down, and the unit has its next tag. -/
def Units.drained (u : Units) (p : Nat) : Units :=
  let v := (u.cancelTx p).powerDown p
  { v with drains := v.drains.filter fun x => x.unit ≠ 0x100 + p
           tags := NMap.set v.tags (0x100 + p) (wrapW 16 (NMap.getD v.tags (0x100 + p) 0 + 1)) }

/-- An ENABLE held during the drain starts bring-up. -/
theorem linkDrainTimeout_drains {u : Units} {p : Nat} (drains : (u.port p).draining = true) : linkDrainTimeout p u =
    if (u.drains.any fun x => x.unit = 0x100 + p && x.enableHeld) then
      ((u.drained p).setCfg (portBase p) (setBit ((u.drained p).linkCtl p) 0)).bringUp p
    else u.drained p :=
  if_neg (by simp [drains])

/-- Settles O16: each clause is what its command's branch comes to, by the lemmas above. -/
theorem linkControlsMoveThePort : Obligations.LinkControlsMoveThePort := by
  unfold Obligations.LinkControlsMoveThePort
  intro s w p l
  refine ⟨?operator, ?refused, ?trained, ?aligned, ?timeout, ?paramSend, ?laneChange, ?fast, ?full, ?retest, ?drain⟩
  case operator =>
    intro op
    refine ⟨fun served steady off stopped => State.runU_of_eq (linkEnable_bringsUp op served steady off stopped),
      fun served drains => State.runU_of_eq (linkEnable_draining op served drains), fun on => ⟨fun active => ?_, fun inactive => ?_⟩,
      fun runs => State.runU_of_eq (linkRetrain_runs op runs), fun runs => State.runU_of_eq (linkFullRetrain_runs op runs), fun stopped => ?_,
      fun active some_ => State.runU_of_eq (linkLaneRetest_tests op active some_)⟩
    · exact State.runU_of_eq (linkDisable_active op on active)
    · exact State.runU_of_eq (linkDisable_inactive op on inactive)
    · exact ⟨State.runU_of_eq (linkRetrain_stopped op stopped), State.runU_of_eq (linkFullRetrain_stopped op stopped)⟩
  case refused =>
    exact fun no => ⟨State.runU_of_eq (linkEnable_refused no), State.runU_of_eq (linkDisable_refused no), State.runU_of_eq (linkRetrain_refused no),
      State.runU_of_eq (linkFullRetrain_refused no), State.runU_of_eq (linkLaneRetest_refused no)⟩
  case trained => exact fun trains => State.runU_of_eq (pmdTrainDone_trains trains)
  case aligned =>
    intro locked rev aligns iso l'
    refine ⟨fun m pick => ⟨fun enough => ?_, fun few => ?_⟩, fun none => State.runU_of_eq (alignDone_noLanes aligns none),
      State.runU_of_eq (alignDone_permuted aligns)⟩
    · exact State.runU_of_eq ((alignDone_lanes aligns pick).trans (if_neg (Nat.not_lt.2 enough)))
    · exact State.runU_of_eq ((alignDone_lanes aligns pick).trans (if_pos few))
  case timeout =>
    intro starts
    exact ⟨fun again => State.runU_of_eq ((linkStateTimeout_starts starts).trans (if_pos again)),
      fun spent => State.runU_of_eq ((linkStateTimeout_starts starts).trans (if_neg (Nat.not_lt.2 spent)))⟩
  case paramSend => exact fun param => State.runU_of_eq (paramSendTimer_param param)
  case laneChange => exact fun changes => State.runU_of_eq (laneChangeTimeout_changes changes)
  case fast =>
    intro retrains
    refine ⟨fun ack => State.runU_of_eq (fastRetrainDone_ok retrains), fun ack => ⟨fun few => ?_, fun third => ?_⟩⟩
    · exact State.runU_of_eq ((fastRetrainDone_failed retrains).trans (if_neg (Nat.not_le.2 few)))
    · exact State.runU_of_eq ((fastRetrainDone_failed retrains).trans (if_pos third))
  case full => exact fun runs => ⟨State.runU_of_eq (fullRetrainDone_ok runs), State.runU_of_eq (fullRetrainDone_failed runs)⟩
  case retest => exact fun pass tests => State.runU_of_eq (laneRetestEnd_tested tests)
  case drain => exact fun drains => State.runU_of_eq (linkDrainTimeout_drains drains)

end Sys2Proof.Machine
end

section
/-!
PROOFS. Frames at sconce and lantern ports (04 R89 to R94, R97, R98, R100, R105): what each frame, replay timeout and error window does, branch by
branch, what becomes of a lantern message for another T3, and the statement about them.
-/
namespace Sys2Proof.Machine

/-! Sequenced frames (R89 to R93) -/

/-- The units once the Ack and Credit of a good frame are taken, and the port has sent what they let it. -/
def Units.headTaken (u : Units) (p : Nat) (f : Sys2Proof.FrameHdr) : Units := (u.setPort p ((u.port p).rxHead f)).pump p

/-- The units once the next sequenced frame is accepted. -/
def Units.nextTaken (u : Units) (p : Nat) (f : Sys2Proof.FrameHdr) : Units :=
  let v := u.headTaken p f
  (v.setPort p { v.port p with rxSeq := wrapW 14 ((v.port p).rxSeq + 1), rxGap := false }).count (portBase p + 0x108)

/-- Frames of a channel received and not yet freed. -/
def Link.unfreed (l : Link) (vc : Nat) : Nat := wrapW 16 (vcGet l.rxCount vc + 2 ^ 16 - vcGet l.rxFreed vc)

/-- The port once a body has joined its channel's stream. -/
def Link.joined (l : Link) (vc first : Nat) (body : List Nat) : Link :=
  { l with rxBuf := setNth l.rxBuf vc (joinBody (l.rxBuf.getD vc []) body first)
           rxHeld := setNth l.rxHeld vc (l.rxHeld.getD vc [] ++ [body.length])
           rxCount := updNth l.rxCount vc fun n => wrapW 16 (n + 1) }

/-- The units once a DATA frame in sequence is taken: without credit it is an error, with credit its body joins the stream. -/
def Units.bodyTaken (u : Units) (p : Nat) (f : Sys2Proof.FrameHdr) (body : List Nat) : Units :=
  if vcGet (u.port p).rxInit f.vc ≤ (u.port p).unfreed f.vc then u.creditError p
  else (u.setPort p ((u.port p).joined f.vc f.first body)).rxTake p f.vc

theorem Units.bodyTaken_credited {u : Units} {p : Nat} {f : Sys2Proof.FrameHdr} {body : List Nat}
    (credit : (u.port p).unfreed f.vc < vcGet (u.port p).rxInit f.vc) :
    u.bodyTaken p f body = (u.setPort p ((u.port p).joined f.vc f.first body)).rxTake p f.vc :=
  if_neg (Nat.not_le.2 credit)

theorem Units.bodyTaken_uncredited {u : Units} {p : Nat} {f : Sys2Proof.FrameHdr} {body : List Nat}
    (spent : vcGet (u.port p).rxInit f.vc ≤ (u.port p).unfreed f.vc) : u.bodyTaken p f body = u.creditError p :=
  if_pos spent

/-- The units once the accounts that a BLOCK_CREDIT frame names are raised; entries of class 3 are passed over. -/
def Units.peerGrants (u : Units) (p : Nat) (entries : List Nat) : Units :=
  { u with link := { u.link with
      peerGranted := entries.foldl (fun t e => if bits e 7 6 = 3 then t else NMap.put t 0 (256 * p + e % 256) (bits e 31 8)) u.link.peerGranted } }

section
variable {u : Units} {p : Nat} {f : Sys2Proof.FrameHdr} (flows : (u.port p).flows = true)
include flows

/-- The frame in sequence is accepted and answered. -/
theorem Units.inOrder_next (next : f.seq = ((u.headTaken p f).port p).rxSeq) (k : Units → Units) :
    u.inOrder p f k = (k (u.nextTaken p f)).reply p ((u.headTaken p f).port p) :=
  (if_neg (by simp [flows])).trans (if_pos next)

/-- A frame beyond the expected sequence shows a gap, one behind it is discarded. -/
theorem Units.inOrder_other (other : f.seq ≠ ((u.headTaken p f).port p).rxSeq) (k : Units → Units) :
    u.inOrder p f k =
      if seqAhead f.seq ((u.headTaken p f).port p).rxSeq then (u.headTaken p f).askReplay p else u.headTaken p f :=
  (if_neg (by simp [flows])).trans (if_neg other)

/-- A frame of the reserved channel counts as a bad frame. -/
theorem frameData_reserved {body : List Nat} (reserved : 2 < f.vc) : frameData p f body u = (u.count (portBase p + 0x110)).askReplay p :=
  (if_pos reserved).trans (if_pos flows)

section
variable {body : List Nat} (channel : f.vc ≤ 2)
include channel

theorem frameData_next (next : f.seq = ((u.headTaken p f).port p).rxSeq) :
    frameData p f body u = ((u.nextTaken p f).bodyTaken p f body).reply p ((u.headTaken p f).port p) :=
  (if_neg (Nat.not_lt.2 channel)).trans (Units.inOrder_next flows next _)

theorem frameData_credited (next : f.seq = ((u.headTaken p f).port p).rxSeq)
    (credit : ((u.nextTaken p f).port p).unfreed f.vc < vcGet ((u.nextTaken p f).port p).rxInit f.vc) :
    frameData p f body u = (((u.nextTaken p f).setPort p (((u.nextTaken p f).port p).joined f.vc f.first body)).rxTake p f.vc).reply p
      ((u.headTaken p f).port p) := by
  rw [frameData_next flows channel next, Units.bodyTaken_credited credit]

theorem frameData_uncredited (next : f.seq = ((u.headTaken p f).port p).rxSeq)
    (spent : vcGet ((u.nextTaken p f).port p).rxInit f.vc ≤ ((u.nextTaken p f).port p).unfreed f.vc) :
    frameData p f body u = ((u.nextTaken p f).creditError p).reply p ((u.headTaken p f).port p) := by
  rw [frameData_next flows channel next, Units.bodyTaken_uncredited spent]

theorem frameData_other (other : f.seq ≠ ((u.headTaken p f).port p).rxSeq) : frameData p f body u =
    if seqAhead f.seq ((u.headTaken p f).port p).rxSeq then (u.headTaken p f).askReplay p else u.headTaken p f :=
  (if_neg (Nat.not_lt.2 channel)).trans (Units.inOrder_other flows other _)

end

theorem frameBlockCredit_next {entries : List Nat} (sconce : p < 16) (next : f.seq = ((u.headTaken p f).port p).rxSeq) :
    frameBlockCredit p f entries u = ((u.nextTaken p f).peerGrants p entries).reply p ((u.headTaken p f).port p) :=
  (Units.inOrder_next flows next _).trans (congrArg (Units.reply · p _) (if_neg (Nat.not_le.2 sconce)))

end

/-! FRAME_IDLE, FRAME_REPLAY_REQ and FRAME_LANE_CHANGE (R91, R93, R100, R106) -/

/-- The units once the Ack and Credit of a good frame are taken and the frame is counted. -/
def Units.headCounted (u : Units) (p : Nat) (f : Sys2Proof.FrameHdr) : Units :=
  (u.setPort p ((u.port p).rxHead f)).count (portBase p + 0x108)

section
variable {u : Units} {p : Nat} {f : Sys2Proof.FrameHdr}

theorem frameIdle_flows (flows : (u.port p).flows = true) : frameIdle p f u =
    let v := (u.headTaken p f).count (portBase p + 0x108)
    if f.seq ≠ (v.port p).rxSeq ∧ seqAhead f.seq (v.port p).rxSeq = true then v.askReplay p
    else if (v.port p).draining = true ∧ (v.port p).replay ≠ [] then v.sendIdle p else v := by
  refine (if_neg (by simp [flows])).trans (ite_congr ?gap (fun _ => rfl) fun _ => ite_congr ?drains (fun _ => rfl) fun _ => rfl)
  case gap => simp only [Units.headTaken, Bool.and_eq_true, decide_eq_true_eq]
  case drains => simp only [Units.headTaken, Bool.and_eq_true, Bool.not_eq_true', List.isEmpty_eq_false_iff]

theorem frameReplayReq_flows (flows : (u.port p).flows = true) : frameReplayReq p f u = (u.headCounted p f).replayFrom p f.seq :=
  if_neg (by simp [flows])

section
variable {map : Nat} (active : (u.port p).state = 4 ∨ (u.port p).state = 5)
include active

theorem frameLaneChange_agreed (mine : (u.port p).newMap = some map) : frameLaneChange p f map 1 u = (u.headCounted p f).endChange p map :=
  (if_neg (by rcases active with e | e <;> simp [e])).trans ((if_pos rfl).trans (if_pos mine))

theorem frameLaneChange_proposed (none : (u.port p).newMap = none) : frameLaneChange p f map 0 u = (u.headCounted p f).answerMap p map := by
  refine (if_neg (by rcases active with e | e <;> simp [e])).trans ((if_neg (by decide)).trans ?_)
  simp only [none]
  rfl

/-- Of two proposals the narrower wins. -/
theorem frameLaneChange_crossed {mine : Nat} (proposed : (u.port p).newMap = some mine) : frameLaneChange p f map 0 u =
    if laneCount map ≤ laneCount mine then (u.headCounted p f).answerMap p map else (u.headCounted p f).propose p mine := by
  refine (if_neg (by rcases active with e | e <;> simp [e])).trans ((if_neg (by decide)).trans ?_)
  simp only [proposed]
  rfl

end

end

/-! FRAME_PARAM (R97, Table 4-6) -/

/-- The port once the peer's CID and kind are known from its PARAM. -/
def Link.knowsPeer (l : Link) (p : Nat) (body : List Nat) : Link :=
  { l with peerCid := if p < 16 then 0 else body.getD 2 0, peerKind := body.getD 1 0 }

/-- The units once a second identical PARAM is counted and its peer known. -/
def Units.paramAgreed (u : Units) (p : Nat) (body : List Nat) : Units := (u.setPort p ((u.port p).knowsPeer p body)).count (portBase p + 0x108)

/-- The CID expected at a lantern port; 0 for any. -/
def Units.cidExpected (u : Units) (p : Nat) : Nat := bits (u.cfg (portBase p + 0xC) 0) 23 0

/-- The lane set common to both ends. -/
def Units.commonLanes (u : Units) (p : Nat) (body : List Nat) : Option Nat :=
  pickLanes (u.laneAllow p &&& body.getD 3 0xFF) (u.port p).isolated

/-- The units once frames restart at a port, on the lanes `m` and with the peer's credits and version. -/
def Units.framesRestart (u : Units) (p : Nat) (body : List Nat) (m : Nat) : Units :=
  ((u.paramAgreed p body).setPort p { ((u.port p).knowsPeer p body).fresh [body.getD 4 0, body.getD 5 0, body.getD 6 0] with
    version := min (body.getD 0 0) 1 }).useMap p m

/-- The units once a port has become ACTIVE and sends what waited. -/
def Units.activated (u : Units) (p : Nat) : Units := (u.setPort p { u.port p with state := 4 }).pump p

/-- What the second PARAM of the right peer does, by the lane set common to both ends: too few lanes send the port down; else frames restart, and a full
retrain ends or the port becomes ACTIVE, a sconce port going on to the start-up of its Igtan block (R61). -/
def Units.peerTaken (u : Units) (p : Nat) (body : List Nat) : Option Nat → Units
  | none => (u.paramAgreed p body).portDown p
  | some m =>
    if laneCount m < u.minLanes p then (u.paramAgreed p body).portDown p
    else if (u.port p).fullRun then (u.framesRestart p body m).fullDone p
    else if p < 16 then ((u.framesRestart p body m).activated p).later (.igtanStart p) else (u.framesRestart p body m).activated p

section
variable {u : Units} {p : Nat} {f : Sys2Proof.FrameHdr} {body : List Nat} (inParam : (u.port p).state = 3)
include inParam

theorem frameParam_first (first : (u.port p).param ≠ some body) :
    frameParam p f body u = (u.setPort p { u.port p with param := some body }).count (portBase p + 0x108) :=
  (if_neg (not_not_intro inParam)).trans (if_pos first)

variable (second : (u.port p).param = some body)
include second

theorem frameParam_noVersion (none : body.getD 0 0 = 0) : frameParam p f body u = (u.paramAgreed p body).holdPort p false :=
  (if_neg (not_not_intro inParam)).trans ((if_neg (not_not_intro second)).trans (if_pos none))

variable (version : body.getD 0 0 ≠ 0)
include version

/-- The wrong kind of peer, or at a lantern port the wrong CID. -/
theorem frameParam_mismatch (wrong : body.getD 1 0 ≠ (if p < 16 then 1 else 2) ∨ 16 ≤ p ∧ u.cidExpected p ≠ 0 ∧ u.cidExpected p ≠ body.getD 2 0) :
    frameParam p f body u = (u.paramAgreed p body).holdPort p true := by
  refine (if_neg (not_not_intro inParam)).trans ((if_neg (not_not_intro second)).trans ((if_neg version).trans ?_))
  by_cases kind : body.getD 1 0 = if p < 16 then 1 else 2
  · obtain ⟨lantern, some_, other⟩ := wrong.resolve_left (not_not_intro kind)
    exact (if_neg (not_not_intro kind)).trans (if_pos (Bool.and_eq_true_iff.2
      ⟨Bool.and_eq_true_iff.2 ⟨decide_eq_true lantern, decide_eq_true some_⟩, decide_eq_true other⟩))
  · exact if_pos kind

variable (kind : body.getD 1 0 = if p < 16 then 1 else 2) (cid : 16 ≤ p → u.cidExpected p = 0 ∨ u.cidExpected p = body.getD 2 0)
include kind cid

/-- The right peer: what is left is to find the lanes that both ends can use. -/
theorem frameParam_rightPeer : frameParam p f body u = u.peerTaken p body (u.commonLanes p body) := by
  refine (if_neg (not_not_intro inParam)).trans ((if_neg (not_not_intro second)).trans ((if_neg version).trans
    ((if_neg (not_not_intro kind)).trans ((if_neg fun wrong => ?_).trans rfl))))
  simp only [Bool.and_eq_true, decide_eq_true_eq] at wrong
  obtain ⟨⟨lantern, some_⟩, other⟩ := wrong
  exact (cid lantern).elim some_ other

end

/-! FRAME_BAD, LINK_REPLAY_TIMEOUT and LANE_SER_WINDOW (R90, R93, R98, R103) -/

/-- The units once the uncorrected codewords of each lane are counted. -/
def Units.uncorrected (u : Units) (p : Nat) (l : List (Nat × Nat)) : Units := l.foldl (fun u x => u.count (portBase p + 0x240 + 8 * x.1) x.2) u

/-- The units once a bad frame is counted; where frames flow a replay is asked for. -/
def Units.badCounted (u : Units) (p : Nat) : Units :=
  if (u.port p).flows then (u.count (portBase p + 0x110)).askReplay p else u.count (portBase p + 0x110)

/-- By lane, the windows in a row over the threshold, once a further window has ended; the bits of `excess` are the lanes over it. -/
def Link.windowRuns (l : Link) (excess : Nat) : NMap Nat :=
  (List.range 8).foldl (fun m i => NMap.put m 0 i (if Nat.testBit excess i then NMap.getD l.serRun i 0 + 1 else 0)) l.serRun

/-- The lanes over the threshold for three windows in a row. -/
def threeInARow (run : NMap Nat) : Nat := (List.range 8).foldl (fun a i => if 3 ≤ NMap.getD run i 0 then setBit a i else a) 0

/-- The units once a window's runs, corrected symbols and eye margins are kept. -/
def Units.windowKept (u : Units) (p : Nat) (run : NMap Nat) (corrected margins : List Nat) : Units :=
  (List.range 8).foldl (fun u i => (u.count (portBase p + 0x200 + 8 * i) (corrected.getD i 0)).setCnt
    (portBase p + 0x2A0 + 4 * i) (wrapW 16 (margins.getD i 0))) (u.setPort p { u.port p with serRun := run })

section
variable {u : Units} {p : Nat}

theorem frameBad_counts {bursts uncorr : List (Nat × Nat)} (listens : (u.port p).flows = true ∨ (u.port p).state = 3) :
    frameBad p bursts uncorr u = bursts.foldl (fun u b => u.burst p b) ((u.badCounted p).uncorrected p uncorr) :=
  if_neg (by rcases listens with e | e <;> simp [e])

variable (flows : (u.port p).flows = true)
include flows

theorem linkReplayTimeout_sender {fr : TxFrame} {rest : List TxFrame} (waits : (u.port p).replay = fr :: rest) :
    linkReplayTimeout p true u = u.replayFrom p fr.seq := by
  refine (if_neg (by simp [flows])).trans ((if_pos rfl).trans ?_)
  simp only [waits]

theorem linkReplayTimeout_receiver (gap : (u.port p).rxGap = true) :
    linkReplayTimeout p false u = u.sendFrame p 2 0 (u.port p).rxSeq 0xFF [] [] :=
  (if_neg (by simp [flows])).trans ((if_neg (by decide)).trans (if_pos gap))

/-- Lanes over the threshold in three windows are isolated. -/
theorem laneSerWindow_flows {errs corrected margins : List Nat} {syms : Nat} : laneSerWindow p errs syms corrected margins u =
    let run := (u.port p).windowRuns (serExcess (bits (u.burstCfg p) 31 24) errs syms)
    let v := u.windowKept p run corrected margins
    if threeInARow run = 0 then v else v.isolate p (threeInARow run) :=
  if_neg (by simp [flows])

end

/-! LANTERN_FORWARD (R105, R421, R422) -/

/-- The units once a message that goes on to port `q` is reported and its bytes are counted. -/
def Units.onwardCounted (u : Units) (h : Sys2Proof.LHdr) (dst cls level len q : Nat) : Units :=
  ((u.emit (.bus 7 [dst, cls, h.src, h.hop - 1, q])).count (portBase (16 + h.port) + 0x128) (16 + len)).count
    (levelBytesAddr (lanternLevel cls level) 1) (16 + len)

/-- The units once a collective message is handed to its port and kept, with those of the last 10 ms, to be sent again after a loss. -/
def Units.collForwarded (u : Units) (x : CollSent) : Units :=
  let v := u.sendCollTx x
  { v with coll := { v.coll with recent := (v.coll.recent.filter fun r => v.clk.mono ≤ r.time + 10 ^ 7) ++ [x] } }

section
variable {s : State} {h : Sys2Proof.LHdr} {dst cls kind level : Nat} {bytes : List Nat}

theorem lanternForward_unknown (unknown : lanternReserved cls = true ∨ 4128 < bytes.length) :
    lanternForward h dst cls kind level bytes s.u = s.u.count (portBase (16 + h.port) + 0x138) :=
  if_pos (by simpa using unknown)

variable (known : lanternReserved cls = false) (fits : bytes.length ≤ 4128) (heard : s.hearsL h)
include known fits heard

theorem lanternForward_lastHop (last : h.hop = 0) : lanternForward h dst cls kind level bytes s.u = s.u.hopDrop (16 + h.port) :=
  (if_neg (by simp [known, fits])).trans ((recvL_hears heard _ _ _).trans (if_pos last))

variable (hops : h.hop ≠ 0)
include hops

theorem lanternForward_fenced (fenced : s.u.routeFenced dst = true) :
    lanternForward h dst cls kind level bytes s.u = s.u.count fencedDrops :=
  (if_neg (by simp [known, fits])).trans ((recvL_hears heard _ _ _).trans ((if_neg hops).trans (if_pos fenced)))

variable (open_ : s.u.routeFenced dst = false)
include open_

theorem lanternForward_noRoute (none : s.u.hop dst = none) :
    lanternForward h dst cls kind level bytes s.u = s.u.hopDrop (16 + h.port) := by
  refine (if_neg (by simp [known, fits])).trans ((recvL_hears heard _ _ _).trans ((if_neg hops).trans ((if_neg (by simp [open_])).trans ?_)))
  simp only [none]

/-- A message with a route goes on, a collective message in its group's turn. -/
theorem lanternForward_goesOn {q : Nat} (route : s.u.hop dst = some q) : lanternForward h dst cls kind level bytes s.u =
    let v := s.u.onwardCounted h dst cls level bytes.length q
    let out := forwardBytes h dst cls bytes
    if cls = 0x20 ∨ cls = 0x21 then v.collForwarded (v.collOnward h.port q (LHdr.onward h dst cls bytes.length) out)
    else v.forwardTx h.port q cls out [levelBytesAddr (lanternLevel cls level) 0] := by
  refine (if_neg (by simp [known, fits])).trans ((recvL_hears heard _ _ _).trans ((if_neg hops).trans ((if_neg (by simp [open_])).trans ?_)))
  simp only [route]
  exact ite_congr (by simp only [Bool.or_eq_true, decide_eq_true_eq]) (fun _ => rfl) fun _ => rfl

end

/-- Settles O17: each clause is what its frame's or timer's branch comes to, by the lemmas above. -/
theorem linkFramesAreTaken : Obligations.LinkFramesAreTaken := by
  unfold Obligations.LinkFramesAreTaken
  refine ⟨?frames, ?forward⟩
  case frames =>
    intro s p f l u1 u2
    refine ⟨?next, ?other, ?reserved, ?idle, ?replayReq, ?laneChange, ?param, ?bad, ?sender, ?receiver, ?window⟩
    case next =>
      intro flows next m
      exact ⟨fun body channel => ⟨fun credit => State.runU_of_eq (frameData_credited flows channel next credit),
          fun spent => State.runU_of_eq (frameData_uncredited flows channel next spent)⟩,
        fun entries sconce => State.runU_of_eq (frameBlockCredit_next flows sconce next)⟩
    case other => exact fun body flows channel other => State.runU_of_eq (frameData_other flows channel other)
    case reserved => exact fun body flows reserved => State.runU_of_eq (frameData_reserved flows reserved)
    case idle => exact fun flows => State.runU_of_eq (frameIdle_flows flows)
    case replayReq => exact fun flows => State.runU_of_eq (frameReplayReq_flows flows)
    case laneChange =>
      intro map active u
      refine ⟨fun none => State.runU_of_eq (frameLaneChange_proposed active none), fun mine proposed => ⟨fun narrower => ?_, fun wider => ?_⟩,
        fun mine => State.runU_of_eq (frameLaneChange_agreed active mine)⟩
      · exact State.runU_of_eq ((frameLaneChange_crossed active proposed).trans (if_pos narrower))
      · exact State.runU_of_eq ((frameLaneChange_crossed active proposed).trans (if_neg (Nat.not_le.2 wider)))
    case param =>
      intro body inParam
      refine ⟨fun first => State.runU_of_eq (frameParam_first inParam first), ?second⟩
      intro second l' u cid
      refine ⟨?noVersion, ?mismatch, ?rightPeer⟩
      case noVersion => exact fun none => State.runU_of_eq (frameParam_noVersion inParam second none)
      case mismatch => exact fun version wrong => State.runU_of_eq (frameParam_mismatch inParam second version wrong)
      case rightPeer =>
        intro version kind right
        have taken := frameParam_rightPeer (f := f) inParam second version kind right
        refine ⟨fun none => State.runU_of_eq (taken.trans (congrArg (s.u.peerTaken p body) none)), fun m pick => ?_⟩
        have branches := taken.trans (congrArg (s.u.peerTaken p body) pick)
        exact ⟨fun few => State.runU_of_eq (branches.trans (if_pos few)), fun enough =>
          ⟨fun retrains => State.runU_of_eq (branches.trans ((if_neg (Nat.not_lt.2 enough)).trans (if_pos retrains))),
           fun starts => State.runU_of_eq (branches.trans ((if_neg (Nat.not_lt.2 enough)).trans (if_neg (Bool.eq_false_iff.1 starts))))⟩⟩
    case bad => exact fun bursts uncorr listens => State.runU_of_eq (frameBad_counts listens)
    case sender => exact fun fr rest flows waits => State.runU_of_eq (linkReplayTimeout_sender flows waits)
    case receiver => exact fun flows gap => State.runU_of_eq (linkReplayTimeout_receiver flows gap)
    case window => exact fun errs syms corrected margins flows => State.runU_of_eq (laneSerWindow_flows flows)
  case forward =>
    intro s h dst cls kind level bytes p len
    refine ⟨fun unknown => State.runU_of_eq (lanternForward_unknown unknown), fun known fits heard => ⟨?last, ?fenced, ?open_⟩⟩
    case last => exact fun last => State.runU_of_eq (lanternForward_lastHop known fits heard last)
    case fenced => exact fun hops fenced => State.runU_of_eq (lanternForward_fenced known fits heard hops fenced)
    case open_ =>
      intro hops open_
      refine ⟨fun none => State.runU_of_eq (lanternForward_noRoute known fits heard hops open_ none), fun q route => ?_⟩
      have branches := lanternForward_goesOn (kind := kind) (level := level) known fits heard hops open_ route
      exact ⟨fun other other' => State.runU_of_eq (branches.trans (if_neg (not_or.2 ⟨other, other'⟩))),
        fun collective => State.runU_of_eq (branches.trans (if_pos collective))⟩

end Sys2Proof.Machine
end

section
/-!
PROOFS. Every step keeps the Mantle's canonical form and the staging partition (05 R113, R114, R116): for each operation that hands the Mantle on,
that what it hands on is canonical; then the end of a step, and every command.
-/
namespace Sys2Proof.Machine

/-! Going through a list -/

/-- Carrying the Mantle through a list keeps its canonical form when each item does. -/
theorem wf_foldl {α β : Type} {f : Mem × β → α → Mem × β} (step : ∀ a x, a.1.wf = true → (f a x).1.wf = true) (l : List α) {a : Mem × β}
    (w : a.1.wf = true) : (l.foldl f a).1.wf = true :=
  List.foldlRecOn (motive := fun a => a.1.wf = true) l f w fun a wa x _ => step a x wa

theorem wf_ite {c : Prop} [Decidable c] {a b : Mem × Units} (wa : a.1.wf = true) (wb : b.1.wf = true) : (if c then a else b).1.wf = true := by
  split
  · exact wa
  · exact wb

/-- What is done for a shard, where it and its absence both keep the canonical form. -/
theorem wf_withSh {u : Units} {shard : Nat} {d : Mem × Units} {f : Nat → Shard → JobBind → Mem × Units} (wd : d.1.wf = true)
    (wf : ∀ k s j, (f k s j).1.wf = true) : (u.withSh shard d f).1.wf = true := by
  fun_cases Units.withSh
  case case3 => exact wf _ _ _
  all_goals exact wd

/-- Copying cells to other addresses keeps the canonical form. -/
theorem Memory.wf_writeCells (l : List Host.Cell) {d : Memory} (w : d.wf = true) : (l.foldl (fun d c => Memory.write d c.1 c.2) d).wf = true :=
  List.foldlRecOn (motive := fun d => Memory.wf d = true) l _ w fun d wd c _ => Memory.wf_write d c.1 c.2 wd

section
variable {m : Mem} {u : Units} (w : m.wf = true)
include w

/-! The Mantle controller (05) -/

theorem wf_memPut (addr : Nat) (l : List Nat) (src : Option (Nat × Nat)) : (memPut m u addr l src).wf = true := by
  refine wf_foldl (fun a b wa => ?_) l w
  split
  · exact Mem.wf_putByte _ _ _ _ _ _ wa
  · exact wa

theorem wf_memPutAt (idx off : Nat) (l : List Nat) (src : Option (Nat × Nat)) : (memPutAt m u idx off l src).wf = true := by
  unfold memPutAt
  split
  · exact w
  · refine wf_foldl (fun a b wa => ?_) l w
    split
    · exact Mem.wf_putByte _ _ _ _ _ _ wa
    · exact wa

/-- The page's bytes are copied, and its front buffer lines renumbered. -/
theorem wf_pageRetire (k : Nat) : (pageRetire m u k).1.wf = true := by
  fun_cases pageRetire
  case case4 =>
    obtain ⟨dram, fb⟩ := (Mem.wf_iff m).1 w
    refine (Mem.wf_iff _).2 ⟨Memory.wf_writeCells _ dram, fun l hl => ?_⟩
    obtain ⟨x, hx, rfl⟩ := List.mem_map.1 hl
    exact fb x hx
  all_goals exact w

theorem wf_eccFound (line ecc : Nat) : (eccFound m u line ecc).1.wf = true := by
  fun_cases eccFound
  case case4 => exact w
  all_goals exact wf_pageRetire w _

theorem wf_eccLines (addr len : Nat) (ecc : List Nat) : (eccLines addr len ecc m u).1.wf = true :=
  wf_foldl (fun _ _ wa => wf_eccFound wa _ _) _ w

theorem wf_readNow (agent addr len : Nat) (ecc : List Nat) : (readNow agent addr len ecc m u).1.wf = true := by
  fun_cases readNow
  case case3 => exact wf_eccLines w _ _ _
  all_goals exact w

theorem wf_writeNow (agent addr tag ctxKey : Nat) (bytes : List Nat) : (writeNow agent addr tag ctxKey bytes m u).1.wf = true := by
  fun_cases writeNow
  case case6 => exact wf_memPut w _ _ _
  all_goals exact w

theorem wf_unitWrite (agent addr : Nat) (bytes : List Nat) : (unitWrite agent addr bytes m u).1.wf = true := by
  fun_cases unitWrite
  case case3 => exact wf_memPut w _ _ _
  all_goals exact w

theorem wf_bar2Now (write : Bool) (addr len : Nat) (bytes ecc : List Nat) : (bar2Now write addr len bytes ecc m u).1.wf = true := by
  fun_cases bar2Now
  case case1 => exact w
  case case2 => exact wf_memPut w _ _ _
  case case3 => exact wf_eccLines w _ _ _

theorem wf_scrubNow (ecc : Nat) : (scrubNow ecc m u).1.wf = true := wf_eccFound w _ _

theorem wf_letIn {x : BudWait} {go : Mem → Units → Mem × Units} (wgo : ∀ u, (go m u).1.wf = true) : (u.letIn x m go).1.wf = true := by
  fun_cases Units.letIn
  case case2 => exact wgo _
  all_goals exact w

theorem wf_mantleRead (act agent addr len : Nat) (ecc : List Nat) : (mantleRead act agent addr len ecc m u).1.wf = true :=
  wf_letIn w fun _ => wf_readNow w _ _ _ _

theorem wf_mantleWrite (act agent addr tag ctxKey : Nat) (bytes : List Nat) : (mantleWrite act agent addr tag ctxKey bytes m u).1.wf = true :=
  wf_letIn w fun _ => wf_writeNow w _ _ _ _ _

theorem wf_writeBackLine (line : Nat) : (writeBackLine line m u).1.wf = true := Mem.wf_writeBack m line _ w

theorem wf_bar2Access (write : Bool) (addr len : Nat) (bytes ecc : List Nat) : (bar2Access write addr len bytes ecc m u).1.wf = true :=
  wf_letIn w fun _ => wf_bar2Now w _ _ _ _ _

theorem wf_pageZeroDone (page : Nat) : (pageZeroDone page m u).1.wf = true := by
  fun_cases pageZeroDone
  case case1 =>
    obtain ⟨dram, fb⟩ := (Mem.wf_iff m).1 w
    exact (Mem.wf_iff _).2 ⟨Memory.wf_clear _ _ _ dram, fun l hl => fb l (List.mem_filter.1 hl).1⟩
  case case2 => exact w

theorem wf_patrolScrub (ecc : Nat) : (patrolScrub ecc m u).1.wf = true := wf_letIn w fun _ => wf_scrubNow w _

theorem wf_generationBump (kind cid ctx gen : Nat) : (generationBump kind cid ctx gen m u).1.wf = true := Mem.wf_discard m _ w

theorem wf_served (x : BudWait) : (served x m u).1.wf = true := by
  fun_cases served
  case case1 => exact w
  case case2 => exact wf_readNow w _ _ _ _
  case case3 => exact wf_writeNow w _ _ _ _ _
  case case4 => exact wf_scrubNow w _
  case case5 => exact wf_bar2Now w _ _ _ _ _

/-! Tallow, Chimney, the Igtan register access, standing orders and answers of an accelerator -/

theorem wf_nandReadDone (p : Place) (retries : Nat) (ok same : Bool) (data : List Nat) : (nandReadDone p retries ok same data m u).1.wf = true := by
  fun_cases nandReadDone
  case case7 => exact wf_unitWrite w _ _ _
  all_goals exact w

theorem wf_chimEventRead (c : Cmd) (first count addr : Nat) : (chimEventRead c first count addr m u).1.wf = true := by
  fun_cases chimEventRead
  case case4 => exact wf_memPut w _ _ _
  all_goals exact w

theorem wf_igtanReg (c : Sys2Proof.Cmd) (port off : Nat) (write : Bool) (count addr : Nat) : (igtanReg c port off write count addr m u).1.wf = true := by
  fun_cases igtanReg <;> exact w

theorem wf_regResponse (h : Sys2Proof.SHdr) (status : Nat) (words : List Nat) : (regResponse h status words m u).1.wf = true := by
  fun_cases regResponse
  case case9 => exact wf_unitWrite w _ _ _
  all_goals exact w

/-! Blocks of the Wick: transit, the buddy's regions and snapshots (10) -/

theorem wf_putBlock (region b : Nat) (data : List Nat) (src : Option (Nat × Nat)) : (putBlock m u region b data src).1.wf = true :=
  wf_memPutAt w _ _ _ _

theorem wf_toTransit (data : List Nat) : (toTransit m u data).1.1.wf = true := by
  fun_cases toTransit
  case case1 => exact w
  case case2 => exact wf_memPutAt w _ _ _ _

theorem wf_readBlock (k b : Nat) : (readBlock m u k b).1.1.wf = true := by
  fun_cases readBlock
  case case4 => exact wf_putBlock w _ _ _ _
  all_goals exact w

theorem wf_startSnapshot (k n mode : Nat) (due : Bool) : (startSnapshot m u k n mode due).1.wf = true := by
  fun_cases startSnapshot
  case case3 =>
    exact List.foldlRecOn (motive := fun (a : (Mem × Units) × List (List Nat)) => a.1.1.wf = true) _ _ w fun _ wa _ _ => wf_readBlock wa _ _
  all_goals exact w

theorem wf_captureBefore (k n : Nat) (s : Shard) (j : JobBind) : (captureBefore m u k n s j).1.wf = true := by
  fun_cases captureBefore
  case case1 => exact wf_startSnapshot w _ _ _ _
  case case2 => exact w

theorem wf_putItem (s : Shard) (i : ShItem) : (putItem m u s i).1.wf = true := wf_foldl (fun _ _ wa => wf_memPutAt wa _ _ _ _) _ w

theorem wf_cutItems (k n : Nat) (s : Shard) (j : JobBind) (pr : ProgEntry) (o : OpenStep) : (cutItems m u k n s j pr o).1.wf = true := by
  unfold cutItems
  dsimp only
  split
  · exact wf_memPutAt w _ _ _ _
  · exact w

/-- Whatever the step comes to, the Mantle is that of the snapshot taken before it, and its items may be cut there. -/
theorem wf_driveStep (k n : Nat) : (driveStep m u k n).1.wf = true := by
  fun_cases driveStep
  case case6 => exact wf_cutItems (wf_captureBefore w _ _ _ _) _ _ _ _ _ _
  case case1 | case10 => exact w
  all_goals exact wf_captureBefore w _ _ _ _

theorem wf_goBuddy (k n time : Nat) : (goBuddy m u k n time).1.wf = true := by
  fun_cases goBuddy
  case case1 => exact w
  case case2 => exact wf_driveStep w _ _

theorem wf_driveOrGo (k : Nat) (s : Shard) (j : JobBind) (n : Nat) : (driveOrGo m u k s j n).1.wf = true := by
  fun_cases driveOrGo
  case case1 => exact wf_goBuddy w _ _ _
  case case2 => exact wf_driveStep w _ _

theorem wf_recvBlock {h : Sys2Proof.SHdr} {cls credit : Nat} {b : Sys2Proof.Blk} {f : Mem → Units → Mem × Units} (wf : ∀ u, (f m u).1.wf = true) :
    (recvBlock h cls credit b m u f).1.wf = true := by
  fun_cases recvBlock
  case case5 => exact wf _
  all_goals exact w

theorem wf_passBlock (k : Nat) (s : Shard) (b : Sys2Proof.Blk) : (passBlock k s b m u).1.wf = true := by
  fun_cases passBlock <;> exact wf_toTransit w _

theorem wf_streamOn (s : Shard) (cls : Nat) (b : Sys2Proof.Blk) : (streamOn s cls b m u).1.wf = true := wf_toTransit w _

theorem wf_commitStep (k n : Nat) : (commitStep m u k n).1.wf = true := by
  fun_cases commitStep
  case case1 => exact w
  case case2 =>
    exact wf_driveStep (wf_ite (wf_startSnapshot w _ _ _ _) w) _ _

/-! Commands of the Wick (10) -/

theorem wf_gradientBlock (h : Sys2Proof.SHdr) (b : Sys2Proof.Blk) : (gradientBlock h b m u).1.wf = true :=
  wf_recvBlock w fun u => wf_withSh w fun k s j => by
    have passed (u : Units) := wf_passBlock w k s b (u := u)
    grind

theorem wf_regionBlock (h : Sys2Proof.SHdr) (b : Sys2Proof.Blk) : (regionBlock h b m u).1.wf = true :=
  wf_recvBlock w fun u => wf_withSh w fun k s j => by
    have stored (u : Units) := wf_toTransit w b.data (u := u)
    have streamed (cls : Nat) (u : Units) := wf_streamOn w s cls b (u := u)
    grind

theorem wf_snapshotBlock (h : Sys2Proof.SHdr) (b : Sys2Proof.Blk) : (snapshotBlock h b m u).1.wf = true :=
  wf_recvBlock w fun u => wf_withSh w fun k s j => by
    have streamed (cls : Nat) (u : Units) := wf_streamOn w s cls b (u := u)
    grind

theorem wf_wickMembership (c : Sys2Proof.Cmd) (job shard epoch count addr : Nat) : (wickMembership c job shard epoch count addr m u).1.wf = true := by
  fun_cases wickMembership
  case case1 => exact w
  case case2 =>
    refine wf_withSh w fun k s j => ?_
    split
    · exact w
    · split <;> exact w

theorem wf_fwdGradient (h : Sys2Proof.LHdr) (b : Sys2Proof.Blk) : (fwdGradient h b m u).1.wf = true := by
  fun_cases fwdGradient
  case case3 =>
    refine wf_withSh w fun k s j => ?_
    have stored (u : Units) := wf_putBlock w s.sRegion b.index b.data (u.srcOf s.job (s.members.getD s.writer (0, 0))) (u := u)
    grind
  all_goals exact w

theorem wf_gateBarrierComplete (job step status : Nat) : (gateBarrierComplete job step status m u).1.wf = true := by
  fun_cases gateBarrierComplete
  case case3 =>
    refine wf_foldl (fun a k wa => ?_) _ w
    dsimp only
    split
    · exact wa
    · exact wf_goBuddy wa _ _ _
  all_goals exact w

theorem wf_stepFwd (h : Sys2Proof.LHdr) (r : Sys2Proof.StepRec) (cid ctx : Nat) (crcOk : Bool) : (stepFwd h r cid ctx crcOk m u).1.wf = true := by
  fun_cases stepFwd
  case case3 =>
    refine wf_withSh w fun k s j => ?_
    split
    · exact w
    · exact wf_driveOrGo w _ _ _ _
  all_goals exact w

theorem wf_fwdSeed (h : Sys2Proof.LHdr) (b : Sys2Proof.Blk) : (fwdSeed h b m u).1.wf = true := by
  fun_cases fwdSeed
  case case3 =>
    refine wf_withSh w fun k s j => ?_
    have stored (u : Units) (src : Option (Nat × Nat)) := wf_putBlock w s.stateRegion b.index b.data src (u := u)
    grind
  all_goals exact w

theorem wf_fwdRegion (h : Sys2Proof.LHdr) (b : Sys2Proof.Blk) : (fwdRegion h b m u).1.wf = true := by
  fun_cases fwdRegion
  case case3 =>
    refine wf_withSh w fun k s j => ?_
    have stored (region : Nat) (src : Option (Nat × Nat)) := wf_putBlock w region b.index b.data src (u := u)
    grind
  all_goals exact w

theorem wf_readbackComplete (shard step : Nat) : (readbackComplete shard step m u).1.wf = true := by
  refine wf_withSh w fun k s j => ?_
  grind

theorem wf_commitAck (h : Sys2Proof.LHdr) (step shard status : Nat) : (commitAck h step shard status m u).1.wf = true := by
  fun_cases commitAck
  case case1 => exact w
  case case2 =>
    refine wf_withSh w fun k s j => ?_
    have committed := wf_commitStep w k step (u := u)
    grind

theorem wf_blockFetch (h : Sys2Proof.LHdr) (shard block step : Nat) : (blockFetch h shard block step m u).1.wf = true := by
  fun_cases blockFetch
  case case1 => exact w
  case case2 =>
    refine wf_withSh w fun k s j => ?_
    have read := wf_readBlock w k block (u := u)
    grind

/-! The shadow optimizer (11) -/

theorem wf_shadowItem (shard step item kind taper fp : Nat) : (shadowItem shard step item kind taper fp m u).1.wf = true := by
  refine wf_withSh w fun k s j => ?_
  have put (u : Units) (i : ShItem) := wf_putItem w s i (u := u)
  grind

theorem wf_shadowParams (c : Sys2Proof.Cmd) (job region addr : Nat) : (shadowParams c job region addr m u).1.wf = true := by
  fun_cases shadowParams <;> exact w

theorem wf_shadowRegister (c : Sys2Proof.Cmd) (region off : Nat) (signatureOk : Bool) : (shadowRegister c region off signatureOk m u).1.wf = true := by
  fun_cases shadowRegister <;> exact w

theorem wf_qualNext (q : Qualify) : (qualNext m u q).1.wf = true := by
  fun_cases qualNext
  case case3 => exact wf_memPutAt (wf_memPutAt w _ _ _ _) _ _ _ _
  all_goals exact w

theorem wf_shadowQualify (c : Sys2Proof.Cmd) (prog set : Nat) : (shadowQualify c prog set m u).1.wf = true := by
  fun_cases shadowQualify <;> exact w

theorem wf_qualLoaded (slot status : Nat) : (qualLoaded slot status m u).1.wf = true := by
  fun_cases qualLoaded
  case case3 => exact wf_qualNext w _
  all_goals exact w

theorem wf_qualItem (kind fp : Nat) : (qualItem kind fp m u).1.wf = true := by
  fun_cases qualItem
  case case3 => exact wf_qualNext w _
  all_goals exact w

theorem wf_shadowCompletion (shard step item kind reason taper fp beats : Nat) :
    (shadowCompletion shard step item kind reason taper fp beats m u).1.wf = true := by
  fun_cases shadowCompletion
  case case1 => exact wf_shadowItem w _ _ _ _ _ _
  case case2 => exact wf_qualItem w _ _
  all_goals exact w

/-! The Taper grid and Flicker (07, 14) -/

theorem wf_gridLoad (c : Sys2Proof.Cmd) (region placement job off sub comp : Nat) (binds : List Nat) (listAddr : Nat) :
    (gridLoad c region placement job off sub comp binds listAddr m u).1.wf = true := by
  fun_cases gridLoad <;> exact w

theorem wf_gridLoadComplete (slot : Nat) (digestOk signatureOk : Bool) : (gridLoadComplete slot digestOk signatureOk m u).1.wf = true := by
  fun_cases gridLoadComplete <;> exact w

/-- Only the row of a channel that writes changes the Mantle. -/
theorem wf_streamRowDone (taper chan ecc : Nat) : (streamRowDone taper chan ecc m u).1.wf = true := by
  fun_cases streamRowDone
  case case7 => exact wf_memPutAt w _ _ _ _
  all_goals exact w

theorem wf_gridLoaded (slot status : Nat) : (gridLoaded slot status m u).1.wf = true := by
  fun_cases gridLoaded
  case case3 => exact wf_qualLoaded w _ _
  all_goals exact w

theorem wf_putFeatures (k no : Nat) (ring : List FBucket) : (putFeatures m u k no ring).wf = true := wf_memPutAt w _ _ _ _

theorem wf_bucketClose (k : Nat) : (bucketClose m u k).1.wf = true := wf_putFeatures (wf_memPutAt w _ _ _ _) _ _ _

theorem wf_flickerBucketBoundary : (flickerBucketBoundary m u).1.wf = true := wf_foldl (fun _ _ wa => wf_bucketClose wa _) _ w

theorem wf_flickerLoadModel (c : Sys2Proof.Cmd) (region off : Nat) : (flickerLoadModel c region off m u).1.wf = true := by
  fun_cases flickerLoadModel <;> exact w

theorem wf_modelFault (slot : Nat) : (modelFault slot m u).1.wf = true := by
  fun_cases modelFault <;> exact w

theorem wf_flickerTriggeredEval (comp : Nat) : (flickerTriggeredEval comp m u).1.wf = true := by
  fun_cases flickerTriggeredEval
  case case4 => exact wf_putFeatures w _ _ _
  all_goals exact w

/-! Ember (15) -/

theorem wf_emberBind (c : Sys2Proof.Cmd) (job shard count addr : Nat) : (emberBind c job shard count addr m u).1.wf = true := by
  fun_cases emberBind <;> exact w

theorem wf_embStart (origin job shard cid ctx : Nat) : (embStart m u origin job shard cid ctx).1.wf = true := by
  fun_cases embStart <;> exact w

theorem wf_actEmber (t : Target) : (actEmber t m u).1.wf = true := by
  fun_cases actEmber
  case case5 => exact wf_embStart w _ _ _ _ _
  all_goals exact w

theorem wf_embCtlStart (h : Sys2Proof.LHdr) (job shard cid ctx : Nat) : (embCtlStart h job shard cid ctx m u).1.wf = true := by
  fun_cases embCtlStart
  case case1 => exact w
  case case2 => exact wf_embStart w _ _ _ _ _

theorem wf_emberFault : (emberFault m u).1.wf = true := by
  fun_cases emberFault <;> exact w

/-! Recoveries (13) -/

theorem wf_memberRelease (job r : Nat) : (memberRelease m u job r).1.wf = true := by
  fun_cases memberRelease
  case case3 =>
    refine wf_foldl (fun a k wa => ?_) _ w
    split
    · exact wf_goBuddy wa _ _ _
    · exact wa
  all_goals exact w

theorem wf_restoreSnap (k r : Nat) : (restoreSnap m u k r).1.wf = true := by
  fun_cases restoreSnap
  case case2 => exact wf_foldl (fun _ _ wa => wf_putBlock wa _ _ _ _) _ w
  all_goals exact w

theorem wf_bringTo (k r : Nat) : (bringTo m u k r).1.wf = true := by
  fun_cases bringTo
  case case4 => exact wf_cutItems (wf_driveStep w _ _) _ _ _ _ _ _
  case case3 | case5 | case6 | case7 => exact wf_driveStep w _ _
  case case10 => exact wf_restoreSnap w _ _
  all_goals exact w

theorem wf_memberPoint (job seq r : Nat) (roll : Bool) (failed : List (Nat × Nat)) : (memberPoint job seq r roll failed m u).1.wf = true := by
  fun_cases memberPoint
  case case3 => exact wf_foldl (fun _ _ wa => wf_bringTo wa _ _) _ (wf_memberRelease w _ _)
  all_goals exact w

theorem wf_coordPoint (job : Nat) : (coordPoint job m u).1.wf = true := by
  fun_cases coordPoint
  case case3 =>
    refine wf_foldl (fun a d wa => ?_) _ w
    split
    · exact wf_memberPoint wa _ _ _ _ _
    · exact wa
  all_goals exact w

theorem wf_coordAnswered (job : Nat) : (coordAnswered job m u).1.wf = true := by
  fun_cases coordAnswered
  case case2 => exact wf_coordPoint w _
  all_goals exact w

theorem wf_rcvState (h : Sys2Proof.LHdr) (job seq released count : Nat) (steps : List Nat) : (rcvState h job seq released count steps m u).1.wf = true := by
  fun_cases rcvState
  case case4 => exact wf_coordAnswered w _
  all_goals exact w

theorem wf_rcvQueryTimeout (job : Nat) : (rcvQueryTimeout job m u).1.wf = true := by
  fun_cases rcvQueryTimeout
  case case3 => exact wf_coordPoint w _
  all_goals exact w

theorem wf_rcvPoint (h : Sys2Proof.LHdr) (job seq r : Nat) (roll : Bool) (failed : List (Nat × Nat)) : (rcvPoint h job seq r roll failed m u).1.wf = true := by
  fun_cases rcvPoint
  case case3 => exact wf_memberPoint w _ _ _ _ _
  all_goals exact w

theorem wf_rcvRelease (c : Sys2Proof.Cmd) (job : Nat) : (rcvRelease c job m u).1.wf = true := by
  fun_cases rcvRelease
  case case5 => exact wf_coordAnswered w _
  all_goals exact w

/-! Reloads (13) -/

theorem wf_takeReload (b : Sys2Proof.Blk) : (takeReload m u b).1.wf = true := by
  fun_cases takeReload
  case case1 => exact w
  case case2 => exact wf_toTransit w _

theorem wf_serveBlocks (k : Nat) (v : Serve) (n b : Nat) : (serveBlocks k v n b m u).1.wf = true := by
  induction n generalizing b m u with
  | zero => exact w
  | succ n ih =>
    have read := wf_readBlock w k b (u := u)
    unfold serveBlocks
    grind [wf_takeReload]

theorem wf_servePump (v : Serve) : (servePump m u v).1.wf = true := wf_withSh w fun _ _ _ => wf_serveBlocks w _ _ _ _

theorem wf_serveMore (shard : Nat) : (serveMore shard m u).1.wf = true := wf_foldl (fun _ _ wa => wf_servePump wa _) _ w

theorem wf_reloadReq (h : Sys2Proof.LHdr) (shard kind step first : Nat) : (reloadReq h shard kind step first m u).1.wf = true := by
  fun_cases reloadReq
  case case1 => exact w
  case case2 =>
    refine wf_withSh w fun _ _ _ => ?_
    split
    · exact w
    · split
      · exact wf_servePump w _
      · exact w

theorem wf_reloadBlock (h : Sys2Proof.LHdr) (b : Sys2Proof.Blk) : (reloadBlock h b m u).1.wf = true := by
  fun_cases reloadBlock
  case case3 => exact wf_takeReload w _
  all_goals exact w

theorem wf_ackServe (shard dst written status : Nat) : (ackServe m u shard dst written status).1.wf = true := by
  fun_cases ackServe
  case case3 => exact wf_servePump w _
  all_goals exact w

theorem wf_reloadAck (h : Sys2Proof.LHdr) (shard step written status : Nat) : (reloadAck h shard step written status m u).1.wf = true := by
  fun_cases reloadAck
  case case1 => exact w
  case case2 => exact wf_ackServe w _ _ _ _

theorem wf_restoreAck (h : Sys2Proof.SHdr) (step shard written : Nat) : (restoreAck h step shard written m u).1.wf = true := by
  fun_cases restoreAck
  case case3 =>
    refine wf_withSh w fun _ s _ => ?_
    have acked (u v : Units) (n : Nat) := wf_ackServe w shard v.self n St.OK (u := u)
    grind
  all_goals exact w

/-! The collective engine (17) -/

theorem wf_bitmapOut (c : CollCall) (a : CollAb) : (bitmapOut m u c a).wf = true := by
  fun_cases bitmapOut
  case case1 => exact wf_memPutAt w _ _ _ _
  case case2 => exact w

theorem wf_collNext (fuel group space : Nat) : (collNext fuel group space m u).1.wf = true := by
  induction fuel generalizing m u with
  | zero => exact w
  | succ fuel ih =>
    have out (u : Units) (c : CollCall) := wf_memPutAt w c.outR c.outOff c.buf none (u := u)
    unfold collNext
    grind

theorem wf_collDrive (group space : Nat) : (collDrive group space m u).1.wf = true := wf_collNext w _ _ _

theorem wf_collEnd (c : CollCall) (a : CollAb) : (collEnd c a m u).1.wf = true := wf_collDrive (wf_bitmapOut w _ _) _ _

theorem wf_abortGo (fuel : Nat) (c : CollCall) : (abortGo fuel c m u).1.wf = true := by
  induction fuel generalizing c u with
  | zero => exact w
  | succ fuel ih =>
    unfold abortGo
    grind [wf_collEnd]

theorem wf_startAbort (c : CollCall) (a : CollAb) : (startAbort c a m u).1.wf = true := by
  fun_cases startAbort
  case case1 => exact wf_collEnd w _ _
  case case2 => exact wf_abortGo w _ _

theorem wf_takeRound (k : CollMsg) (c : CollCall) : (takeRound k c m u).1.wf = true := by
  fun_cases takeRound
  case case3 => exact wf_startAbort w _ _
  case case4 => exact wf_collDrive w _ _
  all_goals exact w

theorem wf_collRound (h : Sys2Proof.LHdr) (k : CollMsg) : (collRound h k m u).1.wf = true := by
  fun_cases collRound
  case case3 => exact wf_takeRound w _ _
  all_goals exact w

theorem wf_collAbort (h : Sys2Proof.LHdr) (sig : CollSig) (num : Nat) (a : CollAb) : (collAbort h sig num a m u).1.wf = true := by
  fun_cases collAbort
  case case3 => exact wf_abortGo w _ _
  case case4 | case7 => exact wf_startAbort w _ _
  all_goals exact w

theorem wf_collAbortRoundExpiry (group space num : Nat) : (collAbortRoundExpiry group space num m u).1.wf = true := by
  fun_cases collAbortRoundExpiry
  case case3 => exact wf_abortGo w _ _
  all_goals exact w

theorem wf_collCallTimeout (group space num : Nat) : (collCallTimeout group space num m u).1.wf = true := by
  fun_cases collCallTimeout
  case case3 => exact wf_startAbort w _ _
  all_goals exact w

theorem wf_enterCall (g : CollGroup) (sig : CollSig) (caller : Nat) (cmd : Option Sys2Proof.Cmd) (input : List Nat) (outR outOff timeout : Nat) :
    (enterCall g sig caller cmd input outR outOff timeout m u).1.wf = true := by
  have taken (l : List CollMsg) (v : Units) : (l.foldl (fun (a : Mem × Units) k =>
      match a.2.coll.match_ sig (NMap.getD g.next sig.space 0) with
      | some c => takeRound k c a.1 a.2
      | none => a) (m, v)).1.wf = true := by
    refine wf_foldl (fun a k wa => ?_) l w
    split
    · exact wf_takeRound wa _ _
    · exact wa
  fun_cases enterCall
  case case1 => exact wf_collDrive (taken _ _) _ _
  case case2 => exact taken _ _

theorem wf_callInside (id caller : Nat) (sig : CollSig) (data : List Nat) (timeout : Nat) : (callInside id caller sig data timeout m u).1.wf = true := by
  fun_cases callInside
  case case5 => exact wf_enterCall w _ _ _ _ _ _ _ _
  all_goals exact w

theorem wf_collGate (job step : Nat) : (collGate job step m u).1.wf = true := by
  fun_cases collGate
  case case1 => exact w
  case case2 => exact wf_callInside w _ _ _ _ _

theorem wf_collGateCancel (job step : Nat) : (collGateCancel job step m u).1.wf = true := wf_foldl (fun _ _ wa => wf_startAbort wa _ _) _ w

theorem wf_collTotals (interval : Nat) (total : Nat → List Nat) : (collTotals interval total m u).1.wf = true := by
  fun_cases collTotals
  case case1 => exact w
  case case2 => exact wf_foldl (fun _ _ wa => wf_callInside wa _ _ _ _ _) _ w

theorem wf_collHealthCall (group : Nat) : (collHealthCall group m u).1.wf = true := by
  fun_cases collHealthCall
  case case3 => exact wf_callInside w _ _ _ _ _
  all_goals exact w

theorem wf_collCall (c : Sys2Proof.Cmd) (sig : CollSig) (crc inR inOff outR outOff timeout : Nat) :
    (collCall c sig crc inR inOff outR outOff timeout m u).1.wf = true := by
  fun_cases collCall
  case case8 => exact wf_enterCall w _ _ _ _ _ _ _ _
  all_goals exact w

theorem wf_collCancel (c : Sys2Proof.Cmd) (group seq : Nat) : (collCancel c group seq m u).1.wf = true := by
  fun_cases collCancel
  case case4 => exact wf_startAbort w _ _
  all_goals exact w

/-! The stream ledger (16) -/

theorem wf_chunkHead (r k next count : Nat) : (chunkHead m u r k next count).wf = true := wf_memPutAt w _ _ _ _

/-- A token is entered in its chunk behind the chunk's head, and a new chunk is linked from the one before it. -/
theorem wf_putToken (i tok : Nat) : (putToken i m u tok).1.wf = true := by
  fun_cases putToken
  case case2 =>
    have linked (o : Option Nat) (r k : Nat) : (match o with | some o => chunkHead m u r o k 1020 | none => m).wf = true := by
      cases o with
      | none => exact w
      | some o => exact wf_chunkHead w _ _ _ _
    exact wf_chunkHead (wf_memPutAt (linked _ _ _) _ _ _ _) _ _ _ _
  case case4 => exact wf_chunkHead (wf_memPutAt w _ _ _ _) _ _ _ _
  all_goals exact w

theorem wf_streamOpen (c : Sys2Proof.Cmd) (port ctx client : Nat) : (streamOpen c port ctx client m u).1.wf = true := by
  fun_cases streamOpen
  case case9 => exact wf_chunkHead w _ _ _ _
  all_goals exact w

theorem wf_streamTokens (h : Sys2Proof.SHdr) (ref count flags len : Nat) (toks : List Nat) : (streamTokens h ref count flags len toks m u).1.wf = true := by
  fun_cases streamTokens
  case case3 go _ _ =>
    unfold go
    split
    · split
      · exact w
      · split <;> exact w
    · extract_lets i
      split
      · exact w
      · split
        · exact w
        · exact wf_foldl (fun a t wa => by exact wf_putToken wa i t) toks (a := (m, u)) w
  all_goals exact w

theorem wf_streamMove (h : Sys2Proof.LHdr) (index cid ctx : Nat) (ent : Option StreamEnt) (toks : List Nat) :
    (streamMove h index cid ctx ent toks m u).1.wf = true := by
  fun_cases streamMove
  case case6 => exact wf_foldl (fun a t wa => by exact wf_putToken wa _ t) toks (a := (m, u)) w
  all_goals exact w

theorem wf_ledgerIntervalBoundary : (ledgerIntervalBoundary m u).1.wf = true := by
  unfold ledgerIntervalBoundary
  extract_lets _ _ r
  have totals : r.1.wf = true := wf_collTotals w _ _
  exact totals

/-! Power and start (22, 23) -/

/-- Nothing written but the blobs of the image. -/
theorem wf_startPrograms : (Units.startPrograms m u).1.wf = true := by
  have blobs (l : List (List Nat × Nat)) (sys : Nat) : (l.foldl (fun m x => memPutAt m u sys x.2 x.1) m).wf = true :=
    List.foldlRecOn (motive := fun m => Mem.wf m = true) l _ w fun _ wm _ _ => wf_memPutAt wm _ _ _ _
  unfold Units.startPrograms
  extract_lets
  split <;> exact blobs _ _

theorem wf_corePgAssert (x : CoreStart) : (corePgAssert x m u).1.wf = true := by
  fun_cases corePgAssert
  case case1 | case2 => exact w
  all_goals exact wf_startPrograms Mem.wf_reset

theorem wf_corePgDeassert (long : Bool) : (corePgDeassert long m u).1.wf = true := by
  fun_cases corePgDeassert
  case case2 => exact Mem.wf_reset
  all_goals exact w

theorem wf_thermtrip : (thermtrip m u).1.wf = true := by
  fun_cases thermtrip
  case case1 => exact w
  case case2 => exact Mem.wf_reset

/-! Effects on other units, and the end of a step (95) -/

theorem wf_performAct (e : SoEntry) (t : Target) : (performAct e t m u).1.1.wf = true := by
  fun_cases performAct
  case case6 => exact wf_actEmber w _
  all_goals exact w

theorem wf_carryOutAct (code level : Nat) (e : SoEntry) (t : Target) (cls hold : Nat) : (carryOutAct code level e t cls hold m u).1.wf = true :=
  wf_performAct w _ _

theorem wf_progFault (slot cause detail : Nat) : (progFault slot cause detail m u).1.wf = true := by
  fun_cases progFault
  case case3 => exact wf_modelFault w _
  case case4 => exact wf_emberFault w
  all_goals exact w

theorem wf_progLoaded (slot status : Nat) : (progLoaded slot status m u).1.wf = true := by
  fun_cases progLoaded
  case case1 => exact w
  case case2 => exact wf_gridLoaded w _ _

theorem wf_withKey {shard : Nat} {f : Nat → Mem × Units} (wf : ∀ k, (f k).1.wf = true) : (withKey u m shard f).1.wf = true := by
  fun_cases withKey
  case case1 => exact wf _
  case case2 => exact w

/-- One effect on another unit keeps the canonical form. -/
theorem wf_settleOne (t : Todo) : (settleOne t m u).1.wf = true := by
  cases t with
  | act => exact wf_carryOutAct w _ _ _ _ _ _
  | held => exact wf_carryOutAct w _ _ _ _ _ _
  | bump => exact wf_generationBump w _ _ _ _
  | gateEnter => exact wf_collGate w _ _
  | gateCancel => exact wf_collGateCancel w _ _
  | gateDone => exact wf_gateBarrierComplete w _ _ _
  | drive => exact wf_withSh w fun _ _ _ => wf_driveOrGo w _ _ _ _
  | verify => exact wf_withKey w fun _ => w
  | gridLoaded => exact wf_progLoaded w _ _
  | gridFault => exact wf_progFault w _ _ _
  | serveMore => exact wf_serveMore w _
  | served => exact wf_served w _
  | _ => exact w

end

theorem wf_settle (n : Nat) {a : Mem × Units} (w : a.1.wf = true) : (settle n a).1.wf = true := by
  induction n generalizing a with
  | zero => exact w
  | succ n ih =>
    unfold settle
    split
    · exact w
    · exact ih (wf_settleOne w _)

theorem wf_boundStaging (n : Nat) {a : Mem × Units} (w : a.1.wf = true) : (boundStaging n a).1.wf = true := by
  induction n generalizing a with
  | zero => exact w
  | succ n ih =>
    unfold boundStaging
    split
    · exact w
    · split
      · exact ih (wf_writeBackLine w _)
      · exact w

/-- The end of a step keeps the canonical form. -/
theorem wf_carry {a : Mem × Units} (w : a.1.wf = true) : (carry a).1.wf = true := by
  unfold carry
  refine wf_boundStaging _ ?_
  split
  · exact w
  · exact wf_settle _ (wf_settle _ w)

/-! The staging partition (R114) -/

/-- Writing back the line of an entry shortens the front buffer. -/
theorem Mem.fb_writeBack_lt {m : Mem} {l : FbLine} (h : l ∈ m.fb) (ok : FbLine → Bool) : (m.writeBack l.line ok).fb.length < m.fb.length :=
  List.length_filter_lt_length_iff_exists.2 ⟨l, h, by simp⟩

/-- Written back until it fits, or for as many lines as it holds, the front buffer keeps to its partition. -/
theorem staged_boundStaging (n : Nat) (a : Mem × Units) (h : a.1.fb.length ≤ n) : (boundStaging n a).1.fb.length ≤ stagingLines := by
  induction n generalizing a with
  | zero => exact Nat.le_trans h (Nat.zero_le _)
  | succ n ih =>
    unfold boundStaging
    split
    case isTrue fits => exact fits
    case isFalse =>
      split
      case h_1 l last => exact ih _ (Nat.le_of_lt_succ (Nat.lt_of_lt_of_le (Mem.fb_writeBack_lt (List.mem_of_getLast? last) _) h))
      case h_2 empty => simp [List.getLast?_eq_none_iff.1 empty]

theorem staged_carry (a : Mem × Units) : (carry a).1.fb.length ≤ stagingLines := staged_boundStaging _ _ (Nat.le_refl _)

/-! Every command -/

/-- A command's outcome: the next state stores what the end of the step makes of an effect that keeps the canonical form. -/
def State.EndsWell (s : State) (o : Host.Outcome State Fault Refusal) : Prop :=
  ∃ a : Mem × Units, o = .next (s.put (carry a)) ∧ (s.mem.wf = true → a.1.wf = true)

/-- A command that acts on the units alone ends well, the Wick's check after it included. -/
theorem State.endsWell_units {s : State} {o : Host.Outcome State Fault Refusal} (u : Units) (e : o = .next (s.put (carry (s.mem, u)))) : s.EndsWell o :=
  ⟨_, e, id⟩

theorem State.endsWell_run {s : State} {f : Mem → Units → Mem × Units} (wf : s.mem.wf = true → (f s.mem s.u).1.wf = true) : s.EndsWell (s.run f) :=
  ⟨_, rfl, wf⟩

theorem State.endsWell_runWick {s : State} {f : Mem → Units → Mem × Units} (wf : s.mem.wf = true → (f s.mem s.u).1.wf = true) :
    s.EndsWell (s.runWick f) :=
  ⟨_, rfl, wf⟩

/-- Every command ends well. -/
theorem exec_endsWell (i : Instr) (s : State) : s.EndsWell (exec i s) := by
  cases i with
  | gradientBlock => exact State.endsWell_runWick fun w => wf_gradientBlock w _ _
  | regionBlock => exact State.endsWell_runWick fun w => wf_regionBlock w _ _
  | snapshotBlock => exact State.endsWell_runWick fun w => wf_snapshotBlock w _ _
  | regResponse => exact State.endsWell_run fun w => wf_regResponse w _ _ _
  | restoreAck => exact State.endsWell_run fun w => wf_restoreAck w _ _ _ _
  | streamTokens => exact State.endsWell_run fun w => wf_streamTokens w _ _ _ _ _ _
  | mantleRead => exact State.endsWell_run fun w => wf_mantleRead w _ _ _ _ _
  | mantleWrite => exact State.endsWell_run fun w => wf_mantleWrite w _ _ _ _ _ _
  | fbWriteback => exact State.endsWell_run fun w => wf_writeBackLine w _
  | bar2Access => exact State.endsWell_run fun w => wf_bar2Access w _ _ _ _ _
  | pageZeroDone => exact State.endsWell_run fun w => wf_pageZeroDone w _
  | patrolScrub => exact State.endsWell_run fun w => wf_patrolScrub w _
  | gridLoad => exact State.endsWell_run fun w => wf_gridLoad w _ _ _ _ _ _ _ _ _
  | gridLoadComplete => exact State.endsWell_run fun w => wf_gridLoadComplete w _ _ _
  | streamRowDone => exact State.endsWell_run fun w => wf_streamRowDone w _ _ _
  | wickMembership => exact State.endsWell_runWick fun w => wf_wickMembership w _ _ _ _ _ _
  | fwdGradient => exact State.endsWell_runWick fun w => wf_fwdGradient w _ _
  | fwdSeed => exact State.endsWell_runWick fun w => wf_fwdSeed w _ _
  | fwdRegion => exact State.endsWell_runWick fun w => wf_fwdRegion w _ _
  | gateBarrierComplete => exact State.endsWell_runWick fun w => wf_gateBarrierComplete w _ _ _
  | stepFwd => exact State.endsWell_runWick fun w => wf_stepFwd w _ _ _ _ _
  | shadowCompletion => exact State.endsWell_runWick fun w => wf_shadowCompletion w _ _ _ _ _ _ _ _
  | readbackComplete => exact State.endsWell_runWick fun w => wf_readbackComplete w _ _
  | commitAck => exact State.endsWell_runWick fun w => wf_commitAck w _ _ _ _
  | blockFetch => exact State.endsWell_runWick fun w => wf_blockFetch w _ _ _ _
  | shadowRegister => exact State.endsWell_runWick fun w => wf_shadowRegister w _ _ _ _
  | shadowQualify => exact State.endsWell_runWick fun w => wf_shadowQualify w _ _ _
  | shadowParams => exact State.endsWell_runWick fun w => wf_shadowParams w _ _ _ _
  | igtanReg => exact State.endsWell_run fun w => wf_igtanReg w _ _ _ _ _ _
  | rcvState => exact State.endsWell_run fun w => wf_rcvState w _ _ _ _ _ _
  | rcvQueryTimeout => exact State.endsWell_run fun w => wf_rcvQueryTimeout w _
  | rcvPoint => exact State.endsWell_run fun w => wf_rcvPoint w _ _ _ _ _ _
  | rcvRelease => exact State.endsWell_run fun w => wf_rcvRelease w _ _
  | reloadReq => exact State.endsWell_run fun w => wf_reloadReq w _ _ _ _ _
  | reloadBlock => exact State.endsWell_run fun w => wf_reloadBlock w _ _
  | reloadAck => exact State.endsWell_run fun w => wf_reloadAck w _ _ _ _ _
  | streamMove => exact State.endsWell_run fun w => wf_streamMove w _ _ _ _ _ _
  | flickerLoadModel => exact State.endsWell_run fun w => wf_flickerLoadModel w _ _ _
  | flickerBucketBoundary => exact State.endsWell_run fun w => wf_flickerBucketBoundary w
  | flickerTriggeredEval => exact State.endsWell_run fun w => wf_flickerTriggeredEval w _
  | emberBind => exact State.endsWell_run fun w => wf_emberBind w _ _ _ _ _
  | embCtlStart => exact State.endsWell_run fun w => wf_embCtlStart w _ _ _ _ _
  | streamOpen => exact State.endsWell_run fun w => wf_streamOpen w _ _ _ _
  | ledgerIntervalBoundary => exact State.endsWell_run fun w => wf_ledgerIntervalBoundary w
  | collCall => exact State.endsWell_run fun w => wf_collCall w _ _ _ _ _ _ _ _
  | collCancel => exact State.endsWell_run fun w => wf_collCancel w _ _ _
  | collRound => exact State.endsWell_run fun w => wf_collRound w _ _
  | collAbort => exact State.endsWell_run fun w => wf_collAbort w _ _ _ _
  | collCallTimeout => exact State.endsWell_run fun w => wf_collCallTimeout w _ _ _
  | collAbortRoundExpiry => exact State.endsWell_run fun w => wf_collAbortRoundExpiry w _ _ _
  | collHealthCall => exact State.endsWell_run fun w => wf_collHealthCall w _
  | nandReadDone => exact State.endsWell_run fun w => wf_nandReadDone w _ _ _ _ _
  | chimEventRead => exact State.endsWell_run fun w => wf_chimEventRead w _ _ _ _
  | auxPowerGood => exact State.endsWell_run fun _ => Mem.wf_reset
  | corePgAssert => exact State.endsWell_run fun w => wf_corePgAssert w _
  | corePgDeassert => exact State.endsWell_run fun w => wf_corePgDeassert w _
  | sysReset => exact State.endsWell_run fun _ => Mem.wf_reset
  | thermtrip => exact State.endsWell_run fun w => wf_thermtrip w
  | _ => exact State.endsWell_units _ rfl

/-- A step passes one Beacon cycle, which leaves the Mantle, or runs the front command, which ends well. -/
theorem step_next (s : State) : ∃ t, step s = .next t ∧ t.pending = s.pending.tail ∧ (s.memOk → t.memOk) ∧ (s.staged → t.staged) := by
  unfold step
  split
  case h_1 idle => exact ⟨_, rfl, by rw [idle]; rfl, id, id⟩
  case h_2 i r front =>
    obtain ⟨a, ends, keeps⟩ := exec_endsWell i { s with pending := r }
    exact ⟨_, ends, by rw [front]; rfl, fun w => wf_carry (keeps w), fun _ => staged_carry a⟩

/-- Settles O3: every command's effect keeps the canonical form and ends in the end of a step, which keeps it and the staging partition. -/
theorem everyStepEndsWellAndKeepsTheStore : Obligations.EveryStepEndsWellAndKeepsTheStore := by
  intro s
  obtain ⟨t, next, rest, keepsForm, keepsStage⟩ := step_next s
  refine ⟨⟨t, next, rest⟩, fun t' next' => ?_⟩
  obtain rfl : t = t' := Host.Outcome.next.inj (next.symm.trans next')
  exact ⟨keepsForm, keepsStage⟩

end Sys2Proof.Machine
end

section
/-!
PROOFS. The Mantle's accesses, pages and regions (05), unit drains and general allocations (06 R144, R145; 19 R452): what each command does, branch by
branch, what a byte reads as after a write, and the statements about them.
-/
namespace Sys2Proof.Machine

/-! Byte stores (R113, R118) -/

/-- Below its first address a canonical store reads blank. -/
theorem Memory.read_of_lt {m : Memory} {lo k : Nat} (w : Memory.wfFrom lo m = true) (h : k < lo) : m.read k = Memory.blank := by
  induction m generalizing lo with
  | nil => rfl
  | cons c r ih =>
    obtain ⟨a, b⟩ := c
    obtain ⟨above, -, rest⟩ := (Memory.wfFrom_cons lo a b r).1 w
    rw [Memory.read, if_neg (by omega)]
    exact ih rest (by omega)

theorem Memory.read_erase_self {m : Memory} {lo : Nat} (w : Memory.wfFrom lo m = true) (k : Nat) : (m.erase k).read k = Memory.blank := by
  induction m generalizing lo with
  | nil => rfl
  | cons c r ih =>
    obtain ⟨a, b⟩ := c
    obtain ⟨-, -, rest⟩ := (Memory.wfFrom_cons lo a b r).1 w
    unfold Memory.erase
    split
    case isTrue here => exact Memory.read_of_lt rest (by omega)
    case isFalse ne =>
      split
      case isTrue before => rw [Memory.read, if_neg ne]; exact Memory.read_of_lt rest (by omega)
      case isFalse => rw [Memory.read, if_neg ne]; exact ih rest

theorem Memory.read_erase_ne (m : Memory) {k a : Nat} (h : a ≠ k) : (m.erase k).read a = m.read a := by
  induction m with
  | nil => rfl
  | cons c r ih =>
    obtain ⟨x, b⟩ := c
    unfold Memory.erase
    split
    case isTrue here => rw [Memory.read, if_neg (by omega)]
    case isFalse =>
      split
      · rfl
      · simp only [Memory.read, ih]

theorem Memory.read_insert_self (m : Memory) (k : Nat) (v : Byte) : (m.insert k v).read k = v := by
  induction m with
  | nil => simp [Memory.insert, Memory.read]
  | cons c r ih =>
    obtain ⟨x, b⟩ := c
    unfold Memory.insert
    split
    · simp [Memory.read]
    · split
      · simp [Memory.read]
      · rw [Memory.read, if_neg (by assumption), ih]

theorem Memory.read_insert_ne (m : Memory) {k a : Nat} (v : Byte) (h : a ≠ k) : (m.insert k v).read a = m.read a := by
  induction m with
  | nil => simp [Memory.insert, Memory.read, h.symm]
  | cons c r ih =>
    obtain ⟨x, b⟩ := c
    unfold Memory.insert
    split
    case isTrue here => simp [Memory.read, h.symm, show ¬x = a by omega]
    case isFalse =>
      split
      · rw [Memory.read, if_neg h.symm]
      · simp only [Memory.read, ih]

/-- A byte written to a canonical store reads back, and every other address reads as before. -/
theorem Memory.read_write {m : Memory} (w : m.wf = true) (k a : Nat) (v : Byte) : (m.write k v).read a = if a = k then v else m.read a := by
  unfold Memory.write
  by_cases here : a = k
  · subst here
    rw [if_pos rfl]
    split
    case isTrue blank => rw [Memory.read_erase_self w, blank]
    case isFalse => exact Memory.read_insert_self m a v
  · rw [if_neg here]
    split
    · exact Memory.read_erase_ne m here
    · exact Memory.read_insert_ne m v here

/-- Canonical stores that read the same everywhere are the same list. -/
theorem Memory.ext_read {m n : Memory} {lo : Nat} (wm : Memory.wfFrom lo m = true) (wn : Memory.wfFrom lo n = true)
    (same : ∀ a, m.read a = n.read a) : m = n := by
  induction m generalizing lo n with
  | nil =>
    cases n with
    | nil => rfl
    | cons c r =>
      obtain ⟨a, b⟩ := c
      obtain ⟨-, full, -⟩ := (Memory.wfFrom_cons lo a b r).1 wn
      exact absurd (by simpa [Memory.read] using (same a).symm) full
  | cons c r ih =>
    obtain ⟨a, b⟩ := c
    obtain ⟨-, full, rest⟩ := (Memory.wfFrom_cons lo a b r).1 wm
    cases n with
    | nil => exact absurd (by simpa [Memory.read] using same a) full
    | cons c' r' =>
      obtain ⟨a', b'⟩ := c'
      obtain ⟨-, full', rest'⟩ := (Memory.wfFrom_cons lo a' b' r').1 wn
      have notBelow : ¬a < a' := fun lt => full (by
        simpa [Memory.read, show ¬a' = a by omega, Memory.read_of_lt rest' (show a < a' + 1 by omega)] using same a)
      have notAbove : ¬a' < a := fun lt => full' (by
        simpa [Memory.read, show ¬a = a' by omega, Memory.read_of_lt rest (show a' < a + 1 by omega)] using (same a').symm)
      obtain rfl : a = a' := by omega
      obtain rfl : b = b' := by simpa [Memory.read] using same a
      refine congrArg _ (ih rest rest' fun k => ?_)
      by_cases old : k < a + 1
      · rw [Memory.read_of_lt rest old, Memory.read_of_lt rest' old]
      · simpa [Memory.read, show ¬a = k by omega] using same k

/-! The front buffer (R113, R116) -/

/-- What a front buffer line holds of an address. -/
def FbLine.holds (l : FbLine) (a : Nat) : Option Nat := if l.line = a / 64 then (l.bytes.find? fun p => p.1 = a % 64).map (·.2) else none

theorem FbLine.holds_of_ne {l : FbLine} {a : Nat} (h : l.line ≠ a / 64) : l.holds a = none := if_neg h

/-- A byte is that of the newest line that holds it, else DRAM's (R113). -/
theorem Mem.byte_eq (m : Mem) (a : Nat) : m.byte a = match m.fb.findSome? fun l => l.holds a with
    | some v => v % 256
    | none => (m.dram.read a).toNat := rfl

/-- A byte entered at the head of a line stands there in place of what the line held of the address. -/
theorem FbLine.holds_entered (l : FbLine) {a : Nat} (line : l.line = a / 64) (v b : Nat) :
    FbLine.holds { l with bytes := (a % 64, v) :: l.bytes.filter fun p => p.1 ≠ a % 64 } b = if b = a then some v else l.holds b := by
  unfold FbLine.holds
  by_cases same : b = a
  · simp [same, line]
  · by_cases here : l.line = b / 64
    · have off : a % 64 ≠ b % 64 := by omega
      have kept : (fun p : Nat × Nat => !decide (p.1 = a % 64) && decide (p.1 = b % 64)) = fun p => decide (p.1 = b % 64) := by
        funext p
        by_cases at_ : p.1 = b % 64 <;> simp [at_, off.symm]
      simp [same, here, off, List.find?_filter, kept]
    · simp [same, here]

/-- The line that a byte starts holds that byte alone. -/
theorem FbLine.holds_single (region tag key a v b : Nat) :
    FbLine.holds { line := a / 64, region := region, tag := tag, key := key, bytes := [(a % 64, v)] } b = if b = a then some v else none := by
  unfold FbLine.holds
  by_cases same : b = a
  · simp [same]
  · by_cases here : a / 64 = b / 64
    · simp [same, here, show ¬a % 64 = b % 64 by omega]
    · simp [same, here]

/-- A byte entered into the front buffer reads back, and every other address reads as before. -/
theorem Mem.byte_putByte (m : Mem) (region tag key a v b : Nat) : (m.putByte region tag key a v).byte b = if b = a then v % 256 else m.byte b := by
  rw [Mem.byte_eq, Mem.byte_eq]
  fun_cases Mem.putByte
  case case1 l r front top =>
    rw [List.findSome?_cons, FbLine.holds_entered l top.1, front, List.findSome?_cons]
    by_cases same : b = a <;> simp [same]
  case case2 l r front top =>
    rw [List.findSome?_cons, FbLine.holds_single, front]
    by_cases same : b = a <;> simp [same]
  case case3 empty =>
    rw [List.findSome?_cons, FbLine.holds_single, empty]
    by_cases same : b = a <;> simp [same]

/-- A line written to DRAM gives what it holds, its newest byte first, and leaves every other address. -/
theorem Memory.read_putLine {d : Memory} (w : d.wf = true) {l : FbLine} (inLine : ∀ p ∈ l.bytes, p.1 < 64) (a : Nat) :
    (d.putLine l.line l.bytes).read a = match l.holds a with
      | some v => BitVec.ofNat 8 v
      | none => d.read a := by
  obtain ⟨line, region, tag, key, bytes⟩ := l
  unfold FbLine.holds
  induction bytes with
  | nil => simp [Memory.putLine]
  | cons p r ih =>
    have offset : p.1 < 64 := inLine p List.mem_cons_self
    rw [Memory.putLine, Memory.read_write (Memory.wf_putLine d line r w), ih fun q hq => inLine q (List.mem_cons_of_mem p hq)]
    by_cases at_ : a = 64 * line + p.1
    · rw [if_pos at_, if_pos (show line = a / 64 by omega), List.find?_cons_of_pos (by simp; omega)]
      rfl
    · rw [if_neg at_]
      by_cases here : line = a / 64
      · rw [if_pos here, if_pos here, List.find?_cons_of_neg (by simp; omega)]
      · rw [if_neg here, if_neg here]

/-- Lines of one number written to DRAM from the oldest to the newest give what the newest of them that holds an address holds. -/
theorem Memory.read_putLines {d : Memory} (w : d.wf = true) (line a : Nat) (ls : List FbLine) (mine : ∀ l ∈ ls, l.line = line)
    (inLine : ∀ l ∈ ls, ∀ p ∈ l.bytes, p.1 < 64) :
    (ls.foldr (fun l d => Memory.putLine d line l.bytes) d).wf = true ∧
      (ls.foldr (fun l d => Memory.putLine d line l.bytes) d).read a = match ls.findSome? fun l => l.holds a with
        | some v => BitVec.ofNat 8 v
        | none => d.read a := by
  induction ls with
  | nil => exact ⟨w, rfl⟩
  | cons l r ih =>
    obtain ⟨older, reads⟩ := ih (fun x hx => mine x (List.mem_cons_of_mem l hx)) fun x hx => inLine x (List.mem_cons_of_mem l hx)
    refine ⟨Memory.wf_putLine _ _ _ older, ?_⟩
    rw [List.foldr_cons, ← mine l List.mem_cons_self] at *
    rw [Memory.read_putLine older (inLine l List.mem_cons_self), List.findSome?_cons]
    cases l.holds a with
    | none => exact reads
    | some v => rfl

/-- Dropping what gives nothing does not change what is found first. -/
theorem findSome?_filter_of_none {α β : Type} {p : α → Bool} {f : α → Option β} (l : List α) (h : ∀ x, p x = false → f x = none) :
    (l.filter p).findSome? f = l.findSome? f := by
  induction l with
  | nil => rfl
  | cons x r ih =>
    cases keep : p x with
    | true => rw [List.filter_cons_of_pos keep, List.findSome?_cons, List.findSome?_cons, ih]
    | false => rw [List.filter_cons_of_neg (by simp [keep]), List.findSome?_cons, h x keep, ih]

/-- Writing the lines of one number back, all of them good, changes what no address reads (R116). -/
theorem Mem.byte_writeBack {m : Mem} (w : m.wf = true) (line a : Nat) : (m.writeBack line fun _ => true).byte a = m.byte a := by
  obtain ⟨dram, fb⟩ := (Mem.wf_iff m).1 w
  have mine {l : FbLine} (hl : l ∈ m.fb.filter fun l => decide (l.line = line) && true) : l ∈ m.fb ∧ l.line = line := by simpa using hl
  have written := (Memory.read_putLines dram line a (m.fb.filter fun l => decide (l.line = line) && true) (fun l hl => (mine hl).2)
    fun l hl p hp => (fb l (mine hl).1 p hp).1).2
  rw [Mem.byte_eq, Mem.byte_eq, Mem.writeBack, List.filter_reverse, List.foldl_reverse, written]
  by_cases here : line = a / 64
  · have gone : ((m.fb.filter fun l => decide (l.line ≠ line)).findSome? fun l => l.holds a) = none :=
      List.findSome?_eq_none_iff.2 fun l hl => FbLine.holds_of_ne (by simpa [here] using (List.mem_filter.1 hl).2)
    have all := findSome?_filter_of_none (p := fun l => decide (l.line = line) && true) (f := fun l => l.holds a) m.fb
      fun l other => FbLine.holds_of_ne (by simpa [here] using other)
    rw [gone, all]
    cases m.fb.findSome? fun l => l.holds a with
    | none => rfl
    | some v => exact BitVec.toNat_ofNat v 8
  · have kept := findSome?_filter_of_none (p := fun l => decide (l.line ≠ line)) (f := fun l => l.holds a) m.fb
      fun l its => FbLine.holds_of_ne (by rw [show l.line = line by simpa using its]; exact here)
    have noneMine : ((m.fb.filter fun l => decide (l.line = line) && true).findSome? fun l => l.holds a) = none :=
      List.findSome?_eq_none_iff.2 fun l hl => FbLine.holds_of_ne (by rw [(mine hl).2]; exact here)
    rw [kept, noneMine]

/-! Requests before the budget controller (R137, R139) -/

section
variable {u : Units} {x : BudWait} {m : Mem} {go : Mem → Units → Mem × Units}

theorem letIn_shut (act : x.act ≠ 0) (shut : capOf u.bud.cap x.act (resOf x.inst) = 0) : u.letIn x m go = (m, u.budAnswer x St.BUDGET_DEFERRED) :=
  if_pos (by simp [act, shut])

variable (may : x.act = 0 ∨ capOf u.bud.cap x.act (resOf x.inst) ≠ 0)
include may

theorem letIn_goes (gate : u.gate x.act x.inst = true) (first : (u.bud.waits.any fun w => w.act = x.act && w.inst = x.inst) = false) :
    u.letIn x m go = go m (u.spend x.act x.inst x.amount) :=
  (if_neg (by simpa [Decidable.or_iff_not_imp_left] using may)).trans (if_pos (by rw [gate, first]; rfl))

theorem letIn_held (held : u.gate x.act x.inst = false ∨ (u.bud.waits.any fun w => w.act = x.act && w.inst = x.inst) = true) :
    u.letIn x m go = (m, { u with bud := { u.bud with waits := u.bud.waits ++ [x] } }) :=
  (if_neg (by simpa [Decidable.or_iff_not_imp_left] using may)).trans (if_neg (by rcases held with held | held <;> simp [held]))

end

/-! Reads and writes that the budget lets through (R109, R112, R113, R121, R122, R124, R125) -/

section
variable {agent addr len tag key : Nat} {bytes ecc : List Nat} {m : Mem} {u : Units}

theorem readNow_quiet (quiet : (u.mantle.page (addr / pageBytes)).state = 2) :
    readNow agent addr len ecc m u = (m, (u.count 0xA00120).emit (.data addr true [])) := if_pos quiet

theorem writeNow_quiet (quiet : (u.mantle.page (addr / pageBytes)).state = 2) : writeNow agent addr tag key bytes m u = (m, u.count 0xA00120) :=
  if_pos quiet

theorem bar2Now_read_allowed (may : (u.spend 12 5 len).mayBar2 addr len false = true) : bar2Now false addr len bytes ecc m u =
    let r := eccLines addr len ecc m (u.spend 12 5 len)
    let v := r.2.count 0xA00128 (m.fromDram addr len)
    (r.1, if v.poisoned addr len then v.emit (.data addr true (List.replicate len 255)) else v.emit (.data addr false (m.bytesAt addr len))) :=
  if_neg (by simp [may])

theorem bar2Now_read_refused (no : (u.spend 12 5 len).mayBar2 addr len false = false) : bar2Now false addr len bytes ecc m u =
    (m, ((u.spend 12 5 len).deny Ag.pcie addr).emit (.data addr false (List.replicate len 255))) :=
  if_pos (by simp [no])

theorem bar2Now_write_allowed (may : (u.spend 12 7 bytes.length).mayBar2 addr bytes.length true = true) : bar2Now true addr len bytes ecc m u =
    (memPut m (u.spend 12 7 bytes.length) addr bytes,
      (u.spend 12 7 bytes.length).setMantle ((u.spend 12 7 bytes.length).mantle.cure addr bytes.length)) :=
  if_neg (by simp [may])

theorem bar2Now_write_refused (no : (u.spend 12 7 bytes.length).mayBar2 addr bytes.length true = false) : bar2Now true addr len bytes ecc m u =
    (m, (u.spend 12 7 bytes.length).deny Ag.pcie addr) :=
  if_pos (by simp [no])

variable (served : (u.mantle.page (addr / pageBytes)).state ≠ 2)
include served

theorem readNow_refused (no : u.mayAccess agent addr len false = false) :
    readNow agent addr len ecc m u = (m, (u.deny agent addr).emit (.data addr true [])) :=
  (if_neg served).trans (if_pos (by simp [no]))

theorem readNow_allowed (may : u.mayAccess agent addr len false = true) : readNow agent addr len ecc m u =
    let r := eccLines addr len ecc m u
    let v := r.2.count 0xA00128 (m.fromDram addr len)
    (r.1, if v.poisoned addr len then v.emit (.data addr true []) else v.emit (.data addr false (m.bytesAt addr len))) :=
  (if_neg served).trans (if_neg (by simp [may]))

theorem writeNow_refused (no : u.mayAccess agent addr bytes.length true = false) :
    writeNow agent addr tag key bytes m u = (m, u.deny agent addr) :=
  (if_neg served).trans (if_pos (by simp [no]))

variable (may : u.mayAccess agent addr bytes.length true = true)
include may

/-- With a stack failed an inbound write is dropped (R112). -/
theorem writeNow_stackFailed (failed : u.mantle.stackFailed = true) (inbound : agent ≤ 1) : writeNow agent addr tag key bytes m u = (m, u) :=
  (if_neg served).trans ((if_neg (by simp [may])).trans (if_pos (by simp [failed, inbound])))

variable {i : Nat} {r : Region} (taken : u.mantle.stackFailed = false ∨ 1 < agent) (owner : u.regionAt addr = some (i, r))
include taken owner

/-- A write that gets as far as its region turns on the generation it carries (R122). -/
theorem writeNow_region : writeNow agent addr tag key bytes m u =
    if !(u.tagGood r key tag) then (m, u.count 0xA00110)
    else (memPut m u addr bytes (some (tag, r.keyOf key)), u.setMantle (u.mantle.cure addr bytes.length)) := by
  have dropped : ¬(u.mantle.stackFailed && decide (agent ≤ 1)) = true := by
    rcases taken with ok | inner
    · simp [ok]
    · simp [Nat.not_le.2 inner]
  refine (if_neg served).trans ((if_neg (by simp [may])).trans ((if_neg dropped).trans ?_))
  rw [owner]

theorem writeNow_current (current : r.ownerKind = 4 ∨ u.tagFor r key = some tag) : writeNow agent addr tag key bytes m u =
    (memPut m u addr bytes (some (tag, r.keyOf key)), u.setMantle (u.mantle.cure addr bytes.length)) :=
  (writeNow_region served may taken owner).trans (if_neg (by simpa [Units.tagGood, Decidable.or_iff_not_imp_left] using current))

/-- A write of another generation is only counted. -/
theorem writeNow_stale (owned : r.ownerKind ≠ 4) (stale : u.tagFor r key ≠ some tag) : writeNow agent addr tag key bytes m u = (m, u.count 0xA00110) :=
  (writeNow_region served may taken owner).trans (if_pos (by simp [Units.tagGood, owned, stale]))

end

/-- Settles O18: what each access comes to, by whether the budget lets it through and what the region allows. -/
theorem mantleAccessesMoveBytes : Obligations.MantleAccessesMoveBytes := by
  intro s act agent addr go shut held no wait
  refine ⟨fun len ecc => ⟨?read, ?readShut, ?readHeld⟩, fun tag key bytes => ⟨?write, ?writeShut, ?writeHeld⟩, fun line => rfl,
    fun len bytes ecc => ⟨fun ⟨may, gate, first⟩ => ⟨?bar2Read, ?bar2Refused, ?bar2Write⟩, fun wr => ⟨?bar2Shut, ?bar2Held⟩⟩⟩
  case read => exact fun ⟨may, gate, first⟩ served allowed => State.run_of_eq ((letIn_goes may gate first).trans (readNow_allowed served allowed))
  case readShut => exact fun ⟨act, shut⟩ => State.run_of_units (letIn_shut act shut)
  case readHeld => exact fun ⟨may, held⟩ => State.run_of_units (letIn_held may held)
  case write =>
    intro ⟨may, gate, first⟩ served allowed
    refine ⟨fun failed inbound => ?_, fun i r taken owner => ⟨fun current => ?_, fun owned stale => ?_⟩⟩
    · exact State.run_of_units ((letIn_goes may gate first).trans (writeNow_stackFailed served allowed failed inbound))
    · exact State.run_of_eq ((letIn_goes may gate first).trans (writeNow_current served allowed taken owner current))
    · exact State.run_of_units ((letIn_goes may gate first).trans (writeNow_stale served allowed taken owner owned stale))
  case writeShut => exact fun ⟨act, shut⟩ => State.run_of_units (letIn_shut act shut)
  case writeHeld => exact fun ⟨may, held⟩ => State.run_of_units (letIn_held may held)
  case bar2Read => exact fun allowed => State.run_of_eq ((letIn_goes may gate first).trans (bar2Now_read_allowed allowed))
  case bar2Refused => exact fun refused => State.run_of_units ((letIn_goes may gate first).trans (bar2Now_read_refused refused))
  case bar2Write => exact fun allowed => State.run_of_eq ((letIn_goes may gate first).trans (bar2Now_write_allowed allowed))
  case bar2Shut => exact fun ⟨act, shut⟩ => State.run_of_units (letIn_shut act shut)
  case bar2Held => exact fun ⟨may, held⟩ => State.run_of_units (letIn_held may held)

/-! Refused accesses leave the Mantle (R121, R124, R125) -/

/-- An access that leaves the units at `u` and the Mantle as it was; where it raises nothing on other units, nothing else changes. -/
theorem State.run_leaves {s : State} {f : Mem → Units → Mem × Units} {u : Units} (e : f s.mem s.u = (s.mem, u)) :
    s.run f = .next (s.after u) ∧ (u.todo = [] → s.staged → s.after u = { s with u := u }) :=
  ⟨State.run_of_units e, fun none staged => congrArg s.put (carry_idle (s.mem, u) none staged)⟩

/-- Settles O20: a refusal stores the units alone, and a byte store reads as its last write. -/
theorem refusedMantleAccessesLeaveMemory : Obligations.RefusedMantleAccessesLeaveMemory := by
  refine ⟨?accesses, ⟨?buffer, fun m line w => Mem.byte_writeBack w line⟩, ?stores, fun m n wm wn => Memory.ext_read wm wn⟩
  case accesses =>
    intro s act agent addr tag key len bytes ecc go same uw ur bw br
    refine ⟨fun ⟨may, gate, first⟩ => ⟨fun served => ⟨fun no => ?_, fun no => ?_⟩, fun quiet => ⟨?_, ?_⟩⟩,
      fun ⟨may, gate, first⟩ => ⟨fun no => ?_, fun no => ?_⟩⟩
    · exact State.run_leaves ((letIn_goes may gate first).trans (writeNow_refused served no))
    · exact State.run_leaves ((letIn_goes may gate first).trans (readNow_refused served no))
    · exact State.run_leaves ((letIn_goes may gate first).trans (writeNow_quiet quiet))
    · exact State.run_leaves ((letIn_goes may gate first).trans (readNow_quiet quiet))
    · exact State.run_leaves ((letIn_goes may gate first).trans (bar2Now_write_refused no))
    · exact State.run_leaves ((letIn_goes may gate first).trans (bar2Now_read_refused no))
  case buffer =>
    intro m region tag key a b v
    exact ⟨by rw [Mem.byte_putByte, if_pos rfl], fun other => by rw [Mem.byte_putByte, if_neg other]⟩
  case stores => exact fun m k a v w => ⟨Memory.wf_write m k v w, Memory.read_write w k a v⟩

/-! Allocations (R118, R119, R125) -/

section
variable {u : Units} {r : Region} {bytes : Nat}

theorem allocRecovery_taken {v : Units} {i : Nat} (fits : u.allocRegion r bytes = (v, some i)) (why : Nat) :
    u.allocRecovery r bytes why = (v, some i, false) := by
  simp only [Units.allocRecovery, fits]

section
variable (full : (u.allocRegion r bytes).2 = none)
include full

theorem allocRecovery_waits (why : Nat) (come : sumL (u.mantle.waits.map (·.pages)) + pagesFor bytes ≤
      u.mantle.freeCount + u.mantle.coming + u.mantle.traceSpare) : u.allocRecovery r bytes why =
    let v := u.reclaimTrace (pagesFor bytes - (u.mantle.freeCount - sumL (u.mantle.waits.map (·.pages))))
    (v.setMantle { v.mantle with waits := v.mantle.waits ++ [{ region := r, pages := pagesFor bytes, why := why }] }, none, true) := by
  simp only [Units.allocRecovery, full]
  exact if_pos come

theorem allocRecovery_fails (why : Nat) (few : u.mantle.freeCount + u.mantle.coming + u.mantle.traceSpare <
      sumL (u.mantle.waits.map (·.pages)) + pagesFor bytes) : u.allocRecovery r bytes why = (u, none, false) := by
  simp only [Units.allocRecovery, full]
  exact if_neg (Nat.not_le.2 few)

end

theorem mantleRegionAllocate_fits {v : Units} {i : Nat} (fits : u.allocRegion { r with hostVisible := false } bytes = (v, some i)) (recovery : Bool) :
    mantleRegionAllocate r bytes recovery u = v.emit (.bus 8 [St.OK, i]) := by
  cases recovery with
  | false => simp [mantleRegionAllocate, fits]
  | true => simp [mantleRegionAllocate, allocRecovery_taken fits]

variable (full : (u.allocRegion { r with hostVisible := false } bytes).2 = none)
include full

theorem mantleRegionAllocate_full : mantleRegionAllocate r bytes false u = u.emit (.bus 8 [St.MANTLE_FULL, 0]) := by
  simp [mantleRegionAllocate, full]

/-- An allocation of a recovery waits for the pages on their way. -/
theorem mantleRegionAllocate_waits (come : sumL (u.mantle.waits.map (·.pages)) + pagesFor bytes ≤
      u.mantle.freeCount + u.mantle.coming + u.mantle.traceSpare) : mantleRegionAllocate r bytes true u =
    let v := u.reclaimTrace (pagesFor bytes - (u.mantle.freeCount - sumL (u.mantle.waits.map (·.pages))))
    v.setMantle { v.mantle with waits := v.mantle.waits ++ [{ region := { r with hostVisible := false }, pages := pagesFor bytes, why := 0 }] } := by
  simp [mantleRegionAllocate, allocRecovery_waits full 0 come]

theorem mantleRegionAllocate_fails (few : u.mantle.freeCount + u.mantle.coming + u.mantle.traceSpare <
      sumL (u.mantle.waits.map (·.pages)) + pagesFor bytes) : mantleRegionAllocate r bytes true u = u.emit (.bus 8 [St.MANTLE_FULL, 0]) := by
  simp [mantleRegionAllocate, allocRecovery_fails full 0 few]

end

/-! Pages and stacks (R110, R112, R124, R129) -/

theorem mantleQuietExpiry_quiet {u : Units} {k : Nat} (quiet : (u.mantle.page k).state = 2) :
    mantleQuietExpiry k u = u.setMantle (u.mantle.setPage k { u.mantle.page k with state := 0, zeroed := false }) := if_pos quiet

theorem pageZeroDone_zeroes {m : Mem} {u : Units} {k : Nat} (free : (u.mantle.page k).state = 0) (due : (u.mantle.page k).zeroed = false) :
    pageZeroDone k m u =
      ({ dram := m.dram.clear (k * pageBytes) pageBytes, fb := m.fb.filter fun l => 64 * l.line / pageBytes ≠ k },
       (((u.spend (u.mantle.page k).act 0 pageBytes).count 0xA00130 pageBytes).setMantle
         (((u.mantle.fadePage (u.mantle.page k).region k).setPage k { u.mantle.page k with zeroed := true, region := 0 }).cure
           (k * pageBytes) pageBytes)).serveWait) :=
  if_pos (by simp [free, due])

theorem stackUnresponsive_fails {u : Units} (ok : u.mantle.stackFailed = false) (stack : Nat) : stackUnresponsive stack u =
    let v := ((u.setMantle { u.mantle with stackFailed := true, failedStacks := setBit u.mantle.failedStacks stack }).later
      (.outcome 2 stack)).raise Ev.MANTLE_STACK_FAIL 2 0xA0 stack
    (v.report v.role.wardenId 2 11 [v.self, v.clk.sec * 2 ^ 30 + v.clk.ns]).emit (.bus 9 [0]) :=
  if_neg (Bool.eq_false_iff.1 ok)

theorem stackUnresponsive_again {u : Units} (failed : u.mantle.stackFailed = true) (stack : Nat) : stackUnresponsive stack u = u := if_pos failed

theorem mantleEccClr_clears {u : Units} {w : Who} {value : Nat} (op : isOperator w.priv = true) (one : bitAt value 0 = true) :
    mantleEccClr w value u = u.setMantle { u.mantle with eccAddr := 0 } :=
  if_pos (by simp [op, one])

theorem mantleEccClr_ignored {u : Units} {w : Who} {value : Nat} (no : isOperator w.priv = false ∨ bitAt value 0 = false) : mantleEccClr w value u = u :=
  if_neg (by rcases no with no | no <;> simp [no])

/-! MANTLE_FREE and MANTLE_SET_ACCESS (R124, R126) -/

section
variable {u : Units} {c : Cmd} {i : Nat} (op : isOperator (stampPriv c.stamp) = true)
include op

theorem mantleFree_general {r : Region} (found : NMap.find u.mantle.regions i = some r) (general : r.typ = 8) :
    mantleFree c i u = (u.freeRegion i).done c 0xA0 0x0402 St.OK := by
  rw [mantleFree, operator_ok op, found]
  exact if_pos general

theorem mantleFree_other (none : ∀ r, NMap.find u.mantle.regions i = some r → r.typ ≠ 8) : mantleFree c i u = u.done c 0xA0 0x0402 St.BAD_PARAM := by
  rw [mantleFree, operator_ok op]
  cases found : NMap.find u.mantle.regions i with
  | none => rfl
  | some r => exact if_neg (none r found)

variable {mask : Nat} {hv : Bool}

theorem mantleSetAccess_general {r : Region} (found : NMap.find u.mantle.regions i = some r) (general : r.typ = 8) (fits : mask < 2 ^ 20) :
    mantleSetAccess c i mask hv u = (u.setMantle
      { u.mantle with regions := NMap.set u.mantle.regions i { r with mask := mask, hostVisible := hv } }).done c 0xA0 0x0403 St.OK := by
  rw [mantleSetAccess, operator_ok op, found]
  exact if_pos (by simpa [general] using fits)

theorem mantleSetAccess_bad (bad : ∀ r, NMap.find u.mantle.regions i = some r → r.typ ≠ 8 ∨ 2 ^ 20 ≤ mask) :
    mantleSetAccess c i mask hv u = u.done c 0xA0 0x0403 St.BAD_PARAM := by
  rw [mantleSetAccess, operator_ok op]
  cases found : NMap.find u.mantle.regions i with
  | none => rfl
  | some r => exact if_neg (by simpa [Decidable.or_iff_not_imp_left] using bad r found)

end

/-- Settles O19: each clause is one branch of its command, by the lemmas above. -/
theorem mantlePagesAndRegionsAct : Obligations.MantlePagesAndRegionsAct := by
  intro s w c
  refine ⟨?allocate, ?quiet, ?zero, ?scrub, ?stack, rfl, ?clear, ?general⟩
  case allocate =>
    intro r bytes q
    refine ⟨fun v i fits recovery => State.runU_of_eq (mantleRegionAllocate_fits fits recovery), fun full =>
      ⟨State.runU_of_eq (mantleRegionAllocate_full full), fun come => ?_, fun few => ?_⟩⟩
    · exact State.runU_of_eq (mantleRegionAllocate_waits full come)
    · exact State.runU_of_eq (mantleRegionAllocate_fails full few)
  case quiet => exact fun k quiet => State.runU_of_eq (mantleQuietExpiry_quiet quiet)
  case zero => exact fun k free due => State.run_of_eq (pageZeroDone_zeroes free due)
  case scrub =>
    intro ecc next
    refine ⟨fun may => ⟨fun gate first => ?_, fun held => ?_⟩, fun shut => ?_⟩
    · exact State.run_of_eq (letIn_goes (.inr may) gate first)
    · exact State.run_of_units (letIn_held (.inr may) held)
    · exact State.run_of_units (letIn_shut (by simp) shut)
  case stack =>
    exact fun stack => ⟨fun ok => State.runU_of_eq (stackUnresponsive_fails ok stack),
      fun failed => State.runU_of_eq (stackUnresponsive_again failed stack)⟩
  case clear =>
    exact fun value => ⟨fun op one => State.runU_of_eq (mantleEccClr_clears op one), fun no => State.runU_of_eq (mantleEccClr_ignored no)⟩
  case general =>
    intro i mask hv
    refine ⟨fun op => ⟨fun r found general => ⟨?_, fun fits => ?_⟩, fun none => ⟨?_, ?_⟩, fun wide => ?_⟩, fun no => ⟨?_, ?_⟩⟩
    · exact State.runU_of_eq (mantleFree_general op found general)
    · exact State.runU_of_eq (mantleSetAccess_general op found general fits)
    · exact State.runU_of_eq (mantleFree_other op none)
    · exact State.runU_of_eq (mantleSetAccess_bad op fun r found => .inl (none r found))
    · exact State.runU_of_eq (mantleSetAccess_bad op fun _ _ => .inr wide)
    · exact State.runU_of_eq (operator_refused no _ _ _)
    · exact State.runU_of_eq (operator_refused no _ _ _)

/-! MB_SET_MODE (R452) -/

section
variable {u : Units} {c : Cmd} {mode : Nat} (op : isOperator (stampPriv c.stamp) = true)
include op

theorem mbSetMode_badState (stays : u.mb.mode = 1 ∨ u.mb.mode = 3 ∨
    mode = 2 ∧ u.mb.mode ≠ 2 ∧ (u.wick.jobs ≠ [] ∨ u.vig.watch ≠ [])) : mbSetMode c mode u = u.done c 0x021 0x0102 St.BAD_STATE := by
  rw [mbSetMode, operator_ok op]
  by_cases busy : u.mb.mode = 1 ∨ u.mb.mode = 3
  · exact if_pos (by simpa using busy)
  · obtain ⟨rfl, off, bound⟩ : mode = 2 ∧ u.mb.mode ≠ 2 ∧ (u.wick.jobs ≠ [] ∨ u.vig.watch ≠ []) :=
      (stays.resolve_left fun h => busy (.inl h)).resolve_left fun h => busy (.inr h)
    exact (if_neg (by simpa using busy)).trans ((if_neg (by decide)).trans ((if_neg off.symm).trans (if_pos (by simpa using bound))))

variable (run : u.mb.mode ≠ 1) (serve : u.mb.mode ≠ 3)
include run serve

theorem mbSetMode_badParam (not0 : mode ≠ 0) (not2 : mode ≠ 2) : mbSetMode c mode u = u.done c 0x021 0x0102 St.BAD_PARAM := by
  rw [mbSetMode, operator_ok op]
  exact (if_neg (by simp [run, serve])).trans (if_pos (by simp [not0, not2]))

/-- The mode is entered; the one that stands is entered without a change. -/
theorem mbSetMode_enters (known : mode = 0 ∨ mode = 2) (unbound : mode ≠ u.mb.mode → mode = 2 → u.wick.jobs = [] ∧ u.vig.watch = []) :
    mbSetMode c mode u = ({ u with mb := { u.mb with mode := mode } } : Units).done c 0x021 0x0102 St.OK := by
  rw [mbSetMode, operator_ok op]
  refine (if_neg (by simp [run, serve])).trans ((if_neg (by rcases known with known | known <;> simp [known])).trans ?_)
  by_cases stands : mode = u.mb.mode
  · exact (if_pos stands).trans (by rw [stands])
  · exact (if_neg stands).trans (if_neg (by simpa using unbound stands))

end

/-! Drains of units (R144, R145) -/

section
variable {u : Units} {unit : Nat}

section
variable (drains : (u.drains.any fun x => x.unit = unit) = true)
include drains

theorem unitDrainTimeout_ends : unitDrainTimeout unit u = (u.raiseTag unit).drainOver unit := if_neg (by simpa using drains)

theorem unitDrainEnd_ends (none : u.drainLeft unit = 0) : unitDrainEnd unit u = (u.raiseTag unit).drainOver unit := if_pos (by rw [drains, none]; rfl)

end

theorem unitDrainEnd_working (left : u.drainLeft unit ≠ 0) : unitDrainEnd unit u = u := if_neg (by simp [left])

variable (none : (u.drains.any fun x => x.unit = unit) = false)
include none

theorem unitDrainTimeout_none : unitDrainTimeout unit u = u := if_pos (by rw [none]; rfl)

theorem unitDrainEnd_none : unitDrainEnd unit u = u := if_neg (by simp [none])

end

/-! MANTLE_ALLOC (R126) -/

/-- A general region owned by none. -/
def generalRegion (hv : Bool) (mask : Nat) : Region :=
  { typ := 8, hostVisible := hv, pooled := false, quiet := false, job := 0, ownerCid := 0, ownerCtx := 0xFF, ownerKind := 4, gen := 0, mask := mask,
    pages := [] }

/-- How MANTLE_ALLOC completes for the region that it asks for. -/
def Units.allocDone (u : Units) (c : Cmd) (r : Region) (bytes : Nat) : Units :=
  match (u.allocRegion r bytes).2 with
  | some i => (u.allocRegion r bytes).1.done c 0xA0 0x0401 St.OK 0 i
  | none => u.done c 0xA0 0x0401 St.MANTLE_FULL

theorem allocDone_fits {u v : Units} {r : Region} {bytes i : Nat} (fits : u.allocRegion r bytes = (v, some i)) (c : Cmd) :
    u.allocDone c r bytes = v.done c 0xA0 0x0401 St.OK 0 i := by
  simp only [Units.allocDone, fits]

theorem allocDone_full {u : Units} {r : Region} {bytes : Nat} (full : (u.allocRegion r bytes).2 = none) (c : Cmd) :
    u.allocDone c r bytes = u.done c 0xA0 0x0401 St.MANTLE_FULL := by
  simp only [Units.allocDone, full]

section
variable {u : Units} {c : Cmd} {hv : Bool} {mask bytes : Nat} (op : isOperator (stampPriv c.stamp) = true) (size : bytes ≠ 0) (narrow : mask < 2 ^ 20)
include op size narrow

theorem mantleAlloc_unowned : mantleAlloc c 8 hv 0 0xFF mask bytes u = u.allocDone c (generalRegion hv mask) bytes := by
  rw [mantleAlloc, operator_ok op]
  exact if_neg (by simpa [size] using narrow)

theorem mantleAlloc_owned {cid ctx p : Nat} (port : u.portOf cid = some p) (context : ctx < 64) : mantleAlloc c 8 hv cid ctx mask bytes u =
    u.allocDone c { generalRegion hv mask with
      ownerKind := 0, ownerCid := cid, ownerCtx := ctx, gen := u.ctxGen p ctx, job := u.ctxJob p ctx } bytes := by
  rw [mantleAlloc, operator_ok op]
  dsimp only
  rw [if_neg (by simp; omega), port]
  dsimp only
  rw [if_pos context]
  exact if_neg (by simpa [size] using narrow)

end

/-- Settles O7: each clause is one branch of its command, by the lemmas above. -/
theorem unitDrainsAndAllocationsTakeEffect : Obligations.UnitDrainsAndAllocationsTakeEffect := by
  intro s c
  refine ⟨fun mode op => ⟨?enters, ?badState, ?badParam⟩, fun unit => ⟨?drains, ?steady⟩, ?allocates⟩
  case enters => exact fun run serve known unbound => State.runU_of_eq (mbSetMode_enters op run serve known unbound)
  case badState => exact fun stays => State.runU_of_eq (mbSetMode_badState op stays)
  case badParam => exact fun run serve not0 not2 => State.runU_of_eq (mbSetMode_badParam op run serve not0 not2)
  case drains =>
    exact fun drains => ⟨State.runU_of_eq (unitDrainTimeout_ends drains), fun none => State.runU_of_eq (unitDrainEnd_ends drains none),
      fun left => State.runU_of_eq (unitDrainEnd_working left)⟩
  case steady => exact fun none => ⟨State.runU_of_eq (unitDrainTimeout_none none), State.runU_of_eq (unitDrainEnd_none none)⟩
  case allocates =>
    intro hv mask bytes op size narrow r
    refine ⟨fun v i fits => ?_, fun full => ?_, fun cid ctx p port context => ⟨fun v i fits => ?_, fun full => ?_⟩⟩
    · exact State.runU_of_eq ((mantleAlloc_unowned op size narrow).trans (allocDone_fits fits c))
    · exact State.runU_of_eq ((mantleAlloc_unowned op size narrow).trans (allocDone_full full c))
    · exact State.runU_of_eq ((mantleAlloc_owned op size narrow port context).trans (allocDone_fits fits c))
    · exact State.runU_of_eq ((mantleAlloc_owned op size narrow port context).trans (allocDone_full full c))

end Sys2Proof.Machine
end

section
/-!
PROOFS. The budget controller (06 R135 to R143): what each command does, branch by branch, and the passes of a sub-slot.
-/
namespace Sys2Proof.Machine

/-! The two passes of a sub-slot (R139) -/

theorem sumL_eq_sum (l : List Nat) : sumL l = l.sum := List.sum_eq_foldl_nat.symm

/-- Amounts handed out, and what is left to hand out. -/
abbrev HandedOut := List (Nat × Nat) × Nat

/-- All that there is: the amounts handed out and what is left. -/
def HandedOut.total (st : HandedOut) : Nat := (st.1.map (·.2)).sum + st.2

/-- Hand `x` to an activity, beside the `had` that it holds already. -/
def HandedOut.give (st : HandedOut) (a had x : Nat) : HandedOut := (st.1 ++ [(a, had + min x st.2)], st.2 - min x st.2)

theorem HandedOut.total_give (st : HandedOut) (a had x : Nat) : (st.give a had x).total = st.total + had := by
  simp only [HandedOut.total, HandedOut.give, List.map_append, List.map_cons, List.map_nil, List.sum_append, List.sum_cons, List.sum_nil]
  omega

/-- Handing out along a list adds what its items held already, and nothing else. -/
theorem HandedOut.total_foldl {α : Type} (act had want : α → Nat) (l : List α) (st : HandedOut) :
    (l.foldl (fun st x => st.give (act x) (had x) (want x)) st).total = st.total + (l.map had).sum := by
  induction l generalizing st with
  | nil => rfl
  | cons x r ih => rw [List.foldl_cons, ih, HandedOut.total_give, List.map_cons, List.sum_cons, Nat.add_assoc]

/-- What the first pass gives an activity where enough is left: SAFETY its demand, another its demand up to its guarantee. -/
def Units.firstWant (u : Units) (inst a : Nat) : Nat :=
  if a = 0 then u.demand a inst else if u.isLent a then 0 else min (u.demand a inst) (u.bud.share a inst)

/-- What the second pass adds where enough is left: the rest of the demand, up to the activity's cap. -/
def Units.secondWant (u : Units) (inst : Nat) (y : Nat × Nat) : Nat :=
  min (u.demand y.1 inst - y.2) ((if y.1 = 0 then u.demand y.1 inst else u.bud.most y.1 inst) - y.2)

/-- The first pass over all activities. -/
def Units.firstPass (u : Units) (inst : Nat) : HandedOut :=
  (List.range 16).foldl (fun (st : HandedOut) a => st.give a 0 (u.firstWant inst a)) ([], NMap.getD u.bud.slotCaps inst 0)

theorem Units.passes_eq (u : Units) (inst : Nat) : u.passes inst =
    (u.firstPass inst).1.foldl (fun (st : HandedOut) y => st.give y.1 y.2 (u.secondWant inst y)) ([], (u.firstPass inst).2) := by
  unfold Units.passes Units.firstPass HandedOut.give
  simp only [Nat.zero_add]
  rfl

theorem Units.firstPass_total (u : Units) (inst : Nat) : (u.firstPass inst).total = NMap.getD u.bud.slotCaps inst 0 := by
  refine (HandedOut.total_foldl id (fun _ => 0) (u.firstWant inst) _ _).trans ?_
  rw [show ((List.range 16).map fun _ => 0).sum = 0 from rfl, Nat.add_zero]
  exact Nat.zero_add _

theorem Units.passes_total (u : Units) (inst : Nat) : HandedOut.total (u.passes inst) = NMap.getD u.bud.slotCaps inst 0 := by
  rw [Units.passes_eq, HandedOut.total_foldl Prod.fst Prod.snd, ← Units.firstPass_total]
  simp only [HandedOut.total, List.map_nil, List.sum_nil, Nat.zero_add]
  exact Nat.add_comm _ _

/-- Settles O11: each pass hands out what is left and no more, so that the total stays the capacity taken. -/
theorem budgetPassesRespectCapacity : Obligations.BudgetPassesRespectCapacity := fun u inst => by
  rw [sumL_eq_sum]
  exact u.passes_total inst

/-! BUDGET_APPLY and BUDGET_PKG_CAP_WRITE (R137, R138) -/

section
variable {u : Units} {w : Who} {value : Nat}

theorem budgetApply_ignored (no : isOperator w.priv = false ∨ bitAt value 0 = false) : budgetApply w value u = u :=
  if_pos (by rcases no with no | no <;> simp [no])

theorem budgetPkgCapWrite_refused (no : isOperator w.priv = false) : budgetPkgCapWrite w value u = u := if_neg (by simp [no])

variable (op : isOperator w.priv = true)
include op

section
variable (apply_ : bitAt value 0 = true)
include apply_

theorem budgetApply_valid (valid : stagingValid u.bud.sGuar u.bud.sCap = true) :
    budgetApply w value u = u.setBud { u.bud with pend := some (u.bud.sGuar, u.bud.sCap), last := St.OK } :=
  (if_neg (by simp [op, apply_])).trans (if_pos valid)

theorem budgetApply_invalid (invalid : stagingValid u.bud.sGuar u.bud.sCap = false) :
    budgetApply w value u = u.setBud { u.bud with last := St.BAD_PARAM } :=
  (if_neg (by simp [op, apply_])).trans (if_neg (by simp [invalid]))

end

theorem budgetPkgCapWrite_operator : budgetPkgCapWrite w value u = u.setBud (u.bud.setCapW (bits value 8 0)) := if_pos op

end

theorem Budget.setCapW_inRange (b : Budget) {x : Nat} (low : 150 ≤ x) (high : x ≤ 280) :
    b.setCapW x = { b with capW := x, ceilW := if b.ceilW < b.capW then min b.ceilW x else x, last := St.OK } := if_pos ⟨low, high⟩

theorem Budget.setCapW_outOfRange (b : Budget) {x : Nat} (out : x < 150 ∨ 280 < x) : b.setCapW x = { b with last := St.BAD_PARAM } :=
  if_neg (by omega)

/-! BUDGET_PERIOD_BOUNDARY (R135, R138) -/

/-- The units once a period has begun and its capacities are taken. -/
def Units.periodBegun (u : Units) (rate width : Nat) : Units :=
  (({ u with pwr := { u.pwr with hold := u.pwr.fail } } : Units).setBud { u.bud with period := wrapW 32 (u.bud.period + 1), slot := 0 }).takeCapacity
    rate width

section
variable {u : Units} {rate width : Nat}

theorem budgetPeriodBoundary_keeps (none : u.bud.pend = none) : budgetPeriodBoundary rate width u = u.periodBegun rate width := by
  fun_cases budgetPeriodBoundary
  case case1 pending => cases none.symm.trans pending
  case case2 => rfl

theorem budgetPeriodBoundary_applies {g c : NMap Nat} (pending : u.bud.pend = some (g, c)) : budgetPeriodBoundary rate width u =
    ((u.periodBegun rate width).setBud { (u.periodBegun rate width).bud with guar := g, cap := c, pend := none }).shutOut := by
  fun_cases budgetPeriodBoundary
  case case1 applied =>
    cases pending.symm.trans applied
    rfl
  case case2 none => cases pending.symm.trans none

end

/-! BUDGET_REQUEST (R136, R137, R139) -/

section
variable {u : Units} {act inst amount : Nat}

theorem budgetRequest_safety : budgetRequest 0 inst amount u = (u.setBud (u.bud.safety inst amount)).emit (.bus 10 [0, inst, St.OK]) := rfl

variable (other : act ≠ 0)
include other

theorem budgetRequest_shutOut (shut : capOf u.bud.cap act (resOf inst) = 0) :
    budgetRequest act inst amount u = u.emit (.bus 10 [act, inst, St.BUDGET_DEFERRED]) :=
  (if_neg other).trans (if_pos shut)

variable (open_ : capOf u.bud.cap act (resOf inst) ≠ 0)
include open_

theorem budgetRequest_served (enough : u.bud.serves act inst amount = true) :
    budgetRequest act inst amount u = (u.spend act inst amount).emit (.bus 10 [act, inst, St.OK]) :=
  (if_neg other).trans ((if_neg open_).trans (if_pos enough))

theorem budgetRequest_waits (short : u.bud.serves act inst amount = false) : budgetRequest act inst amount u =
    u.setBud { u.bud with waits := u.bud.waits ++ [{ act := act, inst := inst, amount := amount, what := .req }] } :=
  (if_neg other).trans ((if_neg open_).trans (if_neg (by simp [short])))

end

/-! THERMAL_CEILING_STEP (R143) -/

/-- The ceiling after a step of R143. -/
def Units.steppedCeiling (u : Units) (tj : Int) (ten : Bool) : Nat :=
  if (u.throttleC : Int) ≤ tj then max 60 (u.bud.ceilW - u.stepDownW)
  else if ten = true ∧ tj < (u.throttleC : Int) - 2 then min u.bud.capW (u.bud.ceilW + 1) else u.bud.ceilW

theorem thermalCeilingStep_eq (u : Units) (tj : Int) (ten : Bool) : thermalCeilingStep tj ten u = u.setBud
    { u.bud with tjMax := tj, ceilW := u.steppedCeiling tj ten,
                 ceilingFloor := decide ((u.throttleC : Int) ≤ tj) && u.steppedCeiling tj ten == 60 } := by
  simp only [thermalCeilingStep, Units.steppedCeiling, Bool.and_eq_true, decide_eq_true_eq]

/-- Settles O10: each clause is one branch of its command, by the lemmas above. -/
theorem budgetCommandsAct : Obligations.BudgetCommandsAct := by
  intro s w value act inst amount
  refine ⟨fun op apply_ => ⟨?valid, ?invalid⟩, ?ignored, fun op => ⟨?cap, ?badCap⟩, ?capRefused, fun rate width => ⟨?keeps, ?applies⟩, rfl, rfl, ?shutOut,
    fun other open_ => ⟨?served, ?waits⟩, fun _ _ _ => rfl, ?thermal⟩
  case valid => exact fun valid => State.runU_of_eq (budgetApply_valid op apply_ valid)
  case invalid => exact fun invalid => State.runU_of_eq (budgetApply_invalid op apply_ invalid)
  case ignored => exact fun no => State.runU_of_eq (budgetApply_ignored no)
  case cap => exact fun low high => State.runU_of_eq ((budgetPkgCapWrite_operator op).trans (congrArg s.u.setBud (s.u.bud.setCapW_inRange low high)))
  case badCap => exact fun out => State.runU_of_eq ((budgetPkgCapWrite_operator op).trans (congrArg s.u.setBud (s.u.bud.setCapW_outOfRange out)))
  case capRefused => exact fun no => State.runU_of_eq (budgetPkgCapWrite_refused no)
  case keeps => exact fun none => State.runU_of_eq (budgetPeriodBoundary_keeps none)
  case applies => exact fun g c pending => State.runU_of_eq (budgetPeriodBoundary_applies pending)
  case shutOut => exact fun other shut => State.runU_of_eq (budgetRequest_shutOut other shut)
  case served => exact fun enough => State.runU_of_eq (budgetRequest_served other open_ (decide_eq_true enough))
  case waits => exact fun short => State.runU_of_eq (budgetRequest_waits other open_ (decide_eq_false (Nat.not_le.2 short)))
  case thermal => exact fun tj ten => State.runU_of_eq (thermalCeilingStep_eq s.u tj ten)

end Sys2Proof.Machine
end

section
/-!
PROOFS. The ring commands (19 R454 to R461): index writes, enabling, draining and flushing, branch by branch.
-/
namespace Sys2Proof.Machine

/-! RING_PROD_IDX_WRITE and RING_CONS_IDX_WRITE (R455, R457) -/

/-- Entries that a producer index written as `value` would add. -/
def RingDesc.ahead (d : RingDesc) (value : Nat) : Nat := wrapW 32 (value + 2 ^ 32 - d.prod)

/-- Entries that a consumer index written as `value` would free. -/
def RingDesc.freed (d : RingDesc) (value : Nat) : Nat := wrapW 32 (value + 2 ^ 32 - d.cons)

/-- An entry as a ring of kind `kind` holds it. -/
def CmdEntry.asKind (kind : Nat) (e : CmdEntry) : RingEntry := if kind = 3 then .words e.raw else .cmd e

section
variable {u : Units} {w : Who} {ring value : Nat} {entries : List CmdEntry}

theorem ringProdIdxWrite_ignored (no : mayRing w (u.desc ring) = false ∨ w.cls = 1 ∧ (u.desc ring).hostSide = false) :
    ringProdIdxWrite w ring value entries u = u :=
  if_pos (by rcases no with no | ⟨host, side⟩ <;> simp [*])

theorem ringConsIdxWrite_ignored (no : mayRing w (u.desc ring) = false ∨ w.cls = 1 ∧ (u.desc ring).hostSide = false) :
    ringConsIdxWrite w ring value u = u :=
  if_pos (by rcases no with no | ⟨host, side⟩ <;> simp [*])

section
variable (may : mayRing w (u.desc ring) = true) (side : ¬(w.cls = 1 ∧ (u.desc ring).hostSide = false))
include may side

section
variable (taken : (u.desc ring).kind = 0 ∨ (u.desc ring).kind = 3)
include taken

/-- The identity, the kind and the side of the index let a producer index through. -/
theorem producerIndex_passes :
    ¬(!(mayRing w (u.desc ring)) || !((u.desc ring).kind = 0 || (u.desc ring).kind = 3) || (w.cls = 1 && !(u.desc ring).hostSide)) = true := by
  rcases taken with k | k <;> simpa [may, k] using side

theorem ringProdIdxWrite_badState (off : (u.desc ring).enable = false ∨ u.ringDrains ring = true) :
    ringProdIdxWrite w ring value entries u = (u.ringErr ring St.BAD_STATE).count 0x210120 :=
  (if_neg (producerIndex_passes may side taken)).trans (if_pos (by rcases off with off | off <;> simp [off]))

variable (on : (u.desc ring).enable = true) (open_ : u.ringDrains ring = false)
include on open_

theorem ringProdIdxWrite_backward (back : 2 ^ 31 ≤ (u.desc ring).ahead value) :
    ringProdIdxWrite w ring value entries u = (u.ringErr ring St.BAD_PARAM).count 0x210120 :=
  (if_neg (producerIndex_passes may side taken)).trans ((if_neg (by simp [on, open_])).trans (if_pos back))

variable (forward : (u.desc ring).ahead value < 2 ^ 31)
include forward

theorem ringProdIdxWrite_full (full : (u.desc ring).size < (u.desc ring).fill + (u.desc ring).ahead value) :
    ringProdIdxWrite w ring value entries u = (u.ringErr ring St.RING_FULL).count 0x210120 :=
  (if_neg (producerIndex_passes may side taken)).trans ((if_neg (by simp [on, open_])).trans
    ((if_neg (Nat.not_le.2 forward)).trans (if_pos full)))

theorem ringProdIdxWrite_queues (room : (u.desc ring).fill + (u.desc ring).ahead value ≤ (u.desc ring).size) :
    ringProdIdxWrite w ring value entries u = (u.setDesc ring
      { u.desc ring with
        prod := wrapW 32 value
        q := (u.desc ring).q ++ (entries.take ((u.desc ring).ahead value)).map (CmdEntry.asKind (u.desc ring).kind) }).take ring :=
  (if_neg (producerIndex_passes may side taken)).trans ((if_neg (by simp [on, open_])).trans
    ((if_neg (Nat.not_le.2 forward)).trans (if_neg (Nat.not_lt.2 room))))

end

section
variable (given : (u.desc ring).kind = 1 ∨ (u.desc ring).kind = 2)
include given

/-- The same for a consumer index. -/
theorem consumerIndex_passes :
    ¬(!(mayRing w (u.desc ring)) || !((u.desc ring).kind = 1 || (u.desc ring).kind = 2) || (w.cls = 1 && !(u.desc ring).hostSide)) = true := by
  rcases given with k | k <;> simpa [may, k] using side

theorem ringConsIdxWrite_past (past : (u.desc ring).fill < (u.desc ring).freed value) :
    ringConsIdxWrite w ring value u = (u.ringErr ring St.BAD_PARAM).count 0x210120 :=
  (if_neg (consumerIndex_passes may side given)).trans (if_pos past)

theorem ringConsIdxWrite_frees (held : (u.desc ring).freed value ≤ (u.desc ring).fill) : ringConsIdxWrite w ring value u =
    let v := (u.setDesc ring { u.desc ring with cons := wrapW 32 value, q := (u.desc ring).q.drop ((u.desc ring).freed value) }).serveRing ring
    if (u.desc ring).kind = 2 then v.later (.ringFreed ring) else v :=
  (if_neg (consumerIndex_passes may side given)).trans (if_neg (Nat.not_lt.2 held))

end

end

end

/-! RING_ENABLE_SET and RING_ENABLE_CLEAR (R454, R461, R144, R145) -/

/-- A ring's shape is one of R454. -/
def RingDesc.legal (d : RingDesc) : Prop :=
  (d.kind = 0 → d.sizeCode = 2) ∧ (d.kind = 1 → d.sizeCode = 0) ∧ d.sizeCode ≤ 8 ∧ 1 ≤ d.countLog2 ∧ d.countLog2 ≤ 16 ∧ d.kind ≤ 4

theorem RingDesc.not_legal_iff {d : RingDesc} : ((d.kind = 0 && d.sizeCode ≠ 2) || (d.kind = 1 && d.sizeCode ≠ 0) || 8 < d.sizeCode || d.countLog2 = 0 ||
    16 < d.countLog2 || 4 < d.kind) = true ↔ ¬d.legal := by
  simp only [RingDesc.legal, Bool.or_eq_true, Bool.and_eq_true, decide_eq_true_eq]
  omega

section
variable {u : Units} {ring : Nat}

theorem Units.ringUp_badShape (bad : ¬(u.desc ring).legal) : u.ringUp ring = u.ringErr ring St.BAD_PARAM := if_pos (RingDesc.not_legal_iff.2 bad)

variable (legal : (u.desc ring).legal)
include legal

theorem Units.ringUp_noSpace (none : fitBody u.ringSpace (u.desc ring).bytes u.ringBodies = none) : u.ringUp ring = u.ringErr ring St.MANTLE_FULL := by
  refine (if_neg fun bad => RingDesc.not_legal_iff.1 bad legal).trans ?_
  simp only [none]

theorem Units.ringUp_fits {o : Nat} (fits : fitBody u.ringSpace (u.desc ring).bytes u.ringBodies = some o) : u.ringUp ring = (u.setDesc ring
    { u.desc ring with enable := true, bodyOffset := o, prod := 0, cons := 0, phase := true, q := [], reserved := 0 }).serveRing ring := by
  refine (if_neg fun bad => RingDesc.not_legal_iff.1 bad legal).trans ?_
  simp only [fits]

end

section
variable {u : Units} {w : Who} {ring : Nat}

theorem ringEnableSet_refused (no : isOperator w.priv = false) : ringEnableSet w ring u = u := if_pos (by simp [no])

theorem ringEnableClear_refused (no : isOperator w.priv = false) : ringEnableClear w ring u = u := if_pos (by simp [no])

variable (op : isOperator w.priv = true)
include op

theorem ringEnableSet_up (off : (u.desc ring).enable = false) (steady : (u.desc ring).draining = false) : ringEnableSet w ring u = u.ringUp ring :=
  (if_neg (by simp [op, off])).trans (if_neg (by simp [steady]))

theorem ringEnableSet_held (off : (u.desc ring).enable = false) (drains : (u.desc ring).draining = true) : ringEnableSet w ring u =
    { u with drains := u.drains.map fun x => if x.unit = 0x10000 + ring then { x with enableHeld := true } else x } :=
  (if_neg (by simp [op, off])).trans (if_pos drains)

theorem ringEnableClear_drains (on : (u.desc ring).enable = true) : ringEnableClear w ring u =
    { u.setDesc ring { u.desc ring with enable := false, draining := true } with
      drains := u.drains ++ [{ unit := 0x10000 + ring, items := u.ringItems ring, enableHeld := false }] } :=
  if_neg (by simp [op, on])

end

/-! RING_DRAIN_END (R145, R456, R461) -/

/-- What a drained ring still holds is cancelled: entries not consumed of a ring that the T3 fills, commands and work items of one that it takes from. -/
def Units.ringCleared (u : Units) (ring : Nat) : Units :=
  if (u.desc ring).kind = 1 || (u.desc ring).kind = 2 then
    if (u.desc ring).q.isEmpty then u
    else (u.setDesc ring { u.desc ring with q := [], cons := (u.desc ring).prod }).ringErr ring St.CANCELLED_BY_DISABLE
  else u.abortRing ring St.CANCELLED_BY_DISABLE

/-- Completions held for a drained ring of kind `kind` are given up and counted where it is a command ring. -/
def Units.heldGivenUp (u : Units) (kind ring : Nat) : Units :=
  let lost := (u.ring.heldC.filter fun h => kind = 0 && h.2.1 = ring).length
  let v : Units := { u with ring := { u.ring with heldC := u.ring.heldC.filter fun h => !(kind = 0 && h.2.1 = ring) } }
  if lost = 0 then v else v.count 0x210130 lost

/-- The ring stands without its body and without its drain. -/
def Units.ringDrained (u : Units) (ring : Nat) : Units :=
  { u.setDesc ring { u.desc ring with
      draining := false, bodyOffset := 0, reserved := 0,
      gen := if (u.desc ring).context = 0xFF then wrapW 16 ((u.desc ring).gen + 1) else (u.desc ring).gen } with
    drains := u.drains.filter fun x => x.unit ≠ 0x10000 + ring }

/-- The drain ends, and a set written during it takes effect (R145). -/
def Units.endRingDrain (u : Units) (ring : Nat) : Units :=
  if (u.drains.any fun x => x.unit = 0x10000 + ring && x.enableHeld) then (u.ringDrained ring).ringUp ring else u.ringDrained ring

theorem Units.heldGivenUp_other {kind : Nat} (other : kind ≠ 0) (u : Units) (ring : Nat) : u.heldGivenUp kind ring = u := by
  have lost : (u.ring.heldC.filter fun h => kind = 0 && h.2.1 = ring) = [] := List.filter_eq_nil_iff.2 fun _ _ => by simp [other]
  have kept : (u.ring.heldC.filter fun h => !(kind = 0 && h.2.1 = ring)) = u.ring.heldC := List.filter_eq_self.2 fun _ _ => by simp [other]
  rw [Units.heldGivenUp, lost, kept]
  exact if_pos rfl

theorem Units.heldGivenUp_command (u : Units) (ring : Nat) : u.heldGivenUp 0 ring =
    let lost := (u.ring.heldC.filter fun h => h.2.1 = ring).length
    let v : Units := { u with ring := { u.ring with heldC := u.ring.heldC.filter fun h => h.2.1 ≠ ring } }
    if lost = 0 then v else v.count 0x210130 lost := by
  simp only [Units.heldGivenUp, decide_true, Bool.true_and, ne_eq, decide_not]

section
variable {u : Units} {ring : Nat} (drains : (u.desc ring).draining = true)
include drains

theorem ringDrainEnd_drains : ringDrainEnd ring u = ((u.ringCleared ring).heldGivenUp (u.desc ring).kind ring).endRingDrain ring :=
  if_neg (by simp [drains])

section
variable (given : (u.desc ring).kind = 1 ∨ (u.desc ring).kind = 2)
include given

theorem ringDrainEnd_given : ringDrainEnd ring u = Units.endRingDrain (if (u.desc ring).q.isEmpty then u else
    (u.setDesc ring { u.desc ring with q := [], cons := (u.desc ring).prod }).ringErr ring St.CANCELLED_BY_DISABLE) ring := by
  rw [ringDrainEnd_drains drains, Units.heldGivenUp_other (by omega), Units.ringCleared, if_pos (by simpa using given)]

theorem ringDrainEnd_given_empty (empty : (u.desc ring).q = []) : ringDrainEnd ring u = u.endRingDrain ring := by
  rw [ringDrainEnd_given drains given, if_pos (List.isEmpty_iff.2 empty)]

theorem ringDrainEnd_given_left (left : (u.desc ring).q ≠ []) : ringDrainEnd ring u =
    ((u.setDesc ring { u.desc ring with q := [], cons := (u.desc ring).prod }).ringErr ring St.CANCELLED_BY_DISABLE).endRingDrain ring := by
  rw [ringDrainEnd_given drains given, if_neg (mt List.isEmpty_iff.1 left)]

end

theorem ringDrainEnd_taken (not1 : (u.desc ring).kind ≠ 1) (not2 : (u.desc ring).kind ≠ 2) : ringDrainEnd ring u =
    ((u.abortRing ring St.CANCELLED_BY_DISABLE).heldGivenUp (u.desc ring).kind ring).endRingDrain ring := by
  rw [ringDrainEnd_drains drains, Units.ringCleared, if_neg (by simp [not1, not2])]

theorem ringDrainEnd_inbound (inbound : (u.desc ring).kind = 3 ∨ (u.desc ring).kind = 4) :
    ringDrainEnd ring u = (u.abortRing ring St.CANCELLED_BY_DISABLE).endRingDrain ring := by
  rw [ringDrainEnd_taken drains (by omega) (by omega), Units.heldGivenUp_other (by omega)]

theorem ringDrainEnd_command (command : (u.desc ring).kind = 0) :
    ringDrainEnd ring u = ((u.abortRing ring St.CANCELLED_BY_DISABLE).heldGivenUp 0 ring).endRingDrain ring := by
  rw [ringDrainEnd_taken drains (by omega) (by omega), command]

end

/-! RING_FLUSH (R458) -/

section
variable {u : Units} {c : Cmd}

/-- The flush that runs is marked in its place. -/
theorem ringFlush_mark {pre post : List RunCmd} {r : RunCmd} (here : r.ring = c.ring ∧ r.tag = c.tag)
    (first : ∀ x ∈ pre, ¬(x.ring = c.ring ∧ x.tag = c.tag)) : ringFlush.mark c (pre ++ r :: post) = pre ++ { r with flush := true } :: post := by
  induction pre with
  | nil => exact if_pos here
  | cons x l ih =>
    refine (if_neg (first x List.mem_cons_self)).trans (congrArg (x :: ·) (ih fun y hy => first y (List.mem_cons_of_mem x hy)))

/-- A command of the same ring that runs before the flush keeps it waiting. -/
theorem earlierCommands_ne_nil {pre rest : List RunCmd} (first : ∀ x ∈ pre, ¬(x.ring = c.ring ∧ x.tag = c.tag)) (earlier : ∃ x ∈ pre, x.ring = c.ring) :
    ((pre ++ rest).filter fun r => r.ring = c.ring).takeWhile (fun r => r.tag ≠ c.tag) ≠ [] := by
  obtain ⟨x, hx, its⟩ := earlier
  have mine : x ∈ pre.filter fun r => r.ring = c.ring := List.mem_filter.2 ⟨hx, decide_eq_true its⟩
  obtain ⟨y, l, split⟩ := List.exists_cons_of_ne_nil (List.ne_nil_of_mem mine)
  obtain ⟨hy, ring⟩ : y ∈ pre ∧ y.ring = c.ring := by
    simpa using (List.mem_filter (p := fun r : RunCmd => decide (r.ring = c.ring))).1 (split ▸ List.mem_cons_self)
  have other : y.tag ≠ c.tag := fun tag => first y hy ⟨ring, tag⟩
  simp [List.filter_append, split, other]

theorem ringFlush_refused (no : 4 ≤ stampPriv c.stamp) : ringFlush c u = u.done c 0x021 0x0101 St.NOT_PRIVILEGED := if_pos no

variable (may : stampPriv c.stamp < 4)
include may

theorem ringFlush_completes (none : (u.ring.running.filter fun r => r.ring = c.ring).takeWhile (fun r => r.tag ≠ c.tag) = []) :
    ringFlush c u = u.done c 0x021 0x0101 St.OK :=
  (if_neg (Nat.not_le.2 may)).trans (if_pos (List.isEmpty_iff.2 none))

theorem ringFlush_waits {pre post : List RunCmd} {r : RunCmd} (running : u.ring.running = pre ++ r :: post) (here : r.ring = c.ring ∧ r.tag = c.tag)
    (first : ∀ x ∈ pre, ¬(x.ring = c.ring ∧ x.tag = c.tag)) (earlier : ∃ x ∈ pre, x.ring = c.ring) :
    ringFlush c u = { u with ring := { u.ring with running := pre ++ { r with flush := true } :: post } } := by
  have busy := earlierCommands_ne_nil (rest := r :: post) first earlier
  rw [← running] at busy
  refine (if_neg (Nat.not_le.2 may)).trans ((if_neg (mt List.isEmpty_iff.1 busy)).trans ?_)
  rw [running, ringFlush_mark here first]

end

/-- Settles O8: each clause is one branch of its command, by the lemmas above. -/
theorem ringIndicesAndEnablesAct : Obligations.RingIndicesAndEnablesAct := by
  refine ⟨fun s w ring value entries => ⟨fun may side taken => ⟨?queues, ?badState, ?backward, ?full⟩, fun may side given => ⟨?frees, ?past⟩, ?ignored⟩,
    fun s w ring => ⟨fun op off steady => ⟨?fits, ?noSpace, ?badShape⟩, ?held, ?clears, ?refused⟩,
    fun s ring drains => ⟨fun given => ⟨?givenEmpty, ?givenLeft⟩, ?inbound, ?command⟩, fun s c => ⟨?completes, ?waits, ?reserved⟩⟩
  case queues => exact fun on open_ forward room => State.runU_of_eq (ringProdIdxWrite_queues may side taken on open_ forward room)
  case badState => exact fun off => State.runU_of_eq (ringProdIdxWrite_badState may side taken off)
  case backward => exact fun on open_ back => State.runU_of_eq (ringProdIdxWrite_backward may side taken on open_ back)
  case full => exact fun on open_ forward full => State.runU_of_eq (ringProdIdxWrite_full may side taken on open_ forward full)
  case frees => exact fun held => State.runU_of_eq (ringConsIdxWrite_frees may side given held)
  case past => exact fun past => State.runU_of_eq (ringConsIdxWrite_past may side given past)
  case ignored => exact fun no => ⟨State.runU_of_eq (ringProdIdxWrite_ignored no), State.runU_of_eq (ringConsIdxWrite_ignored no)⟩
  case fits => exact fun o legal fits => State.runU_of_eq ((ringEnableSet_up op off steady).trans (Units.ringUp_fits legal fits))
  case noSpace => exact fun legal none => State.runU_of_eq ((ringEnableSet_up op off steady).trans (Units.ringUp_noSpace legal none))
  case badShape => exact fun bad => State.runU_of_eq ((ringEnableSet_up op off steady).trans (Units.ringUp_badShape bad))
  case held => exact fun op off drains => State.runU_of_eq (ringEnableSet_held op off drains)
  case clears => exact fun op on => State.runU_of_eq (ringEnableClear_drains op on)
  case refused => exact fun no => ⟨State.runU_of_eq (ringEnableSet_refused no), State.runU_of_eq (ringEnableClear_refused no)⟩
  case givenEmpty => exact fun empty => State.runU_of_eq (ringDrainEnd_given_empty drains given empty)
  case givenLeft => exact fun left => State.runU_of_eq (ringDrainEnd_given_left drains given left)
  case inbound => exact fun inbound => State.runU_of_eq (ringDrainEnd_inbound drains inbound)
  case command =>
    exact fun command => State.runU_of_eq ((ringDrainEnd_command drains command).trans (congrArg (Units.endRingDrain · ring) (Units.heldGivenUp_command _ _)))
  case completes => exact fun may none => State.runU_of_eq (ringFlush_completes may none)
  case waits =>
    exact fun pre r post may running ring tag first earlier => State.runU_of_eq (ringFlush_waits may running ⟨ring, tag⟩ first earlier)
  case reserved => exact fun no => State.runU_of_eq (ringFlush_refused no)

end Sys2Proof.Machine
end

section
/-!
PROOFS. Grid control (07 R131 to R170): partitions, loads and program slots, branch by branch.
-/
namespace Sys2Proof.Machine

/-! GRID_PACE_WRITE, GRID_PART_DISABLE and GRID_PART_ENABLE (R132, R145, R150, R170) -/

section
variable {u : Units} {w : Who} {value part : Nat}

theorem gridPaceWrite_sets (op : isOperator w.priv = true) (pace : bits value 15 0 = 0 ∨ 500 ≤ bits value 15 0 ∧ bits value 15 0 ≤ 1500) :
    gridPaceWrite w value u = u.setCfg 0xE00014 (bits value 15 0) :=
  if_pos (by simpa [op] using pace)

theorem gridPaceWrite_ignored (no : isOperator w.priv = false ∨ (bits value 15 0 ≠ 0 ∧ bits value 15 0 < 500) ∨ 1500 < bits value 15 0) :
    gridPaceWrite w value u = u := by
  refine if_neg ?_
  rcases no with no | out
  · simp [no]
  · simp only [Bool.and_eq_true, Bool.or_eq_true, decide_eq_true_eq]
    omega

theorem gridPartDisable_refused (no : isOperator w.priv = false) : gridPartDisable w part u = u := if_pos (by simp [no])

theorem gridPartEnable_refused (no : isOperator w.priv = false) : gridPartEnable w part u = u := if_pos (by simp [no])

/-- The units once partition `part` takes no more programs and drains its RUNNING ones. -/
def Units.partDraining (u : Units) (part : Nat) : Units :=
  { u.upG fun g => { g with partEn := clrBit g.partEn part, draining := setBit g.draining part } with
    drains := u.drains ++ [{ unit := 0x200 + part, items := ((u.slotsIn part).filter fun n => (u.slot n).state = 3).length, enableHeld := false }] }

/-- The units once the loads into partition `part` have failed. -/
def Units.loadsFailed (u : Units) (part : Nat) : Units := (u.loadsIn part).foldl (fun u n => u.loadFails n) u

/-- A program of a disabled partition drains, is unloaded once it has halted, or is unloaded now. -/
def Units.slotLeaves (u : Units) (n : Nat) : Units :=
  if (u.slot n).state = 3 then u.upSlot n fun q => { q with state := 6 }
  else if (u.slot n).state = 4 then u.upSlot n fun q => { q with unloadNext := true }
  else if (u.slot n).state = 2 || (u.slot n).state = 5 || (u.slot n).state = 7 then u.unloadNow n else u

variable (op : isOperator w.priv = true) (known : part < 8)
include op known

theorem gridPartDisable_drains (on : bitAt u.grid.partEn part = true) : gridPartDisable w part u =
    let v := (u.partDraining part).loadsFailed part
    ((v.slotsIn part).foldl Units.slotLeaves v).usableNow :=
  if_neg (by simp [op, known, on])

variable (off : bitAt u.grid.partEn part = false) (served : u.partVacant part = false)
include off served

theorem gridPartEnable_asks (steady : bitAt u.grid.draining part = false) : gridPartEnable w part u = u.later (.askPower 2 part 0xFF false) :=
  (if_neg (by simp [op, known, off, served])).trans (if_neg (by simp [steady]))

theorem gridPartEnable_held (drains : bitAt u.grid.draining part = true) : gridPartEnable w part u =
    { u with drains := u.drains.map fun x => if x.unit = 0x200 + part then { x with enableHeld := true } else x } :=
  (if_neg (by simp [op, known, off, served])).trans (if_pos drains)

end

/-! GRID_LOAD (R161, R162) -/

/-- How GRID_LOAD completes for what accepting the load comes to. -/
def Units.loadDone (c : Cmd) (r : Units × Nat) : Units := if r.2 = St.OK then r.1 else r.1.done c 0x0E0 0x0501 r.2

/-- Tapers of the image at byte `off` of a region (Table 7-8). -/
def imageTapers (m : Mem) (u : Units) (region off : Nat) : Nat := fieldAt (memGetAt m u region off 256) 8 2

/-- The placement list of `n` tapers at a Mantle address. -/
def placementAt (m : Mem) (listAddr n : Nat) : List Nat := (List.range n).map fun i => leNat (m.bytesAt (listAddr + 2 * i) 2)

section
variable {m : Mem} {u : Units} {c : Cmd} {region job off sub comp listAddr : Nat} {binds : List Nat} (may : stampPriv c.stamp < 4)
include may

theorem gridLoad_auto : gridLoad c region 0 job off sub comp binds listAddr m u =
    (m, Units.loadDone c (u.loadInto m region off job none sub comp binds .host { code := 0x0501, cmd := some c })) :=
  (if_neg (Nat.not_le.2 may)).trans ((if_neg (by decide)).trans ((if_neg (by simp)).trans (apply_ite (Prod.mk m) _ _ _).symm))

theorem gridLoad_list (list : u.mayAccess Ag.grid listAddr (2 * imageTapers m u region off) false = true) :
    gridLoad c region 1 job off sub comp binds listAddr m u = (m, Units.loadDone c
      (u.loadInto m region off job (some (placementAt m listAddr (imageTapers m u region off))) sub comp binds .host { code := 0x0501, cmd := some c })) :=
  (if_neg (Nat.not_le.2 may)).trans ((if_neg (by decide)).trans
    ((if_neg (by simpa [imageTapers] using list)).trans (apply_ite (Prod.mk m) _ _ _).symm))

theorem gridLoad_noAccess (no : u.mayAccess Ag.grid listAddr (2 * imageTapers m u region off) false = false) :
    gridLoad c region 1 job off sub comp binds listAddr m u = (m, u.done c 0x0E0 0x0501 St.NOT_PRIVILEGED) :=
  (if_neg (Nat.not_le.2 may)).trans ((if_neg (by decide)).trans (if_pos (by simpa [imageTapers] using no)))

end

/-! GRID_LOAD_COMPLETE (R162, R163) -/

section
variable {m : Mem} {u : Units} {n : Nat}

/-- What the loader leaves in the local memory of each placed taper, and its entry. -/
def Units.placedMems (u : Units) (m : Mem) (n : Nat) (place : List Nat) : List (Memory × Nat) :=
  (List.range place.length).map fun i => loadMem m u (u.slot n) i (place.getD i 0)

/-- The units once the placed tapers are taken and written. -/
def Units.tapersTaken (u : Units) (m : Mem) (n : Nat) (place : List Nat) : Units :=
  (place.zip (u.placedMems m n place)).foldl
    (fun u x => (u.upLt x.1 fun t => { t with slot := some n }).setTaper x.1 (Taper.start x.2.2 2 x.2.1)) u

/-- How a load ends: where its tapers go, or its refusal with nothing placed. -/
theorem gridLoadComplete_loading (loading : (u.slot n).state = 1) (d g : Bool) : gridLoadComplete n d g m u =
    let p := if d && g then u.placeOf (u.slot n) else (St.SIGNATURE_INVALID, [])
    (m, (((u.tapersTaken m n p.2).upSlot n fun q =>
      { q with state := if p.1 ≠ St.OK then 0 else 2, place := p.2, entries := (u.placedMems m n p.2).map (·.2) }).slotEnd n p.1).later
        (.gridLoaded n p.1)) :=
  if_neg (not_not_intro loading)

variable (loading : (u.slot n).state = 1)
include loading

theorem gridLoadComplete_placed {place : List Nat} (placed : u.placeOf (u.slot n) = (St.OK, place)) : gridLoadComplete n true true m u =
    (m, (((u.tapersTaken m n place).upSlot n fun q =>
      { q with state := 2, place := place, entries := (u.placedMems m n place).map (·.2) }).slotEnd n St.OK).later (.gridLoaded n St.OK)) := by
  rw [gridLoadComplete_loading loading, Bool.and_self, if_pos rfl, placed]
  rfl

theorem gridLoadComplete_notPlaced {st : Nat} (bad : st ≠ St.OK) (none : u.placeOf (u.slot n) = (st, [])) : gridLoadComplete n true true m u =
    (m, ((u.upSlot n fun q => { q with state := 0, place := [], entries := [] }).slotEnd n st).later (.gridLoaded n st)) := by
  rw [gridLoadComplete_loading loading, Bool.and_self, if_pos rfl, none]
  simp only [if_pos bad]
  rfl

theorem gridLoadComplete_badImage {d g : Bool} (bad : (d && g) = false) : gridLoadComplete n d g m u =
    (m, ((u.upSlot n fun q => { q with state := 0, place := [], entries := [] }).slotEnd n St.SIGNATURE_INVALID).later
      (.gridLoaded n St.SIGNATURE_INVALID)) := by
  rw [gridLoadComplete_loading loading, bad]
  rfl

end

/-! Commands on a slot (R164, Table 7-12) -/

section
variable {u : Units} {n code : Nat} {k : SlotCmd}

theorem Units.slotCmd_waits (busy : (u.slot n).running.isSome = true ∨ (u.slot n).waiting ≠ [] ∨ (u.slot n).state = 1) :
    u.slotCmd n k = u.upSlot n fun q => { q with waiting := q.waiting ++ [k] } := by
  by_cases earlier : (u.slot n).running.isSome = true ∨ (u.slot n).waiting ≠ []
  · exact if_pos (by simpa using earlier)
  · exact (if_neg (by simpa using earlier)).trans (if_pos ((or_assoc.2 busy).resolve_left earlier))

theorem Units.slotCmd_runs (idle : (u.slot n).running = none) (first : (u.slot n).waiting = []) (loaded : (u.slot n).state ≠ 1) :
    u.slotCmd n k = u.runSlotCmd n k :=
  (if_neg (by simp [idle, first])).trans (if_neg loaded)

/-- A command on a slot of a sender and a slot that are in range. -/
theorem Units.slotHost_ok {c : Cmd} (may : stampPriv c.stamp < 4) (known : n < 64) : u.slotHost c code n = u.slotCmd n { code := code, cmd := some c } :=
  (if_neg (Nat.not_le.2 may)).trans (if_neg (Nat.not_le.2 known))

theorem Units.slotHost_refused {c : Cmd} (no : 4 ≤ stampPriv c.stamp ∨ 64 ≤ n) : u.slotHost c code n =
    u.done c 0x0E0 code (if 4 ≤ stampPriv c.stamp then St.NOT_PRIVILEGED else St.BAD_PARAM) := by
  by_cases reserved : 4 ≤ stampPriv c.stamp
  · rw [if_pos reserved]; exact if_pos reserved
  · rw [if_neg reserved]; exact (if_neg reserved).trans (if_pos (no.resolve_left reserved))

/-- GRID_START of a loaded program. -/
theorem Units.runSlotCmd_starts (is : k.code = 0x0502) (loaded : (u.slot n).state = 2) : u.runSlotCmd n k =
    ((((u.slotRecord n 0 [k.code]).startTapers n).upSlot n fun q => { q with state := 3 }).slotDone n k St.OK) :=
  if_pos (by simp [is, loaded])

/-- GRID_HALT of a running program. -/
theorem Units.runSlotCmd_halts (is : k.code = 0x0503) (runs : (u.slot n).state = 3) : u.runSlotCmd n k =
    (((u.slotRecord n 0 [k.code]).haltTapers n).upSlot n fun q => { q with state := 4, running := some k }) :=
  (if_neg (by simp [is])).trans (if_pos (by simp [is, runs]))

/-- GRID_RESUME of a halted program. -/
theorem Units.runSlotCmd_resumes (is : k.code = 0x0504) (halted : (u.slot n).state = 5) : u.runSlotCmd n k =
    (((u.slotRecord n 0 [k.code]).upSlot n fun q => { q with state := 3 }).slotDone n k St.OK) :=
  (if_neg (by simp [is])).trans ((if_neg (by simp [is])).trans (if_pos (by simp [is, halted])))

/-- GRID_UNLOAD of a program that does not run. -/
theorem Units.runSlotCmd_unloads (is : k.code = 0x0505) (still : (u.slot n).state = 2 ∨ (u.slot n).state = 5 ∨ (u.slot n).state = 7) :
    u.runSlotCmd n k = (((u.slotRecord n 0 [k.code]).unload n).slotDone n k St.OK) :=
  (if_neg (by simp [is])).trans ((if_neg (by simp [is])).trans ((if_neg (by simp [is])).trans (if_pos (by simpa [is, or_assoc] using still))))

/-- A command finds its slot in a state of Table 7-12 that it acts in. -/
def slotActs (code st : Nat) : Prop :=
  code = 0x0502 ∧ st = 2 ∨ code = 0x0503 ∧ st = 3 ∨ code = 0x0504 ∧ st = 5 ∨ code = 0x0505 ∧ (st = 2 ∨ st = 5 ∨ st = 7)

theorem Units.runSlotCmd_badState (no : ¬slotActs k.code (u.slot n).state) : u.runSlotCmd n k = (u.slotRecord n 0 [k.code]).slotDone n k St.BAD_STATE := by
  simp only [slotActs, not_or] at no
  obtain ⟨start, halt, resume, unload⟩ := no
  exact (if_neg (by simpa using start)).trans ((if_neg (by simpa using halt)).trans
    ((if_neg (by simpa using resume)).trans (if_neg (by simpa [or_assoc] using unload))))

end

/-! GRID_HALT_COMPLETE and GRID_WATCHDOG_EXPIRY (R165, R167, R170) -/

section
variable {u : Units} {n : Nat}

theorem gridWatchdogExpiry_hangs {l : Nat} {rest : List Nat} (runs : (u.slot n).state = 3) (place : (u.slot n).place = l :: rest)
    (works : ((l :: rest).all fun k => (u.taper k).wait = some .pop) = false) : gridWatchdogExpiry n u =
      (u.raise Ev.GRID_PROG_HANG 2 (gridSrc l) 0 (ll := some (64 + n))).slotFault n 0 0x3F 0 := by
  refine (if_neg (by rw [place, works]; simp [runs])).trans ?_
  rw [place]

variable (halting : (u.slot n).state = 4) (quiet : u.streaming n = false)
include halting quiet

theorem gridHaltComplete_halts (stays : (u.slot n).unloadNext = false) :
    gridHaltComplete n u = (u.upSlot n fun q => { q with state := 5 }).slotEnd n St.OK :=
  (if_neg (by simp [halting, quiet])).trans (if_neg (by simp [stays]))

theorem gridHaltComplete_unloads {k : SlotCmd} (leaves : (u.slot n).unloadNext = true) (running : (u.slot n).running = some k) : gridHaltComplete n u =
    ((((u.upSlot n fun q => { q with running := none }).slotDone n k St.OK).unload n).ownerTold (u.slot n).owner n).slotNext n := by
  refine (if_neg (by simp [halting, quiet])).trans ((if_pos leaves).trans ?_)
  simp only [running]

end

/-- Settles O14: each clause is one branch of its command, by the lemmas above. -/
theorem gridPartitionsAndSlotsAct : Obligations.GridPartitionsAndSlotsAct := by
  intro s w c n part
  refine ⟨fun value => ⟨?pace, ?noPace⟩, fun op known => ⟨?disables, fun off served => ⟨?asks, ?held⟩⟩, ?refused, fun rates temps => rfl,
    fun region job off sub comp binds listAddr u' st may => ⟨?auto, ?list, ?noAccess⟩, fun loading => ⟨?placed, ?notPlaced, ?badImage⟩,
    fun may known => ⟨fun idle first => ?runs, ?behind⟩, ?outOfRange, fun halting quiet => ⟨?halts, ?unloads⟩, ?hangs⟩
  case pace => exact fun op pace => State.runU_of_eq (gridPaceWrite_sets op pace)
  case noPace => exact fun no => State.runU_of_eq (gridPaceWrite_ignored no)
  case disables => exact fun on => State.runU_of_eq (gridPartDisable_drains op known on)
  case asks => exact fun steady => State.runU_of_eq (gridPartEnable_asks op known off served steady)
  case held => exact fun drains => State.runU_of_eq (gridPartEnable_held op known off served drains)
  case refused => exact fun no => ⟨State.runU_of_eq (gridPartDisable_refused no), State.runU_of_eq (gridPartEnable_refused no)⟩
  case auto => exact fun accepted => State.run_of_units ((gridLoad_auto may).trans (by rw [accepted]; rfl))
  case list => exact fun list accepted => State.run_of_units ((gridLoad_list may list).trans (congrArg (fun r => (s.mem, Units.loadDone c r)) accepted))
  case noAccess => exact fun no => State.run_of_units (gridLoad_noAccess may no)
  case placed => exact fun place placed => State.run_of_units (gridLoadComplete_placed loading placed)
  case notPlaced => exact fun st bad none => State.run_of_units (gridLoadComplete_notPlaced loading bad none)
  case badImage => exact fun d g bad => State.run_of_units (gridLoadComplete_badImage loading bad)
  case runs =>
    have runs {code : Nat} (loaded : (s.u.slot n).state ≠ 1) : s.u.slotHost c code n = s.u.runSlotCmd n { code := code, cmd := some c } :=
      (Units.slotHost_ok may known).trans (Units.slotCmd_runs idle first loaded)
    have badState {code : Nat} (loaded : (s.u.slot n).state ≠ 1) (no : ¬slotActs code (s.u.slot n).state) :=
      (runs loaded).trans (Units.runSlotCmd_badState (k := { code := code, cmd := some c }) no)
    exact ⟨fun st => State.runU_of_eq ((runs (by omega)).trans (Units.runSlotCmd_starts rfl st)),
      fun st => State.runU_of_eq ((runs (by omega)).trans (Units.runSlotCmd_halts rfl st)),
      fun st => State.runU_of_eq ((runs (by omega)).trans (Units.runSlotCmd_resumes rfl st)),
      fun st => State.runU_of_eq ((runs (by omega)).trans (Units.runSlotCmd_unloads rfl st)),
      fun st1 st2 => State.runU_of_eq (badState st1 (by simpa [slotActs] using st2)),
      fun st1 st3 => State.runU_of_eq (badState st1 (by simpa [slotActs] using st3)),
      fun st1 st5 => State.runU_of_eq (badState st1 (by simpa [slotActs] using st5)),
      fun st1 st2 st5 st7 => State.runU_of_eq (badState st1 (by simp [slotActs, st2, st5, st7]))⟩
  case behind =>
    intro busy
    have behind (code : Nat) := (Units.slotHost_ok (u := s.u) (code := code) may known).trans (Units.slotCmd_waits busy)
    exact ⟨State.runU_of_eq (behind 0x0502), State.runU_of_eq (behind 0x0503), State.runU_of_eq (behind 0x0504), State.runU_of_eq (behind 0x0505)⟩
  case outOfRange =>
    intro no
    have refused (code : Nat) := Units.slotHost_refused (u := s.u) (code := code) no
    exact ⟨State.runU_of_eq (refused 0x0502), State.runU_of_eq (refused 0x0503), State.runU_of_eq (refused 0x0504), State.runU_of_eq (refused 0x0505)⟩
  case halts => exact fun stays => State.runU_of_eq (gridHaltComplete_halts halting quiet stays)
  case unloads => exact fun k leaves running => State.runU_of_eq (gridHaltComplete_unloads halting quiet leaves running)
  case hangs => exact fun l rest runs place works => State.runU_of_eq (gridWatchdogExpiry_hangs runs place works)

end Sys2Proof.Machine
end

section
/-!
PROOFS. Ember (15 R362 to R377): commands, control messages, token sets, batches and timers, branch by branch.
-/
namespace Sys2Proof.Machine

/-! EMBER_BIND (R365, R367) -/

/-- The bytes of `count` expert descriptors at a Mantle address. -/
def expertsAt (m : Mem) (addr count : Nat) : List (List Nat) := (List.range count).map fun i => m.bytesAt (addr + 32 * i) 32

/-- What EMBER_BIND asks of its parameters (Table 15-2): a mode 2 job that has the shard, and descriptors within their ranges, no tag twice. -/
def Units.soundBind (u : Units) (m : Mem) (x : Shard) (j : JobBind) (job count addr : Nat) : Prop :=
  let es := (expertsAt m addr count).filterMap expertOf
  j.mode = 2 ∧ x.job = job ∧ 1 ≤ count ∧ count ≤ 64 ∧ u.mayAccess Ag.grid addr (32 * count) false = true ∧ es.length = count ∧
    (es.all fun e => e.ok (4096 * x.layout)) = true ∧ (es.map (·.tag)).Nodup

/-- The table of a shard once descriptors are bound: with a stand-in running, the old one until it ends (R365). -/
def Units.tableBound (u : Units) (job shard : Nat) (es : List Expert) : EmbTable :=
  match (u.ember.entryOf shard).isSome, NMap.find u.ember.tables shard with
  | true, some o => { o with next := some es }
  | _, _ => { job := job, experts := es, next := none }

theorem Units.tableBound_eq (u : Units) (job shard : Nat) (es : List Expert) : u.tableBound job shard es =
    let fresh : EmbTable := { job := job, experts := es, next := none }
    if (u.ember.entryOf shard).isSome = true then
      (match NMap.find u.ember.tables shard with | some o => { o with next := some es } | none => fresh)
    else fresh := by
  unfold Units.tableBound
  cases (u.ember.entryOf shard).isSome <;> cases NMap.find u.ember.tables shard <;> rfl

/-- The other T3 of a shard: the writer's at the buddy, else the buddy. -/
def Units.otherT3 (u : Units) (x : Shard) : Nat := if x.isBuddy then u.servedBy ((x.members.getD x.writer (0, 0)).1) else x.buddy

/-- The units once the descriptors `bs` are bound and carried to the shard's other T3. -/
def Units.expertsBound (u : Units) (x : Shard) (job shard : Nat) (bs : List (List Nat)) : Units :=
  let v := u.upE fun y => { y with tables := NMap.set y.tables shard (u.tableBound job shard (bs.filterMap expertOf)) }
  if u.otherT3 x = 0 || u.otherT3 x = u.self then v else v.emit (.bus 21 ([u.otherT3 x, job, shard] ++ bs.flatten))

theorem Units.expertsBound_eq (u : Units) (x : Shard) (job shard : Nat) (bs : List (List Nat)) : u.expertsBound x job shard bs =
    let v := u.upE fun y => { y with tables := NMap.set y.tables shard (u.tableBound job shard (bs.filterMap expertOf)) }
    if u.otherT3 x = 0 ∨ u.otherT3 x = u.self then v else v.emit (.bus 21 ([u.otherT3 x, job, shard] ++ bs.flatten)) := by
  simp only [Units.expertsBound, Bool.or_eq_true, decide_eq_true_eq]

@[simp] theorem Units.expertsBound_inst (u : Units) (x : Shard) (job shard : Nat) (bs : List (List Nat)) :
    (u.expertsBound x job shard bs).ember.inst = u.ember.inst := by
  unfold Units.expertsBound; split <;> rfl

@[simp] theorem Units.expertsBound_cfg (u : Units) (x : Shard) (job shard : Nat) (bs : List (List Nat)) (a d : Nat) :
    (u.expertsBound x job shard bs).cfg a d = u.cfg a d := by
  unfold Units.expertsBound; split <;> rfl

/-- The units once a program is loaded ahead, at a buddy with PRELOAD set and none loaded (R367). -/
def Units.preloaded (u : Units) (m : Mem) (x : Shard) : Units :=
  if x.isBuddy && bitAt (u.cfg 0xE03000 1) 1 && u.ember.inst = 0 then (emberLoad m u).getD u else u

theorem Units.preloaded_not {u : Units} {x : Shard} (no : ¬(x.isBuddy = true ∧ bitAt (u.cfg 0xE03000 1) 1 = true ∧ u.ember.inst = 0)) (m : Mem) :
    u.preloaded m x = u := if_neg (by simpa [and_assoc] using no)

theorem Units.preloaded_loads {u : Units} {x : Shard} (due : x.isBuddy = true ∧ bitAt (u.cfg 0xE03000 1) 1 = true ∧ u.ember.inst = 0) (m : Mem) :
    u.preloaded m x = (emberLoad m u).getD u := if_pos (by simpa [and_assoc] using due)

theorem Units.not_soundBind_iff {u : Units} {m : Mem} {x : Shard} {j : JobBind} {job count addr : Nat} :
    (j.mode ≠ 2 || x.job ≠ job || count = 0 || 64 < count || !(u.mayAccess Ag.grid addr (32 * count) false) ||
      ((expertsAt m addr count).filterMap expertOf).length ≠ count || !(((expertsAt m addr count).filterMap expertOf).all fun e => e.ok (4096 * x.layout)) ||
      !((((expertsAt m addr count).filterMap expertOf).map (·.tag)).Nodup)) = true ↔ ¬u.soundBind m x j job count addr := by
  simp only [Units.soundBind, Classical.not_and_iff_not_or_not, Bool.or_eq_true, decide_eq_true_eq, Bool.not_eq_true', decide_eq_false_iff_not, or_assoc,
    Bool.not_eq_true, Nat.not_le, Nat.lt_one_iff, ne_eq]

section
variable {m : Mem} {u : Units} {c : Cmd} {job shard count addr : Nat} (op : isOperator (stampPriv c.stamp) = true)
include op

theorem emberBind_unknown (unknown : u.shKey shard = none ∨ u.jobB job = none) :
    emberBind c job shard count addr m u = (m, u.done c 0x0E0 0x0B01 St.BAD_PARAM) := by
  refine (if_neg (by simp [op])).trans ?_
  split
  next k j shardBound jobBound => simp [shardBound, jobBound] at unknown
  next => rfl

variable {k : Nat} {j : JobBind} (shardBound : u.shKey shard = some k) (jobBound : u.jobB job = some j)
include shardBound jobBound

theorem emberBind_unsound (unsound : ¬u.soundBind m (u.shAt k) j job count addr) :
    emberBind c job shard count addr m u = (m, u.done c 0x0E0 0x0B01 St.BAD_PARAM) := by
  rw [emberBind, shardBound, jobBound]
  exact (if_neg (by simp [op])).trans (if_pos (Units.not_soundBind_iff.2 unsound))

variable (sound : u.soundBind m (u.shAt k) j job count addr)
include sound

theorem emberBind_notHealthy (bad : (u.shAt k).prot ≠ 0) : emberBind c job shard count addr m u = (m, u.done c 0x0E0 0x0B01 St.BAD_STATE) := by
  rw [emberBind, shardBound, jobBound]
  exact (if_neg (by simp [op])).trans ((if_neg fun bad => Units.not_soundBind_iff.1 bad sound).trans (if_pos bad))

theorem emberBind_binds (healthy : (u.shAt k).prot = 0) : emberBind c job shard count addr m u =
    (m, ((u.expertsBound (u.shAt k) job shard (expertsAt m addr count)).preloaded m (u.shAt k)).done c 0x0E0 0x0B01 St.OK) := by
  rw [emberBind, shardBound, jobBound]
  exact (if_neg (by simp [op])).trans ((if_neg fun bad => Units.not_soundBind_iff.1 bad sound).trans (if_neg (not_not_intro healthy)))

end

/-! EMBER_UNBIND, EMBER_STOP and EMBER_ENABLE_CLEAR (R144, R365, R377) -/

section
variable {u : Units} {c : Cmd} {job shard : Nat} (op : isOperator (stampPriv c.stamp) = true)
include op

theorem emberUnbind_noTable (none : NMap.find u.ember.tables shard = none) : emberUnbind c job shard u = u.done c 0x0E0 0x0B02 St.BAD_PARAM := by
  rw [emberUnbind, operator_ok op, none]

section
variable {t : EmbTable} (bound : NMap.find u.ember.tables shard = some t)
include bound

theorem emberUnbind_otherJob (other : t.job ≠ job) : emberUnbind c job shard u = u.done c 0x0E0 0x0B02 St.BAD_PARAM := by
  rw [emberUnbind, operator_ok op, bound]
  exact if_pos other

variable (same : t.job = job)
include same

theorem emberUnbind_idle (idle : u.ember.entryOf shard = none) : emberUnbind c job shard u =
    ((u.upE fun x => { x with tables := NMap.del x.tables shard }).embIdle).done c 0x0E0 0x0B02 St.OK := by
  rw [emberUnbind, operator_ok op, bound, idle]
  exact if_neg (not_not_intro same)

theorem emberUnbind_standsIn {e : Nat × StandIn} (runs : u.ember.entryOf shard = some e) : emberUnbind c job shard u =
    (u.upEntry e.1 fun x => { x with stops := x.stops ++ [(0x0B02, c)], unbind := true }).embEnd e.1 := by
  rw [emberUnbind, operator_ok op, bound, runs]
  exact if_neg (not_not_intro same)

end

theorem emberStop_idle (idle : u.ember.entryOf shard = none) : emberStop c job shard u = u.done c 0x0E0 0x0B03 St.BAD_STATE := by
  rw [emberStop, operator_ok op, idle]

section
variable {e : Nat × StandIn} (runs : u.ember.entryOf shard = some e)
include runs

theorem emberStop_ends (same : e.2.job = job) : emberStop c job shard u =
    (u.upEntry e.1 fun x => { x with stops := x.stops ++ [(0x0B03, c)] }).embEnd e.1 := by
  rw [emberStop, operator_ok op, runs]
  exact if_neg (not_not_intro same)

theorem emberStop_otherJob (other : e.2.job ≠ job) : emberStop c job shard u = u.done c 0x0E0 0x0B03 St.BAD_STATE := by
  rw [emberStop, operator_ok op, runs]
  exact if_pos other

end

end

section
variable {u : Units} {w : Who}

theorem emberEnableClear_ignored (no : isOperator w.priv = false ∨ u.ember.enable = false) : emberEnableClear w u = u :=
  if_pos (by rcases no with no | no <;> simp [no])

/-- The units once Ember drains. -/
def Units.emberDraining (u : Units) : Units :=
  { u.upE fun x => { x with enable := false, draining := true } with
    drains := u.drains ++ [{ unit := 0x0E, items := u.ember.entries.length, enableHeld := false }] }

theorem emberEnableClear_drains (op : isOperator w.priv = true) (on : u.ember.enable = true) :
    emberEnableClear w u = u.ember.entries.foldl (fun u e => u.embEnd e.1) u.emberDraining :=
  if_neg (by simp [op, on])

end

/-! EMB_CTL (R362, R364, R368, R376) -/

/-- The route that a start names: no sequence and no tags yet. -/
def routeOf (job shard cid ctx : Nat) : EmbRoute := { job := job, shard := shard, cid := cid, ctx := ctx, seq := 0, mode := 0, tags := [] }

/-- The units once Ember's program is being loaded where there is none. -/
def Units.programWanted (u : Units) (m : Mem) : Units := if u.ember.inst = 0 then (emberLoad m u).getD u else u

/-- A stand-in entry as a start makes it. -/
def Units.newStandIn (u : Units) (origin job shard cid ctx : Nat) : StandIn :=
  { job := job, shard := shard, cid := cid, ctx := ctx, origin := origin, state := 1, seq := 0, start := 0, cap := u.embCap job, taken := [], queue := [],
    served := 0, stops := [], unbind := false }

section
variable {m : Mem} {u : Units} {origin job shard cid ctx : Nat}

theorem embStart_refused {x : Nat} (why : embReason m u job shard = some x) : embStart m u origin job shard cid ctx =
    (m, u.startAnswer (routeOf job shard cid ctx) origin x fun u => u.startAck (routeOf job shard cid ctx) x) := by
  rw [embStart, why]
  rfl

variable (ready : embReason m u job shard = none)
include ready

theorem embStart_full (full : NMap.firstFree (u.programWanted m).ember.entries 16 = none) :
    embStart m u origin job shard cid ctx = (m, u.programWanted m) := by
  rw [Units.programWanted] at full
  simp only [embStart, ready, full]
  rfl

theorem embStart_enters {k : Nat} (free : NMap.firstFree (u.programWanted m).ember.entries 16 = some k) : embStart m u origin job shard cid ctx =
    let v := u.programWanted m
    let entered := v.upE fun x => { x with entries := NMap.set x.entries k (v.newStandIn origin job shard cid ctx) }
    (m, if v.ember.inst = 2 then entered.standIn k else entered) := by
  rw [Units.programWanted] at free
  simp only [embStart, ready, free]
  rfl

end

theorem Units.startAck_ok_noTable {u : Units} {r : EmbRoute} (mode : r.mode = 0) (none : NMap.find u.ember.tables r.shard = none) :
    u.startAck r St.OK = u.routeUp r := by
  refine (if_pos rfl).trans ?_
  rw [none, ← mode]

theorem Units.startAck_ok_table {u : Units} {r : EmbRoute} {t : EmbTable} (mode : r.mode = 0) (bound : NMap.find u.ember.tables r.shard = some t) :
    u.startAck r St.OK = u.routeUp { r with tags := t.experts.map (·.tag) } := by
  refine (if_pos rfl).trans ?_
  rw [bound, ← mode]

theorem Units.startAck_refused {u : Units} {r : EmbRoute} {status : Nat} (no : status ≠ St.OK) : u.startAck r status = u.embRefused status r.cid r.shard :=
  if_neg no

section
variable {s : State} {l : LHdr} {job shard cid ctx seq : Nat} (heard : s.hearsL l)
include heard

theorem embCtlStart_heard (m : Mem) : embCtlStart l job shard cid ctx m s.u = embStart m s.u l.src job shard cid ctx := if_neg (by simp [heard.1])

theorem embCtlAck_heard (status : Nat) : embCtlAck l job shard cid ctx seq status s.u =
    s.u.startAck { job := job, shard := shard, cid := cid, ctx := ctx, seq := seq, mode := 0, tags := [] } status :=
  recvL_hears heard _ _ _

section
variable {mode : Nat} {tags : List Nat}

theorem embCtlRoute_keeper (keeper : s.u.isKeeper = true) : embCtlRoute l mode job shard cid ctx seq tags s.u =
    s.u.keeperRoute { job := job, shard := shard, cid := cid, ctx := ctx, seq := seq, mode := mode, tags := tags } :=
  (recvL_hears heard _ _ _).trans (if_pos keeper)

theorem embCtlRoute_member (member : s.u.isKeeper = false) : embCtlRoute l mode job shard cid ctx seq tags s.u =
    s.u.memberRoute { job := job, shard := shard, cid := cid, ctx := ctx, seq := seq, mode := mode, tags := tags } :=
  (recvL_hears heard _ _ _).trans (if_neg (by simp [member]))

end

/-- The entry that EMB_CTL stop names. -/
def Units.namedEntry (u : Units) (job shard cid ctx : Nat) : Option (Nat × StandIn) :=
  u.ember.entries.find? fun e => e.2.shard = shard && e.2.job = job && e.2.cid = cid && e.2.ctx = ctx

theorem embCtlStop_ends {e : Nat × StandIn} (mine : s.u.namedEntry job shard cid ctx = some e) :
    embCtlStop l job shard cid ctx seq s.u = s.u.upEntry e.1 fun x => { x with state := 3 } := by
  rw [Units.namedEntry] at mine
  rw [embCtlStop, recvL_hears heard, mine]
  rfl

theorem embCtlStop_unknown (none : s.u.namedEntry job shard cid ctx = none) : embCtlStop l job shard cid ctx seq s.u = s.u := by
  rw [Units.namedEntry] at none
  rw [embCtlStop, recvL_hears heard, none]

end

/-! Token sets and results (R370, R372) -/

section
variable {s : State} {l : LHdr} {tag seq k set : Nat} (heard : s.hearsL l)
include heard

section
variable {refs vecs : List Nat} {v : Units}

theorem embTokens_part (part : s.u.gather (2 ^ 20 + l.src) set refs vecs (bitAt l.flags 1) = (v, none)) : embTokens l tag seq k set refs vecs s.u = v := by
  rw [embTokens, recvL_hears heard, part]

theorem embTokens_whole {rs vs : List Nat} (whole : s.u.gather (2 ^ 20 + l.src) set refs vecs (bitAt l.flags 1) = (v, some (rs, vs))) :
    embTokens l tag seq k set refs vecs s.u = v.embQueue { src := l.src, tag := tag, seq := seq, set := set, refs := rs, vecs := vs } := by
  rw [embTokens, recvL_hears heard, whole]

end

/-- The set in flight that a result answers. -/
def Units.inFlight (u : Units) (src tag seq set : Nat) : Option EmbFwd :=
  u.ember.fwds.find? fun f => f.buddy = src && f.tag = tag && f.seq = seq && f.set = set

section
variable {status : Nat} {vecs : List Nat}

theorem embResultMsg_stale (none : s.u.inFlight l.src tag seq set = none) : embResultMsg l tag seq k status set vecs s.u = s.u.staleL l := by
  rw [Units.inFlight] at none
  rw [embResultMsg, recvL_hears heard, Units.embResult, none]
  rfl

variable {f : EmbFwd} (mine : s.u.inFlight l.src tag seq set = some f)
include mine

/-- A result goes on to the dispatcher, whose set ends with the last message of it. -/
theorem embResultMsg_goesOn : embResultMsg l tag seq k status set vecs s.u =
    let v := s.u.sendS f.port 0x1B f.ctx (1 + 2 * b2n (bitAt l.flags 1)) f.hseq (32 + vecs.length) ([tag, seq, k, status, set, 1] ++ vecs)
    if bitAt l.flags 1 = true then v else v.upE fun x => { x with fwds := x.fwds.filter (· ≠ f) } := by
  rw [Units.inFlight] at mine
  rw [embResultMsg, recvL_hears heard, Units.embResult, mine]
  rfl

end

end

/-- The units once a set is in flight to the buddy `b`, its tracked streams marked (R396). -/
def Units.setForwarded (u : Units) (h : SHdr) (tag seq set k b : Nat) (rs : List Nat) : Units :=
  (u.markServed rs).upE fun x =>
    { x with fwds := x.fwds ++ [{ port := h.port, ctx := h.ctx, hseq := h.seq, tag := tag, seq := seq, set := set, k := k, buddy := b }] }

/-- The route in force for a sequence and an expert; one that a direct route has ended is met under the sequence below. -/
def Units.routeFor (u : Units) (tag seq : Nat) : Option EmbRoute := u.ember.routes.find? fun r => r.seq = seq + r.mode && r.tags.contains tag

section
variable {s : State} {h : SHdr} {tag seq k set : Nat} {refs vecs : List Nat} {v : Units} (heard : s.hears h 0x1A)
include heard

theorem emberTokens_part (part : s.u.gather (64 * h.port + h.ctx) set refs vecs (bitAt h.flags 1) = (v, none)) :
    emberTokens h tag seq k set refs vecs s.u = v := by
  refine (recvS_hears heard _).trans ?_
  dsimp only
  rw [part]

variable {rs vs : List Nat} (whole : s.u.gather (64 * h.port + h.ctx) set refs vecs (bitAt h.flags 1) = (v, some (rs, vs)))
include whole

theorem emberTokens_noRoute (none : v.routeFor tag seq = none) :
    emberTokens h tag seq k set refs vecs s.u = v.embAnswer h.port h.ctx h.seq tag seq k St.BAD_PARAM set [] := by
  rw [Units.routeFor] at none
  refine (recvS_hears heard _).trans ?_
  dsimp only
  rw [whole]
  simp only [none]

variable {r : EmbRoute} (route : v.routeFor tag seq = some r)
include route

/-- What a whole set with a route comes to. -/
theorem emberTokens_routed : emberTokens h tag seq k set refs vecs s.u =
    if rs.length = k ∧ v.setLenOk r tag k vs.length = true then
      let sent := v.setForwarded h tag seq set k (v.buddyOf r) rs
      if v.buddyOf r = v.self then sent.embQueue { src := v.self, tag := tag, seq := seq, set := set, refs := rs, vecs := vs }
      else (setMsgs (rs.flatMap (leBytes 4) ++ vs)).foldl (fun u x => u.reqL (v.buddyOf r) 0x5D (32 + x.1.length) 2 ([tag, seq, k, 0, set, 0] ++ x.1)) sent
    else v.embAnswer h.port h.ctx h.seq tag seq k St.BAD_PARAM set [] := by
  rw [Units.routeFor] at route
  refine (recvS_hears heard _).trans ?_
  dsimp only
  rw [whole]
  simp only [route]
  by_cases sound : rs.length = k ∧ v.setLenOk r tag k vs.length = true
  · exact (if_neg (by simp [sound])).trans (if_pos sound).symm
  · exact (if_pos (by simpa [Decidable.or_iff_not_imp_left] using sound)).trans (if_neg sound).symm

end

/-! Batches (R371, R372, R374) -/

/-- The units once the sets `b` of entry `k` are served, their tokens counted and their work kept. -/
def Units.batchServed (u : Units) (k : Nat) (b : List TokSet) (beats bytes : Nat) : Units :=
  let n := sumL (b.map fun x => x.refs.length)
  let share := (64 * beats + bytes) / (if n = 0 then 1 else n)
  let v := u.upE fun y => { y with batch := none, work := y.work ++ b.flatMap fun x => x.refs.map fun r => (x.src, r, share) }
  (v.upEntry k fun e => { e with served := e.served + n }).count 0xE03108 n

section
variable {u : Units}

theorem emberBatchClose_idle (idle : u.ember.inst ≠ 2 ∨ u.ember.batch ≠ none ∨ u.ember.waiting = []) : emberBatchClose u = u := by
  rcases idle with unloaded | busy | none
  · exact if_pos (by simp [unloaded])
  · exact if_pos (by simp [Option.isSome_iff_ne_none.2 busy])
  · rw [emberBatchClose, none]
    exact ite_self _

section
variable {k tag : Nat} {rest : List (Nat × Nat)} (loaded : u.ember.inst = 2) (free : u.ember.batch = none) (next : u.ember.waiting = (k, tag) :: rest)
include loaded free next

theorem emberBatchClose_noEntry (none : NMap.find u.ember.entries k = none) : emberBatchClose u = u := by
  refine (if_neg (by simp [loaded, free])).trans ?_
  simp only [next, none]

theorem emberBatchClose_takes {e : StandIn} (entry : NMap.find u.ember.entries k = some e) : emberBatchClose u =
    let b := takeSets u.batchMax 0 (e.queue.filter fun x => x.tag = tag)
    (u.upEntry k fun e => { e with queue := e.queue.filter fun x => !(b.contains x) }).upE fun x => { x with batch := some (k, b), rot := (k, tag) } := by
  refine (if_neg (by simp [loaded, free])).trans ?_
  simp only [next, entry]

end

theorem emberBatchDone_none (none : u.ember.batch = none) (outs : List (List Nat)) (beats bytes : Nat) : emberBatchDone outs beats bytes u = u := by
  rw [emberBatchDone, none]

theorem emberBatchDone_answers {k : Nat} {b : List TokSet} (runs : u.ember.batch = some (k, b)) (outs : List (List Nat)) (beats bytes : Nat) :
    emberBatchDone outs beats bytes u =
      ((List.range b.length).zip b).foldl (fun u x => u.embReply x.2 St.OK (outs.getD x.1 [])) (u.batchServed k b beats bytes) := by
  rw [emberBatchDone, runs]
  rfl

end

/-! EMBER_DRAIN_EXPIRY and EMBER_IDLE_UNLOAD (R367, R376) -/

/-- The sets of entry `k` that the batch which runs holds. -/
def Units.runningSets (u : Units) (k : Nat) : List TokSet := match u.ember.batch with | some (n, b) => if n = k then b else [] | none => []

/-- The units once the sets that entry `k` still holds are cancelled, the entry is freed and the hand-back is recorded. -/
def Units.handedBack (u : Units) (k : Nat) (e : StandIn) : Units :=
  let run := u.runningSets k
  let cancelled := (run ++ e.queue).foldl (fun u x => u.embReply x St.CANCELLED_BY_DISABLE []) u
  let freed := cancelled.upE fun x =>
    { x with entries := NMap.del x.entries k, batch := if run.isEmpty then x.batch else none,
             tables := if e.unbind then NMap.del x.tables e.shard
               else NMap.upd x.tables e.shard fun t => match t.next with | some n => { t with experts := n, next := none } | none => t }
  freed.raise Ev.EMBER_HANDBACK 2 0x0E0 (Config.eventPayload Ev.EMBER_HANDBACK [e.cid, e.shard, e.served])

section
variable {u : Units} {k : Nat}

theorem emberDrainExpiry_noEntry (none : NMap.find u.ember.entries k = none) : emberDrainExpiry k u = u := by rw [emberDrainExpiry, none]

section
variable {e : StandIn} (entry : NMap.find u.ember.entries k = some e)
include entry

theorem emberDrainExpiry_runs (runs : e.state ≠ 3) : emberDrainExpiry k u = u := by
  rw [emberDrainExpiry, entry]
  exact if_pos runs

theorem emberDrainExpiry_frees (ending : e.state = 3) :
    emberDrainExpiry k u = (e.stops.foldl (fun u c => u.done c.2 0x0E0 c.1 St.OK) (u.handedBack k e)).embIdle := by
  rw [emberDrainExpiry, entry]
  exact if_neg (not_not_intro ending)

end

theorem emberIdleUnload_eq : emberIdleUnload u = if u.ember.entries = [] ∧ u.ember.inst = 2 ∧ bitAt (u.cfg 0xE03000 1) 1 = false then
    (u.upE fun x => { x with inst := 0 }).later (.gridUnload u.ember.slot) else u :=
  ite_congr (by simp [and_assoc]) (fun _ => rfl) fun _ => rfl

end

/-- Settles O52: each clause is one branch of its command, by the lemmas above. -/
theorem emberStandsInAndServes : Obligations.EmberStandsInAndServes := by
  intro s h l w c job shard
  refine ⟨fun op => ⟨?unknown, fun count addr k j shardBound jobBound => ⟨?unsound, ?notHealthy, ?binds, ?preloads⟩, ⟨?noTable, fun t bound =>
      ⟨?otherTable, ?unbinds, ?unbindsLater⟩⟩, fun e runs => ⟨?stops, ?otherStop⟩, ?noStop⟩, ?drains, ?noDrain, fun heard cid ctx seq =>
      ⟨⟨?refused, ?full, fun k ready free => ⟨?stands, ?enters⟩⟩, ⟨?ackNo, ?ackNoTable, ?ackTable⟩, fun mode tags => ⟨?keeper, ?member⟩, ⟨?ends, ?noEnd⟩,
        fun tag k set refs vecs => ⟨?tokPart, ?tokWhole⟩, fun tag k status set vecs => ⟨fun f mine => ⟨?last, ?more⟩, ?stale⟩⟩,
    fun tag seq k set refs vecs heard => ⟨?setPart, fun rs vs whole => ⟨?noRoute, fun r route => ⟨?badSet, ?here, ?away⟩⟩⟩, ?closeIdle,
    fun k tag rest loaded free next => ⟨?noEntry, ?takes⟩, fun outs beats bytes => ⟨?noBatch, ?answers⟩, fun port ctx set => rfl,
    fun k => ⟨?expiryNone, fun e entry => ⟨?expiryRuns, ?expiryFrees⟩⟩, ?unloads, ?staysLoaded⟩
  case unknown => exact fun unknown count addr => State.run_of_units (emberBind_unknown op unknown)
  case unsound => exact fun unsound => State.run_of_units (emberBind_unsound op shardBound jobBound unsound)
  case notHealthy => exact fun sound bad => State.run_of_units (emberBind_notHealthy op shardBound jobBound sound bad)
  case binds =>
    intro sound healthy no
    refine State.run_of_units ((emberBind_binds op shardBound jobBound sound healthy).trans ?_)
    rw [Units.preloaded_not (by simpa using no), Units.expertsBound_eq, Units.tableBound_eq]
    rfl
  case preloads =>
    intro sound healthy due
    refine State.run_of_units ((emberBind_binds op shardBound jobBound sound healthy).trans ?_)
    rw [Units.preloaded_loads (by simpa using due), Units.expertsBound_eq, Units.tableBound_eq]
    rfl
  case noTable => exact fun none => State.runU_of_eq (emberUnbind_noTable op none)
  case otherTable => exact fun other => State.runU_of_eq (emberUnbind_otherJob op bound other)
  case unbinds => exact fun same idle => State.runU_of_eq (emberUnbind_idle op bound same idle)
  case unbindsLater => exact fun e same runs => State.runU_of_eq (emberUnbind_standsIn op bound same runs)
  case stops => exact fun same => State.runU_of_eq (emberStop_ends op runs same)
  case otherStop => exact fun other => State.runU_of_eq (emberStop_otherJob op runs other)
  case noStop => exact fun idle => State.runU_of_eq (emberStop_idle op idle)
  case drains => exact fun op on => State.runU_of_eq (emberEnableClear_drains op on)
  case noDrain => exact fun no => State.runU_of_eq (emberEnableClear_ignored no)
  case refused => exact fun x why => State.run_of_units ((embCtlStart_heard heard _).trans (embStart_refused why))
  case full => exact fun ready full => State.run_of_units ((embCtlStart_heard heard _).trans (embStart_full ready full))
  case stands =>
    exact fun loaded => State.run_of_units ((embCtlStart_heard heard _).trans ((embStart_enters ready free).trans (congrArg (Prod.mk s.mem) (if_pos loaded))))
  case enters =>
    exact fun loads => State.run_of_units ((embCtlStart_heard heard _).trans ((embStart_enters ready free).trans (congrArg (Prod.mk s.mem) (if_neg loads))))
  case ackNo => exact fun status no => State.runU_of_eq ((embCtlAck_heard heard status).trans (Units.startAck_refused no))
  case ackNoTable => exact fun none => State.runU_of_eq ((embCtlAck_heard heard _).trans (Units.startAck_ok_noTable rfl none))
  case ackTable => exact fun t bound => State.runU_of_eq ((embCtlAck_heard heard _).trans (Units.startAck_ok_table rfl bound))
  case keeper => exact fun keeper => State.runU_of_eq (embCtlRoute_keeper heard keeper)
  case member => exact fun member => State.runU_of_eq (embCtlRoute_member heard member)
  case ends => exact fun e mine => State.runU_of_eq (embCtlStop_ends heard mine)
  case noEnd => exact fun none => State.runU_of_eq (embCtlStop_unknown heard none)
  case tokPart => exact fun part => State.runU_of_eq (embTokens_part heard (Prod.ext rfl part))
  case tokWhole => exact fun rs vs whole => State.runU_of_eq (embTokens_whole heard (Prod.ext rfl whole))
  case last => exact fun last => State.runU_of_eq ((embResultMsg_goesOn heard mine).trans (if_neg (by simp [last])))
  case more => exact fun more => State.runU_of_eq ((embResultMsg_goesOn heard mine).trans (if_pos more))
  case stale => exact fun none => State.runU_of_eq (embResultMsg_stale heard none)
  case setPart => exact fun part => State.runU_of_eq (emberTokens_part heard (Prod.ext rfl part))
  case noRoute => exact fun none => State.runU_of_eq (emberTokens_noRoute heard (Prod.ext rfl whole) none)
  case badSet => exact fun bad => State.runU_of_eq ((emberTokens_routed heard (Prod.ext rfl whole) route).trans (if_neg bad))
  case here =>
    exact fun sound here => State.runU_of_eq ((emberTokens_routed heard (Prod.ext rfl whole) route).trans ((if_pos sound).trans (if_pos here)))
  case away =>
    exact fun sound away => State.runU_of_eq ((emberTokens_routed heard (Prod.ext rfl whole) route).trans ((if_pos sound).trans (if_neg away)))
  case closeIdle => exact fun idle => State.runU_of_eq (emberBatchClose_idle idle)
  case noEntry => exact fun none => State.runU_of_eq (emberBatchClose_noEntry loaded free next none)
  case takes => exact fun e entry => State.runU_of_eq (emberBatchClose_takes loaded free next entry)
  case noBatch => exact fun none => State.runU_of_eq (emberBatchDone_none none outs beats bytes)
  case answers => exact fun k b runs => State.runU_of_eq (emberBatchDone_answers runs outs beats bytes)
  case expiryNone => exact fun none => State.runU_of_eq (emberDrainExpiry_noEntry none)
  case expiryRuns => exact fun runs => State.runU_of_eq (emberDrainExpiry_runs entry runs)
  case expiryFrees => exact fun ending => State.runU_of_eq (emberDrainExpiry_frees entry ending)
  case unloads => exact fun idle => State.runU_of_eq (emberIdleUnload_eq.trans (if_pos idle))
  case staysLoaded => exact fun busy => State.runU_of_eq (emberIdleUnload_eq.trans (if_neg busy))

end Sys2Proof.Machine
end

section
/-!
PROOFS. What the taper instructions rest on (09): the slot of a taper that issues, what a read of local memory finds (R157), and the scalar loads (R225).
-/
namespace Sys2Proof.Machine

/-! A taper that issues (R216, R529) -/

@[simp] theorem Units.openStep_lt (u : Units) (k l : Nat) : (u.openStep k).lt l = u.lt l := by
  unfold Units.openStep; split <;> rfl

@[simp] theorem Units.openStep_slot (u : Units) (k n : Nat) : (u.openStep k).slot n = u.slot n := by
  unfold Units.openStep; split <;> rfl

/-- A taper that may issue belongs to the slot that it issues for. -/
theorem Units.slot_of_mayIssue {u : Units} {l n : Nat} (may : u.mayIssue l = some n) : (u.lt l).slot = some n := by
  unfold Units.mayIssue at may
  split at may
  case h_1 => cases may
  case h_2 owned =>
    split at may
    · exact owned.trans may
    · cases may

/-- With its gate open it belongs to the same slot. -/
theorem State.open_slot {s : State} {l n : Nat} (may : s.u.mayIssue l = some n) : ((s.open l).lt l).slot = some n :=
  (congrArg LTaper.slot (s.u.openStep_lt l l)).trans (Units.slot_of_mayIssue may)

@[simp] theorem State.open_taper (s : State) (l : Nat) : (s.open l).taper l = s.u.taper l := openStep_taper _ _ _

@[simp] theorem State.open_progSlot (s : State) (l n : Nat) : (s.open l).slot n = s.u.slot n := Units.openStep_slot _ _ _

/-! What a read of local memory finds (R157) -/

section
variable {u : Units} {l ecc a k : Nat} {t t' : Taper} {jump : Option Nat} (own : u.taper l = t)
include own

theorem Units.eccLoad_clean (found : t.eccAt ecc a k = 0) : u.eccLoad l ecc a k (.next t' jump) = (u, .next t' jump) := by
  simp [Units.eccLoad, own, found]

theorem Units.eccLoad_corrected (found : t.eccAt ecc a k = 1) : u.eccLoad l ecc a k (.next t' jump) = (u.eccFixed l, .next t' jump) := by
  simp [Units.eccLoad, own, found]

theorem Units.eccLoad_double (found : t.eccAt ecc a k = 2) : u.eccLoad l ecc a k (.next t' jump) = (u.eccDouble l a, .memory 3 a) := by
  simp [Units.eccLoad, own, found]

end

/-! The scalar loads (R225) -/

theorem accessBad_none {ok : Nat → Nat → Bool} {a k align : Nat} (aligned : a % align = 0) (area : ok a k = true) : accessBad ok a k align = none :=
  (if_neg (not_not_intro aligned)).trans (if_neg (by simp [area]))

/-- Each scalar load is the shared load of its width and its extension. -/
theorem LoadOp.exec_eq {con op k signed} (load : LoadOp con op k signed) (l ecc : Nat) (f : IFmt) (s : State) :
    exec (con l f ecc) s = s.runU fun u => u.scalarLoad l op f k ecc signed := by
  cases load <;> rfl

/-- The taper once the bytes that a scalar load reads stand in gD. -/
def Taper.scalarLoaded (t : Taper) (f : IFmt) (k : Nat) (signed : Bool) : Taper :=
  let x := leNat (Memory.readAll t.mem (t.addr f) k)
  t.setG f.d (if signed then ofSigned 64 (toSigned (8 * k) x) else x)

section
variable {s : State} {l n op k ecc : Nat} {f : IFmt} {signed : Bool} (due : s.issues l n (encI 3 op f)) (legal : illegalI f .any .any .none = none)
  (aligned : (s.u.taper l).addr f % k = 0) (area : loadArea ((s.u.taper l).addr f) k = true)
include due legal aligned area

/-- A scalar load that is due, legal, aligned and in a readable area comes to what its read finds. -/
theorem scalarLoad_due {v : Units} {o : TOut}
    (read : (s.open l).eccLoad l ecc ((s.u.taper l).addr f) k (.ok ((s.u.taper l).scalarLoaded f k signed)) = (v, o)) :
    s.u.scalarLoad l op f k ecc signed = v.outcome l n (encI 3 op f) o := by
  unfold Units.scalarLoad Units.loadOp
  rw [issueU_due due]
  simp only [legal, accessBad_none aligned area]
  exact congrArg (fun r : Units × TOut => r.1.outcome l n (encI 3 op f) r.2) read

end

/-- Settles O23: a load is `scalarLoad_due`, by what its read of local memory finds. -/
theorem scalarLoadsRead : Obligations.ScalarLoadsRead := by
  intro con op k signed load s l n ecc f due legal aligned area
  have ends {v : Units} {o : TOut}
      (read : (s.open l).eccLoad l ecc ((s.u.taper l).addr f) k (.ok ((s.u.taper l).scalarLoaded f k signed)) = (v, o)) :
      exec (con l f ecc) s = .next (s.after (v.outcome l n (encI 3 op f) o)) :=
    (load.exec_eq l ecc f s).trans (State.runU_of_eq (scalarLoad_due due legal aligned area read))
  refine ⟨fun found => ?clean, fun found => ?corrected, fun found => ?double⟩
  case clean => exact (ends (Units.eccLoad_clean (s.open_taper l) found) :)
  case corrected => exact (ends (Units.eccLoad_corrected (s.open_taper l) found) :)
  case double => exact (ends (Units.eccLoad_double (s.open_taper l) found) :)

end Sys2Proof.Machine
end

section
/-!
PROOFS. Messages between tapers (07 R151 to R154, 09 R220, R229, R230): what sending, receiving and freeing come to, and the statement.
-/
namespace Sys2Proof.Machine

/-! Sending (R152, R154, R229) -/

section
variable {u : Units} {l n ecc : Nat} {t : Taper} {f : RFmt} (serves : (u.lt l).slot = some n)
include serves

theorem Units.sendNow_refused {x : TOut} (bad : sendBad (t.gr f.a) (u.slot n).count (t.gr f.b) = some x) : u.sendNow l ecc t f = (u, x) := by
  simp only [Units.sendNow, serves, bad]

variable (sound : sendBad (t.gr f.a) (u.slot n).count (t.gr f.b) = none)
include sound

theorem Units.sendNow_waits (full : u.backed (bits (t.gr f.a) 23 22) = true) : u.sendNow l ecc t f = (u.draw, .wait .send) := by
  simp only [Units.sendNow, serves, sound, full, if_true]

variable (room : u.backed (bits (t.gr f.a) 23 22) = false)
include room

/-- With room in the network a payload that reads well is sent. -/
theorem Units.sendNow_sends {v : Units}
    (read : u.draw.eccLoad l (if bits (t.gr f.a) 40 32 = 0 then 0 else ecc) (t.gr f.b) (bits (t.gr f.a) 40 32) (.ok t) = (v, .ok t)) :
    u.sendNow l ecc t f = (v.netSend l n t (t.gr f.a) (t.gr f.b), .ok t) := by
  simp only [Units.sendNow, serves, sound, room, Bool.false_eq_true, if_false]
  rw [read]
  rfl

/-- One that does not read well faults. -/
theorem Units.sendNow_faults {v : Units} {d a : Nat}
    (read : u.draw.eccLoad l (if bits (t.gr f.a) 40 32 = 0 then 0 else ecc) (t.gr f.b) (bits (t.gr f.a) 40 32) (.ok t) = (v, .memory d a)) :
    u.sendNow l ecc t f = (v, .memory d a) := by
  simp only [Units.sendNow, serves, sound, room, Bool.false_eq_true, if_false]
  rw [read]
  rfl

end

section
variable {s : State} {l n ecc : Nat} {f : RFmt} (may : s.u.mayIssue l = some n)
  (sound : sendBad ((s.u.taper l).gr f.a) (s.u.slot n).count ((s.u.taper l).gr f.b) = none)
include may sound

theorem open_sendNow_waits (full : (s.open l).backed (bits ((s.u.taper l).gr f.a) 23 22) = true) :
    (s.open l).sendNow l ecc (s.u.taper l) f = ((s.open l).draw, .wait .send) :=
  Units.sendNow_waits (State.open_slot may) (by rwa [State.open_progSlot]) full

variable (room : (s.open l).backed (bits ((s.u.taper l).gr f.a) 23 22) = false)
include room

/-- What the read of the payload finds decides how a MSG.SEND ends that is sound and has room. -/
theorem open_sendNow_found :
    let t := s.u.taper l
    let found := t.eccAt (if bits (t.gr f.a) 40 32 = 0 then 0 else ecc) (t.gr f.b) (bits (t.gr f.a) 40 32)
    (found = 0 → (s.open l).sendNow l ecc t f = ((s.open l).draw.netSend l n t (t.gr f.a) (t.gr f.b), .ok t)) ∧
    (found = 1 → (s.open l).sendNow l ecc t f = (((s.open l).draw.eccFixed l).netSend l n t (t.gr f.a) (t.gr f.b), .ok t)) ∧
    (found = 2 → (s.open l).sendNow l ecc t f = ((s.open l).draw.eccDouble l (t.gr f.b), .memory 3 (t.gr f.b))) := by
  have serves := State.open_slot may
  have own : (s.open l).draw.taper l = s.u.taper l := s.open_taper l
  rw [← s.open_progSlot l n] at sound
  exact ⟨fun found => Units.sendNow_sends serves sound room (Units.eccLoad_clean own found),
    fun found => Units.sendNow_sends serves sound room (Units.eccLoad_corrected own found),
    fun found => Units.sendNow_faults serves sound room (Units.eccLoad_double own found)⟩

end

/-! Receiving and freeing (R153, R230) -/

/-- The taper once slot `k` at the head of the ready ones of VC C is held, and gD has its address. -/
def Taper.received (t : Taper) (f : RFmt) (k : Nat) (r : List Nat) : Taper :=
  (t.setQueue f.c { t.queue f.c with ready := r, held := (t.queue f.c).held ++ [k] }).setG f.d (slotAddr f.c k)

section
variable {t : Taper} {f : RFmt}

theorem recvNow_ready {k : Nat} {r : List Nat} (ready : (t.queue f.c).ready = k :: r) : recvNow t f = .ok (t.received f k r) := by
  simp only [recvNow, Taper.receive, ready, Taper.received]

theorem recvNow_empty (none : (t.queue f.c).ready = []) : recvNow t f = .wait .recv := by
  simp only [recvNow, Taper.receive, none]

/-- MSG.POLL of a legal word: as MSG.RECV, but 0 where that waits. -/
def pollNow (t : Taper) (f : RFmt) : TOut :=
  match t.receive f.c with
  | some x => .ok (x.1.setG f.d x.2)
  | none => .ok (t.setG f.d 0)

theorem pollNow_ready {k : Nat} {r : List Nat} (ready : (t.queue f.c).ready = k :: r) : pollNow t f = .ok (t.received f k r) := by
  simp only [pollNow, Taper.receive, ready, Taper.received]

theorem pollNow_empty (none : (t.queue f.c).ready = []) : pollNow t f = .ok (t.setG f.d 0) := by
  simp only [pollNow, Taper.receive, none]

/-- MSG.FREE of a legal word. -/
def freeNow (t : Taper) (f : RFmt) : TOut :=
  match (t.queue f.c).held with
  | [] => .trap 3 5 0xFF 0
  | _ :: r => .ok (t.setQueue f.c { t.queue f.c with held := r })

theorem freeNow_held {k : Nat} {r : List Nat} (held : (t.queue f.c).held = k :: r) :
    freeNow t f = .ok (t.setQueue f.c { t.queue f.c with held := r }) := by
  simp only [freeNow, held]

theorem freeNow_none (none : (t.queue f.c).held = []) : freeNow t f = .trap 3 5 0xFF 0 := by
  simp only [freeNow, none]

end

/-! The instructions and their resumptions, by what they run -/

section
variable {s : State} {l n ecc : Nat} {f : RFmt} {v : Units} {o : TOut}

theorem exec_opMSG_SEND (due : s.issues l n (encR 8 0 f)) (legal : (s.u.taper l).illegalR f { a := .any, b := .any } = none)
    (sends : (s.open l).sendNow l ecc (s.u.taper l) f = (v, o)) :
    exec (.opMSG_SEND ⟨l, ecc⟩ f) s = .next (s.after (v.outcome l n (encR 8 0 f) o)) :=
  State.runU_of_eq ((issueU_due due _).trans (by rw [legalRU_ok legal, sends]))

theorem exec_msgSendResume (due : s.waits l n .send) (sends : (s.open l).sendNow l ecc (s.u.taper l) (decR (s.u.taper l).word) = (v, o)) :
    exec (.msgSendResume ⟨l, ecc⟩) s = .next (s.after (v.outcome l n (s.u.taper l).word o)) :=
  State.runU_of_eq ((resume_due due _).trans (by rw [sends]))

theorem exec_opMSG_RECV (due : s.issues l n (encR 8 1 f)) (legal : (s.u.taper l).illegalR f { d := .any, c := .imm 1 } = none)
    (receives : recvNow (s.u.taper l) f = o) : exec (.opMSG_RECV l f) s = .next (s.after ((s.open l).outcome l n (encR 8 1 f) o)) :=
  State.runU_of_eq ((issue_due due _).trans (by rw [legalR_ok legal, receives]))

theorem exec_msgRecvResume (due : s.waits l n .recv) (receives : recvNow (s.u.taper l) (decR (s.u.taper l).word) = o) :
    exec (.msgRecvResume l) s = .next (s.after ((s.open l).outcome l n (s.u.taper l).word o)) :=
  State.runU_of_eq ((resume_due due _).trans (by rw [receives]))

theorem exec_opMSG_POLL (due : s.issues l n (encR 8 2 f)) (legal : (s.u.taper l).illegalR f { d := .any, c := .imm 1 } = none)
    (polls : pollNow (s.u.taper l) f = o) : exec (.opMSG_POLL l f) s = .next (s.after ((s.open l).outcome l n (encR 8 2 f) o)) :=
  State.runU_of_eq ((issue_due due _).trans (by rw [legalR_ok legal, ← polls]; rfl))

theorem exec_opMSG_FREE (due : s.issues l n (encR 8 3 f)) (legal : (s.u.taper l).illegalR f { c := .imm 1 } = none)
    (frees : freeNow (s.u.taper l) f = o) : exec (.opMSG_FREE l f) s = .next (s.after ((s.open l).outcome l n (encR 8 3 f) o)) :=
  State.runU_of_eq ((issue_due due _).trans (by rw [legalR_ok legal, ← frees]; rfl))

end

/-- Settles O37: each clause is what its instruction or its resumption runs, by the lemmas above. -/
theorem messageInstructionsExchange : Obligations.MessageInstructionsExchange := by
  refine ⟨fun s l n ecc f => ⟨fun sound room => ⟨?sends, ?sendResumes⟩, fun k r ready => ⟨?receives, ?polls, ?recvResumes⟩, ?pollsNone, ?frees⟩,
    fun s l n ecc f => ⟨fun legal => ⟨?sendFaults, fun sound full => ⟨?sendWaits, ?sendWaitsOn⟩⟩, fun none => ⟨?recvWaits, ?recvWaitsOn⟩, ?freeFaults⟩⟩
  case sends =>
    intro due legal
    obtain ⟨clean, corrected, double⟩ := open_sendNow_found (ecc := ecc) due.1 sound room
    exact ⟨fun found => (exec_opMSG_SEND due legal (clean found) :), fun found => (exec_opMSG_SEND due legal (corrected found) :),
      fun found => (exec_opMSG_SEND due legal (double found) :)⟩
  case sendResumes =>
    rintro due rfl
    obtain ⟨clean, corrected, double⟩ := open_sendNow_found (ecc := ecc) due.1 sound room
    exact ⟨fun found => (exec_msgSendResume due (clean found) :), fun found => (exec_msgSendResume due (corrected found) :),
      fun found => (exec_msgSendResume due (double found) :)⟩
  case receives => exact fun due legal => (exec_opMSG_RECV due legal (recvNow_ready ready) :)
  case polls => exact fun due legal => (exec_opMSG_POLL due legal (pollNow_ready ready) :)
  case recvResumes => rintro due rfl; exact (exec_msgRecvResume due (recvNow_ready ready) :)
  case pollsNone => exact fun due legal none => (exec_opMSG_POLL due legal (pollNow_empty none) :)
  case frees => exact fun k r due legal held => (exec_opMSG_FREE due legal (freeNow_held held) :)
  case sendFaults =>
    exact fun c d k x bad due => (exec_opMSG_SEND due legal (Units.sendNow_refused (State.open_slot due.1) (by rwa [State.open_progSlot])) :)
  case sendWaits => exact fun due => (exec_opMSG_SEND due legal (open_sendNow_waits due.1 sound full) :)
  case sendWaitsOn => rintro due rfl; exact (exec_msgSendResume due (open_sendNow_waits due.1 sound full) :)
  case recvWaits => exact fun due legal => (exec_opMSG_RECV due legal (recvNow_empty none) :)
  case recvWaitsOn => rintro due rfl; exact (exec_msgRecvResume due (recvNow_empty none) :)
  case freeFaults => exact fun due legal none => (exec_opMSG_FREE due legal (freeNow_none none) :)

end Sys2Proof.Machine
end

section
/-!
PROOFS. The grid's diagnostics, message network, stream rows and host window (07 R149 to R160, R171): each branch, and the statement.
-/
namespace Sys2Proof.Machine

/-! GRID_DIAG and GRID_DIAG_COMPLETE (R149, R150, R171) -/

section
variable {u : Units} {c : Cmd} {l : Nat}

section
variable (may : stampPriv c.stamp < 4)
include may

theorem gridDiag_suspects (known : l < 512) (served : (u.lt l).column.isSome = true) (idle : (u.lt l).diagCmd = none) :
    gridDiag c l u = (u.upLt l fun t => { t with diagCmd := some c }).suspectL l :=
  (if_neg (Nat.not_le.2 may)).trans ((if_neg (by simp [Nat.not_le.2 known, Option.isSome_iff_ne_none.1 served])).trans (if_neg (by simp [idle])))

theorem gridDiag_badParam (no : 512 ≤ l ∨ (u.lt l).column = none) : gridDiag c l u = u.done c 0x0E0 0x0506 St.BAD_PARAM :=
  (if_neg (Nat.not_le.2 may)).trans (if_pos (by simpa using no))

theorem gridDiag_busy (known : l < 512) (served : (u.lt l).column.isSome = true) (busy : (u.lt l).diagCmd.isSome = true) :
    gridDiag c l u = u.done c 0x0E0 0x0506 St.BUSY_RETRY :=
  (if_neg (Nat.not_le.2 may)).trans ((if_neg (by simp [Nat.not_le.2 known, Option.isSome_iff_ne_none.1 served])).trans (if_pos busy))

end

/-- The units once the diagnostic of taper `l` has ended. -/
def Units.diagEnded (u : Units) (l : Nat) : Units := u.upLt l fun t => { t with diag := false, diagCmd := none }

/-- The units once the failed router of a taper's partition is recorded. -/
def Units.routerFailed (u : Units) (l : Nat) : Units :=
  (u.upG fun g => { g with routerFail := setBit g.routerFail (l / 64) }).raise Ev.GRID_ROUTER_FAIL 2 (gridSrc l) 0

/-- The command that asked for the diagnostic, if one did, completes. -/
def Units.diagAnswer (u : Units) (asked : Option Cmd) (status : Nat) : Units :=
  match asked with
  | some k => u.done k 0x0E0 0x0506 status
  | none => u

/-- How a diagnostic ends, by whether the taper and its router passed. -/
theorem gridDiagComplete_ends (diag : (u.lt l).diag = true) (pass routerOk : Bool) : gridDiagComplete l pass routerOk u =
    let v := if routerOk then u.diagEnded l else (u.diagEnded l).routerFailed l
    let good := pass && routerOk
    ((if good then v.upLt l fun t => { t with suspect := false, corr := [] } else v.retireTaper l).later (.diagnosed l good)).diagAnswer
      (u.lt l).diagCmd (if good then St.OK else St.INTEGRITY_FINGERPRINT) :=
  if_neg (by simp [diag])

end

/-! MESH_MESSAGE_ARRIVE (R152 to R154) -/

/-- The messages of one source, destination and VC. -/
def NetMsg.goes (src dst vc : Nat) (x : NetMsg) : Bool := x.src = src && x.dst = dst && x.vc = vc

/-- The units once the first of those messages has left the network. -/
def Units.leavesNet (u : Units) (src dst vc : Nat) : Units := u.upG fun g => { g with net := takeNet (NetMsg.goes src dst vc) g.net }

/-- The taper with a message put into the next slot of a receive queue. -/
def Taper.queued (t : Taper) (vc : Nat) (bytes : List Nat) : Taper :=
  let q := t.queue vc
  ({ t with mem := t.mem.writeAll (slotAddr vc q.next) bytes } : Taper).setQueue vc { q with next := (q.next + 1) % 32, ready := q.ready ++ [q.next] }

section
variable {u : Units} {src dst vc : Nat} {x : NetMsg} (first : u.grid.net.find? (NetMsg.goes src dst vc) = some x)
include first

theorem meshMessageArrive_drops (old : (u.slot x.slot).gen ≠ x.gen ∨ (u.lt dst).slot ≠ some x.slot) : meshMessageArrive src dst vc u =
    ((u.leavesNet src dst vc).upSlot x.slot fun p => { p with msgDrop := satW 32 (p.msgDrop + 1) }).count 0xE00110 := by
  delta NetMsg.goes at first
  simp only [meshMessageArrive, first]
  exact if_pos (by simpa using old)

variable (gen : (u.slot x.slot).gen = x.gen) (mine : (u.lt dst).slot = some x.slot) (takes : (u.slot x.slot).state = 3 ∨ (u.slot x.slot).state = 6)
include gen mine takes

/-- A current message for a program that runs or drains. -/
theorem meshMessageArrive_current : meshMessageArrive src dst vc u =
    if 32 ≤ ((u.taper dst).queue vc).used then u else (u.leavesNet src dst vc).setTaper dst ((u.taper dst).queued vc x.bytes) := by
  delta NetMsg.goes at first
  simp only [meshMessageArrive, first]
  exact (if_neg (by simp [gen, mine])).trans (if_neg (by rcases takes with runs | drains <;> simp [*]))

theorem meshMessageArrive_enters (room : ((u.taper dst).queue vc).used < 32) :
    meshMessageArrive src dst vc u = (u.leavesNet src dst vc).setTaper dst ((u.taper dst).queued vc x.bytes) :=
  (meshMessageArrive_current first gen mine takes).trans (if_neg (Nat.not_le.2 room))

theorem meshMessageArrive_stays (full : 32 ≤ ((u.taper dst).queue vc).used) : meshMessageArrive src dst vc u = u :=
  (meshMessageArrive_current first gen mine takes).trans (if_pos full)

end

/-! STREAM_ROW_DONE (R139, R159, R160) -/

/-- The next row of channel `chan` of taper `l`, which serves slot `n` and may use the Mantle: the channel `c`, the units `v` once the row is charged, the
region and generation `b` that it is bound to, its length, and its offsets in the region and in local memory. -/
structure RowDue (u : Units) (l chan n : Nat) (c : Chan) (v : Units) (b : Nat × Nat) (len off loc : Nat) : Prop where
  serves : (u.lt l).slot = some n
  channel : (u.taper l).ch chan = c
  busy : c.state = 1
  gate : u.gate (u.slot n).activity 0 = true
  length : fieldAt c.desc 12 4 = len
  offset : fieldAt c.desc 4 8 + c.rows * fieldAt c.desc 20 4 = off
  place : fieldAt c.desc 24 3 + c.rows * (64 * fieldAt c.desc 28 2) = loc
  bound : (NMap.find (u.taper l).bind (c.desc.getD 0 0)).getD ((u.slot n).bind.getD (c.desc.getD 0 0) (0, 0)) = b
  charged : u.spend (u.slot n).activity 0 len = v

/-- A channel that stops with a status, on poison or not. -/
def Taper.rowStopped (t : Taper) (chan : Nat) (c : Chan) (status : Nat) (poison : Bool) : Taper :=
  t.setCh chan { c with state := 3, status := status, poison := poison }

/-- A channel whose row has moved: done after its last. -/
def Taper.rowMoved (t : Taper) (chan : Nat) (c : Chan) : Taper :=
  t.setCh chan { c with rows := c.rows + 1, state := if c.rows + 1 = fieldAt c.desc 16 4 then 2 else 1, status := St.OK }

/-- The row's bytes through the fingerprint unit, when the channel asks for it. -/
def Taper.rowEaten (t : Taper) (c : Chan) (len : Nat) (bytes : List Nat) : Taper :=
  if c.fp then t.fingEat (elemsOf (2 ^ t.fingWidth) (len / 2 ^ t.fingWidth) bytes) else t

/-- The lines of a row that reads: place in the row and physical address. -/
def Units.rowLines (v : Units) (region off len : Nat) : List (Nat × Nat) :=
  (List.range (len / 64)).map fun i => (64 * i, (v.phys region (off + 64 * i)).getD 0)

/-- The lines that hold no poison, copied into local memory. -/
def Taper.rowCopied (t : Taper) (m : Mem) (v : Units) (loc : Nat) (lines : List (Nat × Nat)) : Taper :=
  lines.foldl (fun (t : Taper) x =>
    if v.poisoned x.2 64 then t else { t with mem := t.mem.writeAll (loc + x.1) (m.bytesAt x.2 64) }) t

section
variable {m : Mem} {u v : Units} {l chan ecc n len off loc : Nat} {c : Chan} {b : Nat × Nat} (row : RowDue u l chan n c v b len off loc)
include row

/-- The charge leaves the tapers as they were. -/
theorem RowDue.taper_eq : v.taper l = u.taper l := row.charged ▸ rfl

theorem streamRowDone_noRegion (gone : NMap.find v.mantle.regions b.1 = none) : streamRowDone l chan ecc m u =
    (m, (v.count 0xA00120).setTaper l (if c.desc.getD 1 0 = 0 then (u.taper l).rowStopped chan c St.INTEGRITY_CRC true
      else (u.taper l).rowStopped chan c St.STALE_GENERATION false)) := by
  simp only [streamRowDone, row.serves, row.channel, row.length, row.offset, row.bound, row.charged, gone]
  exact if_neg (by simp [row.busy, row.gate])

variable {r : Region} {a : Nat} (region : NMap.find v.mantle.regions b.1 = some r) (start : v.phys b.1 off = some a)
  (last : (v.phys b.1 (off + (len - 1))).isSome = true)
include region start last

theorem streamRowDone_reads (reads : c.desc.getD 1 0 = 0) (granted : maskGrants r.mask Ag.grid false = true) : streamRowDone l chan ecc m u =
    let lines := v.rowLines b.1 off len
    let t := (u.taper l).rowCopied m v loc lines
    (m, (v.count 0xA00128 len).setTaper l (if lines.any fun x => v.poisoned x.2 64 then t.rowStopped chan c St.INTEGRITY_CRC true
      else (t.rowEaten c len (Memory.readAll t.mem loc len)).rowMoved chan c)) := by
  obtain ⟨z, last⟩ := Option.isSome_iff_exists.1 last
  simp only [streamRowDone, row.serves, row.channel, row.length, row.offset, row.place, row.bound, row.charged, region, start, last, granted]
  exact (if_neg (by simp [row.busy, row.gate])).trans (if_pos reads)

variable (writes : c.desc.getD 1 0 = 1)
include writes

/-- The end of a row that writes, by the region's access and generation and by what the read of local memory finds. -/
theorem streamRowDone_writes : streamRowDone l chan ecc m u =
    if !(maskGrants r.mask Ag.grid true) then (m, (v.deny Ag.grid a).setTaper l ((u.taper l).rowStopped chan c St.NOT_PRIVILEGED false))
    else if r.gen ≠ b.2 then (m, (v.count 0xA00110).setTaper l ((u.taper l).rowStopped chan c St.STALE_GENERATION false))
    else
      let found := (u.taper l).eccAt ecc loc len
      let w := if found = 1 then v.eccFixed l else if found = 2 then v.eccDouble l loc else v
      let x := Memory.readAll (w.taper l).mem loc len
      if found = 2 then (m, w.setTaper l ((w.taper l).rowStopped chan c St.INTEGRITY_CRC true))
      else (memPutAt m w b.1 off x, (w.cureAt b.1 off x.length).setTaper l (((w.taper l).rowEaten c len x).rowMoved chan c)) := by
  obtain ⟨z, last⟩ := Option.isSome_iff_exists.1 last
  simp only [streamRowDone, row.serves, row.channel, row.length, row.offset, row.place, row.bound, row.charged, region, start, last]
  exact (if_neg (by simp [row.busy, row.gate])).trans (if_neg (by rw [writes]; exact Nat.one_ne_zero))

theorem streamRowDone_refused (refused : maskGrants r.mask Ag.grid true = false) : streamRowDone l chan ecc m u =
    (m, (v.deny Ag.grid a).setTaper l ((u.taper l).rowStopped chan c St.NOT_PRIVILEGED false)) :=
  (streamRowDone_writes row region start last writes).trans (if_pos (by simp [refused]))

variable (granted : maskGrants r.mask Ag.grid true = true)
include granted

theorem streamRowDone_stale (stale : r.gen ≠ b.2) : streamRowDone l chan ecc m u =
    (m, (v.count 0xA00110).setTaper l ((u.taper l).rowStopped chan c St.STALE_GENERATION false)) :=
  (streamRowDone_writes row region start last writes).trans ((if_neg (by simp [granted])).trans (if_pos stale))

variable (current : r.gen = b.2)
include current

theorem streamRowDone_double (found : (u.taper l).eccAt ecc loc len = 2) : streamRowDone l chan ecc m u =
    (m, (v.eccDouble l loc).setTaper l (((v.eccDouble l loc).taper l).rowStopped chan c St.INTEGRITY_CRC true)) := by
  refine (streamRowDone_writes row region start last writes).trans ((if_neg (by simp [granted])).trans ((if_neg (by simp [current])).trans ?_))
  rw [found]
  rfl

theorem streamRowDone_moves (found : (u.taper l).eccAt ecc loc len = 0) : streamRowDone l chan ecc m u =
    let x := Memory.readAll (u.taper l).mem loc len
    (memPutAt m v b.1 off x, (v.cureAt b.1 off x.length).setTaper l (((u.taper l).rowEaten c len x).rowMoved chan c)) := by
  refine (streamRowDone_writes row region start last writes).trans ((if_neg (by simp [granted])).trans ((if_neg (by simp [current])).trans ?_))
  rw [found, ← row.taper_eq]
  rfl

end

/-! TAPER_WINDOW_ACCESS (R158) -/

/-- State of the program that a taper serves; 0 for none. -/
def Units.progState (u : Units) (l : Nat) : Nat :=
  match (u.lt l).slot with
  | some n => (u.slot n).state
  | none => 0

section
variable {u : Units} {w : Who} {l off len : Nat} {bytes : List Nat}

theorem taperWindowAccess_reserved (no : isOperator w.priv = false) (write : Bool) : taperWindowAccess w l off len write bytes u =
    if write then u else u.emit (.data (0x10000000 + 0x80000 * l + off) false (List.replicate len 0)) :=
  if_pos (by simp [no])

variable (op : isOperator w.priv = true) (known : l < 512)
include op known

theorem taperWindowAccess_reads : taperWindowAccess w l off len false bytes u =
    u.emit (.data (0x10000000 + 0x80000 * l + off) false
      ((List.range len).map fun i => if (u.lt l).column = none ∨ 0x60000 ≤ off + i then 0 else ((u.taper l).mem.read (off + i)).toNat)) := by
  refine (if_neg (by simp [op, known])).trans ((if_neg (by simp)).trans ?_)
  simp

theorem taperWindowAccess_writes (still : u.progState l ≠ 3 ∧ u.progState l ≠ 4) (served : (u.lt l).column.isSome = true) :
    taperWindowAccess w l off len true bytes u =
      u.setTaper l { u.taper l with mem := (u.taper l).mem.writeAll off (bytes.take (0x60000 - off)) } := by
  refine (if_neg (by simp [op, known])).trans ((if_pos rfl).trans ((if_neg ?_).trans (if_neg ?_)))
  · change ¬(decide (u.progState l = 3) || decide (u.progState l = 4)) = true
    simp [still]
  · simp [Option.isSome_iff_ne_none.1 served]

theorem taperWindowAccess_discards {n : Nat} (owned : (u.lt l).slot = some n) (busy : (u.slot n).state = 3 ∨ (u.slot n).state = 4) :
    taperWindowAccess w l off len true bytes u = u.upSlot n fun q => { q with msgDrop := satW 32 (q.msgDrop + 1) } := by
  refine (if_neg (by simp [op, known])).trans ((if_pos rfl).trans ?_)
  simp only [owned]
  exact if_pos (by simpa using busy)

end

/-- Settles O15: each clause is one branch of its command, by the lemmas above. -/
theorem gridDiagnosticsMessagesAndStreamsAct : Obligations.GridDiagnosticsMessagesAndStreamsAct := by
  intro s w c l
  refine ⟨fun may => ⟨?suspects, ?badParam, ?busy⟩, fun diag => ⟨?passes, ?fails, ?router⟩,
    fun src vc x first => ⟨fun gen mine takes => ⟨?enters, ?stays⟩, ?drops⟩,
    fun chan ecc n serves busy gate => ?rows, fun off len bytes => ⟨fun op known => ⟨?writes, ?discards, ?reads⟩, fun no => ⟨?writesNot, ?readsNot⟩⟩⟩
  case suspects => exact fun known served idle => State.runU_of_eq (gridDiag_suspects may known served idle)
  case badParam => exact fun no => State.runU_of_eq (gridDiag_badParam may no)
  case busy => exact fun known served busy => State.runU_of_eq (gridDiag_busy may known served busy)
  case passes => exact State.runU_of_eq (gridDiagComplete_ends diag true true)
  case fails => exact State.runU_of_eq (gridDiagComplete_ends diag false true)
  case router =>
    intro pass
    refine State.runU_of_eq ((gridDiagComplete_ends diag pass false).trans ?_)
    rw [Bool.and_false]
    rfl
  case enters => exact fun room => State.runU_of_eq (meshMessageArrive_enters first gen mine takes room)
  case stays => exact fun full => State.runU_of_eq (meshMessageArrive_stays first gen mine takes full)
  case drops => exact fun old => State.runU_of_eq (meshMessageArrive_drops first old)
  case rows =>
    have row : RowDue s.u l chan n _ _ _ _ _ _ := ⟨serves, rfl, busy, gate, rfl, rfl, rfl, rfl, rfl⟩
    refine ⟨fun r region start last => ?_, fun gone => State.run_of_units (streamRowDone_noRegion row gone)⟩
    obtain ⟨a, first⟩ := Option.isSome_iff_exists.1 start
    exact ⟨fun reads granted => State.run_of_units (streamRowDone_reads row region first last reads granted),
      fun writes granted current found => State.run_of_eq (streamRowDone_moves row region first last writes granted current found),
      fun writes granted current found => State.run_of_units (streamRowDone_double row region first last writes granted current found),
      fun writes granted stale => State.run_of_units (streamRowDone_stale row region first last writes granted stale),
      fun a here writes refused => State.run_of_units (streamRowDone_refused row region here last writes refused)⟩
  case writes => exact fun st3 st4 served => State.runU_of_eq (taperWindowAccess_writes op known ⟨st3, st4⟩ served)
  case discards => exact fun n owned busy => State.runU_of_eq (taperWindowAccess_discards op known owned busy)
  case reads => exact State.runU_of_eq (taperWindowAccess_reads op known)
  case writesNot => exact State.runU_of_eq (taperWindowAccess_reserved no true)
  case readsNot => exact State.runU_of_eq (taperWindowAccess_reserved no false)

end Sys2Proof.Machine
end

section
/-!
PROOFS. The scalar integer instructions (08 R182, 09 R216): how an instruction that touches only its taper retires or faults, the 64-bit words that the model's
arithmetic on naturals gives, and the statement.
-/
namespace Sys2Proof.Machine

/-! An instruction that touches only its taper (R216, R222) -/

section
variable {s : State} {l n w : Nat} (due : s.issues l n w)
include due

/-- A due instruction whose outcome is to retire with `t` does so. -/
theorem State.runU_issue_retires {run : Taper → TOut} {t : Taper} (runs : run (s.u.taper l) = .ok t) :
    (s.runU fun u => u.issue l w run) = .next (s.retires l n t) :=
  State.runU_of_eq ((issue_due due run).trans (by rw [runs]; rfl))

/-- One whose outcome is a fault takes it. -/
theorem State.runU_issue_faults {run : Taper → TOut} {cause detail chan addr : Nat} (runs : run (s.u.taper l) = .trap cause detail chan addr) :
    (s.runU fun u => u.issue l w run) = .next (s.after ((s.open l).takeFault l n w cause detail chan addr)) :=
  State.runU_of_eq ((issue_due due run).trans (by rw [runs]; rfl))

/-- A legal Format R instruction retires with what it comes to. -/
theorem State.runU_legalR_retires {f : RFmt} {k : Taper → RUse} {go : Taper → TOut} {t : Taper}
    (legal : (s.u.taper l).illegalR f (k (s.u.taper l)) = none) (goes : go (s.u.taper l) = .ok t) :
    (s.runU fun u => u.issue l w fun t => t.legalR f (k t) (go t)) = .next (s.retires l n t) :=
  State.runU_issue_retires due ((legalR_ok legal).trans goes)

/-- A legal Format I instruction retires with what it comes to. -/
theorem State.runU_legalI_retires {f : IFmt} {d a b : Fld} {go : Taper → TOut} {t : Taper}
    (legal : illegalI f d a b = none) (goes : go (s.u.taper l) = .ok t) :
    (s.runU fun u => u.issue l w fun t => legalI f d a b (go t)) = .next (s.retires l n t) :=
  State.runU_issue_retires due ((legalI_ok legal).trans goes)

end

/-! Words of 64 bits (R182) -/

theorem s64_toNat (x : DWord) : s64 x.toNat = x.toInt := by
  have small := x.isLt
  rw [BitVec.toInt_eq_toNat_cond, s64, toSigned, Nat.mod_eq_of_lt small]
  split <;> split <;> omega

/-- A word is the pattern of its own value. -/
theorem ofNat_toNat_word (x : DWord) : BitVec.ofNat 64 x.toNat = x := (BitVec.ofNat_toNat 64 x).trans x.setWidth_eq

theorem ofNat_u64 (i : Int) : BitVec.ofNat 64 (u64 i) = BitVec.ofInt 64 i := by
  apply BitVec.eq_of_toNat_eq
  simp only [u64, ofSigned, BitVec.toNat_ofNat, BitVec.toNat_ofInt]
  omega

/-- The pattern of a word's own signed value is the word. -/
theorem ofNat_u64_toInt (x : DWord) : BitVec.ofNat 64 (u64 x.toInt) = x := by
  rw [ofNat_u64, BitVec.ofInt_toInt]

theorem ofNat_b2n (b : Bool) : BitVec.ofNat 64 (b2n b) = bit64 b := by
  cases b <;> rfl

theorem ofNat_slt (x y : DWord) : BitVec.ofNat 64 (b2n (decide (s64 x.toNat < s64 y.toNat))) = bit64 (x.slt y) := by
  rw [s64_toNat, s64_toNat]; exact ofNat_b2n _

theorem ofNat_sub_toNat (x y : DWord) : BitVec.ofNat 64 (x.toNat + 2 ^ 64 - y.toNat) = x - y := by
  bv_omega

theorem ofNat_mul_toNat (x y : DWord) : BitVec.ofNat 64 (x.toNat * y.toNat) = x * y :=
  BitVec.eq_of_toNat_eq (by rw [BitVec.toNat_ofNat, BitVec.toNat_mul])

/-- The high half of the 128-bit pattern of an integer is its quotient by 2^64. -/
theorem extractHigh_ofInt (i : Int) : (BitVec.ofInt 128 i).extractLsb' 64 64 = BitVec.ofInt 64 (i / 2 ^ 64) := by
  apply BitVec.eq_of_toNat_eq
  simp only [BitVec.extractLsb'_toNat, BitVec.toNat_ofInt, Nat.shiftRight_eq_div_pow]
  omega

theorem ofNat_mulhs (x y : DWord) : BitVec.ofNat 64 (u64 (s64 x.toNat * s64 y.toNat / ((2 ^ 64 : Nat) : Int))) =
    (x.signExtend 128 * y.signExtend 128).extractLsb' 64 64 := by
  rw [s64_toNat, s64_toNat, ofNat_u64, BitVec.signExtend, BitVec.signExtend, ← BitVec.ofInt_mul, extractHigh_ofInt]
  rfl

theorem ofNat_mulhu (x y : DWord) : BitVec.ofNat 64 (x.toNat * y.toNat / 2 ^ 64) = (x.setWidth 128 * y.setWidth 128).extractLsb' 64 64 := by
  have wide : x.toNat * y.toNat < 2 ^ 64 * 2 ^ 64 := Nat.mul_lt_mul'' x.isLt y.isLt
  have product : (x.setWidth 128 * y.setWidth 128).toNat = x.toNat * y.toNat := by
    rw [BitVec.toNat_mul, BitVec.toNat_setWidth_of_le (by decide), BitVec.toNat_setWidth_of_le (by decide)]
    exact Nat.mod_eq_of_lt wide
  apply BitVec.eq_of_toNat_eq
  rw [BitVec.extractLsb'_toNat, product, Nat.shiftRight_eq_div_pow, BitVec.toNat_ofNat]

theorem toNat_eq_zero_iff (x : DWord) : x.toNat = 0 ↔ x = 0 := by
  bv_omega

theorem ofNat_divS (x y : DWord) : BitVec.ofNat 64 (divS x.toNat y.toNat) = if y = 0 then BitVec.allOnes 64 else x.sdiv y := by
  simp only [divS, toNat_eq_zero_iff]
  split
  · rfl
  · exact BitVec.eq_of_toInt_eq (by rw [s64_toNat, s64_toNat, ofNat_u64, BitVec.toInt_ofInt, BitVec.toInt_sdiv])

theorem ofNat_remS (x y : DWord) : BitVec.ofNat 64 (remS x.toNat y.toNat) = if y = 0 then x else x.srem y := by
  simp only [remS, toNat_eq_zero_iff]
  split
  · exact ofNat_toNat_word x
  · rw [s64_toNat, s64_toNat, ← BitVec.toInt_srem, ofNat_u64_toInt]

theorem ofNat_divU (x y : DWord) : BitVec.ofNat 64 (divU x.toNat y.toNat) = if y = 0 then BitVec.allOnes 64 else x / y := by
  simp only [divU, toNat_eq_zero_iff]
  split
  · rfl
  · exact BitVec.eq_of_toNat_eq (by rw [← BitVec.toNat_udiv, ofNat_toNat_word])

theorem ofNat_remU (x y : DWord) : BitVec.ofNat 64 (remU x.toNat y.toNat) = if y = 0 then x else x % y := by
  simp only [remU, toNat_eq_zero_iff]
  split
  · exact ofNat_toNat_word x
  · rw [← BitVec.toNat_umod, ofNat_toNat_word]

theorem ofNat_shiftLeft (x : DWord) (k : Nat) : BitVec.ofNat 64 (x.toNat * 2 ^ k) = x <<< k :=
  BitVec.eq_of_toNat_eq (by rw [BitVec.toNat_ofNat, BitVec.toNat_shiftLeft, Nat.shiftLeft_eq])

theorem ofNat_shiftRight (x : DWord) (k : Nat) : BitVec.ofNat 64 (x.toNat / 2 ^ k) = x >>> k := by
  rw [← Nat.shiftRight_eq_div_pow, ← BitVec.toNat_ushiftRight, ofNat_toNat_word]

theorem ofNat_shiftRA (x : DWord) (k : Nat) : BitVec.ofNat 64 (shiftRA x.toNat k) = x.sshiftRight k := by
  rw [shiftRA, s64_toNat, ofNat_u64, BitVec.sshiftRight, Int.shiftRight_eq_div_pow]

/-! The immediate (09, Table 9-5) -/

theorem ofNat_imm64 (f : IFmt) : BitVec.ofNat 64 (imm64 f) = immX f := by
  have signed : immVal f = (BitVec.ofNat 32 f.imm).toInt := by
    rw [BitVec.toInt_eq_toNat_cond, BitVec.toNat_ofNat, immVal, toSigned]
    split <;> split <;> omega
  exact (ofNat_u64 _).trans (by rw [signed]; rfl)

theorem toNat_immX (f : IFmt) : (immX f).toNat = imm64 f := by
  have small : imm64 f < 2 ^ 64 := by unfold imm64 ofSigned; omega
  rw [← ofNat_imm64, BitVec.toNat_ofNat, Nat.mod_eq_of_lt small]

/-- The immediate's low 32 bits are the field's. -/
theorem toNat_immX_mod (f : IFmt) : (immX f).toNat % 2 ^ 32 = f.imm % 2 ^ 32 := by
  rw [toNat_immX, imm64, ofSigned, immVal, toSigned]
  split <;> omega

/-- A shift by an immediate takes the field's low 6 bits. -/
theorem toNat_immX_mod_64 (f : IFmt) : (immX f).toNat % 64 = f.imm % 64 := by
  have low := toNat_immX_mod f
  omega

theorem ofNat_movhi (x : DWord) (f : IFmt) :
    BitVec.ofNat 64 (x.toNat % 2 ^ 32 + f.imm % 2 ^ 32 * 2 ^ 32) = (immX f <<< 32) ||| (x &&& 0xFFFFFFFF#64) := by
  have high : (immX f <<< 32).toNat = (f.imm % 2 ^ 32) <<< 32 := by
    rw [← toNat_immX_mod, BitVec.toNat_shiftLeft, Nat.shiftLeft_eq, Nat.shiftLeft_eq]; omega
  have low : (x &&& 0xFFFFFFFF#64).toNat = x.toNat % 2 ^ 32 := by
    rw [BitVec.toNat_and]; exact Nat.and_two_pow_sub_one_eq_mod x.toNat 32
  apply BitVec.eq_of_toNat_eq
  rw [BitVec.toNat_or, high, low, ← Nat.shiftLeft_add_eq_or_of_lt (Nat.mod_lt _ (by decide)), BitVec.toNat_ofNat, Nat.shiftLeft_eq]
  omega

/-! The instructions, by the functions on naturals that they run -/

/-- A register written with the value of a function on naturals holds the word it gives. -/
theorem setG_of_word {t : Taper} {r x : Nat} {v : DWord} (word : BitVec.ofNat 64 x = v) : t.setG r x = t.setX r v := by
  rw [setG_eq, word]

/-- `g` on naturals gives the words of `fn`. -/
def ComputesWord (g : Nat → Nat → Nat) (fn : DWord → DWord → DWord) : Prop := ∀ x y : DWord, BitVec.ofNat 64 (g x.toNat y.toNat) = fn x y

theorem ComputesWord.on_registers {g fn} (computes : ComputesWord g fn) (t : Taper) (a b : Nat) :
    BitVec.ofNat 64 (g (t.gr a) (t.gr b)) = fn (t.x a) (t.x b) := by
  rw [← x_toNat, ← x_toNat, computes]

theorem ScalarOp.exists_exec_eq {con op fn} (is : ScalarOp con op fn) :
    ∃ g, (∀ l f s, exec (con l f) s = s.runU fun u => u.scalarR l op f g) ∧ ComputesWord g fn := by
  cases is with
  | add' => exact ⟨_, fun _ _ _ => rfl, fun x y => (BitVec.add_def x y).symm⟩
  | sub' => exact ⟨_, fun _ _ _ => rfl, ofNat_sub_toNat⟩
  | mul => exact ⟨_, fun _ _ _ => rfl, ofNat_mul_toNat⟩
  | mulhs => exact ⟨_, fun _ _ _ => rfl, ofNat_mulhs⟩
  | mulhu => exact ⟨_, fun _ _ _ => rfl, ofNat_mulhu⟩
  | and' => exact ⟨_, fun _ _ _ => rfl, fun x y => ofNat_toNat_word (x &&& y)⟩
  | or' => exact ⟨_, fun _ _ _ => rfl, fun x y => ofNat_toNat_word (x ||| y)⟩
  | xor' => exact ⟨_, fun _ _ _ => rfl, fun x y => ofNat_toNat_word (x ^^^ y)⟩
  | shl => exact ⟨_, fun _ _ _ => rfl, fun x y => ofNat_shiftLeft x (y.toNat % 64)⟩
  | shrl => exact ⟨_, fun _ _ _ => rfl, fun x y => ofNat_shiftRight x (y.toNat % 64)⟩
  | shra => exact ⟨_, fun _ _ _ => rfl, fun x y => ofNat_shiftRA x (y.toNat % 64)⟩
  | slt => exact ⟨_, fun _ _ _ => rfl, ofNat_slt⟩
  | sltu => exact ⟨_, fun _ _ _ => rfl, fun _ _ => ofNat_b2n _⟩

theorem DivisionOp.exists_exec_eq {con op fn} (is : DivisionOp con op fn) :
    ∃ g, (∀ l f s, exec (con l f) s = s.runU fun u => u.scalarDiv l op f g) ∧ ComputesWord g fn := by
  cases is with
  | divs => exact ⟨_, fun _ _ _ => rfl, ofNat_divS⟩
  | divu => exact ⟨_, fun _ _ _ => rfl, ofNat_divU⟩
  | rems => exact ⟨_, fun _ _ _ => rfl, ofNat_remS⟩
  | remu => exact ⟨_, fun _ _ _ => rfl, ofNat_remU⟩

theorem ImmediateOp.exists_exec_eq {con op fn} (is : ImmediateOp con op fn) (f : IFmt) :
    ∃ g, (∀ l s, exec (con l f) s = s.runU fun u => u.scalarI l op f g) ∧ ∀ x : DWord, BitVec.ofNat 64 (g x.toNat) = fn x (immX f) := by
  cases is with
  | addi => exact ⟨_, fun _ _ => rfl, fun x => by rw [← toNat_immX]; exact (BitVec.add_def x (immX f)).symm⟩
  | andi => exact ⟨_, fun _ _ => rfl, fun x => by rw [← toNat_immX]; exact ofNat_toNat_word (x &&& immX f)⟩
  | ori => exact ⟨_, fun _ _ => rfl, fun x => by rw [← toNat_immX]; exact ofNat_toNat_word (x ||| immX f)⟩
  | xori => exact ⟨_, fun _ _ => rfl, fun x => by rw [← toNat_immX]; exact ofNat_toNat_word (x ^^^ immX f)⟩
  | shli => exact ⟨_, fun _ _ => rfl, fun x => by rw [← toNat_immX_mod_64]; exact ofNat_shiftLeft x _⟩
  | shrli => exact ⟨_, fun _ _ => rfl, fun x => by rw [← toNat_immX_mod_64]; exact ofNat_shiftRight x _⟩
  | shrai => exact ⟨_, fun _ _ => rfl, fun x => by rw [← toNat_immX_mod_64]; exact ofNat_shiftRA x _⟩
  | movhi => exact ⟨_, fun _ _ => rfl, fun x => ofNat_movhi x f⟩

/-- A division raises DZ for a zero divisor alone. -/
theorem flIf_zero_divisor (t : Taper) (b : Nat) : flIf (t.gr b = 0) flDZ = if t.x b = 0 then flDZ else 0 := by
  simp only [flIf, decide_eq_true_eq, ← x_toNat, toNat_eq_zero_iff]

/-- Settles O22: an instruction runs a function on naturals, which gives the words of R182. -/
theorem scalarInstructionsCompute : Obligations.ScalarInstructionsCompute := by
  refine ⟨?onRegisters, ?divisions, fun s l n f => ⟨?onImmediates, ?movi⟩⟩
  case onRegisters =>
    intro con op fn is s l n f due legal
    obtain ⟨g, runs, computes⟩ := is.exists_exec_eq
    rw [runs, ← setG_of_word (computes.on_registers _ f.a f.b)]
    exact State.runU_legalR_retires due legal rfl
  case divisions =>
    intro con op fn is s l n f due legal
    obtain ⟨g, runs, computes⟩ := is.exists_exec_eq
    rw [runs, ← setG_of_word (computes.on_registers _ f.a f.b), ← flIf_zero_divisor]
    exact State.runU_legalR_retires due legal rfl
  case onImmediates =>
    intro con op fn is due legal
    obtain ⟨g, runs, computes⟩ := is.exists_exec_eq f
    rw [runs, ← setG_of_word (computes ((s.u.taper l).x f.a)), x_toNat]
    exact State.runU_legalI_retires due legal rfl
  case movi =>
    intro due legal
    rw [← setG_of_word (ofNat_imm64 f)]
    exact State.runU_legalI_retires due legal rfl

end Sys2Proof.Machine
end

section
/-!
PROOFS. The scalar floating instructions (08 R182, R208, 09 R226): the contract of reference mode, and the statement.
-/
namespace Sys2Proof.Machine

/-! The contract (R208) -/

theorem Taper.contract_outside {t : Taper} {detail : Nat} {go : TOut} (off : t.refMode = false) : t.contract detail go = go :=
  if_neg (by simp [off])

theorem Taper.contract_reference {t : Taper} {detail : Nat} {go : TOut} (on : t.refMode = true) : t.contract detail go = .trap 4 detail 0xFF 0 :=
  if_pos on

/-- An instruction that lies outside the contract when `no` holds runs as it is where reference mode does not forbid it. -/
theorem Taper.contract_allows {t : Taper} {detail : Nat} {go : TOut} {no : Bool} (allowed : no = true → t.refMode = false) :
    (if no then t.contract detail go else go) = go := by
  split
  next outside => exact Taper.contract_outside (allowed outside)
  next => rfl

/-- Each scalar floating instruction is the shared operation with its result and flags. -/
theorem ScalarFloatOp.exec_eq {con op k no fn} (is : ScalarFloatOp con op k no fn) (l : Nat) (f : RFmt) (s : State) :
    exec (con l f) s = s.runU fun u => u.sfOp l op f k no (fn f) := by
  cases is <;> rfl

/-- Where the contract allows it, the shared operation retires with its result in gD and its flags raised. -/
theorem State.runU_sfOp_retires {s : State} {l n op x flags : Nat} {f : RFmt} {k : RUse} {no : Bool} {fn : Taper → ACtx → Nat × Nat}
    (due : s.issues l n (encR 2 op f)) (legal : (s.u.taper l).illegalR f k = none) (allowed : no = true → (s.u.taper l).refMode = false)
    (result : fn (s.u.taper l) ((s.u.taper l).actx f 0) = (x, flags)) :
    (s.runU fun u => u.sfOp l op f k no fn) = .next (s.retires l n (((s.u.taper l).setG f.d x).raise flags)) :=
  State.runU_legalR_retires due legal ((Taper.contract_allows allowed).trans (by rw [result]))

/-- Settles O30: an instruction is the shared operation, which retires with the result and the flags where the contract allows it. -/
theorem scalarFloatingInstructionsCompute : Obligations.ScalarFloatingInstructionsCompute := by
  refine fun s l n f => ⟨?operations, ?converts, ?toInteger⟩
  case operations =>
    intro con op k no fn is due legal allowed
    rw [is.exec_eq]
    exact State.runU_sfOp_retires due legal allowed rfl
  case converts => exact fun due legal => State.runU_legalR_retires due legal rfl
  case toInteger => exact fun due legal => State.runU_sfOp_retires due legal nofun rfl

end Sys2Proof.Machine
end

section
/-!
PROOFS. The vector floating and vector integer instructions (08 R175, 09 R224, R226, R227): the lanes that a VFCVT between formats converts, and the statements.
-/
namespace Sys2Proof.Machine

/-! What a legal instruction's fields hold (R222, R223) -/

theorem leastDetail_concat_none (l : List (Option Nat)) (x : Option Nat) : leastDetail (l ++ [x]) = none ↔ leastDetail l = none ∧ x = none := by
  unfold leastDetail
  rw [List.foldl_append]
  generalize List.foldl _ none l = least
  cases least <;> cases x <;> simp

/-- Where the least fault detail is none, no check found one. -/
theorem leastDetail_none {l : List (Option Nat)} (least : leastDetail l = none) : ∀ x ∈ l, x = none := by
  have reversed : ∀ r : List (Option Nat), leastDetail r.reverse = none → ∀ x ∈ r, x = none := by
    intro r
    induction r with
    | nil => exact fun _ x listed => nomatch listed
    | cons y r ih =>
      intro least
      rw [List.reverse_cons, leastDetail_concat_none] at least
      obtain ⟨rest, first⟩ := least
      exact fun x listed => (List.mem_cons.1 listed).elim (fun here => here.trans first) (ih rest x)
  exact fun x listed => reversed l.reverse (l.reverse_reverse.symm ▸ least) x (List.mem_reverse.2 listed)

theorem Taper.illegalR_none_b {t : Taper} {f : RFmt} {k : RUse} (legal : t.illegalR f k = none) : k.b.bad f.b = none :=
  leastDetail_none legal _ (by simp)

theorem Fld.imm_bad_none {n x : Nat} (legal : (Fld.imm n).bad x = Option.none) : x ≤ n := by
  by_cases within : x ≤ n
  · exact within
  · have bad : (Fld.imm n).bad x = some 0 := if_neg within
    exact nomatch bad.symm.trans legal

/-! Conversion between lane widths (R226) -/

/-- A vector register's lanes written, and the flags of all of them raised. -/
def Taper.putLanes (t : Taper) (r w : Nat) (rs : List (Nat × Nat)) : Taper :=
  (t.setV r (ofLanes w (rs.map (·.1)))).raise ((rs.map (·.2)).foldl (· ||| ·) 0)

/-- With `ls` source lanes and `ld` destination lanes, destination lane `j` of part `q`: `one` of a source lane and of the element's number where such a lane
is meant and active, else `old`. To narrower or as many lanes part `q` is a stretch of the source, to more lanes a stretch of the destination. -/
theorem convertedLane_eq {α : Type} {ls ld q j : Nat} (part : q ≤ max ls ld / max (min ls ld) 1 - 1) (inRange : j < ld) (active : Nat → Bool)
    (one : Nat → Nat → α) (old : α) :
    (let k := if ls < ld then j - q * ls else j
     if (decide (ls ≥ ld) || (decide (q * ls ≤ j) && decide (j < q * ls + ls))) && active k then one (if ld < ls then q * ld + k else k) k else old) =
    if ld < ls then (if active j then one (q * ld + j) j else old)
    else if q * ls ≤ j ∧ j < q * ls + ls ∧ active (j - q * ls) then one (j - q * ls) (j - q * ls) else old := by
  rcases Nat.lt_trichotomy ls ld with more | same | fewer
  · simp [more, Nat.not_lt.2 (Nat.le_of_lt more), Nat.not_le.2 more, and_assoc]
  · subst same
    have whole : q = 0 := by
      rw [Nat.max_self, Nat.min_self, Nat.max_eq_left (by omega), Nat.div_self (by omega)] at part
      omega
    simp [whole, inRange]
  · simp [fewer, Nat.le_of_lt fewer, Nat.not_lt.2 (Nat.le_of_lt fewer)]

/-! The shared operations -/

/-- Each vector floating instruction is the shared operation with its lane result and flags. -/
theorem VectorFloatOp.exec_eq {con op k no fn} (is : VectorFloatOp con op k no fn) (l : Nat) (f : RFmt) (s : State) :
    exec (con l f) s = s.runU fun u => u.vfOp l op f (k f) no (fn f) := by
  cases is <;> rfl

/-- Each vector integer instruction is the shared operation with its lane result. -/
theorem VectorIntOp.exec_eq {con op fn} (is : VectorIntOp con op fn) (l : Nat) (f : RFmt) (s : State) :
    exec (con l f) s = s.runU fun u => u.viOp l op f fun _ => fn f := by
  cases is <;> rfl

/-- Settles O31: the operations lane by lane, and each conversion. -/
theorem vectorFloatingInstructionsCompute : Obligations.VectorFloatingInstructionsCompute := by
  refine fun s l n f => ⟨?operations, ?compares, ?converts, ?packs, ?unpacks⟩
  case operations =>
    intro con op k no fn is due legal allowed
    rw [is.exec_eq]
    exact State.runU_legalR_retires due legal (Taper.contract_allows allowed)
  case compares => exact fun due legal => State.runU_legalR_retires due legal rfl
  case converts =>
    intro ls ld due legal one rs
    have part := Fld.imm_bad_none (Taper.illegalR_none_b legal)
    refine State.runU_legalR_retires due legal
      (congrArg (fun rs => TOut.ok ((s.u.taper l).putLanes f.d (fmtBits f.fmt2) rs)) (List.map_congr_left fun j inRange => ?_))
    exact convertedLane_eq part (List.mem_range.1 inRange) _ one _
  case packs => exact fun due legal => State.runU_legalR_retires due legal rfl
  case unpacks =>
    intro due legal old rs flags vs
    refine ⟨fun half => State.runU_legalR_retires due legal (congrArg (fun t : Taper => TOut.ok (t.raise flags)) ?_),
      fun single => State.runU_legalR_retires due legal (congrArg (fun t : Taper => TOut.ok (t.raise flags)) ?_)⟩
    · have width : fmtBits f.fmt2 = 16 := by rw [half]; rfl
      exact (if_neg (by simp [half])).trans (by rw [width])
    · have width : fmtBits f.fmt2 = 32 := by rw [single]; rfl
      exact (if_pos single).trans (by rw [width])

/-- Settles O32: the operations lane by lane, and each of the others. -/
theorem vectorIntegerInstructionsCompute : Obligations.VectorIntegerInstructionsCompute := by
  refine fun s l n f => ⟨?operations, ?compares, ?selects, ?permutes⟩
  case operations =>
    intro con op fn is due legal
    rw [is.exec_eq]
    exact State.runU_legalR_retires due legal rfl
  case compares => exact fun due legal => State.runU_legalR_retires due legal rfl
  case selects => exact fun due legal predicated => State.runU_legalR_retires due legal (if_neg (by simp [predicated]))
  case permutes => exact fun due legal => State.runU_legalR_retires due legal rfl

end Sys2Proof.Machine
end

section
/-!
PROOFS. The tile instructions (08 R189 to R192, R208, 09 R228) and the long accumulators (08 R193 to R196, 09 R225): what each comes to in and outside reference
mode, what an access of an accumulator's 96 bytes comes to, and the statements.
-/
namespace Sys2Proof.Machine

/-! Instructions outside the contract (R208) -/

section
variable {s : State} {l n w : Nat} {f : RFmt} {k : RUse} {go : Taper → TOut} (due : s.issues l n w)
  (legal : (s.u.taper l).illegalR f k = none)
include due legal

/-- Outside reference mode a legal tile instruction retires with what it comes to. -/
theorem State.runU_tile_retires {t : Taper} (off : (s.u.taper l).refMode = false) (goes : go (s.u.taper l) = .ok t) :
    (s.runU fun u => u.issue l w fun t => t.legalR f k (t.contract 1 (go t))) = .next (s.retires l n t) :=
  State.runU_legalR_retires due legal ((Taper.contract_outside off).trans goes)

/-- In reference mode it faults. -/
theorem State.runU_tile_faults (on : (s.u.taper l).refMode = true) :
    (s.runU fun u => u.issue l w fun t => t.legalR f k (t.contract 1 (go t))) =
      .next (s.after ((s.open l).takeFault l n w 4 1 0xFF 0)) :=
  State.runU_issue_faults due ((legalR_ok legal).trans (Taper.contract_reference on))

end

/-- Settles O34: outside reference mode an instruction retires with what it comes to, and in it each faults. -/
theorem tileInstructionsCompute : Obligations.TileInstructionsCompute := by
  refine fun s l n f => ⟨fun off => ⟨?zeroes, ?toTile, ?toVector, ?multiplies, ?sparse⟩,
    fun on => ⟨?zeroFaults, ?mulFaults, ?sparseFaults, ?toTileFaults, ?toVectorFaults⟩⟩
  case zeroes => exact fun due legal => State.runU_tile_retires due legal off rfl
  case toTile => exact fun due legal => State.runU_tile_retires due legal off rfl
  case toVector => exact fun due legal => State.runU_tile_retires due legal off rfl
  case multiplies => exact fun due legal => State.runU_tile_retires due legal off rfl
  case sparse => exact fun due legal => State.runU_tile_retires due legal off rfl
  case zeroFaults => exact fun due legal => State.runU_tile_faults due legal on
  case mulFaults => exact fun due legal => State.runU_tile_faults due legal on
  case sparseFaults => exact fun due legal => State.runU_tile_faults due legal on
  case toTileFaults => exact fun due legal => State.runU_tile_faults due legal on
  case toVectorFaults => exact fun due legal => State.runU_tile_faults due legal on

/-! Accesses of local memory (R225) -/

/-- An access that is not aligned has detail 0; an aligned one outside the areas detail 1. -/
theorem accessBad_misplaced {ok : Nat → Nat → Bool} {a k align d : Nat}
    (misplaced : a % align ≠ 0 ∧ d = 0 ∨ a % align = 0 ∧ ok a k = false ∧ d = 1) :
    accessBad ok a k align = some (.memory d a) := by
  unfold accessBad
  rcases misplaced with ⟨skewed, rfl⟩ | ⟨aligned, outside, rfl⟩
  · exact if_pos skewed
  · exact (if_neg (not_not_intro aligned)).trans (if_pos (by simp [outside]))

section
variable {s : State} {l n cls op k align ecc : Nat} {f : IFmt} {d : Fld} {put : Taper → List Nat → Taper} (due : s.issues l n (encI cls op f))
  (legal : illegalI f d .any .none = none)
include due legal

/-- A due and legal load of an aligned place in a readable area comes to what its read finds. -/
theorem loadOp_reads {v : Units} {o : TOut} (aligned : (s.u.taper l).addr f % align = 0) (area : loadArea ((s.u.taper l).addr f) k = true)
    (read : (s.open l).eccLoad l ecc ((s.u.taper l).addr f) k (.ok (put (s.u.taper l) (Memory.readAll (s.u.taper l).mem ((s.u.taper l).addr f) k))) = (v, o)) :
    s.u.loadOp l cls op f d k align ecc put = v.outcome l n (encI cls op f) o := by
  unfold Units.loadOp
  rw [issueU_due due]
  simp only [legal, accessBad_none aligned area, read]

/-- One of a misplaced address faults there. -/
theorem loadOp_misplaced {x : Nat} (bad : accessBad loadArea ((s.u.taper l).addr f) k align = some (.memory x ((s.u.taper l).addr f))) :
    s.u.loadOp l cls op f d k align ecc put = (s.open l).takeFault l n (encI cls op f) 2 x 0xFF ((s.u.taper l).addr f) := by
  unfold Units.loadOp
  rw [issueU_due due]
  simp only [legal, bad]
  rfl

end

/-- LACC.IMP of an aligned place in a readable area ends by what its read finds. -/
theorem exec_opLACC_IMP {s : State} {l n ecc : Nat} {f : IFmt} {v : Units} {o : TOut} (due : s.issues l n (encI 7 7 f))
    (legal : illegalI f (.file 4) .any .none = none) (aligned : (s.u.taper l).addr f % 32 = 0) (area : loadArea ((s.u.taper l).addr f) 96 = true)
    (read : (s.open l).eccLoad l ecc ((s.u.taper l).addr f) 96
      (.ok ((s.u.taper l).setA f.d (LAcc.ofBytes (Memory.readAll (s.u.taper l).mem ((s.u.taper l).addr f) 96)))) = (v, o)) :
    exec (.opLACC_IMP l f ecc) s = .next (s.after (v.outcome l n (encI 7 7 f) o)) :=
  State.runU_of_eq (loadOp_reads due legal aligned area read)

/-- Settles O35: the instructions on registers retire with what they come to, and an access of 96 bytes by where it lies and what its read finds. -/
theorem longAccumulatorInstructionsCompute : Obligations.LongAccumulatorInstructionsCompute := by
  refine ⟨fun s l n => ⟨fun f => ⟨?clears, ?adds, ?multiplies, ?accumulates, ?rounds, ?reports⟩, fun f aligned legal => ⟨?exports, ?imports⟩⟩,
    fun s l n f legal => ⟨?exportFaults, fun due => ⟨?importMisplaced, fun ecc aligned area => ⟨?importCorrected, ?importDouble⟩⟩⟩⟩
  case clears => exact fun due legal => State.runU_legalR_retires due legal rfl
  case adds => exact fun due legal => State.runU_legalR_retires due legal rfl
  case multiplies => exact fun due legal => State.runU_legalR_retires due legal rfl
  case accumulates => exact fun due legal => State.runU_legalR_retires due legal rfl
  case rounds => exact fun due legal => State.runU_legalR_retires due legal rfl
  case reports => exact fun due legal => State.runU_legalR_retires due legal rfl
  case exports =>
    exact fun due area => State.runU_legalI_retires due legal (by simp only [accessBad_none aligned area])
  case imports =>
    exact fun ecc due area found => (exec_opLACC_IMP due legal aligned area (Units.eccLoad_clean (s.open_taper l) found) :)
  case exportFaults =>
    exact fun due d misplaced => State.runU_issue_faults due ((legalI_ok legal).trans (by simp only [accessBad_misplaced misplaced]; rfl))
  case importMisplaced =>
    exact fun ecc d misplaced => State.runU_of_eq (loadOp_misplaced due legal (accessBad_misplaced misplaced))
  case importCorrected =>
    exact fun found => (exec_opLACC_IMP due legal aligned area (Units.eccLoad_corrected (s.open_taper l) found) :)
  case importDouble =>
    exact fun found => (exec_opLACC_IMP due legal aligned area (Units.eccLoad_double (s.open_taper l) found) :)

end Sys2Proof.Machine
end

section
/-!
PROOFS. The field and random instructions (08 R196, R198, R205, 09 R233): powers modulo 2^61 - 1, and the statement.
-/
namespace Sys2Proof.Machine

/-! Arithmetic modulo 2^61 - 1 (R200, R233) -/

/-- A power by squaring: the square's power by half the exponent, and once more the base where the exponent is odd. -/
theorem pow_eq_half (b n : Nat) : b ^ n = (b * b) ^ (n / 2) * b ^ (n % 2) := by
  rw [← Nat.pow_two, ← Nat.pow_mul, ← Nat.pow_add, Nat.div_add_mod]

/-- The power by squaring is the power, for an exponent that the bits counted hold. -/
theorem powModP_mod (fuel : Nat) : ∀ (b n : Nat), n < 2 ^ fuel → powModP fuel b n % fpP = b ^ n % fpP := by
  induction fuel with
  | zero =>
    intro b n small
    rw [Nat.lt_one_iff.1 small]
    rfl
  | succ fuel ih =>
    intro b n small
    have half : powModP fuel (b * b % fpP) (n / 2) % fpP = (b * b) ^ (n / 2) % fpP :=
      (ih _ _ (by omega)).trans (Nat.pow_mod ..).symm
    unfold powModP
    split
    next zero => rw [zero]; rfl
    next nonzero =>
      rw [pow_eq_half b n]
      simp only
      split
      next odd => rw [odd, Nat.pow_one, Nat.mod_mod, Nat.mul_mod, half, ← Nat.mul_mod]
      next even => rw [half, Nat.mod_two_ne_one.1 even, Nat.pow_zero, Nat.mul_one]

theorem fpPow_mod (x y : Nat) (small : y < fpP) : fpPow x y % fpP = x ^ y % fpP :=
  powModP_mod 80 x y (Nat.lt_trans small (by decide))

/-- Each field instruction is the shared operation of a function that agrees with its own on reduced operands. -/
theorem FieldOp.exists_exec_eq {con op fn} (is : FieldOp con op fn) :
    ∃ g, (∀ l f s, exec (con l f) s = s.runU fun u => u.fingOp l op f g) ∧ ∀ x y, y < fpP → g x y % fpP = fn x y % fpP := by
  cases is with
  | fing_addm => exact ⟨_, fun _ _ _ => rfl, fun _ _ _ => rfl⟩
  | fing_subm => exact ⟨_, fun _ _ _ => rfl, fun _ _ _ => rfl⟩
  | fing_mulm => exact ⟨_, fun _ _ _ => rfl, fun _ _ _ => rfl⟩
  | fing_powm => exact ⟨_, fun _ _ _ => rfl, fpPow_mod⟩

/-- Settles O36: a field instruction agrees with its function on reduced operands, and the others retire with what they come to. -/
theorem fingerprintAndRandomInstructionsCompute : Obligations.FingerprintAndRandomInstructionsCompute := by
  refine fun s l n f => ⟨?field, ?feeds, ?raw, ?philox⟩
  case field =>
    intro con op fn is due legal
    obtain ⟨g, runs, agrees⟩ := is.exists_exec_eq
    have same : g ((s.u.taper l).gr f.a % fpP) ((s.u.taper l).gr f.b % fpP) % fpP = _ := agrees _ _ (Nat.mod_lt _ (by decide))
    rw [runs, ← same]
    exact State.runU_legalR_retires due legal rfl
  case feeds => exact fun due legal free => State.runU_legalR_retires due legal (if_neg (by simp [free]))
  case raw => exact fun due legal => State.runU_legalR_retires due legal rfl
  case philox => exact fun due legal => State.runU_legalR_retires due legal rfl

end Sys2Proof.Machine
end

section
/-!
PROOFS. Accesses of local memory (07 R157, 09 R225, R235): what a due load or store comes to by where its address lies, and the statements.
-/
namespace Sys2Proof.Machine

/-! Bytes that a store leaves as they were -/

theorem Memory.read_write_ne (m : Memory) {k a : Nat} (v : Byte) (away : a ≠ k) : (m.write k v).read a = m.read a := by
  unfold Memory.write
  split
  · exact Memory.read_erase_ne m away
  · exact Memory.read_insert_ne m v away

theorem length_leBytes (k : Nat) : ∀ x : Nat, (leBytes k x).length = k := by
  induction k with
  | zero => exact fun _ => rfl
  | succ k ih => exact fun x => congrArg (· + 1) (ih _)

theorem Memory.read_writeAll_outside {a : Nat} (l : List Nat) : ∀ (m : Memory) (k : Nat), a < k ∨ k + l.length ≤ a → (m.writeAll k l).read a = m.read a := by
  induction l with
  | nil => exact fun _ _ _ => rfl
  | cons b r ih =>
    intro m k outside
    rw [List.length_cons] at outside
    exact (ih _ (k + 1) (by omega)).trans (Memory.read_write_ne m _ (by omega))

/-! Format I instructions that fault (R216, R222) -/

/-- A legal Format I instruction takes the fault that it comes to. -/
theorem State.runU_legalI_faults {s : State} {l n w cause detail chan addr : Nat} {f : IFmt} {d a b : Fld} {go : Taper → TOut} (due : s.issues l n w)
    (legal : illegalI f d a b = none) (goes : go (s.u.taper l) = .trap cause detail chan addr) :
    (s.runU fun u => u.issue l w fun t => legalI f d a b (go t)) = .next (s.after ((s.open l).takeFault l n w cause detail chan addr)) :=
  State.runU_issue_faults due ((legalI_ok legal).trans goes)

/-! Loads and stores by where their address lies -/

section
variable {s : State} {l n cls op k align ecc : Nat} {f : IFmt} {d : Fld} (due : s.issues l n (encI cls op f))
include due

/-- A due and legal load of an aligned place in a readable area: its three ends, by what its read finds. -/
theorem State.runU_loadOp_found {put : Taper → List Nat → Taper} (legal : illegalI f d .any .none = none)
    (aligned : (s.u.taper l).addr f % align = 0) (area : loadArea ((s.u.taper l).addr f) k = true) :
    let t := s.u.taper l
    let a := t.addr f
    let t' := put t (Memory.readAll t.mem a k)
    let loads := s.runU fun u => u.loadOp l cls op f d k align ecc put
    (t.eccAt ecc a k = 0 → loads = .next (s.retires l n t')) ∧
    (t.eccAt ecc a k = 1 → loads = .next (s.after (((s.open l).eccFixed l).retire l n t' none))) ∧
    (t.eccAt ecc a k = 2 → loads = .next (s.after (((s.open l).eccDouble l a).takeFault l n (encI cls op f) 2 3 0xFF a))) := by
  refine ⟨fun found => State.runU_of_eq ?_, fun found => State.runU_of_eq ?_, fun found => State.runU_of_eq ?_⟩
  · exact (loadOp_reads due legal aligned area (Units.eccLoad_clean (s.open_taper l) found) :)
  · exact (loadOp_reads due legal aligned area (Units.eccLoad_corrected (s.open_taper l) found) :)
  · exact (loadOp_reads due legal aligned area (Units.eccLoad_double (s.open_taper l) found) :)

/-- One of a misplaced address faults there. -/
theorem State.runU_loadOp_misplaced {put : Taper → List Nat → Taper} {x : Nat} (legal : illegalI f d .any .none = none)
    (misplaced : (s.u.taper l).addr f % align ≠ 0 ∧ x = 0 ∨ (s.u.taper l).addr f % align = 0 ∧ loadArea ((s.u.taper l).addr f) k = false ∧ x = 1) :
    (s.runU fun u => u.loadOp l cls op f d k align ecc put) =
      .next (s.after ((s.open l).takeFault l n (encI cls op f) 2 x 0xFF ((s.u.taper l).addr f))) :=
  State.runU_of_eq (loadOp_misplaced due legal (accessBad_misplaced misplaced))

variable {b : Fld} {get : Taper → List Nat} (legal : illegalI f .none .any b = none)
include legal

/-- A due and legal store to an aligned place in a writable area retires with its bytes there. -/
theorem State.runU_storeOp_writes (aligned : (s.u.taper l).addr f % align = 0) (area : storeArea ((s.u.taper l).addr f) k = true) :
    (s.runU fun u => u.storeOp l cls op f b k align get) =
      .next (s.retires l n { s.u.taper l with mem := (s.u.taper l).mem.writeAll ((s.u.taper l).addr f) (get (s.u.taper l)) }) :=
  State.runU_legalI_retires due legal (by simp only [accessBad_none aligned area])

/-- One to a misplaced address faults there. -/
theorem State.runU_storeOp_misplaced {x : Nat}
    (misplaced : (s.u.taper l).addr f % align ≠ 0 ∧ x = 0 ∨ (s.u.taper l).addr f % align = 0 ∧ storeArea ((s.u.taper l).addr f) k = false ∧ x = 1) :
    (s.runU fun u => u.storeOp l cls op f b k align get) =
      .next (s.after ((s.open l).takeFault l n (encI cls op f) 2 x 0xFF ((s.u.taper l).addr f))) :=
  State.runU_legalI_faults due legal (by simp only [accessBad_misplaced misplaced]; rfl)

end

/-- Each scalar store is the shared store of its width. -/
theorem StoreOp.exec_eq {con op k} (is : StoreOp con op k) (l : Nat) (f : IFmt) (s : State) :
    exec (con l f) s = s.runU fun u => u.scalarStore l op f k := by
  cases is <;> rfl

/-- Settles O24: a store writes its bytes and no other, and a wide load ends by what its read finds. -/
theorem storesAndWideAccessesMove : Obligations.StoresAndWideAccessesMove := by
  refine ⟨fun con op k is s l n f due legal aligned area => ⟨?stores, ?outside⟩, fun s l n ecc f =>
    ⟨fun aligned area => ⟨?vectorLoads, ?tileLoads⟩, fun aligned area => ⟨?vectorStores, ?tileStores⟩,
      fun aligned area => ⟨fun due legal => ?vectorErrors, fun due legal => ?tileErrors⟩, fun due legal aligned area => ?predicateLoads, ?predicateStores⟩⟩
  case stores => rw [is.exec_eq]; exact State.runU_storeOp_writes due legal aligned area
  case outside => exact fun a away => Memory.read_writeAll_outside _ _ _ (by rwa [length_leBytes])
  case vectorLoads => exact fun due legal found => (State.runU_loadOp_found due legal aligned area).1 found
  case tileLoads => exact fun due legal found => (State.runU_loadOp_found due legal aligned area).1 found
  case vectorStores => exact fun due legal => State.runU_storeOp_writes due legal aligned area
  case tileStores => exact fun due legal => State.runU_storeOp_writes due legal aligned area
  case vectorErrors => exact (State.runU_loadOp_found due legal aligned area).2
  case tileErrors => exact (State.runU_loadOp_found due legal aligned area).2
  case predicateLoads =>
    obtain ⟨clean, corrected, double⟩ := State.runU_loadOp_found (ecc := ecc) (put := fun t x => t.setP f.d (leNat x)) due legal aligned area
    exact ⟨corrected, double, clean⟩
  case predicateStores => exact fun due legal aligned area => State.runU_storeOp_writes due legal aligned area

/-- Settles O25: a misplaced address faults in the check of R225, before the access. -/
theorem misplacedAccessesFault : Obligations.MisplacedAccessesFault := by
  refine fun s l n ecc f => ⟨fun con op k signed is due legal => ?loads, fun con op k is due legal => ?stores⟩
  case loads =>
    rw [is.exec_eq]
    exact ⟨fun skewed => State.runU_loadOp_misplaced due legal (.inl ⟨skewed, rfl⟩),
      fun aligned outside => State.runU_loadOp_misplaced due legal (.inr ⟨aligned, outside, rfl⟩)⟩
  case stores =>
    rw [is.exec_eq]
    exact ⟨fun skewed => State.runU_storeOp_misplaced due legal (.inl ⟨skewed, rfl⟩),
      fun aligned outside => State.runU_storeOp_misplaced due legal (.inr ⟨aligned, outside, rfl⟩)⟩

end Sys2Proof.Machine
end

section
/-!
PROOFS. Branches and jumps (09 R225), and reference mode under writes of special registers (08 R208, 09 R215): where a taken branch goes, what a write leaves of
ARITH_CTL.REF, and the statements.
-/
namespace Sys2Proof.Machine

/-! Targets (R225) -/

theorem Taper.jumpTo_good {t : Taper} {a : Nat} (aligned : a % 8 = 0) (code : a < 0x10000) : t.jumpTo a = .next t (some a) :=
  if_neg (by simp [aligned, code])

theorem Taper.jumpTo_bad {t : Taper} {a : Nat} (bad : a % 8 ≠ 0 ∨ 0x10000 ≤ a) : t.jumpTo a = .memory 2 a :=
  if_pos (by simpa using bad)

/-- A legal Format I instruction that ends in a jump retires to its target. -/
theorem State.runU_legalI_jumps {s : State} {l n w target : Nat} {f : IFmt} {d a b : Fld} {go : Taper → TOut} {t : Taper} (due : s.issues l n w)
    (legal : illegalI f d a b = none) (goes : go (s.u.taper l) = .next t (some target)) :
    (s.runU fun u => u.issue l w fun t => legalI f d a b (go t)) = .next (s.retires l n t (some target)) :=
  State.runU_of_eq ((issue_due due _).trans (by rw [legalI_ok legal, goes]; rfl))

/-! Conditional branches (R225) -/

section
variable {s : State} {l n op : Nat} {f : IFmt} {a b : Fld} {c : Taper → Bool} (due : s.issues l n (encI 3 op f)) (legal : illegalI f .none a b = none)
include due legal

theorem State.runU_branch_not (no : c (s.u.taper l) = false) : (s.runU fun u => u.branch l op f a b c) = .next (s.retires l n (s.u.taper l)) :=
  State.runU_legalI_retires due legal (if_neg (by simp [no]))

variable (yes : c (s.u.taper l) = true)
include yes

theorem State.runU_branch_goes (aligned : (s.u.taper l).rel f % 8 = 0) (code : (s.u.taper l).rel f < 0x10000) :
    (s.runU fun u => u.branch l op f a b c) = .next (s.retires l n (s.u.taper l) (some ((s.u.taper l).rel f))) :=
  State.runU_legalI_jumps due legal ((if_pos yes).trans (Taper.jumpTo_good aligned code))

theorem State.runU_branch_faults (bad : (s.u.taper l).rel f % 8 ≠ 0 ∨ 0x10000 ≤ (s.u.taper l).rel f) :
    (s.runU fun u => u.branch l op f a b c) = .next (s.after ((s.open l).takeFault l n (encI 3 op f) 2 2 0xFF ((s.u.taper l).rel f))) :=
  State.runU_legalI_faults due legal ((if_pos yes).trans (Taper.jumpTo_bad bad))

end

theorem gr_eq_gr_iff (t : Taper) (a b : Nat) : t.gr a = t.gr b ↔ t.x a = t.x b := by
  rw [← x_toNat, ← x_toNat, BitVec.toNat_inj]

theorem s64_gr (t : Taper) (a : Nat) : s64 (t.gr a) = (t.x a).toInt := by
  rw [← x_toNat, s64_toNat]

/-- Each conditional branch is the shared branch on its condition over the two registers. -/
theorem BranchOp.exists_exec_eq {con op fn} (is : BranchOp con op fn) (f : IFmt) :
    ∃ c : Taper → Bool, (∀ l s, exec (con l f) s = s.runU fun u => u.branch l op f .any .any c) ∧ ∀ t, c t = fn (t.x f.a) (t.x f.b) := by
  cases is with
  | beq => exact ⟨_, fun _ _ => rfl, fun t => decide_eq_decide.2 (gr_eq_gr_iff t f.a f.b)⟩
  | bne => exact ⟨_, fun _ _ => rfl, fun t => decide_not.trans (congrArg (!·) (decide_eq_decide.2 (gr_eq_gr_iff t f.a f.b)))⟩
  | blt => exact ⟨_, fun _ _ => rfl, fun t => by rw [s64_gr, s64_gr]; rfl⟩
  | bge =>
    refine ⟨_, fun _ _ => rfl, fun t => ?_⟩
    have atLeast : s64 (t.gr f.b) ≤ s64 (t.gr f.a) ↔ ¬(t.x f.a).toInt < (t.x f.b).toInt := by rw [s64_gr, s64_gr, Int.not_lt]
    exact (decide_eq_decide.2 atLeast).trans decide_not
  | bltu => exact ⟨_, fun _ _ => rfl, fun t => by rw [← x_toNat, ← x_toNat]; rfl⟩
  | bgeu =>
    refine ⟨_, fun _ _ => rfl, fun t => ?_⟩
    have atLeast : t.gr f.b ≤ t.gr f.a ↔ ¬(t.x f.a).toNat < (t.x f.b).toNat := by rw [x_toNat, x_toNat, Nat.not_lt]
    exact (decide_eq_decide.2 atLeast).trans decide_not

/-- Settles O26: a branch ends by its condition and its target, and a jump by its target. -/
theorem branchesAndJumpsMove : Obligations.BranchesAndJumpsMove := by
  refine fun s l n f => ⟨fun con op fn is due legal => ?branches, fun legal => ⟨fun clear => ⟨?anyNot, ?noneGoes⟩, fun set => ⟨?noneNot, ?anyGoes⟩⟩,
    ?jumps, ?jumpsByRegister⟩
  case branches =>
    obtain ⟨c, runs, condition⟩ := is.exists_exec_eq f
    rw [runs, ← condition]
    exact ⟨State.runU_branch_not due legal, State.runU_branch_goes due legal⟩
  case anyNot => exact fun due => State.runU_branch_not due legal (decide_eq_false (not_not_intro clear))
  case noneGoes => exact fun due => State.runU_branch_goes due legal (decide_eq_true clear)
  case noneNot => exact fun due => State.runU_branch_not due legal (decide_eq_false set)
  case anyGoes => exact fun due => State.runU_branch_goes due legal (decide_eq_true set)
  case jumps => exact fun due legal aligned code => State.runU_legalI_jumps due legal (Taper.jumpTo_good aligned code)
  case jumpsByRegister => exact fun due legal aligned code => State.runU_legalI_jumps due legal (Taper.jumpTo_good aligned code)

/-! Special registers (R215) -/

/-- What holds of the value that a choice gives, and of any that its rest gives, holds of the one that it comes to. -/
theorem of_ite_some_eq {α : Type} {P : α → Prop} {c : Prop} [Decidable c] {a b : α} {rest : Option α} (chosen : P a) (other : rest = some b → P b)
    (is : (if c then some a else rest) = some b) : P b := by
  split at is
  · exact Option.some.inj is ▸ chosen
  · exact other is

/-- No special register but ARITH_CTL holds reference mode. -/
theorem Taper.refMode_writeSr_of_ne_zero {t t' : Taper} {k x : Nat} (other : k ≠ 0) (writes : t.writeSr k x = some t') : t'.refMode = t.refMode := by
  have choice {c : Prop} [Decidable c] {a : Taper} {rest : Option Taper} (chosen : a.refMode = t.refMode)
      (other : rest = some t' → t'.refMode = t.refMode) : (if c then some a else rest) = some t' → t'.refMode = t.refMode :=
    of_ite_some_eq (P := fun v : Taper => v.refMode = t.refMode) chosen other
  have width : (if x % 4 = 3 then t else { t with fingWidth := x % 4 }).refMode = t.refMode := by split <;> rfl
  rw [Taper.writeSr, if_neg other] at writes
  revert writes
  exact choice rfl <| choice rfl <| choice rfl <| choice rfl <| choice rfl <| choice rfl <| choice rfl <| choice width <|
    choice rfl <| choice rfl <| choice rfl nofun

/-- Reference mode after a write of a special register: as before, or set by a write of ARITH_CTL with bit 16 set. -/
theorem Taper.refMode_writeSr {t t' : Taper} {k x : Nat} (writes : t.writeSr k x = some t') :
    t'.refMode = (t.refMode || (decide (k = 0) && bitAt x 16)) := by
  by_cases ctl : k = 0
  · subst ctl
    cases writes
    rfl
  · rw [Taper.refMode_writeSr_of_ne_zero ctl writes, decide_eq_false ctl, Bool.false_and, Bool.or_false]

/-- Settles O28: the mode after a write is `Taper.refMode_writeSr`. -/
theorem referenceModeStaysSet : Obligations.ReferenceModeStaysSet := by
  refine ⟨fun t t' k x writes on => ?stays, fun t t' x writes ref => ?sets⟩
  case stays => rw [Taper.refMode_writeSr writes, on, Bool.true_or]
  case sets => rw [Taper.refMode_writeSr writes, ref]; simp

end Sys2Proof.Machine
end

section
/-!
PROOFS. The system instructions, illegal instructions, and the vector moves and predicates (09 R208, R215, R219, R222 to R224, R236): how a Format R instruction
faults, and the statements.
-/
namespace Sys2Proof.Machine

/-! Instructions that are not legal, or lie outside the contract (R208, R222) -/

section
variable {s : State} {l n w : Nat} {f : RFmt} {k : Taper → RUse} {go : Taper → TOut} (due : s.issues l n w)
include due

/-- An illegal Format R instruction faults with the detail that its check finds. -/
theorem State.runU_illegalR_faults {d : Nat} (bad : (s.u.taper l).illegalR f (k (s.u.taper l)) = some d) :
    (s.runU fun u => u.issue l w fun t => t.legalR f (k t) (go t)) = .next (s.after ((s.open l).takeFault l n w 1 d 0xFF 0)) :=
  State.runU_issue_faults due (legalR_bad bad)

/-- A legal one takes the fault that it comes to. -/
theorem State.runU_legalR_faults {cause detail chan addr : Nat} (legal : (s.u.taper l).illegalR f (k (s.u.taper l)) = none)
    (goes : go (s.u.taper l) = .trap cause detail chan addr) :
    (s.runU fun u => u.issue l w fun t => t.legalR f (k t) (go t)) = .next (s.after ((s.open l).takeFault l n w cause detail chan addr)) :=
  State.runU_issue_faults due ((legalR_ok legal).trans goes)

end

/-- Settles O27: a number within its bound is looked up, a target and an address are checked, and the contract is checked last. -/
theorem systemInstructionsAct : Obligations.SystemInstructionsAct := by
  refine ⟨fun s l n f => ⟨?nop, ?reads, ?writes, ?returns, ?traps⟩, fun s l n f r => ⟨?branchFaults, ?jumpFaults, ?jumpByRegisterFaults, ?readFaults,
    ?writeFaults, ?returnFaults, ?scalarContract, ?vectorContract,
    fun ecc d misplaced => ⟨?vectorLoad, ?tileLoad⟩, fun d misplaced => ⟨?vectorStore, ?tileStore⟩, fun ecc d misplaced => ?predicateLoad,
    fun d misplaced => ?predicateStore⟩⟩
  case nop => exact fun due legal zero => State.runU_legalI_retires due legal (if_neg (not_not_intro zero))
  case reads =>
    intro due legal inRange free x listed
    refine State.runU_legalI_retires due legal ((if_neg (Nat.not_le.2 inRange)).trans ?_)
    simp only [listed]
    exact if_neg (by rcases free with ⟨notAcc, notPos⟩ | idle <;> simp [*])
  case writes =>
    intro due legal inRange free t' listed
    refine State.runU_legalI_retires due legal ((if_neg (Nat.not_le.2 inRange)).trans ?_)
    simp only [listed]
    exact if_neg (by rcases free with ⟨notAcc, notPos, notWidth⟩ | idle <;> simp [*])
  case returns => exact fun due legal zero handling => State.runU_legalI_jumps due legal (if_neg (by simp [zero, handling]))
  case traps => exact fun due legal small => State.runU_legalI_faults due legal (if_pos small)
  case branchFaults =>
    intro con op fn is due legal taken bad
    obtain ⟨c, runs, condition⟩ := is.exists_exec_eq f
    rw [runs]
    exact State.runU_branch_faults due legal ((condition _).trans taken) bad
  case jumpFaults => exact fun due legal bad => State.runU_legalI_faults due legal (Taper.jumpTo_bad bad)
  case jumpByRegisterFaults => exact fun due legal bad => State.runU_legalI_faults due legal (Taper.jumpTo_bad bad)
  case readFaults =>
    intro due legal inRange unlisted
    refine State.runU_legalI_faults due legal ((if_neg (Nat.not_le.2 inRange)).trans ?_)
    simp only [unlisted]
    rfl
  case writeFaults =>
    intro due legal inRange unlisted
    refine State.runU_legalI_faults due legal ((if_neg (Nat.not_le.2 inRange)).trans ?_)
    simp only [unlisted]
    rfl
  case returnFaults => exact fun due legal armed => State.runU_legalI_faults due legal (if_pos (by simp [armed]))
  case scalarContract =>
    intro con op k fn is due legal on
    rw [is.exec_eq]
    exact State.runU_legalR_faults due legal (Taper.contract_reference on)
  case vectorContract =>
    intro con op k fn is due legal on
    rw [is.exec_eq]
    exact State.runU_legalR_faults due legal (Taper.contract_reference on)
  case vectorLoad => exact fun due legal => State.runU_loadOp_misplaced due legal misplaced
  case tileLoad => exact fun due legal => State.runU_loadOp_misplaced due legal misplaced
  case vectorStore => exact fun due legal => State.runU_storeOp_misplaced due legal misplaced
  case tileStore => exact fun due legal => State.runU_storeOp_misplaced due legal misplaced
  case predicateLoad => exact fun due legal => State.runU_loadOp_misplaced due legal misplaced
  case predicateStore => exact fun due legal => State.runU_storeOp_misplaced due legal misplaced

/-- Each operation on two predicate registers runs its function on them. -/
theorem PredicateOp.exec_eq {con op fn} (is : PredicateOp con op fn) (l : Nat) (f : RFmt) (s : State) :
    exec (con l f) s = s.runU fun u => u.issue l (encR 4 op f) fun t =>
      t.legalR f { d := .file 8, a := .file 8, b := .file 8 } (.ok (t.setP f.d (fn (t.pr f.a) (t.pr f.b)))) := by
  cases is <;> rfl

/-- Settles O29: the check of the fields comes before anything else that the instruction does. -/
theorem illegalRegisterFormatFaults : Obligations.IllegalRegisterFormatFaults := by
  refine fun s l n d f => ⟨?scalar, ?scalarFloat, ?vectorFloat, ?vectorInt, ?predicate, ?field⟩
  case scalar =>
    intro con op fn is due bad
    obtain ⟨g, runs, -⟩ := is.exists_exec_eq
    rw [runs]
    exact State.runU_illegalR_faults due bad
  case scalarFloat => intro con op k no fn is due bad; rw [is.exec_eq]; exact State.runU_illegalR_faults due bad
  case vectorFloat => intro con op k no fn is due bad; rw [is.exec_eq]; exact State.runU_illegalR_faults due bad
  case vectorInt => intro con op fn is due bad; rw [is.exec_eq]; exact State.runU_illegalR_faults due bad
  case predicate => intro con op fn is due bad; rw [is.exec_eq]; exact State.runU_illegalR_faults due bad
  case field =>
    intro con op fn is due bad
    obtain ⟨g, runs, -⟩ := is.exists_exec_eq
    rw [runs]
    exact State.runU_illegalR_faults due bad

/-! Moves and predicates (Table 9-13) -/

/-- Complementing all 64 bits of a predicate register. -/
theorem ofNat_xor_allOnes (x : DWord) : BitVec.ofNat 64 (x.toNat ^^^ (2 ^ 64 - 1)) = ~~~x := by
  rw [← BitVec.xor_allOnes]
  exact ofNat_toNat_word (x ^^^ BitVec.allOnes 64)

/-- Settles O33: each retires with its result; only VINSERT and VEXTRACT ask whether the lane is there. -/
theorem vectorMovesMove : Obligations.VectorMovesMove := by
  refine ⟨fun s l n f => ⟨?broadcast, fun due legal => ⟨?extracts, ?extractsZero⟩, fun due legal => ⟨?inserts, ?insertsNot⟩, ?iota, ?moves⟩,
    fun s l n f => ⟨?operations, ?complements, ?sets, ?gets, ?counts⟩⟩
  case broadcast => exact fun due legal => State.runU_legalR_retires due legal rfl
  case extracts =>
    exact fun inRange => State.runU_legalR_retires due legal (congrArg (fun x => TOut.ok ((s.u.taper l).setG f.d x)) (if_pos inRange))
  case extractsZero =>
    exact fun outside => State.runU_legalR_retires due legal
      (congrArg (fun x => TOut.ok ((s.u.taper l).setG f.d x)) (if_neg (Nat.not_lt.2 outside)))
  case inserts => exact fun inRange active => State.runU_legalR_retires due legal (congrArg TOut.ok (if_pos (by simp [inRange, active])))
  case insertsNot =>
    refine fun no => State.runU_legalR_retires due legal (congrArg TOut.ok (if_neg ?_))
    rcases no with outside | inactive
    · simp [Nat.not_lt.2 outside]
    · simp [inactive]
  case iota => exact fun due legal => State.runU_legalR_retires due legal rfl
  case moves => exact fun due legal => State.runU_legalR_retires due legal rfl
  case operations =>
    intro con op fn is due legal
    rw [is.exec_eq]
    exact State.runU_legalR_retires due legal rfl
  case complements =>
    exact fun due legal => State.runU_legalR_retires due legal (by rw [Taper.setP, Taper.pr, ofNat_xor_allOnes])
  case sets => exact fun due legal => State.runU_legalR_retires due legal rfl
  case gets => exact fun due legal => State.runU_legalR_retires due legal rfl
  case counts => exact fun due legal => State.runU_legalR_retires due legal (by rw [List.countP_eq_length_filter])

end Sys2Proof.Machine
end

section
/-!
PROOFS. The ring instructions (09 R231, 11 R274, 19 R447): what taking and giving an entry comes to, and the statement.
-/
namespace Sys2Proof.Machine

@[simp] theorem State.open_desc (s : State) (l k : Nat) : (s.open l).desc k = s.u.desc k := by
  unfold State.open Units.openStep; split <;> rfl

@[simp] theorem State.open_entryLen (s : State) (l n : Nat) : (s.open l).entryLen n = s.u.entryLen n := by
  simp only [Units.entryLen, State.open_progSlot, State.open_desc]

/-! Taking an entry (R231) -/

section
variable {u : Units} {l n len : Nat} {t : Taper} {f : RFmt} {try_ first : Bool} {p : PSlot} (serves : (u.lt l).slot = some n) (atSlot : u.slot n = p)
include serves atSlot

theorem Units.popNow_noRing (none : p.hasSub = false) : u.popNow l t f try_ first = (u, .trap 3 6 0xFF 0) := by
  simp [Units.popNow, serves, atSlot, none]

variable (ring : p.hasSub = true) (long : u.entryLen n = len)
include ring long

theorem Units.popNow_badAddress (bad : t.gr f.a % 64 ≠ 0 ∨ dataArea (t.gr f.a) len = false) :
    u.popNow l t f try_ first = (u, .trap 3 4 0xFF (t.gr f.a)) := by
  simp only [Units.popNow, serves, atSlot, ring, long, Bool.not_true, Bool.false_eq_true, if_false]
  exact if_pos (by simpa using bad)

variable (aligned : t.gr f.a % 64 = 0) (area : dataArea (t.gr f.a) len = true)
include aligned area

/-- The taper whose turn it is takes the next entry. -/
theorem Units.popNow_takes {r : Units × List Nat × (Taper → Taper)} (entry : u.popEntry n = some r)
    (turn : (if first then (p.popWait.filter fun x => x ≠ l).isEmpty else decide (p.popWait.head? = some l)) = true) :
    u.popNow l t f try_ first =
      (r.1.upSlot n fun q => { q with popWait := p.popWait.filter fun x => x ≠ l }, .ok ((r.2.2 t).takeEntry f r.2.1)) := by
  simp only [Units.popNow, serves, atSlot, ring, long, aligned, area, turn, entry]
  rfl

variable (none : u.popEntry n = none)
include none

theorem Units.popNow_tryNone : u.popNow l t f true first = (u, .ok (t.setG f.d 0)) := by
  simp [Units.popNow, serves, atSlot, ring, long, aligned, area, none]

theorem Units.popNow_waits :
    u.popNow l t f false true = (u.upSlot n fun q => { q with popWait := q.popWait ++ [l] }, .wait .pop) := by
  simp [Units.popNow, serves, atSlot, ring, long, aligned, area, none]

end

/-! Giving an entry (R231) -/

theorem PSlot.hasComp_of_bound {p : PSlot} (bound : p.comp ≠ 0xFFFFFFFF) : p.hasComp = true := by
  simp [PSlot.hasComp, bound]

/-- What RING.PUSH puts on its ring: a completion on a completion ring, the words as they are elsewhere. -/
def PSlot.pushed (p : PSlot) (n : Nat) (d : RingDesc) (b : List Nat) : RingEntry :=
  if d.kind = 1 then .completion (completionOf b (p.stamp n) d.phase) else .words b

section
variable {u : Units} {l n ecc : Nat} {t : Taper} {f : RFmt} {p : PSlot} (serves : (u.lt l).slot = some n) (atSlot : u.slot n = p)
include serves atSlot

theorem Units.pushNow_noRing (none : p.hasComp = false) : u.pushNow l ecc t f = (u, .trap 3 6 0xFF 0) := by
  simp [Units.pushNow, serves, atSlot, none]

/-- A unit's own program gives its result to that unit. -/
theorem Units.pushNow_givesUnit {v : Units} (ring : p.hasComp = true) (unbound : p.comp = 0xFFFFFFFF) (area : dataArea (t.gr f.a) 1 = true)
    (read : u.eccLoad l ecc (t.gr f.a) (min 272 (0x50000 - t.gr f.a)) (.ok t) = (v, .ok t)) :
    u.pushNow l ecc t f =
      (v.upSlot n fun q => { q with done := q.done ++ [Memory.readAll t.mem (t.gr f.a) (min 272 (0x50000 - t.gr f.a))] }, .ok t) := by
  simp only [Units.pushNow, serves, atSlot, ring, unbound, area, read]
  rfl

variable {d : RingDesc} (bound : p.comp ≠ 0xFFFFFFFF) (atRing : u.desc p.comp = d)
include bound atRing

theorem Units.pushNow_badAddress (bad : dataArea (t.gr f.a) (32 * 2 ^ d.sizeCode) = false) :
    u.pushNow l ecc t f = (u, .trap 3 4 0xFF (t.gr f.a)) := by
  simp [Units.pushNow, serves, atSlot, PSlot.hasComp_of_bound bound, bound, atRing, bad]

variable (area : dataArea (t.gr f.a) (32 * 2 ^ d.sizeCode) = true)
include area

theorem Units.pushNow_full (full : d.room = false) : u.pushNow l ecc t f = (u, .wait .push) := by
  simp [Units.pushNow, serves, atSlot, PSlot.hasComp_of_bound bound, bound, atRing, area, full]

variable (room : d.room = true)
include room

/-- With room on the ring an entry that reads well is put there. -/
theorem Units.pushNow_gives {v : Units} (read : u.eccLoad l ecc (t.gr f.a) (32 * 2 ^ d.sizeCode) (.ok t) = (v, .ok t)) :
    u.pushNow l ecc t f = (v.produce p.comp (p.pushed n d (Memory.readAll t.mem (t.gr f.a) (32 * 2 ^ d.sizeCode))), .ok t) := by
  simp only [Units.pushNow, serves, atSlot, PSlot.hasComp_of_bound bound, bound, atRing, area, room, read]
  rfl

/-- One that does not read well faults. -/
theorem Units.pushNow_faults {v : Units} {x a : Nat} (read : u.eccLoad l ecc (t.gr f.a) (32 * 2 ^ d.sizeCode) (.ok t) = (v, .memory x a)) :
    u.pushNow l ecc t f = (v, .memory x a) := by
  simp [Units.pushNow, serves, atSlot, PSlot.hasComp_of_bound bound, bound, atRing, area, room, read, TOut.memory]

end

/-- What the read of the entry finds decides how a RING.PUSH ends that has a bound ring with room. -/
theorem open_pushNow_found {s : State} {l n : Nat} (ecc : Nat) {f : RFmt} (may : s.u.mayIssue l = some n) (bound : (s.u.slot n).comp ≠ 0xFFFFFFFF)
    (area : dataArea ((s.u.taper l).gr f.a) (32 * 2 ^ (s.u.desc (s.u.slot n).comp).sizeCode) = true)
    (room : (s.u.desc (s.u.slot n).comp).room = true) :
    let t := s.u.taper l
    let p := s.u.slot n
    let d := s.u.desc p.comp
    let entry := p.pushed n d (Memory.readAll t.mem (t.gr f.a) (32 * 2 ^ d.sizeCode))
    let found := t.eccAt ecc (t.gr f.a) (32 * 2 ^ d.sizeCode)
    (found = 0 → (s.open l).pushNow l ecc t f = ((s.open l).produce p.comp entry, .ok t)) ∧
    (found = 1 → (s.open l).pushNow l ecc t f = (((s.open l).eccFixed l).produce p.comp entry, .ok t)) ∧
    (found = 2 → (s.open l).pushNow l ecc t f = ((s.open l).eccDouble l (t.gr f.a), .memory 3 (t.gr f.a))) :=
  have serves := State.open_slot may
  have own := s.open_taper l
  have atSlot := s.open_progSlot l n
  have atRing := s.open_desc l (s.u.slot n).comp
  ⟨fun found => Units.pushNow_gives serves atSlot bound atRing area room (Units.eccLoad_clean own found),
    fun found => Units.pushNow_gives serves atSlot bound atRing area room (Units.eccLoad_corrected own found),
    fun found => Units.pushNow_faults serves atSlot bound atRing area room (Units.eccLoad_double own found)⟩

/-! The instructions and their resumptions, by what they run -/

section
variable {s : State} {l n ecc w : Nat} {f : RFmt} {v : Units} {o : TOut}

/-- A legal Format R instruction that touches more than its taper ends by what it runs. -/
theorem State.runU_legalRU_ends {k : RUse} {go : Units → Taper → Units × TOut} (due : s.issues l n w) (legal : (s.u.taper l).illegalR f k = none)
    (goes : go (s.open l) (s.u.taper l) = (v, o)) :
    (s.runU fun u => u.issueU l w fun u t => legalRU u t f k (go u t)) = .next (s.after (v.outcome l n w o)) :=
  State.runU_of_eq ((issueU_due due _).trans (by rw [legalRU_ok legal, goes]))

/-- A resumption ends by what it runs on the word that waits. -/
theorem State.runU_resume_ends {k : TWait} {go : Nat → Units → Taper → Units × TOut} (due : s.waits l n k)
    (goes : go (s.u.taper l).word (s.open l) (s.u.taper l) = (v, o)) :
    (s.runU fun u => u.resume l k go) = .next (s.after (v.outcome l n (s.u.taper l).word o)) :=
  State.runU_of_eq ((resume_due due _).trans (by rw [goes]))

theorem exec_opRING_POP (due : s.issues l n (encR 8 8 f)) (legal : (s.u.taper l).illegalR f { d := .any, a := .any } = none)
    (pops : (s.open l).popNow l (s.u.taper l) f false true = (v, o)) :
    exec (.opRING_POP l f) s = .next (s.after (v.outcome l n (encR 8 8 f) o)) :=
  State.runU_legalRU_ends due legal pops

theorem exec_opRING_TRY (due : s.issues l n (encR 8 9 f)) (legal : (s.u.taper l).illegalR f { d := .any, a := .any } = none)
    (pops : (s.open l).popNow l (s.u.taper l) f true true = (v, o)) :
    exec (.opRING_TRY l f) s = .next (s.after (v.outcome l n (encR 8 9 f) o)) :=
  State.runU_legalRU_ends due legal pops

theorem exec_ringPopResume (due : s.waits l n .pop) (pops : (s.open l).popNow l (s.u.taper l) (decR (s.u.taper l).word) false false = (v, o)) :
    exec (.ringPopResume l) s = .next (s.after (v.outcome l n (s.u.taper l).word o)) :=
  State.runU_resume_ends due pops

theorem exec_opRING_PUSH (due : s.issues l n (encR 8 0xA f)) (legal : (s.u.taper l).illegalR f { a := .any } = none)
    (pushes : (s.open l).pushNow l ecc (s.u.taper l) f = (v, o)) :
    exec (.opRING_PUSH ⟨l, ecc⟩ f) s = .next (s.after (v.outcome l n (encR 8 0xA f) o)) :=
  State.runU_legalRU_ends due legal pushes

theorem exec_ringPushResume (due : s.waits l n .push) (pushes : (s.open l).pushNow l ecc (s.u.taper l) (decR (s.u.taper l).word) = (v, o)) :
    exec (.ringPushResume ⟨l, ecc⟩) s = .next (s.after (v.outcome l n (s.u.taper l).word o)) :=
  State.runU_resume_ends due pushes

end

/-- A RING.POP or RING.TRY without its ring, or at a bad address, faults. -/
theorem open_popNow_faults {s : State} {l n d x : Nat} {f : RFmt} {try_ first : Bool} (may : s.u.mayIssue l = some n)
    (bad : (s.u.slot n).hasSub = false ∧ d = 6 ∧ x = 0 ∨
      (s.u.slot n).hasSub = true ∧ ((s.u.taper l).gr f.a % 64 ≠ 0 ∨ dataArea ((s.u.taper l).gr f.a) (s.u.entryLen n) = false) ∧ d = 4 ∧
        x = (s.u.taper l).gr f.a) :
    (s.open l).popNow l (s.u.taper l) f try_ first = (s.open l, .trap 3 d 0xFF x) := by
  have serves := State.open_slot may
  have atSlot := s.open_progSlot l n
  rcases bad with ⟨noRing, rfl, rfl⟩ | ⟨ring, address, rfl, rfl⟩
  · exact Units.popNow_noRing serves atSlot noRing
  · exact Units.popNow_badAddress serves atSlot ring (s.open_entryLen l n) address

section
variable {s : State} {l n : Nat} {f : RFmt} (may : s.u.mayIssue l = some n) (ring : (s.u.slot n).hasSub = true)
  (aligned : (s.u.taper l).gr f.a % 64 = 0) (area : dataArea ((s.u.taper l).gr f.a) (s.u.entryLen n) = true)
include may ring aligned area

/-- A new RING.POP or RING.TRY takes the next entry where no other taper waits for one. -/
theorem open_popNow_alone {r : Units × List Nat × (Taper → Taper)} {try_ : Bool} (entry : (s.open l).popEntry n = some r)
    (alone : ((s.u.slot n).popWait.filter fun x => x ≠ l) = []) :
    (s.open l).popNow l (s.u.taper l) f try_ true = (r.1.upSlot n fun q => { q with popWait := (s.u.slot n).popWait.filter fun x => x ≠ l },
      .ok ((r.2.2 (s.u.taper l)).takeEntry f r.2.1)) :=
  Units.popNow_takes (State.open_slot may) (s.open_progSlot l n) ring (s.open_entryLen l n) aligned area entry (List.isEmpty_iff.2 alone)

/-- A resumed RING.POP takes it where its taper waits first. -/
theorem open_popNow_first {r : Units × List Nat × (Taper → Taper)} (entry : (s.open l).popEntry n = some r) (head : (s.u.slot n).popWait.head? = some l) :
    (s.open l).popNow l (s.u.taper l) f false false = (r.1.upSlot n fun q => { q with popWait := (s.u.slot n).popWait.filter fun x => x ≠ l },
      .ok ((r.2.2 (s.u.taper l)).takeEntry f r.2.1)) :=
  Units.popNow_takes (State.open_slot may) (s.open_progSlot l n) ring (s.open_entryLen l n) aligned area entry (decide_eq_true head)

end

/-- Settles O38: taking an entry is `popNow`, and giving one `pushNow`, in an instruction and in its resumption alike. -/
theorem ringInstructionsExchange : Obligations.RingInstructionsExchange := by
  refine ⟨fun s l n ecc f => ⟨fun ring aligned area => ⟨fun r entry => ⟨fun legal alone => ⟨?pops, ?tries⟩, ?popResumes⟩, ?triesNone⟩,
      fun bound area room => ⟨?pushes, ?pushResumes⟩⟩,
    fun s l n ecc f => ⟨fun legal => ⟨fun d x bad => ⟨?popFaults, ?tryFaults⟩, ?popWaits⟩, fun legal => ⟨?pushFaults, ?pushWaits, ?givesUnit⟩⟩⟩
  case pops => exact fun due => (exec_opRING_POP due legal (open_popNow_alone due.1 ring aligned area entry alone) :)
  case tries => exact fun due => (exec_opRING_TRY due legal (open_popNow_alone due.1 ring aligned area entry alone) :)
  case popResumes =>
    rintro due rfl head
    exact (exec_ringPopResume due (open_popNow_first due.1 ring aligned area entry head) :)
  case triesNone =>
    exact fun none legal due => (exec_opRING_TRY due legal (Units.popNow_tryNone (State.open_slot due.1) (s.open_progSlot l n) ring
      (s.open_entryLen l n) aligned area none) :)
  case pushes =>
    intro due legal
    obtain ⟨clean, corrected, double⟩ := open_pushNow_found ecc due.1 bound area room
    exact ⟨fun found => (exec_opRING_PUSH due legal (clean found) :), fun found => (exec_opRING_PUSH due legal (corrected found) :),
      fun found => (exec_opRING_PUSH due legal (double found) :)⟩
  case pushResumes =>
    rintro due rfl
    obtain ⟨clean, corrected, double⟩ := open_pushNow_found ecc due.1 bound area room
    exact ⟨fun found => (exec_ringPushResume due (clean found) :), fun found => (exec_ringPushResume due (corrected found) :),
      fun found => (exec_ringPushResume due (double found) :)⟩
  case popFaults => exact fun due => (exec_opRING_POP due legal (open_popNow_faults due.1 bad) :)
  case tryFaults => exact fun due => (exec_opRING_TRY due legal (open_popNow_faults due.1 bad) :)
  case popWaits =>
    exact fun ring aligned area none due => (exec_opRING_POP due legal (Units.popNow_waits (State.open_slot due.1) (s.open_progSlot l n) ring
      (s.open_entryLen l n) aligned area none) :)
  case pushFaults =>
    rintro d x (⟨noRing, rfl, rfl⟩ | ⟨-, bound, address, rfl, rfl⟩) due
    · exact (exec_opRING_PUSH due legal (Units.pushNow_noRing (State.open_slot due.1) (s.open_progSlot l n) noRing) :)
    · exact (exec_opRING_PUSH due legal (Units.pushNow_badAddress (State.open_slot due.1) (s.open_progSlot l n) bound (s.open_desc l _) address) :)
  case pushWaits =>
    exact fun bound area full due => (exec_opRING_PUSH due legal (Units.pushNow_full (State.open_slot due.1) (s.open_progSlot l n) bound
      (s.open_desc l _) area full) :)
  case givesUnit =>
    exact fun ring unbound area found due => (exec_opRING_PUSH due legal (Units.pushNow_givesUnit (State.open_slot due.1) (s.open_progSlot l n) ring
      unbound area (Units.eccLoad_clean (s.open_taper l) found)) :)

end Sys2Proof.Machine
end

section
/-!
PROOFS. The stream instructions (07 R159, 09 R218 to R220, R232): what starting a channel and waiting for channels come to, and the statement.
-/
namespace Sys2Proof.Machine

/-! Starting a channel (R218, R219) -/

/-- The channel that descriptor `d` starts, of a program with `binds` bound regions. -/
def Chan.started (d : List Nat) (binds : Nat) : Chan :=
  if descOk d binds then { state := 1, status := 0, rows := 0, desc := d, poison := false }
  else { state := 3, status := St.BAD_PARAM, rows := 0, desc := d, poison := false }

theorem Chan.started_eq (d : List Nat) (binds : Nat) : Chan.started d binds =
    { state := if descOk d binds then 1 else 3, status := if descOk d binds then 0 else St.BAD_PARAM, rows := 0, desc := d, poison := false } := by
  unfold Chan.started
  split <;> rfl

/-- The descriptor of channel `k` in local memory. -/
def Taper.descOf (t : Taper) (k : Nat) : List Nat := Memory.readAll t.mem (0x5F000 + 32 * k) 32

section
variable {u : Units} {l n : Nat} {t : Taper} {f : RFmt} {p : PSlot} (serves : (u.lt l).slot = some n)
include serves

theorem Units.startNow_starts (atSlot : u.slot n = p) (free : ¬(t.ch f.a).state = 1) (source : bitAt ((t.descOf f.a).getD 2 0) 0 = true → t.fpBusy = false) :
    u.startNow l t f = (u, .ok (t.setCh f.a (Chan.started (t.descOf f.a) p.bind.length))) := by
  have go : ¬((decide ((t.ch f.a).state = 1) || (bitAt ((t.descOf f.a).getD 2 0) 0 && t.fpBusy)) = true) := by
    simpa [free] using source
  simp only [Units.startNow, serves, atSlot, Chan.started_eq]
  exact if_neg go

theorem Units.startNow_waits (busy : (t.ch f.a).state = 1 ∨ bitAt ((t.descOf f.a).getD 2 0) 0 = true ∧ t.fpBusy = true) :
    u.startNow l t f = (u, .wait .start) := by
  have stay : (decide ((t.ch f.a).state = 1) || (bitAt ((t.descOf f.a).getD 2 0) 0 && t.fpBusy)) = true := by
    simpa using busy
  simp only [Units.startNow, serves]
  exact if_pos stay

end

/-! Waiting for channels (R220, R232) -/

/-- The channels that a wait looks at. -/
def waitedOn (f : RFmt) (all : Bool) : List Nat := if all then List.range 8 else [f.a]

section
variable {u : Units} {l : Nat} {t : Taper} {f : RFmt} {all : Bool}

theorem any_busy_iff : ((waitedOn f all).any fun k => (t.ch k).state = 1) = true ↔ ∃ k ∈ waitedOn f all, (t.ch k).state = 1 := by
  simp only [List.any_eq_true, decide_eq_true_eq]

theorem Units.waitNow_busy (busy : ∃ k ∈ waitedOn f all, (t.ch k).state = 1) : u.waitNow l t f all = (u, .wait .wait) :=
  if_pos (any_busy_iff.2 busy)

variable (idle : ∀ k ∈ waitedOn f all, (t.ch k).state ≠ 1)
include idle

/-- Once no channel is busy the first that holds poison faults. -/
theorem Units.waitNow_poison {k : Nat} (first : (waitedOn f all).find? (fun k => (t.ch k).poison) = some k) :
    u.waitNow l t f all = u.poisonFault l t k := by
  rw [waitedOn] at first
  exact (if_neg fun busy => have ⟨j, listed, runs⟩ := any_busy_iff.1 busy; idle j listed runs).trans (by simp only [first])

theorem Units.waitNow_ends (sound : ∀ k ∈ waitedOn f all, (t.ch k).poison = false) :
    u.waitNow l t f all = (u, .ok (if all then t else t.setG f.d (t.ch f.a).word)) := by
  have none : (waitedOn f all).find? (fun k => (t.ch k).poison) = none := List.find?_eq_none.2 fun k listed => by simp [sound k listed]
  rw [waitedOn] at none
  exact (if_neg fun busy => have ⟨j, listed, runs⟩ := any_busy_iff.1 busy; idle j listed runs).trans (by simp only [none])

end

/-- STR.WAIT looks at its own channel. -/
theorem forall_waitedOn_one {f : RFmt} {P : Nat → Prop} (holds : P f.a) : ∀ k ∈ waitedOn f false, P k := by
  intro k listed
  rwa [List.mem_singleton.1 listed]

/-- STR.WAITALL looks at all eight. -/
theorem mem_waitedOn_all {f : RFmt} {k : Nat} : k ∈ waitedOn f true ↔ k < 8 := List.mem_range

/-- A wait for one idle and sound channel gives its status word. -/
theorem Units.waitNow_one {u : Units} {l : Nat} {t : Taper} {f : RFmt} (idle : (t.ch f.a).state ≠ 1) (sound : (t.ch f.a).poison = false) :
    u.waitNow l t f false = (u, .ok (t.setG f.d (t.ch f.a).word)) :=
  (Units.waitNow_ends (forall_waitedOn_one idle) (forall_waitedOn_one sound)).trans
    (congrArg (fun t => (u, TOut.ok t)) (if_neg Bool.false_ne_true))

/-- A wait for all of them only retires. -/
theorem Units.waitNow_all {u : Units} {l : Nat} {t : Taper} {f : RFmt} (all : ∀ k < 8, (t.ch k).state ≠ 1 ∧ (t.ch k).poison = false) :
    u.waitNow l t f true = (u, .ok t) :=
  Units.waitNow_ends (fun k listed => (all k (mem_waitedOn_all.1 listed)).1) fun k listed => (all k (mem_waitedOn_all.1 listed)).2

/-- The first of the eight channels that meets a condition is the one found. -/
theorem find_range_first {n k : Nat} {P : Nat → Bool} (inRange : k < n) (here : P k = true) (before : ∀ j < k, P j = false) :
    (List.range n).find? P = some k :=
  List.find?_range_eq_some.2 ⟨here, List.mem_range.2 inRange, fun j earlier => by simp [before j earlier]⟩

/-! The instructions and their resumptions, by what they run -/

section
variable {s : State} {l n : Nat} {f : RFmt} {v : Units} {o : TOut}

theorem exec_opSTR_START (due : s.issues l n (encR 9 0 f)) (legal : (s.u.taper l).illegalR f { a := .imm 7 } = none)
    (starts : (s.open l).startNow l (s.u.taper l) f = (v, o)) : exec (.opSTR_START l f) s = .next (s.after (v.outcome l n (encR 9 0 f) o)) :=
  State.runU_legalRU_ends due legal starts

theorem exec_strStartResume (due : s.waits l n .start) (starts : (s.open l).startNow l (s.u.taper l) (decR (s.u.taper l).word) = (v, o)) :
    exec (.strStartResume l) s = .next (s.after (v.outcome l n (s.u.taper l).word o)) :=
  State.runU_resume_ends due starts

theorem exec_opSTR_WAIT (due : s.issues l n (encR 9 1 f)) (legal : (s.u.taper l).illegalR f { d := .any, a := .imm 7 } = none)
    (waits : (s.open l).waitNow l (s.u.taper l) f false = (v, o)) : exec (.opSTR_WAIT l f) s = .next (s.after (v.outcome l n (encR 9 1 f) o)) :=
  State.runU_legalRU_ends due legal waits

theorem exec_opSTR_WAITALL (due : s.issues l n (encR 9 3 f)) (legal : (s.u.taper l).illegalR f {} = none)
    (waits : (s.open l).waitNow l (s.u.taper l) f true = (v, o)) : exec (.opSTR_WAITALL l f) s = .next (s.after (v.outcome l n (encR 9 3 f) o)) :=
  State.runU_legalRU_ends due legal waits

/-- The resumption of a wait looks at all channels for the OP of STR.WAITALL. -/
theorem exec_strWaitResume {all : Bool} (due : s.waits l n .wait) (is : decide (bits (s.u.taper l).word 11 4 = 3) = all)
    (waits : (s.open l).waitNow l (s.u.taper l) (decR (s.u.taper l).word) all = (v, o)) :
    exec (.strWaitResume l) s = .next (s.after (v.outcome l n (s.u.taper l).word o)) :=
  State.runU_resume_ends due (by simp only [is]; exact waits)

end

/-- Settles O39: starting is `startNow` and waiting `waitNow`, in an instruction and in its resumption alike. -/
theorem streamInstructionsStartAndWait : Obligations.StreamInstructionsStartAndWait := by
  refine ⟨fun s l n f => ⟨fun free source => ⟨?starts, ?startResumes⟩, ?tests, fun idle => ⟨fun sound => ⟨?waits, ?waitResumes⟩, ?poisoned⟩,
      fun all => ⟨?waitsAll, ?waitAllResumes⟩⟩,
    fun s l n f => ⟨fun busy => ⟨?startWaits, ?startWaitsOn⟩, fun busy => ⟨?waitsBusy, ?waitsOn⟩, fun due legal => ⟨?waitsAnyBusy, ?firstPoisoned⟩⟩⟩
  case starts =>
    exact fun due legal => (exec_opSTR_START due legal (Units.startNow_starts (State.open_slot due.1) (s.open_progSlot l n) free source) :)
  case startResumes =>
    rintro due rfl
    exact (exec_strStartResume due (Units.startNow_starts (State.open_slot due.1) (s.open_progSlot l n) free source) :)
  case tests => exact fun due legal => State.runU_legalR_retires due legal rfl
  case waits => exact fun due legal => (exec_opSTR_WAIT due legal (Units.waitNow_one idle sound) :)
  case waitResumes =>
    rintro due rfl is
    exact (exec_strWaitResume due (by simp [is]) (Units.waitNow_one idle sound) :)
  case poisoned =>
    exact fun poison due legal => (exec_opSTR_WAIT due legal (Units.waitNow_poison (forall_waitedOn_one idle) (List.find?_cons_of_pos poison)) :)
  case waitsAll => exact fun due legal => (exec_opSTR_WAITALL due legal (Units.waitNow_all all) :)
  case waitAllResumes => exact fun due is => (exec_strWaitResume due (by simp [is]) (Units.waitNow_all all) :)
  case startWaits => exact fun due legal => (exec_opSTR_START due legal (Units.startNow_waits (State.open_slot due.1) busy) :)
  case startWaitsOn =>
    rintro due rfl
    exact (exec_strStartResume due (Units.startNow_waits (State.open_slot due.1) busy) :)
  case waitsBusy => exact fun due legal => (exec_opSTR_WAIT due legal (Units.waitNow_busy ⟨f.a, List.mem_singleton.2 rfl, busy⟩) :)
  case waitsOn =>
    rintro due rfl is
    exact (exec_strWaitResume (all := false) due (by simp [is]) (Units.waitNow_busy ⟨_, List.mem_singleton.2 rfl, busy⟩) :)
  case waitsAnyBusy =>
    rintro ⟨k, inRange, busy⟩
    exact (exec_opSTR_WAITALL due legal (Units.waitNow_busy ⟨k, mem_waitedOn_all.2 inRange, busy⟩) :)
  case firstPoisoned =>
    exact fun k inRange idle poison before => (exec_opSTR_WAITALL due legal (Units.waitNow_poison (fun j listed => idle j (mem_waitedOn_all.1 listed))
      (find_range_first inRange poison before)) :)

end Sys2Proof.Machine
end

section
/-!
PROOFS. The Wick mirror engine at the buddy and at the source (10): forwarded records, seeds, regions, the commit, copies and snapshots, by branch,
and the statement about them.
-/
namespace Sys2Proof

/-- Two changes that agree on the value listed change the table alike. -/
theorem NMap.upd_congr {α : Type} {m : NMap α} {k : Nat} {f g : α → α} (same : ∀ x, NMap.find m k = some x → f x = g x) :
    NMap.upd m k f = NMap.upd m k g := by
  unfold NMap.upd
  cases found : NMap.find m k with
  | none => rfl
  | some x => exact congrArg (NMap.set m k) (same x found)

end Sys2Proof

namespace Sys2Proof.Machine

/-! A shard's entry -/

/-- Two changes that agree on the entry change it alike. -/
theorem Units.upSh_congr {u : Units} {k : Nat} {f g : Shard → Shard} (same : f (u.shAt k) = g (u.shAt k)) : u.upSh k f = u.upSh k g := by
  refine congrArg (fun m => u.upW fun w => { w with shards := m }) (NMap.upd_congr fun x found => ?_)
  rwa [Units.shAt, NMap.getD, found] at same

theorem Units.cureAt_wick (u : Units) (region off len : Nat) : (u.cureAt region off len).wick = u.wick := by
  unfold Units.cureAt
  cases NMap.find u.mantle.regions region with
  | none => cases NMap.has u.mantle.fading region <;> simp
  | some r => simp

theorem State.holds_shAt {s : State} {shard k : Nat} {x : Shard} {j : JobBind} (bound : s.holds shard k x j) : s.u.shAt k = x := bound.2.1

/-- A lantern message that carries a block, acted on for a shard that is bound here. -/
theorem lanternBlock_bound {s : State} {l : Sys2Proof.LHdr} {shard k : Nat} {x : Shard} {j : JobBind} (heard : s.hearsL l)
    (up : s.u.mantle.stackFailed = false) (bound : s.holds shard k x j) {α : Type} {a c d : α} {f : Nat → Shard → JobBind → α} :
    (if s.u.lanternDrops l then a else if s.u.mantle.stackFailed then c else s.u.withSh shard d f) = f k x j :=
  (if_neg (Bool.eq_false_iff.1 heard.1)).trans ((if_neg (Bool.eq_false_iff.1 up)).trans (withSh_holds bound _ _))

/-- A block that is stored leaves the Wick as it was. -/
theorem Units.shAt_putBlock (m : Mem) (u : Units) (region i : Nat) (data : List Nat) (src : Option (Nat × Nat)) (k : Nat) :
    (putBlock m u region i data src).2.shAt k = u.shAt k := by
  simp only [Units.shAt, putBlock, Units.cureAt_wick]

/-! STEP_FWD (R247, R252, R328) -/

section
variable {s : State} {l : Sys2Proof.LHdr} {r : Sys2Proof.StepRec} {cid ctx k : Nat} {x : Shard} {j : JobBind} (heard : s.hearsL l)
include heard

theorem stepFwd_badCrc : stepFwd l r cid ctx false s.mem s.u = (s.mem, s.u.wickEvent Ev.INTEGRITY_CRC) :=
  (if_neg (Bool.eq_false_iff.1 heard.1)).trans (if_pos rfl)

variable (bound : s.holds r.shard k x j)
include bound

/-- A sound STEP_FWD of a shard that is bound here, by the role. -/
theorem stepFwd_bound : stepFwd l r cid ctx true s.mem s.u =
    if x.isBuddy then
      let a := driveOrGo s.mem (s.u.takeRec k { r := r, cid := cid, ctx := ctx }) k x j r.step
      (a.1, a.2.verifyStep k r.step)
    else (s.mem, (s.u.localCtx (x.members.getD r.replica (0, 0))).elim s.u fun m => s.u.upSh k fun s =>
      { s with kept := NMap.set s.kept (64 * m.1 + m.2) ((r :: NMap.getD s.kept (64 * m.1 + m.2) []).take 2) }) := by
  refine (if_neg (Bool.eq_false_iff.1 heard.1)).trans ((if_neg (by decide)).trans ((withSh_holds bound _ _).trans ?_))
  cases x.isBuddy
  · cases s.u.localCtx (x.members.getD r.replica (0, 0)) <;> rfl
  · rfl

theorem stepFwd_buddy (buddy : x.isBuddy = true) : stepFwd l r cid ctx true s.mem s.u =
    let a := driveOrGo s.mem (s.u.takeRec k { r := r, cid := cid, ctx := ctx }) k x j r.step
    (a.1, a.2.verifyStep k r.step) :=
  (stepFwd_bound heard bound).trans (if_pos buddy)

theorem stepFwd_elsewhere (source : x.isBuddy = false) (away : s.u.localCtx (x.members.getD r.replica (0, 0)) = none) :
    stepFwd l r cid ctx true s.mem s.u = (s.mem, s.u) := by
  rw [stepFwd_bound heard bound, away]
  exact if_neg (Bool.eq_false_iff.1 source)

/-- The buddy's answer to a reload, at the T3 that serves the record's context. -/
theorem stepFwd_reload {p d : Nat} (source : x.isBuddy = false) (here : s.u.localCtx (x.members.getD r.replica (0, 0)) = some (p, d)) :
    stepFwd l r cid ctx true s.mem s.u = (s.mem, s.u.upSh k fun s =>
      { s with kept := NMap.set s.kept (64 * p + d) ((r :: NMap.getD s.kept (64 * p + d) []).take 2) }) := by
  rw [stepFwd_bound heard bound, here]
  exact if_neg (Bool.eq_false_iff.1 source)

end

/-! FWD_SEED (R256, R257, R275) -/

/-- The block is sound and one of the layout of a shard whose buddy this T3 is. -/
def Shard.storable (x : Shard) (b : Sys2Proof.Blk) : Prop := x.isBuddy = true ∧ Blk.bad b = false ∧ b.index < x.layout

theorem Shard.storable_iff (x : Shard) (b : Sys2Proof.Blk) : (!x.isBuddy || Blk.bad b || x.layout ≤ b.index) = false ↔ x.storable b := by
  simp only [Shard.storable, Bool.or_eq_false_iff, Bool.not_eq_false', decide_eq_false_iff_not, Nat.not_le, and_assoc]

/-- The step is being seeded, by a replica that the sender does not serve. -/
def Units.strangerSeeds (u : Units) (x : Shard) (step src : Nat) : Prop :=
  ∃ o, x.step? step = some o ∧ o.seeding = true ∧ u.fromReplica x o.seeder src = false

theorem Units.strangerSeeds_iff (u : Units) (x : Shard) (step src : Nat) :
    ((x.step? step).any fun o => o.seeding && !(u.fromReplica x o.seeder src)) = true ↔ u.strangerSeeds x step src := by
  simp only [Units.strangerSeeds, Option.any_eq_true, Bool.and_eq_true, Bool.not_eq_true']

/-- The sender serves the replica that the open step's seed comes from, or no seed is awaited. -/
theorem Units.not_strangerSeeds {u : Units} {x : Shard} {step src : Nat} {o : OpenStep} (opened : x.step? step = some o)
    (mine : o.seeding = true → u.fromReplica x o.seeder src = true) : ¬u.strangerSeeds x step src := by
  rintro ⟨p, found, seeding, other⟩
  obtain rfl := Option.some.inj (opened.symm.trans found)
  exact Bool.false_ne_true (other.symm.trans (mine seeding))

/-- The block mends a bad one of the committed step that the buddy holds (R256). -/
def mendsBlock (m : Mem) (u : Units) (x : Shard) (j : JobBind) (b : Sys2Proof.Blk) : Prop :=
  b.step = x.committed ∧ x.curStep = some b.step ∧ NMap.find x.table b.index = some (blockEntry x j b.index b.data) ∧
    blockGood m u x j x.stateRegion x.table b.index = false

theorem mendsBlock_iff (m : Mem) (u : Units) (x : Shard) (j : JobBind) (b : Sys2Proof.Blk) :
    (b.step = x.committed && x.curStep = some b.step && NMap.find x.table b.index = some (blockEntry x j b.index b.data) &&
      !(blockGood m u x j x.stateRegion x.table b.index)) = true ↔ mendsBlock m u x j b := by
  simp only [mendsBlock, Bool.and_eq_true, decide_eq_true_eq, Bool.not_eq_true', and_assoc]

/-- The block's entry joins the check table. -/
def Units.tapBlock (u : Units) (k : Nat) (x : Shard) (j : JobBind) (b : Sys2Proof.Blk) : Units :=
  u.upSh k fun s => { s with table := NMap.set s.table b.index (blockEntry x j b.index b.data) }

/-- The seed's blocks that have come, with this one. -/
def OpenStep.seedGotWith (o : OpenStep) (b : Sys2Proof.Blk) : List Nat := if o.seedGot.contains b.index then o.seedGot else b.index :: o.seedGot

/-- The block of a step's seed is tapped and counted in; where it differs from what stood there, that is noted (R280). -/
def Units.takeSeed (u : Units) (k : Nat) (x : Shard) (j : JobBind) (o : OpenStep) (b : Sys2Proof.Blk) : Units :=
  (u.tapBlock k x j b).upOpen k b.step fun p =>
    { p with seedGot := o.seedGotWith b,
             differ := if NMap.find x.table b.index ≠ some (blockEntry x j b.index b.data) then b.index :: p.differ else p.differ }

/-- The items of a step that await a seed to which this block belongs. -/
def OpenStep.awaiting (o : OpenStep) (x : Shard) (j : JobBind) (b : Sys2Proof.Blk) : List ShItem :=
  o.items.filter fun i => i.state = 3 && (itemBlocks x j o i).contains b.index

/-- The item's seed ends with this block. -/
def OpenStep.fills (o : OpenStep) (x : Shard) (j : JobBind) (b : Sys2Proof.Blk) (i : ShItem) : Bool :=
  i.state = 3 && (itemBlocks x j o i).all (b.index :: o.seedGot).contains

/-- The block of an item's seed is tapped and counted in, and ends the items that it fills (R275). -/
def Units.takeItemSeed (u : Units) (k : Nat) (x : Shard) (j : JobBind) (o : OpenStep) (b : Sys2Proof.Blk) : Units :=
  (u.tapBlock k x j b).upOpen k b.step fun p =>
    { p with seedGot := b.index :: o.seedGot,
             items := p.items.map fun i =>
               if o.fills x j b i then
                 { i with state := 4, fp := (sumL ((itemBlocks x j p i).map fun y => (NMap.getD ((u.tapBlock k x j b).shAt k).table y (0, 0)).2)) % fpP }
               else i }

/-- An item of the step awaits its seed still. -/
def Units.itemsAwait (u : Units) (k step : Nat) : Bool := ((u.shAt k).step? step).any fun o => o.items.any fun i => i.state = 3

section
variable {s : State} {l : Sys2Proof.LHdr} {b : Sys2Proof.Blk} {k : Nat} {x : Shard} {j : JobBind} (heard : s.hearsL l)
include heard

theorem fwdSeed_stackFailed (failed : s.u.mantle.stackFailed = true) : fwdSeed l b s.mem s.u = (s.mem, s.u) :=
  (if_neg (Bool.eq_false_iff.1 heard.1)).trans (if_pos failed)

variable (up : s.u.mantle.stackFailed = false) (bound : s.holds b.shard k x j)
include up bound

theorem fwdSeed_ignored (no : ¬x.storable b) : fwdSeed l b s.mem s.u = (s.mem, s.u) :=
  (lanternBlock_bound heard up bound).trans (if_pos (Bool.of_not_eq_false fun ok => no ((x.storable_iff b).1 ok)))

variable (sound : x.storable b)
include sound

theorem fwdSeed_stale (stranger : s.u.strangerSeeds x b.step l.src) : fwdSeed l b s.mem s.u = (s.mem, s.u.staleBlock) :=
  (lanternBlock_bound heard up bound).trans
    ((if_neg (Bool.eq_false_iff.1 ((x.storable_iff b).2 sound))).trans (if_pos ((s.u.strangerSeeds_iff x b.step l.src).2 stranger)))

variable (mine : ¬s.u.strangerSeeds x b.step l.src)
include mine

theorem fwdSeed_badCrc (crc : crc64 b.data ≠ b.crc) : fwdSeed l b s.mem s.u = (s.mem, (s.u.count 0x600220).wickEvent Ev.INTEGRITY_CRC) :=
  (lanternBlock_bound heard up bound).trans
    ((if_neg (Bool.eq_false_iff.1 ((x.storable_iff b).2 sound))).trans ((if_neg (mine ∘ (s.u.strangerSeeds_iff x b.step l.src).1)).trans (if_pos crc)))

variable (crc : crc64 b.data = b.crc)
include crc

/-- A block that is stored where it is due: for a step that is not open, for a step that is seeded, or for its items. -/
theorem fwdSeed_sound : fwdSeed l b s.mem s.u = (x.step? b.step).elim
    (if b.step = x.committed && x.curStep = some b.step && NMap.find x.table b.index = some (blockEntry x j b.index b.data) &&
        !(blockGood s.mem s.u x j x.stateRegion x.table b.index) then
      let r := putBlock s.mem s.u x.stateRegion b.index b.data none
      (r.1, (r.2.count 0x600230).later (.serveMore x.shard))
    else (s.mem, s.u))
    fun o =>
      let r := putBlock s.mem s.u x.stateRegion b.index b.data (s.u.srcOf x.job (x.members.getD o.seeder (0, 0)))
      if o.seeding then
        let u := r.2.takeSeed k x j o b
        (r.1, if x.layout ≤ (o.seedGotWith b).length then u.seedDone k b.step
          else if b.index + 1 = x.layout then u.askSeed k b.step o.choice else u)
      else if (o.awaiting x j b).isEmpty || o.seedGot.contains b.index then
        (s.mem, if b.index + 1 = x.layout && o.items.any (fun i => i.state = 3) then s.u.askSeed k b.step 0 else s.u)
      else
        let u := r.2.takeItemSeed k x j o b
        (r.1, ((if u.itemsAwait k b.step && b.index + 1 = x.layout then u.askSeed k b.step 0 else u).count 0x600488
          (o.items.filter (o.fills x j b)).length).itemsDone k b.step) := by
  refine (lanternBlock_bound heard up bound).trans
    ((if_neg (Bool.eq_false_iff.1 ((x.storable_iff b).2 sound))).trans ((if_neg (mine ∘ (s.u.strangerSeeds_iff x b.step l.src).1)).trans
      ((if_neg (· crc)).trans ?_)))
  cases x.step? b.step <;> rfl

section
variable (closed : x.step? b.step = none)
include closed

theorem fwdSeed_mends (mends : mendsBlock s.mem s.u x j b) : fwdSeed l b s.mem s.u =
    let r := putBlock s.mem s.u x.stateRegion b.index b.data none
    (r.1, (r.2.count 0x600230).later (.serveMore x.shard)) := by
  rw [fwdSeed_sound heard up bound sound mine crc, closed]
  exact if_pos ((mendsBlock_iff s.mem s.u x j b).2 mends)

theorem fwdSeed_mendsNot (no : ¬mendsBlock s.mem s.u x j b) : fwdSeed l b s.mem s.u = (s.mem, s.u) := by
  rw [fwdSeed_sound heard up bound sound mine crc, closed]
  exact if_neg (no ∘ (mendsBlock_iff s.mem s.u x j b).1)

end

variable {o : OpenStep} (opened : x.step? b.step = some o) {r : Mem × Units}
  (put : putBlock s.mem s.u x.stateRegion b.index b.data (s.u.srcOf x.job (x.members.getD o.seeder (0, 0))) = r)
include opened put

theorem fwdSeed_seeding (seeding : o.seeding = true) : fwdSeed l b s.mem s.u =
    (r.1, if x.layout ≤ (o.seedGotWith b).length then (r.2.takeSeed k x j o b).seedDone k b.step
      else if b.index + 1 = x.layout then (r.2.takeSeed k x j o b).askSeed k b.step o.choice else r.2.takeSeed k x j o b) := by
  rw [fwdSeed_sound heard up bound sound mine crc, opened, ← put]
  exact if_pos seeding

variable (seeded : o.seeding = false)
include seeded

omit put in
theorem fwdSeed_notAwaited (no : o.awaiting x j b = [] ∨ o.seedGot.contains b.index = true) : fwdSeed l b s.mem s.u =
    (s.mem, if b.index + 1 = x.layout ∧ ∃ i ∈ o.items, i.state = 3 then s.u.askSeed k b.step 0 else s.u) := by
  rw [fwdSeed_sound heard up bound sound mine crc, opened]
  refine (if_neg (Bool.eq_false_iff.1 seeded)).trans ((if_pos ?_).trans (congrArg (Prod.mk _) (if_congr ?_ rfl rfl)))
  · simpa only [Bool.or_eq_true, List.isEmpty_iff] using no
  · simp only [Bool.and_eq_true, decide_eq_true_eq, List.any_eq_true]

theorem fwdSeed_item (awaits : o.awaiting x j b ≠ []) (fresh : o.seedGot.contains b.index = false) : fwdSeed l b s.mem s.u =
    (r.1, ((if (r.2.takeItemSeed k x j o b).itemsAwait k b.step = true ∧ b.index + 1 = x.layout then
        (r.2.takeItemSeed k x j o b).askSeed k b.step 0 else r.2.takeItemSeed k x j o b).count 0x600488
      (o.items.filter (o.fills x j b)).length).itemsDone k b.step) := by
  rw [fwdSeed_sound heard up bound sound mine crc, opened, ← put]
  refine (if_neg (Bool.eq_false_iff.1 seeded)).trans ((if_neg ?_).trans
    (congrArg (fun u : Units => (_, (u.count 0x600488 _).itemsDone k b.step)) (if_congr ?_ rfl rfl)))
  · simp only [Bool.or_eq_true, List.isEmpty_iff, awaits, fresh, Bool.false_eq_true, or_self, not_false_iff]
  · simp only [Bool.and_eq_true, decide_eq_true_eq]

end

/-! FWD_REGION (R259) -/

/-- The block is one of an epoch that the buddy of a shard of mode 1 or 2 still takes. -/
def Shard.takesRegion (x : Shard) (j : JobBind) (b : Sys2Proof.Blk) : Prop :=
  x.storable b ∧ j.mode ≠ 0 ∧ x.committed < b.step ∧ ∀ o, x.step? b.step = some o → o.state < 4

theorem Shard.takesRegion_iff (x : Shard) (j : JobBind) (b : Sys2Proof.Blk) :
    (!x.isBuddy || j.mode = 0 || Blk.bad b || x.layout ≤ b.index || b.step ≤ x.committed || (x.step? b.step).any (fun o => 4 ≤ o.state)) = false ↔
      x.takesRegion j b := by
  simp only [Shard.takesRegion, Shard.storable, Bool.or_eq_false_iff, Bool.not_eq_false', decide_eq_false_iff_not, Nat.not_le, Option.any_eq_false,
    ne_eq]
  tauto

/-- The region that does not hold the last verified state. -/
def Shard.spareRegion (x : Shard) : Nat := if x.curStep.isSome && x.cur = 0 then x.region2 else x.bRegion

/-- The block's entry joins the check table of the epoch; the first one begins the epoch. -/
def Shard.tapRegion (s : Shard) (b : Sys2Proof.Blk) (first : Bool) (e : Nat × Nat) : Shard :=
  { (if first then { (s.dropEpoch.begin b.step 1) with prevStep := none } else s) with
    table2 := NMap.set (if first then [] else s.table2) b.index e }

/-- The block is counted in, once. -/
def Units.countRegion (u : Units) (k : Nat) (x : Shard) (b : Sys2Proof.Blk) : Units :=
  let v := u.upOpen k b.step fun o =>
    { o with got := if o.got.contains b.index then o.got else b.index :: o.got, gotLast := o.gotLast || bitAt b.flags 0 }
  if ((x.step? b.step).map fun o => o.got.contains b.index).getD false then v else v.count 0x600210

/-- The block of an epoch is tapped and counted in. -/
def Units.takeRegion (u : Units) (k : Nat) (x : Shard) (j : JobBind) (b : Sys2Proof.Blk) : Units :=
  (u.upSh k fun s => s.tapRegion b (x.step? b.step).isNone (blockEntry x j b.index b.data)).countRegion k x b

/-- Every block of the epoch is in, and for mode 2 the flagged one. -/
def Units.epochWhole (u : Units) (k : Nat) (x : Shard) (j : JobBind) (step : Nat) : Bool :=
  match (u.shAt k).step? step with
  | some o => x.layout ≤ o.got.length && (j.mode = 1 || o.gotLast)
  | none => false

theorem Units.epochWhole_iff (u : Units) (k : Nat) (x : Shard) (j : JobBind) (step : Nat) : u.epochWhole k x j step = true ↔
    ∃ o, (u.shAt k).step? step = some o ∧ x.layout ≤ o.got.length ∧ (j.mode = 1 ∨ o.gotLast = true) := by
  unfold Units.epochWhole
  cases (u.shAt k).step? step with
  | none => simp only [Bool.false_eq_true, reduceCtorEq, false_and, exists_false]
  | some o => simp only [Bool.and_eq_true, Bool.or_eq_true, decide_eq_true_eq, Option.some.injEq, exists_eq_left']

/-- The epoch is stored, and is to be read back. -/
def Units.endEpoch (u : Units) (k step : Nat) : Units :=
  ((u.upOpen k step fun o => { o with shadowFp := tableSum (u.shAt k).table2, state := 4, readDone := false }).writeA k step 4).releaseRecs k step

section
variable {s : State} {l : Sys2Proof.LHdr} {b : Sys2Proof.Blk} {k : Nat} {x : Shard} {j : JobBind} (heard : s.hearsL l)
include heard

theorem fwdRegion_stackFailed (failed : s.u.mantle.stackFailed = true) : fwdRegion l b s.mem s.u = (s.mem, s.u) :=
  (if_neg (Bool.eq_false_iff.1 heard.1)).trans (if_pos failed)

variable (up : s.u.mantle.stackFailed = false) (bound : s.holds b.shard k x j)
include up bound

theorem fwdRegion_ignored (no : ¬x.takesRegion j b) : fwdRegion l b s.mem s.u = (s.mem, s.u) :=
  (lanternBlock_bound heard up bound).trans (if_pos (Bool.of_not_eq_false fun ok => no ((x.takesRegion_iff j b).1 ok)))

variable (takes : x.takesRegion j b)
include takes

/-- A block that the buddy takes, by its sender and its CRC-64. -/
theorem fwdRegion_takes : fwdRegion l b s.mem s.u =
    if !(s.u.fromReplica x x.writer l.src) then (s.mem, s.u.staleBlock)
    else if crc64 b.data ≠ b.crc then (s.mem, (s.u.count 0x600220).wickEvent Ev.INTEGRITY_CRC)
    else
      let r := putBlock s.mem s.u x.spareRegion b.index b.data (s.u.srcOf x.job (x.members.getD x.writer (0, 0)))
      let u := r.2.takeRegion k x j b
      (r.1, if u.epochWhole k x j b.step then u.endEpoch k b.step else u) := by
  have entry : (putBlock s.mem s.u x.spareRegion b.index b.data (s.u.srcOf x.job (x.members.getD x.writer (0, 0)))).2.shAt k = x :=
    (Units.shAt_putBlock ..).trans (State.holds_shAt bound)
  dsimp only
  rw [Units.takeRegion, ← Units.upSh_congr (f := fun s => s.tapRegion b (x.step? b.step).isNone (blockEntry s j b.index b.data)) (by rw [entry])]
  exact (lanternBlock_bound heard up bound).trans (if_neg (Bool.eq_false_iff.1 ((x.takesRegion_iff j b).2 takes)))

theorem fwdRegion_stale (other : s.u.fromReplica x x.writer l.src = false) : fwdRegion l b s.mem s.u = (s.mem, s.u.staleBlock) :=
  (fwdRegion_takes heard up bound takes).trans (if_pos (by simp [other]))

variable (mine : s.u.fromReplica x x.writer l.src = true)
include mine

theorem fwdRegion_badCrc (crc : crc64 b.data ≠ b.crc) : fwdRegion l b s.mem s.u = (s.mem, (s.u.count 0x600220).wickEvent Ev.INTEGRITY_CRC) :=
  (fwdRegion_takes heard up bound takes).trans ((if_neg (by simp [mine])).trans (if_pos crc))

variable (crc : crc64 b.data = b.crc) {r : Mem × Units}
  (put : putBlock s.mem s.u x.spareRegion b.index b.data (s.u.srcOf x.job (x.members.getD x.writer (0, 0))) = r)
include crc put

theorem fwdRegion_more (more : (r.2.takeRegion k x j b).epochWhole k x j b.step = false) :
    fwdRegion l b s.mem s.u = (r.1, r.2.takeRegion k x j b) := by
  subst put
  exact (fwdRegion_takes heard up bound takes).trans ((if_neg (by simp [mine])).trans ((if_neg (· crc)).trans
    (congrArg (Prod.mk _) (if_neg (Bool.eq_false_iff.1 more)))))

theorem fwdRegion_whole (whole : (r.2.takeRegion k x j b).epochWhole k x j b.step = true) :
    fwdRegion l b s.mem s.u = (r.1, (r.2.takeRegion k x j b).endEpoch k b.step) := by
  subst put
  exact (fwdRegion_takes heard up bound takes).trans ((if_neg (by simp [mine])).trans ((if_neg (· crc)).trans
    (congrArg (Prod.mk _) (if_pos whole))))

end

/-! READBACK_COMPLETE and a record that is missing (R251, R252) -/

/-- The buddy has shadowed the step and is to read it back. -/
def OpenStep.toRead (o : OpenStep) (x : Shard) : Prop := x.isBuddy = true ∧ o.state = 4 ∧ o.readDone = false ∧ o.seeding = false

theorem OpenStep.toRead_iff (o : OpenStep) (x : Shard) : (!x.isBuddy || o.state ≠ 4 || o.readDone || o.seeding) = false ↔ o.toRead x := by
  simp only [OpenStep.toRead, Bool.or_eq_false_iff, Bool.not_eq_false', decide_eq_false_iff_not, ne_eq, Decidable.not_not, and_assoc]

/-- The check table that a step is read back against. -/
def Shard.readTable (x : Shard) (j : JobBind) : NMap (Nat × Nat) := if j.mode = 0 then x.table else x.table2

/-- The blocks of the step that differ from their check entries. -/
def badBlocks (m : Mem) (u : Units) (x : Shard) (j : JobBind) (o : OpenStep) : List Nat :=
  (if j.mode = 0 then o.written x j else List.range x.layout).filter fun b =>
    !(blockGood m u x j (if j.mode = 0 then x.bRegion else x.spareRegion) (x.readTable j) b)

/-- The step lacks a record for which it waits in the shadow. -/
def OpenStep.lacksRec (o : OpenStep) (x : Shard) : Prop := x.isBuddy = true ∧ 3 ≤ o.state ∧ o.state < 5 ∧ o.allRecs x = false

theorem OpenStep.lacksRec_iff (o : OpenStep) (x : Shard) : (!x.isBuddy || o.state < 3 || 5 ≤ o.state || o.allRecs x) = false ↔ o.lacksRec x := by
  simp only [OpenStep.lacksRec, Bool.or_eq_false_iff, Bool.not_eq_false', decide_eq_false_iff_not, Nat.not_lt, Nat.not_le, and_assoc]

section
variable {s : State} {shard k step : Nat} {x : Shard} {j : JobBind} (bound : s.holds shard k x j)
include bound

theorem readbackComplete_notOpen (closed : x.step? step = none) : readbackComplete shard step s.mem s.u = (s.mem, s.u) := by
  rw [readbackComplete, withSh_holds bound, closed]

theorem stepRecordWaitExpiry_notOpen (closed : x.step? step = none) : stepRecordWaitExpiry shard step s.u = s.u := by
  rw [stepRecordWaitExpiry, withSh_holds bound, closed]

variable {o : OpenStep} (opened : x.step? step = some o)
include opened

theorem readbackComplete_ignored (no : ¬o.toRead x) : readbackComplete shard step s.mem s.u = (s.mem, s.u) := by
  rw [readbackComplete, withSh_holds bound, opened]
  exact if_pos (Bool.of_not_eq_false fun reads => no ((o.toRead_iff x).1 reads))

theorem stepRecordWaitExpiry_ignored (no : ¬o.lacksRec x) : stepRecordWaitExpiry shard step s.u = s.u := by
  rw [stepRecordWaitExpiry, withSh_holds bound, opened]
  exact if_pos (Bool.of_not_eq_false fun lacks => no ((o.lacksRec_iff x).1 lacks))

theorem stepRecordWaitExpiry_missing (lacks : o.lacksRec x) : stepRecordWaitExpiry shard step s.u =
    ((s.u.upOpen k step fun o => { o with recWait := true }).wickEvent Ev.WICK_RECORD_MISSING).verifyStep k step := by
  rw [stepRecordWaitExpiry, withSh_holds bound, opened]
  exact if_neg (Bool.eq_false_iff.1 ((o.lacksRec_iff x).2 lacks))

variable (reads : o.toRead x)
include reads

/-- The step is read back, by the blocks that differ from their check entries. -/
theorem readbackComplete_reads : readbackComplete shard step s.mem s.u =
    if (badBlocks s.mem s.u x j o).isEmpty then
      (s.mem, (s.u.upOpen k step fun o =>
        { o with readDone := true, shadowFp := if o.seeded then tableSum (x.readTable j) else o.shadowFp }).verifyStep k step)
    else
      let u := (s.u.count 0x600238 (badBlocks s.mem s.u x j o).length).wickEvent Ev.READBACK_MISMATCH
      (s.mem, if j.mode = 0 then u.startSeed k step 0 else u.upSh k Shard.dropEpoch) := by
  rw [readbackComplete, withSh_holds bound, opened]
  exact if_neg (Bool.eq_false_iff.1 ((o.toRead_iff x).2 reads))

theorem readbackComplete_good (good : badBlocks s.mem s.u x j o = []) : readbackComplete shard step s.mem s.u =
    (s.mem, (s.u.upOpen k step fun o =>
      { o with readDone := true, shadowFp := if o.seeded then tableSum (x.readTable j) else o.shadowFp }).verifyStep k step) :=
  (readbackComplete_reads bound opened reads).trans (if_pos (List.isEmpty_iff.2 good))

variable (bad : badBlocks s.mem s.u x j o ≠ [])
include bad

theorem readbackComplete_seeds (mode : j.mode = 0) : readbackComplete shard step s.mem s.u =
    (s.mem, ((s.u.count 0x600238 (badBlocks s.mem s.u x j o).length).wickEvent Ev.READBACK_MISMATCH).startSeed k step 0) :=
  (readbackComplete_reads bound opened reads).trans ((if_neg (bad ∘ List.isEmpty_iff.1)).trans (congrArg (Prod.mk _) (if_pos mode)))

theorem readbackComplete_drops (mode : j.mode ≠ 0) : readbackComplete shard step s.mem s.u =
    (s.mem, ((s.u.count 0x600238 (badBlocks s.mem s.u x j o).length).wickEvent Ev.READBACK_MISMATCH).upSh k Shard.dropEpoch) :=
  (readbackComplete_reads bound opened reads).trans ((if_neg (bad ∘ List.isEmpty_iff.1)).trans (congrArg (Prod.mk _) (if_neg mode)))

end

/-! COMMIT_ACK and its timer (R254) -/

section
variable {u : Units} {k step : Nat} {o : OpenStep} (opened : (u.shAt k).step? step = some o)
include opened

/-- COMMIT_REC of an open step, sent again. -/
theorem Units.resendRec_open : u.resendRec k step =
    if o.state ≠ 5 || o.stalled then u
    else if o.sends < 4 then (u.upOpen k step fun o => { o with sends := o.sends + 1 }).sendRec k step 6
    else (u.upOpen k step fun o => { o with stalled := true }).wickEvent Ev.WICK_COMMIT_STALLED := by
  rw [Units.resendRec, opened]

theorem Units.resendRec_ends (ended : o.state ≠ 5 ∨ o.stalled = true) : u.resendRec k step = u :=
  (Units.resendRec_open opened).trans (if_pos (by simpa using ended))

variable (verified : o.state = 5) (waits : o.stalled = false)
include verified waits

theorem Units.resendRec_again (left : o.sends < 4) :
    u.resendRec k step = (u.upOpen k step fun o => { o with sends := o.sends + 1 }).sendRec k step 6 :=
  (Units.resendRec_open opened).trans ((if_neg (by simp [verified, waits])).trans (if_pos left))

theorem Units.resendRec_stalls (spent : 4 ≤ o.sends) :
    u.resendRec k step = (u.upOpen k step fun o => { o with stalled := true }).wickEvent Ev.WICK_COMMIT_STALLED :=
  (Units.resendRec_open opened).trans ((if_neg (by simp [verified, waits])).trans (if_neg (Nat.not_lt.2 spent)))

end

section
variable {s : State} {l : Sys2Proof.LHdr} {shard k step status : Nat} {x : Shard} {j : JobBind} (bound : s.holds shard k x j)
include bound

theorem commitAckWaitExpiry_buddy (buddy : x.isBuddy = true) : commitAckWaitExpiry shard step s.u = s.u.resendRec k step :=
  (withSh_holds bound _ _).trans (if_pos buddy)

theorem commitAckWaitExpiry_source (source : x.isBuddy = false) : commitAckWaitExpiry shard step s.u = s.u :=
  (withSh_holds bound _ _).trans (if_neg (Bool.eq_false_iff.1 source))

variable (heard : s.hearsL l)
include heard

theorem commitAck_notOpen (closed : x.step? step = none) : commitAck l step shard status s.mem s.u = (s.mem, s.u) := by
  rw [commitAck, if_neg (Bool.eq_false_iff.1 heard.1), withSh_holds bound, closed]

variable {o : OpenStep} (opened : x.step? step = some o)
include opened

/-- COMMIT_ACK of an open step. -/
theorem commitAck_open : commitAck l step shard status s.mem s.u =
    if !x.isBuddy || o.state ≠ 5 then (s.mem, s.u)
    else if status = St.OK then commitStep s.mem s.u k step else (s.mem, s.u.resendRec k step) := by
  rw [commitAck, if_neg (Bool.eq_false_iff.1 heard.1), withSh_holds bound, opened]

theorem commitAck_ignored (no : x.isBuddy = false ∨ o.state ≠ 5) : commitAck l step shard status s.mem s.u = (s.mem, s.u) :=
  (commitAck_open bound heard opened).trans (if_pos (by simpa using no))

variable (buddy : x.isBuddy = true) (verified : o.state = 5)
include buddy verified

theorem commitAck_commits (good : status = St.OK) : commitAck l step shard status s.mem s.u = commitStep s.mem s.u k step :=
  (commitAck_open bound heard opened).trans ((if_neg (by simp [buddy, verified])).trans (if_pos good))

theorem commitAck_failed (bad : status ≠ St.OK) : commitAck l step shard status s.mem s.u = (s.mem, s.u.resendRec k step) :=
  (commitAck_open bound heard opened).trans ((if_neg (by simp [buddy, verified])).trans (if_neg bad))

end

/-! COMMIT_REC at the source (R19, R254, R280) -/

/-- The source of a gated job has not recorded APPLY_GO for the step, which skips no state (R19). -/
def JobBind.beforeGo (j : JobBind) (x : Shard) (step : Nat) : Prop := j.gated = true ∧ ∃ o, x.step? step = some o ∧ o.state < 3

theorem JobBind.beforeGo_iff (j : JobBind) (x : Shard) (step : Nat) :
    (j.gated && (x.step? step).any (fun o => o.state < 3)) = true ↔ j.beforeGo x step := by
  simp only [JobBind.beforeGo, Bool.and_eq_true, Option.any_eq_true, decide_eq_true_eq]

/-- The source keeps what the buddy tells of a step that is not yet COMMITTED. -/
def Units.takeLower (u : Units) (k : Nat) (r : CommitRec) : Units :=
  (u.upOpen k r.step fun o =>
    { o with state := if o.state < 3 then o.state else max o.state r.state, ahead := r.state, verdict := b2n (bitAt r.flags 3) }).upSh k fun s =>
    { s with recB := s.recB.map fun x => if x.step = r.step then { x with flags := setBits x.flags 3 3 (b2n (bitAt r.flags 3)) } else x }

/-- The source writes copy B of a COMMITTED step, which ends there. -/
def Units.writeCommitted (u : Units) (k : Nat) (r : CommitRec) : Units :=
  u.upSh k fun s =>
    { s with recB := putRec s.recB r, opens := s.opens.filter (fun o => o.step ≠ r.step), committed := max s.committed r.step,
             prot := if s.prot = 2 then 0 else s.prot,
             incoming := match s.incoming with | some x => if x.1 = r.step then none else some x | none => none }

section
variable {s : State} {l : Sys2Proof.LHdr} {r : CommitRec} {k : Nat} {x : Shard} {j : JobBind} {ok : Bool} (heard : s.hearsL l)
  (bound : s.holds r.shard k x j)
include heard bound

/-- COMMIT_REC, by its state, its CRC-64 and whether the source has recorded APPLY_GO. -/
theorem commitRec_bound : commitRec l r ok s.u =
    if r.state < 6 then (s.u.takeLower k r).grantStep k
    else if !ok then s.u.reqL l.src 0x07 16 2 [r.step, r.shard, St.INTEGRITY_CRC]
    else if j.gated && (x.step? r.step).any (fun o => o.state < 3) then s.u
    else (((s.u.writeCommitted k r).reqL l.src 0x07 16 2 [r.step, r.shard, St.OK]).grantStep k).gateCheck x.job :=
  (recvL_hears heard _ _ _).trans (withSh_holds bound _ _)

theorem commitRec_lower (lower : r.state < 6) : commitRec l r ok s.u = (s.u.takeLower k r).grantStep k :=
  (commitRec_bound heard bound).trans (if_pos lower)

variable (committed : 6 ≤ r.state)
include committed

theorem commitRec_badCrc (bad : ok = false) : commitRec l r ok s.u = s.u.reqL l.src 0x07 16 2 [r.step, r.shard, St.INTEGRITY_CRC] :=
  (commitRec_bound heard bound).trans ((if_neg (Nat.not_lt.2 committed)).trans (if_pos (by simp [bad])))

variable (good : ok = true)
include good

theorem commitRec_early (early : j.beforeGo x r.step) : commitRec l r ok s.u = s.u :=
  (commitRec_bound heard bound).trans ((if_neg (Nat.not_lt.2 committed)).trans ((if_neg (by simp [good])).trans
    (if_pos ((j.beforeGo_iff x r.step).2 early))))

theorem commitRec_commits (due : ¬j.beforeGo x r.step) : commitRec l r ok s.u =
    (((s.u.writeCommitted k r).reqL l.src 0x07 16 2 [r.step, r.shard, St.OK]).grantStep k).gateCheck x.job :=
  (commitRec_bound heard bound).trans ((if_neg (Nat.not_lt.2 committed)).trans ((if_neg (by simp [good])).trans
    (if_neg (due ∘ (j.beforeGo_iff x r.step).1))))

end

/-! SEED_REQ and BLOCK_FETCH (R256, R257) -/

/-- The buddy holds the block of the committed step. -/
def Shard.hasBlock (x : Shard) (j : JobBind) (step block : Nat) : Prop := x.isBuddy = true ∧ x.holds j.mode step = true ∧ block < x.layout

theorem Shard.hasBlock_iff (x : Shard) (j : JobBind) (step block : Nat) :
    (x.isBuddy && x.holds j.mode step && block < x.layout) = true ↔ x.hasBlock j step block := by
  simp only [Shard.hasBlock, Bool.and_eq_true, decide_eq_true_eq, and_assoc]

/-- The block of a step in the answer to BLOCK_FETCH. -/
def Units.sendFetched (u : Units) (l : Sys2Proof.LHdr) (shard block step : Nat) (d : List Nat) : Units :=
  u.answerL l.src 0x02 l.seq (32 + d.length) 2
    (Blk.fields { step := step, shard := shard, index := block, fmt := 0x20, flags := 0, valid := d.length, tag := 0, crc := crc64 d, data := d })

/-- The durable snapshot of the step. -/
def Shard.snapOf (x : Shard) (step : Nat) : Option Snap := x.durable.find? fun y => y.man.step = step

/-- The step's data block that stands in transit. -/
def Shard.inTransitAt (x : Shard) (step block : Nat) : Option (Nat × Sys2Proof.Blk) :=
  (x.step? step).bind fun o => o.transit.find? fun x => x.2.index = block && x.2.fmt ≠ 0x10

/-- A T3 without a copy of the step has its local replica seed it where it is the one released last. -/
def Units.seedFetched (u : Units) (k step dst : Nat) (x : Shard) (j : JobBind) : Units :=
  (u.localReplica x).elim u fun i => if j.gated && j.released = step then u.serveSeed k (i + 1) step dst else u

section
variable {s : State} {l : Sys2Proof.LHdr} {shard k block step : Nat} {x : Shard} {j : JobBind} (heard : s.hearsL l) (bound : s.holds shard k x j)
include heard bound

theorem seedReq_serves : seedReq l shard step s.u = s.u.serveSeed k 0 step l.src := (recvL_hears heard _ _ _).trans (withSh_holds bound _ _)

theorem blockFetch_bound : blockFetch l shard block step s.mem s.u =
    if x.isBuddy && x.holds j.mode step && block < x.layout then
      (readBlock s.mem s.u k block).2.elim (readBlock s.mem s.u k block).1 fun d =>
        ((readBlock s.mem s.u k block).1.1, (readBlock s.mem s.u k block).1.2.sendFetched l shard block step d)
    else (s.mem, (x.snapOf step).elim
      ((x.inTransitAt step block).elim (s.u.seedFetched k step l.src x j) fun y => s.u.sendBlk l.src 0x02 (inTransit s.mem s.u y))
      fun y => s.u.sendFetched l shard block step (y.blocks.getD block [])) := by
  refine (if_neg (Bool.eq_false_iff.1 heard.1)).trans ((withSh_holds bound _ _).trans (if_congr Iff.rfl ?held ?other))
  case held =>
    dsimp only
    cases (readBlock s.mem s.u k block).2 <;> rfl
  case other =>
    unfold Shard.snapOf Shard.inTransitAt Units.seedFetched
    cases x.durable.find? fun y => y.man.step = step with
    | some y => rfl
    | none =>
      cases (x.step? step).bind fun o => o.transit.find? fun x => x.2.index = block && x.2.fmt ≠ 0x10 with
      | some y => rfl
      | none => cases s.u.localReplica x <;> rfl

section
variable (has : x.hasBlock j step block)
include has

theorem blockFetch_sends {d : List Nat} (read : (readBlock s.mem s.u k block).2 = some d) : blockFetch l shard block step s.mem s.u =
    ((readBlock s.mem s.u k block).1.1, (readBlock s.mem s.u k block).1.2.sendFetched l shard block step d) := by
  rw [blockFetch_bound heard bound, read]
  exact if_pos ((x.hasBlock_iff j step block).2 has)

theorem blockFetch_unread (lost : (readBlock s.mem s.u k block).2 = none) :
    blockFetch l shard block step s.mem s.u = (readBlock s.mem s.u k block).1 := by
  rw [blockFetch_bound heard bound, lost]
  exact if_pos ((x.hasBlock_iff j step block).2 has)

end

variable (no : ¬x.hasBlock j step block)
include no

theorem blockFetch_snapshot {y : Snap} (snap : x.snapOf step = some y) :
    blockFetch l shard block step s.mem s.u = (s.mem, s.u.sendFetched l shard block step (y.blocks.getD block [])) := by
  rw [blockFetch_bound heard bound, snap]
  exact if_neg (no ∘ (x.hasBlock_iff j step block).1)

variable (unsaved : x.snapOf step = none)
include unsaved

theorem blockFetch_transit {y : Nat × Sys2Proof.Blk} (moves : x.inTransitAt step block = some y) :
    blockFetch l shard block step s.mem s.u = (s.mem, s.u.sendBlk l.src 0x02 (inTransit s.mem s.u y)) := by
  rw [blockFetch_bound heard bound, unsaved, moves]
  exact if_neg (no ∘ (x.hasBlock_iff j step block).1)

variable (gone : x.inTransitAt step block = none)
include gone

theorem blockFetch_noCopy : blockFetch l shard block step s.mem s.u = (s.mem, s.u.seedFetched k step l.src x j) := by
  rw [blockFetch_bound heard bound, unsaved, gone]
  exact if_neg (no ∘ (x.hasBlock_iff j step block).1)

theorem blockFetch_seeds {i : Nat} (replica : s.u.localReplica x = some i) (gated : j.gated = true) (released : j.released = step) :
    blockFetch l shard block step s.mem s.u = (s.mem, s.u.serveSeed k (i + 1) step l.src) := by
  rw [blockFetch_noCopy heard bound no unsaved gone, Units.seedFetched, replica]
  exact congrArg (Prod.mk _) (if_pos (by simp [gated, released]))

theorem blockFetch_ignored (none : s.u.localReplica x = none ∨ j.gated = false ∨ j.released ≠ step) :
    blockFetch l shard block step s.mem s.u = (s.mem, s.u) := by
  rw [blockFetch_noCopy heard bound no unsaved gone, Units.seedFetched]
  cases replica : s.u.localReplica x with
  | none => rfl
  | some i =>
    have held : j.gated = false ∨ j.released ≠ step := none.resolve_left (by simp [replica])
    exact congrArg (Prod.mk _) (if_neg (by simpa [Decidable.imp_iff_not_or] using held))

end

/-! SNAPSHOT_DURABLE (R262 to R264) -/

/-- The snapshot was read back whole; that of a spilled shard matches the writer's record too. -/
def Units.snapSound (u : Units) (x : Shard) (y : Snap) (step : Nat) (ok : Bool) : Prop :=
  ok = true ∧ y.whole = true ∧ (x.prot = 3 → u.writerFp x step = some y.man.postFp)

theorem Units.snapSound_iff (u : Units) (x : Shard) (y : Snap) (step : Nat) (ok : Bool) :
    (!ok || !y.whole || (x.prot = 3 && !(u.writerFp x step = some y.man.postFp))) = false ↔ u.snapSound x y step ok := by
  simp only [Units.snapSound, Bool.or_eq_false_iff, Bool.not_eq_false', Bool.and_eq_false_imp, decide_eq_true_eq, and_assoc]

/-- The snapshot that is not sound is dropped; one that was due is due again. -/
def Units.dropSnapshot (u : Units) (k : Nat) : Units := u.upSh k fun s => { s with snap := none, snapDue := if s.snapDue = 2 then 1 else s.snapDue }

/-- The record of a step whose snapshot is durable says so. -/
def markDurable (step : Nat) (r : CommitRec) : CommitRec := if r.step = step then { r with flags := setBit r.flags 6 } else r

/-- The sound snapshot joins the durable ones, in the records of both copies. -/
def Units.keepSnapshot (u : Units) (k : Nat) (x : Shard) (y : Snap) (step : Nat) : Units :=
  let v := ((u.upSh k fun s =>
    { s with snap := none, snapDue := if s.snapDue = 2 then 0 else s.snapDue, durable := (y :: s.durable).take 2,
             recA := s.recA.map (markDurable step), recB := s.recB.map (markDurable step) }).count 0x600250).wickEvent Ev.WICK_SNAPSHOT_DURABLE
  if x.isBuddy then v.sendRec k step 6 else v

/-- WICK_SNAPSHOT_NOW completes once no shard of the job owes a snapshot (R260). -/
def Units.endSnapNow (u : Units) (x : Shard) (j : JobBind) : Units :=
  if (u.shardsOf x.job).all (fun i => (u.shAt i).snapDue = 0) then
    (u.doneAll j.snapNow 0x0605 St.OK 0).upJob x.job fun j => { j with snapNow := [] }
  else u

/-- What still goes to the host of an earlier snapshot is abandoned for the new one (R263). -/
def Units.abandonExport (u : Units) (x : Shard) : Units := if x.expo.isSome then u.wickEvent Ev.WICK_EXPORT_ABANDONED else u

/-- The step's snapshot goes to the host by the job's outbound ring, where there is one. -/
def Units.startExport (u : Units) (k : Nat) (x : Shard) (step : Nat) : Units :=
  match u.exportRingOf x.job with
  | some r => (u.upSh k fun s => { s with expo := some (step, 0, r) }).exportPump k
  | none => u.upSh k fun s => { s with expo := none }

section
variable {s : State} {shard k step : Nat} {x : Shard} {j : JobBind} {ok : Bool} (bound : s.holds shard k x j)
include bound

theorem snapshotDurable_none (none : x.snap = none) : snapshotDurable shard step ok s.u = s.u := by
  rw [snapshotDurable, withSh_holds bound, none]

variable {y : Snap} (snap : x.snap = some y)
include snap

theorem snapshotDurable_other (other : y.man.step ≠ step) : snapshotDurable shard step ok s.u = s.u := by
  rw [snapshotDurable, withSh_holds bound, snap]
  exact if_pos other

variable (same : y.man.step = step)
include same

theorem snapshotDurable_dropped (bad : ¬s.u.snapSound x y step ok) : snapshotDurable shard step ok s.u = s.u.dropSnapshot k := by
  rw [snapshotDurable, withSh_holds bound, snap]
  exact (if_neg (· same)).trans (if_pos (Bool.of_not_eq_false fun sound => bad ((s.u.snapSound_iff x y step ok).1 sound)))

variable (sound : s.u.snapSound x y step ok)
include sound

/-- A sound snapshot is durable; in a job whose snapshots go to the host it goes there too. -/
theorem snapshotDurable_kept : snapshotDurable shard step ok s.u =
    if bitAt j.flags 1 then (((s.u.keepSnapshot k x y step).endSnapNow x j).abandonExport x).startExport k x step
    else (s.u.keepSnapshot k x y step).endSnapNow x j := by
  rw [snapshotDurable, withSh_holds bound, snap]
  exact (if_neg (· same)).trans (if_neg (Bool.eq_false_iff.1 ((s.u.snapSound_iff x y step ok).2 sound)))

theorem snapshotDurable_notExported (off : bitAt j.flags 1 = false) :
    snapshotDurable shard step ok s.u = (s.u.keepSnapshot k x y step).endSnapNow x j :=
  (snapshotDurable_kept bound snap same sound).trans (if_neg (Bool.eq_false_iff.1 off))

variable (on : bitAt j.flags 1 = true) {v : Units} (kept : ((s.u.keepSnapshot k x y step).endSnapNow x j).abandonExport x = v)
include on kept

theorem snapshotDurable_exported {r : Nat} (ring : v.exportRingOf x.job = some r) :
    snapshotDurable shard step ok s.u = (v.upSh k fun s => { s with expo := some (step, 0, r) }).exportPump k := by
  rw [snapshotDurable_kept bound snap same sound, kept, if_pos on, Units.startExport, ring]

theorem snapshotDurable_noRing (ring : v.exportRingOf x.job = none) :
    snapshotDurable shard step ok s.u = v.upSh k fun s => { s with expo := none } := by
  rw [snapshotDurable_kept bound snap same sound, kept, if_pos on, Units.startExport, ring]

end

/-! The statement -/

/-- Settles O48: each clause is what its command's branch comes to, by the lemmas above. -/
theorem wickVerifiesCommitsAndSeeds : Obligations.WickVerifiesCommitsAndSeeds := by
  unfold Obligations.WickVerifiesCommitsAndSeeds
  intro s l shard k x j step
  refine ⟨?record, ?blocks, ?closed, ?verify, ?commitRec, ?copies, ?snapshot, State.runUWick_of_eq rfl⟩
  case record =>
    intro r cid ctx heard
    exact ⟨State.runWick_of_units (stepFwd_badCrc heard), fun bound =>
      ⟨fun buddy => State.runWick_of_eq (stepFwd_buddy heard bound buddy),
       fun source away => State.runWick_of_units (stepFwd_elsewhere heard bound source away),
       fun p d source here => State.runWick_of_units (stepFwd_reload heard bound source here)⟩⟩
  case blocks =>
    intro b heard
    refine ⟨fun failed => ⟨State.runWick_of_units (fwdSeed_stackFailed heard failed), State.runWick_of_units (fwdRegion_stackFailed heard failed)⟩,
      fun up bound => ⟨?ignored, ?notOpen, ?badCrc, ?seed, ?region⟩⟩
    case ignored => exact fun no => State.runWick_of_units (fwdSeed_ignored heard up bound no)
    case notOpen =>
      intro sound closed crc
      have mine : ¬s.u.strangerSeeds x b.step l.src := fun ⟨o, opened, _⟩ => by simp [closed] at opened
      exact ⟨fun mends => State.runWick_of_eq (fwdSeed_mends heard up bound sound mine crc closed mends),
        fun no => State.runWick_of_units (fwdSeed_mendsNot heard up bound sound mine crc closed no)⟩
    case badCrc => exact fun sound mine crc => State.runWick_of_units (fwdSeed_badCrc heard up bound sound mine crc)
    case seed =>
      intro o sound opened
      refine ⟨fun seeding other => State.runWick_of_units (fwdSeed_stale heard up bound sound ⟨o, opened, seeding, other⟩), ?seeding, ?items⟩
      case seeding =>
        intro seeding from_ crc
        have mine : ¬s.u.strangerSeeds x b.step l.src := Units.not_strangerSeeds opened fun _ => from_
        have taken := fwdSeed_seeding heard up bound sound mine crc opened rfl seeding
        exact ⟨fun whole => State.runWick_of_eq (taken.trans (congrArg (Prod.mk _) (if_pos whole))),
          fun more last => State.runWick_of_eq (taken.trans (congrArg (Prod.mk _) ((if_neg (Nat.not_le.2 more)).trans (if_pos last)))),
          fun more no => State.runWick_of_eq (taken.trans (congrArg (Prod.mk _) ((if_neg (Nat.not_le.2 more)).trans (if_neg no))))⟩
      case items =>
        intro seeded crc
        have mine : ¬s.u.strangerSeeds x b.step l.src := Units.not_strangerSeeds opened fun seeding => by simp [seeded] at seeding
        exact ⟨fun no => State.runWick_of_units (fwdSeed_notAwaited heard up bound sound mine crc opened seeded no),
          fun awaits fresh => State.runWick_of_eq (fwdSeed_item heard up bound sound mine crc opened rfl seeded awaits fresh)⟩
    case region =>
      exact ⟨fun no => State.runWick_of_units (fwdRegion_ignored heard up bound no),
        fun takes other => State.runWick_of_units (fwdRegion_stale heard up bound takes other),
        fun takes mine crc => State.runWick_of_units (fwdRegion_badCrc heard up bound takes mine crc), fun takes mine crc =>
          ⟨fun more => State.runWick_of_eq (fwdRegion_more heard up bound takes mine crc rfl
            (Bool.eq_false_iff.2 (more ∘ (Units.epochWhole_iff ..).1))),
           fun whole => State.runWick_of_eq (fwdRegion_whole heard up bound takes mine crc rfl ((Units.epochWhole_iff ..).2 whole))⟩⟩
  case closed =>
    exact fun bound closed => ⟨State.runWick_of_units (readbackComplete_notOpen bound closed),
      State.runUWick_of_eq (stepRecordWaitExpiry_notOpen bound closed),
      fun heard st => State.runWick_of_units (commitAck_notOpen bound heard closed)⟩
  case verify =>
    intro o bound opened
    refine ⟨?readback, ?missing, ?ack, fun buddy => ?timer, fun source => State.runUWick_of_eq (commitAckWaitExpiry_source bound source)⟩
    case readback =>
      exact ⟨fun no => State.runWick_of_units (readbackComplete_ignored bound opened no),
        fun reads good => State.runWick_of_units (readbackComplete_good bound opened reads good),
        fun reads bad mode => State.runWick_of_units (readbackComplete_seeds bound opened reads bad mode),
        fun reads bad mode => State.runWick_of_units (readbackComplete_drops bound opened reads bad mode)⟩
    case missing =>
      exact ⟨fun lacks => State.runUWick_of_eq (stepRecordWaitExpiry_missing bound opened lacks),
        fun no => State.runUWick_of_eq (stepRecordWaitExpiry_ignored bound opened no)⟩
    case ack =>
      exact fun st heard => ⟨fun buddy verified good => State.runWick_of_eq (commitAck_commits bound heard opened buddy verified good),
        fun buddy verified bad => State.runWick_of_units (commitAck_failed bound heard opened buddy verified bad),
        fun no => State.runWick_of_units (commitAck_ignored bound heard opened no)⟩
    case timer =>
      have again := commitAckWaitExpiry_buddy (step := step) bound buddy
      have entry : (s.u.shAt k).step? step = some o := by rw [State.holds_shAt bound, opened]
      exact ⟨fun verified waits left => State.runUWick_of_eq (again.trans (Units.resendRec_again entry verified waits left)),
        fun verified waits spent => State.runUWick_of_eq (again.trans (Units.resendRec_stalls entry verified waits spent)),
        fun ended => State.runUWick_of_eq (again.trans (Units.resendRec_ends entry ended))⟩
  case commitRec =>
    intro r ok heard bound
    exact ⟨fun lower => State.runUWick_of_eq (commitRec_lower heard bound lower),
      fun committed bad => State.runUWick_of_eq (commitRec_badCrc heard bound committed bad),
      fun committed good early => State.runUWick_of_eq (commitRec_early heard bound committed good early),
      fun committed good due => State.runUWick_of_eq (commitRec_commits heard bound committed good due)⟩
  case copies =>
    intro heard bound
    refine ⟨fun _ => State.runUWick_of_eq (seedReq_serves heard bound), fun block => ?fetch⟩
    exact ⟨fun d has read => State.runWick_of_eq (blockFetch_sends heard bound has read),
      fun has lost => State.runWick_of_eq (blockFetch_unread heard bound has lost),
      fun y no snap => State.runWick_of_units (blockFetch_snapshot heard bound no snap),
      fun y no unsaved moves => State.runWick_of_units (blockFetch_transit heard bound no unsaved moves), fun no unsaved gone =>
        ⟨fun i replica gated released => State.runWick_of_units (blockFetch_seeds heard bound no unsaved gone replica gated released),
         fun none => State.runWick_of_units (blockFetch_ignored heard bound no unsaved gone none)⟩⟩
  case snapshot =>
    intro bound ok
    refine ⟨fun none => State.runUWick_of_eq (snapshotDurable_none bound none), fun y snap =>
      ⟨fun other => State.runUWick_of_eq (snapshotDurable_other bound snap other),
       fun same bad => State.runUWick_of_eq (snapshotDurable_dropped bound snap same bad), fun same sound => ?kept⟩⟩
    exact ⟨fun off => State.runUWick_of_eq (snapshotDurable_notExported bound snap same sound off), fun on =>
      ⟨fun r ring => State.runUWick_of_eq (snapshotDurable_exported bound snap same sound on rfl ring),
       fun ring => State.runUWick_of_eq (snapshotDurable_noRing bound snap same sound on rfl ring)⟩⟩

end Sys2Proof.Machine
end

section
/-!
PROOFS. A step (95), and what the registers read as after reset (24).
-/
namespace Sys2Proof.Machine

/-- A step with a command at the front of the queue runs it on the state with the queue's rest. -/
theorem step_cons (s : State) (c : Instr) (r : List Instr) : step { s with pending := c :: r } = exec c { s with pending := r } := rfl

/-- A step on an empty queue is one cycle of the Beacon clock. -/
theorem step_nil {s : State} (empty : s.pending = []) : step s = .next { s with u := s.u.clockCycle } := by rw [step, empty]

/-- An effect on the Mantle and the units that raises none on another unit is all that the step does. -/
theorem State.afterM_idle {s : State} {a : Mem × Units} (idle : a.2.todo = []) (staged : a.1.fb.length ≤ stagingLines) : s.afterM a = s.put a := by
  rw [State.afterM, carry_idle a idle staged]

/-- Settles O1: a step with a command runs it, a step without one is a clock cycle, and an effect that raises none on another unit is stored as it is. -/
theorem stepRunsTheFrontCommand : Obligations.StepRunsTheFrontCommand := fun s =>
  ⟨step_cons s, step_nil, fun _ idle staged => State.after_idle idle staged, fun _ idle staged => State.afterM_idle idle staged⟩

/-- Settles O2: the registers listed are closed terms of the reset state, which are evaluated. -/
theorem resetReadsAsTheRegisterTablesSay : Obligations.ResetReadsAsTheRegisterTablesSay := by
  refine ⟨State.reset_pending, rfl, Mem.wf_reset, rfl, ?registers⟩
  case registers => decide +kernel

end Sys2Proof.Machine
end

section
/-!
PROOFS. Commands of the Beacon, the Chimney and the Lamplighter that are refused for their sender or their operands (18, 21, 22).
-/
namespace Sys2Proof.Machine

/-- A command of the Lamplighter from a sender below operator privilege (R522). -/
theorem lampOp_refused {u : Units} {c : Sys2Proof.Cmd} (no : isOperator (stampPriv c.stamp) = false) (code : Nat) (f : Units → Units) :
    u.lampOp c code f = u.lampNo c code St.NOT_PRIVILEGED :=
  if_neg (Bool.eq_false_iff.1 no)

/-- A command of the Lamplighter from an operator. -/
theorem lampOp_ok {u : Units} {c : Sys2Proof.Cmd} (op : isOperator (stampPriv c.stamp) = true) (code : Nat) (f : Units → Units) :
    u.lampOp c code f = f u :=
  if_pos op

section
variable {u : Units} {c : Sys2Proof.Cmd}

theorem lampOwnerClear_refused (no : stampPriv c.stamp ≠ 3) : lampOwnerClear c u = u.lampNo c 0x0206 St.NOT_PRIVILEGED := if_neg no

theorem chimEventRead_refused {m : Mem} {seq count addr : Nat} (no : isOperator (stampPriv c.stamp) = false) :
    chimEventRead c seq count addr m u = (m, u.done c 0x0C0 0x0D03 St.NOT_PRIVILEGED) :=
  if_pos (by rw [no]; rfl)

variable (op : isOperator (stampPriv c.stamp) = true)
include op

theorem beaconStep_zero : beaconStep c 0 u = u.done c 0x010 0x0301 St.BAD_PARAM := (operator_ok op _ _ _).trans (if_pos rfl)

theorem beaconSetUtc_large {offset : Nat} {leap61 leap59 : Bool} (large : 255 < offset) :
    beaconSetUtc c offset leap61 leap59 u = u.done c 0x010 0x0303 St.BAD_PARAM :=
  (operator_ok op _ _ _).trans (if_pos large)

theorem chimBindFeed_badRing {ring : Nat} (bad : ¬(ring < 32768 ∧ (u.desc ring).kind = 2 ∧ (u.desc ring).sizeCode = 1)) :
    chimBindFeed c ring u = u.done c 0x0C0 0x0D01 St.BAD_PARAM :=
  (operator_ok op _ _ _).trans (if_neg (by simpa [and_assoc] using bad))

theorem chimEventRead_badCount {m : Mem} {seq count addr : Nat} (bad : ¬(1 ≤ count ∧ count ≤ 16384)) :
    chimEventRead c seq count addr m u = (m, u.done c 0x0C0 0x0D03 St.BAD_PARAM) := by
  have outside : (decide (count = 0) || decide (16384 < count)) = true := by
    simp only [Bool.or_eq_true, decide_eq_true_eq]
    omega
  exact (if_neg (by simp [op])).trans (if_pos outside)

theorem chimLlFreeze_badRing {ring : Nat} (bad : llValid ring = false) : chimLlFreeze c ring u = u.done c 0x0C0 0x0D04 St.BAD_PARAM :=
  (operator_ok op _ _ _).trans (if_neg (Bool.eq_false_iff.1 bad))

theorem chimLlRelease_badRing {ring : Nat} (bad : llValid ring = false) : chimLlRelease c ring u = u.done c 0x0C0 0x0D05 St.BAD_PARAM :=
  (operator_ok op _ _ _).trans (if_neg (Bool.eq_false_iff.1 bad))

theorem chimExportBind_badRing {ring : Nat} (bad : ¬(ring < 32768 ∧ (u.desc ring).kind = 2)) :
    chimExportBind c ring u = u.done c 0x0C0 0x0D06 St.BAD_PARAM :=
  (operator_ok op _ _ _).trans (if_neg (by simpa using bad))

end

/-- Settles O4: below operator privilege each command ends in its check of the sender, and from an operator in its check of the operands. -/
theorem commandsBelowTheirPrivilegeAreRefused : Obligations.CommandsBelowTheirPrivilegeAreRefused := by
  intro s c step ring seq count addr
  refine ⟨fun no => ⟨?step, fun y mo d h mi sec => ?calendar, fun offset leap61 leap59 => ?utc, ?feed, ?ack, ?read, ?freeze, ?release, ?expo,
    fun len a => ?amend, fun kind region off len im same => ?update, ?activate, fun key => ?cal, fun idx key => ?owner⟩, fun no => ?clear, fun op => ⟨?step0,
    fun offset leap61 leap59 large => ?utcLarge, fun bad => ?feedBad, fun bad => ?readBad, fun bad => ⟨?freezeBad, ?releaseBad⟩, fun bad => ?expoBad⟩⟩
  case step | calendar | utc | feed | ack | freeze | release | expo => exact State.runU_of_eq (operator_refused no _ _ _)
  case read => exact State.run_of_units (chimEventRead_refused no)
  case amend | update | activate => exact State.runU_of_eq (lampOp_refused no _ _)
  case cal => exact State.run_keeps (f := lampCalWrite c addr key) (lampOp_refused no _ _)
  case owner => exact State.run_keeps (f := lampOwnerSet c count idx addr key) (lampOp_refused no _ _)
  case clear => exact State.runU_of_eq (lampOwnerClear_refused no)
  case step0 => exact State.runU_of_eq (beaconStep_zero op)
  case utcLarge => exact State.runU_of_eq (beaconSetUtc_large op large)
  case feedBad => exact State.runU_of_eq (chimBindFeed_badRing op bad)
  case readBad => exact State.run_of_units (chimEventRead_badCount op bad)
  case freezeBad => exact State.runU_of_eq (chimLlFreeze_badRing op bad)
  case releaseBad => exact State.runU_of_eq (chimLlRelease_badRing op bad)
  case expoBad => exact State.runU_of_eq (chimExportBind_badRing op bad)

end Sys2Proof.Machine
end

section
/-!
PROOFS. The inputs and timers of the Beacon, and the calendar (18 R431 to R436, R442): what each comes to, branch by branch, and the statements about them.
-/
namespace Sys2Proof.Machine

/-! PPS_IN_EDGE, and the loss and return of a reference (R431, R432) -/

/-- The units once an edge of the 1PPS input is timestamped. -/
def Units.edgeStamped (u : Units) : Units := u.upB fun b => { b with ppsPresent := true, pps := some (u.clk.sec, u.clk.ns) }

/-- The 1PPS input becomes the source: no source and no domain is in service, and the input is allowed as one. -/
def Units.ppsSelects (u : Units) : Prop := u.bcn.source = 0 ∧ bitAt u.bcnCtl 1 = true ∧ u.domOn 0 = false ∧ u.domOn 1 = false

/-- The units with an edge timestamped and, where the input becomes the source, selected. -/
def Units.edgeTaken (u : Units) : Units :=
  if u.bcn.source = 0 && bitAt u.bcnCtl 1 && !(u.domOn 0) && !(u.domOn 1) then u.edgeStamped.upB fun b => { b with source := 3 } else u.edgeStamped

/-- What an edge does at the source: a step that waits for it applies, and else it steers the time. -/
def Units.ppsSteers (u : Units) : Units :=
  match u.bcn.pend with
  | some x => if x.atPps then u.applyStep else u.measured u.ppsOffset
  | none => u.measured u.ppsOffset

section
variable {u : Units}

theorem Units.edgeTaken_selects (yes : u.ppsSelects) : u.edgeTaken = u.edgeStamped.upB fun b => { b with source := 3 } :=
  if_pos (by simpa [Units.ppsSelects, and_assoc] using yes)

theorem Units.edgeTaken_stays (no : ¬u.ppsSelects) : u.edgeTaken = u.edgeStamped := if_neg (by simpa [Units.ppsSelects, and_assoc] using no)

theorem ppsInEdge_off (off : bitAt u.ppsCfg 0 = false) : ppsInEdge u = u := if_pos (by simp [off])

variable (on : bitAt u.ppsCfg 0 = true)
include on

theorem ppsInEdge_on : ppsInEdge u = if u.edgeTaken.bcn.source ≠ 3 then u.edgeTaken else u.edgeTaken.ppsSteers := if_neg (by simp [on])

theorem ppsInEdge_other (other : u.bcn.source ≠ 3) (no : ¬u.ppsSelects) : ppsInEdge u = u.edgeStamped := by
  rw [ppsInEdge_on on, Units.edgeTaken_stays no]
  exact if_pos other

theorem ppsInEdge_source (source : u.bcn.source = 3) : ppsInEdge u = u.edgeStamped.ppsSteers := by
  rw [ppsInEdge_on on, Units.edgeTaken_stays fun selects => absurd (source.symm.trans selects.1) (by decide)]
  exact if_neg (not_not_intro source)

theorem ppsInEdge_selects (yes : u.ppsSelects) : ppsInEdge u = (u.edgeStamped.upB fun b => { b with source := 3 }).ppsSteers := by
  rw [ppsInEdge_on on, Units.edgeTaken_selects yes]
  exact if_neg (not_not_intro rfl)

/-- The edge steers the units `v` in which the input is the source, with the step that waits and the offset as they were. -/
theorem ppsInEdge_steers {v : Units}
    (taken : u.bcn.source = 3 ∧ v = u.edgeStamped ∨ u.ppsSelects ∧ v = u.edgeStamped.upB fun b => { b with source := 3 }) :
    ppsInEdge u = v.ppsSteers ∧ v.bcn.pend = u.bcn.pend ∧ v.ppsOffset = u.ppsOffset := by
  rcases taken with ⟨source, rfl⟩ | ⟨fresh, rfl⟩
  · exact ⟨ppsInEdge_source on source, rfl, rfl⟩
  · exact ⟨ppsInEdge_selects on fresh, rfl, rfl⟩

end

theorem Units.ppsSteers_step {u : Units} {x : BcnStep} (waits : u.bcn.pend = some x) (atEdge : x.atPps = true) : u.ppsSteers = u.applyStep := by
  rw [Units.ppsSteers, waits]
  exact if_pos atEdge

theorem Units.ppsSteers_time {u : Units} (none : u.bcn.pend = none ∨ ∃ x, u.bcn.pend = some x ∧ x.atPps = false) :
    u.ppsSteers = u.measured u.ppsOffset := by
  unfold Units.ppsSteers
  rcases none with none | ⟨x, waits, tick⟩
  · rw [none]
  · rw [waits]
    exact if_neg (Bool.eq_false_iff.1 tick)

theorem ref10mLoss_followed {u : Units} (followed : u.bcn.ref10 = true) :
    ref10mLoss u = (u.upB fun b => { b with ref10 := false, ref10In := false }).bcnEvent Ev.BEACON_REF_LOST := if_pos followed

theorem ref10mLoss_idle {u : Units} (idle : u.bcn.ref10 = false) : ref10mLoss u = u.upB fun b => { b with ref10 := false, ref10In := false } :=
  if_neg (Bool.eq_false_iff.1 idle)

/-! The timers (R433, R436) -/

/-- The units once domain `d` is lost. -/
def Units.domainLost (u : Units) (d : Nat) : Units := u.upDom d fun x => { x with lost := true, best := none, utc := none }

section
variable {u : Units} {d : Nat} (there : d < 2)
include there

theorem announceReceiptTimeout_unused (unused : (u.domainLost d).bcn.source ≠ d + 1) : announceReceiptTimeout d u = u.domainLost d :=
  (if_neg (Nat.not_le.2 there)).trans (if_pos unused)

variable (used : (u.domainLost d).bcn.source = d + 1)
include used

theorem announceReceiptTimeout_used : announceReceiptTimeout d u =
    if d = (u.domainLost d).primary && (u.domainLost d).agrees (1 - d) then (u.domainLost d).switchTo (1 - d)
    else (u.domainLost d).upB fun b => { b with source := 0 } :=
  (if_neg (Nat.not_le.2 there)).trans (if_neg (not_not_intro used))

theorem announceReceiptTimeout_switches (preferred : d = (u.domainLost d).primary) (agrees : (u.domainLost d).agrees (1 - d) = true) :
    announceReceiptTimeout d u = (u.domainLost d).switchTo (1 - d) :=
  (announceReceiptTimeout_used there used).trans (if_pos (by simp [← preferred, agrees]))

theorem announceReceiptTimeout_alone (no : d ≠ (u.domainLost d).primary ∨ (u.domainLost d).agrees (1 - d) = false) :
    announceReceiptTimeout d u = (u.domainLost d).upB fun b => { b with source := 0 } :=
  (announceReceiptTimeout_used there used).trans (if_neg (by rcases no with no | no <;> simp [no]))

end

section
variable {u : Units}

theorem beaconHoldExpiry_noSource (none : u.bcn.source = 0) : beaconHoldExpiry u = (u.upB fun b => { b with okRun := 0 }).setLock false := if_pos none

theorem beaconHoldExpiry_source (some : u.bcn.source ≠ 0) : beaconHoldExpiry u = u := if_neg some

/-- The domain in use is not the preferred one, which is in service. -/
def Units.awayFromPreferred (u : Units) : Prop :=
  (u.bcn.source ≠ 0 ∧ u.bcn.source ≠ 3) ∧ u.bcn.source ≠ u.primary + 1 ∧ u.domOn u.primary = true

theorem Units.awayFromPreferred_iff (u : Units) :
    (u.bcn.source = 0 || u.bcn.source = 3 || u.bcn.source = u.primary + 1 || !(u.domOn u.primary)) = false ↔ u.awayFromPreferred := by
  simp [Units.awayFromPreferred, and_assoc]

theorem beaconRevertTimer_stays (no : ¬u.awayFromPreferred) : beaconRevertTimer u = u :=
  if_pos (by simpa only [Bool.not_eq_false] using mt (Units.awayFromPreferred_iff u).1 no)

variable (away : u.awayFromPreferred)
include away

theorem beaconRevertTimer_away : beaconRevertTimer u =
    if u.agrees u.primary then u.switchTo u.primary else if (u.dom u.primary).lost then u else u.bcnEvent Ev.BEACON_DOMAIN_DISAGREE :=
  if_neg (Bool.eq_false_iff.1 ((Units.awayFromPreferred_iff u).2 away))

theorem beaconRevertTimer_returns (agrees : u.agrees u.primary = true) : beaconRevertTimer u = u.switchTo u.primary :=
  (beaconRevertTimer_away away).trans (if_pos agrees)

theorem beaconRevertTimer_alarm (no : u.agrees u.primary = false) (kept : (u.dom u.primary).lost = false) :
    beaconRevertTimer u = u.bcnEvent Ev.BEACON_DOMAIN_DISAGREE :=
  (beaconRevertTimer_away away).trans ((if_neg (Bool.eq_false_iff.1 no)).trans (if_neg (Bool.eq_false_iff.1 kept)))

theorem beaconRevertTimer_lost (no : u.agrees u.primary = false) (lost : (u.dom u.primary).lost = true) : beaconRevertTimer u = u :=
  (beaconRevertTimer_away away).trans ((if_neg (Bool.eq_false_iff.1 no)).trans (if_pos lost))

end

/-! LEAP_SECOND_END (R442) -/

/-- The UTC offset once a leap minute has ended. -/
def Utc.afterLeap (x : Utc) : Utc :=
  { x with offset := if x.leap61 then (x.offset + 1) % 256 else if x.leap59 then x.offset - 1 else x.offset, leap61 := false, leap59 := false }

section
variable {u : Units} {x : Utc}

theorem leapSecondEnd_none (none : u.utcNow = none) : leapSecondEnd u = u := by rw [leapSecondEnd, none]

theorem leapSecondEnd_announced (now : u.utcNow = some (x, true)) :
    leapSecondEnd u = u.upDom (u.bcn.source - 1) fun d => { d with utc := d.utc.map Utc.afterLeap } := by
  rw [leapSecondEnd, now]
  rfl

theorem leapSecondEnd_set (now : u.utcNow = some (x, false)) : leapSecondEnd u = u.upB fun b => { b with utc := b.utc.map Utc.afterLeap } := by
  rw [leapSecondEnd, now]
  rfl

end

/-- Settles O41: each clause is one branch of its input or timer, by the lemmas above. -/
theorem beaconEdgesAndTimersAct : Obligations.BeaconEdgesAndTimersAct := by
  intro s
  refine ⟨fun off => ?ppsOff, fun on => ⟨fun other no => ?ppsOther, fun v taken => ⟨fun x waits atEdge => ?ppsStep, fun none => ?ppsTime⟩⟩, ?ppsLoss,
    ⟨fun followed => ?refLoss, fun idle => ?refIdle⟩, ?refReturn, fun d there => ⟨fun unused => ?unused, fun used preferred agrees => ?switches,
    fun used no => ?alone⟩, fun none => ?holdEnds, fun some => ?holdStays, ⟨fun away => ⟨fun agrees => ?returns, fun no => ⟨fun kept => ?alarm,
    fun lost => ?lost⟩⟩, fun no => ?stays⟩, fun none => ?leapNone, fun x now => ?leapAnnounced, fun x now => ?leapSet⟩
  case ppsOff => exact State.runU_of_eq (ppsInEdge_off off)
  case ppsOther => exact State.runU_of_eq (ppsInEdge_other on other no)
  case ppsStep =>
    obtain ⟨steers, pend, -⟩ := ppsInEdge_steers on taken
    exact State.runU_of_eq (steers.trans (Units.ppsSteers_step (pend.trans waits) atEdge))
  case ppsTime =>
    obtain ⟨steers, pend, offset⟩ := ppsInEdge_steers on taken
    exact State.runU_of_eq (steers.trans ((Units.ppsSteers_time (by rwa [pend])).trans (congrArg v.measured offset)))
  case ppsLoss => rfl
  case refLoss => exact State.runU_of_eq (ref10mLoss_followed followed)
  case refIdle => exact State.runU_of_eq (ref10mLoss_idle idle)
  case refReturn => rfl
  case unused => exact State.runU_of_eq (announceReceiptTimeout_unused there unused)
  case switches => exact State.runU_of_eq (announceReceiptTimeout_switches there used preferred agrees)
  case alone => exact State.runU_of_eq (announceReceiptTimeout_alone there used no)
  case holdEnds => exact State.runU_of_eq (beaconHoldExpiry_noSource none)
  case holdStays => exact State.runU_of_eq (beaconHoldExpiry_source some)
  case returns => exact State.runU_of_eq (beaconRevertTimer_returns away agrees)
  case alarm => exact State.runU_of_eq (beaconRevertTimer_alarm away no kept)
  case lost => exact State.runU_of_eq (beaconRevertTimer_lost away no lost)
  case stays => exact State.runU_of_eq (beaconRevertTimer_stays no)
  case leapNone => exact State.runU_of_eq (leapSecondEnd_none none)
  case leapAnnounced => exact State.runU_of_eq (leapSecondEnd_announced now)
  case leapSet => exact State.runU_of_eq (leapSecondEnd_set now)

end Sys2Proof.Machine
end

section
/-!
PROOFS. The calendar (18 R442): lengths of months and years, and that BEACON_CAL reads a date back from its UTC seconds.
-/
namespace Sys2Proof.Machine

/-! Lengths of months and years -/

theorem leapYear_iff (y : Nat) : leapYear y = true ↔ y % 4 = 0 ∧ ¬(y % 100 = 0 ∧ y % 400 ≠ 0) := by
  simp [leapYear, Decidable.imp_iff_not_or]

theorem monthDays_february (y : Nat) : monthDays y 2 = if y % 4 = 0 ∧ ¬(y % 100 = 0 ∧ y % 400 ≠ 0) then 29 else 28 :=
  (if_pos rfl).trans (if_congr (leapYear_iff y) rfl rfl)

theorem monthDays_other (y : Nat) {m : Nat} (other : m ≠ 2) : monthDays y m = if m = 4 ∨ m = 6 ∨ m = 9 ∨ m = 11 then 30 else 31 := if_neg other

/-- The days before the next month are those before this one and its own. -/
theorem daysBefore_succ (y : Nat) {m : Nat} (first : 1 ≤ m) : daysBefore y (m + 1) = daysBefore y m + monthDays y m := by
  obtain ⟨k, rfl⟩ := Nat.exists_eq_add_of_le' first
  simp [daysBefore, List.range_succ, sumL_eq_sum]

theorem daysBefore_le (y : Nat) {m n : Nat} (first : 1 ≤ m) (le : m ≤ n) : daysBefore y m ≤ daysBefore y n := by
  induction n, le using Nat.le_induction with
  | base => exact le_rfl
  | succ n le ih => exact ih.trans ((daysBefore_succ y (first.trans le)).symm ▸ Nat.le_add_right _ _)

/-- The days of a year: 337 beside February. -/
theorem daysBefore_year (y : Nat) : daysBefore y 13 = 337 + monthDays y 2 := by
  simp [daysBefore, List.range_succ, sumL_eq_sum, monthDays]
  omega

/-- Centuries and fours of centuries of the years before, by the fours of years. -/
theorem daysTo_eq (n : Nat) : daysTo (n + 1) = (n + 1 - 1970) * 365 + (n / 4 - 492) - (n / 4 / 25 - 19) + (n / 4 / 100 - 4) := by
  rw [daysTo, Nat.add_sub_cancel, Nat.div_div_eq_div_mul, Nat.div_div_eq_div_mul]

/-- The day after the last day of a year is the first of the next. -/
theorem daysTo_succ {y : Nat} (from2000 : 2000 ≤ y) : daysTo (y + 1) = daysTo y + daysBefore y 13 := by
  obtain ⟨n, rfl⟩ := Nat.exists_eq_add_of_le' (show 1 ≤ y by omega)
  have fours : 499 ≤ n / 4 := by omega
  have century : (n + 1) % 100 = 0 ↔ (n + 1) % 4 = 0 ∧ (n / 4 + 1) % 25 = 0 := by omega
  have fourth : (n + 1) % 400 = 0 ↔ (n + 1) % 4 = 0 ∧ (n / 4 + 1) % 100 = 0 := by omega
  rw [daysBefore_year, monthDays_february, daysTo_eq, daysTo_eq]
  by_cases leap : (n + 1) % 4 = 0
  · have next : (n + 1) / 4 = n / 4 + 1 := by omega
    simp only [leap, century, fourth, next, true_and, ne_eq]
    generalize n / 4 = a at *
    split <;> omega
  · have next : (n + 1) / 4 = n / 4 := by omega
    rw [next, if_neg (fun both => leap both.1)]
    omega

/-- Up to 2399 the days before a year exceed those of years of 365 days by at most 108. -/
theorem daysTo_bounds {y : Nat} (from2000 : 2000 ≤ y) (to2400 : y ≤ 2400) : (y - 1970) * 365 ≤ daysTo y ∧ daysTo y ≤ (y - 1970) * 365 + 108 := by
  obtain ⟨n, rfl⟩ := Nat.exists_eq_add_of_le' (show 1 ≤ y by omega)
  have fours : 499 ≤ n / 4 ∧ n / 4 ≤ 599 := by omega
  rw [daysTo_eq]
  generalize n / 4 = a at *
  omega

/-! Reading a date back -/

/-- What the checks of a date ask (R443). -/
theorem dateOk_iff (y mo d h mi sec : Nat) : dateOk y mo d h mi sec = true ↔
    (2000 ≤ y ∧ y ≤ 2399) ∧ (1 ≤ mo ∧ mo ≤ 12) ∧ (1 ≤ d ∧ d ≤ monthDays y mo) ∧ h ≤ 23 ∧ mi ≤ 59 ∧ sec ≤ 59 := by
  simp [dateOk, and_assoc]

/-- The search for the year stops at the one that holds the day: an estimate by years of 365 days is at most one too late up to 2399. -/
theorem yearOf_eq {y day : Nat} (from2000 : 2000 ≤ y) (to2399 : y ≤ 2399) (lower : daysTo y ≤ day) (upper : day < daysTo (y + 1)) : yearOf day = y := by
  have near : 1970 + day / 365 = y ∨ 1970 + day / 365 = y + 1 := by
    have bound := daysTo_bounds from2000 (to2399.trans (by decide))
    have boundNext := daysTo_bounds (y := y + 1) (from2000.trans y.le_succ) (Nat.succ_le_succ to2399)
    omega
  have first : (List.range 4).find? ((fun y => decide (daysTo y ≤ day)) ∘ fun i => 1970 + day / 365 - i) = some (1970 + day / 365 - y) := by
    refine find_range_first (by omega) (by simpa [Nat.sub_sub_self (show y ≤ 1970 + day / 365 by omega)] using lower) fun j before => ?_
    have next : 1970 + day / 365 - j = y + 1 := by omega
    simpa [next] using upper
  simp only [yearOf, List.find?_map, first, Option.map_some, Option.getD_some]
  omega

/-- The search for the month stops at the one that holds the day of the year. -/
theorem monthOf_eq {y mo k : Nat} (first : 1 ≤ mo) (last : mo ≤ 12) (lower : daysBefore y mo ≤ k) (upper : k < daysBefore y (mo + 1)) :
    monthOf y k = mo := by
  have found : (List.range 12).find? ((fun m => decide (daysBefore y m ≤ k)) ∘ fun i => 12 - i) = some (12 - mo) := by
    refine find_range_first (by omega) (by simpa [Nat.sub_sub_self last] using lower) fun j before => ?_
    simpa using upper.trans_le (daysBefore_le y (by omega) (show mo + 1 ≤ 12 - j by omega))
  simp only [monthOf, List.find?_map, found, Option.map_some, Option.getD_some]
  omega

/-- BEACON_CAL of a UTC time, without a leap second pending. -/
theorem Units.calendar_noLeap {u : Units} {x : Utc} {a : Bool} (now : u.utcNow = some (x, a)) (not61 : x.leap61 = false) (not59 : x.leap59 = false) :
    u.calendar =
      let t := u.clk.sec - x.offset
      let y := yearOf (t / 86400)
      let k := t / 86400 - daysTo y
      t % 60 + t / 60 % 60 * 2 ^ 6 + t / 3600 % 24 * 2 ^ 12 + (k - daysBefore y (monthOf y k) + 1) * 2 ^ 17 + monthOf y k * 2 ^ 22 +
        y % 2 ^ 14 * 2 ^ 32 := by
  simp [Units.calendar, now, not61, not59]

theorem Units.calendar_date {u : Units} {x : Utc} {a : Bool} {y mo d h mi sec : Nat} (ok : dateOk y mo d h mi sec = true)
    (now : u.utcNow = some (x, a)) (not61 : x.leap61 = false) (not59 : x.leap59 = false) (time : u.clk.sec = utcSeconds y mo d h mi sec + x.offset) :
    u.calendar = sec + mi * 2 ^ 6 + h * 2 ^ 12 + d * 2 ^ 17 + mo * 2 ^ 22 + y * 2 ^ 32 := by
  obtain ⟨⟨from2000, to2399⟩, ⟨firstM, lastM⟩, ⟨firstD, lastD⟩, hour, minute, second⟩ := (dateOk_iff _ _ _ _ _ _).1 ok
  let k := daysBefore y mo + (d - 1)
  have utc : u.clk.sec - x.offset = (daysTo y + k) * 86400 + h * 3600 + mi * 60 + sec := by
    rw [time, Nat.add_sub_cancel, utcSeconds, ← Nat.add_assoc]
  have day : (u.clk.sec - x.offset) / 86400 = daysTo y + k := by omega
  have inMonth : k < daysBefore y (mo + 1) := by rw [daysBefore_succ y firstM]; omega
  have inYear : daysTo y + k < daysTo (y + 1) := by
    rw [daysTo_succ from2000]
    exact Nat.add_lt_add_left (inMonth.trans_le (daysBefore_le y (by omega) (Nat.succ_le_succ lastM))) _
  have year : yearOf (daysTo y + k) = y := yearOf_eq from2000 to2399 (Nat.le_add_right _ _) inYear
  have month : monthOf y k = mo := monthOf_eq firstM lastM (Nat.le_add_right _ _) inMonth
  rw [Units.calendar_noLeap now not61 not59]
  simp only [day, year, Nat.add_sub_cancel_left, month, show y % 2 ^ 14 = y by omega, Nat.sub_add_cancel firstD, k]
  rw [utc, show ((daysTo y + k) * 86400 + h * 3600 + mi * 60 + sec) % 60 = sec by omega,
    show ((daysTo y + k) * 86400 + h * 3600 + mi * 60 + sec) / 60 % 60 = mi by omega,
    show ((daysTo y + k) * 86400 + h * 3600 + mi * 60 + sec) / 3600 % 24 = h by omega]

/-- Settles O42: lengths of months and years are computed, and a date is read back by the searches for its year and month. -/
theorem calendarFollowsTheGregorianRules : Obligations.CalendarFollowsTheGregorianRules :=
  ⟨monthDays_february, rfl, rfl, fun y _ _ _ other => monthDays_other y other,
    fun y _ from2000 first _ => ⟨rfl, daysTo_succ from2000, rfl, daysBefore_succ y first⟩,
    fun _ _ _ _ _ _ _ _ _ ok now not61 not59 time => Units.calendar_date ok now not61 not59 time⟩

end Sys2Proof.Machine
end

section
/-!
PROOFS. What raising an event leaves as it was (21 R483 to R490, 02 R40, R56, 04 R89 to R93): a view of the units that reads none of the parts that records,
forwarding, ports and standing orders write is the same before and after.
-/
namespace Sys2Proof.Machine

/-- A view of the units that reads neither the Chimney, the roles, the rings, the ports, the budget, the registers' counters nor what waits or has left. -/
structure Units.ApartFromEvents {α : Type} (v : Units → α) : Prop where
  chim : ∀ u x, v { u with chim := x } = v u
  role : ∀ u x, v { u with role := x } = v u
  ring : ∀ u x, v { u with ring := x } = v u
  link : ∀ u x, v { u with link := x } = v u
  bud : ∀ u x, v { u with bud := x } = v u
  regs : ∀ u x, v { u with regs := x } = v u
  todo : ∀ u x, v { u with todo := x } = v u
  out : ∀ u x, v { u with out := x } = v u

/-- A view that each step of a fold leaves is left by the fold. -/
theorem foldl_leaves {α β : Type} {v : Units → α} {f : Units → β → Units} (step : ∀ u b, v (f u b) = v u) (l : List β) (u : Units) :
    v (l.foldl f u) = v u := by
  induction l generalizing u with
  | nil => rfl
  | cons b l ih => exact (ih _).trans (step u b)

section
variable {α : Type} {v : Units → α} (apart : Units.ApartFromEvents v)
include apart

/-! Counters, outputs and effects that wait -/

theorem Units.ApartFromEvents.count (u : Units) (a n : Nat) : v (u.count a n) = v u := apart.regs _ _
theorem Units.ApartFromEvents.emit (u : Units) (o : Out) : v (u.emit o) = v u := apart.out _ _
theorem Units.ApartFromEvents.later (u : Units) (t : Todo) : v (u.later t) = v u := apart.todo _ _

/-! Sending at a port -/

theorem Units.ApartFromEvents.setPort (u : Units) (p : Nat) (l : Link) : v (u.setPort p l) = v u := apart.link _ _
theorem Units.ApartFromEvents.spend (u : Units) (a inst n : Nat) : v (u.spend a inst n) = v u := apart.bud _ _

theorem Units.ApartFromEvents.sendSeq (u : Units) (p : Nat) (f : TxFrame) : v (u.sendSeq p f) = v u :=
  (apart.count _ _ _).trans ((apart.emit _ _).trans (apart.setPort _ _ _))

theorem Units.ApartFromEvents.frameVc {u w : Units} {p vc : Nat} (sends : u.frameVc p vc = some w) : v w = v u := by
  unfold Units.frameVc at sends
  dsimp only at sends
  split at sends
  · cases sends
  · injection sends with eq
    rw [← eq, apart.sendSeq, foldl_leaves (fun u x => (foldl_leaves (fun u a => apart.count u a _) _ _).trans (apart.spend u _ _ _)), apart.setPort]

theorem Units.ApartFromEvents.pumpN (p : Nat) : ∀ (n : Nat) (u : Units), v (Units.pumpN p n u) = v u
  | 0, _ => rfl
  | n + 1, u => by
    rw [Units.pumpN]
    split
    · next w sends =>
      obtain ⟨vc, -, sends⟩ := List.exists_of_findSome?_eq_some sends
      exact (Units.ApartFromEvents.pumpN p n w).trans (apart.frameVc sends)
    · rfl

theorem Units.ApartFromEvents.prune (u : Units) (p : Nat) : v (u.prune p) = v u := apart.link _ _

theorem Units.ApartFromEvents.sendCredits (u : Units) (p : Nat) : v (u.sendCredits p) = v u := by
  unfold Units.sendCredits
  dsimp only
  split
  · rfl
  · rw [apart.sendSeq, apart.setPort]

theorem Units.ApartFromEvents.pump (u : Units) (p : Nat) : v (u.pump p) = v u := by
  unfold Units.pump
  split
  · rw [apart.prune, apart.pumpN, foldl_leaves fun u _ => apart.sendCredits u p]
  · exact apart.prune u p

theorem Units.ApartFromEvents.queueTx (u : Units) (p vc act len : Nat) (cnt : List Nat) : v (u.queueTx p vc act len cnt) = v u := by
  unfold Units.queueTx
  dsimp only
  split
  · rw [apart.pump, apart.setPort]
  · rfl

theorem Units.ApartFromEvents.sendS (u : Units) (p cls ctx flags seq len : Nat) (pay : List Nat) : v (u.sendS p cls ctx flags seq len pay) = v u :=
  (apart.queueTx _ _ _ _ _ _).trans (apart.emit _ _)

theorem Units.ApartFromEvents.mgmtSend (u : Units) (dst cls flags seq len : Nat) (pay : List Nat) : v (u.mgmtSend dst cls flags seq len pay) = v u := by
  unfold Units.mgmtSend
  split
  · split
    · exact (apart.sendS _ _ _ _ _ _ _ _).trans (apart.role _ _)
    · rfl
  · rfl

theorem Units.ApartFromEvents.sendL (u : Units) (dst cls flags seq len lv : Nat) (pay : List Nat) :
    v (u.sendL dst cls flags seq len lv pay) = v u := by
  unfold Units.sendL
  split
  · exact apart.count _ _ _
  · split
    · rw [apart.queueTx, apart.emit]
    · exact apart.mgmtSend _ _ _ _ _ _ _

theorem Units.ApartFromEvents.reqL (u : Units) (dst cls len lv : Nat) (pay : List Nat) : v (u.reqL dst cls len lv pay) = v u :=
  (apart.sendL _ _ _ _ _ _ _ _).trans (apart.role _ _)

/-! Forwarding to a role (R40, R489, R490) -/

theorem Units.ApartFromEvents.setRole (u : Units) (id : Nat) (r : RoleSt) : v (u.setRole id r) = v u := apart.role _ _

theorem Units.ApartFromEvents.toRole (u : Units) (id cls len : Nat) (pay : List Nat) : v (u.toRole id cls len pay) = v u := by
  unfold Units.toRole
  dsimp only
  split
  · exact apart.setRole _ _ _
  · split
    · exact apart.later _ _
    · rw [apart.reqL, apart.setRole]

theorem Units.ApartFromEvents.forward (u : Units) (step : Nat) (l : List LogEntry) : v (u.forward step l) = v u := by
  unfold Units.forward
  split
  · rfl
  · dsimp only
    split
    · exact apart.later _ _
    · rw [apart.toRole, apart.count, apart.chim]

theorem Units.ApartFromEvents.window (u : Units) (step : Nat) (e : LogEntry) (more : List LogEntry) (n : Nat) : v (u.window step e more n) = v u := by
  unfold Units.window
  split
  · exact apart.chim _ _
  · rw [apart.forward, apart.chim]

/-! The local log, the alarm area and the last-light rings (R484 to R488, R496) -/

theorem Units.ApartFromEvents.setLl (u : Units) (i : Nat) (r : LastLight) : v (u.setLl i r) = v u := apart.chim _ _

theorem Units.ApartFromEvents.llFreeze (u : Units) (i : Nat) : v (u.llFreeze i) = v u := by
  unfold Units.llFreeze
  dsimp only
  split
  · rfl
  · rw [apart.setLl, apart.count, apart.chim]

theorem Units.ApartFromEvents.produce (u : Units) (n : Nat) (e : RingEntry) : v (u.produce n e) = v u := by
  unfold Units.produce
  dsimp only
  split
  · rw [apart.emit]
    exact apart.ring _ _
  · exact apart.ring _ _

theorem Units.ApartFromEvents.feedEntry (u : Units) (e : LogEntry) : v (u.feedEntry e) = v u := by
  have ends (w : Units) (n : Nat) (x : Chim) : v (if (w.desc n).room then w.produce n (.log e) else { w with chim := x }) = v w := by
    split
    · exact apart.produce _ _ _
    · exact apart.chim _ _
  unfold Units.feedEntry
  split
  · rfl
  · dsimp only
    rw [ends]
    split
    · split
      · rw [apart.chim, apart.produce]
      · rfl
    · rfl

theorem Units.ApartFromEvents.append (u : Units) (e : LogEntry) : v (u.append e) = v u :=
  (apart.feedEntry _ _).trans ((apart.count _ _ _).trans (apart.chim _ _))

theorem Units.ApartFromEvents.logWrite (u : Units) (e : LogEntry) : v (u.logWrite e) = v u := by
  unfold Units.logWrite
  split
  · split
    · split
      · rw [apart.append, apart.count, apart.chim]
      · rw [apart.count, apart.chim]
    · rw [apart.count, apart.chim]
  · split
    · exact apart.append _ _
    · dsimp only
      rw [apart.append, apart.append, apart.chim]

theorem Units.ApartFromEvents.logAll (u : Units) (l : List LogEntry) : v (u.logAll l) = v u := foldl_leaves apart.logWrite l u

theorem Units.ApartFromEvents.rateLimit (u : Units) (e : LogEntry) (more : List LogEntry) : v (u.rateLimit e more) = v u := by
  unfold Units.rateLimit
  dsimp only
  split
  · rw [apart.logAll, apart.chim]
  · exact apart.chim _ _

theorem Units.ApartFromEvents.alarmPlace (u : Units) (e : LogEntry) : v (u.alarmPlace e) = v u := by
  unfold Units.alarmPlace
  split
  · exact apart.chim _ _
  · split
    · exact apart.chim _ _
    · rw [apart.count, apart.chim]

/-! One occurrence, and the standing orders that it fires (R56, R483) -/

theorem Units.ApartFromEvents.occur (u : Units) (ll : Option Nat) (r : EvRec) (more : List Nat) : v (u.occur ll r more) = v u := by
  cases ll with
  | none =>
    unfold Units.occur
    dsimp only
    split
    · rw [apart.logAll, apart.alarmPlace, apart.window, apart.count]
    · rw [apart.rateLimit, apart.window, apart.count]
  | some i =>
    unfold Units.occur
    dsimp only
    split
    · rw [apart.llFreeze, apart.logAll, apart.alarmPlace, apart.window, apart.setLl, apart.count]
    · rw [apart.rateLimit, apart.window, apart.setLl, apart.count]

theorem Units.ApartFromEvents.soRecord (u : Units) (code level action cls outcome hold : Nat) :
    v (u.soRecord code level action cls outcome hold) = v u := by
  unfold Units.soRecord
  exact apart.occur _ _ _ _

theorem Units.ApartFromEvents.soPerform (u : Units) (code level : Nat) (e : SoEntry) (t : Target) : v (u.soPerform code level e t) = v u := by
  unfold Units.soPerform
  dsimp only
  split
  · rw [apart.soRecord, apart.role]
  · split
    · rw [apart.later, apart.soRecord]
    · exact apart.later _ _

theorem Units.ApartFromEvents.soFire (u : Units) (code level : Nat) (t : Target) (ok : SoEntry → Bool) : v (u.soFire code level t ok) = v u := by
  unfold Units.soFire
  split
  · exact apart.soPerform _ _ _ _ _
  · split
    · exact apart.soPerform _ _ _ _ _
    · rfl

theorem Units.ApartFromEvents.raise (u : Units) (code level src payload : Nat) (more : List Nat) (t : Target) (qual alarm : Bool) (ll : Option Nat)
    (ok : SoEntry → Bool) : v (u.raise code level src payload more t qual alarm ll ok) = v u :=
  (apart.soFire _ _ _ _ _).trans (apart.occur _ _ _ _)

end

end Sys2Proof.Machine
end

section
/-!
PROOFS. The Beacon's commands and messages (18 R426, R429, R430, R434 to R445): what each comes to, branch by branch, and the statement about them.
-/
namespace Sys2Proof.Machine

/-! BEACON_STEP, BEACON_SET_CALENDAR and BEACON_SET_UTC (R439 to R441, R443) -/

section
variable {u : Units} {c : Sys2Proof.Cmd} (op : isOperator (stampPriv c.stamp) = true)
include op

section
variable {step : Int} (nonzero : step ≠ 0)
include nonzero

theorem beaconStep_busy (waits : u.bcn.pend.isSome = true) : beaconStep c step u = u.done c 0x010 0x0301 St.BUSY_RETRY :=
  (operator_ok op _ _ _).trans ((if_neg nonzero).trans (if_pos waits))

theorem beaconStep_accepts (free : u.bcn.pend = none) :
    beaconStep c step u = u.acceptStep { rel := step, target := none, atPps := false, cmd := c, code := 0x0301 } :=
  (operator_ok op _ _ _).trans ((if_neg nonzero).trans (if_neg (by simp [free])))

end

section
variable {y mo d h mi sec : Nat}

theorem beaconSetCalendar_badDate (bad : dateOk y mo d h mi sec = false) :
    beaconSetCalendar c y mo d h mi sec u = u.done c 0x010 0x0302 St.INVALID_DATE :=
  (operator_ok op _ _ _).trans (if_pos (by simp [bad]))

/-- The time is kept by PTP and locked: a date is not taken. -/
def Units.ptpLocked (u : Units) : Prop := (u.bcn.source = 1 ∨ u.bcn.source = 2) ∧ u.clk.locked = true

variable (ok : dateOk y mo d h mi sec = true)
include ok

theorem beaconSetCalendar_ptp (ptp : u.ptpLocked) : beaconSetCalendar c y mo d h mi sec u = u.done c 0x010 0x0302 St.BAD_STATE := by
  refine (operator_ok op _ _ _).trans ((if_neg (by simp [ok])).trans (if_pos ?_))
  simpa [Units.ptpLocked] using ptp

/-- A valid date while PTP does not keep the time goes by the UTC offset in force. -/
theorem beaconSetCalendar_free (free : ¬u.ptpLocked) : beaconSetCalendar c y mo d h mi sec u =
    match u.utcNow with
    | none => u.done c 0x010 0x0302 St.BAD_STATE
    | some (x, _) =>
      if u.bcn.pend.isSome then u.done c 0x010 0x0302 St.BUSY_RETRY
      else u.acceptStep { rel := 0, target := some (utcSeconds y mo d h mi sec + x.offset), atPps := u.bcn.source = 3, cmd := c, code := 0x0302 } := by
  refine (operator_ok op _ _ _).trans ((if_neg (by simp [ok])).trans (if_neg ?_))
  simpa [Units.ptpLocked] using free

theorem beaconSetCalendar_badState (bad : u.ptpLocked ∨ u.utcNow = none) :
    beaconSetCalendar c y mo d h mi sec u = u.done c 0x010 0x0302 St.BAD_STATE := by
  by_cases ptp : u.ptpLocked
  · exact beaconSetCalendar_ptp op ok ptp
  · rw [beaconSetCalendar_free op ok ptp, bad.resolve_left ptp]

section
variable {x : Utc} {a : Bool} (free : ¬u.ptpLocked) (now : u.utcNow = some (x, a))
include free now

theorem beaconSetCalendar_busy (waits : u.bcn.pend.isSome = true) :
    beaconSetCalendar c y mo d h mi sec u = u.done c 0x010 0x0302 St.BUSY_RETRY := by
  rw [beaconSetCalendar_free op ok free, now]
  exact if_pos waits

theorem beaconSetCalendar_accepts (none : u.bcn.pend = none) : beaconSetCalendar c y mo d h mi sec u =
    u.acceptStep { rel := 0, target := some (utcSeconds y mo d h mi sec + x.offset), atPps := u.bcn.source = 3, cmd := c, code := 0x0302 } := by
  rw [beaconSetCalendar_free op ok free, now]
  exact if_neg (by simp [none])

end

end

theorem beaconSetUtc_sets {off : Nat} (inRange : off < 256) (l61 l59 : Bool) : beaconSetUtc c off l61 l59 u =
    (u.upB fun b => { b with utc := some { offset := off, leap61 := l61, leap59 := l59, day := u.utcDay off } }).done c 0x010 0x0303 St.OK :=
  (operator_ok op _ _ _).trans (if_neg (Nat.not_le.2 inRange))

end

/-! PTP_SYNC_MEASUREMENT (R434, R436) -/

theorem beaconApartFromEvents : Units.ApartFromEvents fun u => u.bcn :=
  ⟨fun _ _ => rfl, fun _ _ => rfl, fun _ _ => rfl, fun _ _ => rfl, fun _ _ => rfl, fun _ _ => rfl, fun _ _ => rfl, fun _ _ => rfl⟩

/-- A domain that is switched to is the source. -/
theorem Units.switchTo_source (u : Units) (d : Nat) : (u.switchTo d).bcn.source = d + 1 :=
  congrArg Beacon.source (beaconApartFromEvents.raise _ _ _ _ _ _ _ _ _ _ _)

theorem notInService_iff (u : Units) (d : Nat) : (decide (2 ≤ d) || !(u.domOn d)) = true ↔ 2 ≤ d ∨ u.domOn d = false := by simp

theorem inService {u : Units} {d : Nat} (there : d < 2) (on : u.domOn d = true) : (decide (2 ≤ d) || !(u.domOn d)) = false := by
  simp [there, on]

/-- The units once an offset of domain `d` is kept. -/
def Units.offsetKept (u : Units) (d : Nat) (off : Int) : Units := u.upDom d fun x => { x with offset := some (off, u.clk.mono), lost := false }

/-- The time is held over from a lost preferred domain, other than `d` (R436). -/
def Units.heldOver (u : Units) (d : Nat) : Prop := u.bcn.source = 0 ∧ u.clk.locked = true ∧ d ≠ u.primary ∧ u.domOn u.primary = true

theorem Units.heldOver_iff (u : Units) (d : Nat) :
    (u.bcn.source = 0 && u.clk.locked && d ≠ u.primary && u.domOn u.primary) = true ↔ u.heldOver d := by
  simp [Units.heldOver, and_assoc]

/-- The units with the source that a measurement of domain `d` leaves. -/
def Units.sourceAfter (u : Units) (d : Nat) : Units :=
  if u.bcn.source = 0 && u.clk.locked && d ≠ u.primary && u.domOn u.primary then (if u.agrees d then u.switchTo d else u)
  else if u.bcn.source = 0 || u.bcn.source = 3 then u.upB fun b => { b with source := d + 1 } else u

section
variable {u : Units} {d : Nat}

theorem Units.sourceAfter_kept (kept : u.bcn.source ≠ 0 ∧ u.bcn.source ≠ 3) : u.sourceAfter d = u :=
  (if_neg (by simp [kept.1])).trans (if_neg (by simp [kept]))

theorem Units.sourceAfter_taken (free : u.bcn.source = 0 ∨ u.bcn.source = 3) (no : ¬u.heldOver d) :
    u.sourceAfter d = u.upB fun b => { b with source := d + 1 } :=
  (if_neg (mt (u.heldOver_iff d).1 no)).trans (if_pos (by simpa using free))

theorem Units.sourceAfter_held (held : u.heldOver d) : u.sourceAfter d = if u.agrees d then u.switchTo d else u := if_pos ((u.heldOver_iff d).2 held)

end

section
variable {u : Units} {d : Nat} {off : Int}

theorem ptpSyncMeasurement_counted (no : 2 ≤ d ∨ u.domOn d = false) : ptpSyncMeasurement d off u = u.count 0x100110 :=
  if_pos ((notInService_iff u d).2 no)

section
variable (there : d < 2) (on : u.domOn d = true)
include there on

theorem ptpSyncMeasurement_on : ptpSyncMeasurement d off u =
    if ((u.offsetKept d off).sourceAfter d).bcn.source = d + 1 then ((u.offsetKept d off).sourceAfter d).measured off
    else (u.offsetKept d off).sourceAfter d :=
  if_neg (Bool.eq_false_iff.1 (inService there on))

theorem ptpSyncMeasurement_disciplines {w : Units} (after : (u.offsetKept d off).sourceAfter d = w) (mine : w.bcn.source = d + 1) :
    ptpSyncMeasurement d off u = w.measured off := by
  rw [ptpSyncMeasurement_on there on, after]
  exact if_pos mine

theorem ptpSyncMeasurement_keeps {w : Units} (after : (u.offsetKept d off).sourceAfter d = w) (other : w.bcn.source ≠ d + 1) :
    ptpSyncMeasurement d off u = w := by
  rw [ptpSyncMeasurement_on there on, after]
  exact if_neg other

end

end

/-! PTP_ANNOUNCE (R429, R441) -/

theorem Units.upDom_congr {u : Units} {d : Nat} {f g : BcnDomain → BcnDomain} (same : f (u.dom d) = g (u.dom d)) : u.upDom d f = u.upDom d g := by
  unfold Units.dom at same
  unfold Units.upDom Units.upB
  split at same <;> simp_all

/-- The day from which the leap flags of an Announce count: kept while they are the same. -/
def Units.leapDay (u : Units) (x : BcnDomain) (off : Nat) (l61 l59 : Bool) : Nat :=
  match x.utc with
  | some o => if o.leap61 = l61 ∧ o.leap59 = l59 then o.day else u.utcDay off
  | none => u.utcDay off

section
variable {u : Units} {d off : Nat} {data : List Nat} {valid l61 l59 : Bool}

theorem ptpAnnounce_counted (no : 2 ≤ d ∨ u.domOn d = false) : ptpAnnounce d data off valid l61 l59 u = u.count 0x100110 :=
  if_pos ((notInService_iff u d).2 no)

variable (there : d < 2) (on : u.domOn d = true)
include there on

theorem ptpAnnounce_other {b : List Nat} (best : (u.dom d).best = some b) (better : betterMaster b data = true) (differs : b ≠ data) :
    ptpAnnounce d data off valid l61 l59 u = u.upDom d fun x => { x with best := some b } := by
  refine (if_neg (Bool.eq_false_iff.1 (inService there on))).trans ?_
  simp only [best, better, if_true]
  exact Units.upDom_congr (by simp [differs])

theorem ptpAnnounce_best (best : ∀ b, (u.dom d).best = some b → betterMaster b data = false) : ptpAnnounce d data off valid l61 l59 u =
    u.upDom d fun x =>
      { x with best := some data,
               utc := if valid then some { offset := off % 256, leap61 := l61, leap59 := l59, day := u.leapDay (u.dom d) off l61 l59 } else none } := by
  refine (if_neg (Bool.eq_false_iff.1 (inService there on))).trans (Units.upDom_congr ?_)
  cases is : (u.dom d).best with
  | none => cases valid <;> simp [Units.leapDay] <;> rfl
  | some b => cases valid <;> simp [best b is, Units.leapDay] <;> rfl

end

/-! Transmit timestamps (R438, R446) -/

section
variable {u : Units} {p seq ty dom : Nat} (there : p < 2)
include there

theorem ptpEventTransmit_full (full : 64 ≤ (u.txts p).q.length) : ptpEventTransmit p seq ty dom u =
    (u.setTxts p { u.txts p with overflow := true, drops := satW 16 ((u.txts p).drops + 1) }).bcnEvent Ev.BEACON_TXTS_OVERFLOW :=
  (if_neg (Nat.not_le.2 there)).trans (if_pos full)

/-- The units once a timestamp stands in the queue of port `p`. -/
def Units.stamped (u : Units) (p seq ty dom : Nat) : Units :=
  u.setTxts p { u.txts p with q := (u.txts p).q ++ [(seq % 2 ^ 16, ty % 16, dom % 256, u.clk.sec, u.clk.ns, u.clk.frac)] }

variable (room : (u.txts p).q.length < 64)
include room

theorem ptpEventTransmit_room : ptpEventTransmit p seq ty dom u =
    if ty = 0 then (u.stamped p seq ty dom).emit (.bus 2 [p, 8, seq, dom, u.clk.sec, u.clk.ns, u.clk.frac])
    else if ty = 3 then (u.stamped p seq ty dom).emit (.bus 2 [p, 0xA, seq, dom, u.clk.sec, u.clk.ns, u.clk.frac])
    else u.stamped p seq ty dom :=
  (if_neg (Nat.not_le.2 there)).trans (if_neg (Nat.not_le.2 room))

theorem ptpEventTransmit_oneStep (not0 : ty ≠ 0) (not3 : ty ≠ 3) : ptpEventTransmit p seq ty dom u = u.stamped p seq ty dom :=
  (ptpEventTransmit_room there room).trans ((if_neg not0).trans (if_neg not3))

theorem ptpEventTransmit_followUp {r : Nat} (twoStep : ty = 0 ∧ r = 8 ∨ ty = 3 ∧ r = 0xA) : ptpEventTransmit p seq ty dom u =
    (u.stamped p seq ty dom).emit (.bus 2 [p, r, seq, dom, u.clk.sec, u.clk.ns, u.clk.frac]) := by
  rw [ptpEventTransmit_room there room]
  rcases twoStep with ⟨rfl, rfl⟩ | ⟨rfl, rfl⟩ <;> rfl

end

/-- The units with the words 1 to 3 of BEACON_TXTS of a port latched. -/
def Units.txtsLatched (u : Units) (a : Nat) (v : List Nat) : Units :=
  { u with regs := { u.regs with latch := (List.range 3).foldl (fun m k => NMap.set m (a + 4 + 4 * k) (v.getD k 0)) u.regs.latch } }

section
variable {u : Units} {w : Sys2Proof.Who} {p : Nat} (there : p < 2)
include there

theorem beaconTxtsPop_refused (no : isOperator w.priv = false) : beaconTxtsPop w p u = u.emit (.read (0x100080 + 0x10 * p) 0) :=
  (if_neg (Nat.not_le.2 there)).trans (if_pos (by simp [no]))

variable (op : isOperator w.priv = true)
include op

theorem beaconTxtsPop_empty (empty : (u.txts p).q = []) :
    beaconTxtsPop w p u = (u.txtsLatched (0x100080 + 0x10 * p) [0, 0, 0]).emit (.read (0x100080 + 0x10 * p) 0) := by
  refine (if_neg (Nat.not_le.2 there)).trans ((if_neg (by simp [op])).trans ?_)
  dsimp only
  rw [empty]
  rfl

theorem beaconTxtsPop_oldest {sq ty dm sec ns fr : Nat} {rest : List (Nat × Nat × Nat × Nat × Nat × Nat)}
    (oldest : (u.txts p).q = (sq, ty, dm, sec, ns, fr) :: rest) : beaconTxtsPop w p u =
      ((u.setTxts p { u.txts p with q := rest }).txtsLatched (0x100080 + 0x10 * p) [ns, sec % 2 ^ 32, sec / 2 ^ 32 % 2 ^ 16 + fr * 2 ^ 16]).emit
        (.read (0x100080 + 0x10 * p) (sq + ty * 2 ^ 16 + dm * 2 ^ 20 + 2 ^ 31)) := by
  refine (if_neg (Nat.not_le.2 there)).trans ((if_neg (by simp [op])).trans ?_)
  dsimp only
  rw [oldest]
  rfl

end

/-! PTP_OTHER_MESSAGE (R429, R430) -/

/-- Domain `k` is in service under the PTP domain number `dom`. -/
def Units.servesDomain (u : Units) (dom k : Nat) : Prop := bits (u.domCfg k) 6 0 = dom ∧ u.domOn k = true

/-- A domain of configuration `x` supports a message of type `ty` at port `p`. -/
def supportsPtp (x p ty : Nat) : Prop :=
  p < 2 ∧ bitAt x (8 + p) = true ∧ (ty = 8 ∨ bitAt x 10 = false ∧ (ty = 1 ∨ ty = 9) ∨ bitAt x 10 = true ∧ (ty = 2 ∨ ty = 3 ∨ ty = 0xA))

/-- This T3 is master of domain `d`. -/
def Units.isPtpMaster (u : Units) (d : Nat) : Prop :=
  bitAt (u.domCfg d) 12 = true ∧ ∀ b, (u.dom d).best = some b → bits (u.domCfg d) 31 24 < b.getD 0 0

/-- The units once a message that the domain supports is timestamped. -/
def Units.messageStamped (u : Units) (dom ty seq : Nat) : Units := u.upB fun b => { b with rx := NMap.set b.rx (16 * dom + ty) (seq, u.clk.sec, u.clk.ns) }

/-- The domain that serves a PTP domain number. -/
def Units.domainServing (u : Units) (dom : Nat) : Option Nat :=
  if bits (u.domCfg 0) 6 0 = dom && u.domOn 0 then some 0 else if bits (u.domCfg 1) 6 0 = dom && u.domOn 1 then some 1 else none

theorem supportsPtp_iff (x p ty : Nat) :
    (2 > p && bitAt x (8 + p) && ((!(bitAt x 10) && (ty = 1 || ty = 9)) || (bitAt x 10 && (ty = 2 || ty = 3 || ty = 0xA)) || ty = 8)) = true ↔
      supportsPtp x p ty := by
  simp only [supportsPtp, Bool.and_eq_true, Bool.or_eq_true, Bool.not_eq_true', decide_eq_true_eq, and_assoc, or_comm, or_assoc, gt_iff_lt]

theorem Units.isPtpMaster_iff (u : Units) (d : Nat) :
    (bitAt (u.domCfg d) 12 && (match (u.dom d).best with | some b => decide (bits (u.domCfg d) 31 24 < b.getD 0 0) | none => true)) = true ↔
      u.isPtpMaster d := by
  unfold Units.isPtpMaster
  cases (u.dom d).best <;> simp

section
variable {u : Units} {p dom ty seq : Nat}

theorem Units.domainServing_none (no0 : ¬u.servesDomain dom 0) (no1 : ¬u.servesDomain dom 1) : u.domainServing dom = none :=
  (if_neg (by simpa [Units.servesDomain] using no0)).trans (if_neg (by simpa [Units.servesDomain] using no1))

theorem Units.domainServing_some {d : Nat} (serves : d = 0 ∧ u.servesDomain dom 0 ∨ d = 1 ∧ ¬u.servesDomain dom 0 ∧ u.servesDomain dom 1) :
    u.domainServing dom = some d := by
  rcases serves with ⟨rfl, first⟩ | ⟨rfl, no, second⟩
  · exact if_pos (by simpa [Units.servesDomain] using first)
  · exact (if_neg (by simpa [Units.servesDomain] using no)).trans (if_pos (by simpa [Units.servesDomain] using second))

theorem ptpOtherMessage_noDomain (none : u.domainServing dom = none) : ptpOtherMessage p dom ty seq u = u.count 0x100110 := by
  rw [Units.domainServing] at none
  simp only [ptpOtherMessage, none]

section
variable {d : Nat} (serving : u.domainServing dom = some d)
include serving

theorem ptpOtherMessage_unsupported (no : ¬supportsPtp (u.domCfg d) p ty) : ptpOtherMessage p dom ty seq u = u.count 0x100110 := by
  rw [← supportsPtp_iff, Bool.not_eq_true] at no
  rw [Units.domainServing] at serving
  simp only [ptpOtherMessage, serving, no, Bool.not_false, if_true]

/-- A message that its domain supports is timestamped, and answered by its type. -/
theorem ptpOtherMessage_supported (ok : supportsPtp (u.domCfg d) p ty) : ptpOtherMessage p dom ty seq u =
    let w := u.messageStamped dom ty seq
    if ty = 1 && (bitAt (u.domCfg d) 12 && (match (u.dom d).best with | some b => decide (bits (u.domCfg d) 31 24 < b.getD 0 0) | none => true)) then
      w.emit (.bus 2 [p, 9, seq, dom, u.clk.sec, u.clk.ns, u.clk.frac])
    else if ty = 2 then w.emit (.bus 2 [p, 3, seq, dom, u.clk.sec, u.clk.ns, u.clk.frac])
    else w := by
  rw [← supportsPtp_iff] at ok
  rw [Units.domainServing] at serving
  simp only [ptpOtherMessage, serving, ok, Bool.not_true, Bool.false_eq_true, if_false]
  rfl

theorem ptpOtherMessage_delay (ok : supportsPtp (u.domCfg d) p ty) (delay : ty = 1) (master : u.isPtpMaster d) : ptpOtherMessage p dom ty seq u =
    (u.messageStamped dom ty seq).emit (.bus 2 [p, 9, seq, dom, u.clk.sec, u.clk.ns, u.clk.frac]) := by
  rw [← Units.isPtpMaster_iff] at master
  exact (ptpOtherMessage_supported serving ok).trans (if_pos (by rw [master]; simp [delay]))

theorem ptpOtherMessage_peerDelay (ok : supportsPtp (u.domCfg d) p ty) (peer : ty = 2) : ptpOtherMessage p dom ty seq u =
    (u.messageStamped dom ty seq).emit (.bus 2 [p, 3, seq, dom, u.clk.sec, u.clk.ns, u.clk.frac]) :=
  (ptpOtherMessage_supported serving ok).trans ((if_neg (by simp [peer])).trans (if_pos peer))

theorem ptpOtherMessage_stamped (ok : supportsPtp (u.domCfg d) p ty) (not2 : ty ≠ 2) (noMaster : ty = 1 → ¬u.isPtpMaster d) :
    ptpOtherMessage p dom ty seq u = u.messageStamped dom ty seq := by
  refine (ptpOtherMessage_supported serving ok).trans ((if_neg fun answers => ?_).trans (if_neg not2))
  rw [Bool.and_eq_true, decide_eq_true_eq, Units.isPtpMaster_iff] at answers
  exact noMaster answers.1 answers.2

end

end

/-- Settles O40: each clause is one branch of its command or message, by the lemmas above. -/
theorem beaconCommandsKeepTime : Obligations.BeaconCommandsKeepTime := by
  intro s w c
  refine ⟨fun op => ⟨fun step nonzero => ⟨fun free => ?accepts, fun waits => ?busy⟩, fun y mo d h mi sec => ⟨fun bad => ?badDate, fun ok =>
      ⟨fun bad => ?badState, fun x a free now => ⟨fun waits => ?calBusy, fun none => ?calAccepts⟩⟩⟩, fun off l61 l59 inRange => ?utc⟩,
    fun d off => ⟨fun no => ?syncCounted, fun there on => ⟨fun mine => ?inUse, fun other => ?otherInUse, fun free no => ?becomes, fun held agrees => ?heldTakes,
      fun held no => ?heldKeeps⟩⟩,
    fun d data off valid l61 l59 => ⟨fun no => ?annCounted, fun there on => ⟨fun b best better differs => ?annOther, fun best => ?annBest⟩⟩,
    fun p seq ty dom there => ⟨fun full => ?txFull, fun room => ⟨fun not0 not3 => ?txOne, fun r twoStep => ?txTwo⟩⟩,
    fun p there => ⟨fun no => ?popRefused, fun op => ⟨fun empty => ?popEmpty, fun sq ty dm sec ns fr rest oldest => ?popOldest⟩⟩,
    fun p dom ty seq d => ⟨fun no0 no1 => ?noDomain, fun serves => ⟨fun no => ?unsupported, fun ok => ⟨fun delay master => ?delay, fun peer => ?peer,
      fun not2 noMaster => ?stamped⟩⟩⟩⟩
  case accepts => exact State.runU_of_eq (beaconStep_accepts op nonzero free)
  case busy => exact State.runU_of_eq (beaconStep_busy op nonzero waits)
  case badDate => exact State.runU_of_eq (beaconSetCalendar_badDate op bad)
  case badState => exact State.runU_of_eq (beaconSetCalendar_badState op ok bad)
  case calBusy => exact State.runU_of_eq (beaconSetCalendar_busy op ok free now waits)
  case calAccepts => exact State.runU_of_eq (beaconSetCalendar_accepts op ok free now none)
  case utc => exact State.runU_of_eq (beaconSetUtc_sets op inRange l61 l59)
  case syncCounted => exact State.runU_of_eq (ptpSyncMeasurement_counted no)
  case inUse =>
    have source : (s.u.offsetKept d off).bcn.source = d + 1 := mine
    exact State.runU_of_eq (ptpSyncMeasurement_disciplines there on (Units.sourceAfter_kept (by omega)) source)
  case otherInUse =>
    have source : (s.u.offsetKept d off).bcn.source = 2 - d := other
    exact State.runU_of_eq (ptpSyncMeasurement_keeps there on (Units.sourceAfter_kept (by omega)) (by omega))
  case becomes => exact State.runU_of_eq (ptpSyncMeasurement_disciplines there on (Units.sourceAfter_taken free no) rfl)
  case heldTakes =>
    exact State.runU_of_eq (ptpSyncMeasurement_disciplines there on ((Units.sourceAfter_held held).trans (if_pos agrees)) (Units.switchTo_source _ d))
  case heldKeeps =>
    have source : (s.u.offsetKept d off).bcn.source = 0 := held.1
    exact State.runU_of_eq (ptpSyncMeasurement_keeps there on ((Units.sourceAfter_held held).trans (if_neg (Bool.eq_false_iff.1 no))) (by omega))
  case annCounted => exact State.runU_of_eq (ptpAnnounce_counted no)
  case annOther => exact State.runU_of_eq (ptpAnnounce_other there on best better differs)
  case annBest => exact State.runU_of_eq (ptpAnnounce_best there on best)
  case txFull => exact State.runU_of_eq (ptpEventTransmit_full there full)
  case txOne => exact State.runU_of_eq (ptpEventTransmit_oneStep there room not0 not3)
  case txTwo => exact State.runU_of_eq (ptpEventTransmit_followUp there room twoStep)
  case popRefused => exact State.runU_of_eq (beaconTxtsPop_refused there no)
  case popEmpty => exact State.runU_of_eq (beaconTxtsPop_empty there op empty)
  case popOldest => exact State.runU_of_eq (beaconTxtsPop_oldest there op oldest)
  case noDomain => exact State.runU_of_eq (ptpOtherMessage_noDomain (Units.domainServing_none no0 no1))
  case unsupported => exact State.runU_of_eq (ptpOtherMessage_unsupported (Units.domainServing_some serves) no)
  case delay => exact State.runU_of_eq (ptpOtherMessage_delay (Units.domainServing_some serves) ok delay master)
  case peer => exact State.runU_of_eq (ptpOtherMessage_peerDelay (Units.domainServing_some serves) ok peer)
  case stamped => exact State.runU_of_eq (ptpOtherMessage_stamped (Units.domainServing_some serves) ok not2 noMaster)

end Sys2Proof.Machine
end

section
/-!
PROOFS. The mailbox commands (19 R448 to R453): what each comes to, branch by branch, and the statement about them.
-/
namespace Sys2Proof.Machine

/-! Who a channel allows -/

/-- An identity that a channel allows has a privilege encoding that is not reserved (R14, R448). -/
theorem Units.mbAllowed_priv {u : Units} {w : Sys2Proof.Who} {n : Nat} (may : u.mbAllowed w n = true) : w.priv < 4 := by
  unfold Units.mbAllowed at may
  dsimp only at may
  split at may <;> rw [Bool.and_eq_true, decide_eq_true_eq] at may <;> exact may.2

/-- An identity of a reserved privilege encoding is not allowed. -/
theorem Units.mbAllowed_reserved {u : Units} {w : Sys2Proof.Who} (reserved : 4 ≤ w.priv) (n : Nat) : u.mbAllowed w n = false :=
  Bool.eq_false_iff.2 fun may => Nat.not_lt.2 reserved (Units.mbAllowed_priv may)

theorem mbRefusal_reserved {w : Sys2Proof.Who} (reserved : 4 ≤ w.priv) : mbRefusal w = St.NOT_PRIVILEGED := if_pos reserved

theorem mbRefusal_stranger {w : Sys2Proof.Who} (real : w.priv < 4) : mbRefusal w = St.SENDER_NOT_ALLOWED := if_neg (Nat.not_le.2 real)

section
variable {u : Units} {w : Sys2Proof.Who} {n k value : Nat}

/-! MB_POST (R448, R449) -/

theorem mbPost_reserved (reserved : 4 ≤ w.priv) : mbPost w n k u = u.mbRefuse n St.NOT_PRIVILEGED := if_pos reserved

theorem mbPost_badCount (real : w.priv < 4) (bad : k = 0 ∨ 8 < k) : mbPost w n k u = u.mbRefuse n St.BAD_PARAM :=
  (if_neg (Nat.not_le.2 real)).trans (if_pos (by simpa using bad))

section
variable (some : 1 ≤ k) (fits : k ≤ 8)
include some fits

theorem mbPost_stranger (real : w.priv < 4) (no : u.mbAllowed w n = false) : mbPost w n k u = u.mbRefuse n St.SENDER_NOT_ALLOWED := by
  refine (if_neg (Nat.not_le.2 real)).trans ((if_neg (by simp; omega)).trans ((if_pos (by simp [no])).trans ?_))
  rw [mbRefusal_stranger real]

variable (may : u.mbAllowed w n = true)
include may

/-- A post of an allowed identity goes by whether the channel is full. -/
theorem mbPost_allowed : mbPost w n k u =
    if (u.ch n).outFull && n ≠ 0 then u.mbRefuse n St.BUSY_RETRY
    else (if n = 0 && (u.ch n).outFull then u.count 0x210128 else u).setCh n
      { u.ch n with msg := (u.ch n).outW.take k, stamp := whoStamp w, outFull := true, collision := (u.ch n).collision || (n = 0 && (u.ch n).outFull),
                    posted := satW 16 ((u.ch n).posted + 1), writers := [] } :=
  (if_neg (Nat.not_le.2 (Units.mbAllowed_priv may))).trans ((if_neg (by simp; omega)).trans (if_neg (by simp [may])))

theorem mbPost_takes (empty : (u.ch n).outFull = false) : mbPost w n k u =
    u.setCh n { u.ch n with msg := (u.ch n).outW.take k, stamp := whoStamp w, outFull := true, posted := satW 16 ((u.ch n).posted + 1), writers := [] } := by
  rw [mbPost_allowed some fits may]
  simp [empty]

theorem mbPost_replaces (full : (u.ch n).outFull = true) (shared : n = 0) : mbPost w n k u =
    (u.count 0x210128).setCh n { u.ch n with msg := (u.ch n).outW.take k, stamp := whoStamp w, outFull := true, collision := true,
                                             posted := satW 16 ((u.ch n).posted + 1), writers := [] } := by
  subst shared
  rw [mbPost_allowed some fits may]
  simp [full]

theorem mbPost_busy (full : (u.ch n).outFull = true) (own : n ≠ 0) : mbPost w n k u = u.mbRefuse n St.BUSY_RETRY :=
  (mbPost_allowed some fits may).trans (if_pos (by simp [full, own]))

end

/-! Acknowledgement and the return direction (R449) -/

theorem mbAcknowledge_full (full : (u.ch n).outFull = true) :
    mbAcknowledge n value u = u.setCh n { u.ch n with ack := wrapW 16 value, outFull := false, msg := [] } := if_pos full

theorem mbReturnPost_takes {words : List Nat} (some : words ≠ []) (fits : words.length ≤ 8) (empty : (u.ch n).retFull = false) :
    mbReturnPost n words u = u.setCh n { u.ch n with retW := words ++ (u.ch n).retW.drop words.length, retFull := true, retCountValid := true,
                                                     retCount := words.length } :=
  (if_neg (by simp [some, fits])).trans (if_neg (by simp [empty]))

theorem mbRetAck_refused (no : u.mbAllowed w n = false) : mbRetAck w n value u = u.mbRefuse n (mbRefusal w) := if_pos (by simp [no])

section
variable (may : u.mbAllowed w n = true)
include may

theorem mbRetAck_releases (set : bitAt value 0 = true) :
    mbRetAck w n value u = u.setCh n { u.ch n with retFull := false, retCountValid := false } :=
  (if_neg (by simp [may])).trans (if_pos set)

theorem mbRetAck_nothing (clear : bitAt value 0 = false) : mbRetAck w n value u = u :=
  (if_neg (by simp [may])).trans (if_neg (Bool.eq_false_iff.1 clear))

end

/-! Doorbells, masks and bindings (R450, R451, R453) -/

theorem mbDbSet_refused (no : 4 ≤ w.priv ∨ bits (wrapW 32 value) 15 0 ≠ 0 ∧ u.mbAllowed w n = false) :
    mbDbSet w n value u = u.mbRefuse n (mbRefusal w) :=
  if_pos (by simpa using no)

theorem mbDbSet_rings (real : w.priv < 4) (may : bits (wrapW 32 value) 15 0 = 0 ∨ u.mbAllowed w n = true) : mbDbSet w n value u =
    (u.setCh n { u.ch n with db := (u.ch n).db ||| (wrapW 32 value &&& u.dbRings w n) }).dbIrq n (wrapW 32 value &&& u.dbRings w n) := by
  refine if_neg ?_
  rcases may with high | may
  · simp [real, high]
  · simp [real, may]

theorem mbDbClear_reserved (reserved : 4 ≤ w.priv) : mbDbClear w n value u = u.mbRefuse n St.NOT_PRIVILEGED := if_pos reserved

theorem mbDbClear_clears (real : w.priv < 4) :
    mbDbClear w n value u = u.setCh n { u.ch n with db := andNot (u.ch n).db (wrapW 32 value &&& u.dbTakes w n) } := if_neg (Nat.not_le.2 real)

theorem mbDbMaskWrite_operator (op : isOperator w.priv = true) : mbDbMaskWrite w n value u =
    (u.setCh n { u.ch n with dbMask := wrapW 32 value }).dbIrq n ((u.ch n).db &&& andNot (u.ch n).dbMask (wrapW 32 value)) := if_pos op

theorem mbBindWrite_operator (op : isOperator w.priv = true) :
    mbBindWrite w n value u = u.setCh n { u.ch n with bind := wrapW 32 value - bits value 11 1 * 2 } := if_pos op

theorem mbDbMaskWrite_ignored (no : isOperator w.priv = false) : mbDbMaskWrite w n value u = u := if_neg (Bool.eq_false_iff.1 no)

theorem mbBindWrite_ignored (no : isOperator w.priv = false) : mbBindWrite w n value u = u := if_neg (Bool.eq_false_iff.1 no)

end

/-- Settles O9: each clause is one branch of its command, by the lemmas above. -/
theorem mailboxCommandsExchange : Obligations.MailboxCommandsExchange := by
  refine ⟨fun s w n value => ⟨fun k some fits may => ⟨fun empty => ?takes, fun full shared => ?replaces⟩, fun full => ?acknowledges,
      fun words some fits empty => ?returns, fun may => ⟨fun set => ?releases, fun clear => ?releasesNothing⟩, fun real => ⟨fun may => ?rings, ?clears⟩,
      fun op => ⟨?masks, ?binds⟩, fun no => ⟨?maskIgnored, ?bindIgnored⟩⟩,
    fun s w n value k => ⟨fun real no => ⟨fun some fits => ?postStranger, ?ackStranger, fun low => ?ringStranger⟩, fun reserved => ⟨?postReserved,
      ?ackReserved, ?ringReserved, ?clearReserved⟩, fun real bad => ?badCount, fun some fits may full own => ?busy⟩⟩
  case takes => exact State.runU_of_eq (mbPost_takes some fits may empty)
  case replaces => exact State.runU_of_eq (mbPost_replaces some fits may full shared)
  case acknowledges => exact State.runU_of_eq (mbAcknowledge_full full)
  case returns => exact State.runU_of_eq (mbReturnPost_takes some fits empty)
  case releases => exact State.runU_of_eq (mbRetAck_releases may set)
  case releasesNothing => exact State.runU_of_eq (mbRetAck_nothing may clear)
  case rings => exact State.runU_of_eq (mbDbSet_rings real may)
  case clears => exact State.runU_of_eq (mbDbClear_clears real)
  case masks => exact State.runU_of_eq (mbDbMaskWrite_operator op)
  case binds => exact State.runU_of_eq (mbBindWrite_operator op)
  case maskIgnored => exact State.runU_of_eq (mbDbMaskWrite_ignored no)
  case bindIgnored => exact State.runU_of_eq (mbBindWrite_ignored no)
  case postStranger => exact State.runU_of_eq (mbPost_stranger some fits real no)
  case ackStranger => exact State.runU_of_eq ((mbRetAck_refused no).trans (by rw [mbRefusal_stranger real]))
  case ringStranger => exact State.runU_of_eq ((mbDbSet_refused (.inr ⟨low, no⟩)).trans (by rw [mbRefusal_stranger real]))
  case postReserved => exact State.runU_of_eq (mbPost_reserved reserved)
  case ackReserved => exact State.runU_of_eq ((mbRetAck_refused (Units.mbAllowed_reserved reserved n)).trans (by rw [mbRefusal_reserved reserved]))
  case ringReserved => exact State.runU_of_eq ((mbDbSet_refused (.inl reserved)).trans (by rw [mbRefusal_reserved reserved]))
  case clearReserved => exact State.runU_of_eq (mbDbClear_reserved reserved)
  case badCount => exact State.runU_of_eq (mbPost_badCount real bad)
  case busy => exact State.runU_of_eq (mbPost_busy some fits may full own)

end Sys2Proof.Machine
end

section
/-!
PROOFS. The power sequencer (23 R534 to R543): what each of its commands and pins does, branch by branch, and the statement about them.
-/
namespace Sys2Proof.Machine

/-! Starts (R534, R535) -/

section
variable {u : Units} {x : PwrStart}

theorem Units.startRequest_full (full : 64 ≤ u.pwr.queue.length) (noCmd : x.cmd = none) : u.startRequest x =
    let v := (u.count 0x290).lampEvent Ev.PWR_QUEUE_FULL
    if x.kind = 0 then v.spareRefused x.port else v := by
  refine (if_pos full).trans ?_
  dsimp only
  rw [noCmd]

theorem Units.startRequest_queues (room : u.pwr.queue.length < 64) : u.startRequest x =
    let v := (u.upP fun p => { p with queue :=
      if x.recovery then (u.pwr.queue.filter (·.recovery)) ++ [x] ++ u.pwr.queue.filter (fun y => !y.recovery) else u.pwr.queue ++ [x] }).admitQueue
    if v.pwr.queue.contains x then v.count 0x288 else v :=
  if_neg (Nat.not_le.2 room)

theorem powerStartRequest_known {kind port ctx : Nat} {recovery : Bool} (known : kind < 3) :
    powerStartRequest kind port ctx recovery u = u.askStart kind port ctx (kind = 1 || (kind = 0 && recovery)) none := if_neg (Nat.not_le.2 known)

end

/-! PWRSEQ_POS and POS_CYCLE_POWER_ON (R538, R539) -/

section
variable {u : Units} {c : Sys2Proof.Cmd} {port : Nat} (op : isOperator (stampPriv c.stamp) = true)
include op

theorem pwrseqPos_badParam {action : Nat} (bad : 16 ≤ port ∨ 3 ≤ action) : pwrseqPos c port action u = u.done c 0x000 0x0207 St.BAD_PARAM :=
  (operator_ok op _ _ _).trans (if_pos (by simpa using bad))

variable (there : port < 16)
include there

/-- Turning a position on goes by whether it is on and its power is good. -/
theorem pwrseqPos_on : pwrseqPos c port 1 u =
    if bitAt u.pwr.posEn port && bitAt u.pwr.posPg port then u.done c 0x000 0x0207 St.OK
    else if bitAt u.pwr.posEn port then u.upP fun p => { p with posCmds := p.posCmds ++ [(port, c)] }
    else u.askStart 0 port 0xFF false (some c) :=
  (operator_ok op _ _ _).trans ((if_neg (by simp [there])).trans (if_pos rfl))

theorem pwrseqPos_starts (off : bitAt u.pwr.posEn port = false) : pwrseqPos c port 1 u = u.askStart 0 port 0xFF false (some c) :=
  (pwrseqPos_on op there).trans ((if_neg (by simp [off])).trans (if_neg (by simp [off])))

theorem pwrseqPos_alreadyOn (on : bitAt u.pwr.posEn port = true) (good : bitAt u.pwr.posPg port = true) :
    pwrseqPos c port 1 u = u.done c 0x000 0x0207 St.OK := (pwrseqPos_on op there).trans (if_pos (by simp [on, good]))

theorem pwrseqPos_waits (on : bitAt u.pwr.posEn port = true) (notYet : bitAt u.pwr.posPg port = false) :
    pwrseqPos c port 1 u = u.upP fun p => { p with posCmds := p.posCmds ++ [(port, c)] } :=
  (pwrseqPos_on op there).trans ((if_neg (by simp [notYet])).trans (if_pos on))

theorem pwrseqPos_inUse {action : Nat} (known : action < 3) (notOn : action ≠ 1) (used : u.mayPowerOff port = false) :
    pwrseqPos c port action u = u.done c 0x000 0x0207 St.BAD_STATE :=
  (operator_ok op _ _ _).trans ((if_neg (by simp [there, known])).trans ((if_neg notOn).trans (if_pos (by simp [used]))))

section
variable (may : u.mayPowerOff port = true)
include may

theorem pwrseqPos_off : pwrseqPos c port 0 u = (u.posEnable port false).done c 0x000 0x0207 St.OK :=
  (operator_ok op _ _ _).trans ((if_neg (by simp [there])).trans ((if_neg (by decide)).trans ((if_neg (by simp [may])).trans (if_pos rfl))))

theorem pwrseqPos_cycles : pwrseqPos c port 2 u = (u.posEnable port false).upP fun p => { p with cycles := p.cycles ++ [(port, c)] } :=
  (operator_ok op _ _ _).trans ((if_neg (by simp [there])).trans ((if_neg (by decide)).trans ((if_neg (by simp [may])).trans (if_neg (by decide)))))

end

end

section
variable {u : Units} {port : Nat}

theorem posCyclePowerOn_cycled {x : Nat × Sys2Proof.Cmd} (cycled : (u.pwr.cycles.find? fun y => y.1 = port) = some x) :
    posCyclePowerOn port u = (u.upP fun p => { p with cycles := p.cycles.erase x }).askStart 0 port 0xFF false (some x.2) := by
  rw [posCyclePowerOn, cycled]

/-! POS_PG (R536, R539, R543) -/

/-- The units once power is good at a position and the commands that waited for it have completed. -/
def Units.posGood (u : Units) (port : Nat) : Units :=
  (u.pwr.posCmds.filter fun x => x.1 = port).foldl (fun u x => u.done x.2 0x000 0x0207 St.OK)
    (u.upP fun p => { p with posPg := setBit p.posPg port, posCmds := u.pwr.posCmds.filter fun x => x.1 ≠ port })

/-- The units once the commands that waited for a position have failed. -/
def Units.posFailed (u : Units) (port : Nat) : Units :=
  (u.pwr.posCmds.filter fun x => x.1 = port).foldl (fun u x => u.done x.2 0x000 0x0207 St.BAD_STATE)
    (u.upP fun p => { p with posCmds := u.pwr.posCmds.filter fun x => x.1 ≠ port })

/-- A COLD spare at a port waits for its power, and its link may be brought up. -/
def Units.spareWaits (u : Units) (port : Nat) : Prop :=
  (u.rcv.prep.any fun x => x.2.1 = port && x.2.2 = [0xFF]) = true ∧ bitAt (u.linkCtl port) 0 = true ∧
    ((u.port port).state = 7 ∨ (u.port port).state = 8)

theorem Units.spareWaits_iff (u : Units) (port : Nat) :
    ((u.rcv.prep.any fun x => x.2.1 = port && x.2.2 = [0xFF]) && bitAt (u.linkCtl port) 0 && ((u.port port).state = 7 || (u.port port).state = 8)) = true ↔
      u.spareWaits port := by
  rw [Units.spareWaits, Bool.and_eq_true, Bool.and_eq_true, Bool.or_eq_true, decide_eq_true_eq, decide_eq_true_eq, and_assoc]

variable (on : bitAt u.pwr.posEn port = true)
include on

theorem posPgAssert_retrains (waits : (u.posGood port).spareWaits port) : posPgAssert port u = (u.posGood port).bringUp port :=
  (if_neg (by simp [on])).trans (if_pos ((Units.spareWaits_iff _ port).2 waits))

theorem posPgAssert_completes (no : ¬(u.posGood port).spareWaits port) : posPgAssert port u = u.posGood port :=
  (if_neg (by simp [on])).trans (if_neg (mt (Units.spareWaits_iff _ port).1 no))

theorem posPgTimeout_fails (notYet : bitAt u.pwr.posPg port = false) :
    posPgTimeout port u = (((u.posFailed port).lampEvent Ev.PWR_POS_FAIL).spareRefused port).lose port 3 := if_neg (by simp [on, notYet])

end

/-! Over-temperature and PWR_FAIL (R540) -/

section
variable {u : Units}

theorem overtempEnter_enters (cool : u.pwr.overtemp = false) :
    overtempEnter u = ((u.upP fun p => { p with overtemp := true }).fans).lampEvent Ev.PKG_OVERTEMP := if_neg (Bool.eq_false_iff.1 cool)

theorem overtempEnd_ends (hot : u.pwr.overtemp = true) : overtempEnd u = ((u.upP fun p => { p with overtemp := false }).fans).admitQueue := if_pos hot

theorem pwrFailAssert_fails (good : u.pwr.fail = false) :
    pwrFailAssert u = ((u.upP fun p => { p with fail := true, hold := true }).tallowPwrFail).lampEvent Ev.PWR_FAIL_ASSERTED :=
  if_neg (Bool.eq_false_iff.1 good)

theorem pwrFailDeassert_ends (failed : u.pwr.fail = true) :
    pwrFailDeassert u = ((u.upP fun p => { p with fail := false }).tallowPwrGood).admitQueue := if_pos failed

end

/-- Settles O12: each clause is one branch of its command or pin, by the lemmas above. -/
theorem powerSequencerAdmitsAndSwitches : Obligations.PowerSequencerAdmitsAndSwitches := by
  intro s c kind port ctx recovery
  refine ⟨fun known => ⟨fun room => ?queues, fun full => ?full⟩, ?leaves, fun op => ⟨fun there => ⟨fun off => ?starts, fun on good => ?alreadyOn,
      fun on notYet => ?waits, fun may => ⟨?off, ?cycles⟩, fun used => ⟨?usedOff, ?usedCycle⟩⟩, fun action bad => ?badParam⟩, fun no action => ?refused,
    fun x cycled => ?cycled, fun on => ⟨?good, fun notYet => ?failed⟩, fun cool => ?hot, fun hot => ?cool, fun good => ?fails, fun failed => ?recovers⟩
  case queues => exact State.runU_of_eq ((powerStartRequest_known known).trans (Units.startRequest_queues room))
  case full => exact State.runU_of_eq ((powerStartRequest_known known).trans (Units.startRequest_full full rfl))
  case leaves => rfl
  case starts => exact State.runU_of_eq (pwrseqPos_starts op there off)
  case alreadyOn => exact State.runU_of_eq (pwrseqPos_alreadyOn op there on good)
  case waits => exact State.runU_of_eq (pwrseqPos_waits op there on notYet)
  case off => exact State.runU_of_eq (pwrseqPos_off op there may)
  case cycles => exact State.runU_of_eq (pwrseqPos_cycles op there may)
  case usedOff => exact State.runU_of_eq (pwrseqPos_inUse op there (by decide) (by decide) used)
  case usedCycle => exact State.runU_of_eq (pwrseqPos_inUse op there (by decide) (by decide) used)
  case badParam => exact State.runU_of_eq (pwrseqPos_badParam op bad)
  case refused => exact State.runU_of_eq (operator_refused no _ _ _)
  case cycled => exact State.runU_of_eq (posCyclePowerOn_cycled cycled)
  case good =>
    by_cases waits : (s.u.posGood port).spareWaits port
    · exact State.runU_of_eq ((posPgAssert_retrains on waits).trans (if_pos waits).symm)
    · exact State.runU_of_eq ((posPgAssert_completes on waits).trans (if_neg waits).symm)
  case failed => exact State.runU_of_eq (posPgTimeout_fails on notYet)
  case hot => exact State.runU_of_eq (overtempEnter_enters cool)
  case cool => exact State.runU_of_eq (overtempEnd_ends hot)
  case fails => exact State.runU_of_eq (pwrFailAssert_fails good)
  case recovers => exact State.runU_of_eq (pwrFailDeassert_ends failed)

end Sys2Proof.Machine
end

section
/-!
PROOFS. The start, the resets and the thermal trip (22 R509, R526, R531 to R533; 23 R540), stage by stage, and the statement about them.
-/
namespace Sys2Proof.Machine

/-! The start (R526, R531, Tables 22-1 and 23-2) -/

section
variable {straps nor : Nat} {fuses : Fuses}

/-- The units as a start finds them once the straps, the fuses and NOR have been taken and the fans are driven. -/
def Units.powered (u : Units) (straps : Nat) (fuses : Fuses) (nor : Nor) : Units :=
  ({ Units.reset with out := u.out, free := u.free, lamp := { Lamp.reset with fuses := fuses, nor := nor },
                      pwr := { Pwr.reset with straps := straps % 64 } } : Units).fans

theorem auxPowerGood_eq (nor : Nor) (m : Mem) (u : Units) : auxPowerGood straps fuses nor m u = (Mem.reset,
    if bits (straps % 64) 1 0 ≠ 0 then (u.powered straps fuses nor).setFault true else (u.powered straps fuses nor).fsblStage) := rfl

end

section
variable {u : Units}

/-- The units once core power is good and the configuration's identity, roles and budget are taken. -/
def Units.coreTaken (u : Units) : Units :=
  let u0 : Units := u.upP fun p => { p with corePg := true, tries := 0 }
  match u.lamp.cfg with
  | some cfg => { u0 with self := cfg.cid
                          role := { u0.role with wardenId := cfg.wardenId, keeperId := cfg.keeperId, t3Gen := wrapW 16 u0.clk.cycles }
                          pwr := { u0.pwr with budgetW := cfg.budgetW, inrush := cfg.inrush } }
  | none => { u0 with role := { u0.role with t3Gen := wrapW 16 u0.clk.cycles } }

/-- The Mantle and the units once memory, the Grid and the programs have started too. -/
def Units.coreBegun (u : Units) (x : CoreStart) : Mem × Units := ((u.coreTaken.startMantle x.present).startGrid x.bad).startPrograms Mem.reset

/-- The rest of the start, with or without a configuration image. -/
def Units.coreRest (u : Units) (x : CoreStart) : Units :=
  let u := match u.lamp.cfg with | some c => u.applyPart c.part false | none => u
  let u := ((u.startTallow x.mount).chimStart x.events).startLedger x.led
  { u with coll := { u.coll with ready := true } }

/-- A start that runs on to READY, with the admission asked for. -/
def Units.coreReady (u : Units) : Units :=
  (({ u with mb := { u.mb with mode := 0 }, lamp := { u.lamp with state := 3 } } : Units).setFault false).askAdmission

/-- The start from core power good on: in recovery no port comes up and no admission is asked for. -/
def Units.coreRun (u : Units) (x : CoreStart) (recovery : Bool) : Mem × Units :=
  let begun := u.coreBegun x
  let rest := (if recovery then begun.2 else begun.2.startPorts).coreRest x
  if recovery then (begun.1, rest) else (begun.1, if rest.coreReady.mantle.mappedOut = 0 then rest.coreReady else rest.coreReady.reportStacks)

section
variable {x : CoreStart} {m : Mem} (wanted : u.pwr.coreEn = true) (notYet : u.pwr.corePg = false)
include wanted notYet

theorem corePgAssert_runs (waits : u.lamp.state = 2 ∨ u.lamp.state = 4) : corePgAssert x m u = u.coreRun x (u.lamp.state = 4) :=
  (if_neg (by simp [wanted, notYet])).trans (if_neg (by rcases waits with h | h <;> simp [Units.upP, h]))

theorem corePgAssert_recovery (recovery : u.lamp.state = 4) :
    corePgAssert x m u = ((u.coreBegun x).1, (u.coreBegun x).2.coreRest x) := by
  rw [corePgAssert_runs wanted notYet (.inr recovery), decide_eq_true recovery]; rfl

theorem corePgAssert_ready (runtime : u.lamp.state = 2) :
    corePgAssert x m u = ((u.coreBegun x).1,
      let v := ((u.coreBegun x).2.startPorts.coreRest x).coreReady
      if v.mantle.mappedOut = 0 then v else v.reportStacks) := by
  rw [corePgAssert_runs wanted notYet (.inl runtime), decide_eq_false (by simp [runtime])]; rfl

theorem corePgTimeout_takesBack : corePgTimeout u =
    let v := (((u.upP fun p => { p with coreEn := false, tries := u.pwr.tries + 1 }).emit (.pin 1 0 0))).lampEvent Ev.PWR_CORE_TIMEOUT
    if 1 ≤ u.pwr.tries then v.setFault true else v :=
  (if_neg (by simp [wanted, notYet])).trans (if_congr Nat.succ_le_succ_iff rfl rfl)

end

theorem coreEnRetry_again (once : u.pwr.tries = 1) (off : u.pwr.coreEn = false) (allowed : bitAt u.pwr.straps 5 = false)
    (cool : u.pwr.thermtrip = false) : coreEnRetry u = (u.upP fun p => { p with coreEn := true }).emit (.pin 1 0 1) :=
  (if_pos (by simp [once, off])).trans (if_neg (by simp [once, allowed, cool]))

/-! The resets and the trip (R509, R532, R533, R540) -/

theorem Units.fullReset_cool : u.fullReset true = ((((u.cleared true).emit (.pin 1 0 0)).emit (.pin 3 0 1)).fans).fsblStage :=
  congrArg (fun v : Units => v.fans.fsblStage) (if_pos (by simp [Units.emit, Units.cleared]))

theorem Units.fullReset_hot : u.fullReset false = (((u.cleared false).emit (.pin 1 0 0)).fans).fsblStage := rfl

theorem corePgDeassert_eq (long : Bool) (m : Mem) (good : u.pwr.corePg = true) :
    corePgDeassert long m u = if long then (Mem.reset, u.pwrFailOn.fullReset false) else (m, u.pwrFailOn) := if_neg (by simp [good])

theorem sysReset_eq (tj : Int) (m : Mem) : sysReset tj m u = (Mem.reset, u.fullReset (tj < 95)) := rfl

theorem thermtrip_trips (m : Mem) (cool : u.pwr.thermtrip = false) : thermtrip m u = (Mem.reset,
    let v := ((u.cleared false).emit (.pin 3 0 0)).emit (.pin 1 0 0)
    (({ v with pwr := { v.pwr with thermtrip := true, coreEn := false, corePg := false } } : Units).setFault true).lampEvent Ev.PKG_THERMTRIP) :=
  if_neg (Bool.eq_false_iff.1 cool)

end

/-- Settles O13: each clause is one stage of the start or one of the resets, by the lemmas above. -/
theorem startAndResetRunTheStages : Obligations.StartAndResetRunTheStages := by
  intro s
  refine ⟨fun straps fuses nor => ⟨fun good => ?starts, fun bad => ?badStrap⟩, fun x wanted notYet => ⟨fun h => ?recovery, fun h => ?ready⟩,
    fun wanted notYet => ?timeout, fun once off allowed cool => ?again, fun good => ⟨?short, ?long⟩, fun tj cool => ?coolReset, fun tj hot => ?hotReset,
    fun cool => ?trip⟩
  case starts => exact State.run_of_eq ((auxPowerGood_eq ..).trans (congrArg _ (if_neg (not_not.2 good))))
  case badStrap => exact State.run_of_eq ((auxPowerGood_eq ..).trans (congrArg _ (if_pos bad)))
  case recovery => exact State.run_of_eq (corePgAssert_recovery wanted notYet h)
  case ready => exact State.run_of_eq (corePgAssert_ready wanted notYet h)
  case timeout => exact State.runU_of_eq (corePgTimeout_takesBack wanted notYet)
  case again => exact State.runU_of_eq (coreEnRetry_again once off allowed cool)
  case short => exact State.run_of_units (corePgDeassert_eq false s.mem good)
  case long => exact State.run_of_eq (corePgDeassert_eq true s.mem good)
  case coolReset =>
    rw [← Units.fullReset_cool]
    exact State.run_of_eq ((sysReset_eq tj s.mem).trans (by rw [decide_eq_true cool]))
  case hotReset => exact State.run_of_eq ((sysReset_eq tj s.mem).trans (by rw [decide_eq_false (Int.not_lt.2 hot), Units.fullReset_hot]))
  case trip => exact State.run_of_eq (thermtrip_trips s.mem cool)

end Sys2Proof.Machine
end

section
/-!
PROOFS. The collective engine's commands and messages (17 R409 to R425): the groups, the calls with their checks, the cancels and abort rounds,
branch by branch, and the statement about them.
-/
namespace Sys2Proof.Machine

/-! COLL_GROUP_SET (R409, R411, R412, Table 17-11) -/

section
variable {u : Units} {m : Mem} {c : Sys2Proof.Cmd} {group epoch flags job threshold period count addr : Nat}

/-- The member list that COLL_GROUP_SET names in memory. -/
def collMembers (m : Mem) (count addr : Nat) : List Nat := (elemsOf 4 count (m.bytesAt addr (4 * count))).map fun x => x % 2 ^ 24

/-- The operands of COLL_GROUP_SET keep to the table. -/
def Units.groupSound (u : Units) (ms : List Nat) (flags threshold period count addr : Nat) : Prop :=
  1 ≤ count ∧ count ≤ 2048 ∧ distinct ms = true ∧ ms.contains u.self = true ∧ flags < 8 ∧ threshold < 2 ^ 16 ∧
    (bitAt flags 1 = true → 100 ≤ period ∧ period ≤ 60000) ∧ (bitAt flags 1 = false → period = 0) ∧ u.mayAccess 8 addr (4 * count) false = true

/-- The group that COLL_GROUP_SET enters, with the counts of completed calls of the one it replaces. -/
def Units.groupNew (u : Units) (ms : List Nat) (group epoch flags job threshold period : Nat) (last : List (Nat × Nat)) : CollGroup :=
  { id := group, epoch := epoch, members := ms, rank := (ms.findIdx? (· = u.self)).getD 0, flags := flags,
    threshold := if threshold = 0 then 64 else threshold, job := job, period := period, next := [], lastOk := last, worst := 0, total := List.replicate 5 0 }

/-- The units with a group entered and the job of a gate group told. -/
def Units.groupSet (u : Units) (g : CollGroup) (k flags job group : Nat) : Units :=
  let u1 := u.upX fun x => { x with groups := NMap.set x.groups k g }
  if bitAt flags 0 = true ∧ (u1.jobB job).isSome = true then (u1.upJob job fun j => { j with group := group }).gateCheck job else u1

/-- The table's checks of the operands fail exactly when they do not keep to it. -/
theorem Units.groupSound_iff (u : Units) (ms : List Nat) (flags threshold period count addr : Nat) :
    (count = 0 || 2048 < count || !(distinct ms) || !(ms.contains u.self) || 8 ≤ flags || 2 ^ 16 ≤ threshold ||
      (if bitAt flags 1 then period < 100 || 60000 < period else period ≠ 0) || !(u.mayAccess 8 addr (4 * count) false)) = false ↔
    u.groupSound ms flags threshold period count addr := by
  rw [Units.groupSound]
  cases bitAt flags 1 <;> simp [Nat.one_le_iff_ne_zero, and_assoc]

variable (op : isOperator (stampPriv c.stamp) = true)
include op

theorem collGroupSet_badParam (bad : ¬u.groupSound (collMembers m count addr) flags threshold period count addr) :
    collGroupSet c group epoch flags job threshold period count addr m u = u.done c 0x090 0x0901 St.BAD_PARAM := by
  refine (operator_ok op _ _ _).trans (if_pos ?_)
  by_cases many : 2048 < count
  · simp [many]
  · rw [if_neg many]
    exact Bool.eq_true_of_not_eq_false (mt (Units.groupSound_iff u _ flags threshold period count addr).1 bad)

section
variable (good : u.groupSound (collMembers m count addr) flags threshold period count addr)
include good

/-- Of good operands, COLL_GROUP_SET enters the group unless the engine is stopped or no place is found for it. -/
theorem collGroupSet_sound : collGroupSet c group epoch flags job threshold period count addr m u =
    if !u.coll.enable then u.done c 0x090 0x0901 St.BAD_STATE
    else
      match (match u.coll.find group with
        | some (k, g) => if epoch ≤ g.epoch then none else some k
        | none => NMap.firstFree u.coll.groups 1024) with
      | none => u.done c 0x090 0x0901 St.BAD_STATE
      | some k => (u.groupSet (u.groupNew (collMembers m count addr) group epoch flags job threshold period
          (match u.coll.find group with | some o => o.2.lastOk | none => [])) k flags job group).done c 0x090 0x0901 St.OK := by
  obtain ⟨-, few, -⟩ := id good
  refine (operator_ok op _ _ _).trans ?_
  dsimp only
  rw [if_neg (Nat.not_lt.2 few)]
  refine (if_neg (Bool.eq_false_iff.1 ((Units.groupSound_iff u _ flags threshold period count addr).2 good))).trans ?_
  simp only [Units.groupSet, Bool.and_eq_true]
  rfl

theorem collGroupSet_stopped (off : u.coll.enable = false) :
    collGroupSet c group epoch flags job threshold period count addr m u = u.done c 0x090 0x0901 St.BAD_STATE :=
  (collGroupSet_sound op good).trans (if_pos (by simp [off]))

variable (on : u.coll.enable = true)
include on

theorem collGroupSet_full (absent : u.coll.find group = none) (full : NMap.firstFree u.coll.groups 1024 = none) :
    collGroupSet c group epoch flags job threshold period count addr m u = u.done c 0x090 0x0901 St.BAD_STATE := by
  rw [collGroupSet_sound op good, if_neg (by simp [on]), absent, full]

theorem collGroupSet_enters {k : Nat} (absent : u.coll.find group = none) (free : NMap.firstFree u.coll.groups 1024 = some k) :
    collGroupSet c group epoch flags job threshold period count addr m u =
      (u.groupSet (u.groupNew (collMembers m count addr) group epoch flags job threshold period []) k flags job group).done c 0x090 0x0901 St.OK := by
  rw [collGroupSet_sound op good, if_neg (by simp [on]), absent, free]

variable {k : Nat} {g : CollGroup} (there : u.coll.find group = some (k, g))
include there

theorem collGroupSet_stale (stale : epoch ≤ g.epoch) :
    collGroupSet c group epoch flags job threshold period count addr m u = u.done c 0x090 0x0901 St.BAD_STATE := by
  rw [collGroupSet_sound op good, if_neg (by simp [on]), there]
  dsimp only
  rw [if_pos stale]

theorem collGroupSet_replaces (newer : g.epoch < epoch) :
    collGroupSet c group epoch flags job threshold period count addr m u =
      (u.groupSet (u.groupNew (collMembers m count addr) group epoch flags job threshold period g.lastOk) k flags job group).done
        c 0x090 0x0901 St.OK := by
  rw [collGroupSet_sound op good, if_neg (by simp [on]), there]
  dsimp only
  rw [if_neg (Nat.not_le.2 newer)]

end

/-! COLL_GROUP_FREE (R409, Table 17-11) -/

theorem collGroupFree_unknown (absent : u.coll.find group = none) : collGroupFree c group u = u.done c 0x090 0x0902 St.BAD_PARAM := by
  rw [collGroupFree, operator_ok op, absent]

section
variable {k : Nat} {g : CollGroup} (there : u.coll.find group = some (k, g))
include there

theorem collGroupFree_busy (busy : ∃ x ∈ u.coll.open_, x.sig.group = group) : collGroupFree c group u = u.done c 0x090 0x0902 St.BAD_STATE := by
  rw [collGroupFree, operator_ok op, there]
  exact if_pos (by simpa using busy)

theorem collGroupFree_frees (idle : ∀ x ∈ u.coll.open_, x.sig.group ≠ group) : collGroupFree c group u =
    let u1 := u.upX fun x =>
      { x with groups := NMap.del x.groups k, ended := x.ended.filter fun e => e.1.group ≠ group, held := x.held.filter fun k => k.sig.group ≠ group }
    (if bitAt g.flags 0 = true ∧ (u1.jobB g.job).isSome = true then u1.upJob g.job fun j => { j with group := 0 } else u1).done
      c 0x090 0x0902 St.OK := by
  rw [collGroupFree, operator_ok op, there]
  refine (if_neg (by simpa using idle)).trans ?_
  simp only [Bool.and_eq_true]

end

end

/-! COLL_CALL (R412, R416, R417, Table 17-11) -/

section
variable {u : Units} {m : Mem} {c : Sys2Proof.Cmd} {sig : CollSig} {crc inR inOff outR outOff timeout : Nat}

/-- The operands of COLL_CALL keep to the table and to the group. -/
def Units.callSound (u : Units) (g : CollGroup) (sig : CollSig) (crc inR inOff outR outOff : Nat) : Prop :=
  let n := g.members.length
  let r := collRanges sig n g.rank
  crc = crc32c sig.bytes ∧ sig.epoch = g.epoch ∧ sig.space = 0 ∧ bitAt g.flags 0 = false ∧
    (∀ q, NMap.find g.lastOk sig.space = some q → q < sig.seq) ∧ collPaired sig.op sig.typ sig.count = true ∧ sig.size ≤ 2 ^ 26 ∧
    (sig.op = 7 → n * sig.size ≤ 2 ^ 28) ∧ (sig.op = 6 → sig.root < n) ∧ (sig.op ≠ 6 → sig.root = 0) ∧
    (sig.op ≠ 1 → NMap.has u.mantle.regions inR = true ∧ u.inRegion inR inOff r.1 = true) ∧
    NMap.has u.mantle.regions outR = true ∧ u.inRegion outR outOff r.2 = true


/-- The engine may read or write a region. -/
def Units.collMay (u : Units) (idx : Nat) (w : Bool) : Prop := ∃ x, NMap.find u.mantle.regions idx = some x ∧ maskGrants x.mask 8 w = true

/-- The model's own test of the engine's right. -/
def Units.collMayB (u : Units) (idx : Nat) (w : Bool) : Bool :=
  match NMap.find u.mantle.regions idx with | some x => maskGrants x.mask 8 w | none => false

theorem Units.collMayB_iff (u : Units) (idx : Nat) (w : Bool) : u.collMayB idx w = true ↔ u.collMay idx w := by
  rw [Units.collMay, Units.collMayB]
  cases NMap.find u.mantle.regions idx <;> simp

/-- The engine may read the input, where the call has one, and write the output. -/
def Units.callAllowed (u : Units) (sig : CollSig) (inR outR : Nat) : Prop := (sig.op ≠ 1 → u.collMay inR false) ∧ u.collMay outR true

/-- The model's own test of COLL_CALL's operands, true of bad ones. -/
def Units.callBad (u : Units) (g : CollGroup) (sig : CollSig) (crc inR inOff outR outOff : Nat) : Bool :=
  crc ≠ crc32c sig.bytes || sig.epoch ≠ g.epoch || sig.space ≠ 0 || bitAt g.flags 0 ||
    (match NMap.find g.lastOk sig.space with | some q => decide (sig.seq ≤ q) | none => false) || !(collPaired sig.op sig.typ sig.count) ||
    2 ^ 26 < sig.size || (sig.op = 7 && 2 ^ 28 < g.members.length * sig.size) ||
    (if sig.op = 6 then decide (g.members.length ≤ sig.root) else decide (sig.root ≠ 0)) ||
    (!decide (sig.op = 1) && !(NMap.has u.mantle.regions inR)) || !(NMap.has u.mantle.regions outR) ||
    (!decide (sig.op = 1) && !(u.inRegion inR inOff (collRanges sig g.members.length g.rank).1)) ||
    !(u.inRegion outR outOff (collRanges sig g.members.length g.rank).2)

theorem Units.callBad_iff (u : Units) (g : CollGroup) (sig : CollSig) (crc inR inOff outR outOff : Nat) :
    u.callBad g sig crc inR inOff outR outOff = false ↔ u.callSound g sig crc inR inOff outR outOff := by
  have old : (match NMap.find g.lastOk sig.space with | some q => decide (sig.seq ≤ q) | none => false) = false ↔
      ∀ q, NMap.find g.lastOk sig.space = some q → q < sig.seq := by
    cases NMap.find g.lastOk sig.space <;> simp
  have root : (if sig.op = 6 then decide (g.members.length ≤ sig.root) else decide (sig.root ≠ 0)) = false ↔
      (sig.op = 6 → sig.root < g.members.length) ∧ (sig.op ≠ 6 → sig.root = 0) := by
    by_cases h : sig.op = 6 <;> simp [h]
  rw [Units.callBad, Units.callSound]
  by_cases one : sig.op = 1 <;> simp only [Bool.or_eq_false_iff, old, root] <;> simp [one, and_assoc]
  intros
  exact and_left_comm

theorem Units.callAllowed_iff (u : Units) (sig : CollSig) (inR outR : Nat) :
    ((!decide (sig.op = 1) && !(u.collMayB inR false)) || !(u.collMayB outR true)) = false ↔ u.callAllowed sig inR outR := by
  rw [Units.callAllowed, ← Units.collMayB_iff, ← Units.collMayB_iff]
  by_cases one : sig.op = 1 <;> simp [one]

theorem collCall_refused (no : u.mayGroup c ((u.coll.find sig.group).map (·.2)) = false) :
    collCall c sig crc inR inOff outR outOff timeout m u = (m, u.done c 0x090 0x0903 St.NOT_PRIVILEGED) := if_pos (by simp [no])

section
variable (may : u.mayGroup c ((u.coll.find sig.group).map (·.2)) = true)
include may

theorem collCall_stopped (off : u.coll.enable = false) :
    collCall c sig crc inR inOff outR outOff timeout m u = (m, u.done c 0x090 0x0903 St.BAD_STATE) :=
  (if_neg (by simp [may])).trans (if_pos (by simp [off]))

variable (on : u.coll.enable = true)
include on

theorem collCall_unknown (absent : u.coll.find sig.group = none) :
    collCall c sig crc inR inOff outR outOff timeout m u = (m, u.done c 0x090 0x0903 St.BAD_PARAM) := by
  refine (if_neg (by simp [may])).trans ((if_neg (by simp [on])).trans ?_)
  rw [absent]; rfl

variable {k : Nat} {g : CollGroup} (there : u.coll.find sig.group = some (k, g))
include there



theorem collCall_ended {e : CollAb} (ended : u.coll.endedAs sig = some e) :
    collCall c sig crc inR inOff outR outOff timeout m u = (m, u.done c 0x090 0x0903 e.status e.detail) := by
  refine (if_neg (by simp [may])).trans ((if_neg (by simp [on])).trans ?_)
  rw [there]
  dsimp only [Option.map]
  rw [ended]

variable (open_ : u.coll.endedAs sig = none)
include open_

/-- A call not ended yet goes by its operands, the engine's rights and the open calls. -/
theorem collCall_open : collCall c sig crc inR inOff outR outOff timeout m u =
    if u.callBad g sig crc inR inOff outR outOff then (m, u.done c 0x090 0x0903 St.BAD_PARAM)
    else if (!decide (sig.op = 1) && !(u.collMayB inR false)) || !(u.collMayB outR true) then (m, u.done c 0x090 0x0903 St.NOT_PRIVILEGED)
    else if 256 ≤ u.coll.open_.length then (m, u.done c 0x090 0x0903 St.BUSY_RETRY)
    else enterCall g sig 0 (some c) (if sig.op = 1 then [] else memGetAt m u inR inOff (collRanges sig g.members.length g.rank).1) outR outOff
      (if timeout = 0 then bits (u.cfg 0x900008 (1000 + 100 * 2 ^ 16)) 15 0 else timeout) m u := by
  refine (if_neg (by simp [may])).trans ((if_neg (by simp [on])).trans ?_)
  rw [there]
  dsimp only [Option.map]
  rw [open_]
  rfl

theorem collCall_badParam (bad : ¬u.callSound g sig crc inR inOff outR outOff) :
    collCall c sig crc inR inOff outR outOff timeout m u = (m, u.done c 0x090 0x0903 St.BAD_PARAM) :=
  (collCall_open may on there open_).trans (if_pos (Bool.eq_true_of_not_eq_false (mt (Units.callBad_iff ..).1 bad)))

variable (sound : u.callSound g sig crc inR inOff outR outOff)
include sound

theorem collCall_notGranted (no : ¬u.callAllowed sig inR outR) :
    collCall c sig crc inR inOff outR outOff timeout m u = (m, u.done c 0x090 0x0903 St.NOT_PRIVILEGED) :=
  (collCall_open may on there open_).trans ((if_neg (Bool.eq_false_iff.1 ((Units.callBad_iff ..).2 sound))).trans
    (if_pos (Bool.eq_true_of_not_eq_false (mt (Units.callAllowed_iff ..).1 no))))

variable (allowed : u.callAllowed sig inR outR)
include allowed

theorem collCall_allowed : collCall c sig crc inR inOff outR outOff timeout m u =
    if 256 ≤ u.coll.open_.length then (m, u.done c 0x090 0x0903 St.BUSY_RETRY)
    else enterCall g sig 0 (some c) (if sig.op = 1 then [] else memGetAt m u inR inOff (collRanges sig g.members.length g.rank).1) outR outOff
      (if timeout = 0 then bits (u.cfg 0x900008 (1000 + 100 * 2 ^ 16)) 15 0 else timeout) m u :=
  (collCall_open may on there open_).trans ((if_neg (Bool.eq_false_iff.1 ((Units.callBad_iff ..).2 sound))).trans
    (if_neg (Bool.eq_false_iff.1 ((Units.callAllowed_iff ..).2 allowed))))

theorem collCall_busy (full : 256 ≤ u.coll.open_.length) :
    collCall c sig crc inR inOff outR outOff timeout m u = (m, u.done c 0x090 0x0903 St.BUSY_RETRY) :=
  (collCall_allowed may on there open_ sound allowed).trans (if_pos full)

theorem collCall_enters (room : u.coll.open_.length < 256) : collCall c sig crc inR inOff outR outOff timeout m u =
    enterCall g sig 0 (some c) (if sig.op = 1 then [] else memGetAt m u inR inOff (collRanges sig g.members.length g.rank).1) outR outOff
      (if timeout = 0 then bits (u.cfg 0x900008 (1000 + 100 * 2 ^ 16)) 15 0 else timeout) m u := by
  rw [collCall_allowed may on there open_ sound allowed, if_neg (Nat.not_le.2 room)]

end

/-! COLL_CANCEL (R420, Table 17-11) -/

section
variable {group seq : Nat}

theorem collCancel_refused (no : u.mayGroup c ((u.coll.find group).map (·.2)) = false) :
    collCancel c group seq m u = (m, u.done c 0x090 0x0904 St.NOT_PRIVILEGED) := if_pos (by simp [no])

variable (may : u.mayGroup c ((u.coll.find group).map (·.2)) = true)
include may

theorem collCancel_unknown (none_ : (u.coll.open_.find? fun x => x.sig.group = group && x.sig.seq = seq && x.caller ≠ 4) = none) :
    collCancel c group seq m u = (m, u.done c 0x090 0x0904 St.BAD_STATE) := by
  refine (if_neg (by simp [may])).trans ?_
  rw [none_]

/-- A cancel of an open call is kept with it, and starts the abort rounds unless they run. -/
theorem collCancel_open {x : CollCall} (mine : (u.coll.open_.find? fun x => x.sig.group = group && x.sig.seq = seq && x.caller ≠ 4) = some x) :
    collCancel c group seq m u =
      let y := { x with cancels := x.cancels ++ [c] }
      if x.ab.isSome then (m, u.putCall y) else startAbort y (y.abortOf St.ABORTED_RESET y.rank y.sig) m (u.putCall y) := by
  refine (if_neg (by simp [may])).trans ?_
  rw [mine]

end

end

/-! COLL_ROUND (R417, R418, R419) -/

section
variable {s : State} {h : Sys2Proof.LHdr} {u : Units} {m : Mem}

section
variable {k : CollMsg} {x : CollCall}

/-- A round's message has been taken already: its call aborts, holds it, or has passed its step. -/
def CollCall.known (x : CollCall) (k : CollMsg) : Prop :=
  x.ab ≠ none ∨ (x.msgs.any fun y => y.round = k.round && y.phase = k.phase && y.rank = k.rank && y.off = k.off) = true ∨
    ((x.plan.take x.step).any fun t => t.phase = k.phase && t.round = k.round && (match t.from_ with | some f => decide (f.1 = k.rank) | none => false)) = true

theorem takeRound_known (known : x.known k) : takeRound k x m u = (m, u) := by
  unfold takeRound
  split
  case isTrue => rfl
  case isFalse fresh =>
    refine if_pos ?_
    rcases known with ab | got | passed
    · exact absurd (by simp [Option.isSome_iff_ne_none.2 ab]) fresh
    · exact absurd (by simp only [got, Bool.or_true]) fresh
    · exact passed

variable (fresh : ¬x.known k)
include fresh

/-- A message not taken yet counts its sender as heard and goes by its signature. -/
theorem takeRound_fresh : takeRound k x m u =
    let x' := { x with heard := x.heard ||| 2 ^ k.rank }
    if k.sig ≠ x.sig then startAbort x' (x'.abortOf St.COLL_MISMATCH k.rank k.sig) m (u.putCall x')
    else
      let v := u.putCall { x' with msgs := x'.msgs ++ [k] }
      if x.running then collDrive x.sig.group x.sig.space m v else (m, v) := by
  obtain ⟨noAb, no⟩ := not_or.1 fresh
  obtain ⟨notHeld, notPassed⟩ := not_or.1 no
  exact (if_neg (by simpa only [Bool.or_eq_true, Option.isSome_iff_ne_none, not_or] using ⟨noAb, notHeld⟩)).trans (if_neg notPassed)

theorem takeRound_differs (differs : k.sig ≠ x.sig) : takeRound k x m u =
    let x' := { x with heard := x.heard ||| 2 ^ k.rank }
    startAbort x' (x'.abortOf St.COLL_MISMATCH k.rank k.sig) m (u.putCall x') := (takeRound_fresh fresh).trans (if_pos differs)

variable (agrees : k.sig = x.sig)
include agrees

theorem takeRound_kept (waits : x.running = false) : takeRound k x m u =
    (m, u.putCall { x with heard := x.heard ||| 2 ^ k.rank, msgs := x.msgs ++ [k] }) :=
  (takeRound_fresh fresh).trans ((if_neg (not_not.2 agrees)).trans (if_neg (Bool.eq_false_iff.1 waits)))

theorem takeRound_drives (running : x.running = true) : takeRound k x m u =
    collDrive x.sig.group x.sig.space m (u.putCall { x with heard := x.heard ||| 2 ^ k.rank, msgs := x.msgs ++ [k] }) :=
  (takeRound_fresh fresh).trans ((if_neg (not_not.2 agrees)).trans (if_pos running))

end

section
variable {k : CollMsg} {i : Nat} {g : CollGroup} (heard : s.hearsL h)
include heard

theorem collRound_noGroup (absent : s.u.coll.find k.sig.group = none) : collRound h k s.mem s.u = (s.mem, s.u.count 0x900128) := by
  refine (if_neg (Bool.eq_false_iff.1 heard.1)).trans ?_
  rw [absent]

variable (there : s.u.coll.find k.sig.group = some (i, g))
include there

theorem collRound_ofCall {x : CollCall} (mine : s.u.coll.match_ k.sig k.num = some x) : collRound h k s.mem s.u = takeRound k x s.mem s.u := by
  refine (if_neg (Bool.eq_false_iff.1 heard.1)).trans ?_
  rw [there]
  dsimp only
  rw [mine]

variable (none_ : s.u.coll.match_ k.sig k.num = none)
include none_

/-- A message whose call is not open is counted, known already or held, by its number. -/
theorem collRound_ahead : collRound h k s.mem s.u =
    let b := s.u.coll.base g k.sig.space
    if k.num < NMap.getD g.next k.sig.space 0 || b + 2 < k.num then (s.mem, s.u.count 0x900128)
    else if s.u.coll.held.any fun x => x.sig.group = g.id && x.sig.space = k.sig.space && x.num = k.num && x.round = k.round && x.phase = k.phase &&
        x.rank = k.rank && x.off = k.off then (s.mem, s.u)
    else (s.mem, s.u.upX fun x => { x with held := x.held ++ [k] }) := by
  refine (if_neg (Bool.eq_false_iff.1 heard.1)).trans ?_
  rw [there]
  dsimp only
  rw [none_]

theorem collRound_far (far : ¬(NMap.getD g.next k.sig.space 0 ≤ k.num ∧ k.num ≤ s.u.coll.base g k.sig.space + 2)) :
    collRound h k s.mem s.u = (s.mem, s.u.count 0x900128) :=
  (collRound_ahead heard there none_).trans (if_pos (by simpa [-not_and, not_and_or] using far))

variable (near : NMap.getD g.next k.sig.space 0 ≤ k.num ∧ k.num ≤ s.u.coll.base g k.sig.space + 2)
include near

theorem collRound_near : collRound h k s.mem s.u =
    if s.u.coll.held.any fun x => x.sig.group = g.id && x.sig.space = k.sig.space && x.num = k.num && x.round = k.round && x.phase = k.phase &&
        x.rank = k.rank && x.off = k.off then (s.mem, s.u)
    else (s.mem, s.u.upX fun x => { x with held := x.held ++ [k] }) :=
  (collRound_ahead heard there none_).trans (if_neg (by simpa using near))

end

/-! COLL_ABORT (R420, R423) -/

/-- A call that takes an abort round's message, unless it has that round already. -/
def CollCall.abortHeard (x : CollCall) (a : CollAb) : CollCall :=
  { x with abGot := if (x.abGot.any fun z => z.round = a.round) = true then x.abGot else x.abGot ++ [a] }

section
variable {sig : CollSig} {num i : Nat} {a : CollAb} {g : CollGroup} (heard : s.hearsL h)
include heard

theorem collAbort_noGroup (absent : s.u.coll.find sig.group = none) : collAbort h sig num a s.mem s.u = (s.mem, s.u) := by
  refine (if_neg (Bool.eq_false_iff.1 heard.1)).trans ?_
  rw [absent]

variable (there : s.u.coll.find sig.group = some (i, g))
include there

section
variable {x : CollCall} (mine : s.u.coll.match_ sig num = some x)
include mine

theorem collAbort_ofCall : collAbort h sig num a s.mem s.u =
    match x.ab with
    | some _ => abortGo (clog2 (x.abortHeard a).members.length + 1) (x.abortHeard a) s.mem (s.u.putCall (x.abortHeard a))
    | none => startAbort (x.abortHeard a) { a with bitmap := a.bitmap ||| (if x.caller = 4 then 0 else x.heard ||| 2 ^ x.rank) } s.mem
        (s.u.putCall (x.abortHeard a)) := by
  refine (if_neg (Bool.eq_false_iff.1 heard.1)).trans ?_
  rw [there]
  dsimp only
  rw [mine]
  rfl

theorem collAbort_goes (aborts : x.ab ≠ none) : collAbort h sig num a s.mem s.u =
    abortGo (clog2 x.members.length + 1) (x.abortHeard a) s.mem (s.u.putCall (x.abortHeard a)) := by
  obtain ⟨b, e⟩ := Option.ne_none_iff_exists'.1 aborts
  rw [collAbort_ofCall heard there mine, e]
  rfl

theorem collAbort_starts (runs : x.ab = none) : collAbort h sig num a s.mem s.u =
    startAbort (x.abortHeard a) { a with bitmap := a.bitmap ||| (if x.caller = 4 then 0 else x.heard ||| 2 ^ x.rank) } s.mem
      (s.u.putCall (x.abortHeard a)) := by rw [collAbort_ofCall heard there mine, runs]

end

section
variable (none_ : s.u.coll.match_ sig num = none)
include none_

/-- An abort of a call not open is of one that has completed, or joins the rounds of one not entered. -/
theorem collAbort_noCall : collAbort h sig num a s.mem s.u =
    if num < NMap.getD g.next sig.space 0 then
      (if s.u.coll.ended.any fun e => e.1.group = g.id && e.1.space = sig.space && e.2.1 = num then (s.mem, s.u) else (s.mem, s.u.count 0x900120))
    else
      let y := { joinCall g sig num with abGot := [a] }
      startAbort y a s.mem (s.u.upX fun x =>
        { x with open_ := x.open_ ++ [y], held := x.held.filter fun k => !(k.sig.group = g.id && k.sig.space = sig.space && k.num = num) }) := by
  refine (if_neg (Bool.eq_false_iff.1 heard.1)).trans ?_
  rw [there]
  dsimp only
  rw [none_]

theorem collAbort_past (past : num < NMap.getD g.next sig.space 0) : collAbort h sig num a s.mem s.u =
    if s.u.coll.ended.any fun e => e.1.group = g.id && e.1.space = sig.space && e.2.1 = num then (s.mem, s.u) else (s.mem, s.u.count 0x900120) :=
  (collAbort_noCall heard there none_).trans (if_pos past)

theorem collAbort_joins (next : NMap.getD g.next sig.space 0 ≤ num) : collAbort h sig num a s.mem s.u =
    let y := { joinCall g sig num with abGot := [a] }
    startAbort y a s.mem (s.u.upX fun x =>
      { x with open_ := x.open_ ++ [y], held := x.held.filter fun k => !(k.sig.group = g.id && k.sig.space = sig.space && k.num = num) }) :=
  (collAbort_noCall heard there none_).trans (if_neg (Nat.not_lt.2 next))

end

end

end

/-! COLL_CALL_TIMEOUT and COLL_ABORT_ROUND_EXPIRY (R420, R423) -/

section
variable {u : Units} {m : Mem} {group space num : Nat}

section
variable (none_ : (u.coll.open_.find? fun c => c.isCall group space num) = none)
include none_

theorem collCallTimeout_noCall : collCallTimeout group space num m u = (m, u) := by rw [collCallTimeout, none_]

theorem collAbortRoundExpiry_noCall : collAbortRoundExpiry group space num m u = (m, u) := by rw [collAbortRoundExpiry, none_]

end

section
variable {x : CollCall} (mine : (u.coll.open_.find? fun c => c.isCall group space num) = some x)
include mine

theorem collCallTimeout_starts (runs : x.ab = none) :
    collCallTimeout group space num m u = startAbort x (x.abortOf St.COLL_TIMEOUT 0xFFFF x.sig) m u := by
  rw [collCallTimeout, mine]
  exact if_neg (by simp [runs])

theorem collCallTimeout_aborting {b : CollAb} (aborts : x.ab = some b) : collCallTimeout group space num m u = (m, u) := by
  rw [collCallTimeout, mine]
  exact if_pos (by simp [aborts])

theorem collAbortRoundExpiry_running (runs : x.ab = none) : collAbortRoundExpiry group space num m u = (m, u) := by
  rw [collAbortRoundExpiry, mine]
  dsimp only
  rw [runs]

theorem collAbortRoundExpiry_next {b : CollAb} (aborts : x.ab = some b) : collAbortRoundExpiry group space num m u =
    let b' := { b with round := b.round + 1 }
    let y := { x with ab := some b' }
    abortGo (clog2 y.members.length + 1) y m (if b'.round < clog2 y.members.length then u.sendAbort y b' else u) := by
  rw [collAbortRoundExpiry, mine]
  dsimp only
  rw [aborts]

end

/-! COLL_HEALTH_CALL (R424) and COLL_ENABLE_CLEAR (R425) -/

/-- The signature of the health call that is due of a group now. -/
def Units.healthSig (u : Units) (group : Nat) (g : CollGroup) : CollSig :=
  { group := group, epoch := g.epoch, seq := 2 ^ 63 + (u.clk.sec * 1000 + u.clk.ns / 10 ^ 6) / g.period, op := 1, typ := 0, root := 0, count := 0 }

/-- The group has health calls, the time is locked, and the call now due may be entered. -/
def Units.healthDue (u : Units) (group : Nat) (g : CollGroup) : Prop :=
  u.clk.locked = true ∧ bitAt g.flags 1 = true ∧ g.period ≠ 0 ∧ u.coll.endedAs (u.healthSig group g) = none ∧ u.coll.enable = true ∧
    u.coll.open_.length < 256 ∧ ∀ n, NMap.find g.lastOk (u.healthSig group g).space = some n → n < (u.healthSig group g).seq

theorem collHealthCall_noGroup (absent : u.coll.find group = none) : collHealthCall group m u = (m, u) := by rw [collHealthCall, absent]

section
variable {k : Nat} {g : CollGroup} (there : u.coll.find group = some (k, g))
include there

theorem collHealthCall_idle (idle : ¬(u.clk.locked = true ∧ bitAt g.flags 1 = true ∧ g.period ≠ 0)) : collHealthCall group m u = (m, u) := by
  rw [collHealthCall, there]
  refine if_pos ?_
  simpa only [not_and_or, Bool.or_eq_true, Bool.not_eq_true', Bool.not_eq_true, decide_eq_true_eq, not_not, or_assoc] using idle

/-- A health call that is due by the clock goes by the engine and by the calls that have ended. -/
theorem collHealthCall_clocked (due : u.clk.locked = true ∧ bitAt g.flags 1 = true ∧ g.period ≠ 0) : collHealthCall group m u =
    match u.coll.endedAs (u.healthSig group g) with
    | some _ => (m, u)
    | none =>
      if !u.coll.enable || 256 ≤ u.coll.open_.length then (m, u)
      else if (match NMap.find g.lastOk (u.healthSig group g).space with | some q => decide ((u.healthSig group g).seq ≤ q) | none => false) then (m, u)
      else enterCall g (u.healthSig group g) 3 none [] 0 0 g.period m u := by
  rw [collHealthCall, there]
  refine (if_neg (by simp [due])).trans ?_
  dsimp only
  rw [callInside, there]
  rfl

theorem collHealthCall_notDue (no : ¬u.healthDue group g) : collHealthCall group m u = (m, u) := by
  by_cases clock : u.clk.locked = true ∧ bitAt g.flags 1 = true ∧ g.period ≠ 0
  case neg => exact collHealthCall_idle there clock
  rw [collHealthCall_clocked there clock]
  cases ended : u.coll.endedAs (u.healthSig group g) with
  | some => rfl
  | none =>
    by_cases room : u.coll.enable = true ∧ u.coll.open_.length < 256
    case neg => exact if_pos (by simpa only [not_and_or, Bool.or_eq_true, Bool.not_eq_true', Bool.not_eq_true, decide_eq_true_eq, Nat.not_lt] using room)
    refine (if_neg (by simpa using room)).trans (if_pos ?_)
    cases last : NMap.find g.lastOk (u.healthSig group g).space with
    | none => exact absurd ⟨clock.1, clock.2.1, clock.2.2, ended, room.1, room.2, by simp [last]⟩ no
    | some q =>
      by_contra newer
      exact no ⟨clock.1, clock.2.1, clock.2.2, ended, room.1, room.2, by simpa [last] using newer⟩

theorem collHealthCall_due (due : u.healthDue group g) :
    collHealthCall group m u = enterCall g (u.healthSig group g) 3 none [] 0 0 g.period m u := by
  obtain ⟨locked, has, period, ended, on, room, newer⟩ := due
  rw [collHealthCall_clocked there ⟨locked, has, period⟩, ended]
  refine (if_neg (by simp [on, room])).trans (if_neg ?_)
  cases last : NMap.find g.lastOk (u.healthSig group g).space with
  | none => exact Bool.false_ne_true
  | some q => simpa using newer q last

end

section
variable {w : Sys2Proof.Who}

/-- COLL_ENABLE_CLEAR drains: by an operator, of an engine that runs, with no gate group. -/
def Units.collDrains (u : Units) (w : Sys2Proof.Who) : Prop :=
  isOperator w.priv = true ∧ u.coll.enable = true ∧ ∀ g ∈ NMap.vals u.coll.groups, bitAt g.flags 0 = false

theorem Units.collDrains_iff (u : Units) (w : Sys2Proof.Who) :
    (!(isOperator w.priv) || !u.coll.enable || (NMap.vals u.coll.groups).any (fun g => bitAt g.flags 0)) = false ↔ u.collDrains w := by
  simp [Units.collDrains, and_assoc]

theorem collEnableClear_keeps (no : ¬u.collDrains w) : collEnableClear w u = u :=
  if_pos (Bool.eq_true_of_not_eq_false (mt (Units.collDrains_iff u w).1 no))

theorem collEnableClear_drains (goes : u.collDrains w) : collEnableClear w u =
    { u.upX (fun x => { x with enable := false, draining := true }) with
      drains := u.drains ++ [{ unit := 0x09, items := u.coll.open_.length, enableHeld := false }] } :=
  if_neg (Bool.eq_false_iff.1 ((Units.collDrains_iff u w).2 goes))

end

end

/-- Settles O57: each clause is one branch of its command, message or timer, by the lemmas above. -/
theorem collectiveGroupsAndCallsAct : Obligations.CollectiveGroupsAndCallsAct := by
  intro s c h group seq num m a sig
  refine ⟨fun no => ⟨?setRefused, ?freeRefused⟩,
    fun op epoch flags job threshold period count addr => ⟨fun bad => ?setBad, fun good off => ?setStopped,
      fun good on => ⟨fun absent => ⟨fun full => ?setFull, fun k free => ?setEnters⟩, fun k g there => ⟨fun stale => ?setStale, fun newer => ?setReplaces⟩⟩⟩,
    fun op => ⟨fun absent => ?freeUnknown, fun k g there => ⟨fun busy => ?freeBusy, fun idle => ?frees⟩⟩,
    fun crc inR inOff outR outOff timeout => ⟨fun no => ?callRefused, fun may => ⟨fun off => ?callStopped, fun on absent => ?callUnknown,
      fun k g on there => ⟨fun e ended => ?callEnded, fun open_ => ⟨fun bad => ?callBad, fun sound no => ?callNotGranted,
        fun sound allowed full => ?callBusy, fun sound allowed room => ?callEnters⟩⟩⟩⟩,
    ⟨fun no => ?cancelRefused, fun may none_ => ?cancelUnknown, fun x may mine => ⟨fun aborts => ?cancelKept, fun runs => ?cancelStarts⟩⟩,
    fun heard => ⟨fun absent => ?roundNoGroup, fun k g there => ⟨fun x mine => ⟨fun known => ?roundKnown, fun fresh => ⟨fun differs => ?roundDiffers,
        fun agrees waits => ?roundKept, fun agrees running => ?roundDrives⟩⟩,
      fun none_ => ⟨fun far => ?roundFar, fun near again => ?roundAgain, fun near new => ?roundHeld⟩⟩⟩,
    fun heard => ⟨fun absent => ?abortNoGroup, fun k g there => ⟨fun x mine => ⟨fun aborts => ?abortGoes, fun runs => ?abortStarts⟩,
      fun none_ => ⟨fun past => ⟨fun ended => ?abortEnded, fun no => ?abortCounted⟩, fun next => ?abortJoins⟩⟩⟩,
    fun space => ⟨fun none_ => ⟨?timeoutNoCall, ?expiryNoCall⟩, fun x mine => ⟨fun runs => ⟨?timeoutStarts, ?expiryRunning⟩,
      fun b aborts => ⟨?timeoutAborting, ?expiryNext⟩⟩⟩,
    fun absent => ?healthNoGroup, fun k g there => ⟨fun no => ?healthNotDue, fun due => ?healthDue⟩, fun w => ⟨fun no => ?clearKeeps, fun goes => ?clearDrains⟩⟩
  case setRefused => intros; exact State.run_keeps (operator_refused no _ _ _)
  case freeRefused => exact State.runU_of_eq (operator_refused no _ _ _)
  case setBad => exact State.run_keeps (f := collGroupSet c group epoch flags job threshold period count addr) (collGroupSet_badParam op bad)
  case setStopped => exact State.run_keeps (f := collGroupSet c group epoch flags job threshold period count addr) (collGroupSet_stopped op good off)
  case setFull => exact State.run_keeps (f := collGroupSet c group epoch flags job threshold period count addr) (collGroupSet_full op good on absent full)
  case setEnters => exact State.run_keeps (f := collGroupSet c group epoch flags job threshold period count addr) (collGroupSet_enters op good on absent free)
  case setStale => exact State.run_keeps (f := collGroupSet c group epoch flags job threshold period count addr) (collGroupSet_stale op good on there stale)
  case setReplaces =>
    exact State.run_keeps (f := collGroupSet c group epoch flags job threshold period count addr) (collGroupSet_replaces op good on there newer)
  case freeUnknown => exact State.runU_of_eq (collGroupFree_unknown op absent)
  case freeBusy => exact State.runU_of_eq (collGroupFree_busy op there busy)
  case frees => exact State.runU_of_eq (collGroupFree_frees op there idle)
  case callRefused => exact State.run_of_eq (collCall_refused no)
  case callStopped => exact State.run_of_eq (collCall_stopped may off)
  case callUnknown => exact State.run_of_eq (collCall_unknown may on absent)
  case callEnded => exact State.run_of_eq (collCall_ended may on there ended)
  case callBad => exact State.run_of_eq (collCall_badParam may on there open_ bad)
  case callNotGranted => exact State.run_of_eq (collCall_notGranted may on there open_ sound no)
  case callBusy => exact State.run_of_eq (collCall_busy may on there open_ sound allowed full)
  case callEnters => exact State.run_of_eq (collCall_enters may on there open_ sound allowed room)
  case cancelRefused => exact State.run_of_eq (collCancel_refused no)
  case cancelUnknown => exact State.run_of_eq (collCancel_unknown may none_)
  case cancelKept => exact State.run_of_eq ((collCancel_open may mine).trans (if_pos (Option.isSome_iff_ne_none.2 aborts)))
  case cancelStarts => exact State.run_of_eq ((collCancel_open may mine).trans (if_neg (by simp [runs])))
  case roundNoGroup => exact State.run_of_eq (collRound_noGroup heard absent)
  case roundKnown => exact State.run_of_eq ((collRound_ofCall heard there mine).trans (takeRound_known known))
  case roundDiffers => exact State.run_of_eq ((collRound_ofCall heard there mine).trans (takeRound_differs fresh differs))
  case roundKept => exact State.run_of_eq ((collRound_ofCall heard there mine).trans (takeRound_kept fresh agrees waits))
  case roundDrives => exact State.run_of_eq ((collRound_ofCall heard there mine).trans (takeRound_drives fresh agrees running))
  case roundFar => exact State.run_of_eq (collRound_far heard there none_ far)
  case roundAgain => exact State.run_of_eq ((collRound_near heard there none_ near).trans (if_pos again))
  case roundHeld => exact State.run_of_eq ((collRound_near heard there none_ near).trans (if_neg (Bool.eq_false_iff.1 new)))
  case abortNoGroup => exact State.run_of_eq (collAbort_noGroup heard absent)
  case abortGoes => exact State.run_of_eq (collAbort_goes heard there mine aborts)
  case abortStarts => exact State.run_of_eq (collAbort_starts heard there mine runs)
  case abortEnded => exact State.run_of_eq ((collAbort_past heard there none_ past).trans (if_pos ended))
  case abortCounted => exact State.run_of_eq ((collAbort_past heard there none_ past).trans (if_neg (Bool.eq_false_iff.1 no)))
  case abortJoins => exact State.run_of_eq (collAbort_joins heard there none_ next)
  case timeoutNoCall => exact State.run_of_eq (collCallTimeout_noCall none_)
  case expiryNoCall => exact State.run_of_eq (collAbortRoundExpiry_noCall none_)
  case timeoutStarts => exact State.run_of_eq (collCallTimeout_starts mine runs)
  case expiryRunning => exact State.run_of_eq (collAbortRoundExpiry_running mine runs)
  case timeoutAborting => exact State.run_of_eq (collCallTimeout_aborting mine aborts)
  case expiryNext => exact State.run_of_eq (collAbortRoundExpiry_next mine aborts)
  case healthNoGroup => exact State.run_of_eq (collHealthCall_noGroup absent)
  case healthNotDue => exact State.run_of_eq (collHealthCall_notDue there no)
  case healthDue => exact State.run_of_eq (collHealthCall_due there due)
  case clearKeeps => exact State.runU_of_eq (collEnableClear_keeps no)
  case clearDrains => exact State.runU_of_eq (collEnableClear_drains goes)

end Sys2Proof.Machine
end

section
/-!
PROOFS. The Chimney (21 R483 to R500): events, windows, forwards, the log's units, the exported counters, the trace rings and the commands of Table 21-9,
branch by branch, and the statement about them.
-/
namespace Sys2Proof.Machine

section
variable {u : Units}

/-! CHIM_TOKEN_REFILL (R484) and CHIM_LOG_UNIT_WRITE (R486) -/

section
variable {code : Nat}

section
variable (none_ : (u.chim.bucket code).heldRec = none)
include none_

theorem chimTokenRefill_noRecord : chimTokenRefill code u =
    if (u.chim.bucket code).spent = 0 then u
    else { u with chim := u.chim.setBucket code { u.chim.bucket code with spent := (u.chim.bucket code).spent - 1 } } := by
  rw [chimTokenRefill]
  dsimp only
  rw [none_]

end

theorem chimTokenRefill_writes {e : LogEntry} (held : (u.chim.bucket code).heldRec = some e) : chimTokenRefill code u =
    { u with chim := u.chim.setBucket code { u.chim.bucket code with held := 0, heldRec := none, heldMore := [] } }.logAll
      ({ e with er := e.er.withCount (u.chim.bucket code).held } :: (u.chim.bucket code).heldMore) := by
  rw [chimTokenRefill]
  dsimp only
  rw [held]

/-- The log's entries that the next unit would take. -/
def Chim.newEntries (x : Chim) : List LogEntry := (x.log.filter fun e => x.unitSeq < e.seq).take 1024

theorem chimLogUnitWrite_waits (no : u.chim.newEntries = [] ∨ u.tal.mounted = false ∨ u.tal.enable = false) : chimLogUnitWrite u = u := by
  unfold chimLogUnitWrite
  dsimp only
  split
  case h_1 => rfl
  case h_2 e last =>
    refine if_pos ?_
    rcases no with empty | unmounted | off
    · exact absurd (last.symm.trans (congrArg _ empty)) (by simp)
    · simp [unmounted]
    · simp [off]

theorem chimLogUnitWrite_writes {e : LogEntry} (mounted : u.tal.mounted = true) (on : u.tal.enable = true)
    (last : u.chim.newEntries.getLast? = some e) : chimLogUnitWrite u =
      tallowWrite 2 2 (u.chim.unitNo / 4 % u.tal.sizes.getD 2 0) 65536
        ({ u with chim := { u.chim with unitSeq := e.seq, units := u.chim.units ++ [e.seq], unitNo := u.chim.unitNo + 1 } }.emit
          (.bus 3 [3, u.chim.newEntries.length, e.seq])) := by
  unfold Chim.newEntries at last
  rw [chimLogUnitWrite]
  dsimp only
  rw [last]
  exact if_neg (by simp [mounted, on])

/-! CHIM_WINDOW_END (R488) -/

section
variable {step origin src : Nat}

theorem chimWindowEnd_unknown (none_ : findWin u.chim.wins step code origin src = none) : chimWindowEnd step code origin src u = u := by
  rw [chimWindowEnd, none_]

/-- The Chimney with a window ended. -/
def Chim.withoutWin (x : Chim) (step code origin src : Nat) : Chim :=
  { x with wins := x.wins.filter fun x => !(x.step = step && x.code = code && x.origin = origin && x.src = src) }

theorem chimWindowEnd_ends {f : FwdWin} (found : findWin u.chim.wins step code origin src = some f) : chimWindowEnd step code origin src u =
    let v : Units := { u with chim := u.chim.withoutWin step code origin src }
    if f.count = 0 then v
    else
      let r := (v.record Ev.CHIM_SUMMARY f.evLevel src (payloadOf [(0, 2, code), (2, 2, f.lenMs / 100), (4, 4, f.count)]) false false).withCount f.count
      v.forward step [{ v.entry r with origin := origin }] := by
  rw [chimWindowEnd, found]
  rfl

end

end

/-! EVT_FWD, EVT_FWD_ACK and its timeout (R489, R490) -/

section
variable {s : State} {h : Sys2Proof.LHdr} {seq : Nat} (heard : s.hearsL h)
include heard

section
variable {alarm : Bool} {entries : List (LogEntry × Bool)}

theorem evtFwd_noRole (none_ : s.u.heldRole = none) : evtFwd h seq alarm entries s.u =
    if alarm then s.u.answerL h.src 0x65 h.seq 16 3 [seq, St.BAD_STATE] else s.u := by
  rw [evtFwd, recvL_hears heard, none_]

theorem evtFwd_holder {id : Nat} (held : s.u.heldRole = some id) : evtFwd h seq alarm entries s.u =
    let v := entries.foldl (fun u e => u.fwdEntry (roleLevel id) e.1 e.2) s.u
    if alarm then v.answerL h.src 0x65 h.seq 16 (roleLevel id) [seq, St.OK] else v := by
  rw [evtFwd, recvL_hears heard, held]

end

theorem evtFwdAck_ok : evtFwdAck h seq St.OK s.u = { s.u with chim := { s.u.chim with fwdOut := s.u.chim.fwdOut.filter fun f => f.seq ≠ seq } } :=
  (recvL_hears heard _ _ _).trans (if_neg (not_not.2 rfl))

theorem evtFwdAck_no {status : Nat} (no : status ≠ St.OK) : evtFwdAck h seq status s.u = s.u := (recvL_hears heard _ _ _).trans (if_pos no)

end

section
variable {seq : Nat}

theorem evtFwdAckTimeout_unknown (none_ : (u.chim.fwdOut.find? fun f => f.seq = seq) = none) : evtFwdAckTimeout seq u = u := by
  rw [evtFwdAckTimeout, none_]

variable {f : FwdOut} (found : (u.chim.fwdOut.find? fun f => f.seq = seq) = some f)
include found

theorem evtFwdAckTimeout_resends (few : f.resends < 3) : evtFwdAckTimeout seq u =
    { u with chim := { u.chim with
      fwdOut := u.chim.fwdOut.map fun (x : FwdOut) => if x.seq = seq then { x with resends := x.resends + 1 } else x } }.toRole f.dst 0x64
        (16 + 64 * f.entries.length)
        ([seq, f.entries.length, 1] ++
          f.entries.flatMap fun (e : LogEntry) => [e.er.code, e.er.level, e.er.src, e.er.count, e.er.flags, e.er.payload, e.origin]) := by
  rw [evtFwdAckTimeout, found]
  exact if_pos few

theorem evtFwdAckTimeout_givesUp (many : 3 ≤ f.resends) : evtFwdAckTimeout seq u =
    { u with chim := { u.chim with fwdOut := u.chim.fwdOut.filter fun (x : FwdOut) => x.seq ≠ seq } }.raise Ev.CHIM_FWD_UNACKED 2 0xC0 0 := by
  rw [evtFwdAckTimeout, found]
  exact if_neg (Nat.not_lt.2 many)

end

/-! CHIM_EXPORT_PERIOD (R493) -/

theorem chimExportPeriod_off (off : bits (u.cfg 0xC00010 0) 15 0 = 0 ∨ u.chim.exportRing = none) : chimExportPeriod u = u := by
  unfold chimExportPeriod
  split
  case isTrue => rfl
  case isFalse on => rw [off.resolve_left on]

section
variable {n : Nat} (on : bits (u.cfg 0xC00010 0) 15 0 ≠ 0) (bound : u.chim.exportRing = some n)
include on bound

theorem chimExportPeriod_on : chimExportPeriod u =
    if (u.desc n).room then
      let body := (u.regs.cnt.filter fun p => p.1 < 2 ^ 24).flatMap fun (p : Nat × Nat) => [p.1, p.2]
      { u.produce n (.words ([u.chim.exportSeq + 1, u.clk.mono, packTime u.clk.sec u.clk.ns, body.length, u.chim.exportSkipped] ++ body)) with
        chim := { u.chim with exportSeq := u.chim.exportSeq + 1, exportSkipped := 0 } }
    else { u with chim := { u.chim with exportSkipped := u.chim.exportSkipped + 1 } } := by
  rw [chimExportPeriod, if_neg on, bound]

end

/-! CHIM_FLUE_ENABLE (R494, R495, R496) -/

section
variable {w : Sys2Proof.Who} {ring value : Nat}

theorem chimFlueEnable_refused (no : isOperator w.priv = false) : chimFlueEnable w ring value u = u := if_pos (by simp [no])

variable (op : isOperator w.priv = true)
include op

section
variable (on : (u.flueOf ring).enable = true)
include on

theorem chimFlueEnable_already (set : bitAt value 0 = true) : chimFlueEnable w ring value u = u :=
  (if_neg (by simp [op])).trans ((if_pos on).trans (if_pos set))

theorem chimFlueEnable_drains (clear : bitAt value 0 = false) : chimFlueEnable w ring value u =
    { u.setFlue ring { u.flueOf ring with enable := false, draining := true } with
      drains := u.drains ++ [{ unit := 0x300 + ring, items := (u.flueOf ring).q.length, enableHeld := false }] } :=
  (if_neg (by simp [op])).trans ((if_pos on).trans (if_neg (Bool.eq_false_iff.1 clear)))

end

variable (off : (u.flueOf ring).enable = false)
include off

section
variable (draining : (u.flueOf ring).draining = true)
include draining

theorem chimFlueEnable_whileDraining : chimFlueEnable w ring value u =
    if bitAt value 0 then { u with drains := u.drains.map fun x => if x.unit = 0x300 + ring then { x with enableHeld := true } else x } else u :=
  (if_neg (by simp [op])).trans ((if_neg (Bool.eq_false_iff.1 off)).trans (if_pos draining))

end

variable (idle : (u.flueOf ring).draining = false)
include idle

/-- A trace ring's settings, as CHIM_FLUE_ENABLE writes them out of use. -/
def Flue.configured (f : Flue) (value : Nat) : Flue :=
  { f with sizeLog2 := if bits value 4 1 ≤ 10 then bits value 4 1 else f.sizeLog2, div := bits value 8 5,
           source := bits value 20 9, kinds := bits value 28 21 }

/-- Where the store has room for a trace ring's body. -/
def Units.flueFit (u : Units) (f : Flue) : Option Nat := fitBody u.traceSpace (65536 * 2 ^ f.sizeLog2) u.traceBodies

theorem chimFlueEnable_outOfUse : chimFlueEnable w ring value u =
    let g := (u.flueOf ring).configured value
    if !(bitAt value 0) then u.setFlue ring g
    else
      match u.flueFit g with
      | none => u.setFlue ring g
      | some o => u.setFlue ring { g with enable := true, base := o, size := 65536 * 2 ^ g.sizeLog2, prod := 0, cons := 0, q := [], occ := 0 } :=
  (if_neg (by simp [op])).trans ((if_neg (Bool.eq_false_iff.1 off)).trans (if_neg (Bool.eq_false_iff.1 idle)))

theorem chimFlueEnable_sets (no : bitAt value 0 = false ∨ u.flueFit ((u.flueOf ring).configured value) = none) :
    chimFlueEnable w ring value u = u.setFlue ring ((u.flueOf ring).configured value) := by
  rw [chimFlueEnable_outOfUse op off idle]
  rcases no with clear | full
  · exact if_pos (by simp [clear])
  · dsimp only
    rw [full]
    exact ite_self _

theorem chimFlueEnable_allocates {o : Nat} (set : bitAt value 0 = true) (fit : u.flueFit ((u.flueOf ring).configured value) = some o) :
    chimFlueEnable w ring value u = u.setFlue ring { (u.flueOf ring).configured value with
      enable := true, base := o, size := 65536 * 2 ^ ((u.flueOf ring).configured value).sizeLog2, prod := 0, cons := 0, q := [], occ := 0 } := by
  rw [chimFlueEnable_outOfUse op off idle]
  refine (if_neg (by simp [set])).trans ?_
  rw [fit]

end

/-! The commands of Table 21-9 (R500) -/

section
variable {c : Sys2Proof.Cmd} (op : isOperator (stampPriv c.stamp) = true)
include op

section
variable {ring : Nat}

section
variable (known : ring < 32768) (outer : (u.desc ring).kind = 2)
include known outer

theorem chimBindFeed_binds (size : (u.desc ring).sizeCode = 1) : chimBindFeed c ring u =
    ({ u with chim := { u.chim with feed := some ring, feedGap := none } }).done c 0xC0 0x0D01 St.OK :=
  (operator_ok op _ _ _).trans (if_pos (by simp [known, outer, size]))

theorem chimExportBind_binds : chimExportBind c ring u = ({ u with chim := { u.chim with exportRing := some ring } }).done c 0xC0 0x0D06 St.OK :=
  (operator_ok op _ _ _).trans (if_pos (by simp [known, outer]))

end

theorem chimLlFreeze_freezes (valid : llValid ring = true) : chimLlFreeze c ring u = (u.llFreeze ring).done c 0xC0 0x0D04 St.OK :=
  (operator_ok op _ _ _).trans (if_pos valid)

theorem chimLlRelease_releases (valid : llValid ring = true) : chimLlRelease c ring u = (u.setLl ring LastLight.reset).done c 0xC0 0x0D05 St.OK :=
  (operator_ok op _ _ _).trans (if_pos valid)

end

section
variable {seq : Nat}

theorem chimAlarmAck_unknown (none_ : (u.chim.alarms.find? fun p => p.2.seq = seq) = none) : chimAlarmAck c seq u = u.done c 0xC0 0x0D02 St.BAD_STATE := by
  rw [chimAlarmAck, operator_ok op, none_]

theorem chimAlarmAck_acknowledges {p : Nat × LogEntry} (found : (u.chim.alarms.find? fun p => p.2.seq = seq) = some p) :
    chimAlarmAck c seq u = ({ u with chim := { u.chim with alarms := NMap.del u.chim.alarms p.1, alarmFull := false } }).done c 0xC0 0x0D02 St.OK := by
  rw [chimAlarmAck, operator_ok op, found]

variable {count addr : Nat} {m : Mem} (some_ : 1 ≤ count) (few : count ≤ 16384)
include some_ few

theorem chimEventRead_inRange : chimEventRead c seq count addr m u =
    if !(u.chim.stored.any fun e => e.seq = seq) then (m, u.done c 0xC0 0x0D03 St.BAD_STATE)
    else
      let l := (u.chim.stored.filter fun e => seq ≤ e.seq && e.seq < seq + count).take count
      let bytes := l.flatMap LogEntry.bytes
      if u.mayAccess Ag.chimney addr bytes.length true then
        (memPut m u addr bytes, (u.setMantle (u.mantle.cure addr bytes.length)).done c 0xC0 0x0D03 St.OK 0 l.length)
      else (m, u.done c 0xC0 0x0D03 St.NOT_PRIVILEGED) :=
  (if_neg (by simp [op])).trans (if_neg (by simp [few, Nat.ne_of_gt some_]))

theorem chimEventRead_notStored (no : ∀ e ∈ u.chim.stored, e.seq ≠ seq) : chimEventRead c seq count addr m u = (m, u.done c 0xC0 0x0D03 St.BAD_STATE) :=
  (chimEventRead_inRange op some_ few).trans (if_pos (by simpa using no))

theorem chimEventRead_stored (has : ∃ e ∈ u.chim.stored, e.seq = seq) : chimEventRead c seq count addr m u =
    let l := (u.chim.stored.filter fun e => seq ≤ e.seq && e.seq < seq + count).take count
    let bytes := l.flatMap LogEntry.bytes
    if u.mayAccess Ag.chimney addr bytes.length true then
      (memPut m u addr bytes, (u.setMantle (u.mantle.cure addr bytes.length)).done c 0xC0 0x0D03 St.OK 0 l.length)
    else (m, u.done c 0xC0 0x0D03 St.NOT_PRIVILEGED) :=
  (chimEventRead_inRange op some_ few).trans (if_neg (by simpa using has))

end

end

end

/-- Settles O59: each clause is one branch of its command, message or timer, by the lemmas above. -/
theorem eventsTraceAndExportAct : Obligations.EventsTraceAndExportAct := by
  intro s c h code ring seq
  refine ⟨fun level src payload more t => ?raise, ⟨fun none_ spent => ?refill, fun none_ full => ?refillFull, fun e held => ?refillWrites⟩,
    ⟨fun no => ?unitWaits, fun e mounted on last => ?unitWrites⟩, fun step origin src none_ => ?windowUnknown,
    fun step origin src f found => ⟨fun empty => ?windowEmpty, fun some_ => ?windowSummary⟩,
    fun heard alarm entries => ⟨fun none_ => ?fwdNoRole, fun id held => ?fwdHolder⟩, fun heard => ⟨?ackOk, fun status no => ?ackNo⟩,
    fun none_ => ?timeoutUnknown, fun f found => ⟨fun few => ?resends, fun many => ?givesUp⟩, fun off => ?exportOff,
    fun n on bound => ⟨fun full => ?exportSkips, fun room => ?exports⟩, fun source kind data deferred => ?trace,
    fun w value => ⟨fun no => ?flueRefused, fun op => ⟨fun on set => ?flueAlready, fun on clear => ?flueDrains, fun off draining clear => ?flueKeeps,
      fun off draining set => ?flueHolds, fun off idle => ⟨fun no => ?flueSets, fun o set fit => ?flueAllocates⟩⟩⟩,
    fun op => ⟨fun known outer => ⟨fun size => ?feed, ?expo⟩, fun none_ => ?alarmUnknown, fun p found => ?alarm,
      fun count addr some_ few => ⟨fun no => ?readNotStored, fun has => ⟨fun no => ?readNotGranted, fun may => ?reads⟩⟩,
      fun valid => ⟨?freeze, ?release⟩⟩⟩
  case raise => rfl
  case refill => exact State.runU_of_eq ((chimTokenRefill_noRecord none_).trans (if_neg spent))
  case refillFull => exact State.runU_of_eq ((chimTokenRefill_noRecord none_).trans (if_pos full))
  case refillWrites => exact State.runU_of_eq (chimTokenRefill_writes held)
  case unitWaits => exact State.runU_of_eq (chimLogUnitWrite_waits no)
  case unitWrites => exact State.runU_of_eq (chimLogUnitWrite_writes mounted on last)
  case windowUnknown => exact State.runU_of_eq (chimWindowEnd_unknown none_)
  case windowEmpty => exact State.runU_of_eq ((chimWindowEnd_ends found).trans (if_pos empty))
  case windowSummary => exact State.runU_of_eq ((chimWindowEnd_ends found).trans (if_neg some_))
  case fwdNoRole => exact State.runU_of_eq (evtFwd_noRole heard none_)
  case fwdHolder => exact State.runU_of_eq (evtFwd_holder heard held)
  case ackOk => exact State.runU_of_eq (evtFwdAck_ok heard)
  case ackNo => exact State.runU_of_eq (evtFwdAck_no heard no)
  case timeoutUnknown => exact State.runU_of_eq (evtFwdAckTimeout_unknown none_)
  case resends => exact State.runU_of_eq (evtFwdAckTimeout_resends found few)
  case givesUp => exact State.runU_of_eq (evtFwdAckTimeout_givesUp found many)
  case exportOff => exact State.runU_of_eq (chimExportPeriod_off off)
  case exportSkips => exact State.runU_of_eq ((chimExportPeriod_on on bound).trans (if_neg (Bool.eq_false_iff.1 full)))
  case exports => exact State.runU_of_eq ((chimExportPeriod_on on bound).trans (if_pos room))
  case trace => rfl
  case flueRefused => exact State.runU_of_eq (chimFlueEnable_refused no)
  case flueAlready => exact State.runU_of_eq (chimFlueEnable_already op on set)
  case flueDrains => exact State.runU_of_eq (chimFlueEnable_drains op on clear)
  case flueKeeps => exact State.runU_of_eq ((chimFlueEnable_whileDraining op off draining).trans (if_neg (Bool.eq_false_iff.1 clear)))
  case flueHolds => exact State.runU_of_eq ((chimFlueEnable_whileDraining op off draining).trans (if_pos set))
  case flueSets => exact State.runU_of_eq (chimFlueEnable_sets op off idle no)
  case flueAllocates => exact State.runU_of_eq (chimFlueEnable_allocates op off idle set fit)
  case feed => exact State.runU_of_eq (chimBindFeed_binds op known outer size)
  case expo => exact State.runU_of_eq (chimExportBind_binds op known outer)
  case alarmUnknown => exact State.runU_of_eq (chimAlarmAck_unknown op none_)
  case alarm => exact State.runU_of_eq (chimAlarmAck_acknowledges op found)
  case readNotStored => exact State.run_of_eq (chimEventRead_notStored op some_ few no)
  case readNotGranted => exact State.run_of_eq ((chimEventRead_stored op some_ few has).trans (if_neg (Bool.eq_false_iff.1 no)))
  case reads => exact State.run_of_eq ((chimEventRead_stored op some_ few has).trans (if_pos may))
  case freeze => exact State.runU_of_eq (chimLlFreeze_freezes op valid)
  case release => exact State.runU_of_eq (chimLlRelease_releases op valid)

end Sys2Proof.Machine
end

section
/-!
PROOFS. Tallow (20 R465 to R479): its commands, its units' writes, the completions of NAND operations, the collection and the drain, branch by
branch, and the statement about them.
-/
namespace Sys2Proof.Machine

section
variable {u : Units}

/-! The checks that the commands share (R479) -/

section
variable {c : Sys2Proof.Cmd} {code : Nat} {f : Units → Units}

theorem Units.talCmd_refused (no : isOperator (stampPriv c.stamp) = false) : u.talCmd c code f = u.done c 0x0B0 code St.NOT_PRIVILEGED :=
  operator_refused no _ _ _

variable (op : isOperator (stampPriv c.stamp) = true)
include op

theorem Units.talCmd_unmounted (unmounted : u.tal.mounted = false) (other : code ≠ 0x0C01) :
    u.talCmd c code f = u.done c 0x0B0 code St.TALLOW_NOT_MOUNTED :=
  (operator_ok op _ _ _).trans (if_pos (by simp [unmounted, other]))

variable (mounted : u.tal.mounted = true)
include mounted

theorem Units.talCmd_stopped (no : u.tal.enable = false ∨ u.tal.format ≠ none) : u.talCmd c code f = u.done c 0x0B0 code St.BAD_STATE := by
  refine (operator_ok op _ _ _).trans ((if_neg (by simp [mounted])).trans (if_pos ?_))
  simpa [Option.isSome_iff_ne_none] using no

theorem Units.talCmd_ok (on : u.tal.enable = true) (idle : u.tal.format = none) : u.talCmd c code f = f u :=
  (operator_ok op _ _ _).trans ((if_neg (by simp [mounted])).trans (if_neg (by simp [on, idle])))

end

/-! The commands (R471, R472, R479) -/

/-- A block's mapped chunks keep the raw commands away outside maintenance mode. -/
def Units.rawBusy (u : Units) (die block : Nat) : Prop := u.mb.mode ≠ 2 ∧ u.tal.mappedIn die block = true

theorem Units.rawBusy_iff (u : Units) (die block : Nat) : (decide (u.mb.mode ≠ 2) && u.tal.mappedIn die block) = true ↔ u.rawBusy die block := by
  rw [Units.rawBusy, Bool.and_eq_true, decide_eq_true_eq]

/-- A raw command's page is of the geometry, and its address one that Tallow may use. -/
def Units.rawSound (u : Units) (die block page addr : Nat) (w : Bool) : Prop :=
  (u.tal.inGeom die block = true ∧ page < u.tal.pagesPer) ∧ u.mayAccess 4 addr 16384 w = true

theorem Units.rawSound_iff (u : Units) (die block page addr : Nat) (w : Bool) :
    (!(u.tal.inGeom die block) || u.tal.pagesPer ≤ page || !(u.mayAccess 4 addr 16384 w)) = false ↔ u.rawSound die block page addr w := by
  simp [Units.rawSound]

section
variable {c : Sys2Proof.Cmd} {die block page addr : Nat} (op : isOperator (stampPriv c.stamp) = true) (mounted : u.tal.mounted = true)
  (on : u.tal.enable = true) (idle : u.tal.format = none)
include op mounted on idle

theorem tallowRawErase_outside (outside : u.tal.inGeom die block = false) : tallowRawErase c die block u = u.done c 0x0B0 0x0C05 St.BAD_PARAM :=
  (Units.talCmd_ok op mounted on idle).trans (if_pos (by simp [outside]))

section
variable (inside : u.tal.inGeom die block = true)
include inside

theorem tallowRawErase_busy (busy : u.rawBusy die block) : tallowRawErase c die block u = u.done c 0x0B0 0x0C05 St.BAD_STATE :=
  (Units.talCmd_ok op mounted on idle).trans ((if_neg (by simp [inside])).trans (if_pos ((Units.rawBusy_iff u die block).2 busy)))

theorem tallowRawErase_issues (free : ¬u.rawBusy die block) : tallowRawErase c die block u = u.eraseBlk die block 2 (some c) :=
  (Units.talCmd_ok op mounted on idle).trans ((if_neg (by simp [inside])).trans (if_neg (mt (Units.rawBusy_iff u die block).1 free)))

end

theorem tallowRawRead_badParam (bad : ¬u.rawSound die block page addr true) : tallowRawRead c die block page addr u = u.done c 0x0B0 0x0C03 St.BAD_PARAM :=
  (Units.talCmd_ok op mounted on idle).trans (if_pos (Bool.eq_true_of_not_eq_false (mt (Units.rawSound_iff ..).1 bad)))

theorem tallowRawProgram_badParam (bad : ¬u.rawSound die block page addr false) :
    tallowRawProgram c die block page addr u = u.done c 0x0B0 0x0C04 St.BAD_PARAM :=
  (Units.talCmd_ok op mounted on idle).trans (if_pos (Bool.eq_true_of_not_eq_false (mt (Units.rawSound_iff ..).1 bad)))

section
variable (sound : u.rawSound die block page addr true)
include sound

theorem tallowRawRead_busy (busy : u.rawBusy die block) : tallowRawRead c die block page addr u = u.done c 0x0B0 0x0C03 St.BAD_STATE :=
  (Units.talCmd_ok op mounted on idle).trans ((if_neg (Bool.eq_false_iff.1 ((Units.rawSound_iff ..).2 sound))).trans
    (if_pos ((Units.rawBusy_iff u die block).2 busy)))

theorem tallowRawRead_issues (free : ¬u.rawBusy die block) : tallowRawRead c die block page addr u =
    u.nandIssue { kind := 1, place := { die := die, block := block, page := page }, why := 2, ref := 0, region := 0, cmd := some c, addr := addr } 0 :=
  (Units.talCmd_ok op mounted on idle).trans ((if_neg (Bool.eq_false_iff.1 ((Units.rawSound_iff ..).2 sound))).trans
    (if_neg (mt (Units.rawBusy_iff u die block).1 free)))

end

section
variable (sound : u.rawSound die block page addr false)
include sound

theorem tallowRawProgram_busy (busy : u.rawBusy die block) : tallowRawProgram c die block page addr u = u.done c 0x0B0 0x0C04 St.BAD_STATE :=
  (Units.talCmd_ok op mounted on idle).trans ((if_neg (Bool.eq_false_iff.1 ((Units.rawSound_iff ..).2 sound))).trans
    (if_pos ((Units.rawBusy_iff u die block).2 busy)))

variable (free : ¬u.rawBusy die block)
include free

/-- A raw program of a page free to it goes by whether the page is erased. -/
theorem tallowRawProgram_free : tallowRawProgram c die block page addr u =
    let p : Place := { die := die, block := block, page := page }
    if !(u.tal.isErased p 1) then (u.notErased p).done c 0x0B0 0x0C04 St.TALLOW_NOT_ERASED
    else u.nandIssue { kind := 0, place := p, why := 2, ref := 0, region := 0, cmd := some c, addr := addr } 1 :=
  (Units.talCmd_ok op mounted on idle).trans ((if_neg (Bool.eq_false_iff.1 ((Units.rawSound_iff ..).2 sound))).trans
    (if_neg (mt (Units.rawBusy_iff u die block).1 free)))

end

end

/-! TALLOW_CHECKPOINT_TIMER (R472) and TALLOW_WRITE (R470) -/

theorem tallowCheckpointTimer_runs (runs : u.tal.mounted = true ∧ u.tal.enable = true ∧ u.tal.format = none) :
    tallowCheckpointTimer u = u.startWrite 3 0 0 4 0 [] [] := if_pos (by simp [runs])

theorem tallowCheckpointTimer_idle (no : ¬(u.tal.mounted = true ∧ u.tal.enable = true ∧ u.tal.format = none)) : tallowCheckpointTimer u = u :=
  if_neg (by simpa [and_assoc] using no)

section
variable {owner region chunk bytes : Nat}

/-- The units once a write has been refused, and its owner told. -/
def Units.writeRefused (u : Units) (owner region chunk st : Nat) : Units := (u.upT fun t => { t with last := st }).tellOwner owner region chunk st

theorem tallowWrite_unmounted (unmounted : u.tal.mounted = false) :
    tallowWrite owner region chunk bytes u = u.writeRefused owner region chunk St.TALLOW_NOT_MOUNTED := if_pos (by simp [unmounted])

variable (mounted : u.tal.mounted = true)
include mounted

theorem tallowWrite_stopped (no : u.tal.enable = false ∨ u.tal.format ≠ none) :
    tallowWrite owner region chunk bytes u = u.writeRefused owner region chunk St.BAD_STATE :=
  (if_neg (by simp [mounted])).trans (if_pos (by simpa [Option.isSome_iff_ne_none] using no))

variable (on : u.tal.enable = true) (idle : u.tal.format = none)
include on idle

theorem tallowWrite_runs : tallowWrite owner region chunk bytes u =
    if region = 0 || 4 ≤ region || u.tal.sizes.getD region 0 ≤ chunk then u.writeRefused owner region chunk St.BAD_PARAM
    else if region = 3 && u.tal.wear = 2 then u.writeRefused owner region chunk St.TALLOW_READ_ONLY
    else u.startWrite 0 region chunk (writePages region bytes) owner [] [] :=
  (if_neg (by simp [mounted])).trans (if_neg (by simp [on, idle]))

theorem tallowWrite_unnamed (bad : ¬(1 ≤ region ∧ region ≤ 3 ∧ chunk < u.tal.sizes.getD region 0)) :
    tallowWrite owner region chunk bytes u = u.writeRefused owner region chunk St.BAD_PARAM := by
  refine (tallowWrite_runs mounted on idle).trans (if_pos ?_)
  simp only [Bool.or_eq_true, decide_eq_true_eq]
  omega

variable (named : 1 ≤ region ∧ region ≤ 3 ∧ chunk < u.tal.sizes.getD region 0)
include named

theorem tallowWrite_named : tallowWrite owner region chunk bytes u =
    if region = 3 && u.tal.wear = 2 then u.writeRefused owner region chunk St.TALLOW_READ_ONLY
    else u.startWrite 0 region chunk (writePages region bytes) owner [] [] := by
  refine (tallowWrite_runs mounted on idle).trans (if_neg ?_)
  simp only [Bool.or_eq_true, decide_eq_true_eq]
  omega

theorem tallowWrite_readOnly (log : region = 3) (worn : u.tal.wear = 2) :
    tallowWrite owner region chunk bytes u = u.writeRefused owner region chunk St.TALLOW_READ_ONLY :=
  (tallowWrite_named mounted on idle named).trans (if_pos (by simp [log, worn]))

theorem tallowWrite_starts (writable : region ≠ 3 ∨ u.tal.wear ≠ 2) :
    tallowWrite owner region chunk bytes u = u.startWrite 0 region chunk (writePages region bytes) owner [] [] :=
  (tallowWrite_named mounted on idle named).trans (if_neg (by simpa [← or_iff_not_imp_left, imp_iff_not_or] using writable))

end

/-! NAND_PROGRAM_DONE (R470, R476, R478) -/

section
variable {p : Place}

theorem nandProgramDone_unknown (none_ : u.tal.opAt 0 p = none) (pass : Bool) : nandProgramDone p pass u = u := by rw [nandProgramDone, none_]

variable {o : NandOp} (found : u.tal.opAt 0 p = some o)
include found

/-- The write that a program in flight belongs to. -/
def Units.programWrite (u : Units) (o : NandOp) : Option TWrite := if o.why = 0 then (u.dropOp o).tal.writes.find? fun w => w.id = o.ref else none

section
variable {x : TWrite} (mine : u.programWrite o = some x)
include mine

theorem nandProgramDone_passed : nandProgramDone p true u =
    ((((u.dropOp o).count 0xB00100 (16384 * x.pages)).upT fun t => { t with writes := t.writes.map fun y =>
      if y.id = x.id then { x with copies := x.copies.map fun c => if c.place = p then { c with state := 1 } else c } else y }).nandIssue
        { o with kind := 1 } 0) := by
  unfold Units.programWrite at mine
  rw [nandProgramDone, found]
  dsimp only
  rw [mine]
  rfl

theorem nandProgramDone_failed : nandProgramDone p false u =
    ((((u.dropOp o).retireBlk p.die p.block).upT fun t =>
      { t with ops := t.ops.filter (fun y => !(y.why = 0 && y.ref = x.id)), open_ := t.open_.filter fun y => y.2 ≠ (p.die, p.block) }).program x) := by
  unfold Units.programWrite at mine
  rw [nandProgramDone, found]
  dsimp only
  rw [mine]
  rfl

end

/-- A program of no write ends, and with it the command that asked for it. -/
def Units.rawEnds (u : Units) (o : NandOp) (code : Nat) : Units := match o.cmd with | some d => u.done d 0x0B0 code St.OK | none => u

theorem nandProgramDone_raw (none_ : u.programWrite o = none) (pass : Bool) : nandProgramDone p pass u =
    (if pass then (u.dropOp o).count 0xB00100 16384 else (u.dropOp o).retireBlk p.die p.block).rawEnds o 0x0C04 := by
  unfold Units.programWrite at none_
  rw [nandProgramDone, found, Units.rawEnds]
  dsimp only
  rw [none_]
  cases o.cmd <;> rfl

end

/-! NAND_READ_DONE (R466, R470, R474, R478) -/

section
variable {p : Place} {retries : Nat} {ok same : Bool} {data : List Nat} {m : Mem}

/-- The read that has completed: the one in flight at the place, or one of Tallow's own of what is mapped there. -/
def Units.readOf (u : Units) (p : Place) : NandOp :=
  (u.tal.opAt 1 p).getD (match u.tal.map.find? fun x => x.2.contains p with
    | some x => { kind := 1, place := p, why := 4, ref := x.1 % 2 ^ 32, region := x.1 / 2 ^ 32, cmd := none, addr := 0 }
    | none => { kind := 1, place := p, why := 7, ref := 0, region := 0, cmd := none, addr := 0 })

/-- The units once a read has been taken off the list and counted. -/
def Units.readCounted (u : Units) (p : Place) (retries : Nat) (ok : Bool) : Units :=
  let u0 := if (u.tal.opAt 1 p).isSome = true then u.dropOp (u.readOf p) else u
  let u1 := (if retries = 0 then u0 else u0.count 0xB00110).count 0xB00108 (if (u.readOf p).why = 2 then 16384 else 16384 * unitPages (u.readOf p).region)
  if ok = true then u1 else (u1.upT fun t => { t with last := St.TALLOW_UNCORRECTABLE }).count 0xB00118

/-- The other copy of what was read. -/
def Units.otherCopy (u : Units) (o : NandOp) (p : Place) : Option Place :=
  (NMap.getD u.tal.map (chunkKey o.region o.ref) []).find? fun q => q ≠ p

/-- A read that has been counted goes on by what it was for. -/
def Units.readGoesOn (u : Units) (o : NandOp) (p : Place) (ok same : Bool) (data : List Nat) (m : Mem) : Mem × Units :=
  if o.why = 0 then
    match u.tal.writes.find? fun w => w.id = o.ref with
    | none => (m, u)
    | some w =>
      if !ok || !same then (m, u.program w)
      else
        let w := { w with copies := w.copies.map fun c => if c.place = p then { c with state := 2 } else c }
        let u := u.upT fun t => { t with writes := t.writes.map fun x => if x.id = w.id then w else x }
        (m, if w.copies.all (fun c => c.state = 2) then u.writeDurable w else u)
  else if o.why = 1 then
    if ok then (m, u.startWrite 1 o.region o.ref (writePages o.region 262144) 0 [] [])
    else match u.otherCopy o p with
      | some q => (m, u.nandIssue { o with place := q } 0)
      | none => (m, (u.tellOwner 3 o.region o.ref St.TALLOW_UNCORRECTABLE).startWrite 1 o.region o.ref (writePages o.region 262144) 0 [] [])
  else if o.why = 2 then
    match o.cmd with
    | some c =>
      let r := unitWrite Ag.tallow o.addr data m u
      (r.1, r.2.done c 0x0B0 0x0C03 (if ok then St.OK else St.TALLOW_UNCORRECTABLE))
    | none => (m, u)
  else if o.why = 4 && !ok then
    match u.otherCopy o p with
    | some q => if mirrored o.region then (m, u.nandIssue { o with place := q, why := 5 } 0) else (m, u)
    | none => (m, u.tellOwner (if o.region = 1 then 1 else if o.region = 2 then 2 else 3) o.region o.ref St.TALLOW_UNCORRECTABLE)
  else if o.why = 5 then
    if ok then (m, (u.talEvent Ev.TALLOW_MIRROR_REPAIRED).startWrite 0 o.region o.ref (writePages o.region 262144) 0 [] [])
    else (m, u.tellOwner 1 o.region o.ref St.TALLOW_UNCORRECTABLE)
  else (m, u)

theorem nandReadDone_eq : nandReadDone p retries ok same data m u = (u.readCounted p retries ok).readGoesOn (u.readOf p) p ok same data m := by
  unfold nandReadDone Units.readCounted Units.readOf
  cases u.tal.opAt 1 p <;> rfl

end

section
variable {o : NandOp} {p : Place} {same : Bool} {data : List Nat} {m : Mem}

section
variable {ok : Bool} (back : o.why = 0)
include back

theorem Units.readGoesOn_noWrite (none_ : (u.tal.writes.find? fun w => w.id = o.ref) = none) : u.readGoesOn o p ok same data m = (m, u) := by
  rw [Units.readGoesOn, if_pos back, none_]

variable {x : TWrite} (mine : (u.tal.writes.find? fun w => w.id = o.ref) = some x)
include mine

theorem Units.readGoesOn_differs (no : ¬(ok = true ∧ same = true)) : u.readGoesOn o p ok same data m = (m, u.program x) := by
  rw [Units.readGoesOn, if_pos back, mine]
  exact if_pos (by cases ok <;> simp_all)

/-- A read-back that matches makes its copy good, and the last one the write durable. -/
theorem Units.readGoesOn_matches (good : ok = true) (match_ : same = true) : u.readGoesOn o p ok same data m =
    let y := { x with copies := x.copies.map fun c => if c.place = p then { c with state := 2 } else c }
    let v := u.upT fun t => { t with writes := t.writes.map fun z => if z.id = y.id then y else z }
    (m, if y.copies.all (fun c => c.state = 2) then v.writeDurable y else v) := by
  rw [Units.readGoesOn, if_pos back, mine]
  exact if_neg (by simp [good, match_])

end

/-! A read of the collection -/

section
variable (gc : o.why = 1)
include gc

theorem Units.readGoesOn_moves : u.readGoesOn o p true same data m = (m, u.startWrite 1 o.region o.ref (writePages o.region 262144) 0 [] []) := by
  rw [Units.readGoesOn, if_neg (by simp [gc]), if_pos gc]; rfl

theorem Units.readGoesOn_moveOther {q : Place} (other : u.otherCopy o p = some q) :
    u.readGoesOn o p false same data m = (m, u.nandIssue { o with place := q } 0) := by
  rw [Units.readGoesOn, if_neg (by simp [gc]), if_pos gc, if_neg Bool.false_ne_true, other]

theorem Units.readGoesOn_moveLost (none_ : u.otherCopy o p = none) : u.readGoesOn o p false same data m =
    (m, (u.tellOwner 3 o.region o.ref St.TALLOW_UNCORRECTABLE).startWrite 1 o.region o.ref (writePages o.region 262144) 0 [] []) := by
  rw [Units.readGoesOn, if_neg (by simp [gc]), if_pos gc, if_neg Bool.false_ne_true, none_]

end

/-! A read of TALLOW_RAW_READ -/

section
variable {ok : Bool} (raw : o.why = 2)
include raw

theorem Units.readGoesOn_noCommand (none_ : o.cmd = none) : u.readGoesOn o p ok same data m = (m, u) := by
  rw [Units.readGoesOn, if_neg (by simp [raw]), if_neg (by simp [raw]), if_pos raw, none_]

theorem Units.readGoesOn_answers {d : Sys2Proof.Cmd} (cmd : o.cmd = some d) : u.readGoesOn o p ok same data m =
    let r := unitWrite Ag.tallow o.addr data m u
    (r.1, r.2.done d 0x0B0 0x0C03 (if ok then St.OK else St.TALLOW_UNCORRECTABLE)) := by
  rw [Units.readGoesOn, if_neg (by simp [raw]), if_neg (by simp [raw]), if_pos raw, cmd]

end

/-! A read of a unit's own -/

section
variable (unit : o.why = 4)
include unit

theorem Units.readGoesOn_unitRead : u.readGoesOn o p true same data m = (m, u) := by
  rw [Units.readGoesOn, if_neg (by simp [unit]), if_neg (by simp [unit]), if_neg (by simp [unit]), if_neg (by simp), if_neg (by simp [unit])]

theorem Units.readGoesOn_unitLost : u.readGoesOn o p false same data m =
    match u.otherCopy o p with
    | some q => if mirrored o.region then (m, u.nandIssue { o with place := q, why := 5 } 0) else (m, u)
    | none => (m, u.tellOwner (if o.region = 1 then 1 else if o.region = 2 then 2 else 3) o.region o.ref St.TALLOW_UNCORRECTABLE) := by
  rw [Units.readGoesOn, if_neg (by simp [unit]), if_neg (by simp [unit]), if_neg (by simp [unit]), if_pos (by simp [unit])]

theorem Units.readGoesOn_unitOther {q : Place} (other : u.otherCopy o p = some q) : u.readGoesOn o p false same data m =
    (m, if mirrored o.region then u.nandIssue { o with place := q, why := 5 } 0 else u) := by
  rw [Units.readGoesOn_unitLost unit, other, apply_ite (Prod.mk m)]

theorem Units.readGoesOn_unitGone (none_ : u.otherCopy o p = none) : u.readGoesOn o p false same data m =
    (m, u.tellOwner (if o.region = 1 then 1 else if o.region = 2 then 2 else 3) o.region o.ref St.TALLOW_UNCORRECTABLE) := by
  rw [Units.readGoesOn_unitLost unit, none_]

end

theorem Units.readGoesOn_repair {ok : Bool} (repair : o.why = 5) : u.readGoesOn o p ok same data m =
    if ok then (m, (u.talEvent Ev.TALLOW_MIRROR_REPAIRED).startWrite 0 o.region o.ref (writePages o.region 262144) 0 [] [])
    else (m, u.tellOwner 1 o.region o.ref St.TALLOW_UNCORRECTABLE) := by
  rw [Units.readGoesOn, if_neg (by simp [repair]), if_neg (by simp [repair]), if_neg (by simp [repair]), if_neg (by simp [repair]), if_pos repair]

theorem Units.readGoesOn_other {ok : Bool} (other : o.why ∉ [0, 1, 2, 4, 5]) : u.readGoesOn o p ok same data m = (m, u) := by
  simp only [List.mem_cons, List.not_mem_nil, or_false, not_or] at other
  obtain ⟨n0, n1, n2, n4, n5⟩ := other
  rw [Units.readGoesOn, if_neg n0, if_neg n1, if_neg n2, if_neg (by simp [n4]), if_neg n5]

end

/-! NAND_ERASE_DONE (R471, R474, R476) -/

section
variable {die block : Nat} {pass : Bool}

theorem nandEraseDone_unknown (none_ : u.tal.opAt 2 { die := die, block := block, page := 0 } = none) : nandEraseDone die block pass u = u := by
  rw [nandEraseDone, none_]

/-- The units once an erase's block has its erase bits and is journaled, or has been retired. -/
def Units.eraseTaken (u : Units) (o : NandOp) (die block : Nat) (pass : Bool) : Units :=
  let u0 := u.dropOp o
  let u1 := u0.upT fun t => { t with erased := NMap.set t.erased (blkKey die block) (2 ^ t.pagesPer - 1) }
  let u2 := (u1.upBlk die block fun b => { b with erases := b.erases + 1, wp := 0, state := if o.why = 3 then 0 else b.state }).wearCheck
  if pass = false then u0.retireBlk die block else if o.why = 3 then u2 else u2.journal [nandEntry 2 die block] 0 0 0

/-- The units once the collection that waited for an erase goes on, or ends with it. -/
def Units.eraseCollects (u : Units) (o : NandOp) (die block : Nat) (pass : Bool) : Units :=
  match u.tal.gc with
  | some g => if o.why = 6 && g.phase = 2 && g.die = die && g.block = block then
      u.upT fun t => { t with gc := if pass = true then some { g with phase := 3 } else none } else u
  | none => u

theorem nandEraseDone_ends {o : NandOp} (found : u.tal.opAt 2 { die := die, block := block, page := 0 } = some o) : nandEraseDone die block pass u =
    let v := ((u.eraseTaken o die block pass).eraseCollects o die block pass).rawEnds o 0x0C05
    if o.why = 3 then v.formatCheck else v := by
  rw [nandEraseDone, found]
  cases pass <;> rfl

end

/-! TALLOW_GC (R474, R476) and TALLOW_ENABLE_CLEAR (R478) -/

section
variable {tlc : Bool}

/-- A collection may begin. -/
def Tallow.gcIdle (t : Tallow) : Prop := t.mounted = true ∧ t.format = none ∧ t.gc = none ∧ t.pwrFail = false

/-- The block that a collection would take. -/
def Units.gcPick (u : Units) (tlc : Bool) : Option Nat :=
  if ((NMap.vals u.tal.blocks).filter fun b => b.tlc = tlc && b.state = 0).length < bits (u.cfg 0xB0000C 64) 9 0 then u.tal.gcBlock tlc
  else u.tal.levelBlock tlc

/-- The collection of a block, before its first move. -/
def Tallow.gcNew (t : Tallow) (tlc : Bool) (k : Nat) : TGc :=
  { die := k / 2 ^ 32, block := k % 2 ^ 32, tlc := tlc, todo := t.validIn (k / 2 ^ 32) (k % 2 ^ 32), moved := [], phase := 0 }

theorem Tallow.gcIdle_iff (t : Tallow) : (!t.mounted || t.gc.isSome || t.pwrFail || t.format.isSome) = false ↔ t.gcIdle := by
  simp only [Tallow.gcIdle, Bool.or_eq_false_iff, Bool.not_eq_false', Option.isSome_eq_false_iff, Option.isNone_iff_eq_none]
  tauto

theorem tallowGc_waits (no : ¬u.tal.gcIdle ∨ u.gcPick tlc = none) : tallowGc tlc u = u := by
  by_cases idle : u.tal.gcIdle
  · refine (if_neg (Bool.eq_false_iff.1 ((Tallow.gcIdle_iff _).2 idle))).trans ?_
    have none_ := no.resolve_left (not_not.2 idle)
    unfold Units.gcPick at none_
    dsimp only
    rw [none_]
  · exact if_pos (Bool.eq_true_of_not_eq_false (mt (Tallow.gcIdle_iff _).1 idle))

theorem tallowGc_begins {k : Nat} (idle : u.tal.gcIdle) (pick : u.gcPick tlc = some k) : tallowGc tlc u =
    (u.upT fun t => { t with gc := some (u.tal.gcNew tlc k) }).gcNext := by
  refine (if_neg (Bool.eq_false_iff.1 ((Tallow.gcIdle_iff _).2 idle))).trans ?_
  unfold Units.gcPick at pick
  dsimp only
  rw [pick]
  rfl

variable {w : Sys2Proof.Who}

theorem tallowEnableClear_keeps (no : ¬(isOperator w.priv = true ∧ u.tal.enable = true)) : tallowEnableClear w u = u :=
  if_pos (by simpa [-not_and, not_and_or] using no)

theorem tallowEnableClear_drains (goes : isOperator w.priv = true ∧ u.tal.enable = true) : tallowEnableClear w u =
    { u.upT (fun t => { t with enable := false, draining := true }) with
      drains := u.drains ++ [{ unit := 0x0B, items := u.tal.writes.length, enableHeld := false }] } := if_neg (by simp [goes])

end

end

/-- Settles O58: each clause is one branch of its command, completion or timer, by the lemmas above. -/
theorem tallowJournalsCollectsAndRunsCommands : Obligations.TallowJournalsCollectsAndRunsCommands := by
  intro s c w die block page addr
  refine ⟨⟨fun no => ⟨?_, ?_, ?_, ?_⟩, fun op unmounted => ⟨?_, ?_, ?_, ?_⟩, fun op mounted no => ⟨?_, ?_, ?_, ?_⟩, fun op mounted on idle => ⟨?checkpoint,
      fun outside => ?eraseOutside, fun inside busy => ?eraseBusy, fun inside free => ?erases, fun bad => ?readBad,
      fun there may => ⟨fun busy => ?readBusy, fun free => ?reads⟩, fun bad => ?programBad,
      fun there may => ⟨fun busy => ?programBusy, fun free erased => ?programs, fun free written => ?programNotErased⟩⟩⟩,
    ⟨fun runs => ?timerRuns, fun no => ?timerIdle⟩,
    fun owner region chunk bytes => ⟨fun unmounted => ?writeUnmounted, fun mounted no => ?writeStopped, fun mounted on idle => ⟨fun bad => ?writeUnnamed,
      fun named log worn => ?writeReadOnly, fun named writable => ?writeStarts⟩⟩,
    fun none_ pass => ?programUnknown, fun o found => ⟨fun x mine => ⟨?programPassed, ?programFailed⟩, fun none_ => ⟨?rawPassed, ?rawFailed⟩⟩,
    fun retries ok same data => ⟨fun back none_ => ?backNoWrite, fun x back mine => ⟨fun no => ?backDiffers, fun good match_ more => ?backGood,
        fun good match_ last => ?backDurable⟩,
      fun gc => ⟨fun good => ?gcGood, fun q lost other => ?gcOther, fun lost other => ?gcLost⟩, fun raw => ⟨fun none_ => ?rawNoCmd, fun d cmd => ?rawAnswers⟩,
      fun unit => ⟨fun good => ?unitGood, fun q lost other => ?unitOther, fun lost other => ?unitLost⟩,
      fun repair => ⟨fun good => ?repaired, fun lost => ?repairLost⟩, fun other => ?readOther⟩,
    fun none_ pass => ?eraseUnknown, fun o pass found => ⟨fun format => ?eraseFormat, fun other => ?eraseEnds⟩,
    fun tlc => ⟨fun no => ?gcWaits, fun k idle pick => ?gcBegins⟩, fun no => ?clearKeeps, fun goes => ?clearDrains⟩
  iterate 4 exact State.runU_of_eq (Units.talCmd_refused no)
  iterate 4 exact State.runU_of_eq (Units.talCmd_unmounted op unmounted (by decide))
  iterate 4 exact State.runU_of_eq (Units.talCmd_stopped op mounted no)
  case checkpoint => exact State.runU_of_eq (Units.talCmd_ok op mounted on idle)
  case eraseOutside => exact State.runU_of_eq (tallowRawErase_outside op mounted on idle outside)
  case eraseBusy => exact State.runU_of_eq (tallowRawErase_busy op mounted on idle inside busy)
  case erases => exact State.runU_of_eq (tallowRawErase_issues op mounted on idle inside free)
  case readBad => exact State.runU_of_eq (tallowRawRead_badParam op mounted on idle bad)
  case readBusy => exact State.runU_of_eq (tallowRawRead_busy op mounted on idle ⟨there, may⟩ busy)
  case reads => exact State.runU_of_eq (tallowRawRead_issues op mounted on idle ⟨there, may⟩ free)
  case programBad => exact State.runU_of_eq (tallowRawProgram_badParam op mounted on idle bad)
  case programBusy => exact State.runU_of_eq (tallowRawProgram_busy op mounted on idle ⟨there, may⟩ busy)
  case programs => exact State.runU_of_eq ((tallowRawProgram_free op mounted on idle ⟨there, may⟩ free).trans (if_neg (by simp [erased])))
  case programNotErased => exact State.runU_of_eq ((tallowRawProgram_free op mounted on idle ⟨there, may⟩ free).trans (if_pos (by simp [written])))
  case timerRuns => exact State.runU_of_eq (tallowCheckpointTimer_runs runs)
  case timerIdle => exact State.runU_of_eq (tallowCheckpointTimer_idle no)
  case writeUnmounted => exact State.runU_of_eq (tallowWrite_unmounted unmounted)
  case writeStopped => exact State.runU_of_eq (tallowWrite_stopped mounted no)
  case writeUnnamed => exact State.runU_of_eq (tallowWrite_unnamed mounted on idle bad)
  case writeReadOnly => exact State.runU_of_eq (tallowWrite_readOnly mounted on idle named log worn)
  case writeStarts => exact State.runU_of_eq (tallowWrite_starts mounted on idle named writable)
  case programUnknown => exact State.runU_of_eq (nandProgramDone_unknown none_ pass)
  case programPassed => exact State.runU_of_eq (nandProgramDone_passed found mine)
  case programFailed => exact State.runU_of_eq (nandProgramDone_failed found mine)
  case rawPassed => exact State.runU_of_eq (nandProgramDone_raw found none_ true)
  case rawFailed => exact State.runU_of_eq (nandProgramDone_raw found none_ false)
  case backNoWrite => exact State.run_of_eq (nandReadDone_eq.trans (Units.readGoesOn_noWrite back none_))
  case backDiffers => exact State.run_of_eq (nandReadDone_eq.trans (Units.readGoesOn_differs back mine no))
  case backGood =>
    exact State.run_of_eq (nandReadDone_eq.trans ((Units.readGoesOn_matches back mine good match_).trans
      (congrArg _ (if_neg (Bool.eq_false_iff.1 more)))))
  case backDurable => exact State.run_of_eq (nandReadDone_eq.trans ((Units.readGoesOn_matches back mine good match_).trans (congrArg _ (if_pos last))))
  case gcGood => subst good; exact State.run_of_eq (nandReadDone_eq.trans (Units.readGoesOn_moves gc))
  case gcOther => subst lost; exact State.run_of_eq (nandReadDone_eq.trans (Units.readGoesOn_moveOther gc other))
  case gcLost => subst lost; exact State.run_of_eq (nandReadDone_eq.trans (Units.readGoesOn_moveLost gc other))
  case rawNoCmd => exact State.run_of_eq (nandReadDone_eq.trans (Units.readGoesOn_noCommand raw none_))
  case rawAnswers => exact State.run_of_eq (nandReadDone_eq.trans (Units.readGoesOn_answers raw cmd))
  case unitGood => subst good; exact State.run_of_eq (nandReadDone_eq.trans (Units.readGoesOn_unitRead unit))
  case unitOther => subst lost; exact State.run_of_eq (nandReadDone_eq.trans (Units.readGoesOn_unitOther unit other))
  case unitLost => subst lost; exact State.run_of_eq (nandReadDone_eq.trans (Units.readGoesOn_unitGone unit other))
  case repaired => exact State.run_of_eq (nandReadDone_eq.trans ((Units.readGoesOn_repair repair).trans (if_pos good)))
  case repairLost => exact State.run_of_eq (nandReadDone_eq.trans ((Units.readGoesOn_repair repair).trans (if_neg (Bool.eq_false_iff.1 lost))))
  case readOther => exact State.run_of_eq (nandReadDone_eq.trans (Units.readGoesOn_other other))
  case eraseUnknown => exact State.runU_of_eq (nandEraseDone_unknown none_)
  case eraseFormat => exact State.runU_of_eq ((nandEraseDone_ends found).trans (if_pos format))
  case eraseEnds => exact State.runU_of_eq ((nandEraseDone_ends found).trans (if_neg other))
  case gcWaits => exact State.runU_of_eq (tallowGc_waits no)
  case gcBegins => exact State.runU_of_eq (tallowGc_begins idle pick)
  case clearKeeps => exact State.runU_of_eq (tallowEnableClear_keeps no)
  case clearDrains => exact State.runU_of_eq (tallowEnableClear_drains goes)

end Sys2Proof.Machine
end

section
/-!
PROOFS. The Lamplighter (22 R504 to R522): its commands, the staging of images, the activation and its timers, restarts, operating time, and the
requests of SPDM and PLDM, branch by branch, and the statement about them.
-/
namespace Sys2Proof.Machine

section
variable {u : Units}

/-! LAMP_AMEND (R512, R513) -/

section
variable {c : Sys2Proof.Cmd} {addr len : Nat} {a : Amendment}

/-- The amendment is the next one of the configuration in force. -/
def Units.amendNext (u : Units) (a : Amendment) : Prop :=
  u.lamp.state ≠ 4 ∧ (∃ x, u.lamp.cfg = some x ∧ a.base = x.version) ∧ a.seq = u.lamp.amendSeq + 1

/-- The amendment leaves what is fixed, and its roles keep to R34. -/
def Amendment.sound (a : Amendment) : Prop := a.fixed = false ∧ ∀ l ok, a.part.roles = some (l, ok) → ok = true ∧ ∀ r ∈ l, r.ok = true

theorem Units.amendNext_iff (u : Units) (a : Amendment) :
    (u.lamp.state = 4 || u.lamp.cfg.isNone || a.base ≠ (match u.lamp.cfg with | some x => x.version | none => 0) || a.seq ≠ u.lamp.amendSeq + 1) = false ↔
      u.amendNext a := by
  rw [Units.amendNext]
  cases u.lamp.cfg <;> simp [and_assoc]

theorem Amendment.sound_iff (a : Amendment) :
    (a.fixed || (match a.part.roles with | some (l, ok) => !ok || l.any (fun r => !r.ok) | none => false)) = false ↔ a.sound := by
  rw [Amendment.sound]
  rcases a.part.roles with _ | ⟨l, ok⟩
  · simp
  · simp only [Bool.or_eq_false_iff, Bool.not_eq_false', List.any_eq_false, Option.some.injEq, Prod.mk.injEq]
    simp

variable (op : isOperator (stampPriv c.stamp) = true)
include op

theorem lampAmend_notNext (no : ¬u.amendNext a) : lampAmend c addr len a u = u.lampNo c 0x0201 St.BAD_STATE :=
  (lampOp_ok op _ _).trans (if_pos (Bool.eq_true_of_not_eq_false (mt (Units.amendNext_iff u a).1 no)))

variable (next : u.amendNext a)
include next

theorem lampAmend_bad (no : ¬a.sound) : lampAmend c addr len a u = u.lampNo c 0x0201 St.BAD_PARAM :=
  (lampOp_ok op _ _).trans ((if_neg (Bool.eq_false_iff.1 ((Units.amendNext_iff u a).2 next))).trans
    (if_pos (Bool.eq_true_of_not_eq_false (mt a.sound_iff.1 no))))

variable (sound : a.sound)
include sound

theorem lampAmend_sound : lampAmend c addr len a u =
    if !(u.lamp.keys.contains a.sigKey) then u.lampNo c 0x0201 St.SIGNATURE_INVALID
    else (((u.applyPart a.part true).upLamp fun l => { l with amendSeq := a.seq, amended := true }).count 0x108).done c 0x000 0x0201 St.OK :=
  (lampOp_ok op _ _).trans ((if_neg (Bool.eq_false_iff.1 ((Units.amendNext_iff u a).2 next))).trans (if_neg (Bool.eq_false_iff.1 (a.sound_iff.2 sound))))

end

/-! LAMP_UPDATE (R510, R514, R538) -/

section
variable {c : Sys2Proof.Cmd} {kind region off len : Nat} {im : UpImage} {same : Bool}

/-- The image lies within a region of its kind. -/
def Units.updateFits (u : Units) (kind region off len : Nat) : Prop :=
  kind < 3 ∧ ∃ r, NMap.find u.mantle.regions region = some r ∧ r.typ = 8 ∧ off + len ≤ r.pages.length * pageBytes

theorem Units.updateFits_iff (u : Units) (kind region off len : Nat) :
    (decide (3 ≤ kind) || !(match NMap.find u.mantle.regions region with | some r => r.typ = 8 && off + len ≤ r.pages.length * pageBytes | none => false)) =
      false ↔ u.updateFits kind region off len := by
  rw [Units.updateFits]
  cases NMap.find u.mantle.regions region <;> simp

/-- No image may be staged: power fails, or a switch awaits its quiesce point or runs. -/
def Units.updateBusy (u : Units) : Prop := u.pwr.fail = true ∨ u.lamp.updState = 3 ∨ u.lamp.updState = 4

theorem Units.updateBusy_iff (u : Units) : (u.pwr.fail || decide (u.lamp.updState = 3) || decide (u.lamp.updState = 4)) = true ↔ u.updateBusy := by
  simp [Units.updateBusy, or_assoc]

variable (op : isOperator (stampPriv c.stamp) = true)
include op

theorem lampUpdate_outside (no : ¬u.updateFits kind region off len) : lampUpdate c kind region off len im same u = u.lampNo c 0x0202 St.BAD_PARAM :=
  (lampOp_ok op _ _).trans (if_pos (Bool.eq_true_of_not_eq_false (mt (Units.updateFits_iff ..).1 no)))

variable (fits : u.updateFits kind region off len)
include fits

theorem lampUpdate_recovery (recovery : u.lamp.state = 4) (firmware : kind ≠ 2) :
    lampUpdate c kind region off len im same u = u.lampNo c 0x0202 St.BAD_STATE :=
  (lampOp_ok op _ _).trans ((if_neg (Bool.eq_false_iff.1 ((Units.updateFits_iff ..).2 fits))).trans (if_pos (by simp [recovery, firmware])))

variable (may : u.lamp.state ≠ 4 ∨ kind = 2)
include may

theorem lampUpdate_may : lampUpdate c kind region off len im same u =
    if u.pwr.fail || u.lamp.updState = 3 || u.lamp.updState = 4 then u.lampNo c 0x0202 St.BUSY_RETRY
    else
      let r := u.stage kind im same
      if r.2 = St.OK then r.1.done c 0x000 0x0202 St.OK else r.1.lampNo c 0x0202 r.2 :=
  (lampOp_ok op _ _).trans ((if_neg (Bool.eq_false_iff.1 ((Units.updateFits_iff ..).2 fits))).trans
    (if_neg (by simpa [imp_iff_not_or] using may)))

theorem lampUpdate_busy (busy : u.updateBusy) : lampUpdate c kind region off len im same u = u.lampNo c 0x0202 St.BUSY_RETRY :=
  (lampUpdate_may op fits may).trans (if_pos (u.updateBusy_iff.2 busy))

theorem lampUpdate_stages (free : ¬u.updateBusy) : lampUpdate c kind region off len im same u =
    let r := u.stage kind im same
    if r.2 = St.OK then r.1.done c 0x000 0x0202 St.OK else r.1.lampNo c 0x0202 r.2 :=
  (lampUpdate_may op fits may).trans (if_neg (mt u.updateBusy_iff.1 free))

end

section
variable {f : FwImage} {same : Bool}

/-- The units with an image staged: NOR, the state and the status of the update. -/
def Units.staged (u : Units) (kind : Nat) (n : Nor) (state st : Nat) : Units :=
  u.upLamp fun l => { l with nor := n, updState := state, updKind := kind, updLast := st }

/-- NOR with a firmware image written to the slot not in use, or that slot left erased. -/
def Lamp.norWith (l : Lamp) (kind : Nat) (f : FwImage) (ok : Bool) : Nor :=
  let n := if kind = 0 then
      { l.nor with fsbl := setSlot l.nor.fsbl (!l.fsblSlot) (if ok then some f else none), bootFsbl := if ok then !l.fsblSlot else l.nor.bootFsbl }
    else if kind = 1 then
      { l.nor with rt := setSlot l.nor.rt (!l.fwSlot) (if ok then some f else none), bootRt := if ok then !l.fwSlot else l.nor.bootRt,
                   trial := if ok then 1 else if l.nor.trial = 1 then 0 else l.nor.trial }
    else l.nor
  if !ok && kind = 1 && l.nor.trial = 1 then { n with bootRt := l.fwSlot } else n

/-- A firmware image that raises no admitted pair is staged, and begins no rollout. -/
theorem Units.stage_noRollout {kind : Nat} (old : ¬(kind = 1 ∧ f.sigKey = u.lamp.fuses.root ∧ u.lamp.fuses.fwFloor ≤ f.svn)) :
    u.stage kind (.fw f) same =
      let st := if u.upCheck kind (.fw f) = St.OK && !same then St.READBACK_MISMATCH else u.upCheck kind (.fw f)
      (u.staged kind (u.lamp.norWith kind f (st = St.OK)) (if st = St.OK then 2 else 0) st, st) := by
  have none_ : (if kind = 1 && f.sigKey = u.lamp.fuses.root && u.lamp.fuses.fwFloor ≤ f.svn then some f.version else none) = none :=
    if_neg (by simpa [and_assoc] using old)
  unfold Units.stage
  dsimp only
  rw [none_]
  simp only [Units.staged, Lamp.norWith, decide_eq_true_eq]

theorem Units.upCheck_unsigned {kind : Nat} (firmware : kind < 2) (bad : f.sigKey ≠ u.lamp.fuses.root) : u.upCheck kind (.fw f) = St.SIGNATURE_INVALID :=
  (if_neg (Nat.ne_of_lt firmware)).trans (if_pos bad)

theorem Units.stage_loaderUnsigned (bad : f.sigKey ≠ u.lamp.fuses.root) : u.stage 0 (.fw f) same =
    (u.staged 0 { u.lamp.nor with fsbl := setSlot u.lamp.nor.fsbl (!u.lamp.fsblSlot) none } 0 St.SIGNATURE_INVALID, St.SIGNATURE_INVALID) := by
  rw [Units.stage_noRollout (by simp), Units.upCheck_unsigned (by decide) bad]
  rfl

theorem Units.stage_runtimeUnsigned (bad : f.sigKey ≠ u.lamp.fuses.root) (noTrial : u.lamp.nor.trial ≠ 1) : u.stage 1 (.fw f) same =
    (u.staged 1 { u.lamp.nor with rt := setSlot u.lamp.nor.rt (!u.lamp.fwSlot) none } 0 St.SIGNATURE_INVALID, St.SIGNATURE_INVALID) := by
  have erased : u.lamp.norWith 1 f false = { u.lamp.nor with rt := setSlot u.lamp.nor.rt (!u.lamp.fwSlot) none } := by simp [Lamp.norWith, noTrial]
  rw [Units.stage_noRollout (by simp [bad]), Units.upCheck_unsigned (by decide) bad, ← erased]
  rfl

theorem Units.stage_loader (signed : f.sigKey = u.lamp.fuses.root) (new : u.lamp.fuses.fsblFloor ≤ f.svn) : u.stage 0 (.fw f) true =
    (u.staged 0 { u.lamp.nor with fsbl := setSlot u.lamp.nor.fsbl (!u.lamp.fsblSlot) (some f), bootFsbl := !u.lamp.fsblSlot } 2 St.OK, St.OK) := by
  have check : u.upCheck 0 (.fw f) = St.OK := by simp [Units.upCheck, signed, Nat.not_lt.2 new]
  rw [Units.stage_noRollout (by simp), check]
  rfl

end

/-! LAMP_ACTIVATE and its timers (R515 to R517, R460) -/

section
variable {c : Sys2Proof.Cmd}

/-- An activation runs already. -/
def Units.activating (u : Units) : Prop := u.lamp.act ≠ none ∨ u.role.rollAct = true

theorem Units.activating_iff (u : Units) : (u.lamp.act.isSome || u.role.rollAct) = true ↔ u.activating := by
  simp [Units.activating, Option.isSome_iff_ne_none]

section
variable (op : isOperator (stampPriv c.stamp) = true)
include op

theorem lampActivate_busy (busy : u.activating) : lampActivate c u = u.lampNo c 0x0203 St.BUSY_RETRY :=
  (lampOp_ok op _ _).trans (if_pos (u.activating_iff.2 busy))

variable (free : ¬u.activating)
include free

theorem lampActivate_noTrial (no : ¬(u.lamp.nor.trial = 1 ∧ u.lamp.state = 3)) : lampActivate c u = u.lampNo c 0x0203 St.BAD_STATE :=
  (lampOp_ok op _ _).trans ((if_neg (mt u.activating_iff.1 free)).trans (if_pos (by
    simp only [Units.mayActivate, Bool.not_eq_true', Bool.and_eq_false_iff, decide_eq_false_iff_not]
    exact .inl (.inl (not_and_or.1 no)))))

theorem lampActivate_freezes (trial : u.lamp.nor.trial = 1) (running : u.lamp.state = 3) :
    lampActivate c u = u.freezeAct.upLamp fun l => { l with act := some c } := by
  obtain ⟨act, roll⟩ := not_or.1 free
  exact (lampOp_ok op _ _).trans ((if_neg (mt u.activating_iff.1 free)).trans
    (if_neg (by simp [Units.mayActivate, trial, running, not_not.1 act, Bool.eq_false_iff.2 roll])))

end

section
variable {ready : Bool} {bad : List (Nat × Nat)}

theorem quiescePointReached_waits (no : ¬(u.lamp.updState = 3 ∧ u.quiet = true)) : quiescePointReached ready bad u = u :=
  if_pos (by simpa [-not_and, not_and_or] using no)

/-- The units with the runtime switched to the slot to start. -/
def Units.switched (u : Units) : Units :=
  u.upLamp fun l => { l with updState := 4, fwSlot := u.lamp.nor.bootRt, nor := { l.nor with trial := 2 } }

/-- The units with the switch complete. -/
def Units.switchDone (u : Units) : Units :=
  let im := slotOf u.lamp.nor.rt u.lamp.nor.bootRt
  (u.switched.upLamp fun l => { l with updState := 5, state := 3, updLast := St.OK, act := none, fw := im,
                                       actLog := l.actLog ++ (match im with | some f => [(f.version, f.digest)] | none => []) }).count 0x110

theorem quiescePointReached_switches (goes : u.lamp.updState = 3 ∧ u.quiet = true) : quiescePointReached ready bad u =
    if !ready then u.switched else (u.switchDone.actEnd u.lamp.act St.OK).unfreeze bad := if_neg (by simp [goes])

theorem Units.actEnd_ok {d : Sys2Proof.Cmd} : u.actEnd (some d) St.OK = u.done d 0x000 0x0203 St.OK := by
  rw [Units.actEnd, if_pos rfl]

theorem Units.actEnd_no {d : Sys2Proof.Cmd} {st : Nat} (no : st ≠ St.OK) : u.actEnd (some d) st = u.lampNo d 0x0203 st := by
  rw [Units.actEnd, if_neg no]

theorem Units.actEnd_rollout {st : Nat} : u.actEnd none st = u.rollAnswer st := rfl

theorem quiesceTimeout_abandons (waits : u.lamp.updState = 3) : quiesceTimeout u =
    ((u.upLamp fun l => { l with act := none, updState := 2, state := 3, updLast := St.BUSY_RETRY }).actEnd u.lamp.act St.BUSY_RETRY).unfreeze [] :=
  if_neg (not_not.2 waits)

end

theorem trialCommitTimer_keeps (no : ¬(u.lamp.nor.trial = 2 ∧ u.lamp.state = 3)) : trialCommitTimer u = u :=
  if_pos (by simpa [-not_and, not_and_or] using no)

theorem trialCommitTimer_commits (goes : u.lamp.nor.trial = 2 ∧ u.lamp.state = 3) : trialCommitTimer u =
    u.upLamp fun l => { l with nor := { l.nor with trial := 0 }, updState := if l.updState = 5 then 0 else l.updState,
                               fuses := { l.fuses with fwFloor := max l.fuses.fwFloor (match u.lamp.fw with | some f => f.floor | none => 0) } } :=
  if_neg (by simp [goes])

/-- A start under a trial slot has not come up. -/
def Units.trialLate (u : Units) : Prop := u.lamp.nor.trial = 2 ∧ u.lamp.state ≠ 3 ∧ u.lamp.updState ≠ 4

theorem Units.trialLate_iff (u : Units) : (decide (u.lamp.nor.trial = 2) && decide (u.lamp.state ≠ 3) && decide (u.lamp.updState ≠ 4)) = true ↔ u.trialLate := by
  simp [Units.trialLate, and_assoc]

end

/-! LAMP_CAL_WRITE (R521) and the owner record (R522) -/

section
variable {c : Sys2Proof.Cmd} {addr sigKey : Nat} {m : Mem} (op : isOperator (stampPriv c.stamp) = true)
include op

theorem lampCalWrite_badParam (none_ : calParse (m.bytesAt addr 4096) = none) : lampCalWrite c addr sigKey m u = u.lampNo c 0x0204 St.BAD_PARAM := by
  rw [lampCalWrite, lampOp_ok op, none_]

section
variable {x : CalSet} (set : calParse (m.bytesAt addr 4096) = some x)
include set

theorem lampCalWrite_vendorOnly (vendor : x.origin = 0) (no : stampPriv c.stamp ≠ 3) :
    lampCalWrite c addr sigKey m u = u.lampNo c 0x0204 St.NOT_PRIVILEGED := by
  rw [lampCalWrite, lampOp_ok op, set]
  exact if_pos (by simp [vendor, no, cmdPriv])

variable (may : x.origin ≠ 0 ∨ stampPriv c.stamp = 3)
include may

theorem lampCalWrite_may : lampCalWrite c addr sigKey m u =
    if !(calOk (some (x, sigKey)) u.lamp.fuses.root u.lamp.keys) then u.lampNo c 0x0204 St.SIGNATURE_INVALID
    else if u.lamp.calCmd.isSome || u.led.calNext.isSome then u.lampNo c 0x0204 St.BUSY_RETRY
    else
      let y := { x with seq := u.led.cal.seq + 1 }
      (u.upLamp fun l => { l with calCmd := some c, nor := { l.nor with cal := setSlot l.nor.cal (!u.lamp.calSlot) (some (y, sigKey)) } }).upL fun l =>
        { l with calNext := some y } := by
  rw [lampCalWrite, lampOp_ok op, set]
  exact if_neg (by rcases may with h | h <;> simp [cmdPriv, h])

theorem lampCalWrite_unsigned (no : calOk (some (x, sigKey)) u.lamp.fuses.root u.lamp.keys = false) :
    lampCalWrite c addr sigKey m u = u.lampNo c 0x0204 St.SIGNATURE_INVALID := (lampCalWrite_may op set may).trans (if_pos (by simp [no]))

variable (signed : calOk (some (x, sigKey)) u.lamp.fuses.root u.lamp.keys = true)
include signed

theorem lampCalWrite_busy (busy : u.lamp.calCmd ≠ none ∨ u.led.calNext ≠ none) : lampCalWrite c addr sigKey m u = u.lampNo c 0x0204 St.BUSY_RETRY :=
  (lampCalWrite_may op set may).trans ((if_neg (by simp [signed])).trans (if_pos (by simpa [Option.isSome_iff_ne_none] using busy)))

theorem lampCalWrite_stores (noCmd : u.lamp.calCmd = none) (noNext : u.led.calNext = none) : lampCalWrite c addr sigKey m u =
    let y := { x with seq := u.led.cal.seq + 1 }
    (u.upLamp fun l => { l with calCmd := some c, nor := { l.nor with cal := setSlot l.nor.cal (!u.lamp.calSlot) (some (y, sigKey)) } }).upL fun l =>
      { l with calNext := some y } :=
  (lampCalWrite_may op set may).trans ((if_neg (by simp [signed])).trans (if_neg (by simp [noCmd, noNext])))

end

section
variable {count idx : Nat}

theorem lampOwnerSet_badCount (no : ¬(1 ≤ count ∧ count ≤ 4)) : lampOwnerSet c count idx addr sigKey m u = u.lampNo c 0x0205 St.BAD_PARAM := by
  refine (lampOp_ok op _ _).trans (if_pos ?_)
  simp only [Bool.or_eq_true, decide_eq_true_eq]
  omega

variable (fits : 1 ≤ count ∧ count ≤ 4)
include fits

theorem lampOwnerSet_fits : lampOwnerSet c count idx addr sigKey m u =
    if u.lamp.nor.owner.isEmpty && u.mb.mode ≠ 1 && u.mb.mode ≠ 3 then u.lampNo c 0x0205 St.BAD_STATE
    else if !u.lamp.nor.owner.isEmpty && (u.lamp.nor.owner.length ≤ idx || u.lamp.nor.owner.getD idx 0 ≠ sigKey) then
      u.lampNo c 0x0205 St.SIGNATURE_INVALID
    else (u.upLamp fun l => { l with nor := { l.nor with owner := (List.range count).map fun k => leNat (m.bytesAt (addr + 96 * k) 96) } }).done
      c 0x000 0x0205 St.OK := by
  refine (lampOp_ok op _ _).trans (if_neg ?_)
  simp only [Bool.or_eq_true, decide_eq_true_eq]
  omega

theorem lampOwnerSet_closed (empty : u.lamp.nor.owner = []) (closed : ¬(u.mb.mode = 1 ∨ u.mb.mode = 3)) :
    lampOwnerSet c count idx addr sigKey m u = u.lampNo c 0x0205 St.BAD_STATE :=
  (lampOwnerSet_fits op fits).trans (if_pos (by simpa [empty] using closed))

theorem lampOwnerSet_unsigned (owned : u.lamp.nor.owner ≠ []) (no : ¬(idx < u.lamp.nor.owner.length ∧ u.lamp.nor.owner.getD idx 0 = sigKey)) :
    lampOwnerSet c count idx addr sigKey m u = u.lampNo c 0x0205 St.SIGNATURE_INVALID :=
  (lampOwnerSet_fits op fits).trans ((if_neg (by simp [owned])).trans (if_pos (by
    rw [not_and_or, Nat.not_lt] at no
    simpa only [Bool.and_eq_true, Bool.or_eq_true, decide_eq_true_eq, Bool.not_eq_true', List.isEmpty_eq_false_iff] using ⟨owned, no⟩)))

theorem lampOwnerSet_sets (may : u.lamp.nor.owner = [] ∧ (u.mb.mode = 1 ∨ u.mb.mode = 3) ∨
      u.lamp.nor.owner ≠ [] ∧ idx < u.lamp.nor.owner.length ∧ u.lamp.nor.owner.getD idx 0 = sigKey) : lampOwnerSet c count idx addr sigKey m u =
    (u.upLamp fun l => { l with nor := { l.nor with owner := (List.range count).map fun k => leNat (m.bytesAt (addr + 96 * k) 96) } }).done
      c 0x000 0x0205 St.OK := by
  rcases may with ⟨empty, mode⟩ | ⟨owned, known, signed⟩
  · exact (lampOwnerSet_fits op fits).trans ((if_neg (by rcases mode with h | h <;> simp [h])).trans (if_neg (by simp [empty])))
  · refine (lampOwnerSet_fits op fits).trans ((if_neg (by simp [owned])).trans (if_neg ?_))
    simp only [Bool.and_eq_true, Bool.or_eq_true, decide_eq_true_eq, not_and_or, not_or, Nat.not_le, not_not]
    exact .inr ⟨known, signed⟩

end

end

theorem lampOwnerClear_clears {c : Sys2Proof.Cmd} (vendor : stampPriv c.stamp = 3) :
    lampOwnerClear c u = (u.upLamp fun l => { l with nor := { l.nor with owner := [] } }).done c 0x000 0x0206 St.OK := if_pos vendor

/-! OP_TIME_TICK (R519, R538) -/

/-- The slot of the operating-time counter in use. -/
def Nor.ctrSlot (n : Nor) : Bool :=
  let q : Bool → Nat := fun b => match slotOf n.ctr b with | some x => x.seq | none => 0
  decide (q false < q true)

/-- NOR with one more tick counted. -/
def Nor.ticked (n : Nor) (x : CtrSlot) : Nor := { n with ctr := setSlot n.ctr n.ctrSlot (some { x with ticks := min 4096 (x.ticks + 1) }) }

/-- NOR with a full field rolled into the other slot. -/
def Nor.rolled (n : Nor) (x : CtrSlot) : Nor :=
  { n.ticked x with
    ctr := setSlot (n.ticked x).ctr (!n.ctrSlot) (some { seq := x.seq + 1, coarse := x.coarse + 4096, cycles := x.cycles, ticks := 0 }) }

theorem opTimeTick_eq (u : Units) : opTimeTick u =
    match slotOf u.lamp.nor.ctr u.lamp.nor.ctrSlot with
    | none => u
    | some x => u.upLamp fun l =>
        { l with nor := if min 4096 (x.ticks + 1) = 4096 && !u.pwr.fail then u.lamp.nor.rolled x else u.lamp.nor.ticked x } := rfl

theorem opTimeTick_blank (none_ : slotOf u.lamp.nor.ctr u.lamp.nor.ctrSlot = none) : opTimeTick u = u := by rw [opTimeTick_eq, none_]

section
variable {x : CtrSlot} (found : slotOf u.lamp.nor.ctr u.lamp.nor.ctrSlot = some x)
include found

theorem opTimeTick_counts (room : x.ticks < 4095 ∨ u.pwr.fail = true) : opTimeTick u = u.upLamp fun l => { l with nor := u.lamp.nor.ticked x } := by
  have notFull : (decide (min 4096 (x.ticks + 1) = 4096) && !u.pwr.fail) = false := by
    rcases room with few | fail
    · rw [decide_eq_false (by omega), Bool.false_and]
    · rw [fail, Bool.not_true, Bool.and_false]
  rw [opTimeTick_eq, found]
  simp only [notFull, Bool.false_eq_true, if_false]

theorem opTimeTick_rolls (full : 4095 ≤ x.ticks) (good : u.pwr.fail = false) : opTimeTick u = u.upLamp fun l => { l with nor := u.lamp.nor.rolled x } := by
  have rolls : (decide (min 4096 (x.ticks + 1) = 4096) && !u.pwr.fail) = true := by
    rw [decide_eq_true (by omega), good, Bool.not_false, Bool.and_true]
  rw [opTimeTick_eq, found]
  simp only [rolls, if_true]

end

/-! SPDM and PLDM (R504, R506, R509) -/

section
variable {path req slot : Nat}

/-- The units once a request has been answered and counted. -/
def Units.spdmTold (u : Units) (path req slot : Nat) (w : List Nat) : Units := (u.emit (.bus 5 ([1, path, req, slot] ++ w))).count 0x118

theorem spdmRequest_boot (boot : u.lamp.state = 0) (other : req ≠ 0) : spdmRequest path req slot u = u := if_pos (by simp [boot, other])

/-- The status of an answer. -/
def Units.spdmStatus (u : Units) (req slot : Nat) : Nat :=
  if u.lamp.state = 0 then St.BAD_STATE else if 7 ≤ req || ((req = 4 || req = 5) && 2 ≤ slot) then St.UNSUPPORTED
  else if (req = 5 || req = 6) && u.led.noSign then St.BUSY_RETRY else St.OK

theorem spdmRequest_answered (answered : u.lamp.state ≠ 0 ∨ req = 0) : spdmRequest path req slot u =
    let st := u.spdmStatus req slot
    let v := u.spdmTold path req slot (st :: if st = St.OK then u.spdmBody req slot else [])
    if req = 5 || req = 6 then v.draw else v := by
  refine (if_neg (by rcases answered with h | h <;> simp [h])).trans ?_
  simp only [Units.spdmTold]
  rfl

theorem spdmRequest_no {st : Nat} (answered : u.lamp.state ≠ 0 ∨ req = 0) (no : u.spdmStatus req slot = st) (bad : st ≠ St.OK) :
    spdmRequest path req slot u =
      let v := u.spdmTold path req slot [st]
      if req = 5 || req = 6 then v.draw else v := by
  simp only [spdmRequest_answered answered, no, if_neg bad]

theorem spdmRequest_ok (up : u.lamp.state ≠ 0) (ok : u.spdmStatus req slot = St.OK) : spdmRequest path req slot u =
    let v := u.spdmTold path req slot (St.OK :: u.spdmBody req slot)
    if req = 5 || req = 6 then v.draw else v := by
  simp only [spdmRequest_answered (.inl up), ok, if_true]

section
variable (up : u.lamp.state ≠ 0)
include up

theorem Units.spdmStatus_unsupported (no : 7 ≤ req ∨ (req = 4 ∨ req = 5) ∧ 2 ≤ slot) : u.spdmStatus req slot = St.UNSUPPORTED :=
  (if_neg up).trans (if_pos (by simpa using no))

variable (known : ¬(7 ≤ req ∨ (req = 4 ∨ req = 5) ∧ 2 ≤ slot))
include known

theorem Units.spdmStatus_known : u.spdmStatus req slot = if (req = 5 || req = 6) && u.led.noSign then St.BUSY_RETRY else St.OK :=
  (if_neg up).trans (if_neg (by simpa only [Bool.or_eq_true, Bool.and_eq_true, decide_eq_true_eq] using known))

theorem Units.spdmStatus_unsignable (signed : req = 5 ∨ req = 6) (stopped : u.led.noSign = true) : u.spdmStatus req slot = St.BUSY_RETRY :=
  (Units.spdmStatus_known up known).trans (if_pos (by simpa [stopped] using signed))

theorem Units.spdmStatus_ok (may : ¬(req = 5 ∨ req = 6) ∨ u.led.noSign = false) : u.spdmStatus req slot = St.OK := by
  refine (Units.spdmStatus_known up known).trans (if_neg ?_)
  simpa only [Bool.and_eq_true, Bool.or_eq_true, decide_eq_true_eq, not_and_or, Bool.not_eq_true] using may

end

theorem Units.spdmBody_none (few : req < 3) : u.spdmBody req slot = [] := by
  rw [Units.spdmBody, if_neg (by omega), if_neg (by omega), if_neg (by omega), if_neg (by omega)]

theorem Units.aliasSigned_signs {k : Nat} (issued : u.lamp.ident.aliasKey = some k) (w : List Nat) :
    u.aliasSigned w = w ++ [(Config.sign k w u.free).1, (Config.sign k w u.free).2] := by
  rw [Units.aliasSigned, issued]

theorem Units.aliasSigned_unsigned (none_ : u.lamp.ident.aliasKey = none) (w : List Nat) : u.aliasSigned w = w := by
  rw [Units.aliasSigned, none_]

theorem pldmRequest_noSensor {im : Nat} (none_ : (u.flick.comps.find? fun c => c.2.cls = 11 && c.2.idx = im) = none) :
    pldmRequest path (.sensor im) u = u.emit (.bus 5 [2, path, 2, im, St.BAD_PARAM]) := by
  rw [pldmRequest, none_]

theorem pldmRequest_sensor {im : Nat} {x : Nat × Comp} (found : (u.flick.comps.find? fun c => c.2.cls = 11 && c.2.idx = im) = some x) :
    pldmRequest path (.sensor im) u = u.emit (.bus 5 [2, path, 2, im, St.OK, x.2.state, x.2.conf]) := by
  rw [pldmRequest, found]

section
variable {kind : Nat} {im : UpImage} {same : Bool}

theorem pldmRequest_badUpdate (bad : 3 ≤ kind) : pldmRequest path (.update kind im same) u = u.emit (.bus 5 [2, path, 5, kind, St.BAD_PARAM]) := if_pos bad

theorem pldmRequest_recovery (firmware : kind < 2) (recovery : u.lamp.state = 4) :
    pldmRequest path (.update kind im same) u = u.emit (.bus 5 [2, path, 5, kind, St.BAD_STATE]) :=
  (if_neg (by omega)).trans (if_pos (by simp [recovery, Nat.ne_of_lt firmware]))

theorem pldmRequest_update (may : kind = 2 ∨ kind < 2 ∧ u.lamp.state ≠ 4) : pldmRequest path (.update kind im same) u =
    if u.pwr.fail || u.lamp.updState = 3 || u.lamp.updState = 4 then u.emit (.bus 5 [2, path, 5, kind, St.BUSY_RETRY])
    else (u.stage kind im same).1.emit (.bus 5 [2, path, 5, kind, (u.stage kind im same).2]) :=
  (if_neg (by omega)).trans (if_neg (by rcases may with h | h <;> simp [h]))

end

end

end

/-- Settles O60: each clause is one branch of its command, request or timer, by the lemmas above. -/
theorem lamplighterCommandsAndUpdatesAct : Obligations.LamplighterCommandsAndUpdatesAct := by
  intro s c addr len
  refine ⟨fun op => ⟨fun a => ⟨fun no => ?amendNotNext, fun next no => ?amendBad, fun next sound no => ?amendUnsigned, fun next sound signed => ?amends⟩,
      fun kind region off im same => ⟨fun no => ?updateOutside, fun fits recovery firmware => ?updateRecovery,
        fun fits may => ⟨fun busy => ?updateBusy, fun free ok => ?updateOk, fun free no => ?updateNo⟩⟩,
      ⟨fun busy => ?activateBusy, fun free no => ?activateNoTrial, fun free may => ?activates⟩,
      fun sigKey => ⟨fun none_ => ?calBad, fun x set => ⟨fun vendor no => ?calVendor, fun may => ⟨fun no => ?calUnsigned, fun signed busy => ?calBusy,
        fun signed noCmd noNext => ?calStores⟩⟩⟩,
      fun count idx sigKey => ⟨fun no => ?ownerCount, fun fits empty closed => ?ownerClosed, fun fits owned no => ?ownerUnsigned, fun fits may => ?ownerSets⟩⟩,
    fun vendor => ?ownerClears, fun kind f same firmware => ⟨fun bad k => ?stageLoaderBad, fun bad k noTrial => ?stageRuntimeBad,
      fun signed new k good => ?stageLoader⟩,
    fun ready bad => ⟨fun no => ?quiesceWaits, fun goes => ⟨fun no => ?switches, fun up => ⟨fun d act => ?switchDone, fun none_ => ?switchRollout⟩⟩⟩,
    fun other => ?timeoutIdle, fun waits => ⟨fun d act => ?timeoutCommand, fun none_ => ?timeoutRollout⟩, fun runs => ?readyTimeout, fun idle => ?readyIdle,
    ⟨fun no => ?commitKeeps, fun goes => ?commits⟩, ⟨fun late => ?startLate, fun no => ?startNot⟩, fun ev => ⟨fun e => ?lockstep, fun e => ?watchdog⟩,
    ?entropyFail, ?entropyPass, ⟨fun none_ => ?tickBlank, fun x found => ⟨fun room => ?tickCounts, fun full good => ?tickRolls⟩⟩,
    fun path req slot => ⟨fun boot other => ?spdmBoot, fun boot version => ?spdmBootVersion, fun up => ⟨fun few => ?spdmPlain, fun three => ?spdmDigests,
      fun four known => ?spdmChain, fun four no => ?spdmNoChain, fun five no => ?spdmNoChallenge, fun signs stopped => ?spdmStopped,
      fun five known may => ?spdmChallenge, fun six may => ?spdmMeasure, fun many => ?spdmUnknown⟩⟩,
    fun w => ⟨fun k issued => Units.aliasSigned_signs issued w, fun none_ => Units.aliasSigned_unsigned none_ w⟩,
    fun path => ⟨fun code => ?pldmBase, fun im none_ => ?pldmNoSensor, fun im x found => ?pldmSensor, fun t => ?pldmOther,
      fun kind im same => ⟨fun bad => ?pldmBad, fun firmware recovery => ?pldmRecovery, fun may => ⟨fun busy => ?pldmBusy, fun free => ?pldmStages⟩⟩⟩⟩
  case amendNotNext => exact State.runU_of_eq (lampAmend_notNext op no)
  case amendBad => exact State.runU_of_eq (lampAmend_bad op next no)
  case amendUnsigned => exact State.runU_of_eq ((lampAmend_sound op next sound).trans (if_pos (by simp only [no, Bool.not_false])))
  case amends => exact State.runU_of_eq ((lampAmend_sound op next sound).trans (if_neg (by simp only [signed, Bool.not_true, Bool.false_eq_true, not_false_eq_true])))
  case updateOutside => exact State.runU_of_eq (lampUpdate_outside op no)
  case updateRecovery => exact State.runU_of_eq (lampUpdate_recovery op fits recovery firmware)
  case updateBusy => exact State.runU_of_eq (lampUpdate_busy op fits may busy)
  case updateOk => exact State.runU_of_eq ((lampUpdate_stages op fits may free).trans (if_pos ok))
  case updateNo => exact State.runU_of_eq ((lampUpdate_stages op fits may free).trans (if_neg no))
  case activateBusy => exact State.runU_of_eq (lampActivate_busy op busy)
  case activateNoTrial => exact State.runU_of_eq (lampActivate_noTrial op free no)
  case activates => exact State.runU_of_eq (lampActivate_freezes op free may.1 may.2)
  case calBad => exact State.run_keeps (f := lampCalWrite c addr sigKey) (lampCalWrite_badParam op none_)
  case calVendor => exact State.run_keeps (f := lampCalWrite c addr sigKey) (lampCalWrite_vendorOnly op set vendor no)
  case calUnsigned => exact State.run_keeps (f := lampCalWrite c addr sigKey) (lampCalWrite_unsigned op set may no)
  case calBusy => exact State.run_keeps (f := lampCalWrite c addr sigKey) (lampCalWrite_busy op set may signed busy)
  case calStores => exact State.run_keeps (f := lampCalWrite c addr sigKey) (lampCalWrite_stores op set may signed noCmd noNext)
  case ownerCount => exact State.run_keeps (f := lampOwnerSet c count idx addr sigKey) (lampOwnerSet_badCount op no)
  case ownerClosed => exact State.run_keeps (f := lampOwnerSet c count idx addr sigKey) (lampOwnerSet_closed op fits empty closed)
  case ownerUnsigned => exact State.run_keeps (f := lampOwnerSet c count idx addr sigKey) (lampOwnerSet_unsigned op fits owned no)
  case ownerSets => exact State.run_keeps (f := lampOwnerSet c count idx addr sigKey) (lampOwnerSet_sets op fits may)
  case ownerClears => exact State.runU_of_eq (lampOwnerClear_clears vendor)
  case stageLoaderBad => subst k; exact Units.stage_loaderUnsigned bad
  case stageRuntimeBad => subst k; exact Units.stage_runtimeUnsigned bad noTrial
  case stageLoader => subst k good; exact Units.stage_loader signed new
  case quiesceWaits => exact State.runU_of_eq (quiescePointReached_waits no)
  case switches => exact State.runU_of_eq ((quiescePointReached_switches goes).trans (if_pos (by simp [no])))
  case switchDone =>
    refine State.runU_of_eq ((quiescePointReached_switches goes).trans ((if_neg (by simp [up])).trans ?_))
    rw [act, Units.actEnd_ok]
    rfl
  case switchRollout =>
    refine State.runU_of_eq ((quiescePointReached_switches goes).trans ((if_neg (by simp [up])).trans ?_))
    rw [none_, Units.actEnd_rollout]
    rfl
  case timeoutIdle => exact State.runU_of_eq (if_pos other)
  case timeoutCommand =>
    refine State.runU_of_eq ((quiesceTimeout_abandons waits).trans ?_)
    rw [act, Units.actEnd_no (by decide)]
    rfl
  case timeoutRollout =>
    refine State.runU_of_eq ((quiesceTimeout_abandons waits).trans ?_)
    rw [none_, Units.actEnd_rollout]
  case readyTimeout => exact State.runU_of_eq (if_pos runs)
  case readyIdle => exact State.runU_of_eq (if_neg idle)
  case commitKeeps => exact State.runU_of_eq (trialCommitTimer_keeps no)
  case commits => exact State.runU_of_eq (trialCommitTimer_commits goes)
  case startLate => exact State.runU_of_eq (if_pos (s.u.trialLate_iff.2 late))
  case startNot => exact State.runU_of_eq (if_neg (mt s.u.trialLate_iff.1 no))
  case lockstep => subst e; rfl
  case watchdog => subst e; rfl
  case entropyFail => rfl
  case entropyPass => rfl
  case tickBlank => exact State.runU_of_eq (opTimeTick_blank none_)
  case tickCounts => exact State.runU_of_eq (opTimeTick_counts found room)
  case tickRolls => exact State.runU_of_eq (opTimeTick_rolls found full good)
  case spdmBoot => exact State.runU_of_eq (spdmRequest_boot boot other)
  case spdmBootVersion =>
    subst version
    exact State.runU_of_eq (spdmRequest_no (.inr rfl) (if_pos boot) (by decide))
  case spdmPlain =>
    refine State.runU_of_eq ((spdmRequest_ok up (Units.spdmStatus_ok up (by omega) (.inl (by omega)))).trans ((if_neg (by simp; omega)).trans ?_))
    rw [Units.spdmBody_none few]
    rfl
  case spdmDigests => subst three; exact State.runU_of_eq (spdmRequest_ok up (Units.spdmStatus_ok up (by omega) (.inl (by omega))))
  case spdmChain => subst four; exact State.runU_of_eq (spdmRequest_ok up (Units.spdmStatus_ok up (by omega) (.inl (by omega))))
  case spdmNoChain => subst four; exact State.runU_of_eq (spdmRequest_no (.inl up) (Units.spdmStatus_unsupported up (by omega)) (by decide))
  case spdmNoChallenge => subst five; exact State.runU_of_eq (spdmRequest_no (.inl up) (Units.spdmStatus_unsupported up (by omega)) (by decide))
  case spdmStopped =>
    exact State.runU_of_eq ((spdmRequest_no (.inl up) (Units.spdmStatus_unsignable up (by omega) (by omega) stopped) (by decide)).trans
      (if_pos (by simp; omega)))
  case spdmChallenge => subst five; exact State.runU_of_eq (spdmRequest_ok up (Units.spdmStatus_ok up (by omega) (.inr may)))
  case spdmMeasure => subst six; exact State.runU_of_eq (spdmRequest_ok up (Units.spdmStatus_ok up (by omega) (.inr may)))
  case spdmUnknown =>
    exact State.runU_of_eq ((spdmRequest_no (.inl up) (Units.spdmStatus_unsupported up (.inl many)) (by decide)).trans (if_neg (by simp; omega)))
  case pldmBase => rfl
  case pldmNoSensor => exact State.runU_of_eq (pldmRequest_noSensor none_)
  case pldmSensor => exact State.runU_of_eq (pldmRequest_sensor found)
  case pldmOther => rfl
  case pldmBad => exact State.runU_of_eq (pldmRequest_badUpdate bad)
  case pldmRecovery => exact State.runU_of_eq (pldmRequest_recovery firmware recovery)
  case pldmBusy => exact State.runU_of_eq ((pldmRequest_update may).trans (if_pos (s.u.updateBusy_iff.2 busy)))
  case pldmStages => exact State.runU_of_eq ((pldmRequest_update may).trans (if_neg (mt s.u.updateBusy_iff.1 free)))

end Sys2Proof.Machine
end

section
/-!
PROOFS. The shadow programs (11 R268 to R285): their registration, parameters and qualification, the completions of their items, and the instances,
branch by branch, and the statement about them.
-/
namespace Sys2Proof.Machine

section
variable {u : Units}

/-- A region that holds an image: the commands name no other. -/
def Units.imageRegion (u : Units) (region : Nat) : Prop := ∃ r, NMap.find u.mantle.regions region = some r ∧ r.typ = 8

theorem Units.imageRegion_iff (u : Units) (region : Nat) :
    (match NMap.find u.mantle.regions region with | some r => decide (r.typ = 8) | none => false) = true ↔ u.imageRegion region := by
  rw [Units.imageRegion]
  cases NMap.find u.mantle.regions region <;> simp

/-! SHADOW_UNREGISTER (R269) -/

section
variable {c : Sys2Proof.Cmd} {prog : Nat} (op : isOperator (stampPriv c.stamp) = true)
include op

theorem shadowUnregister_unknown (none_ : (u.wick.progs.find? fun e => e.2.id = prog) = none) :
    shadowUnregister c prog u = u.done c 0x060 0x0608 St.BAD_PARAM := by
  rw [shadowUnregister, operator_ok op, none_]

variable {e : Nat × ProgEntry} (found : (u.wick.progs.find? fun e => e.2.id = prog) = some e)
include found

theorem shadowUnregister_held (held : bitAt e.2.flags 0 = true ∨ ∃ j ∈ u.wick.jobs, j.2.mode = 0 ∧ j.2.prog = prog) :
    shadowUnregister c prog u = u.done c 0x060 0x0608 St.BAD_STATE := by
  rw [shadowUnregister, operator_ok op, found]
  exact if_pos (by simpa using held)

theorem shadowUnregister_takesOut (free : ¬(bitAt e.2.flags 0 = true ∨ ∃ j ∈ u.wick.jobs, j.2.mode = 0 ∧ j.2.prog = prog)) :
    shadowUnregister c prog u = (u.upW fun w => { w with progs := NMap.del w.progs e.1 }).done c 0x060 0x0608 St.OK := by
  rw [shadowUnregister, operator_ok op, found]
  exact if_neg (mt (by simp) free)

end

/-! SHADOW_PARAMS (R270) -/

section
variable {c : Sys2Proof.Cmd} {job region addr : Nat} {m : Mem}

/-- The longest parameter vector of a job's shards. -/
def Units.longestParams (u : Units) (job : Nat) : Nat := ((u.shardsOf job).map fun k => (u.shAt k).params).foldl max 0

/-- The tensor table that SHADOW_PARAMS names. -/
def Units.paramTable (u : Units) (m : Mem) (job region : Nat) : List (Nat × Nat × Nat) :=
  if region = 0xFFFF then [] else readTensors m u region (if u.longestParams job = 0 then 2 ^ 48 else u.longestParams job) 65536 0

/-- The job's program is one of the reference programs, whose parameters keep to the tables. -/
def Units.refJob (u : Units) (job : Nat) : Prop :=
  ∃ j, u.jobB job = some j ∧ j.mode = 0 ∧ ((u.progOf j.prog).map fun p => bitAt p.flags 0).getD false = true

theorem Units.refJob_iff (u : Units) (job : Nat) :
    (match u.jobB job with
      | some j => decide (j.mode = 0) && ((u.progOf j.prog).map fun p => bitAt p.flags 0).getD false
      | none => false) = true ↔ u.refJob job := by
  rw [Units.refJob]
  cases u.jobB job <;> simp

/-- The block and the table keep to what the job needs. -/
def Units.paramsFit (u : Units) (m : Mem) (job region addr : Nat) : Prop :=
  (u.refJob job → paramsOk (m.bytesAt addr 256) = true) ∧ tensorsOk 0 (u.paramTable m job region) = true ∧
    (region = 0xFFFF ∨ u.longestParams job ≤ sumL ((u.paramTable m job region).map fun x => x.2.1 * x.2.2))

/-- The model's own test of the block and the table, true of ones that do not fit. -/
def Units.paramsMisfit (u : Units) (m : Mem) (job region addr : Nat) : Bool :=
  ((match u.jobB job with
    | some j => decide (j.mode = 0) && ((u.progOf j.prog).map fun p => bitAt p.flags 0).getD false
    | none => false) && !(paramsOk (m.bytesAt addr 256))) || !(tensorsOk 0 (u.paramTable m job region)) ||
    (region ≠ 0xFFFF && sumL ((u.paramTable m job region).map fun x => x.2.1 * x.2.2) < u.longestParams job)

theorem Units.paramsMisfit_iff (u : Units) (m : Mem) (job region addr : Nat) : u.paramsMisfit m job region addr = true ↔ ¬u.paramsFit m job region addr := by
  rw [Units.paramsMisfit, Units.paramsFit, Bool.or_eq_true, Bool.or_eq_true, Bool.and_eq_true, Units.refJob_iff]
  simp only [not_and_or, Classical.not_imp, not_or, Nat.not_le, Bool.not_eq_true, Bool.not_eq_true', Bool.and_eq_true, decide_eq_true_eq, or_assoc]

variable (op : isOperator (stampPriv c.stamp) = true)
include op

theorem shadowParams_noAccess (no : u.mayAccess Ag.wick addr 256 false = false) :
    shadowParams c job region addr m u = (m, u.done c 0x060 0x060A St.NOT_PRIVILEGED) := (if_neg (by simp [op])).trans (if_pos (by simp [no]))

section
variable (may : u.mayAccess Ag.wick addr 256 false = true)
include may

theorem shadowParams_unnamed (no : ¬(region = 0xFFFF ∨ u.imageRegion region)) :
    shadowParams c job region addr m u = (m, u.done c 0x060 0x060A St.BAD_PARAM) := by
  obtain ⟨some_, noRegion⟩ := not_or.1 no
  refine (if_neg (by simp [op])).trans ((if_neg (by simp [may])).trans (if_pos ?_))
  rw [Bool.and_eq_true, Bool.not_eq_true', decide_eq_true_eq]
  exact ⟨some_, Bool.eq_false_iff.2 (mt (Units.imageRegion_iff u region).1 noRegion)⟩

variable (named : region = 0xFFFF ∨ u.imageRegion region)
include named

/-- Of a named table, SHADOW_PARAMS stores the block unless it does not fit. -/
theorem shadowParams_named : shadowParams c job region addr m u =
    if u.paramsMisfit m job region addr then (m, u.done c 0x060 0x060A St.BAD_PARAM)
    else (m, (u.upW fun w => { w with params := NMap.set w.params job (m.bytesAt addr 256, region) }).done c 0x060 0x060A St.OK) := by
  refine (if_neg (by simp [op])).trans ((if_neg (by simp [may])).trans (if_neg ?_))
  rw [Bool.and_eq_true, Bool.not_eq_true', decide_eq_true_eq, not_and_or, not_not, Bool.not_eq_false]
  exact named.imp_right (Units.imageRegion_iff u region).2

theorem shadowParams_bad (bad : ¬u.paramsFit m job region addr) : shadowParams c job region addr m u = (m, u.done c 0x060 0x060A St.BAD_PARAM) :=
  (shadowParams_named op may named).trans (if_pos ((Units.paramsMisfit_iff ..).2 bad))

theorem shadowParams_stores (fit : u.paramsFit m job region addr) : shadowParams c job region addr m u =
    (m, (u.upW fun w => { w with params := NMap.set w.params job (m.bytesAt addr 256, region) }).done c 0x060 0x060A St.OK) :=
  (shadowParams_named op may named).trans (if_neg (mt (Units.paramsMisfit_iff ..).1 (not_not.2 fit)))

end

end

/-! SHADOW_RESOLVE (R285) -/

section
variable {c : Sys2Proof.Cmd} {job shard step choice : Nat} (op : isOperator (stampPriv c.stamp) = true)
include op

theorem shadowResolve_unbound (no : ∀ k, u.shKey shard = some k → u.jobB (u.shAt k).job = none) :
    shadowResolve c job shard step choice u = u.done c 0x060 0x060B St.BAD_PARAM :=
  (operator_ok op _ _ _).trans (withSh_unbound no _ _)

section
variable {s : State} {k : Nat} {x : Shard} {j : JobBind} (bound : s.holds shard k x j)
include bound

theorem shadowResolve_bound : shadowResolve c job shard step choice s.u =
    if x.job ≠ job || x.count < choice then s.u.done c 0x060 0x060B St.BAD_PARAM
    else match x.step? step with
      | none => s.u.done c 0x060 0x060B St.BAD_STATE
      | some o =>
        if !x.isBuddy || o.verdict ≠ 1 then s.u.done c 0x060 0x060B St.BAD_STATE
        else if choice = 0 then
          (s.u.verified k step (o.recs.filter fun x => x.r.epoch = o.epoch && x.r.fp = o.shadowFp).length).done c 0x060 0x060B St.OK
        else ((s.u.upOpen k step fun o => { o with verdict := 0, kind := 5 }).startSeed k step choice).done c 0x060 0x060B St.OK :=
  (operator_ok op _ _ _).trans (withSh_holds bound _ _)

theorem shadowResolve_badParam (bad : x.job ≠ job ∨ x.count < choice) :
    shadowResolve c job shard step choice s.u = s.u.done c 0x060 0x060B St.BAD_PARAM :=
  (shadowResolve_bound op bound).trans (if_pos (by simpa using bad))

variable (mine : x.job = job) (known : choice ≤ x.count)
include mine known

theorem shadowResolve_noStep (none_ : x.step? step = none) : shadowResolve c job shard step choice s.u = s.u.done c 0x060 0x060B St.BAD_STATE := by
  rw [shadowResolve_bound op bound, if_neg (by simp [mine, known]), none_]

theorem shadowResolve_open {o : OpenStep} (open_ : x.step? step = some o) : shadowResolve c job shard step choice s.u =
    if !x.isBuddy || o.verdict ≠ 1 then s.u.done c 0x060 0x060B St.BAD_STATE
    else if choice = 0 then
      (s.u.verified k step (o.recs.filter fun x => x.r.epoch = o.epoch && x.r.fp = o.shadowFp).length).done c 0x060 0x060B St.OK
    else ((s.u.upOpen k step fun o => { o with verdict := 0, kind := 5 }).startSeed k step choice).done c 0x060 0x060B St.OK := by
  rw [shadowResolve_bound op bound, if_neg (by simp [mine, known]), open_]

end

end

/-! SHADOW_REGISTER (R268, R271) -/

/-- The header and the layout of an image are those of a new customer program. -/
def Units.registerSound (u : Units) (h d : List Nat) : Prop :=
  h.getD 6 0 = 8 ∧ 0x100 ≤ fieldAt h 16 2 ∧ fieldAt h 16 2 ≠ 0xFFFF ∧ u.progOf (fieldAt h 16 2) = none ∧ layoutOk d = true

/-- The entry of a customer program registered from an image. -/
def Units.newProgram (u : Units) (m : Mem) (region off : Nat) (d : List Nat) : ProgEntry :=
  let h := memGetAt m u region off 256
  { id := fieldAt h 16 2, version := fieldAt h 18 2, flags := 24 + 32 * d.getD 17 0, comps := d.getD 0 0, region := region, offset := off,
    tapers := variantBits (variantsAt m u region 8 (fieldAt h 16 2) 8 off), fmts := (d.drop 1).take (d.getD 0 0) }

/-- The model's own test of the header and the layout, true of bad ones. -/
def Units.registerBad (u : Units) (h d : List Nat) : Bool :=
  h.getD 6 0 ≠ 8 || fieldAt h 16 2 < 0x100 || fieldAt h 16 2 = 0xFFFF || (u.progOf (fieldAt h 16 2)).isSome || !(layoutOk d)

theorem Units.registerBad_iff (u : Units) (h d : List Nat) : u.registerBad h d = false ↔ u.registerSound h d := by
  simp [Units.registerBad, Units.registerSound, and_assoc]

section
variable {c : Sys2Proof.Cmd} {region off : Nat} {signed : Bool} {m : Mem} (op : isOperator (stampPriv c.stamp) = true)
include op

theorem shadowRegister_unnamed (no : ¬u.imageRegion region) : shadowRegister c region off signed m u = (m, u.done c 0x060 0x0607 St.BAD_PARAM) := by
  refine (if_neg (by simp [op])).trans (if_pos ?_)
  rw [Bool.not_eq_true']
  exact Bool.eq_false_iff.2 (mt (Units.imageRegion_iff u region).1 no)

section
variable (named : u.imageRegion region)
include named

theorem shadowRegister_named : shadowRegister c region off signed m u =
    if imageCheck m u region off ≠ St.OK then (m, u.done c 0x060 0x0607 (imageCheck m u region off))
    else match imageBytes m u region off 1 0x5EF00 32 with
      | none => (m, u.done c 0x060 0x0607 St.BAD_PARAM)
      | some d =>
        if u.registerBad (memGetAt m u region off 256) d then (m, u.done c 0x060 0x0607 St.BAD_PARAM)
        else if !signed then (m, u.done c 0x060 0x0607 St.SIGNATURE_INVALID)
        else match NMap.firstFree u.wick.progs 16 with
          | none => (m, u.done c 0x060 0x0607 St.BAD_STATE)
          | some k => (m, (u.upW fun w => { w with progs := NMap.set w.progs k (u.newProgram m region off d) }).done c 0x060 0x0607 St.OK 0 k) := by
  refine (if_neg (by simp [op])).trans (if_neg ?_)
  rw [Bool.not_eq_true', Bool.not_eq_false]
  exact (Units.imageRegion_iff u region).2 named

theorem shadowRegister_badImage (bad : imageCheck m u region off ≠ St.OK) :
    shadowRegister c region off signed m u = (m, u.done c 0x060 0x0607 (imageCheck m u region off)) :=
  (shadowRegister_named op named).trans (if_pos bad)

variable (good : imageCheck m u region off = St.OK)
include good

theorem shadowRegister_noLayout (none_ : imageBytes m u region off 1 0x5EF00 32 = none) :
    shadowRegister c region off signed m u = (m, u.done c 0x060 0x0607 St.BAD_PARAM) := by
  rw [shadowRegister_named op named, if_neg (not_not.2 good), none_]

variable {d : List Nat} (layout : imageBytes m u region off 1 0x5EF00 32 = some d)
include layout

theorem shadowRegister_badLayout (bad : ¬u.registerSound (memGetAt m u region off 256) d) :
    shadowRegister c region off signed m u = (m, u.done c 0x060 0x0607 St.BAD_PARAM) := by
  rw [shadowRegister_named op named, if_neg (not_not.2 good), layout]
  exact if_pos (Bool.eq_true_of_not_eq_false (mt (Units.registerBad_iff ..).1 bad))

variable (sound : u.registerSound (memGetAt m u region off 256) d)
include sound

/-- A sound image is entered when its signature verifies and a place is left. -/
theorem shadowRegister_sound : shadowRegister c region off signed m u =
    if !signed then (m, u.done c 0x060 0x0607 St.SIGNATURE_INVALID)
    else match NMap.firstFree u.wick.progs 16 with
      | none => (m, u.done c 0x060 0x0607 St.BAD_STATE)
      | some k => (m, (u.upW fun w => { w with progs := NMap.set w.progs k (u.newProgram m region off d) }).done c 0x060 0x0607 St.OK 0 k) := by
  rw [shadowRegister_named op named, if_neg (not_not.2 good), layout]
  exact if_neg (Bool.eq_false_iff.1 ((Units.registerBad_iff ..).2 sound))

variable (verified : signed = true)
include verified

theorem shadowRegister_full (full : NMap.firstFree u.wick.progs 16 = none) :
    shadowRegister c region off signed m u = (m, u.done c 0x060 0x0607 St.BAD_STATE) := by
  rw [shadowRegister_sound op named good layout sound, if_neg (by simp [verified]), full]

theorem shadowRegister_enters {k : Nat} (free : NMap.firstFree u.wick.progs 16 = some k) : shadowRegister c region off signed m u =
    (m, (u.upW fun w => { w with progs := NMap.set w.progs k (u.newProgram m region off d) }).done c 0x060 0x0607 St.OK 0 k) := by
  rw [shadowRegister_sound op named good layout sound, if_neg (by simp [verified]), free]

end

end

/-! SHADOW_QUALIFY (R272) -/

section
variable {c : Sys2Proof.Cmd} {prog set : Nat} {m : Mem}

/-- The lengths of a qualification set's vectors. -/
def Units.setLengths (u : Units) (m : Mem) (set : Nat) : List Nat := (List.range (setHeader m u set).1).map fun k => (setVector m u set k).getD 0 0

/-- A qualification set keeps to the tables. -/
def Units.setSound (u : Units) (m : Mem) (set : Nat) : Prop :=
  u.imageRegion set ∧ 1 ≤ (setHeader m u set).1 ∧ (setHeader m u set).1 ≤ 4096 ∧ ∀ n ∈ u.setLengths m set, n ≠ 0 ∧ n % 4096 = 0 ∧ n ≤ 2 ^ 24

/-- The model's own test of a qualification set, true of bad ones. -/
def Units.setBad (u : Units) (m : Mem) (set : Nat) : Bool :=
  !(match NMap.find u.mantle.regions set with | some r => decide (r.typ = 8) | none => false) ||
    ((setHeader m u set).1 = 0 || 4096 < (setHeader m u set).1 || (u.setLengths m set).any fun n => n = 0 || n % 4096 ≠ 0 || 2 ^ 24 < n)

theorem Units.setBad_iff (u : Units) (m : Mem) (set : Nat) : u.setBad m set = false ↔ u.setSound m set := by
  rw [Units.setBad, Units.setSound, Bool.or_eq_false_iff, Bool.not_eq_false', Units.imageRegion_iff]
  simp [Nat.one_le_iff_ne_zero, and_assoc]

/-- The smallest variant of a program. -/
def Units.leastVariant (u : Units) (m : Mem) (p : ProgEntry) : Option (Nat × Nat) :=
  (variantsAt m u p.region 8 p.id 8 p.offset).foldl
    (fun (o : Option (Nat × Nat)) v => match o with | some b => if v.1 < b.1 then some v else some b | none => some v) none

/-- The units and the region once the qualification's buddy region is allocated. -/
def Units.qualBuddy (u : Units) (m : Mem) (set : Nat) (p : ProgEntry) : Units × Option Nat :=
  u.allocRegion (wickRegion 2 0) (4096 * layoutBlocks ((u.setLengths m set).foldl max 0) p.fmts)

/-- The units and the region once its staging region is allocated too. -/
def Units.qualStaging (u : Units) (m : Mem) (set : Nat) (p : ProgEntry) : Units × Option Nat :=
  (u.qualBuddy m set p).1.allocRegion (wickRegion 3 0) (4 * (u.setLengths m set).foldl max 0)

/-- The load of the variant that qualifies a program. -/
def Units.qualLoad (u : Units) (m : Mem) (set : Nat) (p : ProgEntry) (v : Nat × Nat) : Units × Nat :=
  (u.qualStaging m set p).1.loadInto m p.region v.2 0 none 0xFFFFFFFF 0xFFFFFFFF
    (List.replicate (max 4 ((memGetAt m u p.region v.2 256).getD 14 0)) 0xFFFF) .qualify { code := 0x0501, cmd := none }

variable (op : isOperator (stampPriv c.stamp) = true)
include op

theorem shadowQualify_unknown (none_ : u.progOf prog = none) : shadowQualify c prog set m u = (m, u.done c 0x060 0x0609 St.BAD_PARAM) := by
  rw [shadowQualify, none_]
  exact if_neg (by simp [op])

variable {p : ProgEntry} (found : u.progOf prog = some p)
include found

/-- SHADOW_QUALIFY of a program goes by its set and by what it can allocate and load. -/
theorem shadowQualify_found : shadowQualify c prog set m u =
    if u.setBad m set then (m, u.done c 0x060 0x0609 St.BAD_PARAM)
    else if u.wick.qualify.isSome then (m, u.done c 0x060 0x0609 St.BUSY_RETRY)
    else match u.leastVariant m p, (u.qualBuddy m set p).2 with
      | some v, some b => match (u.qualStaging m set p).2 with
        | none => (m, u.done c 0x060 0x0609 St.MANTLE_FULL)
        | some s =>
          if (u.qualLoad m set p v).2 = St.OK then
            (m, (u.qualLoad m set p v).1.upW fun w =>
              { w with qualify := some { cmd := c, prog := prog, set := set, slot := 64, buddy := b, staging := s, vec := 0 } })
          else (m, u.done c 0x060 0x0609 (u.qualLoad m set p v).2)
      | none, _ => (m, u.done c 0x060 0x0609 St.BAD_PARAM)
      | _, none => (m, u.done c 0x060 0x0609 St.MANTLE_FULL) := by
  rw [shadowQualify, found, op]
  rfl

theorem shadowQualify_badSet (bad : ¬u.setSound m set) : shadowQualify c prog set m u = (m, u.done c 0x060 0x0609 St.BAD_PARAM) :=
  (shadowQualify_found op found).trans (if_pos (Bool.eq_true_of_not_eq_false (mt (Units.setBad_iff ..).1 bad)))

variable (sound : u.setSound m set)
include sound

theorem shadowQualify_busy (busy : u.wick.qualify ≠ none) : shadowQualify c prog set m u = (m, u.done c 0x060 0x0609 St.BUSY_RETRY) :=
  (shadowQualify_found op found).trans ((if_neg (Bool.eq_false_iff.1 ((Units.setBad_iff ..).2 sound))).trans (if_pos (Option.isSome_iff_ne_none.2 busy)))

variable (idle : u.wick.qualify = none)
include idle

theorem shadowQualify_noVariant (none_ : u.leastVariant m p = none) : shadowQualify c prog set m u = (m, u.done c 0x060 0x0609 St.BAD_PARAM) := by
  rw [shadowQualify_found op found, if_neg (Bool.eq_false_iff.1 ((Units.setBad_iff ..).2 sound)), if_neg (by simp [idle]), none_]

variable {v : Nat × Nat} (least : u.leastVariant m p = some v)
include least

theorem shadowQualify_noRoom (full : (u.qualBuddy m set p).2 = none ∨ (u.qualStaging m set p).2 = none) :
    shadowQualify c prog set m u = (m, u.done c 0x060 0x0609 St.MANTLE_FULL) := by
  rw [shadowQualify_found op found, if_neg (Bool.eq_false_iff.1 ((Units.setBad_iff ..).2 sound)), if_neg (by simp [idle]), least]
  cases buddy : (u.qualBuddy m set p).2 with
  | none => rfl
  | some b =>
    dsimp only
    rw [full.resolve_left (by simp [buddy])]

theorem shadowQualify_loads {b i : Nat} (buddy : (u.qualBuddy m set p).2 = some b) (staging : (u.qualStaging m set p).2 = some i) :
    shadowQualify c prog set m u =
      if (u.qualLoad m set p v).2 = St.OK then
        (m, (u.qualLoad m set p v).1.upW fun w =>
          { w with qualify := some { cmd := c, prog := prog, set := set, slot := 64, buddy := b, staging := i, vec := 0 } })
      else (m, u.done c 0x060 0x0609 (u.qualLoad m set p v).2) := by
  rw [shadowQualify_found op found, if_neg (Bool.eq_false_iff.1 ((Units.setBad_iff ..).2 sound)), if_neg (by simp [idle]), least, buddy]
  dsimp only
  rw [staging]

end

/-! SHADOW_COMPLETION of an item (R275, R277, R281) -/

section
variable {s : State} {shard step item kind reason taper fp beats k : Nat} {x : Shard} {j : JobBind}

/-- The units with the completion taken off its slot. -/
def Units.slotTaken (u : Units) (slot : Nat) : Units := if slot < 64 then u.upSlot slot fun s => { s with done := s.done.drop 1 } else u

/-- The units with an item taken off the queues it waits in. -/
def Units.itemTaken (u : Units) (job shard step item : Nat) : Units :=
  u.upInst job fun y =>
    { y with queue := y.queue.filter (fun q => q ≠ (shard, step, item)), running := y.running.filter fun q => q ≠ (shard, step, item) }

theorem Units.slotTaken_wick (u : Units) (slot : Nat) : (u.slotTaken slot).wick = u.wick := by
  unfold Units.slotTaken
  split <;> rfl

/-- The slot that a completion comes from. -/
def Units.completionSlot (u : Units) (shard : Nat) : Option Nat :=
  match u.shKey shard with
  | some k => some (u.inst (u.shAt k).job).slot
  | none => u.wick.qualify.map (·.slot)

/-- The units with a completion taken off its slot, where it has one. -/
def Units.completed (u : Units) (shard : Nat) : Units := match u.completionSlot shard with | some n => u.slotTaken n | none => u

theorem Units.completed_wick (u : Units) (shard : Nat) : (u.completed shard).wick = u.wick := by
  unfold Units.completed
  split
  · exact Units.slotTaken_wick ..
  · rfl

theorem shadowCompletion_eq (m : Mem) (u : Units) : shadowCompletion shard step item kind reason taper fp beats m u =
    if ((u.completed shard).shKey shard).isSome then shadowItem shard step item kind taper fp m (u.completed shard)
    else match (u.completed shard).wick.qualify with
      | some q => if q.slot < 64 then qualItem kind fp m (u.completed shard) else (m, u.completed shard)
      | none => (m, u.completed shard) := rfl

theorem Units.shKey_completed (u : Units) (shard : Nat) : (u.completed shard).shKey shard = u.shKey shard := by
  rw [Units.shKey, Units.completed_wick, Units.shKey]

theorem Units.completed_ofItem (bound : s.holds shard k x j) : s.u.completed shard = s.u.slotTaken (s.u.inst x.job).slot := by
  obtain ⟨key, at_, -⟩ := bound
  rw [Units.completed, Units.completionSlot, key]
  dsimp only
  rw [at_]

theorem State.holds_slotTaken (bound : s.holds shard k x j) (slot : Nat) : ({ s with u := s.u.slotTaken slot } : State).holds shard k x j := by
  obtain ⟨key, at_, job⟩ := bound
  refine ⟨?_, ?_, ?_⟩
  · rw [Units.shKey, Units.slotTaken_wick]; exact key
  · rw [Units.shAt, Units.slotTaken_wick]; exact at_
  · rw [Units.jobB, Units.slotTaken_wick]; exact job

theorem shadowCompletion_ofItem (bound : s.holds shard k x j) : shadowCompletion shard step item kind reason taper fp beats s.mem s.u =
    shadowItem shard step item kind taper fp s.mem (s.u.slotTaken (s.u.inst x.job).slot) := by
  rw [shadowCompletion_eq, Units.shKey_completed, bound.1, Units.completed_ofItem bound]
  rfl

theorem Units.inst_slotTaken (u : Units) (slot job : Nat) : (u.slotTaken slot).inst job = u.inst job := by
  rw [Units.inst, Units.slotTaken_wick, Units.inst]

section
variable {m : Mem} (bound : s.holds shard k x j)
include bound

theorem shadowItem_noStep (none_ : x.step? step = none) : shadowItem shard step item kind taper fp m s.u = (m, s.u) := by
  rw [shadowItem, withSh_holds bound]
  dsimp only
  rw [none_]

variable {o : OpenStep} (open_ : x.step? step = some o)
include open_

theorem shadowItem_noItem (none_ : (o.items.find? fun i => i.index = item) = none) :
    shadowItem shard step item kind taper fp m s.u = (m, s.u) := by
  rw [shadowItem, withSh_holds bound]
  dsimp only
  rw [open_]
  dsimp only
  rw [none_]

variable {it : ShItem} (mine : (o.items.find? fun i => i.index = item) = some it)
include mine

/-- The item runs in the shadow's own computation of the step. -/
def OpenStep.itemRuns (o : OpenStep) (it : ShItem) : Prop := o.state = 3 ∧ o.seeding = false ∧ it.state < 2

/-- The Mantle and the units once an item's result stands in the buddy region and its blocks are tapped. -/
def Units.itemStood (u : Units) (m : Mem) (k : Nat) (x : Shard) (j : JobBind) (o : OpenStep) (it : ShItem) : Mem × Units :=
  let p := putItem m u x it
  (p.1, tap p.1 p.2 k j (itemBlocks x j o it))

/-- The fingerprint that the item's result must have. -/
def Units.itemWant (u : Units) (k : Nat) (x : Shard) (j : JobBind) (o : OpenStep) (it : ShItem) : Nat :=
  let bs := itemBlocks x j o it
  let was := sumL (bs.map fun b => (NMap.getD x.table b (0, 0)).2)
  let now := sumL (bs.map fun b => (NMap.getD (u.shAt k).table b (0, 0)).2)
  if it.sparse then (now + bs.length * fpP - was) % fpP else now % fpP

theorem shadowItem_found : shadowItem shard step item kind taper fp m s.u =
    if o.state ≠ 3 || o.seeding || 2 ≤ it.state then (m, s.u)
    else
      let u1 := s.u.itemTaken x.job shard step item
      if kind ≠ 0 then (m, (u1.seedItem k step item).itemsDone k step)
      else
        let r := u1.itemStood m k x j o it
        let u3 := r.2.upOpen k step fun o => { o with items := o.items.map fun x => if x.index = item then { x with taper := taper } else x }
        if fp = r.2.itemWant k x j o it then
          (r.1, ((u3.upOpen k step fun o =>
            { o with items := o.items.map fun x => if x.index = item then { x with state := 2, fp := fp } else x }).count 0x600480).itemsDone k step)
        else (r.1, ((u3.raise Ev.SHADOW_ITEM_MISMATCH 2 0x060 0).later
          (.suspectTaper (s.u.inst x.job).slot taper shard step false)).seedItem k step item) := by
  rw [shadowItem, withSh_holds bound]
  dsimp only
  rw [open_]
  dsimp only
  rw [mine]
  rfl

theorem shadowItem_idle (no : ¬o.itemRuns it) : shadowItem shard step item kind taper fp m s.u = (m, s.u) := by
  refine (shadowItem_found bound open_ mine).trans (if_pos ?_)
  simp only [OpenStep.itemRuns, not_and_or, Nat.not_lt, Bool.not_eq_false] at no
  simpa [or_assoc] using no

variable (runs : o.itemRuns it)
include runs

theorem shadowItem_runs : shadowItem shard step item kind taper fp m s.u =
    let u1 := s.u.itemTaken x.job shard step item
    if kind ≠ 0 then (m, (u1.seedItem k step item).itemsDone k step)
    else
      let r := u1.itemStood m k x j o it
      let u3 := r.2.upOpen k step fun o => { o with items := o.items.map fun x => if x.index = item then { x with taper := taper } else x }
      if fp = r.2.itemWant k x j o it then
        (r.1, ((u3.upOpen k step fun o =>
          { o with items := o.items.map fun x => if x.index = item then { x with state := 2, fp := fp } else x }).count 0x600480).itemsDone k step)
      else (r.1, ((u3.raise Ev.SHADOW_ITEM_MISMATCH 2 0x060 0).later
        (.suspectTaper (s.u.inst x.job).slot taper shard step false)).seedItem k step item) := by
  obtain ⟨state, own, fresh⟩ := runs
  exact (shadowItem_found bound open_ mine).trans (if_neg (by simp [state, own, fresh]))

end

end

/-! SHADOW_COMPLETION of a qualification's vector (R272) -/

section
variable {m : Mem} {shard step item kind reason taper fp beats : Nat} (unbound : u.shKey shard = none)
include unbound

theorem shadowCompletion_noQualification (none_ : u.wick.qualify = none) :
    shadowCompletion shard step item kind reason taper fp beats m u = (m, u) := by
  rw [shadowCompletion_eq, Units.shKey_completed, Units.completed_wick, unbound, none_, Units.completed, Units.completionSlot, unbound, none_]
  rfl

variable {q : Qualify} (runs : u.wick.qualify = some q)
include runs

theorem Units.completed_ofQualification : u.completed shard = u.slotTaken q.slot := by
  rw [Units.completed, Units.completionSlot, unbound, runs]
  rfl

theorem shadowCompletion_ofQualification : shadowCompletion shard step item kind reason taper fp beats m u =
    if q.slot < 64 then qualItem kind fp m (u.slotTaken q.slot) else (m, u.slotTaken q.slot) := by
  rw [shadowCompletion_eq, Units.shKey_completed, Units.completed_wick, unbound, runs, Units.completed_ofQualification unbound runs]
  rfl

theorem shadowCompletion_unloaded (away : 64 ≤ q.slot) : shadowCompletion shard step item kind reason taper fp beats m u = (m, u) := by
  rw [shadowCompletion_ofQualification unbound runs, if_neg (Nat.not_lt.2 away), Units.slotTaken, if_neg (Nat.not_lt.2 away)]

variable (loaded : q.slot < 64)
include loaded

theorem shadowCompletion_vector : shadowCompletion shard step item kind reason taper fp beats m u =
    qualItem kind fp m (u.upSlot q.slot fun s => { s with done := s.done.drop 1 }) := by
  rw [shadowCompletion_ofQualification unbound runs, if_pos loaded, Units.slotTaken, if_pos loaded]

end

section
variable {m : Mem} {kind fp : Nat} {q : Qualify} (runs : u.wick.qualify = some q)
include runs

theorem qualItem_noProgram (none_ : u.progOf q.prog = none) : qualItem kind fp m u = (m, u.qualEnd q St.BAD_PARAM 0) := by
  rw [qualItem, runs]
  dsimp only
  rw [none_]

variable {p : ProgEntry} (found : u.progOf q.prog = some p)
include found

/-- The vector's result is the one the set gives. -/
def Units.vectorGood (u : Units) (m : Mem) (q : Qualify) (p : ProgEntry) (kind fp : Nat) : Prop :=
  kind = 0 ∧ fp = (setVector m u q.set q.vec).getD 5 0 ∧ qualFp m u q p = (setVector m u q.set q.vec).getD 5 0

theorem qualItem_found : qualItem kind fp m u =
    if kind = 0 && fp = (setVector m u q.set q.vec).getD 5 0 && qualFp m u q p = (setVector m u q.set q.vec).getD 5 0 then
      qualNext m u { q with vec := q.vec + 1 }
    else (m, u.qualEnd q St.INTEGRITY_FINGERPRINT q.vec) := by
  rw [qualItem, runs]
  dsimp only
  rw [found]

theorem qualItem_good (good : u.vectorGood m q p kind fp) : qualItem kind fp m u = qualNext m u { q with vec := q.vec + 1 } := by
  obtain ⟨ended, same, stands⟩ := good
  exact (qualItem_found runs found).trans (if_pos (by simp only [ended, ← same, stands, decide_true, Bool.and_self]))

theorem qualItem_bad (bad : ¬u.vectorGood m q p kind fp) : qualItem kind fp m u = (m, u.qualEnd q St.INTEGRITY_FINGERPRINT q.vec) :=
  (qualItem_found runs found).trans (if_neg (by simpa [Units.vectorGood, and_assoc] using bad))

end

/-! SHADOW_INSTANCE_RELOAD (R284) -/

section
variable {job : Nat}

/-- The grid program of a job has suspect tapers and is empty. -/
def Units.instReloads (u : Units) (job : Nat) : Prop :=
  (u.inst job).state = 2 ∧ (u.inst job).reload = true ∧ (u.inst job).queue = [] ∧ (u.inst job).running = []

theorem Units.instReloads_iff (u : Units) (job : Nat) :
    (decide ((u.inst job).state = 2) && (u.inst job).reload && (u.inst job).queue.isEmpty && (u.inst job).running.isEmpty) = true ↔ u.instReloads job := by
  simp [Units.instReloads, and_assoc]

theorem shadowInstanceReload_loads (goes : u.instReloads job) : shadowInstanceReload job u =
    ((u.upInst job fun i => { i with state := 1, reload := false }).later (.gridUnload (u.inst job).slot)).later (.shadowLoad job) :=
  if_pos ((u.instReloads_iff job).2 goes)

theorem shadowInstanceReload_keeps (no : ¬u.instReloads job) : shadowInstanceReload job u = u := if_neg (mt (u.instReloads_iff job).1 no)

end

end

/-- Settles O56: each clause is one branch of its command or completion, by the lemmas above. -/
theorem shadowProgramsAct : Obligations.ShadowProgramsAct := by
  intro s c job shard step
  refine ⟨fun op => ⟨fun prog => ⟨fun none_ => ?unregUnknown, fun e found => ⟨fun held => ?unregHeld, fun free => ?unregs⟩⟩,
      fun region addr => ⟨fun no => ?paramsNoAccess, fun may bad => ?paramsBad, fun may named fit => ?params⟩,
      fun choice => ⟨fun no => ?resolveUnbound, fun k x j bound => ⟨fun bad => ?resolveBad, fun mine known => ⟨fun none_ => ?resolveNoStep,
        fun o open_ => ⟨fun no => ?resolveNo, fun buddy differs keep => ?resolveKeeps, fun buddy differs seed => ?resolveSeeds⟩⟩⟩⟩,
      fun region off signed => ⟨fun no => ?regUnnamed, fun named bad => ?regBadImage, fun named good none_ => ?regNoLayout,
        fun d named good layout => ⟨fun bad => ?regBadLayout, fun sound no => ?regUnsigned, fun sound verified full => ?regFull,
          fun k sound verified free => ?regs⟩⟩,
      fun prog set => ⟨fun none_ => ?qualUnknown, fun p found => ⟨fun bad => ?qualBadSet, fun sound busy => ?qualBusy,
        fun sound idle none_ => ?qualNoVariant, fun v sound idle least => ⟨fun full => ?qualNoRoom,
          fun b i buddy staging => ⟨fun no => ?qualLoadFails, fun loads => ?quals⟩⟩⟩⟩⟩,
    fun k x j item kind reason taper fp beats bound => ⟨fun none_ => ?itemNoStep, fun o open_ => ⟨fun none_ => ?itemUnknown,
      fun it mine => ⟨fun no => ?itemIdle, fun runs failed => ?itemFails, fun runs ended same => ?itemEnds, fun runs ended differs => ?itemDiffers⟩⟩⟩,
    fun item kind reason taper fp beats unbound => ⟨fun none_ => ?noQual, fun q runs => ⟨fun away => ?qualAway, fun loaded none_ => ?qualNoProgram,
      fun p loaded found => ⟨fun good => ?vectorGood, fun bad => ?vectorBad⟩⟩⟩,
    ?gridRetry, ⟨fun goes => ?reloads, fun no => ?reloadNot⟩⟩
  case unregUnknown => exact State.runUWick_of_eq (shadowUnregister_unknown op none_)
  case unregHeld => exact State.runUWick_of_eq (shadowUnregister_held op found held)
  case unregs => exact State.runUWick_of_eq (shadowUnregister_takesOut op found free)
  case paramsNoAccess => exact State.runWick_of_units (shadowParams_noAccess op no)
  case paramsBad =>
    by_cases named : region = 0xFFFF ∨ s.u.imageRegion region
    · exact State.runWick_of_units (shadowParams_bad op may named fun fit => bad ⟨named, fit⟩)
    · exact State.runWick_of_units (shadowParams_unnamed op may named)
  case params => exact State.runWick_of_units (shadowParams_stores op may named fit)
  case resolveUnbound => exact State.runUWick_of_eq (shadowResolve_unbound op no)
  case resolveBad => exact State.runUWick_of_eq (shadowResolve_badParam op bound bad)
  case resolveNoStep => exact State.runUWick_of_eq (shadowResolve_noStep op bound mine known none_)
  case resolveNo => exact State.runUWick_of_eq ((shadowResolve_open op bound mine known open_).trans (if_pos (by simpa using no)))
  case resolveKeeps =>
    exact State.runUWick_of_eq ((shadowResolve_open op bound mine known open_).trans ((if_neg (by simp [buddy, differs])).trans (if_pos keep)))
  case resolveSeeds =>
    exact State.runUWick_of_eq ((shadowResolve_open op bound mine known open_).trans ((if_neg (by simp [buddy, differs])).trans (if_neg seed)))
  case regUnnamed => exact State.runWick_of_units (shadowRegister_unnamed op no)
  case regBadImage => exact State.runWick_of_units (shadowRegister_badImage op named bad)
  case regNoLayout => exact State.runWick_of_units (shadowRegister_noLayout op named good none_)
  case regBadLayout => exact State.runWick_of_units (shadowRegister_badLayout op named good layout bad)
  case regUnsigned => exact State.runWick_of_units ((shadowRegister_sound op named good layout sound).trans (if_pos (by simp [no])))
  case regFull => exact State.runWick_of_units (shadowRegister_full op named good layout sound verified full)
  case regs => exact State.runWick_of_units (shadowRegister_enters op named good layout sound verified free)
  case qualUnknown => exact State.runWick_of_units (shadowQualify_unknown op none_)
  case qualBadSet => exact State.runWick_of_units (shadowQualify_badSet op found bad)
  case qualBusy => exact State.runWick_of_units (shadowQualify_busy op found sound busy)
  case qualNoVariant => exact State.runWick_of_units (shadowQualify_noVariant op found sound idle none_)
  case qualNoRoom => exact State.runWick_of_units (shadowQualify_noRoom op found sound idle least full)
  case qualLoadFails => exact State.runWick_of_units ((shadowQualify_loads op found sound idle least buddy staging).trans (if_neg no))
  case quals => exact State.runWick_of_units ((shadowQualify_loads op found sound idle least buddy staging).trans (if_pos loads))
  case itemNoStep =>
    exact State.runWick_of_units ((shadowCompletion_ofItem bound).trans (shadowItem_noStep (State.holds_slotTaken bound _) none_))
  case itemUnknown =>
    exact State.runWick_of_units ((shadowCompletion_ofItem bound).trans (shadowItem_noItem (State.holds_slotTaken bound _) open_ none_))
  case itemIdle =>
    exact State.runWick_of_units ((shadowCompletion_ofItem bound).trans (shadowItem_idle (State.holds_slotTaken bound _) open_ mine no))
  case itemFails =>
    exact State.runWick_of_units ((shadowCompletion_ofItem bound).trans
      ((shadowItem_runs (State.holds_slotTaken bound _) open_ mine runs).trans (if_pos failed)))
  case itemEnds =>
    exact State.runWick_of_eq ((shadowCompletion_ofItem bound).trans
      ((shadowItem_runs (State.holds_slotTaken bound _) open_ mine runs).trans ((if_neg (not_not.2 ended)).trans (if_pos same))))
  case itemDiffers =>
    refine State.runWick_of_eq ((shadowCompletion_ofItem bound).trans
      ((shadowItem_runs (State.holds_slotTaken bound _) open_ mine runs).trans ((if_neg (not_not.2 ended)).trans ((if_neg differs).trans ?_))))
    rw [Units.inst_slotTaken]
    rfl
  case noQual => exact State.runWick_of_units (shadowCompletion_noQualification unbound none_)
  case qualAway => exact State.runWick_of_units (shadowCompletion_unloaded unbound runs away)
  case qualNoProgram => exact State.runWick_of_units ((shadowCompletion_vector unbound runs loaded).trans (qualItem_noProgram runs none_))
  case vectorGood => exact State.runWick_of_eq ((shadowCompletion_vector unbound runs loaded).trans (qualItem_good runs found good))
  case vectorBad => exact State.runWick_of_units ((shadowCompletion_vector unbound runs loaded).trans (qualItem_bad runs found bad))
  case gridRetry => rfl
  case reloads => exact State.runUWick_of_eq (shadowInstanceReload_loads goes)
  case reloadNot => exact State.runUWick_of_eq (shadowInstanceReload_keeps no)

end Sys2Proof.Machine
end

section
/-!
PROOFS. Flicker's calibration hour (14 R358), and why the statement about Flicker's samples, evaluations and timers fails.
-/
namespace Sys2Proof.Machine

/-- A component of class 0 that has been scored, with a risk. -/
def scoredComponent (risk : Nat) : Comp := { Comp.new 0 0 0 with state := 2, risk1 := risk }

/-- The T3 at reset, but with a table of components that lists key 0 twice, with different risks: its keys do not rise, as `NMap` says a table's
keys do. -/
def twinComponents : State :=
  { State.reset with u := { Units.reset with flick := { Flicker.reset with comps := [(0, scoredComponent 0), (0, scoredComponent 0xFFFF)] } } }

/-- FLICKER_CALIBRATION_HOUR stores, at both entries of the key, the sample of the component that the key names: the first one's, bin 0. -/
theorem exec_flickerCalibrationHour_twinComponents :
    ∃ t, exec .flickerCalibrationHour twinComponents = .next t ∧ (t.u.comp 0).sample = some (0, false) := by
  refine ⟨twinComponents.put (twinComponents.mem, flickerCalibrationHour twinComponents.u), ?_, rfl⟩
  rw [← State.after_idle rfl (Nat.zero_le _)]
  rfl

/-- Refutes O46: the statement ranges over every state, and where the table of components lists key 0 twice, which the table's canonical form
forbids, it gives the component that the key names the risk of the second entry for its calibration sample, bin 15, and the model its own, bin 0. -/
theorem not_flickerSamplesEvaluatesAndClears : ¬ Obligations.FlickerSamplesEvaluatesAndClears := by
  unfold Obligations.FlickerSamplesEvaluatesAndClears
  intro claims
  obtain ⟨-, -, -, -, -, -, -, -, -, -, -, -, -, -, -, -, -, -, calibration, -⟩ :=
    claims twinComponents { port := 0, ctx := 0, flags := 0, ctxGen := 0, accGen := 0, seq := 0, job := 0 } hostOperator { ring := 0, tag := 0, stamp := 0, gen := 0 } 0
  obtain ⟨t, run, sample⟩ := exec_flickerCalibrationHour_twinComponents
  rw [calibration, State.after_idle rfl (Nat.zero_le _)] at run
  injection run with eq
  have claimed : (t.u.comp 0).sample = some (15, false) := eq ▸ rfl
  rw [sample] at claimed
  exact absurd claimed (by decide)

end Sys2Proof.Machine
end

section
/-!
PROOFS. Recovery, spares and reloads (13 R314 to R352): what each message, command and timer does, branch by branch, and the statement about them.
-/
namespace Sys2Proof.Machine

/-! The messages and timers of a recovery (R314, R315, R317, Table 13-1) -/

section
variable {s : State} {l : Sys2Proof.LHdr} {job seq : Nat} (heard : s.hearsL l)
include heard

section
variable (stale : s.u.rcvStale job seq = true)
include stale

theorem rcvQuery_stale (coord : Nat) : rcvQuery l job seq coord s.u = s.u.staleL l := (recvL_hears heard _ _ _).trans (if_pos stale)

theorem rcvResume_stale : rcvResume l job seq s.u = s.u.staleL l := (recvL_hears heard _ _ _).trans (if_pos stale)

theorem rcvPoint_stale (r : Nat) (roll : Bool) (failed : List (Nat × Nat)) : rcvPoint l job seq r roll failed s.mem s.u = (s.mem, s.u.staleL l) :=
  (if_neg (Bool.eq_false_iff.1 heard.1)).trans (if_pos stale)

end

section
variable (fresh : s.u.rcvStale job seq = false)
include fresh

theorem rcvQuery_answers (coord : Nat) : rcvQuery l job seq coord s.u = (s.u.memberQuery job seq coord).reqL l.src 0x51 56 4 (s.u.stateWords job seq) :=
  (recvL_hears heard _ _ _).trans (if_neg (Bool.eq_false_iff.1 fresh))

theorem rcvResume_resumes : rcvResume l job seq s.u = s.u.memberResume job := (recvL_hears heard _ _ _).trans (if_neg (Bool.eq_false_iff.1 fresh))

theorem rcvPoint_acts (r : Nat) (roll : Bool) (failed : List (Nat × Nat)) :
    rcvPoint l job seq r roll failed s.mem s.u = memberPoint job seq r roll failed s.mem s.u :=
  (if_neg (Bool.eq_false_iff.1 heard.1)).trans (if_neg (Bool.eq_false_iff.1 fresh))

end

section
variable {released count : Nat} {steps : List Nat}

theorem rcvState_noRecovery (none_ : NMap.find s.u.rcv.coord job = none) : rcvState l job seq released count steps s.mem s.u = (s.mem, s.u) := by
  refine (if_neg (Bool.eq_false_iff.1 heard.1)).trans ?_
  rw [none_]

variable {x : Recovery} (found : NMap.find s.u.rcv.coord job = some x)
include found

theorem rcvState_found : rcvState l job seq released count steps s.mem s.u =
    if x.seq ≠ seq then (s.mem, s.u.staleL l)
    else coordAnswered job s.mem (s.u.upCoord job fun c =>
      { c with answers := (c.answers.filter fun x => x.1 ≠ l.src) ++ [(l.src, released, if count = 0xFF then none else some (steps.take count))] }) := by
  refine (if_neg (Bool.eq_false_iff.1 heard.1)).trans ?_
  rw [found]

end

end

section
variable {u : Units} {m : Mem} {job : Nat}

section
variable (none_ : NMap.find u.rcv.coord job = none)
include none_

theorem rcvQueryTimeout_noRecovery : rcvQueryTimeout job m u = (m, u) := by rw [rcvQueryTimeout, none_]

theorem rcvResumeTimeout_noRecovery : rcvResumeTimeout job u = u := by rw [rcvResumeTimeout, none_]

end

section
variable {x : Recovery} (found : NMap.find u.rcv.coord job = some x)
include found

theorem rcvQueryTimeout_found : rcvQueryTimeout job m u =
    if x.phase ≠ 0 then (m, u)
    else
      let late := x.members.filter fun d => !(x.answers.any fun a => a.1 = d)
      coordPoint job m ((late.foldl (fun u d => u.emit (.bus 14 [u.role.wardenId, d])) u).upCoord job fun c =>
        { c with members := c.members.filter fun d => !(late.contains d) }) := by
  rw [rcvQueryTimeout, found]

theorem rcvResumeTimeout_found : rcvResumeTimeout job u =
    if x.phase ≠ 2 then u else (u.raise Ev.RCV_STALLED 4 0x078 (payloadOf [(0, 4, job), (4, 4, x.seq)])).coordHold job := by
  rw [rcvResumeTimeout, found]

end

/-! RCV_RELEASE (R323, R335) -/

section
variable {c : Sys2Proof.Cmd} (op : isOperator (stampPriv c.stamp) = true)
include op

theorem rcvRelease_elsewhere (away : u.isKeeper = false) : rcvRelease c job m u = (m, u.toKeeper c 0x0705 [job]) :=
  (if_neg (by simp [op])).trans (if_pos (by simp [away]))

variable (keeper : u.isKeeper = true)
include keeper

theorem rcvRelease_noRecovery (none_ : NMap.find u.rcv.coord job = none) : rcvRelease c job m u = (m, u.done c 0x078 0x0705 St.BAD_STATE) := by
  refine (if_neg (by simp [op])).trans ((if_neg (by simp [keeper])).trans ?_)
  rw [none_]

theorem rcvRelease_found {x : Recovery} (found : NMap.find u.rcv.coord job = some x) : rcvRelease c job m u =
    if x.phase ≠ 4 then (m, u.done c 0x078 0x0705 St.BAD_STATE)
    else
      let u1 := ((u.upCoord job fun x => { x with phase := x.back }).journalRcv job).done c 0x078 0x0705 St.OK
      if x.back = 0 then coordAnswered job m (u1.coordQuery job) else (m, u1.coordReady job Units.tellResume) := by
  refine (if_neg (by simp [op])).trans ((if_neg (by simp [keeper])).trans ?_)
  rw [found]

end

end

/-! RCV_SPARE_SET (R33, R335, R536) -/

theorem Units.ApartFromEvents.journalRole {α : Type} {v : Units → α} (apart : Units.ApartFromEvents v) (u : Units) (id : Nat) (words : List Nat) :
    v (u.journalRole id words) = v u := by
  unfold Units.journalRole
  dsimp only
  split
  · rfl
  · split
    · exact apart.setRole _ _ _
    · rw [apart.reqL, apart.setRole]

theorem self_apartFromEvents : Units.ApartFromEvents Units.self := by
  constructor <;> intros <;> rfl

section
variable {u : Units} {c : Sys2Proof.Cmd} {cid port state group : Nat}

/-- The operands of RCV_SPARE_SET keep to the table. -/
def spareSound (port state group : Nat) : Prop := port < 16 ∧ (state = 0 ∨ state = 1 ∨ state = 4) ∧ group < 1024

theorem spareSound_iff : (decide (16 ≤ port) || !(decide (state = 0) || decide (state = 1) || decide (state = 4)) || decide (1024 ≤ group)) = false ↔
    spareSound port state group := by
  simp only [spareSound, Bool.or_eq_false_iff, Bool.not_eq_false', Bool.or_eq_true, decide_eq_true_eq, decide_eq_false_iff_not, Nat.not_le, or_assoc, and_assoc]

/-- The entry of a spare. -/
def Units.spareEntry (u : Units) (cid port : Nat) : Option Spare := u.rcv.spares.find? fun x => x.cid = cid && x.port = port

/-- No place is left for a spare in its group or in the table. -/
def Units.spareFull (u : Units) (mine : Option Spare) (group : Nat) : Prop :=
  (8 ≤ u.sparesIn group ∨ (mine = none ∧ 2048 ≤ u.rcv.spares.length)) ∧ ¬(∃ x, mine = some x ∧ x.group = group)

/-- A spare that serves, or that finds no place, keeps its entry. -/
def Units.spareStays (u : Units) (mine : Option Spare) (group : Nat) : Prop := (∃ x, mine = some x ∧ x.state = 3) ∨ u.spareFull mine group

theorem Units.spareStays_iff (u : Units) (mine : Option Spare) (group : Nat) :
    (mine.any (fun s => s.state = 3) ||
      ((decide (8 ≤ u.sparesIn group) || (mine.isNone && decide (2048 ≤ u.rcv.spares.length))) && !(mine.any fun s => s.group = group))) = true ↔
      u.spareStays mine group := by
  rw [Units.spareStays, Units.spareFull]
  cases mine <;> simp

/-- The group is of another generation than the spare. -/
def Units.spareOther (u : Units) (talnex group : Nat) : Prop := ∃ g, u.groupGen group = some g ∧ g ≠ talnex

theorem Units.spareOther_iff (u : Units) (talnex group : Nat) : ((u.groupGen group).any fun g => g ≠ talnex) = true ↔ u.spareOther talnex group := by
  rw [Units.spareOther]
  cases u.groupGen group <;> simp

/-- The units with a spare's entry replaced, and journaled. -/
def Units.spareSet (u : Units) (cid port state group : Nat) : Units :=
  let talnex := spareTalnex u (u.spareEntry cid port) cid port group
  let e : Spare := { cid := cid, port := port, state := state, talnex := talnex, group := group, pos := 0, version := u.role.routeVer }
  (u.upC fun x => { x with spares := (x.spares.filter fun y => !(y.cid = cid && y.port = port)) ++ [e] }).journalRole u.role.keeperId
    [5, cid, port, state, group, talnex]

theorem Units.spareSet_self (u : Units) (cid port state group : Nat) : (u.spareSet cid port state group).self = u.self :=
  self_apartFromEvents.journalRole _ _ _

variable (op : isOperator (stampPriv c.stamp) = true)
include op

theorem rcvSpareSet_unsound (bad : ¬spareSound port state group) : rcvSpareSet c cid port state group u = u.done c 0x078 0x0706 St.BAD_PARAM :=
  (operator_ok op _ _ _).trans (if_pos (Bool.eq_true_of_not_eq_false (mt spareSound_iff.1 bad)))

variable (sound : spareSound port state group)
include sound

theorem rcvSpareSet_elsewhere (away : u.isKeeper = false) : rcvSpareSet c cid port state group u = u.toKeeper c 0x0706 [cid, port, state, group] :=
  (operator_ok op _ _ _).trans ((if_neg (Bool.eq_false_iff.1 (spareSound_iff.2 sound))).trans (if_pos (by simp [away])))

variable (keeper : u.isKeeper = true)
include keeper

theorem rcvSpareSet_keeper : rcvSpareSet c cid port state group u =
    let mine := u.spareEntry cid port
    if mine.any (fun s => s.state = 3) ||
      ((8 ≤ u.sparesIn group || (mine.isNone && 2048 ≤ u.rcv.spares.length)) && !(mine.any fun s => s.group = group)) then
        u.done c 0x078 0x0706 St.BAD_STATE
    else if (u.groupGen group).any fun g => g ≠ spareTalnex u mine cid port group then u.done c 0x078 0x0706 St.BAD_PARAM
    else (if state = 1 && cid = u.self then (u.spareSet cid port state group).later (.powerOff port) else u.spareSet cid port state group).done
      c 0x078 0x0706 St.OK :=
  (operator_ok op _ _ _).trans ((if_neg (Bool.eq_false_iff.1 (spareSound_iff.2 sound))).trans
    ((if_neg (show ¬(!u.isKeeper) = true by rw [keeper]; exact Bool.false_ne_true)).trans (by
      rw [← Units.spareSet_self u cid port state group]; rfl)))

theorem rcvSpareSet_stays (stays : u.spareStays (u.spareEntry cid port) group) :
    rcvSpareSet c cid port state group u = u.done c 0x078 0x0706 St.BAD_STATE :=
  (rcvSpareSet_keeper op sound keeper).trans (if_pos ((Units.spareStays_iff ..).2 stays))

variable (free : ¬u.spareStays (u.spareEntry cid port) group)
include free

theorem rcvSpareSet_other (other : u.spareOther (spareTalnex u (u.spareEntry cid port) cid port group) group) :
    rcvSpareSet c cid port state group u = u.done c 0x078 0x0706 St.BAD_PARAM :=
  (rcvSpareSet_keeper op sound keeper).trans ((if_neg (mt (Units.spareStays_iff ..).1 free)).trans (if_pos ((Units.spareOther_iff ..).2 other)))

theorem rcvSpareSet_sets (same : ¬u.spareOther (spareTalnex u (u.spareEntry cid port) cid port group) group) : rcvSpareSet c cid port state group u =
    (if state = 1 && cid = u.self then (u.spareSet cid port state group).later (.powerOff port) else u.spareSet cid port state group).done
      c 0x078 0x0706 St.OK :=
  (rcvSpareSet_keeper op sound keeper).trans ((if_neg (mt (Units.spareStays_iff ..).1 free)).trans (if_neg (mt (Units.spareOther_iff ..).1 same)))

end

/-! SPARE_REQ and SPARE_GRANT (R325, R326, R352) -/

section
variable {s : State} {l : Sys2Proof.LHdr} {pos job action a : Nat} (heard : s.hearsL l)
include heard

theorem spareReq_heard : spareReq l pos job action a s.u =
    if s.u.isKeeper then s.u.grantSpare l.src pos job action a
    else if (s.u.roleOf s.u.role.keeperId).holding then s.u.upC fun x => { x with waitReqs := x.waitReqs ++ [(l.src, pos, job, action, a)] }
    else s.u := recvL_hears heard _ _ _

section
variable {cid port version status : Nat}

theorem spareGrant_unasked (none_ : (s.u.rcv.reqs.find? fun r => r.1 = pos) = none) :
    spareGrant l pos cid port version status s.u = s.u.takeGrant pos cid port status := by
  refine (recvL_hears heard _ _ _).trans ?_
  dsimp only
  rw [none_]

theorem spareGrant_asked {r : Nat × Nat × Nat × Nat} (asked : (s.u.rcv.reqs.find? fun r => r.1 = pos) = some r) :
    spareGrant l pos cid port version status s.u =
      if r.2.2.1 ≠ 3 && status ≠ St.OK then
        (s.u.takeGrant pos cid port status).raise Ev.SPR_NO_SPARE 4 0x078 (payloadOf [(0, 4, r.2.1), (4, 3, pos)]) []
          { Target.none with job := r.2.1, cid := pos }
      else s.u.takeGrant pos cid port status := by
  refine (recvL_hears heard _ _ _).trans ?_
  dsimp only
  rw [asked]

end

end

/-! RCV_READY, RCV_PREP_TIMEOUT and PRESTAGE_HOLD_EXPIRY (R318, R326, R352) -/

theorem rcvReady_takes {s : State} {l : Sys2Proof.LHdr} {job seq status : Nat} (heard : s.hearsL l) :
    rcvReady l job seq status s.u = s.u.takeReady job seq l.src status := recvL_hears heard _ _ _

section
variable {u : Units} {pos port : Nat}

theorem rcvPrepTimeout_none (none_ : (u.rcv.prep.find? fun x => x.1 = pos && x.2.1 = port) = none) : rcvPrepTimeout pos port u = u := by
  rw [rcvPrepTimeout, none_]

/-- The units after a preparation has run out of time: it is no longer open, and SPR_PREP_TIMEOUT is raised. -/
def Units.prepLate (u : Units) (pos port : Nat) : Units :=
  (u.upC fun y => { y with prep := y.prep.filter fun z => !(z.1 = pos && z.2.1 = port) }).raise Ev.SPR_PREP_TIMEOUT 1 0x078
    (payloadOf [(0, 3, u.self), (3, 1, port), (4, 3, pos)])

section
variable {x : Nat × Nat × List Nat} (open_ : (u.rcv.prep.find? fun x => x.1 = pos && x.2.1 = port) = some x)
include open_

theorem rcvPrepTimeout_ready (ready : x.2.2 = []) : rcvPrepTimeout pos port u = u := by
  rw [rcvPrepTimeout, open_]
  exact if_pos (List.isEmpty_iff.2 ready)

theorem rcvPrepTimeout_asks (waits : x.2.2 ≠ []) : rcvPrepTimeout pos port u =
    (u.prepLate pos port).askSpare pos
      ((((u.prepLate pos port).wick.jobs.find? fun j => !((u.prepLate pos port).posShards pos j.1).isEmpty).map (·.1)).getD 0) 1 0 := by
  rw [rcvPrepTimeout, open_]
  exact if_neg (mt List.isEmpty_iff.1 waits)

end

theorem prestageHoldExpiry_held (held : u.rcv.holds.contains pos = true) : prestageHoldExpiry pos u = u.upC fun x =>
    { x with holds := x.holds.filter (· ≠ pos), spares := x.spares.map fun y => if y.state = 2 && y.pos = pos then { y with state := 0, pos := 0 } else y } :=
  if_pos held

theorem prestageHoldExpiry_notHeld (notHeld : u.rcv.holds.contains pos = false) : prestageHoldExpiry pos u = u :=
  if_neg (Bool.eq_false_iff.1 notHeld)

end

/-! RECOVERY_RESPONSE (R318, R321) -/

section

/-- The jobs whose recovery waits for a context. -/
def Units.jobsWaiting (u : Units) (key : Nat) : List Nat := (u.rcv.mem.filter fun e => e.2.waitCtx.contains key).map (·.1)

/-- A context is prepared: nothing waits for it any more, and the reloads of its shards start. -/
def Units.ctxPrepared (u : Units) (h : Sys2Proof.SHdr) : Units :=
  (u.rcv.prep.filter fun x => x.2.1 = h.port && x.2.2.contains h.ctx).foldl
    (fun u x => (u.wick.jobs.filter fun j => (u.posShards x.1 j.1).any fun e => e.1 = h.ctx).foldl (fun u j => u.startReload h.port h.ctx j.1) u)
    (u.upC fun x =>
      { x with mem := NMap.mapV x.mem (fun _ y => { y with waitCtx := y.waitCtx.filter (· ≠ 64 * h.port + h.ctx) }),
               prep := (x.prep.map fun y => if y.2.1 = h.port then (y.1, y.2.1, y.2.2.filter (· ≠ h.ctx)) else y).filter fun y => !y.2.2.isEmpty })

variable {s : State} {h : Sys2Proof.SHdr} (heard : s.hears h 0x18)
include heard

theorem recoveryResponse_prepared : recoveryResponse h 1 St.OK s.u =
    (s.u.jobsWaiting (64 * h.port + h.ctx)).foldl (fun u j => u.later (.rcvCheck j)) (s.u.ctxPrepared h) := recvS_hears heard _

theorem recoveryResponse_released : recoveryResponse h 2 St.OK s.u =
    s.u.upC fun x => { x with unreleased := x.unreleased.filter (· ≠ 64 * h.port + h.ctx) } := recvS_hears heard _

section
variable {status : Nat} (failed : status ≠ St.OK)
include failed

theorem recoveryResponse_unprepared : recoveryResponse h 1 status s.u =
    (s.u.jobsWaiting (64 * h.port + h.ctx)).foldl (fun u j => u.rcvFail j status) s.u :=
  (recvS_hears heard _).trans (if_neg failed)

theorem recoveryResponse_unreleased : recoveryResponse h 2 status s.u =
    s.u.upC fun x => { x with unreleased := (64 * h.port + h.ctx) :: x.unreleased.filter (· ≠ 64 * h.port + h.ctx) } := by
  refine (recvS_hears heard _).trans ?_
  dsimp only
  rw [if_neg (by decide), if_pos rfl]
  simp only [if_neg failed]

end

theorem recoveryResponse_otherKind {kind status : Nat} (not1 : kind ≠ 1) (not2 : kind ≠ 2) : recoveryResponse h kind status s.u = s.u :=
  (recvS_hears heard _).trans ((if_neg not1).trans (if_neg not2))

end

/-! Reloads at the serving T3 and at the buddy (R327) -/

section

/-- A block that the serving T3 takes. -/
def Units.takesBlock (u : Units) (b : Sys2Proof.Blk) : Prop := u.mantle.stackFailed = false ∧ Blk.bad b = false ∧ crc64 b.data = b.crc

theorem Units.takesBlock_iff (u : Units) (b : Sys2Proof.Blk) :
    (u.mantle.stackFailed || Blk.bad b || decide (crc64 b.data ≠ b.crc)) = false ↔ u.takesBlock b := by
  simp only [Units.takesBlock, Bool.or_eq_false_iff, decide_eq_false_iff_not, not_not, and_assoc]

theorem takeReload_noStream {m : Mem} {u : Units} {b : Sys2Proof.Blk}
    (none_ : (u.rcv.reload.find? fun e => e.2.state = 2 && e.2.shards.head? = some b.shard) = none) : takeReload m u b = (m, u) := by
  rw [takeReload, none_]

/-- The units that take a block of a port's reload. -/
def Units.reloadBlockTaken (u : Units) (m : Mem) (p : Nat) (b : Sys2Proof.Blk) : Units :=
  (toTransit m u b.data).1.2.upReload p fun r => { r with lastSent := r.lastSent || bitAt b.flags 0, total := r.total + 1 }

theorem takeReload_streams {m : Mem} {u : Units} {b : Sys2Proof.Blk} {p : Nat} {x : Reload}
    (runs : (u.rcv.reload.find? fun e => e.2.state = 2 && e.2.shards.head? = some b.shard) = some (p, x)) : takeReload m u b =
      ((toTransit m u b.data).1.1, ((u.reloadBlockTaken m p b).count 0x780498 b.valid).igSend p 0x16 x.ctx (32 + b.valid)
        ([b.step, b.shard, b.index, 0, b.flags, b.valid, b.crc] ++
          (inTransit (toTransit m u b.data).1.1 (u.reloadBlockTaken m p b) ((toTransit m u b.data).2, b)).data)) := by
  rw [takeReload, runs]
  rfl

theorem ackServe_notServed {m : Mem} {u : Units} {shard dst written status : Nat}
    (none_ : (u.rcv.serves.find? fun v => v.shard = shard && v.dst = dst) = none) : ackServe m u shard dst written status = (m, u) := by
  rw [ackServe, none_]

/-- The stored size of a shard, 0 for one not bound. -/
def Units.shardBlocks (u : Units) (shard : Nat) : Nat := u.withSh shard 0 fun _ x _ => x.layout

section
variable {m : Mem} {u : Units} {shard dst written status : Nat} {v : Serve} (runs : (u.rcv.serves.find? fun v => v.shard = shard && v.dst = dst) = some v)
include runs

theorem ackServe_ends (ends : status ≠ St.OK ∨ u.shardBlocks shard ≤ written) : ackServe m u shard dst written status =
    (m, u.upC fun x => { x with serves := x.serves.filter fun y => !(y.shard = shard && y.dst = dst) }) := by
  rw [ackServe, runs]
  exact if_pos (by simpa [Units.shardBlocks] using ends)

theorem ackServe_advances (ok : status = St.OK) (more : written < u.shardBlocks shard) : ackServe m u shard dst written status =
    servePump m (u.upC fun x => { x with serves := x.serves.map fun y => if y.shard = shard && y.dst = dst then { v with acked := max v.acked written } else y })
      { v with acked := max v.acked written } := by
  rw [ackServe, runs]
  exact if_neg (by simpa [ok, Units.shardBlocks] using more)

end

variable {s : State} {l : Sys2Proof.LHdr} (heard : s.hearsL l)
include heard

theorem reloadBlock_unsound {b : Sys2Proof.Blk} (bad : ¬s.u.takesBlock b) : reloadBlock l b s.mem s.u = (s.mem, s.u) :=
  (if_neg (Bool.eq_false_iff.1 heard.1)).trans (if_pos (Bool.eq_true_of_not_eq_false (mt (Units.takesBlock_iff ..).1 bad)))

theorem reloadBlock_sound {b : Sys2Proof.Blk} (sound : s.u.takesBlock b) : reloadBlock l b s.mem s.u = takeReload s.mem s.u b :=
  (if_neg (Bool.eq_false_iff.1 heard.1)).trans (if_neg (Bool.eq_false_iff.1 ((Units.takesBlock_iff ..).2 sound)))

theorem reloadAck_heard {shard step written status : Nat} : reloadAck l shard step written status s.mem s.u = ackServe s.mem s.u shard l.src written status :=
  if_neg (Bool.eq_false_iff.1 heard.1)

section
variable {shard kind step first : Nat}

theorem reloadReq_unbound (unbound : ∀ k, s.u.shKey shard = some k → s.u.jobB (s.u.shAt k).job = none) :
    reloadReq l shard kind step first s.mem s.u = (s.mem, s.u) :=
  (if_neg (Bool.eq_false_iff.1 heard.1)).trans (withSh_unbound unbound _ _)

/-- The reload that a RELOAD_REQ of kind 1 opens. -/
def serveOf (l : Sys2Proof.LHdr) (shard step first : Nat) : Serve := { shard := shard, dst := l.src, step := step, next := first, acked := first }

variable {k : Nat} {x : Shard} {j : JobBind} (bound : s.holds shard k x j)
include bound

theorem reloadReq_records : reloadReq l shard 0 step first s.mem s.u = (s.mem, s.u.tellRecords shard l.src step) :=
  (if_neg (Bool.eq_false_iff.1 heard.1)).trans (withSh_holds bound _ _)

theorem reloadReq_streams : reloadReq l shard 1 step first s.mem s.u =
    servePump s.mem (s.u.upC fun x => { x with serves := (x.serves.filter fun y => !(y.shard = shard && y.dst = l.src)) ++ [serveOf l shard step first] })
      (serveOf l shard step first) :=
  (if_neg (Bool.eq_false_iff.1 heard.1)).trans (withSh_holds bound _ _)

theorem reloadReq_otherKind (not0 : kind ≠ 0) (not1 : kind ≠ 1) : reloadReq l shard kind step first s.mem s.u = (s.mem, s.u) :=
  (if_neg (Bool.eq_false_iff.1 heard.1)).trans ((withSh_holds bound _ _).trans ((if_neg not0).trans (if_neg not1)))

end

end

/-! RELOAD_REC (R322, R326) -/

section

/-- The units that keep a verified commit record for comparison. -/
def Units.keepRec (u : Units) (r : CommitRec) : Units :=
  if r.state < 5 then u else u.upC fun x =>
    { x with wanted := x.wanted.filter (fun y => y ≠ (r.shard, r.step)), fetched := (x.fetched.filter fun f => f.1 ≠ r.shard) ++ [(r.shard, r.step, r.postFp, r.cursor)] }

/-- The binding that a RELOAD_REC gives a job not bound here. -/
def recBind (u : Units) (r : CommitRec) (mode comps prog key params : Nat) (fmts : List Nat) (interval flags gateMs : Nat) : JobBind :=
  { mode := mode, comps := comps, prog := prog, key := key, params := params, fmts := fmts, interval := interval, flags := flags, gateMs := gateMs,
    released := if mode = 0 && bitAt flags 0 then r.step else 0, relTime := 0, relEpoch := 0, entered := none, snapNow := [], perStep := false, held := true,
    group := (u.gateGroup r.job).getD 0 }

/-- The units with a job bound, unless it was already. -/
def Units.bindJob (u : Units) (job : Nat) (b : JobBind) : Units := if (u.jobB job).isSome = true then u else u.upW fun w => { w with jobs := NMap.set w.jobs job b }

/-- What waited for a record at the ports goes on. -/
def Units.reloadsGoOn (u : Units) : Units := ((List.range 16).foldl (fun u p => (u.warmTry p).reloadTry p) u).prepTry

variable {s : State} {l : Sys2Proof.LHdr} {r : CommitRec} {mode comps prog key params : Nat} {fmts : List Nat} {interval flags gateMs epoch first sparams : Nat}

/-- The units of a RELOAD_REC before its shard is bound. -/
def State.recKept (s : State) (r : CommitRec) (mode comps prog key params : Nat) (fmts : List Nat) (interval flags gateMs : Nat) : Units :=
  (s.u.keepRec r).bindJob r.job (recBind (s.u.keepRec r) r mode comps prog key params fmts interval flags gateMs)

/-- The units with the shard of a record bound in the source role, where its job is bound and it is not. -/
def Units.bindRec (u : Units) (l : Sys2Proof.LHdr) (r : CommitRec) (epoch first sparams : Nat) : Units :=
  match u.jobB r.job with
  | some j =>
    if (u.shKey r.shard).isSome then u
    else
      let d := u.bindShard r.job r.shard first sparams l.src 1 j
      match d.2 with
      | some k => d.1.upSh k fun x => { x with epoch := epoch, committed := r.step }
      | none => d.1
  | none => u

theorem reloadRec_binds (heard : s.hearsL l) : reloadRec l r mode comps prog key params fmts interval flags gateMs epoch first sparams s.u =
    ((s.recKept r mode comps prog key params fmts interval flags gateMs).bindRec l r epoch first sparams).reloadsGoOn := by
  refine (recvL_hears heard _ _ _).trans (congrArg Units.reloadsGoOn ?_)
  generalize kept : s.recKept r mode comps prog key params fmts interval flags gateMs = w
  unfold State.recKept Units.bindJob Units.keepRec recBind at kept
  dsimp only at kept ⊢
  rw [kept]
  unfold Units.bindRec
  cases w.jobB r.job with
  | none => rfl
  | some j =>
    by_cases bound : (w.shKey r.shard).isSome = true
    · exact (if_pos bound).trans (if_pos bound).symm
    · simp only [if_neg bound] <;> cases (w.bindShard r.job r.shard first sparams l.src 1 j).2 <;> rfl

section
variable {u : Units}

theorem Units.bindRec_known (known : u.jobB r.job = none ∨ (u.shKey r.shard).isSome = true) : u.bindRec l r epoch first sparams = u := by
  unfold Units.bindRec
  split
  · next j found => exact if_pos (known.resolve_left fun none_ => Option.some_ne_none j (found.symm.trans none_))
  · rfl

variable {j : JobBind} (job : u.jobB r.job = some j) (unbound : u.shKey r.shard = none)
include job unbound

theorem Units.bindRec_full (full : (u.bindShard r.job r.shard first sparams l.src 1 j).2 = none) :
    u.bindRec l r epoch first sparams = (u.bindShard r.job r.shard first sparams l.src 1 j).1 := by
  rw [Units.bindRec, job]
  dsimp only
  rw [unbound, full]
  rfl

theorem Units.bindRec_new {k : Nat} (new : (u.bindShard r.job r.shard first sparams l.src 1 j).2 = some k) : u.bindRec l r epoch first sparams =
    (u.bindShard r.job r.shard first sparams l.src 1 j).1.upSh k fun x => { x with epoch := epoch, committed := r.step } := by
  rw [Units.bindRec, job]
  dsimp only
  rw [unbound, new]
  rfl

end

end

/-! RESTORE_ACK (R321, R327) -/

section
variable {s : State} {h : Sys2Proof.SHdr} {step shard written : Nat}

/-- A RESTORE_ACK that belongs to the running reload of its port. -/
def Units.acksReload (u : Units) (port shard : Nat) : Prop := shard ≠ 0 ∧ (u.reloadOf port).state = 2 ∧ (u.reloadOf port).shards.head? = some shard

theorem Units.acksReload_iff (u : Units) (port shard : Nat) :
    (decide (shard = 0) || decide ((u.reloadOf port).state ≠ 2) || decide ((u.reloadOf port).shards.head? ≠ some shard)) = false ↔ u.acksReload port shard := by
  simp only [Units.acksReload, Bool.or_eq_false_iff, decide_eq_false_iff_not, not_not, and_assoc, ne_eq]

/-- The count of stored blocks goes back to the buddy: at the buddy itself it advances what it serves. -/
def ackBack (m : Mem) (u : Units) (x : Shard) (shard step n : Nat) : Mem × Units :=
  if x.isBuddy = true then ackServe m u shard u.self n St.OK else (m, u.reqL x.buddy 0x59 24 2 [shard, step, n, St.OK])

variable (heard : s.hears h 0x17)
include heard

theorem restoreAck_other (other : ¬s.u.acksReload h.port shard) : restoreAck h step shard written s.mem s.u = (s.mem, s.u) := by
  rw [restoreAck, dropS_hears heard]
  exact if_pos (Bool.eq_true_of_not_eq_false (mt (Units.acksReload_iff ..).1 other))

variable (takes : s.u.acksReload h.port shard) {k : Nat} {x : Shard} {j : JobBind} (bound : s.holds shard k x j)
include takes bound

theorem restoreAck_takes : restoreAck h step shard written s.mem s.u =
    if written = 0xFFFFFFFF then
      ((ackBack s.mem s.u x shard step x.layout).1, (ackBack s.mem s.u x shard step x.layout).2.reloadResult h.port false)
    else
      let a := ackBack s.mem (s.u.upReload h.port fun r => { r with written := written }) x shard step written
      if written < (s.u.reloadOf h.port).blocks then a
      else if (s.u.ig h.port).proto = 1 then (a.1, a.2.reloadResult h.port true)
      else (a.1, (a.2.upReload h.port fun r => { r with state := 3 }).reloadTry h.port) := by
  rw [restoreAck, dropS_hears heard]
  exact (if_neg (Bool.eq_false_iff.1 ((Units.acksReload_iff ..).2 takes))).trans (withSh_holds bound _ _)

end

/-! SHARD_FP_REPORT (R322, R327) -/

section
variable {s : State} {h : Sys2Proof.SHdr} {step elems fp shard : Nat}

/-- The units that keep a fingerprint report of a context's shard. -/
def Units.keepFp (u : Units) (h : Sys2Proof.SHdr) (step elems fp shard : Nat) : Units := u.upC fun x =>
  { x with fps := (x.fps.filter fun f => !(f.1 = h.port && f.2.1 = h.ctx && f.2.2.1 = shard)) ++ [(h.port, h.ctx, shard, step, elems, fp)] }

/-- A fingerprint report that ends a reload. -/
def Reload.endsWith (r : Reload) (ctx shard : Nat) : Prop := (r.state = 3 ∨ r.state = 2) ∧ r.shards.head? = some shard ∧ r.ctx = ctx

theorem Reload.endsWith_iff (r : Reload) (ctx shard : Nat) :
    ((decide (r.state = 3) || decide (r.state = 2)) && decide (r.shards.head? = some shard) && decide (r.ctx = ctx)) = true ↔ r.endsWith ctx shard := by
  simp only [Reload.endsWith, Bool.and_eq_true, Bool.or_eq_true, decide_eq_true_eq, and_assoc]

variable (heard : s.hears h 0x0F)
include heard

theorem shardFpReport_ends (ends : ((s.u.keepFp h step elems fp shard).reloadOf h.port).endsWith h.ctx shard) :
    shardFpReport h step elems fp shard s.u = (s.u.keepFp h step elems fp shard).reloadTry h.port :=
  (recvS_hears heard _).trans (if_pos ((Reload.endsWith_iff ..).2 ends))

theorem shardFpReport_warm (other : ¬((s.u.keepFp h step elems fp shard).reloadOf h.port).endsWith h.ctx shard) :
    shardFpReport h step elems fp shard s.u = ((s.u.keepFp h step elems fp shard).warmTry h.port).ctxTry h.port h.ctx :=
  (recvS_hears heard _).trans (if_neg (mt (Reload.endsWith_iff ..).1 other))

end

/-! The statement -/

section
variable {s : State}

/-- RCV_STATE (R315). -/
theorem rcvState_acts {l : Sys2Proof.LHdr} {job seq : Nat} (heard : s.hearsL l) (released count : Nat) (steps : List Nat) :
    (NMap.find s.u.rcv.coord job = none → exec (.rcvState l job seq released count steps) s = .next (s.after s.u)) ∧
    (∀ x, NMap.find s.u.rcv.coord job = some x →
      (x.seq = seq → exec (.rcvState l job seq released count steps) s = .next (s.afterM (coordAnswered job s.mem (s.u.upCoord job fun c =>
        { c with answers := (c.answers.filter fun x => x.1 ≠ l.src) ++ [(l.src, released, if count = 0xFF then none else some (steps.take count))] })))) ∧
      (x.seq ≠ seq → exec (.rcvState l job seq released count steps) s = .next (s.after (s.u.staleL l)))) :=
  ⟨fun none_ => State.run_of_units (rcvState_noRecovery heard none_), fun _ found =>
    ⟨fun same => State.run_of_eq ((rcvState_found heard found).trans (if_neg (not_not.2 same))),
     fun older => State.run_of_units ((rcvState_found heard found).trans (if_pos older))⟩⟩

end

/-- Settles O51. Each message, command and timer is its lemma above, branch by branch. -/
theorem recoveryMessagesSparesAndReloadsAct : Obligations.RecoveryMessagesSparesAndReloadsAct := by
  unfold Obligations.RecoveryMessagesSparesAndReloadsAct
  intro s h l w job seq
  refine ⟨fun heard => ⟨?query, ?stale, fun _ _ _ => rcvState_acts heard _ _ _, ?point, ?ready⟩, ?noRecovery, ?recovery, ?commands, ?spares, ?prep, ?hold,
    ?response, fun heard => ⟨?block, ?ack, ?req, ?rec_⟩, ?restore, ?report⟩
  case query => exact fun _ fresh => State.runU_of_eq (rcvQuery_answers heard fresh _)
  case stale => exact fun _ stale =>
      ⟨State.runU_of_eq (rcvQuery_stale heard stale _), State.runU_of_eq (rcvResume_stale heard stale),
       fun _ _ _ => State.run_of_units (rcvPoint_stale heard stale _ _ _)⟩
  case point => exact fun fresh =>
      ⟨fun _ _ _ => State.run_of_eq (rcvPoint_acts heard fresh _ _ _), State.runU_of_eq (rcvResume_resumes heard fresh)⟩
  case ready => exact fun _ => State.runU_of_eq (rcvReady_takes heard)
  case noRecovery => exact fun none_ => ⟨State.run_of_units (rcvQueryTimeout_noRecovery none_), State.runU_of_eq (rcvResumeTimeout_noRecovery none_)⟩
  case recovery =>
    exact fun _ found =>
      ⟨fun queries => State.run_of_eq ((rcvQueryTimeout_found found).trans (if_neg (not_not.2 queries))),
       fun other => State.run_of_units ((rcvQueryTimeout_found found).trans (if_pos other)),
       fun restores => State.runU_of_eq ((rcvResumeTimeout_found found).trans (if_neg (not_not.2 restores))),
       fun other => State.runU_of_eq ((rcvResumeTimeout_found found).trans (if_pos other))⟩
  case commands =>
    refine fun op => ⟨fun away => State.run_of_units (rcvRelease_elsewhere op away), fun keeper =>
      ⟨fun none_ => State.run_of_units (rcvRelease_noRecovery op keeper none_), fun _ found => ⟨?other, ?query, ?ready⟩⟩, ?set⟩
    case other => exact fun other => State.run_of_units ((rcvRelease_found op keeper found).trans (if_pos other))
    case query => exact fun held back => State.run_of_eq ((rcvRelease_found op keeper found).trans ((if_neg (not_not.2 held)).trans (if_pos back)))
    case ready => exact fun held back => State.run_of_units ((rcvRelease_found op keeper found).trans ((if_neg (not_not.2 held)).trans (if_neg back)))
    case set =>
      refine fun _ _ _ _ => ⟨fun bad => State.runU_of_eq (rcvSpareSet_unsound op bad), fun sound away => State.runU_of_eq (rcvSpareSet_elsewhere op sound away),
        fun sound keeper stays => State.runU_of_eq (rcvSpareSet_stays op sound keeper stays),
        fun sound keeper free other => State.runU_of_eq (rcvSpareSet_other op sound keeper free other), fun sound keeper free same => ⟨?off, ?on⟩⟩
      case off => exact fun cold here => State.runU_of_eq ((rcvSpareSet_sets op sound keeper free same).trans (by rw [if_pos (by simp [cold, here])]; rfl))
      case on => exact fun other => State.runU_of_eq ((rcvSpareSet_sets op sound keeper free same).trans (by rw [if_neg (by simpa using or_iff_not_imp_left.1 other)]; rfl))
  case spares =>
    refine fun heard => ⟨fun _ _ _ => ⟨?grant, ?wait, ?pass⟩, fun _ _ _ _ _ => ⟨?unasked, fun _ asked => ⟨?refused, ?taken⟩⟩⟩
    case grant => exact fun keeper => State.runU_of_eq ((spareReq_heard heard).trans (if_pos keeper))
    case wait => exact fun away holding => State.runU_of_eq ((spareReq_heard heard).trans ((if_neg (Bool.eq_false_iff.1 away)).trans (if_pos holding)))
    case pass =>
      exact fun away idle =>
        State.runU_of_eq ((spareReq_heard heard).trans ((if_neg (Bool.eq_false_iff.1 away)).trans (if_neg (Bool.eq_false_iff.1 idle))))
    case unasked => exact fun none_ => State.runU_of_eq (spareGrant_unasked heard none_)
    case refused => exact fun job refused => State.runU_of_eq ((spareGrant_asked heard asked).trans (if_pos (by simp [job, refused])))
    case taken => exact fun taken => State.runU_of_eq ((spareGrant_asked heard asked).trans (if_neg (by simpa using or_iff_not_imp_left.1 taken)))
  case prep =>
    exact fun _ _ => ⟨fun none_ => State.runU_of_eq (rcvPrepTimeout_none none_), fun _ open_ =>
      ⟨fun ready => State.runU_of_eq (rcvPrepTimeout_ready open_ ready), fun waits => State.runU_of_eq (rcvPrepTimeout_asks open_ waits)⟩⟩
  case hold =>
    exact fun _ => ⟨fun held => State.runU_of_eq (prestageHoldExpiry_held held), fun notHeld => State.runU_of_eq (prestageHoldExpiry_notHeld notHeld)⟩
  case response =>
    exact fun heard => ⟨State.runU_of_eq (recoveryResponse_prepared heard), State.runU_of_eq (recoveryResponse_released heard),
      fun _ failed => ⟨State.runU_of_eq (recoveryResponse_unprepared heard failed), State.runU_of_eq (recoveryResponse_unreleased heard failed)⟩,
      fun _ _ not1 not2 => State.runU_of_eq (recoveryResponse_otherKind heard not1 not2)⟩
  case block =>
    exact fun _ => ⟨fun bad => State.run_of_units (reloadBlock_unsound heard bad), fun sound =>
      ⟨fun none_ => State.run_of_units ((reloadBlock_sound heard sound).trans (takeReload_noStream none_)),
       fun _ _ runs => State.run_of_eq ((reloadBlock_sound heard sound).trans (takeReload_streams runs))⟩⟩
  case ack =>
    exact fun _ _ _ _ => ⟨fun none_ => State.run_of_units ((reloadAck_heard heard).trans (ackServe_notServed none_)), fun _ runs =>
      ⟨fun ends => State.run_of_units ((reloadAck_heard heard).trans (ackServe_ends runs ends)),
       fun ok more => State.run_of_eq ((reloadAck_heard heard).trans (ackServe_advances runs ok more))⟩⟩
  case req =>
    exact fun _ _ _ _ => ⟨fun unbound => State.run_of_units (reloadReq_unbound heard unbound), fun _ _ _ bound =>
      ⟨State.run_of_units (reloadReq_records heard bound), State.run_of_eq (reloadReq_streams heard bound),
       fun not0 not1 => State.run_of_units (reloadReq_otherKind heard bound not0 not1)⟩⟩
  case rec_ =>
    intro r mode comps prog key params fmts interval flags gateMs epoch first sparams
    exact ⟨fun known => State.runU_of_eq ((reloadRec_binds heard).trans (congrArg Units.reloadsGoOn (Units.bindRec_known known))), fun _ job unbound =>
      ⟨fun full => State.runU_of_eq ((reloadRec_binds heard).trans (congrArg Units.reloadsGoOn (Units.bindRec_full job unbound full))),
       fun _ new => State.runU_of_eq ((reloadRec_binds heard).trans (congrArg Units.reloadsGoOn (Units.bindRec_new job unbound new)))⟩⟩
  case restore =>
    refine fun heard _ _ _ => ⟨fun other => State.run_of_units (restoreAck_other heard other), fun _ _ _ takes bound => ⟨?lost, ?more, ?done_, ?wait⟩⟩
    case lost => exact fun lost => State.run_of_eq ((restoreAck_takes heard takes bound).trans (if_pos lost))
    case more => exact fun acked more => State.run_of_eq ((restoreAck_takes heard takes bound).trans ((if_neg acked).trans (if_pos more)))
    case done_ =>
      exact fun acked whole proto =>
        State.run_of_eq ((restoreAck_takes heard takes bound).trans ((if_neg acked).trans ((if_neg (Nat.not_lt.2 whole)).trans (if_pos proto))))
    case wait =>
      exact fun acked whole proto =>
        State.run_of_eq ((restoreAck_takes heard takes bound).trans ((if_neg acked).trans ((if_neg (Nat.not_lt.2 whole)).trans (if_neg proto))))
  case report =>
    exact fun _ _ _ _ heard => ⟨fun ends => State.runU_of_eq (shardFpReport_ends heard ends), fun other => State.runU_of_eq (shardFpReport_warm heard other)⟩

end Sys2Proof.Machine
end

section
/-!
PROOFS. Division by the largest remainders (16 R396): each account has the floor of its share or one more, the shares add up to the whole, and what is left
goes to the larger remainders first.
-/
namespace Sys2Proof.Machine

/-! Places by falling key, earlier ones first among equals -/

section

/-- `j` comes before `i`: its key is larger, or equal and it is earlier. -/
abbrev Ahead (f : Nat → Nat) (j i : Nat) : Prop := f i < f j ∨ (f j = f i ∧ j < i)

/-- How many of the first `n` come before `i`. -/
def place (n : Nat) (f : Nat → Nat) (i : Nat) : Nat := ((Finset.range n).filter fun j => Ahead f j i).card

variable {n : Nat} {f : Nat → Nat} {i j : Nat}

theorem Ahead.trans {k : Nat} (a : Ahead f i j) (b : Ahead f j k) : Ahead f i k := by
  unfold Ahead at *; omega

theorem Ahead.irrefl : ¬Ahead f i i := by
  unfold Ahead; omega

theorem ahead_or_ahead (other : i ≠ j) : Ahead f i j ∨ Ahead f j i := by
  unfold Ahead; omega

/-- What comes before has fewer before it. -/
theorem place_lt_place (in_ : i < n) (ahead : Ahead f i j) : place n f i < place n f j := by
  refine Finset.card_lt_card (Finset.ssubset_iff_subset_ne.2 ⟨fun k before => ?_, fun same => ?_⟩)
  · rw [Finset.mem_filter] at before ⊢
    exact ⟨before.1, before.2.trans ahead⟩
  · have mem : i ∈ (Finset.range n).filter fun k => Ahead f k j := Finset.mem_filter.2 ⟨Finset.mem_range.2 in_, ahead⟩
    rw [← same] at mem
    exact Ahead.irrefl (Finset.mem_filter.1 mem).2

theorem place_lt (in_ : i < n) : place n f i < n := by
  have fewer : place n f i < (Finset.range n).card :=
    Finset.card_lt_card (Finset.filter_ssubset.2 ⟨i, Finset.mem_range.2 in_, Ahead.irrefl⟩)
  rwa [Finset.card_range] at fewer

theorem place_injOn (n : Nat) (f : Nat → Nat) : Set.InjOn (place n f) (Finset.range n : Finset Nat) := by
  intro i iIn j jIn same
  by_contra other
  rw [Finset.mem_coe, Finset.mem_range] at iIn jIn
  rcases ahead_or_ahead (f := f) other with a | a
  · exact (place_lt_place iIn a).ne same
  · exact (place_lt_place jIn a).ne' same

/-- The places of the first `n` are 0 to n - 1, each once. -/
theorem image_place (n : Nat) (f : Nat → Nat) : (Finset.range n).image (place n f) = Finset.range n := by
  refine Finset.eq_of_subset_of_card_le (fun k mem => ?_) (Finset.card_image_of_injOn (place_injOn n f)).ge
  obtain ⟨i, iIn, rfl⟩ := Finset.mem_image.1 mem
  exact Finset.mem_range.2 (place_lt (Finset.mem_range.1 iIn))

/-- So exactly `k` of them have a place below `k`. -/
theorem sum_place_lt {k : Nat} (few : k ≤ n) : ∑ i ∈ Finset.range n, (if place n f i < k then 1 else 0) = k := by
  rw [← Finset.sum_image (f := fun r => if r < k then 1 else 0) (place_injOn n f), image_place, ← Finset.card_filter]
  have below : (Finset.range n).filter (· < k) = Finset.range k := by
    ext r; simp only [Finset.mem_filter, Finset.mem_range]; omega
  rw [below, Finset.card_range]

end

/-! Lists as their entries -/

theorem List.map_range_getD (l : List Nat) : (List.range l.length).map (fun i => l.getD i 0) = l := by
  refine List.ext_getElem (by simp) fun i _ iIn => ?_
  rw [List.getElem_map, List.getElem_range, List.getD_eq_getElem _ _ iIn]

theorem sum_map_eq_sum_range (l : List Nat) (g : Nat → Nat) : (l.map g).sum = ∑ i ∈ Finset.range l.length, g (l.getD i 0) := by
  conv_lhs => rw [← List.map_range_getD l, List.map_map]
  rfl

/-! Floors and remainders -/

section

/-- The floor of a share of a whole by weight, and its remainder. -/
def shareFloor (total w x : Nat) : Nat := total * x / w
def shareRest (total w x : Nat) : Nat := total * x % w

/-- What the floors leave. -/
def shareLeft (total : Nat) (ws : List Nat) : Nat := total - sumL (ws.map (shareFloor total (sumL ws)))

variable {total : Nat} {ws : List Nat}

theorem floors_add_rests (total : Nat) (ws : List Nat) : total * ws.sum =
    ws.sum * (ws.map (shareFloor total ws.sum)).sum + (ws.map (shareRest total ws.sum)).sum := by
  calc total * ws.sum
    _ = (ws.map fun x => total * x).sum := by rw [List.sum_map_mul_left ws (fun x => x) total, List.map_id']
    _ = (ws.map fun x => ws.sum * shareFloor total ws.sum x + shareRest total ws.sum x).sum :=
      congrArg _ (List.map_congr_left fun x _ => (Nat.div_add_mod _ _).symm)
    _ = _ := by rw [List.sum_map_add, List.sum_map_mul_left]

variable (weighs : 0 < sumL ws)
include weighs

theorem rests_lt : (ws.map (shareRest total ws.sum)).sum ≤ ws.length * ws.sum := by
  rw [sumL_eq_sum] at weighs
  refine (List.sum_le_card_nsmul _ ws.sum fun x mem => ?_).trans (by simp)
  obtain ⟨y, -, rfl⟩ := List.mem_map.1 mem
  exact (Nat.mod_lt _ weighs).le

theorem floors_le : sumL (ws.map (shareFloor total (sumL ws))) ≤ total := by
  simp only [sumL_eq_sum] at weighs ⊢
  refine Nat.le_of_mul_le_mul_left ?_ weighs
  rw [Nat.mul_comm _ total, floors_add_rests total ws]
  exact Nat.le_add_right _ _

theorem shareLeft_le : shareLeft total ws ≤ ws.length := by
  have rests := rests_lt (total := total) weighs
  rw [shareLeft]
  simp only [sumL_eq_sum] at weighs ⊢
  refine Nat.le_of_mul_le_mul_left ?_ weighs
  rw [Nat.mul_sub, Nat.mul_comm _ total, floors_add_rests total ws, Nat.add_sub_cancel_left, Nat.mul_comm _ ws.length]
  exact rests

end

/-! splitShares -/

section

/-- Weights that are all zero count as equal ones. -/
def evenWeights (ws : List Nat) : List Nat := if ws.all (· = 0) then ws.map (fun _ => 1) else ws

theorem length_evenWeights (ws : List Nat) : (evenWeights ws).length = ws.length := by
  unfold evenWeights
  split
  · exact List.length_map _
  · rfl

theorem evenWeights_pos {ws : List Nat} (some_ : ws ≠ []) : 0 < sumL (evenWeights ws) := by
  rw [sumL_eq_sum, evenWeights]
  split
  · rw [List.map_const', List.sum_replicate, smul_eq_mul, Nat.mul_one]
    exact List.length_pos_iff.2 some_
  · next all =>
    refine Nat.pos_of_ne_zero fun zero => all (List.all_eq_true.2 fun x mem => decide_eq_true ?_)
    exact List.sum_eq_zero_iff.1 zero x mem

/-- The share of account `i` among accounts of given weights. -/
def shareOf (total : Nat) (ws : List Nat) (i : Nat) : Nat :=
  shareFloor total (sumL ws) (ws.getD i 0) +
    if place ws.length (fun i => shareRest total (sumL ws) (ws.getD i 0)) i < shareLeft total ws then 1 else 0

theorem shareOf_eq_or (total : Nat) (ws : List Nat) (i : Nat) :
    shareOf total ws i = shareFloor total (sumL ws) (ws.getD i 0) ∨ shareOf total ws i = shareFloor total (sumL ws) (ws.getD i 0) + 1 := by
  unfold shareOf
  split
  · exact .inr rfl
  · exact .inl rfl

/-- An account before one that has one more than its floor has it too. -/
theorem shareOf_of_ahead {total : Nat} {ws : List Nat} {i j : Nat} (in_ : i < ws.length) (ahead : Ahead (fun i => shareRest total (sumL ws) (ws.getD i 0)) i j)
    (more : shareOf total ws j = shareFloor total (sumL ws) (ws.getD j 0) + 1) : shareOf total ws i = shareFloor total (sumL ws) (ws.getD i 0) + 1 := by
  have before : place ws.length (fun i => shareRest total (sumL ws) (ws.getD i 0)) j < shareLeft total ws := by
    by_contra behind
    rw [shareOf, if_neg behind] at more
    omega
  rw [shareOf, if_pos ((place_lt_place in_ ahead).trans before)]

theorem sum_shareOf {total : Nat} {ws : List Nat} (weighs : 0 < sumL ws) : ∑ i ∈ Finset.range ws.length, shareOf total ws i = total := by
  simp only [shareOf]
  rw [Finset.sum_add_distrib, sum_place_lt (shareLeft_le weighs), ← sum_map_eq_sum_range, shareLeft, ← sumL_eq_sum,
    Nat.add_sub_cancel' (floors_le weighs)]

/-- The model's rank, a count over a list, is the place. -/
theorem length_filter_eq_place (n : Nat) (f : Nat → Nat) (i : Nat) :
    ((List.range n).filter fun j => f i < f j || (f j = f i && j < i)).length = place n f i := by
  change _ = ((List.range n).filter fun j => decide (Ahead f j i)).length
  refine congrArg _ (List.filter_congr fun j _ => ?_)
  rw [Bool.decide_or, Bool.decide_and]

theorem getD_map_shareFloor (total w : Nat) (vs : List Nat) (i : Nat) : (vs.map (shareFloor total w)).getD i 0 = shareFloor total w (vs.getD i 0) := by
  have zero : shareFloor total w 0 = 0 := by rw [shareFloor, Nat.mul_zero, Nat.zero_div]
  exact (congrArg (List.getD _ i) zero.symm).trans (List.getD_map ..)

theorem getD_map_shareRest (total w : Nat) (vs : List Nat) (i : Nat) : (vs.map (shareRest total w)).getD i 0 = shareRest total w (vs.getD i 0) := by
  have zero : shareRest total w 0 = 0 := by rw [shareRest, Nat.mul_zero, Nat.zero_mod]
  exact (congrArg (List.getD _ i) zero.symm).trans (List.getD_map ..)

theorem splitShares_eq (total : Nat) {ws : List Nat} (some_ : ws ≠ []) :
    splitShares total ws = (List.range ws.length).map (shareOf total (evenWeights ws)) := by
  rw [← length_evenWeights ws]
  refine (if_neg (evenWeights_pos some_).ne').trans (List.map_congr_left fun i _ => ?_)
  simp only [shareOf, ← length_filter_eq_place, ← getD_map_shareFloor, ← getD_map_shareRest]
  rfl

/-! What the statement says of it -/

variable {total : Nat} {ws : List Nat} (some_ : ws ≠ [])
include some_

theorem length_splitShares : (splitShares total ws).length = ws.length := by
  rw [splitShares_eq total some_, List.length_map, List.length_range]

theorem sumL_splitShares : sumL (splitShares total ws) = total := by
  rw [splitShares_eq total some_, sumL_eq_sum, ← length_evenWeights ws]
  exact sum_shareOf (evenWeights_pos some_)

theorem getD_splitShares {i : Nat} (in_ : i < ws.length) : (splitShares total ws).getD i 0 = shareOf total (evenWeights ws) i := by
  rw [splitShares_eq total some_, List.getD_eq_getElem _ _ (by simpa using in_), List.getElem_map, List.getElem_range]

end

end Sys2Proof.Machine
end

section
/-!
PROOFS. The Ledger (16 R390 to R406, 20 R479): what each tick, read, interval, record, format and charge does, branch by branch, and the statement about them.
-/
namespace Sys2Proof.Machine

/-! LEDGER_TICK and the records that are due at it (R390, R391, R401) -/

section
variable {u : Units}

theorem Units.gapCheck_none (none_ : u.led.gap = none) : u.gapCheck = u := by rw [Units.gapCheck, none_]

theorem Units.gapCheck_due {start flags : Nat} (due : u.led.gap = some (start, flags)) :
    u.gapCheck = (u.upL fun l => { l with gap := none, ready := true }).form 6 (flags ||| 2 ^ 11) start 0 0 0 0 0 [] 0 0 := by
  rw [Units.gapCheck, due]

theorem Units.calCheck_none (none_ : u.led.calNext = none) : u.calCheck = u := by rw [Units.calCheck, none_]

theorem Units.calCheck_due {cal : CalSet} (due : u.led.calNext = some cal) :
    u.calCheck = ((u.upL fun l => { l.mapAccts (fun a => a.flag 10) with cal := cal, calNext := none }).form 8 0 0 0 0 0
      (u.led.cal.digest % 2 ^ 64) (u.led.cal.origin % 2) [] 0 0).later .calApplied := by
  rw [Units.calCheck, due]

end

/-! PMBUS_READ_DONE, PMBUS_READ_TIMEOUT and LEDGER_METER_LOST_EXPIRY (R392, R396) -/

section
variable {u : Units} {chan : Nat}

section
variable (none_ : NMap.find u.led.chans chan = none)
include none_

theorem pmbusReadDone_undefined (eout : Bool) (nj : Nat) : pmbusReadDone chan eout nj u = u := by rw [pmbusReadDone, none_]

theorem pmbusReadTimeout_undefined (eout : Bool) : pmbusReadTimeout chan eout u = u := by rw [pmbusReadTimeout, none_]

theorem ledgerMeterLostExpiry_undefined : ledgerMeterLostExpiry chan u = u := by rw [ledgerMeterLostExpiry, none_]

end

variable {x : EnergyChan} (found : NMap.find u.led.chans chan = some x)
include found

theorem pmbusReadDone_disagrees {nj : Nat} (more : x.sum100 < nj) :
    pmbusReadDone chan true nj u = (u.upChan chan fun c => { c with sum100 := 0 }).ledEvent Ev.LEDGER_METER_DISAGREE := by
  rw [pmbusReadDone, found]
  exact if_pos more

theorem pmbusReadDone_agrees {nj : Nat} (within : nj ≤ x.sum100) : pmbusReadDone chan true nj u = u.upChan chan fun c => { c with sum100 := 0 } := by
  rw [pmbusReadDone, found]
  exact if_neg (Nat.not_lt.2 within)

/-- What a channel owes with a read: what was left over and the calibrated energy of the read and of those missed. -/
def Units.chanTotal (u : Units) (chan : Nat) (x : EnergyChan) (nj : Nat) : Int :=
  let g := u.led.cal.gains.getD chan (0x3F800000, 0)
  x.rem + b32Units g.1 * (nj : Int) + 1000 * b32Units g.2 * ((x.missed + 1 : Nat) : Int)

theorem pmbusReadDone_energy (nj : Nat) : pmbusReadDone chan false nj u =
    let total := u.chanTotal chan x nj
    let e := (total / (energyUnit : Int)).toNat
    u.upChan chan fun c =>
      { c with rem := total - (e : Int) * (energyUnit : Int), last := e, missed := 0, now := some (e, false), sum100 := c.sum100 + nj,
               lastGood := u.clk.mono, lost := false } := by
  rw [pmbusReadDone, found]
  rfl

theorem pmbusReadTimeout_energyOut : pmbusReadTimeout chan true u = u := by
  rw [pmbusReadTimeout, found]
  exact if_pos rfl

theorem pmbusReadTimeout_retries (first : x.retried = false) :
    pmbusReadTimeout chan false u = (u.upChan chan fun c => { c with retried := true }).emit (.bus 1 [x.master, chan, 0]) := by
  rw [pmbusReadTimeout, found]
  exact if_pos (show (!x.retried) = true by rw [first]; rfl)

theorem pmbusReadTimeout_fails (second : x.retried = true) : pmbusReadTimeout chan false u =
    ((u.upChan chan fun c => { c with now := some (c.last, true), missed := c.missed + 1, rem := c.rem - (c.last : Int) * (energyUnit : Int) }).count
      0x800130).ledEvent Ev.LEDGER_READ_FAIL := by
  rw [pmbusReadTimeout, found]
  exact if_neg (show ¬(!x.retried) = true by simp [second])

theorem ledgerMeterLostExpiry_keeps (good : x.missed = 0 ∨ x.lost = true) : ledgerMeterLostExpiry chan u = u := by
  rw [ledgerMeterLostExpiry, found]
  exact if_pos (by simpa using good)

theorem ledgerMeterLostExpiry_loses (missed : x.missed ≠ 0) (found_ : x.lost = false) :
    ledgerMeterLostExpiry chan u = (u.upChan chan fun c => { c with lost := true }).ledEvent Ev.LEDGER_METER_LOST := by
  rw [ledgerMeterLostExpiry, found]
  exact if_neg (by simp [missed, found_])

end

/-! LEDGER_INTERVAL_BOUNDARY (R401) -/

section

/-- The settings of the next interval. -/
def Units.takeSettings (u : Units) : Units := u.upL fun l => { l with method := bits u.ledCfg 9 8, interval := bits u.ledCfg 7 0 }

end

/-! LEDGER_RECORD_SIGNED and LEDGER_RECORD_DURABLE (R402, R404) -/

section
variable {u : Units}

theorem ledgerRecordSigned_waits (wait : u.led.toSign = [] ∨ u.led.noSign = true) : ledgerRecordSigned u = u := by
  unfold ledgerRecordSigned
  split
  · rfl
  · next some_ => exact if_pos (wait.resolve_left fun none_ => List.cons_ne_nil _ _ (some_.symm.trans none_))

theorem ledgerRecordSigned_signs {r : LRec} {rest : List LRec} (first : u.led.toSign = r :: rest) (signs : u.led.noSign = false) :
    ledgerRecordSigned u =
      let g := Config.sign (u.lamp.ident.ledKey.getD 0) (r.bytes u.self ++ leBytes 48 u.led.prev) u.free
      let x : SRec := { r := r, prev := u.led.prev, sigR := g.1 % 2 ^ 384, sigS := g.2 % 2 ^ 384 }
      let u1 := (u.draw.upL fun l => { l with toSign := rest, written := l.written ++ [x], prev := Config.sha384 (x.bytes u.self) % 2 ^ 384 }).emit
        (.bus 6 [r.seq])
      let n := u1.tal.sizes.getD 1 0
      tallowWrite 1 1 (if n = 0 then 0 else recChunk r.seq % n) 256 u1 := by
  rw [ledgerRecordSigned, first]
  exact if_neg (Bool.eq_false_iff.1 signs)

theorem ledgerRecordDurable_none (none_ : u.led.written = []) : ledgerRecordDurable u = u := by rw [ledgerRecordDurable, none_]

variable {x : SRec} {rest : List SRec}

/-- The units with the oldest written record deliverable. -/
def Units.recordStored (u : Units) (x : SRec) (rest : List SRec) : Units :=
  (u.upL fun l => { l with written := rest, stored := l.stored ++ [x], durable := x.r.seq }).count 0x800100

variable (written : u.led.written = x :: rest)
include written

theorem ledgerRecordDurable_other (other : x.r.kind ≠ 1 ∨ u.stream (x.r.subjB % 2 ^ 17) = none) :
    ledgerRecordDurable u = (u.recordStored x rest).ledgerPump := by
  rw [ledgerRecordDurable, written]
  refine congrArg Units.ledgerPump ?_
  by_cases kind : x.r.kind = 1
  · have none_ : (u.recordStored x rest).stream (x.r.subjB % 2 ^ 17) = none := other.resolve_left (not_not.2 kind)
    refine (if_pos kind).trans ?_
    change (match (u.recordStored x rest).stream (x.r.subjB % 2 ^ 17) with | some s => _ | none => _) = _
    rw [none_]
    rfl
  · exact if_neg kind

theorem ledgerRecordDurable_stream (kind : x.r.kind = 1) {t : Stream} (found : u.stream (x.r.subjB % 2 ^ 17) = some t) : ledgerRecordDurable u =
    (if t.recorded then (t.cmds.foldl (fun u c => u.done c.2 0x080 c.1 St.OK) (u.recordStored x rest)).freeStream (x.r.subjB % 2 ^ 17)
      else u.recordStored x rest).ledgerPump := by
  rw [ledgerRecordDurable, written]
  refine congrArg Units.ledgerPump ((if_pos kind).trans ?_)
  have found' : (u.recordStored x rest).stream (x.r.subjB % 2 ^ 17) = some t := found
  change (match (u.recordStored x rest).stream (x.r.subjB % 2 ^ 17) with | some s => _ | none => _) = _
  rw [found']
  rfl

end

/-! TALLOW_FORMAT (20 R479) -/

section
variable {u : Units} {c : Sys2Proof.Cmd}

theorem tallowFormat_refused (no : isOperator (stampPriv c.stamp) = false) : tallowFormat c u = u.done c 0x0B0 0x0C01 St.NOT_PRIVILEGED := by
  unfold tallowFormat Units.formatStart
  exact Units.talCmd_refused no

/-- Nothing keeps a format away: no job is bound, and every record has been acknowledged. -/
def Units.formatFree (u : Units) : Prop := u.wick.jobs = [] ∧ u.led.stored = [] ∧ u.led.written = [] ∧ u.led.toSign = []

theorem Units.formatFree_iff (u : Units) :
    (!u.wick.jobs.isEmpty || (!u.led.stored.isEmpty || !u.led.written.isEmpty || !u.led.toSign.isEmpty)) = false ↔ u.formatFree := by
  simp only [Units.formatFree, Bool.or_eq_false_iff, Bool.not_eq_false', List.isEmpty_iff, and_assoc]

variable (op : isOperator (stampPriv c.stamp) = true)
include op

theorem tallowFormat_unmounted (unmounted : u.tal.mounted = false) (notBlank : u.tal.blank = false) :
    tallowFormat c u = u.done c 0x0B0 0x0C01 St.TALLOW_NOT_MOUNTED := by
  unfold tallowFormat Units.formatStart
  exact (operator_ok op _ _ _).trans (if_pos (by simp [unmounted, notBlank]))

/-- A format needs no mount where nothing has been written yet. -/
theorem talCmd_format_there (there : u.tal.mounted = true ∨ u.tal.blank = true) (f : Units → Units) : u.talCmd c 0x0C01 f =
    if !u.tal.enable || u.tal.format.isSome then u.done c 0x0B0 0x0C01 St.BAD_STATE else f u :=
  (operator_ok op _ _ _).trans (if_neg (by rcases there with there | there <;> simp [there]))

variable (there : u.tal.mounted = true ∨ u.tal.blank = true)
include there

theorem tallowFormat_stays (stays : u.tal.enable = false ∨ u.tal.format ≠ none ∨ ¬u.formatFree) : tallowFormat c u = u.done c 0x0B0 0x0C01 St.BAD_STATE := by
  unfold tallowFormat Units.formatStart
  refine (talCmd_format_there op there _).trans ?_
  by_cases stopped : (!u.tal.enable || u.tal.format.isSome) = true
  · exact if_pos stopped
  · have busy : ¬u.formatFree := by
      simp only [Bool.or_eq_true, Bool.not_eq_true', Option.isSome_iff_ne_none, not_or] at stopped
      exact (stays.resolve_left stopped.1).resolve_left stopped.2
    exact (if_neg stopped).trans (if_pos (Bool.eq_true_of_not_eq_false (mt (Units.formatFree_iff u).1 busy)))

end

section
variable {u : Units} {c : Sys2Proof.Cmd}

/-- A format that nothing keeps away starts. -/
theorem talCmd_format_runs (op : isOperator (stampPriv c.stamp) = true) (there : u.tal.mounted = true ∨ u.tal.blank = true) (on : u.tal.enable = true)
    (idle : u.tal.format = none) (free : u.formatFree) (f : Units → Units) :
    (u.talCmd c 0x0C01 fun v =>
      if !v.wick.jobs.isEmpty || (!u.led.stored.isEmpty || !u.led.written.isEmpty || !u.led.toSign.isEmpty) then v.done c 0x0B0 0x0C01 St.BAD_STATE
      else f v) = f u :=
  (talCmd_format_there op there _).trans ((if_neg (by simp [on, idle])).trans (if_neg (Bool.eq_false_iff.1 ((Units.formatFree_iff u).2 free))))

end

/-! Charges (R406) -/

section
variable {u : Units} {ref e : Nat}

section
variable (overflow : bitAt ref 31 = true)
include overflow

theorem Units.applyCharge_noAccount (none_ : NMap.find u.led.excess (ref % 256) = none) :
    u.applyCharge ref e = u.upL fun l => (l.traySum 4 e).traySum 2 e := by
  refine (if_pos overflow).trans ?_
  rw [none_]

theorem Units.applyCharge_account (found : (NMap.find u.led.excess (ref % 256)).isSome = true) : u.applyCharge ref e =
    (u.upL fun l => (l.traySum 4 e).traySum 1 e).upL fun l =>
      { l with excess := NMap.upd l.excess (ref % 256) fun o => { o with acct := ({ o.acct with e4 := o.acct.e4 + e } : Acct).flag 3 } } := by
  obtain ⟨x, some_⟩ := Option.isSome_iff_exists.1 found
  refine (if_pos overflow).trans ?_
  rw [some_]

end

section
variable (stream : bitAt ref 31 = false)
include stream

/-- The units with a charge that comes after its stream's record: it counts in the job. -/
def Units.chargeLate (u : Units) (e job : Nat) : Units :=
  (u.upL fun l => (l.traySum 4 e).traySum 1 e).upJobSum job fun j => { j with acct := ({ j.acct with e4 := j.acct.e4 + e } : Acct).flag 3 }

theorem Units.applyCharge_stream {t : Stream} (found : u.stream (ref % 2 ^ 17) = some t) : u.applyCharge ref e =
    if t.recorded then u.chargeLate e t.job
    else ((u.upL fun l => (l.traySum 4 e).traySum 1 e).upStream (ref % 2 ^ 17) fun s =>
      { s with acct := { s.acct with e4 := s.acct.e4 + e }, flags := s.flags ||| 8 }).upJobSum t.job fun j =>
        { j with acct := { j.acct with e4 := j.acct.e4 + e } } := by
  refine (if_neg (Bool.eq_false_iff.1 stream)).trans ?_
  dsimp only
  rw [found]
  rfl

variable (gone : u.stream (ref % 2 ^ 17) = none)
include gone

theorem Units.applyCharge_freed {job : Nat} (freed : NMap.find u.led.freedJob (ref % 2 ^ 17) = some job) : u.applyCharge ref e = u.chargeLate e job := by
  refine (if_neg (Bool.eq_false_iff.1 stream)).trans ?_
  dsimp only
  rw [gone, freed]
  rfl

theorem Units.applyCharge_unknown (unknown : NMap.find u.led.freedJob (ref % 2 ^ 17) = none) :
    u.applyCharge ref e = u.upL fun l => (l.traySum 4 e).traySum 2 e := by
  refine (if_neg (Bool.eq_false_iff.1 stream)).trans ?_
  dsimp only
  rw [gone, unknown]

end

end


section
variable {s : State} {l : Sys2Proof.LHdr} {seq : Nat} (heard : s.hearsL l)
include heard

theorem ledgerCharge_again (first : Nat) (charges : List (Nat × Nat)) (applied : (NMap.getD s.u.led.applied l.src []).contains seq = true) :
    ledgerCharge l seq first charges s.u = s.u.answerL l.src 0x61 l.seq 16 2 [seq, St.OK] :=
  (recvL_hears heard _ _ _).trans (congrArg (fun u => Units.answerL u l.src 0x61 l.seq 16 2 [seq, St.OK]) (if_pos applied))

theorem ledgerCharge_new {first : Nat} {charges : List (Nat × Nat)} (new : (NMap.getD s.u.led.applied l.src []).contains seq = false) :
    ledgerCharge l seq first charges s.u =
      let u1 := (charges.foldl (fun u c => u.applyCharge c.1 c.2) s.u).count 0x800148
      let mine := fun (i : Nat) (t : Stream) => charges.any (fun c => c.1 % 2 ^ 17 = i && !(bitAt c.1 31)) ||
        (bitAt t.flags 3 && u1.ember.routes.any fun r => r.cid = t.cid && r.ctx = t.ctx && u1.buddyOf r = l.src)
      ((u1.upL fun x =>
        { x with applied := NMap.set x.applied l.src (NMap.getD s.u.led.applied l.src [] ++ [seq])
                 streams := x.streams.map fun e => (e.1, if mine e.1 e.2 = true then { e.2 with chargedTo := max e.2.chargedTo (first + 99) } else e.2) }
        ).closeStreams).answerL l.src 0x61 l.seq 16 2 [seq, St.OK] :=
  (recvL_hears heard _ _ _).trans (congrArg (fun u => Units.answerL u l.src 0x61 l.seq 16 2 [seq, St.OK]) (if_neg (Bool.eq_false_iff.1 new)))

theorem ledgerChargeAck_heard (status : Nat) : ledgerChargeAck l seq status s.u =
    s.u.upL fun x => { x with chargeOut := x.chargeOut.filter fun y => !(y.dst = l.src && y.seq = seq) } := recvL_hears heard _ _ _

end

section
variable {u : Units} {dst seq : Nat}

theorem ledgerChargeResend_none (none_ : (u.led.chargeOut.find? fun x => x.dst = dst && x.seq = seq) = none) : ledgerChargeResend dst seq u = u := by
  rw [ledgerChargeResend, none_]

variable {x : ChargeOut} (found : (u.led.chargeOut.find? fun x => x.dst = dst && x.seq = seq) = some x)
include found

theorem ledgerChargeResend_again (few : x.resends < 3) : ledgerChargeResend dst seq u =
    (u.upL fun l => { l with chargeOut := l.chargeOut.map fun (y : ChargeOut) => if y.dst = dst && y.seq = seq then { y with resends := y.resends + 1 } else y }).reqL
      dst 0x60 (16 + 16 * x.charges.length) 2 x.words := by
  rw [ledgerChargeResend, found]
  exact if_pos few

theorem ledgerChargeResend_gives (often : 3 ≤ x.resends) : ledgerChargeResend dst seq u =
    u.upL fun l => { l with chargeOut := l.chargeOut.filter fun y => !(y.dst = dst && y.seq = seq) } := by
  rw [ledgerChargeResend, found]
  exact if_neg (Nat.not_lt.2 often)

end

/-! The statement -/

/-- R396's division: length, sum, floor or one more, and the larger remainders first. -/
theorem splitShares_divides (total : Nat) (weights : List Nat) (some_ : weights ≠ []) :
    let ws := if weights.all (· = 0) then weights.map (fun _ => 1) else weights
    let r := splitShares total weights
    r.length = weights.length ∧ sumL r = total ∧
    (∀ i < weights.length, r.getD i 0 = total * ws.getD i 0 / sumL ws ∨ r.getD i 0 = total * ws.getD i 0 / sumL ws + 1) ∧
    (∀ i < weights.length, ∀ j < weights.length,
      total * ws.getD j 0 % sumL ws < total * ws.getD i 0 % sumL ws ∨ (total * ws.getD i 0 % sumL ws = total * ws.getD j 0 % sumL ws ∧ i < j) →
      r.getD j 0 = total * ws.getD j 0 / sumL ws + 1 → r.getD i 0 = total * ws.getD i 0 / sumL ws + 1) := by
  refine ⟨length_splitShares some_, sumL_splitShares some_, fun i iIn => ?_, fun i iIn j jIn ahead more => ?_⟩
  · rw [getD_splitShares some_ iIn]
    exact shareOf_eq_or total (evenWeights weights) i
  · rw [getD_splitShares some_ jIn] at more
    rw [getD_splitShares some_ iIn]
    exact shareOf_of_ahead (iIn.trans_eq (length_evenWeights weights).symm) ahead more

/-- Settles O50. Each command, read and timer is its lemma above; the division is that by the largest remainders. -/
theorem ledgerReadsApportionsAndCharges : Obligations.LedgerReadsApportionsAndCharges := by
  unfold Obligations.LedgerReadsApportionsAndCharges
  refine ⟨fun s l c chan => ⟨?tick, ?checks, ?undefined, ?channel, ?apportioned, ?apportion, ?interval, ?unsigned, ?signed, ?unwritten, ?written, ?format, ?send,
    ?charge, ?apply, ?unsent, ?resend⟩, splitShares_divides⟩
  case tick =>
    refine State.runU_of_eq ?_
    simp only [ledgerTick, Bool.and_eq_true, decide_eq_true_eq]
  case checks =>
    exact fun _ => ⟨Units.gapCheck_none, fun _ _ => Units.gapCheck_due, fun same => if_pos same, fun other => if_neg other, Units.calCheck_none,
      fun _ => Units.calCheck_due⟩
  case undefined =>
    exact fun none_ _ _ => ⟨State.runU_of_eq (pmbusReadDone_undefined none_ _ _), State.runU_of_eq (pmbusReadTimeout_undefined none_ _),
      State.runU_of_eq (ledgerMeterLostExpiry_undefined none_)⟩
  case channel =>
    exact fun _ found =>
      ⟨fun _ more => State.runU_of_eq (pmbusReadDone_disagrees found more), fun _ within => State.runU_of_eq (pmbusReadDone_agrees found within),
       fun nj => State.runU_of_eq (pmbusReadDone_energy found nj), State.runU_of_eq (pmbusReadTimeout_energyOut found),
       fun first => State.runU_of_eq (pmbusReadTimeout_retries found first), fun second => State.runU_of_eq (pmbusReadTimeout_fails found second),
       fun good => State.runU_of_eq (ledgerMeterLostExpiry_keeps found good),
       fun missed had => State.runU_of_eq (ledgerMeterLostExpiry_loses found missed had)⟩
  case apportioned => exact fun _ same => State.runU_of_eq (if_pos same)
  case apportion => exact fun _ other => State.runU_of_eq (if_neg other)
  case interval =>
    exact ⟨fun full => State.run_of_eq (congrArg (fun u => (_, Units.takeSettings u)) (if_pos full)),
      fun room => State.run_of_eq (congrArg (fun u => (_, Units.takeSettings u)) (if_neg (Bool.eq_false_iff.1 room)))⟩
  case unsigned => exact fun wait => State.runU_of_eq (ledgerRecordSigned_waits wait)
  case signed => exact fun _ _ first signs => State.runU_of_eq (ledgerRecordSigned_signs first signs)
  case unwritten => exact fun none_ => State.runU_of_eq (ledgerRecordDurable_none none_)
  case written =>
    exact fun _ _ written => ⟨fun other => State.runU_of_eq (ledgerRecordDurable_other written other), fun _ kind found =>
      ⟨fun open_ => State.runU_of_eq ((ledgerRecordDurable_stream written kind found).trans (congrArg Units.ledgerPump (if_neg (Bool.eq_false_iff.1 open_)))),
       fun done_ => State.runU_of_eq ((ledgerRecordDurable_stream written kind found).trans (congrArg Units.ledgerPump (if_pos done_)))⟩⟩
  case format =>
    refine ⟨fun no => State.runU_of_eq (tallowFormat_refused no), fun op =>
      ⟨fun unmounted notBlank => State.runU_of_eq (tallowFormat_unmounted op unmounted notBlank), fun there => ⟨?_, ?_⟩⟩⟩
    · exact fun stays => State.runU_of_eq (tallowFormat_stays op there stays)
    · exact fun on idle free => State.runU_of_eq (by
        unfold tallowFormat Units.formatStart
        exact talCmd_format_runs op there on idle free _)
  case send => exact rfl
  case charge =>
    exact fun _ heard => ⟨fun _ _ applied => State.runU_of_eq (ledgerCharge_again heard _ _ applied),
      fun _ _ new => State.runU_of_eq (ledgerCharge_new heard new), fun _ => State.runU_of_eq (ledgerChargeAck_heard heard _)⟩
  case apply =>
    exact fun _ _ _ =>
      ⟨fun overflow => ⟨Units.applyCharge_noAccount overflow, Units.applyCharge_account overflow⟩, fun stream =>
        ⟨fun _ found => ⟨fun recorded => (Units.applyCharge_stream stream found).trans (if_pos recorded),
          fun open_ => (Units.applyCharge_stream stream found).trans (if_neg (Bool.eq_false_iff.1 open_))⟩,
         fun gone => ⟨fun _ => Units.applyCharge_freed stream gone, Units.applyCharge_unknown stream gone⟩⟩⟩
  case unsent => exact fun _ _ none_ => State.runU_of_eq (ledgerChargeResend_none none_)
  case resend =>
    exact fun _ _ _ found => ⟨fun few => State.runU_of_eq (ledgerChargeResend_again found few), fun often => State.runU_of_eq (ledgerChargeResend_gives found often)⟩

end Sys2Proof.Machine
end
